-- ==== Sys2Proof/Word.lean ====
section
/-!
DEFINITION. The word types of the LN-880 model: the 32-bit register word and the byte (R4, R5, R19).
-/

namespace Sys2Proof

/-- A 32-bit register or program word (R19). -/
abbrev Word := BitVec 32

/-- One byte of a frame, of working SRAM or of a NAND page (R5). -/
abbrev Byte := BitVec 8

end Sys2Proof
end

