-- ==== Sys2Proof/Syntax.lean ====
section
/-!
DEFINITION. The commands and events that change the part: one constructor of `Instr` per row of the opcode table, and the plain data
that they bring. Every command first says how much time has passed since the one before.
-/

namespace Sys2Proof.Machine

/-- The bus masters (R20). JTAG accesses count as the link engine's (R566). -/
inductive Master where
  | link
  | dma (ch : Fin 16)
deriving DecidableEq, Repr

/-- The two converters. -/
inductive Conv where
  | adcA
  | adcB
deriving DecidableEq, Repr

/-- The readings of a converter self-test. -/
structure AdcTest where
  low : List (BitVec 16)
  mid : List (BitVec 16)
  high : List (BitVec 16)
  /-- Channels 35, 36, 37 and 39. -/
  vdd5 : BitVec 16
  vio : BitVec 16
  vaon : BitVec 16
  refer : BitVec 16
deriving DecidableEq, Repr

/-- The bias channel's readings of the legs P and N of a tooth input at the end of one of its three steps, in microvolts. A Hall input has
leg P alone. -/
structure LegReading where
  p : Nat
  n : Nat
deriving DecidableEq, Repr

/-- The rails V_rail is taken from, in microvolts (R215). -/
structure RailReading where
  vio : Nat
  vdd5 : Nat
deriving DecidableEq, Repr

/-- What an ID attempt brought back over I2C. -/
structure IdReading where
  nack : Bool
  /-- The bytes read: ID 0 to 7 and the CRC byte. -/
  bytes : List Byte
  /-- With CRCEN 0: the second reading of the eight bytes. -/
  again : List Byte
deriving DecidableEq, Repr

end Sys2Proof.Machine

namespace Sys2Proof

open Sys2Proof.Machine

/-- Time that has passed since the command before: CLK_ANG cycles and CLK_LF edges. -/
structure Span where
  ang : Nat
  lf : Nat
  /-- Rising and falling edges on each of TCLK0 to TCLK3. -/
  tclk : List (Nat × Nat) := []
deriving DecidableEq, Repr

/-- A comparator-fed input as SYS_INSTAT0 and SYS_INSTAT1 code it (R86 to R89). -/
inductive InLevel where
  | unknown
  | low
  | high
  | stuckMid
deriving DecidableEq, Repr

/-- A frame on the bus as the link engine sees it (R122, R125). -/
structure BusFrame where
  /-- Its identifier, of 29 bits if `ext`, else of 11. -/
  ident : Nat
  ext : Bool
  /-- It is an FD frame. -/
  fd : Bool
  /-- It is a remote frame. -/
  remote : Bool
  bytes : List (BitVec 8)
deriving DecidableEq, Repr

/-- The register blocks that run on CLK_LF (R43). -/
inductive LfBlock where
  | aon
  | lck
  | pwr
deriving DecidableEq, Repr

/-- What the NAND shows after its RESET: its ID bytes, the copies of its parameter page, whether ECC_EN stays 1, whether the block
protection does not read 0, and whether it stayed busy through three retries (R83, R415 to R419). -/
structure NandProbe where
  id : BitVec 16
  copies : List (List (BitVec 8))
  eccEn : Bool
  protect : Bool
  timeout : Bool := false
deriving DecidableEq, Repr

/-- The commands and events, in the families of the opcode table. `dt` is the time since the command before; `m` is the bus master that
writes or reads, `n`, `w`, `k`, `c` and `slot` number the unit; a Jornus command has the frame's SEQ and its bytes from byte 4 on. -/
inductive Instr where
  /-- POR (R78). -/
  | por (dt : Span)
  /-- PIN_RESET (R79). -/
  | pinReset (dt : Span)
  /-- BOR (R73). -/
  | bor (dt : Span)
  /-- CLOCK_FAILURE (R72). -/
  | clockFailure (dt : Span)
  /-- PLL_LOCK_TIMEOUT (R72). -/
  | pllLockTimeout (dt : Span)
  /-- VIO_LOW (R73). -/
  | vioLow (dt : Span)
  /-- VIO_RECOVERED (R73). -/
  | vioRecovered (dt : Span)
  /-- LF_CRYSTAL_START (R40). -/
  | lfCrystalStart (dt : Span)
  /-- LFXFAIL (R40). -/
  | lfxfail (dt : Span)
  /-- LFSWITCH (R41). -/
  | lfswitch (dt : Span)
  /-- LFCAL_WINDOW_END (R42). `count` is the number of CLK_ANG cycles in the window. -/
  | lfcalWindowEnd (dt : Span) (count : Nat)
  /-- DOMAIN_READY (R46). -/
  | domainReady (dt : Span) (n : Fin 14)
  /-- STANDBY_REQUEST (R51). `key` is the value in PWR_REQ.KEY. -/
  | standbyRequest (dt : Span) (key : BitVec 16)
  /-- SHIP_REQUEST (R61). `key` is the value in PWR_REQ.KEY. -/
  | shipRequest (dt : Span) (key : BitVec 16)
  /-- AUTOSBY_IDLE (R50). -/
  | autosbyIdle (dt : Span)
  /-- STANDBY_ENTRY_STEP_DONE (R52). -/
  | standbyEntryStepDone (dt : Span)
  /-- ENTRY_DMA_DRAIN_TIMEOUT (R52). -/
  | entryDmaDrainTimeout (dt : Span)
  /-- NTC_POWER_ACK_TIMEOUT (R52). -/
  | ntcPowerAckTimeout (dt : Span)
  /-- STANDBY_ENTRY_TIMEOUT (R53). -/
  | standbyEntryTimeout (dt : Span)
  /-- WAKE_SOURCE_LATCH (R55). `wakein` says that the WAKEIN pin has risen. -/
  | wakeSourceLatch (dt : Span) (wakein : Bool)
  /-- RUN_REACHED (R56). -/
  | runReached (dt : Span)
  /-- SHIP_FAILURE (R63). -/
  | shipFailure (dt : Span)
  /-- VAON_LOSS (R73). -/
  | vaonLoss (dt : Span)
  /-- VDD5_VALID (R76). `late` says that more than 800 µs have passed since MAINEN rose at a wake. -/
  | vdd5Valid (dt : Span) (late : Bool)
  /-- RSTN_RELEASE (R79). -/
  | rstnRelease (dt : Span)
  /-- HOST_RESET (R132). -/
  | hostReset (dt : Span)
  /-- NAND_POWERUP_WAIT_END (R82). `probe` is what the NAND shows after its RESET. -/
  | nandPowerupWaitEnd (dt : Span) (probe : NandProbe)
  /-- NAND_OP_COMPLETE (R417). `fail` is P_FAIL or E_FAIL -/
  | nandOpComplete (dt : Span) (fail : Bool) (errors : List Nat)
  /-- NAND_TIMEOUT (R83). -/
  | nandTimeout (dt : Span)
  /-- LOAD_COMMIT (R110). -/
  | loadCommit (dt : Span)
  /-- MODEL_LOAD_DONE (R106). -/
  | modelLoadDone (dt : Span)
  /-- IMAGE_REPAIR_END (R111). -/
  | imageRepairEnd (dt : Span)
  /-- PING (R129). -/
  | ping (dt : Span) (seq : BitVec 16) (args : List Byte)
  /-- RESET (R132). -/
  | reset (dt : Span) (seq : BitVec 16) (args : List Byte)
  /-- READ (R130). -/
  | read (dt : Span) (seq : BitVec 16) (args : List Byte)
  /-- WRITE (R130). -/
  | write (dt : Span) (seq : BitVec 16) (args : List Byte)
  /-- MODIFY (R131). -/
  | modify (dt : Span) (seq : BitVec 16) (args : List Byte)
  /-- TXN_OPEN (R158). -/
  | txnOpen (dt : Span) (seq : BitVec 16) (args : List Byte)
  /-- TXN_COMMIT (R164). -/
  | txnCommit (dt : Span) (seq : BitVec 16) (args : List Byte)
  /-- TXN_ABORT (R158). -/
  | txnAbort (dt : Span) (seq : BitVec 16) (args : List Byte)
  /-- TXN_STATUS (R129). -/
  | txnStatus (dt : Span) (seq : BitVec 16) (args : List Byte)
  /-- IMG_BEGIN (R437). -/
  | imgBegin (dt : Span) (seq : BitVec 16) (args : List Byte)
  /-- IMG_DATA (R437). -/
  | imgData (dt : Span) (seq : BitVec 16) (args : List Byte)
  /-- IMG_END (R437). -/
  | imgEnd (dt : Span) (seq : BitVec 16) (args : List Byte)
  /-- IMG_ABORT (R437). -/
  | imgAbort (dt : Span) (seq : BitVec 16) (args : List Byte)
  /-- REC_READ (R474). -/
  | recRead (dt : Span) (seq : BitVec 16) (args : List Byte)
  /-- LOG_READ (R436). -/
  | logRead (dt : Span) (seq : BitVec 16) (args : List Byte)
  /-- SELFTEST (R177). -/
  | selftest (dt : Span) (seq : BitVec 16) (args : List Byte)
  /-- LCS_CHALLENGE (R557). -/
  | lcsChallenge (dt : Span) (seq : BitVec 16) (args : List Byte)
  /-- LCS_RESPOND (R558). -/
  | lcsRespond (dt : Span) (seq : BitVec 16) (args : List Byte)
  /-- BAD_OPCODE (R129). `seq` and `op` are the frame's SEQ and OP, `args` its bytes from byte 4 on. -/
  | badOpcode (dt : Span) (seq : BitVec 16) (op : Byte) (args : List Byte)
  /-- ACK (R140). `number` is the notice number the frame names. -/
  | ack (dt : Span) (number : BitVec 16)
  /-- IGNORED_FRAME (R125). -/
  | ignoredFrame (dt : Span) (frame : BusFrame)
  /-- NOTICE_TRANSMIT (R139). -/
  | noticeTransmit (dt : Span)
  /-- GO_BACK (R141). -/
  | goBack (dt : Span)
  /-- LINK_STALE (R142). -/
  | linkStale (dt : Span)
  /-- BUS_OFF (R153). -/
  | busOff (dt : Span)
  /-- BUS_OFF_RECOVERY (R153). -/
  | busOffRecovery (dt : Span)
  /-- LINK_SETTINGS_APPLY (R151). -/
  | linkSettingsApply (dt : Span)
  /-- ERROR_PASSIVE (R154). `tec` and `rec` are the counters' new values. -/
  | errorPassive (dt : Span) (tec : BitVec 9) (rec : BitVec 8)
  /-- BUS_INTEGRATION_DONE (R84). -/
  | busIntegrationDone (dt : Span)
  /-- REGISTER_WRITE (R7). -/
  | registerWrite (dt : Span) (m : Master) (addr : BitVec 24) (value : Word)
  /-- LF_WRITE_DONE (R43). -/
  | lfWriteDone (dt : Span) (block : LfBlock)
  /-- CFG_STAGE_CLOSE (R171). -/
  | cfgStageClose (dt : Span) (m : Master)
  /-- CFG_HOLDSET (R172). -/
  | cfgHoldset (dt : Span) (m : Master) (mask : Word)
  /-- COMMIT_POINT (R166). -/
  | commitPoint (dt : Span)
  /-- COMMIT_DMA_WAIT_END (R170). -/
  | commitDmaWaitEnd (dt : Span)
  /-- ARM_TIMEOUT (R168). -/
  | armTimeout (dt : Span)
  /-- STAGE_TIMEOUT (R176). -/
  | stageTimeout (dt : Span)
  /-- ANGLE_SELFTEST_START (R177). -/
  | angleSelftestStart (dt : Span)
  /-- ANGLE_SELFTEST_END (R178). `pass` and `detail` are the unit's own findings. -/
  | angleSelftestEnd (dt : Span) (pass : Bool) (detail : Word)
  /-- SELFTEST_DEFERRED_TIMEOUT (R179). -/
  | selftestDeferredTimeout (dt : Span)
  /-- ADC_SELFTEST_DONE (R334). -/
  | adcSelftestDone (dt : Span) (x : Conv) (readings : AdcTest)
  /-- INPUT_STUCK_TIMEOUT (R89). Inputs 0 to 7 are the tooth inputs A and B of wheels 0 to 3, inputs 8 to 13 the rind inputs RIN0 to
  RIN5. -/
  | inputStuckTimeout (dt : Span) (input : Fin 14)
  /-- TOOTH_EDGE (R196). `level` is the input's new filtered level, `peak` the positive peak in millivolts before a VR crossing. -/
  | toothEdge (dt : Span) (w : Fin 4) (onB : Bool) (level : InLevel) (peak : Nat)
  /-- STANDSTILL (R205). -/
  | standstill (dt : Span) (w : Fin 4)
  /-- COAST_ENTRY (R196). -/
  | coastEntry (dt : Span) (w : Fin 4)
  /-- WHEEL_DEAD (R217). -/
  | wheelDead (dt : Span) (w : Fin 4)
  /-- BIAS_CHECK (R214). -/
  | biasCheck (dt : Span)
  /-- BIAS_CHECK_DONE (R215): the readings at the ends of the steps of +10 uA, -10 uA and nothing, and the rails. -/
  | biasCheckDone (dt : Span) (plus : LegReading) (minus : LegReading) (idle : LegReading) (rail : RailReading)
  /-- SNAPSHOT (R232). -/
  | snapshot (dt : Span) (m : Master)
  /-- EVENT_INSERT (R251). `ctl` is the word written to EVQ_INS3. -/
  | eventInsert (dt : Span) (m : Master) (ctl : Word)
  /-- EVENT_DUE (R255). -/
  | eventDue (dt : Span) (n : Fin 32)
  /-- PULSE_END (R259). -/
  | pulseEnd (dt : Span) (n : Fin 32)
  /-- PROBE_SAMPLE (R260). -/
  | probeSample (dt : Span) (n : Fin 32)
  /-- QUEUE_FLUSH (R276). -/
  | queueFlush (dt : Span) (m : Master) (mask : Word)
  /-- CHOP_TIMED_END (R265). -/
  | chopTimedEnd (dt : Span) (n : Fin 32)
  /-- DEAD_TIME_END (R263). -/
  | deadTimeEnd (dt : Span) (k : Fin 16)
  /-- TIMER_RELEASE (R293). `mask` is what a write of TMR_GSTART names. -/
  | timerRelease (dt : Span) (mask : BitVec 16)
  /-- TIMER_WRAP (R291). -/
  | timerWrap (dt : Span) (n : Fin 16)
  /-- TIMER_MATCH (R296). -/
  | timerMatch (dt : Span) (n : Fin 16) (chanB : Bool)
  /-- TIMER_RESET_LOAD (R300). -/
  | timerResetLoad (dt : Span) (n : Fin 16)
  /-- TIMER_CAPTURE (R303). `pin` is the direction of an edge of the selected TCLK pin, none for a pulse that is due. -/
  | timerCapture (dt : Span) (n : Fin 16) (pin : Option Bool)
  /-- TMR_SWCAP (R302). -/
  | tmrSwcap (dt : Span) (m : Master) (mask : BitVec 16)
  /-- COMPARE_WRITE (R297). -/
  | compareWrite (dt : Span) (m : Master) (n : Fin 16) (chanB : Bool) (value : Word)
  /-- COMPARE_HIGH_WRITE (R305). -/
  | compareHighWrite (dt : Span) (m : Master) (n : Fin 16) (chanB : Bool) (value : Word)
  /-- TIMER_LATCHED_READ (R304). -/
  | timerLatchedRead (dt : Span) (m : Master) (n : Fin 16) (cap : Bool)
  /-- SEQUENCE_TRIGGER (R359). -/
  | sequenceTrigger (dt : Span) (x : Conv) (inj : Bool)
  /-- SOFTWARE_TRIGGER (R356). -/
  | softwareTrigger (dt : Span) (m : Master) (mask : BitVec 4)
  /-- SEQUENCE_STOP (R361). -/
  | sequenceStop (dt : Span) (m : Master) (mask : BitVec 4)
  /-- CONVERSION_START (R358). -/
  | conversionStart (dt : Span) (x : Conv) (inj : Bool)
  /-- CONVERSION_DONE (R362). `raw` is the slice's code and `excess` its overrange bit -/
  | conversionDone (dt : Span) (x : Conv) (slice : Fin 9) (raw : BitVec 16) (excess : Bool) (rawP : BitVec 16) (excessP : Bool)
  /-- SLICE_TIMEOUT (R341). -/
  | sliceTimeout (dt : Span) (x : Conv) (slice : Fin 9) (rawP : BitVec 16) (excessP : Bool)
  /-- CALIBRATION_PASS_DONE (R332). The raw codes of the three ladder points, 64 each -/
  | calibrationPassDone (dt : Span) (x : Conv) (low : List (BitVec 16)) (mid : List (BitVec 16)) (high : List (BitVec 16))
  /-- ROTATION_BOUNDARY (R333). -/
  | rotationBoundary (dt : Span) (x : Conv)
  /-- SPARE_HANDOVER (R333). -/
  | spareHandover (dt : Span) (x : Conv)
  /-- COMPARATOR_ENTER (R338). `samples` are the last CFILT + 1 samples in microvolts. -/
  | comparatorEnter (dt : Span) (c : Fin 16) (samples : List Int)
  /-- COMPARATOR_LEAVE (R338). -/
  | comparatorLeave (dt : Span) (c : Fin 16) (samples : List Int)
  /-- COMPARATOR_READY (R338). -/
  | comparatorReady (dt : Span) (c : Fin 16) (samples : List Int)
  /-- REFERENCE_FAULT (R344). -/
  | referenceFault (dt : Span) (x : Conv)
  /-- DMA_START (R384). -/
  | dmaStart (dt : Span) (n : Fin 16)
  /-- DMA_ABORT (R409). -/
  | dmaAbort (dt : Span) (n : Fin 16)
  /-- DMA_RESUME (R411). -/
  | dmaResume (dt : Span) (n : Fin 16)
  /-- SIGNAL_DELIVERY (R392). -/
  | signalDelivery (dt : Span) (m : Master) (n : Fin 16) (mask : BitVec 16)
  /-- SIGCLR (R392). -/
  | sigclr (dt : Span) (m : Master) (n : Fin 16) (mask : BitVec 16)
  /-- LVLDEC (R403). -/
  | lvldec (dt : Span) (m : Master) (n : Fin 16) (amount : BitVec 16)
  /-- TLB_INVALIDATE (R398). -/
  | tlbInvalidate (dt : Span) (value : Word)
  /-- MOVE (R387). -/
  | dmaMove (dt : Span) (n : Fin 16)
  /-- DMA_BEAT (R394). -/
  | dmaBeat (dt : Span)
  /-- LOOP (R390). -/
  | dmaLoop (dt : Span) (n : Fin 16)
  /-- ENDLOOP (R390). -/
  | dmaEndloop (dt : Span) (n : Fin 16)
  /-- WAIT (R391). -/
  | dmaWait (dt : Span) (n : Fin 16)
  /-- WAIT_COMPLETE (R391). -/
  | waitComplete (dt : Span) (n : Fin 16)
  /-- SIGNAL (R392). -/
  | dmaSignal (dt : Span) (n : Fin 16)
  /-- SET (R393). -/
  | dmaSet (dt : Span) (n : Fin 16)
  /-- END (R393). -/
  | dmaEnd (dt : Span) (n : Fin 16)
  /-- CAVE_MOUNT (R427). -/
  | caveMount (dt : Span)
  /-- MOUNT_DONE (R427). -/
  | mountDone (dt : Span)
  /-- RECORD_WRITE (R432). -/
  | recordWrite (dt : Span) (kind : BitVec 8) (index : BitVec 16) (version : BitVec 8) (body : List Byte)
  /-- RECORD_WRITE_DONE (R432). -/
  | recordWriteDone (dt : Span)
  /-- LOG_PUSH (R436). `ctl` is the word written to NVM_LOGPUSH. -/
  | logPush (dt : Span) (m : Master) (ctl : Word)
  /-- LOG_FLUSH (R435). -/
  | logFlush (dt : Span)
  /-- RETENTION_TICK (R438). -/
  | retentionTick (dt : Span)
  /-- REFRESH_PASS_PAGE (R441). -/
  | refreshPassPage (dt : Span)
  /-- WEAR_LEVEL_CHECK (R442). -/
  | wearLevelCheck (dt : Span)
  /-- IMAGE_CHECK_DONE (R437). -/
  | imageCheckDone (dt : Span)
  /-- CURD_DONE (R457). `vpack` is the pack voltage in 100 µV before the clamp, `code` the modulator code and `excess` its overload,
  `ntc` the four NTC voltages in microvolts, `age` the CLK_ANG cycles since the sample instant. -/
  | curdDone (dt : Span) (vpack : Nat) (code : BitVec 24) (excess : Bool) (ntc : List Nat) (age : Nat)
  /-- STANDBY_CURD (R461). -/
  | standbyCurd (dt : Span) (vpack : Nat) (code : BitVec 24) (excess : Bool) (ntc : List Nat)
  /-- CURD_LOST (R458). -/
  | curdLost (dt : Span)
  /-- ID_ATTEMPT (R468). -/
  | idAttempt (dt : Span)
  /-- ID_ATTEMPT_DONE (R467). -/
  | idAttemptDone (dt : Span) (reading : IdReading)
  /-- ID_DEADLINE (R468). -/
  | idDeadline (dt : Span)
  /-- GRACE_END (R469). -/
  | graceEnd (dt : Span)
  /-- SETSOC (R463). -/
  | setsoc (dt : Span) (m : Master) (value : Word)
  /-- SOC_REPORT_STEP (R466). -/
  | socReportStep (dt : Span)
  /-- RECORD_CHECKPOINT (R475). -/
  | recordCheckpoint (dt : Span)
  /-- EPOCH_TICK (R486). -/
  | epochTick (dt : Span)
  /-- AUTOSHIP_RETRY (R478). -/
  | autoshipRetry (dt : Span)
  /-- FUSION_TICK (R488). -/
  | fusionTick (dt : Span)
  /-- HEAD_RUN_DONE (R488). -/
  | headRunDone (dt : Span)
  /-- CELL_CLOSE (R500). -/
  | cellClose (dt : Span)
  /-- ENCODER_RUN_DONE (R501). -/
  | encoderRunDone (dt : Span)
  /-- IMU_FETCH (R496). -/
  | imuFetch (dt : Span) (n : Fin 2)
  /-- IMU_FETCH_DONE (R496). -/
  | imuFetchDone (dt : Span) (n : Fin 2) (response : List Byte)
  /-- IMU_INIT (R495). `who` is the byte the sensor answers to the WHOAMI read. -/
  | imuInit (dt : Span) (n : Fin 2) (who : Byte)
  /-- FUSCAL_WRITE (R499). -/
  | fuscalWrite (dt : Span) (n : Fin 2)
  /-- WEIGHT_CHECK (R512). `flips` names weight bytes that have changed by themselves -/
  | weightCheck (dt : Span) (flips : List (Nat × Byte)) (dense : Bool) (track : Bool)
  /-- FUSION_SELFTEST_DONE (R512). -/
  | fusionSelftestDone (dt : Span)
  /-- FUSION_SLOT_WRITE (R492). -/
  | fusionSlotWrite (dt : Span) (m : Master) (slot : Fin 32) (value : Word)
  /-- SLOT_STALE (R492). -/
  | slotStale (dt : Span) (slot : Fin 32)
  /-- RIND_INPUT_CHANGE (R523). `changes` are what comparators read at this CLK_LF edge, where that is new or completes a filter
  (log entry 128); `tamper` is h1 and h0 of a window that ends -/
  | rindInputChange (dt : Span) (changes : List (Fin 6 × InLevel)) (tamper : Option (InLevel × InLevel))
  /-- COUNT_WINDOW_CLOSE (R525). -/
  | countWindowClose (dt : Span) (k : Fin 16)
  /-- HOLDOFF_END (R526). -/
  | holdoffEnd (dt : Span) (k : Fin 16)
  /-- RIND_FIFO_DRAIN (R528). -/
  | rindFifoDrain (dt : Span)
  /-- ALARM_END (R530). -/
  | alarmEnd (dt : Span)
  /-- ALARM_TOGGLE (R530). -/
  | alarmToggle (dt : Span)
  /-- ALARM_STOP (R530). -/
  | alarmStop (dt : Span)
  /-- LOCK_OPEN (R535). -/
  | lockOpen (dt : Span)
  /-- LOCK_SHUT (R535). -/
  | lockShut (dt : Span)
  /-- LOCK_HOME (R535). -/
  | lockHome (dt : Span)
  /-- LOCK_STOP (R534). -/
  | lockStop (dt : Span)
  /-- LOCK_CLEAR (R538). -/
  | lockClear (dt : Span)
  /-- LOCK_BADKEY (R534). `value` is the word written to LCK_CMD. -/
  | lockBadkey (dt : Span) (value : Word)
  /-- LIMIT_CHANGE (R532). -/
  | limitChange (dt : Span)
  /-- LOCK_MOVE_TIMEOUT (R537). -/
  | lockMoveTimeout (dt : Span)
  /-- LOCK_STALL (R537). -/
  | lockStall (dt : Span)
  /-- BRAKE_END (R535). -/
  | brakeEnd (dt : Span)
  /-- LCSPORT_CHALLENGE (R566). -/
  | lcsportChallenge (dt : Span) (target : BitVec 8)
  /-- LCSPORT_READCH (R566). -/
  | lcsportReadch (dt : Span) (index : BitVec 8)
  /-- LCSPORT_LOADR (R566). -/
  | lcsportLoadr (dt : Span) (index : BitVec 8) (value : Word)
  /-- LCSPORT_LOADS (R566). -/
  | lcsportLoads (dt : Span) (index : BitVec 8) (value : Word)
  /-- LCSPORT_VERIFY (R566). -/
  | lcsportVerify (dt : Span)
  /-- LCSPORT_GO (R566). -/
  | lcsportGo (dt : Span)
  /-- LIFECYCLE_RESET (R561). -/
  | lifecycleReset (dt : Span)
  /-- CHALLENGE_LAPSE (R559). -/
  | challengeLapse (dt : Span)
  /-- LOCKOUT_END (R560). -/
  | lockoutEnd (dt : Span)
  /-- OP_SIGKEY (R563). -/
  | opSigkey (dt : Span)
  /-- OP_LKEY (R563). -/
  | opLkey (dt : Span)
  /-- OP_IMGKEY (R563). -/
  | opImgkey (dt : Span)
  /-- OP_REVOKE (R563). -/
  | opRevoke (dt : Span)
  /-- OP_MINVER (R563). -/
  | opMinver (dt : Span)
  /-- OP_STOREWRITE (R563). -/
  | opStorewrite (dt : Span)
  /-- OP_POLICY (R564). -/
  | opPolicy (dt : Span)
  /-- LCS_OPERATION_DONE (R564). `fail` says that the OTP or store programming failed. -/
  | lcsOperationDone (dt : Span) (fail : Bool)
  /-- WIPEPEND_CLEARS (R562). -/
  | wipependClears (dt : Span)
  /-- DBGACC (R566). -/
  | dbgacc (dt : Span) (write : Bool) (addr : BitVec 24) (value : Word)
  /-- DEBUG_HALT (R567). -/
  | debugHalt (dt : Span) (halt : Bool)
  /-- MEMTEST (R568). -/
  | memtest (dt : Span) (target : BitVec 4) (alg : BitVec 4) (go : Bool)
  /-- MEMTEST_DONE (R566). `failing` is the number of failing words. -/
  | memtestDone (dt : Span) (failing : Nat)
  /-- DBGRST (R566). -/
  | dbgrst (dt : Span)
  /-- TAP_UPDATE_IR (R565). `code` is the instruction register, none for Test-Logic-Reset. -/
  | tapUpdateIr (dt : Span) (code : Option (BitVec 5))
  /-- EXTEST_UPDATE (R613). `cells` gives boundary register cells and the levels they drive. -/
  | extestUpdate (dt : Span) (cells : List (Nat × Bool))
  /-- HEALTH_TEMP_READ (R576). `centi` is the die temperature in 0.01 °C. -/
  | healthTempRead (dt : Span) (centi : Int)
  /-- HLT_CLR (R592). -/
  | hltClr (dt : Span) (m : Master) (value : Word)
  /-- HEALTH_RECORD_WRITE (R589). -/
  | healthRecordWrite (dt : Span)
deriving DecidableEq, Repr

end Sys2Proof
end

