-- ==== Sys2Proof/Decode.lean ====
section
/-!
DEFINITION. What a word of the opcode table's bits spells: the table gives its rows no bits (log entry 3), so no word spells a command. And what
the bits of the JTAG data registers spell at Update-DR (R566).
-/

namespace Sys2Proof

/-- The command that the low `nbits` bits of `w` spell by the table: none, since no row has bits. -/
def decodeTableWord (_nbits _w : Nat) : Option Instr := none

/-- The command that the 64 bits of LCSPORT spell, bits 63:56 its code; a code that R566 does not list is none (log entry 152). -/
def lcsportCommand (dt : Span) (dr : BitVec 64) : Option Instr :=
  let i := dr.extractLsb' 48 8
  let w := dr.extractLsb' 0 32
  match (dr.extractLsb' 56 8).toNat with
  | 1 => some (.lcsportChallenge dt i)
  | 2 => some (.lcsportReadch dt i)
  | 3 => some (.lcsportLoadr dt i w)
  | 4 => some (.lcsportLoads dt i w)
  | 5 => some (.lcsportVerify dt)
  | 6 => some (.lcsportGo dt)
  | _ => none

/-- The access that the 64 bits of DBGACC spell: bit 63 selects a write, bits 55:32 the address, bits 31:0 the data. -/
def dbgaccCommand (dt : Span) (dr : BitVec 64) : Instr := .dbgacc dt (dr.getLsbD 63) (dr.extractLsb' 32 24) (dr.extractLsb' 0 32)

/-- The update that the 8 bits of DBGCTL spell: bit 0 is HALT. -/
def dbgctlCommand (dt : Span) (dr : BitVec 8) : Instr := .debugHalt dt (dr.getLsbD 0)

/-- The memory test that the 16 bits of MEMTEST spell: the target, the algorithm, and GO. -/
def memtestCommand (dt : Span) (dr : BitVec 16) : Instr := .memtest dt (dr.extractLsb' 0 4) (dr.extractLsb' 4 4) (dr.getLsbD 15)

end Sys2Proof
end

