-- ==== Sys2Proof/Config.lean ====
section
/-!
DEFINITION. What the spec leaves to the device or leaves open: opaque constants without a body, so that no proof can use a
particular value. Each one is named in the assumption log.
-/

namespace Sys2Proof.Config

/-- What a byte of working SRAM at 0x81_0000 and above holds after a wake from STANDBY, which R54 leaves undefined. The first
argument tells one wake from another. -/
opaque sramAfterWake : Nat → Nat → Byte

/-- A value the spec does not state, drawn with the model's own counter (log entry 6). -/
opaque freeValue : Nat → Word

/-- A byte of the internal random source's nonce of a challenge, by the draw and the byte's place (R557, log entry 45). -/
opaque nonceByte : Nat → Nat → Byte

/-- The binary32 sine and cosine that the mounting rotation uses, whose accuracy R497 does not state (log entry 31). -/
opaque sinF : Word → Word
opaque cosF : Word → Word

/-- The binary32 arctangent of two arguments of Table Fus.9, whose accuracy R505 does not state (log entry 31). -/
opaque atan2F : Word → Word → Word

/-- The integer to which a binary32 value that is not a number converts, which R506 and R509 do not state (log entry 31). -/
opaque nanInt : Nat → Int

/-- VIO is above its threshold at a CLK_ANG time between VIO_LOW and VIO_RECOVERED: it has been for the last millisecond of that time, and the
moment at which it comes back is no command of its own (R73, log entry 14). -/
opaque vioAbove : Nat → Bool

/-- By how much the transmit error counter exceeds 256 on entering bus-off, which R119 does not state: bus-off is TEC past
255 (log entry 113). -/
opaque busOffTec : Nat → BitVec 8

end Sys2Proof.Config
end

