-- ==== Sys2Proof/Machine/Bits.lean ====
section
/-!
DEFINITION. Bit fields, byte order, saturation and rounding: the plain arithmetic helpers every block uses (R4, R5, R11).
-/

namespace Sys2Proof.Machine

/-- Bits `hi:lo` of a number, as R4 writes a bit range. -/
def fieldNat (w hi lo : Nat) : Nat := (w >>> lo) % 2 ^ (hi + 1 - lo)

/-- Bits `hi:lo` of a word, as a number (R4). -/
def fieldOf (w : Word) (hi lo : Nat) : Nat := fieldNat w.toNat hi lo

/-- Bit `i` of a word (R4). -/
def bitOf (w : Word) (i : Nat) : Bool := w.toNat.testBit i

/-- A word whose bits `hi:lo` are replaced by the low bits of `v` (R4). -/
def withField (w : Word) (hi lo v : Nat) : Word :=
  let m := (2 ^ (hi + 1 - lo) - 1) <<< lo
  (w &&& ~~~(BitVec.ofNat 32 m)) ||| BitVec.ofNat 32 ((v % 2 ^ (hi + 1 - lo)) <<< lo)

/-- `v` placed at bit `lo`, the rest 0. -/
def atBit (v lo : Nat) : Nat := v <<< lo

/-- 1 for true and 0 for false. -/
def b2n (b : Bool) : Nat := if b then 1 else 0

/-- A number read as a signed `n`-bit two's complement value. -/
def signedOf (n v : Nat) : Int :=
  let r := v % 2 ^ n
  if r < 2 ^ (n - 1) then (r : Int) else (r : Int) - (2 ^ n : Nat)

/-- The low `n` bits of an integer, as a number (R11: unsigned arithmetic wraps). -/
def wrapInt (n : Nat) (v : Int) : Nat := (v % ((2 ^ n : Nat) : Int)).toNat

/-- An integer as a 32-bit word, wrapping. -/
def wordOfInt (v : Int) : Word := BitVec.ofNat 32 (wrapInt 32 v)

/-- An integer held between two limits. -/
def clampInt (lo hi v : Int) : Int := if v < lo then lo else if hi < v then hi else v

/-- Division that truncates toward zero (R11). -/
def divTrunc (a b : Int) : Int := Int.tdiv a b

/-- A counter that stops at its highest value. -/
def satAdd (limit v n : Nat) : Nat := if v + n < limit then v + n else limit

/-- A number least significant byte first (R5). -/
def bytesLE : Nat → Nat → List Byte
  | 0, _ => []
  | k + 1, v => BitVec.ofNat 8 v :: bytesLE k (v / 256)

/-- The number that bytes hold, least significant byte first (R5). -/
def natLE : List Byte → Nat
  | [] => 0
  | b :: t => b.toNat + 256 * natLE t

/-- A number most significant byte first, as signatures and tags hold it (R100). -/
def bytesBE (k v : Nat) : List Byte := (bytesLE k v).reverse

/-- The number that bytes hold, most significant byte first. -/
def natBE (l : List Byte) : Nat := natLE l.reverse

/-- `n` bytes from offset `o` of a byte list; missing bytes are left out. -/
def slice (l : List Byte) (o n : Nat) : List Byte := (l.drop o).take n

/-- The number in the `n` bytes at offset `o`, least significant first. -/
def natAt (l : List Byte) (o n : Nat) : Nat := natLE (slice l o n)

/-- The 32-bit word in the four bytes at offset `o`. -/
def wordAt (l : List Byte) (o : Nat) : Word := BitVec.ofNat 32 (natAt l o 4)

/-- `n` copies of one byte. -/
def padBytes (n : Nat) (b : Byte) : List Byte := List.replicate n b

/-- A byte list cut or padded with zeros to `n` bytes. -/
def fitBytes (n : Nat) (l : List Byte) : List Byte := l.take n ++ padBytes (n - l.length) 0

/-- The bytes of a list with those from offset `o` replaced by `b`. -/
def patchBytes (l : List Byte) (o : Nat) (b : List Byte) : List Byte :=
  l.take o ++ b ++ l.drop (o + b.length)

/-- The numbers below `n` for which a test holds, rising. -/
def indicesWhere (n : Nat) (p : Nat → Bool) : List Nat := (List.range n).filter p

/-- How many numbers below `n` pass a test. -/
def countWhere (n : Nat) (p : Nat → Bool) : Nat := (indicesWhere n p).length

/-- The number whose bit `i` is `p i`, for `i` below `n`. -/
def maskWhere (n : Nat) (p : Nat → Bool) : Nat := (indicesWhere n p).foldl (fun acc i => acc + 2 ^ i) 0

/-- The least number of a list, if it is not empty. -/
def leastOf : List Nat → Option Nat
  | [] => none
  | a :: t => some (t.foldl Nat.min a)

/-- Cycles of CLK_ANG in `n` microseconds (R39: 384 MHz). -/
def usAng (n : Nat) : Nat := 384 * n

/-- Cycles of CLK_ANG in `n` milliseconds. -/
def msAng (n : Nat) : Nat := 384000 * n

/-- Cycles of CLK_ANG in `n` seconds. -/
def secAng (n : Nat) : Nat := 384000000 * n

/-- The integer square root, used where a rule compares an rms value: the largest `r` not above `fuel` with `r * r ≤ v`. -/
def isqrtUpTo : Nat → Nat → Nat
  | 0, _ => 0
  | r + 1, v => if (r + 1) * (r + 1) ≤ v then r + 1 else isqrtUpTo r v

end Sys2Proof.Machine
end

