-- ==== Sys2Proof/Machine/Sparse.lean ====
section
/-!
DEFINITION. A sparse store: a list of (address, value) pairs in one canonical form, over a default for every address that is
not listed. Registers, working SRAM and NAND pages are held so. The list is strictly rising in the address and lists no value
equal to the default, so that equal contents are equal lists.
-/

namespace Sys2Proof.Machine

/-- The value at an address: the listed one, or the default. -/
def Sparse.get {α : Type} (d : Nat → α) : List (Nat × α) → Nat → α
  | [], a => d a
  | (b, v) :: t, a => if a = b then v else Sparse.get d t a

/-- The list with every entry of an address left out. -/
def Sparse.erase {α : Type} : List (Nat × α) → Nat → List (Nat × α)
  | [], _ => []
  | (b, v) :: t, a => if a = b then Sparse.erase t a else (b, v) :: Sparse.erase t a

/-- The list with an address bound to a value, in its place by address. -/
def Sparse.insert {α : Type} : List (Nat × α) → Nat → α → List (Nat × α)
  | [], a, v => [(a, v)]
  | (b, w) :: t, a, v =>
    if a < b then (a, v) :: (b, w) :: t
    else if a = b then (a, v) :: t
    else (b, w) :: Sparse.insert t a v

/-- A write: the default removes the entry, any other value is listed. -/
def Sparse.set {α : Type} [DecidableEq α] (d : Nat → α) (l : List (Nat × α)) (a : Nat) (v : α) : List (Nat × α) :=
  if v = d a then Sparse.erase l a else Sparse.insert l a v

/-- Every address of the list is above `lo`, rising, and no value is the default. -/
def Sparse.wfFrom {α : Type} [DecidableEq α] (d : Nat → α) : Option Nat → List (Nat × α) → Bool
  | _, [] => true
  | lo, (b, v) :: t =>
    (match lo with | none => true | some x => decide (x < b)) && decide (v ≠ d b) && Sparse.wfFrom d (some b) t

/-- The canonical form of a sparse store. -/
def Sparse.wf {α : Type} [DecidableEq α] (d : Nat → α) (l : List (Nat × α)) : Bool := Sparse.wfFrom d none l

end Sys2Proof.Machine
end

