-- ==== Sys2Proof/Machine/RegMap.lean ====
section
/-!
DEFINITION. The register map (chapter 21, R638 to R646): every register of every block with its access masks and reset value,
written from the map tables of chapter 21 and the field tables of the owning chapters. One row stands for an indexed register.
-/

namespace Sys2Proof.Machine

/-- One row of the register map. The masks give the bits of each access code of R7; a bit in none of them is RO or reserved. -/
structure RegRow where
  /-- The name the map gives; italic indices stand as letters. -/
  name : String
  /-- The full address of the first word. -/
  first : Nat
  /-- The distance between indexed copies. -/
  stride : Nat := 0x10000
  /-- How many indexed copies there are. -/
  count : Nat := 1
  /-- How many consecutive words each copy has. -/
  subs : Nat := 1
  /-- RWS bits: configuration, written through the shadow bank (R7, R10). -/
  rws : Nat := 0
  /-- RW bits. -/
  rw : Nat := 0
  /-- W1C bits. -/
  w1c : Nat := 0
  /-- W1S bits. -/
  w1s : Nat := 0
  /-- RC bits, which clear when read. -/
  rc : Nat := 0
  /-- WO bits, which read 0 and act when written. -/
  wo : Nat := 0
  /-- The reset column of chapter 21. -/
  reset : Nat := 0
deriving DecidableEq, Repr

/-- The row names the register at this address (R639). -/
def RegRow.covers (r : RegRow) (a : Nat) : Bool :=
  decide (r.first ≤ a) && decide ((a - r.first) / r.stride < r.count) &&
    decide ((a - r.first) % r.stride % 4 = 0) && decide ((a - r.first) % r.stride / 4 < r.subs)

/-- The register rows of the SYS block (base 0): 03_startup_image.md, R35 R36 R37 R118; chapter 21, R638 to R640. -/
def sysRows : List RegRow := [
  { name := "SYS_ID", first := 0, reset := 0x880B14C },
  { name := "SYS_PARAM0", first := 4, reset := 0xE84204 },
  { name := "SYS_PARAM1", first := 8, reset := 0x2226 },
  { name := "SYS_UIDLO", first := 0xC },
  { name := "SYS_UIDHI", first := 0x10 },
  { name := "SYS_RSTCAUSE", first := 0x20, w1c := 0xFF },
  { name := "SYS_BOOTSTAT", first := 0x24 },
  { name := "SYS_IMGVER", first := 0x28 },
  { name := "SYS_IMGBUILD", first := 0x2C },
  { name := "SYS_IMGGEN", first := 0x30 },
  { name := "SYS_INSTAT0", first := 0x40 },
  { name := "SYS_INSTAT1", first := 0x44 },
  { name := "SYS_STUCKTO", first := 0x48, rws := 0xFFFFFF, reset := 0xA050A } ]

/-- The register rows of the LNK block (base 0x10000): 04_jornus_link.md, R156; chapter 21, R638 to R640. -/
def lnkRows : List RegRow := [
  { name := "LNK_CTRL", first := 0x10000, rws := 1, reset := 1 },
  { name := "LNK_IDCFG", first := 0x10004, rws := 0x1FFFF, reset := 0x520 },
  { name := "LNK_IDHI", first := 0x10008, rws := 0x3FFFF },
  { name := "LNK_NBT", first := 0x1000C, rws := 0x7F7FFF1F, reset := 0x13134C01 },
  { name := "LNK_DBT", first := 0x10010, rws := 0xF0F1F1F, reset := 0x6061101 },
  { name := "LNK_TDC", first := 0x10014, rws := 0x17F },
  { name := "LNK_STAT", first := 0x10018, reset := 3 },
  { name := "LNK_ERRCNT", first := 0x1001C },
  { name := "LNK_RING", first := 0x10020 },
  { name := "LNK_SEQ", first := 0x10024, reset := 1 },
  { name := "LNK_CACHE", first := 0x10028 },
  { name := "LNK_WM", first := 0x1002C, rws := 0x3F, reset := 0x18 },
  { name := "LNK_WMSTAT", first := 0x10030, w1c := 0x80000000 },
  { name := "LNK_NTCLOST", first := 0x10034, rc := 0xFFFF },
  { name := "LNK_RXIGN", first := 0x10038, rc := 0xFFFFFFFF },
  { name := "LNK_TIME", first := 0x1003C },
  { name := "LNK_NTCEN", first := 0x10040, rws := 0xFDFFEDFD, reset := 0xFFFFFFFF } ]

/-- The register rows of the CFG block (base 0x20000): 05_live_configuration.md, R188; chapter 21, R638 to R640. -/
def cfgRows : List RegRow := [
  { name := "CFG_STAT", first := 0x20000, w1c := 8 },
  { name := "CFG_USED", first := 0x20004 },
  { name := "CFG_CTRL", first := 0x20008, rws := 0xFFFF, reset := 0x6464 },
  { name := "CFG_LAST", first := 0x2000C },
  { name := "CFG_STAGE", first := 0x20010, wo := 1 },
  { name := "CFG_HOLDSET", first := 0x20014, wo := 0xFFFFFFFF },
  { name := "CFG_HOLD", first := 0x20018 },
  { name := "CFG_HOLDCH", first := 0x2001C },
  { name := "CFG_SELFTEST", first := 0x20020 } ]

/-- The register rows of the ANG block (base 0x30000): 06_wheel_tracking.md, 07_angle_interpolation_phase.md, R219 R220 R246 R247; chapter 21, R638 to R640. -/
def angRows : List RegRow := [
  { name := "ANG_Wn_CFG", first := 0x30000, stride := 0x100, count := 4, rws := 0x7F3, reset := 0x200 },
  { name := "ANG_Wn_PAT", first := 0x30004, stride := 0x100, count := 4, rws := 0xFF0FFFFF, reset := 0x80000401 },
  { name := "ANG_Wn_SYNC", first := 0x30008, stride := 0x100, count := 4, rws := 0xFFFFFFFF, reset := 0x818C4142 },
  { name := "ANG_Wn_TIME", first := 0x3000C, stride := 0x100, count := 4, rws := 0xFFFF3FFF, reset := 0x40A01F4 },
  { name := "ANG_Wn_VR", first := 0x30010, stride := 0x100, count := 4, rws := 0xFFF, reset := 0x144 },
  { name := "ANG_Wn_MARK", first := 0x30014, stride := 0x100, count := 4, rws := 0x7FFFFF },
  { name := "ANG_Wn_CLSW0..2", first := 0x30018, stride := 0x100, count := 4, subs := 3, rws := 0x7FFFFF },
  { name := "ANG_Wn_CAPO", first := 0x30024, stride := 0x100, count := 4, rws := 0x3FFFFF },
  { name := "ANG_Wn_INTERP", first := 0x30028, stride := 0x100, count := 4, rws := 0xFFFF0001, reset := 0x20000000 },
  { name := "ANG_Wn_ANGLE", first := 0x3002C, stride := 0x100, count := 4 },
  { name := "ANG_Wn_EDGEANG", first := 0x30030, stride := 0x100, count := 4 },
  { name := "ANG_Wn_EDGET", first := 0x30034, stride := 0x100, count := 4 },
  { name := "ANG_Wn_ACCEL", first := 0x30038, stride := 0x100, count := 4 },
  { name := "ANG_Wn_ISTAT", first := 0x3003C, stride := 0x100, count := 4, rc := 0xFFFF0000 },
  { name := "ANG_Wn_STATE", first := 0x30040, stride := 0x100, count := 4, reset := 0x100 },
  { name := "ANG_Wn_PERIOD", first := 0x30044, stride := 0x100, count := 4 },
  { name := "ANG_Wn_SPEED", first := 0x30048, stride := 0x100, count := 4 },
  { name := "ANG_Wn_EDGES", first := 0x3004C, stride := 0x100, count := 4 },
  { name := "ANG_Wn_NOISE", first := 0x30050, stride := 0x100, count := 4, rc := 0xFFFFFFFF },
  { name := "ANG_Wn_LOSS", first := 0x30054, stride := 0x100, count := 4, rc := 0xFFFFFFFF },
  { name := "ANG_Wn_FAULT", first := 0x30058, stride := 0x100, count := 4, w1c := 7 },
  { name := "ANG_Wn_CLSW3", first := 0x3005C, stride := 0x100, count := 4, rws := 0x7FFFFF },
  { name := "ANG_Wn_PRED", first := 0x30060, stride := 0x100, count := 4 },
  { name := "ANG_Wn_BETA", first := 0x30064, stride := 0x100, count := 4 },
  { name := "ANG_Wn_REVCNT", first := 0x30068, stride := 0x100, count := 4 },
  { name := "ANG_Wn_CODEi", first := 0x30080, stride := 0x100, count := 4, subs := 32, rws := 0xFFFFFFFF },
  { name := "ANG_BIASCTRL", first := 0x30800, rws := 0xFF, reset := 0xA },
  { name := "ANG_INFAULT", first := 0x30804, w1c := 0xFFFFFF },
  { name := "ANG_BLIM_HALL0", first := 0x30808, rws := 0xFFFFFFFF, reset := 0x3E80000 },
  { name := "ANG_BLIM_HALL1", first := 0x3080C, rws := 0xFFFF1FFF, reset := 0x14000000 },
  { name := "ANG_BLIM_VR0", first := 0x30810, rws := 0xFFFFFFFF, reset := 0x12C00CB },
  { name := "ANG_BLIM_VR1", first := 0x30814, rws := 0xFFFF1FFF, reset := 0x142809C4 },
  { name := "ANG_TNOW", first := 0x30900 },
  { name := "ANG_SNAP", first := 0x30904, wo := 1 },
  { name := "ANG_SNAPT", first := 0x30908 },
  { name := "ANG_SNAPWn", first := 0x30910, stride := 4, count := 4 },
  { name := "ANG_PHk_CFG", first := 0x30940, stride := 0x40, count := 2, rws := 0xFF07F3, reset := 0x10040 },
  { name := "ANG_PHk_FOLD", first := 0x30944, stride := 0x40, count := 2, rws := 0x3FF, reset := 1 },
  { name := "ANG_PHk_OFS", first := 0x30948, stride := 0x40, count := 2, rws := 0xFFFFFFFF },
  { name := "ANG_PHk_SCALE", first := 0x3094C, stride := 0x40, count := 2, rws := 0xFFFFFFFF },
  { name := "ANG_PHk_RAW", first := 0x30950, stride := 0x40, count := 2 },
  { name := "ANG_PHk_PHASE", first := 0x30954, stride := 0x40, count := 2 },
  { name := "ANG_PHk_TORQUE", first := 0x30958, stride := 0x40, count := 2 },
  { name := "ANG_PHk_STAT", first := 0x3095C, stride := 0x40, count := 2, rc := 0xFFFF0000 },
  { name := "ANG_PHk_TIME", first := 0x30960, stride := 0x40, count := 2 },
  { name := "ANG_Wn_BIASA", first := 0x30C00, stride := 8, count := 4 },
  { name := "ANG_Wn_BIASB", first := 0x30C04, stride := 8, count := 4 },
  { name := "ANG_Wn_TTABi", first := 0x31000, stride := 0x800, count := 4, subs := 512, rws := 0x7FFFFF } ]

/-- The register rows of the EVQ block (base 0x40000): 08_angle_events.md, R283; chapter 21, R638 to R640. -/
def evqRows : List RegRow := [
  { name := "EVQ_EVOn_CFG", first := 0x40000, stride := 0x40, count := 32, rws := 0xFFFFFFF3, reset := 0x100 },
  { name := "EVQ_EVOn_SPEC", first := 0x40004, stride := 0x40, count := 32, rws := 0xFFFFFFFF, reset := 0x1000000 },
  { name := "EVQ_EVOn_LATEMAX", first := 0x40008, stride := 0x40, count := 32, rws := 0xFFFFFF, reset := 0xFFFFFF },
  { name := "EVQ_EVOn_CHOP", first := 0x4000C, stride := 0x40, count := 32, rws := 0x3FF007F },
  { name := "EVQ_EVOn_FILL", first := 0x40010, stride := 0x40, count := 32 },
  { name := "EVQ_EVOn_FLAGS", first := 0x40014, stride := 0x40, count := 32, w1c := 0x3F },
  { name := "EVQ_EVOn_CNT0", first := 0x40018, stride := 0x40, count := 32, rc := 0xFFFFFFFF },
  { name := "EVQ_EVOn_CNT1", first := 0x4001C, stride := 0x40, count := 32, rc := 0xFFFFFFFF },
  { name := "EVQ_EVOn_RETRCNT", first := 0x40020, stride := 0x40, count := 32 },
  { name := "EVQ_EVOn_RETRANG", first := 0x40024, stride := 0x40, count := 32 },
  { name := "EVQ_EVOn_HEAD0..3", first := 0x40028, stride := 0x40, count := 32, subs := 4 },
  { name := "EVQ_EVOn_PROBEANG", first := 0x40038, stride := 0x40, count := 32 },
  { name := "EVQ_EVOn_LATE", first := 0x4003C, stride := 0x40, count := 32 },
  { name := "EVQ_INS0..3", first := 0x40800, subs := 4, wo := 0xFFFFFFFF },
  { name := "EVQ_INSSTAT", first := 0x40810 },
  { name := "EVQ_PAIRk", first := 0x40820, stride := 4, count := 16, rws := 0x3FF0003 },
  { name := "EVQ_ILK", first := 0x40860, w1c := 0xFFFF },
  { name := "EVQ_FLUSH", first := 0x40870, wo := 0xFFFFFFFF },
  { name := "EVQ_RETRSUM", first := 0x40874 } ]

/-- The register rows of the TMR block (base 0x50000): 09_timers.md, R319; chapter 21, R638 to R640. -/
def tmrRows : List RegRow := [
  { name := "TMRn_CTRL", first := 0x50000, stride := 0x80, count := 16, rws := 0xFFFFFCCF },
  { name := "TMRn_PSC", first := 0x50004, stride := 0x80, count := 16, rws := 0xFFFFFFFF, reset := 0x10000 },
  { name := "TMRn_TOPLO", first := 0x50008, stride := 0x80, count := 16, rws := 0xFFFFFFFF, reset := 0xFFFFFFFF },
  { name := "TMRn_TOPHI", first := 0x5000C, stride := 0x80, count := 16, rws := 0xFFFF, reset := 0xFFFF },
  { name := "TMRn_INITLO", first := 0x50010, stride := 0x80, count := 16, rws := 0xFFFFFFFF },
  { name := "TMRn_INITHI", first := 0x50014, stride := 0x80, count := 16, rws := 0xFFFF },
  { name := "TMRn_CAILO", first := 0x50018, stride := 0x80, count := 16, rws := 0xFFFFFFFF, reset := 0xFFFFFFFF },
  { name := "TMRn_CAIHI", first := 0x5001C, stride := 0x80, count := 16, rws := 0xFFFF, reset := 0xFFFF },
  { name := "TMRn_CBILO", first := 0x50020, stride := 0x80, count := 16, rws := 0xFFFFFFFF, reset := 0xFFFFFFFF },
  { name := "TMRn_CBIHI", first := 0x50024, stride := 0x80, count := 16, rws := 0xFFFF, reset := 0xFFFF },
  { name := "TMRn_CAPCFG", first := 0x50028, stride := 0x80, count := 16, rws := 0x7F3F },
  { name := "TMRn_STAT", first := 0x5002C, stride := 0x80, count := 16, w1c := 0xF },
  { name := "TMRn_COUNTLO", first := 0x50030, stride := 0x80, count := 16 },
  { name := "TMRn_COUNTHI", first := 0x50034, stride := 0x80, count := 16 },
  { name := "TMRn_CAPLO", first := 0x50038, stride := 0x80, count := 16 },
  { name := "TMRn_CAPHI", first := 0x5003C, stride := 0x80, count := 16 },
  { name := "TMRn_CMPAHI", first := 0x50040, stride := 0x80, count := 16, rw := 0xFFFF, reset := 0xFFFF },
  { name := "TMRn_CMPALO", first := 0x50044, stride := 0x80, count := 16, rw := 0xFFFFFFFF, reset := 0xFFFFFFFF },
  { name := "TMRn_CMPBHI", first := 0x50048, stride := 0x80, count := 16, rw := 0xFFFF, reset := 0xFFFF },
  { name := "TMRn_CMPBLO", first := 0x5004C, stride := 0x80, count := 16, rw := 0xFFFFFFFF, reset := 0xFFFFFFFF },
  { name := "TMR_GSTART", first := 0x50800, w1s := 0xFFFF },
  { name := "TMR_SWCAP", first := 0x50804, wo := 0xFFFF },
  { name := "TMR_RLATCH", first := 0x50808, w1c := 0x10000 },
  { name := "TMR_WLATCH", first := 0x5080C } ]

/-- The register rows of the ADCA block (base 0x60000): 10_converters.md, R352; chapter 21, R638 to R640. -/
def adcaRows : List RegRow := [
  { name := "ADCA_CTRL", first := 0x60000, rws := 0xFF, reset := 0xA },
  { name := "ADCA_STAT", first := 0x60004, w1c := 0x400000, reset := 0x880FF },
  { name := "ADCA_CALLIM", first := 0x60008, rws := 0xFFFF, reset := 0x3808 },
  { name := "ADCA_Ss_SOFS", first := 0x60100, stride := 0x10, count := 9 },
  { name := "ADCA_Ss_SGAIN", first := 0x60104, stride := 0x10, count := 9 },
  { name := "ADCA_Ss_SSTAT", first := 0x60108, stride := 0x10, count := 9 },
  { name := "ADCA_CHc_CFG", first := 0x60200, stride := 8, count := 48, rws := 0x3F37, reset := 0x600 },
  { name := "ADCA_CHc_COR", first := 0x60204, stride := 8, count := 48, rws := 0xFFFFFFFF },
  { name := "ADCA_CMPj_CFG", first := 0x60400, stride := 0x10, count := 8, rws := 0xB01F0F0F },
  { name := "ADCA_CMPj_THR", first := 0x60404, stride := 0x10, count := 8, rws := 0xFFF0FFF, reset := 0xFFF0000 },
  { name := "ADCA_CMPj_STAT", first := 0x60408, stride := 0x10, count := 8, w1c := 0x300, rc := 0xFFFF0000 } ]

/-- The register rows of the ADCB block (base 0x70000): 10_converters.md, R352; chapter 21, R638 to R640. -/
def adcbRows : List RegRow := [
  { name := "ADCB_CTRL", first := 0x70000, rws := 0xFF, reset := 0xA },
  { name := "ADCB_STAT", first := 0x70004, w1c := 0x400000, reset := 0x880FF },
  { name := "ADCB_CALLIM", first := 0x70008, rws := 0xFFFF, reset := 0x3808 },
  { name := "ADCB_Ss_SOFS", first := 0x70100, stride := 0x10, count := 9 },
  { name := "ADCB_Ss_SGAIN", first := 0x70104, stride := 0x10, count := 9 },
  { name := "ADCB_Ss_SSTAT", first := 0x70108, stride := 0x10, count := 9 },
  { name := "ADCB_CHc_CFG", first := 0x70200, stride := 8, count := 48, rws := 0x3F37, reset := 0x600 },
  { name := "ADCB_CHc_COR", first := 0x70204, stride := 8, count := 48, rws := 0xFFFFFFFF },
  { name := "ADCB_CMPj_CFG", first := 0x70400, stride := 0x10, count := 8, rws := 0xB01F0F0F },
  { name := "ADCB_CMPj_THR", first := 0x70404, stride := 0x10, count := 8, rws := 0xFFF0FFF, reset := 0xFFF0000 },
  { name := "ADCB_CMPj_STAT", first := 0x70408, stride := 0x10, count := 8, w1c := 0x300, rc := 0xFFFF0000 } ]

/-- The register rows of the ASEQ block (base 0x80000): 11_conversion_sequencing.md, R382; chapter 21, R638 to R640. -/
def aseqRows : List RegRow := [
  { name := "ASEQ_x_RCFG", first := 0x80000, stride := 0x800, count := 2, rws := 0xFF3F7F },
  { name := "ASEQ_x_ICFG", first := 0x80004, stride := 0x800, count := 2, rws := 0x77F },
  { name := "ASEQ_x_STAT", first := 0x80008, stride := 0x800, count := 2 },
  { name := "ASEQ_x_FLAGS", first := 0x8000C, stride := 0x800, count := 2, w1c := 0x3F },
  { name := "ASEQ_x_CNT", first := 0x80010, stride := 0x800, count := 2, rc := 0xFFFFFFFF },
  { name := "ASEQ_x_REGEi", first := 0x80100, stride := 0x800, count := 2, subs := 64, rws := 0xFFFFFFFF },
  { name := "ASEQ_x_INJEi", first := 0x80200, stride := 0x800, count := 2, subs := 8, rws := 0xFFFFFFFF },
  { name := "ASEQ_x_RRESi", first := 0x80400, stride := 0x800, count := 2, subs := 64, rc := 0x40000 },
  { name := "ASEQ_x_IRESi", first := 0x80500, stride := 0x800, count := 2, subs := 8, rc := 0x40000 },
  { name := "ASEQ_SWTRIG", first := 0x81000, wo := 0xF0F },
  { name := "ASEQ_PAIR", first := 0x81004, rws := 3 },
  { name := "ASEQ_XCHK", first := 0x81008, rws := 0x8000FFFF, reset := 0x180 },
  { name := "ASEQ_XSTAT", first := 0x8100C, w1c := 1 },
  { name := "ASEQ_XCNT", first := 0x81010, rc := 0xFFFFFFFF },
  { name := "ASEQ_XDIFF", first := 0x81014 } ]

/-- The register rows of the DMA block (base 0x90000): 12_dma.md, R414; chapter 21, R638 to R640. -/
def dmaRows : List RegRow := [
  { name := "DMA_CHn_CFG", first := 0x90000, stride := 0x80, count := 16, rws := 0xFF0FFFFF },
  { name := "DMA_CHn_PROG", first := 0x90004, stride := 0x80, count := 16, rws := 0xFFF0FFF },
  { name := "DMA_CHn_CTRL", first := 0x90008, stride := 0x80, count := 16, wo := 7 },
  { name := "DMA_CHn_STAT", first := 0x9000C, stride := 0x80, count := 16 },
  { name := "DMA_CHn_FLAGS", first := 0x90010, stride := 0x80, count := 16, w1c := 0x1F },
  { name := "DMA_CHn_SIG", first := 0x90014, stride := 0x80, count := 16, w1s := 0xFFFF },
  { name := "DMA_CHn_SIGCLR", first := 0x90018, stride := 0x80, count := 16, wo := 0xFFFF },
  { name := "DMA_CHn_CNT", first := 0x9001C, stride := 0x80, count := 16, rc := 0xFFFFFFFF },
  { name := "DMA_CHn_A0..A3", first := 0x90020, stride := 0x80, count := 16, subs := 4 },
  { name := "DMA_CHn_LEVEL", first := 0x90030, stride := 0x80, count := 16, rws := 0xFFFF0000 },
  { name := "DMA_CHn_LVLDEC", first := 0x90034, stride := 0x80, count := 16, wo := 0xFFFF },
  { name := "DMA_CHn_WMSTAT", first := 0x90038, stride := 0x80, count := 16, w1c := 0x80000000 },
  { name := "DMA_CHn_WMPEAK", first := 0x9003C, stride := 0x80, count := 16 },
  { name := "DMA_CHn_FAULT", first := 0x90040, stride := 0x80, count := 16 },
  { name := "DMA_CHn_FOFS", first := 0x90044, stride := 0x80, count := 16 },
  { name := "DMA_CHn_PADDR", first := 0x90048, stride := 0x80, count := 16 },
  { name := "DMA_CTXk", first := 0x90800, stride := 4, count := 16, rws := 0xFFFF01, reset := 1 },
  { name := "DMA_TLBINV", first := 0x90840, wo := 0x8F000FFF },
  { name := "DMA_TLBCNT", first := 0x90844, rc := 0xFFFFFFFF },
  { name := "DMA_REQLOST", first := 0x90848, rc := 0xFFFFFFFF } ]

/-- The register rows of the NVM block (base 0xA0000): 13_cave.md, R452; chapter 21, R638 to R640. -/
def nvmRows : List RegRow := [
  { name := "NVM_ID", first := 0xA0000 },
  { name := "NVM_GEOM", first := 0xA0004 },
  { name := "NVM_BUS", first := 0xA0008, rws := 0x1F3 },
  { name := "NVM_BOOT", first := 0xA000C },
  { name := "NVM_STAT", first := 0xA0010 },
  { name := "NVM_PART", first := 0xA0014 },
  { name := "NVM_SPARE", first := 0xA0018 },
  { name := "NVM_SPWM", first := 0xA001C, rws := 0x3FFF, reset := 0x3E8 },
  { name := "NVM_SPWMSTAT", first := 0xA0020, w1c := 0x80000000 },
  { name := "NVM_RFTHR", first := 0xA0024, rws := 0x1F, reset := 0xA },
  { name := "NVM_WEAR", first := 0xA0028, rws := 0xFFFFFFFF, reset := 0x3E80032 },
  { name := "NVM_RET", first := 0xA002C, rws := 0xFFFFFFFF, reset := 0x7002238 },
  { name := "NVM_WEARLIM", first := 0xA0030, rws := 0xFF, reset := 0x3C },
  { name := "NVM_LOGCFG", first := 0xA0034, rws := 0xFFFF, reset := 0x12C },
  { name := "NVM_REQLO", first := 0xA0038 },
  { name := "NVM_REQHI", first := 0xA003C },
  { name := "NVM_ECCSTAT", first := 0xA0040, rc := 0xFFFFFFFF },
  { name := "NVM_BBSTAT", first := 0xA0044 },
  { name := "NVM_MAXERASE", first := 0xA0048 },
  { name := "NVM_MINERASE", first := 0xA004C },
  { name := "NVM_LOGNEXT", first := 0xA0050 },
  { name := "NVM_LOGOLD", first := 0xA0054 },
  { name := "NVM_LOGLOST", first := 0xA0058, rc := 0xFFFF },
  { name := "NVM_RSEQ", first := 0xA005C },
  { name := "NVM_MOUNT", first := 0xA0060 },
  { name := "NVM_LOGDk", first := 0xA0100, stride := 4, count := 11, wo := 0xFFFFFFFF },
  { name := "NVM_LOGPUSH", first := 0xA012C, wo := 0x13F },
  { name := "NVM_LOGRES", first := 0xA0130 } ]

/-- The register rows of the BAT block (base 0xB0000): 14_battery.md, R487; chapter 21, R638 to R640. -/
def batRows : List RegRow := [
  { name := "BAT_CFG", first := 0xB0000, rws := 0xFFFF0F3F, reset := 0xF040008 },
  { name := "BAT_ISCALE", first := 0xB0004, rws := 0xFFFFFFFF, reset := 0x124F8000 },
  { name := "BAT_IOFS", first := 0xB0008, rws := 0xFFFFFF },
  { name := "BAT_PID", first := 0xB000C, rws := 0xFFFF7F, reset := 0x1E0050 },
  { name := "BAT_CAPNOM", first := 0xB0010, rws := 0xFFFFFFFF },
  { name := "BAT_FULL", first := 0xB0014, rws := 0xFFFFFFFF },
  { name := "BAT_EMPTY", first := 0xB0018, rws := 0xFFFF },
  { name := "BAT_ANCH", first := 0xB001C, rws := 0xFFFFFFFF, reset := 0x53C0032 },
  { name := "BAT_BINS", first := 0xB0020, rws := 0xFFFFFFFF, reset := 0x280064 },
  { name := "BAT_WAKE", first := 0xB0024, rws := 0xFFFFFFFF },
  { name := "BAT_WAKE2", first := 0xB0028, rws := 0x1FFFF, reset := 0x17FFF },
  { name := "BAT_SHIP", first := 0xB002C, rws := 0xFFFF },
  { name := "BAT_NTCTABk", first := 0xB0040, stride := 4, count := 33, rws := 0xFFFFFFFF },
  { name := "BAT_STAT", first := 0xB0100 },
  { name := "BAT_RECIDX", first := 0xB0104, reset := 0xFFFE },
  { name := "BAT_IDLO", first := 0xB0108 },
  { name := "BAT_IDHI", first := 0xB010C },
  { name := "BAT_SOC", first := 0xB0110, reset := 0xFFFFFFFF },
  { name := "BAT_QLO", first := 0xB0114 },
  { name := "BAT_QHI", first := 0xB0118 },
  { name := "BAT_TIMERS", first := 0xB011C },
  { name := "BAT_FAULT", first := 0xB0120, w1c := 0x3FF },
  { name := "BAT_CNT", first := 0xB0124, rc := 0xFFFFFFFF },
  { name := "BAT_EPOCH", first := 0xB0128, rw := 0xFFFFFFFF },
  { name := "BAT_SETSOC", first := 0xB012C, wo := 0xFFFFFFFF },
  { name := "BAT_CURDw", first := 0xB0130, stride := 4, count := 8 },
  { name := "BAT_CAPMEAS", first := 0xB0150 } ]

/-- The register rows of the FUS block (base 0xC0000): 15_fusion.md, R518; chapter 21, R638 to R640. -/
def fusRows : List RegRow := [
  { name := "FUS_STAT", first := 0xC0000, w1c := 0xC0000 },
  { name := "FUS_CHK", first := 0xC0004, rws := 0xFF, reset := 0x3C },
  { name := "FUS_WALK", first := 0xC0008, rws := 0xFFFFFFFF, reset := 0xB3008F },
  { name := "FUS_GRIDT", first := 0xC000C, rws := 0x300FFFF, reset := 0x3000028 },
  { name := "FUS_CNT0", first := 0xC0010, rc := 0xFFFFFFFF },
  { name := "FUS_CNT1", first := 0xC0014, rc := 0xFFFF },
  { name := "FUS_MVER", first := 0xC0018 },
  { name := "FUS_CLSk_THR", first := 0xC0020, stride := 8, count := 6, rws := 0xFFFFFFFF, reset := 0xC0008000 },
  { name := "FUS_CLSk", first := 0xC0024, stride := 8, count := 6, rws := 0x80000007, rc := 0xFFFF00, reset := 0x80000000 },
  { name := "FUS_BODYSTAT", first := 0xC0060 },
  { name := "FUS_CAL", first := 0xC0064, rws := 0xFFFFFFFF, reset := 0xA3C0014 },
  { name := "FUS_LIM", first := 0xC0068, rws := 0xFFFFFF, reset := 0x154E2 },
  { name := "FUS_FRAMEw", first := 0xC0100, stride := 4, count := 24 },
  { name := "FUS_IMUn_CFG", first := 0xC0200, stride := 0x80, count := 2, rws := 0xE80FFFFF, reset := 0x10064 },
  { name := "FUS_IMUn_FETCH", first := 0xC0204, stride := 0x80, count := 2, rws := 0xFF3F, reset := 0x800C },
  { name := "FUS_IMUn_AXMAP0", first := 0xC0208, stride := 0x80, count := 2, rws := 0x9F9F9F9F },
  { name := "FUS_IMUn_AXMAP1", first := 0xC020C, stride := 0x80, count := 2, rws := 0x9F9F },
  { name := "FUS_IMUn_ASCALE..MNTY", first := 0xC0210, stride := 0x80, count := 2, subs := 5, rws := 0xFFFFFFFF },
  { name := "FUS_IMUn_WHOAMI", first := 0xC0224, stride := 0x80, count := 2, rws := 0x1FFFF },
  { name := "FUS_IMUn_INITm", first := 0xC0228, stride := 0x80, count := 2, subs := 8, rws := 0x1FFFF },
  { name := "FUS_IMUn_CR_CP_CY", first := 0xC0248, stride := 0x80, count := 2, subs := 3 },
  { name := "FUS_IMUn_BADFETCH", first := 0xC0254, stride := 0x80, count := 2, rc := 0xFFFF },
  { name := "FUS_INi", first := 0xC0800, stride := 4, count := 32, rw := 0xFFFFFFFF },
  { name := "FUS_SLOTGRP", first := 0xC0880, rws := 0xFFFFFFFF },
  { name := "FUS_SLOTRES", first := 0xC0884, rws := 0xFFFFFFFF },
  { name := "FUS_STALE", first := 0xC0888 },
  { name := "FUS_SPEC", first := 0xC088C, w1c := 0xFFFFFFFF },
  { name := "FUS_AGEi", first := 0xC0900, stride := 4, count := 32, rws := 0xFFFF0000 } ]

/-- The register rows of the AON block (base 0xD0000): 16_rind_lock.md, R548; chapter 21, R638 to R640. -/
def aonRows : List RegRow := [
  { name := "AON_STAT", first := 0xD0000 },
  { name := "AON_CFG", first := 0xD0004, rws := 0xFF001F37, reset := 0x1E000033 },
  { name := "AON_FILTR", first := 0xD0008, rws := 0xFFFFFF, reset := 0x488112 },
  { name := "AON_FILTS", first := 0xD000C, rws := 0xFFFFFF, reset := 0x211111 },
  { name := "AON_INLVL", first := 0xD0010 },
  { name := "AON_WCOUNT", first := 0xD0014 },
  { name := "AON_ALARM", first := 0xD0018, wo := 1 },
  { name := "AON_EVOVF", first := 0xD001C, rc := 0xFFFF },
  { name := "AON_RULEk_CFG", first := 0xD0100, stride := 0x10, count := 16, rws := 0x8777301F },
  { name := "AON_RULEk_PAR", first := 0xD0104, stride := 0x10, count := 16, rws := 0xFFFFFFFF },
  { name := "AON_RULEk_CNT", first := 0xD0108, stride := 0x10, count := 16 },
  { name := "AON_RULEk_STAT", first := 0xD010C, stride := 0x10, count := 16, w1c := 1 } ]

/-- The register rows of the LCK block (base 0xE0000): 16_rind_lock.md, R549; chapter 21, R638 to R640. -/
def lckRows : List RegRow := [
  { name := "LCK_STAT", first := 0xE0000 },
  { name := "LCK_CMD", first := 0xE0004, wo := 0xFFFF0007 },
  { name := "LCK_FLAGS", first := 0xE0008, w1c := 7 },
  { name := "LCK_CFG", first := 0xE000C, rws := 0xF83F3FFF, reset := 0x201008 },
  { name := "LCK_TIME", first := 0xE0010, rws := 0xFFFFFFFF, reset := 0x6409632 },
  { name := "LCK_GUARD", first := 0xE0014, rws := 0xFFF1071F, reset := 0x14000310 },
  { name := "LCK_MOVE", first := 0xE0018 },
  { name := "LCK_CNT", first := 0xE001C, rc := 0xFFFFFFFF } ]

/-- The register rows of the LCS block (base 0xF0000): 17_lifecycle_security.md, R575; chapter 21, R638 to R640. -/
def lcsRows : List RegRow := [
  { name := "LCS_STATE", first := 0xF0000 },
  { name := "LCS_KEYSTAT", first := 0xF0004 },
  { name := "LCS_AUTH", first := 0xF0008 },
  { name := "LCS_OPREQ", first := 0xF000C, rw := 0x3FF000F },
  { name := "LCS_OPGO", first := 0xF0010, wo := 1 },
  { name := "LCS_OPSTAT", first := 0xF0014 },
  { name := "LCS_KEYBUFw", first := 0xF0020, stride := 4, count := 16, wo := 0xFFFFFFFF },
  { name := "LCS_STORESEL", first := 0xF0060, rw := 0x3FF },
  { name := "LCS_STORECNT", first := 0xF0064 },
  { name := "LCS_STOREDv", first := 0xF0080, stride := 4, count := 8 } ]

/-- The register rows of the HLT block (base 0x100000): 18_health_recovery.md, R597; chapter 21, R638 to R640. -/
def hltRows : List RegRow := [
  { name := "HLT_LEVEL", first := 0x100000 },
  { name := "HLT_ADVISE", first := 0x100004, w1c := 0x7FFF },
  { name := "HLT_REDUCED", first := 0x100008, reset := 0x88 },
  { name := "HLT_RETIRED", first := 0x10000C },
  { name := "HLT_DEADW", first := 0x100010 },
  { name := "HLT_LIFEACC", first := 0x100014 },
  { name := "HLT_LIFEBUD", first := 0x100018, rws := 0xFFFFFFFF, reset := 0x12910AE8 },
  { name := "HLT_LIFEPCT", first := 0x10001C },
  { name := "HLT_TEMP", first := 0x100020, reset := 0x80008000 },
  { name := "HLT_CFG1", first := 0x100024, rws := 0xFFFFFFFF, reset := 0x7D101D4C },
  { name := "HLT_CFG2", first := 0x100028, rws := 0xFFFF, reset := 0x3C },
  { name := "HLT_CLR", first := 0x10002C, wo := 0xFFFF0F02 },
  { name := "HLT_BANDn", first := 0x100030, stride := 4, count := 11 },
  { name := "HLT_RUNSEC", first := 0x10005C },
  { name := "HLT_SBYSEC", first := 0x100060 },
  { name := "HLT_XFAILS", first := 0x100064 },
  { name := "HLT_STAT", first := 0x100068, w1c := 7 } ]

/-- The register rows of the PWR block (base 0x110000): 02_clocks_power.md, R77; chapter 21, R638 to R640. -/
def pwrRows : List RegRow := [
  { name := "PWR_STATE", first := 0x110000 },
  { name := "PWR_REQ", first := 0x110004, wo := 0xFFFF000F },
  { name := "PWR_CTRL", first := 0x110008, rws := 0xFF1F, reset := 0x1E02 },
  { name := "PWR_DOMEN", first := 0x11000C, rws := 0x270, reset := 0x3FFF },
  { name := "PWR_DOMRDY", first := 0x110010, reset := 1 },
  { name := "PWR_WAKEEN", first := 0x110014, rws := 0xE, reset := 0xF },
  { name := "PWR_WAKESRC", first := 0x110018, w1c := 0x10F },
  { name := "PWR_LFSTAT", first := 0x11001C, w1c := 6 },
  { name := "PWR_LFCAL", first := 0x110020, reset := 0x2DC6C000 },
  { name := "PWR_SUPPLY", first := 0x110024, w1c := 0x300, reset := 7 } ]

/-- The rows of a block, by bits 23:16 of the address (Table Map.1). -/
def blockRows : Nat → List RegRow
  | 0 => sysRows
  | 1 => lnkRows
  | 2 => cfgRows
  | 3 => angRows
  | 4 => evqRows
  | 5 => tmrRows
  | 6 => adcaRows
  | 7 => adcbRows
  | 8 => aseqRows
  | 9 => dmaRows
  | 10 => nvmRows
  | 11 => batRows
  | 12 => fusRows
  | 13 => aonRows
  | 14 => lckRows
  | 15 => lcsRows
  | 16 => hltRows
  | 17 => pwrRows
  | _ => []

/-- The map row of an address, if a register lies there (R639, R642). -/
def regRow (a : Nat) : Option RegRow := (blockRows (a / 0x10000)).find? (fun r => r.covers a)

/-- The DMA program store, whose words are RWS (R19). -/
def inProgStore (a : Nat) : Bool := decide (0x200000 ≤ a) && decide (a < 0x204000)

/-- The RWS bits of a word: none where no register lies. -/
def rwsMask (a : Nat) : Nat :=
  if inProgStore a then 0xFFFFFFFF else match regRow a with
    | some r => r.rws
    | none => 0

/-- The reset value of a word (chapter 21; 0 where none is listed and in the program store). -/
def resetWord (a : Nat) : Word :=
  if inProgStore a then 0 else match regRow a with
    | some r => BitVec.ofNat 32 r.reset
    | none => 0

end Sys2Proof.Machine
end

