-- ==== Sys2Proof/Machine/State.lean ====
section
/-!
DEFINITION. The state of the LN-880 as plain data: every register, buffer, counter, mode and pin the spec gives the part, and
the queue of waiting commands. INVENTORY.md lists each with the rule that names it and its reset value.
-/

namespace Sys2Proof.Machine

/-- No command of the table stops the machine with a fault: the spec gives every event and every command an effect, so this
type has no constructor and nothing raises it (safe: nothing is hidden behind a fault). -/
inductive Fault where
deriving DecidableEq, Repr

/-- Why a command has no meaning. -/
inductive Refusal where
  /-- A row of the opcode table whose meaning is not written yet; raised by exec alone (safe). -/
  | notModelled (mnemonic : String)
deriving DecidableEq, Repr


/-! ### Clocks and power (02_clocks_power.md) -/

/-- Where the part stands between its supplies and RUN (R49, R56, R62, R76, R82). -/
inductive Phase where
  /-- From a reset until the load commit or the entry into recovery mode; nothing is served. -/
  | startup
  /-- RUN, or DOZE while PWR_CTRL.DOZEEN is 1; recovery mode runs here too. -/
  | run
  /-- STANDBY: CLK_LF only. -/
  | standby
  /-- A wake is under way (Table Power.5). -/
  | waking
  /-- SHIPOFF is high and PD1 to PD13 are held in reset (R62). -/
  | shipping
  /-- A memory test holds the part: only PD0, the TAP and the memory under test work (R568). -/
  | memtest
  /-- VAON has fallen: no clock and no state but what flash and fuses hold. -/
  | unpowered
deriving DecidableEq, Repr

/-- Which entry is in progress. -/
inductive EntryKind where
  | standby
  | ship
deriving DecidableEq, Repr

/-- An entry into STANDBY or SHIP in progress (R52, R62). -/
structure Entry where
  kind : EntryKind
  /-- The step of R52 (or of R52 1 to 4 and then 5 for the announcement of R62) in progress. -/
  step : Nat := 1
  /-- CLK_ANG time of the acceptance. -/
  startedAt : Nat := 0
  /-- CLK_ANG time at which the step in progress began. -/
  stepAt : Nat := 0
  /-- NTC_POWER has entered the ring. -/
  announced : Bool := false
  /-- The number of that NTC_POWER. -/
  noticeNum : Nat := 0
  /-- Wake sources latched during the entry, to abort it at the end of the step (R68). -/
  aborting : Nat := 0
deriving DecidableEq, Repr

/-- One write on its way into a CLK_LF block (R43). -/
structure LfWrite where
  addr : Nat
  value : Word
  /-- The share of a commit, which carries the RWS bits (R167). -/
  commit : Bool := false
  /-- The link engine stalls until this write proceeds. -/
  stalled : Bool := false
  /-- The DMA channel that stalls until this write proceeds (R400). -/
  chan : Option (Fin 16) := none
  /-- A read beat of that channel, which keeps its place behind the writes that were granted before it; `value` is its virtual address (R400). -/
  read : Bool := false
  /-- The command whose response the link engine holds back has made it (R139). -/
  mine : Bool := false
deriving DecidableEq, Repr

/-- The power controller and the supplies. -/
structure PowerSt where
  phase : Phase := .startup
  entry : Option Entry := none
  /-- PWR_STATE.RESULT. -/
  result : Nat := 0
  /-- PWR_STATE.SBYCOUNT. -/
  sbyCount : BitVec 16 := 0
  mainen : Bool := true
  shipoff : Bool := false
  /-- CLK_LF time at which SHIPOFF rose. -/
  shipAt : Nat := 0
  /-- The LF source: false the RC, true the crystal (PWR_LFSTAT.LFSEL). -/
  lfXtal : Bool := false
  /-- The crystal was lost; no return to it until the next power-on (R41). -/
  lfNoReturn : Bool := false
  /-- LFXFAIL has been found since the last power-on; the flag itself may be cleared by the host (R40). -/
  lfFailed : Bool := false
  /-- CLK_LF time of the last power-on, for the 1 s of R40. -/
  porLf : Nat := 0
  /-- An LF switch or LFXFAIL that still owes an NTC_CLOCK (R74). -/
  clockOwed : Bool := false
  /-- CLK_ANG and CLK_LF time at which the present window of 1024 CLK_LF periods began (R42). -/
  calNow : Nat := 0
  calLf : Nat := 0
  /-- CLK_ANG time at which PD6 was last switched on (R46). -/
  pd6On : Nat := 0
  /-- The timers advance on CLK_LF: from step 7 of an entry to the first CLK_LF edge after the PLL has locked (R58, R60). -/
  lfTimers : Bool := false
  /-- CLK_ANG has run since the wake began, so the PLL has locked (R60). -/
  pllOn : Bool := false
  /-- The fraction of a CLK_ANG cycle, in 1/65536, that `now` keeps while it advances by PWR_LFCAL (R58, R245). -/
  nowFrac : Nat := 0
  /-- PWR_DOMRDY bits. -/
  domRdy : Nat := 1
  vdd5Ok : Bool := false
  vioOk : Bool := true
  /-- CLK_ANG time of the last VIO_LOW (R73). -/
  vioLowAt : Nat := 0
  vaonOk : Bool := true
  /-- VIO has been valid for 1 ms and the outputs accept events (R73). -/
  vioReady : Bool := true
  /-- RSTN is low (R79). -/
  rstLow : Bool := false
  /-- Wake sources latched in the wake under way, as in PWR_WAKESRC bits 3:0. -/
  wakeSrc : Nat := 0
  /-- Wake sources that have risen and are not latched yet, as in PWR_WAKESRC bits 3:0 (R55). -/
  wakeReq : Nat := 0
  /-- CLK_LF time of the wake latch. -/
  wakeAt : Nat := 0
  /-- CLK_LF time at which STANDBY began. -/
  standbyAt : Nat := 0
  /-- PLL lock failures in the wake or start-up under way (R72). -/
  pllTries : Nat := 0
  /-- CLK_ANG time of the last event that broke idleness: a wheel leaving rest, or a Jornus command. -/
  activeAt : Nat := 0
  /-- The clock monitor has forced the outputs and the clock-failure reset follows (R72). -/
  clockFail : Bool := false
  /-- Writes in flight into AON, LCK and PWR, oldest first; WPEND is set while one is there (R43). -/
  lfAon : List LfWrite := []
  lfLck : List LfWrite := []
  lfPwr : List LfWrite := []
deriving DecidableEq, Repr

/-! ### The Jornus link (04_jornus_link.md) -/

/-- One entry of the notice ring (R138). -/
structure Notice where
  num : Nat
  code : Nat
  /-- CLK_LF periods since the last POR when it entered (R138). -/
  time : Word
  payload : List Byte
  /-- It has been transmitted at least once. -/
  sent : Bool := false
  /-- It waits to be transmitted, for the first time or again. -/
  queued : Bool := true
  /-- CLK_ANG time of its last transmission. -/
  txAt : Nat := 0
deriving DecidableEq, Repr

/-- What a frame that the part sends carries beside its bytes: the identifier and its format, bit-rate switching, and ESI. Every frame is an
FD frame (R119, R123). -/
structure FrameHead where
  ident : Nat := 0
  ext : Bool := false
  brs : Bool := false
  esi : Bool := false
deriving DecidableEq, Repr

/-- A watermark with its sticky flag (R146). -/
structure Watermark where
  flag : Bool := false
  count : Nat := 0
  peak : Nat := 0
deriving DecidableEq, Repr

/-- The response cache (R134). -/
structure CacheEntry where
  seq : Nat
  op : Nat
  frame : List Byte
deriving DecidableEq, Repr

/-- The states of LNK_STAT.STATE. -/
inductive CanState where
  | errorActive
  | errorPassive
  | busOff
  | integrating
deriving DecidableEq, Repr

/-- The five link settings the controller runs on: NBT, DBT, TDC, IDCFG, IDHI (R151). -/
structure LinkSettings where
  nbt : Word := 0x13134C01
  dbt : Word := 0x06061101
  tdc : Word := 0
  idcfg : Word := 0x520
  idhi : Word := 0
deriving DecidableEq, Repr

/-- What the hardware has set in a register word in one CLK_SYS cycle: the word as it stood before, the bits set, and what the RC fields
written or counted up in the cycle would hold had they begun it at 0 (R8, R9). -/
structure SetNote where
  addr : Nat
  old : Word
  set : Word
  fresh : Word := 0
deriving DecidableEq, Repr

/-- The link engine and the CAN FD controller. -/
structure LinkSt where
  /-- The notice ring, oldest first; at most 32 entries (R138, R143). -/
  ring : List Notice := []
  nextNum : Nat := 1
  retry : Nat := 0
  stale : Bool := false
  cache : Option CacheEntry := none
  can : CanState := .integrating
  /-- The controller's transmit and receive error counters. -/
  txErr : Nat := 0
  rxErr : Nat := 0
  boffCnt : Nat := 0
  /-- The last response frame handed to the controller. -/
  lastResp : List Byte := []
  /-- The last notice frame handed to the controller. -/
  lastNotice : List Byte := []
  /-- The heads of these two frames (R119, R123). -/
  respHead : FrameHead := {}
  noticeHead : FrameHead := {}
  /-- The notices that have arisen in the CLK_SYS cycle `cycAt`, in rising order of code, with the number of entries, the watermark and
  LNK_NTCLOST, with what the cycle had set in it, as they stood before them (R139, R152). -/
  cycAt : Nat := 0
  cycLen : Nat := 0
  cycIn : List (Nat × List Byte) := []
  cycWm : Watermark := {}
  cycLost : Word := 0
  cycNote : Option SetNote := none
  /-- A response that waits for a stalled write into a CLK_LF block (R43, R137). -/
  held : Option (List Byte) := none
  /-- The notices that the command of that response has caused; they enter after it (R139). -/
  heldIn : List (Nat × List Byte) := []
  /-- A RESET with the right key has been answered; the HOST reset follows (R132). -/
  resetPend : Bool := false
  /-- A commit changed link settings that the controller has not taken yet (R151). -/
  settingsPend : Bool := false
  active : LinkSettings := {}
  /-- The notice ring's watermark (R146, R147). -/
  wm : Watermark := {}
deriving DecidableEq, Repr

/-! ### Transactions, commits and self-tests (05_live_configuration.md) -/

/-- CFG_STAT.STATE (Table Cfg.1). -/
inductive TxnState where
  | idle
  | opened
  | armed
  | staging
deriving DecidableEq, Repr

/-- A commit point (R166). -/
inductive CommitPoint where
  | immediate
  | wheelZero (w : Fin 4)
  | timerWrap (t : Fin 16)
deriving DecidableEq, Repr

/-- A WRITE or MODIFY that waits for the commit of one of its words (R161, R170, R178). -/
structure WaitCmd where
  seq : Nat
  op : Nat
  /-- The words after it, still to be written. -/
  rest : List (Nat × Word) := []
  /-- What the response carries if every word is written. -/
  data : List Byte := []
deriving DecidableEq, Repr

/-- A unit's self-test (R177 to R179). -/
inductive SelfTest where
  | idle
  /-- Queued, with the CLK_ANG time of its deadline. -/
  | queued (deadline : Nat)
  /-- Running, with its start and its deadline. -/
  | running (start deadline : Nat)
deriving DecidableEq, Repr

/-- The transaction and commit engine. -/
structure CfgSt where
  state : TxnState := .idle
  /-- Number of the current or last transaction (CFG_STAT.TXNUM). -/
  num : Nat := 0
  nextNum : Nat := 1
  point : CommitPoint := .immediate
  staged : Bool := false
  /-- The stage being filled or armed; 0 if not STAGED. -/
  stage : Nat := 0
  /-- The armed close is the last one. -/
  last : Bool := true
  /-- The shadow bank: each written word once, rising in the address (R162). -/
  shadow : List (Nat × Word) := []
  armedAt : Nat := 0
  stageAt : Nat := 0
  /-- CFG_CTRL as it stood at the open, in units of 10 ms. -/
  armTo : Nat := 100
  stgTo : Nat := 100
  /-- Turn count of the WHEEL_ZERO wheel when its crossing began to be watched. -/
  zeroRef : Int := 0
  /-- The named wheel's zero was passed, or the named timer wrapped, since arming. -/
  pointSeen : Bool := false
  /-- The commit waits for running DMA channels since this CLK_ANG time (Table Cfg.4). -/
  dmaWait : Option Nat := none
  /-- Single-word commits under R10 that wait for a DMA channel or for the end of the angle self-test. -/
  waiting : List (Nat × Word) := []
  /-- The command whose word is the first of these. -/
  waitCmd : Option WaitCmd := none
  /-- Outputs named in the open STAGED transaction (R172). -/
  named : Nat := 0
  /-- DMA channels whose program range a word written in the present transaction lies in (R173, R176). -/
  namedCh : Nat := 0
  /-- CFG_HOLD and CFG_HOLDCH. -/
  hold : Nat := 0
  holdCh : Nat := 0
  /-- CFG_LAST. -/
  lastCause : Nat := 0
  lastAddr : Nat := 0
  /-- CFG_STAT.DMACH. -/
  dmaCh : Nat := 0
  testAngle : SelfTest := .idle
  testAdcA : SelfTest := .idle
  testAdcB : SelfTest := .idle
  testFusion : SelfTest := .idle
deriving DecidableEq, Repr


/-! ### Start-up (03_startup_image.md) -/

/-- Where the start-up stands (R76, R82). -/
inductive BootStage where
  /-- Waiting for VDD5, or for the release of RSTN. -/
  | supply
  /-- Oscillator, PLL and the NAND's own power-up. -/
  | nandWait
  /-- Reading the first page of every block of the image partition. -/
  | scan
  /-- Reading the candidate of a slot. -/
  | candidate (slot : Nat)
  /-- The candidate of a slot has passed; the load commit follows. -/
  | passed (slot : Nat)
  | loaded
  | recovery
deriving DecidableEq, Repr

/-- The start-up loader and what it leaves behind. -/
structure BootSt where
  stage : BootStage := .supply
  /-- The load commit has been made since the last reset. -/
  loaded : Bool := false
  /-- Recovery mode (R112). -/
  recovery : Bool := false
  /-- CLK_ANG time from which the NAND power-up wait runs. -/
  waitAt : Nat := 0
  /-- Candidates still to be tried, as slots, and whether one has failed. -/
  cands : List Nat := []
  /-- The first candidate's slot. -/
  first : Option Nat := none
  errA : Nat := 0
  errB : Nat := 0
  global : Nat := 0
  model : Nat := 0
  repair : Bool := false
  fallback : Bool := false
  /-- The loaded slot: 0 A, 1 B. -/
  copy : Option Nat := none
  imgVer : Word := 0
  imgBuild : Word := 0
  imgGen : Word := 0
  /-- The MODEL section kept in retention: slot, table position and DIGEST (R110). -/
  modelSlot : Nat := 0
  modelPos : Option Nat := none
  modelDigest : List Byte := []
  /-- CLK_ANG time of the load commit, for the timeouts of R89. -/
  loadAt : Nat := 0
  /-- CLK_ANG time from which the tooth inputs' timeouts of R89 run: the load commit, or RUN reached after a wake. -/
  toothAt : Nat := 0
deriving DecidableEq, Repr

/-! ### Wheels and phase (06_wheel_tracking.md, 07_angle_interpolation_phase.md) -/

/-- The sync states of R196, in code order. -/
inductive Sync where
  | silent
  | seek
  | provisional
  | locked
  | coast
  | lost
deriving DecidableEq, Repr

/-- ANG_Wn_STATE.DIR. -/
inductive Dir where
  | unknown
  | forward
  | reverse
deriving DecidableEq, Repr

/-- ANG_Wn_ISTAT.ACTIVE (R226). -/
inductive Interp where
  | hold
  | plain
  | accel
deriving DecidableEq, Repr

/-- One wheel tracker. -/
structure WheelSt where
  /-- The A and B inputs as SYS_INSTAT0 codes them. -/
  lvlA : InLevel := .unknown
  lvlB : InLevel := .unknown
  /-- B's level before its last transition, for an A transition of the same cycle (R201). -/
  lvlBWas : InLevel := .unknown
  /-- CLK_ANG time of each input's last transition. -/
  tranA : Nat := 0
  tranB : Nat := 0
  /-- VR: the positive peak of the previous tooth in mV, 0 when there is none (R190). -/
  peak : Nat := 0
  sync : Sync := .silent
  /-- The direction of travel at the last counted edge. -/
  dir : Dir := .unknown
  /-- QUAD: the direction at the last A transition, counted or not (R201). -/
  quadDir : Dir := .unknown
  /-- Tooth of the last counted edge. -/
  tooth : Nat := 0
  /-- A counted edge has been taken since SILENT. -/
  hasEdge : Bool := false
  /-- CLK_ANG time of the last counted edge, as timestamped (R191). -/
  tLast : Nat := 0
  /-- Periods and their widths, newest first. -/
  hist : List (Nat × Nat) := []
  /-- Edges counted in SEEK since it was entered. -/
  seekEdges : Nat := 0
  /-- Consecutive passes in PROVISIONAL. -/
  confirm : Nat := 0
  /-- Consecutive misses in LOCKED. -/
  miss : Nat := 0
  /-- Coming edges whose ratio is not checked, the next at bit 0 (R198). -/
  uncheck : Nat := 0
  /-- The last counted edge was the first after SILENT or standstill (R205). -/
  second : Bool := false
  /-- Tooth of the last edge that passed the forward ratio check, and the edges since (R202). -/
  anchor : Nat := 0
  sinceAnchor : Nat := 0
  standstill : Bool := true
  coarse : Bool := false
  /-- Counted edges until SETTLING clears (R200). -/
  settleLeft : Nat := 0
  /-- Counted edges until REVERSAL clears (R203). -/
  revLeft : Nat := 0
  dirPend : Bool := false
  zeroArb : Bool := false
  /-- Speed at the last edge, signed 16.16 rev/s (R204). -/
  speed : Int := 0
  accel : Int := 0
  /-- VCOUNT (R225). -/
  valid : Nat := 0
  active : Interp := .hold
  /-- The running tooth's predicted duration, shape and width (R227). -/
  pred : Nat := 0
  beta : Int := 0
  wnext : Nat := 0
  /-- Turns times 2^22 plus the reported position at the last counted edge (R221, R222). -/
  lin : Int := 0
  /-- Angle word at the last counted edge (ANG_Wn_EDGEANG). -/
  edgeAng : Word := 0
  /-- Counted edges (ANG_Wn_EDGES). -/
  edges : Word := 0
  /-- ANG_Wn_PERIOD, and the time of ANG_Wn_EDGET. -/
  period : Nat := 0
  edgeT : Option Nat := none
  /-- CLK_ANG time since which the state is neither SILENT, LOCKED nor COAST (R217). -/
  badSince : Nat := 0
  /-- CLK_ANG time since which the wheel has been SILENT or at standstill. -/
  restSince : Nat := 0
deriving DecidableEq, Repr

/-- One sample of a BRACKET channel that waits for wheel A's next edge: t_B and theta_B (R235). -/
structure PhaseSample where
  t : Nat
  theta : Nat
deriving DecidableEq, Repr

/-- An edge of wheel A at a phase channel: the interval that it ends, whether it drops the samples that wait on that, and whether A leaves
LOCKED with it (R235, R238). -/
structure PhaseEdgeA where
  lin0 : Int
  t0 : Nat
  lin1 : Int
  t1 : Nat
  drop : Bool
  lost : Bool
deriving DecidableEq, Repr

/-- An edge of wheel B at a phase channel (R234, R238). -/
structure PhaseEdgeB where
  reversal : Bool
  lost : Bool
deriving DecidableEq, Repr

/-- What a channel held before the CLK_ANG cycle `at_`, and the edges of its wheels in that cycle: that of A goes first (R242). -/
structure PhaseCycle where
  at_ : Nat
  edgeA : Option PhaseEdgeA := none
  edgeB : Option PhaseEdgeB := none
  sum : Int
  count : Nat
  waiting : List PhaseSample
  valid : Bool
  /-- RAW, PHASE, TORQUE, STAT and TIME. -/
  words : List Word
  /-- What the cycle had set in STAT. -/
  note : Option SetNote
deriving DecidableEq, Repr

/-- One phase channel (R233 to R238). -/
structure PhaseSt where
  sum : Int := 0
  count : Nat := 0
  waiting : List PhaseSample := []
  valid : Bool := false
  cycle : Option PhaseCycle := none
deriving DecidableEq, Repr

/-- The bias check in progress (R214): the input 0 to 7 and its start. -/
structure BiasSt where
  running : Option (Nat × Nat) := none
  /-- CLK_ANG time from which the next check may start. -/
  dueAt : Nat := 0
  /-- Inputs still to be served in this round, rising. -/
  queue : List Nat := []
deriving DecidableEq, Repr

/-! ### Event queues and outputs (08_angle_events.md) -/

/-- An event descriptor: four words (Table Event.1). -/
structure EventDesc where
  target : Word
  arg : Word
  rep : Word
  ctl : Word
deriving DecidableEq, Repr

/-- A speculative firing that waits for its bounding edge (R266). -/
structure Firing where
  target : Word
  firedAt : Nat
  action : Nat
  comp : Nat
  /-- The wheel that it waits for, and its queue's direction, as they were when it fired. -/
  wheel : Fin 4
  dirq : Int
  /-- The logical level before it fired. -/
  before : Bool
deriving DecidableEq, Repr

/-- A pulse end that is still pending on an output (R259, R260). -/
inductive PulseEnd where
  /-- PULSE_T: the CLK_ANG time at which it runs as CLEAR. -/
  | atTime (t : Nat)
  /-- PULSE_A: the angle word at which it runs as CLEAR. -/
  | atAngle (word : Word)
  /-- A probe pulse, with its end. -/
  | probe (t : Nat)
deriving DecidableEq, Repr

/-- One event output with its queue. -/
structure OutSt where
  /-- The queue in key order, at most 16 (R254). -/
  queue : List EventDesc := []
  /-- Commanded level and logical level (R263); true is active. -/
  cmd : Bool := false
  lvl : Bool := false
  /-- CLK_ANG time of the last step 4 that set the logical level, and the level in the cycle before it (R263). -/
  lvlAt : Nat := 0
  prev : Bool := false
  /-- CLK_ANG time at which the logical level last became 0. -/
  offSince : Nat := 0
  pulse : Option PulseEnd := none
  /-- The samples that PROBEs still owe: time, trigger line and SPEC tag of each (R260). -/
  samples : List (Nat × Nat × Bool) := []
  /-- CLK_ANG time at which the head last left the queue: one event leaves it in a cycle (R255). -/
  headAt : Option Nat := none
  /-- Speculative firings, oldest first, at most 16 (R267). -/
  pend : List Firing := []
  chop : Bool := false
  /-- CLK_ANG time at which the chop began (TIMED). -/
  chopAt : Nat := 0
  holdLock : Bool := false
  holdTest : Bool := false
  holdVio : Bool := false
  /-- An event has fired on it or a hold has begun since the load commit or the wake (R285). -/
  driven : Bool := false
  fallback : Bool := false
  /-- The fallback's anchor: time and angle word (R261). -/
  fbTime : Nat := 0
  fbAngle : Word := 0
deriving DecidableEq, Repr

/-- A bus master's own copy of the registers of R644. -/
structure MasterCopy where
  /-- EVQ_INS0 to EVQ_INS3. -/
  ins : List Word := [0, 0, 0, 0]
  insStat : Word := 0
  /-- TMR_RLATCH: the latched register and timer with bits 47:32, and MISS. -/
  rlatch : Option (Bool × Nat × Nat) := none
  rmiss : Bool := false
  /-- TMR_WLATCH. -/
  wlatch : Nat := 0
  /-- NVM_LOGD0 to NVM_LOGD10 and NVM_LOGRES. -/
  logd : List Word := [0, 0, 0, 0, 0, 0, 0, 0, 0, 0, 0]
  logRes : Word := 0
deriving DecidableEq, Repr

/-! ### Timers (09_timers.md) -/

/-- One timer. Its counts come in lazily: `owed` holds those beyond TOP that TIMER_WRAP has yet to make, `passA` and `passB`
the matches of earlier cycles that TIMER_MATCH has yet to make (log entry 9). -/
structure TimerSt where
  /-- Released (STAT.RUN). -/
  run : Bool := false
  count : Nat := 0
  cap : Nat := 0
  capf : Bool := false
  lvl : Bool := false
  /-- The prescaler accumulator (R289). -/
  acc : Nat := 0
  /-- The 16-bit fraction of a cycle carried between CLK_LF periods (R58). -/
  frac : Nat := 0
  actA : Nat := 0xFFFFFFFFFFFF
  actB : Nat := 0xFFFFFFFFFFFF
  pendA : Option Nat := none
  pendB : Option Nat := none
  owed : Nat := 0
  passA : Bool := false
  passB : Bool := false
  /-- COUNT entered its present value in this very cycle (R296). -/
  fresh : Bool := false
  /-- The last count, or the last of those owed, falls in this very cycle. -/
  tickNow : Bool := false
  /-- The match that this cycle's COUNT makes has been made (R296). -/
  tookA : Bool := false
  tookB : Bool := false
  /-- A pulse of the master of a LINK timer, counted in the next cycle (R287, R299). -/
  link : Bool := false
  /-- CLK_ANG and CLK_LF time of the last MATCHB, since LVL is cleared when both matches share a cycle (Table Timer.1). -/
  bAt : Option (Nat × Nat) := none
  /-- The CLK_ANG cycles of the release, the RESET load and the captures that are due (R293, R300, R302). -/
  relDue : Option Nat := none
  rstDue : Option Nat := none
  capDue : List Nat := []
  /-- Compare writes on their way, in grant order: the cycle in which one applies, whether it is channel B's, and its value (R295). -/
  cmpDue : List (Nat × Bool × Nat) := []
  /-- The cycle of the last NTC_TIMER and the flags it carries (R306). -/
  ntcAt : Option (Nat × Nat) := none
  /-- A START master pulse has come since the load commit (R300). -/
  started : Bool := false
deriving DecidableEq, Repr

/-! ### Converters and sequences (10_converters.md, 11_conversion_sequencing.md) -/

/-- One slice (Table Conv.10). -/
structure SliceSt where
  /-- SOFS and SGAIN; the OTP trims at a reset (R351, log entry 12). -/
  sofs : Int := 0
  sgain : Int := 0
  passes : BitVec 16 := 0
  noise : BitVec 8 := 0
  fails : Nat := 0
  cause : Nat := 0
  retired : Bool := false
  /-- The coefficients came from a passing pass (Table Conv.4, DRIFT). -/
  fromPass : Bool := false
deriving DecidableEq, Repr

/-- One request of a sequence (R358, R367). -/
structure SeqReq where
  entry : Nat
  /-- Repeat number within the entry, from 0. -/
  rep : Nat := 0
  spec : Bool := false
  /-- The entry word, once a conversion of the entry has started under it (Table Cfg.4). -/
  word : Option Word := none
  /-- The same for the partner's entry word of a pair (R368). -/
  wordB : Option Word := none
  /-- CLK_CONV cycle in which it is pending. -/
  pendAt : Nat := 0
  /-- The cycle that DLY counts from, of an entry that has not started: a commit fixes its DLY anew (R358, Table Cfg.4). -/
  base : Option Nat := none
  /-- WAIT of such an entry is still to be looked at: no trigger has led to it (R359). -/
  waits : Bool := false
deriving DecidableEq, Repr

/-- One conversion a slice runs, with the fields it took at its start (R321, R322). -/
structure ConvJob where
  slice : Fin 9
  inj : Bool
  req : SeqReq
  /-- The entry word as this converter runs it. -/
  word : Word
  /-- CLK_CONV cycle of its start. -/
  start : Nat
  /-- The channel's two configuration words at the start. -/
  chan : Word
  trim : Word
  sofs : Int
  sgain : Int
  /-- One half of a cross-check (R370). -/
  xchk : Bool := false
deriving DecidableEq, Repr

/-- The configuration and threshold words of a comparator that a commit has replaced, and the last CLK_ANG cycle whose sample they
decide (R347). -/
structure CmpLevels where
  upTo : Nat
  cfg : Word
  thr : Word
deriving DecidableEq, Repr

/-- One window comparator (R337, R338). -/
structure CmpSt where
  active : Bool := false
  ready : Bool := false
  /-- CLK_ANG time since which it has been active. -/
  since : Nat := 0
  /-- CLK_ANG time at which it last started (R338). -/
  startAt : Nat := 0
  /-- The levels of the last 16 cycles that are no longer live, newest first (R347). -/
  levels : List CmpLevels := []
deriving DecidableEq, Repr

/-- One converter: slices, rotation, conversions in flight and comparators. -/
structure AdcSt where
  slices : Vector SliceSt 9 := Vector.replicate 9 {}
  /-- The active slices, as ADCx_STAT.ACTIVE. -/
  active : Nat := 0x0FF
  spare : Option (Fin 9) := some 8
  /-- The slice given the previous request; S0 is next after S8 (R320). -/
  last : Fin 9 := 8
  /-- The slice that leaves the active ones once it is free (R333, R343). -/
  outgoing : Option (Fin 9) := none
  /-- The spare's calibration pass is in progress or to be restarted (R330, R333). -/
  passRun : Bool := false
  /-- The spare's latest pass has passed since the last handover. -/
  passOk : Bool := false
  /-- CLK_ANG time of the next rotation boundary. -/
  rotAt : Nat := 0
  /-- The rotation was stopped by its domain going off; it resumes with a new boundary count (R350). -/
  stopped : Bool := false
  jobs : List ConvJob := []
  cmps : Vector CmpSt 8 := Vector.replicate 8 {}
deriving DecidableEq, Repr

/-- Table Seq.3. -/
inductive SeqState where
  | idle
  | run
  | wait
  | preempted
deriving DecidableEq, Repr

/-- A pulse or a software trigger on its way to a sequence (R356). -/
structure TrigReq where
  /-- CLK_CONV cycle of acceptance. -/
  due : Nat
  /-- The TSRC code that names its source; 0 for a software trigger (Table Seq.2). -/
  src : Nat
  spec : Bool
deriving DecidableEq, Repr

/-- A DMA request that waits for its line (R365). -/
structure LineReq where
  /-- CLK_CONV cycles of the result's write and of the conversion's start. -/
  wrote : Nat
  start : Nat
  entry : Nat
  spec : Bool
deriving DecidableEq, Repr

/-- One sequence. -/
structure SeqSt where
  state : SeqState := .idle
  pos : Nat := 0
  /-- Passes completed since the last trigger in IDLE. -/
  passes : Nat := 0
  pend : Option SeqReq := none
  /-- Requests to be issued again after a pre-emption, in order (R367). -/
  reissue : List SeqReq := []
  /-- Tag of the requests made pending (R364). -/
  spec : Bool := false
  /-- A trigger held while the injected sequence runs, with its tag (R366). -/
  held : Option Bool := none
  /-- The request that started last, from which the next one follows (R358). -/
  lastReq : Option SeqReq := none
  /-- Triggers on their way, by rising cycle of acceptance (R356). -/
  trig : List TrigReq := []
  /-- The CLK_CONV cycles in which a STOP that has been written is accepted (R361). -/
  stops : List Nat := []
  /-- The requests that wait for the sequence's DMA request line, in order, and the first CLK_CONV cycle in which the line may deliver
  again (R365). -/
  reqs : List LineReq := []
  reqAt : Nat := 0
  /-- CLK_CONV cycle in which the present run of an injected sequence was accepted (R376). -/
  since : Nat := 0
deriving DecidableEq, Repr

/-! ### DMA (12_dma.md) -/

/-- Table DMA.1. -/
inductive ChState where
  | idle
  | run
  | wait
  | suspended
  | halted
  | done
deriving DecidableEq, Repr

/-- One open loop: the word after its LOOP, and the runs that remain; none without end (R390). -/
structure LoopFrame where
  body : Nat
  left : Option Nat
deriving DecidableEq, Repr

/-- A MOVE in progress (R387, R394). -/
structure MoveSt where
  /-- Range bytes read and written, units done. -/
  got : Nat := 0
  put : Nat := 0
  nr : Nat := 0
  nw : Nat := 0
  /-- The start of the source and of the destination range. -/
  src : Nat
  dst : Nat
  /-- The holding register: the range bytes read and not yet written, in order. -/
  hold : List Byte := []
deriving DecidableEq, Repr

/-- The work of a channel that needs beats. -/
inductive BeatWork where
  | none
  | move (m : MoveSt)
  | set (addr : Nat) (value : Word)
deriving DecidableEq, Repr

/-- What has happened to a level in one CLK_SYS cycle (R403). -/
structure LevelCycle where
  cyc : Nat
  /-- The level before the cycle, the level with the cycle's increments only, and what was subtracted. -/
  was : Nat
  up : Nat
  down : Nat := 0
deriving DecidableEq, Repr

/-- What a channel does when the beat ends that is parked when it is told to stop (R408, R409). -/
inductive AfterBeat where
  /-- It is IDLE, the beat's own effects done. -/
  | stop
  /-- Its program has changed under it: it is IDLE, or starts again where EN is 1. -/
  | drop
  | restart
deriving DecidableEq, Repr

/-- One channel (Table DMA.8). -/
structure DmaCh where
  state : ChState := .idle
  /-- Word offset of the current instruction. -/
  pc : Nat := 0
  a : List Nat := [0, 0, 0, 0]
  loops : List LoopFrame := []
  tag : Bool := false
  work : BeatWork := .none
  /-- Reissues of the beat in hand (R412). -/
  tries : Nat := 0
  /-- Its beat is in flight in the queue of a CLK_LF block: a write that waits for WPEND, or an access behind such a write; it completes when it
  proceeds (R400, R402). -/
  parked : Bool := false
  /-- It is to stop at the end of the beat that is parked (R52, R408, R409). -/
  after : Option AfterBeat := none
  /-- The WAIT's condition has been met, with its SPEC bit. -/
  met : Option Bool := none
  sig : Nat := 0
  sigSpec : Nat := 0
  level : Nat := 0
  /-- The CLK_SYS cycle in which LEVEL was last changed, while its watermark has not been tested (R403). -/
  lvl : Option LevelCycle := none
  wm : Watermark := {}
  /-- The fault record (R410, R412). -/
  fCause : Nat := 0
  fWrite : Bool := false
  fVaddr : Nat := 0
  fOffset : Nat := 0
  fPaddr : Nat := 0
deriving DecidableEq, Repr

/-- One translation cache entry (R398). -/
structure TlbEntry where
  ctx : Nat
  page : Nat
  frame : Nat
  rd : Bool
  wr : Bool
deriving DecidableEq, Repr

/-- What the channels share. -/
structure DmaSt where
  chs : Vector DmaCh 16 := Vector.replicate 16 {}
  /-- The translation cache, the most recently used entry first. -/
  tlb : List TlbEntry := []
  /-- Writes of DMA_TLBINV, each with its CLK_SYS cycle: a walk that fills an entry in that cycle comes before it (R407). -/
  inv : List (Nat × Word) := []
  /-- The channel served last. -/
  last : Fin 16 := 15
deriving DecidableEq, Repr

/-! ### The NAND and the cave (13_cave.md) -/

/-- One page: its main area and its spare area. A run names a page by its main bytes and the spare bytes before the parity, and it is programmed
with the parity and the 0xFF bytes beyond (R417, R421, R422, Table Cave.4). An erased page is not listed. -/
structure NandPage where
  main : List Byte := []
  oob : List Byte := []
deriving DecidableEq, Repr

/-- One page operation (R30, R417). -/
inductive NandOp where
  | read (row : Nat)
  | program (row : Nat) (page : NandPage)
  | erase (block : Nat)
deriving DecidableEq, Repr

/-- What a run of page operations is for. -/
inductive JobKind where
  /-- The first page of every block of the image partition (R91). -/
  | scan
  /-- The pages of a candidate (R107). -/
  | candidate (slot : Nat)
  /-- The MODEL section of a slot (R106); `other` says that it is the other slot's (R116). -/
  | model (slot : Nat) (other : Bool)
  /-- The rewrite of a failed slot from the loaded copy (R111). -/
  | repair (slot : Nat)
  /-- The rewrite of the slot that is not loaded, with a GEN (R440). -/
  | imgRefresh (slot gen : Nat)
  | mount
  | recWrite
  | recFetch (kind index : Nat)
  | logFetch (num : Nat)
  /-- The pack records that a session needs before it opens (R115, R473). -/
  | sessFetch
  | logProgram
  | ctab
  /-- Erases and headers of the pool blocks whose header fails at a rebuild (R427). -/
  | rebuild
  /-- Collection of a RECORDS block (R433). -/
  | collect (block : Nat)
  /-- A refresh or wear-levelling move of a pool block (R440, R442). -/
  | move (src dst : Nat)
  /-- Retirement of a block: its erase and the marker page (R443). -/
  | retire (block : Nat)
  /-- Image update: one filled page, the end, the read-back check, and the erase of block 0 (R437). -/
  | imgPage
  | imgEnd
  | imgCheck
  | imgDrop (slot : Nat)
  /-- One page of the refresh pass (R441). -/
  | scrub (row : Nat)
  /-- The operation under way of a run that has been dropped, which goes to its end (R446). -/
  | rest
deriving DecidableEq, Repr

/-- One run of page operations: those still to be made, and the rows that could not be corrected. -/
structure NandJob where
  kind : JobKind
  /-- The priority of R30. -/
  prio : Nat
  todo : List NandOp
  bad : List Nat := []
  /-- A program or an erase has ended with P_FAIL or E_FAIL, in this block. -/
  failed : Option Nat := none
deriving DecidableEq, Repr

/-- The NAND device and its controller. -/
structure NandSt where
  present : Bool := false
  id : BitVec 16 := 0
  /-- Page bytes, pages per block, blocks used. -/
  page : Nat := 2048
  ppb : Nat := 64
  /-- Bytes of a page's spare area. -/
  spare : Nat := 64
  blocks : Nat := 0
  /-- Block number bit 0 goes into the column address (R416). -/
  plane : Bool := false
  /-- Block protection did not read back 0x00 (R418). -/
  protect : Bool := false
  /-- The pages, by row; power and resets leave them. -/
  pages : List (Nat × NandPage) := []
  /-- Runs that wait or are served, in order of arrival. -/
  jobs : List NandJob := []
  /-- The run whose page operation is under way. -/
  act : Option JobKind := none
  /-- Retries of the operation under way (R83). -/
  tries : Nat := 0
  /-- NVM_BUS as it stands at the device; a commit applies at the next page-operation boundary (R420). -/
  bus : Word := 0x30
deriving DecidableEq, Repr

/-- NVM_STAT.STATE. -/
inductive CaveMode where
  | unmounted
  | mounting
  | mounted
  | readonly
  | failed
deriving DecidableEq, Repr

/-- One log entry (Table Cave.9). -/
structure LogEntry where
  num : Nat
  mount : Nat
  time : Word
  src : Nat
  payload : List Byte
deriving DecidableEq, Repr

/-- A record write (R430, R432). -/
structure RecWrite where
  kind : Nat
  index : Nat
  version : Nat
  body : List Byte
  time : Word
deriving DecidableEq, Repr

/-- An image update in progress (R437). -/
structure ImgUpd where
  slot : Nat
  gen : Nat
  len : Nat
  count : Nat
  /-- Bytes received. -/
  got : Nat := 0
  /-- The good blocks still free in the slot, and those the copy uses, in INDEX order. -/
  free : List Nat := []
  used : List Nat := []
  /-- Received bytes of the page being filled. -/
  buf : List Byte := []
  /-- Full pages that wait to be programmed. -/
  full : List (List Byte) := []
  /-- Pages programmed or being programmed. -/
  pages : Nat := 0
  /-- IMG_END has been accepted. -/
  ended : Bool := false
deriving DecidableEq, Repr

/-- The cave in RAM; what the NAND holds is in NandSt. -/
structure CaveSt where
  mode : CaveMode := .unmounted
  /-- Bad blocks of the CTAB, rising, and how many of them were retired. -/
  bad : List Nat := []
  grown : Nat := 0
  cseq : Nat := 0
  /-- The BBT block in use and its next erased page. -/
  ctabBlock : Nat := 0
  ctabPage : Nat := 0
  mount : Nat := 0
  /-- REQ, in units of 1/64 of an equivalent minute at 55 °C (R438). -/
  req : Nat := 0
  reqCheck : Nat := 0
  /-- The open block and its next slot or page. -/
  recOpen : Option (Nat × Nat) := none
  logOpen : Option (Nat × Nat) := none
  /-- The BSEQ given to each of them when it was opened. -/
  recBseq : Nat := 0
  logBseq : Nat := 0
  rseq : Nat := 1
  bseq : Nat := 1
  /-- Record writes that wait, oldest first; the one being programmed and its block and slot. -/
  recQueue : List RecWrite := []
  recBusy : Option (RecWrite × Nat × Nat) := none
  logNext : Nat := 1
  /-- The buffer being filled, and the one that waits to be programmed or is. -/
  logCur : List LogEntry := []
  logProg : List LogEntry := []
  /-- The buffer being filled is to be programmed as soon as the other one is free. -/
  logForce : Bool := false
  /-- CLK_ANG time at which the oldest entry of the buffer being filled was made. -/
  logAt : Nat := 0
  /-- Page reads of each block since its last erase or refresh (R439). -/
  reads : List (Nat × Nat) := []
  /-- Blocks that a corrected read has made due for refresh. -/
  due : List Nat := []
  /-- REQSTAMP of the image blocks written since the mount, and the CTAB checkpoint that the mount found, which the others have (R439, log entry
  27). -/
  imgStamp : List (Nat × Nat) := []
  mountReq : Nat := 0
  /-- Blocks to be retired once nothing needs them (R443). -/
  doomed : List Nat := []
  /-- NVM_SPWM's watermark. -/
  wm : Watermark := {}
  /-- LEVEL when it was last looked at, to find its crossings. -/
  level : Nat := 10000
  poolFlag : Bool := false
  imgUpd : Option ImgUpd := none
  imgRef : Bool := false
  /-- The refresh pass: running, its next row, and the CLK_ANG time it began. -/
  pass : Bool := false
  passRow : Nat := 0
  passAt : Nat := 0
  /-- CLK_ANG times of the next retention tick, CTAB checkpoint and wear-levelling check. -/
  tickAt : Nat := 0
  ckptAt : Nat := 0
  wearAt : Nat := 0
  /-- The record and the log entry fetched last for the link (REC_READ, LOG_READ). -/
  recCache : Option (Nat × Nat × List Byte) := none
  logCache : Option LogEntry := none
  /-- No valid CTAB of this geometry was found at the mount (R427). -/
  rebuilt : Bool := false
  /-- The step of R427 whose reads are made, from 0 (the first pages of the BBT blocks); 7 once step 6 is queued; and the rows that have
  been read. -/
  mountStep : Nat := 0
  seen : List Nat := []
  /-- Rows of which a sector has proved uncorrectable (R423, R431). -/
  unread : List Nat := []
deriving DecidableEq, Repr

/-! ### Health (18_health_recovery.md) -/

/-- The health block, and the retirement masks of the internal header (R587). -/
structure HealthSt where
  deadW : Nat := 0
  /-- NOTIFIED: bit 0 SPARE_POOL, 1 LIFE, 2 MODEL. -/
  notified : Nat := 0
  sparePool : Bool := false
  life : Bool := false
  /-- LIFEPCT was above LIFEADV at the last count (R580). -/
  lifeAdv : Bool := false
  model : Bool := false
  slice : Bool := false
  lifeAcc : Nat := 0
  lrem : Nat := 0
  /-- CLK_LF periods in each band since the last POR. -/
  bands : List Nat := [0, 0, 0, 0, 0, 0, 0, 0, 0, 0, 0]
  /-- Minutes in each band that the record held at mount. -/
  bandsKept : List Nat := [0, 0, 0, 0, 0, 0, 0, 0, 0, 0, 0]
  runSec : Nat := 0
  sbySec : Nat := 0
  /-- RUNSEC and SBYSEC at the last reset: the record adds only what was counted since. -/
  runBase : Nat := 0
  sbyBase : Nat := 0
  runSecKept : Nat := 0
  sbySecKept : Nat := 0
  /-- Health temperatures in 0.01 °C; −32768 before the first reading. -/
  tj : Int := -32768
  tjMax : Int := -32768
  /-- The last die temperature, and the highest and lowest ever. -/
  tjEver : Int := -32768
  tjLow : Int := 32767
  tjDie : Int := -32768
  /-- CLK_LF periods of STANDBY in each band that REQ has not taken up yet (R438). -/
  sbyBands : List Nat := [0, 0, 0, 0, 0, 0, 0, 0, 0, 0, 0]
  /-- Fractional STANDBY time for SBYSEC, in CLK_LF periods. -/
  sbyFrac : Nat := 0
  resets : Nat := 0
  pors : Nat := 1
  resetsKept : Nat := 0
  porsKept : Nat := 0
  xfails : Nat := 0
  /-- The HEALTH record has been taken since the last reset. -/
  mounted : Bool := false
  /-- CLK_LF time of the last accounting second of RUN and DOZE (R577). -/
  tempAt : Nat := 0
  /-- Health notices that enter in the next CLK_SYS cycle, in their order (R584). -/
  soon : List (Nat × List Byte) := []
  /-- CLK_ANG time at which the next HEALTH record is due. -/
  writeAt : Nat := 0
  /-- The retirement masks in the internal header of the internal store; no reset clears them. -/
  retA : Nat := 0
  retB : Nat := 0
deriving DecidableEq, Repr

/-! ### Battery (14_battery.md) -/

/-- The session states of Table Bat.3. -/
inductive PackState where
  | empty
  | ident
  | active
  | grace
  | reident
  | unknown
deriving DecidableEq, Repr

/-- A pack record (Table Bat.6). Charges are in units of 2^-16 mAs; list items stand in the order of the layout. -/
structure PackRec where
  id : Nat := 0
  first : Nat := 0
  last : Nat := 0
  lastSess : Nat := 0
  sessions : Nat := 0
  cycles : Nat := 0
  opened : Bool := false
  anch : Bool := false
  uncert : Bool := false
  capv : Bool := false
  fullv : Bool := false
  emptyv : Bool := false
  socrep : Nat := 0xFFFF
  q : Int := 0
  qa : Int := 0
  sa : Nat := 0
  akind : Nat := 0
  capmeas : Nat := 0
  qfull : Int := 0
  qempty : Int := 0
  qin : Nat := 0
  qout : Nat := 0
  cycacc : Nat := 0
  /-- NFULL, NEMPTY, NHOST, GAPS. -/
  counts : List Nat := [0, 0, 0, 0]
  /-- VMAX, VMIN, ICMAX, IDMAX before any curd are the model's choice (log entry 30). -/
  vmax : Nat := 0
  vmin : Nat := 0xFFFFFFFF
  icmax : Int := 0
  idmax : Int := 0
  tmax : List Int := [-32768, -32768, -32768, -32768]
  tmin : List Int := [-32768, -32768, -32768, -32768]
  ztab : List Nat := List.replicate 64 0xFFFF
  zcnt : List Nat := List.replicate 64 0
  htemp : List Nat := List.replicate 16 0
  hsoc : List Nat := List.replicate 16 0
  hcur : List Nat := List.replicate 16 0
  hdod : List Nat := List.replicate 16 0
  /-- The 16 session summaries, 32 bytes each. -/
  sess : List Byte := List.replicate 512 0
deriving DecidableEq, Repr

/-- One entry of the directory (R473). -/
structure PackDir where
  index : Nat
  id : Nat
  opened : Bool
  lastSess : Nat
deriving DecidableEq, Repr

/-- What the estimator keeps of the open session beside its record. Per-bin times are in units of 1/4,096,000 s (R472). -/
structure SessionSt where
  /-- The record's INDEX; 0xFFFF for the scratch record. -/
  index : Nat := 0xFFFE
  record : PackRec := {}
  tempFrac : List Nat := List.replicate 16 0
  socFrac : List Nat := List.replicate 16 0
  curFrac : List Nat := List.replicate 16 0
  powered : Nat := 0
  startEpoch : Nat := 0
  startIn : Nat := 0
  startOut : Nat := 0
  startSoc : Nat := 0xFFFF
  tmax : Int := -32768
  gaps : Nat := 0
  /-- Consecutive curds that meet the FULL and the EMPTY condition (R463). -/
  fullRun : Nat := 0
  emptyRun : Nat := 0
  /-- The insertion test: curds taken so far, and the sum of their VPACK; none when it is over. -/
  insert : Option (Nat × Nat) := none
  /-- The INSERT entry of the session is still to be made (R476). -/
  insertOwed : Bool := false
  /-- HDOD: the extreme and the last turning point; none before the first valid SOCCNT. -/
  dod : Option (Nat × Nat) := none
  /-- VPACK and IPACK of the last RUN curd, if it may pair for ZTAB. -/
  zprev : Option (Nat × Int) := none
deriving DecidableEq, Repr

/-- The words that a window's charge is computed with (R455, R482). -/
structure CurdCal where
  iscale : Word
  iofs : Word
  iinv : Bool
deriving DecidableEq, Repr

/-- The I2C transaction of an ID attempt (R467). -/
structure IdTxn where
  /-- The 7-bit target, the register address, fast mode, and whether a CRC byte is read instead of a second reading. -/
  addr : Nat
  reg : Nat
  fast : Bool
  crc : Bool
  /-- The CLK_ANG cycle in which it began. -/
  began : Nat
deriving DecidableEq, Repr

/-- The battery estimator. -/
structure BatSt where
  state : PackState := .empty
  /-- Curd number of the next curd. -/
  seq : Word := 0
  /-- The CLK_ANG cycle in which the window in progress began, and the CLK_LF time at which PD7 is powered for the next STANDBY curd (R459). -/
  winAt : Nat := 0
  sbyAt : Nat := 0
  /-- Words that commits have replaced, each with the commit's cycle: windows begun by then still use them (R482). -/
  calOld : List (Nat × CurdCal) := []
  /-- The level of pack-present before its last change, and the CLK_ANG and CLK_LF time of that change (R481). -/
  ppWas : InLevel := .unknown
  ppAt : Nat := 0
  ppLf : Nat := 0
  /-- The current of the last delivered curd: its corrected code by ISCALE. -/
  lastI : Int := 0
  lastIp : Int := 0
  lastVp : Nat := 0
  /-- The next delivered curd carries EST. -/
  estNext : Bool := false
  rem : Int := 0
  rem2 : Int := 0
  /-- The provisional sum, with its charge in and out. -/
  provQ : Int := 0
  provIn : Nat := 0
  provOut : Nat := 0
  /-- CLK_LF times: the pack seen, the pack seen to leave, the identification deadline, the end of grace; the next attempt, in tenths of a
  CLK_LF period. -/
  seenAt : Nat := 0
  goneAt : Nat := 0
  deadline : Nat := 0
  graceEnd : Nat := 0
  attemptAt : Nat := 0
  /-- The attempt that is running. -/
  attempt : Option IdTxn := none
  /-- Nine PSCL clocks and a STOP are due before the next attempt: the last one ended in a TIMEOUT (R467). -/
  unstick : Bool := false
  attempts : Nat := 0
  lastFail : Nat := 0
  /-- An ID that has been read and waits for the mount (R483). -/
  idWait : Option Nat := none
  /-- ID of the present or held pack. -/
  id : Nat := 0
  /-- The open or held session. -/
  session : Option SessionSt := none
  /-- Cached records, the most recently used first, at most 8 with the open one (R474). -/
  cache : List (Nat × PackRec) := []
  dir : List PackDir := []
  dirReady : Bool := false
  /-- An identification has succeeded since the reset (R484). -/
  identified : Bool := false
  /-- The scratch record was left OPEN by the reset (R484). -/
  scratchOpen : Bool := false
  socValid : Bool := false
  overshoot : Bool := false
  socCnt : Nat := 0xFFFF
  /-- SOCREP in Q16, once it has a value. -/
  rep : Option Int := none
  /-- CLK_LF times of the last SOCREP step, of the end of the last counted window, of the last EPOCH second. -/
  repAt : Nat := 0
  lastEnd : Nat := 0
  epochAt : Nat := 0
  /-- NTCs whose fault has been announced since NTCF was cleared (R485). -/
  ntcTold : Nat := 0
  /-- BAT_STAT.WAKECAUSE. -/
  wakeCause : Nat := 0
  shipRun : Nat := 0
  /-- The wake in progress is one for VSHIP (R478). -/
  shipWake : Bool := false
  /-- Presence at the previous curd. -/
  seen : Option Bool := none
  /-- CLK_ANG times of the next checkpoint, in STANDBY the RUN time left to it, and of the next SHIP request of R478. -/
  ckptAt : Nat := 0
  shipAt : Option Nat := none
deriving DecidableEq, Repr

/-! ### Fusion (15_fusion.md) -/

/-- FUS_STAT.MSTATE. -/
inductive ModelState where
  | none
  | loading
  | running
  | failed
deriving DecidableEq, Repr

/-- One tracked body (R505 to R508). Numbers are binary32 words. -/
structure BodySt where
  x : List Word := []
  p : List (List Word) := []
  /-- CLK_ANG time the state vector stands for. -/
  last : Nat := 0
  settling : Bool := true
  cover : Bool := false
  rho : Word := 0
  learned : Nat := 0
  /-- The CLK_SYS cycle of the last re-seed; that of the last update, with the components before it (R514). -/
  seededAt : Option Nat := none
  before : Option (Nat × List Word) := none
deriving DecidableEq, Repr

/-- One inertial sensor (R494 to R499). -/
structure ImuSt where
  /-- Initialised, and its fetches run. -/
  ready : Bool := false
  fault : Bool := false
  /-- CLK_ANG time at which the initialisation is due. -/
  initAt : Option Nat := none
  /-- CLK_ANG time of the next periodic fetch, or an SPINT edge that waits for the SPI master. -/
  fetchAt : Nat := 0
  due : Bool := false
  /-- A fetch transfer is under way; the CLK_ANG time at which its last byte is in (R490, R494). -/
  busy : Bool := false
  doneAt : Nat := 0
  badRun : Nat := 0
  /-- The rotated vectors in m/s² and rad/s, binary32. -/
  force : List Word := [0, 0, 0]
  rate : List Word := [0, 0, 0]
  /-- The stored sample: force in mm/s², rate in mrad/s. -/
  sample : List Int := [0, 0, 0, 0, 0, 0]
  /-- c_r, c_p and c_y in radians, binary32; how many refinements; the corrections in µrad at the last write. -/
  corr : List Word := [0, 0, 0]
  refined : Nat := 0
  written : List Int := [0, 0, 0]
  /-- CLK_ANG time of the next periodic FUSCAL write. -/
  calAt : Nat := 0
deriving DecidableEq, Repr

/-- One DMA input slot (R492). -/
structure FusSlot where
  value : Word := 0
  /-- A written word that waits for its group. -/
  held : Option Word := none
  /-- CLK_ANG time from which AGE counts. -/
  base : Nat := 0
  stale : Bool := false
  /-- A word of the group write in progress was discarded; kept at the lowest slot of the group (R493). -/
  spoiled : Bool := false
deriving DecidableEq, Repr

/-- An encoder run: its tensor 0, and how many cells take its features (R501). -/
structure EncRun where
  input : List Int
  cells : Nat := 1
  /-- The CLK_ANG cycle in which it was queued; none once it has followed another run at once (R489). -/
  queuedAt : Option Nat := none
deriving DecidableEq, Repr

/-- A head run: the grid and the track vector it reads, the frame words 2 and 6 to 22 of its tick, and tensor 4 once it has ended. -/
structure HeadRun where
  /-- The CLK_ANG cycle of its tick (R489). -/
  startAt : Nat
  grid : List Int
  track : List Int
  flags : Nat
  words : List Word
  cells : Word
  out : Option (List Int) := none
deriving DecidableEq, Repr

structure FusSt where
  mstate : ModelState := .none
  mfail : Nat := 0
  /-- The reload in progress follows a CRC failure in service (R515). -/
  runcrc : Bool := false
  /-- The container in weight SRAM. -/
  weights : List Byte := []
  /-- Wheels whose FRAME body has COVER set (HLT_REDUCED.COVERW). -/
  cover : Nat := 0
  bodies : List BodySt := []
  /-- CLK_ANG time of the next tick, and the number of the last frame. -/
  tickAt : Nat := 0
  frameNo : Word := 0
  head : Option HeadRun := none
  encRun : Option EncRun := none
  encWait : Option EncRun := none
  /-- Features of the cells whose encoder runs have ended, the newest first, at most 128. -/
  ring : List (List Int) := []
  /-- The grid: in TIME, the index of GW last seen, the CLK_ANG time of the next time cell and its count. -/
  gridTime : Bool := false
  gridIdx : Nat := 0
  cellAt : Nat := 0
  cellCount : Nat := 0
  /-- The newest closed cell (bits 7:0 of frame word 22), and the cells closed since model start. -/
  newest : Nat := 0
  newestDir : Dir := .unknown
  closed : Nat := 0
  /-- Classes that are ARMED, bit k for class k + 1; a frame has been published with WARM. -/
  armed : Nat := 0
  warmSeen : Bool := false
  imus : Vector ImuSt 2 := Vector.replicate 2 {}
  /-- FUSCAL is to be read once the cave is mounted. -/
  calPend : Bool := false
  slots : Vector FusSlot 32 := Vector.replicate 32 {}
  /-- FUS words as they stood before a commit that the next tick applies (R514). -/
  old : List (Nat × Word) := []
  /-- CLK_ANG time of the next periodic weight check. -/
  checkAt : Nat := 0
  /-- What the running self-test's steps have found: bits 0 to 2 of its detail word. -/
  testBits : Option Nat := none
  /-- PD9 is going off: the block stops with the frame in progress (R48). -/
  ending : Bool := false
  /-- The bytes the SPI master sent in its last transfers, one list per transfer (R494 to R496). -/
  spiSent : List (List Byte) := []
deriving DecidableEq, Repr

/-! ### The rind and the wheel lock (16_rind_lock.md) -/

/-- One rule of the rind (R525, R526). -/
structure RuleSt where
  /-- CLK_LF time at which its holdoff ends, and the start of the sample period in which it last fired (R526). -/
  hold : Option Nat := none
  firedAt : Option Nat := none
  /-- CLK_LF time at which its COUNT window closes, and the transitions counted in it. -/
  window : Option Nat := none
  count : Nat := 0
deriving DecidableEq, Repr

/-- One entry of the event FIFO (R528). -/
structure RindEntry where
  rule : Nat
  act : Nat
  counter : Word
  time : Word
  levels : Nat
  lock : Nat
  /-- NTC_RIND has entered; the log entry waits for the mount. -/
  noticed : Bool := false
deriving DecidableEq, Repr

/-- The alarm (R530). -/
structure AlarmSt where
  active : Bool := false
  /-- CLK_LF time of its end; none until STOP. -/
  endAt : Option Nat := none
  /-- The output is at its active level, and the CLK_LF time of the next change under ALPAT 1. -/
  on : Bool := false
  toggleAt : Nat := 0
deriving DecidableEq, Repr

/-- How the tamper loop is classified (R521), in code order. -/
inductive Loop where
  | none
  | intact
  | opened
  | short
deriving DecidableEq, Repr

/-- The rind. Inputs: 0 wheel comparator, 1 OPEN, 2 SHUT, 3 charger-detect, 4 pack-present, 5 tamper, as SYS_INSTAT1 orders them. -/
structure RindSt where
  inputs : Vector InLevel 6 := Vector.replicate 6 .unknown
  /-- The run of agreeing samples of each input that differs from its filtered level: its level, and the CLK_LF time of its first sample
  (R523). -/
  runs : Vector (Option (InLevel × Nat)) 6 := Vector.replicate 6 none
  /-- WHEEL's accepted level, which makes the transitions, and under WMODE 1 a level of its comparator that is not yet accepted, with the
  CLK_LF time since which it holds (R520). -/
  wheel : InLevel := .unknown
  wheelNew : Option (InLevel × Nat) := none
  /-- The CLK_LF time at which the first tamper window of the present power state starts (R521). -/
  winAt : Nat := 0
  loop : Loop := .none
  rules : Vector RuleSt 16 := Vector.replicate 16 {}
  fifo : List RindEntry := []
  alarm : AlarmSt := {}
deriving DecidableEq, Repr

/-- The lock states of Table Rind.5, in code order. -/
inductive LockState where
  | unknown
  | opened
  | shut
  | opening
  | closing
  | homing
  | fault
deriving DecidableEq, Repr

/-- What a limit has been long enough to count (R532). -/
inductive Stable where
  | none
  | asserted
  | released
deriving DecidableEq, Repr

/-- What the bridge does (R531). -/
inductive Bridge where
  | coast
  | brake
  /-- Driven since a CLK_LF time, toward OPEN or toward SHUT, at a duty of 1/32. -/
  | drive (since : Nat) (toOpen : Bool) (duty : Nat)
deriving DecidableEq, Repr

/-- One limit switch: the CLK_LF time since which its level stands, and whether that was long enough. -/
structure LimitSt where
  since : Nat := 0
  stable : Stable := .none
deriving DecidableEq, Repr

/-- The wheel lock. -/
structure LockSt where
  state : LockState := .unknown
  /-- LCK_STAT.FAULT, LASTFAULT, CMDRES. -/
  fault : Nat := 0
  lastFault : Nat := 0
  cmdRes : Nat := 0
  bridge : Bridge := .coast
  /-- CLK_LF time at which the brake after a success ends. -/
  brakeEnd : Option Nat := none
  /-- CLK_LF time of the start of the present move; ELAPSED of the last one in ms. -/
  moveAt : Nat := 0
  elapsed : Nat := 0
  restarts : Nat := 0
  /-- Debounces of the target limit that were cut and still count as restarts (R536). -/
  restartDue : Nat := 0
  /-- The opposite limit has been stable-released during this move (R537). -/
  oppReleased : Bool := false
  limOpen : LimitSt := {}
  limShut : LimitSt := {}
  /-- LCK_CFG, LCK_TIME and LCK_GUARD as the last move start or load commit took them (R543); their reset values before that. -/
  moveCfg : Word := 0x00201008
  moveTime : Word := 0x06409632
  moveGuard : Word := 0x14000310
  /-- The state before a reset, and the state at a STANDBY entry, for the notices of R540 and R545. -/
  before : Option LockState := some .unknown
deriving DecidableEq, Repr

/-! ### Lifecycle and debug (17_lifecycle_security.md) -/

/-- The lifecycle states (Table Life.1), in code order. -/
inductive Life where
  | blank
  | factory
  | fieldLocked
  | fieldOpen
  | ret
  | scrap
deriving DecidableEq, Repr

/-- A key slot of the OTP key area (Table Life.2). -/
structure KeySlot where
  /-- 64 bytes of a public key or 32 of an image key; empty while every bit is 0. -/
  bytes : List Byte := []
  crc : Nat := 0
  revoke : Bool := false
  kill : Bool := false
  /-- A bit did not read back after programming, so that the CRC fails (R564). -/
  bad : Bool := false
deriving DecidableEq, Repr

/-- The OTP fuses (R551, R552). Bits only change from 0 to 1. -/
structure OtpSt where
  uid : BitVec 64 := 0
  /-- The trims of each slice, ADCA S0 to S8 and then ADCB: SOFS and SGAIN. -/
  trims : List (Int × Int) := List.replicate 18 (0, 0)
  vkey : KeySlot := {}
  lkey : KeySlot := {}
  sigkey : List KeySlot := [{}, {}, {}, {}]
  imgkey : List KeySlot := [{}, {}, {}, {}]
  minver : BitVec 64 := 0
  nvmBoot : BitVec 8 := 0
  noenc : Bool := false
  /-- The state fuses, each held three times. -/
  factf : BitVec 3 := 0
  retf : BitVec 3 := 0
  scrapf : BitVec 3 := 0
  lockcnt : Vector (BitVec 3) 4 := Vector.replicate 4 0
  opencnt : Vector (BitVec 3) 3 := Vector.replicate 3 0
deriving DecidableEq, Repr

/-- The secure store: the epoch of its header, and the entries written, by number (R555). -/
structure StoreSt where
  epoch : Nat := 0
  entries : List (Nat × List Byte) := []
deriving DecidableEq, Repr

/-- A live challenge (R557 to R559). -/
structure Challenge where
  bytes : List Byte
  target : Nat
  /-- Bytes 32 to 67 of M. -/
  tail : List Byte
  /-- CLK_LF time of its issue. -/
  at_ : Nat
  /-- r, as far as it has been supplied. -/
  r : List Byte := []
deriving DecidableEq, Repr

/-- A transition under way: the CLK_LF time at which the fuses were blown, and whether its NTC_LIFECYCLE has been acknowledged (R561). -/
structure Transition where
  dest : Life
  at_ : Nat
  acked : Bool := false
deriving DecidableEq, Repr

/-- The lifecycle block. -/
structure LifeSt where
  state : Life := .blank
  /-- DBGCTL.HALT is in force (R567). -/
  halted : Bool := false
  challenge : Option Challenge := none
  /-- Challenges issued since the last POR. -/
  issued : Nat := 0
  /-- FAILS and the CLK_LF time at which the lockout ends; PD0 keeps them. -/
  fails : Nat := 0
  lockout : Option Nat := none
  keyBuf : List Byte := List.replicate 64 0
  /-- OPRES, and the operation that runs: OP and ARG, with LCS_KEYBUF as it was taken. -/
  opRes : Nat := 0
  opRun : Option (Nat × Nat) := none
  opKey : List Byte := []
  transition : Option Transition := none
deriving DecidableEq, Repr

/-- The JTAG port (R565 to R568). -/
structure JtagSt where
  /-- The selected instruction. -/
  ir : Nat := 0x02
  /-- LCSPORT: the status of the last command, the word READCH asked for, and s as LOADS has filled it. -/
  lcsStatus : Nat := 0
  lcsWord : Word := 0
  s : List Byte := List.replicate 32 0
  /-- DBGACC: the last access ended in a bus error; the last data read. -/
  accError : Bool := false
  accData : Word := 0
  /-- MEMTEST: target and algorithm of the test that runs, DONE, FAIL and the failing words. -/
  test : Option (Nat × Nat) := none
  done : Bool := false
  fail : Bool := false
  failing : Nat := 0
  /-- The boundary register's output cells as an Update-DR under EXTEST or SAMPLE/PRELOAD left them, by ball (R565, R613). -/
  boundary : List (Nat × Bool) := []
deriving DecidableEq, Repr

/-! ### The whole machine -/

/-- The state of the part. The field defaults are the values right after a power-on reset. -/
structure State where
  /-- CLK_ANG cycles since the last POR; ANG_TNOW is its low 32 bits. It stands still while the PLL is off. -/
  now : Nat := 0
  /-- CLK_LF periods since the last POR; LNK_TIME is its low 32 bits (R138). -/
  lf : Nat := 0
  /-- MODEL FIELD: how many free values the step has drawn; the spec does not name it (log entry 6). -/
  free : Nat := 0
  /-- MODEL FIELD: the commands that wait, first in first out. -/
  pending : List Instr := []
  /-- The register words that differ from their reset value, rising in the address. -/
  regs : List (Nat × Word) := []
  /-- The working SRAM bytes that differ from what an unlisted byte reads as. -/
  sram : List Host.Cell := []
  /-- MODEL FIELD: 0 while unlisted SRAM reads 0; each wake gives the upper 192 KiB new unknown contents (R54, log entry 7). -/
  sramGen : Nat := 0
  power : PowerSt := {}
  link : LinkSt := {}
  cfg : CfgSt := {}
  boot : BootSt := {}
  /-- CLK_ANG time at which ANG_TNOW was 0 (R245). -/
  tnowBase : Nat := 0
  wheels : Vector WheelSt 4 := Vector.replicate 4 {}
  phases : Vector PhaseSt 2 := Vector.replicate 2 {}
  bias : BiasSt := {}
  /-- The CLK_ANG cycles in which snapshots that have been asked for are taken (R232). -/
  snapAt : List Nat := []
  outs : Vector OutSt 32 := Vector.replicate 32 {}
  timers : Vector TimerSt 16 := Vector.replicate 16 {}
  adcA : AdcSt := {}
  adcB : AdcSt := {}
  regA : SeqSt := {}
  injA : SeqSt := {}
  regB : SeqSt := {}
  injB : SeqSt := {}
  dma : DmaSt := {}
  nand : NandSt := {}
  cave : CaveSt := {}
  health : HealthSt := {}
  bat : BatSt := {}
  fus : FusSt := {}
  rind : RindSt := {}
  lock : LockSt := {}
  life : LifeSt := {}
  otp : OtpSt := {}
  store : StoreSt := {}
  jtag : JtagSt := {}
  /-- Each bus master's own copies of the registers of R644. -/
  copyLink : MasterCopy := {}
  copyDma : MasterCopy := {}
  /-- The word the last bus read returned, 0 if it ended in a bus error. -/
  busRead : Word := 0
  /-- The last bus access ended in a bus error (R22). -/
  busError : Bool := false
  /-- What the hardware has set in the CLK_SYS cycle `setAt` (R8, R9). -/
  setAt : Nat := 0
  setNow : List SetNote := []
  /-- The words of the AON, LCK and PWR blocks as the last CLK_LF edge left them in the bus masters' mirror; an unlisted one is at its reset
  value (R43). -/
  mirror : List (Nat × Word) := []
deriving DecidableEq, Repr

/-- The machine right after a power-on reset (R76, R81, R646): PD0 is up on the LF RC, MAINEN is high, VDD5 is awaited. -/
def State.reset : State := { regs := [(0x20, 1), (0xA0008, 0x30)] }

/-- What exec and step answer. -/
abbrev Out := Host.Outcome State Fault Refusal

end Sys2Proof.Machine
end

