-- ==== Sys2Proof/Machine/Ops.lean ====
section
/-!
DEFINITION. The named operations over State that every block shares: register words and their fields, working SRAM, the notice
ring with its watermark, and saturating counters.
-/

namespace Sys2Proof.Machine

/-! ### Register words -/

/-- The stored word of a register: live configuration, flags, counters and plain status (R639). -/
def State.reg (s : State) (a : Nat) : Word := Sparse.get resetWord s.regs a

/-- The state with one stored register word changed. -/
def State.setReg (s : State) (a : Nat) (w : Word) : State := { s with regs := Sparse.set resetWord s.regs a w }

/-- Bits `hi:lo` of a stored register word. -/
def State.fld (s : State) (a hi lo : Nat) : Nat := fieldOf (s.reg a) hi lo

/-- Bit `i` of a stored register word. -/
def State.bit (s : State) (a i : Nat) : Bool := bitOf (s.reg a) i

/-- The state with bits `hi:lo` of a register word replaced. -/
def State.setFld (s : State) (a hi lo v : Nat) : State := s.setReg a (withField (s.reg a) hi lo v)

/-- What the hardware has set in a register word in the present CLK_SYS cycle, if anything (R8, R9). -/
def State.noteOf (s : State) (a : Nat) : Option SetNote :=
  if s.setAt = s.now / 2 then s.setNow.find? (fun n => n.addr == a) else none

/-- The hardware sets bits of a register word, or counts in it, in the present CLK_SYS cycle: the first time in the cycle the word as it
stood is kept (R8, R9). -/
def State.noteSet (s : State) (a : Nat) (m : Word) : State :=
  let l := if s.setAt = s.now / 2 then s.setNow else []
  let n := match l.find? (fun n => n.addr == a) with
    | some n => { n with set := n.set ||| m, fresh := n.fresh ||| m }
    | none => { addr := a, old := s.reg a, set := m, fresh := m }
  { s with setAt := s.now / 2, setNow := n :: l.filter (fun n => n.addr != a) }

/-- The note of a register word in the present CLK_SYS cycle becomes this one, or none. -/
def State.putNote (s : State) (a : Nat) (n : Option SetNote) : State :=
  { s with setAt := s.now / 2, setNow := n.toList ++ (if s.setAt = s.now / 2 then s.setNow else []).filter (fun n => n.addr != a) }

/-- What the cycle's settings alone leave in a field of a word (R9). -/
def State.freshFld (s : State) (a hi lo : Nat) : Nat := ((s.noteOf a).map (fun n => fieldOf n.fresh hi lo)).getD 0

/-- The cycle's settings alone now leave this in a field of a word (R9). -/
def State.setFresh (s : State) (a hi lo v : Nat) : State :=
  s.putNote a ((s.noteOf a).map (fun n => { n with fresh := withField n.fresh hi lo v }))

/-- The state with bits of a register word set by a mask: flags that the hardware raises. -/
def State.orReg (s : State) (a m : Nat) : State :=
  (s.noteSet a (BitVec.ofNat 32 m)).setReg a (s.reg a ||| BitVec.ofNat 32 m)

/-- The state with bits of a register word cleared by a mask. -/
def State.clrReg (s : State) (a m : Nat) : State := s.setReg a (s.reg a &&& ~~~(BitVec.ofNat 32 m))

/-- The hardware writes a field of a register word. -/
def State.putFld (s : State) (a hi lo v : Nat) : State := ((s.noteSet a 0).setFresh a hi lo v).setFld a hi lo v

/-- The hardware adds to a counter field, which stops at its highest value. -/
def State.satCount (s : State) (a hi lo n : Nat) : State :=
  let top := 2 ^ (hi + 1 - lo) - 1
  (((s.noteSet a 0).setFresh a hi lo (satAdd top (s.freshFld a hi lo) n))).setFld a hi lo (satAdd top (s.fld a hi lo) n)

/-- The state with a counter field one higher, stopping at its highest value. -/
def State.satInc (s : State) (a hi lo : Nat) : State := s.satCount a hi lo 1

/-- The words of a range keep their RWS bits; every other field of them returns to its reset value (R37, R639). -/
def State.clearWords (s : State) (lo hi : Nat) : State :=
  { s with regs := s.regs.filterMap (fun p =>
      if lo ≤ p.1 ∧ p.1 < hi then
        let m := BitVec.ofNat 32 (rwsMask p.1)
        let w := (resetWord p.1 &&& ~~~m) ||| (p.2 &&& m)
        if w = resetWord p.1 then none else some (p.1, w)
      else some p) }

/-- The RWS bits of the words of a range return to their reset values. -/
def State.defaultRws (s : State) (lo hi : Nat) : State :=
  { s with regs := s.regs.filterMap (fun p =>
      if lo ≤ p.1 ∧ p.1 < hi then
        let m := BitVec.ofNat 32 (rwsMask p.1)
        let w := (p.2 &&& ~~~m) ||| (resetWord p.1 &&& m)
        if w = resetWord p.1 then none else some (p.1, w)
      else some p) }

/-! ### Working SRAM -/

/-- What an SRAM byte reads as that nothing has written since the last zero-fill or wake (R54, R81). -/
def sramDflt (gen a : Nat) : Byte :=
  if gen ≠ 0 ∧ 0x810000 ≤ a then Config.sramAfterWake gen a else 0

/-- One byte of working SRAM (R19). -/
def State.sramByte (s : State) (a : Nat) : Byte := Sparse.get (sramDflt s.sramGen) s.sram a

/-- The state with one byte of working SRAM written. -/
def State.setSramByte (s : State) (a : Nat) (b : Byte) : State :=
  { s with sram := Sparse.set (sramDflt s.sramGen) s.sram a b }

/-- The canonical form of the working SRAM. -/
abbrev Memory.wf (s : State) : Bool := Sparse.wf (sramDflt s.sramGen) s.sram

/-- `n` bytes of working SRAM from an address. -/
def State.sramBytes (s : State) (a : Nat) : Nat → List Byte
  | 0 => []
  | n + 1 => s.sramByte a :: s.sramBytes (a + 1) n

/-- The state with bytes written to working SRAM from an address upward. -/
def State.setSramBytes (s : State) (a : Nat) : List Byte → State
  | [] => s
  | b :: t => (s.setSramByte a b).setSramBytes (a + 1) t

/-- One word of working SRAM, least significant byte at the lowest address. -/
def State.sramWord (s : State) (a : Nat) : Word := BitVec.ofNat 32 (natLE (s.sramBytes a 4))

/-- The state with one word of working SRAM written. -/
def State.setSramWord (s : State) (a : Nat) (w : Word) : State := s.setSramBytes a (bytesLE 4 w.toNat)

/-- The working SRAM zero-filled (R81). -/
def State.zeroSram (s : State) : State := { s with sram := [], sramGen := 0 }

/-! ### Free values -/

/-- A number the next free value is drawn with; the counter is the model's own (log entry 6). -/
def State.drawFree (s : State) : Nat × State := (s.free, { s with free := s.free + 1 })

/-! ### Power states and modes -/

/-- RUN or DOZE. -/
def State.running (s : State) : Bool := s.power.phase == .run

/-- What happens only in RUN or DOZE: in every other state the block that would do it is without clock or supply (R46, R54, R568). -/
def State.whileRunning (s : State) (f : State → State) : State := if s.running then f s else s

/-- What also happens in STANDBY and during a wake: what PD0 counts and keeps there (R54, R58). -/
def State.whileAwake (s : State) (f : State → State) : State :=
  if s.power.phase == .run || s.power.phase == .standby || s.power.phase == .waking then f s else s

/-- What the NAND controller does, which works from the start of PD1 on (R76, R82). -/
def State.whileNandUp (s : State) (f : State → State) : State := if s.power.phase == .run || s.power.phase == .startup then f s else s

/-- DOZE is RUN with PWR_CTRL.DOZEEN set (R50). -/
def State.dozing (s : State) : Bool := s.running && s.bit 0x110008 0

/-- A STANDBY or SHIP entry is in progress. -/
def State.entering (s : State) : Bool := s.power.entry.isSome

/-- PD`n` is powered and restored (PWR_DOMRDY). -/
def State.domReady (s : State) (n : Nat) : Bool := s.power.domRdy.testBit n

/-! ### Watermarks (R146) -/

/-- A crossing to the alarm side at `level`: the first sets the flag and is announced, a further one only counts. The Bool
says whether a notice is due. `worse` picks the more extreme of two levels. -/
def Watermark.cross (w : Watermark) (worse : Nat → Nat → Nat) (level : Nat) : Watermark × Bool :=
  if w.flag then ({ w with count := satAdd 0xFFFF w.count 1, peak := worse w.peak level }, false)
  else ({ flag := true, count := 1, peak := level }, true)

/-- While the flag is set, PEAK follows the most extreme level on the alarm side of the live threshold. -/
def Watermark.follow (w : Watermark) (worse : Nat → Nat → Nat) (level : Nat) (alarm : Bool) : Watermark :=
  if w.flag && alarm then { w with peak := worse w.peak level } else w

/-- Writing 1 to the flag: cleared, the counter at 0 and PEAK at the level; a level on the alarm side counts at once. -/
def Watermark.clear (w : Watermark) (level : Nat) (alarm : Bool) : Watermark × Bool :=
  if alarm then ({ flag := true, count := 1, peak := level }, true)
  else ({ w with flag := false, count := 0, peak := level }, false)

/-! ### The notice ring (R138 to R148) -/

/-- Notices that recovery mode generates (R155). -/
def recoveryNotice (code : Nat) : Bool :=
  code == 0x01 || code == 0x15 || code == 0x17 || code == 0x0C || code == 0x19 || code == 0x18

/-- A notice of this code is generated: its bit in LNK_NTCEN is set, recovery mode allows it, and the part is past its
start-up (R143, R148, R155). -/
def State.noticeOn (s : State) (code : Nat) : Bool :=
  s.bit 0x10040 code && (!s.boot.recovery || recoveryNotice code) &&
    (s.power.phase == .run || s.power.phase == .standby || s.power.phase == .waking)

/-- The number after a notice number (R138). -/
def nextNoticeNum (n : Nat) : Nat := if n = 0xFFFF then 1 else n + 1

/-- The ring with one notice entered under the next number (R138). -/
def State.pushNotice (s : State) (code : Nat) (payload : List Byte) : State :=
  { s with link := { s.link with
      ring := s.link.ring ++ [{ num := s.link.nextNum, code := code, time := BitVec.ofNat 32 s.lf, payload := payload }]
      nextNum := nextNoticeNum s.link.nextNum } }

/-- The entries that hold ordinary notices; the other one is kept for NTC_LOST (R143). -/
def State.ordinaryFill (s : State) : Nat := (s.link.ring.filter (fun n => n.code != 0x19)).length

/-- A notice that finds the ordinary entries full: counted, and named in one NTC_LOST. FIRST is the first code dropped while no NTC_LOST waits
(R143, not Table Link.17; DESIGN CHOICE, log entry 134). -/
def State.dropNotice (s : State) (code : Nat) : State :=
  let s1 := s.satInc 0x10034 15 0
  if s1.link.ring.any (fun n => n.code == 0x19) then s1
  else (s1.putFld 0x10034 23 16 code).pushNotice 0x19 [BitVec.ofNat 8 code]

/-- A notice entered or dropped, without the ring watermark. -/
def State.enterNotice (s : State) (code : Nat) (payload : List Byte) : State :=
  if s.ordinaryFill < 31 then s.pushNotice code payload else s.dropNotice code

/-- The payload of NTC_WATERMARK (Table Link.5). -/
def watermarkPayload (source index level threshold : Nat) : List Byte :=
  bytesLE 1 source ++ bytesLE 1 index ++ bytesLE 2 level ++ bytesLE 2 threshold

/-- NTC_WATERMARK of the ring enters: no further crossing, but PEAK follows the fill (R146, R147). -/
def State.enterRingWatermark (s : State) (level : Nat) : State :=
  if s.noticeOn 0x0B then
    let wm := s.fld 0x1002C 5 0
    let s1 := s.enterNotice 0x0B (watermarkPayload 0 0 level wm)
    let after := s1.link.ring.length
    { s1 with link := { s1.link with wm := s1.link.wm.follow Nat.max after (decide (wm ≤ after)) } }
  else s

/-- The state after the ring watermark has met its level: a notice of it where one is due (R146, R147). -/
def State.ringCross (s : State) (level : Nat) : State :=
  let r := s.link.wm.cross Nat.max level
  let s1 := { s with link := { s.link with wm := r.1 } }
  if r.2 then s1.enterRingWatermark level else s1

/-- A notice enters: under R143, with the ring watermark tested on the fill before and after it (R146, R147). NTC_LOST itself enters only
where R143 drops another. -/
def State.admitNotice (s : State) (code : Nat) (payload : List Byte) : State :=
  if code = 0x19 then s
  else
    let before := s.link.ring.length
    let s1 := s.enterNotice code payload
    let after := s1.link.ring.length
    let wm := s1.fld 0x1002C 5 0
    let s2 := { s1 with link := { s1.link with wm := s1.link.wm.follow Nat.max after (decide (wm ≤ after)) } }
    if before < wm ∧ wm ≤ after then s2.ringCross after else s2

/-- The notices of this CLK_SYS cycle leave the ring again: ring, numbers, watermark and LNK_NTCLOST as they stood before them. In a new
cycle there is nothing to take out, and this is what stands before them. -/
def State.openCycle (s : State) : State :=
  let l := s.link
  let c := s.now / 2
  if l.cycAt = c ∧ l.cycIn ≠ [] then
    (({ s with link := { l with
        ring := l.ring.take l.cycLen
        nextNum := ((l.ring.drop l.cycLen).head?.map Notice.num).getD l.nextNum, wm := l.cycWm } }).putNote 0x10034 l.cycNote).setReg 0x10034 l.cycLost
  else { s with link := { l with
      cycAt := c, cycIn := [], cycLen := l.ring.length, cycWm := l.wm, cycLost := s.reg 0x10034, cycNote := s.noteOf 0x10034 } }

/-- The notices of the cycle enter in turn. -/
def State.admitAll (s : State) (l : List (Nat × List Byte)) : State := l.foldl (fun s p => s.admitNotice p.1 p.2) s

/-- A notice among those of a cycle: in rising order of code, and of one code in the order they arise (R139). -/
def byCode (p : Nat × List Byte) : List (Nat × List Byte) → List (Nat × List Byte)
  | [] => [p]
  | q :: t => if p.1 < q.1 then p :: q :: t else q :: byCode p t

/-- A notice arises: if it is generated at all it enters, with those of the same CLK_SYS cycle, in rising order of code (R139, R143). -/
def State.notice (s : State) (code : Nat) (payload : List Byte) : State :=
  if s.noticeOn code then
    let s1 := s.openCycle
    let l := byCode (code, payload) s1.link.cycIn
    ({ s1 with link := { s1.link with cycIn := l } }).admitAll l
  else s

/-- A notice of this CLK_SYS cycle takes up more: `old` becomes `new` where it still stands with those of the cycle, else `extra` arises as a
notice of its own. -/
def State.amendNotice (s : State) (code : Nat) (old new extra : List Byte) : State :=
  if s.noticeOn code && decide (s.link.cycAt = s.now / 2) && s.link.cycIn.contains (code, old) then
    let s1 := s.openCycle
    let l := s.link.cycIn.map (fun p => if p = (code, old) then (code, new) else p)
    ({ s1 with link := { s1.link with cycIn := l } }).admitAll l
  else s.notice code extra

/-- Notices arise one after the other. -/
def State.noticeAll (s : State) (l : List (Nat × List Byte)) : State := l.foldl (fun s p => s.notice p.1 p.2) s

/-- The notices of this cycle stand as they are: something outside the link engine has seen the ring, or changed what its entries count. -/
def State.closeCycle (s : State) : State := { s with link := { s.link with cycIn := [] } }

/-- A clear of LNK_WMSTAT.FLAG (R146). -/
def State.clearRingWm (s0 : State) : State :=
  let s := s0.closeCycle
  let fill := s.link.ring.length
  let wm := s.fld 0x1002C 5 0
  let r := s.link.wm.clear fill (decide (wm ≤ fill))
  let s1 := { s with link := { s.link with wm := r.1 } }
  if r.2 then s1.enterRingWatermark fill else s1

/-- The ring holds an unacknowledged notice, sent or not (R145). -/
def State.ringPending (s : State) : Bool := !s.link.ring.isEmpty

end Sys2Proof.Machine
end

