-- ==== Sys2Proof/Machine/Wheel.lean ====
section
/-!
DEFINITION. The wheel tracker: pattern widths, the noise window, the sync states, direction and reversal, speed, interpolation and
the angle word (06_wheel_tracking.md and 07_angle_interpolation_phase.md, R189 to R232). What other blocks do at an edge is in
Angle.lean.
-/

namespace Sys2Proof.Machine

/-- One revolution in frets (2^22). -/
def revFrets : Nat := 4194304

/-- The configuration of a wheel as its tracker uses it, read from ANG_Wn (Tables Wheel.6 to Wheel.9 and Angle.2). -/
structure WheelCfg where
  mode : Nat
  sense : Nat
  edge : Nat
  dirSrc : Nat
  dirInv : Bool
  keepLock : Bool
  bFit : Bool
  repeats : Nat
  /-- The widths w_i of Table Wheel.2, E of them. -/
  widths : List Nat
  coastF : Nat
  nwin : Nat
  errLim : Nat
  confirm : Nat
  syncTol : Nat
  syncWin : Nat
  filt : Nat
  deadSec : Nat
  stopTo : Nat
  vrMin : Nat
  armFrac : Nat
  mark : Nat
  capo : Nat
  accMax : Nat
  accelMode : Bool
deriving DecidableEq, Repr

/-- The page of wheel `n` in the ANG block (R219). -/
def wheelBase (n : Nat) : Nat := 0x30000 + 0x100 * n

/-- Edges per revolution of a pattern (Table Wheel.2). -/
def edgesOf (mode n : Nat) : Nat := if mode = 1 then n + 1 else n

/-- The pitch q_i of the EXTRA pattern (Table Wheel.2). -/
def extraPitch (n i : Nat) : Nat := (i + 1) * revFrets / n - i * revFrets / n

/-- The width of tooth `i` of the EXTRA pattern (Table Wheel.2). -/
def extraWidth (n pos i : Nat) : Nat :=
  let q := extraPitch n (n - 1)
  if i + 1 < n then extraPitch n i else if i + 1 = n then q * pos / 256 else q - q * pos / 256

/-- The address of class width `c` of wheel `n` (R220). -/
def clswAddr (n c : Nat) : Nat := if c = 3 then wheelBase n + 0x5C else wheelBase n + 0x18 + 4 * c

/-- The class code of tooth `i` (Table Wheel.10). -/
def classCode (c : Nat → Word) (n i : Nat) : Nat :=
  fieldOf (c (wheelBase n + 0x80 + 4 * (i / 16))) (2 * (i % 16) + 1) (2 * (i % 16))

/-- The address of word `i` of the tooth-angle table of wheel `n` (R220). -/
def ttabAddr (n i : Nat) : Nat := 0x31000 + 0x800 * n + 4 * i

/-- The widths that a configuration gives wheel `n` (Table Wheel.2). -/
def widthsOf (c : Nat → Word) (n : Nat) : List Nat :=
  let mode := fieldOf (c (wheelBase n)) 1 0
  let teeth := fieldOf (c (wheelBase n + 4)) 9 0
  let pos := fieldOf (c (wheelBase n + 4)) 31 24
  if mode = 1 then (List.range (teeth + 1)).map (extraWidth teeth pos)
  else if mode = 2 then (List.range teeth).map (fun i => fieldOf (c (clswAddr n (classCode c n i))) 22 0)
  else if mode = 3 then (List.range teeth).map (fun i => fieldOf (c (ttabAddr n i)) 22 0)
  else []

/-- The configuration of wheel `n` in a register contents. -/
def wheelCfgOf (c : Nat → Word) (n : Nat) : WheelCfg :=
  let cfg := c (wheelBase n)
  let sync := c (wheelBase n + 8)
  let time := c (wheelBase n + 0xC)
  { mode := fieldOf cfg 1 0, sense := fieldOf cfg 4 4, edge := fieldOf cfg 5 5, dirSrc := fieldOf cfg 7 6
    dirInv := bitOf cfg 8, keepLock := bitOf cfg 9, bFit := bitOf cfg 10
    repeats := fieldOf (c (wheelBase n + 4)) 19 10, widths := widthsOf c n
    coastF := fieldOf sync 31 26, nwin := fieldOf sync 25 22, errLim := fieldOf sync 21 18
    confirm := fieldOf sync 17 12, syncTol := fieldOf sync 11 4, syncWin := fieldOf sync 3 0
    filt := fieldOf time 31 24, deadSec := fieldOf time 23 16, stopTo := fieldOf time 13 0
    vrMin := fieldOf (c (wheelBase n + 0x10)) 11 4, armFrac := fieldOf (c (wheelBase n + 0x10)) 3 0
    mark := fieldOf (c (wheelBase n + 0x14)) 22 0, capo := fieldOf (c (wheelBase n + 0x24)) 21 0
    accMax := fieldOf (c (wheelBase n + 0x28)) 31 16, accelMode := bitOf (c (wheelBase n + 0x28)) 0 }

/-- The live configuration of wheel `n`. -/
def State.wheelCfg (s : State) (n : Nat) : WheelCfg := wheelCfgOf s.reg n

/-- E, the edges per revolution. -/
def WheelCfg.teeth (c : WheelCfg) : Nat := c.widths.length

/-- The width of tooth `i`, indices taken modulo E. -/
def WheelCfg.width (c : WheelCfg) (i : Int) : Nat :=
  if c.teeth = 0 then revFrets else c.widths.getD (i % (c.teeth : Int)).toNat revFrets

/-- The angle a_i of tooth `i` from tooth zero (R222). -/
def WheelCfg.angle (c : WheelCfg) (i : Nat) : Nat := (c.widths.take i).sum

/-- The average width, used while the tooth is not known (R204). -/
def WheelCfg.avgWidth (c : WheelCfg) : Nat := if c.teeth = 0 then revFrets else revFrets / c.teeth

/-- The next tooth index in the direction of travel. -/
def WheelCfg.nextTooth (c : WheelCfg) (d : Dir) (i : Nat) : Nat :=
  if c.teeth = 0 then 0 else if d = .reverse then (i + c.teeth - 1) % c.teeth else (i + 1) % c.teeth

/-- The width of the tooth that runs after an edge at tooth `i` (R230). -/
def WheelCfg.running (c : WheelCfg) (d : Dir) (i : Nat) : Nat :=
  if d = .reverse then c.width ((i : Int) - 1) else c.width i

/-! ### Ratios, the match test and the predicted period -/

/-- The ratio check: `pj` covers `wa`, the period before it `pk` covers `wb` (R198). -/
def ratioPass (tol pj wa pk wb : Nat) : Bool :=
  let lhs := pj * wb
  let rhs := pk * wa
  let diff := if rhs < lhs then lhs - rhs else rhs - lhs
  decide (diff * 256 ≤ tol * rhs)

/-- The predicted period of the tooth now expected, from the last period and its width (R195). -/
def predPeriod (pLast wNext wLast : Nat) : Nat := if wLast = 0 then 0 else pLast * wNext / wLast

/-- Tooth `j` as the tooth of the latest edge, in direction `d`: the width of the `k`-th latest period (R199). -/
def WheelCfg.candWidth (c : WheelCfg) (d : Dir) (j k : Nat) : Nat :=
  if d = .reverse then c.width ((j : Int) + k) else c.width ((j : Int) - 1 - k)

/-- The candidate matches each of the last SYNCWIN ratios (R199). -/
def WheelCfg.candMatches (c : WheelCfg) (hist : List (Nat × Nat)) (d : Dir) (j : Nat) : Bool :=
  (List.range c.syncWin).all (fun k =>
    match hist[k]?, hist[k + 1]? with
    | some (pj, _), some (pk, _) => ratioPass c.syncTol pj (c.candWidth d j k) pk (c.candWidth d j (k + 1))
    | _, _ => false)

/-- The candidates of the match test: every tooth of repetition 0, forward, and for WIDTH in reverse too (R199). -/
def WheelCfg.candidates (c : WheelCfg) : List (Dir × Nat) :=
  let n := if c.repeats = 0 then c.teeth else c.teeth / c.repeats
  let fwd := (List.range n).map (fun j => (Dir.forward, j))
  if c.dirSrc = 2 then fwd ++ (List.range n).map (fun j => (Dir.reverse, j)) else fwd

/-- The unique matching candidate, once SYNCWIN + 1 periods exist (R199). -/
def WheelCfg.matchTest (c : WheelCfg) (hist : List (Nat × Nat)) : Option (Dir × Nat) :=
  if hist.length < c.syncWin + 1 then none
  else match c.candidates.filter (fun p => c.candMatches hist p.1 p.2) with
    | [p] => some p
    | _ => none

/-! ### Interpolation arithmetic (R227, R228) -/

/-- T, beta and whether the beta clamp acted, from the three latest periods and their widths, newest first (R227). -/
def interpolate (active : Interp) (accMax wn : Nat) : List (Nat × Nat) → Nat × Int × Bool
  | (p3, w3) :: rest =>
    let pl := Nat.min (if w3 = 0 then 0 else p3 * wn / w3) 0xFFFFFFFF
    match active, rest with
    | .accel, (p2, w2) :: (p1, w1) :: _ =>
      let v1 : Int := Int.ofNat (w1 * 2 ^ 32 / p1)
      let v2 : Int := Int.ofNat (w2 * 2 ^ 32 / p2)
      let v3 : Int := Int.ofNat (w3 * 2 ^ 32 / p3)
      let g12 := clampInt (-65536) 65536 (divTrunc ((v2 - v1) * 65536) v2)
      let g23 := clampInt (-65536) 65536 (divTrunc ((v3 - v2) * 65536) v3)
      let h := clampInt (-32767) 32767 (divTrunc (g12 * p3) ((p1 + p2 : Nat) : Int) + divTrunc (g23 * p3) ((p2 + p3 : Nat) : Int))
      let m0 := 65536 + divTrunc h 2
      let t0 := divTrunc ((pl : Int) * 65536) m0
      let u := clampInt 0 0xFFFFF (divTrunc (t0 * 65536) p3)
      let m1 := clampInt 32768 131072 (65536 + divTrunc (h * (65536 + u)) 131072)
      let t := Nat.min (pl * 65536 / m1.toNat) 0xFFFFFFFF
      let tq := clampInt 0 0xFFFFF (divTrunc ((t : Int) * 65536) p3)
      let b := divTrunc (h * tq) (2 * m1)
      let bc := clampInt (-(accMax : Int)) accMax b
      (t, bc, decide (bc ≠ b))
    | _, _ => (pl, 0, false)
  | [] => (0, 0, false)

/-- The interpolated offset at `tau` cycles after the edge (R228). -/
def offsetAt (pred : Nat) (beta : Int) (wn tau : Nat) : Nat :=
  let f := if pred = 0 then 0xFFFFFFFF else Nat.min (tau * 2 ^ 32 / pred) 0xFFFFFFFF
  let ff : Nat := f * (2 ^ 32 - f) / 2 ^ 32
  let corr := divTrunc (beta * Int.ofNat ff) 65536
  let fc := clampInt 0 0xFFFFFFFF ((f : Int) - corr)
  Nat.min (wn * fc.toNat / 2 ^ 32) (wn - 1)

/-- The tracker interpolates: it is neither in HOLD nor without an angle (R223, R226). -/
def WheelSt.angleOk (w : WheelSt) : Bool := w.sync == .provisional || w.sync == .locked || w.sync == .coast

/-- The offset since the last counted edge at time `now` (R222, R228). -/
def WheelSt.offset (w : WheelSt) (now : Nat) : Nat :=
  if w.angleOk && w.active != .hold then offsetAt w.pred w.beta w.wnext (now - w.tLast) else 0

/-- Turns times 2^22 plus the reported position at time `now` (R221, R222, R230). -/
def WheelSt.linNow (w : WheelSt) (now : Nat) : Int :=
  if w.dir = .reverse then w.lin - (w.offset now : Int) else w.lin + (w.offset now : Int)

/-- The angle word at time `now` (R221). -/
def WheelSt.angleWord (w : WheelSt) (now : Nat) : Word := wordOfInt (w.linNow now)

/-- The reported position at time `now`. -/
def WheelSt.position (w : WheelSt) (now : Nat) : Nat := wrapInt 22 (w.linNow now)

/-- ANG_Wn_REVCNT at time `now` (R221). -/
def WheelSt.revCnt (w : WheelSt) (now : Nat) : Int := Int.fdiv (w.linNow now) revFrets

/-! ### Speed and acceleration (R204, R206, R231) -/

/-- The unsigned speed of a period (R204). -/
def speedOf (w p : Nat) : Int := Int.ofNat (Nat.min (if p = 0 then 0 else w * 6000000 / p) 0x7FFFFFFF)

/-- A speed with the sign of the direction (R204). -/
def signedSpeed (d : Dir) (v : Int) : Int := if d = .reverse then -v else v

/-- The speed the register shows at time `now`: in COAST the lower of the last value and the overdue bound (R206). -/
def WheelSt.speedNow (w : WheelSt) (now : Nat) : Int :=
  if w.sync = .coast then
    let bound := speedOf w.wnext (now - w.tLast)
    if w.speed < 0 then (if -w.speed < bound then w.speed else -bound)
    else (if w.speed < bound then w.speed else bound)
  else w.speed

/-- ANG_Wn_ACCEL at an edge, from two speeds and two periods (R231). -/
def accelOf (s3 s2 : Int) (p3 p2 : Nat) : Int :=
  clampInt (-0x7FFFFFFF) 0x7FFFFFFF (divTrunc ((s3 - s2) * 768000000) ((p2 + p3 : Nat) : Int))

/-! ### The tracker at an edge (R195 to R207) -/

/-- What a transition did to the tracker. -/
structure EdgeReport where
  /-- A counted edge, as timers and phase channels see it (R213). -/
  counted : Bool := false
  /-- The edge is a reversal tooth. -/
  reversal : Bool := false
  /-- Additions to ANG_Wn_NOISE.NOISE and RATE, and to ANG_Wn_LOSS.MISS, LOST and COAST. -/
  noise : Bool := false
  rate : Bool := false
  missed : Bool := false
  lostLock : Bool := false
  /-- ANG_Wn_FAULT.NOMATCH is set. -/
  noMatch : Bool := false
  /-- The beta clamp acted. -/
  clamped : Bool := false
deriving DecidableEq, Repr

/-- The tracker in SEEK with its history restarted at an edge at time `t`, which is its first edge in SEEK (R196). -/
def WheelSt.toSeek (w : WheelSt) (now t : Nat) : WheelSt :=
  { w with
    lin := if w.angleOk then w.linNow now else w.lin
    sync := .seek, hasEdge := true, tLast := t, hist := [], seekEdges := 1, confirm := 0, miss := 0, uncheck := 0
    valid := 0, active := .hold, pred := 0, beta := 0, accel := 0, dirPend := false
    badSince := if w.sync = .seek ∨ w.sync = .provisional ∨ w.sync = .lost then w.badSince else now }

/-- The tracker gone SILENT: no history, speed 0, STANDSTILL (R196, R205, R218). SETTLING and REVERSAL last until the edge at which their
rules clear them (R200, R203), and DIR of a WIDTH wheel stays (R201, log entry 114). A wheel that rests already keeps the time since which
it rests, so that a self-test abandoned and queued again may start at once (DESIGN CHOICE, log entry 140). -/
def WheelSt.toSilent (w : WheelSt) (now : Nat) : WheelSt :=
  { w with
    lin := if w.angleOk then w.linNow now else w.lin
    sync := .silent, hasEdge := false, hist := [], seekEdges := 0, confirm := 0, miss := 0, uncheck := 0
    valid := 0, active := .hold, pred := 0, beta := 0, accel := 0, speed := 0, standstill := true, coarse := false
    dirPend := false
    restSince := if w.standstill then w.restSince else now }

/-- The interpolation chosen at an edge for the coming tooth (R226). -/
def chooseInterp (valid : Nat) (accelMode : Bool) : Interp :=
  if valid = 0 then .hold else if valid < 3 then .plain else if accelMode then .accel else .plain

/-- The close of a counted edge: the coming tooth's width and prediction, the flags that run out, and the edge count
(R200, R203, R226, R227). -/
def WheelSt.closeEdge (c : WheelCfg) (w : WheelSt) (t : Nat) : WheelSt × Bool :=
  let act := if w.angleOk then chooseInterp w.valid c.accelMode else .hold
  let wn := c.running w.dir w.tooth
  let r := if act = .hold then (0, (0 : Int), false) else interpolate act c.accMax wn w.hist
  ({ w with
      active := act, wnext := wn, pred := r.1, beta := r.2.1, tLast := t, hasEdge := true, standstill := false
      hist := w.hist.take 17, edgeAng := wordOfInt w.lin, edges := w.edges + 1 }, r.2.2)

/-- A counted edge moves the position on by the width just covered (R222, R229). -/
def WheelSt.advance (c : WheelCfg) (w : WheelSt) : WheelSt :=
  let nt := c.nextTooth w.dir w.tooth
  { w with
    tooth := nt
    lin := if w.dir = .reverse then w.lin - (c.width nt : Int) else w.lin + (c.width w.tooth : Int) }

/-- The width that the period ending at the expected tooth covers. -/
def WheelSt.expectWidth (c : WheelCfg) (w : WheelSt) : Nat := c.running w.dir w.tooth

/-- Speed, COARSE and acceleration after a period `p` over width `wd`, VCOUNT already set (R204, R205, R231). -/
def WheelSt.measure (w : WheelSt) (p wd : Nat) (coarse : Bool) : WheelSt :=
  let v := signedSpeed w.dir (speedOf wd p)
  let p2 := match w.hist with
    | _ :: (q, _) :: _ => q
    | _ => 0
  { w with
    speed := v, coarse := coarse
    accel := if 2 ≤ w.valid ∧ p2 ≠ 0 then accelOf v w.speed p p2 else 0 }

/-- An edge in SEEK that does not restart the history (R196, R199). -/
def WheelSt.seekEdge (c : WheelCfg) (w : WheelSt) (now t p : Nat) : WheelSt × EdgeReport :=
  let hist := ((p, c.avgWidth) :: w.hist).take 17
  match c.matchTest hist with
  | some (d, j) =>
    let wd := c.candWidth d j 0
    let dir := if c.dirSrc = 2 then d else w.dir
    let pos : Int := ((c.angle j : Int) - (c.capo : Int)) % (revFrets : Int)
    let w1 := { w with
      sync := .provisional, tooth := j, dir := dir, hist := [(p, wd)], confirm := 0, miss := 0, uncheck := 0, valid := 1
      zeroArb := decide (1 < c.repeats), seekEdges := 0, sinceAnchor := 0, anchor := j
      lin := Int.fdiv w.lin revFrets * revFrets + pos }
    let r := (w1.measure p wd false).closeEdge c t
    (r.1, { counted := true, clamped := r.2 })
  | none =>
    let w1 := { w with hist := hist, seekEdges := w.seekEdges + 1, valid := 0 }
    let w2 := (w1.measure p c.avgWidth true)
    if w1.seekEdges < 2 * c.teeth + c.syncWin + 1 then
      let r := w2.closeEdge c t
      (r.1, { counted := true })
    else
      let r := ({ w2 with sync := .lost, hist := [] }).closeEdge c t
      ({ r.1 with badSince := if w.sync = .seek then w.badSince else now }, { counted := true, noMatch := true })

/-- An edge in PROVISIONAL, LOCKED or COAST that passes, or whose ratio is not `checked` (R196). Only one that passes the check anchors the
reversal hypothesis; DIRPEND clears here too, where no reversal follows the misses (R202; DESIGN CHOICE, log entry 141). -/
def WheelSt.passEdge (c : WheelCfg) (w : WheelSt) (t p wd valid : Nat) (checked : Bool) : WheelSt × EdgeReport :=
  let w1 := { (w.advance c) with hist := (p, wd) :: w.hist, valid := valid, miss := 0, dirPend := false }
  let w2 := { (w1.measure p wd w.second) with
    anchor := if checked then w1.tooth else w.anchor, sinceAnchor := if checked then 0 else w.sinceAnchor + 1 }
  let w3 := match w.sync with
    | .provisional =>
      if c.confirm ≤ w.confirm + 1 then { w2 with sync := .locked, confirm := 0 }
      else { w2 with confirm := w.confirm + 1 }
    | _ => { w2 with sync := .locked }
  let r := w3.closeEdge c t
  (r.1, { counted := true, clamped := r.2 })

/-- The reversal tooth (R202, R203): speed 0, the new direction, REVERSAL for two teeth, VCOUNT 0. `hist` is the period that ends there, where
it covers a width: in QUAD the wheel comes back to the tooth it left, and it covers none (log entry 114). The period that begins there is
not the earlier one of a ratio (R198). -/
def WheelSt.reverseEdge (c : WheelCfg) (w : WheelSt) (d : Dir) (tooth : Nat) (lin : Int) (t : Nat) (hist : List (Nat × Nat)) :
    WheelSt × EdgeReport :=
  let w1 := { w with
    dir := d, tooth := tooth, lin := lin, hist := hist, valid := 0, speed := 0, accel := 0, miss := 0
    dirPend := false, uncheck := 2, sinceAnchor := 0, anchor := tooth, coarse := false
    sync := if w.sync = Sync.coast then Sync.locked else w.sync }
  let r := w1.closeEdge c t
  (r.1, { counted := true, reversal := true, clamped := r.2 })

/-- The opposite direction. -/
def Dir.flip : Dir → Dir
  | .forward => .reverse
  | .reverse => .forward
  | .unknown => .unknown

/-- The reverse hypothesis of WIDTH at the `k`-th edge after the anchor (R202): the tooth of that edge and the widths of the two
latest periods, newest first, for travel against the direction of the anchor. -/
def WheelCfg.hypothesis (c : WheelCfg) (w : WheelSt) (k : Nat) : Nat × Nat × Nat :=
  let e := if c.teeth = 0 then 1 else c.teeth
  let a : Int := w.anchor
  if w.dir = .reverse then
    (((a + k - 1) % (e : Int)).toNat, c.width (a + k - 2), c.width (a + k - 3))
  else
    (((a - k + 1) % (e : Int)).toNat, c.width (a - k + 1), c.width (a - k + 2))

/-- The linear position of the reversal tooth of WIDTH: that tooth's angle, on the other flank by MARK frets, at the
occurrence nearest the position so far (R202, R229). -/
def WheelSt.hypothesisLin (c : WheelCfg) (w : WheelSt) (tooth : Nat) : Int :=
  let flank : Int := if w.dir = .reverse then 0 else c.mark
  let pos : Int := ((c.angle tooth : Int) + flank - (c.capo : Int)) % (revFrets : Int)
  let base := Int.fdiv w.lin revFrets * revFrets + pos
  if (revFrets : Int) / 2 < base - w.lin then base - revFrets
  else if base - w.lin < -((revFrets : Int) / 2) then base + revFrets else base

/-- An edge in LOCKED that fails the ratio check (R196, R202). The speed of the edge that enters LOST is over the average width, with COARSE
(DESIGN CHOICE, log entry 143). -/
def WheelSt.missEdge (c : WheelCfg) (w : WheelSt) (now t p wd : Nat) : WheelSt × EdgeReport :=
  let k := w.sinceAnchor + 1
  let hyp := c.hypothesis w k
  let revPass := decide (c.dirSrc = 2) && decide (3 ≤ k) &&
    (match w.hist with
     | (pk, _) :: _ => ratioPass c.syncTol p hyp.2.1 pk hyp.2.2
     | [] => false)
  if revPass then w.reverseEdge c w.dir.flip hyp.1 (w.hypothesisLin c hyp.1) t [(p, hyp.2.1)]
  else if c.errLim ≤ w.miss + 1 then
    let w1 := { (w.toSeek now t) with sync := .lost, badSince := now }
    let w2 := w1.measure p c.avgWidth true
    let r := w2.closeEdge c t
    (r.1, { counted := true, lostLock := true })
  else
    let w1 := { (w.advance c) with
      hist := (p, wd) :: w.hist, valid := 1, miss := w.miss + 1, sinceAnchor := k
      dirPend := w.dirPend || decide (c.dirSrc = 2) }
    let r := (w1.measure p wd false).closeEdge c t
    (r.1, { counted := true, missed := true, clamped := r.2 })

/-- An edge that sends the tracker to SEEK with its history restarted there, and with direction `d`; the period is measured over the
average width (R196, R204). -/
def WheelSt.restartEdge (c : WheelCfg) (w : WheelSt) (d : Dir) (now t p : Nat) : WheelSt × EdgeReport :=
  let r := (({ (w.toSeek now t) with dir := d }).measure p c.avgWidth true).closeEdge c t
  (r.1, { counted := true })

/-- The limit of the noise window, where it applies (R195). The span that ends at the first edge after a standstill is no period, as R208 takes
it, so that p_last exists again at the edge after the next (log entry 114). -/
def WheelSt.noiseLimit (c : WheelCfg) (w : WheelSt) : Nat :=
  if w.angleOk && !w.standstill && decide (w.revLeft ≠ 2) then
    match w.hist with
    | (p, wl) :: _ => predPeriod p (w.expectWidth c) wl * c.nwin / 16
    | [] => 0
  else 0

/-- The ratio of a period over an expected width to the one before it passes (R198). -/
def WheelSt.ratioOk (c : WheelCfg) (w : WheelSt) (p wd : Nat) : Bool :=
  match w.hist with
  | (pk, wk) :: _ => ratioPass c.syncTol p wd pk wk
  | [] => true

/-- A transition of the counted kind at timestamp `t`, acted on at `now`, with the direction that QUAD gives it (R195 to R207). A direction
that becomes or was UNKNOWN is no change of direction (R202; DESIGN CHOICE, log entry 142). -/
def WheelSt.edgeCore (c : WheelCfg) (w : WheelSt) (now t : Nat) (qd : Dir) : WheelSt × EdgeReport :=
  let p := t - w.tLast
  let quadTurn := decide (c.dirSrc = 1) && qd != .unknown && w.dir != .unknown && qd != w.dir
  let w0 := if c.dirSrc = 1 then { w with dir := qd } else if c.dirSrc = 0 then { w with dir := .unknown } else w
  if w.hasEdge && decide (p < w.noiseLimit c) then (w, { noise := true })
  else if w.hasEdge && decide (p < 1536) then (w, { rate := true })
  else match w.sync with
    | .silent =>
      let r := ({ (w0.toSeek now t) with speed := 0, standstill := false }).closeEdge c t
      (r.1, { counted := true })
    | .lost => w.restartEdge c w0.dir now t p
    | .seek =>
      if w.standstill then
        let r := ({ (w0.toSeek now t) with speed := 0, standstill := false, seekEdges := w.seekEdges + 1 }).closeEdge c t
        (r.1, { counted := true })
      else if quadTurn then
        w.restartEdge c w0.dir now t p
      else w0.seekEdge c now t p
    | .provisional =>
      if quadTurn then
        w.restartEdge c w0.dir now t p
      else
        let wd := w0.expectWidth c
        let unchecked := w.uncheck.testBit 0 || w.hist.isEmpty
        if unchecked || w.ratioOk c p wd then
          ({ w0 with uncheck := w.uncheck / 2 }).passEdge c t p wd (Nat.min (w.valid + 1) 3) (!unchecked)
        else w.restartEdge c w0.dir now t p
    | .coast =>
      if quadTurn then w.reverseEdge c qd w.tooth w.lin t []
      else
        let r := ({ w0 with hist := [] }).passEdge c t p (w0.expectWidth c) 1 false
        ({ r.1 with uncheck := 1 }, r.2)
    | .locked =>
      if quadTurn then w.reverseEdge c qd w.tooth w.lin t []
      else if w.standstill then
        let w1 := { (w0.advance c) with
          hist := [], valid := 0, miss := 0, uncheck := 0, speed := 0, accel := 0, sinceAnchor := w.sinceAnchor + 1, standstill := false
          coarse := false, dirPend := false }
        let r := w1.closeEdge c t
        (r.1, { counted := true, clamped := r.2 })
      else
        let wd := w0.expectWidth c
        let unchecked := w.uncheck.testBit 0 || w.hist.isEmpty
        if unchecked || w.ratioOk c p wd then
          ({ w0 with uncheck := w.uncheck / 2 }).passEdge c t p wd (Nat.min (w.valid + 1) 3) (!unchecked)
        else ({ w0 with uncheck := w.uncheck / 2 }).missEdge c now t p wd

/-- `edgeCore`, with what every counted edge does: ANG_Wn_PERIOD and ANG_Wn_EDGET are taken (Table Wheel.11), and SETTLING and REVERSAL are
set or run out (R200, R203). The span over a standstill is no period (R208, log entry 114). -/
def WheelSt.edgeStep (c : WheelCfg) (w : WheelSt) (now t : Nat) (qd : Dir) : WheelSt × EdgeReport :=
  let r := w.edgeCore c now t qd
  if r.2.counted then
    ({ r.1 with
        period := if w.hasEdge && !w.standstill then t - w.tLast else w.period, edgeT := some t, second := w.standstill
        settleLeft := if r.1.sync = .provisional ∧ w.sync ≠ .provisional then 3 else w.settleLeft - 1
        revLeft := if r.2.reversal then 2 else w.revLeft - 1 }, r.2)
  else r

/-- QUAD: the direction of an A transition, from B's level before it (R201). -/
def quadDir (c : WheelCfg) (atEdge : Bool) (b : InLevel) : Dir :=
  match b with
  | .low => if atEdge != c.dirInv then .forward else .reverse
  | .high => if atEdge != c.dirInv then .reverse else .forward
  | _ => .unknown

/-- STANDSTILL at STOPTO without a counted edge (R196, R205). A kept position stays where the offset has brought it, and VCOUNT and ACTIVE as
the last edge left them (R222, R225, R226). -/
def WheelSt.stopStep (c : WheelCfg) (w : WheelSt) (now : Nat) : WheelSt :=
  match w.sync with
  | .silent => w
  | .seek => w.toSilent now
  | .provisional => w.toSilent now
  | .lost => w.toSilent now
  | .coast =>
    if c.keepLock && decide (c.dirSrc ≠ 0) then
      { w with sync := .locked, standstill := true, speed := 0, accel := 0, coarse := false, restSince := now }
    else w.toSilent now
  | .locked => { w with standstill := true, speed := 0, accel := 0, coarse := false, restSince := now }

/-- COAST is due: no edge within the overdue limit in LOCKED (R196). Without a last period that covers a width there is no limit: after the
first edge from a standstill, and after a reversal tooth of QUAD (log entry 114). -/
def WheelSt.coastDue (c : WheelCfg) (w : WheelSt) (now : Nat) : Bool :=
  decide (w.sync = .locked) && !w.standstill &&
    (match w.hist with
     | (p, wl) :: _ => decide (predPeriod p (w.expectWidth c) wl * c.coastF / 16 ≤ now - w.tLast)
     | [] => false)

/-- STOPTO has run out since the last counted edge (R205). A wheel that a commit sent to SEEK at standstill still goes to SILENT (R196). -/
def WheelSt.stopDue (c : WheelCfg) (w : WheelSt) (now : Nat) : Bool :=
  w.hasEdge && (!w.standstill || w.sync == .seek) && decide (w.tLast + msAng c.stopTo ≤ now)

/-- The wheel is SILENT or at standstill. -/
def WheelSt.atRest (w : WheelSt) : Bool := decide (w.sync = .silent) || w.standstill

/-- The state codes of ANG_Wn_STATE.SYNC (R196). -/
def Sync.code : Sync → Nat
  | .silent => 0
  | .seek => 1
  | .provisional => 2
  | .locked => 3
  | .coast => 4
  | .lost => 5

/-- The codes of ANG_Wn_STATE.DIR. -/
def Dir.code : Dir → Nat
  | .unknown => 0
  | .forward => 1
  | .reverse => 2

/-- The codes of ANG_Wn_ISTAT.ACTIVE. -/
def Interp.code : Interp → Nat
  | .hold => 0
  | .plain => 1
  | .accel => 2

/-- The codes of SYS_INSTAT0 and SYS_INSTAT1. -/
def InLevel.code : InLevel → Nat
  | .unknown => 0
  | .low => 1
  | .high => 2
  | .stuckMid => 3

/-- ANG_Wn_STATE.DIR under a direction source (R201). -/
def WheelSt.dirShown (w : WheelSt) (dirSrc : Nat) : Dir :=
  if dirSrc = 0 then .unknown
  else if dirSrc = 1 then (if w.lvlB = .low ∨ w.lvlB = .high then w.quadDir else .unknown)
  else w.dir

/-- ANG_Wn_STATE as a word (Table Wheel.11). -/
def WheelSt.stateWord (w : WheelSt) (dirSrc : Nat) : Word :=
  BitVec.ofNat 32 (w.sync.code + atBit (w.dirShown dirSrc).code 4 + atBit (b2n w.standstill) 8 + atBit (b2n w.coarse) 9 +
    atBit (b2n (decide (0 < w.settleLeft))) 10 + atBit (b2n (decide (0 < w.revLeft))) 11 + atBit (b2n w.dirPend) 12 +
    atBit (b2n w.zeroArb) 13 + atBit (w.tooth % 1024) 16)

/-- The state with a wheel changed. -/
def State.setWheel (s : State) (n : Fin 4) (w : WheelSt) : State := { s with wheels := s.wheels.set n w }

/-- ACCEL as it reads: 0 while the speed of a COAST reads 0 (R206, R231). -/
def WheelSt.accelNow (w : WheelSt) (now : Nat) : Int := if w.sync = .coast ∧ w.speedNow now = 0 then 0 else w.accel

/-- The angle word of wheel `n` now (R221). -/
def State.angleOf (s : State) (n : Fin 4) : Word := (s.wheels[n]).angleWord s.now

/-- The turn count of wheel `n` as it grows without wrapping, to tell passes of 0 (R166). -/
def State.turnOf (s : State) (n : Fin 4) : Int := (s.wheels[n]).revCnt s.now

/-- ANG_TNOW (R224). -/
def State.tnow (s : State) (t : Nat) : Word := BitVec.ofNat 32 (t - s.tnowBase)

/-- Every wheel is SILENT or at standstill. -/
def State.wheelsAtRest (s : State) : Bool := s.wheels.toList.all (fun w => w.atRest)

end Sys2Proof.Machine
end

