-- ==== Sys2Proof/Machine/Checks.lean ====
section
/-!
DEFINITION. The load-commit and commit checks (R109, R164 check 3): for each block, the addresses of the words that break a range
or a rule of its chapter, as a function of a register contents. The least failing address is the one reported (log entry 16).
-/

namespace Sys2Proof.Machine

/-- The address, if the condition that refuses it holds. -/
def failIf (b : Bool) (a : Nat) : List Nat := if b then [a] else []

/-! ### Wheels and phase channels (R189, R194, R199, R202, R208, R233) -/

/-- The nominal ratio `k` of a candidate's window as a numerator and a denominator (R199). -/
def WheelCfg.nominal (c : WheelCfg) (p : Dir × Nat) (k : Nat) : Nat × Nat :=
  (c.candWidth p.1 p.2 k, c.candWidth p.1 p.2 (k + 1))

/-- Two ratios agree within 1/256 of the smaller (R199). -/
def ratioAgree (a b : Nat × Nat) : Bool :=
  let x := a.1 * b.2
  let y := b.1 * a.2
  let lo := Nat.min x y
  decide ((Nat.max x y - lo) * 256 ≤ lo)

/-- Two ratios differ by more than 2 x SYNCTOL/256 of the smaller (R199). -/
def ratioDiffer (tol : Nat) (a b : Nat × Nat) : Bool :=
  let x := a.1 * b.2
  let y := b.1 * a.2
  let lo := Nat.min x y
  decide (2 * tol * lo < (Nat.max x y - lo) * 256)

/-- Two candidates agree in every ratio of the window. -/
def WheelCfg.candAgree (c : WheelCfg) (a b : Dir × Nat) : Bool :=
  (List.range c.syncWin).all (fun k => ratioAgree (c.nominal a k) (c.nominal b k))

/-- Two candidates differ clearly in some ratio of the window. -/
def WheelCfg.candDiffer (c : WheelCfg) (a b : Dir × Nat) : Bool :=
  (List.range c.syncWin).any (fun k => ratioDiffer c.syncTol (c.nominal a k) (c.nominal b k))

/-- The decodability check of R199. -/
def WheelCfg.decodable (c : WheelCfg) : Bool :=
  let cs := c.candidates
  cs.all (fun a => cs.all (fun b => a == b || c.candAgree a b || c.candDiffer a b)) &&
  (if c.dirSrc = 2 then [Dir.forward, Dir.reverse] else [Dir.forward]).all (fun d =>
    cs.any (fun a => a.1 == d && cs.all (fun b => a == b || !c.candAgree a b)))

/-- The pattern of wheel `n` breaks a rule other than the sum of a tooth-angle table (R193, R194, R199). -/
def patternBad (c : Nat → Word) (n : Nat) : Bool :=
  let w := wheelCfgOf c n
  let teeth := fieldOf (c (wheelBase n + 4)) 9 0
  let pos := fieldOf (c (wheelBase n + 4)) 31 24
  decide (w.mode ≠ 0) &&
    (decide (512 < teeth) || decide (w.mode = 1 ∧ (teeth < 2 ∨ 511 < teeth ∨ pos = 0 ∨ w.repeats ≠ 1)) ||
     decide (w.mode = 2 ∧ teeth < 2) || decide (w.mode = 3 ∧ teeth < 1) ||
     decide (w.repeats = 0 ∨ 512 < w.repeats) || decide (w.teeth % w.repeats ≠ 0) ||
     decide (w.mode ≠ 3 ∧ w.widths.sum ≠ revFrets) || !w.decodable)

/-- The words of wheel `n` that fail (R189, R194, R199, R202, R208, Table Angle.2). -/
def wheelFails (c : Nat → Word) (n : Nat) : List Nat :=
  let w := wheelCfgOf c n
  let b := wheelBase n
  failIf (decide (w.dirSrc = 3 ∨ (w.dirSrc = 1 ∧ w.bFit = false))) b ++
  failIf (patternBad c n) (b + 4) ++
  failIf (decide (w.coastF < 17 ∨ w.errLim = 0 ∨ w.confirm = 0 ∨ w.syncTol = 0 ∨ w.syncWin = 0 ∨ (w.dirSrc = 2 ∧ w.errLim < 3)))
    (b + 8) ++
  failIf (decide (w.stopTo = 0 ∨ 10000 < w.stopTo)) (b + 0xC) ++
  failIf (decide (w.accMax = 0 ∨ 32768 < w.accMax)) (b + 0x28)

/-- The words of phase channel `k` that fail (R233). -/
def phaseFails (c : Nat → Word) (k : Nat) : List Nat :=
  let b := 0x30940 + 0x40 * k
  let cfg := c b
  let wa := fieldOf cfg 5 4
  let wb := fieldOf cfg 7 6
  let fold := fieldOf (c (b + 4)) 9 0
  if bitOf cfg 0 then
    failIf (decide (wa = wb) || decide (fieldOf cfg 23 16 = 0) || decide (6 < fieldOf cfg 10 8) ||
      decide ((wheelCfgOf c wa).filt ≠ (wheelCfgOf c wb).filt) || decide ((wheelCfgOf c wa).mode = 0) ||
      decide ((wheelCfgOf c wb).mode = 0)) b ++
    failIf (decide (fold = 0 ∨ 512 < fold)) (b + 4)
  else []

/-- The sum of the tooth-angle table of wheel `n` is wrong while the wheel uses it (R104, R194). -/
def toothSumBad (c : Nat → Word) (n : Nat) : Bool :=
  let w := wheelCfgOf c n
  decide (w.mode = 3 ∧ w.widths.sum ≠ revFrets)

/-- The word lies in the tooth-angle table of wheel `n`. -/
def inTable (n a : Nat) : Bool := decide (0x31000 + 0x800 * n ≤ a ∧ a < 0x31800 + 0x800 * n)

/-- The sum of the whole tooth-angle table of wheel `n`. -/
def tableSum (c : Nat → Word) (n : Nat) : Nat := ((List.range 512).map (fun i => fieldOf (c (ttabAddr n i)) 22 0)).sum

/-- The table of a wheel in another mode sums wrong, over all its words: N is not given (log entry 53). -/
def unusedSumBad (c : Nat → Word) (n : Nat) : Bool := decide ((wheelCfgOf c n).mode ≠ 3) && decide (tableSum c n ≠ revFrets)

/-- The ANG words that fail. -/
def angFails (c : Nat → Word) : List Nat :=
  (List.range 4).flatMap (wheelFails c) ++ (List.range 2).flatMap (phaseFails c)

/-! ### Power and link (R47, R66, R120, R123) and the transaction engine (Table Cfg.8) -/

/-- The PWR words that fail (R47, R66). -/
def pwrFails (c : Nat → Word) : List Nat :=
  failIf (bitOf (c 0x110008) 4 && decide (fieldOf (c 0x110008) 15 8 = 0)) 0x110008 ++
  failIf ((bitOf (c 0x11000C) 4 || bitOf (c 0x11000C) 5) && !bitOf (c 0x11000C) 6) 0x11000C

/-- A bit rate of `quanta x brp` CLK_PER cycles per bit lies outside `lo` to `hi` bit/s (R120). -/
def rateOutside (brp quanta lo hi : Nat) : Bool :=
  decide (brp = 0) || decide (48000000 < lo * (brp * quanta)) || decide (hi * (brp * quanta) < 48000000)

/-- The LNK words that fail (R120, R123, Table Link.15). -/
def lnkFails (c : Nat → Word) : List Nat :=
  let nb := c 0x1000C
  let db := c 0x10010
  let nq := 1 + fieldOf nb 15 8 + fieldOf nb 22 16
  let dq := 1 + fieldOf db 12 8 + fieldOf db 19 16
  let nbrp := fieldOf nb 4 0
  let dbrp := fieldOf db 4 0
  let base := fieldOf (c 0x10004) 10 0
  failIf (decide (base % 4 ≠ 0 ∨ 0x7FF < base + 127)) 0x10004 ++
  failIf (rateOutside nbrp nq 125000 1000000 || decide (fieldOf nb 22 16 < fieldOf nb 30 24) ||
    decide (fieldOf nb 30 24 = 0 ∨ fieldOf nb 22 16 = 0 ∨ fieldOf nb 15 8 < 2)) 0x1000C ++
  failIf (decide (dbrp = 0) || decide (5000000 * (dbrp * dq) < 48000000) || decide (nbrp * nq < dbrp * dq) ||
    decide (fieldOf db 19 16 < fieldOf db 27 24) ||
    decide (fieldOf db 27 24 = 0 ∨ fieldOf db 19 16 = 0 ∨ fieldOf db 12 8 = 0)) 0x10010 ++
  failIf (decide (fieldOf (c 0x1002C) 5 0 = 0 ∨ 31 < fieldOf (c 0x1002C) 5 0)) 0x1002C

/-- The CFG word that fails (Table Cfg.8). -/
def cfgFails (c : Nat → Word) : List Nat :=
  failIf (decide (fieldOf (c 0x20008) 7 0 = 0 ∨ fieldOf (c 0x20008) 15 8 = 0)) 0x20008

end Sys2Proof.Machine
end

