-- ==== Sys2Proof/Machine/Clocking.lean ====
section
/-!
DEFINITION. Clocks: how CLK_ANG cycles, CLK_LF edges and TCLK edges become timer counts (R58, R59, R287 to R291).
-/

namespace Sys2Proof.Machine

/-- The page of timer `n` in the TMR block (R319). -/
def tmrBase (n : Fin 16) : Nat := 0x50000 + 0x80 * n.val

/-- A 48-bit configuration value in two words. -/
def State.cfg48 (s : State) (lo : Nat) : Nat := (s.reg lo).toNat + 2 ^ 32 * s.fld (lo + 4) 15 0

/-- TOP, INIT and the release values of both channels (Table Timer.6). -/
def State.timerTop (s : State) (n : Fin 16) : Nat := s.cfg48 (tmrBase n + 8)
def State.timerInit (s : State) (n : Fin 16) : Nat := s.cfg48 (tmrBase n + 0x10)

/-- The state with a timer changed. -/
def State.setTimer (s : State) (n : Fin 16) (t : TimerSt) : State := { s with timers := s.timers.set n t }

/-- A match is to be made: one of an earlier cycle, or the one of COUNT as it has entered its value in this cycle, against the active value and
TOP as they stand now; a value above TOP never matches (R296). -/
def TimerSt.dueA (t : TimerSt) (top : Nat) : Bool :=
  t.passA || (t.fresh && !t.tookA && decide (t.count = t.actA) && decide (t.actA ≤ top))
def TimerSt.dueB (t : TimerSt) (top : Nat) : Bool :=
  t.passB || (t.fresh && !t.tookB && decide (t.count = t.actB) && decide (t.actB ≤ top))

/-- The cycle is over: a match that it has made stays due (R296). -/
def TimerSt.endCycle (t : TimerSt) (top : Nat) : TimerSt :=
  { t with passA := t.dueA top, passB := t.dueB top, fresh := false, tickNow := false, tookA := false, tookB := false }

/-- `k` counts up to TOP; those beyond are owed as wraps (R291). `last` says that the last one falls in the present cycle, whose compare is still
to come (R295). -/
def TimerSt.countBy (t : TimerSt) (top k : Nat) (last : Bool) : TimerSt :=
  if k = 0 then t
  else if t.owed = 0 then
    let step := Nat.min k (top - t.count)
    let c := t.count + step
    let now := last && decide (step = k)
    { t with
      count := c, owed := k - step, tickNow := last, fresh := now
      passA := t.passA || (decide (t.count < t.actA) && decide (t.actA ≤ c) && !(now && decide (t.actA = c)))
      passB := t.passB || (decide (t.count < t.actB) && decide (t.actB ≤ c) && !(now && decide (t.actB = c))) }
  else { t with owed := t.owed + k, tickNow := last }

/-- `n` ticks through the prescaler (R289), the last in the present cycle or not. The last tick counts if it leaves the accumulator below one
tick. -/
def TimerSt.tick (t : TimerSt) (psc top n : Nat) (last : Bool) : TimerSt :=
  let total := t.acc + 65536 * n
  let p := if psc = 0 then 65536 else psc
  ({ t with acc := total % p }).countBy top (total / p) (last && decide (total % p < 65536))

/-- The ticks CLK_ANG cycles give a source (Table Timer.2). -/
def angTicks (src now d : Nat) : Nat :=
  if src = 0 then d else if src = 1 then (now + d) / 2 - now / 2 else if src = 2 then (now + d) / 8 - now / 8 else 0

/-- A tick of this source falls in the very cycle `t` (Table Timer.2). -/
def tickAt (src t : Nat) : Bool := src == 0 || (src == 1 && t % 2 == 0) || (src == 2 && t % 8 == 0)

/-- The ticks that TCLK edges give (TEDGE: 0 rising, 1 falling, 2 both). -/
def tclkTicks (src tedge : Nat) (l : List (Nat × Nat)) : Nat :=
  if 4 ≤ src ∧ src ≤ 7 then
    let p := l.getD (src - 4) (0, 0)
    if tedge = 0 then p.1 else if tedge = 1 then p.2 else p.1 + p.2
  else 0

/-- The share of one CLK_LF period, in 1/65536 of a source cycle (R58). -/
def lfShare (src cal : Nat) : Nat :=
  if src = 0 then cal else if src = 1 then cal / 2 else if src = 2 then cal / 8 else if src = 3 then 65536 else 0

/-- The gate of a GATE slave is open (R300): the master level, or its inverse with GPOL. In STANDBY an event output's level is inactive (R317). -/
def State.gateOpen (s : State) (n : Fin 16) : Bool :=
  let w := s.reg (tmrBase n)
  if fieldOf w 13 11 = 1 then
    let m := fieldOf w 18 14
    let lvl := if bitOf w 19 then s.running && (s.outs.toList.getD m {}).lvl else (s.timers.toList.getD m {}).lvl && (s.timers.toList.getD m {}).run
    lvl != bitOf w 23
  else true

/-- A compare write takes effect under the channel's rule (R297). -/
def State.applyCompare (s : State) (n : Fin 16) (t : TimerSt) (chanB : Bool) (x : Nat) : TimerSt :=
  if s.bit (tmrBase n) (if chanB then 27 else 26) then (if chanB then { t with pendB := some x } else { t with pendA := some x })
  else if chanB then { t with actB := x } else { t with actA := x }

/-- One timer over a span from cycle `now` on, in RUN, DOZE or a start-up (R287 to R291). A pulse of a LINK timer's master counts in the first
cycle of the span; a tick of CLK_LF or TCLK is taken to fall in its last (log entry 117). -/
def State.countSpan (s : State) (n : Fin 16) (t : TimerSt) (now : Nat) (d : Span) : TimerSt :=
  let b := tmrBase n
  let src := s.fld b 3 0
  let t0 := if d.ang = 0 then t else { (t.endCycle (s.timerTop n)) with link := false }
  if t.run && s.gateOpen n then
    let linked := decide (d.ang ≠ 0) && t.link
    let k := angTicks src now d.ang + (if src = 3 then d.lf else 0) + tclkTicks src (s.fld b 7 6) d.tclk + b2n linked
    let last := if linked then decide (d.ang = 1) else tickAt src (now + d.ang) || decide (3 ≤ src)
    t0.tick (s.reg (b + 4)).toNat (s.timerTop n) k last
  else t0

/-- One timer over a span: each compare write whose cycle the span reaches applies before that cycle's count (R295, Table Timer.3). -/
def State.runTimer (s : State) (d : Span) (n : Fin 16) : TimerSt :=
  let t := s.timers[n]
  let r := (t.cmpDue.filter (fun w => decide (w.1 ≤ s.now + d.ang))).foldl (fun (p : TimerSt × Nat) w =>
    let k := w.1 - 1 - p.2
    (s.applyCompare n ((s.countSpan n p.1 p.2 { d with ang := k, lf := 0, tclk := [] }).endCycle (s.timerTop n)) w.2.1 w.2.2, p.2 + k))
    ({ t with cmpDue := t.cmpDue.filter (fun w => decide (s.now + d.ang < w.1)) }, s.now)
  s.countSpan n r.1 r.2 { d with ang := s.now + d.ang - r.2 }

/-- One timer over CLK_LF periods in STANDBY (R58, R59); what the entry found on its way, a compare write or a LINK pulse, comes first. -/
def State.standbyTimer (s : State) (lf : Nat) (n : Fin 16) : TimerSt :=
  let t := s.timers[n]
  let b := tmrBase n
  let t1 := t.cmpDue.foldl (fun t w => s.applyCompare n t w.2.1 w.2.2) { (t.endCycle (s.timerTop n)) with cmpDue := [], link := false }
  let t2 := if t.run && t.link && s.gateOpen n then t1.tick (s.reg (b + 4)).toNat (s.timerTop n) 1 false else t1
  let t0 := if lf = 0 then t else t2
  if t.run && s.gateOpen n && decide (0 < lf) then
    let f := t.frac + lf * lfShare (s.fld b 3 0) (s.reg 0x110020).toNat
    ({ t0 with frac := f % 65536 }).tick (s.reg (b + 4)).toNat (s.timerTop n) (f / 65536) false
  else t0

def State.setPllOn (s : State) (b : Bool) : State := { s with power := { s.power with pllOn := b } }

/-- The fraction kept in STANDBY is carried into the prescaler on the timer's own source (R60). -/
def TimerSt.ownSource (t : TimerSt) (psc top : Nat) : TimerSt :=
  if t.frac = 0 then t else ({ t with acc := t.acc + t.frac, frac := 0 }).tick psc top 0 true

/-- Every timer returns to its own source (R60). -/
def State.ownSources (s : State) : State :=
  { s with
    power := { s.power with lfTimers := false }
    timers := Vector.ofFn (fun (n : Fin 16) => (s.timers[n]).ownSource (s.reg (tmrBase n + 4)).toNat (s.timerTop n)) }

/-- The CLK_ANG clock runs: the PLL is on (R49). -/
def State.angRuns (s : State) : Bool := s.power.phase == .run || s.power.phase == .startup || s.power.phase == .waking

/-- The clocks and the timers over CLK_LF periods, each of which counts as PWR_LFCAL; ANG_TNOW goes on alike (R58, R245). -/
def State.lfClocks (s : State) (lf : Nat) : State :=
  let f := s.power.nowFrac + lf * (s.reg 0x110020).toNat
  { s with
    now := s.now + f / 65536, lf := s.lf + lf, power := { s.power with nowFrac := f % 65536 }
    timers := Vector.ofFn (fun n => s.standbyTimer lf n) }

/-- The clocks and the timers over CLK_ANG cycles; TCLK edges come through PD12 (R59). -/
def State.angClocks (s : State) (d : Span) : State :=
  { s with now := s.now + d.ang, lf := s.lf + d.lf, timers := Vector.ofFn (fun n => s.runTimer d n) }

/-- A wake before the timers are back on their own source. A span with CLK_ANG cycles shows that the PLL has locked; the next one with a
CLK_LF edge ends at that edge (R60, log entry 100). -/
def State.wakeClocks (s : State) (d : Span) : State :=
  let s1 := s.lfClocks d.lf
  if s.power.pllOn && decide (0 < d.lf) then s1.ownSources
  else s1.setPllOn (s.power.pllOn || decide (0 < d.ang))

/-- The clocks and the timers over a span of time. -/
def State.runClocks (s : State) (d : Span) : State :=
  match s.power.phase with
  | .standby => s.lfClocks d.lf
  | .waking => if s.power.lfTimers then s.wakeClocks d else s.angClocks { d with tclk := [] }
  | _ => if s.angRuns then s.angClocks d else { s with lf := s.lf + d.lf }

end Sys2Proof.Machine
end

