-- ==== Sys2Proof/Machine/Crypto.lean ====
section
/-!
DEFINITION. The checks and ciphers the spec names: CRC-32 (R93), the CRC-16 of the parameter page (R419), SHA-256 (R98, R100), ECDSA over
P-256 (R100), AES-256 in GCM mode (R101) and the BCH parity of a NAND sector (R422). The standards behind them are PRESUMED (log entry 20).
-/

namespace Sys2Proof.Machine

/-! ### CRCs -/

/-- One bit of a reflected CRC-32 (R93). -/
def crc32Bit (c : Nat) : Nat := if c % 2 = 1 then (c / 2) ^^^ 0xEDB88320 else c / 2

/-- One byte of CRC-32. -/
def crc32Byte (c : Nat) (b : Byte) : Nat :=
  crc32Bit (crc32Bit (crc32Bit (crc32Bit (crc32Bit (crc32Bit (crc32Bit (crc32Bit (c ^^^ b.toNat))))))))

/-- CRC-32 of a byte string (R93). -/
def crc32 (l : List Byte) : Nat := (l.foldl crc32Byte 0xFFFFFFFF) ^^^ 0xFFFFFFFF

/-- One bit of the CRC-16 of R419: polynomial 0x8005, not reflected. -/
def crc16Bit (c : Nat) : Nat := if 0x8000 ≤ c then ((c * 2) % 65536) ^^^ 0x8005 else c * 2

/-- CRC-16 of a byte string, initial value 0x4F4E (R419). -/
def crc16 (l : List Byte) : Nat :=
  l.foldl (fun c b => crc16Bit (crc16Bit (crc16Bit (crc16Bit (crc16Bit (crc16Bit (crc16Bit (crc16Bit (c ^^^ (b.toNat * 256))))))))))
    0x4F4E

/-! ### SHA-256 -/

/-- `n` words of 32 bits out of one number, the first word in its uppermost bits. -/
def splitWords (n x : Nat) : List (BitVec 32) := (List.range n).map (fun i => BitVec.ofNat 32 (x / 2 ^ (32 * (n - 1 - i))))

/-- The 64 round constants of SHA-256, eight to a number. -/
def shaK : List (BitVec 32) :=
  splitWords 8 0x428A2F9871374491B5C0FBCFE9B5DBA53956C25B59F111F1923F82A4AB1C5ED5 ++
  splitWords 8 0xD807AA9812835B01243185BE550C7DC372BE5D7480DEB1FE9BDC06A7C19BF174 ++
  splitWords 8 0xE49B69C1EFBE47860FC19DC6240CA1CC2DE92C6F4A7484AA5CB0A9DC76F988DA ++
  splitWords 8 0x983E5152A831C66DB00327C8BF597FC7C6E00BF3D5A7914706CA635114292967 ++
  splitWords 8 0x27B70A852E1B21384D2C6DFC53380D13650A7354766A0ABB81C2C92E92722C85 ++
  splitWords 8 0xA2BFE8A1A81A664BC24B8B70C76C51A3D192E819D6990624F40E3585106AA070 ++
  splitWords 8 0x19A4C1161E376C082748774C34B0BCB5391C0CB34ED8AA4A5B9CCA4F682E6FF3 ++
  splitWords 8 0x748F82EE78A5636F84C878148CC7020890BEFFFAA4506CEBBEF9A3F7C67178F2

/-- The two mixing functions of SHA-256: three rotations of a word, or two and a shift, added modulo 2 bit by bit. -/
def mixRot (x : BitVec 32) (i j k : Nat) : BitVec 32 := (x.rotateRight i ^^^ x.rotateRight j) ^^^ x.rotateRight k
def mixShift (x : BitVec 32) (i j k : Nat) : BitVec 32 := (x.rotateRight i ^^^ x.rotateRight j) ^^^ (x >>> k)

/-- Bit by bit, `y` where `x` is 1 and `z` where it is 0; and what at least two of three words agree on. -/
def pickBits (x y z : BitVec 32) : BitVec 32 := z ^^^ (x &&& (y ^^^ z))
def voteBits (x y z : BitVec 32) : BitVec 32 := (x &&& (y ||| z)) ||| (y &&& z)

/-- The message schedule: each further word from the sixteen before it, newest first. -/
def shaExpand : Nat → List (BitVec 32) → List (BitVec 32)
  | 0, w => w
  | n + 1, w =>
    shaExpand n ((mixShift (w.getD 1 0) 17 19 10 + w.getD 6 0 + (mixShift (w.getD 14 0) 7 18 3 + w.getD 15 0)) :: w)

/-- One round of SHA-256: the eight working words move up by one place, and the sums of the round enter at the first and the fifth. -/
def shaRound (v : List (BitVec 32)) (kw : BitVec 32 × BitVec 32) : List (BitVec 32) :=
  let low := kw.1 + kw.2 + v.getD 7 0 + pickBits (v.getD 4 0) (v.getD 5 0) (v.getD 6 0) + mixRot (v.getD 4 0) 6 11 25
  let high := voteBits (v.getD 0 0) (v.getD 1 0) (v.getD 2 0) + mixRot (v.getD 0 0) 2 13 22
  ((low + high) :: v.take 3) ++ ((v.getD 3 0 + low) :: (v.drop 4).take 3)

/-- The words of a block, most significant byte first. -/
def wordsBE : Nat → List Byte → List (BitVec 32)
  | 0, _ => []
  | n + 1, l => BitVec.ofNat 32 (natBE (l.take 4)) :: wordsBE n (l.drop 4)

/-- One block of SHA-256. -/
def shaBlock (h : List (BitVec 32)) (b : List Byte) : List (BitVec 32) :=
  let w := (shaExpand 48 (wordsBE 16 b).reverse).reverse
  (h.zip ((shaK.zip w).foldl shaRound h)).map (fun p => p.1 + p.2)

/-- `n` blocks of a padded message. -/
def shaBlocks : Nat → List (BitVec 32) → List Byte → List (BitVec 32)
  | 0, h, _ => h
  | n + 1, h, l => shaBlocks n (shaBlock h (l.take 64)) (l.drop 64)

/-- The initial hash of SHA-256. -/
def shaInit : List (BitVec 32) := splitWords 8 0x6A09E667BB67AE853C6EF372A54FF53A510E527F9B05688C1F83D9AB5BE0CD19

/-- SHA-256 in the order it emits its bytes. -/
def sha256 (m : List Byte) : List Byte :=
  let n := m.length
  let blocks := (n + 9 + 63) / 64
  let padded := m ++ [0x80] ++ padBytes (blocks * 64 - n - 9) 0 ++ bytesBE 8 (8 * n)
  (shaBlocks blocks shaInit padded).flatMap (fun w => bytesBE 4 w.toNat)

/-! ### ECDSA over P-256 -/

/-- The field prime, the order, the coefficient b and the base point of P-256. -/
def p256P : Nat := 0xffffffff00000001000000000000000000000000ffffffffffffffffffffffff
def p256N : Nat := 0xffffffff00000000ffffffffffffffffbce6faada7179e84f3b9cac2fc632551
def p256B : Nat := 0x5ac635d8aa3a93e7b3ebbd55769886bc651d06b0cc53b0f63bce3c3e27d2604b
def p256Gx : Nat := 0x6b17d1f2e12c4247f8bce6e563a440f277037d812deb33a0f4a13945d898c296
def p256Gy : Nat := 0x4fe342e2fe1a7f9b8ee7eb4a7c0f9e162bce33576b315ececbb6406837bf51f5

/-- `b ^ e` modulo `m`, over the low `n` bits of `e`. -/
def powMod (m : Nat) : Nat → Nat → Nat → Nat
  | 0, _, _ => 1 % m
  | n + 1, b, e =>
    let h := powMod m n (b * b % m) (e / 2)
    if e % 2 = 1 then h * b % m else h

/-- The inverse modulo a prime. -/
def invMod (m a : Nat) : Nat := powMod m 256 (a % m) (m - 2)

/-- A point of the curve; none is the point at infinity. -/
abbrev EcPoint := Option (Nat × Nat)

/-- The sum of two points. -/
def ecAdd (a b : EcPoint) : EcPoint :=
  match a, b with
  | none, q => q
  | q, none => q
  | some (x1, y1), some (x2, y2) =>
    if x1 = x2 ∧ (y1 + y2) % p256P = 0 then none
    else
      let lam := if x1 = x2 then (3 * x1 * x1 + (p256P - 3)) * invMod p256P (2 * y1) % p256P
        else (y2 + p256P - y1) * invMod p256P (x2 + p256P - x1) % p256P
      let x3 := (lam * lam + 2 * p256P - x1 - x2) % p256P
      some (x3, (lam * (x1 + p256P - x3) + p256P - y1) % p256P)

/-- A multiple of a point, over the low `n` bits of the factor. -/
def ecMul : Nat → Nat → EcPoint → EcPoint
  | 0, _, _ => none
  | n + 1, k, q =>
    let h := ecMul n (k / 2) (ecAdd q q)
    if k % 2 = 1 then ecAdd h q else h

/-- The point lies on the curve. -/
def onCurve (x y : Nat) : Bool :=
  decide (x < p256P) && decide (y < p256P) && decide (y * y % p256P = (x * x * x + (p256P - 3) * x + p256B) % p256P)

/-- Verification of a signature (r, s) over a SHA-256 digest, with the public key x then y (R100). -/
def ecdsaVerify (key digest : List Byte) (r s : Nat) : Bool :=
  let x := natBE (key.take 32)
  let y := natBE ((key.drop 32).take 32)
  if r = 0 ∨ s = 0 ∨ p256N ≤ r ∨ p256N ≤ s ∨ onCurve x y = false then false
  else
    let w := invMod p256N s
    let u1 := natBE digest * w % p256N
    let u2 := r * w % p256N
    match ecAdd (ecMul 256 u1 (some (p256Gx, p256Gy))) (ecMul 256 u2 (some (x, y))) with
    | none => false
    | some (px, _) => decide (px % p256N = r)

/-! ### AES-256 in GCM mode -/

/-- Doubling in the field of AES. -/
def aesDouble (a : Nat) : Nat := let d := a * 2; if 256 ≤ d then (d % 256) ^^^ 0x1B else d

/-- The product in the field of AES, over the low `n` bits of the second factor. -/
def aesMul : Nat → Nat → Nat → Nat
  | 0, _, _ => 0
  | n + 1, a, b => (if b % 2 = 1 then a else 0) ^^^ aesMul n (aesDouble a) (b / 2)

/-- The inverse in the field of AES: the power 254. -/
def aesInv (a : Nat) : Nat :=
  let m := aesMul 8
  let a2 := m a a
  let a4 := m a2 a2
  let a8 := m a4 a4
  let a16 := m a8 a8
  let a32 := m a16 a16
  let a64 := m a32 a32
  let a128 := m a64 a64
  m (m (m a128 a64) (m a32 a16)) (m (m a8 a4) a2)

/-- A rotation of a byte to the left. -/
def rotByte (a n : Nat) : Nat := (a * 2 ^ n) % 256 ||| a / 2 ^ (8 - n)

/-- The substitution box of AES. -/
def aesSbox (a : Nat) : Nat :=
  let b := aesInv a
  b ^^^ rotByte b 1 ^^^ rotByte b 2 ^^^ rotByte b 3 ^^^ rotByte b 4 ^^^ 0x63

/-- Two byte lists XORed. -/
def xorBytes (a b : List Nat) : List Nat := (a.zip b).map (fun p => p.1 ^^^ p.2)

/-- The key schedule of AES-256 as four-byte words, oldest first; `i` is the index of the next one. -/
def aesExpand : Nat → Nat → Nat → List (List Nat) → List (List Nat)
  | 0, _, _, w => w
  | n + 1, i, rc, w =>
    let prev := w.getD (i - 1) []
    let t := if i % 8 = 0 then
        xorBytes ((prev.drop 1 ++ prev.take 1).map aesSbox) [rc, 0, 0, 0]
      else if i % 8 = 4 then prev.map aesSbox else prev
    aesExpand n (i + 1) (if i % 8 = 0 then aesDouble rc else rc) (w ++ [xorBytes (w.getD (i - 8) []) t])

/-- A list cut into `n` pieces of `k`. -/
def pieces {α : Type} (k : Nat) : Nat → List α → List (List α)
  | 0, _ => []
  | n + 1, l => l.take k :: pieces k n (l.drop k)

/-- The fifteen round keys. -/
def aesKeys (key : List Nat) : List (List Nat) :=
  pieces 16 15 ((aesExpand 52 8 1 (pieces 4 8 key)).flatten)

/-- The row shift of AES on a state held column by column. -/
def aesShift (st : List Nat) : List Nat := (List.range 16).map (fun i => st.getD ((i + 4 * (i % 4)) % 16) 0)

/-- The column mix of AES. -/
def aesMix (st : List Nat) : List Nat :=
  (pieces 4 4 st).flatMap (fun c =>
    (List.range 4).map (fun i =>
      let g := fun k => c.getD ((i + k) % 4) 0
      aesDouble (g 0) ^^^ (aesDouble (g 1) ^^^ g 1) ^^^ g 2 ^^^ g 3))

/-- AES-256 of one block. -/
def aesBlock (keys : List (List Nat)) (blk : List Nat) : List Nat :=
  let k := fun i => keys.getD i []
  let st := (List.range 13).foldl (fun st i => xorBytes (aesMix (aesShift (st.map aesSbox))) (k (i + 1))) (xorBytes blk (k 0))
  xorBytes (aesShift (st.map aesSbox)) (k 14)

/-- The product of GHASH over the bits of `x` from the top: `n` bits remain. -/
def ghashMul : Nat → Nat → Nat → Nat
  | 0, _, _ => 0
  | n + 1, x, v =>
    (if x.testBit n then v else 0) ^^^ ghashMul n x (if v % 2 = 1 then (v / 2) ^^^ (0xE1 * 2 ^ 120) else v / 2)

/-- A byte list as a number, most significant byte first. -/
def natOfBytes (l : List Nat) : Nat := l.foldl (fun a b => a * 256 + b) 0

/-- GHASH of `n` blocks. -/
def ghash (h : Nat) : Nat → Nat → List Nat → Nat
  | 0, acc, _ => acc
  | n + 1, acc, l =>
    let blk := l.take 16 ++ List.replicate (16 - (l.take 16).length) 0
    ghash h n (ghashMul 128 (acc ^^^ natOfBytes blk) h) (l.drop 16)

/-- The key stream of counter mode XORed onto `n` blocks, the counter starting at `c`. -/
def ctrBlocks (keys : List (List Nat)) (iv : List Nat) : Nat → Nat → List Nat → List Nat
  | 0, _, _ => []
  | n + 1, c, l =>
    let ks := aesBlock keys (iv ++ [c / 16777216 % 256, c / 65536 % 256, c / 256 % 256, c % 256])
    xorBytes (l.take 16) ks ++ ctrBlocks keys iv n (c + 1) (l.drop 16)

/-- AES-256-GCM decryption with a 12-byte nonce: the plaintext if the 16-byte tag matches (R101). -/
def gcmOpen (key nonce aad ct tag : List Byte) : Option (List Byte) :=
  let nat := fun (l : List Byte) => l.map BitVec.toNat
  let keys := aesKeys (nat key)
  let h := natOfBytes (aesBlock keys (List.replicate 16 0))
  let na := (aad.length + 15) / 16
  let nc := (ct.length + 15) / 16
  let g1 := ghash h na 0 (nat aad)
  let g2 := ghash h nc g1 (nat ct)
  let g3 := ghashMul 128 (g2 ^^^ ((8 * aad.length) * 2 ^ 64 + 8 * ct.length)) h
  let t := g3 ^^^ natOfBytes (aesBlock keys (nat nonce ++ [0, 0, 0, 1]))
  if t = natBE tag then some ((ctrBlocks keys (nat nonce) nc 2 (nat ct)).map (BitVec.ofNat 8)) else none

/-! ### BCH (R422) -/

/-- Doubling in GF(2^14) with x^14 + x^10 + x^6 + x + 1. -/
def gfDouble (a : Nat) : Nat := let d := a * 2; if 16384 ≤ d then d ^^^ 0x4443 else d

/-- The product in GF(2^14), over the low `n` bits of the second factor. -/
def gfMul : Nat → Nat → Nat → Nat
  | 0, _, _ => 0
  | n + 1, a, b => (if b % 2 = 1 then a else 0) ^^^ gfMul n (gfDouble a) (b / 2)

/-- α to the power `n`. -/
def gfPow : Nat → Nat
  | 0 => 1
  | n + 1 => gfDouble (gfPow n)

/-- A polynomial over GF(2^14), lowest power first, times x + root. -/
def polyTimes (root : Nat) (p : List Nat) : List Nat :=
  ((0 :: p).zip (p ++ [0])).map (fun c => c.1 ^^^ gfMul 14 c.2 root)

/-- The conjugates of an exponent: its doublings modulo 2^14 - 1. -/
def conjugates (e : Nat) : List Nat := ((List.range 14).map (fun k => e * 2 ^ k % 16383)).eraseDups

/-- g(x): the least common multiple of the minimal polynomials of α^1 to α^(2t), as a number whose bit i is the coefficient of x^i. -/
def bchGen (t : Nat) : Nat :=
  let roots := (((List.range t).flatMap (fun i => conjugates (2 * i + 1)))).eraseDups
  let g := roots.foldl (fun p e => polyTimes (gfPow e) p) [1]
  maskWhere g.length (fun i => g.getD i 0 == 1)

/-- The remainder as one message bit enters. -/
def bchBit (t g r : Nat) (b : Bool) : Nat :=
  let top := r.testBit (14 * t - 1) != b
  let sh := (r * 2) % 2 ^ (14 * t)
  if top then sh ^^^ (g % 2 ^ (14 * t)) else sh

/-- The parity of a sector: M(x) times x^(14t) modulo g(x), 14t bits packed most significant bit first. -/
def bchParity (t : Nat) (msg : List Byte) : List Byte :=
  let g := bchGen t
  let r := msg.foldl (fun r b => (List.range 8).foldl (fun r i => bchBit t g r (b.toNat.testBit (7 - i))) r) 0
  bytesBE (14 * t / 8) r

end Sys2Proof.Machine
end

