-- ==== Sys2Proof/Machine/Store.lean ====
section
/-!
DEFINITION. What every block uses of the cave: the NAND's pages and its queue of page-operation runs, the block headers, log entries and
record writes (13_cave.md, R30, R424 to R436). The runs themselves end in Cave.lean.
-/

namespace Sys2Proof.Machine

/-! ### NAND pages -/

/-- The page at a row; erased if nothing is listed. -/
def State.nandPage (s : State) (row : Nat) : NandPage := Sparse.get (fun _ => {}) s.nand.pages row

/-- The row is erased. -/
def State.rowErased (s : State) (row : Nat) : Bool := s.nandPage row == {}

/-- The main area of a row; an erased page reads 0xFF. -/
def State.rowMain (s : State) (row : Nat) : List Byte :=
  let p := s.nandPage row
  p.main ++ padBytes (s.nand.page - p.main.length) 0xFF

/-- The spare bytes before the parity; an erased page reads 0xFF. -/
def State.rowOob (s : State) (row : Nat) : List Byte :=
  let p := s.nandPage row
  p.oob ++ padBytes (20 - p.oob.length) 0xFF

/-- The bytes that sector `k`'s codeword covers: 1024 main bytes, and for sector 0 of an ordinary page the seven PMETA bytes (R421). -/
def NandPage.sector (p : NandPage) (tag : Bool) (k : Nat) : List Byte :=
  let part := slice p.main (1024 * k) 1024
  part ++ padBytes (1024 - part.length) 0xFF ++ (if k = 0 && !tag then slice p.oob 1 7 else [])

/-- A page of `page` main bytes and `spare` spare bytes as it is programmed: its parity in the spare area, the bytes beyond the layout 0xFF. One
whose spare bytes are given in full is programmed as it is (R417, R421, R422, Table Cave.4). -/
def NandPage.whole (p : NandPage) (page spare : Nat) (tag : Bool) : NandPage :=
  if 64 ≤ p.oob.length then p
  else
    let start := if tag then 20 else if page = 4096 then 16 else 8
    let head := p.oob.take start ++ padBytes (start - p.oob.length) 0xFF
    let parity := (List.range (page / 1024)).flatMap (fun k => bchParity (if tag then 12 else 16) (p.sector tag k))
    { p with oob := head ++ parity ++ padBytes (spare - start - page / 1024 * (if tag then 21 else 28)) 0xFF }

/-- The state with a page programmed. -/
def State.setPage (s : State) (row : Nat) (p : NandPage) : State :=
  { s with nand := { s.nand with pages := Sparse.set (fun _ => {}) s.nand.pages row p } }

/-- The state with every page of a block erased. -/
def State.erasePages (s : State) (b : Nat) : State :=
  { s with nand := { s.nand with pages := s.nand.pages.filter (fun p => p.1 / s.nand.ppb != b) } }

/-- NVM_BUS as the NVM_BOOT fuses give it; `blank` says that the part is in BLANK (R420). -/
def bootBusOf (fuses : Nat) (blank : Bool) : Word :=
  BitVec.ofNat 32 (if !blank && fuses.testBit 7 && decide (fieldNat fuses 2 1 ≠ 3)
    then atBit (fuses % 2) 8 + atBit (fieldNat fuses 6 3) 4 + fieldNat fuses 2 1 else atBit 3 4)

/-- The block size in bytes, S. -/
def State.blockSize (s : State) : Nat := s.nand.page * s.nand.ppb

/-- NI, the blocks of the image partition (R90, Table Cave.5). -/
def State.imgBlocks (s : State) : Nat := if s.blockSize = 0 then 0 else 2 * (2097152 / s.blockSize) + 8

/-- NR and NL, the most blocks RECORDS and LOG may hold (Table Cave.5). -/
def State.recBlocks (s : State) : Nat := if s.blockSize = 0 then 0 else 6291456 / s.blockSize + 2
def State.logBlocks (s : State) : Nat := if s.blockSize = 0 then 0 else 8388608 / s.blockSize

/-- The pool: every block from NI + 8 (R424). -/
def State.pool (s : State) : List Nat :=
  (List.range (s.nand.blocks - (s.imgBlocks + 8))).map (fun i => i + s.imgBlocks + 8)

/-- The blocks of the BBT partition. -/
def State.bbtBlocks (s : State) : List Nat := (List.range 8).map (fun i => i + s.imgBlocks)

/-- A block is bad in the cave table. -/
def State.blockBad (s : State) (b : Nat) : Bool := s.cave.bad.contains b

/-- The good pool blocks. -/
def State.goodPool (s : State) : List Nat := s.pool.filter (fun b => !s.blockBad b)

/-- The first row of a block. -/
def State.rowOf (s : State) (b page : Nat) : Nat := b * s.nand.ppb + page

/-! ### Block headers and PMETA (Tables Cave.4 and Cave.6) -/

/-- The marker byte and PMETA of an ordinary page: AREA, BSEQ, zeros. -/
def pmeta (area bseq : Nat) : List Byte := [0xFF, BitVec.ofNat 8 area] ++ bytesLE 4 bseq ++ [0, 0]

/-- The AREA a block's page 1 carries; none on an erased page (R424). -/
def State.blockArea (s : State) (b : Nat) : Option Nat :=
  if s.rowErased (s.rowOf b 1) then none else some (natAt (s.rowOob (s.rowOf b 1)) 1 1)

/-- The BSEQ a block's page 1 carries. -/
def State.blockBseq (s : State) (b : Nat) : Nat := natAt (s.rowOob (s.rowOf b 1)) 2 4

/-- The block header is valid: readable, BMAGIC and BCRC (Table Cave.6). -/
def State.headerOk (s : State) (b : Nat) : Bool :=
  let m := s.rowMain (s.rowOf b 0)
  !s.cave.unread.contains (s.rowOf b 0) && decide (natAt m 0 4 = 0x4B4C4243) && decide (natAt m 28 4 = crc32 (m.take 28))

/-- ERASES and REQSTAMP of a block. -/
def State.blockErases (s : State) (b : Nat) : Nat := natAt (s.rowMain (s.rowOf b 0)) 4 4
def State.blockStamp (s : State) (b : Nat) : Nat := natAt (s.rowMain (s.rowOf b 0)) 8 8

/-- A block header page (Table Cave.6). -/
def State.headerPage (s : State) (erases : Nat) : NandPage :=
  let h := bytesLE 4 0x4B4C4243 ++ bytesLE 4 erases ++ bytesLE 8 s.cave.req ++ bytesLE 4 s.cave.mount ++ padBytes 8 0
  { main := h ++ bytesLE 4 (crc32 h) ++ padBytes (s.nand.page - 32) 0xFF, oob := pmeta 0x10 0 }

/-- The erase of a pool block and its new header, programmed directly after (R425). -/
def State.eraseOps (s : State) (b : Nat) : List NandOp :=
  [.erase b, .program (s.rowOf b 0) (s.headerPage (s.blockErases b + 1))]

/-- A block holds the open end of RECORDS or LOG. -/
def State.blockOpen (s : State) (b : Nat) : Bool :=
  decide ((s.cave.recOpen.map Prod.fst) = some b) || decide ((s.cave.logOpen.map Prod.fst) = some b)

/-- A block that a move is filling. -/
def State.blockTarget (s : State) (b : Nat) : Bool :=
  s.nand.jobs.any (fun j => match j.kind with
    | .move _ dst => dst == b
    | _ => false)

/-- The SPARE blocks: good pool blocks whose page 1 is erased and that nothing has opened (R424). -/
def State.spareBlocks (s : State) : List Nat :=
  s.goodPool.filter (fun b => s.rowErased (s.rowOf b 1) && s.headerOk b && !s.blockOpen b && !s.blockTarget b &&
    !s.cave.doomed.contains b)

/-- The blocks of a partition, by AREA. -/
def State.areaBlocks (s : State) (area : Nat) : List Nat :=
  s.goodPool.filter (fun b => s.blockArea b == some area)

/-- The member of a list with the least measure; the first on a tie. -/
def leastBy (f : Nat → Nat) : List Nat → Option Nat
  | [] => none
  | a :: t => some (t.foldl (fun m b => if f b < f m then b else m) a)

/-- The SPARE block an allocation takes: the lowest erase count, then the lowest number (R442). -/
def State.pickSpare (s : State) : Option Nat := leastBy s.blockErases s.spareBlocks

/-! ### The queue of page-operation runs (R30, R446) -/

/-- A run can be served: operations remain, and priority-4 work is paused by a debug halt (R567). -/
def State.jobAllowed (s : State) (j : NandJob) : Bool := !j.todo.isEmpty && !(j.prio == 4 && s.life.halted)

/-- The run served next: the highest priority, then the order of arrival (R30). -/
def State.nextJob (s : State) : Option NandJob :=
  match s.nand.jobs.filter s.jobAllowed with
  | [] => none
  | j :: t => some (t.foldl (fun a b => if b.prio < a.prio then b else a) j)

/-- A free NAND takes up the run that comes first (R446). -/
def State.nandPick (s : State) : State :=
  if s.nand.act.isNone then { s with nand := { s.nand with act := s.nextJob.map (fun j => j.kind), tries := 0 } } else s

/-- A run joins the queue. -/
def State.addJob (s : State) (kind : JobKind) (prio : Nat) (todo : List NandOp) : State :=
  ({ s with nand := { s.nand with jobs := s.nand.jobs ++ [({ kind := kind, prio := prio, todo := todo } : NandJob)] } }).nandPick

/-- A run of this kind is queued or served. -/
def State.hasJob (s : State) (kind : JobKind) : Bool := s.nand.jobs.any (fun j => decide (j.kind = kind))

/-- A run leaves the queue. -/
def State.dropJob (s : State) (kind : JobKind) : State :=
  { s with nand := { s.nand with
      jobs := s.nand.jobs.filter (fun j => decide (j.kind ≠ kind))
      act := if s.nand.act = some kind then none else s.nand.act } }

/-- Every run that a test names leaves the queue; an operation of one that is under way goes to its end (R446). -/
def State.dropJobs (s : State) (p : JobKind → Bool) : State :=
  let last := (s.nand.jobs.filter (fun j => p j.kind && decide (s.nand.act = some j.kind))).flatMap (fun j => j.todo.take 1)
  { s with nand := { s.nand with
      jobs := s.nand.jobs.filter (fun j => !p j.kind) ++
        (if last.isEmpty then [] else [({ kind := .rest, prio := 1, todo := last } : NandJob)])
      act := if s.nand.act.any p then (if last.isEmpty then none else some .rest) else s.nand.act } }

/-! ### The log (R434 to R436) -/

/-- The bytes an entry takes: Table Cave.9, starting on a 4-byte boundary. -/
def LogEntry.size (e : LogEntry) : Nat := (12 + e.payload.length + 3) / 4 * 4

/-- The bytes of an entry as they are programmed. -/
def LogEntry.bytes (e : LogEntry) : List Byte :=
  fitBytes e.size (bytesLE 4 e.num ++ bytesLE 2 e.mount ++ bytesLE 4 e.time.toNat ++ bytesLE 1 e.src ++
    bytesLE 1 e.payload.length ++ e.payload)

/-- The bytes that a buffer holds. -/
def logUsed (l : List LogEntry) : Nat := (l.map LogEntry.size).sum

/-- The page that a buffer makes, with the BSEQ of its block. -/
def State.logPage (s : State) (l : List LogEntry) (bseq : Nat) : NandPage :=
  let b := l.flatMap LogEntry.bytes
  { main := b ++ padBytes (s.nand.page - b.length) 0xFF, oob := pmeta 0x02 bseq }

/-- A new block for LOG: the oldest LOG block is erased when LOG holds NL of them (R435). -/
def State.openLogBlock (s : State) : List NandOp × State :=
  let logs := s.areaBlocks 0x02
  let old := if s.logBlocks ≤ logs.length then (match leastBy s.blockBseq logs with
    | some b => s.eraseOps b
    | none => []) else []
  match s.pickSpare with
  | some b => (old, { s with cave := { s.cave with logOpen := some (b, 1), logBseq := s.cave.bseq, bseq := s.cave.bseq + 1 } })
  | none => (old, { s with cave := { s.cave with logOpen := none } })

/-- The waiting buffer becomes a run at priority 3, once the cave is mounted (R435). -/
def State.startLogProgram (s : State) : State :=
  if s.cave.mode ≠ .mounted then s else
  let r := match s.cave.logOpen with
    | some (_, p) => if p < s.nand.ppb then ([], s) else s.openLogBlock
    | none => s.openLogBlock
  match r.2.cave.logOpen with
  | some (b, p) =>
    ({ r.2 with cave := { r.2.cave with logOpen := some (b, p + 1) } }).addJob .logProgram 3
      (r.1 ++ [NandOp.program (s.rowOf b p) (s.logPage s.cave.logProg r.2.cave.logBseq)])
  | none => r.2

/-- The buffer being filled is to be programmed: at once if the other one is free (R435). -/
def State.flushLog (s : State) : State :=
  if s.cave.logCur.isEmpty then s
  else if s.cave.logProg.isEmpty then
    ({ s with cave := { s.cave with logProg := s.cave.logCur, logCur := [], logForce := false } }).startLogProgram
  else { s with cave := { s.cave with logForce := true } }

/-- An entry is counted as dropped (NVM_LOGLOST). -/
def State.logDropped (s : State) : State := s.satInc 0xA0058 15 0

/-- The log takes entries: the cave is mounted, or mounting will number what its own blocks make (log entry 21). -/
def State.logTakes (s : State) (src : Nat) : Bool :=
  match s.cave.mode with
  | .mounted => true
  | .readonly => false
  | .failed => false
  | _ => decide (src ≠ 3 ∧ src ≠ 7) && !s.boot.recovery

/-- An entry joins the buffer being filled. -/
def State.appendLog (s : State) (src : Nat) (payload : List Byte) : Nat × State :=
  let n := if s.cave.mode = .mounted then s.cave.logNext else 0
  let e : LogEntry := { num := n, mount := s.cave.mount % 65536, time := BitVec.ofNat 32 s.lf, src := src, payload := payload }
  (n, { s with cave := { s.cave with
      logCur := s.cave.logCur ++ [e]
      logAt := if s.cave.logCur.isEmpty then s.now else s.cave.logAt
      logNext := if s.cave.mode = .mounted then s.cave.logNext + 1 else s.cave.logNext } })

/-- A log entry is made: the NUM it was given, or 0 if it was dropped (R434 to R436). -/
def State.logEntry (s : State) (src : Nat) (payload : List Byte) (urgent : Bool) : Nat × State :=
  let size := ({ num := 0, mount := 0, time := 0, src := src, payload := payload } : LogEntry).size
  if !s.logTakes src || decide (44 < payload.length) then (0, s.logDropped)
  else
    let fits := decide (logUsed s.cave.logCur + size ≤ s.nand.page)
    if fits || s.cave.logProg.isEmpty then
      let s1 := if fits then s else s.flushLog
      let r := s1.appendLog src payload
      let now := urgent || src == 1 || src == 5 || src == 6
      (r.1, if now && decide (r.2.cave.mode = .mounted) then r.2.flushLog else r.2)
    else (0, s.logDropped)

/-- A log entry whose NUM nobody asks for. -/
def State.logOf (s : State) (src : Nat) (payload : List Byte) : State := (s.logEntry src payload false).2

/-- The cave's own entry: an event and a block; events 1 and 3 are URGENT (R436). -/
def State.logCave (s : State) (event block : Nat) : State :=
  (s.logEntry 0 (bytesLE 1 event ++ bytesLE 4 block) (event == 1 || event == 3)).2

/-! ### Records (R429 to R432) -/

/-- SP, the pages of a record slot, and the slots a RECORDS block holds. -/
def State.slotPages (s : State) : Nat := if s.nand.page = 0 then 1 else 8192 / s.nand.page
def State.slotsPerBlock (s : State) : Nat := (s.nand.ppb - 1) / s.slotPages

/-- The first row of a slot. -/
def State.slotRow (s : State) (b slot : Nat) : Nat := s.rowOf b (1 + slot * s.slotPages)

/-- The bytes of a record slot (Table Cave.8). -/
def State.recBytes (s : State) (w : RecWrite) (rseq : Nat) : List Byte :=
  let h := bytesLE 2 0x4352 ++ bytesLE 1 w.kind ++ [0] ++ bytesLE 2 w.index ++ bytesLE 2 w.body.length ++ bytesLE 4 rseq ++
    bytesLE 4 w.time.toNat ++ bytesLE 2 s.cave.mount ++ bytesLE 2 w.version ++ padBytes 8 0
  h ++ bytesLE 4 (crc32 (h ++ w.body)) ++ w.body

/-- The main bytes of a slot, page after page. -/
def State.slotBytes (s : State) (b slot : Nat) : List Byte :=
  (List.range s.slotPages).flatMap (fun i => s.rowMain (s.slotRow b slot + i))

/-- RMAGIC and RCRC of a slot's bytes (R431). -/
def recValid (l : List Byte) : Bool :=
  decide (natAt l 0 2 = 0x4352) && decide (natAt l 28 4 = crc32 (l.take 28 ++ slice l 32 (natAt l 6 2)))

/-- KIND, INDEX and RSEQ of a slot's bytes. -/
def recKey (l : List Byte) : Nat × Nat := (natAt l 2 1, natAt l 4 2)
def recSeq (l : List Byte) : Nat := natAt l 8 4

/-- Every slot of the RECORDS blocks, as block and slot number. -/
def State.allSlots (s : State) : List (Nat × Nat) :=
  let blocks := s.goodPool.filter (fun b => s.blockArea b == some 0x01)
  blocks.flatMap (fun b => (List.range s.slotsPerBlock).map (fun k => (b, k)))

/-- The rows of a slot. -/
def State.slotRows (s : State) (p : Nat × Nat) : List Nat := (List.range s.slotPages).map (fun i => s.slotRow p.1 p.2 + i)

/-- A slot is valid: every one of its pages has been programmed and can be corrected, RMAGIC and RCRC (R431, R432, log entry 123). -/
def State.slotOk (s : State) (p : Nat × Nat) : Bool :=
  recValid (s.slotBytes p.1 p.2) && (s.slotRows p).all (fun r => !s.rowErased r && !s.cave.unread.contains r)

/-- The slots that hold a valid version of a record. -/
def State.versions (s : State) (kind index : Nat) : List (Nat × Nat) :=
  s.allSlots.filter (fun p => decide (recKey (s.slotBytes p.1 p.2) = (kind, index)) && s.slotOk p)

/-- The current version of a record: the valid slot with the highest RSEQ (R431). -/
def State.currentSlot (s : State) (kind index : Nat) : Option (Nat × Nat) :=
  match s.versions kind index with
  | [] => none
  | p :: t => some (t.foldl (fun a b =>
      if recSeq (s.slotBytes a.1 a.2) < recSeq (s.slotBytes b.1 b.2) then b else a) p)

/-- The body of a record as its current version holds it. -/
def State.recordBody (s : State) (kind index : Nat) : Option (List Byte) :=
  (s.currentSlot kind index).map (fun p => let l := s.slotBytes p.1 p.2; slice l 32 (natAt l 6 2))

/-- The newest body of a record: one that waits to be written or is being written, or the current version on the NAND (R432). -/
def State.recordNow (s : State) (kind index : Nat) : Option (List Byte) :=
  let same := fun (w : RecWrite) => w.kind == kind && w.index == index
  match s.cave.recQueue.find? same with
  | some w => some w.body
  | none => match s.cave.recBusy with
    | some (w, _, _) => if same w then some w.body else s.recordBody kind index
    | none => s.recordBody kind index

/-- The blocks RECORDS uses: those whose page 1 says so, and the open one (R424). -/
def State.recordBlocks (s : State) : List Nat :=
  let l := s.areaBlocks 0x01
  match s.cave.recOpen with
  | some (b, _) => if l.contains b then l else b :: l
  | none => l

/-- The erased slots that are left: those of the open block and of the blocks that RECORDS may still take (R433, log entry 28). -/
def State.erasedSlots (s : State) : Nat :=
  let openLeft := match s.cave.recOpen with
    | some (_, k) => s.slotsPerBlock - k
    | none => 0
  openLeft + Nat.min (s.recBlocks - s.recordBlocks.length) s.spareBlocks.length * s.slotsPerBlock

/-- A new block opened for RECORDS, if NR allows it. The block that a mount opens, and the one a collection needs where none is open, may be one
more, until the collection has freed one (Table Cave.5, R427, R433, R442; DESIGN CHOICE, log entry 148). -/
def State.openRecBlock (s : State) (more : Bool) : Option State :=
  if s.recBlocks ≤ s.recordBlocks.length ∧ more = false then none
  else s.pickSpare.map (fun n =>
    { s with cave := { s.cave with recOpen := some (n, 0), recBseq := s.cave.bseq, bseq := s.cave.bseq + 1 } })

/-- The slot a record write takes: the next of the open block, or the first of a newly allocated one (R432, R442). -/
def State.allocSlot (s : State) (more : Bool) : Option ((Nat × Nat) × State) :=
  let room := match s.cave.recOpen with
    | some (_, k) => decide (k < s.slotsPerBlock)
    | none => false
  match (if room then some s else s.openRecBlock more) with
  | some s1 => match s1.cave.recOpen with
    | some (b, k) => some ((b, k), { s1 with cave := { s1.cave with recOpen := some (b, k + 1) } })
    | none => none
  | none => none

/-- The program operations that fill a slot with bytes (R432). -/
def State.slotOps (s : State) (b slot bseq : Nat) (bytes : List Byte) : List NandOp :=
  (List.range s.slotPages).map (fun i =>
    let part := slice bytes (i * s.nand.page) s.nand.page
    .program (s.slotRow b slot + i) { main := part ++ padBytes (s.nand.page - part.length) 0xFF, oob := pmeta 0x01 bseq })

/-- The next queued record write begins, if none is being programmed; TIME is that of this moment (R430, R432). -/
def State.startRecWrite (s : State) : State :=
  if s.cave.mode = .mounted ∧ s.cave.recBusy = none then
    match s.cave.recQueue with
    | [] => s
    | w :: rest =>
      match s.allocSlot false with
      | none => s
      | some ((b, k), s1) =>
        let w1 := { w with time := BitVec.ofNat 32 s.lf }
        let bytes := s1.recBytes w1 s1.cave.rseq
        ({ s1 with cave := { s1.cave with recQueue := rest, recBusy := some (w1, b, k), rseq := s1.cave.rseq + 1 } }).addJob .recWrite 2
          (s1.slotOps b k s1.cave.recBseq bytes)
  else s

/-- RECORD_WRITE: a write is requested; it replaces a queued one of the same record (R432, R445). It is refused with a LENGTH of 0
or above 8160, and while the cave can store nothing. -/
def State.recordWrite (s : State) (kind index version : Nat) (body : List Byte) : State :=
  if body.isEmpty || decide (8160 < body.length) || decide (s.cave.mode = .readonly) || decide (s.cave.mode = .failed) then s
  else
    let w : RecWrite := { kind := kind, index := index, version := version, body := body, time := BitVec.ofNat 32 s.lf }
    let same := fun (q : RecWrite) => q.kind == kind && q.index == index
    let q := if s.cave.recQueue.any same then s.cave.recQueue.map (fun q => if same q then w else q) else s.cave.recQueue ++ [w]
    ({ s with cave := { s.cave with recQueue := q } }).startRecWrite

end Sys2Proof.Machine
end

