-- ==== Sys2Proof/Machine/Health.lean ====
section
/-!
DEFINITION. Health: life consumption, the REPLACE and ADVISE causes, their notices and log entries, and the HEALTH record
(18_health_recovery.md, R576 to R597).
-/

namespace Sys2Proof.Machine

/-! ### Life (R577, R578) -/

/-- The band of Table Health.1 for a health temperature in 0.01 °C. -/
def lifeBand (t : Int) : Nat :=
  if t < 3000 then 0 else if 12000 ≤ t then 10 else ((t - 3000) / 1000).toNat + 1

/-- The rate of a band. -/
def lifeRate (band : Nat) : Nat := [9, 20, 44, 93, 189, 370, 696, 1267, 2236, 3834, 6401].getD band 6401

/-- LIFEPCT in 0.01 % (R578). -/
def State.lifePct (s : State) : Nat :=
  let bud := (s.reg 0x100018).toNat
  Nat.min 0xFFFF (if bud = 0 then 0 else s.health.lifeAcc * 10000 / bud)

/-- The active slices a converter reports (ADCx_STAT.NACT). -/
def AdcSt.nact (a : AdcSt) : Nat := countWhere 9 (fun i => a.active.testBit i)

/-- HLT_REDUCED (Table Health.7). -/
def State.reducedWord (s : State) : Nat :=
  atBit (Nat.min 255 (s.lifePct / 100)) 24 + atBit (b2n (s.cave.mode == .failed)) 18 +
    atBit (b2n (s.cave.mode == .readonly)) 17 + atBit (b2n (s.fus.mstate == .failed || !s.bit 0x11000C 9)) 16 +
    atBit (s.fus.cover % 16) 12 + atBit (s.health.deadW % 16) 8 + atBit s.adcB.nact 4 + s.adcA.nact

/-- HLT_LEVEL (R581). -/
def State.levelWord (s : State) : Word :=
  let h := s.health
  let rep := b2n h.slice + 2 * b2n (decide (h.deadW ≠ 0)) + 4 * b2n h.sparePool + 8 * b2n h.life + 16 * b2n h.model
  BitVec.ofNat 32 (atBit rep 8 + (if rep ≠ 0 then 2 else if s.reg 0x100004 ≠ 0 then 1 else 0))

/-- The payload of a health notice: cause, unit, HLT_REDUCED (Table Link.5). -/
def State.healthPayload (s : State) (cause unit : Nat) : List Byte :=
  bytesLE 1 cause ++ bytesLE 1 unit ++ bytesLE 4 s.reducedWord

/-- The log entry of a health event (R585). -/
def State.healthLog (s : State) (event cause unit : Nat) : State :=
  s.logOf 1 (bytesLE 1 event ++ bytesLE 1 cause ++ bytesLE 1 unit ++ [0] ++ bytesLE 4 s.reducedWord)

/-- The place of a health notice among those of one cycle: its code, then cause, then unit (R584). -/
def healthKey (p : Nat × List Byte) : Nat := p.1 * 65536 + natAt p.2 0 1 * 256 + natAt p.2 1 1

/-- A health notice takes its place. -/
def byCause (p : Nat × List Byte) : List (Nat × List Byte) → List (Nat × List Byte)
  | [] => [p]
  | q :: t => if healthKey p < healthKey q then p :: q :: t else q :: byCause p t

/-- A health notice enters one CLK_SYS cycle after its cause is reported (R584). -/
def State.healthNotice (s : State) (code cause unit : Nat) : State :=
  { s with health := { s.health with soon := byCause (code, s.healthPayload cause unit) s.health.soon } }

/-- The health notices of the cycle that ends enter in the next one (R584). -/
def State.sendHealth (s : State) : State :=
  if s.health.soon = [] then s
  else
    let t := { s with now := 2 * (s.now / 2 + 1), health := { s.health with soon := [] } }
    { s.health.soon.foldl (fun t p => t.notice p.1 p.2) t with now := s.now }

/-- NTC_REPLACE and its log entry (R582, R585). -/
def State.replaceNotice (s : State) (cause unit : Nat) : State := (s.healthNotice 0x09 cause unit).healthLog 1 cause unit

/-- An ADVISE bit as it stood before this CLK_SYS cycle (R591). -/
def State.advisedBefore (s : State) (b : Nat) : Bool :=
  match s.noteOf 0x100004 with
  | some n => bitOf n.old b
  | none => s.bit 0x100004 b

/-- NTC_ADVISE for this cause and unit has arisen in this CLK_SYS cycle already. -/
def State.advising (s : State) (b unit : Nat) : Bool := s.health.soon.any (fun p => p.1 == 0x0A && p.2.take 2 == bytesLE 1 (16 + b) ++ bytesLE 1 unit)

/-- An ADVISE cause: the bit, and where it was 0 before the CLK_SYS cycle NTC_ADVISE and a log entry, one for each unit (R580, R583,
R591). An event that finds the bit set still keeps it from a clearing write of the same cycle (R8). -/
def State.advise (s : State) (b unit : Nat) : State :=
  let s1 := s.orReg 0x100004 (2 ^ b)
  if s.advisedBefore b || s.advising b unit then s1 else (s1.healthNotice 0x0A (16 + b) unit).healthLog 2 (16 + b) unit

/-! ### The HEALTH record (R588, R589) -/

/-- The bands' totals in minutes, with what the record held. -/
def HealthSt.bandMinutes (h : HealthSt) : List Nat :=
  (List.range 11).map (fun i => h.bands.getD i 0 / 1966080 + h.bandsKept.getD i 0)

/-- The body of the HEALTH record (Table Health.8). -/
def State.healthBody (s : State) : List Byte :=
  let h := s.health
  let sat := fun (n : Nat) => bytesLE 4 (Nat.min n 0xFFFFFFFF)
  bytesLE 4 h.lifeAcc ++ bytesLE 4 (s.reg 0x100018).toNat ++ bytesLE 2 h.retA ++ bytesLE 2 h.retB ++ bytesLE 1 h.deadW ++
    bytesLE 1 h.notified ++ bytesLE 2 0 ++ sat (h.runSec - h.runBase + h.runSecKept) ++ sat (h.sbySec - h.sbyBase + h.sbySecKept) ++
    bytesLE 2 (wrapInt 16 h.tjEver) ++ bytesLE 2 (wrapInt 16 h.tjLow) ++ sat (h.resets + h.resetsKept) ++ sat (h.pors + h.porsKept) ++
    bytesLE 4 h.xfails ++ h.bandMinutes.flatMap (fun m => bytesLE 4 m)

/-- A HEALTH record write; one that the cave cannot store sets STOREFAIL (R589). -/
def State.writeHealth (s : State) : State :=
  if s.cave.mode = .readonly ∨ s.cave.mode = .failed then s.orReg 0x100068 1
  else s.recordWrite 3 0 1 s.healthBody

/-- HEALTH_RECORD_WRITE: every HLTWR minutes of RUN (R589). -/
def State.healthTick (s : State) : State :=
  if s.running ∧ s.boot.loaded ∧ s.health.writeAt ≤ s.now then
    ({ s with health := { s.health with writeAt := s.now + secAng (60 * s.fld 0x100028 7 0) } }).writeHealth
  else s

/-! ### Causes -/

/-- A slice of converter `c` (0 ADCA, 1 ADCB) is retired: the lasting mask, SLICE, and the notice of a new cause. The caller has
entered NTC_CONV (R582, R584, R587). -/
def State.healthSlice (s : State) (c k : Nat) : State :=
  let mask := if c = 0 then s.health.retA else s.health.retB
  let s := s.noteSet 0x10000C (BitVec.ofNat 32 (2 ^ (16 * c + k)))
  if mask.testBit k then { s with health := { s.health with slice := true } }
  else
    let m := mask + 2 ^ k
    let h := if c = 0 then { s.health with retA := m, slice := true } else { s.health with retB := m, slice := true }
    (({ s with health := h }).replaceNotice 1 (16 * c + k)).writeHealth

/-- A wheel sets DEAD (R217, R582). -/
def State.healthWheel (s : State) (w : Nat) : State :=
  let s1 := s.noteSet 0x100010 (BitVec.ofNat 32 (2 ^ w))
  if s.health.deadW.testBit w then s1
  else (({ s1 with health := { s1.health with deadW := s1.health.deadW + 2 ^ w } }).replaceNotice 2 w).writeHealth

/-- The NOTIFIED bit of a follows cause that is set: one notice where it was 0 (R582). -/
def State.notifyOnce (s : State) (bit cause unit : Nat) : State :=
  if s.health.notified.testBit bit then s
  else (({ s with health := { s.health with notified := s.health.notified + 2 ^ bit } }).replaceNotice cause unit).writeHealth

/-- A follows cause clears, and its NOTIFIED bit with it (R582). -/
def State.unnotify (s : State) (bit : Nat) : State :=
  if s.health.notified.testBit bit then
    ({ s with health := { s.health with notified := s.health.notified - 2 ^ bit } }).writeHealth
  else s

/-- SPARE_POOL follows the cave's report (R444, Table Health.3). -/
def State.healthPool (s : State) (level : Nat) : State :=
  if level < 200 ∧ s.health.sparePool = false then
    ({ s with health := { s.health with sparePool := true } }).notifyOnce 0 3 (level / 100)
  else if 250 ≤ level ∧ s.health.sparePool = true then
    ({ s with health := { s.health with sparePool := false } }).unnotify 0
  else s

/-- MODEL is set: MSTATE has become FAILED, or the reload has failed (Table Health.3). -/
def State.healthModel (s : State) : State :=
  if s.health.model then s
  else ({ s with health := { s.health with model := true } }).notifyOnce 2 5 s.fus.mfail

/-- MODEL clears at a model start that passes. -/
def State.healthModelOk (s : State) : State :=
  if s.health.model then ({ s with health := { s.health with model := false } }).unnotify 2 else s

/-- LIFE and LIFE_ADVISE follow LIFEPCT (R579, R580, R590). -/
def State.healthLife (s : State) : State :=
  let p := s.lifePct
  let s1 :=
    if 9000 < p ∧ s.health.life = false then ({ s with health := { s.health with life := true } }).notifyOnce 1 4 0
    else if p ≤ 9000 ∧ s.health.life = true then ({ s with health := { s.health with life := false } }).unnotify 1
    else s
  let excess := decide (s.fld 0x100024 15 0 < p)
  let s2 := if excess && !s1.health.lifeAdv then s1.advise 11 0 else s1
  { s2 with health := { s2.health with lifeAdv := excess } }

/-- One accounting interval of `n` CLK_LF periods at a health temperature (R577). -/
def State.accountLife (s : State) (t : Int) (n : Nat) : State :=
  let band := lifeBand t
  let num := lifeRate band * n + s.health.lrem
  ({ s with health := { s.health with
      lifeAcc := Nat.min 0xFFFFFFFF (s.health.lifeAcc + num / 1966080), lrem := num % 1966080
      bands := (List.range 11).map (fun i => s.health.bands.getD i 0 + (if i = band then n else 0)) } }).healthLife

/-- The latest health temperature and the highest since the last POR (R576). -/
def State.setHealthTemp (s : State) (t : Int) : State :=
  { s with health := { s.health with tj := t, tjMax := if s.health.tjMax < t then t else s.health.tjMax } }

/-- The last accounting second of RUN and DOZE ended at this CLK_LF time. -/
def State.setHealthSecond (s : State) (t : Nat) : State := { s with health := { s.health with tempAt := t } }

/-- HEALTH_TEMP_READ: once per second in RUN and DOZE, the die temperature in 0.01 °C (R576, R577, R580, R596). -/
def State.healthTemp (s : State) (t : Int) : State :=
  if s.running && s.boot.loaded && decide (s.health.tempAt + 32768 ≤ s.lf) then
    let s1 := (s.setHealthTemp t).setHealthSecond (s.health.tempAt + 32768)
    let h := s1.health
    let s2 := { s1 with health := { h with
      tjDie := t, tjEver := if h.tjEver < t then t else h.tjEver, tjLow := if t < h.tjLow then t else h.tjLow
      runSec := satAdd 0xFFFFFFFF h.runSec 1 } }
    let s3 := s2.accountLife t 32768
    if (s3.fld 0x100024 31 24 : Int) * 100 < t then s3.advise 14 0 else s3
  else s

/-- STANDBY time of `n` CLK_LF periods at a health temperature (R577). -/
def State.accountStandby (s : State) (t : Int) (n : Nat) : State :=
  let f := s.health.sbyFrac + n
  let s1 := s.setHealthTemp t
  ({ s1 with health := { s1.health with
      sbySec := satAdd 0xFFFFFFFF s1.health.sbySec (f / 32768), sbyFrac := f % 32768
      sbyBands := (List.range 11).map (fun i => s1.health.sbyBands.getD i 0 + (if i = lifeBand t then n else 0)) } }).accountLife t n

/-- A failed cross-check counts toward XCHK (R580). -/
def State.healthXchk (s : State) : State :=
  let n := satAdd 0xFFFFFFFF s.health.xfails 1
  let s1 := { s with health := { s.health with xfails := n } }
  if s.fld 0x100024 23 16 ≤ n then s1.advise 6 0 else s1

/-- SLICE may be cleared: FACTORY and RETURN only (Table Health.3). -/
def State.sliceClearable (s : State) : Bool := s.life.state == .factory || s.life.state == .ret

/-- HLT_CLR; a cause of this CLK_SYS cycle stays set (R591, R592). WHEEL needs a loaded image (Table Health.3). -/
def State.healthClear (s : State) (w : Word) : State :=
  let slice := bitOf w 1
  if fieldOf w 31 16 ≠ 0x4845 ∨ (slice = true ∧ s.sliceClearable = false) then s.orReg 0x100068 2
  else
    let keep := fun (a : Nat) => ((s.noteOf a).map (fun n => n.set.toNat)).getD 0
    let wh := (if s.boot.loaded then fieldOf w 11 8 else 0) &&& (15 - keep 0x100010 % 16)
    let h := { s.health with deadW := s.health.deadW &&& (15 - wh) }
    let r := keep 0x10000C
    let h1 := if slice then { h with retA := h.retA &&& r, retB := h.retB &&& (r / 65536), slice := decide (r ≠ 0) } else h
    let s1 := (indicesWhere 4 (fun i => wh.testBit i)).foldl (fun s i => s.clrReg (0x30058 + 0x100 * i) 1) { s with health := h1 }
    (s1.logOf 1 ([3, 0, 0, 0] ++ bytesLE 4 w.toNat)).writeHealth

/-- The HLT words that fail the checks (R590). -/
def hltFails (c : Nat → Word) : List Nat :=
  (if c 0x100018 = 0 then [0x100018] else []) ++
  (if fieldOf (c 0x100024) 15 0 = 0 ∨ 9000 < fieldOf (c 0x100024) 15 0 ∨ fieldOf (c 0x100024) 23 16 = 0 then [0x100024] else []) ++
  (if fieldOf (c 0x100028) 7 0 = 0 then [0x100028] else [])

/-- A HEALTH record that was queued before the mount holds only what had been counted since the reset: it is written as it stands now. -/
def State.renewHealth (s : State) : State := if s.cave.recQueue.any (fun q => q.kind == 3) then s.writeHealth else s

/-- The HEALTH record is taken at the first mount after a reset: what was counted since the reset is added, and the lasting causes are
restored without a second notice (R587, R589, R594). `body` is none when no version is valid, `existed` says that one was ever written. -/
def State.healthMount (s : State) (body : Option (List Byte)) (existed : Bool) : State :=
  if s.health.mounted then s.renewHealth
  else match body with
  | some b =>
    let h := s.health
    let n4 := fun o => natAt b o 4
    let ra := h.retA ||| (natAt b 8 2 % 512)
    let rb := h.retB ||| (natAt b 10 2 % 512)
    let h1 := { h with
      lifeAcc := Nat.min 0xFFFFFFFF (h.lifeAcc + n4 0), retA := ra, retB := rb, deadW := h.deadW ||| (natAt b 12 1 % 16)
      notified := h.notified ||| (natAt b 13 1 % 8), sparePool := h.sparePool || (natAt b 13 1).testBit 0
      runSecKept := n4 16, sbySecKept := n4 20
      tjEver := let t := signedOf 16 (natAt b 24 2); if h.tjEver < t then t else h.tjEver
      tjLow := let t := signedOf 16 (natAt b 26 2); if t < h.tjLow then t else h.tjLow
      resetsKept := n4 28, porsKept := n4 32, bandsKept := (List.range 11).map (fun i => n4 (40 + 4 * i)), mounted := true }
    let h2 := { h1 with slice := decide (ra ≠ 0) || decide (rb ≠ 0) }
    let s1 := ({ s with health := h2 }).healthLife
    if ra ≠ natAt b 8 2 ∨ rb ≠ natAt b 10 2 ∨ ra ≠ h.retA ∨ rb ≠ h.retB then s1.writeHealth else s1.renewHealth
  | none =>
    let s1 := { s with health := { s.health with mounted := true } }
    if existed then (s1.orReg 0x100068 4).renewHealth else s1.renewHealth

/-- Resets: everything that is restored later reads 0; the lasting masks stay (R596). `por` clears what counts since the POR. -/
def HealthSt.reset (h : HealthSt) (por : Bool) : HealthSt :=
  let k : HealthSt := { retA := h.retA, retB := h.retB }
  if por then k
  else { k with
    tj := h.tj, tjMax := h.tjMax, tjDie := h.tjDie, runSec := h.runSec, sbySec := h.sbySec, runBase := h.runSec, sbyBase := h.sbySec
    pors := if h.mounted then 0 else h.pors, resets := (if h.mounted then 0 else h.resets) + 1 }

end Sys2Proof.Machine
end

