-- ==== Sys2Proof/Machine/Fabric.lean ====
section
/-!
DEFINITION. The paths on which triggers, pulses and signals pass between blocks (R17, R18): what a pulse leaves behind at each consumer.
A consumer acts on it in its own command.
-/

namespace Sys2Proof.Machine

/-! ### Small accessors that several blocks share -/

/-- The page of event output `n` (08_angle_events.md, Table Event.7). -/
def evoBase (n : Fin 32) : Nat := 0x40000 + 0x40 * n.val

/-- The address of EVQ_PAIRk. -/
def pairAddr (k : Nat) : Nat := 0x40820 + 4 * k

/-- The pair of an output, and the even and odd output of a pair. -/
def pairOf (n : Fin 32) : Fin 16 := ⟨n.val / 2, by omega⟩
def evenOf (k : Fin 16) : Fin 32 := ⟨2 * k.val, by omega⟩
def oddOf (k : Fin 16) : Fin 32 := ⟨2 * k.val + 1, by omega⟩

/-- The queue runs on time, not on an angle (BASIS). -/
def State.outTime (s : State) (n : Fin 32) : Bool := s.bit (evoBase n) 4

/-- The wheel an output is bound to. -/
def State.outWheel (s : State) (n : Fin 32) : Fin 4 := Fin.ofNat 4 (s.fld (evoBase n) 1 0)

/-- The state with an output changed. -/
def State.setOut (s : State) (n : Fin 32) (o : OutSt) : State := { s with outs := s.outs.set n o }

/-- A master's own copies, and the state with them changed (R644). -/
def State.copyOf (s : State) (m : Master) : MasterCopy :=
  match m with
  | .link => s.copyLink
  | .dma _ => s.copyDma
def State.setCopy (s : State) (m : Master) (c : MasterCopy) : State :=
  match m with
  | .link => { s with copyLink := c }
  | .dma _ => { s with copyDma := c }

/-- A converter, and the state with it changed. -/
def State.adc (s : State) (x : Conv) : AdcSt :=
  match x with
  | .adcA => s.adcA
  | .adcB => s.adcB
def State.setAdc (s : State) (x : Conv) (a : AdcSt) : State :=
  match x with
  | .adcA => { s with adcA := a }
  | .adcB => { s with adcB := a }

/-- A sequence, and the state with it changed. -/
def State.seq (s : State) (x : Conv) (inj : Bool) : SeqSt :=
  match x, inj with
  | .adcA, false => s.regA
  | .adcA, true => s.injA
  | .adcB, false => s.regB
  | .adcB, true => s.injB
def State.setSeq (s : State) (x : Conv) (inj : Bool) (q : SeqSt) : State :=
  match x, inj with
  | .adcA, false => { s with regA := q }
  | .adcA, true => { s with injA := q }
  | .adcB, false => { s with regB := q }
  | .adcB, true => { s with injB := q }

/-- The index of a converter. -/
def Conv.index : Conv → Nat
  | .adcA => 0
  | .adcB => 1

/-- The comparator is active: CMP0 to CMP7 belong to ADCA, CMP8 to CMP15 to ADCB (R337). -/
def State.cmpActive (s : State) (c : Nat) : Bool :=
  if c < 8 then (s.adcA.cmps.toList.getD c {}).active else (s.adcB.cmps.toList.getD (c - 8) {}).active

/-- A channel of the DMA, and the state with it changed. -/
def State.ch (s : State) (n : Fin 16) : DmaCh := s.dma.chs[n]
def State.setCh (s : State) (n : Fin 16) (c : DmaCh) : State := { s with dma := { s.dma with chs := s.dma.chs.set n c } }

/-- The page of channel `n` and its words. -/
def dmaBase (n : Fin 16) : Nat := 0x90000 + 0x80 * n.val

/-- A word of the live program store (R383). -/
def State.progWord (s : State) (off : Nat) : Word := s.reg (0x200000 + 4 * off)

/-- A wake source rises (R55): bit 0 rind, 1 timer, 2 battery, 3 WAKEIN, as in PWR_WAKESRC. It counts in STANDBY and during an entry.
In the CLK_LF period of the latch that began a wake it is recorded with that latch (R55, R71). -/
def State.requestWake (s : State) (m : Nat) : State :=
  if s.power.phase = .standby ∨ s.entering = true then
    { s with power := { s.power with wakeReq := s.power.wakeReq ||| m } }
  else if s.power.phase = .waking ∧ s.lf = s.power.wakeAt then
    let e := m &&& (s.fld 0x110014 3 0 ||| 1)
    let s1 := s.orReg 0x110018 e
    { s1 with power := { s1.power with wakeSrc := s.power.wakeSrc ||| e } }
  else s

/-! ### Pulses -/

/-- What may start, step or capture something in another block. -/
inductive Pulse where
  /-- An event trigger line: CONV_TRIG, or the sample of a PROBE. -/
  | line (n : Fin 16)
  | matchA (n : Fin 16)
  | matchB (n : Fin 16)
  | wrap (n : Fin 16)
  /-- ENTER of a comparator. -/
  | enter (c : Fin 16)
  /-- FIRE of an event output. -/
  | fire (n : Fin 32)
  /-- A counted edge of a wheel. -/
  | edge (w : Fin 4)
deriving DecidableEq, Repr

/-- The TSRC code of a pulse (Table Seq.2); 0 for a pulse that triggers no sequence. -/
def Pulse.tsrc : Pulse → Nat
  | .line n => 0x10 + n.val
  | .matchA n => 0x20 + n.val
  | .matchB n => 0x30 + n.val
  | .wrap n => 0x40 + n.val
  | .enter c => 0x50 + c.val
  | .fire _ => 0
  | .edge _ => 0

/-- The pulse is the one a timer's master fields name (R299). -/
def Pulse.isMaster (p : Pulse) (ctrl : Word) : Bool :=
  let m := fieldOf ctrl 18 14
  let ev := fieldOf ctrl 22 20
  let evo := bitOf ctrl 19
  match p with
  | .matchA n => !evo && m == n.val && ev == 0
  | .matchB n => !evo && m == n.val && ev == 1
  | .wrap n => !evo && m == n.val && ev == 2
  | .fire n => evo && m == n.val && ev == 4
  | _ => false

/-- The pulse is the one a capture selection names (R302). -/
def Pulse.captures (p : Pulse) (cfg : Word) : Bool :=
  let src := fieldOf cfg 3 0
  let idx := fieldOf cfg 12 8
  let ev := fieldOf cfg 14 13
  match p with
  | .edge w => src == 5 + w.val
  | .fire n => src == 9 && idx == n.val
  | .matchA n => src == 10 && idx == n.val && ev == 0
  | .matchB n => src == 10 && idx == n.val && ev == 1
  | .wrap n => src == 10 && idx == n.val && ev == 2
  | .enter c => src == 11 && idx == c.val
  | .line _ => false

/-- The pulse is the one a WAIT of KIND TIMER names (R391). -/
def Pulse.meetsWait (p : Pulse) (ins : Word) : Bool :=
  let t := fieldOf ins 3 0
  let ev := fieldOf ins 5 4
  fieldOf ins 31 28 == 4 && fieldOf ins 27 26 == 2 &&
  (match p with
   | .matchA n => t == n.val && ev == 0
   | .matchB n => t == n.val && ev == 1
   | .wrap n => t == n.val && ev == 2
   | _ => false)

/-- A trigger enters a sequence's list, which stands by rising cycle; those of one source accepted in one CLK_CONV cycle are one, with SPEC
if any carries it (R18, R29, R356). -/
def addTrigger (t : TrigReq) : List TrigReq → List TrigReq
  | [] => [t]
  | h :: r =>
    if h.due = t.due ∧ h.src = t.src then { h with spec := h.spec || t.spec } :: r
    else if t.due < h.due then t :: h :: r
    else h :: addTrigger t r

/-- The sequence is the ADCB half of a pair and takes no trigger of its own (R368). -/
def State.followsA (s : State) (x : Conv) (inj : Bool) : Bool :=
  x == .adcB && s.bit 0x81004 (if inj then 1 else 0)

/-- A sequence's TSRC. -/
def State.tsrcOf (s : State) (x : Conv) (inj : Bool) : Nat := s.fld (0x80000 + 0x800 * x.index + (if inj then 4 else 0)) 6 0

/-- The trigger is one that its sequence takes under the TSRC now live (R355, R377). -/
def State.takesTrigger (s : State) (x : Conv) (inj : Bool) (t : TrigReq) : Bool := t.src == 0 || t.src == s.tsrcOf x inj

/-- The converter may work: its domain and PD6 are ready (R46, R323). -/
def State.convOn (s : State) (x : Conv) : Bool := s.running && s.domReady (4 + x.index) && s.domReady 6

/-- The converters that a sequence led by `x` runs on (R368). -/
def State.members (s : State) (x : Conv) (inj : Bool) : List Conv :=
  if x = .adcA ∧ s.bit 0x81004 (if inj then 1 else 0) = true then [.adcA, .adcB] else [x]

/-- A pulse at the input of one sequence (R355, R356): due in the CLK_CONV cycle that begins after the present CLK_ANG cycle, in which its
source is held against TSRC (R377). What has not been taken in a cycle before the present one goes. One that arrives while a member's domain
or PD6 is not ready is discarded (R379, R380). -/
def State.pulseSeq (s : State) (p : Pulse) (spec : Bool) (x : Conv) (inj : Bool) : State :=
  if p.tsrc ≠ 0 ∧ (s.members x inj).all s.convOn = true then
    let q := s.seq x inj
    let kept := q.trig.filter (fun t => decide (s.now / 4 ≤ t.due) || (s.takesTrigger x inj t && !s.followsA x inj))
    s.setSeq x inj { q with trig := addTrigger { due := s.now / 4 + 1, src := p.tsrc, spec := spec } kept }
  else s

/-- A pulse at one timer: a LINK tick, a RESET load, a first START, a capture, or a tick of a wheel source (Tables Timer.2 and Timer.5,
R299 to R302). A master's pulse acts in the next cycle, in STANDBY, and in a wake before the PLL has locked, at this edge, where no capture occurs (R299, R317); so does a capture of a
timer's or a comparator's pulse (R302). -/
def State.pulseTimer (s : State) (p : Pulse) (n : Fin 16) : State :=
  let b := tmrBase n
  let ctrl := s.reg b
  let t := s.timers[n]
  let src := fieldOf ctrl 3 0
  let slave := fieldOf ctrl 13 11
  let m := p.isMaster ctrl
  let lf := s.power.phase == .standby || (s.power.phase == .waking && s.power.lfTimers)
  let next := if lf then s.now else s.now + 1
  let edge := match p with
    | .edge w => src == 8 + w.val
    | _ => false
  let late := match p with
    | .edge _ => false
    | .fire _ => false
    | _ => true
  let t1 := if (edge || (lf && m && src == 12)) && t.run && s.gateOpen n then t.tick (s.reg (b + 4)).toNat (s.timerTop n) 1 (!lf)
    else if m && src == 12 && t.run then { t with link := true } else t
  let t2 := if m && slave == 2 then { t1 with rstDue := some (t1.rstDue.getD next) } else t1
  let t3 := if m && slave == 3 && !t2.run && !t2.started && s.boot.loaded then
      { t2 with relDue := some (Nat.min next (t2.relDue.getD next)), started := true } else t2
  let t4 := if p.captures (s.reg (b + 0x28)) && s.running then { t3 with capDue := t3.capDue ++ [if late then next else s.now] } else t3
  s.setTimer n t4

/-- A pulse at one channel in WAIT (R391); timer pulses carry SPEC 0. -/
def State.pulseDma (s : State) (p : Pulse) (n : Fin 16) : State :=
  let c := s.ch n
  if c.state = .wait ∧ c.met = none ∧ p.meetsWait (s.progWord c.pc) = true then s.setCh n { c with met := some false } else s

/-- A pulse reaches every consumer that names it. -/
def State.raise (s : State) (p : Pulse) (spec : Bool) : State :=
  let s1 := (((s.pulseSeq p spec .adcA false).pulseSeq p spec .adcA true).pulseSeq p spec .adcB false).pulseSeq p spec .adcB true
  let s2 := (List.finRange 16).foldl (fun s (n : Fin 16) => s.pulseTimer p n) s1
  (List.finRange 16).foldl (fun s (n : Fin 16) => s.pulseDma p n) s2

/-! ### Timer release (R292 to R294) -/

/-- A release: COUNT from INIT, both channels from CAI and CBI, LVL and the accumulator 0 (R294). -/
def State.releaseTimer (s : State) (n : Fin 16) : State :=
  let b := tmrBase n
  let t := s.timers[n]
  let t1 := { t with
    run := true, relDue := none, count := s.timerInit n, actA := s.cfg48 (b + 0x18), actB := s.cfg48 (b + 0x20)
    pendA := none, pendB := none, lvl := false, acc := 0, owed := 0, fresh := true, tickNow := true, tookA := false, tookB := false
    passA := false, passB := false, link := false, capDue := t.capDue.filter (fun c => decide (s.now ≤ c)) }
  s.setTimer n t1

/-- Every unreleased timer with AUTOSTART is released, in the load-commit cycle (R292, R293). -/
def State.autostartTimers (s : State) : State :=
  (List.finRange 16).foldl (fun s (n : Fin 16) =>
    if s.bit (tmrBase n) 10 && !(s.timers[n]).run then s.releaseTimer n else s) s

/-- Every unreleased timer that a mask names is to be released in cycle `c` (R293); TIMER_RELEASE does it. -/
def State.gstart (s : State) (m c : Nat) : State :=
  (List.finRange 16).foldl (fun s (n : Fin 16) =>
    let t := s.timers[n]
    if m.testBit n.val && !t.run then s.setTimer n { t with relDue := some (Nat.min c (t.relDue.getD c)) } else s) s

/-! ### Signals and requests to the DMA (R365, R391, R392) -/

/-- A signal is delivered to a channel, with its tag; one that merges into a pending one, or into a WAIT already met by it, carries SPEC if
either does (R18, R392, R406). -/
def State.sendSignal (s : State) (n : Fin 16) (sig : Fin 16) (spec : Bool) : State :=
  let c := s.ch n
  let merged := c.sig.testBit sig
  let c1 := { c with sig := c.sig ||| 2 ^ sig.val, sigSpec := if spec then c.sigSpec ||| 2 ^ sig.val else c.sigSpec }
  let s1 := s.setCh n c1
  let ins := s.progWord c.pc
  let s2 := if merged then s1.orReg (dmaBase n + 0x10) 8 else s1
  if c.state = .wait ∧ fieldOf ins 31 28 = 4 ∧ fieldOf ins 27 26 = 0 ∧ fieldOf ins 3 0 = sig.val then
    s2.setCh n { c1 with met := some (c1.sigSpec.testBit sig) }
  else s2

/-- The WAIT waits on this request line and for this entry (R391). -/
def meetsRequest (ins : Word) (line entry : Nat) : Bool :=
  fieldOf ins 31 28 == 4 && fieldOf ins 27 26 == 1 && fieldOf ins 1 0 == line && (bitOf ins 8 || fieldOf ins 14 9 == entry)

/-- A request on a sequencer line: it meets the condition of every channel in WAIT on that line that it matches; with none waiting on
the line it is lost and counted (R365, R391, R407). -/
def State.dmaRequest (s : State) (line : Nat) (entry : Nat) (spec : Bool) : State :=
  let onLine := fun n => let c := s.ch n
    c.state == .wait && fieldOf (s.progWord c.pc) 31 28 == 4 && fieldOf (s.progWord c.pc) 27 26 == 1 &&
      fieldOf (s.progWord c.pc) 1 0 == line
  let s1 := (List.finRange 16).foldl (fun s (n : Fin 16) =>
    let c := s.ch n
    if c.state = .wait ∧ c.met = none ∧ meetsRequest (s.progWord c.pc) line entry = true then s.setCh n { c with met := some spec }
    else s) s
  if (List.finRange 16).any onLine then s1 else s1.satInc 0x90848 (8 * line + 7) (8 * line)

end Sys2Proof.Machine
end

