-- ==== Sys2Proof/Machine/Dma.lean ====
section
/-!
DEFINITION. DMA channels: starting and stopping, the instructions that make no beat, the arithmetic of a MOVE's beats, translation and the
translation cache, arbitration, levels, and the program checks (12_dma.md, R383 to R414). The beats themselves go over the bus in Beats.lean.
-/

namespace Sys2Proof.Machine

/-! ### Configuration of a channel (Table DMA.8) -/

def State.chEn (s : State) (n : Fin 16) : Bool := s.bit (dmaBase n) 31
def State.chPrio (s : State) (n : Fin 16) : Nat := s.fld (dmaBase n) 29 28
def State.chCtx (s : State) (n : Fin 16) : Nat := s.fld (dmaBase n) 27 24
def State.chRetry (s : State) (n : Fin 16) : Nat := s.fld (dmaBase n) 19 16
def State.chEntry (s : State) (n : Fin 16) : Nat := s.fld (dmaBase n + 4) 11 0
def State.chLast (s : State) (n : Fin 16) : Nat := s.fld (dmaBase n + 4) 27 16

/-- The RING field of address register `r`. -/
def State.chRing (s : State) (n : Fin 16) (r : Nat) : Nat := s.fld (dmaBase n) (4 * r + 3) (4 * r)

/-! ### Starting and stopping (R384, R409, R411) -/

/-- A channel at its entry point, in a state, with its address registers; signals, LEVEL and the fault record are kept. -/
def State.resetCh (s : State) (n : Fin 16) (st : ChState) (a : List Nat) : State :=
  let c := s.ch n
  s.setCh n { c with
    state := st, pc := s.chEntry n, a := a, loops := [], tag := false, work := .none, tries := 0, parked := false, after := none, met := none }

/-- A start (R384). -/
def State.startCh (s : State) (n : Fin 16) : State := s.resetCh n .run [0, 0, 0, 0]

/-- IDLE at ENTRY; the address registers stay as they are (R388, R409). -/
def State.idleCh (s : State) (n : Fin 16) : State := s.resetCh n .idle (s.ch n).a

/-- A stop between beats, at the end of one that is parked: the channel then does as `k` says (R402, R408, R409). -/
def State.stopAt (s : State) (n : Fin 16) (k : AfterBeat) : State :=
  if (s.ch n).parked then s.setCh n { s.ch n with after := some k }
  else if k = .restart ∧ s.chEn n = true then s.startCh n else s.idleCh n

/-- A stop: ABORT, EN cleared, an entry (R52, R408, R409). -/
def State.stopCh (s : State) (n : Fin 16) : State := s.stopAt n .stop

/-- A stop of a channel whose program a STAGED transaction changes (R173). -/
def State.dropCh (s : State) (n : Fin 16) : State := s.stopAt n .drop

/-- A restart under Table Cfg.4 or at the end of a hold: a start if EN is 1, otherwise IDLE (R384). -/
def State.restartCh (s : State) (n : Fin 16) : State := s.stopAt n .restart

/-- DMA_START: IDLE or DONE, enabled and not held (R384). -/
def State.dmaStart (s : State) (n : Fin 16) : State :=
  let c := s.ch n
  if (c.state == .idle || c.state == .done) && s.chEn n && !s.cfg.holdCh.testBit n.val then s.startCh n else s

/-- DMA_ABORT: between beats, at the end of one that is parked (R409). -/
def State.dmaAbort (s : State) (n : Fin 16) : State := s.stopCh n

/-- DMA_RESUME: at the faulting beat; a HALTED channel has a fresh retry count, a SUSPENDED one goes on with the one it had (R411, R412). -/
def State.dmaResume (s : State) (n : Fin 16) : State :=
  let c := s.ch n
  if c.state = .suspended then s.setCh n { c with state := .run }
  else if c.state = .halted then s.setCh n { c with state := .run, tries := 0 } else s

/-- Channels with AUTOSTART and EN start in the load-commit cycle and at RUN reached after a wake, but for one that a
STAGED transaction holds (R173, R176, R384). -/
def State.autostartDma (s : State) : State :=
  (List.finRange 16).foldl (fun s (n : Fin 16) => if s.bit (dmaBase n) 30 && s.chEn n && !s.cfg.holdCh.testBit n.val then s.startCh n else s) s

/-- The load commit: every channel IDLE at its program entry, then those with AUTOSTART and EN start (R383, R384). -/
def State.loadDma (s : State) : State :=
  ((List.finRange 16).foldl (fun s (n : Fin 16) => s.resetCh n .idle [0, 0, 0, 0]) s).autostartDma

/-- Step 3 of the STANDBY entry: a channel in RUN is waited for, one with a parked beat until that beat has ended (R52). -/
def State.dmaBusy (s : State) : Bool := (List.finRange 16).any (fun (n : Fin 16) => (s.ch n).state == .run)

/-- Every channel still in RUN is stopped between beats (R52). -/
def State.stopRunning (s : State) : State :=
  (List.finRange 16).foldl (fun s (n : Fin 16) => if (s.ch n).state = .run then s.stopCh n else s) s

/-- After a reset or a wake: every channel IDLE with nothing pending, the cache empty (R413). -/
def State.clearDma (s : State) : State := { s with dma := {} }

/-! ### Signals and levels (R392, R403) -/

/-- SIGNAL_DELIVERY: a bus write of DMA_CHn_SIG, tag 0 (R392). -/
def State.signalBits (s : State) (n : Fin 16) (m : Nat) : State :=
  (List.finRange 16).foldl (fun s (i : Fin 16) => if m.testBit i.val then s.sendSignal n i false else s) s

/-- SIGCLR: pending signals and their tags are cleared (R392). -/
def State.signalClear (s : State) (n : Fin 16) (m : Nat) : State :=
  let c := s.ch n
  let k := 0xFFFF - m % 0x10000
  s.setCh n { c with sig := c.sig &&& k, sigSpec := c.sigSpec &&& k }

/-- WM of a channel; 0 is off. -/
def State.chWm (s : State) (n : Fin 16) : Nat := s.fld (dmaBase n + 0x30) 31 16

/-- The rising watermark is tested on the level at the end of the CLK_SYS cycle in which it changed (R146, R403). -/
def State.closeLevel (s : State) (n : Fin 16) : State :=
  let c := s.ch n
  match c.lvl with
  | none => s
  | some k =>
    let wm := s.chWm n
    let followed := c.wm.follow Nat.max c.level (decide (wm ≠ 0 ∧ wm ≤ c.level))
    if wm ≠ 0 ∧ k.was < wm ∧ wm ≤ c.level then
      let r := followed.cross Nat.max c.level
      let s1 := s.setCh n { c with lvl := none, wm := r.1 }
      if r.2 then s1.notice 0x0B (watermarkPayload 1 n.val c.level wm) else s1
    else s.setCh n { c with lvl := none, wm := followed }

/-- Every channel's level as a CLK_SYS cycle ends. -/
def State.closeLevels (s : State) : State := (List.finRange 16).foldl State.closeLevel s

/-- What the present CLK_SYS cycle has done to a channel's level. -/
def DmaCh.levelCycle (c : DmaCh) (cyc : Nat) : LevelCycle :=
  match c.lvl with
  | some k => if k.cyc = cyc then k else { cyc := cyc, was := k.was, up := c.level }
  | none => { cyc := cyc, was := c.level, up := c.level }

/-- The level after the cycle's increments and then its decrements, never below 0 (R403). -/
def State.setLevel (s : State) (n : Fin 16) (k : LevelCycle) : State :=
  s.setCh n { s.ch n with lvl := some k, level := k.up - k.down }

/-- A MOVE with LVL adds 1; at 0xFFFF it sets LVLSAT instead (R403). -/
def State.levelUp (s : State) (n : Fin 16) : State :=
  let k := (s.ch n).levelCycle (s.now / 2)
  if k.up = 0xFFFF then s.orReg (dmaBase n + 0x10) 16 else s.setLevel n { k with up := k.up + 1 }

/-- LVLDEC: the level is not taken below 0 (R403). -/
def State.levelDown (s : State) (n : Fin 16) (v : Nat) : State :=
  let k := (s.ch n).levelCycle (s.now / 2)
  s.setLevel n { k with down := k.down + v }

/-- A clear of a channel's watermark flag (R146). -/
def State.clearLevelWm (s : State) (n : Fin 16) : State :=
  let c := s.ch n
  let wm := s.chWm n
  let r := c.wm.clear c.level (decide (wm ≠ 0 ∧ wm ≤ c.level))
  let s1 := s.setCh n { c with wm := r.1 }
  if r.2 then s1.notice 0x0B (watermarkPayload 1 n.val c.level wm) else s1

/-! ### Instructions without beats (R386, R390 to R393) -/

/-- Opcodes (Table DMA.2) and the words they take. -/
def opOf (w : Word) : Nat := fieldOf w 31 28
def opWords (op : Nat) : Nat := if op = 1 then 3 else if op = 6 then 2 else 1

/-- The channel is about to execute an instruction of this opcode. -/
def State.atOp (s : State) (n : Fin 16) (op : Nat) : Bool :=
  let c := s.ch n
  c.state == .run && c.work == .none && !c.parked && !s.life.halted && s.running && opOf (s.progWord c.pc) == op

/-- LOOP (R390). -/
def State.opLoop (s : State) (n : Fin 16) : State :=
  let c := s.ch n
  if s.atOp n 2 then
    let k := fieldOf (s.progWord c.pc) 15 0
    s.setCh n { c with pc := c.pc + 1, loops := { body := c.pc + 1, left := if k = 0 then none else some k } :: c.loops }
  else s

/-- ENDLOOP (R390). -/
def State.opEndLoop (s : State) (n : Fin 16) : State :=
  let c := s.ch n
  if s.atOp n 3 then
    match c.loops with
    | [] => s.setCh n { c with pc := c.pc + 1 }
    | f :: rest =>
      match f.left with
      | none => s.setCh n { c with pc := f.body }
      | some k =>
        if 1 < k then s.setCh n { c with pc := f.body, loops := { f with left := some (k - 1) } :: rest }
        else s.setCh n { c with pc := c.pc + 1, loops := rest }
  else s

/-- The end of a WAIT: TAG takes the SPEC bit of what met it, and a signal's pending bit is cleared (R391). -/
def State.endWait (s : State) (n : Fin 16) (tag : Bool) : State :=
  let c := s.ch n
  let w := s.progWord c.pc
  let m := if fieldOf w 27 26 = 0 then 2 ^ fieldOf w 3 0 else 0
  (s.setCh n { c with state := .run, pc := c.pc + 1, tag := tag, met := none }).signalClear n m

/-- WAIT: a pending signal completes it at once (R391). -/
def State.opWait (s : State) (n : Fin 16) : State :=
  let c := s.ch n
  if s.atOp n 4 then
    let w := s.progWord c.pc
    let sig := fieldOf w 3 0
    if fieldOf w 27 26 = 0 ∧ c.sig.testBit sig = true then s.endWait n (c.sigSpec.testBit sig)
    else s.setCh n { c with state := .wait, met := none }
  else s

/-- WAIT_COMPLETE: the condition has been met (R391, R406). -/
def State.waitComplete (s : State) (n : Fin 16) : State :=
  let c := s.ch n
  match c.state, c.met with
  | .wait, some tag => s.endWait n tag
  | _, _ => s

/-- SIGNAL, with this channel's TAG (R392). -/
def State.opSignal (s : State) (n : Fin 16) : State :=
  let c := s.ch n
  if s.atOp n 5 then
    let w := s.progWord c.pc
    (s.setCh n { c with pc := c.pc + 1 }).sendSignal (Fin.ofNat 16 (fieldOf w 3 0)) (Fin.ofNat 16 (fieldOf w 7 4)) c.tag
  else s

/-- SET: an address register at once, or a word to be written by a beat (R393). -/
def State.opSet (s : State) (n : Fin 16) : State :=
  let c := s.ch n
  if s.atOp n 6 then
    let w := s.progWord c.pc
    let v := s.progWord (c.pc + 1)
    if bitOf w 27 then s.setCh n { c with work := .set (fieldOf w 23 0) v, tries := 0 }
    else s.setCh n { c with pc := c.pc + 2, a := c.a.set (fieldOf w 1 0) (fieldOf v 23 0) }
  else s

/-- END: DONE (R393). -/
def State.opEnd (s : State) (n : Fin 16) : State :=
  if s.atOp n 0 then (s.setCh n { s.ch n with state := .done }).orReg (dmaBase n + 0x10) 1 else s

/-! ### MOVE (R387, R388, R394) -/

/-- The fields of the MOVE at the channel's PC (Table DMA.2). -/
structure MoveIns where
  sw : Nat
  dw : Nat
  smode : Nat
  dmode : Nat
  lvl : Bool
  len : Nat
  sreg : Nat
  dreg : Nat
deriving DecidableEq, Repr

/-- The MOVE at a word offset of the program store. -/
def State.moveAt (s : State) (off : Nat) : MoveIns :=
  let w := s.progWord off
  { sw := 2 ^ fieldOf w 27 26, dw := 2 ^ fieldOf w 25 24, smode := fieldOf w 23 22, dmode := fieldOf w 21 20
    lvl := bitOf w 19, len := fieldOf w 17 0, sreg := fieldOf (s.progWord (off + 1)) 1 0, dreg := fieldOf (s.progWord (off + 2)) 1 0 }

/-- A rising address (R388). -/
def advAddr (a k r : Nat) : Nat :=
  if r = 0 then (a + k) % 2 ^ 24 else a / 2 ^ r * 2 ^ r % 2 ^ 24 + (a + k) % 2 ^ r

/-- The mode keeps its unit at every beat (Table DMA.3). -/
def fixedMode (mode : Nat) : Bool := mode % 2 == 1

/-- MOVE begins: its operands are read (R387). -/
def State.opMove (s : State) (n : Fin 16) : State :=
  let c := s.ch n
  if s.atOp n 1 then
    let i := s.moveAt c.pc
    let operand := fun (mode off : Nat) =>
      if 2 ≤ mode then c.a.getD (fieldOf (s.progWord off) 1 0) 0 else fieldOf (s.progWord off) 23 0
    s.setCh n { c with work := .move { src := operand i.smode (c.pc + 1), dst := operand i.dmode (c.pc + 2) }, tries := 0 }
  else s

/-- The offset of a range within its first unit: 0 for FIX and AFIX (R394). -/
def unitOffset (mode a w : Nat) : Nat := if fixedMode mode then 0 else a % w

/-- The address of unit `k` (R394). -/
def unitAddr (mode a x0 k w ring : Nat) : Nat := if fixedMode mode then a else advAddr (a - x0) (k * w) ring

/-- The ring of an operand: that of its register for AINC, 0 otherwise. -/
def State.opRing (s : State) (n : Fin 16) (mode r : Nat) : Nat := if mode = 2 then s.chRing n r else 0

/-- One beat: address, width in bytes, and for a write the lanes with their bytes. -/
structure Beat where
  addr : Nat
  width : Nat
  /-- none for a read; for a write, each lane's byte where its enable is set. -/
  lanes : Option (List (Option Byte))
deriving DecidableEq, Repr

/-- The range bytes the next write unit needs (R394). -/
def moveNeed (i : MoveIns) (m : MoveSt) (d0 : Nat) : Nat := Nat.min ((m.nw + 1) * i.dw - d0) i.len

/-- The next beat of a MOVE: a write before a read when both are possible (R394). -/
def State.moveBeat (s : State) (n : Fin 16) (i : MoveIns) (m : MoveSt) : Beat :=
  let s0 := unitOffset i.smode m.src i.sw
  let d0 := unitOffset i.dmode m.dst i.dw
  if moveNeed i m d0 ≤ m.got then
    { addr := unitAddr i.dmode m.dst d0 m.nw i.dw (s.opRing n i.dmode i.dreg), width := i.dw
      lanes := some ((List.range i.dw).map (fun j =>
        let pos := m.nw * i.dw + j
        if d0 ≤ pos ∧ pos - d0 < i.len then m.hold[pos - d0 - m.put]? else none)) }
  else { addr := unitAddr i.smode m.src s0 m.nr i.sw (s.opRing n i.smode i.sreg), width := i.sw, lanes := none }

/-- A read unit has arrived: its bytes within the range enter the holding register (R394). -/
def moveRead (i : MoveIns) (m : MoveSt) (bytes : List Byte) : MoveSt :=
  let s0 := unitOffset i.smode m.src i.sw
  let first := m.nr * i.sw
  let keep := ((bytes.zip (List.range i.sw)).filter (fun p => decide (s0 ≤ first + p.2) && decide (first + p.2 - s0 < i.len))).map Prod.fst
  { m with got := Nat.min ((m.nr + 1) * i.sw - s0) i.len, nr := m.nr + 1, hold := m.hold ++ keep }

/-- A write unit has been accepted (R394). -/
def moveWrite (i : MoveIns) (m : MoveSt) : MoveSt :=
  let need := moveNeed i m (unitOffset i.dmode m.dst i.dw)
  { m with put := need, nw := m.nw + 1, hold := m.hold.drop (need - m.put) }

/-- The end of a MOVE: AINC registers take the address that follows the range, LVL counts, and the next instruction (R387, R402, R403). -/
def State.endMove (s : State) (n : Fin 16) (i : MoveIns) : State :=
  let c := s.ch n
  let up := fun (l : List Nat) (mode r : Nat) => if mode = 2 then l.set r (advAddr (c.a.getD r 0) i.len (s.chRing n r)) else l
  let s1 := s.setCh n { c with pc := c.pc + 3, work := .none, tries := 0, a := up (up c.a i.smode i.sreg) i.dmode i.dreg }
  if i.lvl then s1.levelUp n else s1

/-- A beat has been carried out: the MOVE's position, or the end of the SET; the retrying ends (R393, R394, R412). -/
def State.beatDone (s : State) (n : Fin 16) (bytes : List Byte) (write : Bool) : State :=
  let c := s.ch n
  match c.work with
  | .none => s
  | .set _ _ => s.setCh n { c with work := .none, pc := c.pc + 2, tries := 0 }
  | .move m =>
    let i := s.moveAt c.pc
    let m1 := if write then moveWrite i m else moveRead i m bytes
    let s1 := s.setCh n { c with work := .move m1, tries := 0 }
    if i.len ≤ m1.put then s1.endMove n i else s1

/-- A parked beat has ended as `done` says, and the channel goes on; one that was to stop does (R400, R402, R408, R409). -/
def State.unpark (s : State) (n : Fin 16) (done : State → State) : State :=
  let c := s.ch n
  let s1 := s.setCh n { c with parked := false, after := none }
  match c.after with
  | none => done s1
  | some .stop => (done s1).stopAt n .stop
  | some k => s1.stopAt n k

/-! ### Translation (R395 to R398) -/

/-- An address lies in working SRAM. -/
def inSram (a : Nat) : Bool := decide (0x800000 ≤ a) && decide (a < 0x840000)

/-- A write of DMA_TLBINV names the entry: its context and page, or all (R398). -/
def TlbEntry.hit (e : TlbEntry) (w : Word) : Bool := bitOf w 31 || (e.ctx == fieldOf w 27 24 && e.page == fieldOf w 11 0)

/-- TLB_INVALIDATE: one context and page, or all; also what a walk of this CLK_SYS cycle fills after it (R398, R407). -/
def State.tlbInvalidate (s : State) (w : Word) : State :=
  { s with dma := { s.dma with
      tlb := s.dma.tlb.filter (fun e => !e.hit w), inv := (s.now / 2, w) :: s.dma.inv.filter (fun p => decide (p.1 = s.now / 2)) } }

/-- A walk fills an entry, the least recently used one making room; an invalidation of this CLK_SYS cycle comes after the fill (R398, R407). -/
def State.tlbFill (s : State) (e : TlbEntry) : State :=
  let gone := fun (x : TlbEntry) => s.dma.inv.any (fun p => decide (p.1 = s.now / 2) && x.hit p.2)
  { s with dma := { s.dma with tlb := ((e :: s.dma.tlb).take 32).filter (fun x => !gone x) } }

/-- A commit that changes a context's BYPASS or ROOT invalidates its entries (R398). -/
def State.tlbDropCtx (s : State) (k : Nat) : State :=
  { s with dma := { s.dma with tlb := s.dma.tlb.filter (fun e => e.ctx != k) } }

/-! ### Faults (R410, R412) -/

/-- The fault record. -/
def State.faultRecord (s : State) (n : Fin 16) (st : ChState) (cause va pa : Nat) (write : Bool) : State :=
  let c := s.ch n
  s.setCh n { c with
    state := st, fCause := cause, fVaddr := va, fPaddr := pa, fWrite := write, fOffset := c.pc }

/-- The payload of NTC_DMA (Table Link.5). -/
def dmaPayload (n cause va off : Nat) : List Byte := bytesLE 1 n ++ bytesLE 1 cause ++ bytesLE 4 va ++ bytesLE 2 off

/-- TRANSLATION_FAULT: the channel is suspended at the beat (R410). -/
def State.translationFault (s : State) (n : Fin 16) (cause va : Nat) (write : Bool) : State :=
  let s1 := (s.faultRecord n .suspended cause va 0 write).orReg (dmaBase n + 0x10) 2
  s1.notice 0x13 (dmaPayload n.val 2 va (s.ch n).pc)

/-- A beat ended in a bus error: reissued up to RETRY times, then the channel halts (R412). -/
def State.beatError (s : State) (n : Fin 16) (va pa : Nat) (write : Bool) : State :=
  let c := s.ch n
  if c.tries < s.chRetry n then s.setCh n { c with tries := c.tries + 1 }
  else
    let s1 := (s.faultRecord n .halted 8 va pa write).orReg (dmaBase n + 0x10) 4
    s1.notice 0x13 (dmaPayload n.val 1 va c.pc)

/-! ### Arbitration (R399) -/

/-- The channel is ready for a beat. -/
def State.chReady (s : State) (n : Fin 16) : Bool :=
  let c := s.ch n
  c.state == .run && c.work != .none && !c.parked

/-- The channels after `n` in rising order, counting round, `n` itself last. -/
def chRing16 (n : Fin 16) : List (Fin 16) := (List.finRange 16).map (fun i => n + i + 1)

/-- The channel granted the next beat: the highest PRIO; the holder of the previous beat, else the next ready one in order. -/
def State.grant (s : State) : Option (Fin 16) :=
  let ready := (chRing16 s.dma.last).filter s.chReady
  let top := (ready.map s.chPrio).foldl Nat.max 0
  let best := ready.filter (fun n => s.chPrio n == top)
  if best.contains s.dma.last then some s.dma.last else best.head?

/-- The holder of the previous beat loses the port to a higher priority in the middle of a MOVE: PREEMPT counts (R399). -/
def State.countPreempt (s : State) (n : Fin 16) : State :=
  let h := s.dma.last
  let mid := match (s.ch h).work with
    | .move m => decide (0 < m.nr + m.nw)
    | _ => false
  let s1 := if h ≠ n ∧ s.chReady h = true ∧ mid = true ∧ s.chPrio h < s.chPrio n then s.satInc (dmaBase h + 0x1C) 15 0 else s
  { s1 with dma := { s1.dma with last := n } }

/-! ### Checks (R385, R389, R395, R405) -/

/-- A bit that the encoding marks 0 is set, a field is outside its range, or an immediate address breaks R389; `w1` and `w2` are the further
words. A beat to a register block is known before it is made only under a context with BYPASS 1, where the address is the physical one. -/
def insBad (bypass : Bool) (w w1 w2 : Word) : Bool :=
  let z := fun (hi lo : Nat) => fieldOf w hi lo != 0
  match opOf w with
  | 0 => z 27 0
  | 1 =>
    let sm := fieldOf w 23 22
    let dm := fieldOf w 21 20
    let len := fieldOf w 17 0
    let sw := 2 ^ fieldOf w 27 26
    let dw := 2 ^ fieldOf w 25 24
    let regBlock := fun (a : Nat) => bypass && decide (a < 0x120000)
    let operandBad := fun (mode width : Nat) (o : Word) =>
      if 2 ≤ mode then decide (fieldOf o 31 2 ≠ 0)
      else
        let a := fieldOf o 23 0
        decide (fieldOf o 31 24 ≠ 0) || (decide (mode = 0) && decide (0x1000000 < a + len)) ||
          (decide (mode = 1) && (decide (a % width ≠ 0) || decide (len % width ≠ 0))) ||
          (regBlock a && (decide (width ≠ 4) || decide (a % 4 ≠ 0) || decide (len % 4 ≠ 0)))
    z 18 18 || decide (fieldOf w 27 26 = 3) || decide (fieldOf w 25 24 = 3) || decide (len = 0) ||
      operandBad sm sw w1 || operandBad dm dw w2
  | 2 => z 27 16
  | 3 => z 27 0
  | 4 => (match fieldOf w 27 26 with
    | 0 => z 25 4
    | 1 => z 25 15 || z 7 2
    | 2 => z 25 6 || decide (fieldOf w 5 4 = 3)
    | _ => true)
  | 5 => z 27 8
  | 6 => if bitOf w 27 then z 26 24 || decide (fieldOf w 23 0 % 4 ≠ 0) else z 26 2 || decide (fieldOf w1 31 24 ≠ 0)
  | _ => true

/-- A range decodes word by word from `off`, with `depth` loops open, to an END at `last` with none open (R385); `fuel` bounds it. -/
def rangeOk (bypass : Bool) (p : Nat → Word) (last : Nat) : Nat → Nat → Nat → Bool
  | 0, _, _ => false
  | fuel + 1, off, depth =>
    let w := p off
    let op := opOf w
    let next := off + opWords op
    if decide (6 < op) || decide (last + 1 < next) || insBad bypass w (p (off + 1)) (p (off + 2)) then false
    else if op = 2 then decide (depth < 4) && decide (next ≤ last) && rangeOk bypass p last fuel next (depth + 1)
    else if op = 3 then decide (0 < depth) && decide (next ≤ last) && rangeOk bypass p last fuel next (depth - 1)
    else if next = last + 1 then decide (op = 0) && decide (depth = 0)
    else rangeOk bypass p last fuel next depth

/-- The DMA words that fail. -/
def dmaFails (c : Nat → Word) : List Nat :=
  (List.finRange 16).flatMap (fun (n : Fin 16) =>
    let b := dmaBase n
    let e := fieldOf (c (b + 4)) 11 0
    let l := fieldOf (c (b + 4)) 27 16
    let ringBad := (List.range 4).any (fun i => let r := fieldOf (c b) (4 * i + 3) (4 * i); decide (1 ≤ r ∧ r ≤ 3))
    let bypass := bitOf (c (0x90800 + 4 * fieldOf (c b) 27 24)) 0
    failIf ringBad b ++
    failIf (bitOf (c b) 31 && (decide (l < e) || !rangeOk bypass (fun o => c (0x200000 + 4 * o)) l 4097 e 0)) (b + 4)) ++
  (List.range 16).flatMap (fun k =>
    let w := c (0x90800 + 4 * k)
    failIf (!bitOf w 0 && !inSram (fieldOf w 23 8 * 256)) (0x90800 + 4 * k))

/-! ### Views -/

/-- Codes of Table DMA.1. -/
def ChState.code : ChState → Nat
  | .idle => 0
  | .run => 1
  | .wait => 2
  | .suspended => 3
  | .halted => 4
  | .done => 5

/-- DMA_CHn_STAT (Table DMA.8). -/
def State.chStat (s : State) (n : Fin 16) : Word :=
  let c := s.ch n
  BitVec.ofNat 32 (atBit (c.pc % 4096) 16 + atBit (b2n (s.cfg.holdCh.testBit n.val)) 7 + atBit c.loops.length 4 +
    atBit (b2n c.tag) 3 + c.state.code)

end Sys2Proof.Machine
end

