-- ==== Sys2Proof/Machine/Link.lean ====
section
/-!
DEFINITION. The Jornus link engine and the CAN FD controller: frames, the response cache, acknowledgement, going back, the stale
link, bus-off and link settings (04_jornus_link.md, R119 to R155). The commands themselves are in Commands.lean.
-/

namespace Sys2Proof.Machine

/-- The CAN FD data lengths. -/
def fdLengths : List Nat := [8, 12, 16, 20, 24, 32, 48, 64]

/-- The next FD data length at or above a length (R126; every frame sent has at least eight bytes). -/
def fdLength (n : Nat) : Nat := ((fdLengths.find? (fun l => n ≤ l))).getD 64

/-- A frame padded with 0x00 up to the next FD data length (R126). -/
def fdPad (l : List Byte) : List Byte := fitBytes (fdLength l.length) l

/-- Byte 0 of a frame the part sends (Table Link.2). -/
def headByte (type : Nat) (retx pend rcv cached : Bool) : Byte :=
  BitVec.ofNat 8 (type + atBit (b2n retx) 4 + atBit (b2n pend) 5 + atBit (b2n rcv) 6 + atBit (b2n cached) 7)

/-- A response frame (R127). -/
def responseFrame (pend rcv : Bool) (seq op status detail : Nat) (data : List Byte) : List Byte :=
  fdPad ([headByte 2 false pend rcv false] ++ bytesLE 2 seq ++ bytesLE 1 op ++ bytesLE 1 status ++ bytesLE 3 detail ++ data)

/-- The same response sent again from the cache, with CACHED set (R135). That PEND and RECOVERY stay those of the first answer is a DESIGN
CHOICE (log entry 110). -/
def cachedFrame : List Byte → List Byte
  | [] => []
  | b :: t => (b ||| 0x80) :: t

/-- A notice frame (R138). -/
def noticeFrame (retx pend rcv : Bool) (n : Notice) : List Byte :=
  fdPad ([headByte 3 retx pend rcv false] ++ bytesLE 2 n.num ++ bytesLE 1 n.code ++ bytesLE 4 n.time.toNat ++ n.payload)

/-- The controller is released: the load commit or recovery entry has come, and the part is in RUN or DOZE (R84, R150). -/
def State.linkUp (s : State) : Bool := s.running && (s.boot.loaded || s.boot.recovery)

/-- The identifiers of Table Link.1: 0 commands and acknowledgements, 1 responses, 2 notices, 3 reserved. With EXT they have 29 bits (R123). -/
def LinkSettings.ident (l : LinkSettings) (k : Nat) : Nat :=
  fieldOf l.idcfg 10 0 + 4 * fieldOf l.idcfg 15 11 + k + (if bitOf l.idcfg 16 then fieldOf l.idhi 17 0 * 2 ^ 11 else 0)

/-- The head of a frame that the part sends now: an FD frame, with BRS from LNK_CTRL and ESI from the controller's error state (R119, R123). -/
def State.frameHead (s : State) (k : Nat) : FrameHead :=
  { ident := s.link.active.ident k, ext := bitOf s.link.active.idcfg 16, brs := s.bit 0x10000 0, esi := s.link.can == .errorPassive }

/-- The controller takes part in the bus and can carry frames. -/
def State.online (s : State) : Bool :=
  s.linkUp && (s.link.can == .errorActive || s.link.can == .errorPassive)

/-- ATTN is driven low (R145). -/
def State.attnLow (s : State) : Bool := s.linkUp && (s.ringPending || s.link.stale)

/-- Every sent notice waits to be sent again, oldest first (R141). -/
def State.goBackRing (s : State) : State :=
  { s with link := { s.link with
      ring := s.link.ring.map (fun n => if n.sent then { n with queued := true, txAt := s.now } else n) } }

/-- The end of the stale state by a valid ACK or command frame (R142). -/
def State.endStale (s : State) : State :=
  if s.link.stale then { s with link := { s.link with stale := false, retry := 0 } }.goBackRing else s

/-- The oldest unacknowledged notice has gone 50 ms since its last transmission (R141). -/
def State.oldestDue (s : State) : Bool :=
  match s.link.ring with
  | [] => false
  | n :: _ => n.sent && decide (n.txAt + msAng 50 ≤ s.now)

/-- The notice handed to the controller: the first that waits, marked sent (R139, R141). -/
def sendFirst (now : Nat) : List Notice → List Notice
  | [] => []
  | n :: t => if n.queued then { n with sent := true, queued := false, txAt := now } :: t else n :: sendFirst now t

/-- NOTICE_TRANSMIT: the first waiting notice goes to the controller once no response waits (R139, R141, R142). -/
def State.transmitNotice (s : State) : State :=
  if s.online && !s.link.stale && s.link.held.isNone then
    match s.link.ring.find? (fun n => n.queued) with
    | none => s
    | some n => { s with link := { s.link with
        cycIn := []
        lastNotice := noticeFrame n.sent s.ringPending s.boot.recovery n
        noticeHead := s.frameHead 2
        ring := sendFirst s.now s.link.ring } }
  else s

/-- GO_BACK: 50 ms without acknowledgement (R141). The third go-back is the last before the link turns stale. -/
def State.goBack (s : State) : State :=
  if s.online && !s.link.stale && s.oldestDue && decide (s.link.retry < 3) then
    let s1 := s.goBackRing
    { s1 with link := { s1.link with retry := s.link.retry + 1 } }
  else s

/-- The NTC_LINK_STALE frame: SEQ 0, outside the ring (R142). -/
def State.staleNotice (s : State) : Notice :=
  { num := 0, code := 0x0C, time := BitVec.ofNat 32 s.lf
    payload := bytesLE 2 ((s.link.ring.head?.map (fun n => n.num)).getD 0) ++ bytesLE 1 s.link.ring.length }

/-- LINK_STALE: the fourth 50 ms period runs out after the third go-back (R142). -/
def State.linkStale (s : State) : State :=
  if s.online && !s.link.stale && s.oldestDue && decide (s.link.retry = 3) then
    { s with link := { s.link with
        stale := true
        noticeHead := s.frameHead 2
        lastNotice := noticeFrame false true s.boot.recovery s.staleNotice } }
  else s

/-- The payload of NTC_RETRACT (Table Link.5): output, retraction counter, target of the latest retracted event. -/
def State.retractPayload (s : State) (n : Nat) : List Byte :=
  bytesLE 2 n ++ bytesLE 2 (s.fld (0x40020 + 0x40 * n) 15 0) ++ bytesLE 4 (s.reg (0x40024 + 0x40 * n)).toNat

/-- The ring holds an NTC_RETRACT of this output (R144). -/
def State.retractInRing (s : State) (n : Nat) : Bool :=
  s.link.ring.any (fun e => e.code == 0x08 && natAt e.payload 0 1 == n)

/-- At most one NTC_RETRACT per output (R144). -/
def State.noticeRetract (s : State) (n : Nat) : State :=
  if s.retractInRing n then s else s.notice 0x08 (s.retractPayload n)

/-- An acknowledged NTC_RETRACT whose output has retracted more since: one new notice (R144). -/
def State.renewRetract (s : State) (e : Notice) : State :=
  if e.code = 0x08 then
    let n := natAt e.payload 0 1
    if s.fld (0x40020 + 0x40 * n) 15 0 = natAt e.payload 2 2 then s else s.noticeRetract n
  else s

/-- The entries up to and including number `m`, and those after it, if `m` is a sent, unacknowledged number (R140). -/
def splitAck (m : Nat) : List Notice → Option (List Notice × List Notice)
  | [] => none
  | n :: t =>
    if n.sent then
      if n.num = m then some ([n], t)
      else match splitAck m t with
        | none => none
        | some (a, b) => some (n :: a, b)
    else none

/-- ACK `m` as the ring stands; the transition under way sees its NTC_LIFECYCLE acknowledged (R140, R142, R144, R149, R561). -/
def State.ackNow (s : State) (m : Nat) : State :=
  match splitAck m s.link.ring with
  | none => s.satInc 0x10038 31 16
  | some (freed, rest) =>
    let told := freed.any (fun n => n.code == 0x17)
    let s1 := { s with
      link := { s.link with ring := rest, retry := 0 }
      life := { s.life with transition := s.life.transition.map (fun (t : Transition) => { t with acked := t.acked || told }) } }
    freed.foldl State.renewRetract s1.endStale

/-- ACK `m`: before the notices of its own CLK_SYS cycle, so that these find the ring and the fill after it (R140, R152). -/
def State.ack (s : State) (m : Nat) : State :=
  if s.online then
    if s.link.cycAt = s.now / 2 ∧ s.link.cycIn ≠ [] then
      let l := s.link.cycIn
      ((s.openCycle).closeCycle.ackNow m).noticeAll l
    else s.ackNow m
  else s

/-- BUS_OFF: TEC has passed 255, the controller stops and discards the frame it was sending (R119, R153). By how much TEC has passed 255 is
a free value. -/
def State.busOff (s : State) : State :=
  if s.online then
    let d := s.drawFree
    { d.2 with link := { s.link with
        can := .busOff, boffCnt := satAdd 0xFFFF s.link.boffCnt 1, txErr := 256 + (Config.busOffTec d.1).toNat } }
  else s

/-- BUS_OFF_RECOVERY: the rejoin after 128 times 11 recessive bits; NTC_LINK, and a go-back that does not count (R119, R153). -/
def State.busOffRecovery (s : State) : State :=
  if s.linkUp && s.link.can == .busOff then
    let s1 := { s with link := { s.link with can := .errorActive, txErr := 0, rxErr := 0 } }
    (s1.goBackRing).notice 0x18 (bytesLE 2 s.link.boffCnt ++ bytesLE 1 0 ++ bytesLE 1 0)
  else s

/-- ERROR_PASSIVE: an error counter has passed 127; no Jornus rule changes (R154). -/
def State.errorPassive (s : State) (tx rx : Nat) : State :=
  if s.online then
    { s with link := { s.link with
        txErr := tx % 512, rxErr := rx % 256
        can := if 127 < tx % 512 ∨ 127 < rx % 256 then .errorPassive else .errorActive } }
  else s

/-- BUS_INTEGRATION_DONE: the controller has seen 11 recessive bits and joins (R84, R151). That the error counters stay as they are when it
joins on new settings, and with them its error state, is a DESIGN CHOICE (log entry 111). -/
def State.busIntegrated (s : State) : State :=
  if s.linkUp && s.link.can == .integrating then
    { s with link := { s.link with can := if 127 < s.link.txErr ∨ 127 < s.link.rxErr then .errorPassive else .errorActive } }
  else s

/-- The live link settings. -/
def State.liveLinkSettings (s : State) : LinkSettings :=
  { nbt := s.reg 0x1000C, dbt := s.reg 0x10010, tdc := s.reg 0x10014, idcfg := s.reg 0x10004, idhi := s.reg 0x10008 }

/-- LINK_SETTINGS_APPLY: the response has gone, the controller integrates on the new settings and every unacknowledged notice
is resent in order (R151). In bus-off it takes the settings and still waits for its recovery (R153). -/
def State.applyLinkSettings (s : State) : State :=
  if s.link.settingsPend then
    ({ s with link := { s.link with
        settingsPend := false, active := s.liveLinkSettings
        can := if s.link.can == CanState.busOff then .busOff else .integrating } }).goBackRing
  else s

/-- The frame carries the node's command identifier, in the format of LNK_IDCFG.EXT (R122, R123). -/
def LinkSettings.onCommandId (l : LinkSettings) (f : BusFrame) : Bool :=
  f.ext == bitOf l.idcfg 16 && decide (f.ident = l.ident 0)

/-- A frame that is ignored and counted (R122, R125). That one with TYPE 2 or 3 is, as one with a reserved TYPE, is a DESIGN CHOICE (log
entry 109). -/
def LinkSettings.frameCounts (l : LinkSettings) (f : BusFrame) : Bool :=
  l.onCommandId f && (!f.fd || f.remote || decide (f.bytes.length < 4) ||
    (let t := (natAt f.bytes 0 1) % 16
     !(t == 1 || (t == 4 && natAt f.bytes 3 1 == 0))))

/-- IGNORED_FRAME: a frame that carries no command and no acknowledgement; counted where R122 and R125 say so. -/
def State.ignoredFrame (s : State) (f : BusFrame) : State :=
  if s.online && s.link.active.frameCounts f then s.satInc 0x10038 15 0 else s

/-! ### Commands: framing, the cache and the gates (R126 to R137, R150) -/

/-- What a command body answers. -/
structure Reply where
  status : Nat
  detail : Nat := 0
  data : List Byte := []
  next : State
  /-- A word waits for its commit: no answer yet, and these words follow it (R161). -/
  rest : Option (List (Nat × Word)) := none

/-- BUSY, FETCHING, BUSY_MEDIA and SEQ_CONFLICT leave the cache unchanged (R134). -/
def cachedStatus (status : Nat) : Bool := !(status == 0x02 || status == 0x03 || status == 0x04 || status == 0x13)

/-- The link engine waits in a CLK_LF block for a stalled write of its own (R43). -/
def State.linkStalled (s : State) : Bool :=
  s.power.lfAon.any (fun w => w.stalled) || s.power.lfLck.any (fun w => w.stalled) || s.power.lfPwr.any (fun w => w.stalled)

/-- A response is handed to the controller. -/
def State.handOver (s : State) (f : List Byte) : State :=
  { s with link := { s.link with lastResp := f, respHead := s.frameHead 1 } }

/-- The link engine executes a command: its response waits for a stalled write, or one of its words for a commit (R128). -/
def State.linkBusy (s : State) : Bool := s.link.held.isSome || !s.cfg.waiting.isEmpty

/-- The writes that a command has put into the CLK_LF queues are marked as its own (R139). -/
def State.markMine (before s : State) : State :=
  let m := fun (o l : List LfWrite) => l.take o.length ++ (l.drop o.length).map (fun w => { w with mine := true })
  { s with power := { s.power with
      lfAon := m before.power.lfAon s.power.lfAon, lfLck := m before.power.lfLck s.power.lfLck, lfPwr := m before.power.lfPwr s.power.lfPwr } }

/-- The notices that the command has caused leave the ring until its response is out (R139). -/
def State.holdNotices (before s : State) : State :=
  let l := (s.link.ring.drop before.link.ring.length).filter (fun n => !(n.code == 0x19 || (n.code == 0x0B && natAt n.payload 0 1 == 0)))
  { s with link := { s.link with
      ring := before.link.ring, nextNum := before.link.nextNum, wm := before.link.wm, cycIn := []
      heldIn := s.link.heldIn ++ l.map (fun n => (n.code, n.payload)) } }

/-- The notices that waited for their command's response enter (R139). -/
def State.releaseIn (s : State) : State := ({ s with link := { s.link with heldIn := [] } }).noticeAll s.link.heldIn

/-- The response leaves: at once, or once the stalled write has proceeded (R43, R127, R134), or the word that waits has committed (R161). PEND
shows the ring as it stood before the command, since a command's own notices enter after its response (R139). A transition wipes the cache after
its response, so that one is not kept (R556, R561). -/
def State.respond (before : State) (seq op : Nat) (r : Reply) : State :=
  match r.rest with
  | some rest =>
    let s := State.markMine before (State.holdNotices before r.next)
    { s with cfg := { s.cfg with waitCmd := some { seq := seq, op := op, rest := rest, data := r.data } } }
  | none =>
    let f := responseFrame before.ringPending before.boot.recovery seq op r.status r.detail r.data
    let s := r.next
    let transits := before.life.transition.isNone && s.life.transition.isSome
    let s1 := if cachedStatus r.status && !transits then
        { s with link := { s.link with cache := some { seq := seq, op := op, frame := f } } } else s
    if s1.link.held.isNone && s1.cfg.waitCmd.isNone && (s1.linkStalled || !s1.link.heldIn.isEmpty) then
      let s2 := State.markMine before (State.holdNotices before s1)
      if s2.linkStalled then { s2 with link := { s2.link with held := some f } } else (s2.handOver f).releaseIn
    else s1.handOver f

/-- A command frame arrives: the stale state ends, the cache and BUSY are looked at, then the gates in order, then the body.
`allowed` is the mode gate (recovery and SCRAP), `entryOk` says the command is served during an entry, `need` how many
argument bytes it requires. A repeated command is answered from the cache during an entry too (R150, R135; DESIGN CHOICE, log entry 136). -/
def State.command (s0 : State) (op need : Nat) (allowed : State → Bool) (entryOk : Bool) (body : State → Reply)
    (seq : Nat) (args : List Byte) : State :=
  if s0.online then
    let s := { s0.endStale.closeCycle with power := { s0.endStale.power with activeAt := s0.now } }
    if s.linkBusy then s.respond seq op { status := 0x02, next := s }
    else if (s.link.cache.map (fun c => c.seq)) = some seq then
      if (s.link.cache.map (fun c => c.op)) = some op then
        s.handOver (cachedFrame ((s.link.cache.map (fun c => c.frame)).getD []))
      else s.respond seq op { status := 0x13, next := s }
    else if s.life.transition.isSome && op ≠ 0x01 && op ≠ 0x10 then s.respond seq op { status := 0x02, next := s }
    else if !allowed s then s.respond seq op { status := 0x14, next := s }
    else if s.entering && !entryOk then s.respond seq op { status := 0x17, next := s }
    else if args.length < need then s.respond seq op { status := 0x12, next := s }
    else s.respond seq op (body s)
  else s0

end Sys2Proof.Machine
end

