-- ==== Sys2Proof/Machine/Evq.lean ====
section
/-!
DEFINITION. Event queues and outputs: insertion, due tests, actions, pulses and probes, pairs with interlock and dead-time,
chopping, safe-state holds and speculation (08_angle_events.md, R248 to R285).
-/

namespace Sys2Proof.Machine

/-- +1 for a forward ANGLE queue and every TIME queue, -1 for a reverse ANGLE queue. -/
def State.dirq (s : State) (n : Fin 32) : Int :=
  if s.outTime n then 1 else if s.bit (evoBase n) 5 then -1 else 1

/-- NOW of a queue: the wheel's angle word, or ANG_TNOW. -/
def State.queueNow (s : State) (n : Fin 32) : Word :=
  if s.outTime n then s.tnow s.now else s.angleOf (s.outWheel n)

/-- The key `dirq x (int32)(TARGET - NOW)` (R254). -/
def State.keyOf (s : State) (n : Fin 32) (target : Word) : Int := s.dirq n * (target - s.queueNow n).toInt

/-- Fields of a descriptor (Table Event.1). -/
def EventDesc.count (d : EventDesc) : Nat := fieldOf d.rep 31 24
def EventDesc.step (d : EventDesc) : Nat := fieldOf d.rep 23 0
def EventDesc.out (d : EventDesc) : Nat := fieldOf d.ctl 12 8
def EventDesc.ldrop (d : EventDesc) : Bool := bitOf d.ctl 6
def EventDesc.comp (d : EventDesc) : Nat := fieldOf d.ctl 5 4
def EventDesc.specAllow (d : EventDesc) : Bool := bitOf d.ctl 3
def EventDesc.action (d : EventDesc) : Nat := fieldOf d.ctl 2 0

/-! ### Insertion (R251 to R254, R271) -/

/-- The descriptor is refused as BADDESC (R252). -/
def State.badDesc (s : State) (n : Fin 32) (d : EventDesc) : Bool :=
  let time := s.outTime n
  let a := d.action
  let width := fieldOf d.arg 15 0
  decide (fieldOf d.ctl 31 13 ≠ 0) || bitOf d.ctl 7 ||
  (decide (a = 3) && decide (d.arg = 0)) ||
  (decide (a = 4) && (time || decide (fieldOf d.arg 31 22 ≠ 0) || decide (fieldOf d.arg 21 0 = 0))) ||
  (decide (a = 5) && (decide (width = 0) || decide (s.fld (evoBase n) 31 16 < width))) ||
  (decide (a = 6) && decide (fieldOf d.arg 31 4 ≠ 0)) ||
  (decide (a = 7) && decide (fieldOf d.arg 31 8 ≠ 0)) ||
  (decide (d.count ≠ 0) && decide (d.step = 0)) ||
  (!time && decide (4194304 < d.step))

/-- The output is the odd one of a COMPLEMENTARY pair (Table Event.2). -/
def State.isSlave (s : State) (n : Fin 32) : Bool :=
  decide (n.val % 2 = 1) && decide (s.fld (pairAddr (n.val / 2)) 1 0 = 2)

/-- The output is in a hold that refuses insertions (Table Event.6). -/
def State.holdRefuses (s : State) (n : Fin 32) : Bool :=
  let o := s.outs[n]
  s.cfg.hold.testBit n || o.holdVio || (o.holdLock && decide (s.fld (evoBase n) 11 10 = 1))

/-- The result code of an insertion (Table Event.2). -/
def State.insertCode (s : State) (n : Fin 32) (d : EventDesc) : Nat :=
  let k := s.keyOf n d.target
  if !s.bit (evoBase n) 15 || !s.boot.loaded then 6
  else if s.isSlave n then 5
  else if s.badDesc n d then 4
  else if s.holdRefuses n then 2
  else if k ≤ -(2 ^ 30 : Int) ∨ (2 ^ 30 : Int) ≤ k then 3
  else if 16 ≤ (s.outs[n]).queue.length then 1
  else 0

/-- A descriptor in its place by key, after those of equal key (R254). -/
def insertByKey (key : Word → Int) (d : EventDesc) : List EventDesc → List EventDesc
  | [] => [d]
  | e :: t => if key d.target < key e.target then d :: e :: t else e :: insertByKey key d t

/-- EVENT_INSERT: the master's four words as one insertion; the result goes into its EVQ_INSSTAT (R251 to R253). -/
def State.insertEvent (s : State) (m : Master) (d : EventDesc) : State :=
  let n : Fin 32 := Fin.ofNat 32 d.out
  let code := s.insertCode n d
  let s1 := s.setCopy m { s.copyOf m with insStat := BitVec.ofNat 32 (code + atBit d.out 8) }
  if code = 0 then
    s1.setOut n { s1.outs[n] with queue := insertByKey (s.keyOf n) d (s1.outs[n]).queue }
  else if code = 1 then (s1.orReg (evoBase n + 0x14) 2).satInc (evoBase n + 0x18) 31 24
  else (s1.orReg (evoBase n + 0x14) 16).satInc (evoBase n + 0x18) 7 0

/-! ### From commanded level to pin (R263 to R265, R277, R285) -/

/-- The output is in a safe-state hold. -/
def State.held (s : State) (n : Fin 32) : Bool :=
  let o := s.outs[n]
  s.cfg.hold.testBit n || o.holdLock || o.holdTest || o.holdVio

/-- The logical level in the previous cycle: two commands of one cycle share one step 4 (R28, R263). -/
def OutSt.before (o : OutSt) (now : Nat) : Bool := if o.lvlAt = now then o.prev else o.lvl

/-- The consecutive cycles, up to the previous one, in which an output's logical level was 0, saturating at 1023 (R263). -/
def OutSt.offFor (o : OutSt) (now : Nat) : Nat := if o.before now then 0 else Nat.min 1023 (now - o.offSince)

/-- An output with a new logical level. -/
def OutSt.withLevel (o : OutSt) (now : Nat) (l : Bool) : OutSt :=
  { o with lvl := l, prev := o.before now, lvlAt := now, offSince := if o.before now && !l then now else o.offSince }

/-- Step 4 of R28 for pair `k` (R263): the two logical levels and whether the interlock acted. -/
def State.pairLevels (s : State) (k : Fin 16) : Bool × Bool × Bool :=
  let e := evenOf k
  let o := oddOf k
  let oe := s.outs[e]
  let oo := s.outs[o]
  let mode := s.fld (pairAddr k) 1 0
  let dt := s.fld (pairAddr k) 25 16
  let le0 := (if s.held e then s.bit (evoBase e) 7 else oe.cmd) && !oe.chop
  let lo0 := (if mode = 2 then (if s.held e || s.held o then s.bit (evoBase o) 7 else !le0)
              else if s.held o then s.bit (evoBase o) 7 else oo.cmd) && !oo.chop
  if mode = 0 then (le0, lo0, false)
  else
    let both := le0 && lo0
    let le1 := le0 && !(both && !oe.before s.now)
    let lo1 := lo0 && !(both && (oe.before s.now || !oo.before s.now))
    (le1 && !decide (oo.offFor s.now < dt), lo1 && !decide (oe.offFor s.now < dt), both)

/-- The output is driven: of its own, or as the odd one of a COMPLEMENTARY pair with the even one (R285). -/
def State.isDriven (s : State) (n : Fin 32) : Bool :=
  (s.outs[n]).driven || (decide (n.val % 2 = 1) && decide (s.fld (pairAddr (n.val / 2)) 1 0 = 2) && (s.outs[evenOf (pairOf n)]).driven)

/-- The pair settled: new logical levels, and ILK on an interlock (R263). -/
def State.settlePair (s : State) (k : Fin 16) : State :=
  let r := s.pairLevels k
  let e := evenOf k
  let o := oddOf k
  let s1 := s.setOut e ((s.outs[e]).withLevel s.now r.1)
  let s2 := s1.setOut o ((s1.outs[o]).withLevel s.now r.2.1)
  if r.2.2 then s2.orReg 0x40860 (2 ^ k.val) else s2

/-- Every pair settled, where the configuration has changed under it or has just come into force (R263). -/
def State.settleAll (s : State) : State := (List.finRange 16).foldl (fun s (k : Fin 16) => s.settlePair k) s

/-- A write of EVQ_ILK: the interlock acts in every cycle in which both outputs would be active, in that of the write too, so that the bit of
such a pair stays set (R8, R263). -/
def State.ilkAgain (s : State) : State :=
  (List.finRange 16).foldl (fun s (k : Fin 16) => if (s.pairLevels k).2.2 then s.orReg 0x40860 (2 ^ k.val) else s) s

/-- The pair of output `n` settled. -/
def State.settle (s : State) (n : Fin 32) : State := s.settlePair (pairOf n)

/-- An output begins a safe-state hold: its pulse end is cancelled, its commanded level is SAFE and it is driven (R264, R285). -/
def State.beginHold (s : State) (n : Fin 32) (f : OutSt → OutSt) : State :=
  let o := s.outs[n]
  (s.setOut n { f o with
    pulse := none, cmd := s.bit (evoBase n) 7, driven := o.driven || s.boot.loaded }).settle n

/-- The queue emptied; level, running pulse and pending firings stay (R276). -/
def State.flushQueue (s : State) (n : Fin 32) : State := s.setOut n { s.outs[n] with queue := [] }

/-- QUEUE_FLUSH: every queue whose bit is 1 (R276). -/
def State.flushQueues (s : State) (m : Nat) : State :=
  (List.finRange 32).foldl (fun s (n : Fin 32) => if m.testBit n.val then s.flushQueue n else s) s

/-- A probe pulse runs on the output. -/
def OutSt.probing (o : OutSt) : Bool :=
  match o.pulse with
  | some (.probe _) => true
  | _ => false

/-- Chopping starts on an output: CHOPPED, and a running probe pulse ends at once (R260, R265). -/
def State.startChop (s : State) (n : Fin 32) : State :=
  let o := s.outs[n]
  if o.chop then s
  else
    ((s.orReg (evoBase n + 0x14) 32).setOut n { o with
      chop := true, chopAt := s.now, pulse := if o.probing then none else o.pulse
      cmd := if o.probing then false else o.cmd }).settle n

/-- Chopping ends on an output. -/
def State.endChop (s : State) (n : Fin 32) : State := (s.setOut n { s.outs[n] with chop := false }).settle n

/-- The comparator of an output became active: a chop starts while CHEN is 1 (R265). -/
def State.chopEnter (s : State) (n : Fin 32) (cmp : Nat) : State :=
  let w := s.reg (evoBase n + 0xC)
  if bitOf w 4 ∧ fieldOf w 3 0 = cmp then s.startChop n else s

/-- The comparator of an output became inactive: LEVEL ends the chop, TIMED ends it once CHOPT has passed (R265). -/
def State.chopLeave (s : State) (n : Fin 32) (cmp : Nat) : State :=
  let w := s.reg (evoBase n + 0xC)
  if bitOf w 4 ∧ fieldOf w 3 0 = cmp ∧ (s.outs[n]).chop then
    if fieldOf w 6 5 = 0 then s.endChop n
    else if fieldOf w 6 5 = 2 ∧ (s.outs[n]).chopAt + fieldOf w 25 16 ≤ s.now then s.endChop n else s
  else s

/-- CHOP_TIMED_END: CHOPT has passed and the comparator is inactive (R265). -/
def State.chopTimedEnd (s : State) (n : Fin 32) : State :=
  let w := s.reg (evoBase n + 0xC)
  let o := s.outs[n]
  if o.chop ∧ fieldOf w 6 5 = 2 ∧ o.chopAt + fieldOf w 25 16 ≤ s.now ∧ s.cmpActive (fieldOf w 3 0) = false then s.endChop n else s

/-- The chop of an output under a configuration that has just come into force: none without CHEN, LEVEL follows the comparator, TIMED ends once
it may (R265). -/
def State.updateChop (s : State) (n : Fin 32) : State :=
  let w := s.reg (evoBase n + 0xC)
  let o := s.outs[n]
  let active := s.cmpActive (fieldOf w 3 0)
  if !bitOf w 4 then (if o.chop then s.endChop n else s)
  else if fieldOf w 6 5 = 0 then (if active then s.startChop n else if o.chop then s.endChop n else s)
  else s.chopTimedEnd n

/-- DEAD_TIME_END: the pair is settled again once the off count has reached DT (R263). -/
def State.deadTimeEnd (s : State) (k : Fin 16) : State := s.settlePair k

/-! ### Firing (R255 to R262, R265 to R267, R279) -/

/-- The wheel of an ANGLE queue allows due tests (R256). -/
def State.queueTested (s : State) (n : Fin 32) : Bool :=
  s.outTime n || (let w := s.wheels[s.outWheel n]
    w.sync == .locked || w.sync == .coast || (w.sync == .provisional && s.bit (evoBase n) 9))

/-- The angle test of an ANGLE event against a word (Table Event.4). -/
def State.reached (s : State) (n : Fin 32) (now target : Word) : Bool := decide (0 ≤ s.dirq n * (now - target).toInt)

/-- The output's MINSPD engages the time fallback at the direction that DIR shows (R261). -/
def State.fallbackDir (s : State) (n : Fin 32) : Bool :=
  let d := (s.wheels[s.outWheel n]).dirShown (s.wheelCfg (s.outWheel n).val).dirSrc
  d == .unknown || d == (if s.bit (evoBase n) 5 then Dir.reverse else Dir.forward)

/-- In COAST the speed falls below MINSPD between two commands: the cycle of engagement, once it has come (R206, R261). -/
def State.fallbackFrom (s : State) (n : Fin 32) : Option Nat :=
  let w := s.wheels[s.outWheel n]
  let minspd := s.fld (evoBase n + 4) 15 0
  let t := w.tLast + w.wnext * 6000000 / (minspd * 256) + 1
  if !s.outTime n && decide (minspd ≠ 0) && w.sync == .coast && !w.standstill && s.fallbackDir n && decide (t ≤ s.now) then some t else none

/-- The anchor of the time fallback, while it is engaged (R261). -/
def State.fallbackAnchor (s : State) (n : Fin 32) : Option (Nat × Word) :=
  let o := s.outs[n]
  if o.fallback then some (o.fbTime, o.fbAngle)
  else (s.fallbackFrom n).map (fun t => (t, (s.wheels[s.outWheel n]).angleWord t))

/-- The time fallback test of R262 for an angle. -/
def State.fallbackDue (s : State) (n : Fin 32) (target : Word) : Bool :=
  match s.fallbackAnchor n with
  | some (ta, aa) =>
    let minspd := s.fld (evoBase n + 4) 15 0
    let d := s.dirq n * (target - aa).toInt
    let dt := if d ≤ 0 ∨ minspd = 0 then 0 else d.toNat * 46875 / (2 * minspd)
    decide (dt ≤ Nat.min (s.now - ta) 0xFFFFFFFFFF)
  | none => false

/-- An engagement that came since the last command is taken down before the wheel or the configuration changes. -/
def State.catchFallback (s : State) (w : Fin 4) : State :=
  (List.finRange 32).foldl (fun s (n : Fin 32) =>
    if s.outWheel n = w ∧ (s.outs[n]).fallback = false then
      match s.fallbackAnchor n with
      | some (t, a) => s.setOut n { s.outs[n] with fallback := true, fbTime := t, fbAngle := a }
      | none => s
    else s) s

/-- How the head of queue `n` is due: 0 not at all, 1 by its basis, 2 speculatively, 3 by the time fallback (R256, R262,
R266, R267). -/
def State.dueKind (s : State) (n : Fin 32) : Nat :=
  match (s.outs[n]).queue with
  | [] => 0
  | d :: _ =>
    if !s.bit (evoBase n) 15 || (s.outs[n]).holdTest || !s.queueTested n then 0
    else if s.outTime n then (if s.reached n (s.tnow s.now) d.target then 1 else 0)
    else
      let w := s.outWheel n
      let edge := s.reached n (s.wheels[w]).edgeAng d.target
      if d.specAllow && decide ((s.outs[n]).pend.length < 16) then
        if s.reached n (s.angleOf w) d.target then (if edge then 1 else 2)
        else if s.fallbackDue n d.target then 3 else 0
      else if edge then 1 else 0

/-- Lateness as the event leaves the queue (R257). -/
def State.lateness (s : State) (n : Fin 32) (d : EventDesc) : Int := s.dirq n * (s.queueNow n - d.target).toInt

/-- The repeat of an event that leaves the queue (R258): a copy one step on, or DROPCNT where it falls outside the range. -/
def State.repeatEvent (s : State) (n : Fin 32) (d : EventDesc) : State :=
  if d.count = 0 then s
  else
    let t := wordOfInt ((d.target.toNat : Int) + s.dirq n * d.step)
    let c := if d.count = 255 then 255 else d.count - 1
    let d1 := { d with target := t, rep := withField d.rep 31 24 c }
    let k := s.keyOf n t
    if k ≤ -(2 ^ 30 : Int) ∨ (2 ^ 30 : Int) ≤ k then s.satInc (evoBase n + 0x18) 23 16
    else s.setOut n { s.outs[n] with queue := insertByKey (s.keyOf n) d1 (s.outs[n]).queue }

/-- A PROBE may fire, by the logical levels that step 4 of the cycle before has left: of the outputs of its PHASE no enabled one is active, and
on none of them, enabled or not, does a probe run (R28, R260). -/
def State.probeOk (s : State) (n : Fin 32) : Bool :=
  let o := s.outs[n]
  let ph := s.fld (evoBase n) 14 12
  !o.cmd && !o.before s.now && (decide (ph = 0) || (List.finRange 32).all (fun (m : Fin 32) =>
    !decide (s.fld (evoBase m) 14 12 = ph) ||
      (!(s.bit (evoBase m) 15 && (s.outs[m]).before s.now) && !(s.outs[m]).probing)))

/-- A pin action: any pulse end still pending is cancelled, a LATCH chop ends, the commanded level changes, and the output is
driven from now on (R259, R265, R285). -/
def State.pinAction (s : State) (n : Fin 32) (lvl : Bool) (p : Option PulseEnd) : State :=
  let o := s.outs[n]
  let unlatch := decide (s.fld (evoBase n + 0xC) 6 5 = 1)
  (s.setOut n { o with cmd := lvl, pulse := p, chop := o.chop && !unlatch, driven := true }).settle n

/-- The action of a fired event (Table Event.3), with the SPEC tag of R18. -/
def State.runAction (s : State) (n : Fin 32) (d : EventDesc) (spec : Bool) : State :=
  match d.action with
  | 0 => s.pinAction n true none
  | 1 => s.pinAction n false none
  | 2 => s.pinAction n (!(s.outs[n]).cmd) none
  | 3 => s.pinAction n true (some (.atTime (s.now + d.arg.toNat)))
  | 4 => s.pinAction n true (some (.atAngle (wordOfInt ((d.target.toNat : Int) + s.dirq n * fieldOf d.arg 21 0))))
  | 5 =>
    let s1 := s.setReg (evoBase n + 0x38) (s.queueNow n)
    let s2 := s1.pinAction n true (some (.probe (s.now + fieldOf d.arg 15 0)))
    s2.setOut n { s2.outs[n] with
      samples := (s2.outs[n]).samples ++ [(s.now + fieldOf d.arg 27 16, fieldOf d.arg 31 28, spec)] }
  | 6 => (s.settle n).raise (.line (Fin.ofNat 16 (fieldOf d.arg 3 0))) spec
  | _ => (s.settle n).sendSignal (Fin.ofNat 16 (fieldOf d.arg 3 0)) (Fin.ofNat 16 (fieldOf d.arg 7 4)) spec

/-- The head leaves the queue and fires: lateness, the pending record of a speculative firing, the action, the FIRE pulse and
the repeat (R249, R257 to R259, R266). -/
def State.fireEvent (s : State) (n : Fin 32) (d : EventDesc) (kind : Nat) : State :=
  let s0 := s.setReg (evoBase n + 0x3C) (wordOfInt (s.lateness n d))
  let o := s0.outs[n]
  let f : Firing :=
    { target := d.target, firedAt := s.now, action := d.action, comp := d.comp, wheel := s.outWheel n, dirq := s.dirq n
      before := o.before s.now }
  let s1 := if kind = 2 then s0.setOut n { o with pend := o.pend ++ [f] } else s0
  let s2 := s1.setOut n { s1.outs[n] with driven := true }
  let s3 := s2.runAction n d (decide (kind = 2 ∨ kind = 3))
  s3.raise (.fire n) (decide (kind = 2 ∨ kind = 3))

/-- The head of queue `n` is tested at step 3 of R28, once in a cycle (R255, R257); a late event is dropped and a PROBE that may not fire is
skipped, each with its repeat (R257, R258, R260). -/
def State.testHead (s : State) (n : Fin 32) : State :=
  match (s.outs[n]).queue with
  | [] => s
  | d :: rest =>
    let kind := s.dueKind n
    if kind = 0 ∨ (s.outs[n]).headAt = some s.now then s
    else
      let s1 := s.setOut n { s.outs[n] with queue := rest, headAt := some s.now }
      let late := s.lateness n d
      if d.ldrop ∧ (s.fld (evoBase n + 8) 23 0 : Int) < late then
        ((s1.orReg (evoBase n + 0x14) 4).satInc (evoBase n + 0x18) 23 16).repeatEvent n d
      else if d.action = 5 ∧ s1.probeOk n = false then
        ((s1.orReg (evoBase n + 0x14) 8).satInc (evoBase n + 0x18) 15 8).repeatEvent n d
      else (s1.fireEvent n d kind).repeatEvent n d

/-- A pulse end is due (R259, R260, R262). -/
def State.pulseDue (s : State) (n : Fin 32) : Bool :=
  match (s.outs[n]).pulse with
  | none => false
  | some (.atTime t) => decide (t ≤ s.now)
  | some (.probe t) => decide (t ≤ s.now)
  | some (.atAngle w) => s.reached n (s.angleOf (s.outWheel n)) w || s.fallbackDue n w

/-- PULSE_END: runs as CLEAR and is not an event (R259). -/
def State.pulseEnd (s : State) (n : Fin 32) : State :=
  if s.pulseDue n then (s.setOut n { s.outs[n] with cmd := false, pulse := none }).settle n else s

/-- EVENT_DUE: a pulse end of the output that is due runs before the head is tested (R255, R279). -/
def State.eventDue (s : State) (n : Fin 32) : State := (s.pulseEnd n).testHead n

/-- PROBE_SAMPLE: SDLY after the pulse start the trigger line pulses, even if the pulse has ended (R260). -/
def State.probeSample (s : State) (n : Fin 32) : State :=
  match (s.outs[n]).samples.find? (fun p => decide (p.1 ≤ s.now)) with
  | some (t, line, spec) =>
    (s.setOut n { s.outs[n] with samples := (s.outs[n]).samples.erase (t, line, spec) }).raise (.line (Fin.ofNat 16 line)) spec
  | none => s

/-! ### Speculation at an edge (R268 to R270) -/

/-- The compensation of a retracted firing (R270): it cancels any pulse end and running probe. While the output is held it
changes only the commanded level (R278). -/
def State.compensate (s : State) (n : Fin 32) (f : Firing) : State :=
  let o := s.outs[n]
  match f.comp with
  | 0 => s
  | 1 => (s.setOut n { o with cmd := false, pulse := none }).settle n
  | 2 => (s.setOut n { o with cmd := true, pulse := none }).settle n
  | _ => (s.setOut n { o with cmd := f.before, pulse := none }).settle n

/-- One retraction: compensation, RETRACT, RETRCNT, RETRANG and its notice (R270). -/
def State.retract (s : State) (n : Fin 32) (f : Firing) : State :=
  let s1 := (s.compensate n f).orReg (evoBase n + 0x14) 1
  let s2 := s1.putFld (evoBase n + 0x20) 15 0 (s1.fld (evoBase n + 0x20) 15 0 + 1)
  (s2.setReg (evoBase n + 0x24) f.target).noticeRetract n

/-- Several retractions of one output in one cycle, in reverse firing order (R270). -/
def State.retractAll (s : State) (n : Fin 32) (l : List Firing) : State := l.reverse.foldl (fun s f => s.retract n f) s

/-- The error of a pending firing at its bounding edge (R268): the interval runs from (`t0`, `a0`) to `t1` over `w` frets. -/
def specError (a0 : Word) (t0 t1 w : Nat) (f : Firing) : Int :=
  let dg := wrapInt 32 (f.dirq * (f.target - a0).toInt)
  let est := if t1 = t0 then 0 else w * (f.firedAt - t0) / (t1 - t0)
  (est : Int) - (dg : Int)

/-- The bounding test of every firing of an output that waits for wheel `v`, in firing order, then the retractions (R268 to R270). -/
def State.boundFirings (s : State) (n : Fin 32) (v : Fin 4) (a0 : Word) (t0 t1 w : Nat) (untested : Bool) : State :=
  let o := s.outs[n]
  let mine := o.pend.filter (fun f => decide (f.wheel = v))
  let tol : Int := s.fld (evoBase n + 4) 31 16
  let err := fun f => specError a0 t0 t1 w f
  let early := mine.filter (fun f => untested || decide (err f < -tol))
  let late := mine.filter (fun f => !untested && decide (tol < err f))
  let ok := mine.filter (fun f => !untested && decide (-tol ≤ err f) && decide (err f ≤ tol))
  let c := evoBase n + 0x1C
  let s1 := if late.isEmpty then s else s.satCount c 15 0 late.length
  let s2 := if ok.isEmpty then s1 else s1.satCount c 31 16 ok.length
  (s2.setOut n { s2.outs[n] with pend := o.pend.filter (fun f => decide (f.wheel ≠ v)) }).retractAll n early

/-- Events whose key has reached 2^30 are removed without action or repeat (R272). -/
def State.removeFar (s : State) (n : Fin 32) : State :=
  let o := s.outs[n]
  let far := o.queue.filter (fun d => decide ((2 ^ 30 : Int) ≤ s.keyOf n d.target))
  if far.isEmpty then s
  else
    let s1 := s.setOut n { o with queue := o.queue.filter (fun d => decide (s.keyOf n d.target < (2 ^ 30 : Int))) }
    let c := evoBase n + 0x18
    (s1.orReg (evoBase n + 0x14) 4).satCount c 23 16 far.length

/-! ### Lock-loss holds and the time fallback (R261, R277, R280) -/

/-- The outputs of ANGLE queues bound to a wheel, enabled or not (R280). -/
def State.outsOfWheel (s : State) (w : Fin 4) : List (Fin 32) :=
  (List.finRange 32).filter (fun (n : Fin 32) => !s.outTime n && decide (s.outWheel n = w))

/-- The firings that wait for wheel `v` are retracted without the test, on whatever output they stand (R269). -/
def State.retractWheel (s : State) (n : Fin 32) (v : Fin 4) : State :=
  let o := s.outs[n]
  (s.setOut n { o with pend := o.pend.filter (fun f => decide (f.wheel ≠ v)) }).retractAll n (o.pend.filter (fun f => decide (f.wheel = v)))

/-- The wheel has left PROVISIONAL, LOCKED and COAST: its firings are retracted, and the hold of LLPOL begins (R269, R280). -/
def State.loseLock (s : State) (n : Fin 32) : State :=
  let s2 := if s.fld (evoBase n) 11 10 = 1 then s.flushQueue n else s
  s2.beginHold n (fun o => { o with holdLock := true })

/-- The lock-loss hold ends: the wheel is LOCKED again, or PROVISIONAL with EARLYOK, or a commit has made the queue a TIME queue, which takes no
such hold (R277, Table Event.6). -/
def State.regainLock (s : State) (n : Fin 32) : State :=
  if (s.outs[n]).holdLock && (s.outTime n || (s.queueTested n && (s.wheels[s.outWheel n]).sync != .coast)) then
    (s.setOut n { s.outs[n] with holdLock := false }).settle n
  else s

/-- Time fallback is engaged (R261). -/
def State.fallbackOn (s : State) (n : Fin 32) : Bool :=
  let w := s.wheels[s.outWheel n]
  let minspd := s.fld (evoBase n + 4) 15 0
  let v := w.speedNow s.now
  !s.outTime n && decide (minspd ≠ 0) && (w.sync == .locked || w.sync == .coast) &&
    (w.standstill || (decide (v.natAbs < minspd * 256) && s.fallbackDir n))

/-- Engagement is brought up to date; the anchor is taken at engagement and at each counted edge (R261). -/
def State.updateFallback (s : State) (n : Fin 32) (edge : Bool) : State :=
  let o := s.outs[n]
  if s.fallbackOn n then
    if !o.fallback || edge then
      s.setOut n { o with fallback := true, fbTime := s.now, fbAngle := s.angleOf (s.outWheel n) }
    else s
  else s.setOut n { o with fallback := false }

/-- A commit has bound the output to another wheel: an engagement there is a new one (R261). -/
def State.freeFallback (s : State) (n : Fin 32) (moved : Bool) : State :=
  if moved then s.setOut n { s.outs[n] with fallback := false } else s

/-- Every output of a wheel after the wheel has changed: loss or return of lock, fallback, and removal of far events. -/
def State.wheelToOutputs (s : State) (w : Fin 4) (wasOk edge : Bool) : State :=
  let lost := wasOk && !(s.wheels[w]).angleOk
  let s0 := if lost then (List.finRange 32).foldl (fun s (n : Fin 32) => s.retractWheel n w) s else s
  (s0.outsOfWheel w).foldl (fun s n =>
    let s1 := if lost then s.loseLock n else s.regainLock n
    (s1.updateFallback n edge).removeFar n) s0

/-- The bounding test on every output (R268). -/
def State.boundOutputs (s : State) (w : Fin 4) (a0 : Word) (t0 t1 wd : Nat) (untested : Bool) : State :=
  (List.finRange 32).foldl (fun s (n : Fin 32) => s.boundFirings n w a0 t0 t1 wd untested) s

/-- An output forced to its reset state, undriven, with its queue empty and no pulse or sample to come. A held one keeps SAFE as its commanded
level; chops, pending firings and the time fallback go on, as after a flush (R265, R277, R278). -/
def OutSt.off (o : OutSt) (held : Bool) : OutSt :=
  { o with queue := [], pulse := none, samples := [], driven := false, cmd := held && o.cmd }

/-- Every output forced off, where RUN goes on: step 2 of an entry. The logical levels follow from the commanded ones (R52, R263). -/
def State.outputsOff (s : State) : State :=
  ((List.finRange 32).foldl (fun s (n : Fin 32) => s.setOut n ((s.outs[n]).off (s.held n))) s).settleAll

/-- Every output as a wake leaves it: only the hold of a VIO that is still low goes on (R277, R282). -/
def State.outputsWake (s : State) : State := { s with outs := Vector.replicate 32 { holdVio := !s.power.vioReady } }

/-- VIO is low: every output in its hold, its queue flushed (R73, R277). -/
def State.outputsVioLow (s : State) : State :=
  (List.finRange 32).foldl (fun s (n : Fin 32) =>
    (s.flushQueue n).beginHold n (fun o => { o with holdVio := true })) s

/-- The VIO hold ends on every output. -/
def State.outputsVioOk (s : State) : State :=
  (List.finRange 32).foldl (fun s (n : Fin 32) =>
    if (s.outs[n]).holdVio then (s.setOut n { s.outs[n] with holdVio := false }).settle n else s) s

/-- The angle self-test begins: every output in its hold (R178, R277). -/
def State.outputsTest (s : State) : State :=
  (List.finRange 32).foldl (fun s (n : Fin 32) =>
    s.beginHold n (fun o => { o with holdTest := true })) s

/-- The angle self-test ends: its hold ends; the wheels are SILENT, so each ANGLE output takes its lock-loss hold (R277). -/
def State.outputsTestEnd (s : State) : State :=
  (List.finRange 32).foldl (fun s (n : Fin 32) =>
    if (s.outs[n]).holdTest then
      let s1 := (s.setOut n { s.outs[n] with holdTest := false }).settle n
      if s1.outTime n then s1 else s1.loseLock n
    else s) s

/-- The EVQ words that fail the checks (R284), with R348 for a chopped output. `dom` is PWR_DOMEN. -/
def evqFails (c : Nat → Word) : List Nat :=
  (List.finRange 32).flatMap (fun (n : Fin 32) =>
    let b := evoBase n
    let cfg := c b
    let chop := c (b + 0xC)
    let cmp := fieldOf chop 3 0
    let cbase := if cmp < 8 then 0x60400 + 0x10 * cmp else 0x70400 + 0x10 * (cmp - 8)
    failIf (decide (2 ≤ fieldOf cfg 11 10) ||
      (bitOf cfg 15 && !bitOf cfg 4 && decide ((wheelCfgOf c (fieldOf cfg 1 0)).mode = 0))) b ++
    failIf (decide (fieldOf chop 6 5 = 3) ||
      (bitOf cfg 15 && bitOf chop 4 &&
        (!bitOf (c cbase) 31 || !bitOf (c 0x11000C) (if cmp < 8 then 4 else 5)))) (b + 0xC)) ++
  (List.finRange 16).flatMap (fun (k : Fin 16) =>
    let m := fieldOf (c (pairAddr k)) 1 0
    failIf (decide (m = 3) || (decide (m ≠ 0) && bitOf (c (evoBase (evenOf k))) 7 && bitOf (c (evoBase (oddOf k))) 7))
      (pairAddr k))

/-- R274: a change of EN, WHEEL, BASIS or QDIR while the queue is not empty, unless the same commit flushes it (`flushed`). -/
def State.queueBoundFails (s : State) (c : Nat → Word) (flushed : Nat) : List Nat :=
  (List.finRange 32).flatMap (fun (n : Fin 32) =>
    let m : Nat := 0x8033
    failIf (!(s.outs[n]).queue.isEmpty && !flushed.testBit n &&
      decide ((c (evoBase n)).toNat &&& m ≠ (s.reg (evoBase n)).toNat &&& m)) (evoBase n))

/-- EVQ_EVOn_FILL (Table Event.7). -/
def State.fillWord (s : State) (n : Fin 32) : Word :=
  let o := s.outs[n]
  let en := s.bit (evoBase n) 15
  BitVec.ofNat 32 (o.queue.length + atBit (b2n (s.cfg.hold.testBit n)) 8 + atBit (b2n o.holdLock) 9 +
    atBit (b2n (o.holdTest || o.holdVio)) 10 + atBit (b2n (s.fallbackAnchor n).isSome) 11 + atBit (b2n o.pulse.isSome) 12 +
    atBit (b2n o.cmd) 13 + atBit (b2n o.lvl) 14 + atBit (b2n (s.isDriven n && en && s.bit (evoBase n) 8 && !o.holdVio)) 15 +
    atBit o.pend.length 16)

/-- The four words of the head descriptor; 0 when the queue is empty (Table Event.7). -/
def State.headWord (s : State) (n : Fin 32) (i : Nat) : Word :=
  match (s.outs[n]).queue with
  | [] => 0
  | d :: _ => [d.target, d.arg, d.rep, d.ctl].getD i 0

end Sys2Proof.Machine
end

