-- ==== Sys2Proof/Machine/Converters.lean ====
section
/-!
DEFINITION. The converters: slices and their rotation, calibration passes, self-tests, retirement, the correction of a result and the window
comparators (10_converters.md, R320 to R352). Sequences are in Sequences.lean.
-/

namespace Sys2Proof.Machine

/-- The present CLK_CONV cycle: CLK_CONV is CLK_ANG / 4. -/
def State.convCycle (s : State) : Nat := s.now / 4

/-- The base of a converter's block (R352). -/
def adcBase (x : Conv) : Nat := 0x60000 + 0x10000 * x.index

/-- The other converter. -/
def Conv.other : Conv → Conv
  | .adcA => .adcB
  | .adcB => .adcA

/-- The state with a slice changed. -/
def AdcSt.setSlice (a : AdcSt) (k : Fin 9) (v : SliceSt) : AdcSt := { a with slices := a.slices.set k v }

/-- A slice is good: not retired (R333, R340). -/
def AdcSt.good (a : AdcSt) (k : Fin 9) : Bool := !(a.slices[k]).retired

/-- The slices after `k` in rising order, counting round, `k` itself last (R320, R333). -/
def ringFrom (k : Fin 9) : List (Fin 9) := (List.finRange 9).map (fun i => k + i + 1)

/-- How many slices are good. -/
def AdcSt.goodCount (a : AdcSt) : Nat := ((List.finRange 9).filter a.good).length

/-- DEAD: no good slice (R340). -/
def AdcSt.dead (a : AdcSt) : Bool := a.goodCount == 0

/-- ACQ of a channel word (Table Conv.11). -/
def chanAcq (w : Word) : Nat := fieldOf w 13 8

/-- The cycle from which a conversion's slice can start another (R321). -/
def ConvJob.freeAt (j : ConvJob) : Nat := j.start + chanAcq j.chan + 13

/-- The cycle in which a conversion's result is in its register (R321, R373). -/
def ConvJob.doneAt (j : ConvJob) : Nat := j.start + chanAcq j.chan + 16

/-- A slice is free in a cycle. -/
def AdcSt.freeIn (a : AdcSt) (k : Fin 9) (c : Nat) : Bool := a.jobs.all (fun j => j.slice != k || decide (j.freeAt ≤ c))

/-- The slice a request starting in cycle `c` is given: the first free active one after the slice given last; the outgoing slice takes
none (R320, R333, R345). -/
def AdcSt.allocate (a : AdcSt) (c : Nat) : Option (Fin 9) :=
  (ringFrom a.last).find? (fun k => a.active.testBit k.val && decide (a.outgoing ≠ some k) && a.freeIn k c)

/-! ### Correction and result arithmetic (R326 to R329) -/

/-- A corrected result. -/
structure ConvResult where
  /-- The clamped value q. -/
  q : Int
  ovr : Bool
  data : Nat
deriving DecidableEq, Repr

/-- The slice's own correction, in 1/16 LSB (R326). -/
def sliceCorrect (raw16 sofs sgain : Int) : Int := divTrunc ((raw16 - sofs) * (1048576 + sgain)) 1048576

/-- R326 as it stands: raw code, slice coefficients, the channel's configuration and correction words, and slice_overrange. -/
def correct (raw : Nat) (sofs sgain : Int) (chan trim : Word) (excess : Bool) : ConvResult :=
  let diff := bitOf chan 0
  let sgn := diff && bitOf chan 1
  let ofs := signedOf 16 (fieldOf trim 15 0)
  let gain := signedOf 16 (fieldOf trim 31 16)
  let y0 := sliceCorrect (raw * 16) sofs sgain
  let y := if diff then y0 - 524288 else y0
  let z := divTrunc ((y - ofs * 16) * (65536 + gain)) 65536
  let bits := 16 - 2 * fieldOf chan 5 4
  let sh := 4 + (16 - bits)
  let q0 := Int.fdiv (z + (2 ^ (sh - 1) : Nat)) (2 ^ sh : Nat)
  let q1 := if diff && !sgn then q0 + (2 ^ (bits - 1) : Nat) else q0
  let lo : Int := if sgn then -((2 ^ (bits - 1) : Nat) : Int) else 0
  let hi : Int := if sgn then ((2 ^ (bits - 1) : Nat) : Int) - 1 else ((2 ^ bits : Nat) : Int) - 1
  let q := clampInt lo hi q1
  { q := q, ovr := decide (q1 < lo) || decide (hi < q1) || excess
    data := if bitOf chan 2 then wrapInt 16 (q * (2 ^ (16 - bits) : Nat)) else wrapInt 16 q }

/-! ### Calibration (R331, R332) -/

/-- The coefficients of a pass from the three means, in 1/16 LSB (R331). -/
def passGain (mL mH : Int) : Int := divTrunc (917504 * 1048576) (mH - mL) - 1048576
def passOffset (mL gain : Int) : Int := mL - divTrunc (65536 * 1048576) (1048576 + gain)
def passMidErr (mM ofs gain : Int) : Int := divTrunc (divTrunc ((mM - ofs) * (1048576 + gain)) 1048576 - 524288) 16

/-- The mean of 64 raw codes in 1/16 LSB (R331). -/
def meanOf (l : List (BitVec 16)) : Int := divTrunc ((l.map BitVec.toNat).sum : Nat) 4

/-- The sum of the squared deviations of raw codes from their mean, in 1/16 LSB. -/
def squareDev (l : List (BitVec 16)) : Nat :=
  (l.map (fun c => let d := ((c.toNat * 16 : Nat) : Int) - meanOf l; (d * d).toNat)).sum

/-- The noise exceeds a limit in 1/16 LSB rms (Table Conv.4). -/
def noiseAbove (l : List (BitVec 16)) (lim : Nat) : Bool := decide (lim * lim * 64 < squareDev l)

/-- The noise in 1/16 LSB rms, truncated, saturating at 255 (Table Conv.10, log entry 22). -/
def noiseOf (l : List (BitVec 16)) : Nat := isqrtUpTo 255 (squareDev l / 64)

/-- |v| exceeds a limit. -/
def absAbove (v : Int) (lim : Nat) : Bool := decide (lim < v.natAbs)

/-- The first test of Table Conv.4 that fails a pass; 0 for none. -/
def passCause (sl : SliceSt) (calLim : Word) (ofs gain mid : Int) (codes : List (BitVec 16)) : Nat :=
  if absAbove ofs 8192 then 1
  else if absAbove gain 20972 then 2
  else if absAbove mid (fieldOf calLim 7 0) then 3
  else if noiseAbove codes (fieldOf calLim 15 8) then 4
  else if sl.fromPass && (absAbove (ofs - sl.sofs) 256 || absAbove (gain - sl.sgain) 2097) then 5
  else 0

/-! ### Retirement and the spare's role (R333, R340 to R343) -/

/-- The next good slice in rotation order after `k`. -/
def AdcSt.nextGood (a : AdcSt) (k : Fin 9) : Option (Fin 9) := (ringFrom k).find? (fun i => a.good i && decide (i ≠ k))

/-- A mask with one bit set or cleared. -/
def setBit (m i : Nat) : Nat := m ||| 2 ^ i
def clearBit (m i : Nat) : Nat := if m.testBit i then m - 2 ^ i else m

/-- A slice is retired: the next good one is to be withdrawn as the spare, if two or more are left (R340, R343). -/
def AdcSt.retire (a : AdcSt) (k : Fin 9) : AdcSt :=
  let a1 : AdcSt := { a.setSlice k { a.slices[k] with retired := true } with
    active := clearBit a.active k.val, spare := if a.spare = some k then none else a.spare, passRun := false, passOk := false }
  { a1 with outgoing := if 2 ≤ a1.goodCount ∧ a1.spare = none then a1.nextGood k else none }

/-- SLICE_RETIRED: NTC_CONV with cause 1, then the health cause (R343, R584). -/
def State.retireSlice (s : State) (x : Conv) (k : Fin 9) : State :=
  let s1 := s.setAdc x ((s.adc x).retire k)
  (s1.notice 0x16 (bytesLE 1 x.index ++ bytesLE 1 1 ++ bytesLE 1 k.val)).healthSlice x.index k.val

/-- A failed pass of a slice with its cause; the third in a row retires it (R332, R343). -/
def State.failPass (s : State) (x : Conv) (k : Fin 9) (cause : Nat) : State :=
  let a := s.adc x
  let sl := a.slices[k]
  let n := Nat.min 3 (sl.fails + 1)
  let s1 := s.setAdc x { a.setSlice k { sl with fails := n, cause := cause } with passOk := false }
  if n = 3 then s1.retireSlice x k else s1

/-- The spare is busy with its self-test, or on ADCB with a bias check (Table Conv.3). -/
def State.spareBusy (s : State) (x : Conv) : Bool :=
  (match (if x = .adcA then s.cfg.testAdcA else s.cfg.testAdcB) with
   | .running _ _ => true
   | _ => false) || (x == .adcB && s.bias.running.isSome)

/-- CALIBRATION_PASS_DONE: the 64 raw codes of each ladder point (R331, R332, R343); fewer codes say that a ladder conversion timed out
(R341, Table Conv.4). -/
def State.passDone (s : State) (x : Conv) (low mid high : List (BitVec 16)) : State :=
  let a := s.adc x
  match a.spare with
  | some k =>
    if s.convOn x && a.passRun && !s.spareBusy x then
      if low.length < 64 ∨ mid.length < 64 ∨ high.length < 64 then
        (s.setAdc x { a with passRun := false }).failPass x k 6
      else
      let sl := a.slices[k]
      let gain := passGain (meanOf low) (meanOf high)
      let ofs := passOffset (meanOf low) gain
      let cause := passCause sl (s.reg (adcBase x + 8)) ofs gain (passMidErr (meanOf mid) ofs gain) mid
      let sl1 := { sl with noise := BitVec.ofNat 8 (noiseOf mid) }
      let s1 := s.setAdc x { a.setSlice k sl1 with passRun := false }
      if cause = 0 then
        s1.setAdc x { a.setSlice k { sl1 with sofs := ofs, sgain := gain, fails := 0, passes := sl.passes + 1, fromPass := true } with
          passRun := false, passOk := true }
      else s1.failPass x k cause
    else s
  | none => s

/-- The time between two boundaries: ROTPER x 100 us (R333). -/
def State.rotPeriod (s : State) (x : Conv) : Nat := 38400 * s.fld (adcBase x) 7 0

/-- The first boundary of a count that begins now (R333, R347). -/
def State.nextBoundary (s : State) (x : Conv) : Nat := s.now + s.rotPeriod x

/-- ROTATION_BOUNDARY, in the boundary's CLK_CONV cycle: a passed spare begins its handover, a failed one its next pass; a pass that has not
ended goes on (R333, R349). -/
def State.rotationBoundary (s : State) (x : Conv) : State :=
  let a := s.adc x
  if s.convOn x && decide (a.rotAt / 4 ≤ s.convCycle) then
    let a1 : AdcSt := { a with rotAt := a.rotAt + s.rotPeriod x }
    match a.spare with
    | some k =>
      if a.passOk && a.outgoing.isNone then s.setAdc x { a1 with outgoing := a.nextGood k }
      else if !a.passOk && !a.passRun then s.setAdc x { a1 with passRun := true }
      else s.setAdc x a1
    | none => s.setAdc x a1
  else s

/-- A converter's self-test. -/
def State.adcTest (s : State) (x : Conv) : SelfTest := if x = .adcA then s.cfg.testAdcA else s.cfg.testAdcB

/-- The state with a converter's self-test set. -/
def State.setAdcTest (s : State) (x : Conv) (t : SelfTest) : State :=
  match x with
  | .adcA => { s with cfg := { s.cfg with testAdcA := t } }
  | .adcB => { s with cfg := { s.cfg with testAdcB := t } }

/-- The self-test or the bias check that the spare was at begins again on the slice that takes its role (log entry 118). -/
def State.restartDuties (s : State) (x : Conv) : State :=
  let s1 := match s.adcTest x with
    | .running _ d => s.setAdcTest x (.running s.now d)
    | _ => s
  match x, s1.bias.running with
  | .adcB, some (i, _) => { s1 with bias := { s1.bias with running := some (i, s1.now) } }
  | _, _ => s1

/-- SPARE_HANDOVER: the outgoing slice is free; the spare joins the active slices, the outgoing one becomes the spare and starts its
pass at once (R333, R343, R345). A converter that is off keeps its position (R350, R351). -/
def State.spareHandover (s : State) (x : Conv) : State :=
  let a := s.adc x
  match a.outgoing with
  | some k =>
    if s.convOn x && a.freeIn k s.convCycle then
      let act := match a.spare with
        | some p => setBit (clearBit a.active k.val) p.val
        | none => clearBit a.active k.val
      (s.setAdc x { a with active := act, spare := some k, outgoing := none, passRun := true, passOk := false }).restartDuties x
    else s
  | none => s

/-- What the rotation has to do in the present CLK_CONV cycle, which comes before any request of the cycle (R345). -/
def State.rotate (s : State) (x : Conv) : State := (s.rotationBoundary x).spareHandover x

/-- A slice whose SAR decision timed out leaves the active ones: the spare joins at once, the failing slice becomes the spare with a
failed pass and starts a new one; where its handover has come first in this cycle, it is the spare already (R341, R346). With no spare it
stays as it is and only the failed pass counts (log entry 23). -/
def State.timeoutSwap (s : State) (x : Conv) (k : Fin 9) : State :=
  let a := s.adc x
  match a.spare with
  | some p =>
    if p = k then s.failPass x k 6
    else
    let a1 : AdcSt := { a with
      active := setBit (clearBit a.active k.val) p.val, spare := some k, outgoing := none, passRun := true, passOk := false }
    ((s.setAdc x a1).restartDuties x).failPass x k 6
  | none =>
    if a.outgoing.isSome then
      (s.setAdc x { a with active := clearBit a.active k.val, spare := some k, outgoing := none, passRun := true, passOk := false }).failPass x k 6
    else s.failPass x k 6

/-- The rotation resumes when the domain and PD6 are ready: at its position, a pass in progress and a handover or withdrawal begun among it;
after its domain was off with a new boundary count, otherwise at the next boundary of the old one (R333, R350). -/
def State.resumeRotation (s : State) (x : Conv) : State :=
  let a := s.adc x
  if a.stopped then s.setAdc x { a with stopped := false, rotAt := s.nextBoundary x }
  else if s.now < a.rotAt ∨ s.rotPeriod x = 0 then s
  else s.setAdc x { a with rotAt := a.rotAt + s.rotPeriod x * ((s.now - a.rotAt) / s.rotPeriod x + 1) }

/-- A self-test that waited for the domain and PD6 starts (R323). -/
def State.startAdcTest (s : State) (x : Conv) : State :=
  match s.adcTest x with
  | .queued d => s.setAdcTest x (.running s.now d)
  | _ => s

/-- The converter takes the retirement mask at the load commit; the spare is the first good slice at or after S8, and its pass starts
(R343, R351). -/
def State.loadConverter (s : State) (x : Conv) : State :=
  let a := s.adc x
  let mask := if x = .adcA then s.health.retA else s.health.retB
  let a1 : AdcSt := { a with slices := Vector.ofFn (fun (k : Fin 9) =>
    if mask.testBit k.val then { a.slices[k] with retired := true } else a.slices[k]) }
  let spare := if 2 ≤ a1.goodCount then ((8 : Fin 9) :: ringFrom 8).find? a1.good else none
  let act := maskWhere 9 (fun i => a1.good (Fin.ofNat 9 i) && decide (spare ≠ some (Fin.ofNat 9 i)))
  let s1 := s.setAdc x { a1 with
    active := act, spare := spare, outgoing := none, passRun := spare.isSome, passOk := false, rotAt := s.nextBoundary x, stopped := false }
  if mask = 0 then s1 else { s1 with health := { s1.health with slice := true } }

/-! ### Self-test and reference (R334 to R336, R344) -/

/-- REFERENCE_FAULT: REFERR sets, with the ADVISE cause REFERENCE (R344). -/
def State.referenceFault (s : State) (x : Conv) : State := (s.orReg (adcBase x + 4) 0x400000).advise 5 x.index

/-- A supply reading through the 1:4 divider lies within `lo` to `hi` millivolts (Tables Conv.1 and Elec.2). -/
def supplyIn (code : BitVec 16) (lo hi : Nat) : Bool :=
  decide (lo * 65536 ≤ code.toNat * 10000) && decide (code.toNat * 10000 ≤ hi * 65536)

/-- A corrected ladder mean lies more than 16 LSB from its ideal code (Table Conv.5). -/
def ladderOff (sl : SliceSt) (codes : List (BitVec 16)) (ideal : Int) : Bool :=
  absAbove (sliceCorrect (meanOf codes) sl.sofs sl.sgain - 16 * ideal) 256

/-- The detail word of a converter self-test (Table Conv.5). The reference check is skipped while the other converter is not on (log entry 119). -/
def State.adcDetail (s : State) (x : Conv) (t : AdcTest) : Nat :=
  match (s.adc x).spare with
  | none => 16
  | some k =>
    let sl := (s.adc x).slices[k]
    let slowBus := s.fld 0xA0008 7 4
    let supplies := supplyIn t.vdd5 4500 5500 && supplyIn t.vio 3000 (if slowBus = 0 then 3600 else 5500) && supplyIn t.vaon 2200 5500
    let skip := !s.convOn x.other
    let refOff := !skip && decide (32768 * 5 < 1000 * ((t.refer.toNat : Int) - 32768).natAbs)
    b2n (ladderOff sl t.low 4096 || ladderOff sl t.mid 32768 || ladderOff sl t.high 61440) +
      2 * b2n (noiseAbove t.mid (s.fld (adcBase x + 8) 15 8)) + 4 * b2n (!supplies) + 8 * b2n refOff + 32 * b2n skip + atBit k.val 8

/-- The payload of NTC_SELFTEST (Table Link.5). -/
def selftestPayload (unit result detail : Nat) : List Byte := bytesLE 1 unit ++ bytesLE 1 result ++ bytesLE 4 detail

/-- ADC_SELFTEST_DONE (R323, R334 to R336). A bias check in progress comes first (R330). -/
def State.adcTestDone (s : State) (x : Conv) (t : AdcTest) : State :=
  match s.adcTest x with
  | .running _ _ =>
    if !s.convOn x || (x == .adcB && s.bias.running.isSome && s.adcB.spare.isSome) then s
    else
      let d := s.adcDetail x t
      let s1 := (s.setAdcTest x .idle).notice 0x07 (selftestPayload (1 + x.index) (if d % 32 = 0 then 0 else 1) d)
      let s2 := match (s.adc x).spare with
        | some k => if d % 4 = 0 then s1 else s1.failPass x k 7
        | none => s1
      if d.testBit 3 then (s2.referenceFault .adcA).referenceFault .adcB else s2
  | _ => s

/-! ### Comparators (R337, R338) -/

/-- The address of comparator `c`. -/
def cmpBase (c : Fin 16) : Nat := if c.val < 8 then 0x60400 + 0x10 * c.val else 0x70400 + 0x10 * (c.val - 8)

/-- The converter of a comparator. -/
def cmpConv (c : Fin 16) : Conv := if c.val < 8 then .adcA else .adcB

/-- A comparator, and the state with it changed. -/
def State.cmp (s : State) (c : Fin 16) : CmpSt :=
  if c.val < 8 then (s.adcA.cmps)[Fin.ofNat 8 c.val] else (s.adcB.cmps)[Fin.ofNat 8 c.val]
def State.setCmp (s : State) (c : Fin 16) (v : CmpSt) : State :=
  if c.val < 8 then { s with adcA := { s.adcA with cmps := s.adcA.cmps.set (Fin.ofNat 8 c.val) v } }
  else { s with adcB := { s.adcB with cmps := s.adcB.cmps.set (Fin.ofNat 8 c.val) v } }

/-- The input in microvolts lies above, or below, a threshold of `code` codes: V = code x 2.5 V / 4096 (R337). -/
def overCode (uv : Int) (code : Int) : Bool := decide (code * 2500000 < uv * 4096)
def underCode (uv : Int) (code : Int) : Bool := decide (uv * 4096 < code * 2500000)

/-- The condition becomes true (Table Conv.6). -/
def cmpRises (cfg thr : Word) (uv : Int) : Bool :=
  let hi : Int := fieldOf thr 27 16
  let lo : Int := fieldOf thr 11 0
  match fieldOf cfg 29 28 with
  | 0 => overCode uv hi
  | 1 => underCode uv lo
  | 2 => overCode uv hi || underCode uv lo
  | _ => overCode uv lo && underCode uv hi

/-- The condition becomes false (Table Conv.6). -/
def cmpFalls (cfg thr : Word) (uv : Int) : Bool :=
  let h : Int := 4 * fieldOf cfg 3 0
  let hi : Int := fieldOf thr 27 16
  let lo : Int := fieldOf thr 11 0
  match fieldOf cfg 29 28 with
  | 0 => underCode uv (hi - h)
  | 1 => overCode uv (lo + h)
  | 2 => overCode uv (lo + h) && underCode uv (hi - h)
  | _ => overCode uv (hi + h) || underCode uv (lo - h)

/-- The configuration and thresholds that decide the sample of CLK_ANG cycle `t`: the live ones, but for a sample that a commit came after
(R347). -/
def CmpSt.levelsAt (p : CmpSt) (cfg thr : Word) (t : Nat) : Word × Word :=
  p.levels.foldl (fun r l => if t ≤ l.upTo then (l.cfg, l.thr) else r) (cfg, thr)

/-- The condition sample after sample, from a given condition, the first sample in cycle `t`; between the levels it keeps its value, which a
commit leaves as it is (R337, R347). -/
def cmpTrace (levels : Nat → Word × Word) : Nat → Bool → List Int → List Bool
  | _, _, [] => []
  | t, c, v :: l =>
    let r := levels t
    let c1 := if c then !cmpFalls r.1 r.2 v else cmpRises r.1 r.2 v
    c1 :: cmpTrace levels (t + 1) c1 l

/-- The last CFILT + 1 samples, the first of which turned the condition to `dest`, all agree on it (R338). -/
def State.cmpSettles (s : State) (c : Fin 16) (dest : Bool) (samples : List Int) : Bool :=
  let cfg := s.reg (cmpBase c)
  decide (samples.length = fieldOf cfg 11 8 + 1) &&
    (cmpTrace ((s.cmp c).levelsAt cfg (s.reg (cmpBase c + 4))) (s.now + 1 - samples.length) (!dest) samples).all (fun b => b == dest)

/-- The comparator is enabled and powered (R323, R338). -/
def State.cmpOn (s : State) (c : Fin 16) : Bool := s.convOn (cmpConv c) && s.bit (cmpBase c) 31

/-- The comparator becomes active: ACTIVE, ENTER, ENTCNT, the pulse and the chop of its outputs (R265, R338). -/
def State.cmpEnter (s : State) (c : Fin 16) : State :=
  let s1 := ((s.setCmp c { s.cmp c with active := true, since := s.now }).orReg (cmpBase c + 8) 0x100).satInc (cmpBase c + 8) 31 16
  (List.finRange 32).foldl (fun s (n : Fin 32) => s.chopEnter n c.val) (s1.raise (.enter c) false)

/-- COMPARATOR_ENTER, with the last CFILT + 1 samples in microvolts (R337, R338). -/
def State.comparatorEnter (s : State) (c : Fin 16) (samples : List Int) : State :=
  if s.cmpOn c && (s.cmp c).ready && !(s.cmp c).active && s.cmpSettles c true samples then s.cmpEnter c else s

/-- COMPARATOR_LEAVE (R337, R338). -/
def State.comparatorLeave (s : State) (c : Fin 16) (samples : List Int) : State :=
  if s.cmpOn c && (s.cmp c).ready && (s.cmp c).active && s.cmpSettles c false samples then
    let s1 := (s.setCmp c { s.cmp c with active := false }).orReg (cmpBase c + 8) 0x200
    (List.finRange 32).foldl (fun s (n : Fin 32) => s.chopLeave n c.val) s1
  else s

/-- COMPARATOR_READY: CFILT + 1 samples have been taken; a first decision that is active produces ENTER (R338). -/
def State.comparatorReady (s : State) (c : Fin 16) (samples : List Int) : State :=
  if s.cmpOn c && !(s.cmp c).ready && decide (samples.length = s.fld (cmpBase c) 11 8 + 1) &&
      decide ((s.cmp c).startAt + samples.length ≤ s.now) then
    let s1 := s.setCmp c { s.cmp c with ready := true }
    if s.cmpSettles c true samples then s1.cmpEnter c else s1
  else s

/-- A comparator starts again: inactive, READY 0 (R338, R347). Outputs that it chops see it inactive. -/
def State.restartCmp (s : State) (c : Fin 16) : State :=
  let was := (s.cmp c).active
  let s1 := s.setCmp c { startAt := s.now }
  if was then (List.finRange 32).foldl (fun s (n : Fin 32) => s.chopLeave n c.val) s1 else s1

/-- Every comparator of a converter starts again. -/
def State.restartCmps (s : State) (x : Conv) : State :=
  (List.finRange 16).foldl (fun s (c : Fin 16) => if cmpConv c = x then s.restartCmp c else s) s

/-- What a commit does to the comparators: EN rising, CH or CFILT changing restarts one; other levels decide the samples from the next
CLK_ANG cycle on (R338, R347). -/
def State.commitCmp (s : State) (o c : Nat → Word) (k : Fin 16) : State :=
  let b := cmpBase k
  let m : Nat := 0x801F0F00
  let p := s.cmp k
  if (o b).toNat &&& m ≠ (c b).toNat &&& m then s.restartCmp k
  else if o b = c b ∧ o (b + 4) = c (b + 4) then s
  else s.setCmp k { p with
    levels := { upTo := s.now, cfg := o b, thr := o (b + 4) } :: p.levels.filter (fun l => decide (s.now < l.upTo + 16)) }

/-- The load commit starts every comparator of the converters that are on (R338, R351). -/
def State.loadCmps (s : State) : State := (s.restartCmps .adcA).restartCmps .adcB

/-- A converter comes on, its domain and PD6 ready: comparators start, a waiting self-test starts, the rotation resumes (R323, R338, R350). -/
def State.converterOn (s : State) (x : Conv) : State := ((s.restartCmps x).startAdcTest x).resumeRotation x

/-! ### Views and checks -/

/-- ADCx_STAT (Table Conv.9). -/
def State.adcStat (s : State) (x : Conv) : Word :=
  let a := s.adc x
  BitVec.ofNat 32 (atBit (maskWhere 9 (fun i => !a.good (Fin.ofNat 9 i))) 23 + atBit (b2n (s.bit (adcBase x + 4) 22)) 22 +
    atBit (b2n a.dead) 21 + atBit (b2n (a.goodCount == 1)) 20 + atBit a.nact 16 +
    atBit (match a.spare with
      | some k => k.val
      | none => 15) 12 + a.active)

/-- A slice's three words (Table Conv.10). -/
def State.sliceWord (s : State) (x : Conv) (k : Fin 9) (i : Nat) : Word :=
  let sl := (s.adc x).slices[k]
  if i = 0 then wordOfInt sl.sofs
  else if i = 1 then wordOfInt sl.sgain
  else BitVec.ofNat 32 (atBit sl.passes.toNat 16 + atBit sl.noise.toNat 8 + atBit sl.fails 4 + sl.cause)

/-- The engine's bits of a comparator's status word (Table Conv.12). -/
def State.cmpWord (s : State) (c : Fin 16) : Word :=
  s.reg (cmpBase c + 8) ||| BitVec.ofNat 32 (b2n (s.cmp c).active + 2 * b2n (s.cmp c).ready)

/-- A channel code is available to a converter's sequences (Table Conv.1). -/
def chanOk (x : Conv) (code : Nat) : Bool :=
  decide (code = 0) || decide (32 ≤ code ∧ code ≤ 39) ||
    (match x with
     | .adcA => decide (1 ≤ code ∧ code ≤ 15)
     | .adcB => decide (16 ≤ code ∧ code ≤ 31))

/-- DIFF is allowed on a code (R325). -/
def diffOk (x : Conv) (code : Nat) : Bool :=
  decide (code % 2 = 0) && (match x with
    | .adcA => decide (2 ≤ code ∧ code ≤ 14)
    | .adcB => decide (16 ≤ code ∧ code ≤ 30))

/-- The channel words that fail (R325, R327). -/
def chanFails (c : Nat → Word) (x : Conv) (k : Nat) : List Nat :=
  let b := adcBase x + 0x200 + 8 * k
  let w := c b
  let ofs := signedOf 16 (fieldOf (c (b + 4)) 15 0)
  failIf (decide (chanAcq w < 4) || decide (fieldOf w 5 4 = 3) || (bitOf w 1 && !bitOf w 0) || (bitOf w 0 && !diffOk x k)) b ++
  failIf (decide (ofs < -8192) || decide (8191 < ofs)) (b + 4)

/-- The comparator words that fail (R324, R337). -/
def cmpFails (c : Nat → Word) (x : Conv) (j : Nat) : List Nat :=
  let b := adcBase x + 0x400 + 0x10 * j
  let w := c b
  let thr := c (b + 4)
  let ch := fieldOf w 20 16
  let ok := match x with
    | .adcA => decide (ch ≤ 15)
    | .adcB => decide (ch = 0) || decide (16 ≤ ch)
  failIf (!ok || (decide (2 ≤ fieldOf w 29 28) && decide ((fieldOf thr 27 16 : Int) - fieldOf thr 11 0 ≤ 8 * fieldOf w 3 0))) b

/-- The converter words that fail. -/
def adcFails (c : Nat → Word) (x : Conv) : List Nat :=
  let b := adcBase x
  failIf (decide (fieldOf (c b) 7 0 = 0)) b ++ failIf (decide (fieldOf (c (b + 8)) 7 0 = 0)) (b + 8) ++
    (List.range 48).flatMap (chanFails c x) ++ (List.range 8).flatMap (cmpFails c x)

end Sys2Proof.Machine
end

