-- ==== Sys2Proof/Machine/Sequences.lean ====
section
/-!
DEFINITION. Sequences: triggers, requests, results, pre-emption and resumption, simultaneous sampling and the AIN0 cross-check
(11_conversion_sequencing.md, R353 to R382).
-/

namespace Sys2Proof.Machine

/-! ### Configuration -/

/-- The per-converter page of the ASEQ block (R382). -/
def aseqBase (x : Conv) : Nat := 0x80000 + 0x800 * x.index

/-- The converter whose tables and triggers run a sequence: ADCA for a pair (R368). -/
def State.lead (s : State) (x : Conv) (inj : Bool) : Conv := if s.followsA x inj then .adcA else x

/-- The length of a table (R374). -/
def State.seqLen (s : State) (x : Conv) (inj : Bool) : Nat :=
  if inj then s.fld (aseqBase x + 4) 10 8 + 1 else s.fld (aseqBase x) 13 8 + 1

/-- An entry word (Table Seq.1). -/
def State.entryWord (s : State) (x : Conv) (inj : Bool) (i : Nat) : Word :=
  s.reg (aseqBase x + (if inj then 0x200 else 0x100) + 4 * i)

/-- DLY and REP of an entry word. -/
def entryDly (w : Word) : Nat := fieldOf w 31 16
def entryRep (w : Word) : Nat := fieldOf w 15 8

/-- A flag of ASEQ_x_FLAGS and, where it has one, its count in ASEQ_x_CNT: 0 ROVR, 1 IOVR, 2 ROVW, 3 IOVW, 4 SLIP, 5 PREEMPT. -/
def State.seqFlag (s : State) (x : Conv) (i : Nat) : State :=
  let s1 := s.orReg (aseqBase x + 0xC) (2 ^ i)
  let cnt := aseqBase x + 0x10
  match i with
  | 0 => s1.satInc cnt 7 0
  | 1 => s1.satInc cnt 15 8
  | 4 => s1.satInc cnt 23 16
  | 5 => s1.satInc cnt 31 24
  | _ => s1

/-- The same flag for every member of a sequence. -/
def State.seqFlags (s : State) (l : List Conv) (i : Nat) : State := l.foldl (fun s x => s.seqFlag x i) s

/-! ### Requests (R358 to R360) -/

/-- The first request after a trigger accepted in cycle `c`, at the sequence's position, or at entry 0 if that lies past the table. -/
def State.firstRequest (s : State) (x : Conv) (inj : Bool) (c : Nat) : State :=
  let q := s.seq x inj
  let i := if q.pos < s.seqLen x inj then q.pos else 0
  let w := s.entryWord x inj i
  s.setSeq x inj { q with state := .run, pos := i, held := none
                          pend := some { entry := i, spec := q.spec, pendAt := c + 1 + entryDly w, base := some (c + 1) } }

/-- The start of an entry after a request that started in cycle `c`: WAIT first where the entry has it (R359, R364). -/
def State.startEntry (s : State) (x : Conv) (inj : Bool) (i c : Nat) : State :=
  let q := s.seq x inj
  let w := s.entryWord x inj i
  if !inj && bitOf w 6 then s.setSeq x inj { q with state := .wait, pos := i, pend := none, spec := false }
  else s.setSeq x inj { q with
    pos := i, pend := some { entry := i, spec := q.spec, pendAt := c + 1 + entryDly w, base := some (c + 1), waits := !inj } }

/-- A commit of the tables finds an entry that has not started: it starts under the new table, at entry 0 if its place now lies past it, with
the DLY and the WAIT it has there (Table Cfg.4). What was pending already stays so unless the new DLY ends later. -/
def State.retable (s : State) (x : Conv) (inj : Bool) : State :=
  let q := s.seq x inj
  match q.pend with
  | some r =>
    match r.base with
    | some b =>
      let i := if r.entry < s.seqLen x inj then r.entry else 0
      let w := s.entryWord x inj i
      let p := b + entryDly w
      if r.waits && bitOf w 6 then s.setSeq x inj { q with state := .wait, pos := i, pend := none, spec := false }
      else s.setSeq x inj { q with
        pos := i, pend := some { r with entry := i, pendAt := if s.convCycle < p then p else Nat.min r.pendAt s.convCycle } }
    | none => s
  | none => s

/-- A sequence goes to IDLE at entry 0; what its input still holds stays (R359 to R361). -/
def State.idleSeq (s : State) (x : Conv) (inj : Bool) : State :=
  let q := s.seq x inj
  s.setSeq x inj { trig := q.trig, passes := q.passes, stops := q.stops, reqs := q.reqs, reqAt := q.reqAt }

/-- An injected sequence runs on some member of a regular sequence led by `r`. -/
def State.injBusy (s : State) (r : Conv) : Bool :=
  (s.members r false).any (fun m => (s.seq (s.lead m true) true).state == .run)

/-- The request that follows one which started in cycle `c` (R358, R359, R367, Table Cfg.4); a regular sequence only. -/
def State.advanceReg (s : State) (x : Conv) (r : SeqReq) (c : Nat) : State :=
  let q := s.seq x false
  match q.reissue with
  | n :: rest => s.setSeq x false { q with reissue := rest, pos := n.entry, pend := some { n with pendAt := c + 1 } }
  | [] =>
    let w := r.word.getD 0
    if r.rep < entryRep w then
      s.setSeq x false { q with pend := some { r with rep := r.rep + 1, spec := q.spec, pendAt := c + 1 + entryDly w } }
    else if r.entry + 1 < s.seqLen x false then s.startEntry x false (r.entry + 1) c
    else if s.seqLen x false < r.entry + 1 then s.startEntry x false 0 c
    else
      let n := satAdd 255 q.passes 1
      let loops := s.fld (aseqBase x) 23 16
      let s1 := s.setSeq x false { q with passes := n, spec := false }
      if loops ≠ 0 ∧ loops ≤ n then s1.idleSeq x false else s1.startEntry x false 0 c

/-- A regular sequence goes on once no injected sequence of its members runs: the reissued requests, or the trigger it held
(R366, R367); `e` is the cycle in which the injected sequence's last request started. -/
def State.resumeReg (s : State) (x : Conv) (e : Nat) : State :=
  let q := s.seq x false
  if s.injBusy x then s
  else if q.state = .preempted then
    let s1 := s.setSeq x false { q with state := .run }
    match q.reissue, q.lastReq with
    | n :: rest, _ => s1.setSeq x false { q with state := .run, reissue := rest, pos := n.entry, pend := some { n with pendAt := e + 1 } }
    | [], some r => s1.advanceReg x r e
    | [], none => s1
  else match q.held with
    | some spec => (s.setSeq x false { q with spec := spec, held := none }).firstRequest x false e
    | none => s

/-- The leads of the regular sequences on some converters. -/
def State.regLeads (s : State) (l : List Conv) : List Conv := (l.map (fun m => s.lead m false)).eraseDups

/-- An injected sequence has started its last request in cycle `e`, or has been stopped: IDLE, and the regular ones go on (R360, R367). -/
def State.endInj (s : State) (x : Conv) (e : Nat) : State :=
  let m := s.members x true
  (s.regLeads m).foldl (fun s r => s.resumeReg r e) (s.idleSeq x true)

/-- The request that follows in an injected sequence (R358, R360); at entry 0 if a commit has left its position past the table (Table Cfg.4). -/
def State.advanceInj (s : State) (x : Conv) (r : SeqReq) (c : Nat) : State :=
  let q := s.seq x true
  let w := r.word.getD 0
  if r.rep < entryRep w then
    s.setSeq x true { q with pend := some { r with rep := r.rep + 1, spec := q.spec, pendAt := c + 1 + entryDly w } }
  else if r.entry + 1 < s.seqLen x true then s.startEntry x true (r.entry + 1) c
  else if s.seqLen x true < r.entry + 1 then s.startEntry x true 0 c
  else s.endInj x c

/-! ### Pre-emption (R366) -/

/-- The sample instant of a regular conversion has not passed by the start of cycle `c`. -/
def ConvJob.unsampled (j : ConvJob) (c : Nat) : Bool := !j.inj && decide (c < j.start + chanAcq j.chan)

/-- The aborted conversions of a converter leave it; no result is written. -/
def State.abortJobs (s : State) (c : Nat) (x : Conv) : State :=
  s.setAdc x { s.adc x with jobs := (s.adc x).jobs.filter (fun j => !j.unsampled c) }

/-- Pre-emption of the regular sequence led by `x` in cycle `c`. -/
def State.preempt (s : State) (c : Nat) (x : Conv) : State :=
  let q := s.seq x false
  if q.state = .run ∧ q.held = none then
    let m := s.members x false
    let own := ((s.adc x).jobs.filter (fun j => j.unsampled c))
    let far := m.flatMap (fun y => if y = x then [] else
      ((s.adc y).jobs.filter (fun j => j.unsampled c && !(own.any (fun i => i.start == j.start)))))
    let again := (own ++ far).map (fun j => j.req) ++ q.pend.toList.map (fun r => { r with base := none, waits := false })
    let s1 := m.foldl (State.abortJobs · c) s
    (s1.setSeq x false { q with
      state := .preempted, pend := none, reissue := again ++ q.reissue }).seqFlags m 5
  else s

/-! ### Triggers (R355, R356, R359, R360, R376, R380) -/

/-- A trigger accepted by an injected sequence in cycle `c`. -/
def State.acceptInj (s : State) (x : Conv) (c : Nat) (spec : Bool) : State :=
  let m := s.members x true
  let q := s.seq x true
  if q.state = .idle then
    let s1 := (s.setSeq x true { q with spec := spec, pos := 0, passes := 0, since := c }).firstRequest x true c
    (s.regLeads m).foldl (State.preempt · c) s1
  else s.seqFlags m 1

/-- The injected sequences on a regular sequence's members that were accepted in cycle `c`. -/
def State.injSince (s : State) (x : Conv) (c : Nat) : Bool :=
  (s.members x false).any (fun m => let q := s.seq (s.lead m true) true; q.state == .run && q.since == c)

/-- A trigger accepted by a regular sequence in cycle `c`: it starts a pass, satisfies a WAIT, is held, or overruns. An injected sequence
accepted in the same cycle pre-empts at once; one that runs already holds only the trigger of a WAIT (R366, R376; log entry 145). -/
def State.acceptReg (s : State) (x : Conv) (c : Nat) (spec : Bool) : State :=
  let q := s.seq x false
  match q.state with
  | .idle =>
    let s1 := s.setSeq x false { q with passes := 0, pos := 0, spec := spec }
    let s2 := s1.firstRequest x false c
    if s.injSince x c then s2.preempt c x else s2
  | .wait =>
    if q.held.isSome then s
    else if s.injSince x c then ((s.setSeq x false { q with spec := spec }).firstRequest x false c).preempt c x
    else if s.injBusy x then s.setSeq x false { q with held := some spec }
    else (s.setSeq x false { q with spec := spec }).firstRequest x false c
  | _ => s.seqFlags (s.members x false) 0

/-- The triggers whose CLK_CONV cycle has come and whose source TSRC names (R356, R377). -/
def State.dueTriggers (s : State) (x : Conv) (inj : Bool) : List TrigReq :=
  (s.seq x inj).trig.filter (fun t => decide (t.due ≤ s.convCycle) && s.takesTrigger x inj t)

/-- SEQUENCE_TRIGGER: the triggers of the earliest CLK_CONV cycle that has come are accepted as one, with SPEC if any of them carries it
(R18, R29, R356); they are discarded, uncounted, while a member's domain or PD6 is not ready (R46, R323, R379, R380). -/
def State.sequenceTrigger (s : State) (x : Conv) (inj : Bool) : State :=
  match s.dueTriggers x inj with
  | [] => s
  | t :: l =>
    let spec := t.spec || l.any (fun u => u.due == t.due && u.spec)
    let q := s.seq x inj
    let s1 := s.setSeq x inj { q with trig := q.trig.filter (fun u => decide (t.due < u.due)) }
    if s.followsA x inj || !((s.members x inj).all s.convOn) then s1
    else if inj then s1.acceptInj x t.due spec else s1.acceptReg x t.due spec

/-- SOFTWARE_TRIGGER: TRIG bits, accepted at the second CLK_CONV edge (R355, R356); ADCB's bit is ignored in a pair (R368). Where a member's
domain or PD6 is not ready the bit is discarded (R379, R380). -/
def State.softwareTrigger (s : State) (m : Nat) : State :=
  let one := fun (s : State) (i : Nat) (x : Conv) (inj : Bool) =>
    if m.testBit i && !s.followsA x inj && (s.members x inj).all s.convOn then
      let q := s.seq x inj
      s.setSeq x inj { q with trig := addTrigger { due := s.convCycle + 2, src := 0, spec := false } q.trig }
    else s
  one (one (one (one s 0 .adcA false) 1 .adcA true) 2 .adcB false) 3 .adcB true

/-- A sequence stops in cycle `c` (R361); the STOP of either half stops a pair (log entry 24). -/
def State.stopSeq (s : State) (x : Conv) (inj : Bool) (c : Nat) : State :=
  let l := s.lead x inj
  if (s.seq l inj).state = .idle then s
  else if inj then s.endInj l c else s.idleSeq l false

/-- SEQUENCE_STOP: STOP bits 11:8, here as bits 3:0, accepted at the second CLK_CONV edge (R356, R361). -/
def State.stopSeqs (s : State) (m : Nat) : State :=
  let one := fun (s : State) (i : Nat) (x : Conv) (inj : Bool) =>
    if m.testBit i then
      let q := s.seq x inj
      s.setSeq x inj { q with stops := q.stops ++ [s.convCycle + 2] }
    else s
  one (one (one (one s 0 .adcA false) 1 .adcA true) 2 .adcB false) 3 .adcB true

/-- The sequence whose due trigger comes first, among some, of those due before the present CLK_CONV cycle. -/
def State.nextTrigger (s : State) : List (Conv × Bool) → Option (Conv × Bool × Nat)
  | [] => none
  | (x, inj) :: t =>
    let d := ((s.dueTriggers x inj).head?.map TrigReq.due).filter (fun c => decide (c < s.convCycle))
    match d, s.nextTrigger t with
    | some c, some (y, j, e) => if e < c then some (y, j, e) else some (x, inj, c)
    | some c, none => some (x, inj, c)
    | none, r => r

/-- The four sequences. -/
def allSeqs : List (Conv × Bool) := [(.adcA, false), (.adcA, true), (.adcB, false), (.adcB, true)]

/-- A commit finds the triggers of earlier cycles accepted as they stood in them, or not taken: the configuration it brings counts for those
of its own cycle on (R377, R379, R380). -/
def State.earlierTriggers (s : State) : State :=
  let n := (allSeqs.map (fun p => (s.seq p.1 p.2).trig.length)).sum
  let s1 := (List.range n).foldl (fun s _ => match s.nextTrigger allSeqs with
    | some (x, inj, _) => s.sequenceTrigger x inj
    | none => s) s
  allSeqs.foldl (fun s p =>
    let q := s.seq p.1 p.2
    s.setSeq p.1 p.2 { q with trig := q.trig.filter (fun t => decide (s.convCycle ≤ t.due)) }) s1

/-- The triggers that wait at the sequences with a member that is not ready are discarded (R379, R380). -/
def State.dropTriggers (s : State) : State :=
  allSeqs.foldl (fun s p =>
    if (s.members p.1 p.2).all s.convOn then s else s.setSeq p.1 p.2 { s.seq p.1 p.2 with trig := [] }) s

/-- The triggers due by cycle `c` are accepted. -/
def State.acceptBy (s : State) (x : Conv) (inj : Bool) (c : Nat) : State :=
  (List.range (s.seq x inj).trig.length).foldl (fun s _ =>
    if (s.dueTriggers x inj).any (fun t => decide (t.due ≤ c)) then s.sequenceTrigger x inj else s) s

/-- The STOPs of a sequence whose CLK_CONV cycle has come act in it, after the triggers accepted by then (R361, log entry 120). -/
def State.dueStops (s : State) (x : Conv) (inj : Bool) : State :=
  let q := s.seq x inj
  let s1 := s.setSeq x inj { q with stops := q.stops.filter (fun c => decide (s.convCycle < c)) }
  (q.stops.filter (fun c => decide (c ≤ s.convCycle))).foldl (fun s c => (s.acceptBy (s.lead x inj) inj c).stopSeq x inj c) s1

/-! ### Conversions (R320 to R322, R358, R368, R375) -/

/-- A request starts on a member converter in cycle `c`; a DEAD one starts nothing (R340, R375). -/
def State.startOn (s : State) (c : Nat) (inj : Bool) (r : SeqReq) (x : Conv) (w : Word) (xchk : Bool) : State :=
  let a := s.adc x
  match a.allocate c with
  | some k =>
    let ch := fieldOf w 5 0
    let b := adcBase x + 0x200 + 8 * ch
    let sl := a.slices[k]
    s.setAdc x { a with
      last := k
      jobs := a.jobs ++ [{ slice := k, inj := inj, req := r, word := w, start := c, chan := s.reg b, trim := s.reg (b + 4)
                           sofs := sl.sofs, sgain := sl.sgain, xchk := xchk }] }
  | none => s

/-- The pending request of a sequence starts in the present cycle, if a free active slice exists in every member
that has a good one; SLIP if it is late (R320, R323, R358, R368, R370, R375). -/
def State.startPending (s : State) (x : Conv) (inj : Bool) : State :=
  let q := s.seq x inj
  match q.pend with
  | some r =>
    let m := s.members x inj
    let live := m.filter (fun y => !(s.adc y).dead)
    let c := if live.isEmpty then r.pendAt else s.convCycle
    if s.followsA x inj || decide (q.state ≠ .run) || decide (s.convCycle < r.pendAt) || !(m.all s.convOn) ||
        !(live.all (fun y => ((s.adc y).allocate c).isSome)) then s
    else
      let i := if r.word.isNone && decide (s.seqLen x inj ≤ r.entry) then 0 else r.entry
      let w := r.word.getD (s.entryWord x inj i)
      let wb := r.wordB.getD (s.entryWord .adcB inj i)
      let r1 := { r with entry := i, word := some w, wordB := some wb, base := none, waits := false }
      let pair := decide (m.length = 2)
      let xchk := pair && decide (live.length = 2) && s.bit 0x81008 31 && decide (fieldOf w 5 0 = 0) && decide (fieldOf wb 5 0 = 0)
      let s1 := if r.pendAt < c then s.seqFlags m 4 else s
      let s2 := live.foldl (fun s y =>
        let wy := if y = x then w else (w &&& 0xFFFFFF40) ||| (wb &&& 0x000000BF)
        s.startOn c inj r1 y wy xchk) s1
      let s3 := s2.setSeq x inj { s2.seq x inj with pend := none, pos := i, lastReq := some r1 }
      if inj then s3.advanceInj x r1 c else s3.advanceReg x r1 c
  | none => s

/-- CONVERSION_START: what the rotation does in this cycle comes first (R345), then a trigger whose cycle has come is accepted; then the
pending request starts. -/
def State.conversionStart (s : State) (x : Conv) (inj : Bool) : State :=
  (((s.members x inj).foldl State.rotate s).sequenceTrigger x inj).startPending x inj

/-! ### Results (R362 to R365, R370, R371) -/

/-- The result register of an entry (Table Seq.5). -/
def resultAddr (x : Conv) (inj : Bool) (i : Nat) : Nat := aseqBase x + (if inj then 0x500 else 0x400) + 4 * i

/-- The DMA request line of a sequence (R365). -/
def requestLine (x : Conv) (inj : Bool) : Nat := 2 * x.index + b2n inj

/-- A request joins those that wait for its line: results written in one cycle stand in the order in which their conversions were issued
(R365). -/
def addLineReq (r : LineReq) : List LineReq → List LineReq
  | [] => [r]
  | h :: t => if h.wrote = r.wrote ∧ r.start < h.start then r :: h :: t else h :: addLineReq r t

/-- A line delivers what waits for it, one request per CLK_CONV cycle up to the present one (R365). -/
def State.runLine (s : State) (x : Conv) (inj : Bool) : State :=
  let q := s.seq x inj
  let n := Nat.min q.reqs.length (s.convCycle + 1 - q.reqAt)
  if n = 0 then s
  else
    let s1 := s.setSeq x inj { q with reqs := q.reqs.drop n, reqAt := q.reqAt + n }
    (q.reqs.take n).foldl (fun s r => s.dmaRequest (requestLine x inj) r.entry r.spec) s1

/-- A result's request is raised on its sequence's line, which delivers it in this cycle if it has delivered none (R365). -/
def State.lineRequest (s : State) (x : Conv) (j : ConvJob) : State :=
  let q := s.seq x j.inj
  let r : LineReq := { wrote := s.convCycle, start := j.start, entry := j.req.entry, spec := j.req.spec }
  (s.setSeq x j.inj { q with
    reqs := addLineReq r q.reqs, reqAt := if q.reqs.isEmpty then Nat.max q.reqAt s.convCycle else q.reqAt }).runLine x j.inj

/-- A result is written: SAMPLE, SLICE, XCHK, FRESH, SPEC, OVR and DATA; ROVW or IOVW over an unread one; the request of DRQ. A read in the
same CLK_SYS cycle returns the earlier word (R9, R363). -/
def State.writeResult (s : State) (x : Conv) (j : ConvJob) (r : ConvResult) (xchk : Bool) : State :=
  let a := resultAddr x j.inj j.req.entry
  let old := s.reg a
  let w := atBit ((fieldOf old 31 24 + 1) % 256) 24 + atBit j.slice.val 20 + atBit (b2n xchk) 19 + atBit 1 18 +
    atBit (b2n j.req.spec) 17 + atBit (b2n r.ovr) 16 + r.data % 65536
  let s1 := (s.noteSet a 0x40000).setReg a (BitVec.ofNat 32 w)
  let s2 := if bitOf old 18 then s1.seqFlag x (if j.inj then 3 else 2) else s1
  if bitOf j.word 7 then s2.lineRequest x j else s2

/-- A conversion leaves its converter. -/
def State.removeJob (s : State) (x : Conv) (j : ConvJob) : State :=
  s.setAdc x { s.adc x with jobs := (s.adc x).jobs.erase j }

/-- The result of a conversion from its raw code (R326). -/
def ConvJob.result (j : ConvJob) (raw : Nat) (excess : Bool) : ConvResult := correct raw j.sofs j.sgain j.chan j.trim excess

/-- The other half of a cross-check. -/
def State.partnerJob (s : State) (x : Conv) (j : ConvJob) : Option ConvJob :=
  if j.xchk then (s.adc x.other).jobs.find? (fun i => i.xchk && i.start == j.start && i.inj == j.inj) else none

/-- CROSS_CHECK: q_A against q_B, before the results are written (R370, R371). The Bool says that the check failed. -/
def State.crossCheck (s : State) (ja jb : ConvJob) (ra rb : ConvResult) : Bool × State :=
  let d := ra.q - rb.q
  let fail := (ra.ovr != rb.ovr) || decide (s.fld 0x81008 15 0 < d.natAbs)
  let s1 := (s.setReg 0x81014 (wordOfInt d)).satInc 0x81010 15 0
  if fail then
    let s2 := s1.satInc 0x81010 31 16
    let s3 := if s2.bit 0x8100C 0 then s2
      else (s2.orReg 0x8100C 1).notice 0x16 ([0, 2] ++ bytesLE 1 (ja.slice.val + 16 * jb.slice.val))
    (true, s3.healthXchk)
  else (false, s1)

/-- A conversion's result is written, with that of its partner in a cross-check in the same cycle. -/
def State.finishJob (s : State) (x : Conv) (j : ConvJob) (r : ConvResult) (other : ConvJob → ConvResult) : State :=
  match s.partnerJob x j with
  | some p =>
    let rp := other p
    let s1 := (s.removeJob x j).removeJob x.other p
    match x with
    | .adcA =>
      let k := s1.crossCheck j p r rp
      (k.2.writeResult .adcA j r k.1).writeResult .adcB p rp k.1
    | .adcB =>
      let k := s1.crossCheck p j rp r
      (k.2.writeResult .adcA p rp k.1).writeResult .adcB j r k.1
  | none => (s.removeJob x j).writeResult x j r false

/-- CONVERSION_DONE: the conversion that a slice started first has its result; `raw` is the slice's code, and the partner's codes count
for a cross-check (R321, R362, R370). -/
def State.conversionDone (s : State) (x : Conv) (k : Fin 9) (raw : BitVec 16) (excess : Bool) (rawP : BitVec 16) (overP : Bool) : State :=
  match (s.adc x).jobs.find? (fun j => j.slice == k) with
  | some j =>
    if j.doneAt ≤ s.convCycle then
      s.finishJob x j (j.result raw.toNat excess) (fun p => p.result rawP.toNat overP)
    else s
  | none => s

/-- SLICE_TIMEOUT: DATA 0 with OVR, and the slice leaves the active ones (R341, R346). -/
def State.sliceTimeout (s : State) (x : Conv) (k : Fin 9) (rawP : BitVec 16) (overP : Bool) : State :=
  match (s.adc x).jobs.find? (fun j => j.slice == k) with
  | some j =>
    if j.freeAt ≤ s.convCycle then
      (s.finishJob x j { q := 0, ovr := true, data := 0 } (fun p => p.result rawP.toNat overP)).timeoutSwap x k
    else s
  | none => s

/-! ### Power, commits, checks and views -/

/-- Every result register of a converter reads 0 (R379, R381). -/
def State.clearResults (s : State) (x : Conv) : State :=
  let lo := aseqBase x + 0x400
  { s with regs := s.regs.filter (fun p => !(decide (lo ≤ p.1) && decide (p.1 < lo + 0x200))) }

/-- A commit switches PD4 or PD5 off: sequences to IDLE, a pair with its partner, results and the conversions in progress lost; the
rotation stops where it is (R48, R350, R379). -/
def State.converterOff (s : State) (x : Conv) : State :=
  let s1 := (s.stopSeq x true s.convCycle).stopSeq x false s.convCycle
  let s2 := (s1.setAdc x { s1.adc x with jobs := [], stopped := true }).clearResults x
  s2.restartCmps x

/-- What the sequencers do as time passes: the STOPs whose cycle has come, and what waits for the DMA request lines (R361, R365). -/
def State.runSequencers (s : State) : State :=
  let one := fun (s : State) (x : Conv) (inj : Bool) => (s.dueStops x inj).runLine x inj
  one (one (one (one s .adcA false) .adcA true) .adcB false) .adcB true

/-- Everything of the ASEQ block's engines after a reset or a wake (R381); the registers are cleared by the caller. -/
def State.clearSequences (s : State) : State :=
  { s with regA := {}, injA := {}, regB := {}, injB := {}, adcA := { s.adcA with jobs := [] }, adcB := { s.adcB with jobs := [] } }

/-- The trigger source is one of Table Seq.2 (R355). -/
def tsrcOk (n : Nat) : Bool := decide (n = 0) || decide (0x10 ≤ n ∧ n ≤ 0x5F)

/-- The length of a table in a register contents, ADCA's for a pair. -/
def lenOf (c : Nat → Word) (x : Conv) (inj : Bool) : Nat :=
  let y := if bitOf (c 0x81004) (if inj then 1 else 0) then Conv.adcA else x
  if inj then fieldOf (c (aseqBase y + 4)) 10 8 + 1 else fieldOf (c (aseqBase y)) 13 8 + 1

/-- The entry words of one table that fail (R324, R354). -/
def entryFails (c : Nat → Word) (x : Conv) (inj : Bool) : List Nat :=
  (List.range (lenOf c x inj)).flatMap (fun i =>
    let a := aseqBase x + (if inj then 0x200 else 0x100) + 4 * i
    failIf (!chanOk x (fieldOf (c a) 5 0) || (inj && bitOf (c a) 6)) a)

/-- ACQ of the channel that entry `i` names. -/
def entryAcq (c : Nat → Word) (x : Conv) (inj : Bool) (i : Nat) : Nat :=
  chanAcq (c (adcBase x + 0x200 + 8 * fieldOf (c (aseqBase x + (if inj then 0x200 else 0x100) + 4 * i)) 5 0))

/-- A pair's entries differ in ACQ (R369). -/
def pairBad (c : Nat → Word) (inj : Bool) : Bool :=
  bitOf (c 0x81004) (if inj then 1 else 0) &&
    (List.range (lenOf c .adcA inj)).any (fun i => entryAcq c .adcA inj i != entryAcq c .adcB inj i)

/-- The ASEQ words that fail (R354, R355, R369, R372). -/
def aseqFails (c : Nat → Word) : List Nat :=
  [Conv.adcA, Conv.adcB].flatMap (fun x =>
    failIf (!tsrcOk (fieldOf (c (aseqBase x)) 6 0)) (aseqBase x) ++ failIf (!tsrcOk (fieldOf (c (aseqBase x + 4)) 6 0)) (aseqBase x + 4) ++
      entryFails c x false ++ entryFails c x true) ++
  failIf (pairBad c false || pairBad c true) 0x81004 ++
  failIf (bitOf (c 0x81008) 31 && decide (fieldOf (c 0x60200) 5 4 ≠ fieldOf (c 0x70200) 5 4)) 0x81008

/-- A change of SIMUL or ISIMUL while a sequence it pairs is not IDLE (R369). -/
def State.pairChangeFails (s : State) (c : Nat → Word) : List Nat :=
  let busy := fun inj => (s.seq .adcA inj).state != .idle || (s.seq .adcB inj).state != .idle
  let d := fun i => bitOf (s.reg 0x81004) i != bitOf (c 0x81004) i
  failIf ((d 0 && busy false) || (d 1 && busy true)) 0x81004

/-- Codes of Table Seq.3. -/
def SeqState.code : SeqState → Nat
  | .idle => 0
  | .run => 1
  | .wait => 2
  | .preempted => 3

/-- ASEQ_x_STAT (Table Seq.5); a paired sequence of ADCB shows what the pair does. -/
def State.aseqStat (s : State) (x : Conv) : Word :=
  let r := s.seq (s.lead x false) false
  let i := s.seq (s.lead x true) true
  BitVec.ofNat 32 (atBit i.pos 28 + atBit i.state.code 24 + atBit r.passes 16 + atBit r.pos 8 + r.state.code)

end Sys2Proof.Machine
end

