-- ==== Sys2Proof/Machine/Angle.lean ====
section
/-!
DEFINITION. Tooth edges and what follows from them in the other blocks: counters and notices of the trackers, phase samples, standstill,
coast, dead wheels, bias checks, snapshots and the angle self-test (06_wheel_tracking.md, 07_angle_interpolation_phase.md, R177 to R179).
-/

namespace Sys2Proof.Machine

/-! ### Phase channels (R233 to R242) -/

/-- The page of phase channel `k` (R247). -/
def phaseBase (k : Fin 2) : Nat := 0x30940 + 0x40 * k.val

/-- The channel is enabled, and its wheels A and B. -/
def State.phaseEn (s : State) (k : Fin 2) : Bool := s.bit (phaseBase k) 0
def State.phaseA (s : State) (k : Fin 2) : Fin 4 := Fin.ofNat 4 (s.fld (phaseBase k) 5 4)
def State.phaseB (s : State) (k : Fin 2) : Fin 4 := Fin.ofNat 4 (s.fld (phaseBase k) 7 6)

/-- The state with a channel changed. -/
def State.setPhase (s : State) (k : Fin 2) (p : PhaseSt) : State := { s with phases := s.phases.set k p }

/-- `n` discards are counted in ANG_PHk_STAT.DISCARD. -/
def State.phaseDiscard (s : State) (k : Fin 2) (n : Nat) : State :=
  let a := phaseBase k + 0x1C
  s.satCount a 31 16 n

/-- The signed phase of a pair of reported positions (R236). -/
def phaseOf (thetaB thetaA mul fold : Nat) : Int :=
  let d := wrapInt 22 ((thetaB : Int) - (mul : Int) * thetaA)
  let x := d * fold % revFrets
  divTrunc (signedOf 22 x) fold

/-- TORQUE of a phase (R237). -/
def torqueOf (phase ofs scale : Int) : Int :=
  clampInt (-(2 ^ 31 : Int)) (2 ^ 31 - 1) (Int.fdiv ((phase - ofs * 256) * scale) (2 ^ 24))

/-- A sample joins the block; a complete block is published (R237, R238). -/
def State.phaseSample (s : State) (k : Fin 2) (tB thetaB thetaA : Nat) : State :=
  let b := phaseBase k
  let p := s.phases[k]
  let lg := s.fld b 10 8
  let v := phaseOf thetaB thetaA (s.fld b 23 16) (s.fld (b + 4) 9 0)
  let sum := p.sum + v
  if p.count + 1 < 2 ^ lg then s.setPhase k { p with sum := sum, count := p.count + 1 }
  else
    let phase := Int.fdiv (sum * 256) (2 ^ lg : Nat)
    let s1 := s.setPhase k { p with sum := 0, count := 0, valid := true }
    let s2 := (s1.setReg (b + 0x10) (wordOfInt v)).setReg (b + 0x14) (wordOfInt phase)
    (s2.setReg (b + 0x18) (wordOfInt (torqueOf phase (s.reg (b + 8)).toInt (s.reg (b + 0xC)).toInt))).setReg (b + 0x20) (s.tnow tB)

/-- The samples that wait on an interval of A are discarded. -/
def State.phaseDropWaiting (s : State) (k : Fin 2) : State :=
  let p := s.phases[k]
  (s.setPhase k { p with waiting := [] }).phaseDiscard k p.waiting.length

/-- VALID, the partial block and the waiting samples go; the published values stay (R238, R241, R244). -/
def State.phaseReset (s : State) (k : Fin 2) : State :=
  let s1 := s.phaseDropWaiting k
  s1.setPhase k {}

/-- A wheel has left LOCKED without an edge (R238). -/
def State.phaseLost (s : State) (w : Fin 4) : State :=
  (List.finRange 2).foldl (fun s (k : Fin 2) =>
    if s.phaseEn k && (s.phaseA k == w || s.phaseB k == w) then s.phaseReset k else s) s

/-- Both channels discard what is not complete (R244). -/
def State.phaseResetAll (s : State) : State := (List.finRange 2).foldl (fun s (k : Fin 2) => s.phaseReset k) s

/-- What an edge of A is to a channel. -/
def phaseEdgeOfA (old new : WheelSt) (rep : EdgeReport) : PhaseEdgeA :=
  { lin0 := old.lin, t0 := old.tLast, lin1 := new.lin, t1 := new.tLast
    drop := rep.reversal || decide (new.valid = 0) || decide (new.sync ≠ .locked), lost := decide (old.sync = .locked ∧ new.sync ≠ .locked) }

/-- An edge of A: in BRACKET the waiting samples are resolved over the interval that it ends (R235, R238). -/
def State.phaseOnA (s : State) (k : Fin 2) (e : PhaseEdgeA) : State :=
  let p := s.phases[k]
  if e.lost then s.phaseReset k
  else if e.drop then s.phaseDropWaiting k
  else
    p.waiting.foldl (fun s q =>
      let off := divTrunc ((e.lin1 - e.lin0) * Int.ofNat (q.t - e.t0)) (Int.ofNat (e.t1 - e.t0))
      s.phaseSample k q.t q.theta (wrapInt 22 (e.lin0 + off))) (s.setPhase k { p with waiting := [] })

/-- A counted edge of B, which stands as it has left its tracker (R234, R235, R238). -/
def State.phaseOnB (s0 : State) (k : Fin 2) (e : PhaseEdgeB) : State :=
  let s := if e.lost then s0.phaseReset k else s0
  let a := s.wheels[s.phaseA k]
  let b := s.wheels[s.phaseB k]
  let p := s.phases[k]
  let theta := wrapInt 22 b.lin
  if a.sync = .locked ∧ b.sync = .locked ∧ a.standstill = false ∧ b.standstill = false ∧ e.reversal = false ∧ 1 ≤ a.valid then
    if s.bit (phaseBase k) 1 then
      if p.waiting.length < 4 then s.setPhase k { p with waiting := p.waiting ++ [{ t := b.tLast, theta := theta }] }
      else s.phaseDiscard k 1
    else if a.active = .hold ∨ a.wnext ≤ a.offset b.tLast + 1 then s.phaseDiscard k 1
    else s.phaseSample k b.tLast theta (wrapInt 22 (a.linNow b.tLast))
  else s.phaseDiscard k 1

/-- A channel's sums, waiting samples and published words. -/
def State.phaseSave (s : State) (k : Fin 2) : PhaseCycle :=
  let p := s.phases[k]
  { at_ := s.now, sum := p.sum, count := p.count, waiting := p.waiting, valid := p.valid
    words := [0x10, 0x14, 0x18, 0x1C, 0x20].map (fun o => s.reg (phaseBase k + o)), note := s.noteOf (phaseBase k + 0x1C) }

/-- The channel as it stood before this cycle. -/
def State.phaseRestore (s : State) (k : Fin 2) (u : PhaseCycle) : State :=
  let s1 := s.setPhase k { sum := u.sum, count := u.count, waiting := u.waiting, valid := u.valid }
  (List.range 5).foldl (fun s i => s.setReg (phaseBase k + 0x10 + 4 * i) (u.words.getD i 0)) (s1.putNote (phaseBase k + 0x1C) u.note)

/-- The edges of a cycle at a channel: that of A, then that of B (R242). -/
def State.phaseRun (s : State) (k : Fin 2) (u : PhaseCycle) : State :=
  let s1 := s.phaseRestore k u
  let s2 := match u.edgeA with
    | some e => s1.phaseOnA k e
    | none => s1
  let s3 := match u.edgeB with
    | some e => s2.phaseOnB k e
    | none => s2
  s3.setPhase k { s3.phases[k] with cycle := some u }

/-- A counted edge of a wheel at both channels, as A or as B, with the other wheel's edge of the same cycle (R234, R242). -/
def State.phaseEdge (s : State) (w : Fin 4) (old new : WheelSt) (rep : EdgeReport) : State :=
  (List.finRange 2).foldl (fun s (k : Fin 2) =>
    let u := ((s.phases[k]).cycle.filter (fun u => u.at_ == s.now)).getD (s.phaseSave k)
    if !s.phaseEn k then s
    else if s.phaseA k = w then s.phaseRun k { u with edgeA := some (phaseEdgeOfA old new rep) }
    else if s.phaseB k = w then
      s.phaseRun k { u with edgeB := some { reversal := rep.reversal, lost := decide (old.sync = .locked ∧ new.sync ≠ .locked) } }
    else s) s

/-- ANG_PHk_STAT (Table Angle.5). -/
def State.phaseStat (s : State) (k : Fin 2) : Word :=
  let settling := fun (w : Fin 4) => decide (0 < (s.wheels[w]).settleLeft)
  (s.reg (phaseBase k + 0x1C) &&& 0xFFFF0000) |||
    BitVec.ofNat 32 (atBit (b2n (settling (s.phaseA k) || settling (s.phaseB k))) 1 + b2n (s.phases[k]).valid)

/-! ### What a change of a tracker does elsewhere (R196, R280) -/

/-- An armed WHEEL_ZERO whose wheel has just changed: a pass of 0 up to this cycle, made while LOCKED or by the edge that locks, is its point. The
turn from which it watches is the one before the edge that locks (R166, R182). -/
def State.watchZero (s : State) (w : Fin 4) (old : WheelSt) : State :=
  if s.cfg.state = .armed ∧ s.cfg.point = .wheelZero w then
    let new := s.wheels[w]
    let turn := new.revCnt s.now
    let ref := if old.sync = .locked then s.cfg.zeroRef else if old.angleOk then old.revCnt s.now else turn
    { s with cfg := { s.cfg with
        zeroRef := turn
        pointSeen := s.cfg.pointSeen || (decide (old.sync = .locked ∨ new.sync = .locked) && decide (turn ≠ ref)) } }
  else s

/-- A move between sync states: NTC_WHEEL, or a count for LOCKED to COAST, and the LOST counter (R196). -/
def State.wheelMoved (s : State) (w : Fin 4) (old : Sync) : State :=
  let new := (s.wheels[w]).sync
  if old = new then s
  else
    let a := wheelBase w.val + 0x54
    let s1 := if new = .coast then s.satInc a 15 8 else if new = .lost then s.satInc a 31 16 else s
    if (old = .locked ∧ new = .coast) ∨ (old = .coast ∧ new = .locked) then s1
    else s1.notice 0x11 (bytesLE 1 w.val ++ bytesLE 1 new.code ++ bytesLE 1 old.code)

/-- What a change of a tracker at step 1 of R28 brings the outputs at step 3: the wheel, whether its angle was good before, whether a counted
edge made it, and the interval that the edge ends, from an angle and a time to a time, its width and whether its firings are retracted
untested (R268, R269, R280). -/
structure WheelTail where
  wheel : Fin 4
  wasOk : Bool
  counted : Bool := false
  bound : Option (Word × Nat × Nat × Nat × Bool) := none

/-- Step 3 of R28 after a change of a tracker: the bounding tests, loss or return of lock, fallback, and the edge's pulse. -/
def State.wheelTail (s : State) (tail : Option WheelTail) : State :=
  match tail with
  | none => s
  | some t =>
    let s1 := match t.bound with
      | some (a0, t0, t1, wd, untested) => s.boundOutputs t.wheel a0 t0 t1 wd untested
      | none => s
    let s2 := s1.wheelToOutputs t.wheel t.wasOk t.counted
    if t.counted then s2.raise (.edge t.wheel) false else s2

/-- A tracker takes a new state without an edge: step 1 of R28, with what is left for step 3. -/
def State.moveWheel (s : State) (w : Fin 4) (v : WheelSt) : Option WheelTail × State :=
  let old := s.wheels[w]
  let s1 := (((s.catchFallback w).setWheel w v).watchZero w old).wheelMoved w old.sync
  (some { wheel := w, wasOk := old.angleOk }, if old.sync = .locked ∧ v.sync ≠ .locked then s1.phaseLost w else s1)

/-- A tracker takes a new state without an edge: moves, outputs and idleness follow. -/
def State.changeWheel (s : State) (w : Fin 4) (v : WheelSt) : State :=
  let r := s.moveWheel w v
  r.2.wheelTail r.1

/-- The counters and FAULT bits that an edge sets (R195, R196, R207, R239). -/
def State.wheelCounts (s : State) (w : Fin 4) (r : EdgeReport) : State :=
  let b := wheelBase w.val
  let s1 := if r.noise then s.satInc (b + 0x50) 15 0 else s
  let s2 := if r.rate then (s1.satInc (b + 0x50) 31 16).orReg (b + 0x58) 2 else s1
  let s3 := if r.missed then s2.satInc (b + 0x54) 7 0 else s2
  let s4 := if r.noMatch then s3.orReg (b + 0x58) 4 else s3
  if r.clamped then s4.satInc (b + 0x3C) 31 16 else s4

/-- A counted or rejected edge of a tracker: step 1 of R28, with what is left for step 3. -/
def State.trackEdge (s : State) (w : Fin 4) (t : Nat) (qd : Dir) : Option WheelTail × State :=
  let c := s.wheelCfg w.val
  let old := s.wheels[w]
  let r := old.edgeStep c s.now t qd
  let new := r.1
  let s1 := (((s.catchFallback w).setWheel w new).watchZero w old).wheelCounts w r.2
  if r.2.counted then
    let s2 := if old.atRest then { s1 with power := { s1.power with activeAt := s1.now } } else s1
    let untested := r.2.reversal || r.2.missed || r.2.lostLock || old.standstill
    (some { wheel := w, wasOk := old.angleOk, counted := true
            bound := if new.angleOk then some (old.edgeAng, old.tLast, new.tLast, (new.lin - old.lin).natAbs, untested) else none },
      (s2.wheelMoved w old.sync).phaseEdge w old new r.2)
  else (some { wheel := w, wasOk := old.angleOk }, s1)

/-! ### The angle self-test (R177 to R179) -/

/-- Every tracker starts SILENT; each input keeps its known state, and the angle word its last value (R178, R223). -/
def State.wheelsSilent (s : State) : State :=
  (List.finRange 4).foldl (fun s (w : Fin 4) => s.changeWheel w { (s.wheels[w]).toSilent s.now with dir := .unknown }) s

/-- Every wheel has been SILENT or at standstill for the past 500 ms (Table Cfg.6). -/
def State.restedHalfSecond (s : State) : Bool := s.wheels.toList.all (fun w => w.atRest && decide (w.restSince + msAng 500 ≤ s.now))

/-- ANGLE_SELFTEST_START: a queued test begins once the wheels have rested (R177, R178, R244). -/
def State.angleTestStart (s : State) : State :=
  match s.cfg.testAngle with
  | .queued deadline =>
    if s.running && s.restedHalfSecond && decide (s.now < deadline) then
      (({ s with cfg := { s.cfg with testAngle := .running s.now deadline } }).phaseResetAll).outputsTest
    else s
  | _ => s

/-- The test stops: the trackers restart SILENT and the outputs leave its hold (R178, R277). -/
def State.angleTestStop (s : State) (t : SelfTest) : State :=
  (({ s with cfg := { s.cfg with testAngle := t } }).wheelsSilent).outputsTestEnd

/-- ANGLE_SELFTEST_END: NTC_SELFTEST with the unit's result and detail, which the outside supplies (R178, log entry 25). -/
def State.angleTestEnd (s : State) (pass : Bool) (detail : Word) : State :=
  match s.cfg.testAngle with
  | .running _ _ => (s.angleTestStop .idle).notice 0x07 (selftestPayload 0 (if pass then 0 else 1) detail.toNat)
  | _ => s

/-- A tooth edge during the test abandons it; it returns to the queue with its deadline (R179). -/
def State.angleTestAbandon (s : State) : State :=
  match s.cfg.testAngle with
  | .running _ deadline => s.angleTestStop (.queued deadline)
  | _ => s

/-- SELFTEST_DEFERRED_TIMEOUT: the deadline passes with the test not run or abandoned (R179). -/
def State.selftestDeferred (s : State) : State :=
  match s.cfg.testAngle with
  | .queued deadline =>
    if deadline ≤ s.now then
      ({ s with cfg := { s.cfg with testAngle := .idle } }).notice 0x07 (selftestPayload 0 2 0)
    else s
  | _ => s

/-- The angle self-test runs. -/
def State.angleTesting (s : State) : Bool :=
  match s.cfg.testAngle with
  | .running _ _ => true
  | _ => false

/-! ### Tooth inputs (R86 to R92, R189 to R192) -/

/-- The number of a tooth input: W0A 0 up to W3B 7. -/
def toothInput (w : Fin 4) (onB : Bool) : Nat := 2 * w.val + b2n onB

/-- The input is used: its tracker is not OFF, and B is fitted. -/
def State.toothUsed (s : State) (w : Fin 4) (onB : Bool) : Bool :=
  let c := s.wheelCfg w.val
  decide (c.mode ≠ 0) && (!onB || c.bFit)

/-- A bias check in progress on this input is abandoned; the input is checked again in the next round (R214; DESIGN CHOICE, log entry 144). -/
def State.abandonBias (s : State) (i : Nat) : State :=
  if s.bias.running.any (fun p => p.1 == i) then { s with bias := { s.bias with running := none } } else s

/-- The input takes a level, with the time of its transition. -/
def State.setTooth (s : State) (w : Fin 4) (onB : Bool) (l : InLevel) (t : Nat) : State :=
  let v := s.wheels[w]
  s.setWheel w (if onB then { v with lvlB := l, lvlBWas := v.lvlB, tranB := t } else { v with lvlA := l, tranA := t })

/-- B's level in the cycle before a transition of A at time `t` (R201). -/
def WheelSt.lvlBAt (w : WheelSt) (t : Nat) : InLevel := if w.tranB = t then w.lvlBWas else w.lvlB

/-- QUAD: every transition of A gives the direction that DIR shows, counted or not (R201). -/
def State.showDir (s : State) (w : Fin 4) (qd : Dir) : State :=
  if (s.wheelCfg w.val).dirSrc = 1 then (s.catchFallback w).setWheel w { s.wheels[w] with quadDir := qd } else s

/-- A VR crossing is armed by the positive peak in mV that came before it (R190). -/
def vrArmed (c : WheelCfg) (prev peak : Nat) : Bool :=
  decide (2 * c.vrMin < peak) && decide (c.armFrac * prev < 16 * peak)

/-- A transition of A that counts (R190, R192, R201); a VR sensor has one kind of edge, which counts in both directions
(log entry 26). -/
def State.transitionA (s : State) (w : Fin 4) (rising : Bool) (peak t : Nat) (old : WheelSt) : Option WheelTail × State :=
  let c := s.wheelCfg w.val
  if c.sense = 1 then
    if !rising && vrArmed c old.peak peak then
      let s1 := s.setWheel w { s.wheels[w] with peak := peak }
      let qd := quadDir c true (old.lvlBAt t)
      if s1.angleTesting then (none, s1.angleTestAbandon) else (s1.showDir w qd).trackEdge w t qd
    else (none, s)
  else if s.angleTesting then (none, s.angleTestAbandon)
  else
    let atEdge := if c.edge = 0 then rising else !rising
    let qd := quadDir c atEdge (old.lvlBAt t)
    let s1 := s.showDir w qd
    if atEdge != (decide (c.dirSrc = 1) && qd == .reverse) then s1.trackEdge w t qd
    else (some { wheel := w, wasOk := (s1.wheels[w]).angleOk }, s1)

/-- TOOTH_EDGE: a transition of tooth input A or B of wheel `w` that has passed the glitch filter. `peak` is the positive peak in mV
before a VR crossing. The crossing that leaves UNKNOWN or STUCK_MID counts nothing (R87, R88, R191). -/
def State.toothEdge (s : State) (w : Fin 4) (onB : Bool) (level : InLevel) (peak : Nat) : Option WheelTail × State :=
  let old := s.wheels[w]
  let was := if onB then old.lvlB else old.lvlA
  let t := s.now - (16 * (s.wheelCfg w.val).filt + 4)
  if s.running = false ∨ s.toothUsed w onB = false ∨ (level ≠ .low ∧ level ≠ .high) ∨ was = level then (none, s)
  else
    let s1 := ((s.catchFallback w).setTooth w onB level t).abandonBias (toothInput w onB)
    if was = .unknown ∨ was = .stuckMid ∨ onB = true then (some { wheel := w, wasOk := old.angleOk }, s1) else s1.transitionA w (decide (level = .high)) peak t old

/-- A tooth input that is still UNKNOWN at its timeout reads STUCK_MID (R89). -/
def State.toothStuck (s : State) (w : Fin 4) (onB : Bool) : State :=
  let v := s.wheels[w]
  let dest := s.fld 0x48 7 0
  let hall := onB || decide ((s.wheelCfg w.val).sense = 0)
  if s.running ∧ s.boot.loaded ∧ s.toothUsed w onB = true ∧ hall = true ∧ dest ≠ 0 ∧ (if onB then v.lvlB else v.lvlA) = .unknown ∧
      s.boot.toothAt + msAng (10 * dest) ≤ s.now then
    let i := toothInput w onB
    ((s.setWheel w (if onB then { v with lvlB := .stuckMid } else { v with lvlA := .stuckMid })).notice 0x05
      (bytesLE 1 i ++ bytesLE 1 1)).advise 2 i
  else s

/-! ### Standstill, coast and dead wheels (R196, R205, R217) -/

/-- STANDSTILL: STOPTO has run out since the last counted edge. -/
def State.standstill (s : State) (w : Fin 4) : Option WheelTail × State :=
  let c := s.wheelCfg w.val
  let v := s.wheels[w]
  if s.running && v.stopDue c s.now then
    let s1 := { s with power := { s.power with activeAt := if v.atRest then s.power.activeAt else s.now } }
    s1.moveWheel w (v.stopStep c s.now)
  else (none, s)

/-- COAST_ENTRY: no edge within the overdue limit in LOCKED. -/
def State.coastEntry (s : State) (w : Fin 4) : Option WheelTail × State :=
  let v := s.wheels[w]
  if s.running && v.coastDue (s.wheelCfg w.val) s.now then s.moveWheel w { v with sync := .coast, miss := 0, dirPend := false } else (none, s)

/-- WHEEL_DEAD: DEADSEC seconds neither SILENT, LOCKED nor COAST (R217). -/
def State.wheelDead (s : State) (w : Fin 4) : State :=
  let v := s.wheels[w]
  let d := (s.wheelCfg w.val).deadSec
  let bad := v.sync == .seek || v.sync == .provisional || v.sync == .lost
  if s.running && bad && decide (d ≠ 0) && decide (v.badSince + secAng d ≤ s.now) then
    (s.orReg (wheelBase w.val + 0x58) 1).healthWheel w.val
  else s

/-! ### Bias checks (R214 to R216) -/

/-- The inputs of a round, in order: A and B of every tracker that is not OFF (R214). -/
def State.biasRound (s : State) : List Nat :=
  (List.finRange 4).flatMap (fun (w : Fin 4) => if s.toothUsed w false then [toothInput w false, toothInput w true] else [])

/-- An input is VR. -/
def State.inputVr (s : State) (i : Nat) : Bool := i % 2 == 0 && decide ((s.wheelCfg (i / 2)).sense = 1)

/-- The input may be checked now (R214). -/
def State.biasReady (s : State) (i : Nat) : Bool :=
  let v := s.wheels.toList.getD (i / 2) {}
  if s.inputVr i then v.atRest
  else decide ((if i % 2 = 1 then v.tranB else v.tranA) + msAng 2 ≤ s.now)

/-- BIAS_CHECK: the next input that may be checked, in a round every BIASPER seconds (R214, R330). -/
def State.biasCheck (s : State) : State :=
  let per := s.fld 0x30800 7 0
  let busy := match s.cfg.testAdcB with
    | .running _ _ => true
    | _ => false
  if per ≠ 0 ∧ s.boot.loaded ∧ s.convOn .adcB = true ∧ s.adcB.spare.isSome = true ∧ busy = false ∧ s.bias.running.isNone = true then
    let b := if s.bias.dueAt ≤ s.now then { s.bias with queue := s.biasRound, dueAt := s.now + secAng per } else s.bias
    match b.queue.find? s.biasReady with
    | some i => { s with bias := { b with running := some (i, s.now), queue := b.queue.filter (fun j => j != i) } }
    | none => { s with bias := b }
  else s

/-- Table Wheel.5: 3 SHORT, 2 OPEN, 1 LEAK or 0 good; voltages in microvolts. -/
def biasClass (r lim : Word) (dv idle rail : Int) : Nat :=
  let short : Int := fieldOf lim 31 24 * 10000
  let leak : Int := fieldOf lim 23 16 * 10000
  let vnom : Int := fieldOf lim 12 0 * 1000
  if idle < short ∨ rail - short < idle ∨ dv < fieldOf r 15 0 * 2000 then 3
  else if (fieldOf r 31 16 : Int) * 2000 < dv then 2
  else if leak ≠ 0 ∧ leak < ((idle - vnom).natAbs : Int) then 1 else 0

/-- The bias channel's reading of a leg in microvolts: the 1:4 divider gives 0 V to 10 V (R342). -/
def biasLeg (v : Nat) : Int := Int.ofNat (Nat.min v 10000000)

/-- V+ - V- and V_idle of the readings: for VR the differential voltage, and the mean of the legs (R214, R215). -/
def biasValues (plus minus idle : LegReading) (vr : Bool) : Int × Int :=
  if vr then
    ((biasLeg plus.p - biasLeg plus.n) - (biasLeg minus.p - biasLeg minus.n), (biasLeg idle.p + biasLeg idle.n) / 2)
  else (biasLeg plus.p - biasLeg minus.p, biasLeg idle.p)

/-- BIAS_CHECK_DONE: the legs' readings at the ends of the three steps of 100 us, and the rails, in microvolts (R214 to R216, R342). V_rail is
VIO for Hall and VDD5 for VR. Without ADCB at work or its spare slice there is no reading, and the check is given up (log entry 115). -/
def State.biasDone (s : State) (plus minus idle : LegReading) (rails : RailReading) : State :=
  match s.bias.running with
  | some (i, t) =>
    if s.now < t + 300 * 384 then s
    else if !s.convOn .adcB || s.adcB.spare.isNone then { s with bias := { s.bias with running := none } }
    else
    let vr := s.inputVr i
    let lim := if vr then 0x30810 else 0x30808
    let rail : Int := Int.ofNat (if vr then rails.vdd5 else rails.vio)
    let v := biasValues plus minus idle vr
    let k := biasClass (s.reg lim) (s.reg (lim + 4)) v.1 v.2 rail
    let word := BitVec.ofNat 32 (atBit (Nat.min 0xFFFF (v.1 / 2000).toNat) 16 + atBit (Nat.min 0x3FFF (v.2 / 1000).toNat) 2 + k)
    let s1 := ({ s with bias := { s.bias with running := none } }).setReg (0x30C00 + 4 * i) word
    let m := 3 * i + (k - 1)
    if k = 0 ∨ s1.bit 0x30804 m then s1
    else ((s1.orReg 0x30804 (2 ^ m)).notice 0x05 (bytesLE 1 i ++ bytesLE 1 (k + 1))).advise 2 i
  | none => s

/-! ### Snapshot and register views (R232, R245 to R247) -/

/-- ANG_SNAP.TAKE: the copy is due two CLK_ANG cycles after the write (R232). -/
def State.snapshot (s : State) : State := { s with snapAt := s.snapAt ++ [s.now + 2] }

/-- The copy of cycle `t`: ANG_TNOW and the four angle words (R232). -/
def State.snapCopy (s : State) (t : Nat) : State :=
  (List.finRange 4).foldl (fun s (w : Fin 4) => s.setReg (0x30910 + 4 * w.val) ((s.wheels[w]).angleWord t)) (s.setReg 0x30908 (s.tnow t))

/-- The copies of the cycles before `c` are taken, in order: the trackers stand as step 1 of those cycles has left them. -/
def State.takeSnaps (s : State) (c : Nat) : State :=
  (s.snapAt.filter (fun t => decide (t < c))).foldl State.snapCopy { s with snapAt := s.snapAt.filter (fun t => decide (c ≤ t)) }

/-- A snapshot word where the copy of the present cycle gives it; none else. -/
def State.snapWord (s : State) (off : Nat) : Option Word :=
  if s.snapAt.contains s.now then
    if off = 0x908 then some (s.tnow s.now) else some ((s.wheels[Fin.ofNat 4 ((off - 0x910) / 4)]).angleWord s.now)
  else none

/-- The computed words of a wheel page; none for a plain register (Tables Wheel.11, Angle.2 and Angle.3). -/
def State.wheelWord (s : State) (w : Fin 4) (off : Nat) : Option Word :=
  let v := s.wheels[w]
  match off with
  | 0x2C => some (v.angleWord s.now)
  | 0x30 => some v.edgeAng
  | 0x34 => some (match v.edgeT with
      | some t => s.tnow t
      | none => 0)
  | 0x38 => some (wordOfInt (v.accelNow s.now))
  | 0x3C => some ((s.reg (wheelBase w.val + 0x3C) &&& 0xFFFF0000) |||
      BitVec.ofNat 32 (atBit v.valid 4 + atBit v.active.code 1 + b2n v.angleOk))
  | 0x40 => some (v.stateWord (s.wheelCfg w.val).dirSrc)
  | 0x44 => some (BitVec.ofNat 32 v.period)
  | 0x48 => some (wordOfInt (v.speedNow s.now))
  | 0x4C => some v.edges
  | 0x60 => some (BitVec.ofNat 32 v.pred)
  | 0x64 => some (wordOfInt v.beta)
  | 0x68 => some (wordOfInt (v.revCnt s.now))
  | _ => none

/-- The trackers after a reset or a wake: SILENT, inputs UNKNOWN, angles 0; the edge counter is kept by a wake (R86, R218, R245). -/
def WheelSt.restart (w : WheelSt) (now : Nat) (keep : Bool) : WheelSt :=
  { ({} : WheelSt) with edges := if keep then w.edges else 0, restSince := now, badSince := now }

end Sys2Proof.Machine
end

