-- ==== Sys2Proof/Machine/Image.lean ====
section
/-!
DEFINITION. The configuration image: block tags, candidates, the checks of Table Start.7 and the content of the sections
(03_startup_image.md, R90 to R111), with the keys that the loader takes from the OTP (R553, R554).
-/

namespace Sys2Proof.Machine

/-! ### Keys (R553, R554) -/

/-- What a key slot reads as. -/
inductive KeyStatus where
  | empty
  | valid
  | corrupt
  | revoked
deriving DecidableEq, Repr

/-- The status of a slot of `n` bytes, with the kill that the state implies (R553). -/
def KeySlot.status (k : KeySlot) (killed : Bool) : KeyStatus :=
  if k.revoke || k.kill || killed then .revoked
  else if k.bytes.isEmpty && decide (k.crc = 0) && !k.bad then .empty
  else if !k.bad && decide (k.crc = crc32 k.bytes) then .valid else .corrupt

/-- A state fuse bit as it reads: the majority of its three copies (R551). -/
def majority (f : BitVec 3) : Bool := decide (2 ≤ countWhere 3 (fun i => f.getLsbD i))

/-- The number of blown bits of OPENCNT and of LOCKCNT. -/
def OtpSt.openN (o : OtpSt) : Nat := (o.opencnt.toList.filter majority).length
def OtpSt.lockN (o : OtpSt) : Nat := (o.lockcnt.toList.filter majority).length

/-- The state is RETURN or SCRAP, which imply the kill of every IMGKEY, SIGKEY and LKEY (R553). -/
def Life.killsAll (l : Life) : Bool := l == .ret || l == .scrap

/-- The status of each slot in the present state (R553). -/
def State.vkeyStatus (s : State) : KeyStatus := s.otp.vkey.status (s.life.state == .scrap)
def State.lkeyStatus (s : State) : KeyStatus := s.otp.lkey.status s.life.state.killsAll
def State.sigStatus (s : State) (n : Nat) : KeyStatus := (s.otp.sigkey.getD n {}).status s.life.state.killsAll
def State.imgStatus (s : State) (n : Nat) : KeyStatus :=
  (s.otp.imgkey.getD n {}).status (s.life.state.killsAll || decide (n < s.otp.openN))

/-- The verification key that KEYSLOT names, if it is VALID (R554). -/
def State.imageVerifyKey (s : State) (slot : Nat) : Option (List Byte) :=
  if s.life.state = .ret then (if s.vkeyStatus = .valid then some s.otp.vkey.bytes else none)
  else if s.sigStatus slot = .valid then some (s.otp.sigkey.getD slot {}).bytes else none

/-- The active image key, IMGKEY at OPENCNT, if it is VALID (R554). -/
def State.activeImgKey (s : State) : Option (List Byte) :=
  let k := s.otp.openN
  if s.life.state = .ret then none
  else if s.imgStatus k = .valid then some (s.otp.imgkey.getD k {}).bytes else none

/-- The minimum security version: the index of the highest blown bit of MINVER plus 1 (R554). -/
def State.minVersion (s : State) : Nat :=
  if s.life.state = .ret then 0
  else (List.range 64).foldl (fun m i => if s.otp.minver.getLsbD i then i + 1 else m) 0

/-! ### Block tags and candidates (R91 to R95) -/

/-- A block tag (Table Start.2). -/
structure BlockTag where
  slot : Nat
  index : Nat
  count : Nat
  gen : Nat
deriving DecidableEq, Repr

/-- The bytes of a tag. -/
def tagBytes (t : BlockTag) : List Byte :=
  let b := bytesLE 2 0x4B54 ++ bytesLE 1 t.slot ++ bytesLE 1 t.index ++ bytesLE 1 t.count ++ [0, 0, 0] ++ bytesLE 4 t.gen
  b ++ bytesLE 4 (crc32 b)

/-- The tag in the spare bytes of a block's first page; none behind a bad-block marker or a wrong CRC (R91). The tag lies outside every
codeword, so it counts whatever the page's sectors hold (R421). That a COUNT above 2,097,152 / S or a nonzero byte 5 to 7 does not make
a tag unread is a DESIGN CHOICE (log entry 101). -/
def readTag (oob : List Byte) : Option BlockTag :=
  let b := slice oob 4 16
  if natAt oob 0 1 = 0xFF ∧ natAt b 0 2 = 0x4B54 ∧ natAt b 12 4 = crc32 (b.take 12) then
    some { slot := natAt b 2 1, index := natAt b 3 1, count := natAt b 4 1, gen := natAt b 8 4 }
  else none

/-- The blocks of a slot: 0 the lower half, 1 the upper half (R90). -/
def State.slotBlocks (s : State) (slot : Nat) : List Nat :=
  let h := s.imgBlocks / 2
  (List.range h).map (fun i => i + (if slot = 0 then 0 else h))

/-- The tags that a slot's blocks carry for it, with their blocks, rising. -/
def State.slotTags (s : State) (slot : Nat) : List (Nat × BlockTag) :=
  (s.slotBlocks slot).filterMap (fun b =>
    match readTag (s.rowOob (s.rowOf b 0)) with
    | some t => if t.slot = slot then some (b, t) else none
    | none => none)

/-- A copy: its generation and its blocks in INDEX order. -/
structure ImgCopy where
  gen : Nat
  blocks : List Nat
deriving DecidableEq, Repr

/-- The copy of a generation, if it is complete (R94). -/
def completeCopy (tags : List (Nat × BlockTag)) (gen : Nat) : Option ImgCopy :=
  let l := tags.filter (fun p => p.2.gen == gen)
  match l with
  | [] => none
  | p :: _ =>
    let n := p.2.count
    let blocks := (List.range n).filterMap (fun i => (l.find? (fun q => q.2.index == i)).map Prod.fst)
    if n ≠ 0 ∧ blocks.length = n ∧ l.all (fun q => q.2.count == n) then some { gen := gen, blocks := blocks } else none

/-- The candidate of a slot: the complete copy with the highest GEN (R94). -/
def State.copyIn (s : State) (slot : Nat) : Option ImgCopy :=
  let tags := s.slotTags slot
  let copies := ((tags.map (fun p => p.2.gen)).eraseDups).filterMap (completeCopy tags)
  match copies with
  | [] => none
  | c :: t => some (t.foldl (fun a b => if a.gen < b.gen then b else a) c)

/-- The row of page `p` of a copy. -/
def State.copyRow (s : State) (c : ImgCopy) (p : Nat) : Nat :=
  if s.nand.ppb = 0 then 0 else s.rowOf (c.blocks.getD (p / s.nand.ppb) 0) (p % s.nand.ppb)

/-- `n` pages of a copy, main area after main area. -/
def State.copyPages (s : State) (c : ImgCopy) (n : Nat) : List Byte :=
  (List.range n).flatMap (fun p => s.rowMain (s.copyRow c p))

/-- Bytes `o` to `o + n − 1` of a copy. -/
def State.copyBytes (s : State) (c : ImgCopy) (o n : Nat) : List Byte :=
  let pg := s.nand.page
  if pg = 0 then [] else
    let p0 := o / pg
    let p1 := (o + n + pg - 1) / pg
    slice ((List.range (p1 - p0)).flatMap (fun i => s.rowMain (s.copyRow c (p0 + i)))) (o - p0 * pg) n

/-- The rows that hold bytes `o` to `o + n − 1`. -/
def State.copyRows (s : State) (c : ImgCopy) (o n : Nat) : List Nat :=
  let pg := s.nand.page
  if pg = 0 ∨ n = 0 then [] else
    let p0 := o / pg
    let p1 := (o + n + pg - 1) / pg
    (List.range (p1 - p0)).map (fun i => s.copyRow c (p0 + i))

/-! ### Header and section table (R97 to R99) -/

/-- One entry of the section table (Table Start.5). -/
structure Section where
  pos : Nat
  type : Nat
  flags : Nat
  offset : Nat
  length : Nat
  arg : Nat
  digest : List Byte
  /-- Entry bytes 0x00 to 0x0F, the additional authenticated data (R101). -/
  aad : List Byte
deriving DecidableEq, Repr

def Section.enc (x : Section) : Bool := x.flags.testBit 0
def Section.deferred (x : Section) : Bool := x.flags.testBit 1
def Section.critical (x : Section) : Bool := x.flags.testBit 15

/-- Plaintext bytes of a section (R101). -/
def Section.plainLen (x : Section) : Nat := if x.enc then x.length - 16 else x.length

/-- The section is read at the load: not deferred, not a note, and not skipped (R102). That checks 9 to 11 leave a skipped section alone is
a DESIGN CHOICE (log entry 105). -/
def Section.loaded (x : Section) : Bool :=
  !x.deferred && decide (x.type ≠ 5) && (decide (1 ≤ x.type ∧ x.type ≤ 4) || x.critical)

/-- The section table that a copy's first bytes hold. -/
def sectionsOf (h : List Byte) : List Section :=
  (List.range (natAt h 0x18 2)).map (fun i =>
    let e := slice h (0x80 + 48 * i) 48
    { pos := i, type := natAt e 0 2, flags := natAt e 2 2, offset := natAt e 4 4, length := natAt e 8 4, arg := natAt e 12 4
      digest := slice e 16 32, aad := e.take 16 })

/-- SIGOFF (Table Start.3). -/
def sigOff (h : List Byte) : Nat := (0x80 + 48 * natAt h 0x18 2 + 15) / 16 * 16

/-- The header fields keep their rules (Table Start.4); `count` blocks of `bs` bytes. -/
def imgHeaderOk (h : List Byte) (count bs : Nat) : Bool :=
  let len := natAt h 0xC 4
  decide (natAt h 0 4 = 0x4D494E4C) && decide (natAt h 4 2 = 1) && decide (natAt h 6 2 = 128) && decide (natAt h 8 2 = 0x880) &&
    decide (natAt h 0xA 1 = 0x4C) && decide (natAt h 0xB 1 ≤ 0xB1) && decide (0x100 ≤ len ∧ len ≤ 0x200000) &&
    decide (len ≤ count * bs ∧ (count - 1) * bs < len) && decide (1 ≤ natAt h 0x18 2 ∧ natAt h 0x18 2 ≤ 32) &&
    decide (natAt h 0x1A 2 = 0x80) && decide (natAt h 0x1C 1 ≤ 3) && decide (natAt h 0x1D 1 &&& 0xFD = 0) &&
    decide (natAt h 0x1E 2 = 0) && (slice h 0x30 76).all (fun b => b == 0)

/-- ARG breaks the rule of its type (Table Start.6, R105). That a MODEL of more than 1,048,576 plaintext bytes is one of these cases is a
DESIGN CHOICE (log entry 104). -/
def Section.argBad (x : Section) : Bool :=
  if x.type = 1 then decide (x.arg ≠ 0)
  else if x.type = 2 then decide (3 < x.arg)
  else if x.type = 3 then decide (x.arg % 4 ≠ 0 ∨ x.arg < 0x800000 ∨ x.plainLen % 4 ≠ 0 ∨ 0x840000 < x.arg + x.plainLen)
  else if x.type = 4 then decide (x.arg ≠ 0 ∨ 1048576 < x.plainLen)
  else false

/-- Two sections overlap. That a section of LENGTH 0 whose OFFSET lies inside another counts is a DESIGN CHOICE (log entry 102). -/
def Section.overlaps (x y : Section) : Bool :=
  decide (x.pos ≠ y.pos) && decide (x.offset < y.offset + y.length) && decide (y.offset < x.offset + x.length)

/-- The section table keeps its rules (R98, R99). -/
def layoutOk (h : List Byte) : Bool :=
  let l := sectionsOf h
  let len := natAt h 0xC 4
  l.all (fun x =>
    decide (x.offset % 16 = 0) && decide (sigOff h + 80 ≤ x.offset) && decide (x.offset + x.length ≤ len) &&
      decide (x.flags &&& 0x7FFC = 0) && (x.deferred == decide (x.type = 4)) && !x.argBad &&
      (!x.enc || decide (17 ≤ x.length)) && l.all (fun y => !x.overlaps y)) &&
    decide ((l.filter (fun x => x.type == 4)).length ≤ 1) &&
    (List.range 4).all (fun w => decide ((l.filter (fun x => x.type == 2 && x.arg == w)).length ≤ 1))

/-! ### Section content (R100 to R105) -/

/-- The signature is good (R100): the key of KEYSLOT, over bytes 0 to SIGOFF − 1. That a nonzero byte among the ten reserved ones fails it
is a DESIGN CHOICE (log entry 103). -/
def State.signatureOk (s : State) (h : List Byte) : Bool :=
  let o := sigOff h
  let b := slice h o 80
  decide (natAt b 0 4 = 0x47534E4C) && decide (natAt b 4 2 = 1) && (slice b 6 10).all (fun x => x == 0) &&
    (match s.imageVerifyKey (natAt h 0x1C 1) with
     | some k => ecdsaVerify k (sha256 (h.take o)) (natBE (slice b 0x10 32)) (natBE (slice b 0x30 32))
     | none => false)

/-- The nonce of a section (R101). -/
def sectionNonce (h : List Byte) (x : Section) : List Byte := slice h 0x28 8 ++ bytesLE 4 x.pos

/-- The plaintext of a section's stored bytes; none if it is encrypted and there is no key or the tag fails (R101). -/
def State.sectionPlain (s : State) (h : List Byte) (x : Section) (stored : List Byte) : Option (List Byte) :=
  if x.enc then
    match s.activeImgKey with
    | some k => gcmOpen k (sectionNonce h x) x.aad (stored.take (x.length - 16)) (stored.drop (x.length - 16))
    | none => none
  else some stored

/-- The block of an address holds an RWS field (chapter 21). -/
def rwsBlock (a : Nat) : Bool := (blockRows (a / 0x10000)).any (fun r => r.rws != 0)

/-- A word that CONFIG may target: one of a block other than LCS that holds an RWS field, or of the program store (R103). -/
def configTarget (a : Nat) : Bool :=
  inProgStore a || (decide (a < 0x120000) && decide (a / 0x10000 ≠ 0xF) && rwsBlock a)

/-- One write of a configuration section: the word, and the bits it leaves as the shadow bank holds them. -/
structure ConfigWrite where
  addr : Nat
  keep : Word
  value : Word
deriving DecidableEq, Repr

/-- The records of a CONFIG plaintext (R103); the error code where one is malformed. -/
def configRecords : Nat → List Byte → Except Nat (List ConfigWrite)
  | 0, _ => .error 0x1B
  | _ + 1, [] => .ok []
  | fuel + 1, l =>
    if l.length < 4 then .error 0x1B
    else
      let w := natAt l 0 4
      let addr := fieldNat w 23 0
      let n := fieldNat w 29 24 + 1
      let kind := fieldNat w 31 30
      let r := l.drop 4
      let go := fun (ws : List ConfigWrite) (used : Nat) =>
        if ws.all (fun x => configTarget x.addr) then
          match configRecords fuel (r.drop used) with
          | .ok t => .ok (ws ++ t)
          | .error e => .error e
        else .error 0x1C
      if addr % 4 ≠ 0 then .error 0x1B
      else if kind = 0 then
        if r.length < 4 * n then .error 0x1B
        else go ((List.range n).map (fun i => { addr := addr + 4 * i, keep := 0, value := wordAt r (4 * i) })) (4 * n)
      else if kind = 1 then
        if r.length < 4 then .error 0x1B
        else go ((List.range n).map (fun i => { addr := addr + 4 * i, keep := 0, value := wordAt r 0 })) 4
      else if kind = 2 then
        if n ≠ 1 ∨ r.length < 8 then .error 0x1B
        else go [{ addr := addr, keep := ~~~(wordAt r 0), value := wordAt r 4 &&& wordAt r 0 }] 8
      else .error 0x1B

/-- A TOOTHTAB plaintext as writes of its wheel's table (R104). That an N out of range, a nonzero second halfword or a width of 0 fails with
CONFIG_FORMAT is a DESIGN CHOICE (log entry 106). -/
def toothRecords (wheel : Nat) (l : List Byte) : Except Nat (List ConfigWrite) :=
  let n := natAt l 0 2
  if n < 1 ∨ 512 < n ∨ natAt l 2 2 ≠ 0 ∨ l.length ≠ 4 + 4 * n then .error 0x1B
  else
    let ws := (List.range n).map (fun i => wordAt l (4 + 4 * i))
    if ws.any (fun w => w == 0) then .error 0x1B
    else if (ws.foldl (fun a b => a + b) (0 : Word)).toNat ≠ revFrets then .error 0x1D
    else .ok ((List.range n).map (fun i => { addr := ttabAddr wheel i, keep := 0, value := ws.getD i 0 }))

/-- The configuration writes of one section, or its error code (check 12). -/
def sectionWrites (x : Section) (plain : List Byte) : Except Nat (List ConfigWrite) :=
  if x.type = 1 then configRecords (plain.length + 1) plain
  else if x.type = 2 then toothRecords x.arg plain
  else if x.type = 3 ∨ x.type = 4 ∨ x.type = 5 then .ok []
  else if x.critical then .error 0x1A else .ok []

/-- Every section's writes in table order, up to the first error. -/
def gatherWrites : List (Section × List Byte) → Except Nat (List ConfigWrite)
  | [] => .ok []
  | (x, p) :: t =>
    match sectionWrites x p with
    | .error e => .error e
    | .ok l => match gatherWrites t with
      | .error e => .error e
      | .ok r => .ok (l ++ r)

/-! ### The candidate checks (R107) -/

/-- The stored bytes of a section. -/
def State.storedOf (s : State) (c : ImgCopy) (x : Section) : List Byte := s.copyBytes c x.offset x.length

/-- The first bytes of a copy, with header, table and signature block. -/
def State.copyHead (s : State) (c : ImgCopy) : List Byte := s.copyPages c 1

/-- Checks 1 to 8 of Table Start.7: the code of the first that fails, or 0. -/
def State.headCode (s : State) (c : ImgCopy) (bad : List Nat) : Nat :=
  let h := s.copyHead c
  if bad.contains (s.copyRow c 0) ∨ s.rowErased (s.copyRow c 0) = true then 0x0F
  else if natAt h 0x7C 4 ≠ crc32 (h.take 0x7C) then 0x10
  else if imgHeaderOk h c.blocks.length s.blockSize = false then 0x11
  else if natAt h 0x20 8 ≠ 0 ∧ natAt h 0x20 8 ≠ s.otp.uid.toNat then 0x12
  else if (natAt h 0x1D 1).testBit 1 ∧ s.life.state ≠ .factory ∧ s.life.state ≠ .ret then 0x13
  else if natAt h 0x10 4 < s.minVersion then 0x14
  else if s.signatureOk h = false then 0x15
  else if layoutOk h = false then 0x16 else 0

/-- Checks 1 to 12 of Table Start.7 over what the NAND holds and the rows that could not be corrected. -/
def State.candidateCode (s : State) (c : ImgCopy) (bad : List Nat) : Nat :=
  let h := s.copyHead c
  let k := s.headCode c bad
  if k ≠ 0 then k
  else
    let all := sectionsOf h
    let l := all.filter Section.loaded
    if l.any (fun x => (s.copyRows c x.offset x.length).any (fun r => bad.contains r)) then 0x17
    else if l.any (fun x => sha256 (s.storedOf c x) != x.digest) then 0x18
    else if (all.any Section.enc && s.activeImgKey.isNone) || l.any (fun x => (s.sectionPlain h x (s.storedOf c x)).isNone) then 0x19
    else match gatherWrites (l.map (fun x => (x, (s.sectionPlain h x (s.storedOf c x)).getD []))) with
      | .error e => e
      | .ok _ => 0

/-- The pages that a candidate's checks read: the header page, then those of the loaded sections (R85, R107). -/
def State.candidateRows (s : State) (c : ImgCopy) : List Nat :=
  let h := s.copyHead c
  if s.headCode c [] = 0 then
    (s.copyRow c 0 :: ((sectionsOf h).filter Section.loaded).flatMap (fun x => s.copyRows c x.offset x.length)).eraseDups
  else [s.copyRow c 0]

/-- The configuration writes of a candidate that has passed. -/
def State.candidateWrites (s : State) (c : ImgCopy) : List ConfigWrite :=
  let h := s.copyHead c
  let l := (sectionsOf h).filter Section.loaded
  match gatherWrites (l.map (fun x => (x, (s.sectionPlain h x (s.storedOf c x)).getD []))) with
  | .ok r => r
  | .error _ => []

/-- N of the TOOTHTAB section for a wheel, if the copy has one (R109). -/
def State.toothCount (s : State) (c : ImgCopy) (w : Nat) : Option Nat :=
  let h := s.copyHead c
  ((sectionsOf h).find? (fun x => x.type == 2 && x.arg == w)).map (fun x => natAt ((s.sectionPlain h x (s.storedOf c x)).getD []) 0 2)

/-- The bytes for working SRAM: destination and content, in table order (R105). -/
def State.candidateSram (s : State) (c : ImgCopy) : List (Nat × List Byte) :=
  let h := s.copyHead c
  ((sectionsOf h).filter (fun x => x.type == 3)).map (fun x => (x.arg, (s.sectionPlain h x (s.storedOf c x)).getD []))

/-- The MODEL section of a copy. -/
def State.modelSection (s : State) (c : ImgCopy) : Option Section := (sectionsOf (s.copyHead c)).find? (fun x => x.type == 4)

/-- The shadow banks after configuration writes, over what they held before: a later write to a word replaces an earlier one, and bits
outside RWS are ignored (R103). The list is kept rising. -/
def applyWrites (base : Nat → Word) (ws : List ConfigWrite) : List (Nat × Word) :=
  ws.foldl (fun l x =>
    let m := BitVec.ofNat 32 (rwsMask x.addr)
    let old := Sparse.get base l x.addr
    Sparse.insert l x.addr ((old &&& ~~~m) ||| (((old &&& x.keep) ||| x.value) &&& m))) []

end Sys2Proof.Machine
end

