-- ==== Sys2Proof/Machine/Cave.lean ====
section
/-!
DEFINITION. The cave: what each page operation does, mounting and the cave table, record writes and collection, the log, refresh, wear
levelling, retirement and the spare pool, and image updates (13_cave.md, R415 to R452).
-/

namespace Sys2Proof.Machine

/-! ### Page operations (R417, R423, R439, R443) -/

/-- A row is a tag page: the first page of an image block (R421). -/
def State.tagRow (s : State) (row : Nat) : Bool := decide (s.nand.ppb ≠ 0 ∧ row % s.nand.ppb = 0 ∧ row / s.nand.ppb < s.imgBlocks)

/-- Correctable bits of a sector of a row. -/
def State.rowT (s : State) (row : Nat) : Nat := if s.tagRow row then 12 else 16

/-- A sector with `e` wrong bits is uncorrectable (R423); an erased one is read as erased up to 16 zero bits. -/
def State.sectorBad (s : State) (row e : Nat) : Bool := decide ((if s.rowErased row then 16 else s.rowT row) < e)

/-- The sectors of a page, with their wrong bits. -/
def State.sectorErrs (s : State) (errs : List Nat) : List Nat := (List.range (s.nand.page / 1024)).map (fun k => errs.getD k 0)

/-- A count of a block in a list of counts. -/
def countOf (l : List (Nat × Nat)) (b : Nat) : Nat := ((l.find? (fun p => p.1 == b)).map Prod.snd).getD 0

/-- The list with the count of a block replaced. -/
def withCount (l : List (Nat × Nat)) (b n : Nat) : List (Nat × Nat) := Sparse.set (fun _ => 0) l b n

/-- A block joins a list of blocks. -/
def addBlock (l : List Nat) (b : Nat) : List Nat := if l.contains b then l else l ++ [b]

/-- The maintenance of R439 to R443 applies: the cave is mounted or mounting. -/
def State.caveUp (s : State) : Bool := s.cave.mode == .mounted || s.cave.mode == .mounting || s.cave.mode == .readonly

/-- A block is to be retired (R443). -/
def State.doomBlock (s : State) (b : Nat) : State :=
  if s.blockBad b || !(s.caveUp || decide (b < s.imgBlocks)) then s
  else { s with cave := { s.cave with doomed := addBlock s.cave.doomed b } }

/-- A block is due for refresh (R439); the page reads of the image search and of a candidate count too (R108). -/
def State.dueBlock (s : State) (b : Nat) : State :=
  if !s.blockBad b then { s with cave := { s.cave with due := addBlock s.cave.due b } } else s

/-- The record slot that a row belongs to, where it has held a valid version. -/
def State.slotAt (s : State) (row : Nat) : Option (Nat × Nat) := s.allSlots.find? (fun p => (s.slotRows p).contains row && s.slotOk p)

/-- A row has proved unreadable since `old`: the record whose last valid version it held is lost (R450). While the cave mounts, the mount
counts. -/
def State.countLost (s old : State) (row : Nat) : State :=
  if old.cave.mode = .mounted ∨ old.cave.mode = .readonly then
    match old.slotAt row with
    | some p =>
      let k := recKey (old.slotBytes p.1 p.2)
      if (s.versions k.1 k.2).isEmpty then (s.satCount 0xA0040 31 24 1).advise 10 3 else s
    | none => s
  else s

/-- A page has been read: ECC counts, the refresh test, the read count, and the row if a sector could not be corrected. -/
def State.readDone (s : State) (row : Nat) (errs : List Nat) : Bool × State :=
  let b := if s.nand.ppb = 0 then 0 else row / s.nand.ppb
  let l := s.sectorErrs errs
  let bad := l.filter (fun e => s.sectorBad row e)
  let good := l.filter (fun e => e ≠ 0 && !s.sectorBad row e)
  let lim := s.fld 0xA0024 4 0 - (if s.tagRow row then 4 else 0)
  let a := 0xA0040
  let s1 := s.satCount a 11 0 good.length
  let s2 := s1.satCount a 23 12 bad.length
  let n := countOf s.cave.reads b + 1
  let s3 := { s2 with cave := { s2.cave with
    reads := withCount s2.cave.reads b n, unread := if bad.isEmpty then s2.cave.unread else addBlock s2.cave.unread row } }
  let s4 := if good.any (fun e => decide (lim ≤ e)) || decide (s.fld 0xA0028 15 0 * 1000 ≤ n) then s3.dueBlock b else s3
  if bad.isEmpty then (false, s4) else (true, (s4.countLost s row).doomBlock b)

/-- A program or an erase of a block has failed: the log, NTC_CAVE event 3, and retirement (R443). -/
def State.opFailed (s : State) (b : Nat) : State := ((s.logCave 3 b).notice 0x14 (bytesLE 1 3 ++ [0] ++ bytesLE 4 b)).doomBlock b

/-- The operations of a run that are left once a page of it could not be read: a move goes on with the next page, a collection with the next
slot, the copy of an image ends (R431, R433, R443). -/
def State.afterBadRead (s : State) (kind : JobKind) (rest : List NandOp) : List NandOp :=
  let isRead := fun (o : NandOp) => match o with
    | .read _ => true
    | _ => false
  match kind with
  | .move _ _ => rest.drop 1
  | .collect _ => (rest.dropWhile isRead).drop s.slotPages
  | .repair _ => []
  | .imgRefresh _ _ => []
  | _ => rest

/-- The header that directly follows an erase carries REQ and MOUNT as they are at the erase (Table Cave.6). -/
def State.restamp (s : State) : List NandOp → List NandOp
  | .program row p :: t =>
    if natAt p.oob 1 1 = 0x10 then .program row (s.headerPage (natAt p.main 4 4)) :: t else .program row p :: t
  | l => l

/-- The operations of a run that are left once a program or an erase of it has failed: a rebuild goes on with the next block (R427, R443). -/
def afterFailure (kind : JobKind) (erase : Bool) (rest : List NandOp) : List NandOp :=
  match kind with
  | .rebuild => if erase then rest.drop 1 else rest
  | _ => []

/-- One page operation has ended (R417): what it leaves on the NAND, and what its run remembers. -/
def State.opDone (s : State) (j : NandJob) (op : NandOp) (fail : Bool) (errs : List Nat) : NandJob × State :=
  let rest := j.todo.drop 1
  match op with
  | .read row =>
    let r := s.readDone row errs
    ({ j with todo := if r.1 then s.afterBadRead j.kind rest else rest, bad := if r.1 then j.bad ++ [row] else j.bad }, r.2)
  | .program row page =>
    let b := if s.nand.ppb = 0 then 0 else row / s.nand.ppb
    if fail then
      match j.kind with
      | .retire _ => ({ j with todo := rest }, s)
      | k => ({ j with todo := afterFailure k false rest, failed := some b }, s.opFailed b)
    else
      let s1 := s.setPage row (page.whole s.nand.page s.nand.spare (s.tagRow row))
      let worn := decide (row % (if s.nand.ppb = 0 then 1 else s.nand.ppb) = 0) &&
        decide (natAt page.oob 1 1 = 0x10) && decide (s.fld 0xA0030 7 0 * 1000 ≤ natAt page.main 4 4) && s.caveUp
      ({ j with todo := rest }, if worn then s1.doomBlock b else s1)
  | .erase b =>
    if fail then
      match j.kind with
      | .retire _ => ({ j with todo := rest }, s)
      | k => ({ j with todo := afterFailure k true rest, failed := some b }, s.opFailed b)
    else
      let s0 := s.erasePages b
      ({ j with todo := s.restamp rest }, { s0 with cave := { s0.cave with
        reads := withCount s0.cave.reads b 0, due := s0.cave.due.filter (fun x => x != b)
        imgStamp := if b < s0.imgBlocks then (b, s0.cave.reqCheck) :: s0.cave.imgStamp.filter (fun p => p.1 != b) else s0.cave.imgStamp
        unread := s0.cave.unread.filter (fun r => r / s0.nand.ppb != b) } })

/-- The run being served, with its next operation. -/
def State.actJob (s : State) : Option (NandJob × NandOp) :=
  match s.nand.act with
  | none => none
  | some k => match s.nand.jobs.find? (fun j => decide (j.kind = k) && !j.todo.isEmpty) with
    | none => none
    | some j => j.todo.head?.map (fun op => (j, op))

/-- The state with a run of the queue replaced, and the NAND free for the next operation (R30). Runs of priority 1 alternate page by
page (R115, R427). -/
def State.storeJob (s : State) (j : NandJob) : State :=
  { s with nand := { s.nand with
      act := none, tries := 0
      jobs := if j.prio = 1 then s.nand.jobs.filter (fun x => decide (x.kind ≠ j.kind)) ++ [j]
        else s.nand.jobs.map (fun x => if x.kind = j.kind then j else x) } }

/-- A run of this kind whose operations have all ended. -/
def State.finished (s : State) (p : JobKind → Bool) : Option NandJob := s.nand.jobs.find? (fun j => p j.kind && j.todo.isEmpty)

/-! ### The spare pool (R444) -/

/-- The spare count. -/
def State.spareCount (s : State) : Int := (s.goodPool.length : Int) - s.recBlocks - s.logBlocks

/-- LEVEL in 0.01 %. -/
def State.spareLevel (s : State) : Nat :=
  if s.pool.length = 0 then 0 else (s.spareCount * 10000 / (s.pool.length : Int)).toNat

/-- The good BBT blocks. -/
def State.goodBbt (s : State) : List Nat := s.bbtBlocks.filter (fun b => !s.blockBad b)

/-- The cave takes no more writes: no spare block, fewer than two good BBT blocks, or a protected device (R418, R444). -/
def State.caveExhausted (s : State) : Bool := decide (s.spareCount ≤ 0) || decide (s.goodBbt.length < 2) || s.nand.protect

/-- The work of READONLY: what would write records, the log or an image, and the moves of maintenance, has stopped (R444). -/
def JobKind.stopsReadonly : JobKind → Bool
  | .recWrite => true
  | .logProgram => true
  | .collect _ => true
  | .move _ _ => true
  | .imgRefresh _ _ => true
  | .repair _ => true
  | .imgPage => true
  | .imgEnd => true
  | .imgCheck => true
  | _ => false

/-- NTC_IMAGE (Table Link.5). -/
def State.imageNotice (s : State) (code slot gen : Nat) : State := s.notice 0x15 (bytesLE 1 code ++ bytesLE 1 (slot + 1) ++ bytesLE 4 gen)

/-- The end of an update that has failed: NTC_IMAGE INCOMPLETE, and the update is closed (R437). -/
def State.updFail (s : State) (u : ImgUpd) : State :=
  let s1 := s.dropJobs (fun k => decide (k = .imgPage) || decide (k = .imgEnd) || decide (k = .imgCheck))
  ({ s1 with cave := { s1.cave with imgUpd := none } }).imageNotice 0x0F u.slot u.gen

/-- The cave becomes READONLY: writes stop at the page-operation boundary, a repair with them, and an open update ends as one that has failed
(R444, log entry 122). -/
def State.toReadonly (s : State) : State :=
  let s0 : State := { s with cave := { s.cave with mode := .readonly, recBusy := none }, boot := { s.boot with repair := false } }
  let s1 := (s0.dropJobs JobKind.stopsReadonly).advise 10 1
  match s1.cave.imgUpd with
  | some u => s1.updFail u
  | none => s1

/-- A new LEVEL, with its falling watermark, the report to health and READONLY (R146, R444, R450). -/
def State.poolChanged (s : State) : State :=
  let v := s.spareLevel
  let th := s.fld 0xA001C 13 0
  let w := s.cave.wm.follow Nat.min v (decide (v < th))
  let crossed := decide (th ≠ 0) && decide (th ≤ s.cave.level) && decide (v < th)
  let r := if crossed then w.cross Nat.min v else (w, false)
  let s1 := { s with cave := { s.cave with level := v, wm := r.1 } }
  let s2 := if r.2 then s1.notice 0x0B (watermarkPayload 2 0 v th) else s1
  let s3 := s2.healthPool v
  if s3.cave.mode = .mounted ∧ s3.caveExhausted = true then s3.toReadonly else s3

/-- A clear of NVM_SPWM.FLAG (R146). -/
def State.clearPoolWm (s : State) : State :=
  let th := s.fld 0xA001C 13 0
  let v := s.cave.level
  let r := s.cave.wm.clear v (decide (v < th))
  let s1 := { s with cave := { s.cave with wm := r.1 } }
  if r.2 then s1.notice 0x0B (watermarkPayload 2 0 v th) else s1

/-! ### The cave table (R426) -/

/-- The bad-block bitmap of a list of blocks. -/
def bitmapOf (blocks : Nat) (bad : List Nat) : List Byte :=
  (List.range (blocks / 8)).map (fun i => BitVec.ofNat 8 (maskWhere 8 (fun k => bad.contains (8 * i + k))))

/-- A CTAB page (Table Cave.10) under the next CSEQ. -/
def State.ctabPageOf (s : State) : NandPage :=
  let head := bytesLE 4 0x42544143 ++ bytesLE 4 (s.cave.cseq + 1) ++ bytesLE 4 s.cave.mount ++ bytesLE 2 s.nand.page ++
    bytesLE 2 s.nand.ppb ++ bytesLE 4 s.nand.blocks ++ bytesLE 2 s.imgBlocks ++ bytesLE 2 s.recBlocks ++ bytesLE 2 s.logBlocks ++
    [0, 0] ++ bytesLE 8 s.cave.req ++ bytesLE 4 s.cave.grown ++ padBytes 24 0
  let body := fitBytes (s.nand.page - 4) (head ++ bitmapOf s.nand.blocks s.cave.bad)
  { main := body ++ bytesLE 4 (crc32 body), oob := pmeta 0x04 0 }

/-- A CTAB version is valid (R426). -/
def ctabOk (page : Nat) (l : List Byte) : Bool :=
  decide (natAt l 0 4 = 0x42544143) && decide (natAt l (page - 4) 4 = crc32 (l.take (page - 4)))

/-- The next good BBT block after `b`, counting round. -/
def State.nextBbt (s : State) (b : Nat) : Option Nat :=
  let l := s.goodBbt
  match l.find? (fun x => b < x) with
  | some x => some x
  | none => l.head?

/-- Operations join a run of this kind, or make one. -/
def State.extendJob (s : State) (kind : JobKind) (prio : Nat) (ops : List NandOp) : State :=
  if s.hasJob kind then
    ({ s with nand := { s.nand with jobs := s.nand.jobs.map (fun (j : NandJob) => if j.kind = kind then { j with todo := j.todo ++ ops } else j) } }).nandPick
  else s.addJob kind prio ops

/-- A new version of the cave table (R426). -/
def State.writeCtab (s : State) : State :=
  let page := s.ctabPageOf
  if s.cave.ctabPage < s.nand.ppb ∧ s.blockBad s.cave.ctabBlock = false ∧ s.cave.doomed.contains s.cave.ctabBlock = false then
    ({ s with cave := { s.cave with cseq := s.cave.cseq + 1, ctabPage := s.cave.ctabPage + 1, reqCheck := s.cave.req } }).extendJob .ctab 2
      [.program (s.rowOf s.cave.ctabBlock s.cave.ctabPage) page]
  else match s.nextBbt s.cave.ctabBlock with
    | some b =>
      ({ s with cave := { s.cave with cseq := s.cave.cseq + 1, ctabBlock := b, ctabPage := 1, reqCheck := s.cave.req } }).extendJob .ctab 2
        [.erase b, .program (s.rowOf b 0) page]
    | none => s

/-- The CSEQ of a valid CTAB version at a row that can be read (R426). -/
def State.ctabAt (s : State) (row : Nat) : Option Nat :=
  let l := s.rowMain row
  if !s.rowErased row && !s.cave.unread.contains row && ctabOk s.nand.page l then some (natAt l 4 4) else none

/-- The member of a list whose measure is there and is the highest; the first of equals. -/
def highestBy (f : Nat → Option Nat) (l : List Nat) : Option Nat :=
  (l.foldl (fun (m : Option (Nat × Nat)) b => match f b, m with
    | some v, some p => if p.2 < v then some (b, v) else some p
    | some v, none => some (b, v)
    | none, m => m) none).map Prod.fst

/-- The BBT block whose first page holds the version with the highest CSEQ (R427, step 1). -/
def State.ctabHead (s : State) : Option Nat := highestBy (fun b => s.ctabAt (s.rowOf b 0)) s.bbtBlocks

/-- The current CTAB: the version with the highest CSEQ in that block (R426, R427). -/
def State.currentCtab (s : State) : Option (Nat × List Byte) :=
  s.ctabHead.bind (fun b =>
    (highestBy (fun p => s.ctabAt (s.rowOf b p)) (List.range s.nand.ppb)).map (fun p => (b, s.rowMain (s.rowOf b p))))

/-- The CTAB's geometry is the device's. -/
def State.ctabFits (s : State) (l : List Byte) : Bool :=
  decide (natAt l 12 2 = s.nand.page) && decide (natAt l 14 2 = s.nand.ppb) && decide (natAt l 16 4 = s.nand.blocks)

/-- The CTAB that a mount takes: the current one, if its geometry is the device's (R427, step 2). -/
def State.mountTable (s : State) : Option (Nat × List Byte) := s.currentCtab.filter (fun p => s.ctabFits p.2)

/-! ### Mounting (R427, R431, R450) -/

/-- The factory marker of a block: spare byte 0 of page 0 or page 1 is not 0xFF. -/
def State.marked (s : State) (b : Nat) : Bool :=
  decide (natAt (s.rowOob (s.rowOf b 0)) 0 1 ≠ 0xFF) || decide (natAt (s.rowOob (s.rowOf b 1)) 0 1 ≠ 0xFF)

/-- The slots whose first page can be read and carries a record header. -/
def State.headedSlots (s : State) : List (Nat × Nat) :=
  s.allSlots.filter (fun p => decide (natAt (s.slotBytes p.1 p.2) 0 2 = 0x4352) && !s.cave.unread.contains (s.slotRow p.1 p.2))

/-- The records of which any slot carries a header, each once. -/
def State.recordKeys (s : State) : List (Nat × Nat) := (s.headedSlots.map (fun p => recKey (s.slotBytes p.1 p.2))).eraseDups

/-- The entries of a log page (R434). -/
def logEntries : Nat → List Byte → List LogEntry
  | 0, _ => []
  | fuel + 1, l =>
    if l.length < 12 ∨ natAt l 0 4 = 0xFFFFFFFF then []
    else
      let n := natAt l 11 1
      let e : LogEntry := { num := natAt l 0 4, mount := natAt l 4 2, time := wordAt l 6, src := natAt l 10 1, payload := slice l 12 n }
      e :: logEntries fuel (l.drop ((12 + n + 3) / 4 * 4))

/-- The programmed data rows of a block. -/
def State.dataRows (s : State) (b : Nat) : List Nat :=
  ((List.range (s.nand.ppb - 1)).map (fun i => s.rowOf b (i + 1))).filter (fun r => !s.rowErased r)

/-- The entries that a log block holds. -/
def State.blockEntries (s : State) (b : Nat) : List LogEntry :=
  ((s.dataRows b).filter (fun r => !s.cave.unread.contains r)).flatMap (fun r => logEntries 400 (s.rowMain r))

/-- The highest of a list of numbers, or a default. -/
def highest (d : Nat) (l : List Nat) : Nat := l.foldl Nat.max d

/-- A list sorted by a falling measure. -/
def sortFalling {α : Type} (f : α → Nat) (l : List α) : List α :=
  l.foldr (fun x t => t.takeWhile (fun y => decide (f x < f y)) ++ x :: t.dropWhile (fun y => decide (f x < f y))) []

/-- The members of a list up to the first that satisfies a test, that one included. -/
def takeThrough {α : Type} (p : α → Bool) : List α → List α
  | [] => []
  | a :: t => a :: (if p a then [] else takeThrough p t)

/-- The slots of a record that a mount reads whole: that with the highest RSEQ, and older ones until one is valid (R427, step 4). -/
def State.recordChain (s : State) (key : Nat × Nat) : List (Nat × Nat) :=
  takeThrough s.slotOk (sortFalling (fun p => recSeq (s.slotBytes p.1 p.2))
    (s.headedSlots.filter (fun p => decide (recKey (s.slotBytes p.1 p.2) = key))))

/-- The LOG block with the highest BSEQ. -/
def State.lastLogBlock (s : State) : Option Nat := leastBy (fun b => 0xFFFFFFFF - s.blockBseq b) (s.areaBlocks 0x02)

/-- The bad blocks as the mount knows them: those of the CTAB, or at a rebuild those with a factory marker, once pages 0 and 1 are read. -/
def State.mountBad (s : State) : List Nat :=
  match s.mountTable with
  | some (_, l) => (List.range s.nand.blocks).filter (fun b => (natAt l (64 + b / 8) 1).testBit (b % 8))
  | none => if s.cave.mountStep < 3 then [] else (List.range s.nand.blocks).filter s.marked

/-- The rows that a step of the mount reads (R427): 0 the first pages of the BBT blocks, 1 the later pages of the one found, 2 pages 0 and 1
of the good pool blocks, or of every block at a rebuild, 3 the first pages of the record slots, 4 the slots of the records, 5 the last LOG
block. -/
def State.mountRows (s : State) : List Nat :=
  match s.cave.mountStep with
  | 0 => s.bbtBlocks.map (fun b => s.rowOf b 0)
  | 1 => match s.ctabHead with
    | some b => (List.range (s.nand.ppb - 1)).map (fun i => s.rowOf b (i + 1))
    | none => []
  | 2 => (if s.mountTable.isSome then s.goodPool else List.range s.nand.blocks).flatMap (fun b => [s.rowOf b 0, s.rowOf b 1])
  | 3 => s.allSlots.map (fun p => s.slotRow p.1 p.2)
  | 4 => (s.recordKeys.flatMap s.recordChain).flatMap s.slotRows
  | 5 => match s.lastLogBlock with
    | some b => s.dataRows b
    | none => []
  | _ => []

/-- What the reads have found is taken, and step 6 is queued: the rebuild's erases, that of the oldest LOG block where LOG holds NL and needs
another, the new CTAB, and an open block each for RECORDS and LOG (R427, R431, R435, R438, R450). -/
def State.mountTake (s : State) : State :=
  let c : CaveSt := match s.mountTable with
    | some (b, l) =>
      { s.cave with
        grown := natAt l 36 4, cseq := natAt l 4 4, ctabBlock := b, mount := natAt l 8 4 + 1, req := natAt l 28 8
        ctabPage := highest 0 (((List.range s.nand.ppb).filter (fun i => !s.rowErased (s.rowOf b i))).map (fun i => i + 1)) }
    | none =>
      { s.cave with
        grown := 0, cseq := 0, mount := 1, req := 0, ctabBlock := s.imgBlocks + 7, ctabPage := s.nand.ppb, rebuilt := true }
  let poor := if s.mountTable.isNone then s.goodPool.filter (fun b => !s.headerOk b) else []
  let logs := s.areaBlocks 0x02
  let oldLog := if s.logBlocks ≤ logs.length then (leastBy s.blockBseq logs).toList else []
  let lost := (s.recordKeys.filter (fun k => (s.versions k.1 k.2).isEmpty)).length
  let last := match s.lastLogBlock with
    | some b => highest 0 ((s.blockEntries b).map (fun e => e.num))
    | none => 0
  let s1 : State := { s with cave := { c with
    mountStep := 7, seen := [], recOpen := none, logOpen := none
    req := highest c.req ((s.goodPool.filter s.headerOk).map s.blockStamp), reqCheck := c.req, mountReq := c.req
    rseq := highest 0 (s.headedSlots.map (fun p => recSeq (s.slotBytes p.1 p.2))) + 1
    bseq := highest 0 ((s.areaBlocks 0x01 ++ s.areaBlocks 0x02).map s.blockBseq) + 1, logNext := last + 1 } }
  let s2 := s1.satCount 0xA0040 31 24 lost
  let s3 := if lost = 0 then s2 else s2.advise 10 3
  let ops := poor.flatMap (fun b => [NandOp.erase b, .program (s3.rowOf b 0) (s3.headerPage 1)]) ++ oldLog.flatMap s3.eraseOps
  let s4 := if ops.isEmpty then s3 else s3.addJob .rebuild 1 ops
  s4.writeCtab

/-- The mount goes on: the rows that its step still has to read, or the next step; after the last, step 6 (R427). -/
def State.mountGo : Nat → State → State
  | 0, s => s
  | n + 1, s =>
    if 5 < s.cave.mountStep then s.mountTake
    else
      let s1 : State := { s with cave := { s.cave with bad := s.mountBad } }
      let rows := s1.mountRows.filter (fun r => !s.cave.seen.contains r)
      if rows.isEmpty then State.mountGo n { s1 with cave := { s1.cave with mountStep := s.cave.mountStep + 1 } }
      else ({ s1 with cave := { s1.cave with seen := s.cave.seen ++ rows } }).addJob .mount 1 (rows.map NandOp.read)

/-- CAVE_MOUNT: the reads of a mount begin (R427). A device that could not be used has nothing to mount. -/
def State.caveMount (s : State) : State :=
  if s.cave.mode = .mounting ∧ s.hasJob .mount = false ∧ s.cave.mountStep = 0 ∧ s.nand.present = true then s.mountGo 8 else s

/-- Too few good blocks for the partitions (R445). -/
def State.caveTooSmall (s : State) : Bool :=
  decide (((List.range s.nand.blocks).filter (fun b => !s.blockBad b)).length < s.imgBlocks + 8 + s.recBlocks + s.logBlocks)

/-- The increment of REQ per minute in a band of Table Health.1 (Table Cave.11). -/
def retentionStep (band : Nat) : Nat := [3, 10, 36, 115, 350, 1005, 2720, 6976, 17024, 39744, 39744].getD band 39744

/-- STANDBY time at temperature is added to REQ (R438). -/
def State.takeStandbyReq (s : State) : State :=
  let add := ((List.range 11).map (fun i => s.health.sbyBands.getD i 0 / 1966080 * retentionStep i)).sum
  { s with
    cave := { s.cave with req := s.cave.req + add }
    health := { s.health with sbyBands := (List.range 11).map (fun i => s.health.sbyBands.getD i 0 % 1966080) } }

/-- Entries that were made before the mount take their numbers (log entry 21). -/
def renumber (mount : Nat) : Nat → List LogEntry → List LogEntry
  | _, [] => []
  | n, e :: t => if e.num = 0 then { e with num := n, mount := mount % 65536 } :: renumber mount (n + 1) t else e :: renumber mount n t

/-- Blocks for RECORDS and LOG are opened (R427 step 6). -/
def State.openBlocks (s : State) : State :=
  let s1 := (s.openRecBlock true).getD s
  match s1.pickSpare with
  | some b => { s1 with cave := { s1.cave with logOpen := some (b, 1), logBseq := s1.cave.bseq, bseq := s1.cave.bseq + 1 } }
  | none => s1

/-- The end of step 6, for the cave itself: MOUNTED, READONLY or FAILED, with its advice (R427, R444, R445, R450). -/
def State.mountEnd (s : State) : State :=
  let s0 := s.takeStandbyReq
  if s0.caveTooSmall then ({ s0 with cave := { s0.cave with mode := .failed } }).advise 10 2
  else
    let early := s0.cave.logProg.length
    let waiting := s0.cave.logProg ++ s0.cave.logCur
    let named := renumber s0.cave.mount s0.cave.logNext waiting
    let c1 : CaveSt := { s0.cave with
      mode := .mounted, level := 10000, logProg := named.take early, logCur := named.drop early
      logNext := s0.cave.logNext + waiting.length
      pass := true, passRow := 0, passAt := s0.now, ckptAt := s0.now + secAng 86400
      wearAt := s0.now + secAng 3600 }
    let s1 : State := { s0 with cave := c1 }
    let s2 := s1.openBlocks
    let s3 := if s2.cave.rebuilt then s2.logCave 5 0 else s2
    let s4 := s3.poolChanged
    if s4.cave.mode = .mounted then
      let s5 := if s4.cave.logProg.isEmpty then s4 else s4.startLogProgram
      (if s5.cave.logCur.any (fun e => e.src == 1 || e.src == 5 || e.src == 6) then s5.flushLog else s5).startRecWrite
    else s4

/-- The reads and writes of the mount have ended: what MOUNT_DONE waits for. -/
def State.mountReady (s : State) : Bool :=
  s.cave.mode == .mounting && decide (s.cave.mountStep = 7) && !s.hasJob .mount && !s.hasJob .rebuild && !s.hasJob .ctab

/-! ### Refresh, wear and retirement (R439 to R443) -/

/-- The slot of an image block. -/
def State.slotOfBlock (s : State) (b : Nat) : Nat := if b < s.imgBlocks / 2 then 0 else 1

/-- The loaded copy. -/
def State.loadedCopy (s : State) : Option (Nat × ImgCopy) :=
  match s.boot.copy with
  | some k => (s.copyIn k).map (fun c => (k, c))
  | none => none

/-- The good blocks of a slot (R437): the CTAB where the cave is mounted, otherwise the factory markers. -/
def State.goodSlotBlocks (s : State) (slot : Nat) : List Nat :=
  (s.slotBlocks slot).filter (fun b =>
    (if s.cave.mode = .mounted ∨ s.cave.mode = .readonly then !s.blockBad b else !s.marked b) && !s.cave.doomed.contains b)

/-- The page of an image copy as it is written to another slot: the tag page carries a new tag (R421, R437). -/
def imagePage (tag : Option BlockTag) (main : List Byte) : NandPage :=
  { main := main
    oob := match tag with
      | some t => [0xFF, 0xFF, 0xFF, 0xFF] ++ tagBytes t
      | none => [0xFF, 0xFF, 0xFF, 0xFF, 0xFF, 0xFF, 0, 0] }

/-- The operations that write the loaded copy into a slot with a GEN: each block erased, then its pages read and programmed. -/
def State.copyOps (s : State) (c : ImgCopy) (slot gen : Nat) (dst : List Nat) : List NandOp :=
  let len := natAt (s.copyHead c) 0xC 4
  let pages := (len + s.nand.page - 1) / s.nand.page
  (List.range c.blocks.length).flatMap (fun i =>
    let d := dst.getD i 0
    let n := Nat.min s.nand.ppb (pages - i * s.nand.ppb)
    NandOp.erase d :: (List.range n).flatMap (fun k =>
      let src := s.rowOf (c.blocks.getD i 0) k
      let tag : Option BlockTag := if k = 0 then some { slot := slot, index := i, count := c.blocks.length, gen := gen } else none
      [NandOp.read src, .program (s.rowOf d k) (imagePage tag (s.rowMain src))]))

/-- A rewrite of a slot from the loaded copy at priority 4 (R111, R440). -/
def State.startCopy (s : State) (slot gen : Nat) (kind : JobKind) : State :=
  match s.loadedCopy with
  | some (k, c) =>
    let dst := s.goodSlotBlocks slot
    if k = slot ∨ dst.length < c.blocks.length ∨ s.cave.imgUpd.isSome then s
    else
      let free := dst.drop c.blocks.length
      s.addJob kind 4 (s.copyOps c slot gen dst ++ (free.filter (fun b => !s.rowErased (s.rowOf b 0))).map NandOp.erase)
  | none => s

/-- A repair or a refresh of an image slot is queued or under way (R437, R446). -/
def State.imgWriting (s : State) : Bool :=
  s.nand.jobs.any (fun j => match j.kind with
    | .repair _ => true
    | .imgRefresh _ _ => true
    | _ => false)

/-- The move of a pool block into another (R440, R443): every page that can be read, then the erase and the new header, but for a block that
is to be retired, which its retirement erases. -/
def State.moveOps (s : State) (src dst : Nat) : List NandOp :=
  (s.dataRows src).flatMap (fun r => [NandOp.read r, .program (s.rowOf dst (r % s.nand.ppb)) (s.nandPage r)]) ++
    (if s.cave.doomed.contains src then [] else s.eraseOps src)

/-- A move begins; the block is no longer open. -/
def State.startMove (s : State) (src dst : Nat) : State :=
  let c := s.cave
  let c1 := { c with
    recOpen := if c.recOpen.any (fun p => p.1 == src) then none else c.recOpen
    logOpen := if c.logOpen.any (fun p => p.1 == src) then none else c.logOpen }
  let s1 := { s with cave := c1 }
  s1.addJob (.move src dst) 4 (s1.moveOps src dst)

/-- Retirement begins: the erase, and page 0 with every byte 0x00, failures ignored (R443). -/
def State.startRetire (s : State) (b : Nat) : State :=
  s.addJob (.retire b) 4 [.erase b, .program (s.rowOf b 0) { main := padBytes s.nand.page 0, oob := padBytes s.nand.spare 0 }]

/-- A move, a retirement or an image rewrite is queued or under way. -/
def State.serviceBusy (s : State) : Bool :=
  s.imgWriting || s.nand.jobs.any (fun j => match j.kind with
    | .move _ _ => true
    | .retire _ => true
    | _ => false)

/-- The block belongs to the loaded copy. -/
def State.inLoadedCopy (s : State) (b : Nat) : Bool :=
  match s.loadedCopy with
  | some (_, c) => c.blocks.contains b
  | none => false

/-- The operation writes the block. -/
def State.opWrites (s : State) (b : Nat) : NandOp → Bool
  | .read _ => false
  | .program row _ => row / s.nand.ppb == b
  | .erase k => k == b

/-- A page of the block waits to be programmed, or the block to be erased: by a run that is queued, a collection among them, for the record being
written, or for the log buffer. -/
def State.blockWritten (s : State) (b : Nat) : Bool :=
  s.nand.jobs.any (fun j => j.todo.any (s.opWrites b)) || s.cave.recBusy.any (fun w => w.2.1 == b) || (!s.cave.logProg.isEmpty && s.cave.logOpen.any (fun p => p.1 == b))

/-- The next step for a block that is due for refresh or for retirement; none if nothing can be done for it now: the slot that holds the
loaded copy is not written (R96). -/
def State.serviceBlock (s : State) (b : Nat) (dead : Bool) : Option State :=
  if b < s.imgBlocks then
    let gen := s.boot.imgGen.toNat
    if s.inLoadedCopy b then
      if s.cave.imgRef || s.cave.imgUpd.isSome || s.imgWriting then none
      else
        let other := 1 - s.slotOfBlock b
        let s1 := s.startCopy other (gen + 1) (.imgRefresh other (gen + 1))
        if s1.imgWriting then some { s1 with cave := { s1.cave with imgRef := true } } else none
    else if dead then (if s.boot.copy = some (s.slotOfBlock b) then none else some (s.startRetire b))
    else if s.boot.copy.isSome && !s.cave.imgUpd.isSome && !s.imgWriting then
      let slot := s.slotOfBlock b
      let s1 := s.startCopy slot gen (.imgRefresh slot gen)
      some { s1 with cave := { s1.cave with due := s1.cave.due.filter (fun x => x != b) } }
    else none
  else if b < s.imgBlocks + 8 then
    let s1 := if b = s.cave.ctabBlock ∨ dead = false then s.writeCtab else s
    if dead then some (s1.startRetire b)
    else some { s1 with cave := { s1.cave with due := s1.cave.due.filter (fun x => x != b), reads := withCount s1.cave.reads b 0 } }
  else if s.blockWritten b then none
  else if s.blockArea b = some 1 ∨ s.blockArea b = some 2 then s.pickSpare.map (s.startMove b)
  else if dead then some (s.startRetire b)
  else some { s with cave := { s.cave with due := s.cave.due.filter (fun x => x != b) } }

/-- The first block of a list for which something can be done. -/
def State.serviceFirst (s : State) (dead : Bool) : List Nat → Option State
  | [] => none
  | b :: t => match s.serviceBlock b dead with
    | some s1 => some s1
    | none => s.serviceFirst dead t

/-- Maintenance takes up the next block, if none is being served (R440, R443). In an entry nothing new begins (R447). In recovery mode, without
a mounted cave, only the image blocks that have failed are retired (R437, R451). -/
def State.caveService (s : State) : State :=
  if s.serviceBusy || s.entering || !(s.cave.mode == .mounted || s.boot.recovery) then s
  else match s.serviceFirst true s.cave.doomed with
    | some s1 => s1
    | none => (s.serviceFirst false s.cave.due).getD s

/-- A block has been retired: the CTAB, NTC_CAVE event 1, the log entry, and the pool (R443). -/
def State.retired (s : State) (b : Nat) : State :=
  let s1 := { s with cave := { s.cave with
    bad := addBlock s.cave.bad b, grown := s.cave.grown + 1, doomed := s.cave.doomed.filter (fun x => x != b)
    due := s.cave.due.filter (fun x => x != b) } }
  if s1.caveUp then
    (((s1.notice 0x14 (bytesLE 1 1 ++ [0] ++ bytesLE 4 b)).logCave 1 b).poolChanged).writeCtab
  else s1

/-! ### Collection (R433) -/

/-- The current slots of a RECORDS block. -/
def State.currentIn (s : State) (b : Nat) : List (Nat × Nat) :=
  ((List.range s.slotsPerBlock).map (fun k => (b, k))).filter (fun p =>
    let k := recKey (s.slotBytes p.1 p.2)
    s.slotOk p && decide (s.currentSlot k.1 k.2 = some p))


/-- The block that collection chooses: fewest current slots, then the lower erase count; never the open one. -/
def State.collectBlock (s : State) : Option Nat :=
  leastBy (fun b => (s.currentIn b).length * 2 ^ 32 + s.blockErases b)
    ((s.areaBlocks 0x01).filter (fun b =>
      decide (s.cave.recOpen.map Prod.fst ≠ some b) && !s.cave.doomed.contains b && !s.blockWritten b))

/-- The copies of current slots into the open block, RSEQ and content kept. -/
def State.collectOps (s : State) : List (Nat × Nat) → Option (List NandOp × State)
  | [] => some ([], s)
  | p :: t =>
    match s.allocSlot true with
    | none => none
    | some ((b, k), s1) =>
      let rd := (List.range s.slotPages).map (fun i => NandOp.read (s.slotRow p.1 p.2 + i))
      let wr := s1.slotOps b k s1.cave.recBseq (s.slotBytes p.1 p.2)
      match s1.collectOps t with
      | none => none
      | some (l, s2) => some (rd ++ wr ++ l, s2)

/-- A collection run is queued. -/
def State.collecting (s : State) : Bool := s.nand.jobs.any (fun j => match j.kind with
  | .collect _ => true
  | _ => false)

/-- Collection begins when fewer than 16 erased slots remain; while fewer than 4 do it runs at priority 2 (R433). In an entry nothing new
begins (R447). -/
def State.collectIfLow (s : State) : State :=
  if s.collecting then
    { s with nand := { s.nand with jobs := s.nand.jobs.map (fun (j : NandJob) => match j.kind with
      | .collect _ => { j with prio := if s.erasedSlots < 4 then 2 else 4 }
      | _ => j) } }
  else if s.cave.mode = .mounted ∧ s.erasedSlots < 16 ∧ s.entering = false then
    match s.collectBlock with
      | none => s
      | some b => match s.collectOps (s.currentIn b) with
        | some (ops, s1) => s1.addJob (.collect b) (if s.erasedSlots < 4 then 2 else 4) (ops ++ s1.eraseOps b)
        | none => s
  else s

/-! ### Record writes and reads (R432, R448) -/

/-- The operations of a collection without those of a slot that it has not begun to copy. -/
def skipSlot (row pages : Nat) : List NandOp → List NandOp
  | [] => []
  | .read r :: t => if r = row then t.drop (2 * pages - 1) else .read r :: skipSlot row pages t
  | op :: t => op :: skipSlot row pages t

/-- A slot that is no longer current is not copied: the collections that are queued leave it out (R433). -/
def State.skipOld (s : State) (old : Option (Nat × Nat)) : State :=
  match old with
  | none => s
  | some p => { s with nand := { s.nand with jobs := s.nand.jobs.map (fun (j : NandJob) => match j.kind with
      | .collect _ => { j with todo := skipSlot (s.slotRow p.1 p.2) s.slotPages j.todo }
      | _ => j) } }

/-- The version of a record that was current before the one in a slot. -/
def State.olderSlot (s : State) (kind index : Nat) (p : Nat × Nat) : Option (Nat × Nat) :=
  (sortFalling (fun q => recSeq (s.slotBytes q.1 q.2)) ((s.versions kind index).filter (fun q => decide (q ≠ p)))).head?

/-- RECORD_WRITE_DONE: the last page has programmed without P_FAIL and the version is current; a failed one is written again to another
slot (R432, R433, R443). -/
def State.recordWriteDone (s : State) : State :=
  match s.finished (fun k => decide (k = .recWrite)), s.cave.recBusy with
  | some j, some (w, b, k) =>
    let s1 := s.dropJob .recWrite
    let s2 := match j.failed with
      | some _ => { s1 with cave := { s1.cave with
          recBusy := none, recOpen := none
          recQueue := if s1.cave.recQueue.any (fun q => q.kind == w.kind && q.index == w.index) then s1.cave.recQueue else w :: s1.cave.recQueue } }
      | none => ({ s1 with cave := { s1.cave with recBusy := none } }).skipOld (s1.olderSlot w.kind w.index (b, k))
    ((s2.collectIfLow).startRecWrite).caveService.nandPick
  | _, _ => s

/-! ### The log (R435, R436) -/

/-- A log page has been programmed; the waiting buffer follows if it must. -/
def State.logProgrammed (s : State) (failed : Bool) : State :=
  if failed then ({ s with cave := { s.cave with logOpen := none } }).startLogProgram
  else
    let s1 := { s with cave := { s.cave with logProg := [] } }
    if s1.cave.logForce then s1.flushLog else s1

/-- LOG_FLUSH: NVM_LOGCFG.FLUSH seconds since the oldest entry of the buffer (R435). -/
def State.logFlushDue (s : State) : State :=
  if s.cave.mode = .mounted ∧ s.cave.logCur ≠ [] ∧ s.cave.logAt + secAng (s.fld 0xA0034 15 0) ≤ s.now then s.flushLog else s

/-- An entry in one of the page buffers. -/
def State.bufferedEntry (s : State) (num : Nat) : Option LogEntry :=
  (s.cave.logProg ++ s.cave.logCur).find? (fun e => e.num == num)

/-- The row of the LOG page that holds an entry. -/
def State.entryRow (s : State) (num : Nat) : Option Nat :=
  (((s.areaBlocks 0x02).flatMap s.dataRows).filter (fun r => !s.cave.unread.contains r)).find? (fun r => (logEntries 400 (s.rowMain r)).any (fun e => e.num == num))

/-- NVM_LOGOLD: the lowest NUM still held (R435). -/
def State.logOldest (s : State) : Nat :=
  let first := ((s.areaBlocks 0x02).flatMap s.dataRows).filterMap (fun r => ((logEntries 1 (s.rowMain r)).head?).map (fun e => e.num))
  let buf := (s.cave.logProg ++ s.cave.logCur).map (fun e => e.num)
  ((leastOf (first ++ buf))).getD s.cave.logNext

/-! ### The minute, the hour and the pass (R438, R441, R442) -/

/-- The REQ of the erase of a block: its header, for an image block the checkpoint it was written under, and for a BBT block that of its first
CTAB (R439, log entry 27). -/
def State.stampOf (s : State) (b : Nat) : Nat :=
  if b < s.imgBlocks then ((s.cave.imgStamp.find? (fun p => p.1 == b)).map Prod.snd).getD s.cave.mountReq
  else if b < s.imgBlocks + 8 then natAt (s.rowMain (s.rowOf b 0)) 28 8
  else s.blockStamp b

/-- The blocks that hold data and whose retention limit has passed (R439). -/
def State.agedBlocks (s : State) : List Nat :=
  let lim := s.fld 0xA002C 23 0 * 3840
  let img := match s.boot.copy with
    | some _ => (s.slotTags 0 ++ s.slotTags 1).map Prod.fst
    | none => []
  (img ++ [s.cave.ctabBlock] ++ s.areaBlocks 0x01 ++ s.areaBlocks 0x02).filter (fun b =>
    !s.blockBad b && decide (lim < s.cave.req - s.stampOf b))

/-- A checkpoint of REQ: a CTAB, and the cave's event 6 (R436, R438). -/
def State.reqCheckpoint (s : State) : State :=
  let s1 := s.writeCtab
  s1.logCave 6 s1.cave.ctabBlock

/-- RETENTION_TICK: once per minute REQ rises, whatever the cave's state; aged blocks become due, and the checkpoint follows every 24 hours of RUN
(R438 to R440). -/
def State.retentionTick (s : State) : State :=
  if s.running ∧ s.cave.tickAt ≤ s.now then
    let t := s.health.tj
    let s1 := { s with cave := { s.cave with req := s.cave.req + retentionStep (lifeBand t), tickAt := s.cave.tickAt + secAng 60 } }
    if s.cave.mode = .mounted ∨ s.cave.mode = .readonly then
      let s2 := s1.agedBlocks.foldl State.dueBlock s1
      let s3 := if s2.cave.ckptAt ≤ s2.now ∧ s2.cave.mode = .mounted then
          ({ s2 with cave := { s2.cave with ckptAt := s2.cave.ckptAt + secAng 86400 } }).reqCheckpoint
        else s2
      s3.caveService
    else s1
  else s

/-- The next programmed row of the cave from a row on. -/
def State.nextScrubRow (s : State) (from_ : Nat) : Option Nat :=
  ((s.nand.pages.map Prod.fst).find? (fun r => decide (from_ ≤ r) && !s.blockBad (if s.nand.ppb = 0 then 0 else r / s.nand.ppb)))

/-- REFRESH_PASS_PAGE: one page of the refresh pass is read at priority 4; at the end NTC_CAVE event 2, and the pass starts again
(R441). -/
def State.refreshPassPage (s : State) : State :=
  let busy := s.nand.jobs.any (fun j => match j.kind with
    | .scrub _ => true
    | _ => false)
  if s.running && (s.cave.mode == .mounted || s.cave.mode == .readonly) && s.cave.pass && !busy then
    match s.nextScrubRow s.cave.passRow with
    | some r => ({ s with cave := { s.cave with passRow := r + 1 } }).addJob (.scrub r) 4 [.read r]
    | none =>
      (({ s with cave := { s.cave with passRow := 0, passAt := s.now } }).notice 0x14 (bytesLE 1 2 ++ [0] ++ bytesLE 4 0)).logCave 2 0
  else s

/-- WEAR_LEVEL_CHECK: once per hour of RUN, the least-erased data block moves into the most-erased SPARE block; while that cannot begin, the hour's
check stays due (R442, R446, R447). -/
def State.wearLevelCheck (s : State) : State :=
  if s.running ∧ s.cave.mode = .mounted ∧ s.cave.wearAt ≤ s.now then
    let s1 := { s with cave := { s.cave with wearAt := s.cave.wearAt + secAng 3600 } }
    match leastBy (fun b => 0xFFFFFFFF - s.blockErases b) s.spareBlocks, leastBy s.blockErases (s.areaBlocks 0x01 ++ s.areaBlocks 0x02) with
    | some d, some b =>
      if s.blockErases b + s.fld 0xA0028 31 16 < s.blockErases d then
        (if s.serviceBusy ∨ s.entering = true ∨ s.blockWritten b = true then s else s1.startMove b d)
      else s1
    | _, _ => s1
  else s

/-! ### Image updates (R437) -/

/-- The best copy's GEN in a slot, one above it; 0 with no copy. -/
def State.slotGen (s : State) (slot : Nat) : Nat := ((s.copyIn slot).map (fun c => c.gen + 1)).getD 0

/-- The slot an update writes, and its GEN. -/
def State.updateTarget (s : State) : Nat × Nat :=
  match s.boot.copy with
  | some k => (1 - k, s.boot.imgGen.toNat + 1)
  | none =>
    let slot := if s.slotGen 1 < s.slotGen 0 then 1 else 0
    (slot, highest 0 ((s.slotTags 0 ++ s.slotTags 1).map (fun p => p.2.gen)) + 1)

/-- The operations that program the page just filled: an erase and the tag page where a block begins. -/
def State.updPageOps (s : State) (u : ImgUpd) (pageNo : Nat) (bytes : List Byte) : List NandOp :=
  let i := pageNo / s.nand.ppb
  let k := pageNo % s.nand.ppb
  let b := u.used.getD i 0
  let tag : Option BlockTag := if k = 0 then some { slot := u.slot, index := i, count := u.count, gen := u.gen } else none
  (if k = 0 then [NandOp.erase b] else []) ++
    [.program (s.rowOf b k) (imagePage tag (bytes ++ padBytes (s.nand.page - bytes.length) 0xFF))]

/-- The next full buffer is programmed, if none is (R437). -/
def State.updProgram (s : State) : State :=
  match s.cave.imgUpd with
  | some u =>
    if s.hasJob .imgPage then s
    else match u.full with
      | [] => s
      | b :: _ =>
        ({ s with cave := { s.cave with imgUpd := some { u with pages := u.pages + 1 } } }).addJob .imgPage 3 (s.updPageOps u u.pages b)
  | none => s

/-- The pages of the new copy, read back. -/
def State.updRows (s : State) (u : ImgUpd) : List Nat := s.copyRows { gen := u.gen, blocks := u.used } 0 u.len

/-- After IMG_END, with every page programmed: the good blocks of the slot that the copy does not use are erased (R437). -/
def State.updEraseRest (s : State) (u : ImgUpd) : State :=
  if u.free.isEmpty then s.addJob .imgCheck 3 ((s.updRows u).map NandOp.read) else s.addJob .imgEnd 3 (u.free.map NandOp.erase)

/-- A page of the update has been programmed: the next buffer, or after IMG_END the erase of what the copy does not use. -/
def State.updPageDone (s : State) (failed : Bool) : State :=
  match s.cave.imgUpd with
  | some u =>
    if failed then s.updFail u
    else
      let u1 := { u with full := u.full.drop 1 }
      let s1 := { s with cave := { s.cave with imgUpd := some u1 } }
      if u1.full.isEmpty ∧ u1.ended = true then
        s1.updEraseRest u
      else s1.updProgram
  | none => s

/-- What the copy does not use is erased: the copy is read back against checks 1 to 12 (R437). -/
def State.updEndDone (s : State) (failed : Bool) : State :=
  match s.cave.imgUpd with
  | some u => if failed then s.updFail u else s.addJob .imgCheck 3 ((s.updRows u).map NandOp.read)
  | none => s

/-- IMAGE_CHECK_DONE: the result of an update; a copy that fails has its block 0 erased (R437). -/
def State.imageCheckDone (s : State) : State :=
  match s.finished (fun k => decide (k = .imgCheck)), s.cave.imgUpd with
  | some j, some u =>
    let code := s.candidateCode { gen := u.gen, blocks := u.used } j.bad
    let s1 := s.dropJob .imgCheck
    let s2 := ({ s1 with cave := { s1.cave with imgUpd := none } }).imageNotice code u.slot u.gen
    (if code = 0 then s2 else s2.addJob (.imgDrop u.slot) 3 [.erase (u.used.getD 0 0)]).nandPick
  | _, _ => s

/-- IMAGE_REPAIR_END: the rewrite of a failed slot has ended (R111). -/
def State.imageRepairEnd (s : State) : State :=
  match s.finished (fun k => match k with
    | .repair _ => true
    | _ => false) with
  | some j =>
    let s1 := s.dropJob j.kind
    (((({ s1 with boot := { s1.boot with repair := false } }).notice 0x14 (bytesLE 1 4 ++ [0] ++ bytesLE 4 0)).logCave 4 0).caveService).nandPick
  | none => s

/-! ### The end of a run (R432 to R443) -/

/-- A run of the mounted cave has ended. The runs that RECORD_WRITE_DONE, MOUNT_DONE, IMAGE_CHECK_DONE, IMAGE_REPAIR_END and
MODEL_LOAD_DONE take up stay in the queue without operations. -/
def State.caveJobDone (s : State) (j : NandJob) : State :=
  let failed := j.failed.isSome
  let s1 := s.dropJob j.kind
  match j.kind with
  | .mount => s1.mountGo 8
  | .rebuild => s1
  | .ctab => if failed then s1.writeCtab else s1
  | .logProgram => s1.logProgrammed failed
  | .recFetch kind index =>
    if j.bad.isEmpty then { s1 with cave := { s1.cave with recCache := (s1.recordBody kind index).map (fun b => (kind, index, b)) } }
    else match s1.currentSlot kind index with
      | some p => s1.addJob (.recFetch kind index) 1 ((s1.slotRows p).map NandOp.read)
      | none => s1
  | .logFetch num =>
    { s1 with cave := { s1.cave with logCache := (s1.entryRow num).bind (fun r =>
      (logEntries 400 (s1.rowMain r)).find? (fun e => e.num == num)) } }
  | .sessFetch => s1
  | .collect _ => (s1.collectIfLow).startRecWrite
  | .move src _ =>
    let s2 := if failed then s1 else { s1 with cave := { s1.cave with due := s1.cave.due.filter (fun x => x != src) } }
    if s2.cave.doomed.contains src && !failed then s2.startRetire src else s2
  | .retire b => s1.retired b
  | .imgRefresh slot _ => { s1 with cave := { s1.cave with
      due := s1.cave.due.filter (fun b => !(decide (b < s1.imgBlocks) && s1.slotOfBlock b == slot)) } }
  | .imgPage => s1.updPageDone failed
  | .imgEnd => s1.updEndDone failed
  | .imgDrop _ => s1
  | .scrub _ => s1
  | .rest => s1
  | _ => s

/-- The run waits for a command of its own once its operations have ended. -/
def JobKind.hasOwnEnd : JobKind → Bool
  | .recWrite => true
  | .imgCheck => true
  | .repair _ => true
  | .model _ _ => true
  | _ => false

/-! ### Resets and register views (R449, R451, R452) -/

/-- An erase that a reset cuts off leaves the block without a valid header or tag; a program cut off leaves its page unwritten (R449, Table
Cave.12). -/
def State.cutOff (s : State) : State :=
  match s.actJob with
  | some (_, .erase b) => s.erasePages b
  | _ => s

/-- The cave begins to mount: after the load commit, and after RUN reached (R427, R451). What the page reads of the start-up have shown of
their blocks stands, and so do moves that an entry has put off (R108, R439, R443, R447). -/
def State.startMounting (s : State) : State :=
  let c := s.cave
  { s with cave := { ({} : CaveSt) with
      mode := .mounting, logCur := c.logCur, logProg := c.logProg, logAt := c.logAt, recQueue := c.recQueue, reads := c.reads, due := c.due
      doomed := c.doomed, imgStamp := c.imgStamp, tickAt := if c.tickAt = 0 then s.now + secAng 60 else c.tickAt } }

/-- What the cave keeps in STANDBY: record writes that the estimator still makes there, and the moves not yet begun (R447). -/
def CaveSt.asleep (c : CaveSt) : CaveSt := { recQueue := c.recQueue, due := c.due, doomed := c.doomed, imgStamp := c.imgStamp }

/-- The codes of NVM_STAT.STATE. -/
def CaveMode.code : CaveMode → Nat
  | .unmounted => 0
  | .mounting => 1
  | .mounted => 2
  | .readonly => 3
  | .failed => 4

/-- The mount has numbers to show. -/
def State.caveKnown (s : State) : Bool := s.cave.mode == .mounted || s.cave.mode == .readonly || s.cave.mode == .failed

/-- The computed words of the NVM block; none for a plain register (Table Cave.13). -/
def State.nvmWord (s : State) (off : Nat) : Option Word :=
  let n := s.nand
  let c := s.cave
  let k := s.caveKnown
  let w := fun (v : Nat) => some (BitVec.ofNat 32 v)
  let erases := (s.goodPool.filter s.headerOk).map s.blockErases
  match off with
  | 0x00 => w n.id.toNat
  | 0x04 => w (atBit (n.blocks % 65536) 16 + atBit ((if n.present then n.ppb else 0) % 256) 8 + b2n (decide (n.page = 4096)))
  | 0x0C => some (bootBusOf s.otp.nvmBoot.toNat (s.life.state == .blank))
  | 0x10 => w (atBit (b2n c.pass) 6 + atBit (b2n c.imgRef) 5 + atBit (b2n c.imgUpd.isSome) 4 + c.mode.code)
  | 0x14 => w (if k then atBit s.recBlocks 16 + s.logBlocks else 0)
  | 0x18 => w (if k then atBit s.spareLevel 16 + s.spareCount.toNat % 65536 else 0)
  | 0x20 => w (atBit (b2n c.wm.flag) 31 + atBit (c.wm.peak % 16384) 16 + c.wm.count)
  | 0x38 => w (c.req % 2 ^ 32)
  | 0x3C => w (c.req / 2 ^ 32 % 2 ^ 32)
  | 0x44 => w (if k then atBit ((c.bad.length - c.grown) % 65536) 16 + c.grown % 65536 else 0)
  | 0x48 => w (if k then highest 0 erases else 0)
  | 0x4C => w (if k then (leastOf erases).getD 0 else 0)
  | 0x50 => w (if k then c.logNext else 0)
  | 0x54 => w (if k then s.logOldest else 0)
  | 0x5C => w (if k then c.rseq else 0)
  | 0x60 => w c.mount
  | _ => none

/-- The NVM words that fail the checks (Table Cave.14). -/
def nvmFails (c : Nat → Word) : List Nat :=
  let f := fun (b : Bool) (a : Nat) => if b then [a] else []
  f (decide (fieldOf (c 0xA0008) 1 0 = 3)) 0xA0008 ++
  f (decide (fieldOf (c 0xA0024) 4 0 < 5 ∨ 16 < fieldOf (c 0xA0024) 4 0)) 0xA0024 ++
  f (decide (fieldOf (c 0xA0028) 15 0 = 0)) 0xA0028 ++
  f (decide (fieldOf (c 0xA002C) 31 24 = 0 ∨ 60 < fieldOf (c 0xA002C) 31 24 ∨ fieldOf (c 0xA002C) 23 0 = 0)) 0xA002C ++
  f (decide (fieldOf (c 0xA0030) 7 0 = 0)) 0xA0030 ++
  f (decide (fieldOf (c 0xA0034) 15 0 = 0)) 0xA0034

end Sys2Proof.Machine
end

