-- ==== Sys2Proof/Machine/Battery.lean ====
section
/-!
DEFINITION. The battery estimator: curds, temperatures, charge counting, anchors, states of charge, pack identification, the pack session
and pack records (14_battery.md, R453 to R487).
-/

namespace Sys2Proof.Machine

/-- The filtered level that an input of the rind holds: 0 wheel comparator, 1 OPEN, 2 SHUT, 3 charger-detect, 4 pack-present, 5 tamper. -/
def State.rindKept (s : State) (i : Fin 6) : InLevel := s.rind.inputs[i]

/-- An input is in use: WHEEL with WEN, TAMPER with TAMPEN (R89, R521). -/
def State.rindUsed (s : State) (i : Fin 6) : Bool :=
  if i = 0 then s.bit 0xD0004 8 else if i = 5 then s.bit 0xD0004 10 else true

/-- The filtered level of an input as it reads: an unused one reads UNKNOWN and keeps its level (R89, R543). -/
def State.rindIn (s : State) (i : Fin 6) : InLevel := if s.rindUsed i then s.rindKept i else .unknown

/-! ### Record bodies (Table Bat.6) -/

/-- A list of numbers as fields of `k` bytes. -/
def packNats (k : Nat) (l : List Nat) : List Byte := l.flatMap (bytesLE k)

/-- `n` fields of `k` bytes from an offset. -/
def unpackNats (b : List Byte) (o k n : Nat) : List Nat := (List.range n).map (fun i => natAt b (o + k * i) k)

/-- The body of a pack record. -/
def PackRec.bytes (r : PackRec) : List Byte :=
  let i8 := fun (v : Int) => bytesLE 8 (wrapInt 64 v)
  let i2 := fun (v : Int) => bytesLE 2 (wrapInt 16 v)
  bytesLE 8 r.id ++ bytesLE 4 r.first ++ bytesLE 4 r.last ++ bytesLE 4 r.lastSess ++ bytesLE 4 r.sessions ++ bytesLE 4 r.cycles ++
    bytesLE 2 (b2n r.opened + 2 * b2n r.anch + 4 * b2n r.uncert + 8 * b2n r.capv + 16 * b2n r.fullv + 32 * b2n r.emptyv) ++
    bytesLE 2 r.socrep ++ i8 r.q ++ i8 r.qa ++ bytesLE 2 r.sa ++ bytesLE 1 r.akind ++ [0] ++ bytesLE 4 r.capmeas ++ i8 r.qfull ++
    i8 r.qempty ++ bytesLE 8 r.qin ++ bytesLE 8 r.qout ++ bytesLE 8 r.cycacc ++ packNats 2 r.counts ++ bytesLE 4 r.vmax ++
    bytesLE 4 r.vmin ++ bytesLE 4 (wrapInt 32 r.icmax) ++ bytesLE 4 (wrapInt 32 r.idmax) ++ r.tmax.flatMap i2 ++ r.tmin.flatMap i2 ++
    padBytes 8 0 ++ packNats 2 r.ztab ++ packNats 1 r.zcnt ++ packNats 4 r.htemp ++ packNats 4 r.hsoc ++ packNats 4 r.hcur ++
    packNats 4 r.hdod ++ r.sess

/-- The record that a body holds. -/
def packOf (b : List Byte) : PackRec :=
  let f := natAt b 0x1C 2
  let i8 := fun (o : Nat) => signedOf 64 (natAt b o 8)
  let i2s := fun (o : Nat) => (unpackNats b o 2 4).map (signedOf 16)
  { id := natAt b 0 8, first := natAt b 8 4, last := natAt b 0xC 4, lastSess := natAt b 0x10 4, sessions := natAt b 0x14 4
    cycles := natAt b 0x18 4, opened := f.testBit 0, anch := f.testBit 1, uncert := f.testBit 2, capv := f.testBit 3
    fullv := f.testBit 4, emptyv := f.testBit 5, socrep := natAt b 0x1E 2, q := i8 0x20, qa := i8 0x28, sa := natAt b 0x30 2
    akind := natAt b 0x32 1, capmeas := natAt b 0x34 4, qfull := i8 0x38, qempty := i8 0x40, qin := natAt b 0x48 8
    qout := natAt b 0x50 8, cycacc := natAt b 0x58 8, counts := unpackNats b 0x60 2 4, vmax := natAt b 0x68 4, vmin := natAt b 0x6C 4
    icmax := signedOf 32 (natAt b 0x70 4), idmax := signedOf 32 (natAt b 0x74 4), tmax := i2s 0x78, tmin := i2s 0x80
    ztab := unpackNats b 0x90 2 64, zcnt := unpackNats b 0x110 1 64, htemp := unpackNats b 0x150 4 16, hsoc := unpackNats b 0x190 4 16
    hcur := unpackNats b 0x1D0 4 16, hdod := unpackNats b 0x210 4 16, sess := slice b 0x250 512 }

/-! ### Configuration, measurement and temperature (R455, R456) -/

/-- The estimator is enabled. -/
def State.batOn (s : State) : Bool := s.bit 0xB0000 0

/-- The words that windows use, in a register contents. -/
def curdCal (c : Nat → Word) : CurdCal := { iscale := c 0xB0004, iofs := c 0xB0008, iinv := bitOf (c 0xB0000) 1 }

/-- The words for the window that began in cycle `w`: a commit applies to windows that begin after its cycle (R482). -/
def State.windowCal (s : State) (w : Nat) : CurdCal := ((s.bat.calOld.find? (fun p => decide (w ≤ p.1))).map Prod.snd).getD (curdCal s.reg)

/-- The offset- and sign-corrected code, its product with ISCALE, and IPACK from that (R455). -/
def CurdCal.code (k : CurdCal) (c : Int) : Int :=
  let v := c - signedOf 24 (fieldOf k.iofs 23 0)
  if k.iinv then -v else v
def CurdCal.current (k : CurdCal) (c : Int) : Int := k.code c * Int.ofNat k.iscale.toNat
def ipackOf (i : Int) : Int := Int.fdiv i (2 ^ 24)

/-- Entry `k` of the NTC table. -/
def ntcEntry (c : Nat → Word) (k : Nat) : Nat := (c (0xB0040 + 4 * k)).toNat

/-- Status and temperature in 0.01 °C of an NTC at `uv` microvolts (R456). -/
def State.ntcTemp (s : State) (n : Nat) (uv : Nat) : Nat × Int :=
  let r := uv / 10
  let e := ntcEntry s.reg
  if !s.bit 0xB0000 (8 + n) then (3, -32768)
  else if 3900000 < uv then (1, -32768)
  else if uv < 10000 then (2, -32768)
  else if e 0 < r then (0, -4000)
  else if r ≤ e 32 then (0, 12000)
  else match (List.range 32).find? (fun k => decide (r ≤ e k ∧ e (k + 1) < r)) with
    | some k => (0, -4000 + 500 * (k : Int) + Int.ofNat (500 * (e k - r) / (e k - e (k + 1))))
    | none => (0, -4000)

/-- What the front end delivers for one window. -/
structure Curd where
  vpack : Nat
  vovr : Bool
  /-- The corrected code by ISCALE, in mA Q32. -/
  i : Int
  ipack : Int
  iovr : Bool
  /-- Status and temperature of each NTC. -/
  ntc : List (Nat × Int)
deriving DecidableEq, Repr

/-- A curd from the raw readings: VPACK before the clamp, the MI code, overload, and the NTC voltages in microvolts. Overload sets IOVR only
with a code at an end of its range (R455, R456). -/
def State.curdOf (s : State) (k : CurdCal) (v : Nat) (code : BitVec 24) (excess : Bool) (ntc : List Nat) : Curd :=
  let i := k.current code.toInt
  { vpack := Nat.min v 900000, vovr := decide (900000 < v), i := i, ipack := ipackOf i
    iovr := excess && decide (code.toInt.natAbs = 8388607)
    ntc := (List.range 4).map (fun n => s.ntcTemp n (ntc.getD n 0)) }

/-- The temperatures of a curd that are valid. -/
def Curd.temps (c : Curd) : List Int := (c.ntc.filter (fun p => p.1 == 0)).map Prod.snd

/-- The hottest of a list of temperatures. -/
def hottest : List Int → Option Int
  | [] => none
  | t :: l => some (l.foldl (fun a b => if a < b then b else a) t)

/-- BAT_CURD0 to BAT_CURD7 (Table Bat.1). -/
def State.publishCurd (s : State) (c : Curd) (time : Nat) (stby gap est : Bool) : State :=
  let t := fun (i : Nat) => wrapInt 16 ((c.ntc.getD i (3, -32768)).2)
  let st := ((List.range 4).map (fun i => (c.ntc.getD i (3, 0)).1 * 4 ^ i)).sum
  let w6 := b2n stby + 2 * b2n c.vovr + 4 * b2n c.iovr + atBit st 4 + atBit (b2n gap) 12 + atBit (b2n est) 13
  let ws : List Word := [s.bat.seq, s.tnow time, BitVec.ofNat 32 c.vpack, wordOfInt c.ipack,
    BitVec.ofNat 32 (t 0 + atBit (t 1) 16), BitVec.ofNat 32 (t 2 + atBit (t 3) 16), BitVec.ofNat 32 w6, s.bat.seq]
  let s1 := (List.range 8).foldl (fun s i => s.setReg (0xB0130 + 4 * i) (ws.getD i 0)) s
  let s2 := if c.vovr then s1.orReg 0xB0120 2 else s1
  if c.iovr then s2.orReg 0xB0120 4 else s2

/-- NTCs that are OPEN or SHORT: NTCF, NTC_INPUT once each, and health (R485). -/
def State.ntcFaults (s : State) (c : Curd) : State :=
  (List.range 4).foldl (fun s n =>
    let st := (c.ntc.getD n (3, 0)).1
    if st = 1 ∨ st = 2 then
      let s1 := s.orReg 0xB0120 8
      if s1.bat.ntcTold.testBit n then s1
      else
        let s2 := { s1 with bat := { s1.bat with ntcTold := s1.bat.ntcTold + 2 ^ n } }
        (s2.notice 0x05 (bytesLE 1 (14 + n) ++ bytesLE 1 (4 + st))).advise 3 n
    else s) s

/-! ### Log entries and notices (R469, R476) -/

/-- The state with the estimator changed. -/
def State.setBat (s : State) (b : BatSt) : State := { s with bat := b }

/-- The record index and ID shown for the open session. -/
def State.packIndex (s : State) : Nat := (s.bat.session.map (fun x => x.index)).getD 0xFFFE

/-- A log entry of the estimator; events 4, 5, 7 and 9 are URGENT. -/
def State.batLog (s : State) (event index id : Nat) (data : List Byte) : State :=
  (s.logEntry 4 (bytesLE 1 event ++ [0] ++ bytesLE 2 index ++ bytesLE 8 id ++ data) (event == 4 || event == 5 || event == 7 || event == 9)).2

/-- NTC_PACK. -/
def State.packNotice (s : State) (event index id : Nat) : State :=
  s.notice 0x0D (bytesLE 1 event ++ [0] ++ bytesLE 2 index ++ bytesLE 8 id)

/-! ### The open record (R470, R474, R475) -/

/-- The record shown to the outside, with the values that live in the estimator. -/
def State.liveRecord (s : State) (x : SessionSt) (openFlag : Bool) : PackRec :=
  { x.record with
    opened := openFlag, last := (s.reg 0xB0128).toNat
    socrep := (s.bat.rep.map (fun r => ((r + 32768) / 65536).toNat)).getD 0xFFFF }

/-- The cave can store records. -/
def State.storing (s : State) : Bool := !(s.cave.mode == .readonly || s.cave.mode == .failed)

/-- A record body goes to the cave (R475). -/
def State.writePack (s : State) (index : Nat) (r : PackRec) : State :=
  if s.storing then
    if index = 0xFFFF then s.recordWrite 2 0 1 r.bytes else s.recordWrite 1 index 1 r.bytes
  else s.orReg 0xB0120 256

/-- A checkpoint of the open record (R475). -/
def State.checkpoint (s : State) : State :=
  match s.bat.session with
  | some x =>
    let r := s.liveRecord x true
    (s.setBat { s.bat with session := some { x with record := r } }).writePack x.index r
  | none => s

/-- The directory entry of a record replaced. -/
def dirSet (l : List PackDir) (e : PackDir) : List PackDir := e :: l.filter (fun d => d.index != e.index)

/-- The session summary (Table Bat.6). -/
def State.summary (s : State) (x : SessionSt) (socEnd : Nat) : List Byte :=
  bytesLE 4 x.startEpoch ++ bytesLE 4 (s.reg 0xB0128).toNat ++ bytesLE 4 (Nat.min 0xFFFFFFFF (x.powered / 4096000)) ++
    bytesLE 4 ((x.record.qin - x.startIn) / 65536) ++ bytesLE 4 ((x.record.qout - x.startOut) / 65536) ++ bytesLE 2 x.startSoc ++
    bytesLE 2 socEnd ++ bytesLE 2 (wrapInt 16 x.tmax) ++ bytesLE 2 (Nat.min 0xFFFF x.gaps) ++ bytesLE 4 x.record.lastSess

/-- `cap` in Q16 mAs (R465). -/
def State.packCap (s : State) (r : PackRec) : Nat := if r.capv then r.capmeas * 65536 else (s.reg 0xB0010).toNat * 65536

/-- The counted state of charge of a record before the clamp, in 0.01 %; none while it is not valid (R465). -/
def State.packSoc (s : State) (r : PackRec) : Option Int :=
  let cap := s.packCap r
  if !r.anch || cap = 0 then none else some (Int.fdiv ((r.q - r.qa) * 10000) cap + r.sa)

/-- The INSERT entry of a session that opened from IDENT, with the result of its insertion test: 1 a FULL anchor, 2 an EMPTY one, 0 none. It is
made once, when the test has ended or can no longer give an anchor (R476, log entry 126). -/
def State.insertEntry (s : State) (result : Nat) : State :=
  match s.bat.session with
  | some x =>
    if x.insertOwed then
      (s.setBat { s.bat with session := some { x with insertOwed := false } }).batLog 1 x.index x.record.id
        (bytesLE 2 (((s.packSoc x.record).map (fun v => (clampInt 0 10000 v).toNat)).getD 0xFFFF) ++
          bytesLE 1 (result + 4 * b2n (decide (result = 0) && x.record.uncert)))
    else s
  | none => s

/-- The open or held session closes: OPEN 0, the summary, LAST, the write, the CLOSE entry and NTC_PACK 5 (R469, R475). -/
def State.closeSession (s0 : State) : State :=
  let s := s0.insertEntry 0
  match s.bat.session with
  | some x =>
    let r0 := s.liveRecord x false
    let i := (r0.sessions - 1) % 16
    let r := { r0 with sess := patchBytes r0.sess (32 * i) (s.summary x r0.socrep) }
    let b := s.bat
    let s1 := s.setBat { b with
      session := none
      dir := if x.index = 0xFFFF then b.dir else dirSet b.dir { index := x.index, id := r.id, opened := false, lastSess := r.lastSess }
      cache := ((x.index, r) :: b.cache.filter (fun p => p.1 != x.index)).take 8 }
    let s2 := (s1.writePack x.index r).packNotice 5 x.index (if x.index = 0xFFFF then 0 else r.id)
    s2.batLog 5 x.index r.id (bytesLE 4 (Nat.min 0xFFFFFFFF (x.powered / 4096000)) ++ bytesLE 4 ((r.qout - x.startOut) / 65536))
  | none => s

/-- The provisional sum joins the session's charge and is cleared (Table Bat.4). -/
def State.takeProvisional (s : State) (r : PackRec) : PackRec :=
  { r with q := r.q + s.bat.provQ, qin := r.qin + s.bat.provIn, qout := r.qout + s.bat.provOut, cycacc := r.cycacc + s.bat.provOut }

/-- The provisional sum at 0. -/
def BatSt.clearProv (b : BatSt) : BatSt := { b with provQ := 0, provIn := 0, provOut := 0 }

/-- A session on a record: what it starts from (R465, R466, R469). -/
def State.newSession (s : State) (index : Nat) (r : PackRec) (test : Bool) : SessionSt :=
  { index := index, record := r, startEpoch := (s.reg 0xB0128).toNat, startIn := r.qin, startOut := r.qout, startSoc := r.socrep
    insert := if test then some (0, 0) else none }

/-- The record of an index: a cached one, or its current version on the NAND. -/
def State.packRecord (s : State) (index : Nat) : Option PackRec :=
  match s.bat.cache.find? (fun p => p.1 == index) with
  | some p => some p.2
  | none => (s.recordNow 1 index).map packOf

/-- The scratch record: a cached one, or its current version. -/
def State.scratchRecord (s : State) : Option PackRec :=
  match s.bat.cache.find? (fun p => p.1 == 0xFFFF) with
  | some p => some p.2
  | none => (s.recordNow 2 0).map packOf

/-- A record read for the link enters the cache of eight, of which the open one is one (R474). -/
def State.cacheRecord (s : State) : State :=
  match s.cave.recCache with
  | none => s
  | some (kind, index, body) =>
    let key := if kind = 2 then 0xFFFF else index
    let room := if s.bat.session.isSome then 7 else 8
    let s1 : State := { s with cave := { s.cave with recCache := none } }
    if s.bat.session.any (fun x => x.index == key) then s1
    else s1.setBat { s.bat with cache := ((key, packOf body) :: s.bat.cache.filter (fun p => p.1 != key)).take room }

/-- A cached record, which becomes the most recently used. -/
def State.takeCached (s : State) (key : Nat) : Option (List Byte × State) :=
  (s.bat.cache.find? (fun p => p.1 == key)).map (fun p =>
    (p.2.bytes, s.setBat { s.bat with cache := p :: s.bat.cache.filter (fun q => q.1 != key) }))

/-- A record as REC_READ finds it: the open one as it stands, or a cached one (R474). -/
def State.cachedRecord (s : State) (key : Nat) : Option (List Byte × State) :=
  match s.bat.session with
  | some x =>
    if x.index = key then some (({ s.liveRecord x true with last := x.record.last } : PackRec).bytes, s) else s.takeCached key
  | none => s.takeCached key

/-- The global session number (R473). -/
def State.nextSession (s : State) : Nat := (s.bat.dir.foldl (fun m d => Nat.max m d.lastSess) 0) + 1

/-- The record for an ID: a known one, the lowest free INDEX, or the least recently used one that is not OPEN (R473). The Bool says
that a record is evicted. -/
def State.choosePack (s : State) (id : Nat) : Nat × Bool :=
  match s.bat.dir.find? (fun d => d.id == id) with
  | some d => (d.index, false)
  | none =>
    match (List.range 256).find? (fun i => s.bat.dir.all (fun d => d.index != i)) with
    | some i => (i, false)
    | none => ((leastBy (fun i => ((s.bat.dir.find? (fun d => d.index == i)).map (fun d => d.lastSess)).getD 0)
        ((s.bat.dir.filter (fun d => !d.opened)).map (fun d => d.index))).getD 0, true)

/-- A record left OPEN is closed with UNCERT and no summary: its cached copy, its directory entry, and a write, which stamps LAST (R470,
R484). -/
def State.closeLeft (s : State) (key : Nat) (r : PackRec) : State :=
  let r1 := { r with opened := false, uncert := true, last := (s.reg 0xB0128).toNat }
  let b := s.bat
  (s.setBat { b with
    dir := if key = 0xFFFF then b.dir else dirSet b.dir { index := key, id := r.id, opened := false, lastSess := r.lastSess }
    cache := b.cache.map (fun p => if p.1 = key then (key, r1) else p) }).writePack key r1

/-- Records left OPEN by a reset are closed at the first identification, the scratch record among them (R484). -/
def State.closeStale (s : State) (except : Nat) : State :=
  let s1 := (s.bat.dir.filter (fun d => d.opened && d.index != except)).foldl (fun s d =>
    match s.packRecord d.index with
    | some r => s.closeLeft d.index r
    | none => s) s
  if s1.bat.scratchOpen then
    match s1.scratchRecord with
    | some r => (s1.setBat { s1.bat with scratchOpen := false }).closeLeft 0xFFFF r
    | none => s1
  else s1

/-- An identified session opens (R469, R473, R484). -/
def State.openPack (s : State) (id : Nat) : State :=
  let ch := s.choosePack id
  let i := ch.1
  let old := s.bat.dir.find? (fun d => d.index == i)
  let known := (s.bat.dir.any (fun d => d.id == id))
  let resume := known && !s.bat.identified && (old.any (fun d => d.opened))
  let s0 := if s.bat.identified then s else s.closeStale i
  let sess := s0.nextSession
  let base := if known then (s0.packRecord i).getD { id := id } else { id := id }
  let ep := (s0.reg 0xB0128).toNat
  let r0 := if resume then { base with uncert := true }
    else { base with
      sessions := satAdd 0xFFFFFFFF base.sessions 1, lastSess := sess, uncert := true
      first := if base.sessions = 0 then ep else base.first }
  let r := s0.takeProvisional { r0 with id := id, opened := true }
  let x := { s0.newSession i r0 (!resume) with record := r, insertOwed := !resume }
  let b := s0.bat
  let s1 := s0.setBat { b.clearProv with
    state := .active, session := some x, id := id, rem := 0, identified := true, idWait := none, attempt := none
    dir := dirSet b.dir { index := i, id := id, opened := true, lastSess := r.lastSess }
    cache := (b.cache.filter (fun p => p.1 != i)).take 7
    rep := if r.socrep = 0xFFFF then none else some ((r.socrep : Int) * 65536)
    ckptAt := s0.now + secAng (60 * s0.fld 0xB0000 31 24) }
  let s2 := if ch.2 then
      ((s1.orReg 0xB0120 32).satInc 0xB0124 31 16).batLog 7 i ((old.map (fun d => d.id)).getD 0) []
    else s1
  let s3 := s2.packNotice 1 i id
  let s4 := if resume then s3.batLog 8 i id (bytesLE 4 s3.lf)
    else if s3.fld 0xB0014 15 0 = 0 ∧ s3.fld 0xB0018 15 0 = 0 then s3.insertEntry 0 else s3
  let s5 := s4.checkpoint
  if s5.storing then s5 else s5.orReg 0xB0120 256

/-- The pack runs as UNKNOWN_PACK on the scratch record (R468, R469, R485). -/
def State.openScratch (s : State) : State :=
  let r := s.takeProvisional { uncert := true, opened := true, sessions := 1, lastSess := s.nextSession, first := (s.reg 0xB0128).toNat }
  let b := s.bat
  let s1 := s.setBat { b.clearProv with
    state := .unknown, scratchOpen := false, session := some (s.newSession 0xFFFF r true), cache := (b.cache.filter (fun p => p.1 != 0xFFFF)).take 7, id := 0, rem := 0, rep := none, attempt := none, idWait := none
    ckptAt := s.now + secAng (60 * s.fld 0xB0000 31 24) }
  let s2 := (s1.packNotice 4 0xFFFF 0).batLog 4 0xFFFF 0 (bytesLE 1 b.attempts ++ bytesLE 1 b.lastFail)
  ((s2.orReg 0xB0120 16).advise 4 0).checkpoint

/-- The rows of the records that a session on this ID needs and that only the NAND holds: its own, and at the first identification those that
a reset left OPEN (R473, R474, R484). -/
def State.sessionRows (s : State) (id : Nat) : List Nat :=
  let own := s.bat.dir.filter (fun d => d.id == id)
  let stale := if s.bat.identified then [] else s.bat.dir.filter (fun d => d.opened && d.id != id)
  let scratch : List (Nat × Nat × Nat) := if !s.bat.identified && s.bat.scratchOpen then [(0xFFFF, 2, 0)] else []
  let need : List (Nat × Nat × Nat) := ((own ++ stale).map (fun (d : PackDir) => (d.index, 1, d.index)) ++ scratch).filter (fun d => !(s.bat.cache.any (fun p => p.1 == d.1)))
  if s.cave.mode = .mounted ∨ s.cave.mode = .readonly then
    need.flatMap (fun d => match s.currentSlot d.2.1 d.2.2 with
      | some (b, slot) => (List.range s.slotPages).map (fun i => s.slotRow b slot + i)
      | none => [])
  else []

/-- An ID has been read: the session opens, or waits for the mount (R469, R483) or for its records, which are read at priority 1 (R115). -/
def State.identified (s : State) (id : Nat) : State :=
  let wait := s.setBat { s.bat with idWait := some id, id := id, attempt := none }
  if !s.bat.dirReady then wait
  else if (s.sessionRows id).isEmpty then s.openPack id
  else wait.addJob .sessFetch 1 ((s.sessionRows id).map NandOp.read)

/-- The records of a session that waits have been read: it opens (R115, R469). Where a page could not be corrected, older versions are read
first (R431). -/
def State.sessionFetched (s : State) (again : Bool) : State :=
  match s.bat.idWait with
  | some id =>
    if !s.bat.dirReady || s.hasJob .sessFetch then s
    else if again && !(s.sessionRows id).isEmpty then s.addJob .sessFetch 1 ((s.sessionRows id).map NandOp.read)
    else s.openPack id
  | none => s

/-! ### Presence (R469, R481) -/

/-- The pack is present, absent, or neither, at a level of pack-present. -/
def State.presentIf (s : State) (l : InLevel) : Option Bool :=
  match l with
  | .high => some (!s.bit 0xB0000 2)
  | .low => some (s.bit 0xB0000 2)
  | _ => none

/-- The pack is present, absent, or neither. -/
def State.packPresent (s : State) : Option Bool := s.presentIf (s.rindIn 4)

/-- Presence as the estimator sees it at the end of a window: in CLK_ANG cycle `e`, or in STANDBY at CLK_LF time `e` (R462, R481). -/
def State.presentAt (s : State) (e : Nat) (lf : Bool) : Option Bool :=
  s.presentIf (if e < (if lf then s.bat.ppLf else s.bat.ppAt) then s.bat.ppWas else s.rindIn 4)

/-- CLK_LF periods of `n` tenths of a second. -/
def tenthsLf (n : Nat) : Nat := n * 32768 / 10

/-- An accepted SHIP entry has closed the sessions (R479): none opens any more while it goes on. -/
def State.shipClosed (s : State) : Bool := s.power.entry.any (fun e => decide (e.kind = .ship) && decide (4 ≤ e.step))

/-- A change of presence takes effect at a curd boundary (Table Bat.4, R481). `pp` is the presence seen there. -/
def State.presenceStep (s : State) (seen : Option Bool) : State :=
  let b := s.bat
  let pp := if s.shipClosed then none else seen
  let grace := tenthsLf (s.fld 0xB000C 23 16)
  match pp, b.state with
  | some true, .empty =>
    s.setBat { b.clearProv with state := .ident, seenAt := s.lf, deadline := s.lf + grace, attemptAt := 10 * s.lf, attempts := 0, lastFail := 0,
                                attempt := none, idWait := none }
  | some true, .grace =>
    s.setBat { b.clearProv with state := .reident, seenAt := s.lf, deadline := b.graceEnd, attemptAt := 10 * s.lf, attempts := 0, lastFail := 0,
                                attempt := none, idWait := none }
  | some false, .ident => s.setBat { b.clearProv with state := .empty, attempt := none, idWait := none, id := 0 }
  | some false, .reident => s.setBat { b.clearProv with state := .grace, attempt := none, idWait := none }
  | some false, .active =>
    let s0 := s.insertEntry 0
    let s1 := s0.setBat { s0.bat with
      state := .grace, goneAt := s.lf, graceEnd := s.lf + grace, session := s0.bat.session.map (fun x => { x with insert := none }) }
    (s1.packNotice 2 s.packIndex b.id).batLog 2 s.packIndex b.id
      (bytesLE 2 ((b.rep.map (fun r => ((r + 32768) / 65536).toNat)).getD 0xFFFF))
  | some false, .unknown => (s.setBat { b with state := .empty, goneAt := s.lf }).closeSession
  | _, _ => s

/-! ### Charge (R460 to R462) -/

/-- The charge of the window counts: no GAP. -/
def PackState.counts (p : PackState) : Bool := !(p == .empty || p == .grace)

/-- `dq` joins the session's record or the provisional sum. -/
def State.addCharge (s : State) (dq : Int) : State :=
  let b := s.bat
  let i := dq.toNat
  let o := (-dq).toNat
  match b.state, b.session with
  | .ident, _ => s.setBat { b with provQ := b.provQ + dq, provIn := b.provIn + i, provOut := b.provOut + o }
  | .reident, _ => s.setBat { b with provQ := b.provQ + dq, provIn := b.provIn + i, provOut := b.provOut + o }
  | .active, some x => s.setBat { b with session := some { x with record := { x.record with
      q := x.record.q + dq, qin := x.record.qin + i, qout := x.record.qout + o, cycacc := x.record.cycacc + o } } }
  | .unknown, some x => s.setBat { b with session := some { x with record := { x.record with
      q := x.record.q + dq, qin := x.record.qin + i, qout := x.record.qout + o, cycacc := x.record.cycacc + o } } }
  | _, _ => s

/-- The charge of one RUN window at a current `i` in mA Q32 (R460). -/
def State.countWindow (s : State) (i : Int) : State :=
  if s.bat.state.counts then
    let num := i + s.bat.rem
    let dq := Int.fdiv num 262144000
    (s.setBat { s.bat with rem := num - dq * 262144000 }).addCharge dq
  else s

/-- The charge of `n` CLK_LF periods at a current `i` in mA Q32 (R461). -/
def State.countInterval (s : State) (i : Int) (n : Nat) : State :=
  if s.bat.state.counts then
    let num := Int.fdiv i 65536 * n + s.bat.rem2
    let dq := Int.fdiv num 32768
    (s.setBat { s.bat with rem2 := num - dq * 32768 }).addCharge dq
  else s

/-! ### Capacity, counted and reported state of charge (R463 to R466, R471) -/

/-- Equivalent full cycles (R471). -/
def State.cycleStep (s : State) (r : PackRec) : PackRec :=
  let unit := s.packCap r / 100
  if unit = 0 then r
  else { r with cycacc := r.cycacc % unit, cycles := satAdd 0xFFFFFFFF r.cycles (r.cycacc / unit) }

/-- SOCCNT, SOCVALID and OVERSHOOT of the open or held record, computed at each curd (R465). SOCREP, where it has no value yet, is loaded from
the first one that is valid (R466). -/
def State.countSoc (s : State) : State :=
  match s.bat.session.bind (fun x => s.packSoc x.record) with
  | some v =>
    let soc := (clampInt 0 10000 v).toNat
    s.setBat { s.bat with
      socValid := true, socCnt := soc, overshoot := decide (v < 0) || decide (10000 < v)
      rep := s.bat.rep.orElse (fun _ => some ((soc : Int) * 65536)) }
  | none => s.setBat { s.bat with socValid := false, socCnt := 0xFFFF }

/-- `n` seconds of the reported state of charge (R466). -/
def State.repStep (s : State) (n : Nat) : State :=
  match s.bat.rep with
  | some rep =>
    if s.bat.socValid && decide (n ≠ 0) then
      let tgt : Int := (s.bat.socCnt : Int) * 65536
      let step : Int := Int.ofNat (s.fld 0xB001C 15 0 * 65536 / 60) * n
      s.setBat { s.bat with rep := some (if rep < tgt then (if rep + step < tgt then rep + step else tgt)
        else (if tgt < rep - step then rep - step else tgt)) }
    else s
  | none => s

/-- An anchor of the open session: 1 FULL, 2 EMPTY, 3 HOST (R463, R464). SOCCNT follows at the curd, the next one for a HOST anchor (R465). -/
def State.setAnchor (s : State) (kind sa : Nat) : State :=
  match s.bat.session with
  | some x =>
    let r := x.record
    let r1 := if kind = 1 then { r with qfull := r.q, fullv := true } else if kind = 2 then { r with qempty := r.q, emptyv := true } else r
    let pairs := (decide (kind = 1) && decide (r.akind = 2)) || (decide (kind = 2) && decide (r.akind = 1))
    let m := if pairs && !r.uncert then (r1.qfull - r1.qempty).natAbs / 65536 else 0
    let measured := pairs && !r.uncert
    let nom := (s.reg 0xB0010).toNat
    let ok := decide (nom = 0) || (decide (nom / 2 ≤ m) && decide (m ≤ nom * 3 / 2))
    let r2 := if measured && ok then { r1 with capmeas := if r1.capv then (3 * r1.capmeas + m) / 4 else m, capv := true } else r1
    let r3 := { r2 with
      qa := r.q, sa := sa, akind := kind, anch := true, uncert := false
      counts := r2.counts.set (kind - 1) (satAdd 0xFFFF (r2.counts.getD (kind - 1) 0) 1) }
    let s1 := s.setBat { s.bat with session := some { x with record := r3 } }
    let s2 := if measured && !ok then s1.orReg 0xB0120 64 else s1
    (s2.batLog 6 x.index r.id (bytesLE 1 kind ++ bytesLE 1 (b2n (measured && !ok)) ++ bytesLE 4 m)).checkpoint
  | none => s

/-- SETSOC: a write of BAT_SETSOC (R463). -/
def State.setSoc (s : State) (w : Word) : State :=
  if fieldOf w 31 16 = 0x50C0 ∧ fieldOf w 15 0 ≤ 10000 ∧ s.bat.state = .active ∧ s.bat.session.isSome then s.setAnchor 3 (fieldOf w 15 0)
  else s.orReg 0xB0120 128

/-- The FULL and EMPTY conditions and the insertion test at a RUN curd (R463). -/
def State.anchorTests (s : State) (c : Curd) : State :=
  match s.bat.session with
  | some x =>
    let ifull : Int := s.fld 0xB0014 31 16 * 2560
    let vfull := s.fld 0xB0014 15 0 * 100
    let vempty := s.fld 0xB0018 15 0 * 100
    let full := decide (vfull ≠ 0) && s.rindIn 3 == .high && decide (0 < c.ipack) && decide (c.ipack ≤ ifull) && decide (vfull ≤ c.vpack)
    let empty := decide (vempty ≠ 0) && decide (c.ipack < 0) && decide (c.vpack ≤ vempty)
    let nf := if full then x.fullRun + 1 else 0
    let ne := if empty then x.emptyRun + 1 else 0
    let takes := decide ((c.ipack.natAbs : Int) ≤ ifull)
    let ins : Option (Nat × Nat) := match x.insert with
      | some (k, v) => if takes then some (k + 1, v + c.vpack) else some (k, v)
      | none => none
    let done : Bool := ins.any (fun p => decide (16 ≤ p.1))
    let mean := match ins with
      | some (_, v) => v / 16
      | none => 0
    let s1 := s.setBat { s.bat with session := some { x with fullRun := nf, emptyRun := ne, insert := if done then none else ins } }
    let s2 := if done && decide (vfull ≠ 0) && decide (vfull ≤ mean) then (s1.insertEntry 1).setAnchor 1 10000
      else if done && decide (vempty ≠ 0) && decide (mean ≤ vempty) then (s1.insertEntry 2).setAnchor 2 0
      else if done then s1.insertEntry 0 else s1
    let s3 := if nf = Nat.max 1 (4000 * s.fld 0xB001C 23 16) then s2.setAnchor 1 10000 else s2
    if ne = Nat.max 1 (4000 * s.fld 0xB001C 31 24) then s3.setAnchor 2 0 else s3
  | none => s

/-! ### Histograms, extremes and impedance (R472) -/

/-- A bin of a histogram takes a time: whole seconds count, the fraction is carried. -/
def binAdd (hist frac : List Nat) (bin units : Nat) : List Nat × List Nat :=
  let f := frac.getD bin 0 + units
  (hist.set bin (satAdd 0xFFFFFFFF (hist.getD bin 0) (f / 4096000)), frac.set bin (f % 4096000))

/-- A value held in 0 to 15. -/
def bin16 (v : Int) : Nat := (clampInt 0 15 v).toNat

/-- The depth-of-discharge tracker at a new SOCCNT. -/
def SessionSt.depthStep (x : SessionSt) (soc : Nat) : SessionSt :=
  match x.dod with
  | none => { x with dod := some (soc, soc) }
  | some (ext, turn) =>
    if (turn ≤ ext ∧ ext < soc) ∨ (ext ≤ turn ∧ soc < ext) then { x with dod := some (soc, turn) }
    else
      let back := Nat.max soc ext - Nat.min soc ext
      let depth := Nat.max ext turn - Nat.min ext turn
      if 100 < back then
        let bin := Nat.min (depth / 625) 15
        { x with dod := some (soc, ext), record := { x.record with hdod := x.record.hdod.set bin (satAdd 0xFFFFFFFF (x.record.hdod.getD bin 0) 1) } }
      else x

/-- The impedance table at a pair of RUN curds. -/
def State.zStep (s : State) (x : SessionSt) (c : Curd) (gap : Bool) : SessionSt :=
  let okNow := !c.vovr && !c.iovr && !gap
  let next := if okNow then some (c.vpack, c.ipack) else none
  let x1 := { x with zprev := next }
  match x.zprev with
  | some (v0, i0) =>
    let di := c.ipack - i0
    let t := c.temps
    if okNow && decide (Int.ofNat (s.fld 0xB0020 15 0 * 25600) ≤ (di.natAbs : Int)) && decide (di ≠ 0) && s.bat.socValid && !t.isEmpty then
      let rs := divTrunc (((c.vpack : Int) - v0) * 2560000) di
      if 0 < rs ∧ rs < 65535 then
        let mean := divTrunc (t.foldl (fun a b => a + b) 0) t.length
        let tb := (clampInt 0 7 (Int.fdiv (mean + 2000) 1000)).toNat
        let k := 8 * tb + Nat.min (s.bat.socCnt / 1250) 7
        let z : Int := x.record.ztab.getD k 0xFFFF
        let v := if x.record.zcnt.getD k 0 = 0 then rs else z + divTrunc (rs - z) 16
        { x1 with record := { x1.record with ztab := x1.record.ztab.set k v.toNat, zcnt := x1.record.zcnt.set k (satAdd 255 (x1.record.zcnt.getD k 0) 1) } }
      else x1
    else x1
  | none => x1

/-- The extremes of a curd. -/
def PackRec.extremes (r : PackRec) (c : Curd) : PackRec :=
  let v := fun (r : PackRec) => if c.vovr then r else { r with vmax := Nat.max r.vmax c.vpack, vmin := Nat.min r.vmin c.vpack }
  let i := fun (r : PackRec) => if c.iovr then r else { r with
    icmax := if r.icmax < c.ipack then c.ipack else r.icmax, idmax := if c.ipack < r.idmax then c.ipack else r.idmax }
  let tm := fun (k : Nat) (old : Int) (hi : Bool) =>
    let p := c.ntc.getD k (3, -32768)
    if p.1 ≠ 0 then old
    else if old = -32768 then p.2
    else if hi then (if old < p.2 then p.2 else old) else (if p.2 < old then p.2 else old)
  let r1 := i (v r)
  { r1 with
    tmax := (List.range 4).map (fun k => tm k (r1.tmax.getD k (-32768)) true)
    tmin := (List.range 4).map (fun k => tm k (r1.tmin.getD k (-32768)) false) }

/-- The extremes of the open or held session, its record's and its own, at every curd (R472). -/
def State.extremeStep (s : State) (c : Curd) : State :=
  s.setBat { s.bat with session := s.bat.session.map (fun x => { x with
    record := x.record.extremes c
    tmax := match hottest c.temps with
      | some t => if x.tmax < t then t else x.tmax
      | none => x.tmax }) }

/-- Histograms, cycles and the session's powered time over `units` of time. -/
def State.histStep (s : State) (c : Curd) (units : Nat) (run : Bool) : State :=
  match s.bat.session with
  | some x =>
    let r := s.cycleStep x.record
    let hot := hottest c.temps
    let ht := match hot with
      | some t => binAdd r.htemp x.tempFrac (bin16 (Int.fdiv (t + 4000) 1000)) units
      | none => (r.htemp, x.tempFrac)
    let hs := if s.bat.socValid then binAdd r.hsoc x.socFrac (Nat.min (s.bat.socCnt / 625) 15) units else (r.hsoc, x.socFrac)
    let hc := binAdd r.hcur x.curFrac (bin16 (8 + Int.fdiv c.ipack (Int.ofNat (s.fld 0xB0020 31 16 * 25600)))) units
    let x1 : SessionSt := { x with
      record := { r with htemp := ht.1, hsoc := hs.1, hcur := hc.1 }, tempFrac := ht.2, socFrac := hs.2, curFrac := hc.2
      powered := x.powered + units }
    let x2 := if s.bat.socValid then x1.depthStep s.bat.socCnt else x1
    s.setBat { s.bat with session := some (if run then s.zStep x2 c false else { x2 with zprev := none }) }
  | none => s

/-- Anchors, histograms and impedance are kept in ACTIVE and UNKNOWN only (R469). -/
def PackState.keeps (p : PackState) : Bool := p == .active || p == .unknown

/-! ### Curds (R457 to R462) -/

/-- 250 µs in CLK_ANG cycles: one RUN window. -/
def windowAng : Nat := 96000

/-- The CLK_ANG cycle of the next CLK_PER edge. -/
def State.nextPer (s : State) : Nat := 8 * (s.now / 8 + 1)

/-- The CLK_LF time of CLK_ANG cycle `t` of RUN, at most a few periods ago, by the measured length of a CLK_LF period (R59, log entry 124). -/
def State.lfAt (s : State) (t : Nat) : Nat := s.lf - (s.now - t) * 65536 / (s.reg 0x110020).toNat

/-- A RUN window has ended and its curd has not been delivered or lost (R459). -/
def State.windowDue (s : State) : Bool := s.running && s.boot.loaded && s.batOn && decide (s.bat.winAt + windowAng ≤ s.now)

/-- The next window follows without a gap; words that no later window uses are forgotten (R454, R482). -/
def BatSt.nextWindow (b : BatSt) : BatSt :=
  let w := b.winAt + windowAng
  { b with winAt := w, calOld := b.calOld.filter (fun p => decide (w ≤ p.1)) }

/-- CURD_DONE: the curd of the window that has ended is delivered, `age` CLK_ANG cycles after its sample instant, the midpoint of the window
(R454 to R472, R481). The end of the window is placed on CLK_LF by the measured PWR_LFCAL (log entry 124). -/
def State.curdDone (s : State) (v : Nat) (code : BitVec 24) (excess : Bool) (ntc : List Nat) (age : Nat) : State :=
  if s.windowDue && decide (s.now = s.bat.winAt + windowAng / 2 + age) then
    let c := s.curdOf (s.windowCal s.bat.winAt) v code excess ntc
    let pp := s.presentAt (s.bat.winAt + windowAng) false
    let s1 := s.presenceStep pp
    let gap := !s1.bat.state.counts
    let s2 := ((s1.publishCurd c (s1.now - age) false gap s1.bat.estNext).ntcFaults c).countWindow c.i
    let s3 := s2.setBat { s2.bat.nextWindow with
      seq := s2.bat.seq + 1, lastI := c.i, lastIp := c.ipack, lastVp := c.vpack, estNext := false, lastEnd := s2.lfAt (s.bat.winAt + windowAng)
      seen := pp.orElse (fun _ => s2.bat.seen), shipAt := if c.vpack < s2.fld 0xB002C 15 0 * 100 then s2.bat.shipAt else none }
    if s3.bat.state.keeps then (((s3.anchorTests c).countSoc).extremeStep c).histStep c 1024 true else (s3.countSoc).extremeStep c
  else s

/-- What a lost curd leaves: CURDLOST and its count, SEQ, EST owed to the next curd, and no pair or run of curds across it (log entry 125). -/
def State.lostCurd (s : State) : State :=
  let s1 := (s.orReg 0xB0120 1).satInc 0xB0124 15 0
  let x := s1.bat.session.map (fun x => { x with fullRun := 0, emptyRun := 0, zprev := none })
  s1.setBat { s1.bat with seq := s1.bat.seq + 1, estNext := true, session := x }

/-- The CLK_LF time at which the window of the STANDBY curd that is due ends: it starts 2 periods after PD7 powers and takes 16 (R459). -/
def State.standbyWindowEnd (s : State) : Nat := s.bat.sbyAt + 18

/-- The CLK_ANG cycle of the midpoint of that window, by the advance of ANG_TNOW on CLK_LF (R58, R245, R454). -/
def State.standbyMid (s : State) : Nat :=
  (s.now * 65536 + s.power.nowFrac - (s.lf - (s.bat.sbyAt + 10)) * (s.reg 0x110020).toNat) / 65536

/-- The window of the next STANDBY curd has ended (R459); one delivered in the CLK_LF period of the wake latch still is one (R55). -/
def State.standbyDue (s : State) : Bool :=
  (decide (s.power.phase = .standby) || decide (s.power.phase = .waking ∧ s.lf = s.power.wakeAt)) && s.batOn && decide (s.standbyWindowEnd ≤ s.lf)

/-- PD7 is powered again STBPER seconds later; the interval up to the window's end has been counted. -/
def State.nextStandbyCurd (s : State) : State :=
  s.setBat { s.bat with lastEnd := s.standbyWindowEnd, sbyAt := s.bat.sbyAt + 32768 * s.fld 0xB0000 23 16 }

/-- CURD_LOST: nothing is delivered; the window, or in STANDBY the interval, is counted at the last current, and the next curd carries EST
(R458). -/
def State.curdLost (s : State) : State :=
  if s.windowDue then
    let s1 := (s.presenceStep (s.presentAt (s.bat.winAt + windowAng) false)).countWindow s.bat.lastI
    (s1.setBat { s1.bat.nextWindow with lastEnd := s1.lfAt (s.bat.winAt + windowAng) }).lostCurd
  else if s.standbyDue then
    let s1 := (s.presenceStep (s.presentAt s.standbyWindowEnd true)).countInterval s.bat.lastI (s.standbyWindowEnd - s.bat.lastEnd)
    (s1.nextStandbyCurd).lostCurd
  else s

/-- The wake causes of a STANDBY curd, in the order of R477 from bit 0. -/
def State.wakeCauses (s : State) (c : Curd) (changed : Bool) (run : Nat) : Nat :=
  let iw := s.fld 0xB0024 15 0
  let vw := s.fld 0xB0024 31 16
  b2n (decide (iw ≠ 0) && decide (Int.ofNat (iw * 2560) < (c.ipack.natAbs : Int))) +
  2 * b2n (decide (vw ≠ 0) && decide (c.vpack < vw * 100)) +
  4 * b2n (c.temps.any (fun t => decide (signedOf 16 (s.fld 0xB0028 15 0) < t))) +
  8 * b2n (s.bit 0xB0028 16 && changed) +
  16 * b2n (s.bit 0xB0000 5 && decide (3 ≤ run))

/-- The temperature health uses at a STANDBY curd: the hottest valid NTC plus SBYADD, or the last die temperature (R576). -/
def State.standbyTemp (s : State) (c : Curd) : Int :=
  match hottest c.temps with
  | some t => t + signedOf 8 (s.fld 0x100028 15 8) * 100
  | none => s.health.tjDie

/-- Whole seconds of BAT_EPOCH since it last advanced (R486). -/
def State.epochAdvance (s : State) : State :=
  let n := (s.lf - s.bat.epochAt) / 32768
  if s.reg 0xB0128 = 0 then s.setBat { s.bat with epochAt := s.lf }
  else (s.setReg 0xB0128 (s.reg 0xB0128 + BitVec.ofNat 32 n)).setBat { s.bat with epochAt := s.bat.epochAt + n * 32768 }

/-- STANDBY_CURD: a curd every STBPER seconds; its interval is counted, and a threshold crossed is a battery wake source (R459, R461,
R466, R472, R477, R576, R577). -/
def State.standbyCurd (s : State) (v : Nat) (code : BitVec 24) (excess : Bool) (ntc : List Nat) : State :=
  if s.standbyDue then
    let c := s.curdOf (curdCal s.reg) v code excess ntc
    let n := s.standbyWindowEnd - s.bat.lastEnd
    let pp := s.presentAt s.standbyWindowEnd true
    let changed := pp.isSome && s.bat.seen.isSome && decide (pp ≠ s.bat.seen)
    let s1 := s.presenceStep pp
    let gap := !s1.bat.state.counts
    let s2 := ((s1.publishCurd c s.standbyMid true gap true).ntcFaults c).countInterval c.i n
    let low := s.bit 0xB0000 5 && decide (c.vpack < s.fld 0xB002C 15 0 * 100)
    let run := if low then s.bat.shipRun + 1 else 0
    let cause := s.wakeCauses c changed run
    let s2 := s2.nextStandbyCurd
    let s3 := s2.setBat { s2.bat with
      seq := s2.bat.seq + 1, lastI := c.i, lastIp := c.ipack, lastVp := c.vpack, estNext := false, seen := pp.orElse (fun _ => s2.bat.seen)
      shipRun := run, shipWake := s2.bat.shipWake || cause.testBit 4, wakeCause := if cause = 0 then s2.bat.wakeCause else cause }
    let s3 := (s3.countSoc).extremeStep c
    let s4 := if s3.bat.state.keeps then s3.histStep c (125 * n) false else s3
    let k := (s4.lf - s4.bat.repAt) / 32768
    let s5 := (s4.repStep k).setBat { (s4.repStep k).bat with repAt := s4.bat.repAt + k * 32768 }
    let s6 := (s5.epochAdvance).accountStandby (s5.standbyTemp c) n
    if cause = 0 then s6 else s6.requestWake 4
  else s

/-- SOC_REPORT_STEP: once per second in RUN and DOZE (R466). -/
def State.socReportStep (s : State) : State :=
  if s.running && s.batOn && decide (s.bat.repAt + 32768 ≤ s.lf) then
    let s1 := s.repStep 1
    s1.setBat { s1.bat with repAt := s.bat.repAt + 32768 }
  else s

/-- EPOCH_TICK: once per second in RUN and DOZE, once the host has written it (R486). -/
def State.epochTick (s : State) : State :=
  if s.running && decide (s.bat.epochAt + 32768 ≤ s.lf) then s.epochAdvance else s

/-- A write of BAT_EPOCH. -/
def State.writeEpoch (s : State) (w : Word) : State := (s.setReg 0xB0128 w).setBat { s.bat with epochAt := s.lf }

/-- RECORD_CHECKPOINT: every CKPTMIN minutes of RUN (R475), counted from the opening of the session (log entry 125). -/
def State.recordCheckpoint (s : State) : State :=
  if s.running ∧ s.bat.session.isSome = true ∧ s.bat.ckptAt ≤ s.now then
    (s.setBat { s.bat with ckptAt := s.now + secAng (60 * s.fld 0xB0000 31 24) }).checkpoint
  else s

/-! ### Identification (R467, R468) -/

/-- CRC-8 with polynomial 0x31 and initial value 0xFF (R467). -/
def crc8Bits : Nat → Nat → Nat
  | 0, c => c
  | n + 1, c => crc8Bits n (if 0x80 ≤ c then ((c * 2) % 256) ^^^ 0x31 else c * 2)
def crc8 (l : List Byte) : Nat := l.foldl (fun c b => crc8Bits 8 (c ^^^ b.toNat)) 0xFF

/-- The failure code of the attempt that ends now, 0 for a good one (R467). -/
def State.idCode (s : State) (r : IdReading) : Nat :=
  let id := r.bytes.take 8
  if r.nack then 1
  else if s.bat.attempt.any (fun x => decide (x.began + msAng 20 ≤ s.now)) then 2
  else if (if s.bat.attempt.any (fun x => x.crc) then decide (crc8 id ≠ natAt r.bytes 8 1) else decide (id ≠ r.again.take 8)) then 3
  else if id.all (fun b => b == 0) || id.all (fun b => b == 0xFF) then 4 else 0

/-- An attempt may begin: before the deadline, in a state that identifies. -/
def State.mayAttempt (s : State) : Bool :=
  let b := s.bat
  s.running && s.batOn && (b.state == .ident || b.state == .reident) && b.idWait.isNone && b.attempt.isNone &&
    decide (b.attemptAt ≤ 10 * s.lf) && decide (s.lf < b.deadline)

/-- The transaction of an attempt that begins now (R467). -/
def State.idTxn (s : State) : IdTxn :=
  { addr := s.fld 0xB000C 6 0, reg := s.fld 0xB000C 15 8, fast := s.bit 0xB0000 4, crc := s.bit 0xB0000 3, began := s.now }

/-- ID_ATTEMPT: attempts start when the pack is seen, and then every 100 ms (R468). -/
def State.idAttempt (s : State) : State :=
  if s.mayAttempt then
    s.setBat { s.bat with attempt := some s.idTxn, unstick := false, attempts := satAdd 255 s.bat.attempts 1, attemptAt := s.bat.attemptAt + 32768 }
  else s

/-- The same ID within grace: the session continues on its record (Table Bat.4). -/
def State.packReturned (s : State) : State :=
  match s.bat.session with
  | some x =>
    let r := s.takeProvisional x.record
    let r1 := { r with counts := r.counts.set 3 (satAdd 0xFFFF (r.counts.getD 3 0) 1) }
    let s1 := s.setBat { s.bat.clearProv with
      state := .active, attempt := none, session := some { x with record := r1, gaps := x.gaps + 1, fullRun := 0, emptyRun := 0, zprev := none } }
    (s1.packNotice 3 x.index s.bat.id).batLog 3 x.index s.bat.id (bytesLE 4 ((s.bat.seenAt - s.bat.goneAt) * 1000 / 32768))
  | none => s

/-- ID_ATTEMPT_DONE: the attempt has ended (R467 to R469). -/
def State.idAttemptDone (s : State) (r : IdReading) : State :=
  if s.running && s.bat.attempt.isSome then
    let code := s.idCode r
    let id := natLE (r.bytes.take 8)
    if code ≠ 0 then s.setBat { s.bat with attempt := none, lastFail := code, unstick := decide (code = 2) }
    else if s.bat.state = .ident then s.identified id
    else if id = s.bat.id ∧ s.bat.session.isSome then s.packReturned
    else ((s.setBat { s.bat with state := .ident }).closeSession).identified id
  else s

/-- ID_DEADLINE: no attempt has succeeded (R468, R469, R485). -/
def State.idDeadline (s : State) : State :=
  let b := s.bat
  if s.running && decide (b.deadline ≤ s.lf) && b.attempt.isNone && b.idWait.isNone && (b.state == .ident || b.state == .reident) then
    (s.closeSession).openScratch
  else s

/-- No pack is present or held: no ID is shown (Table Bat.9). -/
def State.forgetId (s : State) : State := s.setBat { s.bat with id := 0 }

/-- GRACE_END: the grace timer ends; the held record closes (R469). -/
def State.graceEnded (s : State) : State :=
  if s.bat.state = .grace ∧ s.bat.graceEnd ≤ s.lf then ((s.setBat { s.bat with state := .empty }).closeSession).forgetId else s

/-! ### Mount, STANDBY, SHIP and resets (R478, R479, R483, R484, R486) -/

/-- The directory is built from the records at a mount; an identified session that waited opens (R473, R483). -/
def State.batteryMount (s : State) : State :=
  let keys := ((s.recordKeys ++ s.cave.recQueue.map (fun w => (w.kind, w.index))).filter (fun k => k.1 == 1)).map Prod.snd
  let dir := if s.cave.mode = .failed then [] else keys.eraseDups.filterMap (fun i => (s.recordNow 1 i).map (fun b =>
    let r := packOf b
    ({ index := i, id := r.id, opened := r.opened, lastSess := r.lastSess } : PackDir)))
  let kept := match s.bat.session with
    | some x => if x.index = 0xFFFF then dir
        else dirSet dir { index := x.index, id := x.record.id, opened := true, lastSess := x.record.lastSess }
    | none => dir
  let left := !s.bat.identified && s.bat.session.isNone && decide (s.cave.mode ≠ .failed) && ((s.recordNow 2 0).map packOf).any (fun r => r.opened)
  let s1 := s.setBat { s.bat with dir := kept, dirReady := true, scratchOpen := left }
  match s1.bat.idWait with
  | some id => s1.identified id
  | none => s1

/-- RUN reached: the time since the last STANDBY window is counted, windows begin at the next CLK_PER edge, attempts resume or the
deadline's transition applies, and a wake for VSHIP, whose source is the battery, owes a SHIP request (R459, R461, R478, R483). `src` are the
wake's sources. -/
def State.batteryWake (s : State) (src : Nat) : State :=
  let s1 := if s.batOn then s.countInterval s.bat.lastI (s.lf - s.bat.lastEnd) else s
  (s1.setBat { s1.bat with
    lastEnd := s1.lf, attemptAt := 10 * s1.lf, dirReady := false, winAt := s1.nextPer, calOld := []
    ckptAt := s1.bat.ckptAt + s1.now, shipAt := if s1.bat.shipWake && src.testBit 2 then some s1.now else none, shipRun := 0, shipWake := false }).idDeadline

/-- Step 8 of a STANDBY entry: the attempts stop, and the first STANDBY curd comes STBPER seconds later (R459, R483). The runs of curds of the
FULL and EMPTY conditions end (R463), and of the time to the next checkpoint the RUN time that is left is kept (R475). -/
def State.batterySleep (s : State) : State :=
  s.setBat { s.bat with
    ckptAt := s.bat.ckptAt - s.now, session := s.bat.session.map (fun x => { x with fullRun := 0, emptyRun := 0, zprev := none })
    attempt := none, sbyAt := s.lf + 32768 * s.fld 0xB0000 23 16, calOld := [], shipRun := 0, shipWake := false, shipAt := none }

/-- An accepted SHIP entry: every open or held session closes and a SHIP entry is written (R479). -/
def State.batteryShip (s : State) : State :=
  let i := s.packIndex
  let id := s.bat.id
  let soc := (s.bat.rep.map (fun r => ((r + 32768) / 65536).toNat)).getD 0xFFFF
  let s1 := ((s.setBat { s.bat.clearProv with state := .empty, attempt := none, idWait := none }).closeSession).forgetId
  s1.batLog 9 i id (bytesLE 2 soc)

/-- A SHIP request of R478 is due: at RUN reached after a wake for VSHIP, and every 60 s while VPACK stays below VSHIP. -/
def State.autoshipDue (s : State) : Bool :=
  s.running && s.bit 0xB0000 5 && decide (s.bat.lastVp < s.fld 0xB002C 15 0 * 100) &&
    (match s.bat.shipAt with
     | some t => decide (t ≤ s.now)
     | none => false)

/-! ### Register views and checks (R480, R487) -/

/-- The codes of Table Bat.3. -/
def PackState.code : PackState → Nat
  | .empty => 0
  | .ident => 1
  | .active => 2
  | .grace => 3
  | .reident => 4
  | .unknown => 5

/-- Milliseconds of CLK_LF periods. -/
def lfMs (n : Nat) : Nat := Nat.min 0xFFFF (n * 1000 / 32768)

/-- The computed words of the BAT block (Table Bat.9). -/
def State.batWord (s : State) (off : Nat) : Option Word :=
  let b := s.bat
  let w := fun (v : Nat) => some (BitVec.ofNat 32 v)
  let r := (b.session.map (fun x => x.record)).getD {}
  let store := if !s.storing then 2 else if b.idWait.isSome && !b.dirReady then 1 else 0
  let idn := b.state == .ident || b.state == .reident
  match off with
  | 0x100 => w (atBit b.wakeCause 24 + atBit store 16 + atBit b.attempts 8 + atBit (b2n b.overshoot) 7 + atBit (b2n r.capv) 6 +
      atBit (b2n r.uncert) 5 + atBit (b2n b.socValid) 4 + b.state.code)
  | 0x104 => w s.packIndex
  | 0x108 => w (b.id % 2 ^ 32)
  | 0x10C => w (b.id / 2 ^ 32)
  | 0x110 => w (atBit b.socCnt 16 + ((b.rep.map (fun r => ((r + 32768) / 65536).toNat)).getD 0xFFFF))
  | 0x114 => w (wrapInt 32 r.q)
  | 0x118 => w (wrapInt 64 r.q / 2 ^ 32)
  | 0x11C => w (atBit (if idn then lfMs (b.deadline - s.lf) else 0) 16 +
      (if b.state == .grace || b.state == .reident then lfMs (b.graceEnd - s.lf) else 0))
  | 0x150 => w r.capmeas
  | _ => none

/-- The BAT words that fail the checks (R456, R480, Table Bat.8). -/
def batFails (c : Nat → Word) : List Nat :=
  let f := fun (b : Bool) (a : Nat) => if b then [a] else []
  let ctl := c 0xB0000
  f (decide (fieldOf ctl 31 24 = 0 ∨ fieldOf ctl 23 16 = 0 ∨ 60 < fieldOf ctl 23 16)) 0xB0000 ++
  f (bitOf ctl 0 && decide (c 0xB0004 = 0)) 0xB0004 ++
  f (decide (fieldOf (c 0xB000C) 23 16 = 0)) 0xB000C ++
  f (decide (fieldOf (c 0xB001C) 15 0 = 0)) 0xB001C ++
  f (decide (fieldOf (c 0xB0020) 31 16 = 0 ∨ fieldOf (c 0xB0020) 15 0 = 0)) 0xB0020 ++
  (if fieldOf ctl 11 8 = 0 then []
   else ((List.range 32).filter (fun k => decide (ntcEntry c k ≤ ntcEntry c (k + 1)))).map (fun k => 0xB0044 + 4 * k))

/-- A commit restarts the anchor conditions whose thresholds it changes, leaves the windows begun by its cycle their ISCALE, IOFS and IINV,
and with EN starts the windows at the next CLK_PER edge (R459, R482). -/
def State.commitBattery (s : State) (o c : Nat → Word) : State :=
  let changed := [0xB0014, 0xB0018].any (fun a => o a != c a) || fieldOf (o 0xB001C) 31 16 != fieldOf (c 0xB001C) 31 16
  let s1 := if changed then
      s.setBat { s.bat with session := s.bat.session.map (fun x => { x with fullRun := 0, emptyRun := 0, insert := x.insert.map (fun _ => (0, 0)) }) }
    else s
  let s2 := if curdCal o ≠ curdCal c then s1.setBat { s1.bat with calOld := s1.bat.calOld ++ [(s.now, curdCal o)] } else s1
  if bitOf (c 0xB0000) 0 && !bitOf (o 0xB0000) 0 then s2.setBat { s2.bat with winAt := s2.nextPer, lastEnd := s2.lf } else s2

/-- The estimator after a reset (R486). -/
def State.clearBattery (s : State) : State := s.setBat { repAt := s.lf, lastEnd := s.lf, epochAt := s.lf }

end Sys2Proof.Machine
end

