-- ==== Sys2Proof/Machine/Float.lean ====
section
/-!
DEFINITION. IEEE 754 binary32 arithmetic, rounding to nearest with ties to even, as the track unit and the mounting law use it
(R488, R497, R498, R505).
-/

namespace Sys2Proof.Machine

/-- What a binary32 word stands for. A finite value is m times 2 to the power e. -/
inductive Fl where
  | nan
  | inf (neg : Bool)
  | fin (neg : Bool) (m : Nat) (e : Int)
deriving DecidableEq, Repr

/-- The value of a binary32 word. -/
def flOf (w : Word) : Fl :=
  let neg := bitOf w 31
  let ex := fieldOf w 30 23
  let fr := fieldOf w 22 0
  if ex = 255 then (if fr = 0 then .inf neg else .nan)
  else if ex = 0 then .fin neg fr (-149)
  else .fin neg (fr + 0x800000) ((ex : Int) - 150)

/-- The one NaN word the model uses; only its class is ever looked at. -/
def flNan : Word := 0x7FC00000

/-- The word of an infinity. -/
def flInf (neg : Bool) : Word := if neg then 0xFF800000 else 0x7F800000

/-- A significand and the exponent of its last place, as a word; too large a value becomes an infinity. -/
def flPack (neg : Bool) (m : Nat) (q : Int) : Word :=
  let m1 := if 0x1000000 ≤ m then m / 2 else m
  let q1 := if 0x1000000 ≤ m then q + 1 else q
  if m1 < 0x800000 then BitVec.ofNat 32 (m1 + atBit (b2n neg) 31)
  else if 254 < q1 + 150 then flInf neg
  else BitVec.ofNat 32 (m1 - 0x800000 + atBit (q1 + 150).toNat 23 + atBit (b2n neg) 31)

/-- A value m times 2 to the power e, or a little above it with `sticky`, rounded to nearest with ties to even. With `sticky`, m
has at least 26 bits. -/
def flRound (neg : Bool) (m : Nat) (e : Int) (sticky : Bool) : Word :=
  if m = 0 then BitVec.ofNat 32 (atBit (b2n neg) 31)
  else
    let q0 : Int := (Nat.log2 m : Int) + e - 23
    let q := if q0 < -149 then (-149 : Int) else q0
    let sh := q - e
    if sh ≤ 0 then flPack neg (m <<< (-sh).toNat) q
    else
      let k := sh.toNat
      let hi := m >>> k
      let rem := m % 2 ^ k
      let half := 2 ^ (k - 1)
      let up := decide (half < rem) || (decide (rem = half) && (sticky || decide (hi % 2 = 1)))
      flPack neg (if up then hi + 1 else hi) q

/-- An integer as binary32. -/
def flInt (v : Int) : Word := flRound (decide (v < 0)) v.natAbs 0 false

/-- A finite value in units of 2 to the power e0. -/
def flUnits (neg : Bool) (m : Nat) (e e0 : Int) : Int :=
  let n : Int := ((m <<< (e - e0).toNat : Nat) : Int)
  if neg then -n else n

def flNeg (a : Word) : Word := a ^^^ 0x80000000
def flAbs (a : Word) : Word := a &&& 0x7FFFFFFF

/-- a + b. -/
def flAdd (a b : Word) : Word :=
  match flOf a, flOf b with
  | .nan, _ => flNan
  | _, .nan => flNan
  | .inf x, .inf y => if x = y then flInf x else flNan
  | .inf x, .fin _ _ _ => flInf x
  | .fin _ _ _, .inf y => flInf y
  | .fin x m e, .fin y n f =>
    let e0 := if e < f then e else f
    let v := flUnits x m e e0 + flUnits y n f e0
    if v = 0 then (if x && y then 0x80000000 else 0) else flRound (decide (v < 0)) v.natAbs e0 false

def flSub (a b : Word) : Word := flAdd a (flNeg b)

/-- a × b. -/
def flMul (a b : Word) : Word :=
  match flOf a, flOf b with
  | .nan, _ => flNan
  | _, .nan => flNan
  | .inf x, .inf y => flInf (x != y)
  | .inf x, .fin y n _ => if n = 0 then flNan else flInf (x != y)
  | .fin x m _, .inf y => if m = 0 then flNan else flInf (x != y)
  | .fin x m e, .fin y n f => flRound (x != y) (m * n) (e + f) false

/-- a / b. -/
def flDiv (a b : Word) : Word :=
  match flOf a, flOf b with
  | .nan, _ => flNan
  | _, .nan => flNan
  | .inf _, .inf _ => flNan
  | .inf x, .fin y _ _ => flInf (x != y)
  | .fin x _ _, .inf y => flRound (x != y) 0 0 false
  | .fin x m e, .fin y n f =>
    if n = 0 then (if m = 0 then flNan else flInf (x != y))
    else
      let k := m <<< 50
      flRound (x != y) (k / n) (e - f - 50) (decide (k % n ≠ 0))

/-- The integer square root of a number below 4 to the power `n`. -/
def sqrtBits (v : Nat) : Nat → Nat → Nat
  | 0, r => r
  | n + 1, r => sqrtBits v n (if (r + 2 ^ n) * (r + 2 ^ n) ≤ v then r + 2 ^ n else r)

/-- The square root. -/
def flSqrt (a : Word) : Word :=
  match flOf a with
  | .nan => flNan
  | .inf x => if x then flNan else a
  | .fin x m e =>
    if m = 0 then a else if x then flNan
    else
      let odd := decide (e % 2 ≠ 0)
      let v := m <<< (if odd then 61 else 60)
      let r := sqrtBits v 44 0
      flRound false r ((if odd then e - 61 else e - 60) / 2) (decide (r * r ≠ v))

/-- a < b; false for a value that is not a number. -/
def flLt (a b : Word) : Bool :=
  match flOf a, flOf b with
  | .nan, _ => false
  | _, .nan => false
  | .inf x, .inf y => x && !y
  | .inf x, .fin _ _ _ => x
  | .fin _ _ _, .inf y => !y
  | .fin x m e, .fin y n f =>
    let e0 := if e < f then e else f
    decide (flUnits x m e e0 < flUnits y n f e0)

/-- a ≤ b; false for a value that is not a number. -/
def flLe (a b : Word) : Bool := flLt a b || (flOf a != .nan && flOf b != .nan && !flLt b a)

/-- A value held between two limits. -/
def flClamp (lo hi a : Word) : Word := if flLt a lo then lo else if flLt hi a then hi else a

/-- The nearest integer, ties to even, held between two limits; `site` names the conversion for a value that is not a number. -/
def flToInt (site : Nat) (lo hi : Int) (a : Word) : Int :=
  match flOf a with
  | .nan => clampInt lo hi (Config.nanInt site)
  | .inf x => if x then lo else hi
  | .fin x m e =>
    let n : Nat :=
      if 0 ≤ e then m <<< (Int.toNat (if 64 < e then 64 else e))
      else
        let k := Int.toNat (if e < -200 then 200 else -e)
        let h := m >>> k
        let rem := m % 2 ^ k
        let half := 2 ^ (k - 1)
        if half < rem ∨ (rem = half ∧ h % 2 = 1) then h + 1 else h
    clampInt lo hi (if x then -(n : Int) else (n : Int))

/-- The largest integer not above a finite value, as binary32; other values stand as they are. -/
def flFloor (a : Word) : Word :=
  match flOf a with
  | .fin x m e =>
    if 0 ≤ e then a
    else
      let k := (-e).toNat
      let h := m >>> k
      let v : Int := if x then (if m % 2 ^ k = 0 then -(h : Int) else -(h : Int) - 1) else (h : Int)
      flInt v
  | _ => a

/-- The quotient of two integers: each converted, then divided. -/
def flQuot (a b : Int) : Word := flDiv (flInt a) (flInt b)

/-- 1. -/
def flOne : Word := 0x3F800000

/-- The sum of products in rising index order. -/
def flDot : List Word → List Word → Word
  | [], _ => 0
  | _, [] => 0
  | a :: s, b :: t => (s.zip t).foldl (fun acc p => flAdd acc (flMul p.1 p.2)) (flMul a b)

/-! ### Matrices, as lists of rows -/

/-- The element in a row and a column. -/
def matAt (m : List (List Word)) (i j : Nat) : Word := (m.getD i []).getD j 0

/-- The `n` by `n` matrix with these elements. -/
def matOf (n : Nat) (f : Nat → Nat → Word) : List (List Word) := (List.range n).map (fun i => (List.range n).map (fun j => f i j))

/-- The transpose of an `n` by `n` matrix. -/
def matT (n : Nat) (m : List (List Word)) : List (List Word) := matOf n (fun i j => matAt m j i)

/-- The product of two `n` by `n` matrices. -/
def matMul (n : Nat) (a b : List (List Word)) : List (List Word) :=
  matOf n (fun i j => flDot (a.getD i []) ((List.range n).map (fun k => matAt b k j)))

/-- The product of a matrix and a vector. -/
def matVec (a : List (List Word)) (x : List Word) : List Word := a.map (fun r => flDot r x)

/-- v times the unit matrix. -/
def matDiag (n : Nat) (v : Word) : List (List Word) := matOf n (fun i j => if i = j then v else 0)

/-- A state vector and its covariance. -/
abbrev Estimate := List Word × List (List Word)

/-- x and P after a prediction: F x, and F P F^T + Q (R505). -/
def flPredict (n : Nat) (f q : List (List Word)) (e : Estimate) : Estimate :=
  let p := matMul n (matMul n f e.2) (matT n f)
  (matVec f e.1, matOf n (fun i j => flAdd (matAt p i j) (matAt q i j)))

/-- x and P after a measurement `z` with row `h` and variance `r`; `wrap` acts on the innovation (R505). -/
def flUpdate (n : Nat) (wrap : Word → Word) (z : Word) (h : List Word) (r : Word) (e : Estimate) : Estimate :=
  let y := wrap (flSub z (flDot h e.1))
  let ph := matVec e.2 h
  let s := flAdd (flDot (((List.range n).map (fun j => flDot h ((List.range n).map (fun i => matAt e.2 i j))))) h) r
  let k := ph.map (fun v => flDiv v s)
  let x := (e.1.zip k).map (fun p => flAdd p.1 (flMul p.2 y))
  let g := matOf n (fun i j => flSub (if i = j then flOne else 0) (flMul (k.getD i 0) (h.getD j 0)))
  (x, matMul n g e.2)

end Sys2Proof.Machine
end

