-- ==== Sys2Proof/Machine/Model.lean ====
section
/-!
DEFINITION. The fusion model container: its tables, the model checks, and the arithmetic of its layers (15_fusion.md, R491, R502 to
R504). A container is its list of bytes.
-/

namespace Sys2Proof.Machine

/-! ### The container (R502) -/

/-- A container field, by offset and size (Table Fus.3). -/
def mTotal (m : List Byte) : Nat := natAt m 8 4
def mArena (m : List Byte) : Nat := natAt m 0x0C 4
def mInputs (m : List Byte) : Nat := natAt m 0x14 1
def mBodies (m : List Byte) : Nat := natAt m 0x15 1
def mFeat (m : List Byte) : Nat := natAt m 0x16 1
def mDepth (m : List Byte) : Nat := natAt m 0x17 1
def mTensors (m : List Byte) : Nat := natAt m 0x18 2
def mLayers (m : List Byte) : Nat := natAt m 0x1A 2
def mEncoder (m : List Byte) : Nat := natAt m 0x1C 2

/-- An input entry (Table Fus.4). -/
structure ModelInput where
  src : Nat
  field : Nat
  qshift : Nat
  qmul : Int
  ofs : Int
  zeros : Bool
deriving DecidableEq, Repr

def modelInput (m : List Byte) (i : Nat) : ModelInput :=
  let e := slice m (natAt m 0x20 4 + 12 * i) 12
  { src := natAt e 0 1, field := natAt e 1 1, qshift := natAt e 2 1, qmul := signedOf 16 (natAt e 4 2), ofs := signedOf 32 (natAt e 8 4)
    zeros := decide (natAt e 3 1 = 0 ∧ natAt e 6 2 = 0) }

/-- A tensor entry (Table Fus.5). -/
structure ModelTensor where
  type : Nat
  zp : Int
  rows : Nat
  cols : Nat
  off : Nat
  zeros : Bool
deriving DecidableEq, Repr

def modelTensor (m : List Byte) (i : Nat) : ModelTensor :=
  let e := slice m (natAt m 0x28 4 + 12 * i) 12
  { type := natAt e 0 1, zp := signedOf 8 (natAt e 1 1), rows := natAt e 2 2, cols := natAt e 4 2, off := natAt e 8 4
    zeros := decide (natAt e 6 2 = 0) }

/-- The elements of a tensor, and its bytes. -/
def ModelTensor.size (t : ModelTensor) : Nat := t.rows * t.cols
def ModelTensor.bytes (t : ModelTensor) : Nat := if t.type = 2 then 4 * t.size else t.size

/-- A layer entry (Table Fus.6). -/
structure ModelLayer where
  op : Nat
  act : Nat
  in0 : Nat
  in1 : Nat
  out : Nat
  w : Nat
  b : Nat
  mul : Nat
  shift : Nat
  k : Nat
  stride : Nat
  zeros : Bool
deriving DecidableEq, Repr

def modelLayer (m : List Byte) (i : Nat) : ModelLayer :=
  let e := slice m (natAt m 0x2C 4 + 20 * i) 20
  { op := natAt e 0 1, act := natAt e 1 1, in0 := natAt e 2 2, in1 := natAt e 4 2, out := natAt e 6 2, w := natAt e 8 2, b := natAt e 10 2
    mul := natAt e 12 4, shift := natAt e 16 1, k := natAt e 17 1, stride := natAt e 18 1, zeros := decide (natAt e 19 1 = 0) }

/-- A body entry (Table Fus.7). -/
structure ModelBody where
  kind : Nat
  wheel : Nat
  aux : Nat
  altw : Nat
  qproc : Word
  rmeas : Word
  raux : Word
  p0 : Word
  pbound : Word
  param : Word
  tscale : List Word
  zeros : Bool
deriving DecidableEq, Repr

def modelBody (m : List Byte) (i : Nat) : ModelBody :=
  let e := slice m (natAt m 0x24 4 + 48 * i) 48
  { kind := natAt e 0 1, wheel := natAt e 1 1, aux := natAt e 2 1, altw := natAt e 3 1, qproc := wordAt e 4, rmeas := wordAt e 8
    raux := wordAt e 12, p0 := wordAt e 16, pbound := wordAt e 20, param := wordAt e 24
    tscale := (List.range 4).map (fun k => wordAt e (28 + 4 * k)), zeros := decide (natAt e 44 4 = 0) }

/-! ### Checks 1 to 3 of Table Fus.8 -/

/-- MMAGIC, MFORMAT, HDRLEN, TOTAL and HCRC. -/
def modelHeaderOk (m : List Byte) : Bool :=
  decide (natAt m 0 4 = 0x4C444D46) && decide (natAt m 4 2 = 1) && decide (natAt m 6 2 = 64) && decide (mTotal m = m.length) &&
    decide (natAt m 0x3C 4 = crc32 (m.take 0x3C))

/-- CCRC over weight SRAM bytes 0 to TOTAL − 5 (R502, R512). -/
def modelCrcOk (m : List Byte) : Bool :=
  decide (natAt m (m.length - 4) 4 = crc32 (m.take (m.length - 4)))

/-- The FIELD codes of a SRC, as how many there are; 0 for an unknown SRC (Table Fus.1). -/
def srcFields (src : Nat) : Nat :=
  if src < 4 then 5 else if src < 6 then 3 else if src = 6 then 6 else if src = 7 then 2 else if src < 10 then 6
  else if 0x10 ≤ src ∧ src < 0x30 then 1 else 0

/-- The four tables as offset and size. -/
def modelTables (m : List Byte) : List (Nat × Nat) :=
  [(natAt m 0x20 4, 12 * mInputs m), (natAt m 0x24 4, 48 * mBodies m), (natAt m 0x28 4, 12 * mTensors m), (natAt m 0x2C 4, 20 * mLayers m)]

/-- No two ranges of a list overlap. -/
def rangesApart : List (Nat × Nat) → Bool
  | [] => true
  | a :: t => t.all (fun b => decide (a.1 + a.2 ≤ b.1 ∨ b.1 + b.2 ≤ a.1 ∨ a.2 = 0 ∨ b.2 = 0)) && rangesApart t

/-- The header ranges of Table Fus.3. -/
def modelRangesOk (m : List Byte) : Bool :=
  decide (mTotal m + mArena m ≤ 1048576) && decide (1 ≤ mInputs m ∧ mInputs m ≤ 48) && decide (mBodies m ≤ 8) &&
  decide (1 ≤ mFeat m ∧ mFeat m ≤ 64) && decide (1 ≤ mDepth m ∧ mDepth m ≤ 128) && decide (5 ≤ mTensors m ∧ mTensors m ≤ 1024) &&
  decide (2 ≤ mLayers m ∧ mLayers m ≤ 512) && decide (1 ≤ mEncoder m ∧ mEncoder m ≤ mLayers m - 1) && decide (natAt m 0x1E 2 = 0) &&
  (slice m 0x30 12).all (fun b => b == 0)

/-- A tensor's bytes lie where they must; tensor 2 has none (R502). -/
def tensorPlaced (m : List Byte) (i : Nat) : Bool :=
  let t := modelTensor m i
  t.zeros && decide (t.type ≤ 2) && (decide (i = 2) || decide (t.off + t.bytes ≤ if t.type = 0 then mArena m else mTotal m))

/-- Check 3 (Table Fus.8). -/
def modelTablesOk (m : List Byte) : Bool :=
  modelRangesOk m && (modelTables m).all (fun p => decide (p.1 % 4 = 0 ∧ p.1 + p.2 ≤ mTotal m)) && rangesApart (modelTables m) &&
  (List.range (mInputs m)).all (fun i => let e := modelInput m i
    e.zeros && decide (e.field < srcFields e.src) && decide (e.qshift ≤ 62)) &&
  (List.range (mBodies m)).all (fun i => (modelBody m i).zeros) &&
  (List.range (mTensors m)).all (tensorPlaced m) &&
  (List.range (mLayers m)).all (fun i => let l := modelLayer m i
    l.zeros && decide (1 ≤ l.op ∧ l.op ≤ 6) && decide (l.act ≤ 1) && decide (1 ≤ l.mul ∧ l.mul < 0x80000000) &&
      decide (1 ≤ l.shift ∧ l.shift ≤ 62) && decide (1 ≤ l.k) && decide (1 ≤ l.stride))

/-! ### Check 4: shapes -/

/-- Tensors 0 to 4 as R502 lays down. -/
def fixedTensorsOk (m : List Byte) : Bool :=
  let t := modelTensor m
  let shape := fun (i r c : Nat) => decide ((t i).type = 0 ∧ (t i).rows = r ∧ (t i).cols = c)
  shape 0 1 (mInputs m) && decide ((t 0).zp = 0) && shape 1 1 (mFeat m) && shape 2 (mDepth m) (mFeat m) && decide ((t 2).zp = (t 1).zp) &&
    shape 3 1 32 && decide ((t 3).zp = 0) && shape 4 1 6

/-- The tensors a layer names exist. -/
def layerNames (m : List Byte) (l : ModelLayer) : Bool :=
  let n := mTensors m
  let used := [l.in0, l.out] ++ (if l.op = 4 ∨ l.op = 6 then [l.in1] else []) ++ (if l.op ≤ 2 then [l.w, l.b] else []) ++
    (if l.op = 5 then [l.w] else [])
  used.all (fun i => decide (i < n))

/-- The tensors a layer reads as data. -/
def ModelLayer.reads (l : ModelLayer) : List Nat := if l.op = 4 ∨ l.op = 6 then [l.in0, l.in1] else [l.in0]

/-- An int32 constant's elements. -/
def int32Of (m : List Byte) (t : ModelTensor) : List Int :=
  (List.range t.size).map (fun i => signedOf 32 (natAt m (t.off + 4 * i) 4))

/-- No accumulator of `n` terms can overflow, with any of the biases (R503). -/
def accBound (m : List Byte) (b : ModelTensor) (n : Nat) : Bool :=
  (int32Of m b).all (fun v => decide (v.natAbs + n * (255 * 128) ≤ 2147483647))

/-- The rows that a window of K with STRIDE makes of L. -/
def windowRows (l k stride : Nat) : Nat := (l - k) / (if stride = 0 then 1 else stride) + 1

/-- A layer's shapes, types and zero points (R503). -/
def layerShapeOk (m : List Byte) (l : ModelLayer) : Bool :=
  let t := modelTensor m
  let i := t l.in0
  let j := t l.in1
  let o := t l.out
  let w := t l.w
  let b := t l.b
  let data := decide (i.type ≤ 1) && decide (o.type = 0) && decide (l.out ≠ 2)
  match l.op with
  | 1 => data && decide (w.type = 1 ∧ w.cols = i.size ∧ b.type = 2 ∧ b.rows = 1 ∧ b.cols = w.rows ∧ o.size = w.rows) && accBound m b i.size
  | 2 => data && decide (l.k ≤ i.rows ∧ w.type = 1 ∧ w.cols = l.k * i.cols ∧ b.type = 2 ∧ b.rows = 1 ∧ b.cols = w.rows ∧
      o.rows = windowRows i.rows l.k l.stride ∧ o.cols = w.rows) && accBound m b w.cols
  | 3 => data && decide (l.k ≤ i.rows ∧ o.rows = windowRows i.rows l.k l.stride ∧ o.cols = i.cols ∧ o.zp = i.zp)
  | 4 => data && decide (j.type ≤ 1 ∧ i.rows = j.rows ∧ i.cols = j.cols ∧ i.rows = o.rows ∧ i.cols = o.cols)
  | 5 => data && decide (w.type = 1 ∧ w.rows = 1 ∧ w.cols = 256 ∧ o.size = i.size)
  | 6 => data && decide (j.type ≤ 1 ∧ o.size = i.size + j.size ∧ i.zp = j.zp ∧ i.zp = o.zp)
  | _ => false

/-- Every tensor of a part is written before it is read; `have_` lists what the part starts with. -/
def readsWritten (m : List Byte) : List Nat → List ModelLayer → Bool
  | _, [] => true
  | have_, l :: t =>
    l.reads.all (fun i => have_.contains i || decide ((modelTensor m i).type ≠ 0)) && readsWritten m (l.out :: have_) t

/-- The layers of the encoder and of the head. -/
def encoderLayers (m : List Byte) : List ModelLayer := (List.range (mEncoder m)).map (modelLayer m)
def headLayers (m : List Byte) : List ModelLayer := (List.range (mLayers m - mEncoder m)).map (fun i => modelLayer m (mEncoder m + i))

/-- A body entry is consistent with Table Fus.7. -/
def bodyOk (m : List Byte) (i : Nat) : Bool :=
  let b := modelBody m i
  match b.kind with
  | 1 => decide (b.wheel < 4 ∧ b.aux = 0xFF ∧ b.altw = 0xFF ∧ b.param = 0)
  | 2 => decide (b.wheel < 4 ∧ b.aux < 2 ∧ (b.altw < 4 ∨ b.altw = 0xFF))
  | 3 => decide (b.wheel = 0xFF ∧ b.altw = 0xFF ∧ b.aux < mBodies m ∧ (modelBody m b.aux).kind = 2)
  | _ => false

/-- Check 4 (Table Fus.8). -/
def modelShapesOk (m : List Byte) : Bool :=
  let enc := encoderLayers m
  let head := headLayers m
  fixedTensorsOk m && (enc ++ head).all (fun l => layerNames m l && layerShapeOk m l) &&
    (enc.head?.map (fun l => l.reads.contains 0)).getD false && decide ((enc.getLast?.map (fun l => l.out)) = some 1) &&
    enc.all (fun l => !l.reads.any (fun i => decide (2 ≤ i ∧ i ≤ 4))) && head.any (fun l => l.out == 4) &&
    readsWritten m [0] enc && readsWritten m [2, 3] head && (List.range (mBodies m)).all (bodyOk m)

/-! ### Check 5: cost -/

/-- The cycles a layer costs (Table Fus.8). -/
def layerCost (m : List Byte) (l : ModelLayer) : Nat :=
  let o := modelTensor m l.out
  let w := modelTensor m l.w
  if l.op ≤ 2 then (o.size * w.cols + 255) / 256 + 32 else (o.size + 63) / 64 + 32

def modelBudgetOk (m : List Byte) : Bool :=
  decide (((encoderLayers m).map (layerCost m)).sum ≤ 96000) && decide (((headLayers m).map (layerCost m)).sum ≤ 1536000)

/-- The model checks in order: the MFAIL code of the first that fails, or 0 (R504). -/
def modelCode (m : List Byte) : Nat :=
  if modelHeaderOk m = false then 2 else if modelCrcOk m = false then 6 else if modelTablesOk m = false then 3
  else if modelShapesOk m = false then 4 else if modelBudgetOk m = false then 5 else 0

/-! ### Layer arithmetic (R491, R503) -/

/-- One input value as an element of tensor 0 (R491). -/
def quantise (e : ModelInput) (v : Int) : Int :=
  let t := (v - e.ofs) * e.qmul
  let t1 := if 0 < e.qshift then Int.fdiv (t + 2 ^ (e.qshift - 1)) (2 ^ e.qshift) else t
  clampInt (-128) 127 t1

/-- The requantisation of an accumulator (R503). -/
def requant (l : ModelLayer) (zout acc : Int) : Int :=
  let y := Int.fdiv (acc * l.mul + 2 ^ (l.shift - 1)) (2 ^ l.shift) + zout
  clampInt (if l.act = 1 then zout else -128) 127 y

/-- The sum of products of two lists of numbers. -/
def dotInt (a b : List Int) : Int := ((a.zip b).map (fun p => p.1 * p.2)).sum

/-- Bytes as int8 values, and back. -/
def int8s (l : List Byte) : List Int := l.map BitVec.toInt
def bytesOfInt8 (l : List Int) : List Byte := l.map (fun v => BitVec.ofInt 8 v)

/-- A tensor's elements: the grid window, a constant of the container, or an activation of the arena (R501, R502). -/
def tensorData (m : List Byte) (grid : List Int) (mem : List Byte) (i : Nat) : List Int :=
  let t := modelTensor m i
  if i = 2 then grid else int8s (slice (if t.type = 0 then mem else m) t.off t.size)

/-- One output per row of W over one stretch of input (DENSE, and one window of CONV1D). -/
def macRow (m : List Byte) (l : ModelLayer) (x : List Int) : List Int :=
  let w := modelTensor m l.w
  let wd := int8s (slice m w.off w.size)
  let b := int32Of m (modelTensor m l.b)
  let z := (modelTensor m l.out).zp
  (List.range w.rows).map (fun j => requant l z (b.getD j 0 + dotInt x ((wd.drop (j * w.cols)).take w.cols)))

/-- What a layer writes to OUT (R503). -/
def layerOut (m : List Byte) (grid : List Int) (mem : List Byte) (l : ModelLayer) : List Int :=
  let i := modelTensor m l.in0
  let o := modelTensor m l.out
  let x := tensorData m grid mem l.in0
  match l.op with
  | 1 => macRow m l (x.map (fun v => v - i.zp))
  | 2 =>
    let xs := x.map (fun v => v - i.zp)
    (List.range o.rows).flatMap (fun t => macRow m l ((xs.drop (t * l.stride * i.cols)).take (l.k * i.cols)))
  | 3 => (List.range o.rows).flatMap (fun t => (List.range i.cols).map (fun c =>
      (List.range l.k).foldl (fun a k => max a (x.getD ((t * l.stride + k) * i.cols + c) (-128))) (-128)))
  | 4 => (x.zip (tensorData m grid mem l.in1)).map (fun p =>
      clampInt (-128) 127 (p.1 - i.zp + p.2 - (modelTensor m l.in1).zp + o.zp))
  | 5 =>
    let t := tensorData m grid mem l.w
    x.map (fun v => t.getD (v + 128).toNat 0)
  | _ => x ++ tensorData m grid mem l.in1

/-- Layers run in order, each writing OUT into the arena. -/
def runLayers (m : List Byte) (grid : List Int) : List ModelLayer → List Byte → List Byte
  | [], mem => mem
  | l :: t, mem => runLayers m grid t (patchBytes mem (modelTensor m l.out).off (bytesOfInt8 (layerOut m grid mem l)))

/-- An arena with one tensor written (log entry 33). -/
def arenaWith (m : List Byte) (i : Nat) (v : List Int) : List Byte :=
  patchBytes (padBytes (mArena m) 0) (modelTensor m i).off (bytesOfInt8 v)

/-- An encoder run: tensor 1 from tensor 0 (R501). -/
def encoderRun (m : List Byte) (cell : List Int) : List Int :=
  tensorData m [] (runLayers m [] (encoderLayers m) (arenaWith m 0 cell)) 1

/-- A head run: tensor 4 from the grid window and the track vector. -/
def headRun (m : List Byte) (grid track : List Int) : List Int :=
  tensorData m grid (runLayers m grid (headLayers m) (arenaWith m 3 track)) 4

/-- Tensor 2: the newest DEPTH cells, row 0 the newest; rows for which no cell has closed read tensor 1's zero point (R501). -/
def gridWindow (m : List Byte) (ring : List (List Int)) : List Int :=
  let z := (modelTensor m 1).zp
  (List.range (mDepth m)).flatMap (fun i => ring.getD i (List.replicate (mFeat m) z))

end Sys2Proof.Machine
end

