-- ==== Sys2Proof/Machine/Fusion.lean ====
section
/-!
DEFINITION. Sensor fusion: the model load and start, the grid, the tracked bodies, the inertial sensors, the input slots, the frame cycle
with its ride events, the self-test and the weight check (15_fusion.md, R488 to R518; R106, R116, R117).
-/

namespace Sys2Proof.Machine

def State.setFus (s : State) (f : FusSt) : State := { s with fus := f }

/-- A FUS word as the engine uses it: a commit applies at the next tick (R514). -/
def State.fusReg (s : State) (a : Nat) : Word := ((s.fus.old.find? (fun p => p.1 == a)).map Prod.snd).getD (s.reg a)
def State.fusFld (s : State) (a hi lo : Nat) : Nat := fieldOf (s.fusReg a) hi lo
def State.fusBit (s : State) (a i : Nat) : Bool := bitOf (s.fusReg a) i

/-- The engine works: PD9 is powered, a model runs, and no debug halt pauses it (R517, R567). -/
def State.fusOn (s : State) : Bool := s.running && s.fus.mstate == .running && !s.life.halted

/-- PD9 is on. -/
def State.fusPowered (s : State) : Bool := s.bit 0x11000C 9

/-! ### Inputs (R490 to R493) -/

/-- The page of sensor `n` (Table Fus.14). -/
def imuBase (n : Nat) : Nat := 0xC0200 + 0x80 * n

def State.imu (s : State) (n : Fin 2) : ImuSt := s.fus.imus[n]
def State.setImu (s : State) (n : Fin 2) (m : ImuSt) : State := s.setFus { s.fus with imus := s.fus.imus.set n m }
def State.slot (s : State) (i : Fin 32) : FusSlot := s.fus.slots[i]
def State.setSlot (s : State) (i : Fin 32) (v : FusSlot) : State := s.setFus { s.fus with slots := s.fus.slots.set i v }

/-- The value of an input of Table Fus.1, at the moment of use; a disabled source reads 0 (R490, R513). -/
def State.fusInput (s : State) (src field : Nat) : Int :=
  if src < 4 then
    let w : Fin 4 := Fin.ofNat 4 src
    let v := s.wheels[w]
    if (s.wheelCfg src).mode = 0 then 0
    else match field with
      | 0 => (v.position s.now : Int)
      | 1 => v.speedNow s.now
      | 2 => v.accelNow s.now
      | 3 => (v.stateWord (s.wheelCfg w).dirSrc).toInt
      | _ => (wordOfInt (v.revCnt s.now)).toInt
  else if src < 6 then
    let k : Fin 2 := Fin.ofNat 2 src
    if s.phaseEn k then
      match field with
      | 0 => (s.reg (phaseBase k + 0x14)).toInt
      | 1 => (s.reg (phaseBase k + 0x18)).toInt
      | _ => (s.phaseStat k).toInt
    else 0
  else if src = 6 then
    match field with
    | 0 => (s.reg 0xB0138).toInt
    | 1 => (s.reg 0xB013C).toInt
    | 2 => signedOf 16 (s.fld 0xB0140 15 0)
    | 3 => signedOf 16 (s.fld 0xB0140 31 16)
    | 4 => signedOf 16 (s.fld 0xB0144 15 0)
    | _ => signedOf 16 (s.fld 0xB0144 31 16)
  else if src = 7 then
    if field = 0 then (((s.bat.rep.map (fun r => ((r + 32768) / 65536).toNat)).getD 0xFFFF : Nat) : Int) else (s.bat.state.code : Int)
  else if src < 10 then
    let n : Fin 2 := Fin.ofNat 2 src
    if s.fusBit (imuBase n.val) 31 then (s.imu n).sample.getD field 0 else 0
  else (s.slot (Fin.ofNat 32 (src - 0x10))).value.toInt

/-- Tensor 0 (R491). -/
def State.cellInput (s : State) : List Int :=
  let m := s.fus.weights
  (List.range (mInputs m)).map (fun i => let e := modelInput m i; quantise e (s.fusInput e.src e.field))

/-- AGE of a slot in ms. -/
def State.slotAge (s : State) (i : Fin 32) : Nat := Nat.min 65535 ((s.now - (s.slot i).base) / 384000)

/-- AGEMAX is not 0 and AGE exceeds it. -/
def State.slotOld (s : State) (i : Fin 32) : Bool :=
  let m := s.fusFld (0xC0900 + 4 * i.val) 31 16
  decide (m ≠ 0 ∧ m < s.slotAge i)

/-- STALE of a slot as it reads. -/
def State.slotStale (s : State) (i : Fin 32) : Bool := (s.slot i).stale && s.slotOld i

/-- SLOT_STALE (R492). -/
def State.markStale (s : State) (i : Fin 32) : State := if s.running && s.slotOld i then s.setSlot i { s.slot i with stale := true } else s

/-- The slots of the group a slot belongs to: the lowest, and whether `j` belongs to the group above `i`'s lowest (R492). -/
def groupLow (grp : Word) : Nat → Nat
  | 0 => 0
  | i + 1 => if bitOf grp (i + 1) then groupLow grp i else i + 1

/-- The slots of one group, rising. -/
def groupOf (grp : Word) (i : Nat) : List Nat := indicesWhere 32 (fun j => groupLow grp j == groupLow grp i)

/-- A change to every slot of a group. -/
def State.overGroup (s : State) (g : List Nat) (f : FusSlot → FusSlot) : State :=
  g.foldl (fun s i => let k : Fin 32 := Fin.ofNat 32 i; s.setSlot k (f (s.slot k))) s

/-- The held words of a group are dropped. -/
def FusSlot.unhold (v : FusSlot) : FusSlot := { v with held := none, spoiled := false }

/-- A held word takes effect. -/
def FusSlot.take (now : Nat) (v : FusSlot) : FusSlot :=
  match v.held with
  | some w => { v with value := w, held := none, base := now, stale := false }
  | none => v

/-- A write to an input slot: held, committed with its group, or discarded (R492, R493). -/
def State.slotWrite (s : State) (i : Fin 32) (w : Word) (tag : Bool) : State :=
  let grp := s.fusReg 0xC0880
  let g := groupOf grp i.val
  let low : Fin 32 := Fin.ofNat 32 (groupLow grp i.val)
  let top := decide (g.getLast? = some i.val)
  if tag || (s.fusBit 0xC0884 i.val && bitOf w 17) then
    let s1 := ((s.orReg 0xC088C (2 ^ i.val)).satInc 0xC0014 15 0).overGroup g FusSlot.unhold
    if top then s1 else s1.setSlot low { s1.slot low with spoiled := true }
  else if (s.slot low).spoiled then (if top then s.overGroup g FusSlot.unhold else s)
  else
    let s1 := s.setSlot i { s.slot i with held := some w }
    if top then s1.overGroup g (FusSlot.take s.now) else s1

/-! ### The grid (R500, R501) -/

/-- GW. -/
def State.gridWheel (s : State) : Fin 4 := Fin.ofNat 4 (s.fusFld 0xC000C 25 24)

/-- Bits 21:16 of the angle word of GW. -/
def State.gridIndex (s : State) : Nat := fieldOf (s.angleOf s.gridWheel) 21 16

/-- The grid enters ANGLE or TIME where R500 says so. -/
def State.gridMode (s : State) : State :=
  let v := s.wheels[s.gridWheel]
  let sp := (v.speedNow s.now).natAbs
  let up := s.fusFld 0xC0008 31 16 * 256
  let dn := s.fusFld 0xC0008 15 0 * 256
  if s.fus.gridTime then
    if v.sync = .locked ∧ v.standstill = false ∧ up ≤ sp then s.setFus { s.fus with gridTime := false, gridIdx := s.gridIndex } else s
  else if (v.sync ≠ .locked ∧ v.sync ≠ .coast) ∨ v.standstill = true ∨ sp < dn then
    s.setFus { s.fus with gridTime := true, cellAt := s.now + msAng (s.fusFld 0xC000C 15 0), cellCount := 0 }
  else s

/-- The first cycle at which the SPEED of a wheel in COAST, which falls while its edge is overdue, is below WALKDN (R206, R500); none where
WALKDN is 0 and it never is. -/
def State.walkDownAt (s : State) : Option Nat :=
  let v := s.wheels[s.gridWheel]
  let dn := s.fusFld 0xC0008 15 0 * 256
  if v.sync = .coast ∧ dn ≠ 0 then some (v.tLast + v.wnext * 6000000 / dn + 1) else none

/-- A span in which the SPEED of a coasting GW falls below WALKDN puts the grid into TIME in that cycle (R500). -/
def State.gridFall (s : State) : State :=
  match s.fusOn && !s.fus.gridTime, s.walkDownAt with
  | true, some t =>
    if t ≤ s.now then s.setFus { s.fus with gridTime := true, cellAt := t + msAng (s.fusFld 0xC000C 15 0), cellCount := 0 } else s
  | _, _ => s

/-- A cell closes: tensor 0 is filled and an encoder run queued; a waiting run's input is replaced (R501). -/
def State.closeCell (s : State) (newest : Nat) (dir : Dir) : State :=
  let f := s.fus
  let run : EncRun := { input := s.cellInput, queuedAt := some s.now }
  let s1 := s.setFus { f with newest := newest, newestDir := dir, closed := f.closed + 1 }
  match f.encRun, f.encWait with
  | none, _ => s1.setFus { s1.fus with encRun := some run }
  | some _, none => s1.setFus { s1.fus with encWait := some run }
  | some _, some w => (s1.setFus { s1.fus with encWait := some { run with cells := w.cells + 1 } }).satInc 0xC0010 15 0

/-- CELL_CLOSE (R500, R501, R514). -/
def State.cellClose (s : State) : State :=
  if s.fusOn then
    let s1 := s.gridMode
    let f := s1.fus
    if f.gridTime then
      if f.cellAt ≤ s.now then
        (s1.setFus { f with cellAt := f.cellAt + msAng (s.fusFld 0xC000C 15 0), cellCount := (f.cellCount + 1) % 128 }).closeCell
          (128 + f.cellCount) .unknown
      else s1
    else if s1.gridIndex = f.gridIdx then s1
    else (s1.setFus { f with gridIdx := s1.gridIndex }).closeCell f.gridIdx (s1.wheels[s1.gridWheel]).dir
  else s

/-- ENCODER_RUN_DONE: the features go into the ring, also for the cells whose input was replaced (R501). -/
def State.encoderDone (s : State) : State :=
  match s.fusOn, s.fus.encRun with
  | true, some r =>
    let out := encoderRun s.fus.weights r.input
    s.setFus { s.fus with ring := (List.replicate r.cells out ++ s.fus.ring).take 128, encRun := s.fus.encWait.map (fun (w : EncRun) => { w with queuedAt := none }), encWait := none }
  | _, _ => s

/-- WARM (R501). -/
def State.warm (s : State) : Bool := s.fus.mstate == .running && decide (mDepth s.fus.weights ≤ s.fus.closed)

/-! ### Tracks (R505 to R508) -/

def State.modelBodies (s : State) : List ModelBody := (List.range (mBodies s.fus.weights)).map (modelBody s.fus.weights)

/-- The components of a kind's state. -/
def kindDim (kind : Nat) : Nat := if kind = 1 then 3 else if kind = 2 then 4 else 1

/-- θ modulo 1. -/
def spinWrap (x : List Word) : List Word := match x with
  | t :: r => flSub t (flFloor t) :: r
  | [] => []

/-- The innovation of SPIN, wrapped into (−0.5, 0.5]. -/
def halfWrap (y : Word) : Word :=
  if flLt 0x3F000000 y then flSub y flOne else if flLe y 0xBF000000 then flAdd y flOne else y

/-- Seconds between two CLK_ANG times, by the difference of their ANG_TNOW values (R505). -/
def trackDt (from_ dest : Nat) : Word := flQuot (((dest - from_) % 2 ^ 32 : Nat) : Int) 384000000

/-- The prediction of one body (Table Fus.9). -/
def bodyPredict (c : ModelBody) (b : BodySt) (now : Nat) : BodySt :=
  let dt := trackDt b.last now
  let d2 := flMul dt dt
  let d3 := flMul d2 dt
  let d4 := flMul d3 dt
  let d5 := flMul d4 dt
  let excess := fun (v : Word) (n : Int) => flMul c.qproc (flDiv v (flInt n))
  let e : Estimate :=
    if c.kind = 1 then
      flPredict 3 [[flOne, dt, flDiv d2 (flInt 2)], [0, flOne, dt], [0, 0, flOne]]
        [[excess d5 20, excess d4 8, excess d3 6], [excess d4 8, excess d3 3, excess d2 2], [excess d3 6, excess d2 2, flMul c.qproc dt]] (b.x, b.p)
    else if c.kind = 2 then
      let q := flMul c.qproc dt
      let r := flMul q 0x3C23D70A
      flPredict 4 [[flOne, dt, 0, 0], [0, flOne, 0, 0], [0, 0, flOne, 0], [0, 0, 0, flOne]]
        [[0, 0, 0, 0], [0, q, 0, 0], [0, 0, r, 0], [0, 0, 0, r]] (b.x, b.p)
    else flPredict 1 [[flOne]] [[flMul c.qproc dt]] (b.x, b.p)
  { b with x := if c.kind = 1 then spinWrap e.1 else e.1, p := e.2, last := now }

/-- The trace of P. -/
def traceOf (n : Nat) (p : List (List Word)) : Word := ((List.range n).drop 1).foldl (fun a i => flAdd a (matAt p i i)) (matAt p 0 0)

/-- One measurement of one body, already predicted; SETTLING clears where the trace falls below PBOUND (R505, R507). In the CLK_SYS cycle of a
re-seed it is discarded; the components before the first update of a cycle are kept for a re-seed that follows in it (R514). -/
def bodyMeasure (c : ModelBody) (b : BodySt) (z : Word) (h : List Word) (r : Word) : BodySt :=
  let n := kindDim c.kind
  let cycle := b.last / 2
  if b.seededAt = some cycle then b
  else
  let e := flUpdate n (if c.kind = 1 then halfWrap else id) z h r (b.x, b.p)
  { b with
    before := if b.before.any (fun p => p.1 == cycle) then b.before else some (cycle, b.x)
    x := if c.kind = 1 then spinWrap e.1 else e.1, p := e.2, settling := b.settling && !flLt (traceOf n e.2) c.pbound }

/-- The seeding of a body (R507). -/
def bodySeed (c : ModelBody) (b : BodySt) (x : List Word) (now : Nat) : BodySt :=
  { b with x := x, p := matDiag (kindDim c.kind) c.p0, last := now, settling := true }

/-- SPEED as revolutions per second. -/
def speedF (v : Int) : Word := flDiv (flInt v) (flInt 65536)

/-- HLT_REDUCED.COVERW follows the COVER bits (Table Health.7). -/
def State.coverMask (s : State) : State :=
  let m := maskWhere 4 (fun w => (s.modelBodies.zip s.fus.bodies).any (fun p => p.1.kind == 2 && p.1.wheel == w && p.2.cover))
  s.setFus { s.fus with cover := m }

/-- A re-seed in the cycle in which the body's wheel enters PROVISIONAL (R507). -/
def State.reseed (s : State) (c : ModelBody) (b : BodySt) (v : WheelSt) : BodySt :=
  let x := ((b.before.filter (fun p => p.1 == s.now / 2)).map Prod.snd).getD b.x
  { bodySeed c b (if c.kind = 1 then [flDiv (flInt (wrapInt 22 v.lin : Nat)) (flInt 4194304), speedF v.speed, 0]
      else flMul (speedF v.speed) c.param :: x.drop 1) s.now with seededAt := some (s.now / 2) }

/-- The ratio of a FRAME body is learned at this edge (R508). -/
def learnRatio (b : BodySt) (sw sa : Int) : BodySt :=
  { b with rho := flAdd b.rho (flDiv (flSub (flDiv (flInt sw) (flInt sa)) b.rho) (flInt 64)), learned := b.learned + 1 }

/-- The main wheel of a FRAME body is lost: neither LOCKED nor COAST, or DEAD (R508). -/
def State.wheelLost (s : State) (w : Nat) : Bool :=
  let v := s.wheels[(Fin.ofNat 4 w : Fin 4)]
  (v.sync != .locked && v.sync != .coast) || s.bit (wheelBase w + 0x58) 0

/-- What a counted edge of wheel `w` does to one body (R505, R508). -/
def State.bodyEdge (s : State) (w : Fin 4) (c : ModelBody) (b : BodySt) : BodySt :=
  let v := s.wheels[w]
  if c.kind = 1 then
    if c.wheel = w.val then
      bodyMeasure c (bodyPredict c b s.now) (flDiv (flInt (fieldOf v.edgeAng 21 0 : Nat)) (flInt 4194304)) [flOne, 0, 0] c.rmeas
    else b
  else if c.kind = 2 then
    let z := flMul (speedF v.speed) c.param
    if c.wheel = w.val then
      let a := s.wheels[(Fin.ofNat 4 c.altw : Fin 4)]
      let b1 := if c.altw ≠ 0xFF ∧ v.sync = .locked ∧ a.sync = .locked ∧ v.standstill = false ∧ a.standstill = false ∧ a.speed ≠ 0
        then learnRatio b v.speed a.speed else b
      if s.wheelLost c.wheel then b1
      else bodyMeasure c { bodyPredict c b1 s.now with cover := false } z [flOne, 0, 0, 0] c.rmeas
    else if c.altw = w.val ∧ s.wheelLost c.wheel = true ∧ v.sync = .locked ∧ 64 ≤ b.learned then
      bodyMeasure c { bodyPredict c b s.now with cover := true } (flMul (flMul (speedF v.speed) b.rho) c.param) [flOne, 0, 0, 0]
        (flMul (flInt 4) c.rmeas)
    else b
  else b

/-- What a change of wheel `w` does to the tracks and to the grid: `before` is the state before it. A re-seed wins over an update in the
same cycle (R500, R507, R514). -/
def State.fusWheel (before s : State) (w : Fin 4) : State :=
  if s.fusOn then
    let old := before.wheels[w]
    let new := s.wheels[w]
    let prov := decide (new.sync = .provisional ∧ old.sync ≠ .provisional)
    let edge := decide (new.edges ≠ old.edges)
    let s1 := if prov || edge then
        s.setFus { s.fus with bodies := (s.modelBodies.zip s.fus.bodies).map (fun p =>
          if prov && decide (p.1.kind ≤ 2) && p.1.wheel == w.val then s.reseed p.1 p.2 new
          else if edge then s.bodyEdge w p.1 p.2 else p.2) }
      else s
    s1.coverMask.gridMode
  else s

/-- The same for all four wheels. -/
def State.fusWheels (before s : State) : State := (List.finRange 4).foldl (fun t (w : Fin 4) => State.fusWheel before t w) s

/-- The track vector, tensor 3 (R506). -/
def State.trackVector (s : State) : List Int :=
  let l := (s.modelBodies.zip s.fus.bodies).flatMap (fun p =>
    (List.range 4).map (fun k => if k < kindDim p.1.kind then flToInt k (-127) 127 (flMul (p.2.x.getD k 0) (p.1.tscale.getD k 0)) else 0))
  (List.range 32).map (fun i => l.getD i 0)

/-- The measurement of a LOAD body at a tick (Table Fus.9). -/
def State.loadUpdate (s : State) (bodies : List BodySt) (c : ModelBody) (b : BodySt) : BodySt :=
  match bodies[c.aux]? with
  | some fr =>
    let v := fr.x.getD 0 0
    let acc := flAdd (fr.x.getD 1 0) (flMul 0x411CE80A (fr.x.getD 2 0))
    if !fr.settling && flLe flOne v && flLe 0x3F000000 (flAbs acc) then
      let vp := flDiv (flInt (s.reg 0xB0138).toInt) (flInt 10000)
      let ip := flDiv (flInt (s.reg 0xB013C).toInt) (flInt 256000)
      bodyMeasure c b (flDiv (flMul (flMul c.param vp) (flNeg ip)) (flMul v acc)) [flOne] c.rmeas
    else b
  | none => b

/-- Every track predicted to the tick, then the LOAD measurements (R488, R505). -/
def State.predictTracks (s : State) : State :=
  let cs := s.modelBodies
  let l := (cs.zip s.fus.bodies).map (fun p => bodyPredict p.1 p.2 s.now)
  s.setFus { s.fus with bodies := (cs.zip l).map (fun p => if p.1.kind = 3 then s.loadUpdate l p.1 p.2 else p.2) }

/-! ### Inertial sensors (R494 to R499) -/

/-- An angle in µrad as radians. -/
def microRad (v : Int) : Word := flQuot v 1000000

/-- A correction in µrad, rounded to nearest (Table Fus.2). -/
def corrMicro (c : Word) : Int := flToInt 8 (-(2 ^ 31)) (2 ^ 31 - 1) (flMul c 0x49742400)

/-- The corrections of a sensor in µrad. -/
def ImuSt.micro (m : ImuSt) : List Int := m.corr.map corrMicro

/-- MNTR, MNTP and MNTY. -/
def State.nominal (s : State) (n : Nat) : List Int := (List.range 3).map (fun k => (s.fusReg (imuBase n + 0x18 + 4 * k)).toInt)

/-- R = Rz Ry Rx (R497). -/
def mountRotation (angles : List Word) : List (List Word) :=
  let c := fun (i : Nat) => Config.cosF (angles.getD i 0)
  let s := fun (i : Nat) => Config.sinF (angles.getD i 0)
  let rx := [[flOne, 0, 0], [0, c 0, flNeg (s 0)], [0, s 0, c 0]]
  let ry := [[c 1, 0, s 1], [0, flOne, 0], [flNeg (s 1), 0, c 1]]
  let rz := [[c 2, flNeg (s 2), 0], [s 2, c 2, 0], [0, 0, flOne]]
  matMul 3 (matMul 3 rz ry) rx

/-- The mounting rotation of a sensor. -/
def State.imuRotation (s : State) (n : Fin 2) : List (List Word) :=
  let nom := s.nominal n.val
  mountRotation ((List.range 3).map (fun k => flAdd (microRad (nom.getD k 0)) ((s.imu n).corr.getD k 0)))

/-- The byte of AXMAP for axis `k`. -/
def State.axMap (s : State) (n k : Nat) : Nat := s.fusFld (imuBase n + 8 + 4 * (k / 4)) (8 * (k % 4) + 7) (8 * (k % 4))

/-- The raw value of one axis of a response; a byte the response does not have is a free value (R496, log entry 34). -/
def State.axisRaw (s : State) (n : Nat) (resp : List Byte) (k : Nat) : Int :=
  let a := s.axMap n k
  let byte := fun (o : Nat) => match resp[o]? with
    | some b => b.toNat
    | none => (Config.freeValue (s.free + o)).toNat % 256
  let o := a % 32
  let v := if s.fusBit (imuBase n) 30 then byte o * 256 + byte (o + 1) else byte o + 256 * byte (o + 1)
  let x := signedOf 16 v
  if a.testBit 7 then -x else x

/-- The SPI master is free. -/
def State.spiFree (s : State) : Bool := !(s.imu 0).busy && !(s.imu 1).busy

/-- A sensor may fetch. -/
def State.imuLive (s : State) (n : Fin 2) : Bool := s.fusOn && s.fusBit (imuBase n.val) 31 && (s.imu n).ready && !(s.imu n).fault

/-- A fetch of a sensor is due (R496). -/
def State.fetchDue (s : State) (n : Fin 2) : Bool :=
  s.imuLive n && !(s.imu n).busy && (if s.fusBit (imuBase n.val) 29 then (s.imu n).due else decide ((s.imu n).fetchAt ≤ s.now))

/-- CLK_ANG cycles of a fetch transfer: NBYTES + 1 bytes at 48 MHz / (DIV + 1), and 1 µs (t_F of Table Fus.1). -/
def State.fetchTime (s : State) (n : Nat) : Nat :=
  (s.fusFld (imuBase n + 4) 5 0 + 1) * 8 * (8 * (s.fusFld (imuBase n) 19 16 + 1)) + usAng 1

/-- A fetch transfer starts: CMD, then NBYTES bytes read. -/
def State.startFetch (s : State) (n : Fin 2) : State :=
  let m := s.imu n
  let per := usAng (10 * s.fusFld (imuBase n.val) 15 0)
  let s1 := s.setImu n { m with busy := true, doneAt := s.now + s.fetchTime n.val, due := false, fetchAt := m.fetchAt + per }
  s1.setFus { s1.fus with spiSent := [[BitVec.ofNat 8 (s.fusFld (imuBase n.val + 4) 15 8)]] }

/-- The due fetch that comes first, IMU0 before IMU1, if the SPI master is free (R496). -/
def State.nextFetch (s : State) : State :=
  if s.spiFree then
    if s.fetchDue 0 then s.startFetch 0 else if s.fetchDue 1 then s.startFetch 1 else s
  else s

/-- IMU_FETCH: PER has run out, or SPINT has risen (R496). -/
def State.imuFetch (s : State) (n : Fin 2) : State :=
  if s.imuLive n then
    let s1 := if s.fusBit (imuBase n.val) 29 then s.setImu n { s.imu n with due := true } else s
    s1.nextFetch
  else s

/-- A sensor's IMUFLT bit sets, its fetches stop, and the initialisation is retried in 1 s (R495, R496, R580). -/
def State.imuFault (s : State) (n : Fin 2) : State :=
  let m := s.imu n
  let s1 := s.setImu n { m with fault := true, ready := false, due := false, initAt := some (s.now + secAng 1) }
  if m.fault then s1 else s1.advise 8 n.val

/-- FRAME measurements (2) and (3) at a fetch of sensor `n` (Table Fus.9). -/
def State.bodyForce (s : State) (n : Fin 2) (f : List Word) (c : ModelBody) (b : BodySt) : BodySt :=
  if c.kind = 2 ∧ c.aux = n.val then
    let b1 := bodyMeasure c (bodyPredict c b s.now) (f.getD 0 0) [0, flOne, 0x411CE80A, 0] c.raux
    bodyMeasure c b1 (Config.atan2F (f.getD 1 0) (f.getD 2 0)) [0, 0, 0, flOne] (flDiv c.raux 0x42C0570A)
  else b

/-- A good response: decoded, rotated, stored and applied to the tracks (R496, R497, R505). -/
def State.imuSample (s : State) (n : Fin 2) (resp : List Byte) : State :=
  let b := imuBase n.val
  let axis := fun (k a : Nat) => flMul (flInt (s.axisRaw n.val resp k)) (s.fusReg (b + a))
  let r := s.imuRotation n
  let f := matVec r ((List.range 3).map (fun k => axis k 0x10))
  let w := matVec r ((List.range 3).map (fun k => axis (3 + k) 0x14))
  let int := fun (v : Word) => flToInt 9 (-(2 ^ 31)) (2 ^ 31 - 1) (flMul v 0x447A0000)
  let s1 := s.setImu n { s.imu n with badRun := 0, force := f, rate := w, sample := f.map int ++ w.map int }
  { s1 with
    fus := { s1.fus with bodies := (s1.modelBodies.zip s1.fus.bodies).map (fun p => s1.bodyForce n f p.1 p.2) }
    free := s1.free + 32 }

/-- A response whose bytes are all 0x00 or all 0xFF: it stores nothing, and eight in a row are a fault (R496, log entry 35). -/
def State.imuBad (s : State) (n : Fin 2) : State :=
  let m := s.imu n
  let s1 := (s.setImu n { m with badRun := m.badRun + 1 }).satInc (imuBase n.val + 0x54) 15 0
  if 8 ≤ m.badRun + 1 then s1.imuFault n else s1

/-- IMU_FETCH_DONE: the response of a fetch transfer (R496). -/
def State.imuFetchDone (s : State) (n : Fin 2) (resp : List Byte) : State :=
  if s.running && (s.imu n).busy && decide ((s.imu n).doneAt ≤ s.now) then
    let s1 := s.setImu n { s.imu n with busy := false }
    let l := resp.take (s.fusFld (imuBase n.val + 4) 5 0)
    let s2 :=
      if !s1.imuLive n then s1
      else if l.all (fun b => b == 0) || l.all (fun b => b == 0xFF) then s1.imuBad n else s1.imuSample n l
    s2.nextFetch
  else s

/-- The transfers of an initialisation: the valid INIT pairs, and the WHOAMI read (R495). -/
def State.initTransfers (s : State) (n : Nat) : List (List Byte) :=
  let b := imuBase n
  let inits := (indicesWhere 8 (fun k => s.fusBit (b + 0x28 + 4 * k) 16)).map (fun k =>
    [BitVec.ofNat 8 (s.fusFld (b + 0x28 + 4 * k) 15 8 % 128), BitVec.ofNat 8 (s.fusFld (b + 0x28 + 4 * k) 7 0)])
  inits ++ (if s.fusBit (b + 0x24) 16 then [[BitVec.ofNat 8 (s.fusFld (b + 0x24) 15 8 ||| 128)]] else [])

/-- IMU_INIT: the INIT writes and the WHOAMI check; `who` is the byte the sensor answers with (R495). -/
def State.imuInit (s : State) (n : Fin 2) (who : Byte) : State :=
  let m := s.imu n
  let b := imuBase n.val
  let due := match m.initAt with
    | some t => decide (t ≤ s.now)
    | none => false
  if s.fusOn && s.fusBit b 31 && due && s.spiFree then
    let s1 := s.setFus { s.fus with spiSent := s.initTransfers n.val }
    if s.fusBit (b + 0x24) 16 && decide (who.toNat ≠ s.fusFld (b + 0x24) 7 0) then s1.imuFault n
    else s1.setImu n { m with
      ready := true, fault := false, initAt := none, badRun := 0, due := false, fetchAt := s.now + usAng (10 * s.fusFld b 15 0) }
  else s

/-- A sensor is to be initialised; a disabled one stays as it is (R495). -/
def State.imuRestart (s : State) (n : Fin 2) : State :=
  s.setImu n { s.imu n with
    ready := false, fault := false, busy := false, due := false, badRun := 0
    initAt := if s.fusBit (imuBase n.val) 31 then some s.now else none }

/-- A correction after one step (R498). -/
def corrStep (c e k step lim : Word) : Word := flClamp (flNeg lim) lim (flAdd c (flClamp (flNeg step) step (flMul k e)))

/-- v / ‖v‖. -/
def normal (v : List Word) : List Word := let n := flSqrt (flDot v v); v.map (fun x => flDiv x n)

/-- The cross product. -/
def cross (a b : List Word) : List Word :=
  let m := fun (i j : Nat) => flSub (flMul (a.getD i 0) (b.getD j 0)) (flMul (a.getD j 0) (b.getD i 0))
  [m 1 2, m 2 0, m 0 1]

/-- The FRAME body that uses a sensor: the first of the body table. -/
def State.sensorBody (s : State) (n : Nat) : Option BodySt :=
  ((s.modelBodies.zip s.fus.bodies).find? (fun p => p.1.kind == 2 && p.1.aux == n)).map Prod.snd

/-- The refinement of a sensor's mounting at a tick (R498). -/
def State.refine (s : State) (n : Fin 2) : State :=
  let m := s.imu n
  match s.sensorBody n.val with
  | none => s
  | some b =>
    let f := m.force
    let steady := flLt (flAbs (flSub (flSqrt (flDot f f)) 0x411CE80A)) 0x3F000000
    if s.fusBit (imuBase n.val) 31 && !b.settling && flLe 0x40000000 (b.x.getD 0 0) && flLt (flSqrt (flDot m.rate m.rate)) 0x3DCCCCCD && steady then
      let e := cross (normal f) (normal [b.x.getD 1 0, 0, 0x411CE80A])
      let k := flRound false 1 (-(s.fusFld 0xC0064 31 24 : Int)) false
      let step := microRad (s.fusFld 0xC0064 15 0)
      let lim := microRad (s.fusFld 0xC0068 23 0)
      let c := (List.range 3).map (fun i => corrStep (m.corr.getD i 0) (e.getD i 0) k step lim)
      let s1 := s.setImu n { m with corr := c, refined := satAdd 0xFFFFFFFF m.refined 1 }
      if c.any (fun x => flLe lim (flAbs x)) then
        let s2 := s1.orReg 0xC0000 (2 ^ (18 + n.val))
        (if s.bit 0xC0000 (18 + n.val) then s2 else s2.logOf 2 ([4, BitVec.ofNat 8 n.val])).advise 9 n.val
      else s1
    else s

/-- The FUSCAL body of a sensor (Table Fus.2). -/
def State.fuscalBody (s : State) (n : Fin 2) : List Byte :=
  let m := s.imu n
  bytesLE 1 n.val ++ [0, 0, 0] ++ (m.micro ++ s.nominal n.val).flatMap (fun v => bytesLE 4 (wrapInt 32 v)) ++ bytesLE 4 m.refined

/-- The largest move of a correction since the last write, in µrad. -/
def ImuSt.moved (m : ImuSt) : Nat := ((m.micro.zip m.written).map (fun p => (p.1 - p.2).natAbs)).foldl Nat.max 0

/-- The FUSCAL record of a sensor is written (R499). -/
def State.writeFuscal (s : State) (n : Fin 2) : State :=
  (s.setImu n { s.imu n with written := (s.imu n).micro }).recordWrite 4 n.val 1 (s.fuscalBody n)

/-- FUSCAL_WRITE: every CALWR minutes of RUN (R499, log entry 36). -/
def State.fuscalTick (s : State) (n : Fin 2) : State :=
  let m := s.imu n
  let per := s.fusFld 0xC0064 23 16
  if s.running && !s.life.halted && decide (per ≠ 0) && decide (m.calAt ≤ s.now) then
    let s1 := s.setImu n { m with calAt := s.now + secAng (60 * per) }
    if 1000 ≤ m.moved then s1.writeFuscal n else s1
  else s

/-- At step 4 of a STANDBY or SHIP entry, corrections that have moved are written, whatever the model does by then (R499). -/
def State.fuscalEntry (s : State) : State :=
  (List.finRange 2).foldl (fun s (n : Fin 2) => if 0 < (s.imu n).moved then s.writeFuscal n else s) s

/-- A FUSCAL record is read: its corrections are used only if its nominal angles equal the live ones (R499). -/
def State.readFuscal (s : State) (n : Fin 2) : State :=
  match s.recordBody 4 n.val with
  | some b =>
    let at_ := fun (o : Nat) => (List.range 3).map (fun k => signedOf 32 (natAt b (o + 4 * k) 4))
    if at_ 16 = s.nominal n.val then
      s.setImu n { s.imu n with corr := (at_ 4).map microRad, refined := natAt b 28 4, written := at_ 4 }
    else s
  | none => s

/-- Both records, once the cave holds them (R499, R517). -/
def State.readFuscals (s : State) : State :=
  let s1 := s.setFus { s.fus with calPend := false }
  (List.finRange 2).foldl (fun s (n : Fin 2) => s.readFuscal n) s1

/-- Fusion at the end of a mount: the corrections a model start could not read yet. -/
def State.fusionMount (s : State) : State := if s.fus.calPend && s.fus.mstate == .running then s.readFuscals else s

/-! ### The frame (R488, R509, R510) -/

/-- The signed 32-bit field of a value. -/
def field32 (v : Word) : Word := wordOfInt (flToInt 10 (-(2 ^ 31)) (2 ^ 31 - 1) v)

/-- An angle in 0.01° in 16 bits. -/
def centiDeg (v : Word) : Nat := wrapInt 16 (flToInt 11 (-32768) 32767 (flMul v 0x45B30CA0))

/-- The two frame words of a body (Table Fus.10). -/
def bodyWords (c : ModelBody) (b : BodySt) : List Word :=
  let x := fun (i : Nat) => b.x.getD i 0
  if c.kind = 1 then [field32 (flMul (x 1) 0x47800000), field32 (flMul (x 2) 0x47800000)]
  else if c.kind = 2 then [field32 (flMul (x 0) 0x447A0000), BitVec.ofNat 32 (atBit (centiDeg (x 2)) 16 + centiDeg (x 3))]
  else [field32 (flMul (x 0) 0x42C80000), field32 (flMul (flSqrt (matAt b.p 0 0)) 0x42C80000)]

/-- SETTLING and COVER, one bit per body. -/
def State.settlingMask (s : State) : Nat := maskWhere 8 (fun i => (s.fus.bodies[i]?.map (fun b => b.settling)).getD false)
def State.coverBits (s : State) : Nat := maskWhere 8 (fun i => (s.fus.bodies[i]?.map (fun b => b.cover)).getD false)

/-- IMUFLT of both sensors. -/
def State.imuFlt (s : State) : Nat := b2n (s.imu 0).fault + 2 * b2n (s.imu 1).fault

/-- Bits 20:0 of frame word 2. -/
def State.frameFlags (s : State) : Nat :=
  let stale := (List.finRange 32).any (fun i => s.slotStale i)
  s.settlingMask + atBit s.coverBits 8 + atBit (b2n s.warm) 16 + atBit (b2n s.fus.gridTime) 17 + atBit (b2n stale) 18 +
    atBit (b2n (decide (s.imuFlt ≠ 0))) 19 + atBit (b2n (decide (s.fld 0xC0000 19 18 ≠ 0))) 20

/-- A head run starts, with what its frame will show (R488, R489, log entry 32). -/
def State.startHead (s : State) : State :=
  let l := (s.modelBodies.zip s.fus.bodies).flatMap (fun p => bodyWords p.1 p.2)
  let run : HeadRun :=
    { startAt := s.now, grid := gridWindow s.fus.weights s.fus.ring, track := s.trackVector, flags := s.frameFlags
      words := (List.range 16).map (fun i => l.getD i 0)
      cells := BitVec.ofNat 32 (atBit (Nat.min 0xFFFF s.fus.closed) 16 + s.fus.newest) }
  s.setFus { s.fus with head := some run }

/-- The confidence of class `k`, 0 to 5 (R510). -/
def confidence (out : List Int) (k : Nat) : Nat := ((out.getD k (-128)) + 128).toNat * 257

/-- A class at a published frame: armed, and whether it sends (R510). -/
def State.classEvent (s : State) (out : List Int) (warm first : Bool) (k : Nat) : Bool × Bool :=
  let a := 0xC0020 + 8 * k
  let en := s.fusBit (a + 4) 31
  let c := confidence out k
  let armed := s.fus.armed.testBit k || (en && warm && (first || decide (c < s.fusFld a 15 0)))
  let fires := armed && en && decide (s.fusFld a 31 16 ≤ c)
  (armed && !fires, fires)

/-- A ride event of class `k` (R510, R511). -/
def State.rideEvent (s : State) (out : List Int) (k : Nat) (otime : Word) : State :=
  let a := 0xC0024 + 8 * k
  let body := s.fusFld a 2 0
  let c := confidence out k
  let s1 := (s.satInc a 23 8).notice 0x10 (bytesLE 1 (k + 1) ++ bytesLE 1 body ++ bytesLE 2 c ++ bytesLE 4 otime.toNat)
  s1.logOf 2 (bytesLE 1 1 ++ bytesLE 1 (k + 1) ++ bytesLE 1 body ++ [0] ++ bytesLE 2 c ++ [0, 0] ++ bytesLE 4 otime.toNat)

/-- The frame of a head run that has ended is published in one cycle (R488, R509, R510). -/
def State.publish (s : State) (h : HeadRun) (out : List Int) : State :=
  let warm := h.flags.testBit 16
  let first := warm && !s.fus.warmSeen
  let ev := fun (k : Nat) => s.classEvent out warm first k
  let fires := indicesWhere 6 (fun k => (ev k).2)
  let no := s.fus.frameNo + 1
  let t := s.tnow s.now
  let conf := fun (k : Nat) => BitVec.ofNat 32 (confidence out k + atBit (confidence out (k + 1)) 16)
  let w2 := BitVec.ofNat 32 (h.flags + atBit (maskWhere 6 (fun k => (ev k).2)) 21)
  let words := [no, t, w2, conf 0, conf 2, conf 4] ++ (List.range 16).map (fun i => h.words.getD i 0) ++ [h.cells, no]
  let s1 := s.setFus { s.fus with frameNo := no, head := none, warmSeen := s.fus.warmSeen || warm, armed := maskWhere 6 (fun k => (ev k).1) }
  let s2 := ((List.range 24).zip words).foldl (fun s p => s.setReg (0xC0100 + 4 * p.1) p.2) s1
  let s3 := fires.foldl (fun s k => s.rideEvent out k t) s2
  match s3.cfg.testFusion with
  | .queued d => { s3 with cfg := { s3.cfg with testFusion := .running s3.now d }, fus := { s3.fus with testBits := none } }
  | _ => s3

/-- A FUS commit applies at the tick: changed sensors are initialised again, and a new grid wheel starts from the index it shows (R514, log
entry 127). -/
def State.applyFus (s : State) : State :=
  let ch := fun (n : Fin 2) => s.fus.old.any (fun p => decide (imuBase n.val ≤ p.1 ∧ p.1 < imuBase n.val + 0x48))
  let gw := s.gridWheel
  let s0 := s.setFus { s.fus with old := [] }
  let s1 := if s0.gridWheel = gw then s0 else s0.setFus { s0.fus with gridIdx := s0.gridIndex }
  (List.finRange 2).foldl (fun s1 (n : Fin 2) => if ch n then s1.imuRestart n else s1) s1

/-! ### Model load, start and failure (R106, R116, R117, R504, R515, R517) -/

/-- The engine stops: no frames, no runs, no grid. -/
def FusSt.halt (f : FusSt) : FusSt := { f with head := none, encRun := none, encWait := none, gridTime := false, armed := 0, warmSeen := false }

/-- A queued FUSION self-test starts at once where no frame will come. -/
def State.testWithoutFrame (s : State) : State :=
  match s.cfg.testFusion with
  | .queued d => { s with cfg := { s.cfg with testFusion := .running s.now d }, fus := { s.fus with testBits := none } }
  | _ => s

/-- MSTATE becomes FAILED (R515). -/
def State.modelFailed (s : State) (code : Nat) : State :=
  let s1 := s.setFus { s.fus.halt with mstate := .failed, mfail := if s.fus.runcrc then 7 else code, runcrc := false, bodies := [], cover := 0 }
  (s1.healthModel.logEntry 2 (bytesLE 1 3 ++ bytesLE 1 s1.fus.mfail) true).2.testWithoutFrame

/-- Model start (R507, R517). -/
def State.modelStart (s : State) : State :=
  let m := s.fus.weights
  let seeds := (List.range (mBodies m)).map (fun i => let c := modelBody m i
    bodySeed c {} (List.replicate (kindDim c.kind) 0) s.now)
  let s1 := s.setFus { s.fus.halt with
    mstate := .running, mfail := 0, runcrc := false, bodies := seeds, cover := 0, tickAt := s.now, frameNo := 0, ring := []
    gridIdx := s.gridIndex, closed := 0, newest := 0, newestDir := .unknown, imus := Vector.replicate 2 {}, old := []
    checkAt := s.now + secAng (s.fld 0xC0004 7 0), calPend := true }
  let s2 := (s1.setReg 0xC0018 (wordAt m 0x10)).healthModelOk
  let s3 := (List.finRange 2).foldl (fun s2 (n : Fin 2) =>
    (s2.imuRestart n).setImu n { (s2.imuRestart n).imu n with calAt := s2.now + secAng (60 * s2.fld 0xC0064 23 16) }) s2
  let s4 := if s3.cave.mode = .mounted ∨ s3.cave.mode = .readonly then s3.readFuscals else s3
  (s4.logOf 2 (bytesLE 1 2 ++ [0, 0, 0] ++ bytesLE 4 (wordAt m 0x10).toNat)).gridMode

/-- The MODEL section a load reads: the copy in a slot, and its section (R106, R116). -/
def State.modelSource (s : State) (slot : Nat) : Option (ImgCopy × Section) :=
  match s.copyIn slot with
  | none => none
  | some c => (s.modelSection c).map (fun x => (c, x))

/-- The page reads of a MODEL section, as a run at priority 1 (R106). -/
def State.startModelRead (s : State) (slot : Nat) (other : Bool) : State :=
  let rows := match s.modelSource slot with
    | some (c, x) => s.copyRows c x.offset x.length
    | none => []
  s.addJob (.model slot other) 1 (rows.map NandOp.read)

/-- The load of the MODEL section kept in retention begins; without one the engine stays at NONE (R106, R116, R517). -/
def State.loadModel (s : State) : State :=
  if s.fusPowered = false then s
  else if s.boot.modelPos.isNone then ({ s with boot := { s.boot with model := 0 } }).setFus { s.fus with mstate := .none }
  else
    let s1 := ({ s with boot := { s.boot with model := 1 } }).setFus { s.fus.halt with mstate := .loading, weights := [] }
    (s1.dropJobs (fun k => match k with
      | .model _ _ => true
      | _ => false)).startModelRead s.boot.modelSlot false

/-- What the pages read show: the failure code of R117 or the plaintext. -/
def State.modelPlain (s : State) (slot : Nat) (bad : List Nat) : Except Nat (List Byte) :=
  match s.modelSource slot with
  | none => .error 3
  | some (c, x) =>
    let stored := s.storedOf c x
    if (s.copyRows c x.offset x.length).any (fun r => bad.contains r) then .error 3
    else if sha256 stored ≠ s.boot.modelDigest then .error 4
    else match s.sectionPlain (s.copyHead c) x stored with
      | none => .error 5
      | some p => .ok p

/-- The other slot holds a MODEL section with the retained DIGEST (R116). -/
def State.otherModel (s : State) (slot : Nat) : Bool :=
  match s.modelSource (1 - slot) with
  | some (_, x) => x.digest == s.boot.modelDigest
  | none => false

/-- MODEL_LOAD_DONE (R106, R116, R117, R504). -/
def State.modelLoadDone (s : State) : State :=
  match s.finished (fun k => match k with
    | .model _ _ => true
    | _ => false) with
  | none => s
  | some j =>
    let r := match j.kind with
      | .model slot other => (slot, other)
      | _ => (0, true)
    let s1 := s.dropJob j.kind
    match s1.modelPlain r.1 j.bad with
    | .error e =>
      if !r.2 && s1.otherModel r.1 then s1.startModelRead (1 - r.1) true
      else (({ s1 with boot := { s1.boot with model := e } }).modelFailed 1).nandPick
    | .ok p =>
      let s2 := (({ s1 with boot := { s1.boot with model := 2 } }).setFus { s1.fus with weights := p }).nandPick
      let code := modelCode p
      if code = 0 then s2.modelStart else s2.modelFailed code

/-- A CRC failure of the weights in service: frames and runs stop, and the MODEL is loaded again (R515). -/
def State.modelRunCrc (s : State) : State := ({ s with fus := { s.fus with runcrc := true } }).loadModel

/-- The fusion block after a reset, a wake, or a loss of PD9's supply (R48, R517). -/
def State.clearFusion (s : State) : State :=
  (s.setFus { slots := Vector.replicate 32 { base := s.now } }).clearWords 0xC0000 0xD0000

/-! ### Ticks (R48, R488, R514) -/

/-- PD9 has gone off and the frame that was in progress is sent: the block loses its state, and loads its model if PD9 is back (R48, R106). -/
def State.frameEnd (s : State) : State :=
  let t := s.clearFusion
  if t.domReady 9 && t.boot.loaded then t.loadModel else t

/-- A commit switches PD9 off: frames stop after the frame in progress (R48). -/
def State.stopFusion (s : State) : State :=
  if s.fus.mstate == .running && s.fus.head.isSome then s.setFus { s.fus with ending := true } else s.clearFusion

/-- A time cell that is due at a tick closes first (R514). -/
def State.cellFirst (s : State) : State := if s.fus.gridTime then s.cellClose else s

/-- FUSION_TICK; a tick in a debug halt publishes nothing and counts in FRMISS (R488, R498, R514, R567). -/
def State.fusionTick (s0 : State) : State :=
  let s := s0.cellFirst
  if s.fusOn && decide (s.fus.tickAt ≤ s.now) then
    let s1 := (s.setFus { s.fus with tickAt := s.fus.tickAt + msAng 10 }).applyFus.gridMode
    let s2 := match s1.fus.head with
      | some h => (match h.out with
        | some out => s1.publish h out
        | none => s1.satInc 0xC0010 31 16)
      | none => s1
    if s2.fus.ending && s2.fus.head.isNone then s2.frameEnd
    else
      let s3 := s2.predictTracks
      let s4 := (s3.refine 0).refine 1
      if s4.fus.head.isNone then s4.startHead else s4
  else if s.running && s.fus.mstate == .running && s.life.halted && decide (s.fus.tickAt ≤ s.now) then
    (s.setFus { s.fus with tickAt := s.fus.tickAt + msAng 10 }).satInc 0xC0010 31 16
  else s

/-- CLK_ANG cycles of the last layer of the head, by the cycles of R504. -/
def lastLayerAng (m : List Byte) : Nat := 2 * ((headLayers m).getLast?.map (layerCost m)).getD 0

/-- The last layer of the head run may end now: an encoder run that waits takes the MAC engine at a layer boundary, so it must have been queued
during that last layer (R489, log entry 150). -/
def State.headFree (s : State) (h : HeadRun) : Bool :=
  match s.fus.encRun with
  | none => true
  | some r => r.queuedAt.any (fun t => decide (h.startAt < t) && decide (s.now ≤ t + lastLayerAng s.fus.weights))

/-- No encoder or head work waits for the MAC engine (R489, R512). -/
def State.macIdle (s : State) : Bool := s.fus.encRun.isNone && s.fus.head.all (fun h => h.out.isSome)

/-- HEAD_RUN_DONE: the last layer of a head run ends (R488, R489). -/
def State.headDone (s : State) : State :=
  match s.fusOn, s.fus.head with
  | true, some h => if h.out.isNone && s.headFree h then s.setFus { s.fus with head := some { h with out := some (headRun s.fus.weights h.grid h.track) } } else s
  | _, _ => s

/-! ### Self-test and weight check (R512) -/

/-- Bytes of weight SRAM that have changed by themselves. -/
def State.upsetWeights (s : State) (l : List (Nat × Byte)) : State :=
  s.setFus { s.fus with weights := l.foldl (fun w p => if p.1 < w.length then w.set p.1 p.2 else w) s.fus.weights }

/-- WEIGHT_CHECK: the periodic check, or the steps of a running self-test, which run only while no encoder or head work waits; `dense` and
`track` say that a known answer differs. -/
def State.weightCheck (s0 : State) (l : List (Nat × Byte)) (dense track : Bool) : State :=
  let s := s0.upsetWeights l
  let on := s.fus.mstate == .running
  let bad := on && !modelCrcOk s.fus.weights
  if s.macIdle = false then s
  else match s.cfg.testFusion with
  | .running _ _ => s.setFus { s.fus with testBits := some (b2n bad + 2 * b2n dense + 4 * b2n track + 8 * b2n (!on)) }
  | _ =>
    let per := s.fusFld 0xC0004 7 0
    if s.fusOn && decide (per ≠ 0) && decide (s.fus.checkAt ≤ s.now) then
      let s1 := s.setFus { s.fus with checkAt := s.now + secAng per }
      if bad then s1.modelRunCrc else s1
    else s

/-- FUSION_SELFTEST_DONE: the detail word of Table Fus.12 is reported. -/
def State.fusionTestDone (s : State) : State :=
  match s.cfg.testFusion, s.fus.testBits with
  | .running t _, some b =>
    let us := Nat.min 0xFFFF ((s.now - t) / 384)
    let d := b + atBit us 16
    let s1 := ({ s with cfg := { s.cfg with testFusion := .idle } }).setFus { s.fus with testBits := none }
    let s2 := s1.notice 0x07 (selftestPayload 3 (if b % 8 = 0 then 0 else 1) d)
    if b.testBit 0 && s.fus.mstate == .running then s2.modelRunCrc else s2
  | _, _ => s

/-! ### Commits, checks and register views (R513, R514, R518) -/

/-- A commit changes FUS words: `changed` lists them with their old values; a running engine takes them at its next tick (R514). -/
def State.commitFusion (s : State) (changed : List (Nat × Word)) : State :=
  if s.fus.mstate = .running then
    s.setFus { s.fus with old := s.fus.old ++ changed.filter (fun p => !s.fus.old.any (fun q => q.1 == p.1)) }
  else s

/-- The FUS words that fail the checks (R494, R496, R513); `model` says that the image has a MODEL section (log entry 37). -/
def fusFails (c : Nat → Word) (model : Bool) : List Nat :=
  let f := fun (b : Bool) (a : Nat) => if b then [a] else []
  let t := fieldOf (c 0xC000C) 15 0
  f (decide (fieldOf (c 0xC0008) 31 16 ≤ fieldOf (c 0xC0008) 15 0)) 0xC0008 ++
  f (decide (t = 0 ∨ 1000 < t) || (model && decide ((wheelCfgOf c (fieldOf (c 0xC000C) 25 24)).mode = 0))) 0xC000C ++
  (List.range 2).flatMap (fun n =>
    let w := c (imuBase n)
    let nb := fieldOf (c (imuBase n + 4)) 5 0
    f (decide (fieldOf w 19 16 = 0) || (!bitOf w 29 && decide (fieldOf w 15 0 = 0))) (imuBase n) ++
    f (decide (nb < 2 ∨ 32 < nb)) (imuBase n + 4))

def ModelState.code : ModelState → Nat
  | .none => 0
  | .loading => 1
  | .running => 2
  | .failed => 3

/-- The computed words of the FUS block (Tables Fus.13 to Fus.15). -/
def State.fusWord (s : State) (off : Nat) : Option Word :=
  let f := s.fus
  let w := fun (v : Nat) => some (BitVec.ofNat 32 v)
  if off = 0 then
    w (atBit f.mfail 28 + atBit f.mstate.code 24 + atBit (s.fld 0xC0000 19 18) 18 + atBit s.imuFlt 16 + atBit (b2n f.gridTime) 8 + b2n s.warm)
  else if off = 0x60 then
    w (atBit (if f.mstate = .running then 2 ^ f.bodies.length - 1 else 0) 16 + atBit s.coverBits 8 + s.settlingMask)
  else if 0x248 ≤ off ∧ off < 0x254 then some (wordOfInt ((s.imu 0).micro.getD ((off - 0x248) / 4) 0))
  else if 0x2C8 ≤ off ∧ off < 0x2D4 then some (wordOfInt ((s.imu 1).micro.getD ((off - 0x2C8) / 4) 0))
  else if 0x800 ≤ off ∧ off < 0x880 then some (s.slot (Fin.ofNat 32 ((off - 0x800) / 4))).value
  else if off = 0x888 then w (maskWhere 32 (fun i => s.slotStale (Fin.ofNat 32 i)))
  else if 0x900 ≤ off ∧ off < 0x980 then
    some ((s.reg (0xC0000 + off) &&& 0xFFFF0000) ||| BitVec.ofNat 32 (s.slotAge (Fin.ofNat 32 ((off - 0x900) / 4))))
  else none

end Sys2Proof.Machine
end

