-- ==== Sys2Proof/Machine/Life.lean ====
section
/-!
DEFINITION. Lifecycle, keys, the secure store and the JTAG port's own registers (17_lifecycle_security.md, R550 to R575).
-/

namespace Sys2Proof.Machine

/-! ### The state (R550, R551) -/

def Life.code : Life → Nat
  | .blank => 0
  | .factory => 1
  | .fieldLocked => 2
  | .fieldOpen => 3
  | .ret => 4
  | .scrap => 5

/-- The state of a code. -/
def lifeOf : Nat → Option Life
  | 0 => some .blank
  | 1 => some .factory
  | 2 => some .fieldLocked
  | 3 => some .fieldOpen
  | 4 => some .ret
  | 5 => some .scrap
  | _ => none

/-- A thermometer field whose blown bits run on from bit 0. -/
def thermoOk : List Bool → Bool
  | [] => true
  | b :: t => if b then thermoOk t else t.all (fun x => !x)

/-- The lifecycle state the fuses give (R551). -/
def OtpSt.lifeState (o : OtpSt) : Life :=
  let l := o.lockN
  let n := o.openN
  if majority o.scrapf then .scrap
  else if majority o.retf then .ret
  else if !thermoOk (o.lockcnt.toList.map majority) || !thermoOk (o.opencnt.toList.map majority) then .scrap
  else if !majority o.factf then (if l ≠ 0 ∨ n ≠ 0 then .scrap else .blank)
  else if l = 0 then (if n ≠ 0 then .scrap else .factory)
  else if l = n + 1 then .fieldLocked
  else if l = n then .fieldOpen
  else .scrap

/-- The copies of a state fuse bit disagree (R570). -/
def splitFuse (f : BitVec 3) : Bool := decide (f ≠ 0 ∧ f ≠ 7)

/-- LCS_STATE.FUSEWARN. -/
def OtpSt.fuseWarn (o : OtpSt) : Bool :=
  splitFuse o.factf || splitFuse o.retf || splitFuse o.scrapf || o.lockcnt.toList.any splitFuse || o.opencnt.toList.any splitFuse

/-- The epoch that the fuses give (R555). -/
def OtpSt.epoch (o : OtpSt) : Nat := o.openN + 4 * b2n (majority o.retf) + 8 * b2n (majority o.scrapf)

/-- The first fuse of a list that is not blown, blown in all three copies. -/
def blowNext : List (BitVec 3) → List (BitVec 3)
  | [] => []
  | f :: t => if majority f then f :: blowNext t else 7 :: t

/-- A vector filled from a list. -/
def vecOf (n : Nat) (l : List (BitVec 3)) : Vector (BitVec 3) n := Vector.ofFn (fun i => l.getD i.val 0)

/-- The fuses after the step of R556 into a state. -/
def OtpSt.blow (o : OtpSt) (dest : Life) : OtpSt :=
  match dest with
  | .factory => { o with factf := 7 }
  | .fieldLocked => { o with lockcnt := vecOf 4 (blowNext o.lockcnt.toList) }
  | .fieldOpen => { o with opencnt := vecOf 3 (blowNext o.opencnt.toList) }
  | .ret => { o with retf := 7 }
  | .scrap => { o with scrapf := 7 }
  | .blank => o

/-! ### Keys and transitions (R552, R553, R556) -/

/-- The keys that can authorise. -/
inductive AuthKey where
  | none
  | lkey
  | vkey
deriving DecidableEq, Repr

/-- The key that authorises a transition of Table Life.3, if there is such a row. -/
def transitionKey (a b : Life) : Option AuthKey :=
  let field := a == .factory || a == .fieldLocked || a == .fieldOpen
  match b with
  | .factory => if a = .blank then some .none else none
  | .fieldLocked => if a = .factory ∨ a = .fieldOpen then some .lkey else none
  | .fieldOpen => if a = .fieldLocked then some .lkey else none
  | .ret => if field then some .vkey else none
  | .scrap => if a = .blank then some .none else if field then some .lkey else if a = .ret then some .vkey else none
  | .blank => none

/-- The unit is provisioned (R556). -/
def State.provisioned (s : State) : Bool := s.otp.noenc || s.imgStatus s.otp.openN == .valid

/-- The preconditions of a transition, but for OPENCNT and the authorising key (R556). -/
def State.transitionReady (s : State) (dest : Life) : Bool :=
  match dest with
  | .factory => s.lkeyStatus == .valid && (List.range 4).any (fun n => s.sigStatus n == .valid)
  | .fieldLocked => s.provisioned
  | _ => true

/-- The authorising key's bytes, if it is VALID. -/
def State.authBytes (s : State) (k : AuthKey) : Option (List Byte) :=
  match k with
  | .none => some []
  | .lkey => if s.lkeyStatus = .valid then some s.otp.lkey.bytes else none
  | .vkey => if s.vkeyStatus = .valid then some s.otp.vkey.bytes else none

/-- How Table Life.5 lets an operation run in a state. -/
inductive OpMode where
  | direct
  | signed
  | refused
deriving DecidableEq, Repr

/-- Table Life.5. -/
def opMode (op : Nat) (l : Life) : OpMode :=
  match op, l with
  | 1, .blank => .direct
  | 1, .factory => .direct
  | 1, .fieldLocked => .signed
  | 1, .fieldOpen => .signed
  | 2, .blank => .direct
  | 3, .blank => .direct
  | 3, .factory => .direct
  | 3, .fieldOpen => .direct
  | 4, .blank => .direct
  | 4, .factory => .direct
  | 4, .fieldLocked => .signed
  | 4, .fieldOpen => .signed
  | 5, .blank => .direct
  | 5, .factory => .direct
  | 5, .fieldLocked => .signed
  | 5, .fieldOpen => .signed
  | 6, .factory => .direct
  | 6, .fieldLocked => .signed
  | 6, .fieldOpen => .direct
  | 7, .blank => .direct
  | 7, .factory => .direct
  | _, _ => .refused

/-- OP and ARG of LCS_OPREQ. -/
def State.opReq (s : State) : Nat × Nat := (s.fld 0xF000C 3 0, s.fld 0xF000C 25 16)

/-! ### The challenge (R557 to R560) -/

def State.setLife (s : State) (l : LifeSt) : State := { s with life := l }

/-- A lockout is in force (R560). -/
def State.lockedOut (s : State) : Bool :=
  match s.life.lockout with
  | some t => decide (s.lf < t)
  | none => false

/-- The status and DETAIL with which a challenge request is refused, or none (R557). -/
def State.challengeRefusal (s : State) (target : Nat) : Option (Nat × Nat) :=
  let here := s.life.state
  if target = here.code then
    if opMode s.opReq.1 here ≠ .signed then some (0x11, 0)
    else if s.lockedOut then some (0x14, 3)
    else if s.lkeyStatus ≠ .valid then some (0x14, 4)
    else if s.life.opRun.isSome then some (0x14, 5) else none
  else
    match lifeOf target with
    | none => some (0x11, 0)
    | some dest =>
      match transitionKey here dest with
      | none => some (0x11, 0)
      | some k =>
        if s.transitionReady dest = false then some (0x14, 1)
        else if dest = .fieldOpen ∧ 3 ≤ s.otp.openN then some (0x14, 2)
        else if s.lockedOut then some (0x14, 3)
        else if (s.authBytes k).isNone then some (0x14, 4)
        else if s.life.opRun.isSome then some (0x14, 5) else none

/-- A challenge is issued (Table Life.4, R558). -/
def State.issueChallenge (s : State) (target : Nat) : State :=
  let n := s.life.issued + 1
  let nonce := (List.range 16).map (fun i => Config.nonceByte s.free i)
  let b := nonce ++ bytesLE 8 s.otp.uid.toNat ++ bytesLE 1 s.life.state.code ++ bytesLE 1 target ++ bytesLE 1 s.otp.lockN ++
    bytesLE 1 s.otp.openN ++ bytesLE 4 n
  let tail := if target = s.life.state.code then bytesLE 4 (s.reg 0xF000C).toNat ++ sha256 s.life.keyBuf else padBytes 36 0
  { s with free := s.free + 1, life := { s.life with issued := n, challenge := some { bytes := b, target := target, tail := tail, at_ := s.lf } } }

/-- The challenge lapses (R559). -/
def State.voidChallenge (s : State) : State := s.setLife { s.life with challenge := none }

/-- The live challenge, if 60 s have not passed. -/
def State.liveChallenge (s : State) : Option Challenge :=
  match s.life.challenge with
  | some c => if s.lf < c.at_ + 60 * 32768 then some c else none
  | none => none

/-- CHALLENGE_LAPSE (R559). -/
def State.challengeLapse (s : State) : State := if s.life.challenge.isSome && s.liveChallenge.isNone then s.voidChallenge else s

/-- LOCKOUT_END (R560). -/
def State.lockoutEnd (s : State) : State :=
  match s.life.lockout with
  | some t => if t ≤ s.lf then s.setLife { s.life with lockout := none } else s
  | none => s

/-- An AUTH_FAIL (R560). -/
def State.authFail (s : State) : State :=
  let n := satAdd 15 s.life.fails 1
  s.setLife { s.life with fails := n, challenge := none, lockout := if 4 ≤ n then some (s.lf + 60 * 32768) else s.life.lockout }

/-- r is supplied (part 0, LOADR). -/
def State.supplyR (s : State) (r : List Byte) : State :=
  match s.liveChallenge with
  | some c => s.setLife { s.life with challenge := some { c with r := r } }
  | none => s

/-- The signature over M verifies, or the transition asks for none (R558). -/
def State.responseOk (s : State) (c : Challenge) (sBytes : List Byte) : Bool :=
  let key := if c.target = s.life.state.code then some AuthKey.lkey
    else match lifeOf c.target with
      | some dest => transitionKey s.life.state dest
      | none => none
  match key with
  | some .none => true
  | some k => (match s.authBytes k with
    | some b => ecdsaVerify b (sha256 (c.bytes ++ c.tail)) (natBE c.r) (natBE sBytes)
    | none => false)
  | none => false

/-! ### Carrying out a transition (R561, R562) -/

/-- A killed slot: every bit 1 and the kill fuse blown (R553). -/
def KeySlot.killed (k : KeySlot) (n : Nat) : KeySlot := { k with bytes := padBytes n 0xFF, crc := 0xFFFFFFFF, kill := true }

/-- The slots whose kill the state implies, killed (R553, R561). -/
def OtpSt.killImplied (o : OtpSt) : OtpSt :=
  let l := o.lifeState
  let all := l.killsAll
  { o with
    lkey := if all && !o.lkey.kill then o.lkey.killed 64 else o.lkey
    vkey := if l = .scrap ∧ o.vkey.kill = false then o.vkey.killed 64 else o.vkey
    sigkey := o.sigkey.map (fun k => if all && !k.kill then k.killed 64 else k)
    imgkey := (o.imgkey.zip (List.range 4)).map (fun p => if (all || decide (p.2 < o.openN)) && !p.1.kill then p.1.killed 32 else p.1) }

/-- Kills or a wipe are still to be done (R562). -/
def State.wipePend (s : State) : Bool := decide (s.otp.killImplied ≠ s.otp) || decide (s.store.epoch ≠ s.otp.epoch)

/-- Step 4 of R561: the kills, and the wipe of the secure store into the new epoch. -/
def State.finishWipe (s : State) : State :=
  { s with
    otp := s.otp.killImplied
    store := if s.store.epoch ≠ s.otp.epoch then { epoch := s.otp.epoch, entries := [] } else s.store }

/-- WIPEPEND_CLEARS: work left over at a reset, once the load commit is made or recovery entered (R562). -/
def State.wipeLeft (s : State) : State :=
  if s.life.transition.isNone && (s.boot.loaded || s.boot.recovery) && s.wipePend then s.finishWipe else s

/-- Steps 2 and 3 of an accepted transition: the fuses, the new state, NTC_LIFECYCLE; KEYBUF, the challenge and the response cache are
wiped (R556, R561). -/
def State.transit (s : State) (dest : Life) : State :=
  let from_ := s.life.state
  let o := s.otp.blow dest
  let s1 := { s with
    otp := o
    life := { s.life with state := o.lifeState, challenge := none, keyBuf := List.replicate 64 0 }
    link := { s.link with cache := none } }
  let s2 := s1.notice 0x17 (bytesLE 1 from_.code ++ bytesLE 1 o.lifeState.code)
  s2.setLife { s2.life with transition := some { dest := dest, at_ := s.lf } }

/-- Step 5 may follow: NTC_LIFECYCLE is acknowledged, or 100 ms have passed since the fuses were blown (R561). -/
def State.transitionEnds (s : State) : Bool :=
  match s.life.transition with
  | some t => t.acked || decide (t.at_ + 3277 ≤ s.lf)
  | none => false

/-! ### Operations (R563, R564) -/

/-- An operation begins (R563). -/
def State.startOp (s : State) : State := s.setLife { s.life with opRes := 1, opRun := some s.opReq, opKey := s.life.keyBuf }

/-- A write of 1 to LCS_OPGO.GO, or GO of LCSPORT (R563, R571). -/
def State.opGo (s : State) : State :=
  match opMode s.opReq.1 s.life.state with
  | .refused => s.setLife { s.life with opRes := 4 }
  | .signed => s.setLife { s.life with opRes := 3 }
  | .direct => if s.life.opRun.isSome then s else s.startOp

/-- GO with LCS_OPREQ naming this operation; any other OP is not this command. -/
def State.opGoOf (s : State) (op : Nat) : State := if s.opReq.1 = op then s.opGo else s

/-- Part 1, or VERIFY: the status, the DETAIL, and what follows (R558 to R561). -/
def State.verify (s : State) (sBytes : List Byte) : Nat × Nat × State :=
  match s.liveChallenge with
  | none => (0x50, 0, s.authFail)
  | some c =>
    if s.responseOk c sBytes = false then (0x50, 0, s.authFail)
    else
      let s1 := s.setLife { s.life with fails := 0, lockout := none, challenge := none }
      if s1.life.opRun.isSome then (0x14, 5, s1)
      else if c.target = s.life.state.code then (0x01, 0, s1.startOp)
      else match lifeOf c.target with
        | some dest => (0x01, 0, s1.transit dest)
        | none => (0x50, 0, s1)

/-- A public key is a point on P-256 (R564). -/
def keyOnCurve (b : List Byte) : Bool := onCurve (natBE (b.take 32)) (natBE ((b.drop 32).take 32))

/-- A slot programmed with a key; a bit that does not read back makes it CORRUPT (R564). -/
def programmed (b : List Byte) (bad : Bool) : KeySlot := { bytes := b, crc := crc32 b, bad := bad }

/-- The store as it reads: wiped where its epoch differs (R555). -/
def State.storeEntries (s : State) : List (Nat × List Byte) := if s.store.epoch = s.otp.epoch then s.store.entries else []
def State.storeEntry (s : State) (e : Nat) : Option (List Byte) := (s.storeEntries.find? (fun p => p.1 == e)).map Prod.snd

/-- The result of an operation and the fuses and store after it (R564). `fail`: a bit does not read back. -/
def State.opEffect (s : State) (op arg : Nat) (fail : Bool) : Nat × State :=
  let o := s.otp
  let kb := s.life.opKey
  let done := if fail then 8 else 2
  match op with
  | 1 =>
    if 3 < arg ∨ keyOnCurve kb = false then (5, s)
    else if s.sigStatus arg ≠ .empty then (6, s)
    else (done, { s with otp := { o with sigkey := o.sigkey.set arg (programmed kb fail) } })
  | 2 =>
    if arg ≠ 0 ∨ keyOnCurve kb = false then (5, s)
    else if s.lkeyStatus ≠ .empty then (6, s)
    else (done, { s with otp := { o with lkey := programmed kb fail } })
  | 3 =>
    if arg ≠ 0 then (5, s)
    else if s.imgStatus o.openN ≠ .empty then (6, s)
    else (done, { s with otp := { o with imgkey := o.imgkey.set o.openN (programmed (kb.take 32) fail) } })
  | 4 =>
    if 3 < arg then (5, s)
    else if s.life.state ≠ .blank ∧ (List.range 4).all (fun n => n == arg || s.sigStatus n != .valid) = true then (7, s)
    else
      let k := o.sigkey.getD arg {}
      (done, { s with otp := { o with sigkey := o.sigkey.set arg (if fail then { k with bad := true } else { k with revoke := true }) } })
  | 5 =>
    if arg = 0 ∨ 64 < arg then (5, s)
    else if arg ≤ s.minVersion then (2, s)
    else if fail then (8, s)
    else (2, { s with otp := { o with minver := o.minver ||| BitVec.ofNat 64 (2 ^ arg - 1) } })
  | 6 =>
    if (s.storeEntry arg).isSome then (6, s)
    else if fail then (8, s)
    else
      let s1 := { s with store := { epoch := o.epoch, entries := s.storeEntries ++ [(arg, kb.take 32)] } }
      (2, s1)
  | _ =>
    if 0x1FF < arg then (5, s)
    else if o.nvmBoot ||| BitVec.ofNat 8 arg = o.nvmBoot ∧ (o.noenc = true ∨ arg.testBit 8 = false) then (2, s)
    else if fail then (8, s)
    else (2, { s with otp := { o with nvmBoot := o.nvmBoot ||| BitVec.ofNat 8 arg, noenc := o.noenc || arg.testBit 8 } })

/-- LCS_OPERATION_DONE: the result is placed, and KEYBUF cleared (R564). -/
def State.opDone' (s : State) (fail : Bool) : State :=
  match s.life.opRun with
  | some (op, arg) =>
    let r := s.opEffect op arg fail
    r.2.setLife { r.2.life with opRes := r.1, opRun := none, keyBuf := List.replicate 64 0, opKey := [] }
  | none => s

/-! ### Registers (R555, R559, R575) -/

/-- A write that LCS acts on at once: KEYBUF and OPREQ void the challenge, GO starts an operation. The stored part of an RW word is the
caller's. -/
def State.lcsWrite (s : State) (off : Nat) (w : Word) : State :=
  if off = 0x0C then s.voidChallenge
  else if off = 0x10 then (if bitOf w 0 then s.opGo else s)
  else if 0x20 ≤ off ∧ off < 0x60 then
    s.setLife { s.life with challenge := none, keyBuf := patchBytes s.life.keyBuf (off - 0x20) (bytesLE 4 w.toNat) }
  else s

def KeyStatus.code : KeyStatus → Nat
  | .empty => 0
  | .valid => 1
  | .revoked => 2
  | .corrupt => 3

/-- The computed words of the LCS block (Table Life.9); the words of a store entry are in `storeWord`. -/
def State.lcsWord (s : State) (off : Nat) : Option Word :=
  let w := fun (v : Nat) => some (BitVec.ofNat 32 v)
  let o := s.otp
  match off with
  | 0x00 => w (atBit s.minVersion 16 + atBit (b2n o.fuseWarn) 14 + atBit (b2n s.wipePend) 13 + atBit (b2n o.noenc) 12 + atBit o.openN 8 +
      atBit o.lockN 4 + s.life.state.code)
  | 0x04 => w (((List.range 4).map (fun i => atBit (s.sigStatus i).code (2 * i) + atBit (s.imgStatus i).code (12 + 2 * i))).sum +
      atBit s.lkeyStatus.code 8 + atBit s.vkeyStatus.code 10)
  | 0x08 => w (atBit (match s.liveChallenge with
      | some c => c.target
      | none => 0) 24 + atBit (match s.life.lockout with
      | some t => (t - s.lf + 32767) / 32768
      | none => 0) 16 + atBit (b2n s.liveChallenge.isSome) 8 + s.life.fails)
  | 0x14 => w s.life.opRes
  | 0x64 => w s.storeEntries.length
  | _ => none

/-- A word of the selected entry, where R555 serves it: FIELD_LOCKED, a Jornus READ, a written entry. -/
def State.storeWord (s : State) (off : Nat) (jornus : Bool) : Option Word :=
  if jornus && s.life.state == .fieldLocked then (s.storeEntry (s.fld 0xF0060 9 0)).map (fun b => wordAt b (off - 0x80)) else none

/-- A reset: the state is derived, and what R574 names is cleared; a POR clears FAILS, the lockout and the count of challenges. -/
def State.resetLife (s : State) (por : Bool) : State :=
  let l := s.life
  { s with
    life := { state := s.otp.lifeState, issued := if por then 0 else l.issued, fails := if por then 0 else l.fails
              lockout := if por then none else l.lockout }
    jtag := {} }

/-! ### The JTAG port (R565, R566, R568) -/

/-- PD1 is up, and with it the TAP (R565): in a start-up once VDD5 is valid (R76), in a wake once the PLL has locked (Table Power.5). -/
def State.tapOn (s : State) : Bool :=
  s.power.phase == .run || s.power.phase == .memtest || (s.power.phase == .startup && s.boot.stage != .supply) ||
    (s.power.phase == .waking && s.power.pllOn)

/-- What Capture-IR loads (R565). -/
def irCapture : BitVec 5 := 0b00001

/-- The states that allow an instruction (Table Life.6); a code outside the table selects the bypass register. -/
def jtagAllowed (ir : Nat) (l : Life) : Bool :=
  match ir with
  | 0x00 => l != .fieldLocked && l != .scrap
  | 0x01 => l != .scrap
  | 0x02 => true
  | 0x08 => l != .scrap
  | 0x09 => l != .fieldLocked && l != .scrap
  | 0x0A => l != .fieldLocked && l != .scrap
  | 0x0B => l != .fieldLocked && l != .scrap
  | 0x0C => l != .fieldLocked && l != .scrap
  | _ => false

/-- The instruction that an Update-IR selects. -/
def State.selectedIr (s : State) (code : Nat) : Nat := if jtagAllowed code s.life.state then code else 0x1F

/-- Update-IR, or Test-Logic-Reset with none (R565). -/
def State.updateIr (s : State) (code : Option Nat) : State :=
  if s.tapOn then
    let ir := match code with
      | some c => s.selectedIr c
      | none => 0x02
    { s with jtag := { s.jtag with ir := ir, boundary := if code.isSome then s.jtag.boundary else [] } }
  else s

/-- An Update-DR reaches the data register of this instruction: it is selected, and the present state allows it, also one that a transition has
changed since (R565). -/
def State.jtagAt (s : State) (ir : Nat) : Bool := s.tapOn && s.jtag.ir == ir && jtagAllowed ir s.life.state

/-- A command of LCSPORT is served: PD1's lifecycle logic runs, and no transition is under way (R561, R566). -/
def State.lcsPort (s : State) (f : State → Nat × Word × State) : State :=
  if s.jtagAt 0x08 && s.power.phase != .memtest then
    if s.life.transition.isSome then { s with jtag := { s.jtag with lcsStatus := 0x02 } }
    else
      let r := f s
      { r.2.2 with jtag := { r.2.2.jtag with lcsStatus := r.1, lcsWord := r.2.1 } }
  else s

/-- LCSPORT CHALLENGE. -/
def State.portChallenge (s : State) (target : Nat) : State :=
  s.lcsPort (fun s => match s.challengeRefusal target with
    | some (st, _) => (st, 0, s)
    | none => (0, 0, s.issueChallenge target))

/-- LCSPORT READCH: a word of the live challenge, its bytes least significant first. -/
def State.portReadch (s : State) (i : Nat) : State :=
  s.lcsPort (fun s => match s.liveChallenge with
    | some c => if i < 8 then (0, wordAt c.bytes (4 * i), s) else (0x11, 0, s)
    | none => (0x11, 0, s))

/-- LCSPORT LOADR: one word of r, word 0 the most significant. -/
def State.portLoadr (s : State) (i : Nat) (w : Word) : State :=
  s.lcsPort (fun s =>
    if i < 8 then
      let old := match s.liveChallenge with
        | some c => fitBytes 32 c.r
        | none => padBytes 32 0
      (0, s.jtag.lcsWord, s.supplyR (patchBytes old (4 * i) (bytesBE 4 w.toNat)))
    else (0x11, s.jtag.lcsWord, s))

/-- LCSPORT LOADS: one word of s. -/
def State.portLoads (s : State) (i : Nat) (w : Word) : State :=
  s.lcsPort (fun s =>
    if i < 8 then (0, s.jtag.lcsWord, { s with jtag := { s.jtag with s := patchBytes s.jtag.s (4 * i) (bytesBE 4 w.toNat) } })
    else (0x11, s.jtag.lcsWord, s))

/-- LCSPORT VERIFY. -/
def State.portVerify (s : State) : State :=
  s.lcsPort (fun s =>
    let r := s.verify s.jtag.s
    (r.1, r.2.2.jtag.lcsWord, { r.2.2 with jtag := { r.2.2.jtag with s := padBytes 32 0 } }))

/-- LCSPORT GO. -/
def State.portGo (s : State) : State := s.lcsPort (fun s => (0, s.jtag.lcsWord, s.opGo))

/-- The states and algorithms of Table Life.7. -/
def memtestAllowed (target alg : Nat) (l : Life) : Bool :=
  let open_ := l == .blank || l == .factory || l == .fieldOpen || l == .ret
  match target with
  | 0 => open_ && decide (alg ≤ 2)
  | 1 => open_ && decide (alg ≤ 2)
  | 2 => open_ && decide (alg ≤ 2)
  | 3 => open_ && decide (alg ≤ 1)
  | 4 => open_ && l != .fieldOpen && decide (alg ≤ 1)
  | 5 => (l == .blank || l == .ret) && decide (alg = 3)
  | 6 => (l == .blank || l == .factory || l == .ret) && decide (alg = 3)
  | _ => false

/-- MEMTEST_DONE: the failing words, saturating (R566). -/
def State.memtestDone (s : State) (failing : Nat) : State :=
  if s.power.phase = .memtest ∧ s.jtag.test.isSome = true then
    { s with jtag := { s.jtag with test := none, done := true, fail := decide (failing ≠ 0), failing := Nat.min 0x3FFF failing } }
  else s

/-- EXTEST_UPDATE: an Update-DR of the boundary register, which drives the output balls under EXTEST; under SAMPLE/PRELOAD it loads the cells for
an EXTEST that follows (R565, R613; IEEE 1149.1, log entry 151). -/
def State.extest (s : State) (cells : List (Nat × Bool)) : State :=
  if s.jtagAt 0x00 || s.jtagAt 0x01 then { s with jtag := { s.jtag with boundary := cells } } else s

/-- What Capture-DR shows of LCSPORT, DBGACC and MEMTEST (R566). -/
def State.lcsCapture (s : State) : Nat := atBit s.jtag.lcsStatus 56 + s.jtag.lcsWord.toNat
def State.accCapture (s : State) : Nat :=
  atBit (b2n (s.linkStalled && s.link.held.isNone)) 62 + atBit (b2n s.jtag.accError) 61 + s.jtag.accData.toNat
def State.memtestCapture (s : State) : Nat := atBit (b2n s.jtag.done) 15 + atBit (b2n s.jtag.fail) 14 + s.jtag.failing

/-- IDCODE on step B1 (R565). -/
def idcode : Word := 0x108801AF

end Sys2Proof.Machine
end

