-- ==== Sys2Proof/Machine/Rind.lean ====
section
/-!
DEFINITION. The rind: its filtered inputs, the tamper loop, the rules with their windows and holdoffs, the event FIFO and the alarm
(16_rind_lock.md, R519 to R530, R543 to R548).
-/

namespace Sys2Proof.Machine

/-- The page of rule `k` (Table Rind.9). -/
def ruleBase (k : Nat) : Nat := 0xD0100 + 0x10 * k

def State.setRind (s : State) (r : RindSt) : State := { s with rind := r }
/-- A filtered level; the estimator keeps pack-present's last one with the time of the change (R481). -/
def State.setRindIn (s : State) (i : Fin 6) (l : InLevel) : State :=
  let s1 := if i = 4 then s.setBat { s.bat with ppWas := s.rindIn 4, ppAt := s.now, ppLf := s.lf } else s
  s1.setRind { s1.rind with inputs := s1.rind.inputs.set i l, runs := s1.rind.runs.set i none }
def State.rule (s : State) (k : Fin 16) : RuleSt := s.rind.rules[k]
def State.setRule (s : State) (k : Fin 16) (v : RuleSt) : State := s.setRind { s.rind with rules := s.rind.rules.set k v }

/-- The filtered levels, two bits per input, as SYS_INSTAT1.RIND shows them. -/
def State.rindLevels (s : State) : Nat :=
  ((List.range 6).map (fun i => atBit (InLevel.code (s.rindIn (Fin.ofNat 6 i))) (2 * i))).sum

/-- The codes of Table Rind.5. -/
def LockState.code : LockState → Nat
  | .unknown => 0
  | .opened => 1
  | .shut => 2
  | .opening => 3
  | .closing => 4
  | .homing => 5
  | .fault => 6

def Loop.code : Loop → Nat
  | .none => 0
  | .intact => 1
  | .opened => 2
  | .short => 3

/-- For the rind and the lock a wake is part of STANDBY until RUN is reached, and a start-up of RUN (R56, R81, log entry 128). -/
def State.rindSleeps (s : State) : Bool := s.power.phase == .standby || s.power.phase == .waking

/-- The rind samples: in every state but SHIP and without VAON (R520). -/
def State.rindSamples (s : State) : Bool := s.power.phase != .shipping && s.power.phase != .unpowered

/-- CLK_LF periods from one STANDBY sample to the next: 1/SBRATE s (R520). -/
def State.sleepPeriod (s : State) : Nat := 32768 / 2 ^ s.fld 0xD0004 2 0

/-- The present CLK_LF edge is one at which the inputs are sampled: every edge, in STANDBY every 1/SBRATE s, the first that long after the
entry (R520, log entry 128). -/
def State.sampleEdge (s : State) : Bool :=
  !s.rindSleeps || (decide (s.power.standbyAt < s.lf) && decide ((s.lf - s.power.standbyAt) % s.sleepPeriod = 0))

/-- The CLK_LF time at which the present sample period began (R526). -/
def State.periodAt (s : State) : Nat :=
  if s.rindSleeps then s.power.standbyAt + (s.lf - s.power.standbyAt) / s.sleepPeriod * s.sleepPeriod else s.lf

/-! ### The alarm (R530) -/

/-- A firing with ALARM starts the alarm, or restarts its time. -/
def State.startAlarm (s : State) : State :=
  let sec := s.fld 0xD0004 31 24
  let a := s.rind.alarm
  let e := if sec = 0 then none else some (s.lf + 32768 * sec)
  s.setRind { s.rind with alarm := if a.active then { a with endAt := e } else { active := true, endAt := e, on := true, toggleAt := s.lf + 16384 } }

/-- The alarm ends: ALARM_STOP, the end of its time, SHIP. -/
def State.stopAlarm (s : State) : State := s.setRind { s.rind with alarm := {} }

/-- ALARM_END. -/
def State.alarmEnd (s : State) : State :=
  match s.rind.alarm.active, s.rind.alarm.endAt with
  | true, some t => if t ≤ s.lf then s.stopAlarm else s
  | _, _ => s

/-- ALARM_TOGGLE: with ALPAT 1 the output alternates. -/
def State.alarmToggle (s : State) : State :=
  let a := s.rind.alarm
  if a.active && s.bit 0xD0004 12 && decide (a.toggleAt ≤ s.lf) then
    s.setRind { s.rind with alarm := { a with on := !a.on, toggleAt := a.toggleAt + 16384 } }
  else s

/-- The level of the ALARM ball. -/
def State.alarmPin (s : State) : Bool := (s.rind.alarm.active && (s.rind.alarm.on || !s.bit 0xD0004 12)) != s.bit 0xD0004 11

/-! ### Rules (R524 to R527) -/

/-- What one sample brings: the inputs whose filtered level rose, fell or became STUCK_MID, a transition of WHEEL, and what the lock
did. -/
structure RindEvents where
  rose : List Nat := []
  fell : List Nat := []
  stuck : List Nat := []
  transition : Bool := false
  drift : Bool := false
  fault : Bool := false
deriving DecidableEq, Repr

/-- A gate holds (Table Rind.2). -/
def State.gateHolds (s : State) (g : Nat) : Bool :=
  match g with
  | 0 => true
  | 1 => s.lock.state == .shut
  | 2 => s.lock.state == .opened
  | 3 => s.rindIn 3 == .high
  | 4 => s.rindIn 3 == .low
  | 5 => s.packPresent == some true
  | 6 => s.packPresent == some false
  | _ => false

/-- A rule is armed in this sample period (R524). -/
def State.ruleArmed (s : State) (k : Fin 16) : Bool :=
  let w := s.reg (ruleBase k.val)
  bitOf w 31 && s.rindSamples && bitOf w (if s.rindSleeps then 13 else 12) && s.gateHolds (fieldOf w 18 16)

/-- The condition of an edge, level or lock rule occurs (Table Rind.3). -/
def ruleOccurs (w : Word) (e : RindEvents) : Bool :=
  let src := fieldOf w 26 24
  match fieldOf w 22 20 with
  | 0 => e.rose.contains src
  | 1 => e.fell.contains src
  | 2 => e.rose.contains src || e.fell.contains src
  | 3 => e.stuck.contains src
  | 5 => src == 6 && e.drift
  | 6 => src == 6 && e.fault
  | _ => false

/-- The COUNT window of a rule that is open now, and the rule's holdoff that has not run out. -/
def RuleSt.openWindow (r : RuleSt) (lf : Nat) : Option Nat := r.window.filter (fun t => decide (lf < t))
def RuleSt.holding (r : RuleSt) (lf : Nat) : Bool := r.hold.any (fun t => decide (lf < t))

/-- The rule has fired in the present sample period (R526). -/
def State.ruleFired (s : State) (k : Fin 16) : Bool := (s.rule k).firedAt == some s.periodAt

/-- A COUNT rule meets a transition: its window opens, its count rises, and whether it fires, at most once per sample period (R525, R526). -/
def State.countRule (s : State) (k : Fin 16) : Bool × State :=
  let p := s.reg (ruleBase k.val + 4)
  let r := s.rule k
  let n := satAdd 0xFFFF (match r.openWindow s.lf with
    | some _ => r.count
    | none => 0) 1
  let win := match r.openWindow s.lf with
    | some t => t
    | none => s.lf + 32768 * fieldOf p 23 16
  if fieldOf p 15 0 ≤ n ∧ s.ruleFired k = false then (true, s.setRule k { r with window := none, count := 0 })
  else (false, s.setRule k { r with window := some win, count := n })

/-- The event FIFO takes an entry, or loses it (R528). -/
def State.pushRind (s : State) (k : Fin 16) (act : Nat) : State :=
  if s.rind.fifo.length < 16 then
    s.setRind { s.rind with fifo := s.rind.fifo ++ [{
      rule := k.val, act := act, counter := s.reg (ruleBase k.val + 8), time := BitVec.ofNat 32 s.lf, levels := s.rindLevels
      lock := s.lock.state.code }] }
  else s.satInc 0xD001C 15 0

/-- The actions of a firing (R526, R527). -/
def State.fireRule (s : State) (k : Fin 16) : State :=
  let w := s.reg (ruleBase k.val)
  let hold := s.fld (ruleBase k.val + 4) 31 24
  let s1 := (s.orReg (ruleBase k.val + 0xC) 1).setRule k { s.rule k with
    hold := if hold = 0 then none else some (s.lf + 32768 * hold), firedAt := some s.periodAt }
  let s2 := if bitOf w 0 then s1.requestWake 1 else s1
  let s3 := if bitOf w 3 then s2.satInc (ruleBase k.val + 8) 31 0 else s2
  let s4 := if bitOf w 1 || bitOf w 4 then s3.pushRind k (fieldOf w 4 0) else s3
  if bitOf w 2 then s4.startAlarm else s4

/-- One rule at a sample. -/
def State.evalRule (e : RindEvents) (s : State) (k : Fin 16) : State :=
  if s.ruleArmed k && !(s.rule k).holding s.lf then
    let w := s.reg (ruleBase k.val)
    if fieldOf w 22 20 = 4 then
      if e.transition && decide (fieldOf w 26 24 = 0) then
        let r := s.countRule k
        if r.1 then r.2.fireRule k else r.2
      else s
    else if ruleOccurs w e && !s.ruleFired k then s.fireRule k else s
  else s

/-- The rules, in rising number (R527). -/
def State.evalRules (s : State) (e : RindEvents) : State := (List.finRange 16).foldl (State.evalRule e) s

/-- COUNT_WINDOW_CLOSE (R525). -/
def State.windowClose (s : State) (k : Fin 16) : State :=
  match (s.rule k).window with
  | some t => if t ≤ s.lf then s.setRule k { s.rule k with window := none, count := 0 } else s
  | none => s

/-- HOLDOFF_END (R526). -/
def State.holdoffEnd (s : State) (k : Fin 16) : State :=
  match (s.rule k).hold with
  | some t => if t ≤ s.lf then s.setRule k { s.rule k with hold := none } else s
  | none => s

/-! ### Rind events to the host and the log (R528, R529) -/

/-- The log entry of a firing (Table Rind.4). -/
def RindEntry.logBytes (e : RindEntry) : List Byte :=
  bytesLE 1 16 ++ bytesLE 1 e.rule ++ bytesLE 1 e.act ++ bytesLE 1 e.lock ++ bytesLE 4 e.counter.toNat ++ bytesLE 4 e.time.toNat ++ bytesLE 2 e.levels

/-- RIND_FIFO_DRAIN: the oldest entry's parts, as far as they can be done (R528). -/
def State.rindDrain (s : State) : State :=
  match s.linkUp, s.rind.fifo with
  | true, e :: rest =>
    let wantN := e.act.testBit 4 && !e.noticed
    let s1 := if wantN then s.notice 0x0F (bytesLE 1 e.rule ++ bytesLE 1 e.act ++ bytesLE 4 e.counter.toNat) else s
    let wantL := e.act.testBit 1
    let canL := s1.cave.mode == .mounted || s1.cave.mode == .readonly || s1.cave.mode == .failed
    let s2 := if wantL && canL then s1.logOf 5 e.logBytes else s1
    if wantL && !canL then s2.setRind { s2.rind with fifo := { e with noticed := true } :: rest }
    else s2.setRind { s2.rind with fifo := rest }
  | _, _ => s

/-! ### Commits, checks and register views (R522, R525, R543, R547, R548) -/

/-- The filter progress of an input begins anew; its level stays (R523, R543). -/
def State.restartFilter (s : State) (i : Fin 6) : State :=
  s.setRind { s.rind with
    runs := s.rind.runs.set i none, wheelNew := if i = 0 then none else s.rind.wheelNew, winAt := if i = 5 then s.lf else s.rind.winAt }

/-- A change of power state: every filter begins anew (R523). -/
def State.restartFilters (s : State) : State := (List.finRange 6).foldl State.restartFilter s

/-- A commit changes what an input's filter works with (R543). -/
def filterMoved (o c : Nat → Word) (i : Nat) : Bool :=
  let ch := fun (a hi lo : Nat) => fieldOf (o a) hi lo != fieldOf (c a) hi lo
  ch 0xD0008 (4 * i + 3) (4 * i) || ch 0xD000C (4 * i + 3) (4 * i) || (i == 0 && (ch 0xD0004 5 4 || ch 0xD0004 9 9)) || (i == 5 && ch 0xD0004 10 10)

/-- A commit to a rule restarts its window and its holdoff, one to a filter its progress; the levels stay. Without TAMPEN the loop has no class
(R521, R543). -/
def State.commitRind (s : State) (o c : Nat → Word) : State :=
  let s := (List.finRange 6).foldl (fun s (i : Fin 6) => if filterMoved o c i.val then s.restartFilter i else s) s
  let s1 := (List.finRange 16).foldl (fun s (k : Fin 16) =>
    if o (ruleBase k.val) ≠ c (ruleBase k.val) ∨ o (ruleBase k.val + 4) ≠ c (ruleBase k.val + 4) then s.setRule k { firedAt := (s.rule k).firedAt } else s) s
  if s1.rindUsed 5 then s1 else s1.setRind { s1.rind with loop := .none }

/-- SRC and COND may go together (Table Rind.3). -/
def condAllowed (src cond : Nat) : Bool :=
  if cond ≤ 3 then decide (src ≤ 5) else if cond = 4 then decide (src = 0) else if cond ≤ 6 then decide (src = 6) else false

/-- The AON words that fail the checks (R522 to R525, R541). -/
def aonFails (c : Nat → Word) : List Nat :=
  let f := fun (b : Bool) (a : Nat) => if b then [a] else []
  let w := c 0xD0004
  let filt := fun (a : Nat) => (List.range 6).any (fun i => decide (fieldOf (c a) (4 * i + 3) (4 * i) = 0))
  f (decide (5 < fieldOf w 2 0) || (bitOf w 8 && decide ((wheelCfgOf c (fieldOf w 5 4)).sense = 1))) 0xD0004 ++ f (filt 0xD0008) 0xD0008 ++
  f (filt 0xD000C) 0xD000C ++
  (List.range 16).flatMap (fun k =>
    let r := c (ruleBase k)
    let p := c (ruleBase k + 4)
    f (!condAllowed (fieldOf r 26 24) (fieldOf r 22 20) || decide (fieldOf r 18 16 = 7)) (ruleBase k) ++
    f (decide (fieldOf r 22 20 = 4) && decide (fieldOf p 15 0 = 0 ∨ fieldOf p 23 16 = 0)) (ruleBase k + 4))

/-- The computed words of the AON block (Table Rind.9). -/
def State.aonWord (s : State) (off : Nat) : Option Word :=
  let w := fun (v : Nat) => some (BitVec.ofNat 32 v)
  let a := s.rind.alarm
  if off = 0 then w (atBit (b2n (!s.power.lfAon.isEmpty)) 31 + atBit s.rind.fifo.length 16)
  else if off = 0x10 then w (atBit s.rind.loop.code 16 + s.rindLevels)
  else if off = 0x18 then
    w (atBit (match a.endAt with
      | some t => (t - s.lf + 32767) / 32768
      | none => 0) 16 + atBit (b2n a.active) 8)
  else if 0x100 ≤ off ∧ off < 0x200 ∧ off % 16 = 12 then
    let k : Fin 16 := Fin.ofNat 16 ((off - 0x100) / 16)
    some ((s.reg (0xD0000 + off) &&& 1) ||| BitVec.ofNat 32 (atBit (if ((s.rule k).openWindow s.lf).isSome then (s.rule k).count else 0) 16 +
      atBit (b2n ((s.rule k).holding s.lf)) 1))
  else none

/-- The rind at a POR (R547); another reset keeps it. -/
def State.clearRind (s : State) : State := { s with rind := {}, lock := {} }

end Sys2Proof.Machine
end

