-- ==== Sys2Proof/Machine/Lock.lean ====
section
/-!
DEFINITION. The wheel lock: its limits, states, commands, moves and faults, and the rind samples that feed it (16_rind_lock.md, R519 to R523,
R531 to R549).
-/

namespace Sys2Proof.Machine

def State.setLock (s : State) (l : LockSt) : State := { s with lock := l }

/-- A move is in progress. -/
def LockSt.moving (l : LockSt) : Bool := l.state == .opening || l.state == .closing || l.state == .homing

/-- The target limit of the move is OPEN. -/
def LockSt.towardOpen (l : LockSt) : Bool := l.state != .closing

/-- LCK_CFG, LCK_TIME and LCK_GUARD in force: a commit to them applies at the next move start (R543). -/
def State.lockCfg (s : State) : Word := s.lock.moveCfg
def State.lockTime (s : State) : Word := s.lock.moveTime
def State.lockGuard (s : State) : Word := s.lock.moveGuard

/-- CLK_LF periods of so many milliseconds, rounded up (R532). -/
def lfPeriods (ms : Nat) : Nat := (ms * 32768 + 999) / 1000

/-! ### Limits (R532) -/

/-- The rind input of a limit. -/
def limitInput (isOpen : Bool) : Fin 6 := if isOpen then 1 else 2

/-- A limit reads asserted, reads released, or is not known. -/
def State.limitReads (s : State) (isOpen : Bool) : Option Bool :=
  let pol := bitOf s.lockCfg (if isOpen then 28 else 27)
  match s.rindIn (limitInput isOpen) with
  | .low => some (!pol)
  | .high => some pol
  | _ => none

def LockSt.limit (l : LockSt) (isOpen : Bool) : LimitSt := if isOpen then l.limOpen else l.limShut
def LockSt.setLimit (l : LockSt) (isOpen : Bool) (v : LimitSt) : LockSt := if isOpen then { l with limOpen := v } else { l with limShut := v }

/-- How long a level must stand: DEB in RUN and DOZE, one sample more in STANDBY. -/
def State.limitPeriods (s : State) : Nat :=
  if s.rindSleeps then s.sleepPeriod else lfPeriods (fieldOf s.lockCfg 7 0)

/-- The stable level that a limit has just reached, if any. -/
def State.limitDue (s : State) (isOpen : Bool) : Option Stable :=
  let m := s.lock.limit isOpen
  match s.limitReads isOpen with
  | some a =>
    let want : Stable := if a then .asserted else .released
    if m.stable ≠ want ∧ m.since + s.limitPeriods ≤ s.lf then some want else none
  | none => none

/-- A limit's level has changed: its debounce begins again, and a cut debounce of the target is a restart (R536). -/
def State.limitMoved (s : State) (isOpen : Bool) (was : Option Bool) : State :=
  let l := s.lock
  let cut := l.moving && (l.towardOpen == isOpen) && was == some true && (l.limit isOpen).stable != .asserted
  s.setLock { l.setLimit isOpen { since := s.lf } with restartDue := if cut then l.restartDue + 1 else l.restartDue }

/-! ### States, faults and the bridge (R531, R533, R538 to R540) -/

/-- The state that the limits give at rest (R533). -/
def LockSt.resolve (l : LockSt) : LockState :=
  match l.limOpen.stable, l.limShut.stable with
  | .asserted, .released => .opened
  | .released, .asserted => .shut
  | _, _ => .unknown

/-- NTC_LOCK; in STANDBY one at RUN reached takes its place, as one at the load commit does in a start-up (R533, R540, R545). -/
def State.lockNotice (s : State) : State :=
  if s.rindSleeps then s else s.notice 0x0E (bytesLE 1 s.lock.state.code ++ bytesLE 1 s.lock.fault)

/-- A change of state. -/
def State.setLockState (s : State) (t : LockState) : State :=
  if s.lock.state = t then s else (s.setLock { s.lock with state := t }).lockNotice

/-- Milliseconds of the present or last move. -/
def State.lockMs (s : State) : Nat := if s.lock.moving then Nat.min 0xFFFF ((s.lf - s.lock.moveAt) * 1000 / 32768) else s.lock.elapsed

/-- A lock log entry (Table Rind.4). -/
def State.lockLog (s : State) (event cause before restarts ms : Nat) (urgent : Bool) : State :=
  (s.logEntry 5 (bytesLE 1 event ++ bytesLE 1 cause ++ bytesLE 1 before ++ bytesLE 1 restarts ++ bytesLE 4 ms ++ bytesLE 4 s.lf ++
    bytesLE 2 s.rindLevels) urgent).2

/-- The bridge can be driven: PD13 and VIO are up. -/
def State.bridgeUp (s : State) : Bool := s.running && s.power.vioOk

/-- The lock enters FAULT, but for what the rules see of it (R537, R538). -/
def State.enterFault (s : State) (cause : Nat) : State :=
  if s.lock.state = .fault then s
  else
    let l := s.lock
    let ms := s.lockMs
    let s1 := s.setLock { l with
      fault := cause, lastFault := cause, elapsed := ms, restartDue := 0, brakeEnd := none
      bridge := if cause = 7 ∨ s.bridgeUp = false then .coast else .brake }
    let s2 := (s1.satInc 0xE001C 31 16).setLockState .fault
    (s2.lockLog 17 cause l.state.code (Nat.min 255 l.restarts) ms true).advise 7 cause

/-- The lock enters FAULT, which is a condition of the rules (R525, R537). -/
def State.lockFault (s : State) (cause : Nat) : State :=
  if s.lock.state = .fault then s else (s.enterFault cause).evalRules { fault := true }

/-- The lock enters FAULT, with what the rules are to see of it. -/
def State.faultEvent (s : State) (cause : Nat) : State × RindEvents := (s.enterFault cause, { fault := decide (s.lock.state ≠ .fault) })

/-- The lock drifts from a resolved state (R539), with what the rules are to see of it. -/
def State.lockDrift (s : State) (both : Bool) : State × RindEvents :=
  let was := s.lock.state.code
  let s1 := s.orReg 0xE0008 1
  let s2 := if both then s1.enterFault 4 else s1.setLockState .unknown
  (s2.lockLog 18 was 0 0 0 false, { drift := true, fault := both })

/-- A limit's polarity in force has changed: what it reads begins to stand now (R532). -/
def State.repolarise (s : State) (o c : Word) : State :=
  let f := fun (s : State) (isOpen : Bool) =>
    let b := if isOpen then 28 else 27
    if bitOf o b = bitOf c b then s else s.setLock (s.lock.setLimit isOpen { since := s.lf })
  f (f s true) false

/-- A move ends without fault: the bridge, the time and the state at rest. -/
def State.lockEndMove (s : State) (b : Bridge) (brakeEnd : Option Nat) : State :=
  let ms := s.lockMs
  let s1 := s.setLock { s.lock with elapsed := ms, bridge := b, brakeEnd := brakeEnd, restartDue := 0 }
  s1.setLockState s1.lock.resolve

/-- A move succeeds (R535). -/
def State.lockSuccess (s : State) : State :=
  (s.lockEndMove .brake (some (s.lf + lfPeriods (fieldOf s.lockTime 7 0)))).satInc 0xE001C 15 0

/-- The stall comparator has been active without break for STALLMS (R537). -/
def State.stallDue (s : State) : Bool :=
  let g := s.lockGuard
  let c : Fin 16 := Fin.ofNat 16 (fieldOf g 23 20)
  s.lock.moving && bitOf g 16 && (s.cmp c).active && decide ((s.cmp c).since + msAng (fieldOf g 31 24) ≤ s.now)

/-- The timeout of a rind input in SYS_STUCKTO, in units of 10 ms (Table Start.13). -/
def State.rindTimeout (s : State) (i : Fin 6) : Nat :=
  if i = 0 then s.fld 0x48 7 0 else if i = 3 ∨ i = 4 then s.fld 0x48 23 16 else s.fld 0x48 15 8

/-- An input in use is still UNKNOWN at its timeout, which runs from the load commit in every power state but SHIP (R89, R519). -/
def State.rindStuckDue (s : State) (i : Fin 6) : Bool :=
  s.rindSamples && s.boot.loaded && s.rindUsed i && decide (s.rindTimeout i ≠ 0) && s.rindIn i == .unknown &&
    decide (s.boot.loadAt + msAng (10 * s.rindTimeout i) ≤ s.now)

/-- What limits that have just become stable do, in the order of R542: BOTH, WIRING, STUCK, CHATTER, STALL, success, drift and rest; and what
the rules are to see of it. -/
def State.lockConsider (s : State) (chOpen chShut : Bool) : State × RindEvents :=
  let l := s.lock
  let opp := l.limit (!l.towardOpen)
  let chOpp := if l.towardOpen then chShut else chOpen
  let tgt := l.limit l.towardOpen
  let chTgt := if l.towardOpen then chOpen else chShut
  let both := l.limOpen.stable == .asserted && l.limShut.stable == .asserted
  if l.state = .fault then (s, {})
  else if l.moving then
    if both then s.faultEvent 4
    else if chOpp && opp.stable == .asserted && l.oppReleased then s.faultEvent 3
    else if s.rindStuckDue 1 || s.rindStuckDue 2 then s.faultEvent 5
    else
      let n := l.restarts + l.restartDue
      let s1 := s.setLock { l with
        restarts := n, restartDue := 0, oppReleased := l.oppReleased || (chOpp && opp.stable == .released) }
      if l.restartDue ≠ 0 ∧ fieldOf s.lockGuard 4 0 < n then s1.faultEvent 2
      else if s.stallDue then s1.faultEvent 6
      else if chTgt && tgt.stable == .asserted then (s1.lockSuccess, {}) else (s1, {})
  else
    match l.state with
    | .opened =>
      if both then s.lockDrift true
      else if l.limOpen.stable == .released || l.limShut.stable == .asserted then s.lockDrift false else (s, {})
    | .shut =>
      if both then s.lockDrift true
      else if l.limShut.stable == .released || l.limOpen.stable == .asserted then s.lockDrift false else (s, {})
    | _ => if both then s.faultEvent 4 else (s.setLockState l.resolve, {})

/-- Limits that have stood long enough become stable, restarts of the debounce are counted, and the lock decides on them (R532, R536, R542). -/
def State.limitDecide (s : State) : State × RindEvents :=
  let o := s.limitDue true
  let h := s.limitDue false
  let mark := fun (l : LockSt) (isOpen : Bool) (d : Option Stable) => match d with
    | some v => l.setLimit isOpen { l.limit isOpen with stable := v }
    | none => l
  (s.setLock (mark (mark s.lock true o) false h)).lockConsider o.isSome h.isSome

/-- LIMIT_CHANGE: the limits of the moment, and the rules on what they do. -/
def State.limitChange (s : State) : State := let r := s.limitDecide; r.1.evalRules r.2

/-! ### Commands and moves (R534, R535) -/

/-- The outcome of a command; a refusal sets CMDREF. -/
def State.cmdResult (s : State) (code : Nat) : State :=
  let s1 := s.setLock { s.lock with cmdRes := code }
  if code = 1 then s1 else s1.orReg 0xE0008 4

/-- A limit reads UNKNOWN, or reads STUCK_MID. -/
def State.limitIs (s : State) (l : InLevel) : Bool := s.rindIn 1 == l || s.rindIn 2 == l

/-- Table Rind.6 for OPEN, SHUT and HOME: the first refusal, or 1. -/
def State.moveCheck (s : State) (kind : LockState) : Nat :=
  let guard := s.reg 0xE0014
  let already : LockState := if kind = .closing then .shut else .opened
  if s.bit 0xE000C 31 = false ∨ s.boot.loaded = false then 5
  else if s.entering = true ∨ s.power.vioOk = false then 7
  else if s.lock.state = .fault then 4
  else if s.lock.moving = true then 3
  else if s.lock.state = already then 2
  else if s.limitIs .stuckMid = true ∨ (kind ≠ .homing ∧ s.limitIs .unknown = true) then 6
  else if kind = .closing ∧ bitOf guard 10 = true ∧ (s.wheels[(Fin.ofNat 4 (fieldOf guard 9 8) : Fin 4)]).atRest = false then 8
  else 1

/-- A move starts, with the configuration live then. A target limit that reads asserted begins to stand now; any other keeps what it has
(R535, R536, R543). -/
def State.startMove' (s : State) (kind : LockState) : State :=
  let cfg := s.reg 0xE000C
  let toOpen := kind != .closing
  let duty := if kind = .homing then fieldOf cfg 13 8 else fieldOf cfg 21 16
  let s := (s.setLock { s.lock with moveCfg := cfg, moveTime := s.reg 0xE0010, moveGuard := s.reg 0xE0014 }).repolarise s.lock.moveCfg cfg
  let l := s.lock
  let opp : LimitSt := l.limit (!toOpen)
  let l1 := { l with
    moveAt := s.lf, restarts := 0, restartDue := 0, oppReleased := decide (opp.stable = Stable.released), brakeEnd := none
    bridge := .drive s.lf toOpen duty }
  (s.setLock (if s.limitReads toOpen = some true then l1.setLimit toOpen { since := s.lf } else l1)).setLockState kind

/-- OPEN, SHUT or HOME lands (R534, R542: limit samples of the period come first). -/
def State.lockMove (s0 : State) (kind : LockState) : State :=
  let s := s0.limitChange
  let r := s.moveCheck kind
  if r = 1 then (s.cmdResult 1).startMove' kind else s.cmdResult r

/-- The time limit of the move in progress has passed (R537). -/
def State.moveTimedOut (s : State) : Bool :=
  let dest := if s.lock.state = .homing then fieldOf s.lockTime 19 8 else fieldOf s.lockTime 31 20
  s.lock.moving && decide (s.lock.moveAt + lfPeriods (10 * dest) ≤ s.lf)

/-- LOCK_MOVE_TIMEOUT (R537, R542: a success in the same period comes first). -/
def State.lockTimeout (s : State) : State :=
  let r := s.limitDecide
  if r.1.moveTimedOut then (r.1.enterFault 1).evalRules { r.2 with fault := true } else r.1.evalRules r.2

/-- STOP lands, after what the limits and the time limit of its period decide (R542). -/
def State.lockStop (s0 : State) : State :=
  let s := s0.lockTimeout
  if s.bit 0xE000C 31 = false ∨ s.boot.loaded = false then s.cmdResult 5
  else if s.lock.moving then (s.cmdResult 1).lockEndMove .coast none else s.cmdResult 0

/-- CLEAR lands (R538). -/
def State.lockClear (s0 : State) : State :=
  let s := s0.limitChange
  if s.bit 0xE000C 31 = false ∨ s.boot.loaded = false then s.cmdResult 5
  else if s.lock.state = .fault then
    let s1 := (s.cmdResult 1).setLock { (s.cmdResult 1).lock with fault := 0, bridge := .coast }
    let r := (s1.setLockState s1.lock.resolve).lockConsider false false
    r.1.evalRules r.2
  else s.cmdResult 0

/-- A command word is valid: KEY, and CMD 1 to 5 (R534). -/
def lockWordOk (w : Word) : Bool := decide (fieldOf w 31 16 = 0x4C4B) && decide (1 ≤ fieldOf w 2 0 ∧ fieldOf w 2 0 ≤ 5)

/-- BADKEY. -/
def State.lockBadKey (s : State) : State := s.cmdResult 9

/-- A write of LCK_CMD takes effect (R534). -/
def State.lockWord (s : State) (w : Word) : State :=
  if lockWordOk w then
    match fieldOf w 2 0 with
    | 1 => s.lockMove .opening
    | 2 => s.lockMove .closing
    | 3 => s.lockMove .homing
    | 4 => s.lockStop
    | _ => s.lockClear
  else s.lockBadKey

/-- LOCK_STALL: the stall comparator has been active for STALLMS, which is decided with all that falls in its period (R537, R542). -/
def State.lockStall (s : State) : State := if s.stallDue then s.limitChange else s

/-- BRAKE_END (R535). -/
def State.brakeEnded (s : State) : State :=
  match s.lock.brakeEnd with
  | some t => if t ≤ s.lf then s.setLock { s.lock with bridge := .coast, brakeEnd := none } else s
  | none => s

/-- VIO falls: a move ends in the SUPPLY fault, and the bridge coasts (R73, R537). -/
def State.lockSupply (s : State) : State :=
  let s1 := if s.lock.moving then s.lockFault 7 else s
  s1.setLock { s1.lock with bridge := .coast, brakeEnd := none }

/-! ### STANDBY, resets and the load commit (R538, R540, R545, R547) -/

/-- Step 2 of an entry: the bridge coasts. -/
def State.lockEntry (s : State) : State := s.setLock { s.lock with bridge := .coast, brakeEnd := none }

/-- STANDBY is entered: the state is remembered for the notice at RUN reached (R540). -/
def State.lockSleep (s : State) : State := s.setLock { s.lock with before := some s.lock.state }

/-- RUN reached after a wake. -/
def State.lockWake (s : State) : State :=
  let l := s.lock
  let s1 := s.setLock { l with before := none, bridge := if l.state = .fault ∧ s.bridgeUp = true then .brake else .coast }
  if l.before.isSome && decide (l.before ≠ some l.state) then s1.lockNotice else s1

/-- A reset with PD0 kept (R545, R547). -/
def State.lockReset (s : State) : State :=
  let l := s.lock
  if l.moving then
    (s.setLock { l with state := .unknown, bridge := .coast, brakeEnd := none, restartDue := 0, elapsed := s.lockMs, before := some l.state }).orReg
      0xE0008 2
  else s.setLock { l with bridge := .coast, brakeEnd := none, before := some l.state }

/-- The state that the limits give at the load commit, where it is not resolved: FAULT with cause BOTH where both are stable-asserted (R533,
R545). -/
def State.lockResolved (s : State) : State × RindEvents :=
  let l := s.lock
  if l.state ≠ .unknown then (s, {})
  else if l.limOpen.stable = .asserted ∧ l.limShut.stable = .asserted then s.faultEvent 4
  else (s.setLock { l with state := l.resolve }, {})

/-- The load commit: the configuration is taken, the state resolved, NTC_LOCK follows if it differs from that before the reset, and AUTOHOME
homes (R543, R545, R547). -/
def State.lockLoaded (s : State) : State :=
  let cfg := s.reg 0xE000C
  let s0 := (s.setLock { s.lock with moveCfg := cfg, moveTime := s.reg 0xE0010, moveGuard := s.reg 0xE0014, before := none }).repolarise
    s.lock.moveCfg cfg
  let r := s0.lockResolved
  let told := r.2.fault || s.lock.before.all (fun b => b == r.1.lock.state)
  let s1 := (if told then r.1 else r.1.lockNotice).evalRules r.2
  if s1.bit 0xE000C 30 && s1.bit 0xE000C 31 && s1.lock.state == .unknown then s1.lockMove .homing else s1

/-- A commit that clears EN during a move stops it as STOP does, after what its period decides (R542, R543). -/
def State.commitLock (s : State) : State :=
  if s.lock.moving && !s.bit 0xE000C 31 then
    let t := s.lockTimeout
    if t.lock.moving then t.lockEndMove .coast none else t
  else s

/-! ### Rind samples (R519 to R523, R546) -/

/-- The class of the tamper loop from h1 and h0, where both are known (R521). -/
def loopOf (h1 h0 : InLevel) : Option Loop :=
  match h1, h0 with
  | .high, .low => some .intact
  | .high, .high => some .short
  | .low, .low => some .opened
  | .low, .high => some .opened
  | _, _ => none

/-- CLK_LF periods from one sample of an input to the next (R520, R521). -/
def State.samplePeriod (s : State) (i : Fin 6) : Nat := if s.rindSleeps then s.sleepPeriod else if i = 5 then 2 else 1

/-- FILT of an input (R523). -/
def State.filt (s : State) (i : Fin 6) : Nat := s.fld (if s.rindSleeps then 0xD000C else 0xD0008) (4 * i.val + 3) (4 * i.val)

/-- The CLK_LF time of the first sample of the run that a sample of level `v` at this edge belongs to. -/
def State.runFrom (s : State) (i : Fin 6) (v : InLevel) : Nat :=
  match s.rind.runs[i] with
  | some (l, t) => if l = v then t else s.lf
  | none => s.lf

/-- A sample of level `v` at this edge changes the filtered level: a known level after FILT agreeing samples, another by R87 (R523). -/
def State.filterPasses (s : State) (i : Fin 6) (v : InLevel) : Bool :=
  (s.rindIn i != .low && s.rindIn i != .high) || decide (s.runFrom i v + (s.filt i - 1) * s.samplePeriod i ≤ s.lf)

/-- WHEEL changed from one known level to the other. -/
def wheelTransition (was v : InLevel) : Bool := (was == .low && v == .high) || (was == .high && v == .low)

/-- WHEEL's accepted level: one transition each time it changes (R520). -/
def State.acceptWheel (s : State) (v : InLevel) : State × Bool :=
  let tr := wheelTransition s.rind.wheel v
  let s1 := s.setRind { s.rind with wheel := v, wheelNew := none }
  (if tr then s1.setReg 0xD0014 (s1.reg 0xD0014 + 1) else s1, tr)

/-- WHEEL's comparator under WMODE 1, which stays powered: a level is accepted once it has held for two CLK_LF periods (R520). -/
def State.wheelLevel (s : State) (v : InLevel) : State × Bool :=
  if s.rind.wheel = v then (s.setRind { s.rind with wheelNew := none }, false)
  else
    let t := match s.rind.wheelNew with
      | some (l, t) => if l = v then t else s.lf
      | none => s.lf
    if (s.rind.wheel ≠ .low ∧ s.rind.wheel ≠ .high) ∨ t + 2 ≤ s.lf then s.acceptWheel v
    else (s.setRind { s.rind with wheelNew := some (v, t) }, false)

/-- A sample of an input: a run of samples that agree on a level begins, goes on or ends, and the filtered level changes after FILT of them
(R523). -/
def State.takeSample (p : State × RindEvents) (c : Fin 6 × InLevel) : State × RindEvents :=
  let s := p.1
  let e := p.2
  let i := c.1
  let was := s.rindIn i
  if was = c.2 then (s.setRind { s.rind with runs := s.rind.runs.set i none }, e)
  else if s.filterPasses i c.2 = false then (s.setRind { s.rind with runs := s.rind.runs.set i (some (c.2, s.runFrom i c.2)) }, e)
  else
    let rose := decide (was = .low ∧ c.2 = .high)
    let fell := decide (was = .high ∧ c.2 = .low)
    let lim := s.limitReads (i == 1)
    let s1 := s.setRindIn i c.2
    let s2 := if i = 1 ∨ i = 2 then s1.limitMoved (i == 1) lim else s1
    let w := if i = 0 ∧ s2.bit 0xD0004 9 = false then s2.acceptWheel c.2 else (s2, false)
    (w.1, { e with
      rose := if rose then e.rose ++ [i.val] else e.rose, fell := if fell then e.fell ++ [i.val] else e.fell
      transition := e.transition || w.2 })

/-- One input of a RIND_INPUT_CHANGE: WHEEL's comparator stays powered under WMODE 1, and every input in use is sampled at a sample edge
(R520). -/
def State.rindChange (p : State × RindEvents) (c : Fin 6 × InLevel) : State × RindEvents :=
  if p.1.rindUsed c.1 = false ∨ (c.2 ≠ .low ∧ c.2 ≠ .high) then p
  else
    let w := if c.1 = 0 ∧ p.1.bit 0xD0004 9 = true then p.1.wheelLevel c.2 else (p.1, false)
    let p1 : State × RindEvents := (w.1, { p.2 with transition := p.2.transition || w.2 })
    if w.1.sampleEdge then State.takeSample p1 c else p1

/-- TAMPO: high in the first CLK_LF period of a sample window and low in the second; in RUN a window takes every two periods, in STANDBY the
two before a sample (R520, R521). -/
def State.tampoHigh (s : State) : Bool :=
  s.rindUsed 5 && s.rindSamples &&
    (if s.rindSleeps then decide ((s.lf - s.power.standbyAt) % s.sleepPeriod + 2 = s.sleepPeriod) else decide ((s.lf - s.rind.winAt) % 2 = 0))

/-- A tamper window ends at this edge (R521). -/
def State.windowEnd (s : State) : Bool :=
  if s.rindSleeps then s.sampleEdge else decide (s.rind.winAt < s.lf) && decide ((s.lf - s.rind.winAt) % 2 = 0)

/-- A tamper window that ends with these levels: the class of the loop, and the sample of TAMPER (R521). -/
def State.tamperWindow (s : State) (tamper : Option (InLevel × InLevel)) : List (Fin 6 × InLevel) × State :=
  match tamper with
  | some (h1, h0) =>
    if s.rindUsed 5 && s.windowEnd then
      match loopOf h1 h0 with
      | some c => ([(5, if c = .intact then .high else .low)], s.setRind { s.rind with loop := c })
      | none => ([], s)
    else ([], s)
  | none => ([], s)

/-- RIND_INPUT_CHANGE: what the comparators read at this CLK_LF edge, and the tamper loop's h1 and h0 where a window ended; then the rules
(R519 to R527). An input that is not named reads as at the edge before. -/
def State.rindSample (s : State) (changes : List (Fin 6 × InLevel)) (tamper : Option (InLevel × InLevel)) : State :=
  if s.rindSamples then
    let tw := s.tamperWindow tamper
    let r := (changes.filter (fun c => decide (c.1 ≠ 5)) ++ tw.1).foldl State.rindChange (tw.2, {})
    r.1.evalRules r.2
  else s

/-- A rind input that is still UNKNOWN at its timeout reads STUCK_MID; for a limit the lock decides first what falls in the period (R89, R485,
R537, R542, R546). -/
def State.rindStuck (s : State) (i : Fin 6) : State :=
  if s.rindStuckDue i then
    let r := if (i = 1 ∨ i = 2) ∧ s.lock.moving = true then s.limitDecide else (s, {})
    let s1 := ((r.1.setRindIn i .stuckMid).notice 0x05 (bytesLE 1 (8 + i.val) ++ bytesLE 1 1)).advise 2 (8 + i.val)
    (if i = 4 then s1.orReg 0xB0120 0x200 else s1).evalRules { r.2 with stuck := [i.val] }
  else s

/-! ### Pins, checks and register views (R531, R541, R549) -/

/-- The levels of LOCKA and LOCKB. -/
def State.lockPins (s : State) : Bool × Bool :=
  match s.lock.bridge with
  | .coast => (false, false)
  | .brake => (true, true)
  | .drive since toOpen duty =>
    if (s.lf - since) % 32 < duty then (if toOpen != bitOf s.lockCfg 29 then (true, false) else (false, true)) else (true, true)

/-- The LCK words that fail the checks (R541). `dom` is PWR_DOMEN. -/
def lckFails (c : Nat → Word) : List Nat :=
  let f := fun (b : Bool) (a : Nat) => if b then [a] else []
  let w := c 0xE000C
  let t := c 0xE0010
  let g := c 0xE0014
  let duty := fun (v : Nat) => decide (v = 0 ∨ 32 < v)
  let cmp := fieldOf g 23 20
  let cb := if cmp < 8 then 0x60400 + 0x10 * cmp else 0x70400 + 0x10 * (cmp - 8)
  f (duty (fieldOf w 21 16) || duty (fieldOf w 13 8) || decide (fieldOf w 7 0 = 0)) 0xE000C ++
  f (decide (fieldOf t 31 20 = 0 ∨ fieldOf t 19 8 = 0)) 0xE0010 ++
  f (decide (fieldOf g 4 0 = 0) || (bitOf g 16 && (!bitOf (c cb) 31 || !bitOf (c 0x11000C) (if cmp < 8 then 4 else 5)))) 0xE0014

/-- The computed words of the LCK block (Table Rind.10). -/
def State.lckWord (s : State) (off : Nat) : Option Word :=
  let l := s.lock
  if off = 0 then
    some (BitVec.ofNat 32 (atBit (b2n (!s.power.lfLck.isEmpty)) 31 + atBit (Nat.min 31 l.restarts) 24 + atBit l.lastFault 16 +
      atBit l.fault 12 + atBit l.cmdRes 8 + l.state.code))
  else if off = 0x18 then some (BitVec.ofNat 32 s.lockMs)
  else none

end Sys2Proof.Machine
end

