-- ==== Sys2Proof/Machine/Power.lean ====
section
/-!
DEFINITION. Clocks, supplies and power states: the LF source, VIO, requests for STANDBY and SHIP, the steps of an entry, the wake
(02_clocks_power.md, R38 to R77). What makes a reset is in Reset.lean.
-/

namespace Sys2Proof.Machine

def State.setPower (s : State) (p : PowerSt) : State := { s with power := p }

/-- PWR_STATE.RESULT takes a code (Table Power.7). -/
def State.setResult (s : State) (code : Nat) : State := s.setPower { s.power with result := code }

/-! ### The LF source (R40 to R42, R74) -/

/-- NTC_CLOCK, at once or owed until after the wake (R74). -/
def State.clockNotice (s : State) : State :=
  if s.running && (s.boot.loaded || s.boot.recovery) then s.notice 0x03 (bytesLE 1 (s.fld 0x11001C 2 1 * 2 + b2n s.power.lfXtal))
  else s.setPower { s.power with clockOwed := true }

/-- LF_CRYSTAL_START: 4096 crystal cycles without a gap, within 1 s of power-on; LFSRC 1 keeps the RC, and a lost crystal is not taken
again (R40, R41). Once LFSRC has gone from 1 back to 0 or 2, the crystal is taken again within that second (DESIGN CHOICE, log entry 133). -/
def State.lfCrystalStart (s : State) : State :=
  if s.power.phase ≠ .unpowered ∧ s.fld 0x110008 3 2 ≠ 1 ∧ s.power.lfNoReturn = false ∧ s.power.lfFailed = false ∧
      s.lf < s.power.porLf + 32768 then
    s.setPower { s.power with lfXtal := true }
  else s

/-- LFXFAIL: 1 s after power-on the rind still runs on the RC (R40), also where LFSRC has gone from 1 back to 0 or 2 since (DESIGN CHOICE, log
entry 133). A required crystal raises a health fault. -/
def State.lfxFail (s : State) : State :=
  if s.power.phase ≠ .unpowered ∧ s.fld 0x110008 3 2 ≠ 1 ∧ s.power.lfXtal = false ∧ s.power.lfFailed = false ∧
      s.power.lfNoReturn = false ∧ s.power.porLf + 32768 ≤ s.lf then
    let s1 := ((s.setPower { s.power with lfFailed := true }).orReg 0x11001C 2).clockNotice
    if s.fld 0x110008 3 2 = 2 then s1.advise 1 0 else s1
  else s

/-- LFSWITCH: no crystal edge for 125 µs; the RC stays until the next power-on (R41). -/
def State.lfSwitch (s : State) : State :=
  if s.power.phase ≠ .unpowered ∧ s.power.lfXtal = true then
    let s1 := ((s.setPower { s.power with lfXtal := false, lfNoReturn := true }).orReg 0x11001C 4).clockNotice
    if s.fld 0x110008 3 2 = 2 then s1.advise 1 0 else s1
  else s

/-- A window of 1024 CLK_LF periods that held `count` CLK_ANG cycles is over, by the clocks held here (R42). -/
def State.lfcalOver (s : State) (count : Nat) : Bool :=
  s.running && decide (s.power.calLf + 1024 ≤ s.lf) && decide (s.power.calNow + count ≤ s.now) &&
    (decide (s.lf ≠ s.power.calLf + 1024) || decide (s.now = s.power.calNow + count))

/-- LFCAL_WINDOW_END: the CLK_ANG count of 1024 CLK_LF periods, times 64; the next window begins where this one ended (R42). -/
def State.lfcalWindow (s : State) (count : Nat) : State :=
  if s.lfcalOver count then
    (s.setReg 0x110020 (BitVec.ofNat 32 (count * 64))).setPower
      { s.power with calNow := s.power.calNow + count, calLf := s.power.calLf + 1024 }
  else s

/-! ### VIO and the domains (R46, R73) -/

/-- VIO_LOW: outputs, probe path and bridge to their reset state, queues flushed, VIOLOW, NTC_SUPPLY (R73). -/
def State.vioLow (s : State) : State :=
  if s.power.phase ≠ .unpowered then
    let s1 := s.setPower { s.power with vioOk := false, vioLowAt := s.now, vioReady := false }
    let s2 := ((s1.outputsVioLow).lockSupply).orReg 0x110024 0x100
    let supply := (s2.fld 0x110024 9 8) * 256 + b2n s2.power.vdd5Ok + 4
    (s2.notice 0x04 (bytesLE 2 supply)).advise 12 0
  else s

/-- VIOOK: VIO is above its threshold. Between the cycle of VIO_LOW and VIO_RECOVERED, which comes 1 ms after its return, the value is free
(R73, Table Power.15; log entry 14). -/
def State.vioAbove (s : State) : Bool := s.power.vioOk || (decide (s.power.vioLowAt < s.now) && Config.vioAbove s.now)

/-- VIO_RECOVERED: VIO has been valid for 1 ms (R73). -/
def State.vioRecovered (s : State) : State :=
  if s.power.vioReady = false ∧ s.power.phase ≠ .unpowered then
    (s.setPower { s.power with vioOk := true, vioReady := true }).outputsVioOk
  else s

/-- More than 800 µs have passed since MAINEN rose, at the latch that began the wake. The CLK_LF periods counted since then decide, at
PWR_LFCAL cycles each; within one period of the limit the command says (R57). -/
def State.vdd5IsLate (s : State) (late : Bool) : Bool :=
  let k := s.lf - s.power.wakeAt
  let p := (s.reg 0x110020).toNat
  decide (usAng 800 * 65536 ≤ k * p) || (late && decide (usAng 800 * 65536 < (k + 1) * p))

/-- VDD5LATE: more than 800 µs passed from MAINEN rising at a wake (R57). -/
def State.vdd5Late (s : State) : State := (s.orReg 0x110024 0x200).advise 12 1

/-- PD`n` is switched on: per PWR_DOMEN in RUN; during a start-up, from the image load on, every domain that the load needs no more than
the reset value of PWR_DOMEN for (R44, R76). -/
def State.domainOn (s : State) (n : Nat) : Bool :=
  if s.running then s.bit 0x11000C n
  else s.power.phase == .startup && s.boot.stage != .supply && s.boot.stage != .nandWait

/-- DOMAIN_READY: PD`n` has reached full supply, PD6 250 µs after it was switched on; PD9 then reloads its model (R46, R106, R116). -/
def State.domainReady (s : State) (n : Fin 14) : State :=
  if s.domainOn n.val && !s.domReady n.val && (n.val != 6 || decide (s.power.pd6On + usAng 250 ≤ s.now)) then
    let s1 := s.setPower { s.power with domRdy := s.power.domRdy ||| 2 ^ n.val }
    let resume := fun (s1 : State) x => if s1.convOn x && !s.convOn x then s1.converterOn x else s1
    let s2 := resume (resume s1 .adcA) .adcB
    if n.val = 9 ∧ s2.fus.mstate = .none ∧ s2.boot.loaded = true then s2.loadModel else s2
  else s

/-- The domains of a start-up that are ready by now, those that are never switched off among them: the others were switched on after PD11
and PD12, reach full supply within 20 µs, and PD6 after 250 µs (R46, R76). -/
def State.startedDomains (s : State) : Nat :=
  let d := s.now - s.power.pd6On
  s.power.domRdy ||| (0x3FFF - 0x270) ||| (if usAng 20 ≤ d then 0x230 else 0) ||| (if usAng 250 ≤ d then 0x40 else 0)

/-- A commit of PWR_DOMEN: what it switches off loses its work, what it switches on becomes ready later (R46, R48). -/
def State.commitDomains (s : State) (o c : Word) : State :=
  let off := fun n => bitOf o n && !bitOf c n
  let s := if off 4 || off 5 || off 6 then s.earlierTriggers else s
  let s1 := if off 4 then s.converterOff .adcA else s
  let s2 := if off 5 then s1.converterOff .adcB else s1
  let s3 := if off 9 then s2.stopFusion else s2
  let on6 := bitOf c 6 && !bitOf o 6
  (s3.setPower { s3.power with
    domRdy := s3.power.domRdy &&& (0x3FFF - 0x270 + (c.toNat &&& 0x270)), pd6On := if on6 then s.now else s3.power.pd6On }).dropTriggers

/-! ### A commit of the PWR block (R40, R48, R177, R180) -/

/-- A self-test ends because its unit's domain goes off (R177, R180). -/
def State.endTest (s : State) (unit : Nat) : State :=
  let s1 : State := match unit with
    | 1 => { s with cfg := { s.cfg with testAdcA := .idle } }
    | 2 => { s with cfg := { s.cfg with testAdcB := .idle } }
    | _ => { s with cfg := { s.cfg with testFusion := .idle }, fus := { s.fus with testBits := none } }
  s1.notice 0x07 (selftestPayload unit 3 0)

/-- PWR_DOMEN, with the self-tests of what goes off, and LFSRC (R40, R48, R180). -/
def State.commitPower (s : State) (o c : Nat → Word) : State :=
  let a := 0x11000C
  let off := fun n => bitOf (o a) n && !bitOf (c a) n
  let s1 := if off 4 && s.cfg.testAdcA != .idle then s.endTest 1 else s
  let s2 := if off 5 && s1.cfg.testAdcB != .idle then s1.endTest 2 else s1
  let s3 := if off 9 && s2.cfg.testFusion != .idle then s2.endTest 3 else s2
  let s4 := if o a = c a then s3 else s3.commitDomains (o a) (c a)
  if fieldOf (c 0x110008) 3 2 = 1 then s4.setPower { s4.power with lfXtal := false } else s4

/-! ### Requests (R50, R51, R61, R70, R561) -/

/-- A charger is attached, as CHGDET shows it (R61). -/
def State.chargerOn (s : State) : Bool := s.rindIn 3 == .high

/-- A transaction is open, armed or part-way through its stages, or a lifecycle transition runs (R51, R561). -/
def State.configBusy (s : State) : Bool := s.cfg.state != .idle || s.life.transition.isSome

/-- Why a request is refused, as RESULT codes it: the key, then an entry in progress, then R51's list (R51, R61, R70). -/
def State.requestRefusal (s : State) (ship keyOk : Bool) : Option Nat :=
  if !keyOk then some 4
  else if s.entering then some 7
  else if !s.wheelsAtRest then some 2
  else if s.configBusy then some 3
  else if s.life.halted then some 5
  else if ship && s.chargerOn then some 6
  else none

/-- A request for STANDBY or SHIP: refused with its RESULT, or accepted, when the entry starts at step 1 (R51, R52, R61). -/
def State.powerRequest (s : State) (ship keyOk : Bool) : State :=
  if s.running then
    match s.requestRefusal ship keyOk with
    | some code => s.setResult code
    | none => (s.setResult 1).setPower { (s.setResult 1).power with
        entry := some { kind := if ship then .ship else .standby, startedAt := s.now, stepAt := s.now }, wakeReq := 0 }
  else s

/-- PWR_REQ takes effect (Table Power.8). -/
def State.powerWord (s : State) (w : Word) : State :=
  let key := decide (fieldOf w 31 16 = 0xA5C3)
  match fieldOf w 3 0 with
  | 1 => s.powerRequest false key
  | 2 => s.powerRequest true key
  | _ => if s.running then s.setResult 0 else s

/-- The CLK_ANG time since which the part is idle: no Jornus command, and every wheel at rest (R50). -/
def State.idleSince (s : State) : Option Nat :=
  if s.wheelsAtRest then some (s.wheels.toList.foldl (fun t w => Nat.max t w.restSince) s.power.activeAt) else none

/-- AUTOSBY_IDLE: IDLESEC seconds of idleness; a refused request is made again after a further IDLESEC (R50, log entry 50). -/
def State.autosby (s : State) : State :=
  match s.idleSince with
  | some t =>
    if s.running && s.bit 0x110008 4 && decide (t + secAng (s.fld 0x110008 15 8) ≤ s.now) then
      let s1 := s.powerRequest false true
      s1.setPower { s1.power with activeAt := s.now }
    else s
  | none => s

/-- AUTOSHIP_RETRY: the estimator's own SHIP request, made again every 60 s while VPACK stays low (R478). -/
def State.autoship (s : State) : State :=
  if s.autoshipDue then (s.setBat { s.bat with shipAt := some (s.now + secAng 60) }).powerRequest true true else s

/-! ### The steps of an entry (R52, R53, R62, R68, R69) -/

/-- NTC_POWER with an event, bits 7:0 of the sources, and the CLK_LF periods spent in STANDBY (Table Link.5). -/
def State.powerNotice (s : State) (event sources periods : Nat) : State :=
  s.notice 0x02 (bytesLE 1 event ++ bytesLE 1 sources ++ bytesLE 2 s.power.sbyCount.toNat ++ bytesLE 4 periods)

def State.setEntry (s : State) (e : Option Entry) : State := s.setPower { s.power with entry := e }

/-- The entry ends without leaving RUN: RESULT, and NTC_POWER event 4 if it had been announced (R53, R68, R69). -/
def State.endEntry (s : State) (e : Entry) (result : Nat) (sources : Nat) : State :=
  let s1 := (s.setEntry none).setResult result
  let s2 := s1.setPower { s1.power with activeAt := s.now }
  if e.announced then s2.powerNotice 4 sources 0 else s2

/-- Step 2: outputs and probe path in their reset state, queues empty, the bridge off. -/
def State.entryStep2 (s : State) : State := (s.outputsOff).lockEntry

/-- Step 3 begins: every sequence stops (R52, R361). -/
def State.entryStep3 (s : State) : State :=
  let c := s.convCycle
  (((s.stopSeq .adcA true c).stopSeq .adcA false c).stopSeq .adcB true c).stopSeq .adcB false c

/-- Step 4 begins: what the estimators, the health block and the cave still have to store is queued (R435, R438, R475, R479, R499,
R589). -/
def State.entryStep4 (s : State) (ship : Bool) : State :=
  let s1 := if ship then s.batteryShip else s.checkpoint
  let s2 := s1.fuscalEntry
  if s2.cave.mode = .mounted then ((s2.writeHealth).reqCheckpoint).flushLog else s2.flushLog

/-- The kinds of NAND work that step 4 waits for (R447). -/
def JobKind.writes : JobKind → Bool
  | .scan => false
  | .candidate _ => false
  | .model _ _ => false
  | .repair _ => true
  | .imgRefresh _ _ => true
  | .mount => true
  | .recWrite => true
  | .recFetch _ _ => false
  | .logFetch _ => false
  | .sessFetch => false
  | .logProgram => true
  | .ctab => true
  | .rebuild => true
  | .collect _ => true
  | .move _ _ => true
  | .retire _ => true
  | .imgPage => true
  | .imgEnd => true
  | .imgCheck => false
  | .imgDrop _ => true
  | .scrub _ => false
  | .rest => true

/-- Every cave write in progress or queued is complete (R447). -/
def State.caveDrained (s : State) : Bool :=
  !(s.nand.jobs.any (fun j => j.kind.writes)) &&
  (match s.cave.mode with
   | .mounted => s.cave.recQueue.isEmpty && s.cave.recBusy.isNone && s.cave.logCur.isEmpty && s.cave.logProg.isEmpty
   | .mounting => s.cave.recQueue.isEmpty && s.cave.logCur.isEmpty && s.cave.logProg.isEmpty
   | _ => true)

/-- NTC_POWER enters the ring at the start of step 5, or of step 1 of R62; the entry keeps its number. -/
def State.announceEntry (s : State) (e : Entry) : State :=
  let s1 := s.powerNotice (if e.kind = .ship then 2 else 1) (s.fld 0x110018 8 0) 0
  let mine := if s.noticeOn 2 then (s1.link.ring.drop s1.link.cycLen).find? (fun x => decide (x.code = 2)) else none
  s1.setEntry (some { e with
    step := 5, stepAt := s.now, announced := mine.isSome, noticeNum := (mine.map Notice.num).getD s.link.nextNum })

/-- The NTC_POWER of the entry has been acknowledged. -/
def State.entryAcked (s : State) (e : Entry) : Bool :=
  e.announced && !(s.link.ring.any (fun x => decide (x.num = e.noticeNum ∧ x.code = 2)))

/-- A write into AON, LCK or PWR is still crossing (R43). -/
def State.lfPending (s : State) : Bool := !(s.power.lfAon.isEmpty && s.power.lfLck.isEmpty && s.power.lfPwr.isEmpty)

/-- The self-tests that have not ended when the clocks stop: NTC_SELFTEST with result 2, since none is dropped without it (R179, log entry 79). -/
def State.dropTests (s : State) : State :=
  let told := fun (s : State) (unit : Nat) (t : SelfTest) => if t = .idle then s else s.notice 0x07 (selftestPayload unit 2 0)
  let s1 := told (told (told s 1 s.cfg.testAdcA) 2 s.cfg.testAdcB) 3 s.cfg.testFusion
  { s1 with
    cfg := { s1.cfg with testAdcA := .idle, testAdcB := .idle, testFusion := .idle }, fus := { s1.fus with testBits := none } }

/-- Steps 7 and 8: CLK_LF advancement, retention, domains, PLL and oscillator off, MAINEN low under MAINOFF (R52, R54, R67). -/
def State.enterStandby (s : State) : State :=
  let off := s.bit 0x110008 1
  let s1 := s.setPower { s.power with
    phase := .standby, entry := none, sbyCount := s.power.sbyCount + 1, standbyAt := s.lf, domRdy := 0x0009
    mainen := !off, vdd5Ok := s.power.vdd5Ok && !off, pllTries := 0, lfTimers := true, pllOn := false, nowFrac := 0 }
  { (((s1.dropTests).batterySleep).lockSleep).restartFilters with
    cave := s1.cave.asleep
    nand := { s1.nand with jobs := [], act := none, tries := 0 } }

/-- Step 2 of R62: PD1 to PD13 held in reset, SHIPOFF high, the alarm ended (R62, R530). -/
def State.enterShip (s : State) : State :=
  (s.stopAlarm).setPower { s.power with
    phase := .shipping, entry := none, shipoff := true, shipAt := s.lf, domRdy := 1, mainen := s.power.mainen }

/-- What ends the step in progress (R52): the condition each waited step waits for. -/
def State.stepMet (s : State) (e : Entry) : Bool :=
  match e.step with
  | 1 => !s.lock.moving && decide (s.cfg.testAngle = .idle)
  | 3 => !s.dmaBusy
  | 4 => s.caveDrained
  | 5 => s.entryAcked e
  | 6 => !s.lfPending
  | _ => true

/-- The step in progress has ended: a wake source or a charger aborts the entry here (R68, R69), otherwise the next waited step
begins. -/
def State.nextStep (s : State) (e : Entry) : State :=
  let ship := decide (e.kind = .ship)
  if !ship && decide (e.aborting ≠ 0) then (s.orReg 0x110018 0x100).endEntry e 9 e.aborting
  else if ship && s.chargerOn then s.endEntry e 6 0
  else
    match e.step with
    | 1 => ((s.entryStep2).entryStep3).setEntry (some { e with step := 3, stepAt := s.now })
    | 3 => (s.entryStep4 ship).setEntry (some { e with step := 4, stepAt := s.now })
    | 4 => s.announceEntry e
    | 5 => if ship then s.enterShip else s.setEntry (some { e with step := 6, stepAt := s.now })
    | _ => s.enterStandby

/-- A charger that attaches during a SHIP entry, before SHIPOFF rises, ends it (R69). -/
def State.chargerCheck (s : State) : State :=
  match s.power.entry with
  | some e => if s.running ∧ e.kind = .ship ∧ s.chargerOn = true then s.endEntry e 6 0 else s
  | none => s

/-- STANDBY_ENTRY_STEP_DONE (R52). While step 4 waits, log entries made meanwhile are still to be programmed. -/
def State.entryStepDone (s : State) : State :=
  match s.power.entry with
  | some e => if s.running then (if s.stepMet e then s.nextStep e else if e.step = 4 then s.flushLog else s) else s
  | none => s

/-- Step 3 ends where no channel has a parked beat any more (R52). -/
def State.dmaDrained (s : State) (e : Entry) : State := if s.dmaBusy then s else s.nextStep e

/-- ENTRY_DMA_DRAIN_TIMEOUT: a channel still running 1 ms into step 3 is stopped between beats (R52). -/
def State.entryDmaTimeout (s : State) : State :=
  match s.power.entry with
  | some e => if s.running ∧ e.step = 3 ∧ e.stepAt + msAng 1 ≤ s.now then s.stopRunning.dmaDrained e else s
  | none => s

/-- NTC_POWER_ACK_TIMEOUT: 50 ms without acknowledgement; the entry goes on (R52). -/
def State.entryAckTimeout (s : State) : State :=
  match s.power.entry with
  | some e => if s.running ∧ e.step = 5 ∧ e.stepAt + msAng 50 ≤ s.now then s.nextStep e else s
  | none => s

/-- STANDBY_ENTRY_TIMEOUT: steps 1 to 4 have not ended 2 s after acceptance; outputs in their reset state, queues empty (R53). -/
def State.entryTimeout (s : State) : State :=
  match s.power.entry with
  | some e =>
    if s.running ∧ e.step ≤ 4 ∧ e.startedAt + secAng 2 ≤ s.now then (s.outputsOff).endEntry e 8 0 else s
  | none => s

/-! ### Wake (R55 to R60, R68, R71, Table Power.4) -/

/-- WAKE_SOURCE_LATCH: the enabled sources that have risen are latched at a CLK_LF edge (R55, R68, R71). -/
def State.wakeLatch (s : State) (wakein : Bool) : State :=
  let m := (s.power.wakeReq ||| 8 * b2n wakein) &&& (s.fld 0x110014 3 0 ||| 1)
  let s1 := s.setPower { s.power with wakeReq := 0 }
  if m = 0 then s1
  else match s.power.phase with
    | .standby => (s1.orReg 0x110018 m).setPower { (s1.orReg 0x110018 m).power with
        phase := .waking, mainen := true, wakeSrc := m, wakeAt := s.lf, pllTries := 0, pllOn := false }
    | .waking => if s.lf = s.power.wakeAt then
        (s1.orReg 0x110018 m).setPower { (s1.orReg 0x110018 m).power with wakeSrc := s.power.wakeSrc ||| m } else s1
    | .run => match s.power.entry with
      | some e => if e.kind = .standby then (s1.orReg 0x110018 m).setEntry (some { e with aborting := e.aborting ||| m }) else s1
      | none => s1
    | _ => s1

/-- The working SRAM from 0x81_0000 up is undefined after a wake (Table Power.4, log entry 7). -/
def State.forgetSram (s : State) : State :=
  let d := s.drawFree
  { d.2 with sramGen := d.1 + 1, sram := s.sram.filter (fun c => decide (c.1 < 0x810000)) }

/-- STANDBY time no STANDBY curd has accounted for (R577). -/
def State.accountSleep (s : State) : State :=
  if s.bat.lastEnd ≤ s.power.standbyAt ∨ s.batOn = false then s.accountStandby s.health.tjDie (s.lf - s.power.standbyAt) else s

/-- The sensing blocks after a wake: wheels SILENT, inputs UNKNOWN, phase channels empty, the bias check in 10 ms (R86, R218). -/
def State.wakeWheels (s : State) : State :=
  ({ s with
    wheels := Vector.ofFn (fun (w : Fin 4) => (s.wheels[w]).restart s.now true)
    bias := { dueAt := s.now + msAng 10 }, boot := { s.boot with toothAt := s.now } }).phaseResetAll

/-- NTC_WHEEL for every tracker that a wake moves to SILENT (R196). -/
def State.wakeWheelNotices (s before : State) : State :=
  (List.finRange 4).foldl (fun s (w : Fin 4) =>
    let o := (before.wheels[w]).sync
    if o = .silent then s else s.notice 0x11 (bytesLE 1 w.val ++ bytesLE 1 0 ++ bytesLE 1 o.code)) s

/-- One converter after a wake: coefficients and retirement kept, results and comparators lost, rotation from RUN reached (R333). -/
def State.wakeConverter (s : State) (x : Conv) : State :=
  (s.setAdc x { s.adc x with cmps := Vector.replicate 8 {}, jobs := [], rotAt := s.nextBoundary x }).clearResults x

/-- Every channel IDLE at its program entry; those with AUTOSTART and EN start (R384, R413). -/
def State.wakeDma (s : State) : State :=
  ((List.finRange 16).foldl (fun s (n : Fin 16) => s.resetCh n .idle [0, 0, 0, 0]) s.clearDma).autostartDma

/-- The link at RUN reached: the controller rejoins error-active, retransmission timers start from zero (Table Power.4). -/
def State.wakeLink (s : State) : State :=
  { s with link := { s.link with
      can := .integrating, txErr := 0, rxErr := 0, settingsPend := false, active := s.liveLinkSettings
      ring := s.link.ring.map (fun n => { n with txAt := s.now }) } }

/-- The masters' copies whose block was off are lost (log entry 51). -/
def MasterCopy.wake (c : MasterCopy) : MasterCopy := { rlatch := c.rlatch, rmiss := c.rmiss, wlatch := c.wlatch }

/-- The flags, counters and snapshots that a wake clears beside the engines' own state (R245, R282, R381, R413). -/
def State.wakeWords (s : State) : State :=
  let ph := (List.finRange 2).foldl (fun s (k : Fin 2) =>
    (s.clearWords (phaseBase k + 0x10) (phaseBase k + 0x1C)).clearWords (phaseBase k + 0x20) (phaseBase k + 0x24)) s
  (((ph.clearWords 0x30908 0x30920).clearWords 0x40000 0x50000).clearWords 0x80000 0x90000).clearWords 0x90000 0xA0000

/-- RUN_REACHED: the wake timeline is complete, once VDD5 is valid (R56, R57, Table Power.4). -/
def State.runReached (s : State) : State :=
  if s.power.phase = .waking ∧ s.power.vdd5Ok = true then
    let periods := s.lf - s.power.standbyAt
    let s0 := if s.power.lfTimers then s.ownSources else s
    let s1 := (s0.accountSleep).setPower { s0.power with
      phase := .run, domRdy := 0x3FFF - 0x270, activeAt := s.now, wakeSrc := 0, pd6On := s.now, calNow := s.now, calLf := s.lf }
    let s2 := { s1.forgetSram with copyLink := s1.copyLink.wake, copyDma := s1.copyDma.wake, snapAt := [] }
    let s3 := (((s2.wakeWords).outputsWake).settleAll).wakeWheels
    let s4 := (((s3.clearSequences).wakeConverter .adcA).wakeConverter .adcB).wakeDma
    let s5 := (s4.wakeLink).startMounting
    let s6 := ((s5.clearFusion).loadModel).batteryWake s.power.wakeSrc
    let s7 := s6.powerNotice 3 (s6.fld 0x110018 8 0) periods
    let s8 := if s7.power.clockOwed then (s7.setPower { s7.power with clockOwed := false }).clockNotice else s7
    (((s8.wakeWheelNotices s).lockWake).restartFilters).setHealthSecond s.lf |>.autoship
  else s

end Sys2Proof.Machine
end

