-- ==== Sys2Proof/Machine/Reset.lean ====
section
/-!
DEFINITION. Supplies and resets: the reset sources, what each clears, and where the start-up begins again (02_clocks_power.md, R72 to
R76; 03_startup_image.md, R78 to R81, R86; 17_lifecycle_security.md, R566, R568, R574).
-/

namespace Sys2Proof.Machine

/-! ### What a reset does (R78 to R81) -/

/-- The register words of PD0: the AON, LCK and PWR blocks. -/
def inPd0 (a : Nat) : Bool := (decide (0xD0000 ≤ a) && decide (a < 0xF0000)) || (decide (0x110000 ≤ a) && decide (a < 0x120000))

/-- NVM_BOOT, which a reset loads into NVM_BUS (R420, R574). -/
def OtpSt.bootBus (o : OtpSt) : Word :=
  bootBusOf o.nvmBoot.toNat (o.lifeState == .blank)

/-- A converter after a reset: each slice with its factory coefficients, S8 the spare (R351). -/
def OtpSt.converter (o : OtpSt) (x : Conv) : AdcSt :=
  { slices := Vector.ofFn (fun (k : Fin 9) =>
      let t := o.trims.getD (9 * x.index + k.val) (0, 0)
      ({ sofs := t.1, sgain := t.2 } : SliceSt)) }

/-- Everything of PD1 to PD13 at its reset value; SYS_RSTCAUSE shows `cause`. `por` also clears what counts since the POR (R81, R155,
R187, R218, R245, R282, R318, R351, R381, R413, R451, R486, R517, R574, R596). -/
def State.clearCore (s : State) (cause : Word) (por : Bool) : State :=
  let kept := s.regs.filter (fun p => inPd0 p.1)
  let s1 : State := { s with
    regs := Sparse.set resetWord (Sparse.set resetWord kept 0x20 cause) 0xA0008 s.otp.bootBus
    sram := [], sramGen := 0
    link := {}, cfg := {}, boot := {}, tnowBase := s.now
    wheels := Vector.ofFn (fun (w : Fin 4) => (s.wheels[w]).restart s.now false)
    phases := Vector.replicate 2 {}, bias := {}, snapAt := [], outs := Vector.replicate 32 {}, timers := Vector.replicate 16 {}
    adcA := s.otp.converter .adcA, adcB := s.otp.converter .adcB
    regA := {}, injA := {}, regB := {}, injB := {}, dma := {}
    nand := { pages := s.cutOff.nand.pages, bus := s.otp.bootBus }, cave := {}
    health := s.health.reset por
    bat := { repAt := s.lf, lastEnd := s.lf, epochAt := s.lf }
    fus := { slots := Vector.replicate 32 { base := s.now } }
    copyLink := {}, copyDma := {}, busRead := 0, busError := false }
  s1.resetLife por

/-- PD1 starts once VDD5 is valid and RSTN is high; the NAND's power-up wait runs from the moment VDD5 is valid (R76, R79, R82). -/
def State.startPd1 (s : State) : State :=
  if s.power.phase = .startup ∧ s.boot.stage = .supply ∧ s.power.vdd5Ok = true ∧ s.power.rstLow = false then
    ({ s with boot := { s.boot with stage := .nandWait, waitAt := s.now } }).setPower { s.power with domRdy := 0x1803 }
  else s

/-- Writes on their way into a CLK_LF block go on; those whose master still waited are not made (R43, R78). -/
def inFlight (l : List LfWrite) : List LfWrite := l.filter (fun w => !w.stalled && w.chan.isNone)

/-- A reset with PD0 kept, with its cause bit (R78, R80, R81). -/
def State.resetKeep (s : State) (bit : Nat) : State :=
  let s1 := if s.rindSleeps then (s.lockReset).restartFilters else s.lockReset
  let s2 := s1.clearCore (s1.reg 0x20 ||| BitVec.ofNat 32 (2 ^ bit)) false
  (s2.setPower { s2.power with
    phase := .startup, entry := none, domRdy := 1, mainen := true, shipoff := false, wakeReq := 0, wakeSrc := 0, clockOwed := false
    pllTries := 0, activeAt := s.now, clockFail := false, vioReady := s.power.vioOk, lfTimers := false, pllOn := false, nowFrac := 0
    lfAon := inFlight s.power.lfAon, lfLck := inFlight s.power.lfLck, lfPwr := inFlight s.power.lfPwr }).startPd1

/-- What flash, fuses and the NAND hold; everything else is as State.reset has it. -/
def State.powerOn (s : State) : State :=
  let base : State := { State.reset with
    pending := s.pending, free := s.free, nand := { pages := s.cutOff.nand.pages, bus := s.otp.bootBus }, otp := s.otp, store := s.store
    health := s.health.reset true, adcA := s.otp.converter .adcA, adcB := s.otp.converter .adcB }
  let s1 := base.setReg 0xA0008 s.otp.bootBus
  s1.resetLife true

/-! ### Supplies and reset sources (R62, R63, R72, R73, R76, R79) -/

/-- POR: VAON rises through its reset threshold (R78, R81). -/
def State.por (s : State) : State := s.powerOn

/-- VAON_LOSS: the whole part is in reset, and every retained item is lost (R73, R75). -/
def State.vaonLoss (s : State) : State :=
  let s1 := s.powerOn
  s1.setPower { s1.power with phase := .unpowered, mainen := false, vaonOk := false, vioOk := false, vioReady := false, domRdy := 0 }

/-- VDD5_VALID: VDD5 has risen above its threshold; `late` says that a wake's 800 µs had passed (R57, R76). -/
def State.vdd5Valid (s : State) (late : Bool) : State :=
  if s.power.phase = .unpowered then s
  else
    let s1 := s.setPower { s.power with vdd5Ok := true }
    let s2 := if s.power.phase == .waking && !s.power.vdd5Ok && s.bit 0x110008 1 && s.vdd5IsLate late then s1.vdd5Late else s1
    s2.startPd1

/-- BOR: VDD5 falls below its threshold; in RUN and DOZE that is a reset (R73). -/
def State.brownOut (s : State) : State :=
  let s1 := s.setPower { s.power with vdd5Ok := false }
  if s.running then s1.resetKeep 2 else s1

/-- PIN_RESET: RSTN low for 1 µs or more (R79). -/
def State.pinReset (s : State) : State :=
  if s.power.phase = .unpowered then s else (s.setPower { s.power with rstLow := true }).resetKeep 1

/-- RSTN_RELEASE (R79). -/
def State.rstnRelease (s : State) : State :=
  if s.power.phase = .unpowered then s else (s.setPower { s.power with rstLow := false }).startPd1

/-- CLOCK_FAILURE: in RUN or DOZE the root stops or the PLL loses lock (R72). -/
def State.clockFailure (s : State) : State := if s.running then s.resetKeep 3 else s

/-- PLL_LOCK_TIMEOUT: during a wake, up to three restarts, and then the clock-failure reset (R72). -/
def State.pllTimeout (s : State) : State :=
  if s.power.phase = .waking then
    if s.power.pllTries < 3 then s.setPower { s.power with pllTries := s.power.pllTries + 1, pllOn := false } else s.resetKeep 3
  else s

/-- SHIP_FAILURE: VAON is still up 100 ms after SHIPOFF rose (R63). -/
def State.shipFailure (s : State) : State :=
  if s.power.phase = .shipping ∧ s.power.shipAt + 3277 ≤ s.lf then s.resetKeep 4 else s

/-- HOST_RESET: a RESET has been answered OK (R132). -/
def State.hostReset (s : State) : State := if s.link.resetPend then s.resetKeep 5 else s

/-- LIFECYCLE_RESET: step 5 of R561. -/
def State.lifecycleReset (s : State) : State := if s.transitionEnds then (s.finishWipe).resetKeep 6 else s

/-- DBGRST: Update-IR with DBGRST, where the state allows it (R565, R566). -/
def State.debugReset (s : State) : State :=
  if s.tapOn && jtagAllowed 0x0C s.life.state then (s.updateIr (some 0x0C)).resetKeep 7 else s

/-- TAP_UPDATE_IR: an instruction is selected; DBGRST makes its reset (R565, R566). -/
def State.tapUpdateIr (s : State) (code : Option Nat) : State :=
  let s1 := s.updateIr code
  if s.tapOn && decide (code = some 0x0C) && jtagAllowed 0x0C s.life.state then s1.resetKeep 7 else s1

/-- MEMTEST at Update-DR: with GO and an allowed target the test state begins (R566, R568). -/
def State.memtest (s : State) (target alg : Nat) (go : Bool) : State :=
  if s.jtagAt 0x0B && go then
    if s.power.phase = .memtest then s
    else if memtestAllowed target alg s.life.state then
      let s1 := (s.outputsOff).lockReset
      { s1 with
        power := { s1.power with phase := .memtest, entry := none }
        jtag := { s1.jtag with test := some (target, alg), done := false, fail := false, failing := 0 } }
    else { s with jtag := { s.jtag with done := true, fail := true, failing := 0 } }
  else s

end Sys2Proof.Machine
end

