-- ==== Sys2Proof/Machine/Timer.lean ====
section
/-!
DEFINITION. The timers: release, wrap, match, RESET load, capture, the compare and read latches (09_timers.md, R286 to R318). How
ticks become counts is in Clocking.lean.
-/

namespace Sys2Proof.Machine

/-- Flags of TMRn_STAT raised, with NTC_TIMER for those enabled that were 0; flags that rise in one cycle share one notice (R306). -/
def State.timerFlags (s : State) (n : Fin 16) (m : Nat) : State :=
  let a := tmrBase n + 0x2C
  let rise := m &&& (15 - (s.fld a 3 0 &&& m) % 16)
  let ntc := rise &&& s.fld (tmrBase n) 31 28
  let s1 := s.orReg a m
  if ntc = 0 then s1
  else
    let old := match (s.timers[n]).ntcAt with
      | some (t, f) => if t = s.now then f else 0
      | none => 0
    let s2 := s1.setTimer n { s1.timers[n] with ntcAt := some (s.now, old ||| ntc) }
    s2.amendNotice 0x12 (bytesLE 1 n ++ bytesLE 1 old) (bytesLE 1 n ++ bytesLE 1 (old ||| ntc)) (bytesLE 1 n ++ bytesLE 1 ntc)

/-- Pending preloads become active at a wrap or a RESET load (R297). -/
def TimerSt.transfer (t : TimerSt) : TimerSt :=
  { t with actA := t.pendA.getD t.actA, actB := t.pendB.getD t.actB, pendA := none, pendB := none }

/-- A release whose cycle has come loads COUNT and both channels (R292 to R294). -/
def State.releaseDue (s : State) (n : Fin 16) : State :=
  let t := s.timers[n]
  if t.relDue.any (fun c => decide (c ≤ s.now)) then
    if t.run then s.setTimer n { t with relDue := none } else s.releaseTimer n
  else s

/-- TIMER_RELEASE: the timers whose release falls in this cycle, and those named by a write of TMR_GSTART whose fourth cycle it is, in one
cycle (R293). -/
def State.timerRelease (s : State) (m : Nat) : State :=
  (List.finRange 16).foldl (fun s (n : Fin 16) => s.releaseDue n) (s.gstart m s.now)

/-- A count beyond TOP is to wrap (R291). -/
def State.wrapDue (s : State) (n : Fin 16) : Bool := (s.timers[n]).run && decide (0 < (s.timers[n]).owed)

/-- A count beyond TOP and those after it, with the preloads transferred; the match at 0 is of this cycle only if the wrap is (R291, R296,
R297). -/
def TimerSt.wrap (t : TimerSt) (top : Nat) : TimerSt :=
  let u := ({ t with count := 0, owed := 0, fresh := t.tickNow && decide (t.owed = 1), tookA := false, tookB := false }).transfer
  let past := !u.fresh
  ({ u with passA := t.passA || (past && u.actA == 0), passB := t.passB || (past && u.actB == 0) }).countBy top (t.owed - 1) t.tickNow

/-- Step 1 of a wrap; a transaction that waits for it has reached its point (R166, R295). -/
def State.wrapStart (s : State) (n : Fin 16) : State :=
  let s1 := s.setTimer n ((s.timers[n]).wrap (s.timerTop n))
  if s1.cfg.state = .armed ∧ s1.cfg.point = .timerWrap n then { s1 with cfg := { s1.cfg with pointSeen := true } } else s1

/-- Step 3 of a wrap: WRAP and its pulse (R286, R295, R306). -/
def State.wrapEnd (s : State) (n : Fin 16) : State := (s.timerFlags n 4).raise (.wrap n) false

/-- A match of channel A: CMPA, LVL set unless channel B matches in the same cycle, and MATCHA (R286, R296, R306). -/
def State.timerMatchA (s : State) (n : Fin 16) : State :=
  let t := s.timers[n]
  if t.run ∧ t.dueA (s.timerTop n) then
    let lvl := if t.bAt = some (s.now, s.lf) then t.lvl else true
    let s1 := (s.setTimer n { t with passA := false, tookA := t.tookA || !t.passA, lvl := lvl }).timerFlags n 1
    let s2 := s1.raise (.matchA n) false
    if s.running = false ∧ s.bit (tmrBase n) 24 then s2.requestWake 2 else s2
  else s

/-- A match of channel B: CMPB, LVL cleared, and MATCHB (R286, R296, R306). -/
def State.timerMatchB (s : State) (n : Fin 16) : State :=
  let t := s.timers[n]
  if t.run ∧ t.dueB (s.timerTop n) then
    let s1 := (s.setTimer n { t with passB := false, tookB := t.tookB || !t.passB, lvl := false, bAt := some (s.now, s.lf) }).timerFlags n 2
    let s2 := s1.raise (.matchB n) false
    if s.running = false ∧ s.bit (tmrBase n) 25 then s2.requestWake 2 else s2
  else s

/-- TIMER_RESET_LOAD, in the cycle after the master's pulse: COUNT from INIT, the accumulator at 0, preloads transferred; the tick of the cycle
is discarded (R299, R300, R310, R311). -/
def State.timerResetLoad (s : State) (n : Fin 16) : State :=
  let t := s.timers[n]
  if t.rstDue.any (fun c => decide (c ≤ s.now)) then
    if t.run then
      s.setTimer n ({ t with
        rstDue := none, count := s.timerInit n, acc := 0, owed := 0, fresh := true, tickNow := true, tookA := false, tookB := false }).transfer
    else s.setTimer n { t with rstDue := none }
  else s

/-- A capture: OVR if one is held, CAP takes COUNT, CAPF sets (R303). -/
def State.timerCaptureNow (s : State) (n : Fin 16) : State :=
  let t := s.timers[n]
  if t.run then
    let s1 := s.setTimer n { t with cap := t.count, capf := true }
    if t.capf then s1.timerFlags n 8 else s1
  else s

/-- The edge of a TCLK pin is the one CEDGE selects for CSRC 1 to 4 (R302). -/
def State.tclkCaptures (s : State) (n : Fin 16) (rising : Bool) : Bool :=
  let a := tmrBase n + 0x28
  let src := s.fld a 3 0
  let e := s.fld a 5 4
  decide (1 ≤ src ∧ src ≤ 4) && (decide (e = 2) || (decide (e = 0) && rising) || (decide (e = 1) && !rising))

/-- TIMER_CAPTURE: the capture event that is due, or an edge of the selected TCLK pin, which comes through PD12 and gives none in STANDBY (R302,
R303, R317). -/
def State.timerCapture (s : State) (n : Fin 16) (pin : Option Bool) : State :=
  let t := s.timers[n]
  match t.capDue.find? (fun c => decide (c ≤ s.now)), pin with
  | some c, _ => (s.setTimer n { t with capDue := t.capDue.erase c }).timerCaptureNow n
  | none, some rising => if s.running && s.tclkCaptures n rising then s.timerCaptureNow n else s
  | none, none => s

/-- TMR_SWCAP: a capture event for each timer whose bit is 1, in the fourth cycle after the write; TIMER_CAPTURE makes it there (R295, R302). -/
def State.swCapture (s : State) (m : Nat) : State :=
  (List.finRange 16).foldl (fun s (n : Fin 16) =>
    if m.testBit n.val then s.setTimer n { s.timers[n] with capDue := (s.timers[n]).capDue ++ [s.now + 4] } else s) s

/-- A write of the high compare word goes into the master's latch (R305). -/
def State.compareHigh (s : State) (m : Master) (v : Word) : State :=
  s.setCopy m { s.copyOf m with wlatch := fieldOf v 15 0 }

/-- A compare write of 48 bits, which applies in the fourth cycle after it (R295, R305). -/
def State.compareLow (s : State) (m : Master) (n : Fin 16) (chanB : Bool) (v : Word) : State :=
  let x := (s.copyOf m).wlatch * 2 ^ 32 + v.toNat
  let t := s.timers[n]
  s.setTimer n { t with cmpDue := t.cmpDue ++ [(s.now + 4, chanB, x)] }

/-- A read of COUNTLO or CAPLO: bits 31:0, the latch loaded, and CAPF cleared by CAPLO (R303, R304). -/
def State.timerReadLow (s : State) (m : Master) (n : Fin 16) (cap : Bool) : Word × State :=
  let t := s.timers[n]
  let v := if cap then t.cap else t.count
  let s1 := s.setCopy m { s.copyOf m with rlatch := some (cap, n.val, v / 2 ^ 32) }
  (BitVec.ofNat 32 v, if cap then s1.setTimer n { t with capf := false } else s1)

/-- A read of COUNTHI or CAPHI: the latched bits where they belong to it, or the live ones with MISS (R304). -/
def State.timerReadHigh (s : State) (m : Master) (n : Fin 16) (cap : Bool) : Word × State :=
  let t := s.timers[n]
  let live := (if cap then t.cap else t.count) / 2 ^ 32
  match (s.copyOf m).rlatch with
  | some (c, k, hi) =>
    if c = cap ∧ k = n.val then (BitVec.ofNat 32 hi, s)
    else (BitVec.ofNat 32 live, s.setCopy m { s.copyOf m with rmiss := true })
  | none => (BitVec.ofNat 32 live, s.setCopy m { s.copyOf m with rmiss := true })

/-- What a commit does to the timers (R290, R298, R313): `o` and `c` are the register contents before and after. -/
def State.commitTimer (s : State) (o c : Nat → Word) (n : Fin 16) : State :=
  let b := tmrBase n
  let t := s.timers[n]
  let t1 := if fieldOf (o b) 3 0 = fieldOf (c b) 3 0 ∧ o (b + 4) = c (b + 4) then t else { t with acc := 0 }
  let t2 := if bitOf (o b) 26 && !bitOf (c b) 26 then { t1 with actA := t1.pendA.getD t1.actA, pendA := none } else t1
  let t3 := if bitOf (o b) 27 && !bitOf (c b) 27 then { t2 with actB := t2.pendB.getD t2.actB, pendB := none } else t2
  s.setTimer n t3

/-! ### The checks (R289, R299, R301, R302) -/

/-- The master fields of a timer are used (Table Timer.5). -/
def usesMaster (w : Word) : Bool := decide (fieldOf w 13 11 ≠ 0) || decide (fieldOf w 3 0 = 12)

/-- The master is another timer: its index. -/
def timerMaster (c : Nat → Word) (n : Nat) : Option Nat :=
  let w := c (0x50000 + 0x80 * n)
  if usesMaster w && !bitOf w 19 && decide (fieldOf w 18 14 < 16) then some (fieldOf w 18 14) else none

/-- Following masters from timer `m` comes back to timer `n` within so many links (R301). -/
def loopsTo (c : Nat → Word) (n : Nat) : Nat → Nat → Bool
  | 0, _ => false
  | fuel + 1, m => match timerMaster c m with
    | none => false
    | some k => decide (k = n) || loopsTo c n fuel k

/-- TMRn_CTRL breaks Table Timer.5 or one of the further refusals (R287, R301). -/
def timerCtrlBad (c : Nat → Word) (n : Nat) : Bool :=
  let w := c (0x50000 + 0x80 * n)
  let src := fieldOf w 3 0
  let slave := fieldOf w 13 11
  let mev := fieldOf w 22 20
  let evo := bitOf w 19
  let pulse := if evo then mev == 4 else decide (mev ≤ 2)
  let level := if evo then mev == 5 else mev == 3
  let combo := match slave with
    | 0 => (decide (src ≤ 11) && decide (mev ≤ 5)) || (decide (src = 12) && pulse)
    | 1 => decide (src ≤ 11) && level
    | 2 => decide (src ≤ 11) && pulse
    | 3 => decide (src ≤ 11) && pulse && !bitOf w 10
    | _ => false
  !combo || (usesMaster w && !evo && decide (15 < fieldOf w 18 14)) || loopsTo c n 16 n ||
    (decide (4 ≤ src ∧ src ≤ 7) && decide (fieldOf w 7 6 = 3))

/-- TMRn_CAPCFG breaks R302. -/
def captureBad (w : Word) : Bool :=
  let src := fieldOf w 3 0
  decide (12 ≤ src) || (decide (1 ≤ src ∧ src ≤ 4) && decide (fieldOf w 5 4 = 3)) ||
    (decide (src = 10 ∨ src = 11) && decide (15 < fieldOf w 12 8)) || (decide (src = 10) && decide (fieldOf w 14 13 = 3))

/-- The TMR words that fail. -/
def tmrFails (c : Nat → Word) : List Nat :=
  let f := fun (b : Bool) (a : Nat) => if b then [a] else []
  (List.range 16).flatMap (fun n =>
    let b := 0x50000 + 0x80 * n
    f (timerCtrlBad c n) b ++ f (decide ((c (b + 4)).toNat < 0x10000)) (b + 4) ++ f (captureBad (c (b + 0x28))) (b + 0x28))

end Sys2Proof.Machine
end

