-- ==== Sys2Proof/Machine/Loader.lean ====
section
/-!
DEFINITION. Start-up: identification of the NAND, the search, the candidates, the load commit, recovery mode, and the ends of NAND page
operations (03_startup_image.md, R82 to R84, R90 to R96, R107 to R117; 13_cave.md, R415 to R420, R427).
-/

namespace Sys2Proof.Machine

/-! ### Identification (R415, R418, R419) -/

/-- A copy of the parameter page is valid (R419). -/
def paramOk (l : List Byte) : Bool :=
  decide (l.take 4 = [0x4F, 0x4E, 0x46, 0x49]) && decide (crc16 (l.take 254) = natAt l 254 2)

/-- The geometry of a valid parameter page meets R415. That pages per block other than 64 or 128 and a capacity below 1 Gbit answer
NAND_GEOMETRY is a DESIGN CHOICE (log entry 108). -/
def geometryOk (l : List Byte) (eccEn : Bool) : Bool :=
  let page := natAt l 80 4
  let spare := natAt l 84 2
  let ppb := natAt l 92 4
  let bytes := page * ppb * natAt l 96 4
  (decide (page = 2048 ∧ 64 ≤ spare) || decide (page = 4096 ∧ 128 ≤ spare)) && decide (ppb = 64 ∨ ppb = 128) &&
    decide (page * ppb ≤ 524288) && decide (134217728 ≤ bytes) && !eccEn

/-- The device as identification leaves it; capacity beyond 8 Gbit is not used (R415, R416). -/
def NandSt.identify (n : NandSt) (p : NandProbe) (l : List Byte) : NandSt :=
  let page := natAt l 80 4
  let ppb := natAt l 92 4
  { n with
    present := true, id := p.id, page := page, ppb := ppb, spare := natAt l 84 2, protect := p.protect
    blocks := Nat.min (natAt l 96 4) (1073741824 / (page * ppb)), plane := decide (natAt l 113 1 % 16 = 1) }

/-- The global error of identification, or the identified device. -/
def State.identifyNand (s : State) (p : NandProbe) : Except Nat State :=
  match (p.copies.take 3).find? paramOk with
  | none => .error 1
  | some l => if geometryOk l p.eccEn then .ok { s with nand := s.nand.identify p l } else .error 2

/-! ### RUN, recovery and the load commit (R84, R109 to R113) -/

/-- SYS_BOOTSTAT (Table Start.11). -/
def State.bootStat (s : State) : Word :=
  let b := s.boot
  BitVec.ofNat 32 (atBit (b.errB % 256) 24 + atBit (b.errA % 256) 16 + atBit (b.global % 256) 8 + atBit (b.model % 8) 5 +
    atBit (b2n b.repair) 4 + atBit (b2n b.fallback) 3 + atBit (b2n b.recovery) 2 + (b.copy.map (fun k => k + 1)).getD 0)

/-- NTC_BOOT (Table Link.5). -/
def State.bootNotice (s : State) : State :=
  s.notice 0x01 (bytesLE 4 s.bootStat.toNat ++ bytesLE 1 (s.fld 0x20 7 0) ++ bytesLE 1 s.life.state.code ++ [0, 0] ++
    bytesLE 4 s.boot.imgVer.toNat ++ bytesLE 4 s.boot.imgBuild.toNat ++ bytesLE 4 s.boot.imgGen.toNat)

/-- The part enters RUN, and the controller integrates; the minutes of REQ begin (R84, R438). -/
def State.toRun (s : State) : State :=
  let s1 := s.setPower { s.power with phase := .run, domRdy := s.startedDomains, activeAt := s.now, calNow := s.now, calLf := s.lf }
  { s1 with
    link := { s1.link with can := .integrating, active := s1.liveLinkSettings }
    boot := { s1.boot with loadAt := s.now, toothAt := s.now }
    cave := { s1.cave with tickAt := s.now + secAng 60 } }

/-- Recovery mode, with its global error; nothing is configured (R112). -/
def State.enterRecovery (s : State) (global : Nat) : State :=
  let s1 := { s with boot := { s.boot with stage := .recovery, recovery := true, global := global, cands := [] } }
  let s2 := (s1.toRun).bootNotice
  if s2.power.clockOwed then s2.setPower { s2.power with clockOwed := false } else s2

/-- Every word that fails the load-commit or commit checks, for a register contents (R109, R164 check 3). -/
def allFails (c : Nat → Word) (model : Bool) : List Nat :=
  lnkFails c ++ cfgFails c ++ angFails c ++ evqFails c ++ tmrFails c ++ adcFails c .adcA ++ adcFails c .adcB ++ aseqFails c ++
    dmaFails c ++ nvmFails c ++ batFails c ++ fusFails c model ++ aonFails c ++ lckFails c ++ hltFails c ++ pwrFails c

/-- Check 13 fails for a candidate: a word, the sum of a tooth table in use or of one that the candidate writes, or an N that is not the
wheel's tooth count (R109, R164 check 2). -/
def State.loadRefused (s : State) (copy : ImgCopy) (c : Nat → Word) : Bool :=
  let ws := s.candidateWrites copy
  !(allFails c (s.modelSection copy).isSome).isEmpty || (List.range 4).any (toothSumBad c) ||
  (List.range 4).any (fun w => ws.any (fun x => inTable w x.addr) && unusedSumBad c w) ||
  (List.range 4).any (fun w => match s.toothCount copy w with
    | some n => decide ((wheelCfgOf c w).mode = 3 ∧ n ≠ fieldOf (c (wheelBase w + 4)) 9 0)
    | none => false)

/-- The next candidate, with shadow banks and SRAM as a reset leaves them, or recovery (R95, R112). -/
def State.nextCandidate (s : State) : State :=
  match s.boot.cands with
  | [] => s.enterRecovery 3
  | k :: rest =>
    let rows := match s.copyIn k with
      | some c => s.candidateRows c
      | none => []
    ({ s with boot := { s.boot with stage := .candidate k, cands := rest } }).addJob (.candidate k) 1 (rows.map NandOp.read)

/-- A candidate has failed with a code (R107). -/
def State.failCandidate (s : State) (slot code : Nat) : State :=
  let b := if slot = 0 then { s.boot with errA := code } else { s.boot with errB := code }
  ({ s with boot := b }).nextCandidate

/-- The highest GEN that a slot's tags name, one above it; 0 where it has no tag. -/
def State.tagGen (s : State) (slot : Nat) : Nat := highest 0 ((s.slotTags slot).map (fun p => p.2.gen + 1))

/-- The slot that would be tried first if its copy were there: a copy that was cut off counts by the GEN of its tags (Table Start.14),
and a slot without tags is none (R648). -/
def State.firstSlot (s : State) : Option Nat :=
  let g := fun (k : Nat) => ((s.copyIn k).map (fun c => c.gen + 1)).getD (s.tagGen k)
  if g 0 = 0 ∧ g 1 = 0 then none else if g 0 < g 1 then some 1 else some 0

/-- The scan has ended: the copies in each slot, the highest GEN first, slot A on a tie (R91, R94, R95). -/
def State.scanDone (s0 : State) : State :=
  let s := s0.dropJob .scan
  let a := s.copyIn 0
  let b := s.copyIn 1
  let order := match a, b with
    | some x, some y => if x.gen < y.gen then [1, 0] else [0, 1]
    | some _, none => [0]
    | none, some _ => [1]
    | none, none => []
  ({ s with boot := { s.boot with
      cands := order, first := s.firstSlot, errA := if a.isNone then 0x0F else 0, errB := if b.isNone then 0x0F else 0 } }).nextCandidate

/-- The pages of a candidate have been read: checks 1 to 12 (R107). -/
def State.candidateDone (s0 : State) (slot : Nat) (j : NandJob) : State :=
  let s := s0.dropJob (.candidate slot)
  match s.copyIn slot with
  | none => s.failCandidate slot 0x0F
  | some c =>
    let code := s.candidateCode c j.bad
    if code = 0 then { s with boot := { s.boot with stage := .passed slot } } else s.failCandidate slot code

/-- The ADVISE bits that the load commit raises from SYS and from VIOLOW (R580, R596, R636). -/
def State.bootAdvise (s : State) (slot : Nat) : State :=
  let f := fun (s : State) (on : Bool) (b unit : Nat) => if on then s.advise b unit else s
  let s1 := f s s.boot.fallback 0 (slot + 1)
  let s2 := f s1 (s1.bit 0x20 2) 12 2
  let s3 := f s2 (s2.bit 0x110024 8) 12 0
  let s4 := f s3 (s3.bit 0x20 3) 13 0
  f s4 (s4.bit 0x20 4) 13 1

/-- What the blocks do in the load-commit cycle: timers with AUTOSTART, converters with the retirement masks, channels with AUTOSTART,
the rind, the lock and the power controller on their new configuration, the battery estimator (R40, R76, R292, R343, R351, R384, R486,
R547). The remaining domains ran on the reset value of PWR_DOMEN. -/
def State.loadBlocks (s : State) (o : Nat → Word) : State :=
  let s0 := s.commitPower (fun a => if a = 0x11000C then resetWord a else o a) s.reg
  let s1 := ((s0.loadConverter .adcA).loadConverter .adcB).autostartTimers
  let s2 := (s1.loadDma).commitRind o s1.reg
  let s3 := (s2.commitLock).lockLoaded
  let s4 := if s3.batOn then s3.presenceStep s3.packPresent else s3
  { (s4.loadCmps).settleAll with
    bias := { dueAt := s4.now + msAng 10 }
    nand := { s4.nand with bus := s4.reg 0xA0008 }
    bat := { s4.bat with winAt := s4.nextPer, lastEnd := s4.lf }
    health := { s4.health with tempAt := s4.lf, writeAt := s4.now + secAng (60 * s4.fld 0x100028 7 0) } }

/-- What follows the load commit: the health causes, the mount, the model, and a repair of the slot that failed (R110, R111,
R427, R585, R596). -/
def State.loadTail (s : State) (slot : Nat) : State :=
  let s2 := s.bootAdvise slot
  let s3 := s2.logOf 1 (bytesLE 1 4 ++ bytesLE 1 (s2.fld 0x20 7 0) ++ [0, 0] ++ bytesLE 4 s2.health.lifeAcc)
  let s4 := if s3.power.clockOwed then (s3.setPower { s3.power with clockOwed := false }).clockNotice else s3
  let s5 := (s4.startMounting).loadModel
  let other := 1 - slot
  let code := if other = 0 then s5.boot.errA else s5.boot.errB
  if s5.boot.fallback && (code == 0x17 || code == 0x18) then
    let s6 := s5.startCopy other s5.boot.imgGen.toNat (.repair other)
    if s6.hasJob (.repair other) then { s6 with boot := { s6.boot with repair := true } } else s6
  else s5

/-- LOAD_COMMIT: check 13, and then every shadow bank at once; NTC_BOOT shows SYS_BOOTSTAT as the load leaves it (R25, R107, R109 to
R111, R648). A word of AON, LCK or PWR that the image does not
list returns to its reset value: the configuration is the image's again (R27, log entry 86). -/
def State.loadCommit (s : State) : State :=
  match s.power.phase, s.boot.stage with
  | .startup, .passed slot =>
    match s.copyIn slot with
    | none => s.failCandidate slot 0x0F
    | some copy =>
      let base := (s.defaultRws 0xD0000 0xF0000).defaultRws 0x110000 0x120000
      let bank := applyWrites base.reg (s.candidateWrites copy)
      let c := Sparse.get base.reg bank
      if s.loadRefused copy c then s.failCandidate slot 0x1E
      else
        let h := s.copyHead copy
        let m := s.modelSection copy
        let s1 := bank.foldl (fun s p => s.setReg p.1 p.2) base
        let s2 := (s.candidateSram copy).foldl (fun s p => s.setSramBytes p.1 p.2) s1
        let s3 := { s2 with boot := { s2.boot with
          stage := .loaded, loaded := true, cands := [], copy := some slot, fallback := decide (s.boot.first ≠ some slot)
          imgVer := wordAt h 0x10, imgBuild := wordAt h 0x14, imgGen := BitVec.ofNat 32 copy.gen
          modelSlot := slot, modelPos := m.map Section.pos, modelDigest := (m.map Section.digest).getD [] } }
        (((s3.toRun).loadBlocks s.reg).loadTail slot).bootNotice
  | _, _ => s

/-! ### The NAND's events (R82, R83, R417) -/

/-- NAND_POWERUP_WAIT_END: 1.25 ms after VDD5 became valid, RESET, identification, and the search; the domains that the load does not need
are switched on (R76, R82, R113, R418, R419). -/
def State.nandWaitEnd (s0 : State) (p : NandProbe) : State :=
  let s := s0.setPower { s0.power with pd6On := s0.now }
  if s.power.phase = .startup ∧ s.boot.stage = .nandWait ∧ s.boot.waitAt + usAng 1250 ≤ s.now then
    let search := !(s.life.state == .blank || s.life.state == .scrap)
    if p.timeout then s.enterRecovery (if search then 5 else 4)
    else
      match s.identifyNand p with
      | .error e => ({ s with nand := { s.nand with id := p.id } }).enterRecovery (if search then e else 4)
      | .ok s1 =>
        if search then
          ({ s1 with boot := { s1.boot with stage := .scan } }).addJob .scan 1
            ((List.range s1.imgBlocks).map (fun b => NandOp.read (s1.rowOf b 0)))
        else s1.enterRecovery 4
  else s0

/-- The end of a page operation, whatever it was for; a changed NVM_BUS is taken up between operations (R417, R423). -/
def State.nandOpEnd (s : State) (fail : Bool) (errs : List Nat) : State :=
  match s.actJob with
  | none => s
  | some (j, op) =>
    let r := s.opDone j op fail errs
    let s1 := r.2.storeJob r.1
    let s2 := if s1.boot.loaded then { s1 with nand := { s1.nand with bus := s1.reg 0xA0008 } } else s1
    if r.1.todo.isEmpty && !r.1.kind.hasOwnEnd then
      match r.1.kind with
      | .scan => s2.scanDone
      | .candidate slot => s2.candidateDone slot r.1
      | _ => ((((s2.caveJobDone r.1).cacheRecord).sessionFetched (decide (r.1.kind = .sessFetch) && !r.1.bad.isEmpty)).caveService).nandPick
    else s2.nandPick

/-- NAND_TIMEOUT: busy for 10 ms; RESET and a retry, three times, and then the search ends with NAND_TIMEOUT. Outside the search the
operation has failed (R83, log entry 52). -/
def State.nandTimeout (s : State) : State :=
  if s.nand.act.isNone then s
  else if s.nand.tries < 3 then { s with nand := { s.nand with tries := s.nand.tries + 1 } }
  else
    match s.boot.stage with
    | .scan => ({ s with nand := { s.nand with jobs := [], act := none, tries := 0 } }).enterRecovery 5
    | .candidate _ => ({ s with nand := { s.nand with jobs := [], act := none, tries := 0 } }).enterRecovery 5
    | _ => s.nandOpEnd true [99, 99, 99, 99]

/-- MOUNT_DONE: the state MOUNTED, and what the health block, the estimator and fusion take from the records (R427, R486, R517,
R589). -/
def State.mountDone (s : State) : State :=
  if s.mountReady then
    let existed := s.recordKeys.contains (3, 0)
    let s1 := s.mountEnd
    let body := if s1.cave.mode = .failed then none else s1.recordBody 3 0
    ((((s1.healthMount body existed).batteryMount).fusionMount).startRecWrite).collectIfLow
  else s

end Sys2Proof.Machine
end

