-- ==== Sys2Proof/Machine/Txn.lean ====
section
/-!
DEFINITION. Transactions up to their commit point: the shadow bank, the close checks, opening, closing, aborting and timing out
(05_live_configuration.md, R157 to R176). Applying a commit is in Commit.lean.
-/

namespace Sys2Proof.Machine

/-- A word of the configuration that would result from applying the shadow to the live banks (R164). -/
def State.resultWord (s : State) (a : Nat) : Word :=
  let m := BitVec.ofNat 32 (rwsMask a)
  match s.cfg.shadow.find? (fun p => p.1 == a) with
  | some p => (s.reg a &&& ~~~m) ||| (p.2 &&& m)
  | none => s.reg a

/-- The wheel whose lock-bound fields a word holds: MODE, PAT, CLSW0 to CLSW3, CODE and the tooth-angle table (R196). -/
def lockBoundOf (a : Nat) : Option (Fin 4) :=
  if 0x31000 ≤ a ∧ a < 0x33000 then some (Fin.ofNat 4 ((a - 0x31000) / 0x800))
  else if 0x30000 ≤ a ∧ a < 0x30400 then
    let o := a % 0x100
    if o = 0 ∨ o = 4 ∨ (0x18 ≤ o ∧ o ≤ 0x20) ∨ o = 0x5C ∨ 0x80 ≤ o then some (Fin.ofNat 4 ((a - 0x30000) / 0x100)) else none
  else none

/-- The lock-bound bits of a word: of ANG_Wn_CFG only MODE (R196). -/
def lockBoundMask (a : Nat) : Word := if 0x30000 ≤ a ∧ a < 0x30400 ∧ a % 0x100 = 0 then 3 else 0xFFFFFFFF

/-- A write of the RWS bits of a word into the shadow bank (R160, R162). -/
def State.shadowWrite (s : State) (a : Nat) (w : Word) : State :=
  { s with cfg := { s.cfg with shadow := Sparse.insert s.cfg.shadow a (w &&& BitVec.ofNat 32 (rwsMask a)) } }

/-- How many of these words the shadow does not hold yet (R162, R163). -/
def State.newShadowWords (s : State) (l : List Nat) : Nat :=
  (l.filter (fun a => decide (rwsMask a ≠ 0) && !(s.cfg.shadow.any (fun p => p.1 == a)))).length

/-- The shadow bytes counted (CFG_USED). -/
def State.shadowBytes (s : State) : Nat := 4 * s.cfg.shadow.length

/-- The output whose EVQ configuration words an address is one of (R172). EVQ_PAIRk is none of its two outputs' own words (DESIGN CHOICE, log
entry 139). -/
def evqOutputOf (a : Nat) : Option Nat :=
  if 0x40000 ≤ a ∧ a < 0x40800 ∧ (a - 0x40000) % 0x40 < 0x10 then some ((a - 0x40000) / 0x40) else none

/-- The outputs a write of the shadow names (R172). -/
def shadowOutputs (shadow : List (Nat × Word)) : Nat :=
  maskWhere 32 (fun n => shadow.any (fun p => evqOutputOf p.1 == some n))

/-! ### The close checks (R164, R165, Table Cfg.3) -/

/-- Check 1: a lock-bound word is written for a wheel that is LOCKED; its least address. -/
def State.lockBoundWritten (s : State) : Option Nat :=
  (s.cfg.shadow.find? (fun p => match lockBoundOf p.1 with
    | some w => (s.wheels[w]).sync == .locked
    | none => false)).map Prod.fst

/-- The shadow writes a word of the tooth-angle table of wheel `n`. -/
def State.tableWritten (s : State) (n : Nat) : Bool :=
  s.cfg.shadow.any (fun p => inTable n p.1)

/-- Check 2: the first wheel that uses a tooth-angle table of wrong sum, or whose table the shadow writes with a wrong sum (R164, R194). Of a
table that no wheel uses, N is not given: the sum of all its words counts, a DESIGN CHOICE (log entry 53). -/
def State.toothSumWheel (s : State) : Option Nat :=
  (List.range 4).find? (fun w => toothSumBad s.resultWord w || (s.tableWritten w && unusedSumBad s.resultWord w))

/-- Check 3: the words that fail, with the rules that look at queues and sequences. The queues that the commit flushes are those of
outputs a STAGED transaction newly names (R172, R274). -/
def State.resultFails (s : State) : List Nat :=
  let flushed := if s.cfg.staged then s.cfg.named ||| shadowOutputs s.cfg.shadow else 0
  allFails s.resultWord s.boot.modelPos.isSome ++ s.queueBoundFails s.resultWord flushed ++ s.pairChangeFails s.resultWord

/-- The first check that fails, as status and DETAIL. -/
def State.closeFailure (s : State) : Option (Nat × Nat) :=
  match (if s.cfg.staged then none else s.lockBoundWritten) with
  | some a => some (0x22, a)
  | none => match s.toothSumWheel with
    | some w => some (0x24, w)
    | none => match leastOf s.resultFails with
      | some a => some (0x23, a)
      | none => none

/-- The CFG_LAST cause of a refusal's status (Table Cfg.9). -/
def causeOf (status : Nat) : Nat := if status = 0x22 then 1 else if status = 0x24 then 2 else 3

/-! ### The states of a transaction (R158 to R176) -/

/-- CFG_HOLDSET: names outputs while the transaction is OPEN or STAGING; ignored in any other state (R172). -/
def State.holdSet (s : State) (m : Nat) : State :=
  if s.cfg.state = .opened ∨ s.cfg.state = .staging then
    { s with cfg := { s.cfg with named := s.cfg.named ||| m } }
  else s

/-- TXN_OPEN in state NONE (R158, R159). -/
def State.openTxn (s : State) (p : CommitPoint) (staged : Bool) : State :=
  { s with cfg := { s.cfg with
      state := .opened, num := s.cfg.nextNum, nextNum := if s.cfg.nextNum = 0xFFFF then 1 else s.cfg.nextNum + 1
      point := p, staged := staged, stage := if staged then 1 else 0, last := false, shadow := [], named := 0, namedCh := 0
      armTo := s.fld 0x20008 7 0, stgTo := s.fld 0x20008 15 8, pointSeen := false, dmaWait := none } }

/-- The payload of NTC_COMMIT (Table Link.5). -/
def commitPayload (num outcome stage count : Nat) : List Byte :=
  bytesLE 2 num ++ bytesLE 1 outcome ++ bytesLE 1 stage ++ bytesLE 1 count

/-- The transaction ends without applying: the shadow is discarded and CFG_LAST takes the cause (R165, R168, R176). -/
def State.endTxn (s : State) (cause addr : Nat) : State :=
  { s with cfg := { s.cfg with
      state := .idle, shadow := [], named := 0, namedCh := 0, lastCause := cause, lastAddr := addr, dmaWait := none, pointSeen := false } }

/-- The end with an NTC_COMMIT of this outcome. -/
def State.endTxnNotice (s : State) (cause addr outcome : Nat) : State :=
  (s.endTxn cause addr).notice 0x06 (commitPayload s.cfg.num outcome s.cfg.stage 0)

/-- TXN_ABORT (Table Cfg.2): from OPEN silently, from STAGING or ARMED with outcome 1. -/
def State.abortTxn (s : State) : State :=
  match s.cfg.state with
  | .idle => s
  | .opened => s.endTxn 6 0
  | .armed => s.endTxnNotice 6 0 1
  | .staging => s.endTxnNotice 6 0 1

/-- The transaction, or the stage, is armed (R166); the WHEEL_ZERO crossing is watched from here on. -/
def State.armTxn (s : State) (last : Bool) : State :=
  { s with cfg := { s.cfg with
      state := .armed, last := last, armedAt := s.now, pointSeen := false
      zeroRef := match s.cfg.point with
        | .wheelZero w => s.turnOf w
        | _ => 0 } }

/-- Closing the transaction or a stage (R164, R171): the refusal's status and DETAIL, or the armed state. -/
def State.closeTxn (s : State) (last : Bool) : Except (Nat × Nat) State :=
  match s.closeFailure with
  | some e => .error e
  | none => .ok (s.armTxn last)

/-- ARM_TIMEOUT: the point has not been reached; a commit that waits at its point is past it (R168). -/
def State.armTimeout (s : State) : State :=
  if s.cfg.state = .armed ∧ s.cfg.pointSeen = false ∧ s.cfg.armedAt + msAng (10 * s.cfg.armTo) ≤ s.now then
    s.endTxnNotice 4 0 1
  else s

/-- STAGE_TIMEOUT (R176). -/
def State.stageTimeout (s : State) : State :=
  if s.cfg.state = .staging ∧ s.cfg.stageAt + msAng (10 * s.cfg.stgTo) ≤ s.now then
    s.endTxnNotice 5 0 1
  else s

end Sys2Proof.Machine
end

