-- ==== Sys2Proof/Machine/Commit.lean ====
section
/-!
DEFINITION. Commits: how a set of written words becomes live in every block, what it does to running work, single-word commits, and the
CLK_LF blocks' share (00_scope.md, R10; 02_clocks_power.md, R43; 05_live_configuration.md, R165 to R176, R180).
-/

namespace Sys2Proof.Machine

/-! ### The queues into the CLK_LF blocks (R43, R167) -/

/-- The three blocks on CLK_LF. -/
def lfBlockOf (a : Nat) : LfBlock := if a / 0x10000 = 0xD then .aon else if a / 0x10000 = 0xE then .lck else .pwr

def State.lfQueue (s : State) (b : LfBlock) : List LfWrite :=
  match b with
  | .aon => s.power.lfAon
  | .lck => s.power.lfLck
  | .pwr => s.power.lfPwr

def State.setLfQueue (s : State) (b : LfBlock) (l : List LfWrite) : State :=
  match b with
  | .aon => s.setPower { s.power with lfAon := l }
  | .lck => s.setPower { s.power with lfLck := l }
  | .pwr => s.setPower { s.power with lfPwr := l }

/-- WPEND of a block (R43). -/
def State.wpend (s : State) (b : LfBlock) : Bool := !(s.lfQueue b).isEmpty

/-- A write joins its block's queue. -/
def State.pushLf (s : State) (w : LfWrite) : State :=
  let b := lfBlockOf w.addr
  s.setLfQueue b (s.lfQueue b ++ [w])

/-! ### What a commit does to each block (R170, Table Cfg.4) -/

/-- A commit's word becomes live: at once, or with its CLK_LF block's share (R167). -/
def State.commitWord (s : State) (a : Nat) (v : Word) : State :=
  let m := BitVec.ofNat 32 (rwsMask a)
  if inPd0 a then s.pushLf { addr := a, value := v, commit := true } else s.setReg a ((s.reg a &&& ~~~m) ||| (v &&& m))

/-- The tracker after a commit of CAPO: the position moves, the turn count does not (R241). -/
def WheelSt.moveCapo (w : WheelSt) (now old new : Nat) : WheelSt :=
  let l := w.linNow now
  let turn := Int.fdiv l revFrets
  let pos := (Int.fmod l revFrets + old - new) % (revFrets : Int)
  { w with lin := w.lin + (turn * revFrets + pos - l) }

/-- The direction and the speed under a new direction source: NONE knows no direction, and its speed is unsigned (R201, log entry 146). -/
def WheelSt.newSource (w : WheelSt) (none : Bool) : WheelSt :=
  { w with quadDir := .unknown, dir := if none then .unknown else w.dir, speed := if none then Int.ofNat w.speed.natAbs else w.speed }

/-- One wheel: CAPO, lock-bound changes, a new direction source, and inputs that are no longer used (R86, R170, R190, R196, R201, R211). A
lock-bound word written with no bit changed leaves the wheel as it is (R175; DESIGN CHOICE, log entry 137). -/
def State.commitWheel (s : State) (o c : Nat → Word) (changed : List Nat) (w : Fin 4) : State :=
  let a := wheelBase w.val + 0x24
  let s1 := if fieldOf (o a) 21 0 = fieldOf (c a) 21 0 then s
    else s.setWheel w ((s.wheels[w]).moveCapo s.now (fieldOf (o a) 21 0) (fieldOf (c a) 21 0))
  let bound := changed.any (fun x => lockBoundOf x == some w && (o x ^^^ c x) &&& lockBoundMask x != 0)
  let v := s1.wheels[w]
  let s2 :=
    if bound && v.sync != .silent then
      s1.changeWheel w { (v.toSeek s1.now v.tLast) with seekEdges := 0 }
    else s1
  let s3 := if s2.toothUsed w false then s2 else s2.setWheel w { s2.wheels[w] with lvlA := .unknown, peak := 0 }
  let s4 := if s3.toothUsed w true then s3 else s3.setWheel w { s3.wheels[w] with lvlB := .unknown, lvlBWas := .unknown }
  let s5 := if fieldOf (o (wheelBase w.val)) 7 6 = fieldOf (c (wheelBase w.val)) 7 6 then s4
    else s4.setWheel w ((s4.wheels[w]).newSource (decide (fieldOf (c (wheelBase w.val)) 7 6 = 0)))
  if bound then State.fusWheel s s5 w else s5

/-- A phase channel whose fields a commit writes starts over (R241). -/
def State.commitPhase (s : State) (words : List Nat) (k : Fin 2) : State :=
  if words.any (fun a => decide (phaseBase k ≤ a ∧ a < phaseBase k + 0x40)) then s.phaseReset k else s

/-- The program range of a channel changes: ENTRY, LAST or CTX, or a program word in it (R170, R408). -/
def rangeChanged (o c : Nat → Word) (words : List Nat) (n : Fin 16) : Bool :=
  let b := dmaBase n
  let inRange := fun (r : Nat → Word) (a : Nat) => decide (0x200000 ≤ a) &&
    decide (fieldOf (r (b + 4)) 11 0 ≤ (a - 0x200000) / 4) && decide ((a - 0x200000) / 4 ≤ fieldOf (r (b + 4)) 27 16)
  decide (fieldOf (o b) 27 24 ≠ fieldOf (c b) 27 24) || decide (o (b + 4) ≠ c (b + 4)) ||
    words.any (fun a => inProgStore a && (inRange o a || inRange c a))

/-- The channels that a set of words restarts, as a mask. -/
def changedChannels (o c : Nat → Word) (words : List Nat) : Nat :=
  maskWhere 16 (fun n => rangeChanged o c words (Fin.ofNat 16 n))

/-- Contexts whose BYPASS or ROOT changes lose their cached translations; a channel whose EN clears stops (R398, R408). -/
def State.commitDma (s : State) (o c : Nat → Word) : State :=
  let s1 := (List.range 16).foldl (fun s k => if o (0x90800 + 4 * k) = c (0x90800 + 4 * k) then s else s.tlbDropCtx k) s
  (List.finRange 16).foldl (fun s (n : Fin 16) => if bitOf (o (dmaBase n)) 31 && !bitOf (c (dmaBase n)) 31 then s.stopCh n else s) s1

/-- Every block that is not on CLK_LF takes its share; `words` lists the words written, `changed` those that differ. -/
def State.commitBlocks (s : State) (o c : Nat → Word) (words changed : List Nat) : State :=
  let touches := fun (b : Nat) => changed.any (fun a => decide (a / 0x10000 = b))
  let s0 := if touches 3 then (List.finRange 4).foldl (fun s (w : Fin 4) => s.commitWheel o c changed w) s else s
  let s1 := (List.finRange 2).foldl (fun s (k : Fin 2) => s.commitPhase words k) s0
  let s2 := if touches 3 || touches 4 then
      let t := (List.finRange 32).foldl (fun s (n : Fin 32) =>
        let moved := fieldOf (o (evoBase n)) 1 0 != fieldOf (c (evoBase n)) 1 0
        (((s.freeFallback n moved).updateFallback n false).regainLock n).updateChop n) s1
      t.settleAll
    else s1
  let s3 := if touches 5 then (List.finRange 16).foldl (fun s (n : Fin 16) => s.commitTimer o c n) s2 else s2
  let s3 := if touches 8 then allSeqs.foldl (fun s p => s.retable p.1 p.2) s3 else s3
  let s4 := if touches 6 || touches 7 then (List.finRange 16).foldl (fun s (k : Fin 16) => s.commitCmp o c k) s3 else s3
  let s5 := if touches 9 then s4.commitDma o c else s4
  let s6 := if touches 0xB then s5.commitBattery o c else s5
  let s7 := if touches 0xC then s6.commitFusion ((changed.filter (fun a => decide (a / 0x10000 = 0xC))).map (fun a => (a, o a))) else s6
  let s8 := if touches 0xA && s7.nand.act.isNone then { s7 with nand := { s7.nand with bus := s7.reg 0xA0008 } } else s7
  let s9 := if changed.contains 0x100018 then s8.healthLife else s8
  if changed.any (fun a => decide (0x10004 ≤ a ∧ a ≤ 0x10014)) then { s9 with link := { s9.link with settingsPend := true } } else s9

/-- The outputs a transaction names are held, or leave their holds with the last stage (R172, R174, R176). -/
def State.commitHolds (s : State) (last : Bool) (named : Nat) : State :=
  let s1 := if s.cfg.staged then
      (List.finRange 32).foldl (fun s (n : Fin 32) =>
        if named.testBit n.val && !s.cfg.hold.testBit n.val then
          let h : State := { s with cfg := { s.cfg with hold := s.cfg.hold ||| 2 ^ n.val } }
          (h.flushQueue n).beginHold n id
        else s) s
    else s
  if last then
    (List.finRange 32).foldl (fun s (n : Fin 32) =>
      if named.testBit n.val && s.cfg.hold.testBit n.val then
        (({ s with cfg := { s.cfg with hold := clearBit s.cfg.hold n.val } }) : State).settle n
      else s) s1
  else s1

/-- Channels whose range has changed restart, or are held until the last stage; those the transaction names are released with it
(R170, R173, R176). -/
def State.commitChannels (s : State) (last : Bool) (changed named : Nat) : State :=
  (List.finRange 16).foldl (fun s (n : Fin 16) =>
    if last then
      let held := s.cfg.holdCh.testBit n.val && named.testBit n.val
      if held || (changed.testBit n.val && !s.cfg.holdCh.testBit n.val) then
        (({ s with cfg := { s.cfg with holdCh := clearBit s.cfg.holdCh n.val } }) : State).restartCh n
      else s
    else if changed.testBit n.val then (({ s with cfg := { s.cfg with holdCh := setBit s.cfg.holdCh n.val } }) : State).dropCh n
    else s) s

/-- The shadow is applied to every block; `last` says that it is the last stage, or the transaction is not STAGED (R26, R167, R170 to
R175). The shadow is left for the caller to clear. -/
def State.applyShadow (s : State) (last : Bool) : State :=
  let s := if s.cfg.shadow.any (fun p => decide (p.1 / 0x10000 = 8)) then s.earlierTriggers else s
  let s := if s.snapAt = [] then s else s.takeSnaps (s.now + 1)
  let s := if s.cfg.shadow.any (fun p => decide (p.1 / 0x10000 = 3 ∨ p.1 / 0x10000 = 4)) then
      (List.finRange 4).foldl (fun s (w : Fin 4) => s.catchFallback w) s
    else s
  let o := s.reg
  let c := s.resultWord
  let words := s.cfg.shadow.map Prod.fst
  let changed := words.filter (fun a => decide (o a ≠ c a))
  let chans := changedChannels o c changed
  let named := s.cfg.named ||| shadowOutputs s.cfg.shadow
  let namedCh := s.cfg.namedCh ||| changedChannels o c words
  let s1 := s.cfg.shadow.foldl (fun s p => s.commitWord p.1 (p.2 &&& BitVec.ofNat 32 (rwsMask p.1))) s
  let s2 := s1.commitBlocks o s1.reg words changed
  let s3 := (s2.commitChannels last chans namedCh).commitHolds last named
  { s3 with cfg := { s3.cfg with named := named, namedCh := namedCh } }

/-! ### The commit point (R165, R166, R169, R170, R178, R182) -/

/-- The commit writes ANG or EVQ fields, which wait for the end of the angle self-test, unchanged values too (R178; DESIGN CHOICE, log
entry 138). -/
def State.waitsForTest (s : State) (words : List Nat) : Bool :=
  s.angleTesting && words.any (fun a => decide (a / 0x10000 = 3 ∨ a / 0x10000 = 4))

/-- Channels in RUN whose program range changes: the commit waits for them (Table Cfg.4). -/
def State.waitChannels (s : State) : Nat :=
  let o := s.reg
  let c := s.resultWord
  let m := changedChannels o c ((s.cfg.shadow.map Prod.fst).filter (fun a => decide (o a ≠ c a)))
  maskWhere 16 (fun n => m.testBit n && (s.ch (Fin.ofNat 16 n)).state == .run)

/-- The armed transaction's point is reached in this cycle, or has been (R166, R182). -/
def State.pointReached (s : State) : Bool :=
  s.cfg.pointSeen ||
  (match s.cfg.point with
   | .immediate => s.link.held.isNone
   | .wheelZero w => decide ((s.wheels[w]).sync = .locked) && decide (s.turnOf w ≠ s.cfg.zeroRef)
   | .timerWrap _ => false)

/-- The stage or transaction applies: its words, the next state, NTC_COMMIT (R165, R169, R171, R174). -/
def State.finishCommit (s : State) : State :=
  match s.closeFailure with
  | some (st, d) => s.endTxnNotice (causeOf st) d 2
  | none =>
    let s1 := s.applyShadow s.cfg.last
    let stage := if s.cfg.staged then s.cfg.stage else 0
    let s2 : State := { s1 with cfg :=
      if s.cfg.last then { s1.cfg with state := .idle, shadow := [], named := 0, namedCh := 0, dmaWait := none, pointSeen := false }
      else { s1.cfg with
        state := .staging, shadow := [], stage := Nat.min 255 (stage + 1), stageAt := s.now, dmaWait := none, pointSeen := false } }
    s2.notice 0x06 (commitPayload s.cfg.num 0 stage (if s.cfg.staged && s.cfg.last then stage else 0))

/-- COMMIT_POINT: at its point an armed transaction commits, or begins to wait for DMA channels; a commit that changes ANG or EVQ fields
waits for the angle self-test (R165, R166, R170, R178). -/
def State.commitPoint (s : State) : State :=
  if s.cfg.state = .armed ∧ s.cfg.dmaWait = none ∧ s.pointReached = true ∧ s.running = true then
    let s1 : State := { s with cfg := { s.cfg with pointSeen := true } }
    if s1.waitsForTest (s.cfg.shadow.map Prod.fst) then s1
    else if s.waitChannels ≠ 0 then { s1 with cfg := { s1.cfg with dmaWait := some s.now } }
    else s1.finishCommit
  else s

/-! ### Single-word commits (R10, R159) -/

/-- The state as if this one word were an open transaction of its own. -/
def State.asSingle (s : State) (a : Nat) (v : Word) : State :=
  { s with cfg := { s.cfg with
      shadow := [(a, v &&& BitVec.ofNat 32 (rwsMask a))], staged := false, named := 0, namedCh := 0 } }

/-- The word is applied and the transaction's own fields stand as before. -/
def State.applySingle (s : State) (a : Nat) (v : Word) : State :=
  let t := (s.asSingle a v).applyShadow true
  { t with cfg := { t.cfg with shadow := s.cfg.shadow, staged := s.cfg.staged, named := s.cfg.named, namedCh := s.cfg.namedCh } }

/-- A write of the RWS bits of a word in state NONE: its checks, then the commit, or the wait for the angle self-test or a DMA channel
(R10, R161, R170, R178). The error is the refusal's status and DETAIL. -/
def State.singleCommit (s : State) (a : Nat) (v : Word) : Except (Nat × Nat) State :=
  let t := s.asSingle a v
  match t.closeFailure with
  | some e => .error e
  | none =>
    if t.waitsForTest [a] ∨ t.waitChannels ≠ 0 ∨ s.cfg.waiting ≠ [] then
      .ok { s with cfg := { s.cfg with
        waiting := s.cfg.waiting ++ [(a, v)], dmaWait := if s.cfg.dmaWait.isSome then s.cfg.dmaWait else some s.now } }
    else .ok (s.applySingle a v)

/-- A word whose wait has ended commits, checked again (R165). The error is the refusal's status and DETAIL. -/
def State.endSingle (s : State) (a : Nat) (v : Word) : Except (Nat × Nat) State :=
  match (s.asSingle a v).closeFailure with
  | some e => .error e
  | none => .ok (s.applySingle a v)

/-- The words that waited, and no frame waits for them, commit one by one. -/
def State.flushWaiting (s : State) (l : List (Nat × Word)) : State :=
  l.foldl (fun s p => match s.endSingle p.1 p.2 with
    | .error (st, d) => { s with cfg := { s.cfg with lastCause := causeOf st, lastAddr := d } }
    | .ok t => t) s

/-- What an armed commit waits for at its point has ended: the angle self-test, and the channels in RUN, or the 1 ms they have (R170,
R178). -/
def State.armedWaitOver (s : State) (t : Nat) : Bool :=
  !s.waitsForTest (s.cfg.shadow.map Prod.fst) && (decide (s.waitChannels = 0) || decide (t + msAng 1 ≤ s.now))

/-- The same for the single words that wait. -/
def State.singleWaitOver (s : State) (t : Nat) : Bool :=
  !s.waitsForTest (s.cfg.waiting.map Prod.fst) &&
    (!s.cfg.waiting.any (fun p => decide ((s.asSingle p.1 p.2).waitChannels ≠ 0)) || decide (t + msAng 1 ≤ s.now))

/-- Step 2 of R28 in a cycle in which another command acts: a wheel zero or a timer wrap that has been reached commits before events fall
due and timers compare. An IMMEDIATE commit has a cycle of its own (R28, R166). -/
def State.stepTwo (s : State) : State := if s.cfg.point = .immediate then s else s.commitPoint

/-! ### The share of a CLK_LF block (R40, R43, R167, R180) -/

/-- The commit writes at the head of a queue take effect together at one edge (R167). -/
def State.landCommit (s : State) (b : LfBlock) (l : List LfWrite) : State :=
  let o := s.reg
  let s1 := l.foldl (fun s w =>
    let m := BitVec.ofNat 32 (rwsMask w.addr)
    s.setReg w.addr ((s.reg w.addr &&& ~~~m) ||| (w.value &&& m))) s
  match b with
  | .aon => s1.commitRind o s1.reg
  | .lck => s1.commitLock
  | .pwr => s1.commitPower o s1.reg

end Sys2Proof.Machine
end

