-- ==== Sys2Proof/Machine/Bus.lean ====
section
/-!
DEFINITION. The address space as a bus master sees it: what a read returns, what a write does under each access code, the accesses
that end in a bus error, and the crossing into the CLK_LF blocks (00_scope.md, R7 to R10; 01_architecture.md, R19 to R22;
02_clocks_power.md, R43; 05_live_configuration.md, R160 to R163, R181, R183; chapter 21, R638 to R645).
-/

namespace Sys2Proof.Machine

/-! ### Computed words, block by block -/

/-- LNK_STAT.STATE. -/
def CanState.code : CanState → Nat
  | .errorActive => 0
  | .errorPassive => 1
  | .busOff => 2
  | .integrating => 3

/-- SYS words (Tables Start.9 to Start.13). That a known or STUCK_MID input keeps showing its level when a commit makes it unused, a VR
input or one without a timeout is a DESIGN CHOICE (log entry 107). -/
def State.sysView (s : State) (off : Nat) : Option Word :=
  match off with
  | 0x0C => some (BitVec.ofNat 32 s.otp.uid.toNat)
  | 0x10 => some (BitVec.ofNat 32 (s.otp.uid.toNat / 2 ^ 32))
  | 0x24 => some s.bootStat
  | 0x28 => some s.boot.imgVer
  | 0x2C => some s.boot.imgBuild
  | 0x30 => some s.boot.imgGen
  | 0x40 => some (BitVec.ofNat 32 ((List.finRange 4).map (fun (w : Fin 4) =>
      atBit (InLevel.code (s.wheels[w]).lvlA) (4 * w.val) + atBit (InLevel.code (s.wheels[w]).lvlB) (4 * w.val + 2))).sum)
  | 0x44 => some (BitVec.ofNat 32 ((List.finRange 6).map (fun (i : Fin 6) => atBit (InLevel.code (s.rindIn i)) (2 * i.val))).sum)
  | _ => none

/-- LNK words (Tables Link.13 to Link.18). -/
def State.lnkView (s : State) (off : Nat) : Option Word :=
  let l := s.link
  let w := fun (v : Nat) => some (BitVec.ofNat 32 v)
  match off with
  | 0x18 => w (atBit (b2n s.boot.recovery) 3 + atBit (b2n l.stale) 2 + l.can.code)
  | 0x1C => w (atBit (Nat.min 255 l.boffCnt) 24 + atBit l.rxErr 16 + l.txErr)
  | 0x20 => w (atBit ((l.ring.head?.map (fun n => n.num)).getD 0) 16 + atBit l.retry 8 + l.ring.length)
  | 0x24 => w (atBit ((l.cache.map (fun c => c.seq)).getD 0) 16 + l.nextNum)
  | 0x28 => w (match l.cache with
      | some c => atBit c.op 8 + 1
      | none => 0)
  | 0x30 => w (atBit (b2n l.wm.flag) 31 + atBit l.wm.peak 16 + l.wm.count)
  | 0x3C => w s.lf
  | _ => none

/-- CFG_STAT.STATE. -/
def TxnState.code : TxnState → Nat
  | .idle => 0
  | .opened => 1
  | .armed => 2
  | .staging => 3

/-- The two bits of a unit in CFG_SELFTEST. -/
def SelfTest.code : SelfTest → Nat
  | .idle => 0
  | .queued _ => 1
  | .running _ _ => 2

/-- Whole seconds from now to a CLK_ANG time, a started second counting whole. -/
def State.secondsTo (s : State) (t : Nat) : Nat := (t - s.now + 383999999) / 384000000

/-- CFG words (Tables Cfg.7 to Cfg.10). -/
def State.cfgView (s : State) (off : Nat) : Option Word :=
  let c := s.cfg
  let w := fun (v : Nat) => some (BitVec.ofNat 32 v)
  match off with
  | 0x00 => w (atBit c.num 16 + atBit (if c.staged ∧ c.state ≠ .idle then c.stage else 0) 8 + atBit c.dmaCh 4 + atBit (s.fld 0x20000 3 3) 3 + c.state.code)
  | 0x04 => w s.shadowBytes
  | 0x0C => w (atBit c.lastCause 28 + c.lastAddr % 2 ^ 24)
  | 0x18 => w c.hold
  | 0x1C => w c.holdCh
  | 0x20 => w (atBit (match c.testAngle with
        | .queued d => s.secondsTo d
        | _ => 0) 16 +
      atBit c.testFusion.code 6 + atBit c.testAdcB.code 4 + atBit c.testAdcA.code 2 + c.testAngle.code)
  | _ => none

/-- ANG words (Tables Wheel.11, Angle.2 to Angle.5). -/
def State.angView (s : State) (off : Nat) : Option Word :=
  if off < 0x400 then s.wheelWord (Fin.ofNat 4 (off / 0x100)) (off % 0x100)
  else if off = 0x900 then some (s.tnow s.now)
  else if off = 0x908 ∨ (0x910 ≤ off ∧ off < 0x920) then s.snapWord off
  else if off = 0x95C then some (s.phaseStat 0)
  else if off = 0x99C then some (s.phaseStat 1)
  else none

/-- EVQ words (Tables Event.7 and Event.8). -/
def State.evqView (s : State) (m : Master) (off : Nat) : Option Word :=
  if off < 0x800 then
    let n : Fin 32 := Fin.ofNat 32 (off / 0x40)
    let o := off % 0x40
    if o = 0x10 then some (s.fillWord n)
    else if 0x28 ≤ o ∧ o < 0x38 then some (s.headWord n ((o - 0x28) / 4))
    else none
  else if off = 0x810 then some (s.copyOf m).insStat
  else if off = 0x874 then some (BitVec.ofNat 32 (maskWhere 32 (fun n => s.bit (0x40014 + 0x40 * n) 0)))
  else none

/-- TMR words (Tables Timer.6 and Timer.7); the latched reads are in `busRead`. -/
def State.tmrView (s : State) (m : Master) (off : Nat) : Option Word :=
  let w := fun (v : Nat) => some (BitVec.ofNat 32 v)
  if off < 0x800 then
    let n : Fin 16 := Fin.ofNat 16 (off / 0x80)
    let t := s.timers[n]
    match off % 0x80 with
    | 0x2C => w (atBit (b2n t.run) 8 + atBit (b2n t.lvl) 7 + atBit (b2n t.pendB.isSome) 6 + atBit (b2n t.pendA.isSome) 5 +
        atBit (b2n t.capf) 4 + s.fld (0x50000 + off) 3 0)
    | 0x40 => w (t.actA / 2 ^ 32)
    | 0x44 => w (t.actA % 2 ^ 32)
    | 0x48 => w (t.actB / 2 ^ 32)
    | 0x4C => w (t.actB % 2 ^ 32)
    | _ => none
  else match off with
    | 0x800 => w (maskWhere 16 (fun n => (s.timers[Fin.ofNat 16 n]).run))
    | 0x808 =>
      let c := s.copyOf m
      w (atBit (b2n c.rmiss) 16 + (match c.rlatch with
        | some (cap, n, hi) => atBit 1 31 + atBit (b2n cap) 30 + atBit n 24 + hi % 65536
        | none => 0))
    | 0x80C => w (s.copyOf m).wlatch
    | _ => none

/-- ADCA and ADCB words (Tables Conv.9, Conv.10 and Conv.12). -/
def State.adcView (s : State) (x : Conv) (off : Nat) : Option Word :=
  if off = 4 then some (s.adcStat x)
  else if 0x100 ≤ off ∧ off < 0x190 ∧ off % 0x10 ≤ 8 then some (s.sliceWord x (Fin.ofNat 9 ((off - 0x100) / 0x10)) (off % 0x10 / 4))
  else if 0x400 ≤ off ∧ off < 0x480 ∧ off % 0x10 = 8 then some (s.cmpWord (Fin.ofNat 16 (8 * x.index + (off - 0x400) / 0x10)))
  else none

/-- DMA words (Table DMA.8). -/
def State.dmaView (s : State) (off : Nat) : Option Word :=
  let w := fun (v : Nat) => some (BitVec.ofNat 32 v)
  if off < 0x800 then
    let n : Fin 16 := Fin.ofNat 16 (off / 0x80)
    let c := s.ch n
    let o := off % 0x80
    if o = 0x0C then some (s.chStat n)
    else if o = 0x14 then w (atBit c.sigSpec 16 + c.sig)
    else if 0x20 ≤ o ∧ o < 0x30 then w (c.a.getD ((o - 0x20) / 4) 0)
    else if o = 0x30 then w (atBit (s.chWm n) 16 + c.level)
    else if o = 0x38 then w (atBit (b2n c.wm.flag) 31)
    else if o = 0x3C then w (atBit c.wm.peak 16 + c.wm.count)
    else if o = 0x40 then w (atBit c.fCause 28 + atBit (b2n c.fWrite) 24 + c.fVaddr)
    else if o = 0x44 then w c.fOffset
    else if o = 0x48 then w c.fPaddr
    else none
  else none

/-- HLT words (Table Health.10). -/
def State.hltView (s : State) (off : Nat) : Option Word :=
  let h := s.health
  let w := fun (v : Nat) => some (BitVec.ofNat 32 v)
  match off with
  | 0x00 => some s.levelWord
  | 0x08 => w s.reducedWord
  | 0x0C => w (atBit h.retB 16 + h.retA)
  | 0x10 => w h.deadW
  | 0x14 => w h.lifeAcc
  | 0x1C => w s.lifePct
  | 0x20 => w (atBit (wrapInt 16 h.tjMax) 16 + wrapInt 16 h.tj)
  | 0x5C => w h.runSec
  | 0x60 => w h.sbySec
  | 0x64 => w (Nat.min 0xFFFF h.xfails)
  | 0x68 => w (atBit (b2n h.mounted) 3 + s.fld 0x100068 2 0)
  | _ => if 0x30 ≤ off ∧ off < 0x5C then w (h.bandMinutes.getD ((off - 0x30) / 4) 0) else none

/-- PWR words (Tables Power.7, Power.11, Power.14 and Power.15). -/
def State.pwrView (s : State) (off : Nat) : Option Word :=
  let p := s.power
  let w := fun (v : Nat) => some (BitVec.ofNat 32 v)
  match off with
  | 0x00 => w (atBit (b2n (!p.lfPwr.isEmpty)) 31 + atBit p.result 16 + p.sbyCount.toNat)
  | 0x10 => w p.domRdy
  | 0x1C => w (s.fld 0x11001C 2 1 * 2 + b2n p.lfXtal)
  | 0x24 => w (atBit (s.fld 0x110024 9 8) 8 + atBit (b2n p.vaonOk) 2 + atBit (b2n s.vioAbove) 1 +
      b2n (p.vdd5Ok || (p.phase == .startup && s.boot.stage == .supply)))
  | _ => none

/-- NVM words (Table Cave.13), with a master's own NVM_LOGRES. -/
def State.nvmView (s : State) (m : Master) (off : Nat) : Option Word :=
  if off = 0x130 then some (s.copyOf m).logRes else s.nvmWord off

/-- The word a register shows a master, with no effect of the read (R7, R639 to R642). -/
def State.view (s : State) (m : Master) (a : Nat) : Word :=
  let off := a % 0x10000
  let computed : Option Word := match a / 0x10000 with
    | 0x00 => s.sysView off
    | 0x01 => s.lnkView off
    | 0x02 => s.cfgView off
    | 0x03 => s.angView off
    | 0x04 => s.evqView m off
    | 0x05 => s.tmrView m off
    | 0x06 => s.adcView .adcA off
    | 0x07 => s.adcView .adcB off
    | 0x08 => if off = 8 then some (s.aseqStat .adcA) else if off = 0x808 then some (s.aseqStat .adcB) else none
    | 0x09 => s.dmaView off
    | 0x0A => s.nvmView m off
    | 0x0B => s.batWord off
    | 0x0C => s.fusWord off
    | 0x0D => s.aonWord off
    | 0x0E => s.lckWord off
    | 0x0F => s.lcsWord off
    | 0x10 => s.hltView off
    | 0x11 => s.pwrView off
    | _ => none
  if (regRow a).isSome then computed.getD (s.reg a) else 0

/-! ### Which accesses end in a bus error (R22, R643, R645) -/

/-- An address of a register block. -/
def inBlocks (a : Nat) : Bool := decide (a < 0x120000)

/-- An address that the part implements (R19, R643). -/
def implemented (a : Nat) : Bool := inBlocks a || inProgStore a || inSram a

/-- LCS_STORED0 to LCS_STORED7. -/
def isStored (a : Nat) : Bool := decide (0xF0080 ≤ a) && decide (a < 0xF00A0)

/-- A word access ends in a bus error (Table Map.19). A domain counts as off while its PWR_DOMRDY bit is 0. `jornus` says that a
Jornus command issues it, and not the debug port. -/
def State.accessFails (s : State) (m : Master) (jornus : Bool) (a : Nat) (write : Bool) : Bool :=
  let blk := a / 0x10000
  !implemented a ||
  (inBlocks a && s.life.state == .scrap && blk != 0 && blk != 0xF) ||
  (blk == 6 && !s.domReady 4) || (blk == 7 && !s.domReady 5) || (blk == 0xC && !s.domReady 9) ||
  (isStored a && (write || m != .link || (s.storeWord (a % 0x10000) jornus).isNone)) ||
  (write && (match m with
    | .link => false
    | .dma _ => a == 0x90840 || (decide (0x90000 ≤ a) && decide (a < 0x90800) && a % 0x80 == 8)))

/-! ### Reads (R7, R130, R304, R363, R640) -/

/-- What a bus access answers. -/
structure Access where
  next : State
  word : Word := 0
  /-- none: carried out; otherwise the status of Table Link.4 and the address. -/
  err : Option (Nat × Nat) := none

/-- The address is that of a result register (Table Seq.5). -/
def isResult (a : Nat) : Bool := decide (0x80000 ≤ a) && decide (a < 0x81000) && decide (0x400 ≤ a % 0x800) && decide (a % 0x800 < 0x520)

/-- What a read of a stored word returns: where the hardware has set RC fields of it in this CLK_SYS cycle, their values before, and of a
result register the whole earlier word (R9, R363, Table Seq.7). -/
def State.readBack (s : State) (a : Nat) (w : Word) : Word :=
  match regRow a, s.noteOf a with
  | some r, some n =>
    let m := if isResult a then 0xFFFFFFFF else BitVec.ofNat 32 r.rc
    (w &&& ~~~m) ||| (n.old &&& m)
  | _, _ => w

/-- The RC fields of a word clear at the read (R7, R640), but for what the hardware has set in them in this CLK_SYS cycle (R9), FRESH of a
result written in it among them (R363). -/
def State.clearRc (s : State) (a : Nat) : State :=
  match regRow a with
  | some r =>
    if r.rc = 0 then s
    else
      let m := BitVec.ofNat 32 r.rc
      match s.noteOf a with
      | none => s.clrReg a r.rc
      | some n =>
        if isResult a then s
        else
        let s1 : State := { s with setNow := s.setNow.map (fun (x : SetNote) => if x.addr = a then { x with old := x.old &&& ~~~m } else x) }
        s1.setReg a ((s.reg a &&& ~~~m) ||| (n.fresh &&& m))
  | none => s

/-- COUNTLO, CAPLO, COUNTHI and CAPHI of a timer, by offset: CAP, and the high word (R303, R304). -/
def latchedRead (a : Nat) : Option (Fin 16 × Bool × Bool) :=
  if 0x50000 ≤ a ∧ a < 0x50800 then
    let n : Fin 16 := Fin.ofNat 16 ((a - 0x50000) / 0x80)
    match a % 0x80 with
    | 0x30 => some (n, false, false)
    | 0x34 => some (n, false, true)
    | 0x38 => some (n, true, false)
    | 0x3C => some (n, true, true)
    | _ => none
  else none

/-- The addresses of the CLK_LF blocks up to the last register of each, rising. -/
def mirrorAddrs : List Nat :=
  (List.range 128).map (fun i => 0xD0000 + 4 * i) ++ (List.range 8).map (fun i => 0xE0000 + 4 * i) ++
    (List.range 10).map (fun i => 0x110000 + 4 * i)

/-- The mirror takes the values of the AON, LCK and PWR blocks at a CLK_LF edge (R43). -/
def State.takeMirror (s : State) : State :=
  { s with
    mirror := (mirrorAddrs.map (fun a => (a, s.view .link a))).filter (fun p => p.2 != resetWord p.1)
    setNow := s.setNow.map (fun (x : SetNote) => if inPd0 x.addr then { x with fresh := 0 } else x) }

/-- What a counter word of a CLK_LF block keeps of its counts when a read has returned `w` from the mirror: those made since the mirror was
taken. Of a counter that stands at its highest value they are the counts of this CLK_SYS cycle (R9). The two counters are its halves. -/
def State.sinceMirror (s : State) (a : Nat) (w : Word) : Word :=
  let half := fun (hi lo : Nat) => Nat.max (fieldOf (s.reg a) hi lo - fieldOf w hi lo) (s.freshFld a hi lo)
  BitVec.ofNat 32 (atBit (half 31 16) 16 + half 15 0)

/-- A read of a CLK_LF block, served from the mirror; WPEND alone, bit 31 of the block's first word, is set and cleared on the bus side.
The RC fields lose what the read has returned, in the block and in the mirror (R7, R43; log entry 18). -/
def State.readMirror (s : State) (a : Nat) : Access :=
  let w := Sparse.get resetWord s.mirror a
  let word := if a % 0x10000 = 0 then (w &&& 0x7FFFFFFF) ||| (s.view .link a &&& 0x80000000) else w
  let rc := match regRow a with
    | some r => BitVec.ofNat 32 r.rc
    | none => 0
  let next := if rc = 0 then s
    else ({ s with mirror := Sparse.set resetWord s.mirror a (w &&& ~~~rc) } : State).setReg a
      ((s.reg a &&& ~~~rc) ||| (s.sinceMirror a w &&& rc))
  { next := next, word := word }

/-- A read of one whole word by a bus master. -/
def State.busReadWord (s : State) (m : Master) (jornus : Bool) (a : Nat) : Access :=
  if s.accessFails m jornus a false then { next := s, err := some (0x15, a) }
  else if inSram a then { next := s, word := s.sramWord a }
  else if isStored a then { next := s, word := (s.storeWord (a % 0x10000) jornus).getD 0 }
  else match latchedRead a with
    | some (n, cap, high) =>
      let r := if high then s.timerReadHigh m n cap else s.timerReadLow m n cap
      { next := r.2, word := r.1 }
    | none =>
      if inProgStore a then { next := s, word := s.reg a }
      else if inPd0 a then s.readMirror a
      else { next := (if a = 0x10034 then s.closeCycle else s).clearRc a, word := s.readBack a (s.view m a) }

/-! ### Writes of fields other than RWS (R7, R640) -/

/-- The RW, W1C and W1S fields of a stored word under their access codes (R7). A W1C bit that the hardware has set in this CLK_SYS cycle
stays (R8). -/
def State.writeFields (s : State) (a : Nat) (w : Word) : State :=
  match regRow a with
  | none => s
  | some r =>
    let rw := BitVec.ofNat 32 r.rw
    let v := (s.reg a &&& ~~~rw) ||| (w &&& rw)
    let kept := match s.noteOf a with
      | some n => n.set
      | none => 0
    s.setReg a ((v &&& ~~~(w &&& BitVec.ofNat 32 r.w1c &&& ~~~kept)) ||| (w &&& BitVec.ofNat 32 r.w1s))

/-- A push into LOG by a bus master: SRC 3 for the DMA, 7 for the link engine (R436). -/
def State.pushFromBus (s : State) (m : Master) (w : Word) : State :=
  let c := s.copyOf m
  let len := fieldOf w 5 0
  let src := match m with
    | .link => 7
    | .dma _ => 3
  let bytes := (c.logd.flatMap (fun d => bytesLE 4 d.toNat)).take len
  let r := if 44 < len then (0, s.logDropped) else s.logEntry src bytes (bitOf w 8)
  r.2.setCopy m { (r.2.copyOf m) with logRes := BitVec.ofNat 32 r.1 }

/-- The DMA channel control word: several bits in one write act in rising order (log entry 54). -/
def State.writeChCtrl (s : State) (n : Fin 16) (w : Word) : State :=
  let s1 := if bitOf w 0 then s.dmaStart n else s
  let s2 := if bitOf w 1 then s1.dmaAbort n else s1
  if bitOf w 2 then s2.dmaResume n else s2

/-- A write to a DMA channel page. -/
def State.writeDma (s : State) (a : Nat) (w : Word) : State :=
  let n : Fin 16 := Fin.ofNat 16 ((a - 0x90000) / 0x80)
  match a % 0x80 with
  | 0x08 => s.writeChCtrl n w
  | 0x14 => s.signalBits n (fieldOf w 15 0)
  | 0x18 => s.signalClear n (fieldOf w 15 0)
  | 0x34 => s.levelDown n (fieldOf w 15 0)
  | 0x38 => if bitOf w 31 then s.clearLevelWm n else s
  | _ => s.writeFields a w

/-- A write to a timer's compare words (R297, R305). -/
def State.writeTimer (s : State) (m : Master) (a : Nat) (w : Word) : State :=
  let n : Fin 16 := Fin.ofNat 16 ((a - 0x50000) / 0x80)
  match a % 0x80 with
  | 0x40 => s.compareHigh m w
  | 0x44 => s.compareLow m n false w
  | 0x48 => s.compareHigh m w
  | 0x4C => s.compareLow m n true w
  | _ => s.writeFields a w

/-- EVQ_INS0 to EVQ_INS3: a word of the master's descriptor, and the insertion by INS3 (R251). -/
def State.writeInsert (s : State) (m : Master) (i : Nat) (w : Word) : State :=
  let c := s.copyOf m
  let ins := c.ins.set i w
  let s1 := s.setCopy m { c with ins := ins }
  if i = 3 then s1.insertEvent m { target := ins.getD 0 0, arg := ins.getD 1 0, rep := ins.getD 2 0, ctl := w } else s1

/-- ASEQ_SWTRIG: TRIG bits 3:0, STOP bits 11:8. -/
def State.writeSwtrig (s : State) (w : Word) : State := (s.softwareTrigger (fieldOf w 3 0)).stopSeqs (fieldOf w 11 8)

/-- HLT_ADVISE: the bits written 1 clear, and XFAILS with bit 6, but for what is set in this cycle (R580, R591). -/
def State.clearAdvise (s : State) (w : Word) : State :=
  let s1 := (s.noteSet 0x100004 0).writeFields 0x100004 w
  if bitOf w 6 && !s1.bit 0x100004 6 then { s1 with health := { s1.health with xfails := 0 } } else s1

/-- BAT_FAULT: clearing NTCF lets each sensor be announced again (R485). -/
def State.writeBatFault (s : State) (w : Word) : State :=
  let s1 := s.writeFields 0xB0120 w
  if bitOf w 3 then { s1 with bat := { s1.bat with ntcTold := 0 } } else s1

/-- A write of the fields of a word that are not RWS, outside the CLK_LF blocks. CFG_STAGE is apart. -/
def State.writePlain (s : State) (m : Master) (a : Nat) (w : Word) : State :=
  if 0x90000 ≤ a ∧ a < 0x90800 then s.writeDma a w
  else if 0x50000 ≤ a ∧ a < 0x50800 then s.writeTimer m a w
  else if 0xC0800 ≤ a ∧ a < 0xC0880 then
    s.slotWrite (Fin.ofNat 32 ((a - 0xC0800) / 4)) w (match m with
      | .link => false
      | .dma n => (s.ch n).tag)
  else if 0xA0100 ≤ a ∧ a < 0xA012C then
    let c := s.copyOf m
    s.setCopy m { c with logd := c.logd.set ((a - 0xA0100) / 4) w }
  else if 0xF0000 ≤ a ∧ a < 0x100000 then (s.writeFields a w).lcsWrite (a % 0x10000) w
  else match a with
    | 0x10030 => if bitOf w 31 then s.clearRingWm else s
    | 0x20014 => s.holdSet w.toNat
    | 0x30904 => if bitOf w 0 then s.snapshot else s
    | 0x40800 => s.writeInsert m 0 w
    | 0x40804 => s.writeInsert m 1 w
    | 0x40808 => s.writeInsert m 2 w
    | 0x4080C => s.writeInsert m 3 w
    | 0x40860 => (s.writeFields a w).ilkAgain
    | 0x40870 => s.flushQueues w.toNat
    | 0x50800 => s.gstart (fieldOf w 15 0) (s.now + 4)
    | 0x50804 => s.swCapture (fieldOf w 15 0)
    | 0x50808 => if bitOf w 16 then s.setCopy m { s.copyOf m with rmiss := false } else s
    | 0x81000 => s.writeSwtrig w
    | 0x90840 => s.tlbInvalidate w
    | 0xA0020 => if bitOf w 31 then s.clearPoolWm else s
    | 0xA012C => s.pushFromBus m w
    | 0xB0120 => s.writeBatFault w
    | 0xB0128 => s.writeEpoch w
    | 0xB012C => s.setSoc w
    | 0x100004 => s.clearAdvise w
    | 0x10002C => s.healthClear w
    | _ => s.writeFields a w

/-- CFG_STAGE.CLOSE as Table Cfg.2 gives it: the state, and a refusal's status and DETAIL. DESIGN CHOICE (log entry 112): a DMA write of 1
that Table Cfg.2 would refuse has no answer in the spec; here the access ends in a bus error of the beat. -/
def State.stageClose (s : State) : State × Option (Nat × Nat) :=
  match s.cfg.state with
  | .idle => (s, some (0x20, 0))
  | .armed => (s, some (0x21, 0))
  | _ =>
    if s.cfg.staged then
      match s.closeTxn false with
      | .error e => (s, some e)
      | .ok t => (t, none)
    else (s, some (0x20, 0))

/-! ### RWS fields (R10, R160 to R163, R181, R183) -/

/-- The write that has just joined a CLK_LF block's queue behind another stalls its master (R43, R400). -/
def State.stallLast (s : State) (m : Master) (b : LfBlock) : State :=
  match (s.lfQueue b).reverse with
  | [] => s
  | w :: t =>
    match m with
    | .link => s.setLfQueue b (t.reverse ++ [{ w with stalled := true }])
    | .dma n => (s.setLfQueue b (t.reverse ++ [{ w with chan := some n }])).setCh n { s.ch n with parked := true }

/-- A write by a master into a CLK_LF block: it crosses, or stalls its master while an earlier one does (R43). -/
def State.lfStore (s : State) (m : Master) (a : Nat) (w : Word) : State :=
  let b := lfBlockOf a
  let s1 := s.pushLf { addr := a, value := w }
  if s.wpend b then s1.stallLast m b else s1

/-- A write of the RWS bits of a word. The DMA's are ignored (R181). -/
def State.writeRws (s : State) (m : Master) (a : Nat) (w : Word) : Access :=
  match m with
  | .dma n => { next := { (s.orReg 0x20000 8) with cfg := { s.cfg with dmaCh := n.val } } }
  | .link =>
    match s.cfg.state with
    | .armed => { next := s, err := some (0x21, a) }
    | .idle =>
      match s.singleCommit a w with
      | .error (st, d) => { next := { s with cfg := { s.cfg with lastCause := causeOf st, lastAddr := d } }, err := some (st, a) }
      | .ok t =>
        let b := lfBlockOf a
        { next := if inPd0 a && s.wpend b && decide ((s.lfQueue b).length < (t.lfQueue b).length) then t.stallLast .link b else t }
    | _ =>
      if 4096 < s.shadowBytes + 4 * s.newShadowWords [a] then { next := s, err := some (0x22, a) }
      else { next := s.shadowWrite a w }

/-! ### Writes -/

/-- A write of one whole word by a bus master (R7, R10, R22, R43, R160, R640, R642). -/
def State.busWriteWord (s : State) (m : Master) (jornus : Bool) (a : Nat) (w : Word) : Access :=
  if s.accessFails m jornus a true then { next := s, err := some (0x15, a) }
  else if inSram a then { next := s.setSramWord a w }
  else if rwsMask a ≠ 0 then s.writeRws m a w
  else if (regRow a).isNone then { next := s }
  else if inPd0 a then { next := s.lfStore m a w }
  else if a = 0x20010 then
    if bitOf w 0 then
      let r := s.stageClose
      { next := r.1, err := r.2 }
    else { next := s }
  else { next := s.writePlain m a w }

/-- A register write as a command of its own, outside a frame: bus accesses are made only in RUN and DOZE. -/
def State.busWrite (s : State) (m : Master) (a : Nat) (w : Word) : State :=
  if s.running then
    let r := s.busWriteWord m true a w
    { r.next with busRead := 0, busError := r.err.isSome }
  else s

/-- A register read as a command of its own. -/
def State.busRead' (s : State) (m : Master) (a : Nat) : State :=
  if s.running then
    let r := s.busReadWord m true a
    { r.next with busRead := r.word, busError := r.err.isSome }
  else s

/-! ### LF_WRITE_DONE (R43, R167, R400) -/

/-- A write that has crossed takes effect in its block. -/
def State.landWord (s : State) (a : Nat) (w : Word) : State :=
  match a with
  | 0x110004 => s.powerWord w
  | 0xE0004 => s.lockWord w
  | 0xD0018 => if bitOf w 0 then s.stopAlarm else s
  | _ => s.writeFields a w

/-- A commit's word that is on its way, not one whose master waits for the write before it. -/
def LfWrite.crossing (w : LfWrite) : Bool := w.commit && !w.stalled && w.chan.isNone

/-- The writes at the head of a queue that land at one edge: the whole share of a commit, or one register write. One that has stalled its
master becomes a write of its own when WPEND has cleared (R43, R167). -/
def lfHead : List LfWrite → List LfWrite × List LfWrite
  | [] => ([], [])
  | w :: t => if w.commit then (w :: t.takeWhile LfWrite.crossing, t.dropWhile LfWrite.crossing) else ([w], t)

/-- A read beat that has kept its place is made: its bytes from the mirror, or a bus error (R400, R402). -/
def State.landRead (s : State) (w : LfWrite) : State :=
  match w.chan with
  | none => s
  | some n =>
    let r := s.busReadWord (.dma n) false w.addr
    r.next.unpark n (fun s => if r.err.isSome then s.beatError n w.value.toNat w.addr false else s.beatDone n (bytesLE 4 r.word.toNat) false)

/-- The next write at the head proceeds, and its master goes on: the link engine, or a channel whose beat that ends. The reads that stand
between it and the next write are made too (R43, R400, R402). -/
def State.lfProceed (s : State) (b : LfBlock) : State :=
  match s.lfQueue b with
  | [] => s
  | w :: t =>
    let s1 := s.setLfQueue b ({ w with stalled := false, chan := none } :: t.dropWhile LfWrite.read)
    let s2 := match w.chan with
      | some n => s1.unpark n (fun s => s.beatDone n [] true)
      | none => s1
    (t.takeWhile LfWrite.read).foldl State.landRead s2

/-- A response that waited for the last stalled write goes out, and the notices that its command has caused enter (R137, R139). -/
def State.releaseHeld (s : State) : State :=
  match s.link.held with
  | some f =>
    if s.linkStalled then s
    else (({ s with link := { s.link with held := none } }).handOver f).releaseIn
  | none => s

/-- A write lands. The notices that it causes wait for the response of the command that made it, where that is still held or not formed yet (R139). -/
def State.landOwn (s : State) (w : LfWrite) (land : State → State) : State :=
  if w.mine && (s.link.held.isSome || s.cfg.waitCmd.isSome) then
    let s1 := s.closeCycle
    State.holdNotices s1 (land s1)
  else land s

/-- LF_WRITE_DONE: the write in flight into a block takes effect at a CLK_LF edge, and the mirror takes the blocks as it leaves them; WPEND
clears unless another write waits, which then proceeds. -/
def State.lfWriteDone (s : State) (b : LfBlock) : State :=
  let r := lfHead (s.lfQueue b)
  let s1 := s.setLfQueue b r.2
  match r.1 with
  | [] => s
  | w :: _ =>
    let s2 := s1.landOwn w (fun s => if w.commit then s.landCommit b r.1 else s.landWord w.addr w.value)
    (s2.takeMirror.lfProceed b).releaseHeld

/-- A write of one register lands: the one at the head of the queue where it is that write. With none in flight it is made, which takes
RUN, and lands at this moment; behind another it is queued (log entry 55). -/
def State.landNow (s : State) (a : Nat) (w : Word) : State :=
  let b := lfBlockOf a
  match s.lfQueue b with
  | [] => s.whileRunning (fun e => e.landWord a w)
  | x :: _ => if x.addr = a ∧ x.value = w ∧ x.commit = false then s.lfWriteDone b else s.lfStore .link a w

end Sys2Proof.Machine
end

