-- ==== Sys2Proof/Machine/Elapse.lean ====
section
/-!
DEFINITION. The one operation that lets time pass before a command: the clocks and timers run, and what angles between two edges do to the
event queues, STOPs and requests of the sequencers, and the bus masters' mirror of the CLK_LF blocks, is done.
-/

namespace Sys2Proof.Machine

/-- Every ANGLE queue rid of the events whose key has reached 2^30 as the angle moved against QDIR (R272). -/
def State.dropFar (s : State) : State :=
  if s.outs.toList.all (fun o => o.queue.isEmpty) then s
  else (List.finRange 32).foldl (fun s (n : Fin 32) => if s.outTime n then s else s.removeFar n) s

/-- A span that leaves the present CLK_SYS cycle ends it (R403). -/
def State.endCycle (s : State) (d : Span) : State := if (s.now + d.ang) / 2 = s.now / 2 then s else s.closeLevels

/-- A span that leaves the present CLK_SYS cycle brings the health notices of its causes (R584). -/
def State.healthCycle (s : State) (d : Span) : State :=
  if (s.now + d.ang) / 2 = s.now / 2 ∧ d.lf = 0 then s else s.sendHealth

/-- A span with a CLK_LF edge brings the mirror of the AON, LCK and PWR blocks up to its last one (R43). -/
def State.edgeMirror (s : State) (d : Span) : State := if d.lf = 0 then s else s.takeMirror

/-- A span passes the cycles in which snapshots are due (R232). -/
def State.spanSnaps (s : State) (d : Span) : State := if s.snapAt = [] then s else s.takeSnaps (s.now + d.ang)

/-- The CLK_ANG cycles of a span while the machine runs: the clocks, and the grid mode as a coasting wheel slows down (R500). -/
def State.runSpan (s : State) (d : Span) : State := (s.runClocks d).gridFall

/-- ELAPSE: the time that passes before a command. -/
def State.elapse (s0 : State) (d : Span) : State :=
  let s := s0.healthCycle d
  if s.running then (((((s.endCycle d).spanSnaps d).runSpan d).dropFar).runSequencers).edgeMirror d else (s.runClocks d).edgeMirror d

end Sys2Proof.Machine
end

