-- ==== Sys2Proof/Machine/ExecAngle.lean ====
section
/-!
DEFINITION. Wheel tracking, the tooth inputs and the snapshot (R191 to R250). What each command of the family does, after the time that has passed before it.
-/

namespace Sys2Proof.Machine

/-- INPUT_STUCK_TIMEOUT (R89). -/
def execInputStuckTimeout (dt : Span) (input : Fin 14) (s : State) : Out :=
  let u := s.elapse dt
  if input.val < 8 then .next (State.fusWheels u (u.toothStuck (Fin.ofNat 4 (input.val / 2)) (decide (input.val % 2 = 1))))
  else .next (u.rindStuck (Fin.ofNat 6 (input.val - 8)))

/-- TOOTH_EDGE (R196). -/
def execToothEdge (dt : Span) (w : Fin 4) (onB : Bool) (level : InLevel) (peak : Nat) (s : State) : Out :=
  let u := s.elapse dt
  let r := u.toothEdge w onB level peak
  .next ((State.fusWheels u r.2).stepTwo.wheelTail r.1)

/-- STANDSTILL (R205). -/
def execStandstill (dt : Span) (w : Fin 4) (s : State) : Out :=
  let u := s.elapse dt
  let r := u.standstill w
  .next ((State.fusWheels u r.2).stepTwo.wheelTail r.1)

/-- COAST_ENTRY (R196). -/
def execCoastEntry (dt : Span) (w : Fin 4) (s : State) : Out :=
  let u := s.elapse dt
  let r := u.coastEntry w
  .next ((State.fusWheels u r.2).stepTwo.wheelTail r.1)

/-- WHEEL_DEAD (R217). -/
def execWheelDead (dt : Span) (w : Fin 4) (s : State) : Out := .next ((s.elapse dt).wheelDead w)

/-- BIAS_CHECK (R214). -/
def execBiasCheck (dt : Span) (s : State) : Out := .next ((s.elapse dt).biasCheck)

/-- BIAS_CHECK_DONE (R215). -/
def execBiasCheckDone (dt : Span) (plus minus idle : LegReading) (rail : RailReading) (s : State) : Out :=
  .next ((s.elapse dt).biasDone plus minus idle rail)

/-- SNAPSHOT (R232). -/
def execSnapshot (dt : Span) (m : Master) (s : State) : Out := .next ((s.elapse dt).busWrite m 0x30904 1)

end Sys2Proof.Machine
end

