-- ==== Sys2Proof/Machine/ExecBattery.lean ====
section
/-!
DEFINITION. The battery estimator (R454 to R487). What each command of the family does, after the time that has passed before it.
-/

namespace Sys2Proof.Machine

/-- CURD_DONE (R457). -/
def execCurdDone (dt : Span) (vpack : Nat) (code : BitVec 24) (excess : Bool) (ntc : List Nat) (age : Nat) (s : State) : Out :=
  .next ((s.elapse dt).curdDone vpack code excess ntc age)

/-- STANDBY_CURD (R461). -/
def execStandbyCurd (dt : Span) (vpack : Nat) (code : BitVec 24) (excess : Bool) (ntc : List Nat) (s : State) : Out :=
  .next ((s.elapse dt).standbyCurd vpack code excess ntc)

/-- CURD_LOST (R458). -/
def execCurdLost (dt : Span) (s : State) : Out := .next ((s.elapse dt).curdLost)

/-- ID_ATTEMPT (R468). -/
def execIdAttempt (dt : Span) (s : State) : Out := .next ((s.elapse dt).idAttempt)

/-- ID_ATTEMPT_DONE (R467). -/
def execIdAttemptDone (dt : Span) (reading : IdReading) (s : State) : Out := .next ((s.elapse dt).idAttemptDone reading)

/-- ID_DEADLINE (R468). -/
def execIdDeadline (dt : Span) (s : State) : Out := .next ((s.elapse dt).idDeadline)

/-- GRACE_END (R469). -/
def execGraceEnd (dt : Span) (s : State) : Out := .next ((s.elapse dt).whileAwake (fun e => e.graceEnded))

/-- SETSOC (R463). -/
def execSetsoc (dt : Span) (m : Master) (value : Word) (s : State) : Out := .next ((s.elapse dt).busWrite m 0xB012C value)

/-- SOC_REPORT_STEP (R466). -/
def execSocReportStep (dt : Span) (s : State) : Out := .next ((s.elapse dt).socReportStep)

/-- RECORD_CHECKPOINT (R475). -/
def execRecordCheckpoint (dt : Span) (s : State) : Out := .next ((s.elapse dt).recordCheckpoint)

/-- EPOCH_TICK (R486). -/
def execEpochTick (dt : Span) (s : State) : Out := .next ((s.elapse dt).epochTick)

/-- AUTOSHIP_RETRY (R478). -/
def execAutoshipRetry (dt : Span) (s : State) : Out := .next ((s.elapse dt).autoship)

end Sys2Proof.Machine
end

