-- ==== Sys2Proof/Machine/ExecCave.lean ====
section
/-!
DEFINITION. The cave: records, log, image slots and the NAND's upkeep (R415 to R453). What each command of the family does, after the time that has passed before it.
-/

namespace Sys2Proof.Machine

/-- CAVE_MOUNT (R427). -/
def execCaveMount (dt : Span) (s : State) : Out := .next ((s.elapse dt).whileRunning (fun e => e.caveMount))

/-- MOUNT_DONE (R427). -/
def execMountDone (dt : Span) (s : State) : Out := .next ((s.elapse dt).mountDone)

/-- RECORD_WRITE (R432). -/
def execRecordWrite (dt : Span) (kind : BitVec 8) (index : BitVec 16) (version : BitVec 8) (body : List Byte) (s : State) : Out :=
  .next ((s.elapse dt).whileAwake (fun e => e.recordWrite kind.toNat index.toNat version.toNat body))

/-- RECORD_WRITE_DONE (R432). -/
def execRecordWriteDone (dt : Span) (s : State) : Out := .next ((s.elapse dt).whileRunning (fun e => e.recordWriteDone))

/-- LOG_PUSH (R436). -/
def execLogPush (dt : Span) (m : Master) (ctl : Word) (s : State) : Out := .next ((s.elapse dt).busWrite m 0xA012C ctl)

/-- LOG_FLUSH (R435). -/
def execLogFlush (dt : Span) (s : State) : Out := .next ((s.elapse dt).whileRunning (fun e => e.logFlushDue))

/-- RETENTION_TICK (R438). -/
def execRetentionTick (dt : Span) (s : State) : Out := .next ((s.elapse dt).retentionTick)

/-- REFRESH_PASS_PAGE (R441). -/
def execRefreshPassPage (dt : Span) (s : State) : Out := .next ((s.elapse dt).refreshPassPage)

/-- WEAR_LEVEL_CHECK (R442). -/
def execWearLevelCheck (dt : Span) (s : State) : Out := .next ((s.elapse dt).wearLevelCheck)

/-- IMAGE_CHECK_DONE (R437). -/
def execImageCheckDone (dt : Span) (s : State) : Out := .next ((s.elapse dt).whileRunning (fun e => e.imageCheckDone))

end Sys2Proof.Machine
end

