-- ==== Sys2Proof/Machine/Beats.lean ====
section
/-!
DEFINITION. Accesses of the DMA port and of the debug port: one granted beat from its virtual address to the target, DBGACC and the
debug halt (12_dma.md, R389, R394 to R400, R410 to R412; 17_lifecycle_security.md, R566, R567).
-/

namespace Sys2Proof.Machine

/-! ### Translation (R395 to R398) -/

/-- What a translation answers: the physical address, a cause of Table DMA.5, or a bus error of the walk at an address. -/
inductive Walk where
  | ok (frame : Nat) (rd wr : Bool)
  | fail (cause : Nat)
  | bus (pa : Nat)
deriving DecidableEq, Repr

/-- A table walk: two word reads through the port, and the first cause that holds; a read that ends in a bus error is one of the walk's beat
(Tables DMA.4 and DMA.5, R412). -/
def State.walk (s : State) (n : Fin 16) (root va : Nat) (write : Bool) : Walk × State :=
  let l1 := s.sramWord (root + 4 * fieldNat va 23 18)
  let next := fieldOf l1 23 8 * 256
  let at2 := next + 4 * fieldNat va 17 12
  let reserved := decide (fieldOf l1 31 24 ≠ 0) || decide (fieldOf l1 7 1 ≠ 0)
  if !bitOf l1 0 then (.fail 1, s)
  else
    let r := s.busReadWord (.dma n) false at2
    let l2 := r.word
    if r.err.isSome then (.bus at2, r.next)
    else if !bitOf l2 0 then (.fail 2, r.next)
    else if !write && !bitOf l2 2 then (.fail 3, r.next)
    else if write && !bitOf l2 1 then (.fail 4, r.next)
    else if reserved || decide (fieldOf l2 31 24 ≠ 0) || decide (fieldOf l2 11 3 ≠ 0) then (.fail 5, r.next)
    else if !inSram next then (.fail 6, r.next)
    else (.ok (fieldOf l2 23 12) (bitOf l2 2) (bitOf l2 1), r.next)

/-- What a beat's translation gives: the physical address, a translation fault's cause, or the address at which the walk met a bus error. -/
inductive Translated where
  | ok (pa : Nat)
  | fault (cause : Nat)
  | bus (pa : Nat)
deriving DecidableEq, Repr

/-- A beat's virtual address becomes physical: through the cache or a walk, which enters the cache where it succeeds (R395 to R398). -/
def State.translate (s : State) (n : Fin 16) (va : Nat) (write : Bool) : Translated × State :=
  let ctx := s.chCtx n
  let cfg := s.reg (0x90800 + 4 * ctx)
  if bitOf cfg 0 then (.ok va, s)
  else
    let page := va / 4096
    match s.dma.tlb.find? (fun e => e.ctx == ctx && e.page == page) with
    | some e =>
      let s1 := ({ s with dma := { s.dma with tlb := e :: s.dma.tlb.erase e } }).satInc 0x90844 15 0
      if write then (if e.wr then (.ok (e.frame * 4096 + va % 4096), s1) else (.fault 4, s1))
      else (if e.rd then (.ok (e.frame * 4096 + va % 4096), s1) else (.fault 3, s1))
    | none =>
      match (s.satInc 0x90844 31 16).walk n (fieldOf cfg 23 8 * 256) va write with
      | (.ok frame rd wr, s1) =>
        (.ok (frame * 4096 + va % 4096), s1.tlbFill { ctx := ctx, page := page, frame := frame, rd := rd, wr := wr })
      | (.fail cause, s1) => (.fault cause, s1)
      | (.bus pa, s1) => (.bus pa, s1)

/-! ### Beats -/

/-- A block on CLK_LF that holds a parked write: later beats to it wait behind that write (R400). -/
def State.beatWaits (s : State) (pa : Nat) : Bool := inPd0 pa && (s.lfQueue (lfBlockOf pa)).any (fun w => w.chan.isSome)

/-- A read beat at a physical address: its bytes; none for a bus error. `whole` says that all its byte enables are set (R389). -/
def State.beatRead (s : State) (n : Fin 16) (pa width : Nat) (whole : Bool) : Option (List Byte × State) :=
  if pa % width ≠ 0 then none
  else if inSram pa then some (s.sramBytes pa width, s)
  else if inBlocks pa && (decide (width ≠ 4) || !whole) then none
  else
    let r := s.busReadWord (.dma n) false (pa / 4 * 4)
    if r.err.isSome then none else some (((bytesLE 4 r.word.toNat).drop (pa % 4)).take width, r.next)

/-- The bytes of a write beat whose enables are set, at their places. -/
def State.setLanes (s : State) (a : Nat) : List (Option Byte) → State
  | [] => s
  | none :: t => s.setLanes (a + 1) t
  | some b :: t => (s.setSramByte a b).setLanes (a + 1) t

/-- A write beat at a physical address; none for a bus error (R389). -/
def State.beatWrite (s : State) (n : Fin 16) (pa width : Nat) (lanes : List (Option Byte)) : Option State :=
  if pa % width ≠ 0 then none
  else if inSram pa then some (s.setLanes pa lanes)
  else if inBlocks pa && (decide (width ≠ 4) || lanes.any Option.isNone) then none
  else
    let r := s.busWriteWord (.dma n) false (pa / 4 * 4) (BitVec.ofNat 32 (natLE (lanes.map (fun b => b.getD 0))))
    if r.err.isSome then none else some r.next

/-- The beat a channel asks for: the next of its MOVE, or the word of its SET. -/
def State.nextBeat (s : State) (n : Fin 16) : Option Beat :=
  match (s.ch n).work with
  | .none => none
  | .move m => some (s.moveBeat n (s.moveAt (s.ch n).pc) m)
  | .set a v => some { addr := a, width := 4, lanes := some ((bytesLE 4 v.toNat).map some) }

/-- The next beat of an AFIX operand reaches past LEN, which is no multiple of the width (R389, log entry 121). -/
def State.beatPartial (s : State) (n : Fin 16) (write : Bool) : Bool :=
  match (s.ch n).work with
  | .move m =>
    let i := s.moveAt (s.ch n).pc
    if write then fixedMode i.dmode && decide (i.len < (m.nw + 1) * i.dw)
    else fixedMode i.smode && decide (i.len < (m.nr + 1) * i.sw)
  | _ => false

/-- All bytes of the next read unit lie within the range: a read of a register block that rounds outward has a byte enable clear (R389, R394). -/
def State.beatWhole (s : State) (n : Fin 16) : Bool :=
  match (s.ch n).work with
  | .move m =>
    let i := s.moveAt (s.ch n).pc
    let s0 := unitOffset i.smode m.src i.sw
    decide (s0 ≤ m.nr * i.sw) && decide ((m.nr + 1) * i.sw - s0 ≤ i.len)
  | _ => true

/-- A read beat waits behind the writes parked for its block, and keeps its place there (R400). -/
def State.parkRead (s : State) (n : Fin 16) (va pa : Nat) : State :=
  (s.pushLf { addr := pa / 4 * 4, value := BitVec.ofNat 32 va, chan := some n, read := true }).setCh n { s.ch n with parked := true }

/-- A beat that has ended in a bus error before is reissued: RETRIES counts it (R412). -/
def State.countReissue (s : State) (n : Fin 16) : State :=
  if (s.ch n).tries = 0 then s else s.satInc (dmaBase n + 0x1C) 31 16

/-- The beat of the channel that the port has been granted to. -/
def State.channelBeat (s0 : State) (n : Fin 16) : State :=
  let s := s0.countReissue n
  match s.nextBeat n with
  | none => s
  | some b =>
    let write := b.lanes.isSome
    match s.translate n b.addr write with
    | (.fault cause, s1) => s1.translationFault n cause b.addr write
    | (.bus pa, s1) => s1.beatError n b.addr pa write
    | (.ok pa, s1) =>
      if s.beatPartial n write then s1.beatError n b.addr pa write
      else match b.lanes with
      | none =>
        if s1.beatWaits pa && decide (b.width = 4) && s.beatWhole n then s1.parkRead n b.addr pa
        else match s1.beatRead n pa b.width (s.beatWhole n) with
          | none => s1.beatError n b.addr pa false
          | some (bytes, s2) => s2.beatDone n bytes false
      | some lanes =>
        match s1.beatWrite n pa b.width lanes with
        | none => s1.beatError n b.addr pa true
        | some s2 => if (s2.ch n).parked then s2 else s2.beatDone n [] true

/-- DMA_BEAT: the port grants one beat (R399); a debug halt pauses every channel (R567). -/
def State.dmaBeat (s : State) : State :=
  if s.running && !s.life.halted then
    match s.grant with
    | none => s
    | some n => (s.countPreempt n).channelBeat n
  else s

/-- The 24 address bits of DBGACC. -/
def debugAddr (a : Nat) : Nat := a % 2 ^ 24

/-- DBGACC: one access of the link engine, from the debug port (R183, R555, R566). A refusal that has no other place to show itself sets
the bus-error bit (log entry 56). -/
def State.debugAccess (s : State) (write : Bool) (a : Nat) (w : Word) : State :=
  if s.jtagAt 0x09 && s.running then
    let a1 := debugAddr a
    if a1 % 4 ≠ 0 then { s with jtag := { s.jtag with accError := true } }
    else
      let r := if write then s.busWriteWord .link false a1 w else s.busReadWord .link false a1
      { r.next with jtag := { r.next.jtag with
          accError := r.err.isSome, accData := if write || r.err.isSome then r.next.jtag.accData else r.word } }
  else s

/-- DEBUG_HALT: an update of DBGCTL (R566, R567). Paused work of the cave goes on when the halt ends. -/
def State.debugHalt (s : State) (halt : Bool) : State :=
  if s.jtagAt 0x0A && s.power.phase != .memtest then
    let s1 := s.setLife { s.life with halted := halt }
    if halt then s1 else s1.nandPick
  else s

end Sys2Proof.Machine
end

