-- ==== Sys2Proof/Machine/Commands.lean ====
section
/-!
DEFINITION. The Jornus commands: the arguments, the answer and the effect of every opcode (04_jornus_link.md, R128 to R137;
05_live_configuration.md, R157 to R163, R171, R177 to R179; 13_cave.md, R436, R437; 14_battery.md, R474; 17_lifecycle_security.md, R557,
R558, R569). Refusals within one frame are taken in the order written here (log entry 57).
-/

namespace Sys2Proof.Machine

/-! ### Status codes (Table Link.4) -/

def stOk : Nat := 0x00
def stAccepted : Nat := 0x01
def stFetching : Nat := 0x03
def stBusyMedia : Nat := 0x04
def stBadOpcode : Nat := 0x10
def stBadArg : Nat := 0x11
def stNotAllowed : Nat := 0x14
def stAlign : Nat := 0x16
def stTxnNone : Nat := 0x20
def stTxnBusy : Nat := 0x21
def stNonatomic : Nat := 0x22
def stSelftestBusy : Nat := 0x30
def stImgState : Nat := 0x40

/-- A refusal that changes nothing. -/
def State.refuse (s : State) (status : Nat) (detail : Nat := 0) : Reply := { status := status, detail := detail, next := s }

/-- `n` bytes of a frame from its byte `k`, least significant first; `args` begins at byte 4. -/
def frameNat (args : List Byte) (k n : Nat) : Nat := natAt args (k - 4) n

/-! ### Which commands are served (R129, R569) -/

/-- The blocks a READ may reach in recovery mode, and in SCRAP. -/
def recoveryBlock (b : Nat) : Bool := b == 0x00 || b == 0x01 || b == 0x0F || b == 0x10
def scrapBlock (b : Nat) : Bool := b == 0x00 || b == 0x0F

/-- An opcode that recovery mode answers (Table Link.3). -/
def recoveryOp (op : Nat) : Bool :=
  op == 0x01 || op == 0x02 || op == 0x10 || (decide (0x30 ≤ op) && decide (op ≤ 0x33)) || op == 0x60 || op == 0x61

/-- The addresses of `n` words from `a` upward. -/
def wordAddrs (a n : Nat) : List Nat := (List.range n).map (fun i => a + 4 * i)

/-- The mode gate of a command; `addrs` are the words that a READ names. -/
def State.serves (s : State) (op : Nat) (addrs : List Nat) : Bool :=
  if s.life.state = .scrap then
    op == 0x01 || op == 0x02 || (op == 0x10 && addrs.all (fun a => scrapBlock (a / 0x10000)))
  else if s.boot.recovery then recoveryOp op && (op != 0x10 || addrs.all (fun a => recoveryBlock (a / 0x10000)))
  else true

/-! ### READ, WRITE, MODIFY (R130, R131, R160 to R163, R183) -/

/-- The refusals of an address range, in order: the count, the alignment, the end of the address space. -/
def rangeRefusal (a n : Nat) : Option Nat :=
  if n = 0 ∨ 14 < n then some stBadArg
  else if a % 4 ≠ 0 then some stAlign
  else if 2 ^ 24 < a + 4 * n then some stBadArg
  else none

/-- Words read one after the other until a bus error (R130). -/
def State.readWords (s : State) : List Nat → List Byte → Reply
  | [], data => { status := stOk, data := data, next := s }
  | a :: t, data =>
    let r := s.busReadWord .link true a
    match r.err with
    | some (st, d) => { status := st, detail := d, data := data, next := r.next }
    | none => r.next.readWords t (data ++ bytesLE 4 r.word.toNat)

/-- READ. -/
def State.cmdRead (s : State) (args : List Byte) : Reply :=
  let a := frameNat args 4 3
  let n := frameNat args 7 1
  match rangeRefusal a n with
  | some st => s.refuse st
  | none => s.readWords (wordAddrs a n) []

/-- What refuses a write of these words before any is written: an ARMED transaction, or the shadow limit (R163, R183). -/
def State.writeRefusal (s : State) (addrs : List Nat) : Option (Nat × Nat) :=
  match s.cfg.state with
  | .idle => none
  | .armed => (addrs.find? (fun a => rwsMask a != 0)).map (fun a => (stTxnBusy, a))
  | _ => if 4096 < s.shadowBytes + 4 * s.newShadowWords addrs then some (stNonatomic, addrs.headD 0) else none

/-- Words written one after the other until a bus error or a refusal. One that waits for its commit holds up those after it (R130, R161). -/
def State.writeWords (s : State) : List (Nat × Word) → Reply
  | [] => { status := stOk, next := s }
  | (a, w) :: t =>
    let r := s.busWriteWord .link true a w
    match r.err with
    | some (st, d) => { status := st, detail := d, next := r.next }
    | none => if r.next.cfg.waiting.isEmpty then r.next.writeWords t else { status := stOk, next := r.next, rest := some t }

/-- WRITE. -/
def State.cmdWrite (s : State) (args : List Byte) : Reply :=
  let a := frameNat args 4 3
  let n := frameNat args 7 1
  match rangeRefusal a n with
  | some st => s.refuse st
  | none =>
    let addrs := wordAddrs a n
    match s.writeRefusal addrs with
    | some (st, d) => s.refuse st d
    | none => s.writeWords (addrs.zip ((List.range n).map (fun i => BitVec.ofNat 32 (frameNat args (8 + 4 * i) 4))))

/-- The words that waited have no more to wait for. The first is the frame's, where a frame waits: its refusal ends the frame, else the words
after it are written and the response goes out (R161, R165). -/
def State.waitedWords (s : State) : State :=
  let s0 : State := { (if s.cfg.waitCmd.isSome then s.closeCycle else s) with cfg := { s.cfg with waiting := [], waitCmd := none, dmaWait := none } }
  match s.cfg.waitCmd, s.cfg.waiting with
  | some c, (a, v) :: t =>
    let r : Reply := match s0.endSingle a v with
      | .error (st, d) =>
        { status := st, detail := a, next := { s0 with cfg := { s0.cfg with lastCause := causeOf st, lastAddr := d } } }
      | .ok u =>
        let r := u.writeWords c.rest
        if r.status = stOk then { r with data := c.data } else r
    (s0.respond c.seq c.op r).flushWaiting t
  | _, l => s0.flushWaiting l

/-- COMMIT_DMA_WAIT_END: what a commit waits for has ended, or 1 ms has passed and the channels still running are stopped between beats
(R170). -/
def State.commitWaitEnd (s : State) : State :=
  match s.cfg.dmaWait with
  | none => s
  | some t =>
    if s.cfg.state = .armed then (if s.armedWaitOver t then s.finishCommit else s)
    else if s.singleWaitOver t then s.waitedWords else s

/-- The frame bytes WRITE and IMG_DATA need beyond the header: those of the count they give, where it is in range (R126). -/
def writeNeed (args : List Byte) : Nat :=
  let n := frameNat args 7 1
  if 1 ≤ n ∧ n ≤ 14 then 4 + 4 * n else 4
def imgNeed (args : List Byte) : Nat :=
  let n := frameNat args 7 1
  if 1 ≤ n ∧ n ≤ 56 then 4 + n else 4

/-- MODIFY. -/
def State.cmdModify (s : State) (args : List Byte) : Reply :=
  let a := frameNat args 4 3
  let mask := BitVec.ofNat 32 (frameNat args 8 4)
  let v := BitVec.ofNat 32 (frameNat args 12 4)
  if frameNat args 7 1 ≠ 0 then s.refuse stBadArg
  else if a % 4 ≠ 0 then s.refuse stAlign
  else match s.writeRefusal [a] with
    | some (st, d) => s.refuse st d
    | none =>
      let r := s.busReadWord .link true a
      match r.err with
      | some (st, d) => { status := st, detail := d, next := r.next }
      | none =>
        let w := r.next.busWriteWord .link true a ((r.word &&& ~~~mask) ||| (v &&& mask))
        match w.err with
        | some (st, d) => { status := st, detail := d, next := w.next }
        | none =>
          { status := stOk, data := bytesLE 4 r.word.toNat, next := w.next
            rest := if w.next.cfg.waiting.isEmpty then none else some [] }

/-! ### PING and RESET (Table Link.3, R132) -/

def State.cmdPing (s : State) : Reply :=
  { status := stOk, next := s
    data := bytesLE 4 (s.view .link 0).toNat ++ bytesLE 2 0x0100 ++ bytesLE 1 (fieldOf s.link.active.idcfg 15 11) ++ bytesLE 1 s.life.state.code }

def State.cmdReset (s : State) (args : List Byte) : Reply :=
  if frameNat args 4 2 = 0x3CA5 then { status := stOk, next := { s with link := { s.link with resetPend := true } } }
  else s.refuse stBadArg

/-! ### Transactions (R157 to R159, R164, R171) -/

/-- The commit point that TXN_OPEN names; none where an argument is outside its range (R158). -/
def pointOf (args : List Byte) : Option CommitPoint :=
  let i := frameNat args 5 1
  if 1 < frameNat args 6 1 ∨ frameNat args 7 1 ≠ 0 then none
  else match frameNat args 4 1 with
    | 0 => some .immediate
    | 1 => if h : i < 4 then some (.wheelZero ⟨i, h⟩) else none
    | 2 => if h : i < 16 then some (.timerWrap ⟨i, h⟩) else none
    | _ => none

def State.cmdTxnOpen (s : State) (args : List Byte) : Reply :=
  if s.cfg.state ≠ .idle then s.refuse stTxnBusy
  else match pointOf args with
    | none => s.refuse stBadArg
    | some p =>
      let t := s.openTxn p (frameNat args 6 1 == 1)
      { status := stOk, data := bytesLE 2 t.cfg.num, next := t }

def State.cmdTxnCommit (s : State) : Reply :=
  match s.cfg.state with
  | .idle => s.refuse stTxnNone
  | .armed => s.refuse stTxnBusy
  | _ => match s.closeTxn true with
    | .error (st, d) => s.refuse st d
    | .ok t => { status := stAccepted, next := t }

def State.cmdTxnAbort (s : State) : Reply :=
  if s.cfg.state = .idle then s.refuse stTxnNone else { status := stOk, next := s.abortTxn }

/-- The stage count is known once the last stage is closed; until then it reads 0, as NTC_COMMIT gives it (log entry 58). -/
def State.cmdTxnStatus (s : State) : Reply :=
  let c := s.cfg
  let stage := if c.staged ∧ c.state ≠ .idle then c.stage else 0
  let count := if c.staged ∧ c.state = .armed ∧ c.last = true then c.stage else 0
  { status := stOk, next := s
    data := bytesLE 1 c.state.code ++ bytesLE 1 stage ++ bytesLE 1 count ++ [0] ++ bytesLE 2 s.shadowBytes ++ bytesLE 2 c.num }

/-! ### Image updates (R437) -/

/-- The blocks a copy of a length takes. -/
def State.blocksFor (s : State) (len : Nat) : Nat := if s.blockSize = 0 then 0 else (len + s.blockSize - 1) / s.blockSize

/-- IMG_BEGIN. A READONLY cave takes no update (R444, log entry 59). -/
def State.cmdImgBegin (s : State) (args : List Byte) : Reply :=
  let len := frameNat args 4 4
  if s.cave.imgUpd.isSome || s.imgWriting || s.cave.mode == .readonly then s.refuse stImgState
  else if len < 0x100 ∨ 0x200000 < len then s.refuse stBadArg
  else
    let tg := s.updateTarget
    let good := s.goodSlotBlocks tg.1
    let count := s.blocksFor len
    if good.length < count ∨ s.blockSize = 0 then s.refuse stBadArg good.length
    else
      let u : ImgUpd := { slot := tg.1, gen := tg.2, len := len, count := count, used := good.take count, free := good.drop count }
      { status := stOk, data := bytesLE 1 (tg.1 + 1) ++ [0, 0, 0] ++ bytesLE 4 tg.2
        next := { s with cave := { s.cave with imgUpd := some u } } }

/-- Bytes join the page buffers: each page that fills waits to be programmed. -/
def fillPages (page : Nat) (u : ImgUpd) (bytes : List Byte) : ImgUpd :=
  let all := u.buf ++ bytes
  if page ≤ all.length then { u with buf := all.drop page, full := u.full ++ [all.take page], got := u.got + bytes.length }
  else { u with buf := all, got := u.got + bytes.length }

/-- IMG_DATA: two page buffers, of which one may be in programming (R437). -/
def State.cmdImgData (s : State) (args : List Byte) : Reply :=
  let off := frameNat args 4 3
  let n := frameNat args 7 1
  match s.cave.imgUpd with
  | none => s.refuse stImgState
  | some u =>
    if u.ended then s.refuse stImgState
    else if n = 0 ∨ 56 < n then s.refuse stBadArg
    else if off ≠ u.got then s.refuse stImgState
    else if u.len < off + n then s.refuse stBadArg
    else if 2 < u.full.length + (u.buf.length + n + s.nand.page - 1) / s.nand.page then s.refuse stBusyMedia
    else
      let u1 := fillPages s.nand.page u ((args.drop 4).take n)
      { status := stOk, next := ({ s with cave := { s.cave with imgUpd := some u1 } }).updProgram }

/-- IMG_END: the last page is programmed, then the blocks the copy does not use are erased (R437). IMG_CHECK (0x41), which no rule gives
a command, is answered by none: NTC_IMAGE carries the check's result (R133; DESIGN CHOICE, log entry 135). -/
def State.cmdImgEnd (s : State) : Reply :=
  match s.cave.imgUpd with
  | none => s.refuse stImgState
  | some u =>
    if u.ended = true ∨ u.got < u.len then s.refuse stImgState
    else
      let u1 := { u with ended := true, buf := [], full := if u.buf.isEmpty then u.full else u.full ++ [u.buf] }
      let s1 : State := { s with cave := { s.cave with imgUpd := some u1 } }
      { status := stAccepted, next := if u1.full.isEmpty then s1.updEraseRest u1 else s1.updProgram }

/-- IMG_ABORT: block 0 of the partial copy is erased (R437). -/
def State.cmdImgAbort (s : State) : Reply :=
  match s.cave.imgUpd with
  | none => s.refuse stImgState
  | some u =>
    let s1 := s.dropJobs (fun k => decide (k = .imgPage) || decide (k = .imgEnd) || decide (k = .imgCheck))
    { status := stOk
      next := (({ s1 with cave := { s1.cave with imgUpd := none } }).addJob (.imgDrop u.slot) 3 [.erase (u.used.getD 0 0)]).nandPick }

/-! ### Records and the log (R436, R474) -/

/-- The bytes of a record from an offset (Table Link.3). -/
def State.recordReply (s : State) (body : List Byte) (off : Nat) : Reply :=
  if body.length ≤ off then s.refuse stBadArg
  else
    let d := (body.drop off).take 56
    { status := stOk, detail := d.length, data := d, next := s }

/-- The cave has mounted. -/
def State.caveServes (s : State) : Bool := s.cave.mode == .mounted || s.cave.mode == .readonly || s.cave.mode == .failed

/-- REC_READ: from the cache, or FETCHING while the record is read; a record with no valid version has no bytes (log entry 60). -/
def State.cmdRecRead (s : State) (args : List Byte) : Reply :=
  let key := frameNat args 4 2
  let off := frameNat args 6 2
  let kind := if key = 0xFFFF then 2 else 1
  let index := if key = 0xFFFF then 0 else key
  if 255 < key ∧ key ≠ 0xFFFF then s.refuse stBadArg
  else if !s.caveServes then s.refuse stFetching
  else match s.cachedRecord key with
    | some (body, t) => t.recordReply body off
    | none =>
      if s.hasJob (.recFetch kind index) then s.refuse stFetching
      else match (if s.cave.mode = .failed then none else s.currentSlot kind index) with
        | none => s.refuse stBadArg
        | some p => { status := stFetching, next := s.addJob (.recFetch kind index) 1 ((s.slotRows p).map NandOp.read) }

/-- The whole of an entry (Table Cave.9). -/
def State.entryReply (s : State) (e : LogEntry) : Reply :=
  let d := e.bytes.take (12 + e.payload.length)
  { status := stOk, detail := d.length, data := d, next := s }

/-- LOG_READ: from a page buffer, or FETCHING while the entry's page is read. -/
def State.cmdLogRead (s : State) (args : List Byte) : Reply :=
  let num := frameNat args 4 4
  if !s.caveServes then s.refuse stFetching
  else match s.bufferedEntry num with
    | some e => s.entryReply e
    | none =>
      match (if s.cave.mode = .failed then none else s.entryRow num) with
      | none => s.refuse stBadArg
      | some row =>
        match s.cave.logCache with
        | some e =>
          if e.num = num then s.entryReply e
          else if s.hasJob (.logFetch num) then s.refuse stFetching
          else { status := stFetching, next := s.addJob (.logFetch num) 1 [.read row] }
        | none =>
          if s.hasJob (.logFetch num) then s.refuse stFetching
          else { status := stFetching, next := s.addJob (.logFetch num) 1 [.read row] }

/-! ### Self-tests (R177 to R179) -/

/-- The test of a unit, by its number. -/
def State.testOf (s : State) (unit : Nat) : SelfTest :=
  match unit with
  | 0 => s.cfg.testAngle
  | 1 => s.cfg.testAdcA
  | 2 => s.cfg.testAdcB
  | _ => s.cfg.testFusion

/-- NTC_SELFTEST with result 3 for a unit whose domain is off. -/
def State.testOff (s : State) (unit : Nat) : Reply :=
  { status := stAccepted, next := s.notice 0x07 (selftestPayload unit 3 0) }

/-- SELFTEST of a converter: at once on the spare, or once its domain and PD6 are ready (R177, R323). -/
def State.adcTestRequest (s : State) (x : Conv) (deadline : Nat) : Reply :=
  if !s.domainOn (4 + x.index) then s.testOff (1 + x.index)
  else { status := stAccepted, next := s.setAdcTest x (if s.convOn x then .running s.now deadline else .queued deadline) }

def State.cmdSelftest (s : State) (args : List Byte) : Reply :=
  let unit := frameNat args 4 1
  let secs := frameNat args 5 2
  let deadline := s.now + secAng (if secs = 0 then 60 else secs)
  if 3 < unit then s.refuse stBadArg
  else if s.testOf unit ≠ .idle then s.refuse stSelftestBusy
  else match unit with
    | 0 =>
      let t := ({ s with cfg := { s.cfg with testAngle := .queued deadline } }).angleTestStart
      { status := stAccepted, detail := if t.angleTesting then 0 else 1, next := t }
    | 1 => s.adcTestRequest .adcA deadline
    | 2 => s.adcTestRequest .adcB deadline
    | _ =>
      if s.domReady 9 then
        let t : SelfTest := if s.fus.mstate = .running then .queued deadline else .running s.now deadline
        { status := stAccepted, next := { s with cfg := { s.cfg with testFusion := t } } }
      else s.testOff 3

/-! ### Lifecycle (R557, R558) -/

def State.cmdChallenge (s : State) (args : List Byte) : Reply :=
  let target := frameNat args 4 1
  match s.challengeRefusal target with
  | some (st, d) => s.refuse st d
  | none =>
    let t := s.issueChallenge target
    { status := stOk, data := (t.liveChallenge.map (fun c => c.bytes)).getD [], next := t }

/-- Part 0 supplies r, part 1 supplies s and verifies; any other part is outside its range. -/
def State.cmdRespond (s : State) (args : List Byte) : Reply :=
  let value := (args.drop 4).take 32
  match frameNat args 4 1 with
  | 0 => { status := stOk, next := s.supplyR value }
  | 1 =>
    let r := s.verify value
    { status := r.1, detail := r.2.1, next := r.2.2 }
  | _ => s.refuse stBadArg

/-! ### Frames -/

/-- A command frame of an opcode, with the argument bytes it needs. -/
def State.frame (s : State) (op need : Nat) (entryOk : Bool) (body : State → Reply) (seq : BitVec 16) (args : List Byte) : State :=
  let addrs := if op = 0x10 then wordAddrs (frameNat args 4 3) (Nat.min 14 (frameNat args 7 1)) else []
  s.command op need (fun s => s.serves op addrs) entryOk body seq.toNat args

/-- BAD_OPCODE: an OP that is not in Table Link.3 is answered so in every mode (R129). -/
def State.badOpcode (s : State) (seq : BitVec 16) (op : Nat) (args : List Byte) : State :=
  s.command op 0 (fun _ => true) true (fun s => s.refuse stBadOpcode) seq.toNat args

/-- The opcodes of Table Link.3. -/
def knownOps : List Nat :=
  [0x01, 0x02, 0x10, 0x11, 0x12, 0x20, 0x21, 0x22, 0x23, 0x30, 0x31, 0x32, 0x33, 0x40, 0x41, 0x50, 0x60, 0x61]

end Sys2Proof.Machine
end

