-- ==== Sys2Proof/Machine/ExecConfig.lean ====
section
/-!
DEFINITION. The register bus, the CLK_LF crossings, live configuration and the self-tests' start (R7, R43, R158 to R190). What each command of the family does, after the time that has passed before it.
-/

namespace Sys2Proof.Machine

/-- REGISTER_WRITE (R7). -/
def execRegisterWrite (dt : Span) (m : Master) (addr : BitVec 24) (value : Word) (s : State) : Out :=
  .next ((s.elapse dt).busWrite m addr.toNat value)

/-- LF_WRITE_DONE (R43). -/
def execLfWriteDone (dt : Span) (block : LfBlock) (s : State) : Out := .next ((s.elapse dt).lfWriteDone block)

/-- CFG_STAGE_CLOSE (R171). -/
def execCfgStageClose (dt : Span) (m : Master) (s : State) : Out := .next ((s.elapse dt).busWrite m 0x20010 1)

/-- CFG_HOLDSET (R172). -/
def execCfgHoldset (dt : Span) (m : Master) (mask : Word) (s : State) : Out := .next ((s.elapse dt).busWrite m 0x20014 mask)

/-- COMMIT_POINT (R166). -/
def execCommitPoint (dt : Span) (s : State) : Out := .next ((s.elapse dt).commitPoint)

/-- COMMIT_DMA_WAIT_END (R170). -/
def execCommitDmaWaitEnd (dt : Span) (s : State) : Out := .next ((s.elapse dt).whileRunning (fun e => e.commitWaitEnd))

/-- ARM_TIMEOUT (R168). -/
def execArmTimeout (dt : Span) (s : State) : Out := .next ((s.elapse dt).whileRunning (fun e => e.armTimeout))

/-- STAGE_TIMEOUT (R176). -/
def execStageTimeout (dt : Span) (s : State) : Out := .next ((s.elapse dt).whileRunning (fun e => e.stageTimeout))

/-- ANGLE_SELFTEST_START (R177). -/
def execAngleSelftestStart (dt : Span) (s : State) : Out := .next ((s.elapse dt).angleTestStart)

/-- ANGLE_SELFTEST_END (R178). -/
def execAngleSelftestEnd (dt : Span) (pass : Bool) (detail : Word) (s : State) : Out :=
  .next ((s.elapse dt).whileRunning (fun e => State.fusWheels e (e.angleTestEnd pass detail)))

/-- SELFTEST_DEFERRED_TIMEOUT (R179). -/
def execSelftestDeferredTimeout (dt : Span) (s : State) : Out := .next ((s.elapse dt).whileRunning (fun e => e.selftestDeferred))

/-- ADC_SELFTEST_DONE (R334). -/
def execAdcSelftestDone (dt : Span) (x : Conv) (readings : AdcTest) (s : State) : Out := .next ((s.elapse dt).adcTestDone x readings)

end Sys2Proof.Machine
end

