-- ==== Sys2Proof/Machine/ExecConvert.lean ====
section
/-!
DEFINITION. The converters, their sequences and the comparators (R320 to R379). What each command of the family does, after the time that has passed before it.
-/

namespace Sys2Proof.Machine

/-- SEQUENCE_TRIGGER (R359). -/
def execSequenceTrigger (dt : Span) (x : Conv) (inj : Bool) (s : State) : Out :=
  .next ((s.elapse dt).whileRunning (fun e => e.sequenceTrigger x inj))

/-- SOFTWARE_TRIGGER (R356). -/
def execSoftwareTrigger (dt : Span) (m : Master) (mask : BitVec 4) (s : State) : Out :=
  .next ((s.elapse dt).busWrite m 0x81000 (mask.zeroExtend 32))

/-- SEQUENCE_STOP (R361). -/
def execSequenceStop (dt : Span) (m : Master) (mask : BitVec 4) (s : State) : Out :=
  .next ((s.elapse dt).busWrite m 0x81000 ((mask.zeroExtend 32) <<< 8))

/-- CONVERSION_START (R358). -/
def execConversionStart (dt : Span) (x : Conv) (inj : Bool) (s : State) : Out :=
  .next ((s.elapse dt).whileRunning (fun e => e.conversionStart x inj))

/-- CONVERSION_DONE (R362). -/
def execConversionDone (dt : Span) (x : Conv) (slice : Fin 9) (raw : BitVec 16) (excess : Bool) (rawP : BitVec 16) (excessP : Bool) (s : State) : Out :=
  .next ((s.elapse dt).whileRunning (fun e => e.conversionDone x slice raw excess rawP excessP))

/-- SLICE_TIMEOUT (R341). -/
def execSliceTimeout (dt : Span) (x : Conv) (slice : Fin 9) (rawP : BitVec 16) (excessP : Bool) (s : State) : Out :=
  .next ((s.elapse dt).whileRunning (fun e => e.sliceTimeout x slice rawP excessP))

/-- CALIBRATION_PASS_DONE (R332). -/
def execCalibrationPassDone (dt : Span) (x : Conv) (low : List (BitVec 16)) (mid : List (BitVec 16)) (high : List (BitVec 16)) (s : State) : Out :=
  .next ((s.elapse dt).passDone x low mid high)

/-- ROTATION_BOUNDARY (R333). -/
def execRotationBoundary (dt : Span) (x : Conv) (s : State) : Out := .next ((s.elapse dt).rotationBoundary x)

/-- SPARE_HANDOVER (R333). -/
def execSpareHandover (dt : Span) (x : Conv) (s : State) : Out := .next ((s.elapse dt).whileRunning (fun e => e.spareHandover x))

/-- COMPARATOR_ENTER (R338). -/
def execComparatorEnter (dt : Span) (c : Fin 16) (samples : List Int) (s : State) : Out :=
  .next ((s.elapse dt).comparatorEnter c samples)

/-- COMPARATOR_LEAVE (R338). -/
def execComparatorLeave (dt : Span) (c : Fin 16) (samples : List Int) (s : State) : Out :=
  .next ((s.elapse dt).comparatorLeave c samples)

/-- COMPARATOR_READY (R338). -/
def execComparatorReady (dt : Span) (c : Fin 16) (samples : List Int) (s : State) : Out :=
  .next ((s.elapse dt).comparatorReady c samples)

/-- REFERENCE_FAULT (R344). -/
def execReferenceFault (dt : Span) (x : Conv) (s : State) : Out := .next ((s.elapse dt).whileRunning (fun e => e.referenceFault x))

end Sys2Proof.Machine
end

