-- ==== Sys2Proof/Machine/ExecDma.lean ====
section
/-!
DEFINITION. The DMA (R380 to R414). What each command of the family does, after the time that has passed before it.
-/

namespace Sys2Proof.Machine

/-- DMA_START (R384). -/
def execDmaStart (dt : Span) (n : Fin 16) (s : State) : Out := .next ((s.elapse dt).busWrite .link (dmaBase n + 8) 1)

/-- DMA_ABORT (R409). -/
def execDmaAbort (dt : Span) (n : Fin 16) (s : State) : Out := .next ((s.elapse dt).busWrite .link (dmaBase n + 8) 2)

/-- DMA_RESUME (R411). -/
def execDmaResume (dt : Span) (n : Fin 16) (s : State) : Out := .next ((s.elapse dt).busWrite .link (dmaBase n + 8) 4)

/-- SIGNAL_DELIVERY (R392). -/
def execSignalDelivery (dt : Span) (m : Master) (n : Fin 16) (mask : BitVec 16) (s : State) : Out :=
  .next ((s.elapse dt).busWrite m (dmaBase n + 0x14) (mask.zeroExtend 32))

/-- SIGCLR (R392). -/
def execSigclr (dt : Span) (m : Master) (n : Fin 16) (mask : BitVec 16) (s : State) : Out :=
  .next ((s.elapse dt).busWrite m (dmaBase n + 0x18) (mask.zeroExtend 32))

/-- LVLDEC (R403). -/
def execLvldec (dt : Span) (m : Master) (n : Fin 16) (amount : BitVec 16) (s : State) : Out :=
  .next ((s.elapse dt).busWrite m (dmaBase n + 0x34) (amount.zeroExtend 32))

/-- TLB_INVALIDATE (R398). -/
def execTlbInvalidate (dt : Span) (value : Word) (s : State) : Out := .next ((s.elapse dt).busWrite .link 0x90840 value)

/-- MOVE (R387). -/
def execDmaMove (dt : Span) (n : Fin 16) (s : State) : Out := .next ((s.elapse dt).opMove n)

/-- DMA_BEAT (R394). -/
def execDmaBeat (dt : Span) (s : State) : Out := .next ((s.elapse dt).dmaBeat)

/-- LOOP (R390). -/
def execDmaLoop (dt : Span) (n : Fin 16) (s : State) : Out := .next ((s.elapse dt).opLoop n)

/-- ENDLOOP (R390). -/
def execDmaEndloop (dt : Span) (n : Fin 16) (s : State) : Out := .next ((s.elapse dt).opEndLoop n)

/-- WAIT (R391). -/
def execDmaWait (dt : Span) (n : Fin 16) (s : State) : Out := .next ((s.elapse dt).opWait n)

/-- WAIT_COMPLETE (R391). -/
def execWaitComplete (dt : Span) (n : Fin 16) (s : State) : Out := .next ((s.elapse dt).whileRunning (fun e => e.waitComplete n))

/-- SIGNAL (R392). -/
def execDmaSignal (dt : Span) (n : Fin 16) (s : State) : Out := .next ((s.elapse dt).opSignal n)

/-- SET (R393). -/
def execDmaSet (dt : Span) (n : Fin 16) (s : State) : Out := .next ((s.elapse dt).opSet n)

/-- END (R393). -/
def execDmaEnd (dt : Span) (n : Fin 16) (s : State) : Out := .next ((s.elapse dt).opEnd n)

end Sys2Proof.Machine
end

