-- ==== Sys2Proof/Machine/ExecEvents.lean ====
section
/-!
DEFINITION. The event queues and the timers (R251 to R319). What each command of the family does, after the time that has passed before it.
-/

namespace Sys2Proof.Machine

/-- EVENT_INSERT (R251). -/
def execEventInsert (dt : Span) (m : Master) (ctl : Word) (s : State) : Out := .next ((s.elapse dt).busWrite m 0x4080C ctl)

/-- EVENT_DUE (R255). -/
def execEventDue (dt : Span) (n : Fin 32) (s : State) : Out := .next ((s.elapse dt).whileRunning (fun e => e.stepTwo.eventDue n))

/-- PULSE_END (R259). -/
def execPulseEnd (dt : Span) (n : Fin 32) (s : State) : Out := .next ((s.elapse dt).whileRunning (fun e => e.stepTwo.pulseEnd n))

/-- PROBE_SAMPLE (R260). -/
def execProbeSample (dt : Span) (n : Fin 32) (s : State) : Out := .next ((s.elapse dt).whileRunning (fun e => e.probeSample n))

/-- QUEUE_FLUSH (R276). -/
def execQueueFlush (dt : Span) (m : Master) (mask : Word) (s : State) : Out := .next ((s.elapse dt).busWrite m 0x40870 mask)

/-- CHOP_TIMED_END (R265). -/
def execChopTimedEnd (dt : Span) (n : Fin 32) (s : State) : Out := .next ((s.elapse dt).whileRunning (fun e => e.chopTimedEnd n))

/-- DEAD_TIME_END (R263). -/
def execDeadTimeEnd (dt : Span) (k : Fin 16) (s : State) : Out := .next ((s.elapse dt).whileRunning (fun e => e.deadTimeEnd k))

/-- TIMER_RELEASE (R293). -/
def execTimerRelease (dt : Span) (mask : BitVec 16) (s : State) : Out :=
  .next ((s.elapse dt).whileAwake (fun e => e.timerRelease mask.toNat))

/-- TIMER_WRAP (R291). -/
def execTimerWrap (dt : Span) (n : Fin 16) (s : State) : Out :=
  .next ((s.elapse dt).whileAwake (fun e => if e.wrapDue n then ((e.wrapStart n).stepTwo).wrapEnd n else e))

/-- TIMER_MATCH (R296). -/
def execTimerMatch (dt : Span) (n : Fin 16) (chanB : Bool) (s : State) : Out :=
  .next ((s.elapse dt).whileAwake (fun e => if chanB then e.stepTwo.timerMatchB n else e.stepTwo.timerMatchA n))

/-- TIMER_RESET_LOAD (R300). -/
def execTimerResetLoad (dt : Span) (n : Fin 16) (s : State) : Out := .next ((s.elapse dt).whileAwake (fun e => e.timerResetLoad n))

/-- TIMER_CAPTURE (R303). -/
def execTimerCapture (dt : Span) (n : Fin 16) (pin : Option Bool) (s : State) : Out :=
  .next ((s.elapse dt).whileAwake (fun e => e.stepTwo.timerCapture n pin))

/-- TMR_SWCAP (R302). -/
def execTmrSwcap (dt : Span) (m : Master) (mask : BitVec 16) (s : State) : Out :=
  .next ((s.elapse dt).busWrite m 0x50804 (mask.zeroExtend 32))

/-- COMPARE_WRITE (R297). -/
def execCompareWrite (dt : Span) (m : Master) (n : Fin 16) (chanB : Bool) (value : Word) (s : State) : Out :=
  .next ((s.elapse dt).busWrite m (tmrBase n + if chanB then 0x4C else 0x44) value)

/-- COMPARE_HIGH_WRITE (R305). -/
def execCompareHighWrite (dt : Span) (m : Master) (n : Fin 16) (chanB : Bool) (value : Word) (s : State) : Out :=
  .next ((s.elapse dt).busWrite m (tmrBase n + if chanB then 0x48 else 0x40) value)

/-- TIMER_LATCHED_READ (R304). -/
def execTimerLatchedRead (dt : Span) (m : Master) (n : Fin 16) (cap : Bool) (s : State) : Out :=
  .next ((s.elapse dt).busRead' m (tmrBase n + if cap then 0x38 else 0x30))

end Sys2Proof.Machine
end

