-- ==== Sys2Proof/Machine/ExecFusion.lean ====
section
/-!
DEFINITION. The fusion engine and the inertial sensors (R488 to R518). What each command of the family does, after the time that has passed before it.
-/

namespace Sys2Proof.Machine

/-- FUSION_TICK (R488). -/
def execFusionTick (dt : Span) (s : State) : Out := .next ((s.elapse dt).fusionTick)

/-- HEAD_RUN_DONE (R488). -/
def execHeadRunDone (dt : Span) (s : State) : Out := .next ((s.elapse dt).headDone)

/-- CELL_CLOSE (R500). -/
def execCellClose (dt : Span) (s : State) : Out := .next ((s.elapse dt).cellClose)

/-- ENCODER_RUN_DONE (R501). -/
def execEncoderRunDone (dt : Span) (s : State) : Out := .next ((s.elapse dt).encoderDone)

/-- IMU_FETCH (R496). -/
def execImuFetch (dt : Span) (n : Fin 2) (s : State) : Out := .next ((s.elapse dt).imuFetch n)

/-- IMU_FETCH_DONE (R496). -/
def execImuFetchDone (dt : Span) (n : Fin 2) (response : List Byte) (s : State) : Out := .next ((s.elapse dt).imuFetchDone n response)

/-- IMU_INIT (R495). -/
def execImuInit (dt : Span) (n : Fin 2) (who : Byte) (s : State) : Out := .next ((s.elapse dt).imuInit n who)

/-- FUSCAL_WRITE (R499). -/
def execFuscalWrite (dt : Span) (n : Fin 2) (s : State) : Out := .next ((s.elapse dt).fuscalTick n)

/-- WEIGHT_CHECK (R512). -/
def execWeightCheck (dt : Span) (flips : List (Nat × Byte)) (dense : Bool) (track : Bool) (s : State) : Out :=
  .next ((s.elapse dt).whileRunning (fun e => e.weightCheck flips dense track))

/-- FUSION_SELFTEST_DONE (R512). -/
def execFusionSelftestDone (dt : Span) (s : State) : Out := .next ((s.elapse dt).whileRunning (fun e => e.fusionTestDone))

/-- FUSION_SLOT_WRITE (R492). -/
def execFusionSlotWrite (dt : Span) (m : Master) (slot : Fin 32) (value : Word) (s : State) : Out :=
  .next ((s.elapse dt).busWrite m (0xC0800 + 4 * slot.val) value)

/-- SLOT_STALE (R492). -/
def execSlotStale (dt : Span) (slot : Fin 32) (s : State) : Out := .next ((s.elapse dt).markStale slot)

end Sys2Proof.Machine
end

