-- ==== Sys2Proof/Machine/ExecLife.lean ====
section
/-!
DEFINITION. Life cycle, authentication, JTAG and health (R555 to R596, R613). What each command of the family does, after the time that has passed before it.
-/

namespace Sys2Proof.Machine

/-- LCSPORT_CHALLENGE (R566). -/
def execLcsportChallenge (dt : Span) (target : BitVec 8) (s : State) : Out := .next ((s.elapse dt).portChallenge target.toNat)

/-- LCSPORT_READCH (R566). -/
def execLcsportReadch (dt : Span) (index : BitVec 8) (s : State) : Out := .next ((s.elapse dt).portReadch index.toNat)

/-- LCSPORT_LOADR (R566). -/
def execLcsportLoadr (dt : Span) (index : BitVec 8) (value : Word) (s : State) : Out :=
  .next ((s.elapse dt).portLoadr index.toNat value)

/-- LCSPORT_LOADS (R566). -/
def execLcsportLoads (dt : Span) (index : BitVec 8) (value : Word) (s : State) : Out :=
  .next ((s.elapse dt).portLoads index.toNat value)

/-- LCSPORT_VERIFY (R566). -/
def execLcsportVerify (dt : Span) (s : State) : Out := .next ((s.elapse dt).portVerify)

/-- LCSPORT_GO (R566). -/
def execLcsportGo (dt : Span) (s : State) : Out := .next ((s.elapse dt).portGo)

/-- LIFECYCLE_RESET (R561). -/
def execLifecycleReset (dt : Span) (s : State) : Out := .next ((s.elapse dt).lifecycleReset)

/-- CHALLENGE_LAPSE (R559). -/
def execChallengeLapse (dt : Span) (s : State) : Out := .next ((s.elapse dt).challengeLapse)

/-- LOCKOUT_END (R560). -/
def execLockoutEnd (dt : Span) (s : State) : Out := .next ((s.elapse dt).lockoutEnd)

/-- OP_SIGKEY (R563). -/
def execOpSigkey (dt : Span) (s : State) : Out := .next ((s.elapse dt).opGoOf 1)

/-- OP_LKEY (R563). -/
def execOpLkey (dt : Span) (s : State) : Out := .next ((s.elapse dt).opGoOf 2)

/-- OP_IMGKEY (R563). -/
def execOpImgkey (dt : Span) (s : State) : Out := .next ((s.elapse dt).opGoOf 3)

/-- OP_REVOKE (R563). -/
def execOpRevoke (dt : Span) (s : State) : Out := .next ((s.elapse dt).opGoOf 4)

/-- OP_MINVER (R563). -/
def execOpMinver (dt : Span) (s : State) : Out := .next ((s.elapse dt).opGoOf 5)

/-- OP_STOREWRITE (R563). -/
def execOpStorewrite (dt : Span) (s : State) : Out := .next ((s.elapse dt).opGoOf 6)

/-- OP_POLICY (R564). -/
def execOpPolicy (dt : Span) (s : State) : Out := .next ((s.elapse dt).opGoOf 7)

/-- LCS_OPERATION_DONE (R564). -/
def execLcsOperationDone (dt : Span) (fail : Bool) (s : State) : Out := .next ((s.elapse dt).opDone' fail)

/-- WIPEPEND_CLEARS (R562). -/
def execWipependClears (dt : Span) (s : State) : Out := .next ((s.elapse dt).wipeLeft)

/-- DBGACC (R566). -/
def execDbgacc (dt : Span) (write : Bool) (addr : BitVec 24) (value : Word) (s : State) : Out :=
  .next ((s.elapse dt).debugAccess write addr.toNat value)

/-- DEBUG_HALT (R567). -/
def execDebugHalt (dt : Span) (halt : Bool) (s : State) : Out := .next ((s.elapse dt).debugHalt halt)

/-- MEMTEST (R568). -/
def execMemtest (dt : Span) (target : BitVec 4) (alg : BitVec 4) (go : Bool) (s : State) : Out :=
  .next ((s.elapse dt).memtest target.toNat alg.toNat go)

/-- MEMTEST_DONE (R566). -/
def execMemtestDone (dt : Span) (failing : Nat) (s : State) : Out := .next ((s.elapse dt).memtestDone failing)

/-- DBGRST (R566). -/
def execDbgrst (dt : Span) (s : State) : Out := .next ((s.elapse dt).debugReset)

/-- TAP_UPDATE_IR (R565). -/
def execTapUpdateIr (dt : Span) (code : Option (BitVec 5)) (s : State) : Out :=
  .next ((s.elapse dt).tapUpdateIr (code.map BitVec.toNat))

/-- EXTEST_UPDATE (R613). -/
def execExtestUpdate (dt : Span) (cells : List (Nat × Bool)) (s : State) : Out := .next ((s.elapse dt).extest cells)

/-- HEALTH_TEMP_READ (R576). -/
def execHealthTempRead (dt : Span) (centi : Int) (s : State) : Out := .next ((s.elapse dt).healthTemp centi)

/-- HLT_CLR (R592). -/
def execHltClr (dt : Span) (m : Master) (value : Word) (s : State) : Out := .next ((s.elapse dt).busWrite m 0x10002C value)

/-- HEALTH_RECORD_WRITE (R589). -/
def execHealthRecordWrite (dt : Span) (s : State) : Out := .next ((s.elapse dt).healthTick)

end Sys2Proof.Machine
end

