-- ==== Sys2Proof/Machine/ExecLink.lean ====
section
/-!
DEFINITION. The Jornus link and its commands (R119 to R157). What each command of the family does, after the time that has passed before it.
-/

namespace Sys2Proof.Machine

/-- PING (R129). -/
def execPing (dt : Span) (seq : BitVec 16) (args : List Byte) (s : State) : Out :=
  .next ((s.elapse dt).frame 0x01 0 true State.cmdPing seq args)

/-- RESET (R132). -/
def execReset (dt : Span) (seq : BitVec 16) (args : List Byte) (s : State) : Out :=
  .next ((s.elapse dt).frame 0x02 2 false (fun v => v.cmdReset args) seq args)

/-- READ (R130). -/
def execRead (dt : Span) (seq : BitVec 16) (args : List Byte) (s : State) : Out :=
  .next ((s.elapse dt).frame 0x10 4 true (fun v => v.cmdRead args) seq args)

/-- WRITE (R130). -/
def execWrite (dt : Span) (seq : BitVec 16) (args : List Byte) (s : State) : Out :=
  .next ((s.elapse dt).frame 0x11 (writeNeed args) false (fun v => v.cmdWrite args) seq args)

/-- MODIFY (R131). -/
def execModify (dt : Span) (seq : BitVec 16) (args : List Byte) (s : State) : Out :=
  .next ((s.elapse dt).frame 0x12 12 false (fun v => v.cmdModify args) seq args)

/-- TXN_OPEN (R158). -/
def execTxnOpen (dt : Span) (seq : BitVec 16) (args : List Byte) (s : State) : Out :=
  .next ((s.elapse dt).frame 0x20 4 false (fun v => v.cmdTxnOpen args) seq args)

/-- TXN_COMMIT (R164). -/
def execTxnCommit (dt : Span) (seq : BitVec 16) (args : List Byte) (s : State) : Out :=
  .next ((s.elapse dt).frame 0x21 0 false State.cmdTxnCommit seq args)

/-- TXN_ABORT (R158). -/
def execTxnAbort (dt : Span) (seq : BitVec 16) (args : List Byte) (s : State) : Out :=
  .next ((s.elapse dt).frame 0x22 0 false State.cmdTxnAbort seq args)

/-- TXN_STATUS (R129). -/
def execTxnStatus (dt : Span) (seq : BitVec 16) (args : List Byte) (s : State) : Out :=
  .next ((s.elapse dt).frame 0x23 0 false State.cmdTxnStatus seq args)

/-- IMG_BEGIN (R437). -/
def execImgBegin (dt : Span) (seq : BitVec 16) (args : List Byte) (s : State) : Out :=
  .next ((s.elapse dt).frame 0x30 4 false (fun v => v.cmdImgBegin args) seq args)

/-- IMG_DATA (R437). -/
def execImgData (dt : Span) (seq : BitVec 16) (args : List Byte) (s : State) : Out :=
  .next ((s.elapse dt).frame 0x31 (imgNeed args) false (fun v => v.cmdImgData args) seq args)

/-- IMG_END (R437). -/
def execImgEnd (dt : Span) (seq : BitVec 16) (args : List Byte) (s : State) : Out :=
  .next ((s.elapse dt).frame 0x32 0 false State.cmdImgEnd seq args)

/-- IMG_ABORT (R437). -/
def execImgAbort (dt : Span) (seq : BitVec 16) (args : List Byte) (s : State) : Out :=
  .next ((s.elapse dt).frame 0x33 0 false State.cmdImgAbort seq args)

/-- REC_READ (R474). -/
def execRecRead (dt : Span) (seq : BitVec 16) (args : List Byte) (s : State) : Out :=
  .next ((s.elapse dt).frame 0x40 4 false (fun v => v.cmdRecRead args) seq args)

/-- LOG_READ (R436). -/
def execLogRead (dt : Span) (seq : BitVec 16) (args : List Byte) (s : State) : Out :=
  .next ((s.elapse dt).frame 0x41 4 false (fun v => v.cmdLogRead args) seq args)

/-- SELFTEST (R177). -/
def execSelftest (dt : Span) (seq : BitVec 16) (args : List Byte) (s : State) : Out :=
  .next ((s.elapse dt).frame 0x50 3 false (fun v => v.cmdSelftest args) seq args)

/-- LCS_CHALLENGE (R557). -/
def execLcsChallenge (dt : Span) (seq : BitVec 16) (args : List Byte) (s : State) : Out :=
  .next ((s.elapse dt).frame 0x60 1 false (fun v => v.cmdChallenge args) seq args)

/-- LCS_RESPOND (R558). -/
def execLcsRespond (dt : Span) (seq : BitVec 16) (args : List Byte) (s : State) : Out :=
  .next ((s.elapse dt).frame 0x61 36 false (fun v => v.cmdRespond args) seq args)

/-- BAD_OPCODE (R129). -/
def execBadOpcode (dt : Span) (seq : BitVec 16) (op : Byte) (args : List Byte) (s : State) : Out :=
  .next (if knownOps.contains op.toNat then s.elapse dt else (s.elapse dt).badOpcode seq op.toNat args)

/-- ACK (R140). -/
def execAck (dt : Span) (number : BitVec 16) (s : State) : Out := .next ((s.elapse dt).ack number.toNat)

/-- IGNORED_FRAME (R125). -/
def execIgnoredFrame (dt : Span) (frame : BusFrame) (s : State) : Out := .next ((s.elapse dt).ignoredFrame frame)

/-- NOTICE_TRANSMIT (R139). -/
def execNoticeTransmit (dt : Span) (s : State) : Out := .next ((s.elapse dt).transmitNotice)

/-- GO_BACK (R141). -/
def execGoBack (dt : Span) (s : State) : Out := .next ((s.elapse dt).goBack)

/-- LINK_STALE (R142). -/
def execLinkStale (dt : Span) (s : State) : Out := .next ((s.elapse dt).linkStale)

/-- BUS_OFF (R153). -/
def execBusOff (dt : Span) (s : State) : Out := .next ((s.elapse dt).busOff)

/-- BUS_OFF_RECOVERY (R153). -/
def execBusOffRecovery (dt : Span) (s : State) : Out := .next ((s.elapse dt).busOffRecovery)

/-- LINK_SETTINGS_APPLY (R151). -/
def execLinkSettingsApply (dt : Span) (s : State) : Out := .next ((s.elapse dt).whileRunning (fun e => e.applyLinkSettings))

/-- ERROR_PASSIVE (R154). -/
def execErrorPassive (dt : Span) (tec : BitVec 9) (rec : BitVec 8) (s : State) : Out :=
  .next ((s.elapse dt).errorPassive tec.toNat rec.toNat)

/-- BUS_INTEGRATION_DONE (R84). -/
def execBusIntegrationDone (dt : Span) (s : State) : Out := .next ((s.elapse dt).busIntegrated)

end Sys2Proof.Machine
end

