-- ==== Sys2Proof/Machine/ExecPower.lean ====
section
/-!
DEFINITION. Clocks, power, resets and start-up (R40 to R118). What each command of the family does, after the time that has passed before it.
-/

namespace Sys2Proof.Machine

/-- The word written to PWR_REQ (Table Power.8). -/
def requestWord (key : BitVec 16) (req : Nat) : Word := BitVec.ofNat 32 (key.toNat * 65536 + req)

/-- POR (R78). -/
def execPor (dt : Span) (s : State) : Out := .next ((s.elapse dt).por)

/-- PIN_RESET (R79). -/
def execPinReset (dt : Span) (s : State) : Out := .next ((s.elapse dt).pinReset)

/-- BOR (R73). -/
def execBor (dt : Span) (s : State) : Out := .next ((s.elapse dt).brownOut)

/-- CLOCK_FAILURE (R72). -/
def execClockFailure (dt : Span) (s : State) : Out := .next ((s.elapse dt).clockFailure)

/-- PLL_LOCK_TIMEOUT (R72). -/
def execPllLockTimeout (dt : Span) (s : State) : Out := .next ((s.elapse dt).pllTimeout)

/-- VIO_LOW (R73). -/
def execVioLow (dt : Span) (s : State) : Out := .next ((s.elapse dt).vioLow)

/-- VIO_RECOVERED (R73). -/
def execVioRecovered (dt : Span) (s : State) : Out := .next ((s.elapse dt).vioRecovered)

/-- LF_CRYSTAL_START (R40). -/
def execLfCrystalStart (dt : Span) (s : State) : Out := .next ((s.elapse dt).lfCrystalStart)

/-- LFXFAIL (R40). -/
def execLfxfail (dt : Span) (s : State) : Out := .next ((s.elapse dt).lfxFail)

/-- LFSWITCH (R41). -/
def execLfswitch (dt : Span) (s : State) : Out := .next ((s.elapse dt).lfSwitch)

/-- LFCAL_WINDOW_END (R42). -/
def execLfcalWindowEnd (dt : Span) (count : Nat) (s : State) : Out := .next ((s.elapse dt).lfcalWindow count)

/-- DOMAIN_READY (R46). -/
def execDomainReady (dt : Span) (n : Fin 14) (s : State) : Out := .next ((s.elapse dt).domainReady n)

/-- STANDBY_REQUEST (R51). -/
def execStandbyRequest (dt : Span) (key : BitVec 16) (s : State) : Out := .next ((s.elapse dt).landNow 0x110004 (requestWord key 1))

/-- SHIP_REQUEST (R61). -/
def execShipRequest (dt : Span) (key : BitVec 16) (s : State) : Out := .next ((s.elapse dt).landNow 0x110004 (requestWord key 2))

/-- AUTOSBY_IDLE (R50). -/
def execAutosbyIdle (dt : Span) (s : State) : Out := .next ((s.elapse dt).autosby)

/-- STANDBY_ENTRY_STEP_DONE (R52). -/
def execStandbyEntryStepDone (dt : Span) (s : State) : Out := .next ((s.elapse dt).entryStepDone)

/-- ENTRY_DMA_DRAIN_TIMEOUT (R52). -/
def execEntryDmaDrainTimeout (dt : Span) (s : State) : Out := .next ((s.elapse dt).entryDmaTimeout)

/-- NTC_POWER_ACK_TIMEOUT (R52). -/
def execNtcPowerAckTimeout (dt : Span) (s : State) : Out := .next ((s.elapse dt).entryAckTimeout)

/-- STANDBY_ENTRY_TIMEOUT (R53). -/
def execStandbyEntryTimeout (dt : Span) (s : State) : Out := .next ((s.elapse dt).entryTimeout)

/-- WAKE_SOURCE_LATCH (R55). -/
def execWakeSourceLatch (dt : Span) (wakein : Bool) (s : State) : Out := .next ((s.elapse dt).wakeLatch wakein)

/-- RUN_REACHED (R56). -/
def execRunReached (dt : Span) (s : State) : Out := .next ((s.elapse dt).runReached)

/-- SHIP_FAILURE (R63). -/
def execShipFailure (dt : Span) (s : State) : Out := .next ((s.elapse dt).shipFailure)

/-- VAON_LOSS (R73). -/
def execVaonLoss (dt : Span) (s : State) : Out := .next ((s.elapse dt).vaonLoss)

/-- VDD5_VALID (R76). -/
def execVdd5Valid (dt : Span) (late : Bool) (s : State) : Out := .next ((s.elapse dt).vdd5Valid late)

/-- RSTN_RELEASE (R79). -/
def execRstnRelease (dt : Span) (s : State) : Out := .next ((s.elapse dt).rstnRelease)

/-- HOST_RESET (R132). -/
def execHostReset (dt : Span) (s : State) : Out := .next ((s.elapse dt).whileRunning (fun e => e.hostReset))

/-- NAND_POWERUP_WAIT_END (R82). -/
def execNandPowerupWaitEnd (dt : Span) (probe : NandProbe) (s : State) : Out := .next ((s.elapse dt).nandWaitEnd probe)

/-- NAND_OP_COMPLETE (R417). -/
def execNandOpComplete (dt : Span) (fail : Bool) (errors : List Nat) (s : State) : Out :=
  .next ((s.elapse dt).whileNandUp (fun e => e.nandOpEnd fail errors))

/-- NAND_TIMEOUT (R83). -/
def execNandTimeout (dt : Span) (s : State) : Out := .next ((s.elapse dt).whileNandUp (fun e => e.nandTimeout))

/-- LOAD_COMMIT (R110). -/
def execLoadCommit (dt : Span) (s : State) : Out := .next ((s.elapse dt).loadCommit)

/-- MODEL_LOAD_DONE (R106). -/
def execModelLoadDone (dt : Span) (s : State) : Out := .next ((s.elapse dt).whileRunning (fun e => e.modelLoadDone))

/-- IMAGE_REPAIR_END (R111). -/
def execImageRepairEnd (dt : Span) (s : State) : Out := .next ((s.elapse dt).whileRunning (fun e => e.imageRepairEnd))

end Sys2Proof.Machine
end

