-- ==== Sys2Proof/Machine/ExecRind.lean ====
section
/-!
DEFINITION. The rind, the alarm and the lock (R519 to R554). What each command of the family does, after the time that has passed before it.
-/

namespace Sys2Proof.Machine

/-- RIND_INPUT_CHANGE; a charger that attaches ends a SHIP entry (R69, R523). -/
def execRindInputChange (dt : Span) (changes : List (Fin 6 × InLevel)) (tamper : Option (InLevel × InLevel)) (s : State) : Out :=
  .next (((s.elapse dt).rindSample changes tamper).chargerCheck)

/-- COUNT_WINDOW_CLOSE (R525). -/
def execCountWindowClose (dt : Span) (k : Fin 16) (s : State) : Out := .next ((s.elapse dt).windowClose k)

/-- HOLDOFF_END (R526). -/
def execHoldoffEnd (dt : Span) (k : Fin 16) (s : State) : Out := .next ((s.elapse dt).holdoffEnd k)

/-- RIND_FIFO_DRAIN (R528). -/
def execRindFifoDrain (dt : Span) (s : State) : Out := .next ((s.elapse dt).rindDrain)

/-- ALARM_END (R530). -/
def execAlarmEnd (dt : Span) (s : State) : Out := .next ((s.elapse dt).alarmEnd)

/-- ALARM_TOGGLE (R530). -/
def execAlarmToggle (dt : Span) (s : State) : Out := .next ((s.elapse dt).alarmToggle)

/-- ALARM_STOP (R530). -/
def execAlarmStop (dt : Span) (s : State) : Out := .next ((s.elapse dt).landNow 0xD0018 1)

/-- LOCK_OPEN (R535). -/
def execLockOpen (dt : Span) (s : State) : Out := .next ((s.elapse dt).landNow 0xE0004 0x4C4B0001)

/-- LOCK_SHUT (R535). -/
def execLockShut (dt : Span) (s : State) : Out := .next ((s.elapse dt).landNow 0xE0004 0x4C4B0002)

/-- LOCK_HOME (R535). -/
def execLockHome (dt : Span) (s : State) : Out := .next ((s.elapse dt).landNow 0xE0004 0x4C4B0003)

/-- LOCK_STOP (R534). -/
def execLockStop (dt : Span) (s : State) : Out := .next ((s.elapse dt).landNow 0xE0004 0x4C4B0004)

/-- LOCK_CLEAR (R538). -/
def execLockClear (dt : Span) (s : State) : Out := .next ((s.elapse dt).landNow 0xE0004 0x4C4B0005)

/-- LOCK_BADKEY (R534). -/
def execLockBadkey (dt : Span) (value : Word) (s : State) : Out :=
  .next (if lockWordOk value then s.elapse dt else (s.elapse dt).landNow 0xE0004 value)

/-- LIMIT_CHANGE (R532). -/
def execLimitChange (dt : Span) (s : State) : Out := .next ((s.elapse dt).limitChange)

/-- LOCK_MOVE_TIMEOUT (R537). -/
def execLockMoveTimeout (dt : Span) (s : State) : Out := .next ((s.elapse dt).lockTimeout)

/-- LOCK_STALL (R537). -/
def execLockStall (dt : Span) (s : State) : Out := .next ((s.elapse dt).lockStall)

/-- BRAKE_END (R535). -/
def execBrakeEnd (dt : Span) (s : State) : Out := .next ((s.elapse dt).brakeEnded)

end Sys2Proof.Machine
end

