-- ==== Sys2Proof/Machine/Dispatch.lean ====
section
/-!
DEFINITION. The dispatch: one arm per command of the opcode table, each a direct call of its meaning.
-/

namespace Sys2Proof.Machine

def exec (i : Instr) (s : State) : Host.Outcome State Fault Refusal :=
  match i with
  | .por dt => Sys2Proof.Machine.execPor dt s
  | .pinReset dt => Sys2Proof.Machine.execPinReset dt s
  | .bor dt => Sys2Proof.Machine.execBor dt s
  | .clockFailure dt => Sys2Proof.Machine.execClockFailure dt s
  | .pllLockTimeout dt => Sys2Proof.Machine.execPllLockTimeout dt s
  | .vioLow dt => Sys2Proof.Machine.execVioLow dt s
  | .vioRecovered dt => Sys2Proof.Machine.execVioRecovered dt s
  | .lfCrystalStart dt => Sys2Proof.Machine.execLfCrystalStart dt s
  | .lfxfail dt => Sys2Proof.Machine.execLfxfail dt s
  | .lfswitch dt => Sys2Proof.Machine.execLfswitch dt s
  | .lfcalWindowEnd dt count => Sys2Proof.Machine.execLfcalWindowEnd dt count s
  | .domainReady dt n => Sys2Proof.Machine.execDomainReady dt n s
  | .standbyRequest dt key => Sys2Proof.Machine.execStandbyRequest dt key s
  | .shipRequest dt key => Sys2Proof.Machine.execShipRequest dt key s
  | .autosbyIdle dt => Sys2Proof.Machine.execAutosbyIdle dt s
  | .standbyEntryStepDone dt => Sys2Proof.Machine.execStandbyEntryStepDone dt s
  | .entryDmaDrainTimeout dt => Sys2Proof.Machine.execEntryDmaDrainTimeout dt s
  | .ntcPowerAckTimeout dt => Sys2Proof.Machine.execNtcPowerAckTimeout dt s
  | .standbyEntryTimeout dt => Sys2Proof.Machine.execStandbyEntryTimeout dt s
  | .wakeSourceLatch dt wakein => Sys2Proof.Machine.execWakeSourceLatch dt wakein s
  | .runReached dt => Sys2Proof.Machine.execRunReached dt s
  | .shipFailure dt => Sys2Proof.Machine.execShipFailure dt s
  | .vaonLoss dt => Sys2Proof.Machine.execVaonLoss dt s
  | .vdd5Valid dt late => Sys2Proof.Machine.execVdd5Valid dt late s
  | .rstnRelease dt => Sys2Proof.Machine.execRstnRelease dt s
  | .hostReset dt => Sys2Proof.Machine.execHostReset dt s
  | .nandPowerupWaitEnd dt probe => Sys2Proof.Machine.execNandPowerupWaitEnd dt probe s
  | .nandOpComplete dt fail errors => Sys2Proof.Machine.execNandOpComplete dt fail errors s
  | .nandTimeout dt => Sys2Proof.Machine.execNandTimeout dt s
  | .loadCommit dt => Sys2Proof.Machine.execLoadCommit dt s
  | .modelLoadDone dt => Sys2Proof.Machine.execModelLoadDone dt s
  | .imageRepairEnd dt => Sys2Proof.Machine.execImageRepairEnd dt s
  | .ping dt seq args => Sys2Proof.Machine.execPing dt seq args s
  | .reset dt seq args => Sys2Proof.Machine.execReset dt seq args s
  | .read dt seq args => Sys2Proof.Machine.execRead dt seq args s
  | .write dt seq args => Sys2Proof.Machine.execWrite dt seq args s
  | .modify dt seq args => Sys2Proof.Machine.execModify dt seq args s
  | .txnOpen dt seq args => Sys2Proof.Machine.execTxnOpen dt seq args s
  | .txnCommit dt seq args => Sys2Proof.Machine.execTxnCommit dt seq args s
  | .txnAbort dt seq args => Sys2Proof.Machine.execTxnAbort dt seq args s
  | .txnStatus dt seq args => Sys2Proof.Machine.execTxnStatus dt seq args s
  | .imgBegin dt seq args => Sys2Proof.Machine.execImgBegin dt seq args s
  | .imgData dt seq args => Sys2Proof.Machine.execImgData dt seq args s
  | .imgEnd dt seq args => Sys2Proof.Machine.execImgEnd dt seq args s
  | .imgAbort dt seq args => Sys2Proof.Machine.execImgAbort dt seq args s
  | .recRead dt seq args => Sys2Proof.Machine.execRecRead dt seq args s
  | .logRead dt seq args => Sys2Proof.Machine.execLogRead dt seq args s
  | .selftest dt seq args => Sys2Proof.Machine.execSelftest dt seq args s
  | .lcsChallenge dt seq args => Sys2Proof.Machine.execLcsChallenge dt seq args s
  | .lcsRespond dt seq args => Sys2Proof.Machine.execLcsRespond dt seq args s
  | .badOpcode dt seq op args => Sys2Proof.Machine.execBadOpcode dt seq op args s
  | .ack dt number => Sys2Proof.Machine.execAck dt number s
  | .ignoredFrame dt frame => Sys2Proof.Machine.execIgnoredFrame dt frame s
  | .noticeTransmit dt => Sys2Proof.Machine.execNoticeTransmit dt s
  | .goBack dt => Sys2Proof.Machine.execGoBack dt s
  | .linkStale dt => Sys2Proof.Machine.execLinkStale dt s
  | .busOff dt => Sys2Proof.Machine.execBusOff dt s
  | .busOffRecovery dt => Sys2Proof.Machine.execBusOffRecovery dt s
  | .linkSettingsApply dt => Sys2Proof.Machine.execLinkSettingsApply dt s
  | .errorPassive dt tec rec => Sys2Proof.Machine.execErrorPassive dt tec rec s
  | .busIntegrationDone dt => Sys2Proof.Machine.execBusIntegrationDone dt s
  | .registerWrite dt m addr value => Sys2Proof.Machine.execRegisterWrite dt m addr value s
  | .lfWriteDone dt block => Sys2Proof.Machine.execLfWriteDone dt block s
  | .cfgStageClose dt m => Sys2Proof.Machine.execCfgStageClose dt m s
  | .cfgHoldset dt m mask => Sys2Proof.Machine.execCfgHoldset dt m mask s
  | .commitPoint dt => Sys2Proof.Machine.execCommitPoint dt s
  | .commitDmaWaitEnd dt => Sys2Proof.Machine.execCommitDmaWaitEnd dt s
  | .armTimeout dt => Sys2Proof.Machine.execArmTimeout dt s
  | .stageTimeout dt => Sys2Proof.Machine.execStageTimeout dt s
  | .angleSelftestStart dt => Sys2Proof.Machine.execAngleSelftestStart dt s
  | .angleSelftestEnd dt pass detail => Sys2Proof.Machine.execAngleSelftestEnd dt pass detail s
  | .selftestDeferredTimeout dt => Sys2Proof.Machine.execSelftestDeferredTimeout dt s
  | .adcSelftestDone dt x readings => Sys2Proof.Machine.execAdcSelftestDone dt x readings s
  | .inputStuckTimeout dt input => Sys2Proof.Machine.execInputStuckTimeout dt input s
  | .toothEdge dt w onB level peak => Sys2Proof.Machine.execToothEdge dt w onB level peak s
  | .standstill dt w => Sys2Proof.Machine.execStandstill dt w s
  | .coastEntry dt w => Sys2Proof.Machine.execCoastEntry dt w s
  | .wheelDead dt w => Sys2Proof.Machine.execWheelDead dt w s
  | .biasCheck dt => Sys2Proof.Machine.execBiasCheck dt s
  | .biasCheckDone dt plus minus idle rail => Sys2Proof.Machine.execBiasCheckDone dt plus minus idle rail s
  | .snapshot dt m => Sys2Proof.Machine.execSnapshot dt m s
  | .eventInsert dt m ctl => Sys2Proof.Machine.execEventInsert dt m ctl s
  | .eventDue dt n => Sys2Proof.Machine.execEventDue dt n s
  | .pulseEnd dt n => Sys2Proof.Machine.execPulseEnd dt n s
  | .probeSample dt n => Sys2Proof.Machine.execProbeSample dt n s
  | .queueFlush dt m mask => Sys2Proof.Machine.execQueueFlush dt m mask s
  | .chopTimedEnd dt n => Sys2Proof.Machine.execChopTimedEnd dt n s
  | .deadTimeEnd dt k => Sys2Proof.Machine.execDeadTimeEnd dt k s
  | .timerRelease dt mask => Sys2Proof.Machine.execTimerRelease dt mask s
  | .timerWrap dt n => Sys2Proof.Machine.execTimerWrap dt n s
  | .timerMatch dt n chanB => Sys2Proof.Machine.execTimerMatch dt n chanB s
  | .timerResetLoad dt n => Sys2Proof.Machine.execTimerResetLoad dt n s
  | .timerCapture dt n pin => Sys2Proof.Machine.execTimerCapture dt n pin s
  | .tmrSwcap dt m mask => Sys2Proof.Machine.execTmrSwcap dt m mask s
  | .compareWrite dt m n chanB value => Sys2Proof.Machine.execCompareWrite dt m n chanB value s
  | .compareHighWrite dt m n chanB value => Sys2Proof.Machine.execCompareHighWrite dt m n chanB value s
  | .timerLatchedRead dt m n cap => Sys2Proof.Machine.execTimerLatchedRead dt m n cap s
  | .sequenceTrigger dt x inj => Sys2Proof.Machine.execSequenceTrigger dt x inj s
  | .softwareTrigger dt m mask => Sys2Proof.Machine.execSoftwareTrigger dt m mask s
  | .sequenceStop dt m mask => Sys2Proof.Machine.execSequenceStop dt m mask s
  | .conversionStart dt x inj => Sys2Proof.Machine.execConversionStart dt x inj s
  | .conversionDone dt x slice raw excess rawP excessP => Sys2Proof.Machine.execConversionDone dt x slice raw excess rawP excessP s
  | .sliceTimeout dt x slice rawP excessP => Sys2Proof.Machine.execSliceTimeout dt x slice rawP excessP s
  | .calibrationPassDone dt x low mid high => Sys2Proof.Machine.execCalibrationPassDone dt x low mid high s
  | .rotationBoundary dt x => Sys2Proof.Machine.execRotationBoundary dt x s
  | .spareHandover dt x => Sys2Proof.Machine.execSpareHandover dt x s
  | .comparatorEnter dt c samples => Sys2Proof.Machine.execComparatorEnter dt c samples s
  | .comparatorLeave dt c samples => Sys2Proof.Machine.execComparatorLeave dt c samples s
  | .comparatorReady dt c samples => Sys2Proof.Machine.execComparatorReady dt c samples s
  | .referenceFault dt x => Sys2Proof.Machine.execReferenceFault dt x s
  | .dmaStart dt n => Sys2Proof.Machine.execDmaStart dt n s
  | .dmaAbort dt n => Sys2Proof.Machine.execDmaAbort dt n s
  | .dmaResume dt n => Sys2Proof.Machine.execDmaResume dt n s
  | .signalDelivery dt m n mask => Sys2Proof.Machine.execSignalDelivery dt m n mask s
  | .sigclr dt m n mask => Sys2Proof.Machine.execSigclr dt m n mask s
  | .lvldec dt m n amount => Sys2Proof.Machine.execLvldec dt m n amount s
  | .tlbInvalidate dt value => Sys2Proof.Machine.execTlbInvalidate dt value s
  | .dmaMove dt n => Sys2Proof.Machine.execDmaMove dt n s
  | .dmaBeat dt => Sys2Proof.Machine.execDmaBeat dt s
  | .dmaLoop dt n => Sys2Proof.Machine.execDmaLoop dt n s
  | .dmaEndloop dt n => Sys2Proof.Machine.execDmaEndloop dt n s
  | .dmaWait dt n => Sys2Proof.Machine.execDmaWait dt n s
  | .waitComplete dt n => Sys2Proof.Machine.execWaitComplete dt n s
  | .dmaSignal dt n => Sys2Proof.Machine.execDmaSignal dt n s
  | .dmaSet dt n => Sys2Proof.Machine.execDmaSet dt n s
  | .dmaEnd dt n => Sys2Proof.Machine.execDmaEnd dt n s
  | .caveMount dt => Sys2Proof.Machine.execCaveMount dt s
  | .mountDone dt => Sys2Proof.Machine.execMountDone dt s
  | .recordWrite dt kind index version body => Sys2Proof.Machine.execRecordWrite dt kind index version body s
  | .recordWriteDone dt => Sys2Proof.Machine.execRecordWriteDone dt s
  | .logPush dt m ctl => Sys2Proof.Machine.execLogPush dt m ctl s
  | .logFlush dt => Sys2Proof.Machine.execLogFlush dt s
  | .retentionTick dt => Sys2Proof.Machine.execRetentionTick dt s
  | .refreshPassPage dt => Sys2Proof.Machine.execRefreshPassPage dt s
  | .wearLevelCheck dt => Sys2Proof.Machine.execWearLevelCheck dt s
  | .imageCheckDone dt => Sys2Proof.Machine.execImageCheckDone dt s
  | .curdDone dt vpack code excess ntc age => Sys2Proof.Machine.execCurdDone dt vpack code excess ntc age s
  | .standbyCurd dt vpack code excess ntc => Sys2Proof.Machine.execStandbyCurd dt vpack code excess ntc s
  | .curdLost dt => Sys2Proof.Machine.execCurdLost dt s
  | .idAttempt dt => Sys2Proof.Machine.execIdAttempt dt s
  | .idAttemptDone dt reading => Sys2Proof.Machine.execIdAttemptDone dt reading s
  | .idDeadline dt => Sys2Proof.Machine.execIdDeadline dt s
  | .graceEnd dt => Sys2Proof.Machine.execGraceEnd dt s
  | .setsoc dt m value => Sys2Proof.Machine.execSetsoc dt m value s
  | .socReportStep dt => Sys2Proof.Machine.execSocReportStep dt s
  | .recordCheckpoint dt => Sys2Proof.Machine.execRecordCheckpoint dt s
  | .epochTick dt => Sys2Proof.Machine.execEpochTick dt s
  | .autoshipRetry dt => Sys2Proof.Machine.execAutoshipRetry dt s
  | .fusionTick dt => Sys2Proof.Machine.execFusionTick dt s
  | .headRunDone dt => Sys2Proof.Machine.execHeadRunDone dt s
  | .cellClose dt => Sys2Proof.Machine.execCellClose dt s
  | .encoderRunDone dt => Sys2Proof.Machine.execEncoderRunDone dt s
  | .imuFetch dt n => Sys2Proof.Machine.execImuFetch dt n s
  | .imuFetchDone dt n response => Sys2Proof.Machine.execImuFetchDone dt n response s
  | .imuInit dt n who => Sys2Proof.Machine.execImuInit dt n who s
  | .fuscalWrite dt n => Sys2Proof.Machine.execFuscalWrite dt n s
  | .weightCheck dt flips dense track => Sys2Proof.Machine.execWeightCheck dt flips dense track s
  | .fusionSelftestDone dt => Sys2Proof.Machine.execFusionSelftestDone dt s
  | .fusionSlotWrite dt m slot value => Sys2Proof.Machine.execFusionSlotWrite dt m slot value s
  | .slotStale dt slot => Sys2Proof.Machine.execSlotStale dt slot s
  | .rindInputChange dt changes tamper => Sys2Proof.Machine.execRindInputChange dt changes tamper s
  | .countWindowClose dt k => Sys2Proof.Machine.execCountWindowClose dt k s
  | .holdoffEnd dt k => Sys2Proof.Machine.execHoldoffEnd dt k s
  | .rindFifoDrain dt => Sys2Proof.Machine.execRindFifoDrain dt s
  | .alarmEnd dt => Sys2Proof.Machine.execAlarmEnd dt s
  | .alarmToggle dt => Sys2Proof.Machine.execAlarmToggle dt s
  | .alarmStop dt => Sys2Proof.Machine.execAlarmStop dt s
  | .lockOpen dt => Sys2Proof.Machine.execLockOpen dt s
  | .lockShut dt => Sys2Proof.Machine.execLockShut dt s
  | .lockHome dt => Sys2Proof.Machine.execLockHome dt s
  | .lockStop dt => Sys2Proof.Machine.execLockStop dt s
  | .lockClear dt => Sys2Proof.Machine.execLockClear dt s
  | .lockBadkey dt value => Sys2Proof.Machine.execLockBadkey dt value s
  | .limitChange dt => Sys2Proof.Machine.execLimitChange dt s
  | .lockMoveTimeout dt => Sys2Proof.Machine.execLockMoveTimeout dt s
  | .lockStall dt => Sys2Proof.Machine.execLockStall dt s
  | .brakeEnd dt => Sys2Proof.Machine.execBrakeEnd dt s
  | .lcsportChallenge dt target => Sys2Proof.Machine.execLcsportChallenge dt target s
  | .lcsportReadch dt index => Sys2Proof.Machine.execLcsportReadch dt index s
  | .lcsportLoadr dt index value => Sys2Proof.Machine.execLcsportLoadr dt index value s
  | .lcsportLoads dt index value => Sys2Proof.Machine.execLcsportLoads dt index value s
  | .lcsportVerify dt => Sys2Proof.Machine.execLcsportVerify dt s
  | .lcsportGo dt => Sys2Proof.Machine.execLcsportGo dt s
  | .lifecycleReset dt => Sys2Proof.Machine.execLifecycleReset dt s
  | .challengeLapse dt => Sys2Proof.Machine.execChallengeLapse dt s
  | .lockoutEnd dt => Sys2Proof.Machine.execLockoutEnd dt s
  | .opSigkey dt => Sys2Proof.Machine.execOpSigkey dt s
  | .opLkey dt => Sys2Proof.Machine.execOpLkey dt s
  | .opImgkey dt => Sys2Proof.Machine.execOpImgkey dt s
  | .opRevoke dt => Sys2Proof.Machine.execOpRevoke dt s
  | .opMinver dt => Sys2Proof.Machine.execOpMinver dt s
  | .opStorewrite dt => Sys2Proof.Machine.execOpStorewrite dt s
  | .opPolicy dt => Sys2Proof.Machine.execOpPolicy dt s
  | .lcsOperationDone dt fail => Sys2Proof.Machine.execLcsOperationDone dt fail s
  | .wipependClears dt => Sys2Proof.Machine.execWipependClears dt s
  | .dbgacc dt write addr value => Sys2Proof.Machine.execDbgacc dt write addr value s
  | .debugHalt dt halt => Sys2Proof.Machine.execDebugHalt dt halt s
  | .memtest dt target alg go => Sys2Proof.Machine.execMemtest dt target alg go s
  | .memtestDone dt failing => Sys2Proof.Machine.execMemtestDone dt failing s
  | .dbgrst dt => Sys2Proof.Machine.execDbgrst dt s
  | .tapUpdateIr dt code => Sys2Proof.Machine.execTapUpdateIr dt code s
  | .extestUpdate dt cells => Sys2Proof.Machine.execExtestUpdate dt cells s
  | .healthTempRead dt centi => Sys2Proof.Machine.execHealthTempRead dt centi s
  | .hltClr dt m value => Sys2Proof.Machine.execHltClr dt m value s
  | .healthRecordWrite dt => Sys2Proof.Machine.execHealthRecordWrite dt s

end Sys2Proof.Machine
end

