-- ==== Sys2Proof/Machine/Step.lean ====
section
/-!
DEFINITION. One step: the command at the front of the queue is taken from it and acts.
-/

namespace Sys2Proof.Machine

/-- The state without the command at the front of its queue. -/
def State.dequeued (s : State) : State := { s with pending := s.pending.tail }

/-- The state with a command put at the front of its queue. -/
def State.withFront (s : State) (i : Instr) : State := { s with pending := i :: s.pending }

/-- One step; on an empty queue the part idles and no time passes (log entry 1). -/
def step (s : State) : Host.Outcome State Fault Refusal :=
  match s.pending with
  | [] => .next s
  | i :: _ => exec i s.dequeued

/-- The state with the command that a table word spells at the front of its queue; unchanged where the word spells none. -/
def State.withFetchWord (s : State) (nbits w : Nat) : State :=
  match decodeTableWord nbits w with
  | some i => s.withFront i
  | none => s

end Sys2Proof.Machine
end

