-- ==== Sys2Proof/Safety.lean ====
section
/-!
DEFINITION. What the claims call safe, the invariants they name, and the words they are stated in: what a command does in every
state that meets a condition after the time that passes before it (`Does`, `Makes`), what a reset with PD0 kept leaves
(`Restarted`), and what the link answers (`State.answered`).
-/

namespace Sys2Proof.Machine

/-- A step from the state answers a next state: it neither faults nor refuses. -/
def Safe (s : State) : Prop := ∃ t, step s = .next t

/-! ### Invariants -/

/-- Register words and working SRAM are in canonical form, so that equal contents are equal lists. -/
abbrev State.canonical (s : State) : Prop := Sparse.wf resetWord s.regs = true ∧ Memory.wf s = true

/-- The notice ring within its size: at most 31 ordinary notices and at most one NTC_LOST (R138, R143). -/
def State.ringBounded (s : State) : Prop :=
  (s.link.ring.filter (fun n => n.code != 0x19)).length ≤ 31 ∧ (s.link.ring.filter (fun n => n.code == 0x19)).length ≤ 1

/-- No fuse of `o` is clear in `p` that was blown in `o`: the state fuses, MINVER, NVM_BOOT, NOENC, and REVOKE and the kill of
every key slot (R551, R552). -/
def OtpSt.below (o p : OtpSt) : Prop :=
  o.factf &&& ~~~p.factf = 0 ∧ o.retf &&& ~~~p.retf = 0 ∧ o.scrapf &&& ~~~p.scrapf = 0 ∧
  (∀ k : Fin 4, (o.lockcnt[k]) &&& ~~~(p.lockcnt[k]) = 0) ∧ (∀ k : Fin 3, (o.opencnt[k]) &&& ~~~(p.opencnt[k]) = 0) ∧
  o.minver &&& ~~~p.minver = 0 ∧ o.nvmBoot &&& ~~~p.nvmBoot = 0 ∧ (o.noenc = true → p.noenc = true) ∧
  (∀ k < 4, (o.sigkey.getD k {}).revoke = true → (p.sigkey.getD k {}).revoke = true) ∧
  (∀ k < 4, (o.imgkey.getD k {}).revoke = true → (p.imgkey.getD k {}).revoke = true) ∧
  (∀ k < 4, (o.imgkey.getD k {}).kill = true → (p.imgkey.getD k {}).kill = true)

/-! ### What a command does -/

/-- In every state in canonical form (which every step keeps) that meets the condition once the command's time has passed, the command
completes, and the state before it and the state after it are so related. -/
def Does (c : Span → Instr) (pre : State → Prop) (post : State → State → Prop) : Prop :=
  ∀ (dt : Span) (s : State), (s.elapse dt).canonical → pre (s.elapse dt) → ∃ t, exec (c dt) s = .next t ∧ post (s.elapse dt) t

/-- In every state that meets the condition once the command's time has passed, the command completes in exactly that state. -/
def Makes (c : Span → Instr) (pre : State → Prop) (f : State → State) : Prop :=
  ∀ (dt : Span) (s : State), pre (s.elapse dt) → exec (c dt) s = .next (f (s.elapse dt))

/-- What a reset with PD0 kept leaves, with its cause bit (R78 to R81). -/
def Restarted (bit : Nat) (e t : State) : Prop :=
  t.reg 0x20 = e.reg 0x20 ||| BitVec.ofNat 32 (2 ^ bit) ∧ t.power.phase = .startup ∧ t.power.entry = none ∧ t.now = e.now ∧ t.lf = e.lf ∧
  (∀ a, t.sramByte a = 0) ∧ t.link.ring = [] ∧ t.link.cache = none ∧ t.link.nextNum = 1 ∧ t.cfg = {} ∧
  t.outs = Vector.replicate 32 {} ∧ t.timers = Vector.replicate 16 {} ∧ t.dma = {} ∧ t.regA = {} ∧ t.injA = {} ∧
  t.regB = {} ∧ t.injB = {} ∧ (∀ w : Fin 4, (t.wheels[w]).sync = .silent) ∧ t.nand.pages = e.nand.pages ∧
  (∀ a, inPd0 a = true → a ≠ 0xE0008 → t.reg a = e.reg a) ∧
  (∀ a, inPd0 a = false → a ≠ 0x20 → a ≠ 0xA0008 → t.reg a = resetWord a) ∧ t.pending = e.pending

/-! ### What the link answers -/

/-- The state with the command time of the link at the present, and the notices of this cycle as they stand (R50, R139). -/
def State.served (s : State) : State :=
  { s with power := { s.power with activeAt := s.now }, link := { s.link with cycIn := [] } }

/-- The link takes a new command of this SEQ and nothing stands in its way: the controller is online and not stale, no response, no
notice and no word waits, the SEQ is not the cached one, and no transition, entry, SCRAP or recovery turns the command away (R129, R134,
R150, R161). -/
abbrev State.takes (s : State) (seq : BitVec 16) : Prop :=
  s.online = true ∧ s.link.stale = false ∧ s.link.held = none ∧ s.link.heldIn = [] ∧ s.cfg.waiting = [] ∧ s.linkStalled = false ∧ s.boot.recovery = false ∧
  s.link.cache.map CacheEntry.seq ≠ some seq.toNat ∧ s.life.transition = none ∧ s.entering = false ∧ s.life.state ≠ .scrap

/-- `base` with the response that was made when the ring and the mode were as in `s`; a status that is kept joins the cache
(R127, R134). -/
def State.answered (s : State) (seq : BitVec 16) (op status detail : Nat) (data : List Byte) (base : State) : State :=
  let frame := responseFrame s.ringPending s.boot.recovery seq.toNat op status detail data
  let kept := if cachedStatus status then some ({ seq := seq.toNat, op := op, frame := frame } : CacheEntry) else base.link.cache
  { base with link := { base.link with cache := kept, lastResp := frame, respHead := base.frameHead 1 } }

end Sys2Proof.Machine
end

