-- ==== Sys2Proof/Certificates/Slice0/Obligations.lean ====
section
/-!
DEFINITION. The statements about this model, one definition each. `e` is the state after the time that passes before the command
(`State.elapse`), `t` the state after the command.
-/

open Sys2Proof Sys2Proof.Machine

/-- O1, A step runs the command at the front of the queue. For every command c and state s whose queue begins with c, step s is exec
c on s without that entry, and on a state with c put in front it is exec c on that state. On an empty queue the step leaves the
state as it is (the model's choice, log entry 1). -/
def Obligations.StepTakesTheFront : Prop :=
  (∀ (s : State) (c : Instr) (rest : List Instr), s.pending = c :: rest → step s = exec c { s with pending := rest }) ∧
  (∀ (s : State) (c : Instr), step (s.withFront c) = exec c s) ∧
  (∀ s : State, s.pending = [] → step s = .next s)

/-- O2, What a power-on reset leaves. In State.reset SYS_RSTCAUSE holds POR alone and every other register word but NVM_BOOT's the
reset value of its block; the part is in start-up with PD0 alone ready, MAINEN high, SHIPOFF low, the LF source not the crystal;
the ring is empty, the next notice is number 1, the response cache is empty; no transaction is open, its shadow is empty; CLK_LF
and CLK_ANG counts are 0, no command waits; SRAM reads 0; every timer stands at COUNT 0, every DMA channel is IDLE, every
tracker SILENT. -/
def Obligations.PowerOnValues : Prop :=
  State.reset.reg 0x20 = 1 ∧ State.reset.power.phase = .startup ∧ State.reset.power.domRdy = 1 ∧ State.reset.power.mainen = true ∧
  State.reset.power.shipoff = false ∧ State.reset.power.lfXtal = false ∧ State.reset.link.ring = [] ∧ State.reset.link.nextNum = 1 ∧ State.reset.link.cache = none ∧
  State.reset.cfg.state = .idle ∧ State.reset.cfg.shadow = [] ∧ State.reset.lf = 0 ∧ State.reset.now = 0 ∧ State.reset.pending = [] ∧
  (∀ a, State.reset.sramByte a = 0) ∧ (∀ a, a ≠ 0x20 → a ≠ 0xA0008 → State.reset.reg a = resetWord a) ∧
  (∀ n : Fin 16, (State.reset.timers[n]).run = false ∧ (State.reset.timers[n]).count = 0 ∧ (State.reset.dma.chs[n]).state = .idle) ∧
  (∀ w : Fin 4, (State.reset.wheels[w]).sync = .silent)

/-- O3, The state after reset meets the invariants that every step keeps. Register words and SRAM of State.reset are in canonical
form and its notice ring is within its bounds. -/
def Obligations.ResetMeetsTheInvariant : Prop :=
  State.reset.canonical ∧ State.reset.ringBounded

/-- O4, Every step keeps registers and SRAM in canonical form. Whatever command stands at the front, in any state whose register
words and working SRAM are strictly rising lists without default values, the state after the step is so as well. -/
def Obligations.EveryStepKeepsCanonicalForm : Prop :=
  ∀ s t : State, s.canonical → step s = .next t → t.canonical

/-- O5, No step lets the notice ring exceed 32 entries. In any state in which the ring holds at most 31 ordinary notices and at most
one NTC_LOST, so does the state after any step: at most 32 entries in all. -/
def Obligations.EveryStepKeepsTheRingBounds : Prop :=
  ∀ s t : State, s.ringBounded → step s = .next t → t.ringBounded ∧ t.link.ring.length ≤ 32

/-- O6, No step clears a fuse or takes back a kill. The state fuses, MINVER, NVM_BOOT and NOENC, and the REVOKE and kill fuses of
every key slot only ever go from 0 to 1, whatever command is taken. -/
def Obligations.EveryStepOnlyBlowsFuses : Prop :=
  ∀ s t : State, step s = .next t → s.otp.below t.otp

/-- O7, No command touches the commands that wait. exec answers a next state for every command and every state, and the queue of
that state is the queue it was given. -/
def Obligations.CommandsLeaveTheQueue : Prop :=
  ∀ (c : Instr) (s : State), ∃ t, exec c s = .next t ∧ t.pending = s.pending

/-- O8, Register words and SRAM bytes read back what was stored, and nothing else changes. In canonical form, storing a word at an
address makes a read of it give the word and a read of any other address what it gave before; the form is kept, and SRAM, link
and power stay. In canonical form, after writing a run of bytes from an address upward, each byte of the run reads back and
every byte outside the run reads as before; the form is kept and no register word changes. -/
def Obligations.StorageReadsBack : Prop :=
  (∀ (s : State) (a : Nat) (w : Word), s.canonical →
    (∀ b, (s.setReg a w).reg b = if b = a then w else s.reg b) ∧ (s.setReg a w).canonical ∧
    (s.setReg a w).sram = s.sram ∧ (s.setReg a w).link = s.link ∧ (s.setReg a w).power = s.power) ∧
  (∀ (s : State) (a : Nat) (l : List Byte), s.canonical →
    (∀ i, i < l.length → (s.setSramBytes a l).sramByte (a + i) = l.getD i 0) ∧
    (∀ b, b < a ∨ a + l.length ≤ b → (s.setSramBytes a l).sramByte b = s.sramByte b) ∧
    (s.setSramBytes a l).canonical ∧ (s.setSramBytes a l).regs = s.regs)

/-- O9, A generated notice enters the ring under the next number, two of one cycle in order of code, or it is counted as lost. A
notice that is not generated changes nothing. The first of its CLK_SYS cycle, with room among the 31 ordinary entries and the
fill below the watermark, becomes the newest entry, unsent, stamped with LNK_TIME, the number after FFFF is 1, and no register
word changes. A second one of the same cycle whose code is smaller stands before it and takes the smaller number. With no room
and an NTC_LOST in the ring, the ring stays and LNK_NTCLOST counts it. -/
def Obligations.NoticeEntersTheRing : Prop :=
  ∀ (s : State) (code : Nat) (p : List Byte), code ≠ 0x19 → s.link.cycIn = [] →
    (s.noticeOn code = false → s.notice code p = s) ∧
    (s.noticeOn code = true → s.ordinaryFill < 31 → s.link.ring.length + 1 < s.fld 0x1002C 5 0 →
      (s.notice code p).link.ring = s.link.ring ++ [{ num := s.link.nextNum, code := code, time := BitVec.ofNat 32 s.lf, payload := p }] ∧
      (s.notice code p).link.nextNum = (if s.link.nextNum = 0xFFFF then 1 else s.link.nextNum + 1) ∧ (s.notice code p).regs = s.regs) ∧
    (∀ (lower : Nat) (q : List Byte), s.canonical → s.noticeOn code = true → s.noticeOn lower = true → lower < code → lower ≠ 0x19 →
      s.ordinaryFill < 30 → s.link.ring.length + 2 < s.fld 0x1002C 5 0 →
      ((s.notice code p).notice lower q).link.ring = s.link.ring ++
        [{ num := s.link.nextNum, code := lower, time := BitVec.ofNat 32 s.lf, payload := q },
         { num := nextNoticeNum s.link.nextNum, code := code, time := BitVec.ofNat 32 s.lf, payload := p }]) ∧
    (s.noticeOn code = true → 31 ≤ s.ordinaryFill → s.link.ring.any (fun n => n.code == 0x19) = true → 32 ≤ s.link.ring.length →
      (s.notice code p).link.ring = s.link.ring ∧ (s.notice code p).regs = (s.satInc 0x10034 15 0).regs)

/-- O10, What a reset with PD0 kept leaves, and what POR and the loss of VAON leave. What each of these resets leaves (`Restarted`):
SYS_RSTCAUSE keeps its bits and gains the cause; the AON, LCK and PWR words stay but for LCK_FLAGS, every other word but
NVM_BOOT's has its reset value; the part is in start-up with no entry under way; CLK_LF and CLK_ANG counts go on; SRAM reads 0;
the ring and the response cache are empty, the next notice is number 1; no transaction, no event, no run, no timer and no DMA
channel is under way, every tracker is SILENT; the NAND pages and the waiting commands stay. PIN_RESET in a part that has
supply: cause bit 1, and RSTN is low; fuses and the secure store stay, here and in the five that follow. BOR in RUN: cause bit
2, and VDD5 is no longer valid. CLOCK_FAILURE in RUN: cause bit 3. PLL_LOCK_TIMEOUT after three restarts of a wake: cause bit 3.
Before that it makes one more restart, and nothing else. SHIP_FAILURE 3277 CLK_LF periods after SHIPOFF rose: cause bit 4.
HOST_RESET once a RESET has been answered: cause bit 5. LIFECYCLE_RESET at the end of a transition: cause bit 6; the kills that
the state implies are made and the secure store has the epoch of the fuses. DBGRST in a state that allows it: cause bit 7, fuses
and the secure store as they were. A POR puts power, link, configuration, rind and lock at their power-on values, CLK_LF and
CLK_ANG counts at 0, SRAM empty, RSTCAUSE at POR alone and every other word but NVM_BOOT's at its reset value; the lifecycle
state is that of the fuses; fuses, secure store, NAND pages and the waiting commands stay. The loss of VAON leaves the part
without supply, MAINEN low and no domain ready, with the words and counts of a power-on, rind and lock at their power-on values,
and keeps the same things. Each clause concludes that exec answers a next state, for all states and operands under its
conditions: pinReset, bor, clockFailure, pllLockTimeout, shipFailure, hostReset, lifecycleReset, dbgrst, por, vaonLoss. -/
def Obligations.Resets : Prop :=
  (Does (fun dt => .pinReset dt)
      (fun e => e.power.phase ≠ .unpowered)
      (fun e t => Restarted 1 e t ∧ t.power.rstLow = true ∧ t.otp = e.otp ∧ t.store = e.store)) ∧
  (Does (fun dt => .bor dt)
      (fun e => e.running = true)
      (fun e t => Restarted 2 e t ∧ t.power.vdd5Ok = false ∧ t.otp = e.otp ∧ t.store = e.store)) ∧
  (Does (fun dt => .clockFailure dt)
      (fun e => e.running = true)
      (fun e t => Restarted 3 e t ∧ t.otp = e.otp ∧ t.store = e.store)) ∧
  (Does (fun dt => .pllLockTimeout dt)
      (fun e => e.power.phase = .waking ∧ 3 ≤ e.power.pllTries)
      (fun e t => Restarted 3 e t ∧ t.otp = e.otp ∧ t.store = e.store)) ∧
  (Makes (fun dt => .pllLockTimeout dt)
      (fun e => e.power.phase = .waking ∧ e.power.pllTries < 3)
      (fun e => { e with power := { e.power with pllTries := e.power.pllTries + 1, pllOn := false } })) ∧
  (Does (fun dt => .shipFailure dt)
      (fun e => e.power.phase = .shipping ∧ e.power.shipAt + 3277 ≤ e.lf)
      (fun e t => Restarted 4 e t ∧ t.otp = e.otp ∧ t.store = e.store)) ∧
  (Does (fun dt => .hostReset dt)
      (fun e => e.running = true ∧ e.link.resetPend = true)
      (fun e t => Restarted 5 e t ∧ t.otp = e.otp ∧ t.store = e.store)) ∧
  (Does (fun dt => .lifecycleReset dt)
      (fun e => e.transitionEnds = true)
      (fun e t => Restarted 6 e t ∧ t.otp = e.otp.killImplied ∧ t.store.epoch = e.otp.epoch)) ∧
  (Does (fun dt => .dbgrst dt)
      (fun e => e.tapOn = true ∧ e.life.state ≠ .fieldLocked ∧ e.life.state ≠ .scrap)
      (fun e t => Restarted 7 e t ∧ t.otp = e.otp ∧ t.store = e.store)) ∧
  (Does (fun dt => .por dt)
      (fun e => True)
      (fun e t => t.power = State.reset.power ∧ t.reg 0x20 = 1 ∧ t.lf = 0 ∧ t.now = 0 ∧ t.link = State.reset.link ∧ t.cfg = State.reset.cfg ∧ t.rind = State.reset.rind ∧ t.lock = State.reset.lock ∧ t.sram = [] ∧ t.otp = e.otp ∧ t.store = e.store ∧ t.nand.pages = e.nand.pages ∧ t.life.state = e.otp.lifeState ∧ t.pending = e.pending ∧ (∀ a, a ≠ 0x20 → a ≠ 0xA0008 → t.reg a = resetWord a))) ∧
  (Does (fun dt => .vaonLoss dt)
      (fun e => True)
      (fun e t => t.power.phase = .unpowered ∧ t.power.mainen = false ∧ t.power.vaonOk = false ∧ t.power.domRdy = 0 ∧ t.reg 0x20 = 1 ∧ t.lf = 0 ∧ t.now = 0 ∧ t.rind = State.reset.rind ∧ t.lock = State.reset.lock ∧ t.otp = e.otp ∧ t.store = e.store ∧ t.nand.pages = e.nand.pages ∧ t.pending = e.pending))

/-- O11, VDD5, RSTN and VIO, and the LF source. VDD5 becoming valid with RSTN high starts PD1, PD11 and PD12, and the NAND wait from
this moment. With RSTN low it is only noted. More than 800 µs into a wake under MAINOFF it sets PWR_SUPPLY.VDD5LATE and its
ADVISE bit, and the wake goes on. Within 800 µs it is only noted. RSTN rising with VDD5 valid starts the same domains and the
NAND wait. VIO falling sets VIOLOW and its ADVISE bit, takes the bridge to coast and every event output into its VIO hold with
an empty queue. 1 ms after its return VIO is ready again; but for outputs and register words nothing else changes. A crystal
that starts within 1 s of power-on is taken, unless LFSRC is 1 or it was lost before. Otherwise nothing changes. No crystal 1 s
after power-on sets LFXFAIL, and with LFSRC 2 the ADVISE bit of the clock; power state, SRAM and timers stay. The loss of the
crystal takes the RC with no return and sets LFSWITCH, and with LFSRC 2 the ADVISE bit; the same stay. A window of 1024 CLK_LF
periods that is over writes PWR_LFCAL with its CLK_ANG count times 64, and the next window begins. Before that nothing changes.
Each clause concludes that exec answers a next state, for all states and operands under its conditions: vdd5Valid, rstnRelease,
vioLow, vioRecovered, lfCrystalStart, lfxfail, lfswitch, lfcalWindowEnd. -/
def Obligations.SupplyEventsAndLfSource : Prop :=
  (∀ (late : Bool), Makes (fun dt => .vdd5Valid dt late)
      (fun e => e.power.phase = .startup ∧ e.boot.stage = .supply ∧ e.power.rstLow = false)
      (fun e => { e with power := { e.power with vdd5Ok := true, domRdy := 0x1803 }, boot := { e.boot with stage := .nandWait, waitAt := e.now } })) ∧
  (∀ (late : Bool), Makes (fun dt => .vdd5Valid dt late)
      (fun e => e.power.phase = .startup ∧ e.power.rstLow = true)
      (fun e => { e with power := { e.power with vdd5Ok := true } })) ∧
  (∀ (late : Bool), Does (fun dt => .vdd5Valid dt late)
      (fun e => e.power.phase = .waking ∧ e.power.vdd5Ok = false ∧ e.bit 0x110008 1 = true ∧ e.vdd5IsLate late = true)
      (fun e t => t.power.vdd5Ok = true ∧ t.power.phase = .waking ∧ t.bit 0x110024 9 = true ∧ t.bit 0x100004 12 = true)) ∧
  (∀ (late : Bool), Makes (fun dt => .vdd5Valid dt late)
      (fun e => e.power.phase = .waking ∧ e.bit 0x110008 1 = true ∧ e.vdd5IsLate late = false)
      (fun e => { e with power := { e.power with vdd5Ok := true } })) ∧
  (Makes (fun dt => .rstnRelease dt)
      (fun e => e.power.phase = .startup ∧ e.boot.stage = .supply ∧ e.power.vdd5Ok = true)
      (fun e => { e with power := { e.power with rstLow := false, domRdy := 0x1803 }, boot := { e.boot with stage := .nandWait, waitAt := e.now } })) ∧
  (Does (fun dt => .vioLow dt)
      (fun e => e.power.phase ≠ .unpowered)
      (fun e t => t.power.vioOk = false ∧ t.power.vioReady = false ∧ t.bit 0x110024 8 = true ∧ t.bit 0x100004 12 = true ∧ t.lock.bridge = .coast ∧ t.power.phase = e.power.phase ∧ (∀ n : Fin 32, (t.outs[n]).queue = [] ∧ (t.outs[n]).holdVio = true))) ∧
  (Does (fun dt => .vioRecovered dt)
      (fun e => e.power.phase ≠ .unpowered ∧ e.power.vioReady = false)
      (fun e t => t.power.vioOk = true ∧ t.power.vioReady = true ∧ t = { e with power := t.power, outs := t.outs, regs := t.regs, setAt := t.setAt, setNow := t.setNow })) ∧
  (Makes (fun dt => .lfCrystalStart dt)
      (fun e => e.power.phase ≠ .unpowered ∧ e.fld 0x110008 3 2 ≠ 1 ∧ e.power.lfNoReturn = false ∧ e.power.lfFailed = false ∧ e.lf < e.power.porLf + 32768)
      (fun e => { e with power := { e.power with lfXtal := true } })) ∧
  (Makes (fun dt => .lfCrystalStart dt)
      (fun e => e.fld 0x110008 3 2 = 1 ∨ e.power.lfNoReturn = true ∨ e.power.lfFailed = true ∨ e.power.porLf + 32768 ≤ e.lf)
      (fun e => e)) ∧
  (Does (fun dt => .lfxfail dt)
      (fun e => e.power.phase ≠ .unpowered ∧ e.fld 0x110008 3 2 ≠ 1 ∧ e.power.lfXtal = false ∧ e.power.lfNoReturn = false ∧ e.power.lfFailed = false ∧ e.power.porLf + 32768 ≤ e.lf)
      (fun e t => t.bit 0x11001C 1 = true ∧ t.power.lfFailed = true ∧ t.power.lfXtal = false ∧ (e.fld 0x110008 3 2 = 2 → t.bit 0x100004 1 = true) ∧ t.power.phase = e.power.phase ∧ t.sram = e.sram ∧ t.timers = e.timers)) ∧
  (Does (fun dt => .lfswitch dt)
      (fun e => e.power.phase ≠ .unpowered ∧ e.power.lfXtal = true)
      (fun e t => t.power.lfXtal = false ∧ t.power.lfNoReturn = true ∧ t.bit 0x11001C 2 = true ∧ (e.fld 0x110008 3 2 = 2 → t.bit 0x100004 1 = true) ∧ t.power.phase = e.power.phase ∧ t.sram = e.sram ∧ t.timers = e.timers)) ∧
  (∀ (count : Nat), Makes (fun dt => .lfcalWindowEnd dt count)
      (fun e => e.lfcalOver count = true)
      (fun e => { e.setReg 0x110020 (BitVec.ofNat 32 (count * 64)) with power := { e.power with calNow := e.power.calNow + count, calLf := e.power.calLf + 1024 } })) ∧
  (∀ (count : Nat), Makes (fun dt => .lfcalWindowEnd dt count)
      (fun e => e.lfcalOver count = false)
      (fun e => e))

/-- O12, A domain becomes ready; requests for STANDBY and SHIP are accepted or refused. DOMAIN_READY of a domain that PWR_DOMEN
enables, for PD6 from 250 µs after its switching on, sets its bit of PWR_DOMRDY and no other; power state, SRAM and trackers
stay. For a domain that is ready, and for PD6 before its 250 µs, nothing changes. A STANDBY request with a wrong key gives
RESULT 4 and nothing else. With the key and nothing that refuses it, RESULT is 1 and a STANDBY entry begins at step 1. With a
wheel that turns RESULT is 2 and nothing else changes. A SHIP request that nothing refuses begins a SHIP entry alike. IDLESEC
seconds of idleness under AUTOSBY make the same request. Each clause concludes that exec answers a next state, for all states
and operands under its conditions: domainReady, standbyRequest, shipRequest, autosbyIdle. -/
def Obligations.DomainsAndRequests : Prop :=
  (∀ (n : Fin 14), Does (fun dt => .domainReady dt n)
      (fun e => e.running = true ∧ e.bit 0x11000C n.val = true ∧ e.domReady n.val = false ∧ (n.val = 6 → e.power.pd6On + usAng 250 ≤ e.now))
      (fun e t => t.domReady n.val = true ∧ (∀ m, m ≠ n.val → t.domReady m = e.domReady m) ∧ t.power.phase = .run ∧ t.sram = e.sram ∧ t.wheels = e.wheels)) ∧
  (∀ (n : Fin 14), Makes (fun dt => .domainReady dt n)
      (fun e => e.domReady n.val = true ∨ (n.val = 6 ∧ e.now < e.power.pd6On + usAng 250))
      (fun e => e)) ∧
  (∀ (key : BitVec 16), Makes (fun dt => .standbyRequest dt key)
      (fun e => e.running = true ∧ e.power.lfPwr = [] ∧ key ≠ 0xA5C3)
      (fun e => { e with power := { e.power with result := 4 } })) ∧
  (Makes (fun dt => .standbyRequest dt 0xA5C3)
      (fun e => e.running = true ∧ e.power.lfPwr = [] ∧ e.requestRefusal false true = none)
      (fun e => { e with power := { e.power with result := 1, wakeReq := 0, entry := some { kind := .standby, step := 1, startedAt := e.now, stepAt := e.now } } })) ∧
  (Makes (fun dt => .standbyRequest dt 0xA5C3)
      (fun e => e.running = true ∧ e.power.lfPwr = [] ∧ e.entering = false ∧ e.wheelsAtRest = false)
      (fun e => { e with power := { e.power with result := 2 } })) ∧
  (Makes (fun dt => .shipRequest dt 0xA5C3)
      (fun e => e.running = true ∧ e.power.lfPwr = [] ∧ e.requestRefusal true true = none)
      (fun e => { e with power := { e.power with result := 1, wakeReq := 0, entry := some { kind := .ship, step := 1, startedAt := e.now, stepAt := e.now } } })) ∧
  (∀ (since : Nat), Makes (fun dt => .autosbyIdle dt)
      (fun e => e.running = true ∧ e.bit 0x110008 4 = true ∧ e.idleSince = some since ∧ since + secAng (e.fld 0x110008 15 8) ≤ e.now ∧ e.requestRefusal false true = none)
      (fun e => { e with power := { e.power with result := 1, activeAt := e.now, wakeReq := 0, entry := some { kind := .standby, step := 1, startedAt := e.now, stepAt := e.now } } }))

/-- O13, The steps of an entry into STANDBY or SHIP, and the steps of a wake. Step 1 done (the lock at rest, no angle test): every
event queue is empty and step 3 begins now; SRAM and NAND pages stay. Step 3 done (no DMA channel runs): step 4 begins now; SRAM
and trackers stay. Step 4 done (the cave's writes ended): step 5 of the same entry begins now; the same stay. Step 5 of a
STANDBY entry done (its notice acknowledged): step 6 begins now, and nothing else changes. Step 6 done (no CLK_LF write
crosses): the part is in STANDBY with SBYCOUNT one higher, PD0 and PD3 alone ready, MAINEN low under MAINOFF; RESULT, SRAM, NAND
pages, outputs and timers stay. With a wake source latched meanwhile the entry ends in RUN with RESULT 9; of the register words
only PWR_WAKESRC changes. 1 ms into step 3 every DMA channel that runs is stopped between beats: where none has a beat to end,
step 4 begins; SRAM and trackers stay. A channel with a beat in progress stops at its end, and the entry stays in step 3 until
then. 50 ms into step 5 of a STANDBY entry step 6 begins, and nothing else changes. 50 ms into that step of a SHIP entry without
a charger SHIPOFF is high, PD0 alone ready, and the entry over. Steps 1 to 4 not ended 2 s after acceptance: the entry is over
in RUN with RESULT 8, every event queue empty, SRAM as it was. In STANDBY the enabled sources that have risen are latched: their
bits of PWR_WAKESRC are set, MAINEN rises and the wake begins; nothing but power and that word changes. With no enabled source
only the risen ones are forgotten. During a STANDBY entry they are kept to abort it. RUN reached in a wake with VDD5 valid: the
link integrates and keeps its response cache, every tracker is SILENT, both regular sequences are idle, and SRAM below 0x81_0000
is as it was. Outside a wake, and without VDD5, nothing changes. Each clause concludes that exec answers a next state, for all
states and operands under its conditions: standbyEntryStepDone, entryDmaDrainTimeout, ntcPowerAckTimeout, standbyEntryTimeout,
wakeSourceLatch, runReached. -/
def Obligations.EntryAndWake : Prop :=
  (∀ (x : Entry), Does (fun dt => .standbyEntryStepDone dt)
      (fun e => e.running = true ∧ e.power.entry = some x ∧ (x.kind = .ship ∨ x.aborting = 0) ∧ (x.kind = .standby ∨ e.chargerOn = false) ∧ x.step = 1 ∧ e.lock.moving = false ∧ e.cfg.testAngle = .idle)
      (fun e t => t.power.entry = some { x with step := 3, stepAt := e.now } ∧ t.power.phase = .run ∧ (∀ n : Fin 32, (t.outs[n]).queue = []) ∧ t.sram = e.sram ∧ t.nand.pages = e.nand.pages)) ∧
  (∀ (x : Entry), Does (fun dt => .standbyEntryStepDone dt)
      (fun e => e.running = true ∧ e.power.entry = some x ∧ (x.kind = .ship ∨ x.aborting = 0) ∧ (x.kind = .standby ∨ e.chargerOn = false) ∧ x.step = 3 ∧ e.dmaBusy = false)
      (fun e t => t.power.entry = some { x with step := 4, stepAt := e.now } ∧ t.power.phase = .run ∧ t.sram = e.sram ∧ t.wheels = e.wheels)) ∧
  (∀ (x : Entry), Does (fun dt => .standbyEntryStepDone dt)
      (fun e => e.running = true ∧ e.power.entry = some x ∧ (x.kind = .ship ∨ x.aborting = 0) ∧ (x.kind = .standby ∨ e.chargerOn = false) ∧ x.step = 4 ∧ e.caveDrained = true)
      (fun e t => (∃ y, t.power.entry = some y ∧ y.step = 5 ∧ y.stepAt = e.now ∧ y.kind = x.kind ∧ y.startedAt = x.startedAt) ∧ t.power.phase = .run ∧ t.sram = e.sram ∧ t.wheels = e.wheels)) ∧
  (∀ (x : Entry), Makes (fun dt => .standbyEntryStepDone dt)
      (fun e => e.running = true ∧ e.power.entry = some x ∧ x.kind = .standby ∧ x.aborting = 0 ∧ x.step = 5 ∧ e.entryAcked x = true)
      (fun e => { e with power := { e.power with entry := some { x with step := 6, stepAt := e.now } } })) ∧
  (∀ (x : Entry), Does (fun dt => .standbyEntryStepDone dt)
      (fun e => e.running = true ∧ e.power.entry = some x ∧ x.kind = .standby ∧ x.aborting = 0 ∧ x.step = 6 ∧ e.lfPending = false)
      (fun e t => t.power.phase = .standby ∧ t.power.entry = none ∧ t.power.sbyCount = e.power.sbyCount + 1 ∧ t.power.standbyAt = e.lf ∧ t.power.domRdy = 9 ∧ t.power.mainen = !(e.bit 0x110008 1) ∧ t.power.result = e.power.result ∧ t.sram = e.sram ∧ t.nand.pages = e.nand.pages ∧ t.outs = e.outs ∧ t.timers = e.timers)) ∧
  (∀ (x : Entry), Does (fun dt => .standbyEntryStepDone dt)
      (fun e => e.running = true ∧ e.power.entry = some x ∧ x.kind = .standby ∧ x.aborting ≠ 0 ∧ x.step = 6 ∧ x.announced = false ∧ e.lfPending = false)
      (fun e t => t.power.phase = .run ∧ t.power.entry = none ∧ t.power.result = 9 ∧ t = { e with power := t.power, regs := t.regs, setAt := t.setAt, setNow := t.setNow } ∧ (∀ a, a ≠ 0x110018 → t.reg a = e.reg a))) ∧
  (∀ (x : Entry), Does (fun dt => .entryDmaDrainTimeout dt)
      (fun e => e.running = true ∧ e.power.entry = some x ∧ (x.kind = .ship ∨ x.aborting = 0) ∧ (x.kind = .standby ∨ e.chargerOn = false) ∧ x.step = 3 ∧ x.stepAt + msAng 1 ≤ e.now ∧ e.stopRunning.dmaBusy = false)
      (fun e t => t.power.phase = .run ∧ t.power.entry = some { x with step := 4, stepAt := e.now } ∧ t.dmaBusy = false ∧ t.sram = e.sram ∧ t.wheels = e.wheels)) ∧
  (∀ (x : Entry), Makes (fun dt => .entryDmaDrainTimeout dt)
      (fun e => e.running = true ∧ e.power.entry = some x ∧ x.step = 3 ∧ x.stepAt + msAng 1 ≤ e.now ∧ e.stopRunning.dmaBusy = true)
      (fun e => e.stopRunning)) ∧
  (∀ (x : Entry), Makes (fun dt => .ntcPowerAckTimeout dt)
      (fun e => e.running = true ∧ e.power.entry = some x ∧ x.kind = .standby ∧ x.aborting = 0 ∧ x.step = 5 ∧ x.stepAt + msAng 50 ≤ e.now)
      (fun e => { e with power := { e.power with entry := some { x with step := 6, stepAt := e.now } } })) ∧
  (∀ (x : Entry), Does (fun dt => .ntcPowerAckTimeout dt)
      (fun e => e.running = true ∧ e.power.entry = some x ∧ x.kind = .ship ∧ e.chargerOn = false ∧ x.step = 5 ∧ x.stepAt + msAng 50 ≤ e.now)
      (fun e t => t.power.phase = .shipping ∧ t.power.shipoff = true ∧ t.power.entry = none ∧ t.power.shipAt = e.lf ∧ t.power.domRdy = 1 ∧ t.sram = e.sram)) ∧
  (∀ (x : Entry), Does (fun dt => .standbyEntryTimeout dt)
      (fun e => e.running = true ∧ e.power.entry = some x ∧ x.step ≤ 4 ∧ x.startedAt + secAng 2 ≤ e.now ∧ x.announced = false)
      (fun e t => t.power.phase = .run ∧ t.power.entry = none ∧ t.power.result = 8 ∧ (∀ n : Fin 32, (t.outs[n]).queue = []) ∧ t.sram = e.sram)) ∧
  (∀ (wakein : Bool), Does (fun dt => .wakeSourceLatch dt wakein)
      (fun e => e.power.phase = .standby ∧ ((e.power.wakeReq ||| 8 * b2n wakein) &&& (e.fld 0x110014 3 0 ||| 1)) ≠ 0)
      (fun e t => t.power.phase = .waking ∧ t.power.mainen = true ∧ t.power.wakeAt = e.lf ∧ t.power.wakeReq = 0 ∧ t.power.wakeSrc = ((e.power.wakeReq ||| 8 * b2n wakein) &&& (e.fld 0x110014 3 0 ||| 1)) ∧ t.reg 0x110018 = e.reg 0x110018 ||| BitVec.ofNat 32 t.power.wakeSrc ∧ t = { e with power := t.power, regs := t.regs, setAt := t.setAt, setNow := t.setNow } ∧ (∀ a, a ≠ 0x110018 → t.reg a = e.reg a))) ∧
  (∀ (wakein : Bool), Makes (fun dt => .wakeSourceLatch dt wakein)
      (fun e => ((e.power.wakeReq ||| 8 * b2n wakein) &&& (e.fld 0x110014 3 0 ||| 1)) = 0)
      (fun e => { e with power := { e.power with wakeReq := 0 } })) ∧
  (∀ (wakein : Bool) (x : Entry), Does (fun dt => .wakeSourceLatch dt wakein)
      (fun e => e.power.phase = .run ∧ e.power.entry = some x ∧ x.kind = .standby ∧ ((e.power.wakeReq ||| 8 * b2n wakein) &&& (e.fld 0x110014 3 0 ||| 1)) ≠ 0)
      (fun e t => t.power.entry = some { x with aborting := x.aborting ||| ((e.power.wakeReq ||| 8 * b2n wakein) &&& (e.fld 0x110014 3 0 ||| 1)) } ∧ t.power.phase = .run)) ∧
  (Does (fun dt => .runReached dt)
      (fun e => e.power.phase = .waking ∧ e.power.vdd5Ok = true)
      (fun e t => t.power.phase = .run ∧ t.link.can = .integrating ∧ t.link.cache = e.link.cache ∧ (∀ w : Fin 4, (t.wheels[w]).sync = .silent) ∧ t.regA.state = .idle ∧ t.regB.state = .idle ∧ (∀ a, a < 0x810000 → t.sramByte a = e.sramByte a))) ∧
  (Makes (fun dt => .runReached dt)
      (fun e => e.power.phase ≠ .waking ∨ e.power.vdd5Ok = false)
      (fun e => e))

/-- O14, READ answers words, WRITE and MODIFY store them. Where the link takes a new command (`State.takes`) and the frame has the
bytes it needs, each leaves exactly the response, the response cache and the command time of the link (`State.answered`,
`State.served`) beside what its clause says. A READ of a range that is in order, all of it SRAM, answers OK with the words, low
byte first. A READ of no word or more than 14 is BAD_ARG. A READ at an address that is no multiple of four is BAD_ALIGN. A READ
of one word where nothing is implemented is BUS_ERROR with that address. A WRITE of one SRAM word, with no transaction open,
stores its four bytes and answers OK. A MODIFY of an SRAM word, with no transaction open, answers OK with the old word and
stores it with the bits of the mask replaced. Each clause concludes that exec answers a next state, for all states and operands
under its conditions: read, write, modify. -/
def Obligations.ReadWriteModify : Prop :=
  (∀ (seq : BitVec 16) (args : List Byte), Makes (fun dt => .read dt seq args)
      (fun e => e.takes seq ∧ 4 ≤ args.length ∧ rangeRefusal (frameNat args 4 3) (frameNat args 7 1) = none ∧ ∀ a ∈ wordAddrs (frameNat args 4 3) (frameNat args 7 1), inSram a = true)
      (fun e => State.answered e.served seq 0x10 0x00 0 ((wordAddrs (frameNat args 4 3) (frameNat args 7 1)).flatMap (fun a => bytesLE 4 (e.sramWord a).toNat)) e.served)) ∧
  (∀ (seq : BitVec 16) (args : List Byte), Makes (fun dt => .read dt seq args)
      (fun e => e.takes seq ∧ 4 ≤ args.length ∧ (frameNat args 7 1 = 0 ∨ 14 < frameNat args 7 1))
      (fun e => State.answered e.served seq 0x10 0x11 0 [] e.served)) ∧
  (∀ (seq : BitVec 16) (args : List Byte), Makes (fun dt => .read dt seq args)
      (fun e => e.takes seq ∧ 4 ≤ args.length ∧ 1 ≤ frameNat args 7 1 ∧ frameNat args 7 1 ≤ 14 ∧ frameNat args 4 3 % 4 ≠ 0)
      (fun e => State.answered e.served seq 0x10 0x16 0 [] e.served)) ∧
  (∀ (seq : BitVec 16) (args : List Byte), Makes (fun dt => .read dt seq args)
      (fun e => e.takes seq ∧ 4 ≤ args.length ∧ frameNat args 7 1 = 1 ∧ frameNat args 4 3 % 4 = 0 ∧ implemented (frameNat args 4 3) = false)
      (fun e => State.answered e.served seq 0x10 0x15 (frameNat args 4 3) [] e.served)) ∧
  (∀ (seq : BitVec 16) (args : List Byte), Makes (fun dt => .write dt seq args)
      (fun e => e.takes seq ∧ 8 ≤ args.length ∧ frameNat args 7 1 = 1 ∧ frameNat args 4 3 % 4 = 0 ∧ inSram (frameNat args 4 3) = true ∧ e.cfg.state = .idle)
      (fun e => State.answered e.served seq 0x11 0x00 0 [] (e.served.setSramBytes (frameNat args 4 3) (bytesLE 4 (frameNat args 8 4))))) ∧
  (∀ (seq : BitVec 16) (args : List Byte), Makes (fun dt => .modify dt seq args)
      (fun e => e.takes seq ∧ 12 ≤ args.length ∧ frameNat args 7 1 = 0 ∧ frameNat args 4 3 % 4 = 0 ∧ inSram (frameNat args 4 3) = true ∧ e.cfg.state = .idle)
      (fun e => State.answered e.served seq 0x12 0x00 0 (bytesLE 4 (e.sramWord (frameNat args 4 3)).toNat) (e.served.setSramWord (frameNat args 4 3) ((e.sramWord (frameNat args 4 3) &&& ~~~(BitVec.ofNat 32 (frameNat args 8 4))) ||| (BitVec.ofNat 32 (frameNat args 12 4) &&& BitVec.ofNat 32 (frameNat args 8 4))))))

/-- O15, PING, RESET, and the response cache. Where the link takes a new command (`State.takes`) and the frame has the bytes it
needs, each leaves exactly the response, the response cache and the command time of the link (`State.answered`, `State.served`)
beside what its clause says. PING answers OK with the identity word, the protocol version 1.0, the node and the lifecycle state.
RESET with the key 0x3CA5 answers OK and a HOST reset is to follow. With another key it is BAD_ARG. A frame with an opcode that
Table Link.3 does not have answers BAD_OPCODE. A WRITE whose SEQ and OP are those of the cached response gets that response
again with CACHED set; beside it only the command time changes. A TXN_OPEN whose SEQ and OP are those of the cached response
gets that response again with CACHED set; beside it only the command time changes. A RESET whose SEQ and OP are those of the
cached response gets that response again with CACHED set; beside it only the command time changes. A WRITE with the SEQ of the
cached response but not its OP is SEQ_CONFLICT, and the cache stays. Each clause concludes that exec answers a next state, for
all states and operands under its conditions: ping, reset, badOpcode, write, txnOpen. -/
def Obligations.PingResetAndResponses : Prop :=
  (∀ (seq : BitVec 16) (args : List Byte), Makes (fun dt => .ping dt seq args)
      (fun e => e.takes seq)
      (fun e => State.answered e.served seq 0x01 0x00 0 (bytesLE 4 (e.served.view .link 0).toNat ++ bytesLE 2 0x0100 ++ bytesLE 1 (fieldOf e.link.active.idcfg 15 11) ++ bytesLE 1 e.life.state.code) e.served)) ∧
  (∀ (seq : BitVec 16) (args : List Byte), Makes (fun dt => .reset dt seq args)
      (fun e => e.takes seq ∧ 2 ≤ args.length ∧ frameNat args 4 2 = 0x3CA5)
      (fun e => State.answered e.served seq 0x02 0x00 0 [] { e.served with link := { e.served.link with resetPend := true } })) ∧
  (∀ (seq : BitVec 16) (args : List Byte), Makes (fun dt => .reset dt seq args)
      (fun e => e.takes seq ∧ 2 ≤ args.length ∧ frameNat args 4 2 ≠ 0x3CA5)
      (fun e => State.answered e.served seq 0x02 0x11 0 [] e.served)) ∧
  (∀ (seq : BitVec 16) (op : Byte) (args : List Byte), Makes (fun dt => .badOpcode dt seq op args)
      (fun e => e.takes seq ∧ knownOps.contains op.toNat = false)
      (fun e => State.answered e.served seq op.toNat 0x10 0 [] e.served)) ∧
  (∀ (seq : BitVec 16) (args : List Byte) (f : List Byte), Makes (fun dt => .write dt seq args)
      (fun e => e.online = true ∧ e.link.stale = false ∧ e.linkBusy = false ∧ e.link.cache = some { seq := seq.toNat, op := 0x11, frame := f })
      (fun e => e.served.handOver (cachedFrame f))) ∧
  (∀ (seq : BitVec 16) (args : List Byte) (f : List Byte), Makes (fun dt => .txnOpen dt seq args)
      (fun e => e.online = true ∧ e.link.stale = false ∧ e.linkBusy = false ∧ e.link.cache = some { seq := seq.toNat, op := 0x20, frame := f })
      (fun e => e.served.handOver (cachedFrame f))) ∧
  (∀ (seq : BitVec 16) (args : List Byte) (f : List Byte), Makes (fun dt => .reset dt seq args)
      (fun e => e.online = true ∧ e.link.stale = false ∧ e.linkBusy = false ∧ e.link.cache = some { seq := seq.toNat, op := 0x02, frame := f })
      (fun e => e.served.handOver (cachedFrame f))) ∧
  (∀ (seq : BitVec 16) (args : List Byte) (op : Nat) (f : List Byte), Makes (fun dt => .write dt seq args)
      (fun e => e.online = true ∧ e.link.stale = false ∧ e.linkBusy = false ∧ e.linkStalled = false ∧ e.link.heldIn = [] ∧ e.link.cache = some { seq := seq.toNat, op := op, frame := f } ∧ op ≠ 0x11)
      (fun e => e.served.handOver (responseFrame e.ringPending e.boot.recovery seq.toNat 0x11 0x13 0 [])))

/-- O16, TXN_OPEN, TXN_COMMIT, TXN_ABORT and TXN_STATUS. Where the link takes a new command (`State.takes`) and the frame has the
bytes it needs, each leaves exactly the response, the response cache and the command time of the link (`State.answered`,
`State.served`) beside what its clause says. TXN_OPEN with none open and its arguments in range opens a transaction and answers
its number. It is OPEN under that number, with an empty shadow and the named commit point, and no register word changes. A
second TXN_OPEN is TXN_BUSY. TXN_COMMIT of an OPEN transaction that no check refuses arms it and answers ACCEPTED. It is ARMED
from now, as the last stage, with its shadow, and no register word changes. A check that fails is its answer. With none open
TXN_COMMIT is TXN_NONE. TXN_ABORT discards transaction and shadow with cause 6 in CFG_LAST and answers OK; of the register words
only LNK_NTCLOST may change, SRAM does not. With none open it is TXN_NONE. TXN_STATUS without stages answers the state, the
bytes of the shadow and the number. Each clause concludes that exec answers a next state, for all states and operands under its
conditions: txnOpen, txnCommit, txnAbort, txnStatus. -/
def Obligations.TransactionCommands : Prop :=
  (∀ (seq : BitVec 16) (args : List Byte) (p : CommitPoint), Makes (fun dt => .txnOpen dt seq args)
      (fun e => e.takes seq ∧ 4 ≤ args.length ∧ e.cfg.state = .idle ∧ pointOf args = some p)
      (fun e => State.answered e.served seq 0x20 0x00 0 (bytesLE 2 e.cfg.nextNum) (e.served.openTxn p (frameNat args 6 1 == 1)))) ∧
  (∀ (seq : BitVec 16) (args : List Byte) (p : CommitPoint), Does (fun dt => .txnOpen dt seq args)
      (fun e => e.takes seq ∧ 4 ≤ args.length ∧ e.cfg.state = .idle ∧ pointOf args = some p)
      (fun e t => t.cfg.state = .opened ∧ t.cfg.num = e.cfg.nextNum ∧ t.cfg.shadow = [] ∧ t.cfg.point = p ∧ t.regs = e.regs)) ∧
  (∀ (seq : BitVec 16) (args : List Byte), Makes (fun dt => .txnOpen dt seq args)
      (fun e => e.takes seq ∧ 4 ≤ args.length ∧ e.cfg.state ≠ .idle)
      (fun e => State.answered e.served seq 0x20 0x21 0 [] e.served)) ∧
  (∀ (seq : BitVec 16) (args : List Byte), Makes (fun dt => .txnCommit dt seq args)
      (fun e => e.takes seq ∧ e.cfg.state = .opened ∧ e.closeFailure = none)
      (fun e => State.answered e.served seq 0x21 0x01 0 [] (e.served.armTxn true))) ∧
  (∀ (seq : BitVec 16) (args : List Byte), Does (fun dt => .txnCommit dt seq args)
      (fun e => e.takes seq ∧ e.cfg.state = .opened ∧ e.closeFailure = none)
      (fun e t => t.cfg.state = .armed ∧ t.cfg.armedAt = e.now ∧ t.cfg.last = true ∧ t.cfg.shadow = e.cfg.shadow ∧ t.regs = e.regs)) ∧
  (∀ (seq : BitVec 16) (args : List Byte) (st d : Nat), Makes (fun dt => .txnCommit dt seq args)
      (fun e => e.takes seq ∧ e.cfg.state = .opened ∧ e.closeFailure = some (st, d))
      (fun e => State.answered e.served seq 0x21 st d [] e.served)) ∧
  (∀ (seq : BitVec 16) (args : List Byte), Makes (fun dt => .txnCommit dt seq args)
      (fun e => e.takes seq ∧ e.cfg.state = .idle)
      (fun e => State.answered e.served seq 0x21 0x20 0 [] e.served)) ∧
  (∀ (seq : BitVec 16) (args : List Byte), Does (fun dt => .txnAbort dt seq args)
      (fun e => e.takes seq ∧ e.cfg.state ≠ .idle)
      (fun e t => t.cfg.state = .idle ∧ t.cfg.shadow = [] ∧ t.cfg.lastCause = 6 ∧ t.sram = e.sram ∧ (∀ a, a ≠ 0x10034 → t.reg a = e.reg a) ∧ t.link.lastResp = responseFrame e.ringPending false seq.toNat 0x22 0x00 0 [])) ∧
  (∀ (seq : BitVec 16) (args : List Byte), Makes (fun dt => .txnAbort dt seq args)
      (fun e => e.takes seq ∧ e.cfg.state = .idle)
      (fun e => State.answered e.served seq 0x22 0x20 0 [] e.served)) ∧
  (∀ (seq : BitVec 16) (args : List Byte), Makes (fun dt => .txnStatus dt seq args)
      (fun e => e.takes seq ∧ e.cfg.staged = false)
      (fun e => State.answered e.served seq 0x23 0x00 0 (bytesLE 1 e.cfg.state.code ++ [0, 0, 0] ++ bytesLE 2 e.shadowBytes ++ bytesLE 2 e.cfg.num) e.served))

/-- O17, IMG, REC_READ and LOG_READ commands. Where the link takes a new command and the frame has the bytes it needs: IMG_BEGIN of
a length from 0x100 to 0x20_0000 for which the other slot has good blocks enough, with no update under way in a cave that is not
read-only, begins an update of that slot under its next GEN and answers both; beside link, cave and command time nothing
changes. Any other length is BAD_ARG. IMG_DATA of 1 to 56 bytes at the next offset, within the length and within the page
buffer, takes them into it and answers OK. Without an update it is IMG_STATE. IMG_END once every byte has come answers ACCEPTED,
and the update of that slot and GEN has ended with an empty page buffer. Before that, and without an update, it is IMG_STATE.
IMG_ABORT ends the update and answers OK; register words and SRAM stay. Without an update it is IMG_STATE. Likewise: REC_READ of
a pack record before the mount answers FETCHING, and the response cache stays. After the mount, of a record at hand, it answers
OK with up to 56 bytes from the offset and their number in DETAIL, in the state in which the record is held. An index above 255
other than FFFF is BAD_ARG. LOG_READ before the mount answers FETCHING alike. After it, an entry that a page buffer holds is
answered whole, with its length in DETAIL. Each clause concludes that exec answers a next state, for all states and operands
under its conditions: imgBegin, imgData, imgEnd, imgAbort, recRead, logRead. -/
def Obligations.ImagesRecordsAndLog : Prop :=
  (∀ (seq : BitVec 16) (args : List Byte), Does (fun dt => .imgBegin dt seq args)
      (fun e => e.takes seq ∧ 4 ≤ args.length ∧ e.cave.imgUpd = none ∧ e.imgWriting = false ∧ e.cave.mode ≠ .readonly ∧ 0x100 ≤ frameNat args 4 4 ∧ frameNat args 4 4 ≤ 0x200000 ∧ e.blockSize ≠ 0 ∧ e.blocksFor (frameNat args 4 4) ≤ (e.goodSlotBlocks e.updateTarget.1).length)
      (fun e t => (∃ u, t.cave.imgUpd = some u ∧ u.slot = e.updateTarget.1 ∧ u.gen = e.updateTarget.2 ∧ u.len = frameNat args 4 4 ∧ u.got = 0 ∧ u.ended = false) ∧ t.link.lastResp = responseFrame e.ringPending false seq.toNat 0x30 0x00 0 (bytesLE 1 (e.updateTarget.1 + 1) ++ [0, 0, 0] ++ bytesLE 4 e.updateTarget.2) ∧ t = { e.served with link := t.link, cave := t.cave })) ∧
  (∀ (seq : BitVec 16) (args : List Byte), Makes (fun dt => .imgBegin dt seq args)
      (fun e => e.takes seq ∧ 4 ≤ args.length ∧ e.cave.imgUpd = none ∧ e.imgWriting = false ∧ e.cave.mode ≠ .readonly ∧ (frameNat args 4 4 < 0x100 ∨ 0x200000 < frameNat args 4 4))
      (fun e => State.answered e.served seq 0x30 0x11 0 [] e.served)) ∧
  (∀ (seq : BitVec 16) (args : List Byte) (u : ImgUpd), Makes (fun dt => .imgData dt seq args)
      (fun e => e.takes seq ∧ imgNeed args ≤ args.length ∧ e.cave.imgUpd = some u ∧ u.ended = false ∧ 1 ≤ frameNat args 7 1 ∧ frameNat args 7 1 ≤ 56 ∧ frameNat args 4 3 = u.got ∧ u.got + frameNat args 7 1 ≤ u.len ∧ u.full = [] ∧ u.buf.length + frameNat args 7 1 < e.nand.page)
      (fun e => State.answered e.served seq 0x31 0x00 0 [] { e.served with cave := { e.cave with imgUpd := some { u with buf := u.buf ++ (args.drop 4).take (frameNat args 7 1), got := u.got + frameNat args 7 1 } } })) ∧
  (∀ (seq : BitVec 16) (args : List Byte), Makes (fun dt => .imgData dt seq args)
      (fun e => e.takes seq ∧ imgNeed args ≤ args.length ∧ e.cave.imgUpd = none)
      (fun e => State.answered e.served seq 0x31 0x40 0 [] e.served)) ∧
  (∀ (seq : BitVec 16) (args : List Byte) (u : ImgUpd), Does (fun dt => .imgEnd dt seq args)
      (fun e => e.takes seq ∧ e.cave.imgUpd = some u ∧ u.ended = false ∧ u.len ≤ u.got)
      (fun e t => t.link.lastResp = responseFrame e.ringPending false seq.toNat 0x32 0x01 0 [] ∧ (∃ v, t.cave.imgUpd = some v ∧ v.ended = true ∧ v.buf = [] ∧ v.slot = u.slot ∧ v.gen = u.gen))) ∧
  (∀ (seq : BitVec 16) (args : List Byte), Makes (fun dt => .imgEnd dt seq args)
      (fun e => e.takes seq ∧ e.cave.imgUpd.all (fun u => decide (u.got < u.len)) = true)
      (fun e => State.answered e.served seq 0x32 0x40 0 [] e.served)) ∧
  (∀ (seq : BitVec 16) (args : List Byte) (u : ImgUpd), Does (fun dt => .imgAbort dt seq args)
      (fun e => e.takes seq ∧ e.cave.imgUpd = some u)
      (fun e t => t.cave.imgUpd = none ∧ t.link.lastResp = responseFrame e.ringPending false seq.toNat 0x33 0x00 0 [] ∧ t.regs = e.regs ∧ t.sram = e.sram)) ∧
  (∀ (seq : BitVec 16) (args : List Byte), Makes (fun dt => .imgAbort dt seq args)
      (fun e => e.takes seq ∧ e.cave.imgUpd = none)
      (fun e => State.answered e.served seq 0x33 0x40 0 [] e.served)) ∧
  (∀ (seq : BitVec 16) (args : List Byte), Makes (fun dt => .recRead dt seq args)
      (fun e => e.takes seq ∧ 4 ≤ args.length ∧ frameNat args 4 2 ≤ 255 ∧ e.caveServes = false)
      (fun e => e.served.handOver (responseFrame e.ringPending false seq.toNat 0x40 0x03 0 []))) ∧
  (∀ (seq : BitVec 16) (args : List Byte) (body : List Byte) (u : State), Makes (fun dt => .recRead dt seq args)
      (fun e => e.takes seq ∧ 4 ≤ args.length ∧ frameNat args 4 2 ≤ 255 ∧ e.caveServes = true ∧ e.served.cachedRecord (frameNat args 4 2) = some (body, u) ∧ frameNat args 6 2 < body.length)
      (fun e => State.answered e.served seq 0x40 0x00 ((body.drop (frameNat args 6 2)).take 56).length ((body.drop (frameNat args 6 2)).take 56) u)) ∧
  (∀ (seq : BitVec 16) (args : List Byte), Makes (fun dt => .recRead dt seq args)
      (fun e => e.takes seq ∧ 4 ≤ args.length ∧ 255 < frameNat args 4 2 ∧ frameNat args 4 2 ≠ 0xFFFF)
      (fun e => State.answered e.served seq 0x40 0x11 0 [] e.served)) ∧
  (∀ (seq : BitVec 16) (args : List Byte), Makes (fun dt => .logRead dt seq args)
      (fun e => e.takes seq ∧ 4 ≤ args.length ∧ e.caveServes = false)
      (fun e => e.served.handOver (responseFrame e.ringPending false seq.toNat 0x41 0x03 0 []))) ∧
  (∀ (seq : BitVec 16) (args : List Byte) (x : LogEntry), Makes (fun dt => .logRead dt seq args)
      (fun e => e.takes seq ∧ 4 ≤ args.length ∧ e.caveServes = true ∧ e.bufferedEntry (frameNat args 4 4) = some x)
      (fun e => State.answered e.served seq 0x41 0x00 (x.bytes.take (12 + x.payload.length)).length (x.bytes.take (12 + x.payload.length)) e.served))

/-- O18, SELFTEST and the self-tests it starts. Where the link takes a new command (`State.takes`) and the frame has the bytes it
needs, each leaves exactly the response, the response cache and the command time of the link (`State.answered`, `State.served`)
beside what its clause says. SELFTEST of ADCA, idle and ready, begins the test at once and answers ACCEPTED, its deadline the
given seconds ahead, 60 for 0. An angle test with a wheel that has not rested is queued with that deadline, and DETAIL is 1. A
unit above 3 is BAD_ARG. ADCA with a test queued or running is SELFTEST_BUSY. ANGLE_SELFTEST_START of a queued test before its
deadline, once every wheel has rested 500 ms, begins it now; trackers, SRAM and power stay. Before that nothing changes.
ANGLE_SELFTEST_END of a running test leaves the unit idle and every tracker SILENT; SRAM and power stay.
SELFTEST_DEFERRED_TIMEOUT of a queued angle test past its deadline: it is idle, and NTC_SELFTEST with result 2 arises.
ADC_SELFTEST_DONE of a running test of ADCA, at work, without a failing check: the unit is idle, and NTC_SELFTEST with result 0
and the DETAIL of its readings arises. With no test of ADCA nothing changes. FUSION_SELFTEST_DONE of a running test with its
results leaves the unit idle; SRAM and power stay. Each clause concludes that exec answers a next state, for all states and
operands under its conditions: selftest, angleSelftestStart, angleSelftestEnd, selftestDeferredTimeout, adcSelftestDone,
fusionSelftestDone. -/
def Obligations.SelfTesting : Prop :=
  (∀ (seq : BitVec 16) (args : List Byte), Makes (fun dt => .selftest dt seq args)
      (fun e => e.takes seq ∧ 3 ≤ args.length ∧ frameNat args 4 1 = 1 ∧ e.cfg.testAdcA = .idle ∧ e.domainOn 4 = true ∧ e.convOn .adcA = true)
      (fun e => State.answered e.served seq 0x50 0x01 0 [] { e.served with cfg := { e.cfg with testAdcA := .running e.now (e.now + secAng (if frameNat args 5 2 = 0 then 60 else frameNat args 5 2)) } })) ∧
  (∀ (seq : BitVec 16) (args : List Byte), Makes (fun dt => .selftest dt seq args)
      (fun e => e.takes seq ∧ 3 ≤ args.length ∧ frameNat args 4 1 = 0 ∧ e.cfg.testAngle = .idle ∧ e.restedHalfSecond = false)
      (fun e => State.answered e.served seq 0x50 0x01 1 [] { e.served with cfg := { e.cfg with testAngle := .queued (e.now + secAng (if frameNat args 5 2 = 0 then 60 else frameNat args 5 2)) } })) ∧
  (∀ (seq : BitVec 16) (args : List Byte), Makes (fun dt => .selftest dt seq args)
      (fun e => e.takes seq ∧ 3 ≤ args.length ∧ 3 < frameNat args 4 1)
      (fun e => State.answered e.served seq 0x50 0x11 0 [] e.served)) ∧
  (∀ (seq : BitVec 16) (args : List Byte), Makes (fun dt => .selftest dt seq args)
      (fun e => e.takes seq ∧ 3 ≤ args.length ∧ frameNat args 4 1 = 1 ∧ e.cfg.testAdcA ≠ .idle)
      (fun e => State.answered e.served seq 0x50 0x30 0 [] e.served)) ∧
  (∀ (deadline : Nat), Does (fun dt => .angleSelftestStart dt)
      (fun e => e.running = true ∧ e.cfg.testAngle = .queued deadline ∧ e.restedHalfSecond = true ∧ e.now < deadline)
      (fun e t => t.cfg.testAngle = .running e.now deadline ∧ t.wheels = e.wheels ∧ t.sram = e.sram ∧ t.power = e.power)) ∧
  (Makes (fun dt => .angleSelftestStart dt)
      (fun e => e.restedHalfSecond = false)
      (fun e => e)) ∧
  (∀ (pass : Bool) (detail : Word) (since deadline : Nat), Does (fun dt => .angleSelftestEnd dt pass detail)
      (fun e => e.running = true ∧ e.cfg.testAngle = .running since deadline)
      (fun e t => t.cfg.testAngle = .idle ∧ (∀ w : Fin 4, (t.wheels[w]).sync = .silent) ∧ t.sram = e.sram ∧ t.power = e.power)) ∧
  (∀ (deadline : Nat), Makes (fun dt => .selftestDeferredTimeout dt)
      (fun e => e.running = true ∧ e.cfg.testAngle = .queued deadline ∧ deadline ≤ e.now)
      (fun e => ({ e with cfg := { e.cfg with testAngle := .idle } } : State).notice 0x07 [0, 2, 0, 0, 0, 0])) ∧
  (∀ (r : AdcTest) (since deadline : Nat), Makes (fun dt => .adcSelftestDone dt .adcA r)
      (fun e => e.running = true ∧ e.cfg.testAdcA = .running since deadline ∧ e.convOn .adcA = true ∧ e.adcDetail .adcA r % 32 = 0)
      (fun e => ({ e with cfg := { e.cfg with testAdcA := .idle } } : State).notice 0x07 (selftestPayload 1 0 (e.adcDetail .adcA r)))) ∧
  (∀ (r : AdcTest), Makes (fun dt => .adcSelftestDone dt .adcA r)
      (fun e => e.cfg.testAdcA = .idle)
      (fun e => e)) ∧
  (∀ (since deadline b : Nat), Does (fun dt => .fusionSelftestDone dt)
      (fun e => e.running = true ∧ e.cfg.testFusion = .running since deadline ∧ e.fus.testBits = some b)
      (fun e t => t.cfg.testFusion = .idle ∧ t.fus.testBits = none ∧ t.sram = e.sram ∧ t.power = e.power))

/-- O19, A challenge and its response over the link and over the port. Where the link takes a new command and the frame has the
bytes it needs: LCS_CHALLENGE that nothing refuses issues a challenge for its target, which replaces a live one, counts it and
answers OK with its bytes; fuses and register words stay. One that is refused answers the refusal and changes nothing else.
LCS_RESPOND part 0 with a live challenge keeps its 32 bytes as r and answers OK. Part 1 with no live challenge is AUTH_FAIL: one
more failure, and from the fourth on a lockout of 60 s. In each clause LCSPORT is the selected instruction, PD1 is up, no memory
test and no transition is under way. A CHALLENGE that nothing refuses: status 0, the count of challenges one up, a challenge of
32 bytes for that target at this CLK_LF count with the unit's number in bytes 16 to 23; life-cycle state, OTP, registers and
SRAM stay. A refused one leaves its status, and life cycle, OTP and registers as they were. READCH of an index below 8 with a
live challenge: status 0 and that word of the challenge, least significant byte first; life cycle, OTP and registers stay. With
no live challenge, or an index above 7: status 11 (hexadecimal); life cycle and OTP stay. LOADR of an index below 8 with a live
challenge whose r is full: status 0, that word of r replaced, most significant byte first; OTP and s stay. LOADR of an index
above 7: status 11; life cycle and OTP stay. LOADS of an index below 8: status 0, that word of s replaced; life cycle, OTP and
registers stay. LOADS of an index above 7: status 11; s, life cycle and OTP stay. Each clause concludes that exec answers a next
state, for all states and operands under its conditions: lcsChallenge, lcsRespond, lcsportChallenge, lcsportReadch,
lcsportLoadr, lcsportLoads. -/
def Obligations.Challenges : Prop :=
  (∀ (seq : BitVec 16) (args : List Byte), Does (fun dt => .lcsChallenge dt seq args)
      (fun e => e.takes seq ∧ 1 ≤ args.length ∧ e.challengeRefusal (frameNat args 4 1) = none)
      (fun e t => (∃ c, t.life.challenge = some c ∧ c.target = frameNat args 4 1 ∧ c.at_ = e.lf ∧ c.r = [] ∧ t.link.lastResp = responseFrame e.ringPending false seq.toNat 0x60 0x00 0 c.bytes) ∧ t.life.issued = e.life.issued + 1 ∧ t.otp = e.otp ∧ t.regs = e.regs)) ∧
  (∀ (seq : BitVec 16) (args : List Byte) (st d : Nat), Makes (fun dt => .lcsChallenge dt seq args)
      (fun e => e.takes seq ∧ 1 ≤ args.length ∧ e.challengeRefusal (frameNat args 4 1) = some (st, d))
      (fun e => State.answered e.served seq 0x60 st d [] e.served)) ∧
  (∀ (seq : BitVec 16) (args : List Byte) (c : Challenge), Makes (fun dt => .lcsRespond dt seq args)
      (fun e => e.takes seq ∧ 36 ≤ args.length ∧ frameNat args 4 1 = 0 ∧ e.liveChallenge = some c)
      (fun e => State.answered e.served seq 0x61 0x00 0 [] { e.served with life := { e.life with challenge := some { c with r := (args.drop 4).take 32 } } })) ∧
  (∀ (seq : BitVec 16) (args : List Byte), Makes (fun dt => .lcsRespond dt seq args)
      (fun e => e.takes seq ∧ 36 ≤ args.length ∧ frameNat args 4 1 = 1 ∧ e.liveChallenge = none)
      (fun e => State.answered e.served seq 0x61 0x50 0 [] { e.served with life := { e.life with challenge := none, fails := satAdd 15 e.life.fails 1, lockout := (if 4 ≤ satAdd 15 e.life.fails 1 then some (e.lf + 60 * 32768) else e.life.lockout) } })) ∧
  (∀ (target : BitVec 8), Does (fun dt => .lcsportChallenge dt target)
      (fun e => e.jtagAt 0x08 = true ∧ e.power.phase ≠ .memtest ∧ e.life.transition = none ∧ e.challengeRefusal target.toNat = none)
      (fun e t => t.jtag.lcsStatus = 0 ∧ t.life.issued = e.life.issued + 1 ∧ t.life.challenge.map (fun c => (c.target, c.at_, c.bytes.length)) = some (target.toNat, e.lf, 32) ∧ t.life.challenge.map (fun c => natAt c.bytes 16 8) = some e.otp.uid.toNat ∧ t.life.state = e.life.state ∧ t.otp = e.otp ∧ t.regs = e.regs ∧ t.sram = e.sram)) ∧
  (∀ (target : BitVec 8) (st d : Nat), Does (fun dt => .lcsportChallenge dt target)
      (fun e => e.jtagAt 0x08 = true ∧ e.power.phase ≠ .memtest ∧ e.life.transition = none ∧ e.challengeRefusal target.toNat = some (st, d))
      (fun e t => t.jtag.lcsStatus = st ∧ t.life = e.life ∧ t.otp = e.otp ∧ t.regs = e.regs)) ∧
  (∀ (index : BitVec 8) (c : Challenge), Does (fun dt => .lcsportReadch dt index)
      (fun e => e.jtagAt 0x08 = true ∧ e.power.phase ≠ .memtest ∧ e.life.transition = none ∧ e.liveChallenge = some c ∧ index.toNat < 8)
      (fun e t => t.jtag.lcsStatus = 0 ∧ t.jtag.lcsWord = wordAt c.bytes (4 * index.toNat) ∧ t.life = e.life ∧ t.otp = e.otp ∧ t.regs = e.regs)) ∧
  (∀ (index : BitVec 8), Does (fun dt => .lcsportReadch dt index)
      (fun e => e.jtagAt 0x08 = true ∧ e.power.phase ≠ .memtest ∧ e.life.transition = none ∧ (e.liveChallenge = none ∨ 8 ≤ index.toNat))
      (fun e t => t.jtag.lcsStatus = 0x11 ∧ t.life = e.life ∧ t.otp = e.otp)) ∧
  (∀ (index : BitVec 8) (value : Word) (c : Challenge), Does (fun dt => .lcsportLoadr dt index value)
      (fun e => e.jtagAt 0x08 = true ∧ e.power.phase ≠ .memtest ∧ e.life.transition = none ∧ e.liveChallenge = some c ∧ index.toNat < 8 ∧ c.r.length = 32)
      (fun e t => t.jtag.lcsStatus = 0 ∧ t.life.challenge = some { c with r := patchBytes c.r (4 * index.toNat) (bytesBE 4 value.toNat) } ∧ t.otp = e.otp ∧ t.jtag.s = e.jtag.s)) ∧
  (∀ (index : BitVec 8) (value : Word), Does (fun dt => .lcsportLoadr dt index value)
      (fun e => e.jtagAt 0x08 = true ∧ e.power.phase ≠ .memtest ∧ e.life.transition = none ∧ 8 ≤ index.toNat)
      (fun e t => t.jtag.lcsStatus = 0x11 ∧ t.life = e.life ∧ t.otp = e.otp)) ∧
  (∀ (index : BitVec 8) (value : Word), Does (fun dt => .lcsportLoads dt index value)
      (fun e => e.jtagAt 0x08 = true ∧ e.power.phase ≠ .memtest ∧ e.life.transition = none ∧ index.toNat < 8)
      (fun e t => t.jtag.lcsStatus = 0 ∧ t.jtag.s = patchBytes e.jtag.s (4 * index.toNat) (bytesBE 4 value.toNat) ∧ t.life = e.life ∧ t.otp = e.otp)) ∧
  (∀ (index : BitVec 8) (value : Word), Does (fun dt => .lcsportLoads dt index value)
      (fun e => e.jtagAt 0x08 = true ∧ e.power.phase ≠ .memtest ∧ e.life.transition = none ∧ 8 ≤ index.toNat)
      (fun e t => t.jtag.lcsStatus = 0x11 ∧ t.jtag.s = e.jtag.s ∧ t.life = e.life ∧ t.otp = e.otp))

/-- O20, How notices are sent, acknowledged and sent again; frames that are ignored. NOTICE_TRANSMIT with a notice waiting at the
head of the ring, the controller online, the link not stale and no response held: it goes out and is marked sent now; nothing
else changes. Else nothing changes. ACK of a sent number, in a cycle without a new notice and with no NTC_RETRACT and no
NTC_LIFECYCLE among the freed, frees it and the older entries and clears the retry count. ACK of another number counts in
LNK_RXIGN.BADACK, saturating, and changes nothing else. 50 ms without acknowledgement of the oldest sent notice, and fewer than
three go-backs: every sent notice waits again, and the retry count is one higher. After three go-backs the link turns stale and
NTC_LINK_STALE goes out. GO_BACK with three made, with a stale link, and before the 50 ms changes nothing. A classical frame, a
remote frame and one under 4 bytes on the command identifier count in LNK_RXIGN.IGNORED, saturating, and change nothing else. A
frame with another identifier, or in the other format, changes nothing. Each clause concludes that exec answers a next state,
for all states and operands under its conditions: noticeTransmit, ack, goBack, linkStale, ignoredFrame. -/
def Obligations.NoticesAndAcknowledgement : Prop :=
  (∀ (n : Notice) (rest : List Notice), Makes (fun dt => .noticeTransmit dt)
      (fun e => e.online = true ∧ e.link.stale = false ∧ e.link.held = none ∧ e.link.ring = n :: rest ∧ n.queued = true)
      (fun e => { e with link := { e.link with cycIn := [], lastNotice := noticeFrame n.sent true e.boot.recovery n, noticeHead := e.frameHead 2, ring := { n with sent := true, queued := false, txAt := e.now } :: rest } })) ∧
  (Makes (fun dt => .noticeTransmit dt)
      (fun e => e.link.stale = true ∨ e.link.held.isSome = true ∨ e.online = false)
      (fun e => e)) ∧
  (∀ (number : BitVec 16) (freed rest : List Notice), Makes (fun dt => .ack dt number)
      (fun e => e.online = true ∧ e.link.cycIn = [] ∧ e.link.stale = false ∧ splitAck number.toNat e.link.ring = some (freed, rest) ∧ (∀ n ∈ freed, n.code ≠ 0x08 ∧ n.code ≠ 0x17))
      (fun e => { e with link := { e.link with ring := rest, retry := 0 } })) ∧
  (∀ (number : BitVec 16), Makes (fun dt => .ack dt number)
      (fun e => e.online = true ∧ e.link.cycIn = [] ∧ splitAck number.toNat e.link.ring = none)
      (fun e => e.satInc 0x10038 31 16)) ∧
  (Makes (fun dt => .goBack dt)
      (fun e => e.online = true ∧ e.link.stale = false ∧ e.oldestDue = true ∧ e.link.retry < 3)
      (fun e => { e with link := { e.link with retry := e.link.retry + 1, ring := e.link.ring.map (fun (n : Notice) => if n.sent then { n with queued := true, txAt := e.now } else n) } })) ∧
  (Makes (fun dt => .linkStale dt)
      (fun e => e.online = true ∧ e.link.stale = false ∧ e.oldestDue = true ∧ e.link.retry = 3)
      (fun e => { e with link := { e.link with stale := true, noticeHead := e.frameHead 2, lastNotice := noticeFrame false true e.boot.recovery e.staleNotice } })) ∧
  (Makes (fun dt => .goBack dt)
      (fun e => e.link.retry = 3 ∨ e.link.stale = true ∨ e.oldestDue = false)
      (fun e => e)) ∧
  (∀ (f : BusFrame), Makes (fun dt => .ignoredFrame dt f)
      (fun e => e.online = true ∧ e.link.active.onCommandId f = true ∧ (f.fd = false ∨ f.remote = true ∨ f.bytes.length < 4))
      (fun e => e.satInc 0x10038 15 0)) ∧
  (∀ (f : BusFrame), Makes (fun dt => .ignoredFrame dt f)
      (fun e => e.link.active.onCommandId f = false)
      (fun e => e))

/-- O21, Bus-off, error-passive, integration and link settings. BUS_OFF stops the controller, with TEC past 255 (by how much is a
free value), and is counted, saturating at FFFF; ring, response cache and retry count stay, and nothing outside the link changes
but the number of the next free value. BUS_OFF_RECOVERY leaves it error-active with both counters 0 and the retry count as it
was; power, configuration, SRAM and all register words but LNK_NTCLOST stay. ERROR_PASSIVE with a counter above 127 takes the
counters and is error-passive. With both at most 127 it is error-active. BUS_INTEGRATION_DONE with both counters at most 127
makes the controller error-active. LINK_SETTINGS_APPLY outside bus-off takes the live words, integrates again, and every sent
notice waits to be sent again. With no settings pending it changes nothing. Each clause concludes that exec answers a next
state, for all states and operands under its conditions: busOff, busOffRecovery, errorPassive, busIntegrationDone,
linkSettingsApply. -/
def Obligations.CanController : Prop :=
  (Does (fun dt => .busOff dt)
      (fun e => e.online = true)
      (fun e t => t.link.can = .busOff ∧ t.link.boffCnt = satAdd 0xFFFF e.link.boffCnt 1 ∧ 255 < t.link.txErr ∧ t = { e with link := t.link, free := e.free + 1 } ∧ t.link.ring = e.link.ring ∧ t.link.cache = e.link.cache ∧ t.link.retry = e.link.retry)) ∧
  (Does (fun dt => .busOffRecovery dt)
      (fun e => e.linkUp = true ∧ e.link.can = .busOff)
      (fun e t => t.link.can = .errorActive ∧ t.link.txErr = 0 ∧ t.link.rxErr = 0 ∧ t.link.retry = e.link.retry ∧ t.power = e.power ∧ t.cfg = e.cfg ∧ t.sram = e.sram ∧ (∀ a, a ≠ 0x10034 → t.reg a = e.reg a))) ∧
  (∀ (tx : BitVec 9) (rx : BitVec 8), Makes (fun dt => .errorPassive dt tx rx)
      (fun e => e.online = true ∧ (127 < tx.toNat ∨ 127 < rx.toNat))
      (fun e => { e with link := { e.link with txErr := tx.toNat, rxErr := rx.toNat, can := .errorPassive } })) ∧
  (∀ (tx : BitVec 9) (rx : BitVec 8), Makes (fun dt => .errorPassive dt tx rx)
      (fun e => e.online = true ∧ tx.toNat ≤ 127 ∧ rx.toNat ≤ 127)
      (fun e => { e with link := { e.link with txErr := tx.toNat, rxErr := rx.toNat, can := .errorActive } })) ∧
  (Makes (fun dt => .busIntegrationDone dt)
      (fun e => e.linkUp = true ∧ e.link.can = .integrating ∧ e.link.txErr ≤ 127 ∧ e.link.rxErr ≤ 127)
      (fun e => { e with link := { e.link with can := .errorActive } })) ∧
  (Makes (fun dt => .linkSettingsApply dt)
      (fun e => e.running = true ∧ e.link.settingsPend = true ∧ e.link.can ≠ .busOff)
      (fun e => { e with link := { e.link with settingsPend := false, active := e.liveLinkSettings, can := .integrating, ring := e.link.ring.map (fun (n : Notice) => if n.sent then { n with queued := true, txAt := e.now } else n) } })) ∧
  (Makes (fun dt => .linkSettingsApply dt)
      (fun e => e.link.settingsPend = false)
      (fun e => e))

/-- O22, What a write of a register does under each access code and in each transaction state. REGISTER_WRITE of an SRAM word by any
master in RUN stores its four bytes. A word with RWS fields written by the link engine in an OPEN transaction, with the shadow
within 4096 bytes, goes into the shadow, its RWS bits alone, and nothing else changes. While a transaction is ARMED the write is
refused. A write of it by a DMA channel is ignored and the channel recorded: shadow and every register word but CFG_STAT stay. A
write where nothing is implemented is a bus error and changes nothing else. A write of LCK_CMD with no other in flight begins
its crossing into CLK_LF, and nothing else changes. LF_WRITE_DONE of the one write in flight of a block, not of a command
register and with no Jornus command waiting, makes it in the register words and takes it off; SRAM, link and configuration state
stay. Each clause concludes that exec answers a next state, for all states and operands under its conditions: registerWrite,
lfWriteDone. -/
def Obligations.RegisterWrites : Prop :=
  (∀ (m : Master) (addr : BitVec 24) (value : Word), Makes (fun dt => .registerWrite dt m addr value)
      (fun e => e.running = true ∧ inSram addr.toNat = true)
      (fun e => { e.setSramBytes addr.toNat (bytesLE 4 value.toNat) with busRead := 0, busError := false })) ∧
  (∀ (addr : BitVec 24) (value : Word), Makes (fun dt => .registerWrite dt .link addr value)
      (fun e => e.running = true ∧ e.cfg.state = .opened ∧ rwsMask addr.toNat ≠ 0 ∧ e.accessFails .link true addr.toNat true = false ∧ inSram addr.toNat = false ∧ e.shadowBytes + 4 * e.newShadowWords [addr.toNat] ≤ 4096)
      (fun e => { e with cfg := { e.cfg with shadow := Sparse.insert e.cfg.shadow addr.toNat (value &&& BitVec.ofNat 32 (rwsMask addr.toNat)) }, busRead := 0, busError := false })) ∧
  (∀ (addr : BitVec 24) (value : Word), Makes (fun dt => .registerWrite dt .link addr value)
      (fun e => e.running = true ∧ e.cfg.state = .armed ∧ rwsMask addr.toNat ≠ 0 ∧ e.accessFails .link true addr.toNat true = false ∧ inSram addr.toNat = false)
      (fun e => { e with busRead := 0, busError := true })) ∧
  (∀ (n : Fin 16) (addr : BitVec 24) (value : Word), Does (fun dt => .registerWrite dt (.dma n) addr value)
      (fun e => e.running = true ∧ rwsMask addr.toNat ≠ 0 ∧ e.accessFails (.dma n) true addr.toNat true = false ∧ inSram addr.toNat = false)
      (fun e t => t.cfg.dmaCh = n.val ∧ t.cfg.shadow = e.cfg.shadow ∧ (∀ a, a ≠ 0x20000 → t.reg a = e.reg a) ∧ t = { e with cfg := t.cfg, regs := t.regs, setAt := t.setAt, setNow := t.setNow, busRead := 0, busError := false })) ∧
  (∀ (m : Master) (addr : BitVec 24) (value : Word), Makes (fun dt => .registerWrite dt m addr value)
      (fun e => e.running = true ∧ implemented addr.toNat = false)
      (fun e => { e with busRead := 0, busError := true })) ∧
  (∀ (value : Word), Makes (fun dt => .registerWrite dt .link 0xE0004 value)
      (fun e => e.running = true ∧ e.life.state ≠ .scrap ∧ e.power.lfLck = [])
      (fun e => { e with power := { e.power with lfLck := [{ addr := 0xE0004, value := value }] }, busRead := 0, busError := false })) ∧
  (∀ (b : LfBlock) (x : LfWrite), Does (fun dt => .lfWriteDone dt b)
      (fun e => e.lfQueue b = [x] ∧ x.commit = false ∧ x.addr ≠ 0x110004 ∧ x.addr ≠ 0xE0004 ∧ x.addr ≠ 0xD0018 ∧ e.link.held = none ∧ e.cfg.waitCmd = none)
      (fun e t => t.lfQueue b = [] ∧ (∀ a, t.reg a = (e.writeFields x.addr x.value).reg a) ∧ t.sram = e.sram ∧ t.link = e.link ∧ t.cfg = e.cfg))

/-- O23, Stages, holds and commit points. CFG_STAGE.CLOSE in an OPEN staged transaction that no check refuses arms the stage, not as
the last. It is ARMED from now with its shadow. With no transaction open it is refused. CFG_HOLDSET while a transaction is OPEN
or STAGING adds the outputs it names. Otherwise it is ignored. COMMIT_POINT reached by an ARMED transaction without stages or
holds, with no snapshot due, whose shadow is a CFG_CTRL that no check refuses: its RWS bits are live, the others stay, the
transaction is over and its shadow empty; of the other register words only LNK_NTCLOST may change; SRAM, trackers, outputs and
timers stay. A check that fails there ends the transaction with its cause and address in CFG_LAST and an empty shadow; of the
register words only LNK_NTCLOST may change, SRAM stays. While a channel runs that it must wait for, the wait begins now and
nothing else changes. With none ARMED, and before the point, nothing changes. COMMIT_DMA_WAIT_END once the wait is over and a
check fails: the transaction ends alike. With no failing check a transaction without stages is over, its shadow empty and the
wait ended. While the wait goes on nothing changes. ARM_TIMEOUT after ARMTO times 10 ms without the point ends the transaction
with cause 4 and an empty shadow; of the register words only LNK_NTCLOST may change, SRAM stays. STAGE_TIMEOUT after STGTO times
10 ms between stages ends it with cause 5 alike. ARM_TIMEOUT with none ARMED changes nothing. Each clause concludes that exec
answers a next state, for all states and operands under its conditions: cfgStageClose, cfgHoldset, commitPoint,
commitDmaWaitEnd, armTimeout, stageTimeout. -/
def Obligations.StagedCommits : Prop :=
  (∀ (m : Master), Makes (fun dt => .cfgStageClose dt m)
      (fun e => e.running = true ∧ e.life.state ≠ .scrap ∧ e.cfg.state = .opened ∧ e.cfg.staged = true ∧ e.closeFailure = none)
      (fun e => { e.armTxn false with busRead := 0, busError := false })) ∧
  (∀ (m : Master), Does (fun dt => .cfgStageClose dt m)
      (fun e => e.running = true ∧ e.life.state ≠ .scrap ∧ e.cfg.state = .opened ∧ e.cfg.staged = true ∧ e.closeFailure = none)
      (fun e t => t.cfg.state = .armed ∧ t.cfg.last = false ∧ t.cfg.armedAt = e.now ∧ t.cfg.shadow = e.cfg.shadow)) ∧
  (∀ (m : Master), Makes (fun dt => .cfgStageClose dt m)
      (fun e => e.running = true ∧ e.life.state ≠ .scrap ∧ e.cfg.state = .idle)
      (fun e => { e with busRead := 0, busError := true })) ∧
  (∀ (m : Master) (mask : Word), Makes (fun dt => .cfgHoldset dt m mask)
      (fun e => e.running = true ∧ e.life.state ≠ .scrap ∧ (e.cfg.state = .opened ∨ e.cfg.state = .staging))
      (fun e => { e with cfg := { e.cfg with named := e.cfg.named ||| mask.toNat }, busRead := 0, busError := false })) ∧
  (∀ (m : Master) (mask : Word), Makes (fun dt => .cfgHoldset dt m mask)
      (fun e => e.running = true ∧ e.life.state ≠ .scrap ∧ (e.cfg.state = .idle ∨ e.cfg.state = .armed))
      (fun e => { e with busRead := 0, busError := false })) ∧
  (∀ (v : Word), Does (fun dt => .commitPoint dt)
      (fun e => e.running = true ∧ e.cfg.state = .armed ∧ e.cfg.dmaWait = none ∧ e.cfg.staged = false ∧ e.cfg.last = true ∧ e.pointReached = true ∧ e.cfg.shadow = [(0x20008, v)] ∧ e.cfg.hold = 0 ∧ e.cfg.holdCh = 0 ∧ e.snapAt = [] ∧ e.closeFailure = none)
      (fun e t => t.cfg.state = .idle ∧ t.cfg.shadow = [] ∧ (∀ a, a ≠ 0x10034 → t.reg a = (e.setReg 0x20008 ((e.reg 0x20008 &&& ~~~(BitVec.ofNat 32 (rwsMask 0x20008))) ||| (v &&& BitVec.ofNat 32 (rwsMask 0x20008)))).reg a) ∧ t.sram = e.sram ∧ t.wheels = e.wheels ∧ t.outs = e.outs ∧ t.timers = e.timers)) ∧
  (∀ (st d : Nat), Does (fun dt => .commitPoint dt)
      (fun e => e.running = true ∧ e.cfg.state = .armed ∧ e.cfg.dmaWait = none ∧ e.pointReached = true ∧ e.waitsForTest (e.cfg.shadow.map Prod.fst) = false ∧ e.waitChannels = 0 ∧ e.closeFailure = some (st, d))
      (fun e t => t.cfg.state = .idle ∧ t.cfg.shadow = [] ∧ t.cfg.lastCause = causeOf st ∧ t.cfg.lastAddr = d ∧ (∀ a, a ≠ 0x10034 → t.reg a = e.reg a) ∧ t.sram = e.sram)) ∧
  (Makes (fun dt => .commitPoint dt)
      (fun e => e.running = true ∧ e.cfg.state = .armed ∧ e.cfg.dmaWait = none ∧ e.pointReached = true ∧ e.waitsForTest (e.cfg.shadow.map Prod.fst) = false ∧ e.waitChannels ≠ 0)
      (fun e => { e with cfg := { e.cfg with pointSeen := true, dmaWait := some e.now } })) ∧
  (Makes (fun dt => .commitPoint dt)
      (fun e => e.cfg.state ≠ .armed ∨ e.pointReached = false)
      (fun e => e)) ∧
  (∀ (since st d : Nat), Does (fun dt => .commitDmaWaitEnd dt)
      (fun e => e.running = true ∧ e.cfg.state = .armed ∧ e.cfg.dmaWait = some since ∧ e.armedWaitOver since = true ∧ e.closeFailure = some (st, d))
      (fun e t => t.cfg.state = .idle ∧ t.cfg.shadow = [] ∧ t.cfg.dmaWait = none ∧ t.cfg.lastCause = causeOf st ∧ t.cfg.lastAddr = d ∧ (∀ a, a ≠ 0x10034 → t.reg a = e.reg a))) ∧
  (∀ (since : Nat), Does (fun dt => .commitDmaWaitEnd dt)
      (fun e => e.running = true ∧ e.cfg.state = .armed ∧ e.cfg.dmaWait = some since ∧ e.armedWaitOver since = true ∧ e.cfg.staged = false ∧ e.cfg.last = true ∧ e.closeFailure = none)
      (fun e t => t.cfg.state = .idle ∧ t.cfg.shadow = [] ∧ t.cfg.dmaWait = none)) ∧
  (∀ (since : Nat), Makes (fun dt => .commitDmaWaitEnd dt)
      (fun e => e.cfg.state = .armed ∧ e.cfg.dmaWait = some since ∧ e.armedWaitOver since = false)
      (fun e => e)) ∧
  (Does (fun dt => .armTimeout dt)
      (fun e => e.running = true ∧ e.cfg.state = .armed ∧ e.cfg.pointSeen = false ∧ e.cfg.armedAt + msAng (10 * e.cfg.armTo) ≤ e.now)
      (fun e t => t.cfg.state = .idle ∧ t.cfg.shadow = [] ∧ t.cfg.lastCause = 4 ∧ (∀ a, a ≠ 0x10034 → t.reg a = e.reg a) ∧ t.sram = e.sram)) ∧
  (Does (fun dt => .stageTimeout dt)
      (fun e => e.running = true ∧ e.cfg.state = .staging ∧ e.cfg.stageAt + msAng (10 * e.cfg.stgTo) ≤ e.now)
      (fun e t => t.cfg.state = .idle ∧ t.cfg.shadow = [] ∧ t.cfg.lastCause = 5 ∧ (∀ a, a ≠ 0x10034 → t.reg a = e.reg a) ∧ t.sram = e.sram)) ∧
  (Makes (fun dt => .armTimeout dt)
      (fun e => e.cfg.state ≠ .armed)
      (fun e => e))

/-- O24, What a transition of a tooth input does to its tracker. TOOTH_EDGE of a used input that was UNKNOWN, with no wheel-zero or
timer-wrap commit ARMED (so too in the next two), sets its level and counts nothing: SYNC, the other trackers, timers, power and
SRAM stay, and outputs and register words where no output names the wheel. The first rising A of a SILENT tracker with a Hall
sensor, rising edges and no quadrature, outside the angle test, is counted: SYNC is SEEK, STANDSTILL 0, EDGES one higher; the
other trackers and SRAM stay. A falling A of such a tracker counts nothing: SYNC, EDGES and SRAM stay, and outputs and register
words as above. Outside RUN, and for a tracker with MODE OFF while no transaction is ARMED, nothing outside the fusion engine
changes. Each clause concludes that exec answers a next state, for all states and operands under its conditions: toothEdge. -/
def Obligations.ToothEdges : Prop :=
  (∀ (w : Fin 4) (onB : Bool) (level : InLevel) (peak : Nat), Does (fun dt => .toothEdge dt w onB level peak)
      (fun e => e.running = true ∧ e.toothUsed w onB = true ∧ (level = .low ∨ level = .high) ∧ (if onB then (e.wheels[w]).lvlB else (e.wheels[w]).lvlA) = .unknown ∧ (e.cfg.state ≠ .armed ∨ e.cfg.point = .immediate))
      (fun e t => (if onB then (t.wheels[w]).lvlB else (t.wheels[w]).lvlA) = level ∧ (t.wheels[w]).edges = (e.wheels[w]).edges ∧ (t.wheels[w]).sync = (e.wheels[w]).sync ∧ (∀ k : Fin 4, k ≠ w → t.wheels[k] = e.wheels[k]) ∧ t.power = e.power ∧ t.timers = e.timers ∧ t.sram = e.sram ∧ ((∀ n : Fin 32, e.outWheel n ≠ w) → t.outs = e.outs ∧ t.regs = e.regs))) ∧
  (∀ (w : Fin 4) (peak : Nat), Does (fun dt => .toothEdge dt w false .high peak)
      (fun e => e.running = true ∧ e.toothUsed w false = true ∧ (e.wheels[w]).lvlA = .low ∧ (e.wheelCfg w.val).sense = 0 ∧ (e.wheelCfg w.val).edge = 0 ∧ (e.wheelCfg w.val).dirSrc ≠ 1 ∧ e.angleTesting = false ∧ (e.wheels[w]).sync = .silent ∧ (e.wheels[w]).hasEdge = false ∧ (e.cfg.state ≠ .armed ∨ e.cfg.point = .immediate))
      (fun e t => (t.wheels[w]).lvlA = .high ∧ (t.wheels[w]).sync = .seek ∧ (t.wheels[w]).edges = (e.wheels[w]).edges + 1 ∧ (t.wheels[w]).standstill = false ∧ (t.wheels[w]).hasEdge = true ∧ (∀ k : Fin 4, k ≠ w → t.wheels[k] = e.wheels[k]) ∧ t.sram = e.sram)) ∧
  (∀ (w : Fin 4) (peak : Nat), Does (fun dt => .toothEdge dt w false .low peak)
      (fun e => e.running = true ∧ e.toothUsed w false = true ∧ (e.wheels[w]).lvlA = .high ∧ (e.wheelCfg w.val).sense = 0 ∧ (e.wheelCfg w.val).edge = 0 ∧ (e.wheelCfg w.val).dirSrc ≠ 1 ∧ e.angleTesting = false ∧ (e.cfg.state ≠ .armed ∨ e.cfg.point = .immediate))
      (fun e t => (t.wheels[w]).lvlA = .low ∧ (t.wheels[w]).sync = (e.wheels[w]).sync ∧ (t.wheels[w]).edges = (e.wheels[w]).edges ∧ t.sram = e.sram ∧ ((∀ n : Fin 32, e.outWheel n ≠ w) → t.outs = e.outs ∧ t.regs = e.regs))) ∧
  (∀ (w : Fin 4) (onB : Bool) (level : InLevel) (peak : Nat), Does (fun dt => .toothEdge dt w onB level peak)
      (fun e => e.running = false ∨ ((e.wheelCfg w.val).mode = 0 ∧ e.cfg.state ≠ .armed))
      (fun e t => t = { e with fus := t.fus }))

/-- O25, Wheel timeouts, coasting, the bias check and snapshots. STANDSTILL of a tracker in SEEK whose STOPTO has run out, with no
wheel-zero or timer-wrap commit ARMED (so too in COAST_ENTRY): SILENT, STANDSTILL 1, speed 0; the other trackers and SRAM stay.
Outside RUN nothing changes. COAST_ENTRY of a tracker that is overdue goes to COAST with the position and time of its last edge;
the other trackers and SRAM stay. WHEEL_DEAD of a tracker DEADSEC seconds in SEEK, PROVISIONAL or LOST sets its DEAD flag;
trackers, outputs and SRAM stay. INPUT_STUCK_TIMEOUT of W0A, Hall, used and UNKNOWN past its timeout: STUCK_MID, and the ADVISE
bit of inputs; its SYNC and SRAM stay. Outside RUN, and for a rind input in SHIP, nothing changes. Of a rind input that is due,
in every power state but SHIP: it reads STUCK_MID and no other changes, with the ADVISE bit; trackers and SRAM stay. BIAS_CHECK
with BIASPER set, ADCB at work with a spare and no test, no check under way: the next input of the round that may be checked is
under check from now, and nothing else changes. BIAS_CHECK_DONE 300 µs on with ADCB and its spare at work and readings that are
good by Table Wheel.5 stores the word of the input, result 0, and nothing else. With no check under way it changes nothing.
SNAPSHOT makes a copy due two CLK_ANG cycles after its write and changes nothing else; as time passes that cycle (`takeSnaps`),
ANG_TNOW and the four angle words of that cycle are copied. Each clause concludes that exec answers a next state, for all states
and operands under its conditions: standstill, coastEntry, wheelDead, inputStuckTimeout, biasCheck, biasCheckDone, snapshot. -/
def Obligations.WheelConditions : Prop :=
  (∀ (w : Fin 4), Does (fun dt => .standstill dt w)
      (fun e => e.running = true ∧ (e.wheels[w]).stopDue (e.wheelCfg w.val) e.now = true ∧ (e.wheels[w]).sync = .seek ∧ (e.cfg.state ≠ .armed ∨ e.cfg.point = .immediate))
      (fun e t => (t.wheels[w]).sync = .silent ∧ (t.wheels[w]).standstill = true ∧ (t.wheels[w]).speed = 0 ∧ (∀ k : Fin 4, k ≠ w → t.wheels[k] = e.wheels[k]) ∧ t.sram = e.sram)) ∧
  (∀ (w : Fin 4), Makes (fun dt => .standstill dt w)
      (fun e => e.running = false)
      (fun e => e)) ∧
  (∀ (w : Fin 4), Does (fun dt => .coastEntry dt w)
      (fun e => e.running = true ∧ (e.wheels[w]).coastDue (e.wheelCfg w.val) e.now = true ∧ (e.cfg.state ≠ .armed ∨ e.cfg.point = .immediate))
      (fun e t => (t.wheels[w]).sync = .coast ∧ (t.wheels[w]).lin = (e.wheels[w]).lin ∧ (t.wheels[w]).tLast = (e.wheels[w]).tLast ∧ (∀ k : Fin 4, k ≠ w → t.wheels[k] = e.wheels[k]) ∧ t.sram = e.sram)) ∧
  (∀ (w : Fin 4), Does (fun dt => .wheelDead dt w)
      (fun e => e.running = true ∧ ((e.wheels[w]).sync = .seek ∨ (e.wheels[w]).sync = .provisional ∨ (e.wheels[w]).sync = .lost) ∧ (e.wheelCfg w.val).deadSec ≠ 0 ∧ (e.wheels[w]).badSince + secAng (e.wheelCfg w.val).deadSec ≤ e.now ∧ e.bit (wheelBase w.val + 0x58) 0 = false)
      (fun e t => t.bit (wheelBase w.val + 0x58) 0 = true ∧ t.wheels = e.wheels ∧ t.outs = e.outs ∧ t.sram = e.sram)) ∧
  (∀ (input : Fin 14), Does (fun dt => .inputStuckTimeout dt input)
      (fun e => e.running = true ∧ e.boot.loaded = true ∧ input = 0 ∧ e.toothUsed 0 false = true ∧ (e.wheelCfg 0).sense = 0 ∧ e.fld 0x48 7 0 ≠ 0 ∧ (e.wheels[(0 : Fin 4)]).lvlA = .unknown ∧ e.boot.toothAt + msAng (10 * e.fld 0x48 7 0) ≤ e.now)
      (fun e t => (t.wheels[(0 : Fin 4)]).lvlA = .stuckMid ∧ (t.wheels[(0 : Fin 4)]).sync = (e.wheels[(0 : Fin 4)]).sync ∧ t.bit 0x100004 2 = true ∧ t.sram = e.sram)) ∧
  (∀ (input : Fin 14), Makes (fun dt => .inputStuckTimeout dt input)
      (fun e => e.running = false ∧ (input.val < 8 ∨ e.rindSamples = false))
      (fun e => e)) ∧
  (∀ (input : Fin 14) (i : Fin 6), Does (fun dt => .inputStuckTimeout dt input)
      (fun e => 8 ≤ input.val ∧ i = Fin.ofNat 6 (input.val - 8) ∧ e.rindStuckDue i = true)
      (fun e t => t.rindIn i = .stuckMid ∧ (∀ k : Fin 6, k ≠ i → t.rindIn k = e.rindIn k) ∧ t.bit 0x100004 2 = true ∧ t.wheels = e.wheels ∧ t.sram = e.sram)) ∧
  (∀ (i : Nat) (rest : List Nat), Does (fun dt => .biasCheck dt)
      (fun e => e.running = true ∧ e.boot.loaded = true ∧ e.fld 0x30800 7 0 ≠ 0 ∧ e.convOn .adcB = true ∧ e.adcB.spare.isSome = true ∧ e.cfg.testAdcB = .idle ∧ e.bias.running = none ∧ e.now < e.bias.dueAt ∧ e.bias.queue = i :: rest ∧ e.biasReady i = true ∧ i ∉ rest)
      (fun e t => t.bias.running = some (i, e.now) ∧ t.bias.queue = rest ∧ t = { e with bias := t.bias })) ∧
  (∀ (plus minus idle : LegReading) (rail : RailReading) (i since : Nat) (v : Int × Int), Makes (fun dt => .biasCheckDone dt plus minus idle rail)
      (fun e => e.bias.running = some (i, since) ∧ since + usAng 300 ≤ e.now ∧ e.convOn .adcB = true ∧ e.adcB.spare.isSome = true ∧ v = biasValues plus minus idle (e.inputVr i) ∧ biasClass (e.reg (if e.inputVr i then 0x30810 else 0x30808)) (e.reg ((if e.inputVr i then 0x30810 else 0x30808) + 4)) v.1 v.2 (Int.ofNat (if e.inputVr i then rail.vdd5 else rail.vio)) = 0)
      (fun e => ({ e with bias := { e.bias with running := none } } : State).setReg (0x30C00 + 4 * i) (BitVec.ofNat 32 (atBit (Nat.min 0xFFFF (v.1 / 2000).toNat) 16 + atBit (Nat.min 0x3FFF (v.2 / 1000).toNat) 2)))) ∧
  (∀ (plus minus idle : LegReading) (rail : RailReading), Makes (fun dt => .biasCheckDone dt plus minus idle rail)
      (fun e => e.bias.running = none)
      (fun e => e)) ∧
  (∀ (m : Master), Does (fun dt => .snapshot dt m)
      (fun e => e.running = true ∧ e.life.state ≠ .scrap)
      (fun e t => t = { e with snapAt := e.snapAt ++ [e.now + 2], busRead := 0, busError := false } ∧ (e.snapAt = [] → (t.takeSnaps (e.now + 3)).reg 0x30908 = e.tnow (e.now + 2) ∧ ∀ w : Fin 4, (t.takeSnaps (e.now + 3)).reg (0x30910 + 4 * w.val) = (e.wheels[w]).angleWord (e.now + 2))))

/-- O26, An event joins its queue and fires at its angle, and what may drive an output. The event d is that of the four words of the
master, the last of them written by EVENT_INSERT. One that no check refuses stands in the queue of its output, placed by its key
(`insertByKey`); INSSTAT of the master reads code 0 and the output; the other outputs, register words and SRAM stay. One refused
with a code above 1 leaves every output and SRAM as they are; INSSTAT reads the code and the output, and INSREF of the output is
set. Each with no commit at this moment (`stepTwo`), no pulse end due, and no head of the output taken in this cycle, where
these bear on it. EVENT_DUE with a head due by its basis, a SET without repeat and without LDROP: it leaves the queue, the
commanded level is 1 with no pulse end, the output is driven, LATE holds its lateness; pending firings, SRAM and trackers stay.
A CLEAR alike leaves the queue and the commanded level at 0, the output driven. With nothing due, and outside RUN, nothing
changes. PULSE_END that is due clears the commanded level and the pulse end; queue and pending firings of the output, trackers,
timers and SRAM stay. With none due nothing changes. PROBE_SAMPLE whose time has come is taken once: none waits; the commanded
level, trackers and SRAM stay. Before its time nothing changes. QUEUE_FLUSH empties exactly the queues it names; levels, pulses,
pending firings and everything else stay. CHOP_TIMED_END with CHOPT passed and the comparator inactive ends the chop; commanded
level, queue, trackers and SRAM stay. Without a chop nothing changes. DEAD_TIME_END gives both outputs of the pair the levels
that `pairLevels` forms and sets the pair's ILK bit exactly where the interlock acted; commanded levels and the other outputs
stay. Each clause concludes that exec answers a next state, for all states and operands under its conditions: eventInsert,
eventDue, pulseEnd, probeSample, queueFlush, chopTimedEnd, deadTimeEnd. -/
def Obligations.EventsAndOutputs : Prop :=
  (∀ (m : Master) (ctl : Word) (d : EventDesc), Does (fun dt => .eventInsert dt m ctl)
      (fun e => e.running = true ∧ e.life.state ≠ .scrap ∧ d = { target := (e.copyOf m).ins.getD 0 0, arg := (e.copyOf m).ins.getD 1 0, rep := (e.copyOf m).ins.getD 2 0, ctl := ctl } ∧ (e.copyOf m).ins.length = 4 ∧ e.insertCode (Fin.ofNat 32 d.out) d = 0)
      (fun e t => (t.outs[(Fin.ofNat 32 d.out : Fin 32)]).queue = insertByKey (e.keyOf (Fin.ofNat 32 d.out)) d (e.outs[(Fin.ofNat 32 d.out : Fin 32)]).queue ∧ (∀ k : Fin 32, k ≠ Fin.ofNat 32 d.out → t.outs[k] = e.outs[k]) ∧ (t.copyOf m).insStat = BitVec.ofNat 32 (256 * d.out) ∧ t.regs = e.regs ∧ t.sram = e.sram)) ∧
  (∀ (m : Master) (ctl : Word) (d : EventDesc), Does (fun dt => .eventInsert dt m ctl)
      (fun e => e.running = true ∧ e.life.state ≠ .scrap ∧ d = { target := (e.copyOf m).ins.getD 0 0, arg := (e.copyOf m).ins.getD 1 0, rep := (e.copyOf m).ins.getD 2 0, ctl := ctl } ∧ (e.copyOf m).ins.length = 4 ∧ 1 < e.insertCode (Fin.ofNat 32 d.out) d)
      (fun e t => t.outs = e.outs ∧ (t.copyOf m).insStat = BitVec.ofNat 32 (e.insertCode (Fin.ofNat 32 d.out) d + 256 * d.out) ∧ t.bit (evoBase (Fin.ofNat 32 d.out) + 0x14) 4 = true ∧ t.sram = e.sram)) ∧
  (∀ (n : Fin 32) (d : EventDesc) (rest : List EventDesc), Does (fun dt => .eventDue dt n)
      (fun e => e.running = true ∧ e.stepTwo = e ∧ e.pulseDue n = false ∧ (e.outs[n]).headAt ≠ some e.now ∧ (e.outs[n]).queue = d :: rest ∧ e.dueKind n = 1 ∧ d.action = 0 ∧ d.count = 0 ∧ d.ldrop = false)
      (fun e t => (t.outs[n]).queue = rest ∧ (t.outs[n]).cmd = true ∧ (t.outs[n]).pulse = none ∧ (t.outs[n]).driven = true ∧ (t.outs[n]).pend = (e.outs[n]).pend ∧ t.reg (evoBase n + 0x3C) = wordOfInt (e.lateness n d) ∧ t.sram = e.sram ∧ t.wheels = e.wheels)) ∧
  (∀ (n : Fin 32) (d : EventDesc) (rest : List EventDesc), Does (fun dt => .eventDue dt n)
      (fun e => e.running = true ∧ e.stepTwo = e ∧ e.pulseDue n = false ∧ (e.outs[n]).headAt ≠ some e.now ∧ (e.outs[n]).queue = d :: rest ∧ e.dueKind n = 1 ∧ d.action = 1 ∧ d.count = 0 ∧ d.ldrop = false)
      (fun e t => (t.outs[n]).queue = rest ∧ (t.outs[n]).cmd = false ∧ (t.outs[n]).driven = true ∧ t.sram = e.sram ∧ t.wheels = e.wheels)) ∧
  (∀ (n : Fin 32), Makes (fun dt => .eventDue dt n)
      (fun e => e.running = false ∨ (e.stepTwo = e ∧ e.pulseDue n = false ∧ ((e.outs[n]).queue = [] ∨ e.dueKind n = 0)))
      (fun e => e)) ∧
  (∀ (n : Fin 32), Does (fun dt => .pulseEnd dt n)
      (fun e => e.running = true ∧ e.stepTwo = e ∧ e.pulseDue n = true)
      (fun e t => (t.outs[n]).cmd = false ∧ (t.outs[n]).pulse = none ∧ (t.outs[n]).queue = (e.outs[n]).queue ∧ (t.outs[n]).pend = (e.outs[n]).pend ∧ t.wheels = e.wheels ∧ t.timers = e.timers ∧ t.sram = e.sram)) ∧
  (∀ (n : Fin 32), Makes (fun dt => .pulseEnd dt n)
      (fun e => e.stepTwo = e ∧ e.pulseDue n = false)
      (fun e => e)) ∧
  (∀ (n : Fin 32) (due line : Nat) (spec : Bool), Does (fun dt => .probeSample dt n)
      (fun e => e.running = true ∧ (e.outs[n]).samples = [(due, line, spec)] ∧ due ≤ e.now)
      (fun e t => (t.outs[n]).samples = [] ∧ (t.outs[n]).cmd = (e.outs[n]).cmd ∧ t.wheels = e.wheels ∧ t.sram = e.sram)) ∧
  (∀ (n : Fin 32) (due line : Nat) (spec : Bool), Makes (fun dt => .probeSample dt n)
      (fun e => (e.outs[n]).samples = [(due, line, spec)] ∧ e.now < due)
      (fun e => e)) ∧
  (∀ (m : Master) (mask : Word), Does (fun dt => .queueFlush dt m mask)
      (fun e => e.running = true ∧ e.life.state ≠ .scrap)
      (fun e t => (∀ n : Fin 32, t.outs[n] = { e.outs[n] with queue := if mask.toNat.testBit n.val then [] else (e.outs[n]).queue }) ∧ t = { e with outs := t.outs, busRead := 0, busError := false })) ∧
  (∀ (n : Fin 32), Does (fun dt => .chopTimedEnd dt n)
      (fun e => e.running = true ∧ (e.outs[n]).chop = true ∧ e.fld (evoBase n + 0xC) 6 5 = 2 ∧ (e.outs[n]).chopAt + e.fld (evoBase n + 0xC) 25 16 ≤ e.now ∧ e.cmpActive (e.fld (evoBase n + 0xC) 3 0) = false)
      (fun e t => (t.outs[n]).chop = false ∧ (t.outs[n]).cmd = (e.outs[n]).cmd ∧ (t.outs[n]).queue = (e.outs[n]).queue ∧ t.wheels = e.wheels ∧ t.sram = e.sram)) ∧
  (∀ (n : Fin 32), Makes (fun dt => .chopTimedEnd dt n)
      (fun e => (e.outs[n]).chop = false)
      (fun e => e)) ∧
  (∀ (k : Fin 16), Does (fun dt => .deadTimeEnd dt k)
      (fun e => e.running = true)
      (fun e t => (t.outs[evenOf k]).lvl = (e.pairLevels k).1 ∧ (t.outs[oddOf k]).lvl = (e.pairLevels k).2.1 ∧ ((e.pairLevels k).2.2 = true → t.bit 0x40860 k.val = true) ∧ ((e.pairLevels k).2.2 = false → t.regs = e.regs) ∧ (t.outs[evenOf k]).cmd = (e.outs[evenOf k]).cmd ∧ (t.outs[oddOf k]).cmd = (e.outs[oddOf k]).cmd ∧ (∀ n : Fin 32, n ≠ evenOf k → n ≠ oddOf k → t.outs[n] = e.outs[n])))

/-- O27, What a timer counts, matches and captures, and its accesses. TIMER_RELEASE of a named timer at rest: it runs from INIT with
both channels at their release values, LVL and accumulator 0; nothing but timers changes. One that runs already is not touched.
TIMER_WRAP with one count owed beyond TOP: COUNT is 0, pending compare values are active and pending no more, WRAP is set;
trackers, outputs, SRAM and power stay. With none owed nothing changes. TIMER_RESET_LOAD that is due on a running timer: COUNT
is INIT, the accumulator 0, a pending value of channel A active; no other timer and nothing else changes. With none due nothing
changes. TIMER_MATCH of a running timer's channel that matches sets its flag, channel B clears LVL; trackers, outputs and SRAM
stay. On a timer at rest nothing changes. TIMER_CAPTURE that is due on a running timer that holds none takes COUNT, sets CAPF,
and changes nothing else. With none due and no pin edge nothing changes. TMR_SWCAP makes a capture due in the fourth cycle after
it for each timer it names, which TIMER_CAPTURE takes there; no other timer and nothing else changes. COMPARE_WRITE makes the
value, with the master latch above it, due in the fourth cycle after it, and nothing else; where it applies under PRELOAD it
becomes pending. Under LAP it is active where it applies. COMPARE_HIGH_WRITE puts its low 16 bits into the master's latch;
timers, register words, SRAM and outputs stay. TIMER_LATCHED_READ answers the low word of COUNT or CAP and latches the high bits
for the master; of CAP it clears CAPF; register words and SRAM stay. Each clause concludes that exec answers a next state, for
all states and operands under its conditions: timerRelease, timerWrap, timerResetLoad, timerMatch, timerCapture, tmrSwcap,
compareWrite, compareHighWrite, timerLatchedRead. -/
def Obligations.Timers : Prop :=
  (∀ (mask : BitVec 16) (n : Fin 16), Does (fun dt => .timerRelease dt mask)
      (fun e => e.running = true ∧ mask.toNat.testBit n.val = true ∧ (e.timers[n]).run = false)
      (fun e t => (t.timers[n]).run = true ∧ (t.timers[n]).count = e.timerInit n ∧ (t.timers[n]).actA = e.cfg48 (tmrBase n + 0x18) ∧ (t.timers[n]).actB = e.cfg48 (tmrBase n + 0x20) ∧ (t.timers[n]).lvl = false ∧ (t.timers[n]).acc = 0 ∧ t = { e with timers := t.timers })) ∧
  (∀ (mask : BitVec 16) (n : Fin 16), Does (fun dt => .timerRelease dt mask)
      (fun e => (e.timers[n]).run = true ∧ (e.timers[n]).relDue = none)
      (fun e t => t.timers[n] = e.timers[n])) ∧
  (∀ (n : Fin 16), Does (fun dt => .timerWrap dt n)
      (fun e => e.running = true ∧ (e.timers[n]).run = true ∧ (e.timers[n]).owed = 1 ∧ e.cfg.state ≠ .armed ∧ e.timerTop n ≠ 0)
      (fun e t => t.bit (tmrBase n + 0x2C) 2 = true ∧ (t.timers[n]).count = 0 ∧ (t.timers[n]).owed = 0 ∧ (t.timers[n]).actA = ((e.timers[n]).pendA.getD (e.timers[n]).actA) ∧ (t.timers[n]).actB = ((e.timers[n]).pendB.getD (e.timers[n]).actB) ∧ (t.timers[n]).pendA = none ∧ (t.timers[n]).pendB = none ∧ t.wheels = e.wheels ∧ t.outs = e.outs ∧ t.sram = e.sram ∧ t.power = e.power)) ∧
  (∀ (n : Fin 16), Makes (fun dt => .timerWrap dt n)
      (fun e => (e.timers[n]).run = false ∨ (e.timers[n]).owed = 0)
      (fun e => e)) ∧
  (∀ (n : Fin 16) (c : Nat), Does (fun dt => .timerResetLoad dt n)
      (fun e => e.running = true ∧ (e.timers[n]).rstDue = some c ∧ c ≤ e.now ∧ (e.timers[n]).run = true)
      (fun e t => (t.timers[n]).count = e.timerInit n ∧ (t.timers[n]).acc = 0 ∧ (t.timers[n]).rstDue = none ∧ (t.timers[n]).actA = ((e.timers[n]).pendA.getD (e.timers[n]).actA) ∧ (t.timers[n]).pendA = none ∧ (∀ k : Fin 16, k ≠ n → t.timers[k] = e.timers[k]) ∧ t = { e with timers := t.timers })) ∧
  (∀ (n : Fin 16), Makes (fun dt => .timerResetLoad dt n)
      (fun e => (e.timers[n]).rstDue = none)
      (fun e => e)) ∧
  (∀ (n : Fin 16) (chanB : Bool), Does (fun dt => .timerMatch dt n chanB)
      (fun e => e.running = true ∧ e.stepTwo = e ∧ (e.timers[n]).run = true ∧ (if chanB then (e.timers[n]).dueB (e.timerTop n) else (e.timers[n]).dueA (e.timerTop n)) = true)
      (fun e t => t.bit (tmrBase n + 0x2C) (if chanB then 1 else 0) = true ∧ (chanB = true → (t.timers[n]).lvl = false) ∧ t.wheels = e.wheels ∧ t.outs = e.outs ∧ t.sram = e.sram)) ∧
  (∀ (n : Fin 16) (chanB : Bool), Makes (fun dt => .timerMatch dt n chanB)
      (fun e => e.stepTwo = e ∧ (e.timers[n]).run = false)
      (fun e => e)) ∧
  (∀ (n : Fin 16) (pin : Option Bool) (c : Nat), Makes (fun dt => .timerCapture dt n pin)
      (fun e => e.running = true ∧ e.stepTwo = e ∧ (e.timers[n]).capDue = [c] ∧ c ≤ e.now ∧ (e.timers[n]).run = true ∧ (e.timers[n]).capf = false)
      (fun e => { e with timers := e.timers.set n { e.timers[n] with cap := (e.timers[n]).count, capf := true, capDue := [] } })) ∧
  (∀ (n : Fin 16), Makes (fun dt => .timerCapture dt n none)
      (fun e => e.stepTwo = e ∧ (e.timers[n]).capDue = [])
      (fun e => e)) ∧
  (∀ (m : Master) (mask : BitVec 16) (n : Fin 16), Does (fun dt => .tmrSwcap dt m mask)
      (fun e => e.running = true ∧ e.life.state ≠ .scrap ∧ mask.toNat.testBit n.val = true)
      (fun e t => t.timers[n] = { e.timers[n] with capDue := (e.timers[n]).capDue ++ [e.now + 4] } ∧ (∀ k : Fin 16, mask.toNat.testBit k.val = false → t.timers[k] = e.timers[k]) ∧ t = { e with timers := t.timers, busRead := 0, busError := false })) ∧
  (∀ (m : Master) (n : Fin 16) (chanB : Bool) (value : Word), Does (fun dt => .compareWrite dt m n chanB value)
      (fun e => e.running = true ∧ e.life.state ≠ .scrap ∧ e.bit (tmrBase n) (if chanB then 27 else 26) = true)
      (fun e t => t = { e with timers := e.timers.set n { e.timers[n] with cmpDue := (e.timers[n]).cmpDue ++ [(e.now + 4, chanB, ((e.copyOf m).wlatch * 2 ^ 32 + value.toNat))] }, busRead := 0, busError := false } ∧ e.applyCompare n (e.timers[n]) chanB ((e.copyOf m).wlatch * 2 ^ 32 + value.toNat) = (if chanB then { e.timers[n] with pendB := some ((e.copyOf m).wlatch * 2 ^ 32 + value.toNat) } else { e.timers[n] with pendA := some ((e.copyOf m).wlatch * 2 ^ 32 + value.toNat) }))) ∧
  (∀ (m : Master) (n : Fin 16) (chanB : Bool) (value : Word), Does (fun dt => .compareWrite dt m n chanB value)
      (fun e => e.running = true ∧ e.life.state ≠ .scrap ∧ e.bit (tmrBase n) (if chanB then 27 else 26) = false)
      (fun e t => t = { e with timers := e.timers.set n { e.timers[n] with cmpDue := (e.timers[n]).cmpDue ++ [(e.now + 4, chanB, ((e.copyOf m).wlatch * 2 ^ 32 + value.toNat))] }, busRead := 0, busError := false } ∧ e.applyCompare n (e.timers[n]) chanB ((e.copyOf m).wlatch * 2 ^ 32 + value.toNat) = (if chanB then { e.timers[n] with actB := ((e.copyOf m).wlatch * 2 ^ 32 + value.toNat) } else { e.timers[n] with actA := ((e.copyOf m).wlatch * 2 ^ 32 + value.toNat) }))) ∧
  (∀ (m : Master) (n : Fin 16) (chanB : Bool) (value : Word), Does (fun dt => .compareHighWrite dt m n chanB value)
      (fun e => e.running = true ∧ e.life.state ≠ .scrap)
      (fun e t => (t.copyOf m).wlatch = fieldOf value 15 0 ∧ t.timers = e.timers ∧ t.regs = e.regs ∧ t.sram = e.sram ∧ t.outs = e.outs)) ∧
  (∀ (m : Master) (n : Fin 16) (cap : Bool), Does (fun dt => .timerLatchedRead dt m n cap)
      (fun e => e.running = true ∧ e.life.state ≠ .scrap)
      (fun e t => t.busRead = BitVec.ofNat 32 (if cap then (e.timers[n]).cap else (e.timers[n]).count) ∧ t.busError = false ∧ (t.copyOf m).rlatch = some (cap, n.val, (if cap then (e.timers[n]).cap else (e.timers[n]).count) / 2 ^ 32) ∧ t.timers = (if cap then e.timers.set n { e.timers[n] with capf := false } else e.timers) ∧ t.regs = e.regs ∧ t.sram = e.sram))

/-- O28, What starts and stops a conversion sequence. SEQUENCE_TRIGGER with one trigger r of the sequence due (`dueTriggers`), the
sequence running on its own converter alone: the triggers up to r leave the input. With none due, and outside RUN, nothing
changes. With its converter's domain or PD6 not ready it is discarded and nothing else changes. An idle injected sequence runs:
the request of entry 0, with the trigger's tag, falls due one cycle and DLY after the trigger; trackers, outputs and SRAM stay.
An injected sequence that is not idle only loses the trigger and sets IOVR; the regular sequence, the converter and SRAM stay.
An idle regular sequence with no injected one in its way starts a pass alike, with its pass count 0, and nothing else changes. A
regular sequence in RUN or PREEMPTED only loses it and sets ROVR. SOFTWARE_TRIGGER: each TRIG bit puts a trigger for the second
CLK_CONV edge into the input it names, but not into the ADCB half of a pair, and not while the domain of a member or PD6 is not
ready; nothing else changes. SEQUENCE_STOP: each STOP bit is accepted at the second CLK_CONV edge; until then nothing else
changes. Each clause concludes that exec answers a next state, for all states and operands under its conditions:
sequenceTrigger, softwareTrigger, sequenceStop. -/
def Obligations.SequenceControl : Prop :=
  (∀ (x : Conv) (inj : Bool), Makes (fun dt => .sequenceTrigger dt x inj)
      (fun e => e.running = false ∨ e.dueTriggers x inj = [])
      (fun e => e)) ∧
  (∀ (x : Conv) (inj : Bool) (r : TrigReq), Makes (fun dt => .sequenceTrigger dt x inj)
      (fun e => e.running = true ∧ e.dueTriggers x inj = [r] ∧ e.members x inj = [x] ∧ e.followsA x inj = false ∧ e.convOn x = false)
      (fun e => e.setSeq x inj { e.seq x inj with trig := (e.seq x inj).trig.filter (fun u => decide (r.due < u.due)) })) ∧
  (∀ (x : Conv) (r : TrigReq), Does (fun dt => .sequenceTrigger dt x true)
      (fun e => e.running = true ∧ e.dueTriggers x true = [r] ∧ e.members x true = [x] ∧ e.followsA x true = false ∧ e.convOn x = true ∧ (e.seq x true).state = .idle)
      (fun e t => (t.seq x true).state = .run ∧ (t.seq x true).trig = (e.seq x true).trig.filter (fun u => decide (r.due < u.due)) ∧ (t.seq x true).pos = 0 ∧ (t.seq x true).since = r.due ∧ (t.seq x true).pend = some { entry := 0, spec := r.spec, pendAt := r.due + 1 + entryDly (e.entryWord x true 0), base := some (r.due + 1) } ∧ t.wheels = e.wheels ∧ t.outs = e.outs ∧ t.sram = e.sram)) ∧
  (∀ (x : Conv) (r : TrigReq), Does (fun dt => .sequenceTrigger dt x true)
      (fun e => e.running = true ∧ e.dueTriggers x true = [r] ∧ e.members x true = [x] ∧ e.followsA x true = false ∧ e.convOn x = true ∧ (e.seq x true).state ≠ .idle)
      (fun e t => (t.seq x true) = { e.seq x true with trig := (e.seq x true).trig.filter (fun u => decide (r.due < u.due)) } ∧ t.bit (aseqBase x + 0xC) 1 = true ∧ (t.seq x false) = e.seq x false ∧ t.adc x = e.adc x ∧ t.sram = e.sram)) ∧
  (∀ (x : Conv) (r : TrigReq), Makes (fun dt => .sequenceTrigger dt x false)
      (fun e => e.running = true ∧ e.dueTriggers x false = [r] ∧ e.members x false = [x] ∧ e.followsA x false = false ∧ e.convOn x = true ∧ (e.seq x false).state = .idle ∧ e.injBusy x = false)
      (fun e => e.setSeq x false { e.seq x false with trig := (e.seq x false).trig.filter (fun u => decide (r.due < u.due)), state := .run, passes := 0, pos := 0, spec := r.spec, held := none, pend := some { entry := 0, spec := r.spec, pendAt := r.due + 1 + entryDly (e.entryWord x false 0), base := some (r.due + 1) } })) ∧
  (∀ (x : Conv) (r : TrigReq), Does (fun dt => .sequenceTrigger dt x false)
      (fun e => e.running = true ∧ e.dueTriggers x false = [r] ∧ e.members x false = [x] ∧ e.followsA x false = false ∧ e.convOn x = true ∧ ((e.seq x false).state = .run ∨ (e.seq x false).state = .preempted))
      (fun e t => (t.seq x false) = { e.seq x false with trig := (e.seq x false).trig.filter (fun u => decide (r.due < u.due)) } ∧ t.bit (aseqBase x + 0xC) 0 = true ∧ (t.seq x true) = e.seq x true ∧ t.adc x = e.adc x ∧ t.sram = e.sram)) ∧
  (∀ (m : Master) (mask : BitVec 4), Does (fun dt => .softwareTrigger dt m mask)
      (fun e => e.running = true ∧ e.life.state ≠ .scrap)
      (fun e t => t.regA = (if mask.toNat.testBit 0 && (e.members .adcA false).all e.convOn then { e.regA with trig := addTrigger { due := e.convCycle + 2, src := 0, spec := false } e.regA.trig } else e.regA) ∧ t.injA = (if mask.toNat.testBit 1 && (e.members .adcA true).all e.convOn then { e.injA with trig := addTrigger { due := e.convCycle + 2, src := 0, spec := false } e.injA.trig } else e.injA) ∧ t.regB = (if mask.toNat.testBit 2 && !e.bit 0x81004 0 && (e.members .adcB false).all e.convOn then { e.regB with trig := addTrigger { due := e.convCycle + 2, src := 0, spec := false } e.regB.trig } else e.regB) ∧ t.injB = (if mask.toNat.testBit 3 && !e.bit 0x81004 1 && (e.members .adcB true).all e.convOn then { e.injB with trig := addTrigger { due := e.convCycle + 2, src := 0, spec := false } e.injB.trig } else e.injB) ∧ t = { e with regA := t.regA, injA := t.injA, regB := t.regB, injB := t.injB, busRead := 0, busError := false })) ∧
  (∀ (m : Master) (mask : BitVec 4), Makes (fun dt => .sequenceStop dt m mask)
      (fun e => e.running = true ∧ e.life.state ≠ .scrap)
      (fun e => { e with regA := (if mask.toNat.testBit 0 then { e.regA with stops := e.regA.stops ++ [e.convCycle + 2] } else e.regA), injA := (if mask.toNat.testBit 1 then { e.injA with stops := e.injA.stops ++ [e.convCycle + 2] } else e.injA), regB := (if mask.toNat.testBit 2 then { e.regB with stops := e.regB.stops ++ [e.convCycle + 2] } else e.regB), injB := (if mask.toNat.testBit 3 then { e.injB with stops := e.injB.stops ++ [e.convCycle + 2] } else e.injB), busRead := 0, busError := false })) ∧
  ((∀ (e : State) (x : Conv) (c : Nat), (e.seq x false).stops = [c] → c ≤ e.convCycle → e.dueTriggers x false = [] → e.followsA x false = false →
      (e.seq x false).state ≠ .idle →
      e.dueStops x false = e.setSeq x false { trig := (e.seq x false).trig, passes := (e.seq x false).passes, reqs := (e.seq x false).reqs, reqAt := (e.seq x false).reqAt }) ∧
   (∀ (e : State) (x : Conv) (inj : Bool), (∀ c ∈ (e.seq x inj).stops, e.convCycle < c) → e.dueStops x inj = e))

/-- O29, Conversions start and end. With no rotation step due in this cycle and no trigger due: In the cycle in which a request r of
a sequence of one live converter falls due, the slice k that allocation gives starts, with the entry and tag of r, the channel
word and trim of the entry's code and the slice's own coefficients, and is the slice given last; slices, active slices, spare,
register words and SRAM stay. With no request nothing changes. With one that is not yet due nothing changes. For a conversion j
that is no half of a cross-check and whose entry makes no DMA request: CONVERSION_DONE of the conversion slice k started first,
its cycle come: it leaves the slice; its result register holds the corrected value, the overrange bit, the tag, FRESH, XCHK 0,
the slice, and SAMPLE one higher; over an unread result ROVW, or IOVW of an injected one, is set; coefficients, both sequences,
DMA, SRAM and trackers stay. With none on the slice, and outside RUN, nothing changes. Before its cycle nothing changes.
SLICE_TIMEOUT with a spare p and fewer than two failed passes of slice k: the result is 0 with OVR and FRESH; p is active in
place of k, k is the spare with a pass begun, one failed pass more, and cause 6; SRAM stays. Each clause concludes that exec
answers a next state, for all states and operands under its conditions: conversionStart, conversionDone, sliceTimeout. -/
def Obligations.Conversions : Prop :=
  (∀ (x : Conv) (inj : Bool) (r : SeqReq) (k : Fin 9), Does (fun dt => .conversionStart dt x inj)
      (fun e => (e.members x inj).foldl State.rotate e = e ∧ e.dueTriggers x inj = [] ∧ (e.seq x inj).state = .run ∧ (e.seq x inj).pend = some r ∧ r.pendAt = e.convCycle ∧ r.word = none ∧ r.entry < e.seqLen x inj ∧ e.members x inj = [x] ∧ e.followsA x inj = false ∧ e.convOn x = true ∧ (e.adc x).dead = false ∧ (e.adc x).allocate e.convCycle = some k)
      (fun e t => (t.adc x).last = k ∧ t.regs = e.regs ∧ t.sram = e.sram ∧ (t.adc x).slices = (e.adc x).slices ∧ (t.adc x).active = (e.adc x).active ∧ (t.adc x).spare = (e.adc x).spare ∧ (∃ j, (t.adc x).jobs = (e.adc x).jobs ++ [j] ∧ j.slice = k ∧ j.start = e.convCycle ∧ j.inj = inj ∧ j.req.entry = r.entry ∧ j.req.spec = r.spec ∧ j.word = e.entryWord x inj r.entry ∧ j.chan = e.reg (adcBase x + 0x200 + 8 * fieldOf (e.entryWord x inj r.entry) 5 0) ∧ j.trim = e.reg (adcBase x + 0x204 + 8 * fieldOf (e.entryWord x inj r.entry) 5 0) ∧ j.sofs = ((e.adc x).slices[k]).sofs ∧ j.sgain = ((e.adc x).slices[k]).sgain ∧ j.xchk = false))) ∧
  (∀ (x : Conv) (inj : Bool), Makes (fun dt => .conversionStart dt x inj)
      (fun e => (e.members x inj).foldl State.rotate e = e ∧ e.dueTriggers x inj = [] ∧ (e.seq x inj).pend = none)
      (fun e => e)) ∧
  (∀ (x : Conv) (inj : Bool) (r : SeqReq), Makes (fun dt => .conversionStart dt x inj)
      (fun e => (e.members x inj).foldl State.rotate e = e ∧ e.dueTriggers x inj = [] ∧ (e.seq x inj).pend = some r ∧ e.convCycle < r.pendAt)
      (fun e => e)) ∧
  (∀ (x : Conv) (k : Fin 9) (raw : BitVec 16) (excess : Bool) (rawP : BitVec 16) (excessP : Bool) (j : ConvJob), Does (fun dt => .conversionDone dt x k raw excess rawP excessP)
      (fun e => e.running = true ∧ (e.adc x).jobs.find? (fun j => j.slice == k) = some j ∧ j.xchk = false ∧ j.doneAt ≤ e.convCycle ∧ bitOf j.word 7 = false)
      (fun e t => t.fld (resultAddr x j.inj j.req.entry) 15 0 = (j.result raw.toNat excess).data ∧ t.bit (resultAddr x j.inj j.req.entry) 16 = (j.result raw.toNat excess).ovr ∧ t.bit (resultAddr x j.inj j.req.entry) 17 = j.req.spec ∧ t.bit (resultAddr x j.inj j.req.entry) 18 = true ∧ t.bit (resultAddr x j.inj j.req.entry) 19 = false ∧ t.fld (resultAddr x j.inj j.req.entry) 23 20 = j.slice.val ∧ t.fld (resultAddr x j.inj j.req.entry) 31 24 = (e.fld (resultAddr x j.inj j.req.entry) 31 24 + 1) % 256 ∧ (e.bit (resultAddr x j.inj j.req.entry) 18 = true → t.bit (aseqBase x + 0xC) (if j.inj then 3 else 2) = true) ∧ (t.adc x).jobs = (e.adc x).jobs.erase j ∧ (t.adc x).slices = (e.adc x).slices ∧ (t.seq x false) = e.seq x false ∧ (t.seq x true) = e.seq x true ∧ t.dma = e.dma ∧ t.sram = e.sram ∧ t.wheels = e.wheels)) ∧
  (∀ (x : Conv) (k : Fin 9) (raw : BitVec 16) (excess : Bool) (rawP : BitVec 16) (excessP : Bool), Makes (fun dt => .conversionDone dt x k raw excess rawP excessP)
      (fun e => e.running = false ∨ (e.adc x).jobs.find? (fun j => j.slice == k) = none)
      (fun e => e)) ∧
  (∀ (x : Conv) (k : Fin 9) (raw : BitVec 16) (excess : Bool) (rawP : BitVec 16) (excessP : Bool) (j : ConvJob), Makes (fun dt => .conversionDone dt x k raw excess rawP excessP)
      (fun e => (e.adc x).jobs.find? (fun j => j.slice == k) = some j ∧ e.convCycle < j.doneAt)
      (fun e => e)) ∧
  (∀ (x : Conv) (k : Fin 9) (rawP : BitVec 16) (excessP : Bool) (j : ConvJob) (p : Fin 9), Does (fun dt => .sliceTimeout dt x k rawP excessP)
      (fun e => e.running = true ∧ (e.adc x).jobs.find? (fun j => j.slice == k) = some j ∧ j.xchk = false ∧ j.freeAt ≤ e.convCycle ∧ bitOf j.word 7 = false ∧ (e.adc x).spare = some p ∧ p ≠ k ∧ ((e.adc x).slices[k]).fails < 2)
      (fun e t => t.fld (resultAddr x j.inj j.req.entry) 15 0 = 0 ∧ t.bit (resultAddr x j.inj j.req.entry) 16 = true ∧ t.bit (resultAddr x j.inj j.req.entry) 18 = true ∧ (t.adc x).active.testBit k.val = false ∧ (t.adc x).active.testBit p.val = true ∧ (t.adc x).spare = some k ∧ (t.adc x).passRun = true ∧ ((t.adc x).slices[k]).fails = ((e.adc x).slices[k]).fails + 1 ∧ ((t.adc x).slices[k]).cause = 6 ∧ t.sram = e.sram))

/-- O30, A corrected result lies in its format, and the overrange bit says when it was clamped. For every raw code, every
coefficient and every channel word with RES 0 to 2, q lies between the ends of the number format, DATA has 16 bits, and with OVR
clear no clamp took place: the value before the clamp is q itself. -/
def Obligations.ResultsStayInTheirFormat : Prop :=
  ∀ (raw : Nat) (sofs sgain : Int) (chan trim : Word) (excess : Bool), fieldOf chan 5 4 < 3 →
    (correct raw sofs sgain chan trim excess).data < 65536 ∧
    (bitOf chan 0 = false ∨ bitOf chan 1 = false →
      0 ≤ (correct raw sofs sgain chan trim excess).q ∧ (correct raw sofs sgain chan trim excess).q < ((2 ^ (16 - 2 * fieldOf chan 5 4) : Nat) : Int)) ∧
    (bitOf chan 0 = true → bitOf chan 1 = true →
      -((2 ^ (15 - 2 * fieldOf chan 5 4) : Nat) : Int) ≤ (correct raw sofs sgain chan trim excess).q ∧
      (correct raw sofs sgain chan trim excess).q < ((2 ^ (15 - 2 * fieldOf chan 5 4) : Nat) : Int)) ∧
    (excess = true → (correct raw sofs sgain chan trim excess).ovr = true)

/-- O31, A calibration pass, the rotation boundary and the handover of the spare. CALIBRATION_PASS_DONE with 64 codes of each point
and the spare k free for its pass; ofs and gain are the coefficients of R331's formulas. A pass that fails no test gives the
spare the new coefficients, its failures are 0, its passes one more; nothing outside the converter changes. One that fails a
test, not the third in a row, keeps the coefficients, counts one more failure and stores its cause. With no spare, no pass begun
or the converter off nothing changes. ROTATION_BOUNDARY that is due, the spare's pass passed and no handover on its way: the
next good slice after the spare is withdrawn and the next boundary lies ROTPER later. With the pass failed the spare begins its
next one. Before the boundary, and with the converter off, nothing changes. SPARE_HANDOVER with the converter on and the
withdrawn slice free: the spare is active in its place, it is the spare, its pass is begun; a self-test or bias check that the
spare was at begins again (`restartDuties`); nothing else changes. With none withdrawn, the converter off, and outside RUN,
nothing changes. REFERENCE_FAULT sets REFERR of the converter and the ADVISE bit REFERENCE; the converter's slices, sequences,
trackers, SRAM and power stay. Each clause concludes that exec answers a next state, for all states and operands under its
conditions: calibrationPassDone, rotationBoundary, spareHandover, referenceFault. -/
def Obligations.CalibrationAndRotation : Prop :=
  (∀ (x : Conv) (lo mid hi : List (BitVec 16)) (k : Fin 9) (ofs gain : Int), Does (fun dt => .calibrationPassDone dt x lo mid hi)
      (fun e => e.convOn x = true ∧ (e.adc x).spare = some k ∧ (e.adc x).passRun = true ∧ e.spareBusy x = false ∧ lo.length = 64 ∧ mid.length = 64 ∧ hi.length = 64 ∧ gain = passGain (meanOf lo) (meanOf hi) ∧ ofs = passOffset (meanOf lo) gain ∧ passCause ((e.adc x).slices[k]) (e.reg (adcBase x + 8)) ofs gain (passMidErr (meanOf mid) ofs gain) mid = 0)
      (fun e t => ((t.adc x).slices[k]).sofs = ofs ∧ ((t.adc x).slices[k]).sgain = gain ∧ ((t.adc x).slices[k]).fails = 0 ∧ ((t.adc x).slices[k]).passes = ((e.adc x).slices[k]).passes + 1 ∧ (t.adc x).passOk = true ∧ (t.adc x).passRun = false ∧ (t.adc x).active = (e.adc x).active ∧ (t.adc x).jobs = (e.adc x).jobs ∧ t = e.setAdc x (t.adc x))) ∧
  (∀ (x : Conv) (lo mid hi : List (BitVec 16)) (k : Fin 9) (ofs gain : Int), Does (fun dt => .calibrationPassDone dt x lo mid hi)
      (fun e => e.convOn x = true ∧ (e.adc x).spare = some k ∧ (e.adc x).passRun = true ∧ e.spareBusy x = false ∧ lo.length = 64 ∧ mid.length = 64 ∧ hi.length = 64 ∧ gain = passGain (meanOf lo) (meanOf hi) ∧ ofs = passOffset (meanOf lo) gain ∧ passCause ((e.adc x).slices[k]) (e.reg (adcBase x + 8)) ofs gain (passMidErr (meanOf mid) ofs gain) mid ≠ 0 ∧ ((e.adc x).slices[k]).fails < 2)
      (fun e t => ((t.adc x).slices[k]).sofs = ((e.adc x).slices[k]).sofs ∧ ((t.adc x).slices[k]).sgain = ((e.adc x).slices[k]).sgain ∧ ((t.adc x).slices[k]).fails = ((e.adc x).slices[k]).fails + 1 ∧ ((t.adc x).slices[k]).cause = passCause ((e.adc x).slices[k]) (e.reg (adcBase x + 8)) ofs gain (passMidErr (meanOf mid) ofs gain) mid ∧ (t.adc x).passOk = false ∧ (t.adc x).passRun = false ∧ t = e.setAdc x (t.adc x))) ∧
  (∀ (x : Conv) (lo mid hi : List (BitVec 16)), Makes (fun dt => .calibrationPassDone dt x lo mid hi)
      (fun e => (e.adc x).spare = none ∨ e.convOn x = false ∨ (e.adc x).passRun = false)
      (fun e => e)) ∧
  (∀ (x : Conv) (k : Fin 9), Makes (fun dt => .rotationBoundary dt x)
      (fun e => e.convOn x = true ∧ (e.adc x).rotAt / 4 ≤ e.convCycle ∧ (e.adc x).spare = some k ∧ (e.adc x).passOk = true ∧ (e.adc x).outgoing = none)
      (fun e => e.setAdc x { e.adc x with rotAt := (e.adc x).rotAt + 38400 * e.fld (adcBase x) 7 0, outgoing := (e.adc x).nextGood k })) ∧
  (∀ (x : Conv) (k : Fin 9), Makes (fun dt => .rotationBoundary dt x)
      (fun e => e.convOn x = true ∧ (e.adc x).rotAt / 4 ≤ e.convCycle ∧ (e.adc x).spare = some k ∧ (e.adc x).passOk = false ∧ (e.adc x).passRun = false)
      (fun e => e.setAdc x { e.adc x with rotAt := (e.adc x).rotAt + 38400 * e.fld (adcBase x) 7 0, passRun := true })) ∧
  (∀ (x : Conv), Makes (fun dt => .rotationBoundary dt x)
      (fun e => e.convOn x = false ∨ e.convCycle < (e.adc x).rotAt / 4)
      (fun e => e)) ∧
  (∀ (x : Conv) (k p : Fin 9), Makes (fun dt => .spareHandover dt x)
      (fun e => e.running = true ∧ e.convOn x = true ∧ (e.adc x).outgoing = some k ∧ (e.adc x).freeIn k e.convCycle = true ∧ (e.adc x).spare = some p)
      (fun e => (e.setAdc x { e.adc x with active := setBit (clearBit (e.adc x).active k.val) p.val, spare := some k, outgoing := none, passRun := true, passOk := false }).restartDuties x)) ∧
  (∀ (x : Conv), Makes (fun dt => .spareHandover dt x)
      (fun e => e.running = false ∨ e.convOn x = false ∨ (e.adc x).outgoing = none)
      (fun e => e)) ∧
  (∀ (x : Conv), Does (fun dt => .referenceFault dt x)
      (fun e => e.running = true)
      (fun e t => t.bit (adcBase x + 4) 22 = true ∧ t.bit 0x100004 5 = true ∧ t.adc x = e.adc x ∧ t.regA = e.regA ∧ t.wheels = e.wheels ∧ t.sram = e.sram ∧ t.power = e.power))

/-- O32, A comparator becomes ready, active and inactive as its last samples agree. COMPARATOR_ENTER: with CFILT + 1 samples that
agree on the condition, the first of which made it true, a ready comparator that is inactive is active from now on, with ENTER
set and its count one higher, stopping at 65535; the other comparators, SRAM and trackers stay. Samples that do not agree, and a
comparator that is off, change nothing. COMPARATOR_LEAVE alike makes an active one inactive and sets LEAVE. On an inactive one
it changes nothing. COMPARATOR_READY once CFILT + 1 samples have been taken since its start: it is ready, and with samples that
do not agree on the condition nothing else changes. With samples that agree on it, it is active at once with ENTER set. Each
clause concludes that exec answers a next state, for all states and operands under its conditions: comparatorEnter,
comparatorLeave, comparatorReady. -/
def Obligations.ComparatorDecisions : Prop :=
  (∀ (c : Fin 16) (samples : List Int), Does (fun dt => .comparatorEnter dt c samples)
      (fun e => e.cmpOn c = true ∧ (e.cmp c).ready = true ∧ (e.cmp c).active = false ∧ e.cmpSettles c true samples = true)
      (fun e t => (t.cmp c).active = true ∧ (t.cmp c).since = e.now ∧ (t.cmp c).ready = true ∧ t.bit (cmpBase c + 8) 8 = true ∧ t.fld (cmpBase c + 8) 31 16 = satAdd 65535 (e.fld (cmpBase c + 8) 31 16) 1 ∧ (∀ k : Fin 16, k ≠ c → t.cmp k = e.cmp k) ∧ t.sram = e.sram ∧ t.wheels = e.wheels)) ∧
  (∀ (c : Fin 16) (samples : List Int), Makes (fun dt => .comparatorEnter dt c samples)
      (fun e => e.cmpOn c = false ∨ e.cmpSettles c true samples = false)
      (fun e => e)) ∧
  (∀ (c : Fin 16) (samples : List Int), Does (fun dt => .comparatorLeave dt c samples)
      (fun e => e.cmpOn c = true ∧ (e.cmp c).ready = true ∧ (e.cmp c).active = true ∧ e.cmpSettles c false samples = true)
      (fun e t => (t.cmp c).active = false ∧ (t.cmp c).ready = true ∧ t.bit (cmpBase c + 8) 9 = true ∧ (∀ k : Fin 16, k ≠ c → t.cmp k = e.cmp k) ∧ t.sram = e.sram ∧ t.wheels = e.wheels)) ∧
  (∀ (c : Fin 16) (samples : List Int), Makes (fun dt => .comparatorLeave dt c samples)
      (fun e => (e.cmp c).active = false)
      (fun e => e)) ∧
  (∀ (c : Fin 16) (samples : List Int), Makes (fun dt => .comparatorReady dt c samples)
      (fun e => e.cmpOn c = true ∧ (e.cmp c).ready = false ∧ samples.length = e.fld (cmpBase c) 11 8 + 1 ∧ (e.cmp c).startAt + samples.length ≤ e.now ∧ e.cmpSettles c true samples = false)
      (fun e => e.setCmp c { e.cmp c with ready := true })) ∧
  (∀ (c : Fin 16) (samples : List Int), Does (fun dt => .comparatorReady dt c samples)
      (fun e => e.cmpOn c = true ∧ (e.cmp c).ready = false ∧ samples.length = e.fld (cmpBase c) 11 8 + 1 ∧ (e.cmp c).startAt + samples.length ≤ e.now ∧ e.cmpSettles c true samples = true)
      (fun e t => (t.cmp c).ready = true ∧ (t.cmp c).active = true ∧ t.bit (cmpBase c + 8) 8 = true ∧ t.sram = e.sram))

/-- O33, DMA_CHn_CTRL starts, aborts and resumes a channel, and changes no other. DMA_START puts an enabled channel that is idle or
done, and not held, at its entry point in RUN: address registers, loops and TAG cleared, no beat begun; signals, LEVEL and the
fault record stay, and nothing else changes. On a disabled or held channel, or one in another state, it changes nothing.
DMA_ABORT of a channel without a parked beat: IDLE at the entry point, loops and TAG cleared, no beat begun; the address
registers too stay. With one, it is to stop at the end of that beat. DMA_RESUME returns a suspended channel to RUN exactly as it
was. A halted one has a fresh retry count. In every other state it changes nothing. Each clause concludes that exec answers a
next state, for all states and operands under its conditions: dmaStart, dmaAbort, dmaResume. -/
def Obligations.DmaControl : Prop :=
  (∀ (n : Fin 16), Makes (fun dt => .dmaStart dt n)
      (fun e => e.running = true ∧ e.life.state ≠ .scrap ∧ ((e.ch n).state = .idle ∨ (e.ch n).state = .done) ∧ e.chEn n = true ∧ e.cfg.holdCh.testBit n.val = false)
      (fun e => { e.setCh n { e.ch n with state := .run, pc := e.chEntry n, a := [0, 0, 0, 0], loops := [], tag := false, work := .none, tries := 0, parked := false, after := none, met := none } with busRead := 0, busError := false })) ∧
  (∀ (n : Fin 16), Makes (fun dt => .dmaStart dt n)
      (fun e => e.running = true ∧ e.life.state ≠ .scrap ∧ (e.chEn n = false ∨ e.cfg.holdCh.testBit n.val = true ∨ (e.ch n).state = .run ∨ (e.ch n).state = .wait ∨ (e.ch n).state = .suspended ∨ (e.ch n).state = .halted))
      (fun e => { e with busRead := 0, busError := false })) ∧
  (∀ (n : Fin 16), Makes (fun dt => .dmaAbort dt n)
      (fun e => e.running = true ∧ e.life.state ≠ .scrap ∧ (e.ch n).parked = false)
      (fun e => { e.setCh n { e.ch n with state := .idle, pc := e.chEntry n, loops := [], tag := false, work := .none, tries := 0, parked := false, after := none, met := none } with busRead := 0, busError := false })) ∧
  (∀ (n : Fin 16), Makes (fun dt => .dmaAbort dt n)
      (fun e => e.running = true ∧ e.life.state ≠ .scrap ∧ (e.ch n).parked = true)
      (fun e => { e.setCh n { e.ch n with after := some .stop } with busRead := 0, busError := false })) ∧
  (∀ (n : Fin 16), Makes (fun dt => .dmaResume dt n)
      (fun e => e.running = true ∧ e.life.state ≠ .scrap ∧ (e.ch n).state = .suspended)
      (fun e => { e.setCh n { e.ch n with state := .run } with busRead := 0, busError := false })) ∧
  (∀ (n : Fin 16), Makes (fun dt => .dmaResume dt n)
      (fun e => e.running = true ∧ e.life.state ≠ .scrap ∧ (e.ch n).state = .halted)
      (fun e => { e.setCh n { e.ch n with state := .run, tries := 0 } with busRead := 0, busError := false })) ∧
  (∀ (n : Fin 16), Makes (fun dt => .dmaResume dt n)
      (fun e => e.running = true ∧ e.life.state ≠ .scrap ∧ ((e.ch n).state = .idle ∨ (e.ch n).state = .run ∨ (e.ch n).state = .wait ∨ (e.ch n).state = .done))
      (fun e => { e with busRead := 0, busError := false }))

/-- O34, Signals, their clearing, levels and the translation cache. SIGNAL_DELIVERY makes each signal its mask names pending and
keeps the others and every tag; address registers, loops, PC and state of the channel, the other channels and SRAM stay. SIGCLR
clears the signals it names with their tags and nothing else. LVLDEC, the level unchanged so far in this CLK_SYS cycle, takes it
down, not below 0; state and signals of the channel, the other channels and everything outside the DMA stay. In a cycle that has
changed it already, the level is what the increments of the cycle made it less all its decrements, not below 0. What an earlier
cycle has done to it does not count. TLB_INVALIDATE drops every entry, or those of the context and page it names, and no other,
and what a walk of the same CLK_SYS cycle fills after it (`tlbFill`); channels and everything outside the DMA stay. Each clause
concludes that exec answers a next state, for all states and operands under its conditions: signalDelivery, sigclr, lvldec,
tlbInvalidate. -/
def Obligations.DmaSignalsAndLevels : Prop :=
  (∀ (m : Master) (n : Fin 16) (mask : BitVec 16), Does (fun dt => .signalDelivery dt m n mask)
      (fun e => e.running = true ∧ e.life.state ≠ .scrap)
      (fun e t => (∀ i : Fin 16, (t.ch n).sig.testBit i.val = ((e.ch n).sig.testBit i.val || mask.toNat.testBit i.val)) ∧ (t.ch n).sigSpec = (e.ch n).sigSpec ∧ (t.ch n).a = (e.ch n).a ∧ (t.ch n).loops = (e.ch n).loops ∧ (t.ch n).pc = (e.ch n).pc ∧ (t.ch n).state = (e.ch n).state ∧ (∀ k : Fin 16, k ≠ n → t.ch k = e.ch k) ∧ t.sram = e.sram ∧ t.busError = false)) ∧
  (∀ (m : Master) (n : Fin 16) (mask : BitVec 16), Does (fun dt => .sigclr dt m n mask)
      (fun e => e.running = true ∧ e.life.state ≠ .scrap)
      (fun e t => (∀ i : Fin 16, (t.ch n).sig.testBit i.val = ((e.ch n).sig.testBit i.val && !mask.toNat.testBit i.val) ∧ (t.ch n).sigSpec.testBit i.val = ((e.ch n).sigSpec.testBit i.val && !mask.toNat.testBit i.val)) ∧ t = { e.setCh n { e.ch n with sig := (t.ch n).sig, sigSpec := (t.ch n).sigSpec } with busRead := 0, busError := false })) ∧
  (∀ (m : Master) (n : Fin 16) (amount : BitVec 16), Does (fun dt => .lvldec dt m n amount)
      (fun e => e.running = true ∧ e.life.state ≠ .scrap ∧ (e.ch n).lvl = none)
      (fun e t => (t.ch n).level = (e.ch n).level - amount.toNat ∧ (t.ch n).state = (e.ch n).state ∧ (t.ch n).sig = (e.ch n).sig ∧ (∀ k : Fin 16, k ≠ n → t.ch k = e.ch k) ∧ t = { e with dma := t.dma, busRead := 0, busError := false })) ∧
  (∀ (m : Master) (n : Fin 16) (amount : BitVec 16) (k : LevelCycle), Does (fun dt => .lvldec dt m n amount)
      (fun e => e.running = true ∧ e.life.state ≠ .scrap ∧ (e.ch n).lvl = some k ∧ k.cyc = e.now / 2)
      (fun e t => (t.ch n).level = k.up - (k.down + amount.toNat) ∧ (t.ch n).sig = (e.ch n).sig ∧ (∀ k : Fin 16, k ≠ n → t.ch k = e.ch k) ∧ t = { e with dma := t.dma, busRead := 0, busError := false })) ∧
  (∀ (m : Master) (n : Fin 16) (amount : BitVec 16) (k : LevelCycle), Does (fun dt => .lvldec dt m n amount)
      (fun e => e.running = true ∧ e.life.state ≠ .scrap ∧ (e.ch n).lvl = some k ∧ k.cyc ≠ e.now / 2)
      (fun e t => (t.ch n).level = (e.ch n).level - amount.toNat ∧ (t.ch n).sig = (e.ch n).sig ∧ (∀ k : Fin 16, k ≠ n → t.ch k = e.ch k) ∧ t = { e with dma := t.dma, busRead := 0, busError := false })) ∧
  (∀ (value : Word), Does (fun dt => .tlbInvalidate dt value)
      (fun e => e.running = true ∧ e.life.state ≠ .scrap)
      (fun e t => (∀ x : TlbEntry, x ∈ t.dma.tlb ↔ x ∈ e.dma.tlb ∧ bitOf value 31 = false ∧ ¬(x.ctx = fieldOf value 27 24 ∧ x.page = fieldOf value 11 0)) ∧ (∀ x : TlbEntry, bitOf value 31 = true ∨ (x.ctx = fieldOf value 27 24 ∧ x.page = fieldOf value 11 0) → x ∉ (t.tlbFill x).dma.tlb) ∧ t.dma.chs = e.dma.chs ∧ t = { e with dma := t.dma, busRead := 0, busError := false }))

/-- O35, LOOP, ENDLOOP, WAIT, SIGNAL, SET, END and the beginning of a MOVE. LOOP opens a loop with its count. With COUNT 0 the loop
has no end. On a channel not in RUN it changes nothing. ENDLOOP goes back to the body while runs are left, with one less. In the
last run it closes the loop and goes on. WAIT for a pending signal goes on at once: TAG takes the signal's tag, the signal is
cleared; nothing outside the DMA and no other channel changes. Otherwise the channel waits. WAIT_COMPLETE of a met condition:
the channel runs on after the WAIT with its tag; nothing outside the DMA and no other channel changes. With none met nothing
changes. SIGNAL makes its signal pending at its channel k and goes on; the channels but k and its own, and SRAM, stay; SIGOVR is
set where the signal was pending already, and no other register word changes. SET of an address register loads it and goes on.
SET of a word asks for a write beat. END: the channel is DONE with its flag set; no other channel, no other register word and
nothing else changes. MOVE takes source and destination, each the address of its word or of the register the word names, by its
mode, and nothing else changes. On a channel not in RUN it changes nothing. Each clause concludes that exec answers a next
state, for all states and operands under its conditions: dmaLoop, dmaEndloop, dmaWait, waitComplete, dmaSignal, dmaSet, dmaEnd,
dmaMove. -/
def Obligations.DmaInstructions : Prop :=
  (∀ (n : Fin 16) (k : Nat), Makes (fun dt => .dmaLoop dt n)
      (fun e => e.atOp n 2 = true ∧ fieldOf (e.progWord (e.ch n).pc) 15 0 = k + 1)
      (fun e => e.setCh n { e.ch n with pc := (e.ch n).pc + 1, loops := { body := (e.ch n).pc + 1, left := some (k + 1) } :: (e.ch n).loops })) ∧
  (∀ (n : Fin 16), Makes (fun dt => .dmaLoop dt n)
      (fun e => e.atOp n 2 = true ∧ fieldOf (e.progWord (e.ch n).pc) 15 0 = 0)
      (fun e => e.setCh n { e.ch n with pc := (e.ch n).pc + 1, loops := { body := (e.ch n).pc + 1, left := none } :: (e.ch n).loops })) ∧
  (∀ (n : Fin 16), Makes (fun dt => .dmaLoop dt n)
      (fun e => (e.ch n).state ≠ .run)
      (fun e => e)) ∧
  (∀ (n : Fin 16) (b k : Nat) (rest : List LoopFrame), Makes (fun dt => .dmaEndloop dt n)
      (fun e => e.atOp n 3 = true ∧ (e.ch n).loops = { body := b, left := some (k + 2) } :: rest)
      (fun e => e.setCh n { e.ch n with pc := b, loops := { body := b, left := some (k + 1) } :: rest })) ∧
  (∀ (n : Fin 16) (b : Nat) (rest : List LoopFrame), Makes (fun dt => .dmaEndloop dt n)
      (fun e => e.atOp n 3 = true ∧ (e.ch n).loops = { body := b, left := some 1 } :: rest)
      (fun e => e.setCh n { e.ch n with pc := (e.ch n).pc + 1, loops := rest })) ∧
  (∀ (n : Fin 16), Does (fun dt => .dmaWait dt n)
      (fun e => e.atOp n 4 = true ∧ fieldOf (e.progWord (e.ch n).pc) 27 26 = 0 ∧ (e.ch n).sig.testBit (fieldOf (e.progWord (e.ch n).pc) 3 0) = true)
      (fun e t => (t.ch n).state = .run ∧ (t.ch n).pc = (e.ch n).pc + 1 ∧ (t.ch n).tag = (e.ch n).sigSpec.testBit (fieldOf (e.progWord (e.ch n).pc) 3 0) ∧ (∀ i : Fin 16, (t.ch n).sig.testBit i.val = ((e.ch n).sig.testBit i.val && decide (i.val ≠ fieldOf (e.progWord (e.ch n).pc) 3 0))) ∧ (∀ k : Fin 16, k ≠ n → t.ch k = e.ch k) ∧ t = { e with dma := t.dma })) ∧
  (∀ (n : Fin 16), Makes (fun dt => .dmaWait dt n)
      (fun e => e.atOp n 4 = true ∧ (fieldOf (e.progWord (e.ch n).pc) 27 26 ≠ 0 ∨ (e.ch n).sig.testBit (fieldOf (e.progWord (e.ch n).pc) 3 0) = false))
      (fun e => e.setCh n { e.ch n with state := .wait, met := none })) ∧
  (∀ (n : Fin 16) (tag : Bool), Does (fun dt => .waitComplete dt n)
      (fun e => e.running = true ∧ (e.ch n).state = .wait ∧ (e.ch n).met = some tag)
      (fun e t => (t.ch n).state = .run ∧ (t.ch n).pc = (e.ch n).pc + 1 ∧ (t.ch n).tag = tag ∧ (t.ch n).met = none ∧ (∀ k : Fin 16, k ≠ n → t.ch k = e.ch k) ∧ t = { e with dma := t.dma })) ∧
  (∀ (n : Fin 16), Makes (fun dt => .waitComplete dt n)
      (fun e => (e.ch n).met = none)
      (fun e => e)) ∧
  (∀ (n : Fin 16) (k : Fin 16), Does (fun dt => .dmaSignal dt n)
      (fun e => e.atOp n 5 = true ∧ k = Fin.ofNat 16 (fieldOf (e.progWord (e.ch n).pc) 3 0))
      (fun e t => (t.ch n).pc = (e.ch n).pc + 1 ∧ (t.ch k).sig.testBit (fieldOf (e.progWord (e.ch n).pc) 7 4) = true ∧ (∀ i : Fin 16, i ≠ n → i ≠ k → t.ch i = e.ch i) ∧ t.sram = e.sram ∧ t.regs = (if (e.ch k).sig.testBit (fieldOf (e.progWord (e.ch n).pc) 7 4) then (e.orReg (dmaBase k + 0x10) 8).regs else e.regs))) ∧
  (∀ (n : Fin 16), Makes (fun dt => .dmaSet dt n)
      (fun e => e.atOp n 6 = true ∧ bitOf (e.progWord (e.ch n).pc) 27 = false)
      (fun e => e.setCh n { e.ch n with pc := (e.ch n).pc + 2, a := (e.ch n).a.set (fieldOf (e.progWord (e.ch n).pc) 1 0) (fieldOf (e.progWord ((e.ch n).pc + 1)) 23 0) })) ∧
  (∀ (n : Fin 16), Makes (fun dt => .dmaSet dt n)
      (fun e => e.atOp n 6 = true ∧ bitOf (e.progWord (e.ch n).pc) 27 = true)
      (fun e => e.setCh n { e.ch n with work := .set (fieldOf (e.progWord (e.ch n).pc) 23 0) (e.progWord ((e.ch n).pc + 1)), tries := 0 })) ∧
  (∀ (n : Fin 16), Does (fun dt => .dmaEnd dt n)
      (fun e => e.atOp n 0 = true)
      (fun e t => (t.ch n) = { e.ch n with state := .done } ∧ t.bit (dmaBase n + 0x10) 0 = true ∧ (∀ k : Fin 16, k ≠ n → t.ch k = e.ch k) ∧ t = { e with dma := t.dma, regs := t.regs, setAt := t.setAt, setNow := t.setNow } ∧ (∀ a, a ≠ dmaBase n + 0x10 → t.reg a = e.reg a))) ∧
  (∀ (n : Fin 16), Makes (fun dt => .dmaMove dt n)
      (fun e => e.atOp n 1 = true)
      (fun e => e.setCh n { e.ch n with work := .move { src := (if 2 ≤ fieldOf (e.progWord (e.ch n).pc) 23 22 then (e.ch n).a.getD (fieldOf (e.progWord ((e.ch n).pc + 1)) 1 0) 0 else fieldOf (e.progWord ((e.ch n).pc + 1)) 23 0), dst := (if 2 ≤ fieldOf (e.progWord (e.ch n).pc) 21 20 then (e.ch n).a.getD (fieldOf (e.progWord ((e.ch n).pc + 2)) 1 0) 0 else fieldOf (e.progWord ((e.ch n).pc + 2)) 23 0) }, tries := 0 })) ∧
  (∀ (n : Fin 16), Makes (fun dt => .dmaMove dt n)
      (fun e => (e.ch n).state ≠ .run)
      (fun e => e))

/-- O36, A beat of a MOVE reads or writes exactly its bytes; a failed translation suspends the channel. DMA_BEAT of the granted
channel n, in BYPASS, a read of an aligned unit in SRAM: the bytes enter the holding register; the other channels, SRAM and
trackers stay. A write of one: each enabled lane is stored at its place, and no other byte of SRAM changes. A beat of a fixed
operand beyond LEN ends in a bus error and is to be made again while RETRY allows it; nothing is stored. The write of a SET: the
word is stored, no other byte changes, and the channel goes on. With the cache empty and a level-1 entry without V the channel
is suspended at the beat with cause 1, its address and direction, TFLT set, nothing stored. With no channel granted, halted, or
outside RUN, nothing changes. Each clause concludes that exec answers a next state, for all states and operands under its
conditions: dmaBeat. -/
def Obligations.DmaBeats : Prop :=
  (∀ (n : Fin 16) (m : MoveSt) (a k : Nat), Does (fun dt => .dmaBeat dt)
      (fun e => e.running = true ∧ e.life.halted = false ∧ e.grant = some n ∧ (e.ch n).work = .move m ∧ e.moveBeat n (e.moveAt (e.ch n).pc) m = { addr := a, width := k, lanes := none } ∧ bitOf (e.reg (0x90800 + 4 * e.chCtx n)) 0 = true ∧ inSram a = true ∧ a % k = 0 ∧ e.beatPartial n false = false ∧ m.put < (e.moveAt (e.ch n).pc).len)
      (fun e t => (t.ch n) = { e.ch n with work := .move (moveRead (e.moveAt (e.ch n).pc) m (e.sramBytes a k)), tries := 0 } ∧ (∀ i : Fin 16, i ≠ n → t.ch i = e.ch i) ∧ t.sram = e.sram ∧ t.dma.last = n ∧ t.wheels = e.wheels)) ∧
  (∀ (n : Fin 16) (m : MoveSt) (a k : Nat) (l : List (Option Byte)), Does (fun dt => .dmaBeat dt)
      (fun e => e.running = true ∧ e.life.halted = false ∧ e.grant = some n ∧ (e.ch n).work = .move m ∧ e.moveBeat n (e.moveAt (e.ch n).pc) m = { addr := a, width := k, lanes := some l } ∧ bitOf (e.reg (0x90800 + 4 * e.chCtx n)) 0 = true ∧ inSram a = true ∧ a % k = 0 ∧ e.beatPartial n true = false)
      (fun e t => (∀ i b, l[i]? = some (some b) → t.sramByte (a + i) = b) ∧ (∀ i, l[i]? = some none → t.sramByte (a + i) = e.sramByte (a + i)) ∧ (∀ b, b < a ∨ a + l.length ≤ b → t.sramByte b = e.sramByte b) ∧ t.dma.last = n ∧ (∀ i : Fin 16, i ≠ n → t.ch i = e.ch i) ∧ t.wheels = e.wheels)) ∧
  (∀ (n : Fin 16) (b : Beat), Does (fun dt => .dmaBeat dt)
      (fun e => e.running = true ∧ e.life.halted = false ∧ e.grant = some n ∧ e.nextBeat n = some b ∧ bitOf (e.reg (0x90800 + 4 * e.chCtx n)) 0 = true ∧ e.beatPartial n b.lanes.isSome = true ∧ (e.ch n).tries < e.chRetry n)
      (fun e t => (t.ch n) = { e.ch n with tries := (e.ch n).tries + 1 } ∧ t.sram = e.sram ∧ (∀ i : Fin 16, i ≠ n → t.ch i = e.ch i))) ∧
  (∀ (n : Fin 16) (a : Nat) (v : Word), Does (fun dt => .dmaBeat dt)
      (fun e => e.running = true ∧ e.life.halted = false ∧ e.grant = some n ∧ (e.ch n).work = .set a v ∧ bitOf (e.reg (0x90800 + 4 * e.chCtx n)) 0 = true ∧ inSram a = true ∧ a % 4 = 0)
      (fun e t => (t.ch n).work = .none ∧ (t.ch n).pc = (e.ch n).pc + 2 ∧ t.sramWord a = v ∧ (∀ b, b < a ∨ a + 4 ≤ b → t.sramByte b = e.sramByte b) ∧ (∀ i : Fin 16, i ≠ n → t.ch i = e.ch i))) ∧
  (∀ (n : Fin 16) (b : Beat), Does (fun dt => .dmaBeat dt)
      (fun e => e.running = true ∧ e.life.halted = false ∧ e.grant = some n ∧ e.nextBeat n = some b ∧ bitOf (e.reg (0x90800 + 4 * e.chCtx n)) 0 = false ∧ e.dma.tlb = [] ∧ bitOf (e.sramWord (fieldOf (e.reg (0x90800 + 4 * e.chCtx n)) 23 8 * 256 + 4 * fieldNat b.addr 23 18)) 0 = false)
      (fun e t => (t.ch n).state = .suspended ∧ (t.ch n).fCause = 1 ∧ (t.ch n).fVaddr = b.addr ∧ (t.ch n).fWrite = b.lanes.isSome ∧ (t.ch n).fOffset = (e.ch n).pc ∧ (t.ch n).work = (e.ch n).work ∧ t.bit (dmaBase n + 0x10) 1 = true ∧ t.sram = e.sram ∧ (∀ i : Fin 16, i ≠ n → t.ch i = e.ch i))) ∧
  (Makes (fun dt => .dmaBeat dt)
      (fun e => e.running = false ∨ e.life.halted = true ∨ e.grant = none)
      (fun e => e))

/-- O37, NAND identification and operations. NAND_POWERUP_WAIT_END 1.25 ms after the wait began, the part neither BLANK nor SCRAP:
with a valid parameter page l of a geometry the part takes, the device has that page size, those pages per block, the identity
read and the blocks that fit 8 Gbit, and the image search begins; the NAND's pages, register words and SRAM stay. A NAND that
stays busy gives recovery mode with global error 5, in RUN with the controller integrating; the NAND and SRAM stay as they were.
No valid copy of the page gives recovery with global error 1, the identity read. Outside the wait, and before its end, nothing
changes. NAND_OP_COMPLETE of a program that succeeded and is not its run's last: the page reads as programmed, with the parity
and the filling of Table Cave.4, and no other page changes; the loader's stage, power and SRAM stay. Of an erase: every page of
its block is erased and no other changes; power and SRAM stay. Of a read: no page changes; the loader's stage, power and SRAM
stay. With no operation under way nothing changes. NAND_TIMEOUT with fewer than three retries made: one more, and nothing else.
With no operation nothing changes. After three, in the search: recovery with global error 5, in RUN, every run of the NAND
dropped; its pages and SRAM stay. Each clause concludes that exec answers a next state, for all states and operands under its
conditions: nandPowerupWaitEnd, nandOpComplete, nandTimeout. -/
def Obligations.NandWork : Prop :=
  (∀ (p : NandProbe) (l : List Byte), Does (fun dt => .nandPowerupWaitEnd dt p)
      (fun e => e.power.phase = .startup ∧ e.boot.stage = .nandWait ∧ e.boot.waitAt + usAng 1250 ≤ e.now ∧ p.timeout = false ∧ (p.copies.take 3).find? paramOk = some l ∧ geometryOk l p.eccEn = true ∧ e.life.state ≠ .blank ∧ e.life.state ≠ .scrap)
      (fun e t => t.boot.stage = .scan ∧ t.hasJob .scan = true ∧ t.nand.present = true ∧ t.nand.id = p.id ∧ t.nand.page = natAt l 80 4 ∧ t.nand.ppb = natAt l 92 4 ∧ t.nand.blocks = Nat.min (natAt l 96 4) (1073741824 / (natAt l 80 4 * natAt l 92 4)) ∧ t.nand.pages = e.nand.pages ∧ t.power.phase = .startup ∧ t.regs = e.regs ∧ t.sram = e.sram)) ∧
  (∀ (p : NandProbe), Does (fun dt => .nandPowerupWaitEnd dt p)
      (fun e => e.power.phase = .startup ∧ e.boot.stage = .nandWait ∧ e.boot.waitAt + usAng 1250 ≤ e.now ∧ p.timeout = true ∧ e.life.state ≠ .blank ∧ e.life.state ≠ .scrap)
      (fun e t => t.boot.recovery = true ∧ t.boot.global = 5 ∧ t.boot.stage = .recovery ∧ t.power.phase = .run ∧ t.link.can = .integrating ∧ t.sram = e.sram ∧ t.nand = e.nand)) ∧
  (∀ (p : NandProbe), Does (fun dt => .nandPowerupWaitEnd dt p)
      (fun e => e.power.phase = .startup ∧ e.boot.stage = .nandWait ∧ e.boot.waitAt + usAng 1250 ≤ e.now ∧ p.timeout = false ∧ (p.copies.take 3).find? paramOk = none ∧ e.life.state ≠ .blank ∧ e.life.state ≠ .scrap)
      (fun e t => t.boot.recovery = true ∧ t.boot.global = 1 ∧ t.boot.stage = .recovery ∧ t.power.phase = .run ∧ t.nand.id = p.id ∧ t.sram = e.sram)) ∧
  (∀ (p : NandProbe), Makes (fun dt => .nandPowerupWaitEnd dt p)
      (fun e => e.power.phase ≠ .startup ∨ e.boot.stage ≠ .nandWait ∨ e.now < e.boot.waitAt + usAng 1250)
      (fun e => e)) ∧
  (∀ (errs : List Nat) (j : NandJob) (row : Nat) (page : NandPage), Does (fun dt => .nandOpComplete dt false errs)
      (fun e => (e.running = true ∨ e.power.phase = .startup) ∧ e.actJob = some (j, .program row page) ∧ 1 < j.todo.length)
      (fun e t => t.nandPage row = page.whole e.nand.page e.nand.spare (e.tagRow row) ∧ (∀ r, r ≠ row → t.nandPage r = e.nandPage r) ∧ t.boot.stage = e.boot.stage ∧ t.power = e.power ∧ t.sram = e.sram)) ∧
  (∀ (errs : List Nat) (j : NandJob) (b : Nat), Does (fun dt => .nandOpComplete dt false errs)
      (fun e => (e.running = true ∨ e.power.phase = .startup) ∧ e.actJob = some (j, .erase b) ∧ 1 < j.todo.length ∧ e.nand.ppb ≠ 0)
      (fun e t => (∀ r, r / e.nand.ppb = b → t.nandPage r = {}) ∧ (∀ r, r / e.nand.ppb ≠ b → t.nandPage r = e.nandPage r) ∧ t.power = e.power ∧ t.sram = e.sram)) ∧
  (∀ (fail : Bool) (errs : List Nat) (j : NandJob) (row : Nat), Does (fun dt => .nandOpComplete dt fail errs)
      (fun e => (e.running = true ∨ e.power.phase = .startup) ∧ e.actJob = some (j, .read row) ∧ 1 < j.todo.length)
      (fun e t => t.nand.pages = e.nand.pages ∧ t.boot.stage = e.boot.stage ∧ t.power = e.power ∧ t.sram = e.sram)) ∧
  (∀ (fail : Bool) (errs : List Nat), Makes (fun dt => .nandOpComplete dt fail errs)
      (fun e => e.actJob = none)
      (fun e => e)) ∧
  (Makes (fun dt => .nandTimeout dt)
      (fun e => (e.running = true ∨ e.power.phase = .startup) ∧ e.nand.act.isSome = true ∧ e.nand.tries < 3)
      (fun e => { e with nand := { e.nand with tries := e.nand.tries + 1 } })) ∧
  (Makes (fun dt => .nandTimeout dt)
      (fun e => e.nand.act = none)
      (fun e => e)) ∧
  (Does (fun dt => .nandTimeout dt)
      (fun e => (e.running = true ∨ e.power.phase = .startup) ∧ e.nand.act.isSome = true ∧ 3 ≤ e.nand.tries ∧ e.boot.stage = .scan)
      (fun e t => t.boot.recovery = true ∧ t.boot.global = 5 ∧ t.boot.stage = .recovery ∧ t.power.phase = .run ∧ t.nand.jobs = [] ∧ t.nand.pages = e.nand.pages ∧ t.sram = e.sram))

/-- O38, The load commit, the model, and the repair of images. base is the state with the RWS words of AON, LCK and PWR at their
reset values (a word there that the image does not list returns to it: the model's reading, log entry 86). LOAD_COMMIT of a
passed candidate that check 13 does not refuse: RUN, the controller integrating, the copy, its GEN and the version words of its
header shown, FALLBACK where it is not the slot to try first, the cave mounting, and every word of the wheel block as the image
leaves it over base. With the copy gone and no other candidate: code 0F for its slot, recovery with global error 3 in RUN; SRAM
stays. With no candidate passed, and outside start-up, nothing changes. MODEL_LOAD_DONE with the reads ended, the pages, digest
and key good and the model's own checks passed: the engine is RUNNING on it, frame number 0, MODEL status 2, the run gone;
trackers and power stay. With the other slot's section read and bad as well: FAILED, MODEL status its code, the health block
knows, no frame is open; trackers and power stay. With no run ended nothing changes. IMAGE_REPAIR_END with the rewrite's
operations ended: the repair flag falls, its run is gone; the NAND's pages, the loaded copy, power and trackers stay. With none
ended nothing changes. Each clause concludes that exec answers a next state, for all states and operands under its conditions:
loadCommit, modelLoadDone, imageRepairEnd. -/
def Obligations.LoadAndRepair : Prop :=
  (∀ (slot : Nat) (copy : ImgCopy) (base : State), Does (fun dt => .loadCommit dt)
      (fun e => e.power.phase = .startup ∧ e.boot.stage = .passed slot ∧ e.copyIn slot = some copy ∧ base = (e.defaultRws 0xD0000 0xF0000).defaultRws 0x110000 0x120000 ∧ e.loadRefused copy (Sparse.get base.reg (applyWrites base.reg (e.candidateWrites copy))) = false)
      (fun e t => t.power.phase = .run ∧ t.boot.loaded = true ∧ t.boot.stage = .loaded ∧ t.boot.copy = some slot ∧ t.boot.fallback = decide (e.boot.first ≠ some slot) ∧ t.boot.imgVer = wordAt (e.copyHead copy) 0x10 ∧ t.boot.imgBuild = wordAt (e.copyHead copy) 0x14 ∧ t.boot.imgGen = BitVec.ofNat 32 copy.gen ∧ t.link.can = .integrating ∧ t.cave.mode = .mounting ∧ (∀ a, 0x30000 ≤ a → a < 0x40000 → t.reg a = Sparse.get base.reg (applyWrites base.reg (e.candidateWrites copy)) a))) ∧
  (∀ (slot : Nat), Does (fun dt => .loadCommit dt)
      (fun e => e.power.phase = .startup ∧ e.boot.stage = .passed slot ∧ e.copyIn slot = none ∧ e.boot.cands = [])
      (fun e t => t.boot.recovery = true ∧ t.boot.global = 3 ∧ t.boot.stage = .recovery ∧ t.power.phase = .run ∧ t.boot.loaded = e.boot.loaded ∧ (if slot = 0 then t.boot.errA else t.boot.errB) = 0x0F ∧ t.sram = e.sram)) ∧
  (Makes (fun dt => .loadCommit dt)
      (fun e => e.power.phase ≠ .startup ∨ e.boot.stage = .candidate 0 ∨ e.boot.stage = .candidate 1 ∨ e.boot.stage = .loaded ∨ e.boot.stage = .recovery)
      (fun e => e)) ∧
  (∀ (slot : Nat) (p : List Byte), Does (fun dt => .modelLoadDone dt)
      (fun e => e.running = true ∧ e.nand.jobs = [{ kind := .model slot false, prio := 1, todo := [] }] ∧ (match (e.dropJob (.model slot false)).modelPlain slot [] with | .ok x => decide (x = p) | .error _ => false) = true ∧ modelCode p = 0)
      (fun e t => t.fus.mstate = .running ∧ t.fus.frameNo = 0 ∧ t.fus.mfail = 0 ∧ t.fus.weights = p ∧ t.boot.model = 2 ∧ t.hasJob (.model slot false) = false ∧ t.wheels = e.wheels ∧ t.power = e.power)) ∧
  (∀ (slot c : Nat) (bad : List Nat), Does (fun dt => .modelLoadDone dt)
      (fun e => e.running = true ∧ e.nand.jobs = [{ kind := .model slot true, prio := 1, todo := [], bad := bad }] ∧ (match (e.dropJob (.model slot true)).modelPlain slot bad with | .error x => decide (x = c) | .ok _ => false) = true)
      (fun e t => t.fus.mstate = .failed ∧ t.boot.model = c ∧ t.health.model = true ∧ t.fus.head = none ∧ t.hasJob (.model slot true) = false ∧ t.wheels = e.wheels ∧ t.power = e.power)) ∧
  (Makes (fun dt => .modelLoadDone dt)
      (fun e => e.nand.jobs = [])
      (fun e => e)) ∧
  (∀ (slot : Nat) (f : Option Nat), Does (fun dt => .imageRepairEnd dt)
      (fun e => e.running = true ∧ e.nand.jobs = [{ kind := .repair slot, prio := 4, todo := [], failed := f }] ∧ e.cave.mode = .mounting)
      (fun e t => t.boot.repair = false ∧ t.hasJob (.repair slot) = false ∧ t.nand.pages = e.nand.pages ∧ t.boot.copy = e.boot.copy ∧ t.power = e.power ∧ t.wheels = e.wheels)) ∧
  (Makes (fun dt => .imageRepairEnd dt)
      (fun e => e.nand.jobs = [])
      (fun e => e))

/-- O39, Mounting and the writing of records. CAVE_MOUNT at the beginning of a mount: its page reads are queued; no page, no
register word, SRAM or power changes. Outside a mount nothing changes. MOUNT_DONE with the mount's reads and writes ended and
good blocks enough for the partitions: MOUNTED or READONLY; the health block and the directory of packs have what the records
hold; the NAND's pages, SRAM, power and trackers stay. With too few: FAILED, with the ADVISE bit of the cave; pages, SRAM and
power stay. Before that, and outside a mount, nothing changes. RECORD_WRITE in a cave not mounted yet, with none of its kind and
index queued, joins the queue with LNK_TIME, and nothing else changes. An empty body, one beyond 8160 bytes, and any in a
READONLY or FAILED cave changes nothing. In a mounted cave with nothing queued or being written and room in the open block b, it
begins at once in slot k, under the next RSEQ; pages and register words stay. RECORD_WRITE_DONE of a write whose pages have all
programmed, with none queued: none is being written and its run is gone; pages and the cave's mode stay. With none being written
nothing changes. Each clause concludes that exec answers a next state, for all states and operands under its conditions:
caveMount, mountDone, recordWrite, recordWriteDone. -/
def Obligations.MountAndRecords : Prop :=
  (Does (fun dt => .caveMount dt)
      (fun e => e.running = true ∧ e.cave.mode = .mounting ∧ e.hasJob .mount = false ∧ e.cave.mountStep = 0 ∧ e.cave.seen = [] ∧ e.nand.present = true)
      (fun e t => t.hasJob .mount = true ∧ t.cave.mode = .mounting ∧ t.nand.pages = e.nand.pages ∧ t.regs = e.regs ∧ t.sram = e.sram ∧ t.power = e.power)) ∧
  (Makes (fun dt => .caveMount dt)
      (fun e => e.cave.mode ≠ .mounting)
      (fun e => e)) ∧
  (Does (fun dt => .mountDone dt)
      (fun e => e.mountReady = true ∧ e.caveTooSmall = false)
      (fun e t => (t.cave.mode = .mounted ∨ t.cave.mode = .readonly) ∧ t.health.mounted = true ∧ t.bat.dirReady = true ∧ t.nand.pages = e.nand.pages ∧ t.sram = e.sram ∧ t.power = e.power ∧ t.wheels = e.wheels)) ∧
  (Does (fun dt => .mountDone dt)
      (fun e => e.mountReady = true ∧ e.caveTooSmall = true)
      (fun e t => t.cave.mode = .failed ∧ t.bit 0x100004 10 = true ∧ t.health.mounted = true ∧ t.nand.pages = e.nand.pages ∧ t.sram = e.sram ∧ t.power = e.power)) ∧
  (Makes (fun dt => .mountDone dt)
      (fun e => e.mountReady = false)
      (fun e => e)) ∧
  (∀ (kind : BitVec 8) (index : BitVec 16) (version : BitVec 8) (body : List Byte), Makes (fun dt => .recordWrite dt kind index version body)
      (fun e => (e.running = true ∨ e.power.phase = .standby ∨ e.power.phase = .waking) ∧ body ≠ [] ∧ body.length ≤ 8160 ∧ (e.cave.mode = .unmounted ∨ e.cave.mode = .mounting) ∧ (∀ q ∈ e.cave.recQueue, ¬(q.kind = kind.toNat ∧ q.index = index.toNat)))
      (fun e => { e with cave := { e.cave with recQueue := e.cave.recQueue ++ [({ kind := kind.toNat, index := index.toNat, version := version.toNat, body := body, time := BitVec.ofNat 32 e.lf } : RecWrite)] } })) ∧
  (∀ (kind : BitVec 8) (index : BitVec 16) (version : BitVec 8) (body : List Byte), Makes (fun dt => .recordWrite dt kind index version body)
      (fun e => body = [] ∨ 8160 < body.length ∨ e.cave.mode = .readonly ∨ e.cave.mode = .failed)
      (fun e => e)) ∧
  (∀ (kind : BitVec 8) (index : BitVec 16) (version : BitVec 8) (body : List Byte) (b k : Nat), Does (fun dt => .recordWrite dt kind index version body)
      (fun e => (e.running = true ∨ e.power.phase = .standby ∨ e.power.phase = .waking) ∧ body ≠ [] ∧ body.length ≤ 8160 ∧ e.cave.mode = .mounted ∧ e.cave.recBusy = none ∧ e.cave.recQueue = [] ∧ e.cave.recOpen = some (b, k) ∧ k < e.slotsPerBlock)
      (fun e t => t.cave.recBusy = some ({ kind := kind.toNat, index := index.toNat, version := version.toNat, body := body, time := BitVec.ofNat 32 e.lf }, b, k) ∧ t.cave.recQueue = [] ∧ t.cave.recOpen = some (b, k + 1) ∧ t.cave.rseq = e.cave.rseq + 1 ∧ t.hasJob .recWrite = true ∧ t.nand.pages = e.nand.pages ∧ t.regs = e.regs)) ∧
  (∀ (j : NandJob) (x : RecWrite) (b k : Nat), Does (fun dt => .recordWriteDone dt)
      (fun e => e.running = true ∧ e.finished (fun k => decide (k = .recWrite)) = some j ∧ j.failed = none ∧ e.cave.recBusy = some (x, b, k) ∧ e.cave.recQueue = [])
      (fun e t => t.cave.recBusy = none ∧ t.cave.recQueue = [] ∧ t.hasJob .recWrite = false ∧ t.nand.pages = e.nand.pages ∧ t.cave.mode = e.cave.mode)) ∧
  (Makes (fun dt => .recordWriteDone dt)
      (fun e => e.cave.recBusy = none)
      (fun e => e))

/-- O40, Log entries, and the upkeep of the NAND. LOG_PUSH of n ≤ 44 bytes in a mounted cave, no flush asked, that fits the buffer:
the entry joins it with the next NUM, mount count, LNK_TIME, source (7 link, 3 DMA) and the first n bytes of the master's data
words; its LOGRES shows NUM; registers, NAND and SRAM stay. While mounting or READONLY it is dropped: LOGRES 0, LOGLOST one
higher up to 65535; cave and SRAM stay. LOG_FLUSH FLUSH seconds after the buffer's oldest entry, no page being programmed and
room in the open block: it becomes its next page, a new one begins; pages and registers stay. Nothing buffered or no mounted
cave: nothing changes. RETENTION_TICK that is due, in every cave state: REQ rises by the step of the present band of
temperature, the next is due 60 s later; pages, SRAM and trackers stay. In a cave neither MOUNTED nor READONLY nothing else
changes. Not due, and outside RUN, nothing changes. REFRESH_PASS_PAGE with the NAND free: the next programmed row r is to be
read, the pass goes on behind it; pages and registers stay. After the last row it begins anew; pages and SRAM stay. With no pass
nothing changes. WEAR_LEVEL_CHECK that is due, no upkeep at work, no entry, no page of the least-erased data block to be
programmed: next due in an hour; pages and registers stay. While one of these holds up the move it finds due, nothing changes.
With none of these and the most-erased SPARE block d over the set difference above the least-erased data block b, the move of b
into d is queued. With no such difference NAND and queue stay. Before that, and outside a mounted cave, nothing changes.
IMAGE_CHECK_DONE, the update's pages read: the update closes, its check is gone; NTC_IMAGE, enabled, first of its cycle, with
room below the watermark, carries result code, slot and GEN; pages stay. With no update open nothing changes. Each clause
concludes that exec answers a next state, for all states and operands under its conditions: logPush, logFlush, retentionTick,
refreshPassPage, wearLevelCheck, imageCheckDone. -/
def Obligations.LogAndUpkeep : Prop :=
  (∀ (m : Master) (ctl : Word) (n : Nat) (p : List Byte), Does (fun dt => .logPush dt m ctl)
      (fun e => e.running = true ∧ e.life.state ≠ .scrap ∧ e.cave.mode = .mounted ∧ n = fieldOf ctl 5 0 ∧ n ≤ 44 ∧ bitOf ctl 8 = false ∧ p = ((e.copyOf m).logd.flatMap (fun d => bytesLE 4 d.toNat)).take n ∧ logUsed e.cave.logCur + (12 + p.length + 3) / 4 * 4 ≤ e.nand.page)
      (fun e t => t.cave.logCur = e.cave.logCur ++ [{ num := e.cave.logNext, mount := e.cave.mount % 65536, time := BitVec.ofNat 32 e.lf, src := (if m = .link then 7 else 3), payload := p }] ∧ t.cave.logNext = e.cave.logNext + 1 ∧ (t.copyOf m).logRes = BitVec.ofNat 32 e.cave.logNext ∧ t.regs = e.regs ∧ t.nand = e.nand ∧ t.sram = e.sram)) ∧
  (∀ (m : Master) (ctl : Word), Does (fun dt => .logPush dt m ctl)
      (fun e => e.running = true ∧ e.life.state ≠ .scrap ∧ (e.cave.mode = .mounting ∨ e.cave.mode = .readonly))
      (fun e t => t.cave = e.cave ∧ (t.copyOf m).logRes = 0 ∧ t.fld 0xA0058 15 0 = satAdd 65535 (e.fld 0xA0058 15 0) 1 ∧ t.sram = e.sram)) ∧
  (∀ (b p : Nat), Does (fun dt => .logFlush dt)
      (fun e => e.running = true ∧ e.cave.mode = .mounted ∧ e.cave.logCur ≠ [] ∧ e.cave.logAt + secAng (e.fld 0xA0034 15 0) ≤ e.now ∧ e.cave.logProg = [] ∧ e.cave.logOpen = some (b, p) ∧ p < e.nand.ppb)
      (fun e t => t.cave.logProg = e.cave.logCur ∧ t.cave.logCur = [] ∧ t.cave.logOpen = some (b, p + 1) ∧ t.hasJob .logProgram = true ∧ t.nand.pages = e.nand.pages ∧ t.regs = e.regs)) ∧
  (Makes (fun dt => .logFlush dt)
      (fun e => e.cave.logCur = [] ∨ e.cave.mode ≠ .mounted)
      (fun e => e)) ∧
  (Does (fun dt => .retentionTick dt)
      (fun e => e.running = true ∧ e.cave.tickAt ≤ e.now)
      (fun e t => t.cave.req = e.cave.req + retentionStep (lifeBand e.health.tj) ∧ t.cave.tickAt = e.cave.tickAt + secAng 60 ∧ t.nand.pages = e.nand.pages ∧ t.sram = e.sram ∧ t.wheels = e.wheels)) ∧
  (Makes (fun dt => .retentionTick dt)
      (fun e => e.running = true ∧ e.cave.tickAt ≤ e.now ∧ e.cave.mode ≠ .mounted ∧ e.cave.mode ≠ .readonly)
      (fun e => { e with cave := { e.cave with req := e.cave.req + retentionStep (lifeBand e.health.tj), tickAt := e.cave.tickAt + secAng 60 } })) ∧
  (Makes (fun dt => .retentionTick dt)
      (fun e => e.running = false ∨ e.now < e.cave.tickAt)
      (fun e => e)) ∧
  (∀ (r : Nat), Does (fun dt => .refreshPassPage dt)
      (fun e => e.running = true ∧ e.cave.mode = .mounted ∧ e.cave.pass = true ∧ e.nand.jobs = [] ∧ e.nextScrubRow e.cave.passRow = some r)
      (fun e t => t.cave.passRow = r + 1 ∧ t.hasJob (.scrub r) = true ∧ t.nand.pages = e.nand.pages ∧ t.regs = e.regs)) ∧
  (Does (fun dt => .refreshPassPage dt)
      (fun e => e.running = true ∧ e.cave.mode = .mounted ∧ e.cave.pass = true ∧ e.nand.jobs = [] ∧ e.nextScrubRow e.cave.passRow = none)
      (fun e t => t.cave.passRow = 0 ∧ t.cave.passAt = e.now ∧ t.nand.pages = e.nand.pages ∧ t.sram = e.sram)) ∧
  (Makes (fun dt => .refreshPassPage dt)
      (fun e => e.cave.pass = false)
      (fun e => e)) ∧
  (Does (fun dt => .wearLevelCheck dt)
      (fun e => e.running = true ∧ e.cave.mode = .mounted ∧ e.cave.wearAt ≤ e.now ∧ e.serviceBusy = false ∧ e.entering = false ∧ (leastBy e.blockErases (e.areaBlocks 0x01 ++ e.areaBlocks 0x02)).all (fun b => !e.blockWritten b) = true)
      (fun e t => t.cave.wearAt = e.cave.wearAt + secAng 3600 ∧ t.nand.pages = e.nand.pages ∧ t.regs = e.regs)) ∧
  (∀ (b d : Nat), Makes (fun dt => .wearLevelCheck dt)
      (fun e => e.running = true ∧ e.cave.mode = .mounted ∧ e.cave.wearAt ≤ e.now ∧ leastBy (fun x => 0xFFFFFFFF - e.blockErases x) e.spareBlocks = some d ∧ leastBy e.blockErases (e.areaBlocks 0x01 ++ e.areaBlocks 0x02) = some b ∧ e.blockErases b + e.fld 0xA0028 31 16 < e.blockErases d ∧ (e.serviceBusy = true ∨ e.entering = true ∨ e.blockWritten b = true))
      (fun e => e)) ∧
  (∀ (b d : Nat), Does (fun dt => .wearLevelCheck dt)
      (fun e => e.running = true ∧ e.cave.mode = .mounted ∧ e.cave.wearAt ≤ e.now ∧ leastBy (fun x => 0xFFFFFFFF - e.blockErases x) e.spareBlocks = some d ∧ leastBy e.blockErases (e.areaBlocks 0x01 ++ e.areaBlocks 0x02) = some b ∧ e.blockErases b + e.fld 0xA0028 31 16 < e.blockErases d ∧ e.serviceBusy = false ∧ e.entering = false ∧ e.blockWritten b = false)
      (fun e t => t.hasJob (.move b d) = true ∧ t.nand.pages = e.nand.pages)) ∧
  (∀ (b d : Nat), Does (fun dt => .wearLevelCheck dt)
      (fun e => e.running = true ∧ e.cave.mode = .mounted ∧ e.cave.wearAt ≤ e.now ∧ leastBy (fun x => 0xFFFFFFFF - e.blockErases x) e.spareBlocks = some d ∧ leastBy e.blockErases (e.areaBlocks 0x01 ++ e.areaBlocks 0x02) = some b ∧ e.blockErases d ≤ e.blockErases b + e.fld 0xA0028 31 16)
      (fun e t => t.nand = e.nand)) ∧
  (Makes (fun dt => .wearLevelCheck dt)
      (fun e => e.now < e.cave.wearAt ∨ e.cave.mode ≠ .mounted)
      (fun e => e)) ∧
  (∀ (j : NandJob) (u : ImgUpd), Does (fun dt => .imageCheckDone dt)
      (fun e => e.running = true ∧ e.finished (fun k => decide (k = .imgCheck)) = some j ∧ e.cave.imgUpd = some u)
      (fun e t => t.cave.imgUpd = none ∧ t.hasJob .imgCheck = false ∧ t.nand.pages = e.nand.pages ∧ (e.link.cycIn = [] → e.noticeOn 0x15 = true → e.ordinaryFill < 31 → e.link.ring.length + 1 < e.fld 0x1002C 5 0 → t.link.ring = e.link.ring ++ [{ num := e.link.nextNum, code := 0x15, time := BitVec.ofNat 32 e.lf, payload := bytesLE 1 (e.candidateCode { gen := u.gen, blocks := u.used } j.bad) ++ bytesLE 1 (u.slot + 1) ++ bytesLE 4 u.gen }]))) ∧
  (Makes (fun dt => .imageCheckDone dt)
      (fun e => e.cave.imgUpd = none)
      (fun e => e))

/-- O41, What a curd publishes and counts, in RUN, in STANDBY, and when it is lost. i is the offset- and sign-corrected code by
ISCALE, in mA Q32, under the words that apply to its window (`windowCal`). CURD_DONE of the RUN window that has ended, `age`
cycles after its midpoint: SEQ before and after, ANG_TNOW of the sample instant, the clamped VPACK, and IPACK; the next curd is
numbered one higher, the next window follows at once; SRAM, trackers and power stay. In an ACTIVE session whose pack is not seen
absent the charge rises by i and the remainder carried, divided by 262144000 and rounded down; what is left is the new
remainder. With no window ended nothing changes. STANDBY_CURD that is due publishes SEQ, VPACK and IPACK alike and the next one
is due STBPER seconds later; a VPACK below a VWAKE that is not 0 asks in STANDBY for a wake of the battery source; power state
and SRAM stay. With none due nothing changes. CURD_LOST of a window sets CURDLOST and marks the next curd as estimated, which is
numbered one higher; the last current stays, as do SRAM, power and trackers. Of a STANDBY curd alike. Each clause concludes that
exec answers a next state, for all states and operands under its conditions: curdDone, standbyCurd, curdLost. -/
def Obligations.Curds : Prop :=
  (∀ (vpack : Nat) (code : BitVec 24) (excess : Bool) (ntc : List Nat) (age : Nat) (i : Int), Does (fun dt => .curdDone dt vpack code excess ntc age)
      (fun e => e.windowDue = true ∧ e.now = e.bat.winAt + windowAng / 2 + age ∧ i = (e.windowCal e.bat.winAt).current code.toInt)
      (fun e t => t.reg 0xB0130 = BitVec.ofNat 32 e.bat.seq.toNat ∧ t.reg 0xB014C = BitVec.ofNat 32 e.bat.seq.toNat ∧ t.reg 0xB0134 = e.tnow (e.now - age) ∧ t.bat.seq = e.bat.seq + 1 ∧ t.reg 0xB0138 = BitVec.ofNat 32 (Nat.min vpack 900000) ∧ t.reg 0xB013C = wordOfInt (ipackOf i) ∧ t.bat.winAt = e.bat.winAt + windowAng ∧ t.bat.lastI = i ∧ t.bat.estNext = false ∧ t.sram = e.sram ∧ t.wheels = e.wheels ∧ t.power = e.power)) ∧
  (∀ (vpack : Nat) (code : BitVec 24) (excess : Bool) (ntc : List Nat) (age : Nat) (i : Int) (x : SessionSt), Does (fun dt => .curdDone dt vpack code excess ntc age)
      (fun e => e.windowDue = true ∧ e.now = e.bat.winAt + windowAng / 2 + age ∧ i = (e.windowCal e.bat.winAt).current code.toInt ∧ e.bat.state = .active ∧ e.bat.session = some x ∧ e.presentAt (e.bat.winAt + windowAng) false ≠ some false)
      (fun e t => t.bat.session.map (fun y => y.record.q) = some (x.record.q + Int.fdiv (i + e.bat.rem) 262144000) ∧ t.bat.state = .active ∧ t.bat.rem = (i + e.bat.rem) - Int.fdiv (i + e.bat.rem) 262144000 * 262144000)) ∧
  (∀ (vpack : Nat) (code : BitVec 24) (excess : Bool) (ntc : List Nat) (age : Nat), Makes (fun dt => .curdDone dt vpack code excess ntc age)
      (fun e => e.windowDue = false)
      (fun e => e)) ∧
  (∀ (vpack : Nat) (code : BitVec 24) (excess : Bool) (ntc : List Nat) (i : Int), Does (fun dt => .standbyCurd dt vpack code excess ntc)
      (fun e => e.standbyDue = true ∧ i = (curdCal e.reg).current code.toInt)
      (fun e t => t.reg 0xB0130 = BitVec.ofNat 32 e.bat.seq.toNat ∧ t.bat.seq = e.bat.seq + 1 ∧ t.reg 0xB0138 = BitVec.ofNat 32 (Nat.min vpack 900000) ∧ t.reg 0xB013C = wordOfInt (ipackOf i) ∧ t.bat.lastI = i ∧ t.bat.sbyAt = e.bat.sbyAt + 32768 * e.fld 0xB0000 23 16 ∧ (0 < e.fld 0xB0024 31 16 → Nat.min vpack 900000 < e.fld 0xB0024 31 16 * 100 → e.power.phase = .standby → t.power.wakeReq.testBit 2 = true) ∧ t.power.phase = e.power.phase ∧ t.sram = e.sram)) ∧
  (∀ (vpack : Nat) (code : BitVec 24) (excess : Bool) (ntc : List Nat), Makes (fun dt => .standbyCurd dt vpack code excess ntc)
      (fun e => e.standbyDue = false)
      (fun e => e)) ∧
  (Does (fun dt => .curdLost dt)
      (fun e => e.windowDue = true)
      (fun e t => t.bat.seq = e.bat.seq + 1 ∧ t.bat.estNext = true ∧ t.bit 0xB0120 0 = true ∧ t.bat.lastI = e.bat.lastI ∧ t.bat.winAt = e.bat.winAt + windowAng ∧ t.sram = e.sram ∧ t.power = e.power ∧ t.wheels = e.wheels)) ∧
  (Does (fun dt => .curdLost dt)
      (fun e => e.windowDue = false ∧ e.standbyDue = true)
      (fun e t => t.bat.seq = e.bat.seq + 1 ∧ t.bat.estNext = true ∧ t.bit 0xB0120 0 = true ∧ t.bat.sbyAt = e.bat.sbyAt + 32768 * e.fld 0xB0000 23 16 ∧ t.power = e.power ∧ t.sram = e.sram))

/-- O42, Attempts, their results, the deadline and the grace of a pack. ID_ATTEMPT where one may begin: it is under way with the
address, register, speed and check of BAT_CTL and BAT_IDCFG as they are, one more is counted, and the next is due 100 ms after
this one was (32768 tenths of a CLK_LF period). Where none may, nothing changes. ID_ATTEMPT_DONE of one that fails: its code is
kept, none is under way, and after a timeout the bus is to be freed. Of one that succeeds while the directory is not known: the
ID waits. With the directory known and every record at hand: ACTIVE, with the ID and the record that the directory gives
(`choosePack`); SRAM and trackers stay. With a record to be read first: the ID waits and the reads are queued. With none under
way, and outside RUN, nothing changes. ID_DEADLINE reached in IDENT with no attempt under way and no ID waiting: UNKNOWN on the
scratch record 0xFFFF, ID 0, the fault bit IDFAIL and the ADVISE bit set; SRAM and trackers stay. With no pack, and before the
deadline, nothing changes. GRACE_END reached in GRACE: EMPTY with no session and ID 0; SRAM, trackers and power stay. In another
state nothing changes. Each clause concludes that exec answers a next state, for all states and operands under its conditions:
idAttempt, idAttemptDone, idDeadline, graceEnd. -/
def Obligations.PackIdentification : Prop :=
  (Makes (fun dt => .idAttempt dt)
      (fun e => e.mayAttempt = true)
      (fun e => e.setBat { e.bat with attempt := some e.idTxn, unstick := false, attempts := satAdd 255 e.bat.attempts 1, attemptAt := e.bat.attemptAt + 32768 })) ∧
  (Makes (fun dt => .idAttempt dt)
      (fun e => e.mayAttempt = false)
      (fun e => e)) ∧
  (∀ (r : IdReading), Makes (fun dt => .idAttemptDone dt r)
      (fun e => e.running = true ∧ e.bat.attempt.isSome = true ∧ e.idCode r ≠ 0)
      (fun e => e.setBat { e.bat with attempt := none, lastFail := e.idCode r, unstick := decide (e.idCode r = 2) })) ∧
  (∀ (r : IdReading), Makes (fun dt => .idAttemptDone dt r)
      (fun e => e.running = true ∧ e.bat.attempt.isSome = true ∧ e.idCode r = 0 ∧ e.bat.state = .ident ∧ e.bat.dirReady = false)
      (fun e => e.setBat { e.bat with idWait := some (natLE (r.bytes.take 8)), id := natLE (r.bytes.take 8), attempt := none })) ∧
  (∀ (r : IdReading), Does (fun dt => .idAttemptDone dt r)
      (fun e => e.running = true ∧ e.bat.attempt.isSome = true ∧ e.idCode r = 0 ∧ e.bat.state = .ident ∧ e.bat.dirReady = true ∧ e.sessionRows (natLE (r.bytes.take 8)) = [])
      (fun e t => t.bat.state = .active ∧ t.bat.id = natLE (r.bytes.take 8) ∧ t.bat.attempt = none ∧ t.bat.identified = true ∧ t.bat.session.map (fun y => y.index) = some (e.choosePack (natLE (r.bytes.take 8))).1 ∧ t.sram = e.sram ∧ t.wheels = e.wheels)) ∧
  (∀ (r : IdReading), Does (fun dt => .idAttemptDone dt r)
      (fun e => e.running = true ∧ e.bat.attempt.isSome = true ∧ e.idCode r = 0 ∧ e.bat.state = .ident ∧ e.bat.dirReady = true ∧ e.sessionRows (natLE (r.bytes.take 8)) ≠ [])
      (fun e t => t.bat.idWait = some (natLE (r.bytes.take 8)) ∧ t.bat.state = .ident ∧ t.hasJob .sessFetch = true ∧ t.nand.pages = e.nand.pages ∧ t.sram = e.sram)) ∧
  (∀ (r : IdReading), Makes (fun dt => .idAttemptDone dt r)
      (fun e => e.running = false ∨ e.bat.attempt = none)
      (fun e => e)) ∧
  (Does (fun dt => .idDeadline dt)
      (fun e => e.running = true ∧ e.bat.state = .ident ∧ e.bat.deadline ≤ e.lf ∧ e.bat.attempt = none ∧ e.bat.idWait = none)
      (fun e t => t.bat.state = .unknown ∧ t.bat.session.map (fun y => y.index) = some 0xFFFF ∧ t.bat.id = 0 ∧ t.bit 0xB0120 4 = true ∧ t.bit 0x100004 4 = true ∧ t.sram = e.sram ∧ t.wheels = e.wheels)) ∧
  (Makes (fun dt => .idDeadline dt)
      (fun e => e.bat.state = .empty ∨ e.lf < e.bat.deadline)
      (fun e => e)) ∧
  (Does (fun dt => .graceEnd dt)
      (fun e => (e.running = true ∨ e.power.phase = .standby ∨ e.power.phase = .waking) ∧ e.bat.state = .grace ∧ e.bat.graceEnd ≤ e.lf)
      (fun e t => t.bat.state = .empty ∧ t.bat.session = none ∧ t.bat.id = 0 ∧ t.sram = e.sram ∧ t.wheels = e.wheels ∧ t.power = e.power)) ∧
  (Makes (fun dt => .graceEnd dt)
      (fun e => e.bat.state ≠ .grace)
      (fun e => e))

/-- O43, SETSOC, the reported state of charge, checkpoints, the epoch and the ship retry. SETSOC with its key and a value up to
10000 in an ACTIVE session anchors the record at the value, kind HOST, UNCERT 0, at the charge it has; the state, SRAM and
trackers stay. Any other sets its fault bit and changes nothing else. SOC_REPORT_STEP that is due, SOCVALID 1: the reported
value goes one step of REPRATE toward the counted one, not past it, and the next is due a second later. Before it is due nothing
changes. RECORD_CHECKPOINT that is due in a cave that is mounting, the record within a slot: the record is queued as it stands,
the next is due CKPTMIN minutes later, the session goes on; register words and SRAM stay. Without a session, and before it is
due, nothing changes. EPOCH_TICK that is due, with BAT_EPOCH not 0: it advances by the whole seconds passed, and nothing else
changes. Before it is due nothing changes. AUTOSHIP_RETRY that is due and that nothing refuses: a SHIP entry is at step 1,
RESULT 1, the next is due 60 s later; register words and SRAM stay. With none due nothing changes. Each clause concludes that
exec answers a next state, for all states and operands under its conditions: setsoc, socReportStep, recordCheckpoint, epochTick,
autoshipRetry. -/
def Obligations.BatteryClocks : Prop :=
  (∀ (m : Master) (value : Word) (x : SessionSt), Does (fun dt => .setsoc dt m value)
      (fun e => e.running = true ∧ e.life.state ≠ .scrap ∧ fieldOf value 31 16 = 0x50C0 ∧ fieldOf value 15 0 ≤ 10000 ∧ e.bat.state = .active ∧ e.bat.session = some x)
      (fun e t => t.bat.session.map (fun y => (y.record.sa, y.record.akind, y.record.anch, y.record.uncert)) = some (fieldOf value 15 0, 3, true, false) ∧ t.bat.session.map (fun y => (y.record.q, y.record.qa)) = some (x.record.q, x.record.q) ∧ t.bat.state = .active ∧ t.sram = e.sram ∧ t.wheels = e.wheels)) ∧
  (∀ (m : Master) (value : Word), Does (fun dt => .setsoc dt m value)
      (fun e => e.running = true ∧ e.life.state ≠ .scrap ∧ (fieldOf value 31 16 ≠ 0x50C0 ∨ 10000 < fieldOf value 15 0 ∨ e.bat.state ≠ .active))
      (fun e t => t.bit 0xB0120 7 = true ∧ t = { e with regs := t.regs, setAt := t.setAt, setNow := t.setNow, busRead := 0, busError := false } ∧ (∀ a, a ≠ 0xB0120 → t.reg a = e.reg a))) ∧
  (∀ (v : Int), Makes (fun dt => .socReportStep dt)
      (fun e => e.running = true ∧ e.batOn = true ∧ e.bat.repAt + 32768 ≤ e.lf ∧ e.bat.rep = some v ∧ e.bat.socValid = true)
      (fun e => e.setBat { e.bat with rep := some (if v < (e.bat.socCnt : Int) * 65536 then (if v + Int.ofNat (e.fld 0xB001C 15 0 * 65536 / 60) < (e.bat.socCnt : Int) * 65536 then v + Int.ofNat (e.fld 0xB001C 15 0 * 65536 / 60) else (e.bat.socCnt : Int) * 65536) else (if (e.bat.socCnt : Int) * 65536 < v - Int.ofNat (e.fld 0xB001C 15 0 * 65536 / 60) then v - Int.ofNat (e.fld 0xB001C 15 0 * 65536 / 60) else (e.bat.socCnt : Int) * 65536)), repAt := e.bat.repAt + 32768 })) ∧
  (Makes (fun dt => .socReportStep dt)
      (fun e => e.lf < e.bat.repAt + 32768)
      (fun e => e)) ∧
  (∀ (x : SessionSt), Does (fun dt => .recordCheckpoint dt)
      (fun e => e.running = true ∧ e.bat.session = some x ∧ e.bat.ckptAt ≤ e.now ∧ e.cave.mode = .mounting ∧ (e.liveRecord x true).bytes.length ≤ 8160)
      (fun e t => t.bat.ckptAt = e.now + secAng (60 * e.fld 0xB0000 31 24) ∧ t.bat.session.map (fun y => y.index) = some x.index ∧ (∃ q ∈ t.cave.recQueue, q.kind = (if x.index = 0xFFFF then 2 else 1) ∧ q.index = (if x.index = 0xFFFF then 0 else x.index) ∧ q.body = (e.liveRecord x true).bytes) ∧ t.regs = e.regs ∧ t.sram = e.sram)) ∧
  (Makes (fun dt => .recordCheckpoint dt)
      (fun e => e.bat.session = none ∨ e.now < e.bat.ckptAt)
      (fun e => e)) ∧
  (Does (fun dt => .epochTick dt)
      (fun e => e.running = true ∧ e.bat.epochAt + 32768 ≤ e.lf ∧ e.reg 0xB0128 ≠ 0)
      (fun e t => t.reg 0xB0128 = e.reg 0xB0128 + BitVec.ofNat 32 ((e.lf - e.bat.epochAt) / 32768) ∧ t.bat.epochAt = e.bat.epochAt + (e.lf - e.bat.epochAt) / 32768 * 32768 ∧ t = { e with regs := t.regs, bat := t.bat } ∧ (∀ a, a ≠ 0xB0128 → t.reg a = e.reg a))) ∧
  (Makes (fun dt => .epochTick dt)
      (fun e => e.lf < e.bat.epochAt + 32768)
      (fun e => e)) ∧
  (Does (fun dt => .autoshipRetry dt)
      (fun e => e.autoshipDue = true ∧ e.requestRefusal true true = none)
      (fun e t => t.power.entry = some { kind := .ship, step := 1, startedAt := e.now, stepAt := e.now } ∧ t.power.result = 1 ∧ t.bat.shipAt = some (e.now + secAng 60) ∧ t.regs = e.regs ∧ t.sram = e.sram)) ∧
  (Makes (fun dt => .autoshipRetry dt)
      (fun e => e.autoshipDue = false)
      (fun e => e))

/-- O44, The tick publishes a frame whose run has ended, or counts a miss; cells close and feed the encoder. FUSION_TICK that is
due, the frame's head run ended and the engine not ending: the frame number rises and stands in the first and last frame word,
ANG_TNOW in the second; the next tick is 10 ms on and a new head run has begun; trackers, SRAM and power stay. Where PD9 has
been switched off while the frame was in progress, the engine no longer runs once it has been sent. With the run not ended the
frame is missed: FRMISS one higher, stopping at 65535, the run goes on, no frame number is used, and the next tick is 10 ms on.
With no model running, and before the tick in ANGLE grid, nothing changes. HEAD_RUN_DONE, no encoder run having waited since
before the run's last layer, keeps the run's output for the tick and changes nothing else. While one has, nothing changes. With
no run nothing changes. CELL_CLOSE in the TIME grid with the cell's time up and no run in the encoder: the run of its inputs is
queued, cells are counted round 128, and the next closes a cell time later; nothing outside the engine changes. With the engine
off nothing changes. ENCODER_RUN_DONE puts the run's features in front of the ring of 128, once for each cell of the run, and
the waiting run begins. With no run nothing changes. Each clause concludes that exec answers a next state, for all states and
operands under its conditions: fusionTick, headRunDone, cellClose, encoderRunDone. -/
def Obligations.FusionFrames : Prop :=
  (∀ (h : HeadRun) (out : List Int), Does (fun dt => .fusionTick dt)
      (fun e => e.fusOn = true ∧ e.fus.tickAt ≤ e.now ∧ e.fus.head = some h ∧ h.out = some out ∧ e.fus.ending = false)
      (fun e t => t.fus.frameNo = e.fus.frameNo + 1 ∧ t.reg 0xC0100 = BitVec.ofNat 32 (e.fus.frameNo + 1).toNat ∧ t.reg 0xC015C = t.reg 0xC0100 ∧ t.reg 0xC0104 = e.tnow e.now ∧ t.fus.tickAt = e.fus.tickAt + msAng 10 ∧ t.fus.head.isSome = true ∧ t.wheels = e.wheels ∧ t.sram = e.sram ∧ t.power = e.power)) ∧
  (∀ (h : HeadRun) (out : List Int), Does (fun dt => .fusionTick dt)
      (fun e => e.fusOn = true ∧ e.fus.tickAt ≤ e.now ∧ e.fus.head = some h ∧ h.out = some out ∧ e.fus.ending = true)
      (fun e t => t.fus.mstate ≠ .running ∧ t.fus.ending = false ∧ t.wheels = e.wheels ∧ t.sram = e.sram)) ∧
  (∀ (h : HeadRun), Does (fun dt => .fusionTick dt)
      (fun e => e.fusOn = true ∧ e.fus.tickAt ≤ e.now ∧ e.fus.head = some h ∧ h.out = none)
      (fun e t => t.fus.head = some h ∧ t.fus.frameNo = e.fus.frameNo ∧ t.fld 0xC0010 31 16 = satAdd 65535 (e.fld 0xC0010 31 16) 1 ∧ t.fus.tickAt = e.fus.tickAt + msAng 10 ∧ t.wheels = e.wheels ∧ t.sram = e.sram)) ∧
  (Makes (fun dt => .fusionTick dt)
      (fun e => e.fus.mstate ≠ .running ∨ (e.now < e.fus.tickAt ∧ e.fus.gridTime = false))
      (fun e => e)) ∧
  (∀ (h : HeadRun), Makes (fun dt => .headRunDone dt)
      (fun e => e.fusOn = true ∧ e.fus.head = some h ∧ h.out = none ∧ e.headFree h = true)
      (fun e => e.setFus { e.fus with head := some { h with out := some (headRun e.fus.weights h.grid h.track) } })) ∧
  (∀ (h : HeadRun), Makes (fun dt => .headRunDone dt)
      (fun e => e.fus.head = some h ∧ e.headFree h = false)
      (fun e => e)) ∧
  (Makes (fun dt => .headRunDone dt)
      (fun e => e.fus.head = none)
      (fun e => e)) ∧
  (Does (fun dt => .cellClose dt)
      (fun e => e.fusOn = true ∧ e.gridMode = e ∧ e.fus.gridTime = true ∧ e.fus.cellAt ≤ e.now ∧ e.fus.encRun = none)
      (fun e t => t.fus.encRun = some { input := e.cellInput, queuedAt := some e.now } ∧ t.fus.closed = e.fus.closed + 1 ∧ t.fus.newest = 128 + e.fus.cellCount ∧ t.fus.cellAt = e.fus.cellAt + msAng (e.fusFld 0xC000C 15 0) ∧ t.fus.cellCount = (e.fus.cellCount + 1) % 128 ∧ t = { e with fus := t.fus })) ∧
  (Makes (fun dt => .cellClose dt)
      (fun e => e.fusOn = false)
      (fun e => e)) ∧
  (∀ (r : EncRun), Makes (fun dt => .encoderRunDone dt)
      (fun e => e.fusOn = true ∧ e.fus.encRun = some r)
      (fun e => e.setFus { e.fus with ring := (List.replicate r.cells (encoderRun e.fus.weights r.input) ++ e.fus.ring).take 128, encRun := e.fus.encWait.map (fun (w : EncRun) => { w with queuedAt := none }), encWait := none })) ∧
  (Makes (fun dt => .encoderRunDone dt)
      (fun e => e.fus.encRun = none)
      (fun e => e))

/-- O45, The inertial sensors, the input slots and the weights. IMU_FETCH by PER that is due, SPI master free, sensor 0 first: the
command byte is sent, the transfer takes its time, the next is due PER later; only the engine changes. With the sensor off, not
ready or faulty nothing changes. IMU_FETCH_DONE with its time passed and only zeros, not the eighth bad response in a row: none
is stored, one is counted; trackers and SRAM stay. Any other, not all FF: force and rate are the axes it decodes to by AXMAP,
scaled and rotated by the mounting; corrections, registers, trackers and SRAM stay. Before its time, with none under way or
outside RUN nothing changes. IMU_INIT that is due, the SPI master free, no WHOAMI check or the right answer: INIT is sent, the
sensor is ready, its first fetch PER later; nothing else changes. With a wrong answer: IMUFLT and its ADVISE bit, not ready, and
again in 1 s; trackers and SRAM stay. With none to initialise nothing changes. FUSCAL_WRITE that is due with the corrections
moved by less than 1000 µrad: only the next is due CALWR minutes later. With more they count as written, and the FUSCAL record
of the sensor is queued; registers, trackers and SRAM stay. With CALWR 0 nothing changes. FUSION_SLOT_WRITE by the link of a
slot that is its own group, unspoiled, SPEC (bit 17) clear where it discards speculative words: its value, a new age, not stale;
other slots, registers and SRAM stay. With PD9 not ready the access ends in a bus error; engine and registers stay. SLOT_STALE
of a slot older than its AGEMAX marks it and nothing else. A younger one stays. WEIGHT_CHECK that is due, no encoder or head
work waiting, weights of good CRC, no self-test: only the next is due. In a self-test without a model it leaves bit 3 and those
of the known answers. With neither it changes nothing. Nor while work for the engine waits. Each clause concludes that exec
answers a next state, for all states and operands under its conditions: imuFetch, imuFetchDone, imuInit, fuscalWrite,
fusionSlotWrite, slotStale, weightCheck. -/
def Obligations.InertialAndSlots : Prop :=
  (∀ (n : Fin 2), Does (fun dt => .imuFetch dt n)
      (fun e => e.fetchDue n = true ∧ e.fusBit (imuBase n.val) 29 = false ∧ e.spiFree = true ∧ (n = 0 ∨ e.fetchDue 0 = false))
      (fun e t => (t.imu n).busy = true ∧ (t.imu n).doneAt = e.now + e.fetchTime n.val ∧ (t.imu n).fetchAt = (e.imu n).fetchAt + usAng (10 * e.fusFld (imuBase n.val) 15 0) ∧ (t.imu n).sample = (e.imu n).sample ∧ t.fus.spiSent = [[BitVec.ofNat 8 (e.fusFld (imuBase n.val + 4) 15 8)]] ∧ t = { e with fus := t.fus })) ∧
  (∀ (n : Fin 2), Makes (fun dt => .imuFetch dt n)
      (fun e => e.imuLive n = false)
      (fun e => e)) ∧
  (∀ (n : Fin 2) (resp : List Byte), Does (fun dt => .imuFetchDone dt n resp)
      (fun e => e.running = true ∧ (e.imu n).busy = true ∧ (e.imu n).doneAt ≤ e.now ∧ e.imuLive n = true ∧ (resp.take (e.fusFld (imuBase n.val + 4) 5 0)).all (fun b => b == 0) = true ∧ (e.imu n).badRun < 7)
      (fun e t => (t.imu n).badRun = (e.imu n).badRun + 1 ∧ (t.imu n).sample = (e.imu n).sample ∧ (t.imu n).fault = (e.imu n).fault ∧ t.fld (imuBase n.val + 0x54) 15 0 = satAdd 65535 (e.fld (imuBase n.val + 0x54) 15 0) 1 ∧ t.wheels = e.wheels ∧ t.sram = e.sram)) ∧
  (∀ (n : Fin 2) (resp l : List Byte), Does (fun dt => .imuFetchDone dt n resp)
      (fun e => e.running = true ∧ (e.imu n).busy = true ∧ (e.imu n).doneAt ≤ e.now ∧ e.imuLive n = true ∧ l = resp.take (e.fusFld (imuBase n.val + 4) 5 0) ∧ l.all (fun b => b == 0) = false ∧ l.all (fun b => b == 0xFF) = false)
      (fun e t => (t.imu n).badRun = 0 ∧ (t.imu n).force = matVec (e.imuRotation n) ((List.range 3).map (fun k => flMul (flInt (e.axisRaw n.val l k)) (e.fusReg (imuBase n.val + 0x10)))) ∧ (t.imu n).rate = matVec (e.imuRotation n) ((List.range 3).map (fun k => flMul (flInt (e.axisRaw n.val l (3 + k))) (e.fusReg (imuBase n.val + 0x14)))) ∧ (t.imu n).corr = (e.imu n).corr ∧ t.regs = e.regs ∧ t.wheels = e.wheels ∧ t.sram = e.sram)) ∧
  (∀ (n : Fin 2) (resp : List Byte), Makes (fun dt => .imuFetchDone dt n resp)
      (fun e => e.running = false ∨ (e.imu n).busy = false ∨ e.now < (e.imu n).doneAt)
      (fun e => e)) ∧
  (∀ (n : Fin 2) (who : Byte) (at_ : Nat), Makes (fun dt => .imuInit dt n who)
      (fun e => e.fusOn = true ∧ e.fusBit (imuBase n.val) 31 = true ∧ (e.imu n).initAt = some at_ ∧ at_ ≤ e.now ∧ e.spiFree = true ∧ (e.fusBit (imuBase n.val + 0x24) 16 = false ∨ who.toNat = e.fusFld (imuBase n.val + 0x24) 7 0))
      (fun e => (e.setFus { e.fus with spiSent := e.initTransfers n.val }).setImu n { e.imu n with ready := true, fault := false, initAt := none, badRun := 0, due := false, fetchAt := e.now + usAng (10 * e.fusFld (imuBase n.val) 15 0) })) ∧
  (∀ (n : Fin 2) (who : Byte) (at_ : Nat), Does (fun dt => .imuInit dt n who)
      (fun e => e.fusOn = true ∧ e.fusBit (imuBase n.val) 31 = true ∧ (e.imu n).initAt = some at_ ∧ at_ ≤ e.now ∧ e.spiFree = true ∧ e.fusBit (imuBase n.val + 0x24) 16 = true ∧ who.toNat ≠ e.fusFld (imuBase n.val + 0x24) 7 0 ∧ (e.imu n).fault = false)
      (fun e t => (t.imu n).fault = true ∧ (t.imu n).ready = false ∧ (t.imu n).initAt = some (e.now + secAng 1) ∧ t.bit 0x100004 8 = true ∧ t.wheels = e.wheels ∧ t.sram = e.sram)) ∧
  (∀ (n : Fin 2) (who : Byte), Makes (fun dt => .imuInit dt n who)
      (fun e => (e.imu n).initAt = none)
      (fun e => e)) ∧
  (∀ (n : Fin 2), Makes (fun dt => .fuscalWrite dt n)
      (fun e => e.running = true ∧ e.life.halted = false ∧ e.fusFld 0xC0064 23 16 ≠ 0 ∧ (e.imu n).calAt ≤ e.now ∧ (e.imu n).moved < 1000)
      (fun e => e.setImu n { e.imu n with calAt := e.now + secAng (60 * e.fusFld 0xC0064 23 16) })) ∧
  (∀ (n : Fin 2), Does (fun dt => .fuscalWrite dt n)
      (fun e => e.running = true ∧ e.life.halted = false ∧ e.fusFld 0xC0064 23 16 ≠ 0 ∧ (e.imu n).calAt ≤ e.now ∧ 1000 ≤ (e.imu n).moved ∧ e.cave.mode = .mounting)
      (fun e t => (t.imu n).written = (e.imu n).micro ∧ (∃ q ∈ t.cave.recQueue, q.kind = 4 ∧ q.index = n.val) ∧ t.regs = e.regs ∧ t.wheels = e.wheels ∧ t.sram = e.sram)) ∧
  (∀ (n : Fin 2), Makes (fun dt => .fuscalWrite dt n)
      (fun e => e.fusFld 0xC0064 23 16 = 0)
      (fun e => e)) ∧
  (∀ (slot : Fin 32) (value : Word), Does (fun dt => .fusionSlotWrite dt .link slot value)
      (fun e => e.running = true ∧ e.life.state ≠ .scrap ∧ e.domReady 9 = true ∧ groupOf (e.fusReg 0xC0880) slot.val = [slot.val] ∧ groupLow (e.fusReg 0xC0880) slot.val = slot.val ∧ (e.slot slot).spoiled = false ∧ (e.fusBit 0xC0884 slot.val = false ∨ bitOf value 17 = false))
      (fun e t => (t.slot slot).value = value ∧ (t.slot slot).base = e.now ∧ (t.slot slot).stale = false ∧ (t.slot slot).held = none ∧ (∀ k : Fin 32, k ≠ slot → t.slot k = e.slot k) ∧ t.regs = e.regs ∧ t.sram = e.sram ∧ t.busError = false)) ∧
  (∀ (m : Master) (slot : Fin 32) (value : Word), Does (fun dt => .fusionSlotWrite dt m slot value)
      (fun e => e.running = true ∧ e.life.state ≠ .scrap ∧ e.domReady 9 = false)
      (fun e t => t.busError = true ∧ t.fus = e.fus ∧ t.regs = e.regs)) ∧
  (∀ (slot : Fin 32), Makes (fun dt => .slotStale dt slot)
      (fun e => e.running = true ∧ e.slotOld slot = true)
      (fun e => e.setSlot slot { e.slot slot with stale := true })) ∧
  (∀ (slot : Fin 32), Makes (fun dt => .slotStale dt slot)
      (fun e => e.slotOld slot = false)
      (fun e => e)) ∧
  (∀ (dense track : Bool), Makes (fun dt => .weightCheck dt [] dense track)
      (fun e => e.cfg.testFusion = .idle ∧ e.fusOn = true ∧ e.fusFld 0xC0004 7 0 ≠ 0 ∧ e.fus.checkAt ≤ e.now ∧ modelCrcOk e.fus.weights = true ∧ e.macIdle = true)
      (fun e => e.setFus { e.fus with checkAt := e.now + secAng (e.fusFld 0xC0004 7 0) })) ∧
  (∀ (dense track : Bool) (a b : Nat), Makes (fun dt => .weightCheck dt [] dense track)
      (fun e => e.running = true ∧ e.cfg.testFusion = .running a b ∧ e.fus.mstate ≠ .running ∧ e.macIdle = true)
      (fun e => e.setFus { e.fus with testBits := some (2 * b2n dense + 4 * b2n track + 8) })) ∧
  (∀ (dense track : Bool), Makes (fun dt => .weightCheck dt [] dense track)
      (fun e => e.cfg.testFusion = .idle ∧ e.fus.mstate ≠ .running)
      (fun e => e)) ∧
  (∀ (dense track : Bool), Makes (fun dt => .weightCheck dt [] dense track)
      (fun e => e.macIdle = false)
      (fun e => e))

/-- O46, Tamper inputs, their FIFO and the alarm output. RIND_INPUT_CHANGE of one input in use other than the tamper loop to another
level whose filter it passes, at a sample edge while the rind samples: that level, and no other input, changes; the loop class,
trackers, SRAM and event outputs stay. Where the filter is not passed yet, the run of samples that agree goes on or begins, and
no level changes. At an edge of STANDBY that is no sample edge no input but WHEEL is read. While it does not sample nothing
changes. COUNT_WINDOW_CLOSE of a window that has run out closes it with its count at 0, and changes nothing else. With none open
nothing changes. Before its time nothing changes. HOLDOFF_END of a holdoff that has run out ends it and changes nothing else.
With none nothing changes. RIND_FIFO_DRAIN with the link up, of an oldest entry that asks for no log entry or whose log entry
can be made or counted: it leaves the FIFO; rules, alarm, trackers, SRAM and power stay. One that asks for a log entry while the
cave is not mounted yet stays, its notice made; the cave and SRAM stay. With the FIFO empty or the link down nothing changes.
ALARM_END whose time is up: no alarm, and nothing else changes. With none nothing changes. ALARM_TOGGLE that is due with ALPAT 1
turns the output over, the next is half a second later. With no alarm nothing changes. ALARM_STOP in RUN, no write waiting for
the AON block, ends the alarm and changes nothing else. Each clause concludes that exec answers a next state, for all states and
operands under its conditions: rindInputChange, countWindowClose, holdoffEnd, rindFifoDrain, alarmEnd, alarmToggle, alarmStop. -/
def Obligations.RindMonitoring : Prop :=
  (∀ (i : Fin 6) (v : InLevel), Does (fun dt => .rindInputChange dt [(i, v)] none)
      (fun e => e.rindSamples = true ∧ e.rindUsed i = true ∧ e.rindIn i ≠ v ∧ e.sampleEdge = true ∧ e.filterPasses i v = true ∧ (v = .low ∨ v = .high) ∧ i ≠ 5)
      (fun e t => t.rindIn i = v ∧ (∀ k : Fin 6, k ≠ i → t.rindIn k = e.rindIn k) ∧ t.rind.loop = e.rind.loop ∧ t.wheels = e.wheels ∧ t.sram = e.sram ∧ t.outs = e.outs)) ∧
  (∀ (i : Fin 6) (v : InLevel), Does (fun dt => .rindInputChange dt [(i, v)] none)
      (fun e => e.rindSamples = true ∧ e.sampleEdge = true ∧ e.rindUsed i = true ∧ e.rindIn i ≠ v ∧ e.filterPasses i v = false ∧ (v = .low ∨ v = .high) ∧ i ≠ 0 ∧ i ≠ 5)
      (fun e t => t.rind.inputs = e.rind.inputs ∧ t.rind.runs[i] = some (v, e.runFrom i v) ∧ (∀ k : Fin 6, k ≠ i → t.rind.runs[k] = e.rind.runs[k]) ∧ t.lock = e.lock ∧ t.wheels = e.wheels ∧ t.sram = e.sram)) ∧
  (∀ (i : Fin 6) (v : InLevel), Does (fun dt => .rindInputChange dt [(i, v)] none)
      (fun e => e.rindSamples = true ∧ e.sampleEdge = false ∧ i ≠ 0)
      (fun e t => t.rind.inputs = e.rind.inputs ∧ t.rind.runs = e.rind.runs ∧ t.lock = e.lock ∧ t.wheels = e.wheels ∧ t.sram = e.sram)) ∧
  (∀ (changes : List (Fin 6 × InLevel)) (tamper : Option (InLevel × InLevel)), Makes (fun dt => .rindInputChange dt changes tamper)
      (fun e => e.rindSamples = false)
      (fun e => e)) ∧
  (∀ (k : Fin 16) (at_ : Nat), Makes (fun dt => .countWindowClose dt k)
      (fun e => (e.rule k).window = some at_ ∧ at_ ≤ e.lf)
      (fun e => e.setRule k { e.rule k with window := none, count := 0 })) ∧
  (∀ (k : Fin 16), Makes (fun dt => .countWindowClose dt k)
      (fun e => (e.rule k).window = none)
      (fun e => e)) ∧
  (∀ (k : Fin 16) (at_ : Nat), Makes (fun dt => .countWindowClose dt k)
      (fun e => (e.rule k).window = some at_ ∧ e.lf < at_)
      (fun e => e)) ∧
  (∀ (k : Fin 16) (at_ : Nat), Makes (fun dt => .holdoffEnd dt k)
      (fun e => (e.rule k).hold = some at_ ∧ at_ ≤ e.lf)
      (fun e => e.setRule k { e.rule k with hold := none })) ∧
  (∀ (k : Fin 16), Makes (fun dt => .holdoffEnd dt k)
      (fun e => (e.rule k).hold = none)
      (fun e => e)) ∧
  (∀ (x : RindEntry) (rest : List RindEntry), Does (fun dt => .rindFifoDrain dt)
      (fun e => e.linkUp = true ∧ e.rind.fifo = x :: rest ∧ (x.act.testBit 1 = false ∨ e.cave.mode = .mounted ∨ e.cave.mode = .readonly ∨ e.cave.mode = .failed))
      (fun e t => t.rind.fifo = rest ∧ t.rind.rules = e.rind.rules ∧ t.rind.alarm = e.rind.alarm ∧ t.wheels = e.wheels ∧ t.sram = e.sram ∧ t.power = e.power)) ∧
  (∀ (x : RindEntry) (rest : List RindEntry), Does (fun dt => .rindFifoDrain dt)
      (fun e => e.linkUp = true ∧ e.rind.fifo = x :: rest ∧ x.act.testBit 1 = true ∧ (e.cave.mode = .mounting ∨ e.cave.mode = .unmounted))
      (fun e t => t.rind.fifo = { x with noticed := true } :: rest ∧ t.cave = e.cave ∧ t.sram = e.sram)) ∧
  (Makes (fun dt => .rindFifoDrain dt)
      (fun e => e.rind.fifo = [] ∨ e.linkUp = false)
      (fun e => e)) ∧
  (∀ (at_ : Nat), Makes (fun dt => .alarmEnd dt)
      (fun e => e.rind.alarm.active = true ∧ e.rind.alarm.endAt = some at_ ∧ at_ ≤ e.lf)
      (fun e => e.setRind { e.rind with alarm := {} })) ∧
  (Makes (fun dt => .alarmEnd dt)
      (fun e => e.rind.alarm.active = false)
      (fun e => e)) ∧
  (Makes (fun dt => .alarmToggle dt)
      (fun e => e.rind.alarm.active = true ∧ e.bit 0xD0004 12 = true ∧ e.rind.alarm.toggleAt ≤ e.lf)
      (fun e => e.setRind { e.rind with alarm := { e.rind.alarm with on := !e.rind.alarm.on, toggleAt := e.rind.alarm.toggleAt + 16384 } })) ∧
  (Makes (fun dt => .alarmToggle dt)
      (fun e => e.rind.alarm.active = false)
      (fun e => e)) ∧
  (Makes (fun dt => .alarmStop dt)
      (fun e => e.running = true ∧ e.power.lfAon = [])
      (fun e => e.setRind { e.rind with alarm := {} }))

/-- O47, A move of the lock starts, ends and is refused. LOCK_OPEN in RUN, no write waiting for the LCK block, the limits of the
moment taken first (`limitChange`), no check refusing it: OPENING from now on, the bridge drives toward OPEN with DUTY; LCK_CFG
unchanged since the move before, the OPEN limit stands anew where it reads asserted and is kept otherwise; trackers and SRAM
stay. LOCK_SHUT alike: CLOSING, toward SHUT. LOCK_HOME alike: HOMING, toward OPEN with HOMEDUTY. LOCK_OPEN that a check refuses:
CMDRES is its code, CMDREF set; state and bridge as the limits leave them; SRAM stays. LOCK_SHUT alike. LOCK_HOME alike.
LOCK_STOP of a move that the limits and the time limit of the moment leave in progress (`lockTimeout`): coast, CMDRES 1, the
state the stable limits give; trackers and SRAM stay. LOCK_CLEAR in FAULT without both limits asserted: the state the limits
give, cause 0, coast, CMDRES 1; trackers and SRAM stay. LOCK_BADKEY of a word without key or command: CMDRES 9, CMDREF set,
nothing else. A valid word: nothing changes. LIMIT_CHANGE with the OPEN limit's level standing long enough: it is stable at v;
input levels, trackers and SRAM stay. With none long enough, in FAULT, nothing changes. LOCK_MOVE_TIMEOUT of a move that the
limits of the moment leave in progress, beyond its time: FAULT with cause 1, braking where the bridge has supply, else coasting,
ADVISE bit LOCK; trackers and SRAM stay. Within its time, and with no move, only what the limits do happens. LOCK_STALL of a
move whose stall comparator has been active for STALLMS, nothing else of R542 due: FAULT with cause 6 alike. The move always
ends in FAULT, with cause 2 to 6: one that R542 puts before STALL may be due with it. With no move nothing changes. BRAKE_END
when due: coast, nothing else. With no brake timed nothing changes. Each clause concludes that exec answers a next state, for
all states and operands under its conditions: lockOpen, lockShut, lockHome, lockStop, lockClear, lockBadkey, limitChange,
lockMoveTimeout, lockStall, brakeEnd. -/
def Obligations.LockMotor : Prop :=
  (Does (fun dt => .lockOpen dt)
      (fun e => e.running = true ∧ e.power.lfLck = [] ∧ e.limitChange.moveCheck .opening = 1)
      (fun e t => t.lock.state = .opening ∧ t.lock.cmdRes = 1 ∧ t.lock.moveAt = e.lf ∧ t.lock.bridge = .drive e.lf true (e.fld 0xE000C 21 16) ∧ (e.limitChange.lock.moveCfg = e.reg 0xE000C → t.lock.limOpen = (if e.limitChange.limitReads true = some true then { since := e.lf } else e.limitChange.lock.limOpen)) ∧ t.wheels = e.wheels ∧ t.sram = e.sram)) ∧
  (Does (fun dt => .lockShut dt)
      (fun e => e.running = true ∧ e.power.lfLck = [] ∧ e.limitChange.moveCheck .closing = 1)
      (fun e t => t.lock.state = .closing ∧ t.lock.cmdRes = 1 ∧ t.lock.moveAt = e.lf ∧ t.lock.bridge = .drive e.lf false (e.fld 0xE000C 21 16) ∧ (e.limitChange.lock.moveCfg = e.reg 0xE000C → t.lock.limShut = (if e.limitChange.limitReads false = some true then { since := e.lf } else e.limitChange.lock.limShut)) ∧ t.wheels = e.wheels ∧ t.sram = e.sram)) ∧
  (Does (fun dt => .lockHome dt)
      (fun e => e.running = true ∧ e.power.lfLck = [] ∧ e.limitChange.moveCheck .homing = 1)
      (fun e t => t.lock.state = .homing ∧ t.lock.cmdRes = 1 ∧ t.lock.moveAt = e.lf ∧ t.lock.bridge = .drive e.lf true (e.fld 0xE000C 13 8) ∧ (e.limitChange.lock.moveCfg = e.reg 0xE000C → t.lock.limOpen = (if e.limitChange.limitReads true = some true then { since := e.lf } else e.limitChange.lock.limOpen)) ∧ t.wheels = e.wheels ∧ t.sram = e.sram)) ∧
  (Does (fun dt => .lockOpen dt)
      (fun e => e.running = true ∧ e.power.lfLck = [] ∧ e.limitChange.moveCheck .opening ≠ 1)
      (fun e t => t.lock.cmdRes = e.limitChange.moveCheck .opening ∧ t.bit 0xE0008 2 = true ∧ t.lock.state = e.limitChange.lock.state ∧ t.lock.bridge = e.limitChange.lock.bridge ∧ t.sram = e.sram)) ∧
  (Does (fun dt => .lockShut dt)
      (fun e => e.running = true ∧ e.power.lfLck = [] ∧ e.limitChange.moveCheck .closing ≠ 1)
      (fun e t => t.lock.cmdRes = e.limitChange.moveCheck .closing ∧ t.bit 0xE0008 2 = true ∧ t.lock.state = e.limitChange.lock.state ∧ t.lock.bridge = e.limitChange.lock.bridge ∧ t.sram = e.sram)) ∧
  (Does (fun dt => .lockHome dt)
      (fun e => e.running = true ∧ e.power.lfLck = [] ∧ e.limitChange.moveCheck .homing ≠ 1)
      (fun e t => t.lock.cmdRes = e.limitChange.moveCheck .homing ∧ t.bit 0xE0008 2 = true ∧ t.lock.state = e.limitChange.lock.state ∧ t.lock.bridge = e.limitChange.lock.bridge ∧ t.sram = e.sram)) ∧
  (Does (fun dt => .lockStop dt)
      (fun e => e.running = true ∧ e.power.lfLck = [] ∧ e.lockTimeout.bit 0xE000C 31 = true ∧ e.boot.loaded = true ∧ e.lockTimeout.lock.moving = true)
      (fun e t => t.lock.bridge = .coast ∧ t.lock.cmdRes = 1 ∧ t.lock.state = e.lockTimeout.lock.resolve ∧ t.lock.brakeEnd = none ∧ t.wheels = e.wheels ∧ t.sram = e.sram)) ∧
  (Does (fun dt => .lockClear dt)
      (fun e => e.running = true ∧ e.power.lfLck = [] ∧ e.limitChange.bit 0xE000C 31 = true ∧ e.boot.loaded = true ∧ e.limitChange.lock.state = .fault ∧ (e.limitChange.lock.limOpen.stable ≠ .asserted ∨ e.limitChange.lock.limShut.stable ≠ .asserted))
      (fun e t => t.lock.fault = 0 ∧ t.lock.bridge = .coast ∧ t.lock.cmdRes = 1 ∧ t.lock.state = e.limitChange.lock.resolve ∧ t.wheels = e.wheels ∧ t.sram = e.sram)) ∧
  (∀ (value : Word), Does (fun dt => .lockBadkey dt value)
      (fun e => e.running = true ∧ e.power.lfLck = [] ∧ lockWordOk value = false)
      (fun e t => t.lock = { e.lock with cmdRes := 9 } ∧ t.bit 0xE0008 2 = true ∧ t = { e with lock := t.lock, regs := t.regs, setAt := t.setAt, setNow := t.setNow } ∧ (∀ a, a ≠ 0xE0008 → t.reg a = e.reg a))) ∧
  (∀ (value : Word), Makes (fun dt => .lockBadkey dt value)
      (fun e => lockWordOk value = true)
      (fun e => e)) ∧
  (∀ (v : Stable), Does (fun dt => .limitChange dt)
      (fun e => e.limitDue true = some v)
      (fun e t => t.lock.limOpen.stable = v ∧ t.rind.inputs = e.rind.inputs ∧ t.wheels = e.wheels ∧ t.sram = e.sram)) ∧
  (Makes (fun dt => .limitChange dt)
      (fun e => e.limitDue true = none ∧ e.limitDue false = none ∧ e.lock.state = .fault)
      (fun e => e)) ∧
  (Does (fun dt => .lockMoveTimeout dt)
      (fun e => e.limitChange.moveTimedOut = true)
      (fun e t => t.lock.state = .fault ∧ t.lock.fault = 1 ∧ t.lock.lastFault = 1 ∧ t.lock.bridge = (if e.bridgeUp then .brake else .coast) ∧ t.bit 0x100004 7 = true ∧ t.wheels = e.wheels ∧ t.sram = e.sram)) ∧
  (Makes (fun dt => .lockMoveTimeout dt)
      (fun e => e.limitChange.moveTimedOut = false)
      (fun e => e.limitChange)) ∧
  (Does (fun dt => .lockStall dt)
      (fun e => e.stallDue = true ∧ e.limitDue true = none ∧ e.limitDue false = none ∧ (e.lock.limOpen.stable ≠ .asserted ∨ e.lock.limShut.stable ≠ .asserted) ∧ e.lock.restartDue = 0 ∧ e.rindStuckDue 1 = false ∧ e.rindStuckDue 2 = false)
      (fun e t => t.lock.state = .fault ∧ t.lock.fault = 6 ∧ t.lock.bridge = (if e.bridgeUp then .brake else .coast) ∧ t.bit 0x100004 7 = true ∧ t.wheels = e.wheels ∧ t.sram = e.sram)) ∧
  (Does (fun dt => .lockStall dt)
      (fun e => e.stallDue = true)
      (fun e t => t.lock.state = .fault ∧ (t.lock.fault = 2 ∨ t.lock.fault = 3 ∨ t.lock.fault = 4 ∨ t.lock.fault = 5 ∨ t.lock.fault = 6) ∧ t.lock.bridge = (if e.bridgeUp then .brake else .coast) ∧ t.wheels = e.wheels ∧ t.sram = e.sram)) ∧
  (Makes (fun dt => .lockStall dt)
      (fun e => e.lock.moving = false)
      (fun e => e)) ∧
  (∀ (at_ : Nat), Makes (fun dt => .brakeEnd dt)
      (fun e => e.lock.brakeEnd = some at_ ∧ at_ ≤ e.lf)
      (fun e => { e with lock := { e.lock with bridge := .coast, brakeEnd := none } })) ∧
  (Makes (fun dt => .brakeEnd dt)
      (fun e => e.lock.brakeEnd = none)
      (fun e => e))

/-- O48, VERIFY carries out what the response authorises; failures count and lock out; challenges lapse. The VERIFY clauses hold
with LCSPORT selected, PD1 up, no memory test and no transition under way. VERIFY with no live challenge: status 50
(hexadecimal), the failures one up to at most 15, no challenge, and from the fourth failure on a lockout until 60 s (1966080
CLK_LF periods) later; state, OTP and registers stay. VERIFY of a response that is right for a challenge to another state, with
no operation running: status 1, the step's fuses blown, the state they give, no challenge, no failures, no lockout, an empty
response cache and a transition under way; SRAM stays. With an operation running: status 14, failures, lockout and challenge
cleared, the rest of the life cycle, OTP and registers as they were. VERIFY of a wrong response: status 50, the failures one up,
no challenge; state and OTP stay. CHALLENGE_LAPSE of one issued 60 s ago or more voids it and changes nothing else. With no
challenge nothing changes. Before its 60 s nothing changes. LOCKOUT_END at or after the lockout's time ends it and changes
nothing else. With none nothing changes. WIPEPEND_CLEARS with no transition under way, after the load commit or in recovery,
with work left: the kills the state implies are blown and a store of another epoch becomes an empty one of this epoch; nothing
else changes. With no work left nothing changes. Each clause concludes that exec answers a next state, for all states and
operands under its conditions: lcsportVerify, challengeLapse, lockoutEnd, wipependClears. -/
def Obligations.Authentication : Prop :=
  (Does (fun dt => .lcsportVerify dt)
      (fun e => e.jtagAt 0x08 = true ∧ e.power.phase ≠ .memtest ∧ e.life.transition = none ∧ e.liveChallenge = none)
      (fun e t => t.jtag.lcsStatus = 0x50 ∧ t.life.fails = satAdd 15 e.life.fails 1 ∧ t.life.challenge = none ∧ t.life.lockout = (if 3 ≤ e.life.fails then some (e.lf + 1966080) else e.life.lockout) ∧ t.life.state = e.life.state ∧ t.otp = e.otp ∧ t.regs = e.regs)) ∧
  (∀ (c : Challenge) (dest : Life), Does (fun dt => .lcsportVerify dt)
      (fun e => e.jtagAt 0x08 = true ∧ e.power.phase ≠ .memtest ∧ e.life.transition = none ∧ e.liveChallenge = some c ∧ e.responseOk c e.jtag.s = true ∧ c.target ≠ e.life.state.code ∧ lifeOf c.target = some dest ∧ e.life.opRun = none)
      (fun e t => t.jtag.lcsStatus = 1 ∧ t.otp = e.otp.blow dest ∧ t.life.state = (e.otp.blow dest).lifeState ∧ t.life.challenge = none ∧ t.life.fails = 0 ∧ t.life.lockout = none ∧ t.link.cache = none ∧ t.life.transition.isSome = true ∧ t.sram = e.sram)) ∧
  (∀ (c : Challenge), Does (fun dt => .lcsportVerify dt)
      (fun e => e.jtagAt 0x08 = true ∧ e.power.phase ≠ .memtest ∧ e.life.transition = none ∧ e.liveChallenge = some c ∧ e.responseOk c e.jtag.s = true ∧ e.life.opRun.isSome = true)
      (fun e t => t.jtag.lcsStatus = 0x14 ∧ t.life = { e.life with fails := 0, lockout := none, challenge := none } ∧ t.otp = e.otp ∧ t.regs = e.regs)) ∧
  (∀ (c : Challenge), Does (fun dt => .lcsportVerify dt)
      (fun e => e.jtagAt 0x08 = true ∧ e.power.phase ≠ .memtest ∧ e.life.transition = none ∧ e.liveChallenge = some c ∧ e.responseOk c e.jtag.s = false)
      (fun e t => t.jtag.lcsStatus = 0x50 ∧ t.life.fails = satAdd 15 e.life.fails 1 ∧ t.life.challenge = none ∧ t.life.state = e.life.state ∧ t.otp = e.otp)) ∧
  (∀ (c : Challenge), Makes (fun dt => .challengeLapse dt)
      (fun e => e.life.challenge = some c ∧ c.at_ + 1966080 ≤ e.lf)
      (fun e => { e with life := { e.life with challenge := none } })) ∧
  (Makes (fun dt => .challengeLapse dt)
      (fun e => e.life.challenge = none)
      (fun e => e)) ∧
  (∀ (c : Challenge), Makes (fun dt => .challengeLapse dt)
      (fun e => e.life.challenge = some c ∧ e.lf < c.at_ + 1966080)
      (fun e => e)) ∧
  (∀ (at_ : Nat), Makes (fun dt => .lockoutEnd dt)
      (fun e => e.life.lockout = some at_ ∧ at_ ≤ e.lf)
      (fun e => { e with life := { e.life with lockout := none } })) ∧
  (Makes (fun dt => .lockoutEnd dt)
      (fun e => e.life.lockout = none)
      (fun e => e)) ∧
  (Makes (fun dt => .wipependClears dt)
      (fun e => e.life.transition = none ∧ (e.boot.loaded = true ∨ e.boot.recovery = true) ∧ e.wipePend = true)
      (fun e => { e with otp := e.otp.killImplied, store := if e.store.epoch ≠ e.otp.epoch then { epoch := e.otp.epoch, entries := [] } else e.store })) ∧
  (Makes (fun dt => .wipependClears dt)
      (fun e => e.wipePend = false)
      (fun e => e))

/-- O49, Operations of the lifecycle controller start and end. Nothing else changes in the clauses of the register GO. GO with
LCS_OPREQ naming SIGKEY, LKEY, IMGKEY, REVOKE, MINVER, STOREWRITE or POLICY (a clause each), in a state that lets it run
directly, with no operation running: result 1, the operation and its argument running with KEYBUF as it stands now. Each of the
seven in a state that refuses it: result 4. MINVER in a state that asks for a signed challenge: result 3. A GO that names SIGKEY
while LCS_OPREQ names another operation changes nothing. GO on LCSPORT (selected, PD1 up, no memory test, no transition under
way) of an operation that runs directly, with none running: status 0 and the same start; OTP and registers stay. Each clause is
LCS_OPERATION_DONE, after which no operation runs, and KEYBUF and the running copy of it are cleared. A bit that does not read
back makes it fail. MINVER done, its version from MINVER's own up to 64: the lowest bits up to that number blown, result 2;
store and registers stay. MINVER failed: result 8; OTP, store and registers stay. POLICY done, argument at most 1FF: the boot
bits of its low byte and NOENC of bit 8 blown, result 2; the store stays. REVOKE done in BLANK, slot at most 3: that signing
slot revoked, result 2; the store stays. SIGKEY done, slot at most 3 and EMPTY, the key a point on the curve: the key and its
CRC in that slot, result 2; the store stays. LKEY done, slot EMPTY, the key on the curve: the key and its CRC in it, result 2;
the store stays. IMGKEY done, the slot of OPENCNT EMPTY: the first 32 bytes and their CRC in it, result 2; the store stays.
STOREWRITE done of an entry not written: the entry added to the store with the first 32 bytes, in this epoch, result 2; OTP
stays. With no operation running nothing changes. Each clause concludes that exec answers a next state, for all states and
operands under its conditions: opSigkey, opLkey, opImgkey, opRevoke, opMinver, opStorewrite, opPolicy, lcsportGo,
lcsOperationDone. -/
def Obligations.LifecycleOperations : Prop :=
  (Makes (fun dt => .opSigkey dt)
      (fun e => e.opReq.1 = 1 ∧ e.life.opRun = none ∧ opMode 1 e.life.state = .direct)
      (fun e => { e with life := { e.life with opRes := 1, opRun := some e.opReq, opKey := e.life.keyBuf } })) ∧
  (Makes (fun dt => .opLkey dt)
      (fun e => e.opReq.1 = 2 ∧ e.life.opRun = none ∧ opMode 2 e.life.state = .direct)
      (fun e => { e with life := { e.life with opRes := 1, opRun := some e.opReq, opKey := e.life.keyBuf } })) ∧
  (Makes (fun dt => .opImgkey dt)
      (fun e => e.opReq.1 = 3 ∧ e.life.opRun = none ∧ opMode 3 e.life.state = .direct)
      (fun e => { e with life := { e.life with opRes := 1, opRun := some e.opReq, opKey := e.life.keyBuf } })) ∧
  (Makes (fun dt => .opRevoke dt)
      (fun e => e.opReq.1 = 4 ∧ e.life.opRun = none ∧ opMode 4 e.life.state = .direct)
      (fun e => { e with life := { e.life with opRes := 1, opRun := some e.opReq, opKey := e.life.keyBuf } })) ∧
  (Makes (fun dt => .opMinver dt)
      (fun e => e.opReq.1 = 5 ∧ e.life.opRun = none ∧ opMode 5 e.life.state = .direct)
      (fun e => { e with life := { e.life with opRes := 1, opRun := some e.opReq, opKey := e.life.keyBuf } })) ∧
  (Makes (fun dt => .opStorewrite dt)
      (fun e => e.opReq.1 = 6 ∧ e.life.opRun = none ∧ opMode 6 e.life.state = .direct)
      (fun e => { e with life := { e.life with opRes := 1, opRun := some e.opReq, opKey := e.life.keyBuf } })) ∧
  (Makes (fun dt => .opPolicy dt)
      (fun e => e.opReq.1 = 7 ∧ e.life.opRun = none ∧ opMode 7 e.life.state = .direct)
      (fun e => { e with life := { e.life with opRes := 1, opRun := some e.opReq, opKey := e.life.keyBuf } })) ∧
  (Makes (fun dt => .opSigkey dt)
      (fun e => e.opReq.1 = 1 ∧ opMode 1 e.life.state = .refused)
      (fun e => { e with life := { e.life with opRes := 4 } })) ∧
  (Makes (fun dt => .opLkey dt)
      (fun e => e.opReq.1 = 2 ∧ opMode 2 e.life.state = .refused)
      (fun e => { e with life := { e.life with opRes := 4 } })) ∧
  (Makes (fun dt => .opImgkey dt)
      (fun e => e.opReq.1 = 3 ∧ opMode 3 e.life.state = .refused)
      (fun e => { e with life := { e.life with opRes := 4 } })) ∧
  (Makes (fun dt => .opRevoke dt)
      (fun e => e.opReq.1 = 4 ∧ opMode 4 e.life.state = .refused)
      (fun e => { e with life := { e.life with opRes := 4 } })) ∧
  (Makes (fun dt => .opMinver dt)
      (fun e => e.opReq.1 = 5 ∧ opMode 5 e.life.state = .refused)
      (fun e => { e with life := { e.life with opRes := 4 } })) ∧
  (Makes (fun dt => .opStorewrite dt)
      (fun e => e.opReq.1 = 6 ∧ opMode 6 e.life.state = .refused)
      (fun e => { e with life := { e.life with opRes := 4 } })) ∧
  (Makes (fun dt => .opPolicy dt)
      (fun e => e.opReq.1 = 7 ∧ opMode 7 e.life.state = .refused)
      (fun e => { e with life := { e.life with opRes := 4 } })) ∧
  (Makes (fun dt => .opMinver dt)
      (fun e => e.opReq.1 = 5 ∧ opMode 5 e.life.state = .signed)
      (fun e => { e with life := { e.life with opRes := 3 } })) ∧
  (Makes (fun dt => .opSigkey dt)
      (fun e => e.opReq.1 ≠ 1)
      (fun e => e)) ∧
  (Does (fun dt => .lcsportGo dt)
      (fun e => e.jtagAt 0x08 = true ∧ e.power.phase ≠ .memtest ∧ e.life.transition = none ∧ opMode e.opReq.1 e.life.state = .direct ∧ e.life.opRun = none)
      (fun e t => t.life = { e.life with opRes := 1, opRun := some e.opReq, opKey := e.life.keyBuf } ∧ t.jtag.lcsStatus = 0 ∧ t.otp = e.otp ∧ t.regs = e.regs)) ∧
  (∀ (arg : Nat), Does (fun dt => .lcsOperationDone dt false)
      (fun e => e.life.opRun = some (5, arg) ∧ arg ≤ 64 ∧ e.minVersion < arg)
      (fun e t => t.otp = { e.otp with minver := e.otp.minver ||| BitVec.ofNat 64 (2 ^ arg - 1) } ∧ t.life = { e.life with opRes := 2, opRun := none, keyBuf := List.replicate 64 0, opKey := [] } ∧ t.store = e.store ∧ t.regs = e.regs)) ∧
  (∀ (arg : Nat), Does (fun dt => .lcsOperationDone dt true)
      (fun e => e.life.opRun = some (5, arg) ∧ arg ≤ 64 ∧ e.minVersion < arg)
      (fun e t => t.otp = e.otp ∧ t.life = { e.life with opRes := 8, opRun := none, keyBuf := List.replicate 64 0, opKey := [] } ∧ t.store = e.store ∧ t.regs = e.regs)) ∧
  (∀ (arg : Nat), Does (fun dt => .lcsOperationDone dt false)
      (fun e => e.life.opRun = some (7, arg) ∧ arg ≤ 0x1FF)
      (fun e t => t.otp = { e.otp with nvmBoot := e.otp.nvmBoot ||| BitVec.ofNat 8 arg, noenc := e.otp.noenc || arg.testBit 8 } ∧ t.life = { e.life with opRes := 2, opRun := none, keyBuf := List.replicate 64 0, opKey := [] } ∧ t.store = e.store)) ∧
  (∀ (arg : Nat), Does (fun dt => .lcsOperationDone dt false)
      (fun e => e.life.opRun = some (4, arg) ∧ arg ≤ 3 ∧ e.life.state = .blank)
      (fun e t => t.otp = { e.otp with sigkey := e.otp.sigkey.set arg { e.otp.sigkey.getD arg {} with revoke := true } } ∧ t.life = { e.life with opRes := 2, opRun := none, keyBuf := List.replicate 64 0, opKey := [] } ∧ t.store = e.store)) ∧
  (∀ (arg : Nat), Does (fun dt => .lcsOperationDone dt false)
      (fun e => e.life.opRun = some (1, arg) ∧ arg ≤ 3 ∧ keyOnCurve e.life.opKey = true ∧ e.sigStatus arg = .empty)
      (fun e t => t.otp = { e.otp with sigkey := e.otp.sigkey.set arg { bytes := e.life.opKey, crc := crc32 e.life.opKey, bad := false } } ∧ t.life = { e.life with opRes := 2, opRun := none, keyBuf := List.replicate 64 0, opKey := [] } ∧ t.store = e.store)) ∧
  (Does (fun dt => .lcsOperationDone dt false)
      (fun e => e.life.opRun = some (2, 0) ∧ keyOnCurve e.life.opKey = true ∧ e.lkeyStatus = .empty)
      (fun e t => t.otp = { e.otp with lkey := { bytes := e.life.opKey, crc := crc32 e.life.opKey, bad := false } } ∧ t.life = { e.life with opRes := 2, opRun := none, keyBuf := List.replicate 64 0, opKey := [] } ∧ t.store = e.store)) ∧
  (Does (fun dt => .lcsOperationDone dt false)
      (fun e => e.life.opRun = some (3, 0) ∧ e.imgStatus e.otp.openN = .empty)
      (fun e t => t.otp = { e.otp with imgkey := e.otp.imgkey.set e.otp.openN { bytes := e.life.opKey.take 32, crc := crc32 (e.life.opKey.take 32), bad := false } } ∧ t.life = { e.life with opRes := 2, opRun := none, keyBuf := List.replicate 64 0, opKey := [] } ∧ t.store = e.store)) ∧
  (∀ (arg : Nat), Does (fun dt => .lcsOperationDone dt false)
      (fun e => e.life.opRun = some (6, arg) ∧ e.storeEntry arg = none)
      (fun e t => t.store.entries = e.storeEntries ++ [(arg, e.life.opKey.take 32)] ∧ t.store.epoch = e.otp.epoch ∧ t.otp = e.otp ∧ t.life = { e.life with opRes := 2, opRun := none, keyBuf := List.replicate 64 0, opKey := [] })) ∧
  (∀ (fail : Bool), Makes (fun dt => .lcsOperationDone dt fail)
      (fun e => e.life.opRun = none)
      (fun e => e))

/-- O50, The debug port: accesses, the halt, the memory test and the boundary register. DBGACC read, its instruction selected in
RUN, of an aligned SRAM address: the word there, no error, and nothing else changes. A write there: the word reads back the
value, every byte outside it as before, no error; registers and trackers stay. Of an unaligned address: the error bit, and
nothing else changes. With another instruction selected nothing changes. DEBUG_HALT with its instruction selected and no memory
test: the halt is set and nothing else changes. Its end clears the halt alone in the life cycle; the queue of NAND jobs, DMA,
registers and SRAM stay. MEMTEST with GO, its instruction selected, no memory test under way and an allowed target and
algorithm: the test state with no power entry, the test kept, not done, not failed, 0 failing words; SRAM and OTP stay. One not
allowed: done, failed, 0 failing words, and nothing else changes. With no GO nothing changes. MEMTEST_DONE in the test state:
done, failed when a word fails, the failing words up to 3FFF, and nothing else changes. Outside it nothing changes.
TAP_UPDATE_IR of a code other than DBGRST, the TAP powered: that instruction where the state allows it, else bypass (1F); only
the port's own state changes. Of a test-logic reset: IDCODE and an empty boundary register; only the port's own state changes.
EXTEST_UPDATE with EXTEST selected, or SAMPLE/PRELOAD (the model's choice, log entry 151), keeps its cells and changes nothing
else. With another instruction nothing changes. Each clause concludes that exec answers a next state, for all states and
operands under its conditions: dbgacc, debugHalt, memtest, memtestDone, tapUpdateIr, extestUpdate. -/
def Obligations.DebugPort : Prop :=
  (∀ (addr : BitVec 24) (value : Word), Does (fun dt => .dbgacc dt false addr value)
      (fun e => e.jtagAt 0x09 = true ∧ e.running = true ∧ inSram addr.toNat = true ∧ addr.toNat % 4 = 0)
      (fun e t => t.jtag.accData = e.sramWord addr.toNat ∧ t.jtag.accError = false ∧ t = { e with jtag := t.jtag })) ∧
  (∀ (addr : BitVec 24) (value : Word), Does (fun dt => .dbgacc dt true addr value)
      (fun e => e.jtagAt 0x09 = true ∧ e.running = true ∧ inSram addr.toNat = true ∧ addr.toNat % 4 = 0)
      (fun e t => t.sramWord addr.toNat = value ∧ (∀ b, b < addr.toNat ∨ addr.toNat + 4 ≤ b → t.sramByte b = e.sramByte b) ∧ t.jtag.accError = false ∧ t.regs = e.regs ∧ t.wheels = e.wheels)) ∧
  (∀ (write : Bool) (addr : BitVec 24) (value : Word), Makes (fun dt => .dbgacc dt write addr value)
      (fun e => e.jtagAt 0x09 = true ∧ e.running = true ∧ addr.toNat % 4 ≠ 0)
      (fun e => { e with jtag := { e.jtag with accError := true } })) ∧
  (∀ (write : Bool) (addr : BitVec 24) (value : Word), Makes (fun dt => .dbgacc dt write addr value)
      (fun e => e.jtag.ir ≠ 0x09)
      (fun e => e)) ∧
  (Makes (fun dt => .debugHalt dt true)
      (fun e => e.jtagAt 0x0A = true ∧ e.power.phase ≠ .memtest)
      (fun e => { e with life := { e.life with halted := true } })) ∧
  (Does (fun dt => .debugHalt dt false)
      (fun e => e.jtagAt 0x0A = true ∧ e.power.phase ≠ .memtest)
      (fun e t => t.life = { e.life with halted := false } ∧ t.nand.jobs = e.nand.jobs ∧ t.dma = e.dma ∧ t.regs = e.regs ∧ t.sram = e.sram)) ∧
  (∀ (target alg : BitVec 4), Does (fun dt => .memtest dt target alg true)
      (fun e => e.jtagAt 0x0B = true ∧ e.power.phase ≠ .memtest ∧ memtestAllowed target.toNat alg.toNat e.life.state = true)
      (fun e t => t.power.phase = .memtest ∧ t.power.entry = none ∧ t.jtag.test = some (target.toNat, alg.toNat) ∧ t.jtag.done = false ∧ t.jtag.fail = false ∧ t.jtag.failing = 0 ∧ t.sram = e.sram ∧ t.otp = e.otp)) ∧
  (∀ (target alg : BitVec 4), Makes (fun dt => .memtest dt target alg true)
      (fun e => e.jtagAt 0x0B = true ∧ e.power.phase ≠ .memtest ∧ memtestAllowed target.toNat alg.toNat e.life.state = false)
      (fun e => { e with jtag := { e.jtag with done := true, fail := true, failing := 0 } })) ∧
  (∀ (target alg : BitVec 4), Makes (fun dt => .memtest dt target alg false)
      (fun e => True)
      (fun e => e)) ∧
  (∀ (failing : Nat), Makes (fun dt => .memtestDone dt failing)
      (fun e => e.power.phase = .memtest ∧ e.jtag.test.isSome = true)
      (fun e => { e with jtag := { e.jtag with test := none, done := true, fail := decide (failing ≠ 0), failing := Nat.min 0x3FFF failing } })) ∧
  (∀ (failing : Nat), Makes (fun dt => .memtestDone dt failing)
      (fun e => e.power.phase ≠ .memtest)
      (fun e => e)) ∧
  (∀ (code : BitVec 5), Does (fun dt => .tapUpdateIr dt (some code))
      (fun e => e.tapOn = true ∧ code ≠ 0x0C)
      (fun e t => t.jtag.ir = (if jtagAllowed code.toNat e.life.state then code.toNat else 0x1F) ∧ t = { e with jtag := t.jtag })) ∧
  (Does (fun dt => .tapUpdateIr dt none)
      (fun e => e.tapOn = true)
      (fun e t => t.jtag.ir = 0x02 ∧ t.jtag.boundary = [] ∧ t = { e with jtag := t.jtag })) ∧
  (∀ (cells : List (Nat × Bool)), Makes (fun dt => .extestUpdate dt cells)
      (fun e => e.jtagAt 0x00 = true ∨ e.jtagAt 0x01 = true)
      (fun e => { e with jtag := { e.jtag with boundary := cells } })) ∧
  (∀ (cells : List (Nat × Bool)), Makes (fun dt => .extestUpdate dt cells)
      (fun e => e.jtag.ir ≠ 0 ∧ e.jtag.ir ≠ 1)
      (fun e => e))

/-- O51, The temperature of each second, the clear of HLT_CLR, and the periodic record. HEALTH_TEMP_READ in RUN with an image
loaded, a second after the last: that temperature as health and die temperature, the maximum following it, run time one second
up, life grown by the rate of the band with its remainder kept, the next read a second later; SRAM, trackers and power stay.
Before its second, outside RUN or with no image nothing changes. HLT_CLR in RUN outside SCRAP, with a wrong key, or for the
slices where they may not be cleared: only its refusal bit is set. With the key, no slices named and no wheel gone dead in this
cycle: the named wheels are dead no more, the slices as they were; SRAM and trackers stay, no bus error. With the slices named
where they may be cleared, and neither a wheel nor a slice gone in this cycle: the named wheels and all slices cleared; SRAM
stays, no bus error. HEALTH_RECORD_WRITE due in RUN with an image loaded, the cave read-only: the next one HLTWR minutes later,
STOREFAIL set; the cave, other registers and SRAM stay. While the cave mounts: the next one as far away, the record queued;
registers and SRAM stay. Before it is due nothing changes. Each clause concludes that exec answers a next state, for all states
and operands under its conditions: healthTempRead, hltClr, healthRecordWrite. -/
def Obligations.HealthCommands : Prop :=
  (∀ (centi : Int), Does (fun dt => .healthTempRead dt centi)
      (fun e => e.running = true ∧ e.boot.loaded = true ∧ e.health.tempAt + 32768 ≤ e.lf)
      (fun e t => t.health.tj = centi ∧ t.health.tempAt = e.health.tempAt + 32768 ∧ t.health.tjDie = centi ∧ t.health.tjMax = (if e.health.tjMax < centi then centi else e.health.tjMax) ∧ t.health.runSec = satAdd 0xFFFFFFFF e.health.runSec 1 ∧ t.health.lifeAcc = Nat.min 0xFFFFFFFF (e.health.lifeAcc + (lifeRate (lifeBand centi) * 32768 + e.health.lrem) / 1966080) ∧ t.health.lrem = (lifeRate (lifeBand centi) * 32768 + e.health.lrem) % 1966080 ∧ t.sram = e.sram ∧ t.wheels = e.wheels ∧ t.power = e.power)) ∧
  (∀ (centi : Int), Makes (fun dt => .healthTempRead dt centi)
      (fun e => e.running = false ∨ e.boot.loaded = false ∨ e.lf < e.health.tempAt + 32768)
      (fun e => e)) ∧
  (∀ (m : Master) (value : Word), Does (fun dt => .hltClr dt m value)
      (fun e => e.running = true ∧ e.life.state ≠ .scrap ∧ (fieldOf value 31 16 ≠ 0x4845 ∨ (bitOf value 1 = true ∧ e.sliceClearable = false)))
      (fun e t => t.bit 0x100068 1 = true ∧ t = { e with regs := t.regs, setAt := t.setAt, setNow := t.setNow, busRead := 0, busError := false } ∧ (∀ a, a ≠ 0x100068 → t.reg a = e.reg a))) ∧
  (∀ (m : Master) (value : Word), Does (fun dt => .hltClr dt m value)
      (fun e => e.running = true ∧ e.life.state ≠ .scrap ∧ fieldOf value 31 16 = 0x4845 ∧ bitOf value 1 = false ∧ e.boot.loaded = true ∧ e.noteOf 0x100010 = none)
      (fun e t => t.health.deadW = e.health.deadW &&& (15 - fieldOf value 11 8) ∧ t.health.retA = e.health.retA ∧ t.health.retB = e.health.retB ∧ t.health.slice = e.health.slice ∧ t.sram = e.sram ∧ t.wheels = e.wheels ∧ t.busError = false)) ∧
  (∀ (m : Master) (value : Word), Does (fun dt => .hltClr dt m value)
      (fun e => e.running = true ∧ e.life.state ≠ .scrap ∧ fieldOf value 31 16 = 0x4845 ∧ bitOf value 1 = true ∧ e.sliceClearable = true ∧ e.boot.loaded = true ∧ e.noteOf 0x100010 = none ∧ e.noteOf 0x10000C = none)
      (fun e t => t.health.deadW = e.health.deadW &&& (15 - fieldOf value 11 8) ∧ t.health.retA = 0 ∧ t.health.retB = 0 ∧ t.health.slice = false ∧ t.sram = e.sram ∧ t.busError = false)) ∧
  (Does (fun dt => .healthRecordWrite dt)
      (fun e => e.running = true ∧ e.boot.loaded = true ∧ e.health.writeAt ≤ e.now ∧ e.cave.mode = .readonly)
      (fun e t => t.health.writeAt = e.now + secAng (60 * e.fld 0x100028 7 0) ∧ t.bit 0x100068 0 = true ∧ t.cave = e.cave ∧ (∀ a, a ≠ 0x100068 → t.reg a = e.reg a) ∧ t.sram = e.sram)) ∧
  (Does (fun dt => .healthRecordWrite dt)
      (fun e => e.running = true ∧ e.boot.loaded = true ∧ e.health.writeAt ≤ e.now ∧ e.cave.mode = .mounting ∧ e.healthBody.length ≤ 8160)
      (fun e t => t.health.writeAt = e.now + secAng (60 * e.fld 0x100028 7 0) ∧ (∃ q ∈ t.cave.recQueue, q.kind = 3 ∧ q.index = 0) ∧ t.regs = e.regs ∧ t.sram = e.sram)) ∧
  (Makes (fun dt => .healthRecordWrite dt)
      (fun e => e.running = false ∨ e.boot.loaded = false ∨ e.now < e.health.writeAt)
      (fun e => e))

/-- O52, VAON still up 100 ms after SHIPOFF rose: SHIPOFF falls and the power-on sequence starts from PD1. 100 ms (3277 CLK_LF
periods) after SHIPOFF rose, with VAON still there, SHIPOFF is low, MAINEN is high, the part is in start-up with PD0 alone
ready, or with PD1 coming up where VDD5 and RSTN already allow it, and RSTCAUSE has gained its ship-failure bit. Before that
moment nothing changes. Each clause concludes that exec answers a next state, for all states and operands under its conditions:
shipFailure. -/
def Obligations.ShipFailure : Prop :=
  (Does (fun dt => .shipFailure dt)
      (fun e => e.power.phase = .shipping ∧ e.power.shipAt + 3277 ≤ e.lf)
      (fun e t => t.power.shipoff = false ∧ t.power.mainen = true ∧ t.power.phase = .startup ∧ t.reg 0x20 = e.reg 0x20 ||| 0x10 ∧ (e.power.vdd5Ok = true ∧ e.power.rstLow = false → t.power.domRdy = 0x1803 ∧ t.boot.stage = .nandWait) ∧ (e.power.vdd5Ok = false ∨ e.power.rstLow = true → t.power.domRdy = 1 ∧ t.boot.stage = .supply))) ∧
  (Makes (fun dt => .shipFailure dt)
      (fun e => e.power.phase ≠ .shipping ∨ e.lf < e.power.shipAt + 3277)
      (fun e => e))

/-- O53, A request that arrives while an entry is in progress starts nothing and is answered with BUSY. A host request for STANDBY
or SHIP, and the idle condition of AUTOSBY, start an entry with RESULT 1 when nothing refuses them (the host request leaving the
enable of AUTOSBY as it was); the same requests while an entry is in progress set RESULT to BUSY (7) and leave that entry, and
everything else but the idle clock of AUTOSBY, as they were. Each clause concludes that exec answers a next state, for all
states and operands under its conditions: standbyRequest, shipRequest, autosbyIdle. -/
def Obligations.SecondRequestIsBusy : Prop :=
  (Makes (fun dt => .standbyRequest dt 0xA5C3)
      (fun e => e.running = true ∧ e.power.lfPwr = [] ∧ e.entering = true)
      (fun e => { e with power := { e.power with result := 7 } })) ∧
  (Makes (fun dt => .shipRequest dt 0xA5C3)
      (fun e => e.running = true ∧ e.power.lfPwr = [] ∧ e.entering = true)
      (fun e => { e with power := { e.power with result := 7 } })) ∧
  (∀ (since : Nat), Makes (fun dt => .autosbyIdle dt)
      (fun e => e.running = true ∧ e.bit 0x110008 4 = true ∧ e.idleSince = some since ∧ since + secAng (e.fld 0x110008 15 8) ≤ e.now ∧ e.entering = true)
      (fun e => { e with power := { e.power with result := 7, activeAt := e.now } })) ∧
  (Does (fun dt => .standbyRequest dt 0xA5C3)
      (fun e => e.running = true ∧ e.power.lfPwr = [] ∧ e.requestRefusal false true = none)
      (fun e t => t.entering = true ∧ t.power.result = 1 ∧ t.bit 0x110008 4 = e.bit 0x110008 4)) ∧
  (∀ (since : Nat), Does (fun dt => .autosbyIdle dt)
      (fun e => e.running = true ∧ e.bit 0x110008 4 = true ∧ e.idleSince = some since ∧ since + secAng (e.fld 0x110008 15 8) ≤ e.now ∧ e.requestRefusal false true = none)
      (fun e t => t.entering = true ∧ t.power.result = 1))

/-- O54, An ACK frees the sent notices up to its number, or is counted; nothing answers it. With the ring a run of sent notices, of
which the last alone has number m, followed by others, ACK m takes the run out and keeps the others in their order, in front of
whatever the acknowledgement itself gives rise to; the count of retries is 0, and the last response, the response cache and
LNK_RXIGN stay. An m that no sent notice has changes nothing but LNK_RXIGN.BADACK. Neither makes a response. (In a CLK_SYS cycle
in which no notice has arisen before it: `cycIn`.) Each clause concludes that exec answers a next state, for all states and
operands under its conditions: ack. -/
def Obligations.AcknowledgedNoticesAreFreed : Prop :=
  (∀ (m : BitVec 16) (old rest : List Notice) (n : Notice), Does (fun dt => .ack dt m)
      (fun e => e.online = true ∧ e.link.cycIn = [] ∧ e.link.ring = old ++ n :: rest ∧ (∀ x ∈ old, x.sent = true ∧ x.num ≠ m.toNat) ∧ n.sent = true ∧ n.num = m.toNat)
      (fun e t => (t.link.ring.map (fun x => x.num)).take rest.length = rest.map (fun x => x.num) ∧ t.link.retry = 0 ∧ t.link.lastResp = e.link.lastResp ∧ t.link.cache = e.link.cache ∧ t.reg 0x10038 = e.reg 0x10038)) ∧
  (∀ (m : BitVec 16), Makes (fun dt => .ack dt m)
      (fun e => e.online = true ∧ e.link.cycIn = [] ∧ (∀ x ∈ e.link.ring, x.sent = true → x.num ≠ m.toNat))
      (fun e => e.satInc 0x10038 31 16))

/-- O55, The response cache holds SEQ, OP and response of the last executed command. When a command is answered with BUSY (02),
FETCHING (03), BUSY_MEDIA (04) or SEQ_CONFLICT (13), the response cache stays as it was; with any other status it holds the SEQ,
the OP and the frame of that response, unless the command has begun a lifecycle transition, which wipes it (R556). While a
command still waits for the rest of its writes it is not answered, and the cache stays. -/
def Obligations.ResponseCacheHolds : Prop :=
  ∀ (s : State) (seq op : Nat) (r : Reply),
    (r.rest = none →
      ((r.status = 0x02 ∨ r.status = 0x03 ∨ r.status = 0x04 ∨ r.status = 0x13) → (s.respond seq op r).link.cache = r.next.link.cache) ∧
      (s.life.transition = none → r.next.life.transition ≠ none → (s.respond seq op r).link.cache = r.next.link.cache) ∧
      (r.status ≠ 0x02 ∧ r.status ≠ 0x03 ∧ r.status ≠ 0x04 ∧ r.status ≠ 0x13 ∧ (s.life.transition ≠ none ∨ r.next.life.transition = none) →
        (s.respond seq op r).link.cache =
          some { seq := seq, op := op, frame := responseFrame s.ringPending s.boot.recovery seq op r.status r.detail r.data })) ∧
    (r.rest ≠ none → (s.respond seq op r).link.cache = r.next.link.cache)

/-- O56, A capture takes COUNT whatever is held, OVR tells that a capture was lost, a read of CAPLO clears CAPF. A capture event of
a released timer, with no commit at this moment, puts COUNT into CAP and sets CAPF, and raises OVR when CAPF was 1 already; when
it was 0 nothing else changes. SRAM and event outputs stay. An unreleased timer captures nothing. A read of CAPLO by either
master clears CAPF and changes nothing else but that master's latch and what was read. Each clause concludes that exec answers a
next state, for all states and operands under its conditions: timerCapture, timerLatchedRead. -/
def Obligations.CaptureOrder : Prop :=
  (∀ (n : Fin 16) (pin : Option Bool) (c : Nat), Does (fun dt => .timerCapture dt n pin)
      (fun e => e.running = true ∧ e.stepTwo = e ∧ (e.timers[n]).capDue = [c] ∧ c ≤ e.now ∧ (e.timers[n]).run = true)
      (fun e t => t.timers = e.timers.set n { e.timers[n] with cap := (e.timers[n]).count, capf := true, capDue := [], ntcAt := (t.timers[n]).ntcAt } ∧ ((e.timers[n]).capf = true → t.bit (tmrBase n + 0x2C) 3 = true ∧ t.reg (tmrBase n + 0x2C) = e.reg (tmrBase n + 0x2C) ||| 8) ∧ ((e.timers[n]).capf = false → t = { e with timers := t.timers } ∧ (t.timers[n]).ntcAt = (e.timers[n]).ntcAt) ∧ t.sram = e.sram ∧ t.outs = e.outs)) ∧
  (∀ (n : Fin 16) (pin : Option Bool) (c : Nat), Makes (fun dt => .timerCapture dt n pin)
      (fun e => e.running = true ∧ e.stepTwo = e ∧ (e.timers[n]).capDue = [c] ∧ c ≤ e.now ∧ (e.timers[n]).run = false)
      (fun e => { e with timers := e.timers.set n { e.timers[n] with capDue := [] } })) ∧
  (∀ (m : Master) (n : Fin 16), Makes (fun dt => .timerLatchedRead dt m n true)
      (fun e => e.running = true ∧ e.life.state ≠ .scrap)
      (fun e => { (e.setCopy m { e.copyOf m with rlatch := some (true, n.val, (e.timers[n]).cap / 2 ^ 32) }) with timers := e.timers.set n { e.timers[n] with capf := false }, busRead := BitVec.ofNat 32 (e.timers[n]).cap, busError := false }))

/-- O57, LOOP opens a loop of COUNT runs, ENDLOOP goes back while runs remain. A channel about to execute LOOP opens a loop whose
body begins at the next instruction, with COUNT runs, or without end when COUNT is 0. One about to execute ENDLOOP goes to the
first instruction of the innermost loop, with one run less left, while runs remain or the loop has no end; after the last run
the loop closes and the next instruction follows. Each clause concludes that exec answers a next state, for all states and
operands under its conditions: dmaLoop, dmaEndloop. -/
def Obligations.LoopsOfAChannel : Prop :=
  (∀ (n : Fin 16), Makes (fun dt => .dmaLoop dt n)
      (fun e => e.atOp n 2 = true)
      (fun e => e.setCh n { e.ch n with pc := (e.ch n).pc + 1, loops := { body := (e.ch n).pc + 1, left := (if fieldOf (e.progWord (e.ch n).pc) 15 0 = 0 then none else some (fieldOf (e.progWord (e.ch n).pc) 15 0)) } :: (e.ch n).loops })) ∧
  (∀ (n : Fin 16) (b k : Nat) (rest : List LoopFrame), Makes (fun dt => .dmaEndloop dt n)
      (fun e => e.atOp n 3 = true ∧ (e.ch n).loops = { body := b, left := some k } :: rest ∧ 2 ≤ k)
      (fun e => e.setCh n { e.ch n with pc := b, loops := { body := b, left := some (k - 1) } :: rest })) ∧
  (∀ (n : Fin 16) (b : Nat) (rest : List LoopFrame), Makes (fun dt => .dmaEndloop dt n)
      (fun e => e.atOp n 3 = true ∧ (e.ch n).loops = { body := b, left := none } :: rest)
      (fun e => e.setCh n { e.ch n with pc := b })) ∧
  (∀ (n : Fin 16) (b k : Nat) (rest : List LoopFrame), Makes (fun dt => .dmaEndloop dt n)
      (fun e => e.atOp n 3 = true ∧ (e.ch n).loops = { body := b, left := some k } :: rest ∧ k ≤ 1)
      (fun e => e.setCh n { e.ch n with pc := (e.ch n).pc + 1, loops := rest }))

/-- O58, RESUME puts a suspended or halted channel back to its beat, and is ignored in every other state. A write of 1 to RESUME
takes a SUSPENDED or HALTED channel to RUN with the very beat it stopped at as its next one, its holding register, loops and
address registers as they were, and for a SUSPENDED one its count of retries. In IDLE, RUN, WAIT and DONE it changes nothing.
Each clause concludes that exec answers a next state, for all states and operands under its conditions: dmaResume. -/
def Obligations.ResumeFromSuspension : Prop :=
  (∀ (n : Fin 16), Does (fun dt => .dmaResume dt n)
      (fun e => e.running = true ∧ e.life.state ≠ .scrap ∧ ((e.ch n).state = .suspended ∨ (e.ch n).state = .halted))
      (fun e t => t = { e.setCh n { e.ch n with state := .run, tries := (if (e.ch n).state = .halted then 0 else (e.ch n).tries) } with busRead := 0, busError := false } ∧ t.nextBeat n = e.nextBeat n ∧ (t.ch n).state = .run)) ∧
  (∀ (n : Fin 16), Makes (fun dt => .dmaResume dt n)
      (fun e => e.running = true ∧ e.life.state ≠ .scrap ∧ ((e.ch n).state = .idle ∨ (e.ch n).state = .run ∨ (e.ch n).state = .wait ∨ (e.ch n).state = .done))
      (fun e => { e with busRead := 0, busError := false }))

/-- O59, HLT_LEVEL.LEVEL follows the causes at every read. A read of HLT_LEVEL answers LEVEL 2 (REPLACE) while a slice, a dead
wheel, the spare pool, life or the model is a REPLACE cause, 1 (ADVISE) while none is and an ADVISE bit is set, and 0 (OK)
otherwise; the read changes nothing. -/
def Obligations.HealthLevel : Prop :=
  ∀ (e : State) (m : Master), e.running = true → e.life.state ≠ .scrap →
    fieldOf (e.busRead' m 0x100000).busRead 1 0 =
      (if e.health.slice = true ∨ e.health.deadW ≠ 0 ∨ e.health.sparePool = true ∨ e.health.life = true ∨ e.health.model = true then 2
       else if e.reg 0x100004 ≠ 0 then 1 else 0) ∧
    e.busRead' m 0x100000 = { e with busRead := (e.busRead' m 0x100000).busRead, busError := false }

/-- O60, A read of AON, LCK or PWR is served from the mirror that CLK_LF edges take. The mirror, once taken, holds at every address
of the three blocks up to the last register the word that the block shows the link. In RUN outside SCRAP a read by either master
of any word of the blocks but the first one answers the mirror's word with no bus error; it changes no other register word, and
nothing else at all unless the word has RC fields (AON_EVOVF, LCK_CNT). -/
def Obligations.ReadsOfClkLfBlocks : Prop :=
  (∀ (e : State) (a : Nat), a ∈ mirrorAddrs → Sparse.get resetWord e.takeMirror.mirror a = e.view .link a) ∧
  (∀ (e : State) (m : Master) (a : Nat), e.running = true → e.life.state ≠ .scrap → inPd0 a = true → a % 0x10000 ≠ 0 →
    (e.busRead' m a).busError = false ∧ (e.busRead' m a).busRead = Sparse.get resetWord e.mirror a ∧
    (∀ b, b ≠ a → (e.busRead' m a).reg b = e.reg b) ∧
    (a ≠ 0xD001C → a ≠ 0xE001C → e.busRead' m a = { e with busRead := Sparse.get resetWord e.mirror a, busError := false }))
end

