-- ==== Sys2Proof/Laws/Sparse.lean ====
section
/-!
SUPPORT. The laws of a sparse store: a write reads back, leaves every other address, and keeps the canonical form.
-/

namespace Sys2Proof.Machine

set_option Elab.async false
set_option linter.all false

variable {α : Type}

/-- Every address of a list in canonical form from `lo` is above `lo`. -/
theorem Sparse.wfFrom_lt [DecidableEq α] {d : Nat → α} {lo : Nat} {l : List (Nat × α)} (h : Sparse.wfFrom d (some lo) l = true)
    {p : Nat × α} (hp : p ∈ l) : lo < p.1 := by
  induction l generalizing lo with
  | nil => cases hp
  | cons q t ih =>
    simp only [Sparse.wfFrom, Bool.and_eq_true, decide_eq_true_eq] at h
    rcases List.mem_cons.1 hp with rfl | hp
    · exact h.1.1
    · exact Nat.lt_trans h.1.1 (ih h.2 hp)

/-- A lower bound may be lowered. -/
theorem Sparse.wfFrom_mono [DecidableEq α] {d : Nat → α} {lo : Option Nat} {lo' : Option Nat} {l : List (Nat × α)}
    (hlo : ∀ x, lo' = some x → ∀ p ∈ l, x < p.1) (h : Sparse.wfFrom d lo l = true) : Sparse.wfFrom d lo' l = true := by
  cases l with
  | nil => rfl
  | cons q t =>
    simp only [Sparse.wfFrom, Bool.and_eq_true, decide_eq_true_eq] at h ⊢
    refine ⟨⟨?_, h.1.2⟩, h.2⟩
    cases lo' with
    | none => rfl
    | some x => exact decide_eq_true (hlo x rfl q (by simp))

theorem Sparse.wf_tail [DecidableEq α] {d : Nat → α} {lo : Option Nat} {q : Nat × α} {t : List (Nat × α)}
    (h : Sparse.wfFrom d lo (q :: t) = true) : Sparse.wfFrom d (some q.1) t = true := by
  simp only [Sparse.wfFrom, Bool.and_eq_true] at h; exact h.2

/-- An address below every listed one reads as the default. -/
theorem Sparse.get_of_lt {d : Nat → α} {l : List (Nat × α)} {a : Nat} (h : ∀ p ∈ l, a < p.1) : Sparse.get d l a = d a := by
  induction l with
  | nil => rfl
  | cons q t ih =>
    have := h q (by simp)
    simp only [Sparse.get]
    rw [if_neg (by omega), ih (fun p hp => h p (by simp [hp]))]

/-- A listed value reads back. -/
@[simp] theorem Sparse.get_insert_same (d : Nat → α) (l : List (Nat × α)) (a : Nat) (v : α) : Sparse.get d (Sparse.insert l a v) a = v := by
  induction l with
  | nil => simp [Sparse.insert, Sparse.get]
  | cons q t ih =>
    simp only [Sparse.insert]
    split
    · simp [Sparse.get]
    · split
      · simp [Sparse.get]
      · simp [Sparse.get, *]

/-- A write of one address leaves every other. -/
theorem Sparse.get_insert_other (d : Nat → α) (l : List (Nat × α)) {a b : Nat} (v : α) (h : b ≠ a) :
    Sparse.get d (Sparse.insert l a v) b = Sparse.get d l b := by
  induction l with
  | nil => simp [Sparse.insert, Sparse.get, h]
  | cons q t ih =>
    simp only [Sparse.insert]
    split
    · simp [Sparse.get, h]
    · split
      · rename_i h1 h2
        subst h2
        simp [Sparse.get, h]
      · simp [Sparse.get, ih]

theorem Sparse.get_erase_other (d : Nat → α) (l : List (Nat × α)) {a b : Nat} (h : b ≠ a) :
    Sparse.get d (Sparse.erase l a) b = Sparse.get d l b := by
  induction l with
  | nil => rfl
  | cons q t ih =>
    simp only [Sparse.erase]
    split
    · rename_i h1
      subst h1
      simp [Sparse.get, h, ih]
    · simp [Sparse.get, ih]

/-- An address left out reads as the default. -/
theorem Sparse.get_erase_same (d : Nat → α) (l : List (Nat × α)) (a : Nat) : Sparse.get d (Sparse.erase l a) a = d a := by
  induction l with
  | nil => rfl
  | cons q t ih =>
    simp only [Sparse.erase]
    split
    · exact ih
    · simp [Sparse.get, *]

theorem Sparse.mem_erase {l : List (Nat × α)} {a : Nat} {p : Nat × α} (h : p ∈ Sparse.erase l a) : p ∈ l := by
  induction l with
  | nil => exact h
  | cons q t ih =>
    simp only [Sparse.erase] at h
    split at h
    · exact List.mem_cons_of_mem _ (ih h)
    · rcases List.mem_cons.1 h with rfl | h
      · simp
      · exact List.mem_cons_of_mem _ (ih h)

theorem Sparse.wfFrom_erase [DecidableEq α] {d : Nat → α} {lo : Option Nat} {l : List (Nat × α)} (h : Sparse.wfFrom d lo l = true) (a : Nat) :
    Sparse.wfFrom d lo (Sparse.erase l a) = true := by
  induction l generalizing lo with
  | nil => rfl
  | cons q t ih =>
    have ht := Sparse.wf_tail h
    simp only [Sparse.erase]
    split
    · refine Sparse.wfFrom_mono (fun x hx p hp => ?_) (ih ht)
      subst hx
      exact Sparse.wfFrom_lt h (List.mem_cons_of_mem _ (Sparse.mem_erase hp))
    · simp only [Sparse.wfFrom, Bool.and_eq_true] at h ⊢
      exact ⟨h.1, ih ht⟩

theorem Sparse.wfFrom_insert [DecidableEq α] {d : Nat → α} {lo : Option Nat} {l : List (Nat × α)} {a : Nat} {v : α} (hv : v ≠ d a)
    (hlo : ∀ x, lo = some x → x < a) (h : Sparse.wfFrom d lo l = true) : Sparse.wfFrom d lo (Sparse.insert l a v) = true := by
  have head : ∀ lo' : Option Nat, (∀ x, lo' = some x → x < a) →
      (match lo' with | none => true | some x => decide (x < a)) = true := by
    intro lo' h'
    cases lo' with
    | none => rfl
    | some x => exact decide_eq_true (h' x rfl)
  induction l generalizing lo with
  | nil =>
    simp only [Sparse.insert, Sparse.wfFrom, Bool.and_eq_true, decide_eq_true_eq, and_true]
    exact ⟨head lo hlo, hv⟩
  | cons q t ih =>
    have ht := Sparse.wf_tail h
    simp only [Sparse.insert]
    split
    · rename_i h1
      simp only [Sparse.wfFrom, Bool.and_eq_true, decide_eq_true_eq] at h ⊢
      exact ⟨⟨head lo hlo, hv⟩, ⟨h1, h.1.2⟩, h.2⟩
    · split
      · rename_i h1 h2
        subst h2
        simp only [Sparse.wfFrom, Bool.and_eq_true, decide_eq_true_eq] at h ⊢
        exact ⟨⟨h.1.1, hv⟩, h.2⟩
      · rename_i h1 h2
        simp only [Sparse.wfFrom, Bool.and_eq_true] at h ⊢
        refine ⟨h.1, ih (fun x hx => ?_) ht⟩
        cases hx
        omega

/-- A write keeps the canonical form. -/
theorem Sparse.wf_set [DecidableEq α] {d : Nat → α} {l : List (Nat × α)} (h : Sparse.wf d l = true) (a : Nat) (v : α) :
    Sparse.wf d (Sparse.set d l a v) = true := by
  unfold Sparse.set Sparse.wf at *
  split
  · exact Sparse.wfFrom_erase h a
  · exact Sparse.wfFrom_insert ‹_› (fun x hx => by cases hx) h

/-- A write reads back. -/
@[simp] theorem Sparse.get_set_same [DecidableEq α] (d : Nat → α) (l : List (Nat × α)) (a : Nat) (v : α) :
    Sparse.get d (Sparse.set d l a v) a = v := by
  unfold Sparse.set
  split
  · rename_i hv
    exact hv ▸ Sparse.get_erase_same d l a
  · simp

/-- A write of one address leaves every other. -/
theorem Sparse.get_set_other [DecidableEq α] (d : Nat → α) (l : List (Nat × α)) {a b : Nat} (v : α) (h : b ≠ a) :
    Sparse.get d (Sparse.set d l a v) b = Sparse.get d l b := by
  unfold Sparse.set
  split
  · exact Sparse.get_erase_other d l h
  · exact Sparse.get_insert_other d l v h

/-- Leaving entries out keeps the canonical form. -/
theorem Sparse.wfFrom_filterMap [DecidableEq α] {d : Nat → α} {f : Nat × α → Option (Nat × α)}
    (hf : ∀ p q, f p = some q → q.1 = p.1 ∧ (p.2 ≠ d p.1 → q.2 ≠ d q.1)) {lo : Option Nat} {l : List (Nat × α)}
    (h : Sparse.wfFrom d lo l = true) : Sparse.wfFrom d lo (l.filterMap f) = true := by
  induction l generalizing lo with
  | nil => rfl
  | cons q t ih =>
    have ht := Sparse.wf_tail h
    rw [List.filterMap_cons]
    split
    · refine Sparse.wfFrom_mono (fun x hx p hp => ?_) (ih ht)
      subst hx
      obtain ⟨r, hr, hfr⟩ := List.mem_filterMap.1 hp
      exact (hf r p hfr).1 ▸ Sparse.wfFrom_lt h (List.mem_cons_of_mem _ hr)
    · rename_i r hr
      obtain ⟨h1, h2⟩ := hf q r hr
      simp only [Sparse.wfFrom, Bool.and_eq_true, decide_eq_true_eq] at h ⊢
      exact ⟨⟨h1 ▸ h.1.1, h2 h.1.2⟩, h1 ▸ ih ht⟩

theorem Sparse.wf_filter [DecidableEq α] {d : Nat → α} (p : Nat × α → Bool) {l : List (Nat × α)} (h : Sparse.wf d l = true) :
    Sparse.wf d (l.filter p) = true := by
  rw [← List.filterMap_eq_filter]
  refine Sparse.wfFrom_filterMap (fun q r hr => ?_) h
  simp only [Option.guard_eq_some_iff] at hr
  obtain ⟨rfl, -⟩ := hr
  exact ⟨rfl, id⟩

/-- Another default that agrees wherever the list has an entry keeps the form. -/
theorem Sparse.wfFrom_congr [DecidableEq α] {d d' : Nat → α} {lo : Option Nat} {l : List (Nat × α)} (hd : ∀ p ∈ l, d p.1 = d' p.1)
    (h : Sparse.wfFrom d lo l = true) : Sparse.wfFrom d' lo l = true := by
  induction l generalizing lo with
  | nil => rfl
  | cons q t ih =>
    simp only [Sparse.wfFrom, Bool.and_eq_true, decide_eq_true_eq] at h ⊢
    exact ⟨⟨h.1.1, (hd q (by simp)) ▸ h.1.2⟩, ih (fun p hp => hd p (by simp [hp])) h.2⟩

/-- A filtered list reads as it did at every address the filter keeps. -/
theorem Sparse.get_filter {d : Nat → α} {p : Nat → Bool} (l : List (Nat × α)) {a : Nat} (h : p a = true) :
    Sparse.get d (l.filter (fun q => p q.1)) a = Sparse.get d l a := by
  induction l with
  | nil => rfl
  | cons q t ih =>
    rw [List.filter_cons]
    by_cases hq : a = q.1
    · subst hq; simp [Sparse.get, h]
    · split
      · simp [Sparse.get, hq, ih]
      · simp [Sparse.get, hq, ih]

/-- A list whose every address the filter drops reads as the default there. -/
theorem Sparse.get_filter_out {d : Nat → α} {p : Nat → Bool} (l : List (Nat × α)) {a : Nat} (h : p a = false) :
    Sparse.get d (l.filter (fun q => p q.1)) a = d a := by
  induction l with
  | nil => rfl
  | cons q t ih =>
    rw [List.filter_cons]
    split
    · rename_i hq
      have : a ≠ q.1 := fun e => by subst e; simp [h] at hq
      simp [Sparse.get, this, ih]
    · exact ih

end Sys2Proof.Machine
end

