-- ==== Sys2Proof/Laws/State.lean ====
section
/-!
SUPPORT. The laws of State: for each named update and each field, what the field is after it; and that stored words and bytes read back.
-/

namespace Sys2Proof.Machine

set_option Elab.async false
set_option linter.all false

/-! ### Fields under the named updates -/

/-! #### setReg -/

@[simp] theorem State.setReg_regs (s : State) (a : Nat) (w : Word) : (s.setReg a w).regs = Sparse.set resetWord s.regs a w := rfl
@[simp] theorem State.setReg_now (s : State) (a : Nat) (w : Word) : (s.setReg a w).now = s.now := rfl
@[simp] theorem State.setReg_lf (s : State) (a : Nat) (w : Word) : (s.setReg a w).lf = s.lf := rfl
@[simp] theorem State.setReg_free (s : State) (a : Nat) (w : Word) : (s.setReg a w).free = s.free := rfl
@[simp] theorem State.setReg_pending (s : State) (a : Nat) (w : Word) : (s.setReg a w).pending = s.pending := rfl
@[simp] theorem State.setReg_sram (s : State) (a : Nat) (w : Word) : (s.setReg a w).sram = s.sram := rfl
@[simp] theorem State.setReg_sramGen (s : State) (a : Nat) (w : Word) : (s.setReg a w).sramGen = s.sramGen := rfl
@[simp] theorem State.setReg_power (s : State) (a : Nat) (w : Word) : (s.setReg a w).power = s.power := rfl
@[simp] theorem State.setReg_link (s : State) (a : Nat) (w : Word) : (s.setReg a w).link = s.link := rfl
@[simp] theorem State.setReg_cfg (s : State) (a : Nat) (w : Word) : (s.setReg a w).cfg = s.cfg := rfl
@[simp] theorem State.setReg_boot (s : State) (a : Nat) (w : Word) : (s.setReg a w).boot = s.boot := rfl
@[simp] theorem State.setReg_tnowBase (s : State) (a : Nat) (w : Word) : (s.setReg a w).tnowBase = s.tnowBase := rfl
@[simp] theorem State.setReg_wheels (s : State) (a : Nat) (w : Word) : (s.setReg a w).wheels = s.wheels := rfl
@[simp] theorem State.setReg_phases (s : State) (a : Nat) (w : Word) : (s.setReg a w).phases = s.phases := rfl
@[simp] theorem State.setReg_bias (s : State) (a : Nat) (w : Word) : (s.setReg a w).bias = s.bias := rfl
@[simp] theorem State.setReg_snapAt (s : State) (a : Nat) (w : Word) : (s.setReg a w).snapAt = s.snapAt := rfl
@[simp] theorem State.setReg_outs (s : State) (a : Nat) (w : Word) : (s.setReg a w).outs = s.outs := rfl
@[simp] theorem State.setReg_timers (s : State) (a : Nat) (w : Word) : (s.setReg a w).timers = s.timers := rfl
@[simp] theorem State.setReg_adcA (s : State) (a : Nat) (w : Word) : (s.setReg a w).adcA = s.adcA := rfl
@[simp] theorem State.setReg_adcB (s : State) (a : Nat) (w : Word) : (s.setReg a w).adcB = s.adcB := rfl
@[simp] theorem State.setReg_regA (s : State) (a : Nat) (w : Word) : (s.setReg a w).regA = s.regA := rfl
@[simp] theorem State.setReg_injA (s : State) (a : Nat) (w : Word) : (s.setReg a w).injA = s.injA := rfl
@[simp] theorem State.setReg_regB (s : State) (a : Nat) (w : Word) : (s.setReg a w).regB = s.regB := rfl
@[simp] theorem State.setReg_injB (s : State) (a : Nat) (w : Word) : (s.setReg a w).injB = s.injB := rfl
@[simp] theorem State.setReg_dma (s : State) (a : Nat) (w : Word) : (s.setReg a w).dma = s.dma := rfl
@[simp] theorem State.setReg_nand (s : State) (a : Nat) (w : Word) : (s.setReg a w).nand = s.nand := rfl
@[simp] theorem State.setReg_cave (s : State) (a : Nat) (w : Word) : (s.setReg a w).cave = s.cave := rfl
@[simp] theorem State.setReg_health (s : State) (a : Nat) (w : Word) : (s.setReg a w).health = s.health := rfl
@[simp] theorem State.setReg_bat (s : State) (a : Nat) (w : Word) : (s.setReg a w).bat = s.bat := rfl
@[simp] theorem State.setReg_fus (s : State) (a : Nat) (w : Word) : (s.setReg a w).fus = s.fus := rfl
@[simp] theorem State.setReg_rind (s : State) (a : Nat) (w : Word) : (s.setReg a w).rind = s.rind := rfl
@[simp] theorem State.setReg_lock (s : State) (a : Nat) (w : Word) : (s.setReg a w).lock = s.lock := rfl
@[simp] theorem State.setReg_life (s : State) (a : Nat) (w : Word) : (s.setReg a w).life = s.life := rfl
@[simp] theorem State.setReg_otp (s : State) (a : Nat) (w : Word) : (s.setReg a w).otp = s.otp := rfl
@[simp] theorem State.setReg_store (s : State) (a : Nat) (w : Word) : (s.setReg a w).store = s.store := rfl
@[simp] theorem State.setReg_jtag (s : State) (a : Nat) (w : Word) : (s.setReg a w).jtag = s.jtag := rfl
@[simp] theorem State.setReg_copyLink (s : State) (a : Nat) (w : Word) : (s.setReg a w).copyLink = s.copyLink := rfl
@[simp] theorem State.setReg_copyDma (s : State) (a : Nat) (w : Word) : (s.setReg a w).copyDma = s.copyDma := rfl
@[simp] theorem State.setReg_busRead (s : State) (a : Nat) (w : Word) : (s.setReg a w).busRead = s.busRead := rfl
@[simp] theorem State.setReg_busError (s : State) (a : Nat) (w : Word) : (s.setReg a w).busError = s.busError := rfl
@[simp] theorem State.setReg_setAt (s : State) (a : Nat) (w : Word) : (s.setReg a w).setAt = s.setAt := rfl
@[simp] theorem State.setReg_setNow (s : State) (a : Nat) (w : Word) : (s.setReg a w).setNow = s.setNow := rfl
@[simp] theorem State.setReg_mirror (s : State) (a : Nat) (w : Word) : (s.setReg a w).mirror = s.mirror := rfl

/-! #### clearWords -/

@[simp] theorem State.clearWords_now (s : State) (lo : Nat) (hi : Nat) : (s.clearWords lo hi).now = s.now := rfl
@[simp] theorem State.clearWords_lf (s : State) (lo : Nat) (hi : Nat) : (s.clearWords lo hi).lf = s.lf := rfl
@[simp] theorem State.clearWords_free (s : State) (lo : Nat) (hi : Nat) : (s.clearWords lo hi).free = s.free := rfl
@[simp] theorem State.clearWords_pending (s : State) (lo : Nat) (hi : Nat) : (s.clearWords lo hi).pending = s.pending := rfl
@[simp] theorem State.clearWords_sram (s : State) (lo : Nat) (hi : Nat) : (s.clearWords lo hi).sram = s.sram := rfl
@[simp] theorem State.clearWords_sramGen (s : State) (lo : Nat) (hi : Nat) : (s.clearWords lo hi).sramGen = s.sramGen := rfl
@[simp] theorem State.clearWords_power (s : State) (lo : Nat) (hi : Nat) : (s.clearWords lo hi).power = s.power := rfl
@[simp] theorem State.clearWords_link (s : State) (lo : Nat) (hi : Nat) : (s.clearWords lo hi).link = s.link := rfl
@[simp] theorem State.clearWords_cfg (s : State) (lo : Nat) (hi : Nat) : (s.clearWords lo hi).cfg = s.cfg := rfl
@[simp] theorem State.clearWords_boot (s : State) (lo : Nat) (hi : Nat) : (s.clearWords lo hi).boot = s.boot := rfl
@[simp] theorem State.clearWords_tnowBase (s : State) (lo : Nat) (hi : Nat) : (s.clearWords lo hi).tnowBase = s.tnowBase := rfl
@[simp] theorem State.clearWords_wheels (s : State) (lo : Nat) (hi : Nat) : (s.clearWords lo hi).wheels = s.wheels := rfl
@[simp] theorem State.clearWords_phases (s : State) (lo : Nat) (hi : Nat) : (s.clearWords lo hi).phases = s.phases := rfl
@[simp] theorem State.clearWords_bias (s : State) (lo : Nat) (hi : Nat) : (s.clearWords lo hi).bias = s.bias := rfl
@[simp] theorem State.clearWords_snapAt (s : State) (lo : Nat) (hi : Nat) : (s.clearWords lo hi).snapAt = s.snapAt := rfl
@[simp] theorem State.clearWords_outs (s : State) (lo : Nat) (hi : Nat) : (s.clearWords lo hi).outs = s.outs := rfl
@[simp] theorem State.clearWords_timers (s : State) (lo : Nat) (hi : Nat) : (s.clearWords lo hi).timers = s.timers := rfl
@[simp] theorem State.clearWords_adcA (s : State) (lo : Nat) (hi : Nat) : (s.clearWords lo hi).adcA = s.adcA := rfl
@[simp] theorem State.clearWords_adcB (s : State) (lo : Nat) (hi : Nat) : (s.clearWords lo hi).adcB = s.adcB := rfl
@[simp] theorem State.clearWords_regA (s : State) (lo : Nat) (hi : Nat) : (s.clearWords lo hi).regA = s.regA := rfl
@[simp] theorem State.clearWords_injA (s : State) (lo : Nat) (hi : Nat) : (s.clearWords lo hi).injA = s.injA := rfl
@[simp] theorem State.clearWords_regB (s : State) (lo : Nat) (hi : Nat) : (s.clearWords lo hi).regB = s.regB := rfl
@[simp] theorem State.clearWords_injB (s : State) (lo : Nat) (hi : Nat) : (s.clearWords lo hi).injB = s.injB := rfl
@[simp] theorem State.clearWords_dma (s : State) (lo : Nat) (hi : Nat) : (s.clearWords lo hi).dma = s.dma := rfl
@[simp] theorem State.clearWords_nand (s : State) (lo : Nat) (hi : Nat) : (s.clearWords lo hi).nand = s.nand := rfl
@[simp] theorem State.clearWords_cave (s : State) (lo : Nat) (hi : Nat) : (s.clearWords lo hi).cave = s.cave := rfl
@[simp] theorem State.clearWords_health (s : State) (lo : Nat) (hi : Nat) : (s.clearWords lo hi).health = s.health := rfl
@[simp] theorem State.clearWords_bat (s : State) (lo : Nat) (hi : Nat) : (s.clearWords lo hi).bat = s.bat := rfl
@[simp] theorem State.clearWords_fus (s : State) (lo : Nat) (hi : Nat) : (s.clearWords lo hi).fus = s.fus := rfl
@[simp] theorem State.clearWords_rind (s : State) (lo : Nat) (hi : Nat) : (s.clearWords lo hi).rind = s.rind := rfl
@[simp] theorem State.clearWords_lock (s : State) (lo : Nat) (hi : Nat) : (s.clearWords lo hi).lock = s.lock := rfl
@[simp] theorem State.clearWords_life (s : State) (lo : Nat) (hi : Nat) : (s.clearWords lo hi).life = s.life := rfl
@[simp] theorem State.clearWords_otp (s : State) (lo : Nat) (hi : Nat) : (s.clearWords lo hi).otp = s.otp := rfl
@[simp] theorem State.clearWords_store (s : State) (lo : Nat) (hi : Nat) : (s.clearWords lo hi).store = s.store := rfl
@[simp] theorem State.clearWords_jtag (s : State) (lo : Nat) (hi : Nat) : (s.clearWords lo hi).jtag = s.jtag := rfl
@[simp] theorem State.clearWords_copyLink (s : State) (lo : Nat) (hi : Nat) : (s.clearWords lo hi).copyLink = s.copyLink := rfl
@[simp] theorem State.clearWords_copyDma (s : State) (lo : Nat) (hi : Nat) : (s.clearWords lo hi).copyDma = s.copyDma := rfl
@[simp] theorem State.clearWords_busRead (s : State) (lo : Nat) (hi : Nat) : (s.clearWords lo hi).busRead = s.busRead := rfl
@[simp] theorem State.clearWords_busError (s : State) (lo : Nat) (hi : Nat) : (s.clearWords lo hi).busError = s.busError := rfl
@[simp] theorem State.clearWords_setAt (s : State) (lo : Nat) (hi : Nat) : (s.clearWords lo hi).setAt = s.setAt := rfl
@[simp] theorem State.clearWords_setNow (s : State) (lo : Nat) (hi : Nat) : (s.clearWords lo hi).setNow = s.setNow := rfl
@[simp] theorem State.clearWords_mirror (s : State) (lo : Nat) (hi : Nat) : (s.clearWords lo hi).mirror = s.mirror := rfl

/-! #### setSramByte -/

@[simp] theorem State.setSramByte_sram (s : State) (a : Nat) (b : Byte) : (s.setSramByte a b).sram = Sparse.set (sramDflt s.sramGen) s.sram a b := rfl
@[simp] theorem State.setSramByte_now (s : State) (a : Nat) (b : Byte) : (s.setSramByte a b).now = s.now := rfl
@[simp] theorem State.setSramByte_lf (s : State) (a : Nat) (b : Byte) : (s.setSramByte a b).lf = s.lf := rfl
@[simp] theorem State.setSramByte_free (s : State) (a : Nat) (b : Byte) : (s.setSramByte a b).free = s.free := rfl
@[simp] theorem State.setSramByte_pending (s : State) (a : Nat) (b : Byte) : (s.setSramByte a b).pending = s.pending := rfl
@[simp] theorem State.setSramByte_regs (s : State) (a : Nat) (b : Byte) : (s.setSramByte a b).regs = s.regs := rfl
@[simp] theorem State.setSramByte_sramGen (s : State) (a : Nat) (b : Byte) : (s.setSramByte a b).sramGen = s.sramGen := rfl
@[simp] theorem State.setSramByte_power (s : State) (a : Nat) (b : Byte) : (s.setSramByte a b).power = s.power := rfl
@[simp] theorem State.setSramByte_link (s : State) (a : Nat) (b : Byte) : (s.setSramByte a b).link = s.link := rfl
@[simp] theorem State.setSramByte_cfg (s : State) (a : Nat) (b : Byte) : (s.setSramByte a b).cfg = s.cfg := rfl
@[simp] theorem State.setSramByte_boot (s : State) (a : Nat) (b : Byte) : (s.setSramByte a b).boot = s.boot := rfl
@[simp] theorem State.setSramByte_tnowBase (s : State) (a : Nat) (b : Byte) : (s.setSramByte a b).tnowBase = s.tnowBase := rfl
@[simp] theorem State.setSramByte_wheels (s : State) (a : Nat) (b : Byte) : (s.setSramByte a b).wheels = s.wheels := rfl
@[simp] theorem State.setSramByte_phases (s : State) (a : Nat) (b : Byte) : (s.setSramByte a b).phases = s.phases := rfl
@[simp] theorem State.setSramByte_bias (s : State) (a : Nat) (b : Byte) : (s.setSramByte a b).bias = s.bias := rfl
@[simp] theorem State.setSramByte_snapAt (s : State) (a : Nat) (b : Byte) : (s.setSramByte a b).snapAt = s.snapAt := rfl
@[simp] theorem State.setSramByte_outs (s : State) (a : Nat) (b : Byte) : (s.setSramByte a b).outs = s.outs := rfl
@[simp] theorem State.setSramByte_timers (s : State) (a : Nat) (b : Byte) : (s.setSramByte a b).timers = s.timers := rfl
@[simp] theorem State.setSramByte_adcA (s : State) (a : Nat) (b : Byte) : (s.setSramByte a b).adcA = s.adcA := rfl
@[simp] theorem State.setSramByte_adcB (s : State) (a : Nat) (b : Byte) : (s.setSramByte a b).adcB = s.adcB := rfl
@[simp] theorem State.setSramByte_regA (s : State) (a : Nat) (b : Byte) : (s.setSramByte a b).regA = s.regA := rfl
@[simp] theorem State.setSramByte_injA (s : State) (a : Nat) (b : Byte) : (s.setSramByte a b).injA = s.injA := rfl
@[simp] theorem State.setSramByte_regB (s : State) (a : Nat) (b : Byte) : (s.setSramByte a b).regB = s.regB := rfl
@[simp] theorem State.setSramByte_injB (s : State) (a : Nat) (b : Byte) : (s.setSramByte a b).injB = s.injB := rfl
@[simp] theorem State.setSramByte_dma (s : State) (a : Nat) (b : Byte) : (s.setSramByte a b).dma = s.dma := rfl
@[simp] theorem State.setSramByte_nand (s : State) (a : Nat) (b : Byte) : (s.setSramByte a b).nand = s.nand := rfl
@[simp] theorem State.setSramByte_cave (s : State) (a : Nat) (b : Byte) : (s.setSramByte a b).cave = s.cave := rfl
@[simp] theorem State.setSramByte_health (s : State) (a : Nat) (b : Byte) : (s.setSramByte a b).health = s.health := rfl
@[simp] theorem State.setSramByte_bat (s : State) (a : Nat) (b : Byte) : (s.setSramByte a b).bat = s.bat := rfl
@[simp] theorem State.setSramByte_fus (s : State) (a : Nat) (b : Byte) : (s.setSramByte a b).fus = s.fus := rfl
@[simp] theorem State.setSramByte_rind (s : State) (a : Nat) (b : Byte) : (s.setSramByte a b).rind = s.rind := rfl
@[simp] theorem State.setSramByte_lock (s : State) (a : Nat) (b : Byte) : (s.setSramByte a b).lock = s.lock := rfl
@[simp] theorem State.setSramByte_life (s : State) (a : Nat) (b : Byte) : (s.setSramByte a b).life = s.life := rfl
@[simp] theorem State.setSramByte_otp (s : State) (a : Nat) (b : Byte) : (s.setSramByte a b).otp = s.otp := rfl
@[simp] theorem State.setSramByte_store (s : State) (a : Nat) (b : Byte) : (s.setSramByte a b).store = s.store := rfl
@[simp] theorem State.setSramByte_jtag (s : State) (a : Nat) (b : Byte) : (s.setSramByte a b).jtag = s.jtag := rfl
@[simp] theorem State.setSramByte_copyLink (s : State) (a : Nat) (b : Byte) : (s.setSramByte a b).copyLink = s.copyLink := rfl
@[simp] theorem State.setSramByte_copyDma (s : State) (a : Nat) (b : Byte) : (s.setSramByte a b).copyDma = s.copyDma := rfl
@[simp] theorem State.setSramByte_busRead (s : State) (a : Nat) (b : Byte) : (s.setSramByte a b).busRead = s.busRead := rfl
@[simp] theorem State.setSramByte_busError (s : State) (a : Nat) (b : Byte) : (s.setSramByte a b).busError = s.busError := rfl
@[simp] theorem State.setSramByte_setAt (s : State) (a : Nat) (b : Byte) : (s.setSramByte a b).setAt = s.setAt := rfl
@[simp] theorem State.setSramByte_setNow (s : State) (a : Nat) (b : Byte) : (s.setSramByte a b).setNow = s.setNow := rfl
@[simp] theorem State.setSramByte_mirror (s : State) (a : Nat) (b : Byte) : (s.setSramByte a b).mirror = s.mirror := rfl

/-! #### pushNotice -/

@[simp] theorem State.pushNotice_now (s : State) (code : Nat) (payload : List Byte) : (s.pushNotice code payload).now = s.now := rfl
@[simp] theorem State.pushNotice_lf (s : State) (code : Nat) (payload : List Byte) : (s.pushNotice code payload).lf = s.lf := rfl
@[simp] theorem State.pushNotice_free (s : State) (code : Nat) (payload : List Byte) : (s.pushNotice code payload).free = s.free := rfl
@[simp] theorem State.pushNotice_pending (s : State) (code : Nat) (payload : List Byte) : (s.pushNotice code payload).pending = s.pending := rfl
@[simp] theorem State.pushNotice_regs (s : State) (code : Nat) (payload : List Byte) : (s.pushNotice code payload).regs = s.regs := rfl
@[simp] theorem State.pushNotice_sram (s : State) (code : Nat) (payload : List Byte) : (s.pushNotice code payload).sram = s.sram := rfl
@[simp] theorem State.pushNotice_sramGen (s : State) (code : Nat) (payload : List Byte) : (s.pushNotice code payload).sramGen = s.sramGen := rfl
@[simp] theorem State.pushNotice_power (s : State) (code : Nat) (payload : List Byte) : (s.pushNotice code payload).power = s.power := rfl
@[simp] theorem State.pushNotice_cfg (s : State) (code : Nat) (payload : List Byte) : (s.pushNotice code payload).cfg = s.cfg := rfl
@[simp] theorem State.pushNotice_boot (s : State) (code : Nat) (payload : List Byte) : (s.pushNotice code payload).boot = s.boot := rfl
@[simp] theorem State.pushNotice_tnowBase (s : State) (code : Nat) (payload : List Byte) : (s.pushNotice code payload).tnowBase = s.tnowBase := rfl
@[simp] theorem State.pushNotice_wheels (s : State) (code : Nat) (payload : List Byte) : (s.pushNotice code payload).wheels = s.wheels := rfl
@[simp] theorem State.pushNotice_phases (s : State) (code : Nat) (payload : List Byte) : (s.pushNotice code payload).phases = s.phases := rfl
@[simp] theorem State.pushNotice_bias (s : State) (code : Nat) (payload : List Byte) : (s.pushNotice code payload).bias = s.bias := rfl
@[simp] theorem State.pushNotice_snapAt (s : State) (code : Nat) (payload : List Byte) : (s.pushNotice code payload).snapAt = s.snapAt := rfl
@[simp] theorem State.pushNotice_outs (s : State) (code : Nat) (payload : List Byte) : (s.pushNotice code payload).outs = s.outs := rfl
@[simp] theorem State.pushNotice_timers (s : State) (code : Nat) (payload : List Byte) : (s.pushNotice code payload).timers = s.timers := rfl
@[simp] theorem State.pushNotice_adcA (s : State) (code : Nat) (payload : List Byte) : (s.pushNotice code payload).adcA = s.adcA := rfl
@[simp] theorem State.pushNotice_adcB (s : State) (code : Nat) (payload : List Byte) : (s.pushNotice code payload).adcB = s.adcB := rfl
@[simp] theorem State.pushNotice_regA (s : State) (code : Nat) (payload : List Byte) : (s.pushNotice code payload).regA = s.regA := rfl
@[simp] theorem State.pushNotice_injA (s : State) (code : Nat) (payload : List Byte) : (s.pushNotice code payload).injA = s.injA := rfl
@[simp] theorem State.pushNotice_regB (s : State) (code : Nat) (payload : List Byte) : (s.pushNotice code payload).regB = s.regB := rfl
@[simp] theorem State.pushNotice_injB (s : State) (code : Nat) (payload : List Byte) : (s.pushNotice code payload).injB = s.injB := rfl
@[simp] theorem State.pushNotice_dma (s : State) (code : Nat) (payload : List Byte) : (s.pushNotice code payload).dma = s.dma := rfl
@[simp] theorem State.pushNotice_nand (s : State) (code : Nat) (payload : List Byte) : (s.pushNotice code payload).nand = s.nand := rfl
@[simp] theorem State.pushNotice_cave (s : State) (code : Nat) (payload : List Byte) : (s.pushNotice code payload).cave = s.cave := rfl
@[simp] theorem State.pushNotice_health (s : State) (code : Nat) (payload : List Byte) : (s.pushNotice code payload).health = s.health := rfl
@[simp] theorem State.pushNotice_bat (s : State) (code : Nat) (payload : List Byte) : (s.pushNotice code payload).bat = s.bat := rfl
@[simp] theorem State.pushNotice_fus (s : State) (code : Nat) (payload : List Byte) : (s.pushNotice code payload).fus = s.fus := rfl
@[simp] theorem State.pushNotice_rind (s : State) (code : Nat) (payload : List Byte) : (s.pushNotice code payload).rind = s.rind := rfl
@[simp] theorem State.pushNotice_lock (s : State) (code : Nat) (payload : List Byte) : (s.pushNotice code payload).lock = s.lock := rfl
@[simp] theorem State.pushNotice_life (s : State) (code : Nat) (payload : List Byte) : (s.pushNotice code payload).life = s.life := rfl
@[simp] theorem State.pushNotice_otp (s : State) (code : Nat) (payload : List Byte) : (s.pushNotice code payload).otp = s.otp := rfl
@[simp] theorem State.pushNotice_store (s : State) (code : Nat) (payload : List Byte) : (s.pushNotice code payload).store = s.store := rfl
@[simp] theorem State.pushNotice_jtag (s : State) (code : Nat) (payload : List Byte) : (s.pushNotice code payload).jtag = s.jtag := rfl
@[simp] theorem State.pushNotice_copyLink (s : State) (code : Nat) (payload : List Byte) : (s.pushNotice code payload).copyLink = s.copyLink := rfl
@[simp] theorem State.pushNotice_copyDma (s : State) (code : Nat) (payload : List Byte) : (s.pushNotice code payload).copyDma = s.copyDma := rfl
@[simp] theorem State.pushNotice_busRead (s : State) (code : Nat) (payload : List Byte) : (s.pushNotice code payload).busRead = s.busRead := rfl
@[simp] theorem State.pushNotice_busError (s : State) (code : Nat) (payload : List Byte) : (s.pushNotice code payload).busError = s.busError := rfl
@[simp] theorem State.pushNotice_setAt (s : State) (code : Nat) (payload : List Byte) : (s.pushNotice code payload).setAt = s.setAt := rfl
@[simp] theorem State.pushNotice_setNow (s : State) (code : Nat) (payload : List Byte) : (s.pushNotice code payload).setNow = s.setNow := rfl
@[simp] theorem State.pushNotice_mirror (s : State) (code : Nat) (payload : List Byte) : (s.pushNotice code payload).mirror = s.mirror := rfl

/-! #### setPage -/

@[simp] theorem State.setPage_nand (s : State) (row : Nat) (p : NandPage) : (s.setPage row p).nand = { s.nand with pages := Sparse.set (fun _ => {}) s.nand.pages row p } := rfl
@[simp] theorem State.setPage_now (s : State) (row : Nat) (p : NandPage) : (s.setPage row p).now = s.now := rfl
@[simp] theorem State.setPage_lf (s : State) (row : Nat) (p : NandPage) : (s.setPage row p).lf = s.lf := rfl
@[simp] theorem State.setPage_free (s : State) (row : Nat) (p : NandPage) : (s.setPage row p).free = s.free := rfl
@[simp] theorem State.setPage_pending (s : State) (row : Nat) (p : NandPage) : (s.setPage row p).pending = s.pending := rfl
@[simp] theorem State.setPage_regs (s : State) (row : Nat) (p : NandPage) : (s.setPage row p).regs = s.regs := rfl
@[simp] theorem State.setPage_sram (s : State) (row : Nat) (p : NandPage) : (s.setPage row p).sram = s.sram := rfl
@[simp] theorem State.setPage_sramGen (s : State) (row : Nat) (p : NandPage) : (s.setPage row p).sramGen = s.sramGen := rfl
@[simp] theorem State.setPage_power (s : State) (row : Nat) (p : NandPage) : (s.setPage row p).power = s.power := rfl
@[simp] theorem State.setPage_link (s : State) (row : Nat) (p : NandPage) : (s.setPage row p).link = s.link := rfl
@[simp] theorem State.setPage_cfg (s : State) (row : Nat) (p : NandPage) : (s.setPage row p).cfg = s.cfg := rfl
@[simp] theorem State.setPage_boot (s : State) (row : Nat) (p : NandPage) : (s.setPage row p).boot = s.boot := rfl
@[simp] theorem State.setPage_tnowBase (s : State) (row : Nat) (p : NandPage) : (s.setPage row p).tnowBase = s.tnowBase := rfl
@[simp] theorem State.setPage_wheels (s : State) (row : Nat) (p : NandPage) : (s.setPage row p).wheels = s.wheels := rfl
@[simp] theorem State.setPage_phases (s : State) (row : Nat) (p : NandPage) : (s.setPage row p).phases = s.phases := rfl
@[simp] theorem State.setPage_bias (s : State) (row : Nat) (p : NandPage) : (s.setPage row p).bias = s.bias := rfl
@[simp] theorem State.setPage_snapAt (s : State) (row : Nat) (p : NandPage) : (s.setPage row p).snapAt = s.snapAt := rfl
@[simp] theorem State.setPage_outs (s : State) (row : Nat) (p : NandPage) : (s.setPage row p).outs = s.outs := rfl
@[simp] theorem State.setPage_timers (s : State) (row : Nat) (p : NandPage) : (s.setPage row p).timers = s.timers := rfl
@[simp] theorem State.setPage_adcA (s : State) (row : Nat) (p : NandPage) : (s.setPage row p).adcA = s.adcA := rfl
@[simp] theorem State.setPage_adcB (s : State) (row : Nat) (p : NandPage) : (s.setPage row p).adcB = s.adcB := rfl
@[simp] theorem State.setPage_regA (s : State) (row : Nat) (p : NandPage) : (s.setPage row p).regA = s.regA := rfl
@[simp] theorem State.setPage_injA (s : State) (row : Nat) (p : NandPage) : (s.setPage row p).injA = s.injA := rfl
@[simp] theorem State.setPage_regB (s : State) (row : Nat) (p : NandPage) : (s.setPage row p).regB = s.regB := rfl
@[simp] theorem State.setPage_injB (s : State) (row : Nat) (p : NandPage) : (s.setPage row p).injB = s.injB := rfl
@[simp] theorem State.setPage_dma (s : State) (row : Nat) (p : NandPage) : (s.setPage row p).dma = s.dma := rfl
@[simp] theorem State.setPage_cave (s : State) (row : Nat) (p : NandPage) : (s.setPage row p).cave = s.cave := rfl
@[simp] theorem State.setPage_health (s : State) (row : Nat) (p : NandPage) : (s.setPage row p).health = s.health := rfl
@[simp] theorem State.setPage_bat (s : State) (row : Nat) (p : NandPage) : (s.setPage row p).bat = s.bat := rfl
@[simp] theorem State.setPage_fus (s : State) (row : Nat) (p : NandPage) : (s.setPage row p).fus = s.fus := rfl
@[simp] theorem State.setPage_rind (s : State) (row : Nat) (p : NandPage) : (s.setPage row p).rind = s.rind := rfl
@[simp] theorem State.setPage_lock (s : State) (row : Nat) (p : NandPage) : (s.setPage row p).lock = s.lock := rfl
@[simp] theorem State.setPage_life (s : State) (row : Nat) (p : NandPage) : (s.setPage row p).life = s.life := rfl
@[simp] theorem State.setPage_otp (s : State) (row : Nat) (p : NandPage) : (s.setPage row p).otp = s.otp := rfl
@[simp] theorem State.setPage_store (s : State) (row : Nat) (p : NandPage) : (s.setPage row p).store = s.store := rfl
@[simp] theorem State.setPage_jtag (s : State) (row : Nat) (p : NandPage) : (s.setPage row p).jtag = s.jtag := rfl
@[simp] theorem State.setPage_copyLink (s : State) (row : Nat) (p : NandPage) : (s.setPage row p).copyLink = s.copyLink := rfl
@[simp] theorem State.setPage_copyDma (s : State) (row : Nat) (p : NandPage) : (s.setPage row p).copyDma = s.copyDma := rfl
@[simp] theorem State.setPage_busRead (s : State) (row : Nat) (p : NandPage) : (s.setPage row p).busRead = s.busRead := rfl
@[simp] theorem State.setPage_busError (s : State) (row : Nat) (p : NandPage) : (s.setPage row p).busError = s.busError := rfl
@[simp] theorem State.setPage_setAt (s : State) (row : Nat) (p : NandPage) : (s.setPage row p).setAt = s.setAt := rfl
@[simp] theorem State.setPage_setNow (s : State) (row : Nat) (p : NandPage) : (s.setPage row p).setNow = s.setNow := rfl
@[simp] theorem State.setPage_mirror (s : State) (row : Nat) (p : NandPage) : (s.setPage row p).mirror = s.mirror := rfl

/-! #### setHealthTemp -/

@[simp] theorem State.setHealthTemp_health (s : State) (t : Int) : (s.setHealthTemp t).health = { s.health with tj := t, tjMax := if s.health.tjMax < t then t else s.health.tjMax } := rfl
@[simp] theorem State.setHealthTemp_now (s : State) (t : Int) : (s.setHealthTemp t).now = s.now := rfl
@[simp] theorem State.setHealthTemp_lf (s : State) (t : Int) : (s.setHealthTemp t).lf = s.lf := rfl
@[simp] theorem State.setHealthTemp_free (s : State) (t : Int) : (s.setHealthTemp t).free = s.free := rfl
@[simp] theorem State.setHealthTemp_pending (s : State) (t : Int) : (s.setHealthTemp t).pending = s.pending := rfl
@[simp] theorem State.setHealthTemp_regs (s : State) (t : Int) : (s.setHealthTemp t).regs = s.regs := rfl
@[simp] theorem State.setHealthTemp_sram (s : State) (t : Int) : (s.setHealthTemp t).sram = s.sram := rfl
@[simp] theorem State.setHealthTemp_sramGen (s : State) (t : Int) : (s.setHealthTemp t).sramGen = s.sramGen := rfl
@[simp] theorem State.setHealthTemp_power (s : State) (t : Int) : (s.setHealthTemp t).power = s.power := rfl
@[simp] theorem State.setHealthTemp_link (s : State) (t : Int) : (s.setHealthTemp t).link = s.link := rfl
@[simp] theorem State.setHealthTemp_cfg (s : State) (t : Int) : (s.setHealthTemp t).cfg = s.cfg := rfl
@[simp] theorem State.setHealthTemp_boot (s : State) (t : Int) : (s.setHealthTemp t).boot = s.boot := rfl
@[simp] theorem State.setHealthTemp_tnowBase (s : State) (t : Int) : (s.setHealthTemp t).tnowBase = s.tnowBase := rfl
@[simp] theorem State.setHealthTemp_wheels (s : State) (t : Int) : (s.setHealthTemp t).wheels = s.wheels := rfl
@[simp] theorem State.setHealthTemp_phases (s : State) (t : Int) : (s.setHealthTemp t).phases = s.phases := rfl
@[simp] theorem State.setHealthTemp_bias (s : State) (t : Int) : (s.setHealthTemp t).bias = s.bias := rfl
@[simp] theorem State.setHealthTemp_snapAt (s : State) (t : Int) : (s.setHealthTemp t).snapAt = s.snapAt := rfl
@[simp] theorem State.setHealthTemp_outs (s : State) (t : Int) : (s.setHealthTemp t).outs = s.outs := rfl
@[simp] theorem State.setHealthTemp_timers (s : State) (t : Int) : (s.setHealthTemp t).timers = s.timers := rfl
@[simp] theorem State.setHealthTemp_adcA (s : State) (t : Int) : (s.setHealthTemp t).adcA = s.adcA := rfl
@[simp] theorem State.setHealthTemp_adcB (s : State) (t : Int) : (s.setHealthTemp t).adcB = s.adcB := rfl
@[simp] theorem State.setHealthTemp_regA (s : State) (t : Int) : (s.setHealthTemp t).regA = s.regA := rfl
@[simp] theorem State.setHealthTemp_injA (s : State) (t : Int) : (s.setHealthTemp t).injA = s.injA := rfl
@[simp] theorem State.setHealthTemp_regB (s : State) (t : Int) : (s.setHealthTemp t).regB = s.regB := rfl
@[simp] theorem State.setHealthTemp_injB (s : State) (t : Int) : (s.setHealthTemp t).injB = s.injB := rfl
@[simp] theorem State.setHealthTemp_dma (s : State) (t : Int) : (s.setHealthTemp t).dma = s.dma := rfl
@[simp] theorem State.setHealthTemp_nand (s : State) (t : Int) : (s.setHealthTemp t).nand = s.nand := rfl
@[simp] theorem State.setHealthTemp_cave (s : State) (t : Int) : (s.setHealthTemp t).cave = s.cave := rfl
@[simp] theorem State.setHealthTemp_bat (s : State) (t : Int) : (s.setHealthTemp t).bat = s.bat := rfl
@[simp] theorem State.setHealthTemp_fus (s : State) (t : Int) : (s.setHealthTemp t).fus = s.fus := rfl
@[simp] theorem State.setHealthTemp_rind (s : State) (t : Int) : (s.setHealthTemp t).rind = s.rind := rfl
@[simp] theorem State.setHealthTemp_lock (s : State) (t : Int) : (s.setHealthTemp t).lock = s.lock := rfl
@[simp] theorem State.setHealthTemp_life (s : State) (t : Int) : (s.setHealthTemp t).life = s.life := rfl
@[simp] theorem State.setHealthTemp_otp (s : State) (t : Int) : (s.setHealthTemp t).otp = s.otp := rfl
@[simp] theorem State.setHealthTemp_store (s : State) (t : Int) : (s.setHealthTemp t).store = s.store := rfl
@[simp] theorem State.setHealthTemp_jtag (s : State) (t : Int) : (s.setHealthTemp t).jtag = s.jtag := rfl
@[simp] theorem State.setHealthTemp_copyLink (s : State) (t : Int) : (s.setHealthTemp t).copyLink = s.copyLink := rfl
@[simp] theorem State.setHealthTemp_copyDma (s : State) (t : Int) : (s.setHealthTemp t).copyDma = s.copyDma := rfl
@[simp] theorem State.setHealthTemp_busRead (s : State) (t : Int) : (s.setHealthTemp t).busRead = s.busRead := rfl
@[simp] theorem State.setHealthTemp_busError (s : State) (t : Int) : (s.setHealthTemp t).busError = s.busError := rfl
@[simp] theorem State.setHealthTemp_setAt (s : State) (t : Int) : (s.setHealthTemp t).setAt = s.setAt := rfl
@[simp] theorem State.setHealthTemp_setNow (s : State) (t : Int) : (s.setHealthTemp t).setNow = s.setNow := rfl
@[simp] theorem State.setHealthTemp_mirror (s : State) (t : Int) : (s.setHealthTemp t).mirror = s.mirror := rfl

/-! #### setHealthSecond -/

@[simp] theorem State.setHealthSecond_health (s : State) (t : Nat) : (s.setHealthSecond t).health = { s.health with tempAt := t } := rfl
@[simp] theorem State.setHealthSecond_now (s : State) (t : Nat) : (s.setHealthSecond t).now = s.now := rfl
@[simp] theorem State.setHealthSecond_lf (s : State) (t : Nat) : (s.setHealthSecond t).lf = s.lf := rfl
@[simp] theorem State.setHealthSecond_free (s : State) (t : Nat) : (s.setHealthSecond t).free = s.free := rfl
@[simp] theorem State.setHealthSecond_pending (s : State) (t : Nat) : (s.setHealthSecond t).pending = s.pending := rfl
@[simp] theorem State.setHealthSecond_regs (s : State) (t : Nat) : (s.setHealthSecond t).regs = s.regs := rfl
@[simp] theorem State.setHealthSecond_sram (s : State) (t : Nat) : (s.setHealthSecond t).sram = s.sram := rfl
@[simp] theorem State.setHealthSecond_sramGen (s : State) (t : Nat) : (s.setHealthSecond t).sramGen = s.sramGen := rfl
@[simp] theorem State.setHealthSecond_power (s : State) (t : Nat) : (s.setHealthSecond t).power = s.power := rfl
@[simp] theorem State.setHealthSecond_link (s : State) (t : Nat) : (s.setHealthSecond t).link = s.link := rfl
@[simp] theorem State.setHealthSecond_cfg (s : State) (t : Nat) : (s.setHealthSecond t).cfg = s.cfg := rfl
@[simp] theorem State.setHealthSecond_boot (s : State) (t : Nat) : (s.setHealthSecond t).boot = s.boot := rfl
@[simp] theorem State.setHealthSecond_tnowBase (s : State) (t : Nat) : (s.setHealthSecond t).tnowBase = s.tnowBase := rfl
@[simp] theorem State.setHealthSecond_wheels (s : State) (t : Nat) : (s.setHealthSecond t).wheels = s.wheels := rfl
@[simp] theorem State.setHealthSecond_phases (s : State) (t : Nat) : (s.setHealthSecond t).phases = s.phases := rfl
@[simp] theorem State.setHealthSecond_bias (s : State) (t : Nat) : (s.setHealthSecond t).bias = s.bias := rfl
@[simp] theorem State.setHealthSecond_snapAt (s : State) (t : Nat) : (s.setHealthSecond t).snapAt = s.snapAt := rfl
@[simp] theorem State.setHealthSecond_outs (s : State) (t : Nat) : (s.setHealthSecond t).outs = s.outs := rfl
@[simp] theorem State.setHealthSecond_timers (s : State) (t : Nat) : (s.setHealthSecond t).timers = s.timers := rfl
@[simp] theorem State.setHealthSecond_adcA (s : State) (t : Nat) : (s.setHealthSecond t).adcA = s.adcA := rfl
@[simp] theorem State.setHealthSecond_adcB (s : State) (t : Nat) : (s.setHealthSecond t).adcB = s.adcB := rfl
@[simp] theorem State.setHealthSecond_regA (s : State) (t : Nat) : (s.setHealthSecond t).regA = s.regA := rfl
@[simp] theorem State.setHealthSecond_injA (s : State) (t : Nat) : (s.setHealthSecond t).injA = s.injA := rfl
@[simp] theorem State.setHealthSecond_regB (s : State) (t : Nat) : (s.setHealthSecond t).regB = s.regB := rfl
@[simp] theorem State.setHealthSecond_injB (s : State) (t : Nat) : (s.setHealthSecond t).injB = s.injB := rfl
@[simp] theorem State.setHealthSecond_dma (s : State) (t : Nat) : (s.setHealthSecond t).dma = s.dma := rfl
@[simp] theorem State.setHealthSecond_nand (s : State) (t : Nat) : (s.setHealthSecond t).nand = s.nand := rfl
@[simp] theorem State.setHealthSecond_cave (s : State) (t : Nat) : (s.setHealthSecond t).cave = s.cave := rfl
@[simp] theorem State.setHealthSecond_bat (s : State) (t : Nat) : (s.setHealthSecond t).bat = s.bat := rfl
@[simp] theorem State.setHealthSecond_fus (s : State) (t : Nat) : (s.setHealthSecond t).fus = s.fus := rfl
@[simp] theorem State.setHealthSecond_rind (s : State) (t : Nat) : (s.setHealthSecond t).rind = s.rind := rfl
@[simp] theorem State.setHealthSecond_lock (s : State) (t : Nat) : (s.setHealthSecond t).lock = s.lock := rfl
@[simp] theorem State.setHealthSecond_life (s : State) (t : Nat) : (s.setHealthSecond t).life = s.life := rfl
@[simp] theorem State.setHealthSecond_otp (s : State) (t : Nat) : (s.setHealthSecond t).otp = s.otp := rfl
@[simp] theorem State.setHealthSecond_store (s : State) (t : Nat) : (s.setHealthSecond t).store = s.store := rfl
@[simp] theorem State.setHealthSecond_jtag (s : State) (t : Nat) : (s.setHealthSecond t).jtag = s.jtag := rfl
@[simp] theorem State.setHealthSecond_copyLink (s : State) (t : Nat) : (s.setHealthSecond t).copyLink = s.copyLink := rfl
@[simp] theorem State.setHealthSecond_copyDma (s : State) (t : Nat) : (s.setHealthSecond t).copyDma = s.copyDma := rfl
@[simp] theorem State.setHealthSecond_busRead (s : State) (t : Nat) : (s.setHealthSecond t).busRead = s.busRead := rfl
@[simp] theorem State.setHealthSecond_busError (s : State) (t : Nat) : (s.setHealthSecond t).busError = s.busError := rfl
@[simp] theorem State.setHealthSecond_setAt (s : State) (t : Nat) : (s.setHealthSecond t).setAt = s.setAt := rfl
@[simp] theorem State.setHealthSecond_setNow (s : State) (t : Nat) : (s.setHealthSecond t).setNow = s.setNow := rfl
@[simp] theorem State.setHealthSecond_mirror (s : State) (t : Nat) : (s.setHealthSecond t).mirror = s.mirror := rfl

/-! #### goBackRing -/

@[simp] theorem State.goBackRing_now (s : State) : (s.goBackRing).now = s.now := rfl
@[simp] theorem State.goBackRing_lf (s : State) : (s.goBackRing).lf = s.lf := rfl
@[simp] theorem State.goBackRing_free (s : State) : (s.goBackRing).free = s.free := rfl
@[simp] theorem State.goBackRing_pending (s : State) : (s.goBackRing).pending = s.pending := rfl
@[simp] theorem State.goBackRing_regs (s : State) : (s.goBackRing).regs = s.regs := rfl
@[simp] theorem State.goBackRing_sram (s : State) : (s.goBackRing).sram = s.sram := rfl
@[simp] theorem State.goBackRing_sramGen (s : State) : (s.goBackRing).sramGen = s.sramGen := rfl
@[simp] theorem State.goBackRing_power (s : State) : (s.goBackRing).power = s.power := rfl
@[simp] theorem State.goBackRing_cfg (s : State) : (s.goBackRing).cfg = s.cfg := rfl
@[simp] theorem State.goBackRing_boot (s : State) : (s.goBackRing).boot = s.boot := rfl
@[simp] theorem State.goBackRing_tnowBase (s : State) : (s.goBackRing).tnowBase = s.tnowBase := rfl
@[simp] theorem State.goBackRing_wheels (s : State) : (s.goBackRing).wheels = s.wheels := rfl
@[simp] theorem State.goBackRing_phases (s : State) : (s.goBackRing).phases = s.phases := rfl
@[simp] theorem State.goBackRing_bias (s : State) : (s.goBackRing).bias = s.bias := rfl
@[simp] theorem State.goBackRing_snapAt (s : State) : (s.goBackRing).snapAt = s.snapAt := rfl
@[simp] theorem State.goBackRing_outs (s : State) : (s.goBackRing).outs = s.outs := rfl
@[simp] theorem State.goBackRing_timers (s : State) : (s.goBackRing).timers = s.timers := rfl
@[simp] theorem State.goBackRing_adcA (s : State) : (s.goBackRing).adcA = s.adcA := rfl
@[simp] theorem State.goBackRing_adcB (s : State) : (s.goBackRing).adcB = s.adcB := rfl
@[simp] theorem State.goBackRing_regA (s : State) : (s.goBackRing).regA = s.regA := rfl
@[simp] theorem State.goBackRing_injA (s : State) : (s.goBackRing).injA = s.injA := rfl
@[simp] theorem State.goBackRing_regB (s : State) : (s.goBackRing).regB = s.regB := rfl
@[simp] theorem State.goBackRing_injB (s : State) : (s.goBackRing).injB = s.injB := rfl
@[simp] theorem State.goBackRing_dma (s : State) : (s.goBackRing).dma = s.dma := rfl
@[simp] theorem State.goBackRing_nand (s : State) : (s.goBackRing).nand = s.nand := rfl
@[simp] theorem State.goBackRing_cave (s : State) : (s.goBackRing).cave = s.cave := rfl
@[simp] theorem State.goBackRing_health (s : State) : (s.goBackRing).health = s.health := rfl
@[simp] theorem State.goBackRing_bat (s : State) : (s.goBackRing).bat = s.bat := rfl
@[simp] theorem State.goBackRing_fus (s : State) : (s.goBackRing).fus = s.fus := rfl
@[simp] theorem State.goBackRing_rind (s : State) : (s.goBackRing).rind = s.rind := rfl
@[simp] theorem State.goBackRing_lock (s : State) : (s.goBackRing).lock = s.lock := rfl
@[simp] theorem State.goBackRing_life (s : State) : (s.goBackRing).life = s.life := rfl
@[simp] theorem State.goBackRing_otp (s : State) : (s.goBackRing).otp = s.otp := rfl
@[simp] theorem State.goBackRing_store (s : State) : (s.goBackRing).store = s.store := rfl
@[simp] theorem State.goBackRing_jtag (s : State) : (s.goBackRing).jtag = s.jtag := rfl
@[simp] theorem State.goBackRing_copyLink (s : State) : (s.goBackRing).copyLink = s.copyLink := rfl
@[simp] theorem State.goBackRing_copyDma (s : State) : (s.goBackRing).copyDma = s.copyDma := rfl
@[simp] theorem State.goBackRing_busRead (s : State) : (s.goBackRing).busRead = s.busRead := rfl
@[simp] theorem State.goBackRing_busError (s : State) : (s.goBackRing).busError = s.busError := rfl
@[simp] theorem State.goBackRing_setAt (s : State) : (s.goBackRing).setAt = s.setAt := rfl
@[simp] theorem State.goBackRing_setNow (s : State) : (s.goBackRing).setNow = s.setNow := rfl
@[simp] theorem State.goBackRing_mirror (s : State) : (s.goBackRing).mirror = s.mirror := rfl

/-! #### setWheel -/

@[simp] theorem State.setWheel_wheels (s : State) (n : Fin 4) (w : WheelSt) : (s.setWheel n w).wheels = s.wheels.set n w := rfl
@[simp] theorem State.setWheel_now (s : State) (n : Fin 4) (w : WheelSt) : (s.setWheel n w).now = s.now := rfl
@[simp] theorem State.setWheel_lf (s : State) (n : Fin 4) (w : WheelSt) : (s.setWheel n w).lf = s.lf := rfl
@[simp] theorem State.setWheel_free (s : State) (n : Fin 4) (w : WheelSt) : (s.setWheel n w).free = s.free := rfl
@[simp] theorem State.setWheel_pending (s : State) (n : Fin 4) (w : WheelSt) : (s.setWheel n w).pending = s.pending := rfl
@[simp] theorem State.setWheel_regs (s : State) (n : Fin 4) (w : WheelSt) : (s.setWheel n w).regs = s.regs := rfl
@[simp] theorem State.setWheel_sram (s : State) (n : Fin 4) (w : WheelSt) : (s.setWheel n w).sram = s.sram := rfl
@[simp] theorem State.setWheel_sramGen (s : State) (n : Fin 4) (w : WheelSt) : (s.setWheel n w).sramGen = s.sramGen := rfl
@[simp] theorem State.setWheel_power (s : State) (n : Fin 4) (w : WheelSt) : (s.setWheel n w).power = s.power := rfl
@[simp] theorem State.setWheel_link (s : State) (n : Fin 4) (w : WheelSt) : (s.setWheel n w).link = s.link := rfl
@[simp] theorem State.setWheel_cfg (s : State) (n : Fin 4) (w : WheelSt) : (s.setWheel n w).cfg = s.cfg := rfl
@[simp] theorem State.setWheel_boot (s : State) (n : Fin 4) (w : WheelSt) : (s.setWheel n w).boot = s.boot := rfl
@[simp] theorem State.setWheel_tnowBase (s : State) (n : Fin 4) (w : WheelSt) : (s.setWheel n w).tnowBase = s.tnowBase := rfl
@[simp] theorem State.setWheel_phases (s : State) (n : Fin 4) (w : WheelSt) : (s.setWheel n w).phases = s.phases := rfl
@[simp] theorem State.setWheel_bias (s : State) (n : Fin 4) (w : WheelSt) : (s.setWheel n w).bias = s.bias := rfl
@[simp] theorem State.setWheel_snapAt (s : State) (n : Fin 4) (w : WheelSt) : (s.setWheel n w).snapAt = s.snapAt := rfl
@[simp] theorem State.setWheel_outs (s : State) (n : Fin 4) (w : WheelSt) : (s.setWheel n w).outs = s.outs := rfl
@[simp] theorem State.setWheel_timers (s : State) (n : Fin 4) (w : WheelSt) : (s.setWheel n w).timers = s.timers := rfl
@[simp] theorem State.setWheel_adcA (s : State) (n : Fin 4) (w : WheelSt) : (s.setWheel n w).adcA = s.adcA := rfl
@[simp] theorem State.setWheel_adcB (s : State) (n : Fin 4) (w : WheelSt) : (s.setWheel n w).adcB = s.adcB := rfl
@[simp] theorem State.setWheel_regA (s : State) (n : Fin 4) (w : WheelSt) : (s.setWheel n w).regA = s.regA := rfl
@[simp] theorem State.setWheel_injA (s : State) (n : Fin 4) (w : WheelSt) : (s.setWheel n w).injA = s.injA := rfl
@[simp] theorem State.setWheel_regB (s : State) (n : Fin 4) (w : WheelSt) : (s.setWheel n w).regB = s.regB := rfl
@[simp] theorem State.setWheel_injB (s : State) (n : Fin 4) (w : WheelSt) : (s.setWheel n w).injB = s.injB := rfl
@[simp] theorem State.setWheel_dma (s : State) (n : Fin 4) (w : WheelSt) : (s.setWheel n w).dma = s.dma := rfl
@[simp] theorem State.setWheel_nand (s : State) (n : Fin 4) (w : WheelSt) : (s.setWheel n w).nand = s.nand := rfl
@[simp] theorem State.setWheel_cave (s : State) (n : Fin 4) (w : WheelSt) : (s.setWheel n w).cave = s.cave := rfl
@[simp] theorem State.setWheel_health (s : State) (n : Fin 4) (w : WheelSt) : (s.setWheel n w).health = s.health := rfl
@[simp] theorem State.setWheel_bat (s : State) (n : Fin 4) (w : WheelSt) : (s.setWheel n w).bat = s.bat := rfl
@[simp] theorem State.setWheel_fus (s : State) (n : Fin 4) (w : WheelSt) : (s.setWheel n w).fus = s.fus := rfl
@[simp] theorem State.setWheel_rind (s : State) (n : Fin 4) (w : WheelSt) : (s.setWheel n w).rind = s.rind := rfl
@[simp] theorem State.setWheel_lock (s : State) (n : Fin 4) (w : WheelSt) : (s.setWheel n w).lock = s.lock := rfl
@[simp] theorem State.setWheel_life (s : State) (n : Fin 4) (w : WheelSt) : (s.setWheel n w).life = s.life := rfl
@[simp] theorem State.setWheel_otp (s : State) (n : Fin 4) (w : WheelSt) : (s.setWheel n w).otp = s.otp := rfl
@[simp] theorem State.setWheel_store (s : State) (n : Fin 4) (w : WheelSt) : (s.setWheel n w).store = s.store := rfl
@[simp] theorem State.setWheel_jtag (s : State) (n : Fin 4) (w : WheelSt) : (s.setWheel n w).jtag = s.jtag := rfl
@[simp] theorem State.setWheel_copyLink (s : State) (n : Fin 4) (w : WheelSt) : (s.setWheel n w).copyLink = s.copyLink := rfl
@[simp] theorem State.setWheel_copyDma (s : State) (n : Fin 4) (w : WheelSt) : (s.setWheel n w).copyDma = s.copyDma := rfl
@[simp] theorem State.setWheel_busRead (s : State) (n : Fin 4) (w : WheelSt) : (s.setWheel n w).busRead = s.busRead := rfl
@[simp] theorem State.setWheel_busError (s : State) (n : Fin 4) (w : WheelSt) : (s.setWheel n w).busError = s.busError := rfl
@[simp] theorem State.setWheel_setAt (s : State) (n : Fin 4) (w : WheelSt) : (s.setWheel n w).setAt = s.setAt := rfl
@[simp] theorem State.setWheel_setNow (s : State) (n : Fin 4) (w : WheelSt) : (s.setWheel n w).setNow = s.setNow := rfl
@[simp] theorem State.setWheel_mirror (s : State) (n : Fin 4) (w : WheelSt) : (s.setWheel n w).mirror = s.mirror := rfl

/-! #### setTimer -/

@[simp] theorem State.setTimer_timers (s : State) (n : Fin 16) (t : TimerSt) : (s.setTimer n t).timers = s.timers.set n t := rfl
@[simp] theorem State.setTimer_now (s : State) (n : Fin 16) (t : TimerSt) : (s.setTimer n t).now = s.now := rfl
@[simp] theorem State.setTimer_lf (s : State) (n : Fin 16) (t : TimerSt) : (s.setTimer n t).lf = s.lf := rfl
@[simp] theorem State.setTimer_free (s : State) (n : Fin 16) (t : TimerSt) : (s.setTimer n t).free = s.free := rfl
@[simp] theorem State.setTimer_pending (s : State) (n : Fin 16) (t : TimerSt) : (s.setTimer n t).pending = s.pending := rfl
@[simp] theorem State.setTimer_regs (s : State) (n : Fin 16) (t : TimerSt) : (s.setTimer n t).regs = s.regs := rfl
@[simp] theorem State.setTimer_sram (s : State) (n : Fin 16) (t : TimerSt) : (s.setTimer n t).sram = s.sram := rfl
@[simp] theorem State.setTimer_sramGen (s : State) (n : Fin 16) (t : TimerSt) : (s.setTimer n t).sramGen = s.sramGen := rfl
@[simp] theorem State.setTimer_power (s : State) (n : Fin 16) (t : TimerSt) : (s.setTimer n t).power = s.power := rfl
@[simp] theorem State.setTimer_link (s : State) (n : Fin 16) (t : TimerSt) : (s.setTimer n t).link = s.link := rfl
@[simp] theorem State.setTimer_cfg (s : State) (n : Fin 16) (t : TimerSt) : (s.setTimer n t).cfg = s.cfg := rfl
@[simp] theorem State.setTimer_boot (s : State) (n : Fin 16) (t : TimerSt) : (s.setTimer n t).boot = s.boot := rfl
@[simp] theorem State.setTimer_tnowBase (s : State) (n : Fin 16) (t : TimerSt) : (s.setTimer n t).tnowBase = s.tnowBase := rfl
@[simp] theorem State.setTimer_wheels (s : State) (n : Fin 16) (t : TimerSt) : (s.setTimer n t).wheels = s.wheels := rfl
@[simp] theorem State.setTimer_phases (s : State) (n : Fin 16) (t : TimerSt) : (s.setTimer n t).phases = s.phases := rfl
@[simp] theorem State.setTimer_bias (s : State) (n : Fin 16) (t : TimerSt) : (s.setTimer n t).bias = s.bias := rfl
@[simp] theorem State.setTimer_snapAt (s : State) (n : Fin 16) (t : TimerSt) : (s.setTimer n t).snapAt = s.snapAt := rfl
@[simp] theorem State.setTimer_outs (s : State) (n : Fin 16) (t : TimerSt) : (s.setTimer n t).outs = s.outs := rfl
@[simp] theorem State.setTimer_adcA (s : State) (n : Fin 16) (t : TimerSt) : (s.setTimer n t).adcA = s.adcA := rfl
@[simp] theorem State.setTimer_adcB (s : State) (n : Fin 16) (t : TimerSt) : (s.setTimer n t).adcB = s.adcB := rfl
@[simp] theorem State.setTimer_regA (s : State) (n : Fin 16) (t : TimerSt) : (s.setTimer n t).regA = s.regA := rfl
@[simp] theorem State.setTimer_injA (s : State) (n : Fin 16) (t : TimerSt) : (s.setTimer n t).injA = s.injA := rfl
@[simp] theorem State.setTimer_regB (s : State) (n : Fin 16) (t : TimerSt) : (s.setTimer n t).regB = s.regB := rfl
@[simp] theorem State.setTimer_injB (s : State) (n : Fin 16) (t : TimerSt) : (s.setTimer n t).injB = s.injB := rfl
@[simp] theorem State.setTimer_dma (s : State) (n : Fin 16) (t : TimerSt) : (s.setTimer n t).dma = s.dma := rfl
@[simp] theorem State.setTimer_nand (s : State) (n : Fin 16) (t : TimerSt) : (s.setTimer n t).nand = s.nand := rfl
@[simp] theorem State.setTimer_cave (s : State) (n : Fin 16) (t : TimerSt) : (s.setTimer n t).cave = s.cave := rfl
@[simp] theorem State.setTimer_health (s : State) (n : Fin 16) (t : TimerSt) : (s.setTimer n t).health = s.health := rfl
@[simp] theorem State.setTimer_bat (s : State) (n : Fin 16) (t : TimerSt) : (s.setTimer n t).bat = s.bat := rfl
@[simp] theorem State.setTimer_fus (s : State) (n : Fin 16) (t : TimerSt) : (s.setTimer n t).fus = s.fus := rfl
@[simp] theorem State.setTimer_rind (s : State) (n : Fin 16) (t : TimerSt) : (s.setTimer n t).rind = s.rind := rfl
@[simp] theorem State.setTimer_lock (s : State) (n : Fin 16) (t : TimerSt) : (s.setTimer n t).lock = s.lock := rfl
@[simp] theorem State.setTimer_life (s : State) (n : Fin 16) (t : TimerSt) : (s.setTimer n t).life = s.life := rfl
@[simp] theorem State.setTimer_otp (s : State) (n : Fin 16) (t : TimerSt) : (s.setTimer n t).otp = s.otp := rfl
@[simp] theorem State.setTimer_store (s : State) (n : Fin 16) (t : TimerSt) : (s.setTimer n t).store = s.store := rfl
@[simp] theorem State.setTimer_jtag (s : State) (n : Fin 16) (t : TimerSt) : (s.setTimer n t).jtag = s.jtag := rfl
@[simp] theorem State.setTimer_copyLink (s : State) (n : Fin 16) (t : TimerSt) : (s.setTimer n t).copyLink = s.copyLink := rfl
@[simp] theorem State.setTimer_copyDma (s : State) (n : Fin 16) (t : TimerSt) : (s.setTimer n t).copyDma = s.copyDma := rfl
@[simp] theorem State.setTimer_busRead (s : State) (n : Fin 16) (t : TimerSt) : (s.setTimer n t).busRead = s.busRead := rfl
@[simp] theorem State.setTimer_busError (s : State) (n : Fin 16) (t : TimerSt) : (s.setTimer n t).busError = s.busError := rfl
@[simp] theorem State.setTimer_setAt (s : State) (n : Fin 16) (t : TimerSt) : (s.setTimer n t).setAt = s.setAt := rfl
@[simp] theorem State.setTimer_setNow (s : State) (n : Fin 16) (t : TimerSt) : (s.setTimer n t).setNow = s.setNow := rfl
@[simp] theorem State.setTimer_mirror (s : State) (n : Fin 16) (t : TimerSt) : (s.setTimer n t).mirror = s.mirror := rfl

/-! #### setPllOn -/

@[simp] theorem State.setPllOn_power (s : State) (b : Bool) : (s.setPllOn b).power = { s.power with pllOn := b } := rfl
@[simp] theorem State.setPllOn_now (s : State) (b : Bool) : (s.setPllOn b).now = s.now := rfl
@[simp] theorem State.setPllOn_lf (s : State) (b : Bool) : (s.setPllOn b).lf = s.lf := rfl
@[simp] theorem State.setPllOn_free (s : State) (b : Bool) : (s.setPllOn b).free = s.free := rfl
@[simp] theorem State.setPllOn_pending (s : State) (b : Bool) : (s.setPllOn b).pending = s.pending := rfl
@[simp] theorem State.setPllOn_regs (s : State) (b : Bool) : (s.setPllOn b).regs = s.regs := rfl
@[simp] theorem State.setPllOn_sram (s : State) (b : Bool) : (s.setPllOn b).sram = s.sram := rfl
@[simp] theorem State.setPllOn_sramGen (s : State) (b : Bool) : (s.setPllOn b).sramGen = s.sramGen := rfl
@[simp] theorem State.setPllOn_link (s : State) (b : Bool) : (s.setPllOn b).link = s.link := rfl
@[simp] theorem State.setPllOn_cfg (s : State) (b : Bool) : (s.setPllOn b).cfg = s.cfg := rfl
@[simp] theorem State.setPllOn_boot (s : State) (b : Bool) : (s.setPllOn b).boot = s.boot := rfl
@[simp] theorem State.setPllOn_tnowBase (s : State) (b : Bool) : (s.setPllOn b).tnowBase = s.tnowBase := rfl
@[simp] theorem State.setPllOn_wheels (s : State) (b : Bool) : (s.setPllOn b).wheels = s.wheels := rfl
@[simp] theorem State.setPllOn_phases (s : State) (b : Bool) : (s.setPllOn b).phases = s.phases := rfl
@[simp] theorem State.setPllOn_bias (s : State) (b : Bool) : (s.setPllOn b).bias = s.bias := rfl
@[simp] theorem State.setPllOn_snapAt (s : State) (b : Bool) : (s.setPllOn b).snapAt = s.snapAt := rfl
@[simp] theorem State.setPllOn_outs (s : State) (b : Bool) : (s.setPllOn b).outs = s.outs := rfl
@[simp] theorem State.setPllOn_timers (s : State) (b : Bool) : (s.setPllOn b).timers = s.timers := rfl
@[simp] theorem State.setPllOn_adcA (s : State) (b : Bool) : (s.setPllOn b).adcA = s.adcA := rfl
@[simp] theorem State.setPllOn_adcB (s : State) (b : Bool) : (s.setPllOn b).adcB = s.adcB := rfl
@[simp] theorem State.setPllOn_regA (s : State) (b : Bool) : (s.setPllOn b).regA = s.regA := rfl
@[simp] theorem State.setPllOn_injA (s : State) (b : Bool) : (s.setPllOn b).injA = s.injA := rfl
@[simp] theorem State.setPllOn_regB (s : State) (b : Bool) : (s.setPllOn b).regB = s.regB := rfl
@[simp] theorem State.setPllOn_injB (s : State) (b : Bool) : (s.setPllOn b).injB = s.injB := rfl
@[simp] theorem State.setPllOn_dma (s : State) (b : Bool) : (s.setPllOn b).dma = s.dma := rfl
@[simp] theorem State.setPllOn_nand (s : State) (b : Bool) : (s.setPllOn b).nand = s.nand := rfl
@[simp] theorem State.setPllOn_cave (s : State) (b : Bool) : (s.setPllOn b).cave = s.cave := rfl
@[simp] theorem State.setPllOn_health (s : State) (b : Bool) : (s.setPllOn b).health = s.health := rfl
@[simp] theorem State.setPllOn_bat (s : State) (b : Bool) : (s.setPllOn b).bat = s.bat := rfl
@[simp] theorem State.setPllOn_fus (s : State) (b : Bool) : (s.setPllOn b).fus = s.fus := rfl
@[simp] theorem State.setPllOn_rind (s : State) (b : Bool) : (s.setPllOn b).rind = s.rind := rfl
@[simp] theorem State.setPllOn_lock (s : State) (b : Bool) : (s.setPllOn b).lock = s.lock := rfl
@[simp] theorem State.setPllOn_life (s : State) (b : Bool) : (s.setPllOn b).life = s.life := rfl
@[simp] theorem State.setPllOn_otp (s : State) (b : Bool) : (s.setPllOn b).otp = s.otp := rfl
@[simp] theorem State.setPllOn_store (s : State) (b : Bool) : (s.setPllOn b).store = s.store := rfl
@[simp] theorem State.setPllOn_jtag (s : State) (b : Bool) : (s.setPllOn b).jtag = s.jtag := rfl
@[simp] theorem State.setPllOn_copyLink (s : State) (b : Bool) : (s.setPllOn b).copyLink = s.copyLink := rfl
@[simp] theorem State.setPllOn_copyDma (s : State) (b : Bool) : (s.setPllOn b).copyDma = s.copyDma := rfl
@[simp] theorem State.setPllOn_busRead (s : State) (b : Bool) : (s.setPllOn b).busRead = s.busRead := rfl
@[simp] theorem State.setPllOn_busError (s : State) (b : Bool) : (s.setPllOn b).busError = s.busError := rfl
@[simp] theorem State.setPllOn_setAt (s : State) (b : Bool) : (s.setPllOn b).setAt = s.setAt := rfl
@[simp] theorem State.setPllOn_setNow (s : State) (b : Bool) : (s.setPllOn b).setNow = s.setNow := rfl
@[simp] theorem State.setPllOn_mirror (s : State) (b : Bool) : (s.setPllOn b).mirror = s.mirror := rfl

/-! #### setOut -/

@[simp] theorem State.setOut_outs (s : State) (n : Fin 32) (o : OutSt) : (s.setOut n o).outs = s.outs.set n o := rfl
@[simp] theorem State.setOut_now (s : State) (n : Fin 32) (o : OutSt) : (s.setOut n o).now = s.now := rfl
@[simp] theorem State.setOut_lf (s : State) (n : Fin 32) (o : OutSt) : (s.setOut n o).lf = s.lf := rfl
@[simp] theorem State.setOut_free (s : State) (n : Fin 32) (o : OutSt) : (s.setOut n o).free = s.free := rfl
@[simp] theorem State.setOut_pending (s : State) (n : Fin 32) (o : OutSt) : (s.setOut n o).pending = s.pending := rfl
@[simp] theorem State.setOut_regs (s : State) (n : Fin 32) (o : OutSt) : (s.setOut n o).regs = s.regs := rfl
@[simp] theorem State.setOut_sram (s : State) (n : Fin 32) (o : OutSt) : (s.setOut n o).sram = s.sram := rfl
@[simp] theorem State.setOut_sramGen (s : State) (n : Fin 32) (o : OutSt) : (s.setOut n o).sramGen = s.sramGen := rfl
@[simp] theorem State.setOut_power (s : State) (n : Fin 32) (o : OutSt) : (s.setOut n o).power = s.power := rfl
@[simp] theorem State.setOut_link (s : State) (n : Fin 32) (o : OutSt) : (s.setOut n o).link = s.link := rfl
@[simp] theorem State.setOut_cfg (s : State) (n : Fin 32) (o : OutSt) : (s.setOut n o).cfg = s.cfg := rfl
@[simp] theorem State.setOut_boot (s : State) (n : Fin 32) (o : OutSt) : (s.setOut n o).boot = s.boot := rfl
@[simp] theorem State.setOut_tnowBase (s : State) (n : Fin 32) (o : OutSt) : (s.setOut n o).tnowBase = s.tnowBase := rfl
@[simp] theorem State.setOut_wheels (s : State) (n : Fin 32) (o : OutSt) : (s.setOut n o).wheels = s.wheels := rfl
@[simp] theorem State.setOut_phases (s : State) (n : Fin 32) (o : OutSt) : (s.setOut n o).phases = s.phases := rfl
@[simp] theorem State.setOut_bias (s : State) (n : Fin 32) (o : OutSt) : (s.setOut n o).bias = s.bias := rfl
@[simp] theorem State.setOut_snapAt (s : State) (n : Fin 32) (o : OutSt) : (s.setOut n o).snapAt = s.snapAt := rfl
@[simp] theorem State.setOut_timers (s : State) (n : Fin 32) (o : OutSt) : (s.setOut n o).timers = s.timers := rfl
@[simp] theorem State.setOut_adcA (s : State) (n : Fin 32) (o : OutSt) : (s.setOut n o).adcA = s.adcA := rfl
@[simp] theorem State.setOut_adcB (s : State) (n : Fin 32) (o : OutSt) : (s.setOut n o).adcB = s.adcB := rfl
@[simp] theorem State.setOut_regA (s : State) (n : Fin 32) (o : OutSt) : (s.setOut n o).regA = s.regA := rfl
@[simp] theorem State.setOut_injA (s : State) (n : Fin 32) (o : OutSt) : (s.setOut n o).injA = s.injA := rfl
@[simp] theorem State.setOut_regB (s : State) (n : Fin 32) (o : OutSt) : (s.setOut n o).regB = s.regB := rfl
@[simp] theorem State.setOut_injB (s : State) (n : Fin 32) (o : OutSt) : (s.setOut n o).injB = s.injB := rfl
@[simp] theorem State.setOut_dma (s : State) (n : Fin 32) (o : OutSt) : (s.setOut n o).dma = s.dma := rfl
@[simp] theorem State.setOut_nand (s : State) (n : Fin 32) (o : OutSt) : (s.setOut n o).nand = s.nand := rfl
@[simp] theorem State.setOut_cave (s : State) (n : Fin 32) (o : OutSt) : (s.setOut n o).cave = s.cave := rfl
@[simp] theorem State.setOut_health (s : State) (n : Fin 32) (o : OutSt) : (s.setOut n o).health = s.health := rfl
@[simp] theorem State.setOut_bat (s : State) (n : Fin 32) (o : OutSt) : (s.setOut n o).bat = s.bat := rfl
@[simp] theorem State.setOut_fus (s : State) (n : Fin 32) (o : OutSt) : (s.setOut n o).fus = s.fus := rfl
@[simp] theorem State.setOut_rind (s : State) (n : Fin 32) (o : OutSt) : (s.setOut n o).rind = s.rind := rfl
@[simp] theorem State.setOut_lock (s : State) (n : Fin 32) (o : OutSt) : (s.setOut n o).lock = s.lock := rfl
@[simp] theorem State.setOut_life (s : State) (n : Fin 32) (o : OutSt) : (s.setOut n o).life = s.life := rfl
@[simp] theorem State.setOut_otp (s : State) (n : Fin 32) (o : OutSt) : (s.setOut n o).otp = s.otp := rfl
@[simp] theorem State.setOut_store (s : State) (n : Fin 32) (o : OutSt) : (s.setOut n o).store = s.store := rfl
@[simp] theorem State.setOut_jtag (s : State) (n : Fin 32) (o : OutSt) : (s.setOut n o).jtag = s.jtag := rfl
@[simp] theorem State.setOut_copyLink (s : State) (n : Fin 32) (o : OutSt) : (s.setOut n o).copyLink = s.copyLink := rfl
@[simp] theorem State.setOut_copyDma (s : State) (n : Fin 32) (o : OutSt) : (s.setOut n o).copyDma = s.copyDma := rfl
@[simp] theorem State.setOut_busRead (s : State) (n : Fin 32) (o : OutSt) : (s.setOut n o).busRead = s.busRead := rfl
@[simp] theorem State.setOut_busError (s : State) (n : Fin 32) (o : OutSt) : (s.setOut n o).busError = s.busError := rfl
@[simp] theorem State.setOut_setAt (s : State) (n : Fin 32) (o : OutSt) : (s.setOut n o).setAt = s.setAt := rfl
@[simp] theorem State.setOut_setNow (s : State) (n : Fin 32) (o : OutSt) : (s.setOut n o).setNow = s.setNow := rfl
@[simp] theorem State.setOut_mirror (s : State) (n : Fin 32) (o : OutSt) : (s.setOut n o).mirror = s.mirror := rfl

/-! #### setCh -/

@[simp] theorem State.setCh_dma (s : State) (n : Fin 16) (c : DmaCh) : (s.setCh n c).dma = { s.dma with chs := s.dma.chs.set n c } := rfl
@[simp] theorem State.setCh_now (s : State) (n : Fin 16) (c : DmaCh) : (s.setCh n c).now = s.now := rfl
@[simp] theorem State.setCh_lf (s : State) (n : Fin 16) (c : DmaCh) : (s.setCh n c).lf = s.lf := rfl
@[simp] theorem State.setCh_free (s : State) (n : Fin 16) (c : DmaCh) : (s.setCh n c).free = s.free := rfl
@[simp] theorem State.setCh_pending (s : State) (n : Fin 16) (c : DmaCh) : (s.setCh n c).pending = s.pending := rfl
@[simp] theorem State.setCh_regs (s : State) (n : Fin 16) (c : DmaCh) : (s.setCh n c).regs = s.regs := rfl
@[simp] theorem State.setCh_sram (s : State) (n : Fin 16) (c : DmaCh) : (s.setCh n c).sram = s.sram := rfl
@[simp] theorem State.setCh_sramGen (s : State) (n : Fin 16) (c : DmaCh) : (s.setCh n c).sramGen = s.sramGen := rfl
@[simp] theorem State.setCh_power (s : State) (n : Fin 16) (c : DmaCh) : (s.setCh n c).power = s.power := rfl
@[simp] theorem State.setCh_link (s : State) (n : Fin 16) (c : DmaCh) : (s.setCh n c).link = s.link := rfl
@[simp] theorem State.setCh_cfg (s : State) (n : Fin 16) (c : DmaCh) : (s.setCh n c).cfg = s.cfg := rfl
@[simp] theorem State.setCh_boot (s : State) (n : Fin 16) (c : DmaCh) : (s.setCh n c).boot = s.boot := rfl
@[simp] theorem State.setCh_tnowBase (s : State) (n : Fin 16) (c : DmaCh) : (s.setCh n c).tnowBase = s.tnowBase := rfl
@[simp] theorem State.setCh_wheels (s : State) (n : Fin 16) (c : DmaCh) : (s.setCh n c).wheels = s.wheels := rfl
@[simp] theorem State.setCh_phases (s : State) (n : Fin 16) (c : DmaCh) : (s.setCh n c).phases = s.phases := rfl
@[simp] theorem State.setCh_bias (s : State) (n : Fin 16) (c : DmaCh) : (s.setCh n c).bias = s.bias := rfl
@[simp] theorem State.setCh_snapAt (s : State) (n : Fin 16) (c : DmaCh) : (s.setCh n c).snapAt = s.snapAt := rfl
@[simp] theorem State.setCh_outs (s : State) (n : Fin 16) (c : DmaCh) : (s.setCh n c).outs = s.outs := rfl
@[simp] theorem State.setCh_timers (s : State) (n : Fin 16) (c : DmaCh) : (s.setCh n c).timers = s.timers := rfl
@[simp] theorem State.setCh_adcA (s : State) (n : Fin 16) (c : DmaCh) : (s.setCh n c).adcA = s.adcA := rfl
@[simp] theorem State.setCh_adcB (s : State) (n : Fin 16) (c : DmaCh) : (s.setCh n c).adcB = s.adcB := rfl
@[simp] theorem State.setCh_regA (s : State) (n : Fin 16) (c : DmaCh) : (s.setCh n c).regA = s.regA := rfl
@[simp] theorem State.setCh_injA (s : State) (n : Fin 16) (c : DmaCh) : (s.setCh n c).injA = s.injA := rfl
@[simp] theorem State.setCh_regB (s : State) (n : Fin 16) (c : DmaCh) : (s.setCh n c).regB = s.regB := rfl
@[simp] theorem State.setCh_injB (s : State) (n : Fin 16) (c : DmaCh) : (s.setCh n c).injB = s.injB := rfl
@[simp] theorem State.setCh_nand (s : State) (n : Fin 16) (c : DmaCh) : (s.setCh n c).nand = s.nand := rfl
@[simp] theorem State.setCh_cave (s : State) (n : Fin 16) (c : DmaCh) : (s.setCh n c).cave = s.cave := rfl
@[simp] theorem State.setCh_health (s : State) (n : Fin 16) (c : DmaCh) : (s.setCh n c).health = s.health := rfl
@[simp] theorem State.setCh_bat (s : State) (n : Fin 16) (c : DmaCh) : (s.setCh n c).bat = s.bat := rfl
@[simp] theorem State.setCh_fus (s : State) (n : Fin 16) (c : DmaCh) : (s.setCh n c).fus = s.fus := rfl
@[simp] theorem State.setCh_rind (s : State) (n : Fin 16) (c : DmaCh) : (s.setCh n c).rind = s.rind := rfl
@[simp] theorem State.setCh_lock (s : State) (n : Fin 16) (c : DmaCh) : (s.setCh n c).lock = s.lock := rfl
@[simp] theorem State.setCh_life (s : State) (n : Fin 16) (c : DmaCh) : (s.setCh n c).life = s.life := rfl
@[simp] theorem State.setCh_otp (s : State) (n : Fin 16) (c : DmaCh) : (s.setCh n c).otp = s.otp := rfl
@[simp] theorem State.setCh_store (s : State) (n : Fin 16) (c : DmaCh) : (s.setCh n c).store = s.store := rfl
@[simp] theorem State.setCh_jtag (s : State) (n : Fin 16) (c : DmaCh) : (s.setCh n c).jtag = s.jtag := rfl
@[simp] theorem State.setCh_copyLink (s : State) (n : Fin 16) (c : DmaCh) : (s.setCh n c).copyLink = s.copyLink := rfl
@[simp] theorem State.setCh_copyDma (s : State) (n : Fin 16) (c : DmaCh) : (s.setCh n c).copyDma = s.copyDma := rfl
@[simp] theorem State.setCh_busRead (s : State) (n : Fin 16) (c : DmaCh) : (s.setCh n c).busRead = s.busRead := rfl
@[simp] theorem State.setCh_busError (s : State) (n : Fin 16) (c : DmaCh) : (s.setCh n c).busError = s.busError := rfl
@[simp] theorem State.setCh_setAt (s : State) (n : Fin 16) (c : DmaCh) : (s.setCh n c).setAt = s.setAt := rfl
@[simp] theorem State.setCh_setNow (s : State) (n : Fin 16) (c : DmaCh) : (s.setCh n c).setNow = s.setNow := rfl
@[simp] theorem State.setCh_mirror (s : State) (n : Fin 16) (c : DmaCh) : (s.setCh n c).mirror = s.mirror := rfl

/-! #### clearDma -/

@[simp] theorem State.clearDma_dma (s : State) : (s.clearDma).dma = {} := rfl
@[simp] theorem State.clearDma_now (s : State) : (s.clearDma).now = s.now := rfl
@[simp] theorem State.clearDma_lf (s : State) : (s.clearDma).lf = s.lf := rfl
@[simp] theorem State.clearDma_free (s : State) : (s.clearDma).free = s.free := rfl
@[simp] theorem State.clearDma_pending (s : State) : (s.clearDma).pending = s.pending := rfl
@[simp] theorem State.clearDma_regs (s : State) : (s.clearDma).regs = s.regs := rfl
@[simp] theorem State.clearDma_sram (s : State) : (s.clearDma).sram = s.sram := rfl
@[simp] theorem State.clearDma_sramGen (s : State) : (s.clearDma).sramGen = s.sramGen := rfl
@[simp] theorem State.clearDma_power (s : State) : (s.clearDma).power = s.power := rfl
@[simp] theorem State.clearDma_link (s : State) : (s.clearDma).link = s.link := rfl
@[simp] theorem State.clearDma_cfg (s : State) : (s.clearDma).cfg = s.cfg := rfl
@[simp] theorem State.clearDma_boot (s : State) : (s.clearDma).boot = s.boot := rfl
@[simp] theorem State.clearDma_tnowBase (s : State) : (s.clearDma).tnowBase = s.tnowBase := rfl
@[simp] theorem State.clearDma_wheels (s : State) : (s.clearDma).wheels = s.wheels := rfl
@[simp] theorem State.clearDma_phases (s : State) : (s.clearDma).phases = s.phases := rfl
@[simp] theorem State.clearDma_bias (s : State) : (s.clearDma).bias = s.bias := rfl
@[simp] theorem State.clearDma_snapAt (s : State) : (s.clearDma).snapAt = s.snapAt := rfl
@[simp] theorem State.clearDma_outs (s : State) : (s.clearDma).outs = s.outs := rfl
@[simp] theorem State.clearDma_timers (s : State) : (s.clearDma).timers = s.timers := rfl
@[simp] theorem State.clearDma_adcA (s : State) : (s.clearDma).adcA = s.adcA := rfl
@[simp] theorem State.clearDma_adcB (s : State) : (s.clearDma).adcB = s.adcB := rfl
@[simp] theorem State.clearDma_regA (s : State) : (s.clearDma).regA = s.regA := rfl
@[simp] theorem State.clearDma_injA (s : State) : (s.clearDma).injA = s.injA := rfl
@[simp] theorem State.clearDma_regB (s : State) : (s.clearDma).regB = s.regB := rfl
@[simp] theorem State.clearDma_injB (s : State) : (s.clearDma).injB = s.injB := rfl
@[simp] theorem State.clearDma_nand (s : State) : (s.clearDma).nand = s.nand := rfl
@[simp] theorem State.clearDma_cave (s : State) : (s.clearDma).cave = s.cave := rfl
@[simp] theorem State.clearDma_health (s : State) : (s.clearDma).health = s.health := rfl
@[simp] theorem State.clearDma_bat (s : State) : (s.clearDma).bat = s.bat := rfl
@[simp] theorem State.clearDma_fus (s : State) : (s.clearDma).fus = s.fus := rfl
@[simp] theorem State.clearDma_rind (s : State) : (s.clearDma).rind = s.rind := rfl
@[simp] theorem State.clearDma_lock (s : State) : (s.clearDma).lock = s.lock := rfl
@[simp] theorem State.clearDma_life (s : State) : (s.clearDma).life = s.life := rfl
@[simp] theorem State.clearDma_otp (s : State) : (s.clearDma).otp = s.otp := rfl
@[simp] theorem State.clearDma_store (s : State) : (s.clearDma).store = s.store := rfl
@[simp] theorem State.clearDma_jtag (s : State) : (s.clearDma).jtag = s.jtag := rfl
@[simp] theorem State.clearDma_copyLink (s : State) : (s.clearDma).copyLink = s.copyLink := rfl
@[simp] theorem State.clearDma_copyDma (s : State) : (s.clearDma).copyDma = s.copyDma := rfl
@[simp] theorem State.clearDma_busRead (s : State) : (s.clearDma).busRead = s.busRead := rfl
@[simp] theorem State.clearDma_busError (s : State) : (s.clearDma).busError = s.busError := rfl
@[simp] theorem State.clearDma_setAt (s : State) : (s.clearDma).setAt = s.setAt := rfl
@[simp] theorem State.clearDma_setNow (s : State) : (s.clearDma).setNow = s.setNow := rfl
@[simp] theorem State.clearDma_mirror (s : State) : (s.clearDma).mirror = s.mirror := rfl

/-! #### setPhase -/

@[simp] theorem State.setPhase_phases (s : State) (k : Fin 2) (p : PhaseSt) : (s.setPhase k p).phases = s.phases.set k p := rfl
@[simp] theorem State.setPhase_now (s : State) (k : Fin 2) (p : PhaseSt) : (s.setPhase k p).now = s.now := rfl
@[simp] theorem State.setPhase_lf (s : State) (k : Fin 2) (p : PhaseSt) : (s.setPhase k p).lf = s.lf := rfl
@[simp] theorem State.setPhase_free (s : State) (k : Fin 2) (p : PhaseSt) : (s.setPhase k p).free = s.free := rfl
@[simp] theorem State.setPhase_pending (s : State) (k : Fin 2) (p : PhaseSt) : (s.setPhase k p).pending = s.pending := rfl
@[simp] theorem State.setPhase_regs (s : State) (k : Fin 2) (p : PhaseSt) : (s.setPhase k p).regs = s.regs := rfl
@[simp] theorem State.setPhase_sram (s : State) (k : Fin 2) (p : PhaseSt) : (s.setPhase k p).sram = s.sram := rfl
@[simp] theorem State.setPhase_sramGen (s : State) (k : Fin 2) (p : PhaseSt) : (s.setPhase k p).sramGen = s.sramGen := rfl
@[simp] theorem State.setPhase_power (s : State) (k : Fin 2) (p : PhaseSt) : (s.setPhase k p).power = s.power := rfl
@[simp] theorem State.setPhase_link (s : State) (k : Fin 2) (p : PhaseSt) : (s.setPhase k p).link = s.link := rfl
@[simp] theorem State.setPhase_cfg (s : State) (k : Fin 2) (p : PhaseSt) : (s.setPhase k p).cfg = s.cfg := rfl
@[simp] theorem State.setPhase_boot (s : State) (k : Fin 2) (p : PhaseSt) : (s.setPhase k p).boot = s.boot := rfl
@[simp] theorem State.setPhase_tnowBase (s : State) (k : Fin 2) (p : PhaseSt) : (s.setPhase k p).tnowBase = s.tnowBase := rfl
@[simp] theorem State.setPhase_wheels (s : State) (k : Fin 2) (p : PhaseSt) : (s.setPhase k p).wheels = s.wheels := rfl
@[simp] theorem State.setPhase_bias (s : State) (k : Fin 2) (p : PhaseSt) : (s.setPhase k p).bias = s.bias := rfl
@[simp] theorem State.setPhase_snapAt (s : State) (k : Fin 2) (p : PhaseSt) : (s.setPhase k p).snapAt = s.snapAt := rfl
@[simp] theorem State.setPhase_outs (s : State) (k : Fin 2) (p : PhaseSt) : (s.setPhase k p).outs = s.outs := rfl
@[simp] theorem State.setPhase_timers (s : State) (k : Fin 2) (p : PhaseSt) : (s.setPhase k p).timers = s.timers := rfl
@[simp] theorem State.setPhase_adcA (s : State) (k : Fin 2) (p : PhaseSt) : (s.setPhase k p).adcA = s.adcA := rfl
@[simp] theorem State.setPhase_adcB (s : State) (k : Fin 2) (p : PhaseSt) : (s.setPhase k p).adcB = s.adcB := rfl
@[simp] theorem State.setPhase_regA (s : State) (k : Fin 2) (p : PhaseSt) : (s.setPhase k p).regA = s.regA := rfl
@[simp] theorem State.setPhase_injA (s : State) (k : Fin 2) (p : PhaseSt) : (s.setPhase k p).injA = s.injA := rfl
@[simp] theorem State.setPhase_regB (s : State) (k : Fin 2) (p : PhaseSt) : (s.setPhase k p).regB = s.regB := rfl
@[simp] theorem State.setPhase_injB (s : State) (k : Fin 2) (p : PhaseSt) : (s.setPhase k p).injB = s.injB := rfl
@[simp] theorem State.setPhase_dma (s : State) (k : Fin 2) (p : PhaseSt) : (s.setPhase k p).dma = s.dma := rfl
@[simp] theorem State.setPhase_nand (s : State) (k : Fin 2) (p : PhaseSt) : (s.setPhase k p).nand = s.nand := rfl
@[simp] theorem State.setPhase_cave (s : State) (k : Fin 2) (p : PhaseSt) : (s.setPhase k p).cave = s.cave := rfl
@[simp] theorem State.setPhase_health (s : State) (k : Fin 2) (p : PhaseSt) : (s.setPhase k p).health = s.health := rfl
@[simp] theorem State.setPhase_bat (s : State) (k : Fin 2) (p : PhaseSt) : (s.setPhase k p).bat = s.bat := rfl
@[simp] theorem State.setPhase_fus (s : State) (k : Fin 2) (p : PhaseSt) : (s.setPhase k p).fus = s.fus := rfl
@[simp] theorem State.setPhase_rind (s : State) (k : Fin 2) (p : PhaseSt) : (s.setPhase k p).rind = s.rind := rfl
@[simp] theorem State.setPhase_lock (s : State) (k : Fin 2) (p : PhaseSt) : (s.setPhase k p).lock = s.lock := rfl
@[simp] theorem State.setPhase_life (s : State) (k : Fin 2) (p : PhaseSt) : (s.setPhase k p).life = s.life := rfl
@[simp] theorem State.setPhase_otp (s : State) (k : Fin 2) (p : PhaseSt) : (s.setPhase k p).otp = s.otp := rfl
@[simp] theorem State.setPhase_store (s : State) (k : Fin 2) (p : PhaseSt) : (s.setPhase k p).store = s.store := rfl
@[simp] theorem State.setPhase_jtag (s : State) (k : Fin 2) (p : PhaseSt) : (s.setPhase k p).jtag = s.jtag := rfl
@[simp] theorem State.setPhase_copyLink (s : State) (k : Fin 2) (p : PhaseSt) : (s.setPhase k p).copyLink = s.copyLink := rfl
@[simp] theorem State.setPhase_copyDma (s : State) (k : Fin 2) (p : PhaseSt) : (s.setPhase k p).copyDma = s.copyDma := rfl
@[simp] theorem State.setPhase_busRead (s : State) (k : Fin 2) (p : PhaseSt) : (s.setPhase k p).busRead = s.busRead := rfl
@[simp] theorem State.setPhase_busError (s : State) (k : Fin 2) (p : PhaseSt) : (s.setPhase k p).busError = s.busError := rfl
@[simp] theorem State.setPhase_setAt (s : State) (k : Fin 2) (p : PhaseSt) : (s.setPhase k p).setAt = s.setAt := rfl
@[simp] theorem State.setPhase_setNow (s : State) (k : Fin 2) (p : PhaseSt) : (s.setPhase k p).setNow = s.setNow := rfl
@[simp] theorem State.setPhase_mirror (s : State) (k : Fin 2) (p : PhaseSt) : (s.setPhase k p).mirror = s.mirror := rfl

/-! #### setBat -/

@[simp] theorem State.setBat_bat (s : State) (b : BatSt) : (s.setBat b).bat = b := rfl
@[simp] theorem State.setBat_now (s : State) (b : BatSt) : (s.setBat b).now = s.now := rfl
@[simp] theorem State.setBat_lf (s : State) (b : BatSt) : (s.setBat b).lf = s.lf := rfl
@[simp] theorem State.setBat_free (s : State) (b : BatSt) : (s.setBat b).free = s.free := rfl
@[simp] theorem State.setBat_pending (s : State) (b : BatSt) : (s.setBat b).pending = s.pending := rfl
@[simp] theorem State.setBat_regs (s : State) (b : BatSt) : (s.setBat b).regs = s.regs := rfl
@[simp] theorem State.setBat_sram (s : State) (b : BatSt) : (s.setBat b).sram = s.sram := rfl
@[simp] theorem State.setBat_sramGen (s : State) (b : BatSt) : (s.setBat b).sramGen = s.sramGen := rfl
@[simp] theorem State.setBat_power (s : State) (b : BatSt) : (s.setBat b).power = s.power := rfl
@[simp] theorem State.setBat_link (s : State) (b : BatSt) : (s.setBat b).link = s.link := rfl
@[simp] theorem State.setBat_cfg (s : State) (b : BatSt) : (s.setBat b).cfg = s.cfg := rfl
@[simp] theorem State.setBat_boot (s : State) (b : BatSt) : (s.setBat b).boot = s.boot := rfl
@[simp] theorem State.setBat_tnowBase (s : State) (b : BatSt) : (s.setBat b).tnowBase = s.tnowBase := rfl
@[simp] theorem State.setBat_wheels (s : State) (b : BatSt) : (s.setBat b).wheels = s.wheels := rfl
@[simp] theorem State.setBat_phases (s : State) (b : BatSt) : (s.setBat b).phases = s.phases := rfl
@[simp] theorem State.setBat_bias (s : State) (b : BatSt) : (s.setBat b).bias = s.bias := rfl
@[simp] theorem State.setBat_snapAt (s : State) (b : BatSt) : (s.setBat b).snapAt = s.snapAt := rfl
@[simp] theorem State.setBat_outs (s : State) (b : BatSt) : (s.setBat b).outs = s.outs := rfl
@[simp] theorem State.setBat_timers (s : State) (b : BatSt) : (s.setBat b).timers = s.timers := rfl
@[simp] theorem State.setBat_adcA (s : State) (b : BatSt) : (s.setBat b).adcA = s.adcA := rfl
@[simp] theorem State.setBat_adcB (s : State) (b : BatSt) : (s.setBat b).adcB = s.adcB := rfl
@[simp] theorem State.setBat_regA (s : State) (b : BatSt) : (s.setBat b).regA = s.regA := rfl
@[simp] theorem State.setBat_injA (s : State) (b : BatSt) : (s.setBat b).injA = s.injA := rfl
@[simp] theorem State.setBat_regB (s : State) (b : BatSt) : (s.setBat b).regB = s.regB := rfl
@[simp] theorem State.setBat_injB (s : State) (b : BatSt) : (s.setBat b).injB = s.injB := rfl
@[simp] theorem State.setBat_dma (s : State) (b : BatSt) : (s.setBat b).dma = s.dma := rfl
@[simp] theorem State.setBat_nand (s : State) (b : BatSt) : (s.setBat b).nand = s.nand := rfl
@[simp] theorem State.setBat_cave (s : State) (b : BatSt) : (s.setBat b).cave = s.cave := rfl
@[simp] theorem State.setBat_health (s : State) (b : BatSt) : (s.setBat b).health = s.health := rfl
@[simp] theorem State.setBat_fus (s : State) (b : BatSt) : (s.setBat b).fus = s.fus := rfl
@[simp] theorem State.setBat_rind (s : State) (b : BatSt) : (s.setBat b).rind = s.rind := rfl
@[simp] theorem State.setBat_lock (s : State) (b : BatSt) : (s.setBat b).lock = s.lock := rfl
@[simp] theorem State.setBat_life (s : State) (b : BatSt) : (s.setBat b).life = s.life := rfl
@[simp] theorem State.setBat_otp (s : State) (b : BatSt) : (s.setBat b).otp = s.otp := rfl
@[simp] theorem State.setBat_store (s : State) (b : BatSt) : (s.setBat b).store = s.store := rfl
@[simp] theorem State.setBat_jtag (s : State) (b : BatSt) : (s.setBat b).jtag = s.jtag := rfl
@[simp] theorem State.setBat_copyLink (s : State) (b : BatSt) : (s.setBat b).copyLink = s.copyLink := rfl
@[simp] theorem State.setBat_copyDma (s : State) (b : BatSt) : (s.setBat b).copyDma = s.copyDma := rfl
@[simp] theorem State.setBat_busRead (s : State) (b : BatSt) : (s.setBat b).busRead = s.busRead := rfl
@[simp] theorem State.setBat_busError (s : State) (b : BatSt) : (s.setBat b).busError = s.busError := rfl
@[simp] theorem State.setBat_setAt (s : State) (b : BatSt) : (s.setBat b).setAt = s.setAt := rfl
@[simp] theorem State.setBat_setNow (s : State) (b : BatSt) : (s.setBat b).setNow = s.setNow := rfl
@[simp] theorem State.setBat_mirror (s : State) (b : BatSt) : (s.setBat b).mirror = s.mirror := rfl

/-! #### setFus -/

@[simp] theorem State.setFus_fus (s : State) (f : FusSt) : (s.setFus f).fus = f := rfl
@[simp] theorem State.setFus_now (s : State) (f : FusSt) : (s.setFus f).now = s.now := rfl
@[simp] theorem State.setFus_lf (s : State) (f : FusSt) : (s.setFus f).lf = s.lf := rfl
@[simp] theorem State.setFus_free (s : State) (f : FusSt) : (s.setFus f).free = s.free := rfl
@[simp] theorem State.setFus_pending (s : State) (f : FusSt) : (s.setFus f).pending = s.pending := rfl
@[simp] theorem State.setFus_regs (s : State) (f : FusSt) : (s.setFus f).regs = s.regs := rfl
@[simp] theorem State.setFus_sram (s : State) (f : FusSt) : (s.setFus f).sram = s.sram := rfl
@[simp] theorem State.setFus_sramGen (s : State) (f : FusSt) : (s.setFus f).sramGen = s.sramGen := rfl
@[simp] theorem State.setFus_power (s : State) (f : FusSt) : (s.setFus f).power = s.power := rfl
@[simp] theorem State.setFus_link (s : State) (f : FusSt) : (s.setFus f).link = s.link := rfl
@[simp] theorem State.setFus_cfg (s : State) (f : FusSt) : (s.setFus f).cfg = s.cfg := rfl
@[simp] theorem State.setFus_boot (s : State) (f : FusSt) : (s.setFus f).boot = s.boot := rfl
@[simp] theorem State.setFus_tnowBase (s : State) (f : FusSt) : (s.setFus f).tnowBase = s.tnowBase := rfl
@[simp] theorem State.setFus_wheels (s : State) (f : FusSt) : (s.setFus f).wheels = s.wheels := rfl
@[simp] theorem State.setFus_phases (s : State) (f : FusSt) : (s.setFus f).phases = s.phases := rfl
@[simp] theorem State.setFus_bias (s : State) (f : FusSt) : (s.setFus f).bias = s.bias := rfl
@[simp] theorem State.setFus_snapAt (s : State) (f : FusSt) : (s.setFus f).snapAt = s.snapAt := rfl
@[simp] theorem State.setFus_outs (s : State) (f : FusSt) : (s.setFus f).outs = s.outs := rfl
@[simp] theorem State.setFus_timers (s : State) (f : FusSt) : (s.setFus f).timers = s.timers := rfl
@[simp] theorem State.setFus_adcA (s : State) (f : FusSt) : (s.setFus f).adcA = s.adcA := rfl
@[simp] theorem State.setFus_adcB (s : State) (f : FusSt) : (s.setFus f).adcB = s.adcB := rfl
@[simp] theorem State.setFus_regA (s : State) (f : FusSt) : (s.setFus f).regA = s.regA := rfl
@[simp] theorem State.setFus_injA (s : State) (f : FusSt) : (s.setFus f).injA = s.injA := rfl
@[simp] theorem State.setFus_regB (s : State) (f : FusSt) : (s.setFus f).regB = s.regB := rfl
@[simp] theorem State.setFus_injB (s : State) (f : FusSt) : (s.setFus f).injB = s.injB := rfl
@[simp] theorem State.setFus_dma (s : State) (f : FusSt) : (s.setFus f).dma = s.dma := rfl
@[simp] theorem State.setFus_nand (s : State) (f : FusSt) : (s.setFus f).nand = s.nand := rfl
@[simp] theorem State.setFus_cave (s : State) (f : FusSt) : (s.setFus f).cave = s.cave := rfl
@[simp] theorem State.setFus_health (s : State) (f : FusSt) : (s.setFus f).health = s.health := rfl
@[simp] theorem State.setFus_bat (s : State) (f : FusSt) : (s.setFus f).bat = s.bat := rfl
@[simp] theorem State.setFus_rind (s : State) (f : FusSt) : (s.setFus f).rind = s.rind := rfl
@[simp] theorem State.setFus_lock (s : State) (f : FusSt) : (s.setFus f).lock = s.lock := rfl
@[simp] theorem State.setFus_life (s : State) (f : FusSt) : (s.setFus f).life = s.life := rfl
@[simp] theorem State.setFus_otp (s : State) (f : FusSt) : (s.setFus f).otp = s.otp := rfl
@[simp] theorem State.setFus_store (s : State) (f : FusSt) : (s.setFus f).store = s.store := rfl
@[simp] theorem State.setFus_jtag (s : State) (f : FusSt) : (s.setFus f).jtag = s.jtag := rfl
@[simp] theorem State.setFus_copyLink (s : State) (f : FusSt) : (s.setFus f).copyLink = s.copyLink := rfl
@[simp] theorem State.setFus_copyDma (s : State) (f : FusSt) : (s.setFus f).copyDma = s.copyDma := rfl
@[simp] theorem State.setFus_busRead (s : State) (f : FusSt) : (s.setFus f).busRead = s.busRead := rfl
@[simp] theorem State.setFus_busError (s : State) (f : FusSt) : (s.setFus f).busError = s.busError := rfl
@[simp] theorem State.setFus_setAt (s : State) (f : FusSt) : (s.setFus f).setAt = s.setAt := rfl
@[simp] theorem State.setFus_setNow (s : State) (f : FusSt) : (s.setFus f).setNow = s.setNow := rfl
@[simp] theorem State.setFus_mirror (s : State) (f : FusSt) : (s.setFus f).mirror = s.mirror := rfl

/-! #### setRind -/

@[simp] theorem State.setRind_rind (s : State) (r : RindSt) : (s.setRind r).rind = r := rfl
@[simp] theorem State.setRind_now (s : State) (r : RindSt) : (s.setRind r).now = s.now := rfl
@[simp] theorem State.setRind_lf (s : State) (r : RindSt) : (s.setRind r).lf = s.lf := rfl
@[simp] theorem State.setRind_free (s : State) (r : RindSt) : (s.setRind r).free = s.free := rfl
@[simp] theorem State.setRind_pending (s : State) (r : RindSt) : (s.setRind r).pending = s.pending := rfl
@[simp] theorem State.setRind_regs (s : State) (r : RindSt) : (s.setRind r).regs = s.regs := rfl
@[simp] theorem State.setRind_sram (s : State) (r : RindSt) : (s.setRind r).sram = s.sram := rfl
@[simp] theorem State.setRind_sramGen (s : State) (r : RindSt) : (s.setRind r).sramGen = s.sramGen := rfl
@[simp] theorem State.setRind_power (s : State) (r : RindSt) : (s.setRind r).power = s.power := rfl
@[simp] theorem State.setRind_link (s : State) (r : RindSt) : (s.setRind r).link = s.link := rfl
@[simp] theorem State.setRind_cfg (s : State) (r : RindSt) : (s.setRind r).cfg = s.cfg := rfl
@[simp] theorem State.setRind_boot (s : State) (r : RindSt) : (s.setRind r).boot = s.boot := rfl
@[simp] theorem State.setRind_tnowBase (s : State) (r : RindSt) : (s.setRind r).tnowBase = s.tnowBase := rfl
@[simp] theorem State.setRind_wheels (s : State) (r : RindSt) : (s.setRind r).wheels = s.wheels := rfl
@[simp] theorem State.setRind_phases (s : State) (r : RindSt) : (s.setRind r).phases = s.phases := rfl
@[simp] theorem State.setRind_bias (s : State) (r : RindSt) : (s.setRind r).bias = s.bias := rfl
@[simp] theorem State.setRind_snapAt (s : State) (r : RindSt) : (s.setRind r).snapAt = s.snapAt := rfl
@[simp] theorem State.setRind_outs (s : State) (r : RindSt) : (s.setRind r).outs = s.outs := rfl
@[simp] theorem State.setRind_timers (s : State) (r : RindSt) : (s.setRind r).timers = s.timers := rfl
@[simp] theorem State.setRind_adcA (s : State) (r : RindSt) : (s.setRind r).adcA = s.adcA := rfl
@[simp] theorem State.setRind_adcB (s : State) (r : RindSt) : (s.setRind r).adcB = s.adcB := rfl
@[simp] theorem State.setRind_regA (s : State) (r : RindSt) : (s.setRind r).regA = s.regA := rfl
@[simp] theorem State.setRind_injA (s : State) (r : RindSt) : (s.setRind r).injA = s.injA := rfl
@[simp] theorem State.setRind_regB (s : State) (r : RindSt) : (s.setRind r).regB = s.regB := rfl
@[simp] theorem State.setRind_injB (s : State) (r : RindSt) : (s.setRind r).injB = s.injB := rfl
@[simp] theorem State.setRind_dma (s : State) (r : RindSt) : (s.setRind r).dma = s.dma := rfl
@[simp] theorem State.setRind_nand (s : State) (r : RindSt) : (s.setRind r).nand = s.nand := rfl
@[simp] theorem State.setRind_cave (s : State) (r : RindSt) : (s.setRind r).cave = s.cave := rfl
@[simp] theorem State.setRind_health (s : State) (r : RindSt) : (s.setRind r).health = s.health := rfl
@[simp] theorem State.setRind_bat (s : State) (r : RindSt) : (s.setRind r).bat = s.bat := rfl
@[simp] theorem State.setRind_fus (s : State) (r : RindSt) : (s.setRind r).fus = s.fus := rfl
@[simp] theorem State.setRind_lock (s : State) (r : RindSt) : (s.setRind r).lock = s.lock := rfl
@[simp] theorem State.setRind_life (s : State) (r : RindSt) : (s.setRind r).life = s.life := rfl
@[simp] theorem State.setRind_otp (s : State) (r : RindSt) : (s.setRind r).otp = s.otp := rfl
@[simp] theorem State.setRind_store (s : State) (r : RindSt) : (s.setRind r).store = s.store := rfl
@[simp] theorem State.setRind_jtag (s : State) (r : RindSt) : (s.setRind r).jtag = s.jtag := rfl
@[simp] theorem State.setRind_copyLink (s : State) (r : RindSt) : (s.setRind r).copyLink = s.copyLink := rfl
@[simp] theorem State.setRind_copyDma (s : State) (r : RindSt) : (s.setRind r).copyDma = s.copyDma := rfl
@[simp] theorem State.setRind_busRead (s : State) (r : RindSt) : (s.setRind r).busRead = s.busRead := rfl
@[simp] theorem State.setRind_busError (s : State) (r : RindSt) : (s.setRind r).busError = s.busError := rfl
@[simp] theorem State.setRind_setAt (s : State) (r : RindSt) : (s.setRind r).setAt = s.setAt := rfl
@[simp] theorem State.setRind_setNow (s : State) (r : RindSt) : (s.setRind r).setNow = s.setNow := rfl
@[simp] theorem State.setRind_mirror (s : State) (r : RindSt) : (s.setRind r).mirror = s.mirror := rfl

/-! #### setLock -/

@[simp] theorem State.setLock_lock (s : State) (l : LockSt) : (s.setLock l).lock = l := rfl
@[simp] theorem State.setLock_now (s : State) (l : LockSt) : (s.setLock l).now = s.now := rfl
@[simp] theorem State.setLock_lf (s : State) (l : LockSt) : (s.setLock l).lf = s.lf := rfl
@[simp] theorem State.setLock_free (s : State) (l : LockSt) : (s.setLock l).free = s.free := rfl
@[simp] theorem State.setLock_pending (s : State) (l : LockSt) : (s.setLock l).pending = s.pending := rfl
@[simp] theorem State.setLock_regs (s : State) (l : LockSt) : (s.setLock l).regs = s.regs := rfl
@[simp] theorem State.setLock_sram (s : State) (l : LockSt) : (s.setLock l).sram = s.sram := rfl
@[simp] theorem State.setLock_sramGen (s : State) (l : LockSt) : (s.setLock l).sramGen = s.sramGen := rfl
@[simp] theorem State.setLock_power (s : State) (l : LockSt) : (s.setLock l).power = s.power := rfl
@[simp] theorem State.setLock_link (s : State) (l : LockSt) : (s.setLock l).link = s.link := rfl
@[simp] theorem State.setLock_cfg (s : State) (l : LockSt) : (s.setLock l).cfg = s.cfg := rfl
@[simp] theorem State.setLock_boot (s : State) (l : LockSt) : (s.setLock l).boot = s.boot := rfl
@[simp] theorem State.setLock_tnowBase (s : State) (l : LockSt) : (s.setLock l).tnowBase = s.tnowBase := rfl
@[simp] theorem State.setLock_wheels (s : State) (l : LockSt) : (s.setLock l).wheels = s.wheels := rfl
@[simp] theorem State.setLock_phases (s : State) (l : LockSt) : (s.setLock l).phases = s.phases := rfl
@[simp] theorem State.setLock_bias (s : State) (l : LockSt) : (s.setLock l).bias = s.bias := rfl
@[simp] theorem State.setLock_snapAt (s : State) (l : LockSt) : (s.setLock l).snapAt = s.snapAt := rfl
@[simp] theorem State.setLock_outs (s : State) (l : LockSt) : (s.setLock l).outs = s.outs := rfl
@[simp] theorem State.setLock_timers (s : State) (l : LockSt) : (s.setLock l).timers = s.timers := rfl
@[simp] theorem State.setLock_adcA (s : State) (l : LockSt) : (s.setLock l).adcA = s.adcA := rfl
@[simp] theorem State.setLock_adcB (s : State) (l : LockSt) : (s.setLock l).adcB = s.adcB := rfl
@[simp] theorem State.setLock_regA (s : State) (l : LockSt) : (s.setLock l).regA = s.regA := rfl
@[simp] theorem State.setLock_injA (s : State) (l : LockSt) : (s.setLock l).injA = s.injA := rfl
@[simp] theorem State.setLock_regB (s : State) (l : LockSt) : (s.setLock l).regB = s.regB := rfl
@[simp] theorem State.setLock_injB (s : State) (l : LockSt) : (s.setLock l).injB = s.injB := rfl
@[simp] theorem State.setLock_dma (s : State) (l : LockSt) : (s.setLock l).dma = s.dma := rfl
@[simp] theorem State.setLock_nand (s : State) (l : LockSt) : (s.setLock l).nand = s.nand := rfl
@[simp] theorem State.setLock_cave (s : State) (l : LockSt) : (s.setLock l).cave = s.cave := rfl
@[simp] theorem State.setLock_health (s : State) (l : LockSt) : (s.setLock l).health = s.health := rfl
@[simp] theorem State.setLock_bat (s : State) (l : LockSt) : (s.setLock l).bat = s.bat := rfl
@[simp] theorem State.setLock_fus (s : State) (l : LockSt) : (s.setLock l).fus = s.fus := rfl
@[simp] theorem State.setLock_rind (s : State) (l : LockSt) : (s.setLock l).rind = s.rind := rfl
@[simp] theorem State.setLock_life (s : State) (l : LockSt) : (s.setLock l).life = s.life := rfl
@[simp] theorem State.setLock_otp (s : State) (l : LockSt) : (s.setLock l).otp = s.otp := rfl
@[simp] theorem State.setLock_store (s : State) (l : LockSt) : (s.setLock l).store = s.store := rfl
@[simp] theorem State.setLock_jtag (s : State) (l : LockSt) : (s.setLock l).jtag = s.jtag := rfl
@[simp] theorem State.setLock_copyLink (s : State) (l : LockSt) : (s.setLock l).copyLink = s.copyLink := rfl
@[simp] theorem State.setLock_copyDma (s : State) (l : LockSt) : (s.setLock l).copyDma = s.copyDma := rfl
@[simp] theorem State.setLock_busRead (s : State) (l : LockSt) : (s.setLock l).busRead = s.busRead := rfl
@[simp] theorem State.setLock_busError (s : State) (l : LockSt) : (s.setLock l).busError = s.busError := rfl
@[simp] theorem State.setLock_setAt (s : State) (l : LockSt) : (s.setLock l).setAt = s.setAt := rfl
@[simp] theorem State.setLock_setNow (s : State) (l : LockSt) : (s.setLock l).setNow = s.setNow := rfl
@[simp] theorem State.setLock_mirror (s : State) (l : LockSt) : (s.setLock l).mirror = s.mirror := rfl

/-! #### setLife -/

@[simp] theorem State.setLife_life (s : State) (l : LifeSt) : (s.setLife l).life = l := rfl
@[simp] theorem State.setLife_now (s : State) (l : LifeSt) : (s.setLife l).now = s.now := rfl
@[simp] theorem State.setLife_lf (s : State) (l : LifeSt) : (s.setLife l).lf = s.lf := rfl
@[simp] theorem State.setLife_free (s : State) (l : LifeSt) : (s.setLife l).free = s.free := rfl
@[simp] theorem State.setLife_pending (s : State) (l : LifeSt) : (s.setLife l).pending = s.pending := rfl
@[simp] theorem State.setLife_regs (s : State) (l : LifeSt) : (s.setLife l).regs = s.regs := rfl
@[simp] theorem State.setLife_sram (s : State) (l : LifeSt) : (s.setLife l).sram = s.sram := rfl
@[simp] theorem State.setLife_sramGen (s : State) (l : LifeSt) : (s.setLife l).sramGen = s.sramGen := rfl
@[simp] theorem State.setLife_power (s : State) (l : LifeSt) : (s.setLife l).power = s.power := rfl
@[simp] theorem State.setLife_link (s : State) (l : LifeSt) : (s.setLife l).link = s.link := rfl
@[simp] theorem State.setLife_cfg (s : State) (l : LifeSt) : (s.setLife l).cfg = s.cfg := rfl
@[simp] theorem State.setLife_boot (s : State) (l : LifeSt) : (s.setLife l).boot = s.boot := rfl
@[simp] theorem State.setLife_tnowBase (s : State) (l : LifeSt) : (s.setLife l).tnowBase = s.tnowBase := rfl
@[simp] theorem State.setLife_wheels (s : State) (l : LifeSt) : (s.setLife l).wheels = s.wheels := rfl
@[simp] theorem State.setLife_phases (s : State) (l : LifeSt) : (s.setLife l).phases = s.phases := rfl
@[simp] theorem State.setLife_bias (s : State) (l : LifeSt) : (s.setLife l).bias = s.bias := rfl
@[simp] theorem State.setLife_snapAt (s : State) (l : LifeSt) : (s.setLife l).snapAt = s.snapAt := rfl
@[simp] theorem State.setLife_outs (s : State) (l : LifeSt) : (s.setLife l).outs = s.outs := rfl
@[simp] theorem State.setLife_timers (s : State) (l : LifeSt) : (s.setLife l).timers = s.timers := rfl
@[simp] theorem State.setLife_adcA (s : State) (l : LifeSt) : (s.setLife l).adcA = s.adcA := rfl
@[simp] theorem State.setLife_adcB (s : State) (l : LifeSt) : (s.setLife l).adcB = s.adcB := rfl
@[simp] theorem State.setLife_regA (s : State) (l : LifeSt) : (s.setLife l).regA = s.regA := rfl
@[simp] theorem State.setLife_injA (s : State) (l : LifeSt) : (s.setLife l).injA = s.injA := rfl
@[simp] theorem State.setLife_regB (s : State) (l : LifeSt) : (s.setLife l).regB = s.regB := rfl
@[simp] theorem State.setLife_injB (s : State) (l : LifeSt) : (s.setLife l).injB = s.injB := rfl
@[simp] theorem State.setLife_dma (s : State) (l : LifeSt) : (s.setLife l).dma = s.dma := rfl
@[simp] theorem State.setLife_nand (s : State) (l : LifeSt) : (s.setLife l).nand = s.nand := rfl
@[simp] theorem State.setLife_cave (s : State) (l : LifeSt) : (s.setLife l).cave = s.cave := rfl
@[simp] theorem State.setLife_health (s : State) (l : LifeSt) : (s.setLife l).health = s.health := rfl
@[simp] theorem State.setLife_bat (s : State) (l : LifeSt) : (s.setLife l).bat = s.bat := rfl
@[simp] theorem State.setLife_fus (s : State) (l : LifeSt) : (s.setLife l).fus = s.fus := rfl
@[simp] theorem State.setLife_rind (s : State) (l : LifeSt) : (s.setLife l).rind = s.rind := rfl
@[simp] theorem State.setLife_lock (s : State) (l : LifeSt) : (s.setLife l).lock = s.lock := rfl
@[simp] theorem State.setLife_otp (s : State) (l : LifeSt) : (s.setLife l).otp = s.otp := rfl
@[simp] theorem State.setLife_store (s : State) (l : LifeSt) : (s.setLife l).store = s.store := rfl
@[simp] theorem State.setLife_jtag (s : State) (l : LifeSt) : (s.setLife l).jtag = s.jtag := rfl
@[simp] theorem State.setLife_copyLink (s : State) (l : LifeSt) : (s.setLife l).copyLink = s.copyLink := rfl
@[simp] theorem State.setLife_copyDma (s : State) (l : LifeSt) : (s.setLife l).copyDma = s.copyDma := rfl
@[simp] theorem State.setLife_busRead (s : State) (l : LifeSt) : (s.setLife l).busRead = s.busRead := rfl
@[simp] theorem State.setLife_busError (s : State) (l : LifeSt) : (s.setLife l).busError = s.busError := rfl
@[simp] theorem State.setLife_setAt (s : State) (l : LifeSt) : (s.setLife l).setAt = s.setAt := rfl
@[simp] theorem State.setLife_setNow (s : State) (l : LifeSt) : (s.setLife l).setNow = s.setNow := rfl
@[simp] theorem State.setLife_mirror (s : State) (l : LifeSt) : (s.setLife l).mirror = s.mirror := rfl

/-! #### setPower -/

@[simp] theorem State.setPower_power (s : State) (p : PowerSt) : (s.setPower p).power = p := rfl
@[simp] theorem State.setPower_now (s : State) (p : PowerSt) : (s.setPower p).now = s.now := rfl
@[simp] theorem State.setPower_lf (s : State) (p : PowerSt) : (s.setPower p).lf = s.lf := rfl
@[simp] theorem State.setPower_free (s : State) (p : PowerSt) : (s.setPower p).free = s.free := rfl
@[simp] theorem State.setPower_pending (s : State) (p : PowerSt) : (s.setPower p).pending = s.pending := rfl
@[simp] theorem State.setPower_regs (s : State) (p : PowerSt) : (s.setPower p).regs = s.regs := rfl
@[simp] theorem State.setPower_sram (s : State) (p : PowerSt) : (s.setPower p).sram = s.sram := rfl
@[simp] theorem State.setPower_sramGen (s : State) (p : PowerSt) : (s.setPower p).sramGen = s.sramGen := rfl
@[simp] theorem State.setPower_link (s : State) (p : PowerSt) : (s.setPower p).link = s.link := rfl
@[simp] theorem State.setPower_cfg (s : State) (p : PowerSt) : (s.setPower p).cfg = s.cfg := rfl
@[simp] theorem State.setPower_boot (s : State) (p : PowerSt) : (s.setPower p).boot = s.boot := rfl
@[simp] theorem State.setPower_tnowBase (s : State) (p : PowerSt) : (s.setPower p).tnowBase = s.tnowBase := rfl
@[simp] theorem State.setPower_wheels (s : State) (p : PowerSt) : (s.setPower p).wheels = s.wheels := rfl
@[simp] theorem State.setPower_phases (s : State) (p : PowerSt) : (s.setPower p).phases = s.phases := rfl
@[simp] theorem State.setPower_bias (s : State) (p : PowerSt) : (s.setPower p).bias = s.bias := rfl
@[simp] theorem State.setPower_snapAt (s : State) (p : PowerSt) : (s.setPower p).snapAt = s.snapAt := rfl
@[simp] theorem State.setPower_outs (s : State) (p : PowerSt) : (s.setPower p).outs = s.outs := rfl
@[simp] theorem State.setPower_timers (s : State) (p : PowerSt) : (s.setPower p).timers = s.timers := rfl
@[simp] theorem State.setPower_adcA (s : State) (p : PowerSt) : (s.setPower p).adcA = s.adcA := rfl
@[simp] theorem State.setPower_adcB (s : State) (p : PowerSt) : (s.setPower p).adcB = s.adcB := rfl
@[simp] theorem State.setPower_regA (s : State) (p : PowerSt) : (s.setPower p).regA = s.regA := rfl
@[simp] theorem State.setPower_injA (s : State) (p : PowerSt) : (s.setPower p).injA = s.injA := rfl
@[simp] theorem State.setPower_regB (s : State) (p : PowerSt) : (s.setPower p).regB = s.regB := rfl
@[simp] theorem State.setPower_injB (s : State) (p : PowerSt) : (s.setPower p).injB = s.injB := rfl
@[simp] theorem State.setPower_dma (s : State) (p : PowerSt) : (s.setPower p).dma = s.dma := rfl
@[simp] theorem State.setPower_nand (s : State) (p : PowerSt) : (s.setPower p).nand = s.nand := rfl
@[simp] theorem State.setPower_cave (s : State) (p : PowerSt) : (s.setPower p).cave = s.cave := rfl
@[simp] theorem State.setPower_health (s : State) (p : PowerSt) : (s.setPower p).health = s.health := rfl
@[simp] theorem State.setPower_bat (s : State) (p : PowerSt) : (s.setPower p).bat = s.bat := rfl
@[simp] theorem State.setPower_fus (s : State) (p : PowerSt) : (s.setPower p).fus = s.fus := rfl
@[simp] theorem State.setPower_rind (s : State) (p : PowerSt) : (s.setPower p).rind = s.rind := rfl
@[simp] theorem State.setPower_lock (s : State) (p : PowerSt) : (s.setPower p).lock = s.lock := rfl
@[simp] theorem State.setPower_life (s : State) (p : PowerSt) : (s.setPower p).life = s.life := rfl
@[simp] theorem State.setPower_otp (s : State) (p : PowerSt) : (s.setPower p).otp = s.otp := rfl
@[simp] theorem State.setPower_store (s : State) (p : PowerSt) : (s.setPower p).store = s.store := rfl
@[simp] theorem State.setPower_jtag (s : State) (p : PowerSt) : (s.setPower p).jtag = s.jtag := rfl
@[simp] theorem State.setPower_copyLink (s : State) (p : PowerSt) : (s.setPower p).copyLink = s.copyLink := rfl
@[simp] theorem State.setPower_copyDma (s : State) (p : PowerSt) : (s.setPower p).copyDma = s.copyDma := rfl
@[simp] theorem State.setPower_busRead (s : State) (p : PowerSt) : (s.setPower p).busRead = s.busRead := rfl
@[simp] theorem State.setPower_busError (s : State) (p : PowerSt) : (s.setPower p).busError = s.busError := rfl
@[simp] theorem State.setPower_setAt (s : State) (p : PowerSt) : (s.setPower p).setAt = s.setAt := rfl
@[simp] theorem State.setPower_setNow (s : State) (p : PowerSt) : (s.setPower p).setNow = s.setNow := rfl
@[simp] theorem State.setPower_mirror (s : State) (p : PowerSt) : (s.setPower p).mirror = s.mirror := rfl

/-! #### setFld -/

@[simp] theorem State.setFld_now (s : State) (a : Nat) (hi : Nat) (lo : Nat) (v : Nat) : (s.setFld a hi lo v).now = s.now := rfl
@[simp] theorem State.setFld_lf (s : State) (a : Nat) (hi : Nat) (lo : Nat) (v : Nat) : (s.setFld a hi lo v).lf = s.lf := rfl
@[simp] theorem State.setFld_free (s : State) (a : Nat) (hi : Nat) (lo : Nat) (v : Nat) : (s.setFld a hi lo v).free = s.free := rfl
@[simp] theorem State.setFld_pending (s : State) (a : Nat) (hi : Nat) (lo : Nat) (v : Nat) : (s.setFld a hi lo v).pending = s.pending := rfl
@[simp] theorem State.setFld_sram (s : State) (a : Nat) (hi : Nat) (lo : Nat) (v : Nat) : (s.setFld a hi lo v).sram = s.sram := rfl
@[simp] theorem State.setFld_sramGen (s : State) (a : Nat) (hi : Nat) (lo : Nat) (v : Nat) : (s.setFld a hi lo v).sramGen = s.sramGen := rfl
@[simp] theorem State.setFld_power (s : State) (a : Nat) (hi : Nat) (lo : Nat) (v : Nat) : (s.setFld a hi lo v).power = s.power := rfl
@[simp] theorem State.setFld_link (s : State) (a : Nat) (hi : Nat) (lo : Nat) (v : Nat) : (s.setFld a hi lo v).link = s.link := rfl
@[simp] theorem State.setFld_cfg (s : State) (a : Nat) (hi : Nat) (lo : Nat) (v : Nat) : (s.setFld a hi lo v).cfg = s.cfg := rfl
@[simp] theorem State.setFld_boot (s : State) (a : Nat) (hi : Nat) (lo : Nat) (v : Nat) : (s.setFld a hi lo v).boot = s.boot := rfl
@[simp] theorem State.setFld_tnowBase (s : State) (a : Nat) (hi : Nat) (lo : Nat) (v : Nat) : (s.setFld a hi lo v).tnowBase = s.tnowBase := rfl
@[simp] theorem State.setFld_wheels (s : State) (a : Nat) (hi : Nat) (lo : Nat) (v : Nat) : (s.setFld a hi lo v).wheels = s.wheels := rfl
@[simp] theorem State.setFld_phases (s : State) (a : Nat) (hi : Nat) (lo : Nat) (v : Nat) : (s.setFld a hi lo v).phases = s.phases := rfl
@[simp] theorem State.setFld_bias (s : State) (a : Nat) (hi : Nat) (lo : Nat) (v : Nat) : (s.setFld a hi lo v).bias = s.bias := rfl
@[simp] theorem State.setFld_snapAt (s : State) (a : Nat) (hi : Nat) (lo : Nat) (v : Nat) : (s.setFld a hi lo v).snapAt = s.snapAt := rfl
@[simp] theorem State.setFld_outs (s : State) (a : Nat) (hi : Nat) (lo : Nat) (v : Nat) : (s.setFld a hi lo v).outs = s.outs := rfl
@[simp] theorem State.setFld_timers (s : State) (a : Nat) (hi : Nat) (lo : Nat) (v : Nat) : (s.setFld a hi lo v).timers = s.timers := rfl
@[simp] theorem State.setFld_adcA (s : State) (a : Nat) (hi : Nat) (lo : Nat) (v : Nat) : (s.setFld a hi lo v).adcA = s.adcA := rfl
@[simp] theorem State.setFld_adcB (s : State) (a : Nat) (hi : Nat) (lo : Nat) (v : Nat) : (s.setFld a hi lo v).adcB = s.adcB := rfl
@[simp] theorem State.setFld_regA (s : State) (a : Nat) (hi : Nat) (lo : Nat) (v : Nat) : (s.setFld a hi lo v).regA = s.regA := rfl
@[simp] theorem State.setFld_injA (s : State) (a : Nat) (hi : Nat) (lo : Nat) (v : Nat) : (s.setFld a hi lo v).injA = s.injA := rfl
@[simp] theorem State.setFld_regB (s : State) (a : Nat) (hi : Nat) (lo : Nat) (v : Nat) : (s.setFld a hi lo v).regB = s.regB := rfl
@[simp] theorem State.setFld_injB (s : State) (a : Nat) (hi : Nat) (lo : Nat) (v : Nat) : (s.setFld a hi lo v).injB = s.injB := rfl
@[simp] theorem State.setFld_dma (s : State) (a : Nat) (hi : Nat) (lo : Nat) (v : Nat) : (s.setFld a hi lo v).dma = s.dma := rfl
@[simp] theorem State.setFld_nand (s : State) (a : Nat) (hi : Nat) (lo : Nat) (v : Nat) : (s.setFld a hi lo v).nand = s.nand := rfl
@[simp] theorem State.setFld_cave (s : State) (a : Nat) (hi : Nat) (lo : Nat) (v : Nat) : (s.setFld a hi lo v).cave = s.cave := rfl
@[simp] theorem State.setFld_health (s : State) (a : Nat) (hi : Nat) (lo : Nat) (v : Nat) : (s.setFld a hi lo v).health = s.health := rfl
@[simp] theorem State.setFld_bat (s : State) (a : Nat) (hi : Nat) (lo : Nat) (v : Nat) : (s.setFld a hi lo v).bat = s.bat := rfl
@[simp] theorem State.setFld_fus (s : State) (a : Nat) (hi : Nat) (lo : Nat) (v : Nat) : (s.setFld a hi lo v).fus = s.fus := rfl
@[simp] theorem State.setFld_rind (s : State) (a : Nat) (hi : Nat) (lo : Nat) (v : Nat) : (s.setFld a hi lo v).rind = s.rind := rfl
@[simp] theorem State.setFld_lock (s : State) (a : Nat) (hi : Nat) (lo : Nat) (v : Nat) : (s.setFld a hi lo v).lock = s.lock := rfl
@[simp] theorem State.setFld_life (s : State) (a : Nat) (hi : Nat) (lo : Nat) (v : Nat) : (s.setFld a hi lo v).life = s.life := rfl
@[simp] theorem State.setFld_otp (s : State) (a : Nat) (hi : Nat) (lo : Nat) (v : Nat) : (s.setFld a hi lo v).otp = s.otp := rfl
@[simp] theorem State.setFld_store (s : State) (a : Nat) (hi : Nat) (lo : Nat) (v : Nat) : (s.setFld a hi lo v).store = s.store := rfl
@[simp] theorem State.setFld_jtag (s : State) (a : Nat) (hi : Nat) (lo : Nat) (v : Nat) : (s.setFld a hi lo v).jtag = s.jtag := rfl
@[simp] theorem State.setFld_copyLink (s : State) (a : Nat) (hi : Nat) (lo : Nat) (v : Nat) : (s.setFld a hi lo v).copyLink = s.copyLink := rfl
@[simp] theorem State.setFld_copyDma (s : State) (a : Nat) (hi : Nat) (lo : Nat) (v : Nat) : (s.setFld a hi lo v).copyDma = s.copyDma := rfl
@[simp] theorem State.setFld_busRead (s : State) (a : Nat) (hi : Nat) (lo : Nat) (v : Nat) : (s.setFld a hi lo v).busRead = s.busRead := rfl
@[simp] theorem State.setFld_busError (s : State) (a : Nat) (hi : Nat) (lo : Nat) (v : Nat) : (s.setFld a hi lo v).busError = s.busError := rfl
@[simp] theorem State.setFld_setAt (s : State) (a : Nat) (hi : Nat) (lo : Nat) (v : Nat) : (s.setFld a hi lo v).setAt = s.setAt := rfl
@[simp] theorem State.setFld_setNow (s : State) (a : Nat) (hi : Nat) (lo : Nat) (v : Nat) : (s.setFld a hi lo v).setNow = s.setNow := rfl
@[simp] theorem State.setFld_mirror (s : State) (a : Nat) (hi : Nat) (lo : Nat) (v : Nat) : (s.setFld a hi lo v).mirror = s.mirror := rfl

/-! #### noteSet -/

@[simp] theorem State.noteSet_now (s : State) (a : Nat) (m : Word) : (s.noteSet a m).now = s.now := rfl
@[simp] theorem State.noteSet_lf (s : State) (a : Nat) (m : Word) : (s.noteSet a m).lf = s.lf := rfl
@[simp] theorem State.noteSet_free (s : State) (a : Nat) (m : Word) : (s.noteSet a m).free = s.free := rfl
@[simp] theorem State.noteSet_pending (s : State) (a : Nat) (m : Word) : (s.noteSet a m).pending = s.pending := rfl
@[simp] theorem State.noteSet_regs (s : State) (a : Nat) (m : Word) : (s.noteSet a m).regs = s.regs := rfl
@[simp] theorem State.noteSet_sram (s : State) (a : Nat) (m : Word) : (s.noteSet a m).sram = s.sram := rfl
@[simp] theorem State.noteSet_sramGen (s : State) (a : Nat) (m : Word) : (s.noteSet a m).sramGen = s.sramGen := rfl
@[simp] theorem State.noteSet_power (s : State) (a : Nat) (m : Word) : (s.noteSet a m).power = s.power := rfl
@[simp] theorem State.noteSet_link (s : State) (a : Nat) (m : Word) : (s.noteSet a m).link = s.link := rfl
@[simp] theorem State.noteSet_cfg (s : State) (a : Nat) (m : Word) : (s.noteSet a m).cfg = s.cfg := rfl
@[simp] theorem State.noteSet_boot (s : State) (a : Nat) (m : Word) : (s.noteSet a m).boot = s.boot := rfl
@[simp] theorem State.noteSet_tnowBase (s : State) (a : Nat) (m : Word) : (s.noteSet a m).tnowBase = s.tnowBase := rfl
@[simp] theorem State.noteSet_wheels (s : State) (a : Nat) (m : Word) : (s.noteSet a m).wheels = s.wheels := rfl
@[simp] theorem State.noteSet_phases (s : State) (a : Nat) (m : Word) : (s.noteSet a m).phases = s.phases := rfl
@[simp] theorem State.noteSet_bias (s : State) (a : Nat) (m : Word) : (s.noteSet a m).bias = s.bias := rfl
@[simp] theorem State.noteSet_snapAt (s : State) (a : Nat) (m : Word) : (s.noteSet a m).snapAt = s.snapAt := rfl
@[simp] theorem State.noteSet_outs (s : State) (a : Nat) (m : Word) : (s.noteSet a m).outs = s.outs := rfl
@[simp] theorem State.noteSet_timers (s : State) (a : Nat) (m : Word) : (s.noteSet a m).timers = s.timers := rfl
@[simp] theorem State.noteSet_adcA (s : State) (a : Nat) (m : Word) : (s.noteSet a m).adcA = s.adcA := rfl
@[simp] theorem State.noteSet_adcB (s : State) (a : Nat) (m : Word) : (s.noteSet a m).adcB = s.adcB := rfl
@[simp] theorem State.noteSet_regA (s : State) (a : Nat) (m : Word) : (s.noteSet a m).regA = s.regA := rfl
@[simp] theorem State.noteSet_injA (s : State) (a : Nat) (m : Word) : (s.noteSet a m).injA = s.injA := rfl
@[simp] theorem State.noteSet_regB (s : State) (a : Nat) (m : Word) : (s.noteSet a m).regB = s.regB := rfl
@[simp] theorem State.noteSet_injB (s : State) (a : Nat) (m : Word) : (s.noteSet a m).injB = s.injB := rfl
@[simp] theorem State.noteSet_dma (s : State) (a : Nat) (m : Word) : (s.noteSet a m).dma = s.dma := rfl
@[simp] theorem State.noteSet_nand (s : State) (a : Nat) (m : Word) : (s.noteSet a m).nand = s.nand := rfl
@[simp] theorem State.noteSet_cave (s : State) (a : Nat) (m : Word) : (s.noteSet a m).cave = s.cave := rfl
@[simp] theorem State.noteSet_health (s : State) (a : Nat) (m : Word) : (s.noteSet a m).health = s.health := rfl
@[simp] theorem State.noteSet_bat (s : State) (a : Nat) (m : Word) : (s.noteSet a m).bat = s.bat := rfl
@[simp] theorem State.noteSet_fus (s : State) (a : Nat) (m : Word) : (s.noteSet a m).fus = s.fus := rfl
@[simp] theorem State.noteSet_rind (s : State) (a : Nat) (m : Word) : (s.noteSet a m).rind = s.rind := rfl
@[simp] theorem State.noteSet_lock (s : State) (a : Nat) (m : Word) : (s.noteSet a m).lock = s.lock := rfl
@[simp] theorem State.noteSet_life (s : State) (a : Nat) (m : Word) : (s.noteSet a m).life = s.life := rfl
@[simp] theorem State.noteSet_otp (s : State) (a : Nat) (m : Word) : (s.noteSet a m).otp = s.otp := rfl
@[simp] theorem State.noteSet_store (s : State) (a : Nat) (m : Word) : (s.noteSet a m).store = s.store := rfl
@[simp] theorem State.noteSet_jtag (s : State) (a : Nat) (m : Word) : (s.noteSet a m).jtag = s.jtag := rfl
@[simp] theorem State.noteSet_copyLink (s : State) (a : Nat) (m : Word) : (s.noteSet a m).copyLink = s.copyLink := rfl
@[simp] theorem State.noteSet_copyDma (s : State) (a : Nat) (m : Word) : (s.noteSet a m).copyDma = s.copyDma := rfl
@[simp] theorem State.noteSet_busRead (s : State) (a : Nat) (m : Word) : (s.noteSet a m).busRead = s.busRead := rfl
@[simp] theorem State.noteSet_busError (s : State) (a : Nat) (m : Word) : (s.noteSet a m).busError = s.busError := rfl
@[simp] theorem State.noteSet_mirror (s : State) (a : Nat) (m : Word) : (s.noteSet a m).mirror = s.mirror := rfl

/-! #### putNote -/

@[simp] theorem State.putNote_now (s : State) (a : Nat) (n : Option SetNote) : (s.putNote a n).now = s.now := rfl
@[simp] theorem State.putNote_lf (s : State) (a : Nat) (n : Option SetNote) : (s.putNote a n).lf = s.lf := rfl
@[simp] theorem State.putNote_free (s : State) (a : Nat) (n : Option SetNote) : (s.putNote a n).free = s.free := rfl
@[simp] theorem State.putNote_pending (s : State) (a : Nat) (n : Option SetNote) : (s.putNote a n).pending = s.pending := rfl
@[simp] theorem State.putNote_regs (s : State) (a : Nat) (n : Option SetNote) : (s.putNote a n).regs = s.regs := rfl
@[simp] theorem State.putNote_sram (s : State) (a : Nat) (n : Option SetNote) : (s.putNote a n).sram = s.sram := rfl
@[simp] theorem State.putNote_sramGen (s : State) (a : Nat) (n : Option SetNote) : (s.putNote a n).sramGen = s.sramGen := rfl
@[simp] theorem State.putNote_power (s : State) (a : Nat) (n : Option SetNote) : (s.putNote a n).power = s.power := rfl
@[simp] theorem State.putNote_link (s : State) (a : Nat) (n : Option SetNote) : (s.putNote a n).link = s.link := rfl
@[simp] theorem State.putNote_cfg (s : State) (a : Nat) (n : Option SetNote) : (s.putNote a n).cfg = s.cfg := rfl
@[simp] theorem State.putNote_boot (s : State) (a : Nat) (n : Option SetNote) : (s.putNote a n).boot = s.boot := rfl
@[simp] theorem State.putNote_tnowBase (s : State) (a : Nat) (n : Option SetNote) : (s.putNote a n).tnowBase = s.tnowBase := rfl
@[simp] theorem State.putNote_wheels (s : State) (a : Nat) (n : Option SetNote) : (s.putNote a n).wheels = s.wheels := rfl
@[simp] theorem State.putNote_phases (s : State) (a : Nat) (n : Option SetNote) : (s.putNote a n).phases = s.phases := rfl
@[simp] theorem State.putNote_bias (s : State) (a : Nat) (n : Option SetNote) : (s.putNote a n).bias = s.bias := rfl
@[simp] theorem State.putNote_snapAt (s : State) (a : Nat) (n : Option SetNote) : (s.putNote a n).snapAt = s.snapAt := rfl
@[simp] theorem State.putNote_outs (s : State) (a : Nat) (n : Option SetNote) : (s.putNote a n).outs = s.outs := rfl
@[simp] theorem State.putNote_timers (s : State) (a : Nat) (n : Option SetNote) : (s.putNote a n).timers = s.timers := rfl
@[simp] theorem State.putNote_adcA (s : State) (a : Nat) (n : Option SetNote) : (s.putNote a n).adcA = s.adcA := rfl
@[simp] theorem State.putNote_adcB (s : State) (a : Nat) (n : Option SetNote) : (s.putNote a n).adcB = s.adcB := rfl
@[simp] theorem State.putNote_regA (s : State) (a : Nat) (n : Option SetNote) : (s.putNote a n).regA = s.regA := rfl
@[simp] theorem State.putNote_injA (s : State) (a : Nat) (n : Option SetNote) : (s.putNote a n).injA = s.injA := rfl
@[simp] theorem State.putNote_regB (s : State) (a : Nat) (n : Option SetNote) : (s.putNote a n).regB = s.regB := rfl
@[simp] theorem State.putNote_injB (s : State) (a : Nat) (n : Option SetNote) : (s.putNote a n).injB = s.injB := rfl
@[simp] theorem State.putNote_dma (s : State) (a : Nat) (n : Option SetNote) : (s.putNote a n).dma = s.dma := rfl
@[simp] theorem State.putNote_nand (s : State) (a : Nat) (n : Option SetNote) : (s.putNote a n).nand = s.nand := rfl
@[simp] theorem State.putNote_cave (s : State) (a : Nat) (n : Option SetNote) : (s.putNote a n).cave = s.cave := rfl
@[simp] theorem State.putNote_health (s : State) (a : Nat) (n : Option SetNote) : (s.putNote a n).health = s.health := rfl
@[simp] theorem State.putNote_bat (s : State) (a : Nat) (n : Option SetNote) : (s.putNote a n).bat = s.bat := rfl
@[simp] theorem State.putNote_fus (s : State) (a : Nat) (n : Option SetNote) : (s.putNote a n).fus = s.fus := rfl
@[simp] theorem State.putNote_rind (s : State) (a : Nat) (n : Option SetNote) : (s.putNote a n).rind = s.rind := rfl
@[simp] theorem State.putNote_lock (s : State) (a : Nat) (n : Option SetNote) : (s.putNote a n).lock = s.lock := rfl
@[simp] theorem State.putNote_life (s : State) (a : Nat) (n : Option SetNote) : (s.putNote a n).life = s.life := rfl
@[simp] theorem State.putNote_otp (s : State) (a : Nat) (n : Option SetNote) : (s.putNote a n).otp = s.otp := rfl
@[simp] theorem State.putNote_store (s : State) (a : Nat) (n : Option SetNote) : (s.putNote a n).store = s.store := rfl
@[simp] theorem State.putNote_jtag (s : State) (a : Nat) (n : Option SetNote) : (s.putNote a n).jtag = s.jtag := rfl
@[simp] theorem State.putNote_copyLink (s : State) (a : Nat) (n : Option SetNote) : (s.putNote a n).copyLink = s.copyLink := rfl
@[simp] theorem State.putNote_copyDma (s : State) (a : Nat) (n : Option SetNote) : (s.putNote a n).copyDma = s.copyDma := rfl
@[simp] theorem State.putNote_busRead (s : State) (a : Nat) (n : Option SetNote) : (s.putNote a n).busRead = s.busRead := rfl
@[simp] theorem State.putNote_busError (s : State) (a : Nat) (n : Option SetNote) : (s.putNote a n).busError = s.busError := rfl
@[simp] theorem State.putNote_mirror (s : State) (a : Nat) (n : Option SetNote) : (s.putNote a n).mirror = s.mirror := rfl

/-! #### setFresh -/

@[simp] theorem State.setFresh_now (s : State) (a : Nat) (hi : Nat) (lo : Nat) (v : Nat) : (s.setFresh a hi lo v).now = s.now := rfl
@[simp] theorem State.setFresh_lf (s : State) (a : Nat) (hi : Nat) (lo : Nat) (v : Nat) : (s.setFresh a hi lo v).lf = s.lf := rfl
@[simp] theorem State.setFresh_free (s : State) (a : Nat) (hi : Nat) (lo : Nat) (v : Nat) : (s.setFresh a hi lo v).free = s.free := rfl
@[simp] theorem State.setFresh_pending (s : State) (a : Nat) (hi : Nat) (lo : Nat) (v : Nat) : (s.setFresh a hi lo v).pending = s.pending := rfl
@[simp] theorem State.setFresh_regs (s : State) (a : Nat) (hi : Nat) (lo : Nat) (v : Nat) : (s.setFresh a hi lo v).regs = s.regs := rfl
@[simp] theorem State.setFresh_sram (s : State) (a : Nat) (hi : Nat) (lo : Nat) (v : Nat) : (s.setFresh a hi lo v).sram = s.sram := rfl
@[simp] theorem State.setFresh_sramGen (s : State) (a : Nat) (hi : Nat) (lo : Nat) (v : Nat) : (s.setFresh a hi lo v).sramGen = s.sramGen := rfl
@[simp] theorem State.setFresh_power (s : State) (a : Nat) (hi : Nat) (lo : Nat) (v : Nat) : (s.setFresh a hi lo v).power = s.power := rfl
@[simp] theorem State.setFresh_link (s : State) (a : Nat) (hi : Nat) (lo : Nat) (v : Nat) : (s.setFresh a hi lo v).link = s.link := rfl
@[simp] theorem State.setFresh_cfg (s : State) (a : Nat) (hi : Nat) (lo : Nat) (v : Nat) : (s.setFresh a hi lo v).cfg = s.cfg := rfl
@[simp] theorem State.setFresh_boot (s : State) (a : Nat) (hi : Nat) (lo : Nat) (v : Nat) : (s.setFresh a hi lo v).boot = s.boot := rfl
@[simp] theorem State.setFresh_tnowBase (s : State) (a : Nat) (hi : Nat) (lo : Nat) (v : Nat) : (s.setFresh a hi lo v).tnowBase = s.tnowBase := rfl
@[simp] theorem State.setFresh_wheels (s : State) (a : Nat) (hi : Nat) (lo : Nat) (v : Nat) : (s.setFresh a hi lo v).wheels = s.wheels := rfl
@[simp] theorem State.setFresh_phases (s : State) (a : Nat) (hi : Nat) (lo : Nat) (v : Nat) : (s.setFresh a hi lo v).phases = s.phases := rfl
@[simp] theorem State.setFresh_bias (s : State) (a : Nat) (hi : Nat) (lo : Nat) (v : Nat) : (s.setFresh a hi lo v).bias = s.bias := rfl
@[simp] theorem State.setFresh_snapAt (s : State) (a : Nat) (hi : Nat) (lo : Nat) (v : Nat) : (s.setFresh a hi lo v).snapAt = s.snapAt := rfl
@[simp] theorem State.setFresh_outs (s : State) (a : Nat) (hi : Nat) (lo : Nat) (v : Nat) : (s.setFresh a hi lo v).outs = s.outs := rfl
@[simp] theorem State.setFresh_timers (s : State) (a : Nat) (hi : Nat) (lo : Nat) (v : Nat) : (s.setFresh a hi lo v).timers = s.timers := rfl
@[simp] theorem State.setFresh_adcA (s : State) (a : Nat) (hi : Nat) (lo : Nat) (v : Nat) : (s.setFresh a hi lo v).adcA = s.adcA := rfl
@[simp] theorem State.setFresh_adcB (s : State) (a : Nat) (hi : Nat) (lo : Nat) (v : Nat) : (s.setFresh a hi lo v).adcB = s.adcB := rfl
@[simp] theorem State.setFresh_regA (s : State) (a : Nat) (hi : Nat) (lo : Nat) (v : Nat) : (s.setFresh a hi lo v).regA = s.regA := rfl
@[simp] theorem State.setFresh_injA (s : State) (a : Nat) (hi : Nat) (lo : Nat) (v : Nat) : (s.setFresh a hi lo v).injA = s.injA := rfl
@[simp] theorem State.setFresh_regB (s : State) (a : Nat) (hi : Nat) (lo : Nat) (v : Nat) : (s.setFresh a hi lo v).regB = s.regB := rfl
@[simp] theorem State.setFresh_injB (s : State) (a : Nat) (hi : Nat) (lo : Nat) (v : Nat) : (s.setFresh a hi lo v).injB = s.injB := rfl
@[simp] theorem State.setFresh_dma (s : State) (a : Nat) (hi : Nat) (lo : Nat) (v : Nat) : (s.setFresh a hi lo v).dma = s.dma := rfl
@[simp] theorem State.setFresh_nand (s : State) (a : Nat) (hi : Nat) (lo : Nat) (v : Nat) : (s.setFresh a hi lo v).nand = s.nand := rfl
@[simp] theorem State.setFresh_cave (s : State) (a : Nat) (hi : Nat) (lo : Nat) (v : Nat) : (s.setFresh a hi lo v).cave = s.cave := rfl
@[simp] theorem State.setFresh_health (s : State) (a : Nat) (hi : Nat) (lo : Nat) (v : Nat) : (s.setFresh a hi lo v).health = s.health := rfl
@[simp] theorem State.setFresh_bat (s : State) (a : Nat) (hi : Nat) (lo : Nat) (v : Nat) : (s.setFresh a hi lo v).bat = s.bat := rfl
@[simp] theorem State.setFresh_fus (s : State) (a : Nat) (hi : Nat) (lo : Nat) (v : Nat) : (s.setFresh a hi lo v).fus = s.fus := rfl
@[simp] theorem State.setFresh_rind (s : State) (a : Nat) (hi : Nat) (lo : Nat) (v : Nat) : (s.setFresh a hi lo v).rind = s.rind := rfl
@[simp] theorem State.setFresh_lock (s : State) (a : Nat) (hi : Nat) (lo : Nat) (v : Nat) : (s.setFresh a hi lo v).lock = s.lock := rfl
@[simp] theorem State.setFresh_life (s : State) (a : Nat) (hi : Nat) (lo : Nat) (v : Nat) : (s.setFresh a hi lo v).life = s.life := rfl
@[simp] theorem State.setFresh_otp (s : State) (a : Nat) (hi : Nat) (lo : Nat) (v : Nat) : (s.setFresh a hi lo v).otp = s.otp := rfl
@[simp] theorem State.setFresh_store (s : State) (a : Nat) (hi : Nat) (lo : Nat) (v : Nat) : (s.setFresh a hi lo v).store = s.store := rfl
@[simp] theorem State.setFresh_jtag (s : State) (a : Nat) (hi : Nat) (lo : Nat) (v : Nat) : (s.setFresh a hi lo v).jtag = s.jtag := rfl
@[simp] theorem State.setFresh_copyLink (s : State) (a : Nat) (hi : Nat) (lo : Nat) (v : Nat) : (s.setFresh a hi lo v).copyLink = s.copyLink := rfl
@[simp] theorem State.setFresh_copyDma (s : State) (a : Nat) (hi : Nat) (lo : Nat) (v : Nat) : (s.setFresh a hi lo v).copyDma = s.copyDma := rfl
@[simp] theorem State.setFresh_busRead (s : State) (a : Nat) (hi : Nat) (lo : Nat) (v : Nat) : (s.setFresh a hi lo v).busRead = s.busRead := rfl
@[simp] theorem State.setFresh_busError (s : State) (a : Nat) (hi : Nat) (lo : Nat) (v : Nat) : (s.setFresh a hi lo v).busError = s.busError := rfl
@[simp] theorem State.setFresh_mirror (s : State) (a : Nat) (hi : Nat) (lo : Nat) (v : Nat) : (s.setFresh a hi lo v).mirror = s.mirror := rfl

/-! #### orReg -/

@[simp] theorem State.orReg_now (s : State) (a : Nat) (m : Nat) : (s.orReg a m).now = s.now := rfl
@[simp] theorem State.orReg_lf (s : State) (a : Nat) (m : Nat) : (s.orReg a m).lf = s.lf := rfl
@[simp] theorem State.orReg_free (s : State) (a : Nat) (m : Nat) : (s.orReg a m).free = s.free := rfl
@[simp] theorem State.orReg_pending (s : State) (a : Nat) (m : Nat) : (s.orReg a m).pending = s.pending := rfl
@[simp] theorem State.orReg_sram (s : State) (a : Nat) (m : Nat) : (s.orReg a m).sram = s.sram := rfl
@[simp] theorem State.orReg_sramGen (s : State) (a : Nat) (m : Nat) : (s.orReg a m).sramGen = s.sramGen := rfl
@[simp] theorem State.orReg_power (s : State) (a : Nat) (m : Nat) : (s.orReg a m).power = s.power := rfl
@[simp] theorem State.orReg_link (s : State) (a : Nat) (m : Nat) : (s.orReg a m).link = s.link := rfl
@[simp] theorem State.orReg_cfg (s : State) (a : Nat) (m : Nat) : (s.orReg a m).cfg = s.cfg := rfl
@[simp] theorem State.orReg_boot (s : State) (a : Nat) (m : Nat) : (s.orReg a m).boot = s.boot := rfl
@[simp] theorem State.orReg_tnowBase (s : State) (a : Nat) (m : Nat) : (s.orReg a m).tnowBase = s.tnowBase := rfl
@[simp] theorem State.orReg_wheels (s : State) (a : Nat) (m : Nat) : (s.orReg a m).wheels = s.wheels := rfl
@[simp] theorem State.orReg_phases (s : State) (a : Nat) (m : Nat) : (s.orReg a m).phases = s.phases := rfl
@[simp] theorem State.orReg_bias (s : State) (a : Nat) (m : Nat) : (s.orReg a m).bias = s.bias := rfl
@[simp] theorem State.orReg_snapAt (s : State) (a : Nat) (m : Nat) : (s.orReg a m).snapAt = s.snapAt := rfl
@[simp] theorem State.orReg_outs (s : State) (a : Nat) (m : Nat) : (s.orReg a m).outs = s.outs := rfl
@[simp] theorem State.orReg_timers (s : State) (a : Nat) (m : Nat) : (s.orReg a m).timers = s.timers := rfl
@[simp] theorem State.orReg_adcA (s : State) (a : Nat) (m : Nat) : (s.orReg a m).adcA = s.adcA := rfl
@[simp] theorem State.orReg_adcB (s : State) (a : Nat) (m : Nat) : (s.orReg a m).adcB = s.adcB := rfl
@[simp] theorem State.orReg_regA (s : State) (a : Nat) (m : Nat) : (s.orReg a m).regA = s.regA := rfl
@[simp] theorem State.orReg_injA (s : State) (a : Nat) (m : Nat) : (s.orReg a m).injA = s.injA := rfl
@[simp] theorem State.orReg_regB (s : State) (a : Nat) (m : Nat) : (s.orReg a m).regB = s.regB := rfl
@[simp] theorem State.orReg_injB (s : State) (a : Nat) (m : Nat) : (s.orReg a m).injB = s.injB := rfl
@[simp] theorem State.orReg_dma (s : State) (a : Nat) (m : Nat) : (s.orReg a m).dma = s.dma := rfl
@[simp] theorem State.orReg_nand (s : State) (a : Nat) (m : Nat) : (s.orReg a m).nand = s.nand := rfl
@[simp] theorem State.orReg_cave (s : State) (a : Nat) (m : Nat) : (s.orReg a m).cave = s.cave := rfl
@[simp] theorem State.orReg_health (s : State) (a : Nat) (m : Nat) : (s.orReg a m).health = s.health := rfl
@[simp] theorem State.orReg_bat (s : State) (a : Nat) (m : Nat) : (s.orReg a m).bat = s.bat := rfl
@[simp] theorem State.orReg_fus (s : State) (a : Nat) (m : Nat) : (s.orReg a m).fus = s.fus := rfl
@[simp] theorem State.orReg_rind (s : State) (a : Nat) (m : Nat) : (s.orReg a m).rind = s.rind := rfl
@[simp] theorem State.orReg_lock (s : State) (a : Nat) (m : Nat) : (s.orReg a m).lock = s.lock := rfl
@[simp] theorem State.orReg_life (s : State) (a : Nat) (m : Nat) : (s.orReg a m).life = s.life := rfl
@[simp] theorem State.orReg_otp (s : State) (a : Nat) (m : Nat) : (s.orReg a m).otp = s.otp := rfl
@[simp] theorem State.orReg_store (s : State) (a : Nat) (m : Nat) : (s.orReg a m).store = s.store := rfl
@[simp] theorem State.orReg_jtag (s : State) (a : Nat) (m : Nat) : (s.orReg a m).jtag = s.jtag := rfl
@[simp] theorem State.orReg_copyLink (s : State) (a : Nat) (m : Nat) : (s.orReg a m).copyLink = s.copyLink := rfl
@[simp] theorem State.orReg_copyDma (s : State) (a : Nat) (m : Nat) : (s.orReg a m).copyDma = s.copyDma := rfl
@[simp] theorem State.orReg_busRead (s : State) (a : Nat) (m : Nat) : (s.orReg a m).busRead = s.busRead := rfl
@[simp] theorem State.orReg_busError (s : State) (a : Nat) (m : Nat) : (s.orReg a m).busError = s.busError := rfl
@[simp] theorem State.orReg_mirror (s : State) (a : Nat) (m : Nat) : (s.orReg a m).mirror = s.mirror := rfl

/-! #### clrReg -/

@[simp] theorem State.clrReg_now (s : State) (a : Nat) (m : Nat) : (s.clrReg a m).now = s.now := rfl
@[simp] theorem State.clrReg_lf (s : State) (a : Nat) (m : Nat) : (s.clrReg a m).lf = s.lf := rfl
@[simp] theorem State.clrReg_free (s : State) (a : Nat) (m : Nat) : (s.clrReg a m).free = s.free := rfl
@[simp] theorem State.clrReg_pending (s : State) (a : Nat) (m : Nat) : (s.clrReg a m).pending = s.pending := rfl
@[simp] theorem State.clrReg_sram (s : State) (a : Nat) (m : Nat) : (s.clrReg a m).sram = s.sram := rfl
@[simp] theorem State.clrReg_sramGen (s : State) (a : Nat) (m : Nat) : (s.clrReg a m).sramGen = s.sramGen := rfl
@[simp] theorem State.clrReg_power (s : State) (a : Nat) (m : Nat) : (s.clrReg a m).power = s.power := rfl
@[simp] theorem State.clrReg_link (s : State) (a : Nat) (m : Nat) : (s.clrReg a m).link = s.link := rfl
@[simp] theorem State.clrReg_cfg (s : State) (a : Nat) (m : Nat) : (s.clrReg a m).cfg = s.cfg := rfl
@[simp] theorem State.clrReg_boot (s : State) (a : Nat) (m : Nat) : (s.clrReg a m).boot = s.boot := rfl
@[simp] theorem State.clrReg_tnowBase (s : State) (a : Nat) (m : Nat) : (s.clrReg a m).tnowBase = s.tnowBase := rfl
@[simp] theorem State.clrReg_wheels (s : State) (a : Nat) (m : Nat) : (s.clrReg a m).wheels = s.wheels := rfl
@[simp] theorem State.clrReg_phases (s : State) (a : Nat) (m : Nat) : (s.clrReg a m).phases = s.phases := rfl
@[simp] theorem State.clrReg_bias (s : State) (a : Nat) (m : Nat) : (s.clrReg a m).bias = s.bias := rfl
@[simp] theorem State.clrReg_snapAt (s : State) (a : Nat) (m : Nat) : (s.clrReg a m).snapAt = s.snapAt := rfl
@[simp] theorem State.clrReg_outs (s : State) (a : Nat) (m : Nat) : (s.clrReg a m).outs = s.outs := rfl
@[simp] theorem State.clrReg_timers (s : State) (a : Nat) (m : Nat) : (s.clrReg a m).timers = s.timers := rfl
@[simp] theorem State.clrReg_adcA (s : State) (a : Nat) (m : Nat) : (s.clrReg a m).adcA = s.adcA := rfl
@[simp] theorem State.clrReg_adcB (s : State) (a : Nat) (m : Nat) : (s.clrReg a m).adcB = s.adcB := rfl
@[simp] theorem State.clrReg_regA (s : State) (a : Nat) (m : Nat) : (s.clrReg a m).regA = s.regA := rfl
@[simp] theorem State.clrReg_injA (s : State) (a : Nat) (m : Nat) : (s.clrReg a m).injA = s.injA := rfl
@[simp] theorem State.clrReg_regB (s : State) (a : Nat) (m : Nat) : (s.clrReg a m).regB = s.regB := rfl
@[simp] theorem State.clrReg_injB (s : State) (a : Nat) (m : Nat) : (s.clrReg a m).injB = s.injB := rfl
@[simp] theorem State.clrReg_dma (s : State) (a : Nat) (m : Nat) : (s.clrReg a m).dma = s.dma := rfl
@[simp] theorem State.clrReg_nand (s : State) (a : Nat) (m : Nat) : (s.clrReg a m).nand = s.nand := rfl
@[simp] theorem State.clrReg_cave (s : State) (a : Nat) (m : Nat) : (s.clrReg a m).cave = s.cave := rfl
@[simp] theorem State.clrReg_health (s : State) (a : Nat) (m : Nat) : (s.clrReg a m).health = s.health := rfl
@[simp] theorem State.clrReg_bat (s : State) (a : Nat) (m : Nat) : (s.clrReg a m).bat = s.bat := rfl
@[simp] theorem State.clrReg_fus (s : State) (a : Nat) (m : Nat) : (s.clrReg a m).fus = s.fus := rfl
@[simp] theorem State.clrReg_rind (s : State) (a : Nat) (m : Nat) : (s.clrReg a m).rind = s.rind := rfl
@[simp] theorem State.clrReg_lock (s : State) (a : Nat) (m : Nat) : (s.clrReg a m).lock = s.lock := rfl
@[simp] theorem State.clrReg_life (s : State) (a : Nat) (m : Nat) : (s.clrReg a m).life = s.life := rfl
@[simp] theorem State.clrReg_otp (s : State) (a : Nat) (m : Nat) : (s.clrReg a m).otp = s.otp := rfl
@[simp] theorem State.clrReg_store (s : State) (a : Nat) (m : Nat) : (s.clrReg a m).store = s.store := rfl
@[simp] theorem State.clrReg_jtag (s : State) (a : Nat) (m : Nat) : (s.clrReg a m).jtag = s.jtag := rfl
@[simp] theorem State.clrReg_copyLink (s : State) (a : Nat) (m : Nat) : (s.clrReg a m).copyLink = s.copyLink := rfl
@[simp] theorem State.clrReg_copyDma (s : State) (a : Nat) (m : Nat) : (s.clrReg a m).copyDma = s.copyDma := rfl
@[simp] theorem State.clrReg_busRead (s : State) (a : Nat) (m : Nat) : (s.clrReg a m).busRead = s.busRead := rfl
@[simp] theorem State.clrReg_busError (s : State) (a : Nat) (m : Nat) : (s.clrReg a m).busError = s.busError := rfl
@[simp] theorem State.clrReg_setAt (s : State) (a : Nat) (m : Nat) : (s.clrReg a m).setAt = s.setAt := rfl
@[simp] theorem State.clrReg_setNow (s : State) (a : Nat) (m : Nat) : (s.clrReg a m).setNow = s.setNow := rfl
@[simp] theorem State.clrReg_mirror (s : State) (a : Nat) (m : Nat) : (s.clrReg a m).mirror = s.mirror := rfl

/-! #### putFld -/

@[simp] theorem State.putFld_now (s : State) (a : Nat) (hi : Nat) (lo : Nat) (v : Nat) : (s.putFld a hi lo v).now = s.now := rfl
@[simp] theorem State.putFld_lf (s : State) (a : Nat) (hi : Nat) (lo : Nat) (v : Nat) : (s.putFld a hi lo v).lf = s.lf := rfl
@[simp] theorem State.putFld_free (s : State) (a : Nat) (hi : Nat) (lo : Nat) (v : Nat) : (s.putFld a hi lo v).free = s.free := rfl
@[simp] theorem State.putFld_pending (s : State) (a : Nat) (hi : Nat) (lo : Nat) (v : Nat) : (s.putFld a hi lo v).pending = s.pending := rfl
@[simp] theorem State.putFld_sram (s : State) (a : Nat) (hi : Nat) (lo : Nat) (v : Nat) : (s.putFld a hi lo v).sram = s.sram := rfl
@[simp] theorem State.putFld_sramGen (s : State) (a : Nat) (hi : Nat) (lo : Nat) (v : Nat) : (s.putFld a hi lo v).sramGen = s.sramGen := rfl
@[simp] theorem State.putFld_power (s : State) (a : Nat) (hi : Nat) (lo : Nat) (v : Nat) : (s.putFld a hi lo v).power = s.power := rfl
@[simp] theorem State.putFld_link (s : State) (a : Nat) (hi : Nat) (lo : Nat) (v : Nat) : (s.putFld a hi lo v).link = s.link := rfl
@[simp] theorem State.putFld_cfg (s : State) (a : Nat) (hi : Nat) (lo : Nat) (v : Nat) : (s.putFld a hi lo v).cfg = s.cfg := rfl
@[simp] theorem State.putFld_boot (s : State) (a : Nat) (hi : Nat) (lo : Nat) (v : Nat) : (s.putFld a hi lo v).boot = s.boot := rfl
@[simp] theorem State.putFld_tnowBase (s : State) (a : Nat) (hi : Nat) (lo : Nat) (v : Nat) : (s.putFld a hi lo v).tnowBase = s.tnowBase := rfl
@[simp] theorem State.putFld_wheels (s : State) (a : Nat) (hi : Nat) (lo : Nat) (v : Nat) : (s.putFld a hi lo v).wheels = s.wheels := rfl
@[simp] theorem State.putFld_phases (s : State) (a : Nat) (hi : Nat) (lo : Nat) (v : Nat) : (s.putFld a hi lo v).phases = s.phases := rfl
@[simp] theorem State.putFld_bias (s : State) (a : Nat) (hi : Nat) (lo : Nat) (v : Nat) : (s.putFld a hi lo v).bias = s.bias := rfl
@[simp] theorem State.putFld_snapAt (s : State) (a : Nat) (hi : Nat) (lo : Nat) (v : Nat) : (s.putFld a hi lo v).snapAt = s.snapAt := rfl
@[simp] theorem State.putFld_outs (s : State) (a : Nat) (hi : Nat) (lo : Nat) (v : Nat) : (s.putFld a hi lo v).outs = s.outs := rfl
@[simp] theorem State.putFld_timers (s : State) (a : Nat) (hi : Nat) (lo : Nat) (v : Nat) : (s.putFld a hi lo v).timers = s.timers := rfl
@[simp] theorem State.putFld_adcA (s : State) (a : Nat) (hi : Nat) (lo : Nat) (v : Nat) : (s.putFld a hi lo v).adcA = s.adcA := rfl
@[simp] theorem State.putFld_adcB (s : State) (a : Nat) (hi : Nat) (lo : Nat) (v : Nat) : (s.putFld a hi lo v).adcB = s.adcB := rfl
@[simp] theorem State.putFld_regA (s : State) (a : Nat) (hi : Nat) (lo : Nat) (v : Nat) : (s.putFld a hi lo v).regA = s.regA := rfl
@[simp] theorem State.putFld_injA (s : State) (a : Nat) (hi : Nat) (lo : Nat) (v : Nat) : (s.putFld a hi lo v).injA = s.injA := rfl
@[simp] theorem State.putFld_regB (s : State) (a : Nat) (hi : Nat) (lo : Nat) (v : Nat) : (s.putFld a hi lo v).regB = s.regB := rfl
@[simp] theorem State.putFld_injB (s : State) (a : Nat) (hi : Nat) (lo : Nat) (v : Nat) : (s.putFld a hi lo v).injB = s.injB := rfl
@[simp] theorem State.putFld_dma (s : State) (a : Nat) (hi : Nat) (lo : Nat) (v : Nat) : (s.putFld a hi lo v).dma = s.dma := rfl
@[simp] theorem State.putFld_nand (s : State) (a : Nat) (hi : Nat) (lo : Nat) (v : Nat) : (s.putFld a hi lo v).nand = s.nand := rfl
@[simp] theorem State.putFld_cave (s : State) (a : Nat) (hi : Nat) (lo : Nat) (v : Nat) : (s.putFld a hi lo v).cave = s.cave := rfl
@[simp] theorem State.putFld_health (s : State) (a : Nat) (hi : Nat) (lo : Nat) (v : Nat) : (s.putFld a hi lo v).health = s.health := rfl
@[simp] theorem State.putFld_bat (s : State) (a : Nat) (hi : Nat) (lo : Nat) (v : Nat) : (s.putFld a hi lo v).bat = s.bat := rfl
@[simp] theorem State.putFld_fus (s : State) (a : Nat) (hi : Nat) (lo : Nat) (v : Nat) : (s.putFld a hi lo v).fus = s.fus := rfl
@[simp] theorem State.putFld_rind (s : State) (a : Nat) (hi : Nat) (lo : Nat) (v : Nat) : (s.putFld a hi lo v).rind = s.rind := rfl
@[simp] theorem State.putFld_lock (s : State) (a : Nat) (hi : Nat) (lo : Nat) (v : Nat) : (s.putFld a hi lo v).lock = s.lock := rfl
@[simp] theorem State.putFld_life (s : State) (a : Nat) (hi : Nat) (lo : Nat) (v : Nat) : (s.putFld a hi lo v).life = s.life := rfl
@[simp] theorem State.putFld_otp (s : State) (a : Nat) (hi : Nat) (lo : Nat) (v : Nat) : (s.putFld a hi lo v).otp = s.otp := rfl
@[simp] theorem State.putFld_store (s : State) (a : Nat) (hi : Nat) (lo : Nat) (v : Nat) : (s.putFld a hi lo v).store = s.store := rfl
@[simp] theorem State.putFld_jtag (s : State) (a : Nat) (hi : Nat) (lo : Nat) (v : Nat) : (s.putFld a hi lo v).jtag = s.jtag := rfl
@[simp] theorem State.putFld_copyLink (s : State) (a : Nat) (hi : Nat) (lo : Nat) (v : Nat) : (s.putFld a hi lo v).copyLink = s.copyLink := rfl
@[simp] theorem State.putFld_copyDma (s : State) (a : Nat) (hi : Nat) (lo : Nat) (v : Nat) : (s.putFld a hi lo v).copyDma = s.copyDma := rfl
@[simp] theorem State.putFld_busRead (s : State) (a : Nat) (hi : Nat) (lo : Nat) (v : Nat) : (s.putFld a hi lo v).busRead = s.busRead := rfl
@[simp] theorem State.putFld_busError (s : State) (a : Nat) (hi : Nat) (lo : Nat) (v : Nat) : (s.putFld a hi lo v).busError = s.busError := rfl
@[simp] theorem State.putFld_mirror (s : State) (a : Nat) (hi : Nat) (lo : Nat) (v : Nat) : (s.putFld a hi lo v).mirror = s.mirror := rfl

/-! #### satCount -/

@[simp] theorem State.satCount_now (s : State) (a : Nat) (hi : Nat) (lo : Nat) (n : Nat) : (s.satCount a hi lo n).now = s.now := rfl
@[simp] theorem State.satCount_lf (s : State) (a : Nat) (hi : Nat) (lo : Nat) (n : Nat) : (s.satCount a hi lo n).lf = s.lf := rfl
@[simp] theorem State.satCount_free (s : State) (a : Nat) (hi : Nat) (lo : Nat) (n : Nat) : (s.satCount a hi lo n).free = s.free := rfl
@[simp] theorem State.satCount_pending (s : State) (a : Nat) (hi : Nat) (lo : Nat) (n : Nat) : (s.satCount a hi lo n).pending = s.pending := rfl
@[simp] theorem State.satCount_sram (s : State) (a : Nat) (hi : Nat) (lo : Nat) (n : Nat) : (s.satCount a hi lo n).sram = s.sram := rfl
@[simp] theorem State.satCount_sramGen (s : State) (a : Nat) (hi : Nat) (lo : Nat) (n : Nat) : (s.satCount a hi lo n).sramGen = s.sramGen := rfl
@[simp] theorem State.satCount_power (s : State) (a : Nat) (hi : Nat) (lo : Nat) (n : Nat) : (s.satCount a hi lo n).power = s.power := rfl
@[simp] theorem State.satCount_link (s : State) (a : Nat) (hi : Nat) (lo : Nat) (n : Nat) : (s.satCount a hi lo n).link = s.link := rfl
@[simp] theorem State.satCount_cfg (s : State) (a : Nat) (hi : Nat) (lo : Nat) (n : Nat) : (s.satCount a hi lo n).cfg = s.cfg := rfl
@[simp] theorem State.satCount_boot (s : State) (a : Nat) (hi : Nat) (lo : Nat) (n : Nat) : (s.satCount a hi lo n).boot = s.boot := rfl
@[simp] theorem State.satCount_tnowBase (s : State) (a : Nat) (hi : Nat) (lo : Nat) (n : Nat) : (s.satCount a hi lo n).tnowBase = s.tnowBase := rfl
@[simp] theorem State.satCount_wheels (s : State) (a : Nat) (hi : Nat) (lo : Nat) (n : Nat) : (s.satCount a hi lo n).wheels = s.wheels := rfl
@[simp] theorem State.satCount_phases (s : State) (a : Nat) (hi : Nat) (lo : Nat) (n : Nat) : (s.satCount a hi lo n).phases = s.phases := rfl
@[simp] theorem State.satCount_bias (s : State) (a : Nat) (hi : Nat) (lo : Nat) (n : Nat) : (s.satCount a hi lo n).bias = s.bias := rfl
@[simp] theorem State.satCount_snapAt (s : State) (a : Nat) (hi : Nat) (lo : Nat) (n : Nat) : (s.satCount a hi lo n).snapAt = s.snapAt := rfl
@[simp] theorem State.satCount_outs (s : State) (a : Nat) (hi : Nat) (lo : Nat) (n : Nat) : (s.satCount a hi lo n).outs = s.outs := rfl
@[simp] theorem State.satCount_timers (s : State) (a : Nat) (hi : Nat) (lo : Nat) (n : Nat) : (s.satCount a hi lo n).timers = s.timers := rfl
@[simp] theorem State.satCount_adcA (s : State) (a : Nat) (hi : Nat) (lo : Nat) (n : Nat) : (s.satCount a hi lo n).adcA = s.adcA := rfl
@[simp] theorem State.satCount_adcB (s : State) (a : Nat) (hi : Nat) (lo : Nat) (n : Nat) : (s.satCount a hi lo n).adcB = s.adcB := rfl
@[simp] theorem State.satCount_regA (s : State) (a : Nat) (hi : Nat) (lo : Nat) (n : Nat) : (s.satCount a hi lo n).regA = s.regA := rfl
@[simp] theorem State.satCount_injA (s : State) (a : Nat) (hi : Nat) (lo : Nat) (n : Nat) : (s.satCount a hi lo n).injA = s.injA := rfl
@[simp] theorem State.satCount_regB (s : State) (a : Nat) (hi : Nat) (lo : Nat) (n : Nat) : (s.satCount a hi lo n).regB = s.regB := rfl
@[simp] theorem State.satCount_injB (s : State) (a : Nat) (hi : Nat) (lo : Nat) (n : Nat) : (s.satCount a hi lo n).injB = s.injB := rfl
@[simp] theorem State.satCount_dma (s : State) (a : Nat) (hi : Nat) (lo : Nat) (n : Nat) : (s.satCount a hi lo n).dma = s.dma := rfl
@[simp] theorem State.satCount_nand (s : State) (a : Nat) (hi : Nat) (lo : Nat) (n : Nat) : (s.satCount a hi lo n).nand = s.nand := rfl
@[simp] theorem State.satCount_cave (s : State) (a : Nat) (hi : Nat) (lo : Nat) (n : Nat) : (s.satCount a hi lo n).cave = s.cave := rfl
@[simp] theorem State.satCount_health (s : State) (a : Nat) (hi : Nat) (lo : Nat) (n : Nat) : (s.satCount a hi lo n).health = s.health := rfl
@[simp] theorem State.satCount_bat (s : State) (a : Nat) (hi : Nat) (lo : Nat) (n : Nat) : (s.satCount a hi lo n).bat = s.bat := rfl
@[simp] theorem State.satCount_fus (s : State) (a : Nat) (hi : Nat) (lo : Nat) (n : Nat) : (s.satCount a hi lo n).fus = s.fus := rfl
@[simp] theorem State.satCount_rind (s : State) (a : Nat) (hi : Nat) (lo : Nat) (n : Nat) : (s.satCount a hi lo n).rind = s.rind := rfl
@[simp] theorem State.satCount_lock (s : State) (a : Nat) (hi : Nat) (lo : Nat) (n : Nat) : (s.satCount a hi lo n).lock = s.lock := rfl
@[simp] theorem State.satCount_life (s : State) (a : Nat) (hi : Nat) (lo : Nat) (n : Nat) : (s.satCount a hi lo n).life = s.life := rfl
@[simp] theorem State.satCount_otp (s : State) (a : Nat) (hi : Nat) (lo : Nat) (n : Nat) : (s.satCount a hi lo n).otp = s.otp := rfl
@[simp] theorem State.satCount_store (s : State) (a : Nat) (hi : Nat) (lo : Nat) (n : Nat) : (s.satCount a hi lo n).store = s.store := rfl
@[simp] theorem State.satCount_jtag (s : State) (a : Nat) (hi : Nat) (lo : Nat) (n : Nat) : (s.satCount a hi lo n).jtag = s.jtag := rfl
@[simp] theorem State.satCount_copyLink (s : State) (a : Nat) (hi : Nat) (lo : Nat) (n : Nat) : (s.satCount a hi lo n).copyLink = s.copyLink := rfl
@[simp] theorem State.satCount_copyDma (s : State) (a : Nat) (hi : Nat) (lo : Nat) (n : Nat) : (s.satCount a hi lo n).copyDma = s.copyDma := rfl
@[simp] theorem State.satCount_busRead (s : State) (a : Nat) (hi : Nat) (lo : Nat) (n : Nat) : (s.satCount a hi lo n).busRead = s.busRead := rfl
@[simp] theorem State.satCount_busError (s : State) (a : Nat) (hi : Nat) (lo : Nat) (n : Nat) : (s.satCount a hi lo n).busError = s.busError := rfl
@[simp] theorem State.satCount_mirror (s : State) (a : Nat) (hi : Nat) (lo : Nat) (n : Nat) : (s.satCount a hi lo n).mirror = s.mirror := rfl

/-! #### satInc -/

@[simp] theorem State.satInc_now (s : State) (a : Nat) (hi : Nat) (lo : Nat) : (s.satInc a hi lo).now = s.now := rfl
@[simp] theorem State.satInc_lf (s : State) (a : Nat) (hi : Nat) (lo : Nat) : (s.satInc a hi lo).lf = s.lf := rfl
@[simp] theorem State.satInc_free (s : State) (a : Nat) (hi : Nat) (lo : Nat) : (s.satInc a hi lo).free = s.free := rfl
@[simp] theorem State.satInc_pending (s : State) (a : Nat) (hi : Nat) (lo : Nat) : (s.satInc a hi lo).pending = s.pending := rfl
@[simp] theorem State.satInc_sram (s : State) (a : Nat) (hi : Nat) (lo : Nat) : (s.satInc a hi lo).sram = s.sram := rfl
@[simp] theorem State.satInc_sramGen (s : State) (a : Nat) (hi : Nat) (lo : Nat) : (s.satInc a hi lo).sramGen = s.sramGen := rfl
@[simp] theorem State.satInc_power (s : State) (a : Nat) (hi : Nat) (lo : Nat) : (s.satInc a hi lo).power = s.power := rfl
@[simp] theorem State.satInc_link (s : State) (a : Nat) (hi : Nat) (lo : Nat) : (s.satInc a hi lo).link = s.link := rfl
@[simp] theorem State.satInc_cfg (s : State) (a : Nat) (hi : Nat) (lo : Nat) : (s.satInc a hi lo).cfg = s.cfg := rfl
@[simp] theorem State.satInc_boot (s : State) (a : Nat) (hi : Nat) (lo : Nat) : (s.satInc a hi lo).boot = s.boot := rfl
@[simp] theorem State.satInc_tnowBase (s : State) (a : Nat) (hi : Nat) (lo : Nat) : (s.satInc a hi lo).tnowBase = s.tnowBase := rfl
@[simp] theorem State.satInc_wheels (s : State) (a : Nat) (hi : Nat) (lo : Nat) : (s.satInc a hi lo).wheels = s.wheels := rfl
@[simp] theorem State.satInc_phases (s : State) (a : Nat) (hi : Nat) (lo : Nat) : (s.satInc a hi lo).phases = s.phases := rfl
@[simp] theorem State.satInc_bias (s : State) (a : Nat) (hi : Nat) (lo : Nat) : (s.satInc a hi lo).bias = s.bias := rfl
@[simp] theorem State.satInc_snapAt (s : State) (a : Nat) (hi : Nat) (lo : Nat) : (s.satInc a hi lo).snapAt = s.snapAt := rfl
@[simp] theorem State.satInc_outs (s : State) (a : Nat) (hi : Nat) (lo : Nat) : (s.satInc a hi lo).outs = s.outs := rfl
@[simp] theorem State.satInc_timers (s : State) (a : Nat) (hi : Nat) (lo : Nat) : (s.satInc a hi lo).timers = s.timers := rfl
@[simp] theorem State.satInc_adcA (s : State) (a : Nat) (hi : Nat) (lo : Nat) : (s.satInc a hi lo).adcA = s.adcA := rfl
@[simp] theorem State.satInc_adcB (s : State) (a : Nat) (hi : Nat) (lo : Nat) : (s.satInc a hi lo).adcB = s.adcB := rfl
@[simp] theorem State.satInc_regA (s : State) (a : Nat) (hi : Nat) (lo : Nat) : (s.satInc a hi lo).regA = s.regA := rfl
@[simp] theorem State.satInc_injA (s : State) (a : Nat) (hi : Nat) (lo : Nat) : (s.satInc a hi lo).injA = s.injA := rfl
@[simp] theorem State.satInc_regB (s : State) (a : Nat) (hi : Nat) (lo : Nat) : (s.satInc a hi lo).regB = s.regB := rfl
@[simp] theorem State.satInc_injB (s : State) (a : Nat) (hi : Nat) (lo : Nat) : (s.satInc a hi lo).injB = s.injB := rfl
@[simp] theorem State.satInc_dma (s : State) (a : Nat) (hi : Nat) (lo : Nat) : (s.satInc a hi lo).dma = s.dma := rfl
@[simp] theorem State.satInc_nand (s : State) (a : Nat) (hi : Nat) (lo : Nat) : (s.satInc a hi lo).nand = s.nand := rfl
@[simp] theorem State.satInc_cave (s : State) (a : Nat) (hi : Nat) (lo : Nat) : (s.satInc a hi lo).cave = s.cave := rfl
@[simp] theorem State.satInc_health (s : State) (a : Nat) (hi : Nat) (lo : Nat) : (s.satInc a hi lo).health = s.health := rfl
@[simp] theorem State.satInc_bat (s : State) (a : Nat) (hi : Nat) (lo : Nat) : (s.satInc a hi lo).bat = s.bat := rfl
@[simp] theorem State.satInc_fus (s : State) (a : Nat) (hi : Nat) (lo : Nat) : (s.satInc a hi lo).fus = s.fus := rfl
@[simp] theorem State.satInc_rind (s : State) (a : Nat) (hi : Nat) (lo : Nat) : (s.satInc a hi lo).rind = s.rind := rfl
@[simp] theorem State.satInc_lock (s : State) (a : Nat) (hi : Nat) (lo : Nat) : (s.satInc a hi lo).lock = s.lock := rfl
@[simp] theorem State.satInc_life (s : State) (a : Nat) (hi : Nat) (lo : Nat) : (s.satInc a hi lo).life = s.life := rfl
@[simp] theorem State.satInc_otp (s : State) (a : Nat) (hi : Nat) (lo : Nat) : (s.satInc a hi lo).otp = s.otp := rfl
@[simp] theorem State.satInc_store (s : State) (a : Nat) (hi : Nat) (lo : Nat) : (s.satInc a hi lo).store = s.store := rfl
@[simp] theorem State.satInc_jtag (s : State) (a : Nat) (hi : Nat) (lo : Nat) : (s.satInc a hi lo).jtag = s.jtag := rfl
@[simp] theorem State.satInc_copyLink (s : State) (a : Nat) (hi : Nat) (lo : Nat) : (s.satInc a hi lo).copyLink = s.copyLink := rfl
@[simp] theorem State.satInc_copyDma (s : State) (a : Nat) (hi : Nat) (lo : Nat) : (s.satInc a hi lo).copyDma = s.copyDma := rfl
@[simp] theorem State.satInc_busRead (s : State) (a : Nat) (hi : Nat) (lo : Nat) : (s.satInc a hi lo).busRead = s.busRead := rfl
@[simp] theorem State.satInc_busError (s : State) (a : Nat) (hi : Nat) (lo : Nat) : (s.satInc a hi lo).busError = s.busError := rfl
@[simp] theorem State.satInc_mirror (s : State) (a : Nat) (hi : Nat) (lo : Nat) : (s.satInc a hi lo).mirror = s.mirror := rfl

/-! #### setCopy -/

@[simp] theorem State.setCopy_now (s : State) (m : Master) (c : MasterCopy) : (s.setCopy m c).now = s.now := by cases m <;> rfl
@[simp] theorem State.setCopy_lf (s : State) (m : Master) (c : MasterCopy) : (s.setCopy m c).lf = s.lf := by cases m <;> rfl
@[simp] theorem State.setCopy_free (s : State) (m : Master) (c : MasterCopy) : (s.setCopy m c).free = s.free := by cases m <;> rfl
@[simp] theorem State.setCopy_pending (s : State) (m : Master) (c : MasterCopy) : (s.setCopy m c).pending = s.pending := by cases m <;> rfl
@[simp] theorem State.setCopy_regs (s : State) (m : Master) (c : MasterCopy) : (s.setCopy m c).regs = s.regs := by cases m <;> rfl
@[simp] theorem State.setCopy_sram (s : State) (m : Master) (c : MasterCopy) : (s.setCopy m c).sram = s.sram := by cases m <;> rfl
@[simp] theorem State.setCopy_sramGen (s : State) (m : Master) (c : MasterCopy) : (s.setCopy m c).sramGen = s.sramGen := by cases m <;> rfl
@[simp] theorem State.setCopy_power (s : State) (m : Master) (c : MasterCopy) : (s.setCopy m c).power = s.power := by cases m <;> rfl
@[simp] theorem State.setCopy_link (s : State) (m : Master) (c : MasterCopy) : (s.setCopy m c).link = s.link := by cases m <;> rfl
@[simp] theorem State.setCopy_cfg (s : State) (m : Master) (c : MasterCopy) : (s.setCopy m c).cfg = s.cfg := by cases m <;> rfl
@[simp] theorem State.setCopy_boot (s : State) (m : Master) (c : MasterCopy) : (s.setCopy m c).boot = s.boot := by cases m <;> rfl
@[simp] theorem State.setCopy_tnowBase (s : State) (m : Master) (c : MasterCopy) : (s.setCopy m c).tnowBase = s.tnowBase := by cases m <;> rfl
@[simp] theorem State.setCopy_wheels (s : State) (m : Master) (c : MasterCopy) : (s.setCopy m c).wheels = s.wheels := by cases m <;> rfl
@[simp] theorem State.setCopy_phases (s : State) (m : Master) (c : MasterCopy) : (s.setCopy m c).phases = s.phases := by cases m <;> rfl
@[simp] theorem State.setCopy_bias (s : State) (m : Master) (c : MasterCopy) : (s.setCopy m c).bias = s.bias := by cases m <;> rfl
@[simp] theorem State.setCopy_snapAt (s : State) (m : Master) (c : MasterCopy) : (s.setCopy m c).snapAt = s.snapAt := by cases m <;> rfl
@[simp] theorem State.setCopy_outs (s : State) (m : Master) (c : MasterCopy) : (s.setCopy m c).outs = s.outs := by cases m <;> rfl
@[simp] theorem State.setCopy_timers (s : State) (m : Master) (c : MasterCopy) : (s.setCopy m c).timers = s.timers := by cases m <;> rfl
@[simp] theorem State.setCopy_adcA (s : State) (m : Master) (c : MasterCopy) : (s.setCopy m c).adcA = s.adcA := by cases m <;> rfl
@[simp] theorem State.setCopy_adcB (s : State) (m : Master) (c : MasterCopy) : (s.setCopy m c).adcB = s.adcB := by cases m <;> rfl
@[simp] theorem State.setCopy_regA (s : State) (m : Master) (c : MasterCopy) : (s.setCopy m c).regA = s.regA := by cases m <;> rfl
@[simp] theorem State.setCopy_injA (s : State) (m : Master) (c : MasterCopy) : (s.setCopy m c).injA = s.injA := by cases m <;> rfl
@[simp] theorem State.setCopy_regB (s : State) (m : Master) (c : MasterCopy) : (s.setCopy m c).regB = s.regB := by cases m <;> rfl
@[simp] theorem State.setCopy_injB (s : State) (m : Master) (c : MasterCopy) : (s.setCopy m c).injB = s.injB := by cases m <;> rfl
@[simp] theorem State.setCopy_dma (s : State) (m : Master) (c : MasterCopy) : (s.setCopy m c).dma = s.dma := by cases m <;> rfl
@[simp] theorem State.setCopy_nand (s : State) (m : Master) (c : MasterCopy) : (s.setCopy m c).nand = s.nand := by cases m <;> rfl
@[simp] theorem State.setCopy_cave (s : State) (m : Master) (c : MasterCopy) : (s.setCopy m c).cave = s.cave := by cases m <;> rfl
@[simp] theorem State.setCopy_health (s : State) (m : Master) (c : MasterCopy) : (s.setCopy m c).health = s.health := by cases m <;> rfl
@[simp] theorem State.setCopy_bat (s : State) (m : Master) (c : MasterCopy) : (s.setCopy m c).bat = s.bat := by cases m <;> rfl
@[simp] theorem State.setCopy_fus (s : State) (m : Master) (c : MasterCopy) : (s.setCopy m c).fus = s.fus := by cases m <;> rfl
@[simp] theorem State.setCopy_rind (s : State) (m : Master) (c : MasterCopy) : (s.setCopy m c).rind = s.rind := by cases m <;> rfl
@[simp] theorem State.setCopy_lock (s : State) (m : Master) (c : MasterCopy) : (s.setCopy m c).lock = s.lock := by cases m <;> rfl
@[simp] theorem State.setCopy_life (s : State) (m : Master) (c : MasterCopy) : (s.setCopy m c).life = s.life := by cases m <;> rfl
@[simp] theorem State.setCopy_otp (s : State) (m : Master) (c : MasterCopy) : (s.setCopy m c).otp = s.otp := by cases m <;> rfl
@[simp] theorem State.setCopy_store (s : State) (m : Master) (c : MasterCopy) : (s.setCopy m c).store = s.store := by cases m <;> rfl
@[simp] theorem State.setCopy_jtag (s : State) (m : Master) (c : MasterCopy) : (s.setCopy m c).jtag = s.jtag := by cases m <;> rfl
@[simp] theorem State.setCopy_busRead (s : State) (m : Master) (c : MasterCopy) : (s.setCopy m c).busRead = s.busRead := by cases m <;> rfl
@[simp] theorem State.setCopy_busError (s : State) (m : Master) (c : MasterCopy) : (s.setCopy m c).busError = s.busError := by cases m <;> rfl
@[simp] theorem State.setCopy_setAt (s : State) (m : Master) (c : MasterCopy) : (s.setCopy m c).setAt = s.setAt := by cases m <;> rfl
@[simp] theorem State.setCopy_setNow (s : State) (m : Master) (c : MasterCopy) : (s.setCopy m c).setNow = s.setNow := by cases m <;> rfl
@[simp] theorem State.setCopy_mirror (s : State) (m : Master) (c : MasterCopy) : (s.setCopy m c).mirror = s.mirror := by cases m <;> rfl

/-! #### setAdc -/

@[simp] theorem State.setAdc_now (s : State) (x : Conv) (a : AdcSt) : (s.setAdc x a).now = s.now := by cases x <;> rfl
@[simp] theorem State.setAdc_lf (s : State) (x : Conv) (a : AdcSt) : (s.setAdc x a).lf = s.lf := by cases x <;> rfl
@[simp] theorem State.setAdc_free (s : State) (x : Conv) (a : AdcSt) : (s.setAdc x a).free = s.free := by cases x <;> rfl
@[simp] theorem State.setAdc_pending (s : State) (x : Conv) (a : AdcSt) : (s.setAdc x a).pending = s.pending := by cases x <;> rfl
@[simp] theorem State.setAdc_regs (s : State) (x : Conv) (a : AdcSt) : (s.setAdc x a).regs = s.regs := by cases x <;> rfl
@[simp] theorem State.setAdc_sram (s : State) (x : Conv) (a : AdcSt) : (s.setAdc x a).sram = s.sram := by cases x <;> rfl
@[simp] theorem State.setAdc_sramGen (s : State) (x : Conv) (a : AdcSt) : (s.setAdc x a).sramGen = s.sramGen := by cases x <;> rfl
@[simp] theorem State.setAdc_power (s : State) (x : Conv) (a : AdcSt) : (s.setAdc x a).power = s.power := by cases x <;> rfl
@[simp] theorem State.setAdc_link (s : State) (x : Conv) (a : AdcSt) : (s.setAdc x a).link = s.link := by cases x <;> rfl
@[simp] theorem State.setAdc_cfg (s : State) (x : Conv) (a : AdcSt) : (s.setAdc x a).cfg = s.cfg := by cases x <;> rfl
@[simp] theorem State.setAdc_boot (s : State) (x : Conv) (a : AdcSt) : (s.setAdc x a).boot = s.boot := by cases x <;> rfl
@[simp] theorem State.setAdc_tnowBase (s : State) (x : Conv) (a : AdcSt) : (s.setAdc x a).tnowBase = s.tnowBase := by cases x <;> rfl
@[simp] theorem State.setAdc_wheels (s : State) (x : Conv) (a : AdcSt) : (s.setAdc x a).wheels = s.wheels := by cases x <;> rfl
@[simp] theorem State.setAdc_phases (s : State) (x : Conv) (a : AdcSt) : (s.setAdc x a).phases = s.phases := by cases x <;> rfl
@[simp] theorem State.setAdc_bias (s : State) (x : Conv) (a : AdcSt) : (s.setAdc x a).bias = s.bias := by cases x <;> rfl
@[simp] theorem State.setAdc_snapAt (s : State) (x : Conv) (a : AdcSt) : (s.setAdc x a).snapAt = s.snapAt := by cases x <;> rfl
@[simp] theorem State.setAdc_outs (s : State) (x : Conv) (a : AdcSt) : (s.setAdc x a).outs = s.outs := by cases x <;> rfl
@[simp] theorem State.setAdc_timers (s : State) (x : Conv) (a : AdcSt) : (s.setAdc x a).timers = s.timers := by cases x <;> rfl
@[simp] theorem State.setAdc_regA (s : State) (x : Conv) (a : AdcSt) : (s.setAdc x a).regA = s.regA := by cases x <;> rfl
@[simp] theorem State.setAdc_injA (s : State) (x : Conv) (a : AdcSt) : (s.setAdc x a).injA = s.injA := by cases x <;> rfl
@[simp] theorem State.setAdc_regB (s : State) (x : Conv) (a : AdcSt) : (s.setAdc x a).regB = s.regB := by cases x <;> rfl
@[simp] theorem State.setAdc_injB (s : State) (x : Conv) (a : AdcSt) : (s.setAdc x a).injB = s.injB := by cases x <;> rfl
@[simp] theorem State.setAdc_dma (s : State) (x : Conv) (a : AdcSt) : (s.setAdc x a).dma = s.dma := by cases x <;> rfl
@[simp] theorem State.setAdc_nand (s : State) (x : Conv) (a : AdcSt) : (s.setAdc x a).nand = s.nand := by cases x <;> rfl
@[simp] theorem State.setAdc_cave (s : State) (x : Conv) (a : AdcSt) : (s.setAdc x a).cave = s.cave := by cases x <;> rfl
@[simp] theorem State.setAdc_health (s : State) (x : Conv) (a : AdcSt) : (s.setAdc x a).health = s.health := by cases x <;> rfl
@[simp] theorem State.setAdc_bat (s : State) (x : Conv) (a : AdcSt) : (s.setAdc x a).bat = s.bat := by cases x <;> rfl
@[simp] theorem State.setAdc_fus (s : State) (x : Conv) (a : AdcSt) : (s.setAdc x a).fus = s.fus := by cases x <;> rfl
@[simp] theorem State.setAdc_rind (s : State) (x : Conv) (a : AdcSt) : (s.setAdc x a).rind = s.rind := by cases x <;> rfl
@[simp] theorem State.setAdc_lock (s : State) (x : Conv) (a : AdcSt) : (s.setAdc x a).lock = s.lock := by cases x <;> rfl
@[simp] theorem State.setAdc_life (s : State) (x : Conv) (a : AdcSt) : (s.setAdc x a).life = s.life := by cases x <;> rfl
@[simp] theorem State.setAdc_otp (s : State) (x : Conv) (a : AdcSt) : (s.setAdc x a).otp = s.otp := by cases x <;> rfl
@[simp] theorem State.setAdc_store (s : State) (x : Conv) (a : AdcSt) : (s.setAdc x a).store = s.store := by cases x <;> rfl
@[simp] theorem State.setAdc_jtag (s : State) (x : Conv) (a : AdcSt) : (s.setAdc x a).jtag = s.jtag := by cases x <;> rfl
@[simp] theorem State.setAdc_copyLink (s : State) (x : Conv) (a : AdcSt) : (s.setAdc x a).copyLink = s.copyLink := by cases x <;> rfl
@[simp] theorem State.setAdc_copyDma (s : State) (x : Conv) (a : AdcSt) : (s.setAdc x a).copyDma = s.copyDma := by cases x <;> rfl
@[simp] theorem State.setAdc_busRead (s : State) (x : Conv) (a : AdcSt) : (s.setAdc x a).busRead = s.busRead := by cases x <;> rfl
@[simp] theorem State.setAdc_busError (s : State) (x : Conv) (a : AdcSt) : (s.setAdc x a).busError = s.busError := by cases x <;> rfl
@[simp] theorem State.setAdc_setAt (s : State) (x : Conv) (a : AdcSt) : (s.setAdc x a).setAt = s.setAt := by cases x <;> rfl
@[simp] theorem State.setAdc_setNow (s : State) (x : Conv) (a : AdcSt) : (s.setAdc x a).setNow = s.setNow := by cases x <;> rfl
@[simp] theorem State.setAdc_mirror (s : State) (x : Conv) (a : AdcSt) : (s.setAdc x a).mirror = s.mirror := by cases x <;> rfl

/-! #### setSeq -/

@[simp] theorem State.setSeq_now (s : State) (x : Conv) (inj : Bool) (q : SeqSt) : (s.setSeq x inj q).now = s.now := by cases x <;> cases inj <;> rfl
@[simp] theorem State.setSeq_lf (s : State) (x : Conv) (inj : Bool) (q : SeqSt) : (s.setSeq x inj q).lf = s.lf := by cases x <;> cases inj <;> rfl
@[simp] theorem State.setSeq_free (s : State) (x : Conv) (inj : Bool) (q : SeqSt) : (s.setSeq x inj q).free = s.free := by cases x <;> cases inj <;> rfl
@[simp] theorem State.setSeq_pending (s : State) (x : Conv) (inj : Bool) (q : SeqSt) : (s.setSeq x inj q).pending = s.pending := by cases x <;> cases inj <;> rfl
@[simp] theorem State.setSeq_regs (s : State) (x : Conv) (inj : Bool) (q : SeqSt) : (s.setSeq x inj q).regs = s.regs := by cases x <;> cases inj <;> rfl
@[simp] theorem State.setSeq_sram (s : State) (x : Conv) (inj : Bool) (q : SeqSt) : (s.setSeq x inj q).sram = s.sram := by cases x <;> cases inj <;> rfl
@[simp] theorem State.setSeq_sramGen (s : State) (x : Conv) (inj : Bool) (q : SeqSt) : (s.setSeq x inj q).sramGen = s.sramGen := by cases x <;> cases inj <;> rfl
@[simp] theorem State.setSeq_power (s : State) (x : Conv) (inj : Bool) (q : SeqSt) : (s.setSeq x inj q).power = s.power := by cases x <;> cases inj <;> rfl
@[simp] theorem State.setSeq_link (s : State) (x : Conv) (inj : Bool) (q : SeqSt) : (s.setSeq x inj q).link = s.link := by cases x <;> cases inj <;> rfl
@[simp] theorem State.setSeq_cfg (s : State) (x : Conv) (inj : Bool) (q : SeqSt) : (s.setSeq x inj q).cfg = s.cfg := by cases x <;> cases inj <;> rfl
@[simp] theorem State.setSeq_boot (s : State) (x : Conv) (inj : Bool) (q : SeqSt) : (s.setSeq x inj q).boot = s.boot := by cases x <;> cases inj <;> rfl
@[simp] theorem State.setSeq_tnowBase (s : State) (x : Conv) (inj : Bool) (q : SeqSt) : (s.setSeq x inj q).tnowBase = s.tnowBase := by cases x <;> cases inj <;> rfl
@[simp] theorem State.setSeq_wheels (s : State) (x : Conv) (inj : Bool) (q : SeqSt) : (s.setSeq x inj q).wheels = s.wheels := by cases x <;> cases inj <;> rfl
@[simp] theorem State.setSeq_phases (s : State) (x : Conv) (inj : Bool) (q : SeqSt) : (s.setSeq x inj q).phases = s.phases := by cases x <;> cases inj <;> rfl
@[simp] theorem State.setSeq_bias (s : State) (x : Conv) (inj : Bool) (q : SeqSt) : (s.setSeq x inj q).bias = s.bias := by cases x <;> cases inj <;> rfl
@[simp] theorem State.setSeq_snapAt (s : State) (x : Conv) (inj : Bool) (q : SeqSt) : (s.setSeq x inj q).snapAt = s.snapAt := by cases x <;> cases inj <;> rfl
@[simp] theorem State.setSeq_outs (s : State) (x : Conv) (inj : Bool) (q : SeqSt) : (s.setSeq x inj q).outs = s.outs := by cases x <;> cases inj <;> rfl
@[simp] theorem State.setSeq_timers (s : State) (x : Conv) (inj : Bool) (q : SeqSt) : (s.setSeq x inj q).timers = s.timers := by cases x <;> cases inj <;> rfl
@[simp] theorem State.setSeq_adcA (s : State) (x : Conv) (inj : Bool) (q : SeqSt) : (s.setSeq x inj q).adcA = s.adcA := by cases x <;> cases inj <;> rfl
@[simp] theorem State.setSeq_adcB (s : State) (x : Conv) (inj : Bool) (q : SeqSt) : (s.setSeq x inj q).adcB = s.adcB := by cases x <;> cases inj <;> rfl
@[simp] theorem State.setSeq_dma (s : State) (x : Conv) (inj : Bool) (q : SeqSt) : (s.setSeq x inj q).dma = s.dma := by cases x <;> cases inj <;> rfl
@[simp] theorem State.setSeq_nand (s : State) (x : Conv) (inj : Bool) (q : SeqSt) : (s.setSeq x inj q).nand = s.nand := by cases x <;> cases inj <;> rfl
@[simp] theorem State.setSeq_cave (s : State) (x : Conv) (inj : Bool) (q : SeqSt) : (s.setSeq x inj q).cave = s.cave := by cases x <;> cases inj <;> rfl
@[simp] theorem State.setSeq_health (s : State) (x : Conv) (inj : Bool) (q : SeqSt) : (s.setSeq x inj q).health = s.health := by cases x <;> cases inj <;> rfl
@[simp] theorem State.setSeq_bat (s : State) (x : Conv) (inj : Bool) (q : SeqSt) : (s.setSeq x inj q).bat = s.bat := by cases x <;> cases inj <;> rfl
@[simp] theorem State.setSeq_fus (s : State) (x : Conv) (inj : Bool) (q : SeqSt) : (s.setSeq x inj q).fus = s.fus := by cases x <;> cases inj <;> rfl
@[simp] theorem State.setSeq_rind (s : State) (x : Conv) (inj : Bool) (q : SeqSt) : (s.setSeq x inj q).rind = s.rind := by cases x <;> cases inj <;> rfl
@[simp] theorem State.setSeq_lock (s : State) (x : Conv) (inj : Bool) (q : SeqSt) : (s.setSeq x inj q).lock = s.lock := by cases x <;> cases inj <;> rfl
@[simp] theorem State.setSeq_life (s : State) (x : Conv) (inj : Bool) (q : SeqSt) : (s.setSeq x inj q).life = s.life := by cases x <;> cases inj <;> rfl
@[simp] theorem State.setSeq_otp (s : State) (x : Conv) (inj : Bool) (q : SeqSt) : (s.setSeq x inj q).otp = s.otp := by cases x <;> cases inj <;> rfl
@[simp] theorem State.setSeq_store (s : State) (x : Conv) (inj : Bool) (q : SeqSt) : (s.setSeq x inj q).store = s.store := by cases x <;> cases inj <;> rfl
@[simp] theorem State.setSeq_jtag (s : State) (x : Conv) (inj : Bool) (q : SeqSt) : (s.setSeq x inj q).jtag = s.jtag := by cases x <;> cases inj <;> rfl
@[simp] theorem State.setSeq_copyLink (s : State) (x : Conv) (inj : Bool) (q : SeqSt) : (s.setSeq x inj q).copyLink = s.copyLink := by cases x <;> cases inj <;> rfl
@[simp] theorem State.setSeq_copyDma (s : State) (x : Conv) (inj : Bool) (q : SeqSt) : (s.setSeq x inj q).copyDma = s.copyDma := by cases x <;> cases inj <;> rfl
@[simp] theorem State.setSeq_busRead (s : State) (x : Conv) (inj : Bool) (q : SeqSt) : (s.setSeq x inj q).busRead = s.busRead := by cases x <;> cases inj <;> rfl
@[simp] theorem State.setSeq_busError (s : State) (x : Conv) (inj : Bool) (q : SeqSt) : (s.setSeq x inj q).busError = s.busError := by cases x <;> cases inj <;> rfl
@[simp] theorem State.setSeq_setAt (s : State) (x : Conv) (inj : Bool) (q : SeqSt) : (s.setSeq x inj q).setAt = s.setAt := by cases x <;> cases inj <;> rfl
@[simp] theorem State.setSeq_setNow (s : State) (x : Conv) (inj : Bool) (q : SeqSt) : (s.setSeq x inj q).setNow = s.setNow := by cases x <;> cases inj <;> rfl
@[simp] theorem State.setSeq_mirror (s : State) (x : Conv) (inj : Bool) (q : SeqSt) : (s.setSeq x inj q).mirror = s.mirror := by cases x <;> cases inj <;> rfl

/-! #### setAdcTest -/

@[simp] theorem State.setAdcTest_now (s : State) (x : Conv) (t : SelfTest) : (s.setAdcTest x t).now = s.now := by cases x <;> rfl
@[simp] theorem State.setAdcTest_lf (s : State) (x : Conv) (t : SelfTest) : (s.setAdcTest x t).lf = s.lf := by cases x <;> rfl
@[simp] theorem State.setAdcTest_free (s : State) (x : Conv) (t : SelfTest) : (s.setAdcTest x t).free = s.free := by cases x <;> rfl
@[simp] theorem State.setAdcTest_pending (s : State) (x : Conv) (t : SelfTest) : (s.setAdcTest x t).pending = s.pending := by cases x <;> rfl
@[simp] theorem State.setAdcTest_regs (s : State) (x : Conv) (t : SelfTest) : (s.setAdcTest x t).regs = s.regs := by cases x <;> rfl
@[simp] theorem State.setAdcTest_sram (s : State) (x : Conv) (t : SelfTest) : (s.setAdcTest x t).sram = s.sram := by cases x <;> rfl
@[simp] theorem State.setAdcTest_sramGen (s : State) (x : Conv) (t : SelfTest) : (s.setAdcTest x t).sramGen = s.sramGen := by cases x <;> rfl
@[simp] theorem State.setAdcTest_power (s : State) (x : Conv) (t : SelfTest) : (s.setAdcTest x t).power = s.power := by cases x <;> rfl
@[simp] theorem State.setAdcTest_link (s : State) (x : Conv) (t : SelfTest) : (s.setAdcTest x t).link = s.link := by cases x <;> rfl
@[simp] theorem State.setAdcTest_boot (s : State) (x : Conv) (t : SelfTest) : (s.setAdcTest x t).boot = s.boot := by cases x <;> rfl
@[simp] theorem State.setAdcTest_tnowBase (s : State) (x : Conv) (t : SelfTest) : (s.setAdcTest x t).tnowBase = s.tnowBase := by cases x <;> rfl
@[simp] theorem State.setAdcTest_wheels (s : State) (x : Conv) (t : SelfTest) : (s.setAdcTest x t).wheels = s.wheels := by cases x <;> rfl
@[simp] theorem State.setAdcTest_phases (s : State) (x : Conv) (t : SelfTest) : (s.setAdcTest x t).phases = s.phases := by cases x <;> rfl
@[simp] theorem State.setAdcTest_bias (s : State) (x : Conv) (t : SelfTest) : (s.setAdcTest x t).bias = s.bias := by cases x <;> rfl
@[simp] theorem State.setAdcTest_snapAt (s : State) (x : Conv) (t : SelfTest) : (s.setAdcTest x t).snapAt = s.snapAt := by cases x <;> rfl
@[simp] theorem State.setAdcTest_outs (s : State) (x : Conv) (t : SelfTest) : (s.setAdcTest x t).outs = s.outs := by cases x <;> rfl
@[simp] theorem State.setAdcTest_timers (s : State) (x : Conv) (t : SelfTest) : (s.setAdcTest x t).timers = s.timers := by cases x <;> rfl
@[simp] theorem State.setAdcTest_adcA (s : State) (x : Conv) (t : SelfTest) : (s.setAdcTest x t).adcA = s.adcA := by cases x <;> rfl
@[simp] theorem State.setAdcTest_adcB (s : State) (x : Conv) (t : SelfTest) : (s.setAdcTest x t).adcB = s.adcB := by cases x <;> rfl
@[simp] theorem State.setAdcTest_regA (s : State) (x : Conv) (t : SelfTest) : (s.setAdcTest x t).regA = s.regA := by cases x <;> rfl
@[simp] theorem State.setAdcTest_injA (s : State) (x : Conv) (t : SelfTest) : (s.setAdcTest x t).injA = s.injA := by cases x <;> rfl
@[simp] theorem State.setAdcTest_regB (s : State) (x : Conv) (t : SelfTest) : (s.setAdcTest x t).regB = s.regB := by cases x <;> rfl
@[simp] theorem State.setAdcTest_injB (s : State) (x : Conv) (t : SelfTest) : (s.setAdcTest x t).injB = s.injB := by cases x <;> rfl
@[simp] theorem State.setAdcTest_dma (s : State) (x : Conv) (t : SelfTest) : (s.setAdcTest x t).dma = s.dma := by cases x <;> rfl
@[simp] theorem State.setAdcTest_nand (s : State) (x : Conv) (t : SelfTest) : (s.setAdcTest x t).nand = s.nand := by cases x <;> rfl
@[simp] theorem State.setAdcTest_cave (s : State) (x : Conv) (t : SelfTest) : (s.setAdcTest x t).cave = s.cave := by cases x <;> rfl
@[simp] theorem State.setAdcTest_health (s : State) (x : Conv) (t : SelfTest) : (s.setAdcTest x t).health = s.health := by cases x <;> rfl
@[simp] theorem State.setAdcTest_bat (s : State) (x : Conv) (t : SelfTest) : (s.setAdcTest x t).bat = s.bat := by cases x <;> rfl
@[simp] theorem State.setAdcTest_fus (s : State) (x : Conv) (t : SelfTest) : (s.setAdcTest x t).fus = s.fus := by cases x <;> rfl
@[simp] theorem State.setAdcTest_rind (s : State) (x : Conv) (t : SelfTest) : (s.setAdcTest x t).rind = s.rind := by cases x <;> rfl
@[simp] theorem State.setAdcTest_lock (s : State) (x : Conv) (t : SelfTest) : (s.setAdcTest x t).lock = s.lock := by cases x <;> rfl
@[simp] theorem State.setAdcTest_life (s : State) (x : Conv) (t : SelfTest) : (s.setAdcTest x t).life = s.life := by cases x <;> rfl
@[simp] theorem State.setAdcTest_otp (s : State) (x : Conv) (t : SelfTest) : (s.setAdcTest x t).otp = s.otp := by cases x <;> rfl
@[simp] theorem State.setAdcTest_store (s : State) (x : Conv) (t : SelfTest) : (s.setAdcTest x t).store = s.store := by cases x <;> rfl
@[simp] theorem State.setAdcTest_jtag (s : State) (x : Conv) (t : SelfTest) : (s.setAdcTest x t).jtag = s.jtag := by cases x <;> rfl
@[simp] theorem State.setAdcTest_copyLink (s : State) (x : Conv) (t : SelfTest) : (s.setAdcTest x t).copyLink = s.copyLink := by cases x <;> rfl
@[simp] theorem State.setAdcTest_copyDma (s : State) (x : Conv) (t : SelfTest) : (s.setAdcTest x t).copyDma = s.copyDma := by cases x <;> rfl
@[simp] theorem State.setAdcTest_busRead (s : State) (x : Conv) (t : SelfTest) : (s.setAdcTest x t).busRead = s.busRead := by cases x <;> rfl
@[simp] theorem State.setAdcTest_busError (s : State) (x : Conv) (t : SelfTest) : (s.setAdcTest x t).busError = s.busError := by cases x <;> rfl
@[simp] theorem State.setAdcTest_setAt (s : State) (x : Conv) (t : SelfTest) : (s.setAdcTest x t).setAt = s.setAt := by cases x <;> rfl
@[simp] theorem State.setAdcTest_setNow (s : State) (x : Conv) (t : SelfTest) : (s.setAdcTest x t).setNow = s.setNow := by cases x <;> rfl
@[simp] theorem State.setAdcTest_mirror (s : State) (x : Conv) (t : SelfTest) : (s.setAdcTest x t).mirror = s.mirror := by cases x <;> rfl

/-! #### setCmp -/

@[simp] theorem State.setCmp_now (s : State) (c : Fin 16) (v : CmpSt) : (s.setCmp c v).now = s.now := by unfold State.setCmp; split <;> rfl
@[simp] theorem State.setCmp_lf (s : State) (c : Fin 16) (v : CmpSt) : (s.setCmp c v).lf = s.lf := by unfold State.setCmp; split <;> rfl
@[simp] theorem State.setCmp_free (s : State) (c : Fin 16) (v : CmpSt) : (s.setCmp c v).free = s.free := by unfold State.setCmp; split <;> rfl
@[simp] theorem State.setCmp_pending (s : State) (c : Fin 16) (v : CmpSt) : (s.setCmp c v).pending = s.pending := by unfold State.setCmp; split <;> rfl
@[simp] theorem State.setCmp_regs (s : State) (c : Fin 16) (v : CmpSt) : (s.setCmp c v).regs = s.regs := by unfold State.setCmp; split <;> rfl
@[simp] theorem State.setCmp_sram (s : State) (c : Fin 16) (v : CmpSt) : (s.setCmp c v).sram = s.sram := by unfold State.setCmp; split <;> rfl
@[simp] theorem State.setCmp_sramGen (s : State) (c : Fin 16) (v : CmpSt) : (s.setCmp c v).sramGen = s.sramGen := by unfold State.setCmp; split <;> rfl
@[simp] theorem State.setCmp_power (s : State) (c : Fin 16) (v : CmpSt) : (s.setCmp c v).power = s.power := by unfold State.setCmp; split <;> rfl
@[simp] theorem State.setCmp_link (s : State) (c : Fin 16) (v : CmpSt) : (s.setCmp c v).link = s.link := by unfold State.setCmp; split <;> rfl
@[simp] theorem State.setCmp_cfg (s : State) (c : Fin 16) (v : CmpSt) : (s.setCmp c v).cfg = s.cfg := by unfold State.setCmp; split <;> rfl
@[simp] theorem State.setCmp_boot (s : State) (c : Fin 16) (v : CmpSt) : (s.setCmp c v).boot = s.boot := by unfold State.setCmp; split <;> rfl
@[simp] theorem State.setCmp_tnowBase (s : State) (c : Fin 16) (v : CmpSt) : (s.setCmp c v).tnowBase = s.tnowBase := by unfold State.setCmp; split <;> rfl
@[simp] theorem State.setCmp_wheels (s : State) (c : Fin 16) (v : CmpSt) : (s.setCmp c v).wheels = s.wheels := by unfold State.setCmp; split <;> rfl
@[simp] theorem State.setCmp_phases (s : State) (c : Fin 16) (v : CmpSt) : (s.setCmp c v).phases = s.phases := by unfold State.setCmp; split <;> rfl
@[simp] theorem State.setCmp_bias (s : State) (c : Fin 16) (v : CmpSt) : (s.setCmp c v).bias = s.bias := by unfold State.setCmp; split <;> rfl
@[simp] theorem State.setCmp_snapAt (s : State) (c : Fin 16) (v : CmpSt) : (s.setCmp c v).snapAt = s.snapAt := by unfold State.setCmp; split <;> rfl
@[simp] theorem State.setCmp_outs (s : State) (c : Fin 16) (v : CmpSt) : (s.setCmp c v).outs = s.outs := by unfold State.setCmp; split <;> rfl
@[simp] theorem State.setCmp_timers (s : State) (c : Fin 16) (v : CmpSt) : (s.setCmp c v).timers = s.timers := by unfold State.setCmp; split <;> rfl
@[simp] theorem State.setCmp_regA (s : State) (c : Fin 16) (v : CmpSt) : (s.setCmp c v).regA = s.regA := by unfold State.setCmp; split <;> rfl
@[simp] theorem State.setCmp_injA (s : State) (c : Fin 16) (v : CmpSt) : (s.setCmp c v).injA = s.injA := by unfold State.setCmp; split <;> rfl
@[simp] theorem State.setCmp_regB (s : State) (c : Fin 16) (v : CmpSt) : (s.setCmp c v).regB = s.regB := by unfold State.setCmp; split <;> rfl
@[simp] theorem State.setCmp_injB (s : State) (c : Fin 16) (v : CmpSt) : (s.setCmp c v).injB = s.injB := by unfold State.setCmp; split <;> rfl
@[simp] theorem State.setCmp_dma (s : State) (c : Fin 16) (v : CmpSt) : (s.setCmp c v).dma = s.dma := by unfold State.setCmp; split <;> rfl
@[simp] theorem State.setCmp_nand (s : State) (c : Fin 16) (v : CmpSt) : (s.setCmp c v).nand = s.nand := by unfold State.setCmp; split <;> rfl
@[simp] theorem State.setCmp_cave (s : State) (c : Fin 16) (v : CmpSt) : (s.setCmp c v).cave = s.cave := by unfold State.setCmp; split <;> rfl
@[simp] theorem State.setCmp_health (s : State) (c : Fin 16) (v : CmpSt) : (s.setCmp c v).health = s.health := by unfold State.setCmp; split <;> rfl
@[simp] theorem State.setCmp_bat (s : State) (c : Fin 16) (v : CmpSt) : (s.setCmp c v).bat = s.bat := by unfold State.setCmp; split <;> rfl
@[simp] theorem State.setCmp_fus (s : State) (c : Fin 16) (v : CmpSt) : (s.setCmp c v).fus = s.fus := by unfold State.setCmp; split <;> rfl
@[simp] theorem State.setCmp_rind (s : State) (c : Fin 16) (v : CmpSt) : (s.setCmp c v).rind = s.rind := by unfold State.setCmp; split <;> rfl
@[simp] theorem State.setCmp_lock (s : State) (c : Fin 16) (v : CmpSt) : (s.setCmp c v).lock = s.lock := by unfold State.setCmp; split <;> rfl
@[simp] theorem State.setCmp_life (s : State) (c : Fin 16) (v : CmpSt) : (s.setCmp c v).life = s.life := by unfold State.setCmp; split <;> rfl
@[simp] theorem State.setCmp_otp (s : State) (c : Fin 16) (v : CmpSt) : (s.setCmp c v).otp = s.otp := by unfold State.setCmp; split <;> rfl
@[simp] theorem State.setCmp_store (s : State) (c : Fin 16) (v : CmpSt) : (s.setCmp c v).store = s.store := by unfold State.setCmp; split <;> rfl
@[simp] theorem State.setCmp_jtag (s : State) (c : Fin 16) (v : CmpSt) : (s.setCmp c v).jtag = s.jtag := by unfold State.setCmp; split <;> rfl
@[simp] theorem State.setCmp_copyLink (s : State) (c : Fin 16) (v : CmpSt) : (s.setCmp c v).copyLink = s.copyLink := by unfold State.setCmp; split <;> rfl
@[simp] theorem State.setCmp_copyDma (s : State) (c : Fin 16) (v : CmpSt) : (s.setCmp c v).copyDma = s.copyDma := by unfold State.setCmp; split <;> rfl
@[simp] theorem State.setCmp_busRead (s : State) (c : Fin 16) (v : CmpSt) : (s.setCmp c v).busRead = s.busRead := by unfold State.setCmp; split <;> rfl
@[simp] theorem State.setCmp_busError (s : State) (c : Fin 16) (v : CmpSt) : (s.setCmp c v).busError = s.busError := by unfold State.setCmp; split <;> rfl
@[simp] theorem State.setCmp_setAt (s : State) (c : Fin 16) (v : CmpSt) : (s.setCmp c v).setAt = s.setAt := by unfold State.setCmp; split <;> rfl
@[simp] theorem State.setCmp_setNow (s : State) (c : Fin 16) (v : CmpSt) : (s.setCmp c v).setNow = s.setNow := by unfold State.setCmp; split <;> rfl
@[simp] theorem State.setCmp_mirror (s : State) (c : Fin 16) (v : CmpSt) : (s.setCmp c v).mirror = s.mirror := by unfold State.setCmp; split <;> rfl

/-! #### setImu -/

@[simp] theorem State.setImu_now (s : State) (n : Fin 2) (m : ImuSt) : (s.setImu n m).now = s.now := rfl
@[simp] theorem State.setImu_lf (s : State) (n : Fin 2) (m : ImuSt) : (s.setImu n m).lf = s.lf := rfl
@[simp] theorem State.setImu_free (s : State) (n : Fin 2) (m : ImuSt) : (s.setImu n m).free = s.free := rfl
@[simp] theorem State.setImu_pending (s : State) (n : Fin 2) (m : ImuSt) : (s.setImu n m).pending = s.pending := rfl
@[simp] theorem State.setImu_regs (s : State) (n : Fin 2) (m : ImuSt) : (s.setImu n m).regs = s.regs := rfl
@[simp] theorem State.setImu_sram (s : State) (n : Fin 2) (m : ImuSt) : (s.setImu n m).sram = s.sram := rfl
@[simp] theorem State.setImu_sramGen (s : State) (n : Fin 2) (m : ImuSt) : (s.setImu n m).sramGen = s.sramGen := rfl
@[simp] theorem State.setImu_power (s : State) (n : Fin 2) (m : ImuSt) : (s.setImu n m).power = s.power := rfl
@[simp] theorem State.setImu_link (s : State) (n : Fin 2) (m : ImuSt) : (s.setImu n m).link = s.link := rfl
@[simp] theorem State.setImu_cfg (s : State) (n : Fin 2) (m : ImuSt) : (s.setImu n m).cfg = s.cfg := rfl
@[simp] theorem State.setImu_boot (s : State) (n : Fin 2) (m : ImuSt) : (s.setImu n m).boot = s.boot := rfl
@[simp] theorem State.setImu_tnowBase (s : State) (n : Fin 2) (m : ImuSt) : (s.setImu n m).tnowBase = s.tnowBase := rfl
@[simp] theorem State.setImu_wheels (s : State) (n : Fin 2) (m : ImuSt) : (s.setImu n m).wheels = s.wheels := rfl
@[simp] theorem State.setImu_phases (s : State) (n : Fin 2) (m : ImuSt) : (s.setImu n m).phases = s.phases := rfl
@[simp] theorem State.setImu_bias (s : State) (n : Fin 2) (m : ImuSt) : (s.setImu n m).bias = s.bias := rfl
@[simp] theorem State.setImu_snapAt (s : State) (n : Fin 2) (m : ImuSt) : (s.setImu n m).snapAt = s.snapAt := rfl
@[simp] theorem State.setImu_outs (s : State) (n : Fin 2) (m : ImuSt) : (s.setImu n m).outs = s.outs := rfl
@[simp] theorem State.setImu_timers (s : State) (n : Fin 2) (m : ImuSt) : (s.setImu n m).timers = s.timers := rfl
@[simp] theorem State.setImu_adcA (s : State) (n : Fin 2) (m : ImuSt) : (s.setImu n m).adcA = s.adcA := rfl
@[simp] theorem State.setImu_adcB (s : State) (n : Fin 2) (m : ImuSt) : (s.setImu n m).adcB = s.adcB := rfl
@[simp] theorem State.setImu_regA (s : State) (n : Fin 2) (m : ImuSt) : (s.setImu n m).regA = s.regA := rfl
@[simp] theorem State.setImu_injA (s : State) (n : Fin 2) (m : ImuSt) : (s.setImu n m).injA = s.injA := rfl
@[simp] theorem State.setImu_regB (s : State) (n : Fin 2) (m : ImuSt) : (s.setImu n m).regB = s.regB := rfl
@[simp] theorem State.setImu_injB (s : State) (n : Fin 2) (m : ImuSt) : (s.setImu n m).injB = s.injB := rfl
@[simp] theorem State.setImu_dma (s : State) (n : Fin 2) (m : ImuSt) : (s.setImu n m).dma = s.dma := rfl
@[simp] theorem State.setImu_nand (s : State) (n : Fin 2) (m : ImuSt) : (s.setImu n m).nand = s.nand := rfl
@[simp] theorem State.setImu_cave (s : State) (n : Fin 2) (m : ImuSt) : (s.setImu n m).cave = s.cave := rfl
@[simp] theorem State.setImu_health (s : State) (n : Fin 2) (m : ImuSt) : (s.setImu n m).health = s.health := rfl
@[simp] theorem State.setImu_bat (s : State) (n : Fin 2) (m : ImuSt) : (s.setImu n m).bat = s.bat := rfl
@[simp] theorem State.setImu_rind (s : State) (n : Fin 2) (m : ImuSt) : (s.setImu n m).rind = s.rind := rfl
@[simp] theorem State.setImu_lock (s : State) (n : Fin 2) (m : ImuSt) : (s.setImu n m).lock = s.lock := rfl
@[simp] theorem State.setImu_life (s : State) (n : Fin 2) (m : ImuSt) : (s.setImu n m).life = s.life := rfl
@[simp] theorem State.setImu_otp (s : State) (n : Fin 2) (m : ImuSt) : (s.setImu n m).otp = s.otp := rfl
@[simp] theorem State.setImu_store (s : State) (n : Fin 2) (m : ImuSt) : (s.setImu n m).store = s.store := rfl
@[simp] theorem State.setImu_jtag (s : State) (n : Fin 2) (m : ImuSt) : (s.setImu n m).jtag = s.jtag := rfl
@[simp] theorem State.setImu_copyLink (s : State) (n : Fin 2) (m : ImuSt) : (s.setImu n m).copyLink = s.copyLink := rfl
@[simp] theorem State.setImu_copyDma (s : State) (n : Fin 2) (m : ImuSt) : (s.setImu n m).copyDma = s.copyDma := rfl
@[simp] theorem State.setImu_busRead (s : State) (n : Fin 2) (m : ImuSt) : (s.setImu n m).busRead = s.busRead := rfl
@[simp] theorem State.setImu_busError (s : State) (n : Fin 2) (m : ImuSt) : (s.setImu n m).busError = s.busError := rfl
@[simp] theorem State.setImu_setAt (s : State) (n : Fin 2) (m : ImuSt) : (s.setImu n m).setAt = s.setAt := rfl
@[simp] theorem State.setImu_setNow (s : State) (n : Fin 2) (m : ImuSt) : (s.setImu n m).setNow = s.setNow := rfl
@[simp] theorem State.setImu_mirror (s : State) (n : Fin 2) (m : ImuSt) : (s.setImu n m).mirror = s.mirror := rfl

/-! #### setSlot -/

@[simp] theorem State.setSlot_now (s : State) (i : Fin 32) (v : FusSlot) : (s.setSlot i v).now = s.now := rfl
@[simp] theorem State.setSlot_lf (s : State) (i : Fin 32) (v : FusSlot) : (s.setSlot i v).lf = s.lf := rfl
@[simp] theorem State.setSlot_free (s : State) (i : Fin 32) (v : FusSlot) : (s.setSlot i v).free = s.free := rfl
@[simp] theorem State.setSlot_pending (s : State) (i : Fin 32) (v : FusSlot) : (s.setSlot i v).pending = s.pending := rfl
@[simp] theorem State.setSlot_regs (s : State) (i : Fin 32) (v : FusSlot) : (s.setSlot i v).regs = s.regs := rfl
@[simp] theorem State.setSlot_sram (s : State) (i : Fin 32) (v : FusSlot) : (s.setSlot i v).sram = s.sram := rfl
@[simp] theorem State.setSlot_sramGen (s : State) (i : Fin 32) (v : FusSlot) : (s.setSlot i v).sramGen = s.sramGen := rfl
@[simp] theorem State.setSlot_power (s : State) (i : Fin 32) (v : FusSlot) : (s.setSlot i v).power = s.power := rfl
@[simp] theorem State.setSlot_link (s : State) (i : Fin 32) (v : FusSlot) : (s.setSlot i v).link = s.link := rfl
@[simp] theorem State.setSlot_cfg (s : State) (i : Fin 32) (v : FusSlot) : (s.setSlot i v).cfg = s.cfg := rfl
@[simp] theorem State.setSlot_boot (s : State) (i : Fin 32) (v : FusSlot) : (s.setSlot i v).boot = s.boot := rfl
@[simp] theorem State.setSlot_tnowBase (s : State) (i : Fin 32) (v : FusSlot) : (s.setSlot i v).tnowBase = s.tnowBase := rfl
@[simp] theorem State.setSlot_wheels (s : State) (i : Fin 32) (v : FusSlot) : (s.setSlot i v).wheels = s.wheels := rfl
@[simp] theorem State.setSlot_phases (s : State) (i : Fin 32) (v : FusSlot) : (s.setSlot i v).phases = s.phases := rfl
@[simp] theorem State.setSlot_bias (s : State) (i : Fin 32) (v : FusSlot) : (s.setSlot i v).bias = s.bias := rfl
@[simp] theorem State.setSlot_snapAt (s : State) (i : Fin 32) (v : FusSlot) : (s.setSlot i v).snapAt = s.snapAt := rfl
@[simp] theorem State.setSlot_outs (s : State) (i : Fin 32) (v : FusSlot) : (s.setSlot i v).outs = s.outs := rfl
@[simp] theorem State.setSlot_timers (s : State) (i : Fin 32) (v : FusSlot) : (s.setSlot i v).timers = s.timers := rfl
@[simp] theorem State.setSlot_adcA (s : State) (i : Fin 32) (v : FusSlot) : (s.setSlot i v).adcA = s.adcA := rfl
@[simp] theorem State.setSlot_adcB (s : State) (i : Fin 32) (v : FusSlot) : (s.setSlot i v).adcB = s.adcB := rfl
@[simp] theorem State.setSlot_regA (s : State) (i : Fin 32) (v : FusSlot) : (s.setSlot i v).regA = s.regA := rfl
@[simp] theorem State.setSlot_injA (s : State) (i : Fin 32) (v : FusSlot) : (s.setSlot i v).injA = s.injA := rfl
@[simp] theorem State.setSlot_regB (s : State) (i : Fin 32) (v : FusSlot) : (s.setSlot i v).regB = s.regB := rfl
@[simp] theorem State.setSlot_injB (s : State) (i : Fin 32) (v : FusSlot) : (s.setSlot i v).injB = s.injB := rfl
@[simp] theorem State.setSlot_dma (s : State) (i : Fin 32) (v : FusSlot) : (s.setSlot i v).dma = s.dma := rfl
@[simp] theorem State.setSlot_nand (s : State) (i : Fin 32) (v : FusSlot) : (s.setSlot i v).nand = s.nand := rfl
@[simp] theorem State.setSlot_cave (s : State) (i : Fin 32) (v : FusSlot) : (s.setSlot i v).cave = s.cave := rfl
@[simp] theorem State.setSlot_health (s : State) (i : Fin 32) (v : FusSlot) : (s.setSlot i v).health = s.health := rfl
@[simp] theorem State.setSlot_bat (s : State) (i : Fin 32) (v : FusSlot) : (s.setSlot i v).bat = s.bat := rfl
@[simp] theorem State.setSlot_rind (s : State) (i : Fin 32) (v : FusSlot) : (s.setSlot i v).rind = s.rind := rfl
@[simp] theorem State.setSlot_lock (s : State) (i : Fin 32) (v : FusSlot) : (s.setSlot i v).lock = s.lock := rfl
@[simp] theorem State.setSlot_life (s : State) (i : Fin 32) (v : FusSlot) : (s.setSlot i v).life = s.life := rfl
@[simp] theorem State.setSlot_otp (s : State) (i : Fin 32) (v : FusSlot) : (s.setSlot i v).otp = s.otp := rfl
@[simp] theorem State.setSlot_store (s : State) (i : Fin 32) (v : FusSlot) : (s.setSlot i v).store = s.store := rfl
@[simp] theorem State.setSlot_jtag (s : State) (i : Fin 32) (v : FusSlot) : (s.setSlot i v).jtag = s.jtag := rfl
@[simp] theorem State.setSlot_copyLink (s : State) (i : Fin 32) (v : FusSlot) : (s.setSlot i v).copyLink = s.copyLink := rfl
@[simp] theorem State.setSlot_copyDma (s : State) (i : Fin 32) (v : FusSlot) : (s.setSlot i v).copyDma = s.copyDma := rfl
@[simp] theorem State.setSlot_busRead (s : State) (i : Fin 32) (v : FusSlot) : (s.setSlot i v).busRead = s.busRead := rfl
@[simp] theorem State.setSlot_busError (s : State) (i : Fin 32) (v : FusSlot) : (s.setSlot i v).busError = s.busError := rfl
@[simp] theorem State.setSlot_setAt (s : State) (i : Fin 32) (v : FusSlot) : (s.setSlot i v).setAt = s.setAt := rfl
@[simp] theorem State.setSlot_setNow (s : State) (i : Fin 32) (v : FusSlot) : (s.setSlot i v).setNow = s.setNow := rfl
@[simp] theorem State.setSlot_mirror (s : State) (i : Fin 32) (v : FusSlot) : (s.setSlot i v).mirror = s.mirror := rfl

/-! #### setRindIn -/

@[simp] theorem State.setRindIn_now (s : State) (i : Fin 6) (l : InLevel) : (s.setRindIn i l).now = s.now := by unfold State.setRindIn; dsimp only; split <;> rfl
@[simp] theorem State.setRindIn_lf (s : State) (i : Fin 6) (l : InLevel) : (s.setRindIn i l).lf = s.lf := by unfold State.setRindIn; dsimp only; split <;> rfl
@[simp] theorem State.setRindIn_free (s : State) (i : Fin 6) (l : InLevel) : (s.setRindIn i l).free = s.free := by unfold State.setRindIn; dsimp only; split <;> rfl
@[simp] theorem State.setRindIn_pending (s : State) (i : Fin 6) (l : InLevel) : (s.setRindIn i l).pending = s.pending := by unfold State.setRindIn; dsimp only; split <;> rfl
@[simp] theorem State.setRindIn_regs (s : State) (i : Fin 6) (l : InLevel) : (s.setRindIn i l).regs = s.regs := by unfold State.setRindIn; dsimp only; split <;> rfl
@[simp] theorem State.setRindIn_sram (s : State) (i : Fin 6) (l : InLevel) : (s.setRindIn i l).sram = s.sram := by unfold State.setRindIn; dsimp only; split <;> rfl
@[simp] theorem State.setRindIn_sramGen (s : State) (i : Fin 6) (l : InLevel) : (s.setRindIn i l).sramGen = s.sramGen := by unfold State.setRindIn; dsimp only; split <;> rfl
@[simp] theorem State.setRindIn_power (s : State) (i : Fin 6) (l : InLevel) : (s.setRindIn i l).power = s.power := by unfold State.setRindIn; dsimp only; split <;> rfl
@[simp] theorem State.setRindIn_link (s : State) (i : Fin 6) (l : InLevel) : (s.setRindIn i l).link = s.link := by unfold State.setRindIn; dsimp only; split <;> rfl
@[simp] theorem State.setRindIn_cfg (s : State) (i : Fin 6) (l : InLevel) : (s.setRindIn i l).cfg = s.cfg := by unfold State.setRindIn; dsimp only; split <;> rfl
@[simp] theorem State.setRindIn_boot (s : State) (i : Fin 6) (l : InLevel) : (s.setRindIn i l).boot = s.boot := by unfold State.setRindIn; dsimp only; split <;> rfl
@[simp] theorem State.setRindIn_tnowBase (s : State) (i : Fin 6) (l : InLevel) : (s.setRindIn i l).tnowBase = s.tnowBase := by unfold State.setRindIn; dsimp only; split <;> rfl
@[simp] theorem State.setRindIn_wheels (s : State) (i : Fin 6) (l : InLevel) : (s.setRindIn i l).wheels = s.wheels := by unfold State.setRindIn; dsimp only; split <;> rfl
@[simp] theorem State.setRindIn_phases (s : State) (i : Fin 6) (l : InLevel) : (s.setRindIn i l).phases = s.phases := by unfold State.setRindIn; dsimp only; split <;> rfl
@[simp] theorem State.setRindIn_bias (s : State) (i : Fin 6) (l : InLevel) : (s.setRindIn i l).bias = s.bias := by unfold State.setRindIn; dsimp only; split <;> rfl
@[simp] theorem State.setRindIn_snapAt (s : State) (i : Fin 6) (l : InLevel) : (s.setRindIn i l).snapAt = s.snapAt := by unfold State.setRindIn; dsimp only; split <;> rfl
@[simp] theorem State.setRindIn_outs (s : State) (i : Fin 6) (l : InLevel) : (s.setRindIn i l).outs = s.outs := by unfold State.setRindIn; dsimp only; split <;> rfl
@[simp] theorem State.setRindIn_timers (s : State) (i : Fin 6) (l : InLevel) : (s.setRindIn i l).timers = s.timers := by unfold State.setRindIn; dsimp only; split <;> rfl
@[simp] theorem State.setRindIn_adcA (s : State) (i : Fin 6) (l : InLevel) : (s.setRindIn i l).adcA = s.adcA := by unfold State.setRindIn; dsimp only; split <;> rfl
@[simp] theorem State.setRindIn_adcB (s : State) (i : Fin 6) (l : InLevel) : (s.setRindIn i l).adcB = s.adcB := by unfold State.setRindIn; dsimp only; split <;> rfl
@[simp] theorem State.setRindIn_regA (s : State) (i : Fin 6) (l : InLevel) : (s.setRindIn i l).regA = s.regA := by unfold State.setRindIn; dsimp only; split <;> rfl
@[simp] theorem State.setRindIn_injA (s : State) (i : Fin 6) (l : InLevel) : (s.setRindIn i l).injA = s.injA := by unfold State.setRindIn; dsimp only; split <;> rfl
@[simp] theorem State.setRindIn_regB (s : State) (i : Fin 6) (l : InLevel) : (s.setRindIn i l).regB = s.regB := by unfold State.setRindIn; dsimp only; split <;> rfl
@[simp] theorem State.setRindIn_injB (s : State) (i : Fin 6) (l : InLevel) : (s.setRindIn i l).injB = s.injB := by unfold State.setRindIn; dsimp only; split <;> rfl
@[simp] theorem State.setRindIn_dma (s : State) (i : Fin 6) (l : InLevel) : (s.setRindIn i l).dma = s.dma := by unfold State.setRindIn; dsimp only; split <;> rfl
@[simp] theorem State.setRindIn_nand (s : State) (i : Fin 6) (l : InLevel) : (s.setRindIn i l).nand = s.nand := by unfold State.setRindIn; dsimp only; split <;> rfl
@[simp] theorem State.setRindIn_cave (s : State) (i : Fin 6) (l : InLevel) : (s.setRindIn i l).cave = s.cave := by unfold State.setRindIn; dsimp only; split <;> rfl
@[simp] theorem State.setRindIn_health (s : State) (i : Fin 6) (l : InLevel) : (s.setRindIn i l).health = s.health := by unfold State.setRindIn; dsimp only; split <;> rfl
@[simp] theorem State.setRindIn_fus (s : State) (i : Fin 6) (l : InLevel) : (s.setRindIn i l).fus = s.fus := by unfold State.setRindIn; dsimp only; split <;> rfl
@[simp] theorem State.setRindIn_lock (s : State) (i : Fin 6) (l : InLevel) : (s.setRindIn i l).lock = s.lock := by unfold State.setRindIn; dsimp only; split <;> rfl
@[simp] theorem State.setRindIn_life (s : State) (i : Fin 6) (l : InLevel) : (s.setRindIn i l).life = s.life := by unfold State.setRindIn; dsimp only; split <;> rfl
@[simp] theorem State.setRindIn_otp (s : State) (i : Fin 6) (l : InLevel) : (s.setRindIn i l).otp = s.otp := by unfold State.setRindIn; dsimp only; split <;> rfl
@[simp] theorem State.setRindIn_store (s : State) (i : Fin 6) (l : InLevel) : (s.setRindIn i l).store = s.store := by unfold State.setRindIn; dsimp only; split <;> rfl
@[simp] theorem State.setRindIn_jtag (s : State) (i : Fin 6) (l : InLevel) : (s.setRindIn i l).jtag = s.jtag := by unfold State.setRindIn; dsimp only; split <;> rfl
@[simp] theorem State.setRindIn_copyLink (s : State) (i : Fin 6) (l : InLevel) : (s.setRindIn i l).copyLink = s.copyLink := by unfold State.setRindIn; dsimp only; split <;> rfl
@[simp] theorem State.setRindIn_copyDma (s : State) (i : Fin 6) (l : InLevel) : (s.setRindIn i l).copyDma = s.copyDma := by unfold State.setRindIn; dsimp only; split <;> rfl
@[simp] theorem State.setRindIn_busRead (s : State) (i : Fin 6) (l : InLevel) : (s.setRindIn i l).busRead = s.busRead := by unfold State.setRindIn; dsimp only; split <;> rfl
@[simp] theorem State.setRindIn_busError (s : State) (i : Fin 6) (l : InLevel) : (s.setRindIn i l).busError = s.busError := by unfold State.setRindIn; dsimp only; split <;> rfl
@[simp] theorem State.setRindIn_setAt (s : State) (i : Fin 6) (l : InLevel) : (s.setRindIn i l).setAt = s.setAt := by unfold State.setRindIn; dsimp only; split <;> rfl
@[simp] theorem State.setRindIn_setNow (s : State) (i : Fin 6) (l : InLevel) : (s.setRindIn i l).setNow = s.setNow := by unfold State.setRindIn; dsimp only; split <;> rfl
@[simp] theorem State.setRindIn_mirror (s : State) (i : Fin 6) (l : InLevel) : (s.setRindIn i l).mirror = s.mirror := by unfold State.setRindIn; dsimp only; split <;> rfl

/-! #### setRule -/

@[simp] theorem State.setRule_now (s : State) (k : Fin 16) (v : RuleSt) : (s.setRule k v).now = s.now := rfl
@[simp] theorem State.setRule_lf (s : State) (k : Fin 16) (v : RuleSt) : (s.setRule k v).lf = s.lf := rfl
@[simp] theorem State.setRule_free (s : State) (k : Fin 16) (v : RuleSt) : (s.setRule k v).free = s.free := rfl
@[simp] theorem State.setRule_pending (s : State) (k : Fin 16) (v : RuleSt) : (s.setRule k v).pending = s.pending := rfl
@[simp] theorem State.setRule_regs (s : State) (k : Fin 16) (v : RuleSt) : (s.setRule k v).regs = s.regs := rfl
@[simp] theorem State.setRule_sram (s : State) (k : Fin 16) (v : RuleSt) : (s.setRule k v).sram = s.sram := rfl
@[simp] theorem State.setRule_sramGen (s : State) (k : Fin 16) (v : RuleSt) : (s.setRule k v).sramGen = s.sramGen := rfl
@[simp] theorem State.setRule_power (s : State) (k : Fin 16) (v : RuleSt) : (s.setRule k v).power = s.power := rfl
@[simp] theorem State.setRule_link (s : State) (k : Fin 16) (v : RuleSt) : (s.setRule k v).link = s.link := rfl
@[simp] theorem State.setRule_cfg (s : State) (k : Fin 16) (v : RuleSt) : (s.setRule k v).cfg = s.cfg := rfl
@[simp] theorem State.setRule_boot (s : State) (k : Fin 16) (v : RuleSt) : (s.setRule k v).boot = s.boot := rfl
@[simp] theorem State.setRule_tnowBase (s : State) (k : Fin 16) (v : RuleSt) : (s.setRule k v).tnowBase = s.tnowBase := rfl
@[simp] theorem State.setRule_wheels (s : State) (k : Fin 16) (v : RuleSt) : (s.setRule k v).wheels = s.wheels := rfl
@[simp] theorem State.setRule_phases (s : State) (k : Fin 16) (v : RuleSt) : (s.setRule k v).phases = s.phases := rfl
@[simp] theorem State.setRule_bias (s : State) (k : Fin 16) (v : RuleSt) : (s.setRule k v).bias = s.bias := rfl
@[simp] theorem State.setRule_snapAt (s : State) (k : Fin 16) (v : RuleSt) : (s.setRule k v).snapAt = s.snapAt := rfl
@[simp] theorem State.setRule_outs (s : State) (k : Fin 16) (v : RuleSt) : (s.setRule k v).outs = s.outs := rfl
@[simp] theorem State.setRule_timers (s : State) (k : Fin 16) (v : RuleSt) : (s.setRule k v).timers = s.timers := rfl
@[simp] theorem State.setRule_adcA (s : State) (k : Fin 16) (v : RuleSt) : (s.setRule k v).adcA = s.adcA := rfl
@[simp] theorem State.setRule_adcB (s : State) (k : Fin 16) (v : RuleSt) : (s.setRule k v).adcB = s.adcB := rfl
@[simp] theorem State.setRule_regA (s : State) (k : Fin 16) (v : RuleSt) : (s.setRule k v).regA = s.regA := rfl
@[simp] theorem State.setRule_injA (s : State) (k : Fin 16) (v : RuleSt) : (s.setRule k v).injA = s.injA := rfl
@[simp] theorem State.setRule_regB (s : State) (k : Fin 16) (v : RuleSt) : (s.setRule k v).regB = s.regB := rfl
@[simp] theorem State.setRule_injB (s : State) (k : Fin 16) (v : RuleSt) : (s.setRule k v).injB = s.injB := rfl
@[simp] theorem State.setRule_dma (s : State) (k : Fin 16) (v : RuleSt) : (s.setRule k v).dma = s.dma := rfl
@[simp] theorem State.setRule_nand (s : State) (k : Fin 16) (v : RuleSt) : (s.setRule k v).nand = s.nand := rfl
@[simp] theorem State.setRule_cave (s : State) (k : Fin 16) (v : RuleSt) : (s.setRule k v).cave = s.cave := rfl
@[simp] theorem State.setRule_health (s : State) (k : Fin 16) (v : RuleSt) : (s.setRule k v).health = s.health := rfl
@[simp] theorem State.setRule_bat (s : State) (k : Fin 16) (v : RuleSt) : (s.setRule k v).bat = s.bat := rfl
@[simp] theorem State.setRule_fus (s : State) (k : Fin 16) (v : RuleSt) : (s.setRule k v).fus = s.fus := rfl
@[simp] theorem State.setRule_lock (s : State) (k : Fin 16) (v : RuleSt) : (s.setRule k v).lock = s.lock := rfl
@[simp] theorem State.setRule_life (s : State) (k : Fin 16) (v : RuleSt) : (s.setRule k v).life = s.life := rfl
@[simp] theorem State.setRule_otp (s : State) (k : Fin 16) (v : RuleSt) : (s.setRule k v).otp = s.otp := rfl
@[simp] theorem State.setRule_store (s : State) (k : Fin 16) (v : RuleSt) : (s.setRule k v).store = s.store := rfl
@[simp] theorem State.setRule_jtag (s : State) (k : Fin 16) (v : RuleSt) : (s.setRule k v).jtag = s.jtag := rfl
@[simp] theorem State.setRule_copyLink (s : State) (k : Fin 16) (v : RuleSt) : (s.setRule k v).copyLink = s.copyLink := rfl
@[simp] theorem State.setRule_copyDma (s : State) (k : Fin 16) (v : RuleSt) : (s.setRule k v).copyDma = s.copyDma := rfl
@[simp] theorem State.setRule_busRead (s : State) (k : Fin 16) (v : RuleSt) : (s.setRule k v).busRead = s.busRead := rfl
@[simp] theorem State.setRule_busError (s : State) (k : Fin 16) (v : RuleSt) : (s.setRule k v).busError = s.busError := rfl
@[simp] theorem State.setRule_setAt (s : State) (k : Fin 16) (v : RuleSt) : (s.setRule k v).setAt = s.setAt := rfl
@[simp] theorem State.setRule_setNow (s : State) (k : Fin 16) (v : RuleSt) : (s.setRule k v).setNow = s.setNow := rfl
@[simp] theorem State.setRule_mirror (s : State) (k : Fin 16) (v : RuleSt) : (s.setRule k v).mirror = s.mirror := rfl

/-! #### setResult -/

@[simp] theorem State.setResult_now (s : State) (code : Nat) : (s.setResult code).now = s.now := rfl
@[simp] theorem State.setResult_lf (s : State) (code : Nat) : (s.setResult code).lf = s.lf := rfl
@[simp] theorem State.setResult_free (s : State) (code : Nat) : (s.setResult code).free = s.free := rfl
@[simp] theorem State.setResult_pending (s : State) (code : Nat) : (s.setResult code).pending = s.pending := rfl
@[simp] theorem State.setResult_regs (s : State) (code : Nat) : (s.setResult code).regs = s.regs := rfl
@[simp] theorem State.setResult_sram (s : State) (code : Nat) : (s.setResult code).sram = s.sram := rfl
@[simp] theorem State.setResult_sramGen (s : State) (code : Nat) : (s.setResult code).sramGen = s.sramGen := rfl
@[simp] theorem State.setResult_link (s : State) (code : Nat) : (s.setResult code).link = s.link := rfl
@[simp] theorem State.setResult_cfg (s : State) (code : Nat) : (s.setResult code).cfg = s.cfg := rfl
@[simp] theorem State.setResult_boot (s : State) (code : Nat) : (s.setResult code).boot = s.boot := rfl
@[simp] theorem State.setResult_tnowBase (s : State) (code : Nat) : (s.setResult code).tnowBase = s.tnowBase := rfl
@[simp] theorem State.setResult_wheels (s : State) (code : Nat) : (s.setResult code).wheels = s.wheels := rfl
@[simp] theorem State.setResult_phases (s : State) (code : Nat) : (s.setResult code).phases = s.phases := rfl
@[simp] theorem State.setResult_bias (s : State) (code : Nat) : (s.setResult code).bias = s.bias := rfl
@[simp] theorem State.setResult_snapAt (s : State) (code : Nat) : (s.setResult code).snapAt = s.snapAt := rfl
@[simp] theorem State.setResult_outs (s : State) (code : Nat) : (s.setResult code).outs = s.outs := rfl
@[simp] theorem State.setResult_timers (s : State) (code : Nat) : (s.setResult code).timers = s.timers := rfl
@[simp] theorem State.setResult_adcA (s : State) (code : Nat) : (s.setResult code).adcA = s.adcA := rfl
@[simp] theorem State.setResult_adcB (s : State) (code : Nat) : (s.setResult code).adcB = s.adcB := rfl
@[simp] theorem State.setResult_regA (s : State) (code : Nat) : (s.setResult code).regA = s.regA := rfl
@[simp] theorem State.setResult_injA (s : State) (code : Nat) : (s.setResult code).injA = s.injA := rfl
@[simp] theorem State.setResult_regB (s : State) (code : Nat) : (s.setResult code).regB = s.regB := rfl
@[simp] theorem State.setResult_injB (s : State) (code : Nat) : (s.setResult code).injB = s.injB := rfl
@[simp] theorem State.setResult_dma (s : State) (code : Nat) : (s.setResult code).dma = s.dma := rfl
@[simp] theorem State.setResult_nand (s : State) (code : Nat) : (s.setResult code).nand = s.nand := rfl
@[simp] theorem State.setResult_cave (s : State) (code : Nat) : (s.setResult code).cave = s.cave := rfl
@[simp] theorem State.setResult_health (s : State) (code : Nat) : (s.setResult code).health = s.health := rfl
@[simp] theorem State.setResult_bat (s : State) (code : Nat) : (s.setResult code).bat = s.bat := rfl
@[simp] theorem State.setResult_fus (s : State) (code : Nat) : (s.setResult code).fus = s.fus := rfl
@[simp] theorem State.setResult_rind (s : State) (code : Nat) : (s.setResult code).rind = s.rind := rfl
@[simp] theorem State.setResult_lock (s : State) (code : Nat) : (s.setResult code).lock = s.lock := rfl
@[simp] theorem State.setResult_life (s : State) (code : Nat) : (s.setResult code).life = s.life := rfl
@[simp] theorem State.setResult_otp (s : State) (code : Nat) : (s.setResult code).otp = s.otp := rfl
@[simp] theorem State.setResult_store (s : State) (code : Nat) : (s.setResult code).store = s.store := rfl
@[simp] theorem State.setResult_jtag (s : State) (code : Nat) : (s.setResult code).jtag = s.jtag := rfl
@[simp] theorem State.setResult_copyLink (s : State) (code : Nat) : (s.setResult code).copyLink = s.copyLink := rfl
@[simp] theorem State.setResult_copyDma (s : State) (code : Nat) : (s.setResult code).copyDma = s.copyDma := rfl
@[simp] theorem State.setResult_busRead (s : State) (code : Nat) : (s.setResult code).busRead = s.busRead := rfl
@[simp] theorem State.setResult_busError (s : State) (code : Nat) : (s.setResult code).busError = s.busError := rfl
@[simp] theorem State.setResult_setAt (s : State) (code : Nat) : (s.setResult code).setAt = s.setAt := rfl
@[simp] theorem State.setResult_setNow (s : State) (code : Nat) : (s.setResult code).setNow = s.setNow := rfl
@[simp] theorem State.setResult_mirror (s : State) (code : Nat) : (s.setResult code).mirror = s.mirror := rfl

/-! #### setEntry -/

@[simp] theorem State.setEntry_now (s : State) (e : Option Entry) : (s.setEntry e).now = s.now := rfl
@[simp] theorem State.setEntry_lf (s : State) (e : Option Entry) : (s.setEntry e).lf = s.lf := rfl
@[simp] theorem State.setEntry_free (s : State) (e : Option Entry) : (s.setEntry e).free = s.free := rfl
@[simp] theorem State.setEntry_pending (s : State) (e : Option Entry) : (s.setEntry e).pending = s.pending := rfl
@[simp] theorem State.setEntry_regs (s : State) (e : Option Entry) : (s.setEntry e).regs = s.regs := rfl
@[simp] theorem State.setEntry_sram (s : State) (e : Option Entry) : (s.setEntry e).sram = s.sram := rfl
@[simp] theorem State.setEntry_sramGen (s : State) (e : Option Entry) : (s.setEntry e).sramGen = s.sramGen := rfl
@[simp] theorem State.setEntry_link (s : State) (e : Option Entry) : (s.setEntry e).link = s.link := rfl
@[simp] theorem State.setEntry_cfg (s : State) (e : Option Entry) : (s.setEntry e).cfg = s.cfg := rfl
@[simp] theorem State.setEntry_boot (s : State) (e : Option Entry) : (s.setEntry e).boot = s.boot := rfl
@[simp] theorem State.setEntry_tnowBase (s : State) (e : Option Entry) : (s.setEntry e).tnowBase = s.tnowBase := rfl
@[simp] theorem State.setEntry_wheels (s : State) (e : Option Entry) : (s.setEntry e).wheels = s.wheels := rfl
@[simp] theorem State.setEntry_phases (s : State) (e : Option Entry) : (s.setEntry e).phases = s.phases := rfl
@[simp] theorem State.setEntry_bias (s : State) (e : Option Entry) : (s.setEntry e).bias = s.bias := rfl
@[simp] theorem State.setEntry_snapAt (s : State) (e : Option Entry) : (s.setEntry e).snapAt = s.snapAt := rfl
@[simp] theorem State.setEntry_outs (s : State) (e : Option Entry) : (s.setEntry e).outs = s.outs := rfl
@[simp] theorem State.setEntry_timers (s : State) (e : Option Entry) : (s.setEntry e).timers = s.timers := rfl
@[simp] theorem State.setEntry_adcA (s : State) (e : Option Entry) : (s.setEntry e).adcA = s.adcA := rfl
@[simp] theorem State.setEntry_adcB (s : State) (e : Option Entry) : (s.setEntry e).adcB = s.adcB := rfl
@[simp] theorem State.setEntry_regA (s : State) (e : Option Entry) : (s.setEntry e).regA = s.regA := rfl
@[simp] theorem State.setEntry_injA (s : State) (e : Option Entry) : (s.setEntry e).injA = s.injA := rfl
@[simp] theorem State.setEntry_regB (s : State) (e : Option Entry) : (s.setEntry e).regB = s.regB := rfl
@[simp] theorem State.setEntry_injB (s : State) (e : Option Entry) : (s.setEntry e).injB = s.injB := rfl
@[simp] theorem State.setEntry_dma (s : State) (e : Option Entry) : (s.setEntry e).dma = s.dma := rfl
@[simp] theorem State.setEntry_nand (s : State) (e : Option Entry) : (s.setEntry e).nand = s.nand := rfl
@[simp] theorem State.setEntry_cave (s : State) (e : Option Entry) : (s.setEntry e).cave = s.cave := rfl
@[simp] theorem State.setEntry_health (s : State) (e : Option Entry) : (s.setEntry e).health = s.health := rfl
@[simp] theorem State.setEntry_bat (s : State) (e : Option Entry) : (s.setEntry e).bat = s.bat := rfl
@[simp] theorem State.setEntry_fus (s : State) (e : Option Entry) : (s.setEntry e).fus = s.fus := rfl
@[simp] theorem State.setEntry_rind (s : State) (e : Option Entry) : (s.setEntry e).rind = s.rind := rfl
@[simp] theorem State.setEntry_lock (s : State) (e : Option Entry) : (s.setEntry e).lock = s.lock := rfl
@[simp] theorem State.setEntry_life (s : State) (e : Option Entry) : (s.setEntry e).life = s.life := rfl
@[simp] theorem State.setEntry_otp (s : State) (e : Option Entry) : (s.setEntry e).otp = s.otp := rfl
@[simp] theorem State.setEntry_store (s : State) (e : Option Entry) : (s.setEntry e).store = s.store := rfl
@[simp] theorem State.setEntry_jtag (s : State) (e : Option Entry) : (s.setEntry e).jtag = s.jtag := rfl
@[simp] theorem State.setEntry_copyLink (s : State) (e : Option Entry) : (s.setEntry e).copyLink = s.copyLink := rfl
@[simp] theorem State.setEntry_copyDma (s : State) (e : Option Entry) : (s.setEntry e).copyDma = s.copyDma := rfl
@[simp] theorem State.setEntry_busRead (s : State) (e : Option Entry) : (s.setEntry e).busRead = s.busRead := rfl
@[simp] theorem State.setEntry_busError (s : State) (e : Option Entry) : (s.setEntry e).busError = s.busError := rfl
@[simp] theorem State.setEntry_setAt (s : State) (e : Option Entry) : (s.setEntry e).setAt = s.setAt := rfl
@[simp] theorem State.setEntry_setNow (s : State) (e : Option Entry) : (s.setEntry e).setNow = s.setNow := rfl
@[simp] theorem State.setEntry_mirror (s : State) (e : Option Entry) : (s.setEntry e).mirror = s.mirror := rfl

/-! #### setLfQueue -/

@[simp] theorem State.setLfQueue_now (s : State) (b : LfBlock) (l : List LfWrite) : (s.setLfQueue b l).now = s.now := by cases b <;> rfl
@[simp] theorem State.setLfQueue_lf (s : State) (b : LfBlock) (l : List LfWrite) : (s.setLfQueue b l).lf = s.lf := by cases b <;> rfl
@[simp] theorem State.setLfQueue_free (s : State) (b : LfBlock) (l : List LfWrite) : (s.setLfQueue b l).free = s.free := by cases b <;> rfl
@[simp] theorem State.setLfQueue_pending (s : State) (b : LfBlock) (l : List LfWrite) : (s.setLfQueue b l).pending = s.pending := by cases b <;> rfl
@[simp] theorem State.setLfQueue_regs (s : State) (b : LfBlock) (l : List LfWrite) : (s.setLfQueue b l).regs = s.regs := by cases b <;> rfl
@[simp] theorem State.setLfQueue_sram (s : State) (b : LfBlock) (l : List LfWrite) : (s.setLfQueue b l).sram = s.sram := by cases b <;> rfl
@[simp] theorem State.setLfQueue_sramGen (s : State) (b : LfBlock) (l : List LfWrite) : (s.setLfQueue b l).sramGen = s.sramGen := by cases b <;> rfl
@[simp] theorem State.setLfQueue_link (s : State) (b : LfBlock) (l : List LfWrite) : (s.setLfQueue b l).link = s.link := by cases b <;> rfl
@[simp] theorem State.setLfQueue_cfg (s : State) (b : LfBlock) (l : List LfWrite) : (s.setLfQueue b l).cfg = s.cfg := by cases b <;> rfl
@[simp] theorem State.setLfQueue_boot (s : State) (b : LfBlock) (l : List LfWrite) : (s.setLfQueue b l).boot = s.boot := by cases b <;> rfl
@[simp] theorem State.setLfQueue_tnowBase (s : State) (b : LfBlock) (l : List LfWrite) : (s.setLfQueue b l).tnowBase = s.tnowBase := by cases b <;> rfl
@[simp] theorem State.setLfQueue_wheels (s : State) (b : LfBlock) (l : List LfWrite) : (s.setLfQueue b l).wheels = s.wheels := by cases b <;> rfl
@[simp] theorem State.setLfQueue_phases (s : State) (b : LfBlock) (l : List LfWrite) : (s.setLfQueue b l).phases = s.phases := by cases b <;> rfl
@[simp] theorem State.setLfQueue_bias (s : State) (b : LfBlock) (l : List LfWrite) : (s.setLfQueue b l).bias = s.bias := by cases b <;> rfl
@[simp] theorem State.setLfQueue_snapAt (s : State) (b : LfBlock) (l : List LfWrite) : (s.setLfQueue b l).snapAt = s.snapAt := by cases b <;> rfl
@[simp] theorem State.setLfQueue_outs (s : State) (b : LfBlock) (l : List LfWrite) : (s.setLfQueue b l).outs = s.outs := by cases b <;> rfl
@[simp] theorem State.setLfQueue_timers (s : State) (b : LfBlock) (l : List LfWrite) : (s.setLfQueue b l).timers = s.timers := by cases b <;> rfl
@[simp] theorem State.setLfQueue_adcA (s : State) (b : LfBlock) (l : List LfWrite) : (s.setLfQueue b l).adcA = s.adcA := by cases b <;> rfl
@[simp] theorem State.setLfQueue_adcB (s : State) (b : LfBlock) (l : List LfWrite) : (s.setLfQueue b l).adcB = s.adcB := by cases b <;> rfl
@[simp] theorem State.setLfQueue_regA (s : State) (b : LfBlock) (l : List LfWrite) : (s.setLfQueue b l).regA = s.regA := by cases b <;> rfl
@[simp] theorem State.setLfQueue_injA (s : State) (b : LfBlock) (l : List LfWrite) : (s.setLfQueue b l).injA = s.injA := by cases b <;> rfl
@[simp] theorem State.setLfQueue_regB (s : State) (b : LfBlock) (l : List LfWrite) : (s.setLfQueue b l).regB = s.regB := by cases b <;> rfl
@[simp] theorem State.setLfQueue_injB (s : State) (b : LfBlock) (l : List LfWrite) : (s.setLfQueue b l).injB = s.injB := by cases b <;> rfl
@[simp] theorem State.setLfQueue_dma (s : State) (b : LfBlock) (l : List LfWrite) : (s.setLfQueue b l).dma = s.dma := by cases b <;> rfl
@[simp] theorem State.setLfQueue_nand (s : State) (b : LfBlock) (l : List LfWrite) : (s.setLfQueue b l).nand = s.nand := by cases b <;> rfl
@[simp] theorem State.setLfQueue_cave (s : State) (b : LfBlock) (l : List LfWrite) : (s.setLfQueue b l).cave = s.cave := by cases b <;> rfl
@[simp] theorem State.setLfQueue_health (s : State) (b : LfBlock) (l : List LfWrite) : (s.setLfQueue b l).health = s.health := by cases b <;> rfl
@[simp] theorem State.setLfQueue_bat (s : State) (b : LfBlock) (l : List LfWrite) : (s.setLfQueue b l).bat = s.bat := by cases b <;> rfl
@[simp] theorem State.setLfQueue_fus (s : State) (b : LfBlock) (l : List LfWrite) : (s.setLfQueue b l).fus = s.fus := by cases b <;> rfl
@[simp] theorem State.setLfQueue_rind (s : State) (b : LfBlock) (l : List LfWrite) : (s.setLfQueue b l).rind = s.rind := by cases b <;> rfl
@[simp] theorem State.setLfQueue_lock (s : State) (b : LfBlock) (l : List LfWrite) : (s.setLfQueue b l).lock = s.lock := by cases b <;> rfl
@[simp] theorem State.setLfQueue_life (s : State) (b : LfBlock) (l : List LfWrite) : (s.setLfQueue b l).life = s.life := by cases b <;> rfl
@[simp] theorem State.setLfQueue_otp (s : State) (b : LfBlock) (l : List LfWrite) : (s.setLfQueue b l).otp = s.otp := by cases b <;> rfl
@[simp] theorem State.setLfQueue_store (s : State) (b : LfBlock) (l : List LfWrite) : (s.setLfQueue b l).store = s.store := by cases b <;> rfl
@[simp] theorem State.setLfQueue_jtag (s : State) (b : LfBlock) (l : List LfWrite) : (s.setLfQueue b l).jtag = s.jtag := by cases b <;> rfl
@[simp] theorem State.setLfQueue_copyLink (s : State) (b : LfBlock) (l : List LfWrite) : (s.setLfQueue b l).copyLink = s.copyLink := by cases b <;> rfl
@[simp] theorem State.setLfQueue_copyDma (s : State) (b : LfBlock) (l : List LfWrite) : (s.setLfQueue b l).copyDma = s.copyDma := by cases b <;> rfl
@[simp] theorem State.setLfQueue_busRead (s : State) (b : LfBlock) (l : List LfWrite) : (s.setLfQueue b l).busRead = s.busRead := by cases b <;> rfl
@[simp] theorem State.setLfQueue_busError (s : State) (b : LfBlock) (l : List LfWrite) : (s.setLfQueue b l).busError = s.busError := by cases b <;> rfl
@[simp] theorem State.setLfQueue_setAt (s : State) (b : LfBlock) (l : List LfWrite) : (s.setLfQueue b l).setAt = s.setAt := by cases b <;> rfl
@[simp] theorem State.setLfQueue_setNow (s : State) (b : LfBlock) (l : List LfWrite) : (s.setLfQueue b l).setNow = s.setNow := by cases b <;> rfl
@[simp] theorem State.setLfQueue_mirror (s : State) (b : LfBlock) (l : List LfWrite) : (s.setLfQueue b l).mirror = s.mirror := by cases b <;> rfl
/-! ### Register words -/

/-- A stored word reads back. -/
@[simp] theorem State.reg_setReg_same (s : State) (a : Nat) (w : Word) : (s.setReg a w).reg a = w := Sparse.get_set_same resetWord s.regs a w

/-- A store at one address leaves every other word. -/
theorem State.reg_setReg_other (s : State) {a b : Nat} (w : Word) (h : b ≠ a) : (s.setReg a w).reg b = s.reg b :=
  Sparse.get_set_other resetWord s.regs w h

theorem State.reg_setFld_other (s : State) {a b : Nat} (hi lo v : Nat) (h : b ≠ a) : (s.setFld a hi lo v).reg b = s.reg b :=
  s.reg_setReg_other _ h

theorem State.reg_putFld_other (s : State) {a b : Nat} (hi lo v : Nat) (h : b ≠ a) : (s.putFld a hi lo v).reg b = s.reg b :=
  s.reg_setReg_other _ h

theorem State.reg_orReg_other (s : State) {a b : Nat} (m : Nat) (h : b ≠ a) : (s.orReg a m).reg b = s.reg b := s.reg_setReg_other _ h

theorem State.reg_clrReg_other (s : State) {a b : Nat} (m : Nat) (h : b ≠ a) : (s.clrReg a m).reg b = s.reg b := s.reg_setReg_other _ h

theorem State.reg_satInc_other (s : State) {a b : Nat} (hi lo : Nat) (h : b ≠ a) : (s.satInc a hi lo).reg b = s.reg b :=
  s.reg_setReg_other _ h

@[simp] theorem State.reg_orReg_same (s : State) (a m : Nat) : (s.orReg a m).reg a = s.reg a ||| BitVec.ofNat 32 m := State.reg_setReg_same _ a _

@[simp] theorem State.reg_clrReg_same (s : State) (a m : Nat) : (s.clrReg a m).reg a = s.reg a &&& ~~~(BitVec.ofNat 32 m) := State.reg_setReg_same _ a _

/-- A word depends on the register list alone. -/
theorem State.reg_congr {s t : State} (h : s.regs = t.regs) (a : Nat) : s.reg a = t.reg a := by unfold State.reg; rw [h]

theorem State.fld_congr {s t : State} (h : s.regs = t.regs) (a hi lo : Nat) : s.fld a hi lo = t.fld a hi lo := by
  unfold State.fld; rw [State.reg_congr h]

theorem State.bit_congr {s t : State} (h : s.regs = t.regs) (a i : Nat) : s.bit a i = t.bit a i := by
  unfold State.bit; rw [State.reg_congr h]

/-! ### Working SRAM -/

@[simp] theorem State.sramByte_setSramByte_same (s : State) (a : Nat) (b : Byte) : (s.setSramByte a b).sramByte a = b :=
  Sparse.get_set_same (sramDflt s.sramGen) s.sram a b

theorem State.sramByte_setSramByte_other (s : State) {a c : Nat} (b : Byte) (h : c ≠ a) : (s.setSramByte a b).sramByte c = s.sramByte c :=
  Sparse.get_set_other (sramDflt s.sramGen) s.sram b h

/-- A byte write keeps the canonical form. -/
theorem Memory.wf_setSramByte (s : State) (a : Nat) (b : Byte) (h : Memory.wf s = true) : Memory.wf (s.setSramByte a b) = true :=
  Sparse.wf_set h a b

/-- A run of bytes keeps the canonical form. -/
theorem Memory.wf_setSramBytes (s : State) (a : Nat) (l : List Byte) (h : Memory.wf s = true) : Memory.wf (s.setSramBytes a l) = true := by
  induction l generalizing s a with
  | nil => exact h
  | cons b t ih => exact ih _ _ (Memory.wf_setSramByte s a b h)

/-- Every field but the SRAM is as it was after a run of bytes has been written. -/
theorem State.setSramBytes_eq (s : State) (a : Nat) (l : List Byte) : s.setSramBytes a l = { s with sram := (s.setSramBytes a l).sram } := by
  induction l generalizing s a with
  | nil => rfl
  | cons b t ih =>
    show (s.setSramByte a b).setSramBytes (a + 1) t = _
    rw [ih]
    rfl

/-- The zero-fill leaves memory in canonical form, every byte 0. -/
theorem Memory.wf_zeroSram (s : State) : Memory.wf s.zeroSram = true := rfl

theorem State.sramByte_zeroSram (s : State) (a : Nat) : s.zeroSram.sramByte a = 0 := rfl

end Sys2Proof.Machine
end

