-- ==== Sys2Proof/Laws/Frames.lean ====
section
/-!
SUPPORT. What the operations that every block shares can change: a notice, a log entry, a record write, a health cause.
-/

namespace Sys2Proof.Machine

set_option Elab.async false
set_option linter.all false

/-! ### Notices -/

/-- A notice touches the ring with its numbering, its watermark and the record of the cycle, and the words of LNK_NTCLOST. -/
structure NoticeFrame (s t : State) : Prop where
  rest : t = { s with link := t.link, regs := t.regs, setAt := t.setAt, setNow := t.setNow }
  reg : ∀ a, a ≠ 0x10034 → t.reg a = s.reg a
  linkRest : t.link = { s.link with
    ring := t.link.ring, nextNum := t.link.nextNum, wm := t.link.wm
    cycAt := t.link.cycAt, cycLen := t.link.cycLen, cycIn := t.link.cycIn, cycWm := t.link.cycWm, cycLost := t.link.cycLost
    cycNote := t.link.cycNote }

variable {s t u : State}

theorem NoticeFrame.refl (s : State) : NoticeFrame s s := ⟨rfl, fun _ _ => rfl, rfl⟩

theorem NoticeFrame.trans (h : NoticeFrame s t) (k : NoticeFrame t u) : NoticeFrame s u := by
  refine ⟨?_, fun a ha => (k.reg a ha).trans (h.reg a ha), ?_⟩
  · have e := k.rest
    rw [h.rest] at e
    exact e
  · have e := k.linkRest
    rw [h.linkRest] at e
    exact e

theorem NoticeFrame.foldl {α : Type} {f : State → α → State} (hf : ∀ s x, NoticeFrame s (f s x)) (l : List α) (s : State) :
    NoticeFrame s (l.foldl f s) := by
  induction l generalizing s with
  | nil => exact .refl s
  | cons x t ih => exact (hf s x).trans (ih _)

/-- A new record of the ring's watermark. -/
theorem NoticeFrame.wm (s : State) (w : Watermark) : NoticeFrame s { s with link := { s.link with wm := w } } := ⟨rfl, fun _ _ => rfl, rfl⟩

theorem State.pushNotice_frame (s : State) (code : Nat) (p : List Byte) : NoticeFrame s (s.pushNotice code p) := ⟨rfl, fun _ _ => rfl, rfl⟩

theorem State.dropNotice_frame (s : State) (code : Nat) : NoticeFrame s (s.dropNotice code) := by
  have h1 : NoticeFrame s (s.satInc 0x10034 15 0) := ⟨rfl, fun a ha => s.reg_satInc_other 15 0 ha, rfl⟩
  have h2 : NoticeFrame (s.satInc 0x10034 15 0) ((s.satInc 0x10034 15 0).putFld 0x10034 23 16 code) :=
    ⟨rfl, fun a ha => State.reg_putFld_other _ 23 16 code ha, rfl⟩
  unfold State.dropNotice
  dsimp only
  split
  · exact h1
  · exact (h1.trans h2).trans (State.pushNotice_frame _ _ _)

theorem State.enterNotice_frame (s : State) (code : Nat) (p : List Byte) : NoticeFrame s (s.enterNotice code p) := by
  unfold State.enterNotice
  split
  · exact s.pushNotice_frame code p
  · exact s.dropNotice_frame code

theorem State.enterRingWatermark_frame (s : State) (level : Nat) : NoticeFrame s (s.enterRingWatermark level) := by
  unfold State.enterRingWatermark
  split
  · exact (s.enterNotice_frame 0x0B _).trans (.wm _ _)
  · exact .refl s

theorem State.ringCross_frame (s : State) (level : Nat) : NoticeFrame s (s.ringCross level) := by
  unfold State.ringCross
  dsimp only
  split
  · exact (NoticeFrame.wm _ _).trans (State.enterRingWatermark_frame _ _)
  · exact .wm _ _

theorem State.admitNotice_frame (s : State) (code : Nat) (p : List Byte) : NoticeFrame s (s.admitNotice code p) := by
  have h1 := (s.enterNotice_frame code p).trans (NoticeFrame.wm _ ((s.enterNotice code p).link.wm.follow Nat.max (s.enterNotice code p).link.ring.length
    (decide ((s.enterNotice code p).fld 0x1002C 5 0 ≤ (s.enterNotice code p).link.ring.length))))
  unfold State.admitNotice
  split
  · exact .refl s
  · dsimp only
    split
    · exact h1.trans (State.ringCross_frame _ _)
    · exact h1

theorem NoticeFrame.setLost (s : State) (n : Option SetNote) (w : Word) : NoticeFrame s ((s.putNote 0x10034 n).setReg 0x10034 w) :=
  ⟨rfl, fun _ ha => (s.putNote 0x10034 n).reg_setReg_other w ha, rfl⟩

theorem State.openCycle_frame (s : State) : NoticeFrame s s.openCycle := by
  unfold State.openCycle
  dsimp only
  split
  · exact NoticeFrame.trans (t := { s with link := { s.link with
      ring := s.link.ring.take s.link.cycLen
      nextNum := ((s.link.ring.drop s.link.cycLen).head?.map Notice.num).getD s.link.nextNum, wm := s.link.cycWm } })
      ⟨rfl, fun _ _ => rfl, rfl⟩ (.setLost _ _ _)
  · exact ⟨rfl, fun _ _ => rfl, rfl⟩

/-- The notices of a cycle enter in turn. -/
theorem State.admitAll_frame (s : State) (l : List (Nat × List Byte)) : NoticeFrame s (s.admitAll l) :=
  NoticeFrame.foldl (f := fun (s : State) (x : Nat × List Byte) => s.admitNotice x.1 x.2) (fun s x => s.admitNotice_frame x.1 x.2) l s

/-- What a notice can change: the ring, its numbering and watermark, the record of the cycle, and LNK_NTCLOST. -/
theorem State.notice_frame (s : State) (code : Nat) (p : List Byte) : NoticeFrame s (s.notice code p) := by
  unfold State.notice
  split
  · refine s.openCycle_frame.trans (NoticeFrame.trans ?_ (State.admitAll_frame _ _))
    exact ⟨rfl, fun _ _ => rfl, rfl⟩
  · exact .refl s

theorem State.notice_reg (s : State) (code : Nat) (p : List Byte) {a : Nat} (h : a ≠ 0x10034) : (s.notice code p).reg a = s.reg a :=
  (s.notice_frame code p).reg a h

/-! ### The cave: log entries and record writes -/

/-- A log entry or a record write touches the cave, the NAND's queue of jobs and the words of NVM_LOGLOST. -/
structure CaveFrame (s t : State) : Prop where
  rest : t = { s with cave := t.cave, nand := t.nand, regs := t.regs, setAt := t.setAt, setNow := t.setNow }
  reg : ∀ a, a ≠ 0xA0058 → t.reg a = s.reg a
  pages : t.nand.pages = s.nand.pages

theorem CaveFrame.refl (s : State) : CaveFrame s s := ⟨rfl, fun _ _ => rfl, rfl⟩

theorem CaveFrame.trans (h : CaveFrame s t) (k : CaveFrame t u) : CaveFrame s u := by
  refine ⟨?_, fun a ha => (k.reg a ha).trans (h.reg a ha), k.pages.trans h.pages⟩
  have e := k.rest
  rw [h.rest] at e
  exact e

/-- A change of the cave alone. -/
theorem CaveFrame.cave (s : State) (c : CaveSt) : CaveFrame s { s with cave := c } := ⟨rfl, fun _ _ => rfl, rfl⟩

theorem State.nandPick_frame (s : State) : CaveFrame s s.nandPick := by
  unfold State.nandPick
  repeat' split
  all_goals first | exact CaveFrame.refl s | exact ⟨rfl, fun _ _ => rfl, rfl⟩

theorem State.addJob_frame (s : State) (kind : JobKind) (prio : Nat) (todo : List NandOp) : CaveFrame s (s.addJob kind prio todo) := by
  unfold State.addJob
  exact CaveFrame.trans (t := { s with nand := { s.nand with jobs := s.nand.jobs ++ [{ kind := kind, prio := prio, todo := todo }] } })
    ⟨rfl, fun _ _ => rfl, rfl⟩ (State.nandPick_frame _)

theorem State.openLogBlock_frame (s : State) : CaveFrame s s.openLogBlock.2 := by
  unfold State.openLogBlock
  dsimp only
  split <;> exact CaveFrame.cave s _

theorem State.startLogProgram_frame (s : State) : CaveFrame s s.startLogProgram := by
  have hr : ∀ (o : Option (Nat × Nat)), CaveFrame s (match o with
      | some (_, p) => if p < s.nand.ppb then (([] : List NandOp), s) else s.openLogBlock
      | none => s.openLogBlock).2 := by
    intro o
    split
    · split
      · exact CaveFrame.refl s
      · exact s.openLogBlock_frame
    · exact s.openLogBlock_frame
  have h1 := hr s.cave.logOpen
  unfold State.startLogProgram
  split
  · exact CaveFrame.refl s
  dsimp only
  split
  · exact h1.trans ((CaveFrame.cave _ _).trans (State.addJob_frame _ _ _ _))
  · exact h1

theorem State.flushLog_frame (s : State) : CaveFrame s s.flushLog := by
  unfold State.flushLog
  split
  · exact CaveFrame.refl s
  · split
    · exact (CaveFrame.cave s _).trans (State.startLogProgram_frame _)
    · exact CaveFrame.cave s _

/-- What a log entry can change. -/
theorem State.logEntry_frame (s : State) (src : Nat) (payload : List Byte) (urgent : Bool) : CaveFrame s (s.logEntry src payload urgent).2 := by
  have hd : CaveFrame s s.logDropped := ⟨rfl, fun a ha => s.reg_satInc_other 15 0 ha, rfl⟩
  have hf : ∀ c : Bool, CaveFrame s (if c = true then s else s.flushLog) := by
    intro c
    split
    · exact CaveFrame.refl s
    · exact s.flushLog_frame
  have ha : ∀ x : State, CaveFrame x (x.appendLog src payload).2 := fun x => CaveFrame.cave x _
  have hg : ∀ (c : Bool) (x : State), CaveFrame x (if c = true then x.flushLog else x) := by
    intro c x
    split
    · exact x.flushLog_frame
    · exact CaveFrame.refl x
  unfold State.logEntry
  dsimp only
  split
  · exact hd
  · split
    · exact (hf _).trans ((ha _).trans (hg _ _))
    · exact hd

theorem State.logOf_frame (s : State) (src : Nat) (payload : List Byte) : CaveFrame s (s.logOf src payload) := s.logEntry_frame src payload false

theorem State.openRecBlock_frame {s t : State} {more : Bool} (e : s.openRecBlock more = some t) : CaveFrame s t := by
  unfold State.openRecBlock at e
  split at e
  · cases e
  · obtain ⟨n, -, rfl⟩ := Option.map_eq_some_iff.1 e
    exact CaveFrame.cave s _

theorem State.allocSlot_frame {s t : State} {p : Nat × Nat} {more : Bool} (e : s.allocSlot more = some (p, t)) : CaveFrame s t := by
  have hr : ∀ (c : Bool) (x : State), (if c = true then some s else s.openRecBlock more) = some x → CaveFrame s x := by
    intro c x hx
    split at hx
    · cases hx; exact CaveFrame.refl s
    · exact State.openRecBlock_frame hx
  unfold State.allocSlot at e
  dsimp only at e
  split at e
  · rename_i s1 hs1
    split at e
    · cases e
      exact (hr _ _ hs1).trans (CaveFrame.cave _ _)
    · cases e
  · cases e

theorem State.startRecWrite_frame (s : State) : CaveFrame s s.startRecWrite := by
  unfold State.startRecWrite
  split
  · split
    · exact CaveFrame.refl s
    · split
      · exact CaveFrame.refl s
      · rename_i heq
        exact (State.allocSlot_frame heq).trans ((CaveFrame.cave _ _).trans (State.addJob_frame _ _ _ _))
  · exact CaveFrame.refl s

/-- What a record write can change. -/
theorem State.recordWrite_frame (s : State) (kind index version : Nat) (body : List Byte) : CaveFrame s (s.recordWrite kind index version body) := by
  unfold State.recordWrite
  dsimp only
  split
  · exact CaveFrame.refl s
  · exact (CaveFrame.cave s _).trans (State.startRecWrite_frame _)

/-! ### Health causes -/

/-- A health cause touches the health notices to come, the cave, the NAND's queue and register words. -/
theorem State.advise_frame (s : State) (b unit : Nat) :
    (s.advise b unit).sram = s.sram ∧ (s.advise b unit).power = s.power ∧ (s.advise b unit).cfg = s.cfg ∧
    (s.advise b unit).wheels = s.wheels ∧ (s.advise b unit).outs = s.outs ∧ (s.advise b unit).timers = s.timers ∧
    (s.advise b unit).now = s.now ∧ (s.advise b unit).lf = s.lf ∧ (s.advise b unit).boot = s.boot ∧ (s.advise b unit).link = s.link := by
  unfold State.advise
  split
  · exact ⟨rfl, rfl, rfl, rfl, rfl, rfl, rfl, rfl, rfl, rfl⟩
  · dsimp only
    generalize hx : (s.orReg 0x100004 (2 ^ b)).healthNotice 0x0A (16 + b) unit = x
    have h2 : CaveFrame x (x.healthLog 2 (16 + b) unit) := State.logOf_frame _ _ _
    rw [h2.rest, ← hx]
    exact ⟨rfl, rfl, rfl, rfl, rfl, rfl, rfl, rfl, rfl, rfl⟩

end Sys2Proof.Machine
end

