-- ==== Sys2Proof/Laws/Kept.lean ====
section
/-!
SUPPORT. What every operation keeps, said once for each: the queue, the canonical form of registers and SRAM, the bounds of the notice
ring, and blown fuses (`Kept`). A statement about all commands goes through one lemma per command.
-/

namespace Sys2Proof.Machine

set_option Elab.async false
set_option linter.all false

/-- What no operation of the model breaks, from `s` to `t`. -/
structure Kept (s t : State) : Prop where
  pending : t.pending = s.pending
  regs : Sparse.wf resetWord s.regs = true → Sparse.wf resetWord t.regs = true
  sram : Memory.wf s = true → Memory.wf t = true
  ring : s.ringBounded → t.ringBounded
  otp : s.otp.below t.otp

theorem OtpSt.below_refl (o : OtpSt) : o.below o := by
  have h : ∀ {n} (x : BitVec n), x &&& ~~~x = 0 := fun x => by simp
  exact ⟨h _, h _, h _, fun _ => h _, fun _ => h _, h _, h _, id, fun _ _ => id, fun _ _ => id, fun _ _ => id⟩

theorem OtpSt.below_trans {o p q : OtpSt} (h : o.below p) (k : p.below q) : o.below q := by
  have and_trans : ∀ {n} {x y z : BitVec n}, x &&& ~~~y = 0 → y &&& ~~~z = 0 → x &&& ~~~z = 0 := by
    intro n x y z h k
    ext i hi
    have hi1 := congrArg (fun v => v.getLsbD i) h
    have hi2 := congrArg (fun v => v.getLsbD i) k
    simp [hi] at hi1 hi2 ⊢
    intro hx
    exact hi2 (hi1 hx)
  obtain ⟨h1, h2, h3, h4, h5, h6, h7, h8, h9, h10, h11⟩ := h
  obtain ⟨k1, k2, k3, k4, k5, k6, k7, k8, k9, k10, k11⟩ := k
  exact ⟨and_trans h1 k1, and_trans h2 k2, and_trans h3 k3, fun i => and_trans (h4 i) (k4 i), fun i => and_trans (h5 i) (k5 i),
    and_trans h6 k6, and_trans h7 k7, fun h => k8 (h8 h), fun i hi h => k9 i hi (h9 i hi h), fun i hi h => k10 i hi (h10 i hi h),
    fun i hi h => k11 i hi (h11 i hi h)⟩

variable {s0 s t : State}

theorem Kept.refl (s : State) : Kept s s := ⟨rfl, id, id, id, OtpSt.below_refl _⟩

theorem Kept.trans (h : Kept s0 s) (k : Kept s t) : Kept s0 t :=
  ⟨k.pending.trans h.pending, fun x => k.regs (h.regs x), fun x => k.sram (h.sram x), fun x => k.ring (h.ring x),
    OtpSt.below_trans h.otp k.otp⟩

/-- A change of other fields. -/
theorem Kept.fields (h : Kept s0 s) (hp : t.pending = s.pending) (hr : t.regs = s.regs) (hs : t.sram = s.sram)
    (hg : t.sramGen = s.sramGen) (hl : t.link.ring = s.link.ring) (ho : t.otp = s.otp) : Kept s0 t := by
  refine h.trans ⟨hp, fun x => hr ▸ x, fun x => ?_, fun x => ?_, ho ▸ OtpSt.below_refl _⟩
  · simpa only [Memory.wf, hs, hg] using x
  · simpa only [State.ringBounded, hl] using x

/-- A record update that leaves what is kept. -/
theorem Kept.lit {x0 x1 x2 x3 x4 x5 x6 x7 x8 x9 x10 x11 x12 x13 x14 x15 x16 x17 x18 x19 x20 x21 x22 x23 x24 x25 x26 x27 x28 x29 x30 x31 x32 x33 x34 x35 x36 x37 x38 x39 x40 x41 x42} (hp : x3 = s.pending) (hr : x4 = s.regs) (hs : x5 = s.sram) (hg : x6 = s.sramGen)
    (hl : LinkSt.ring x8 = s.link.ring) (ho : x33 = s.otp) (h : Kept s0 s) :
    Kept s0 (State.mk x0 x1 x2 x3 x4 x5 x6 x7 x8 x9 x10 x11 x12 x13 x14 x15 x16 x17 x18 x19 x20 x21 x22 x23 x24 x25 x26 x27 x28 x29 x30 x31 x32 x33 x34 x35 x36 x37 x38 x39 x40 x41 x42) :=
  h.fields hp hr hs hg hl ho

theorem Kept.ite {c : Prop} [Decidable c] {a b : State} (ha : Kept s0 a) (hb : Kept s0 b) : Kept s0 (if c then a else b) := by
  split <;> assumption

theorem Kept.ofEq {a b : State} (h : Kept s0 a) (e : a = b) : Kept s0 b := e ▸ h

theorem Kept.getD {o : Option State} (h : Kept s0 s) (e : ∀ t, o = some t → Kept s0 t) : Kept s0 (o.getD s) := by
  cases o with
  | none => exact h
  | some t => exact e t rfl

theorem Kept.snd {α : Type} {p : α × State} {a : α} (e : p = (a, t)) (h : Kept s0 p.2) : Kept s0 t := by
  subst e; exact h

theorem Kept.foldl {α : Type} {f : State → α → State} {l : List α} (hf : ∀ s x, Kept s0 s → Kept s0 (f s x)) (h : Kept s0 s) :
    Kept s0 (l.foldl f s) := by
  induction l generalizing s with
  | nil => exact h
  | cons a t ih => exact ih (hf s a h)

/-! ### The named operations -/

theorem State.setReg_kept (h : Kept s0 s) (a : Nat) (w : Word) : Kept s0 (s.setReg a w) :=
  h.trans ⟨rfl, fun x => Sparse.wf_set x a w, id, id, OtpSt.below_refl _⟩

theorem State.setFld_kept (h : Kept s0 s) (a hi lo v : Nat) : Kept s0 (s.setFld a hi lo v) := State.setReg_kept h _ _
theorem State.noteSet_kept (h : Kept s0 s) (a : Nat) (m : Word) : Kept s0 (s.noteSet a m) := h.fields rfl rfl rfl rfl rfl rfl
theorem State.orReg_kept (h : Kept s0 s) (a m : Nat) : Kept s0 (s.orReg a m) := State.setReg_kept (State.noteSet_kept h _ _) _ _
theorem State.clrReg_kept (h : Kept s0 s) (a m : Nat) : Kept s0 (s.clrReg a m) := State.setReg_kept h _ _
theorem State.putNote_kept (h : Kept s0 s) (a : Nat) (n : Option SetNote) : Kept s0 (s.putNote a n) := h.fields rfl rfl rfl rfl rfl rfl
theorem State.setFresh_kept (h : Kept s0 s) (a hi lo v : Nat) : Kept s0 (s.setFresh a hi lo v) := State.putNote_kept h _ _
theorem State.putFld_kept (h : Kept s0 s) (a hi lo v : Nat) : Kept s0 (s.putFld a hi lo v) :=
  State.setFld_kept (State.setFresh_kept (State.noteSet_kept h _ _) _ _ _ _) _ _ _ _
theorem State.satCount_kept (h : Kept s0 s) (a hi lo n : Nat) : Kept s0 (s.satCount a hi lo n) :=
  State.setFld_kept (State.setFresh_kept (State.noteSet_kept h _ _) _ _ _ _) _ _ _ _
theorem State.satInc_kept (h : Kept s0 s) (a hi lo : Nat) : Kept s0 (s.satInc a hi lo) := State.satCount_kept h _ _ _ _

/-- What is done in some states only. -/
theorem State.whileRunning_kept (h : Kept s0 s) {f : State → State} (hf : Kept s0 (f s)) : Kept s0 (s.whileRunning f) := by
  unfold State.whileRunning; split <;> assumption
theorem State.whileAwake_kept (h : Kept s0 s) {f : State → State} (hf : Kept s0 (f s)) : Kept s0 (s.whileAwake f) := by
  unfold State.whileAwake; split <;> assumption
theorem State.whileNandUp_kept (h : Kept s0 s) {f : State → State} (hf : Kept s0 (f s)) : Kept s0 (s.whileNandUp f) := by
  unfold State.whileNandUp; split <;> assumption

theorem State.clearWords_kept (h : Kept s0 s) (lo hi : Nat) : Kept s0 (s.clearWords lo hi) := by
  refine h.trans ⟨rfl, fun x => Sparse.wfFrom_filterMap (fun p q hq => ?_) x, id, id, OtpSt.below_refl _⟩
  split at hq
  · dsimp only at hq
    split at hq
    · cases hq
    · rename_i hne
      cases hq
      exact ⟨rfl, fun _ => hne⟩
  · cases hq
    exact ⟨rfl, id⟩

theorem State.defaultRws_kept (h : Kept s0 s) (lo hi : Nat) : Kept s0 (s.defaultRws lo hi) := by
  refine h.trans ⟨rfl, fun x => Sparse.wfFrom_filterMap (fun p q hq => ?_) x, id, id, OtpSt.below_refl _⟩
  split at hq
  · dsimp only at hq
    split at hq
    · cases hq
    · rename_i hne
      cases hq
      exact ⟨rfl, fun _ => hne⟩
  · cases hq
    exact ⟨rfl, id⟩

theorem State.setSramByte_kept (h : Kept s0 s) (a : Nat) (b : Byte) : Kept s0 (s.setSramByte a b) :=
  h.trans ⟨rfl, id, fun x => Sparse.wf_set x a b, id, OtpSt.below_refl _⟩

theorem State.setSramBytes_kept (h : Kept s0 s) (a : Nat) (l : List Byte) : Kept s0 (s.setSramBytes a l) := by
  induction l generalizing s a with
  | nil => exact h
  | cons b t ih => exact ih (State.setSramByte_kept h a b) (a + 1)

theorem State.setSramWord_kept (h : Kept s0 s) (a : Nat) (w : Word) : Kept s0 (s.setSramWord a w) := State.setSramBytes_kept h _ _

theorem State.zeroSram_kept (h : Kept s0 s) : Kept s0 s.zeroSram :=
  h.trans ⟨rfl, id, fun _ => rfl, id, OtpSt.below_refl _⟩

/-- A change of the ring that keeps its bounds. -/
theorem Kept.ringStep (h : Kept s0 s) (hp : t.pending = s.pending) (hr : Sparse.wf resetWord s.regs = true → Sparse.wf resetWord t.regs = true)
    (hs : t.sram = s.sram) (hg : t.sramGen = s.sramGen) (ho : t.otp = s.otp) (hb : s.ringBounded → t.ringBounded) : Kept s0 t := by
  refine h.trans ⟨hp, hr, fun x => ?_, hb, ho ▸ OtpSt.below_refl _⟩
  simpa only [Memory.wf, hs, hg] using x

theorem State.pushNotice_kept (h : Kept s0 s) {code : Nat} (hc : code ≠ 0x19) (hf : s.ordinaryFill < 31) (p : List Byte) :
    Kept s0 (s.pushNotice code p) := by
  refine h.ringStep rfl id rfl rfl rfl (fun hb => ?_)
  simp only [State.ringBounded, State.pushNotice, State.ordinaryFill, List.filter_append, List.length_append] at hb hf ⊢
  simp [hc]
  omega

theorem State.dropNotice_kept (h : Kept s0 s) (code : Nat) : Kept s0 (s.dropNotice code) := by
  unfold State.dropNotice
  dsimp only
  split
  · exact State.satInc_kept h _ _ _
  · rename_i hn
    refine Kept.ringStep (State.putFld_kept (State.satInc_kept h 0x10034 15 0) 0x10034 23 16 code) rfl id rfl rfl rfl (fun hb => ?_)
    have hz : ((s.satInc 0x10034 15 0).link.ring.filter (fun n => n.code == 0x19)) = [] := by
      rw [List.filter_eq_nil_iff]
      intro n hn' hc
      exact hn (List.any_eq_true.2 ⟨n, hn', hc⟩)
    have hz' : (s.link.ring.filter (fun n => n.code == 0x19)) = [] := hz
    have hb1 : (s.link.ring.filter (fun n => n.code != 0x19)).length ≤ 31 := hb.1
    refine ⟨?_, ?_⟩
    · show ((s.link.ring ++ _).filter _).length ≤ 31
      rw [List.filter_append]
      simpa using hb1
    · show ((s.link.ring ++ _).filter _).length ≤ 1
      rw [List.filter_append, hz']
      simp

theorem State.enterNotice_kept (h : Kept s0 s) {code : Nat} (hc : code ≠ 0x19) (p : List Byte) : Kept s0 (s.enterNotice code p) := by
  unfold State.enterNotice
  split
  · exact State.pushNotice_kept h hc ‹_› p
  · exact State.dropNotice_kept h code

theorem State.enterRingWatermark_kept (h : Kept s0 s) (level : Nat) : Kept s0 (s.enterRingWatermark level) := by
  unfold State.enterRingWatermark
  split
  · exact Kept.fields (State.enterNotice_kept h (by decide) (watermarkPayload 0 0 level (s.fld 0x1002C 5 0))) rfl rfl rfl rfl rfl rfl
  · exact h

theorem State.ringCross_kept (h : Kept s0 s) (level : Nat) : Kept s0 (s.ringCross level) := by
  have h1 : Kept s0 { s with link := { s.link with wm := (s.link.wm.cross Nat.max level).1 } } := h.fields rfl rfl rfl rfl rfl rfl
  unfold State.ringCross
  dsimp only
  split
  · exact State.enterRingWatermark_kept h1 level
  · exact h1

/-- The ring loses entries or changes anything of them but their codes. -/
theorem Kept.codes (h : Kept s0 s) (hl : (t.link.ring.map Notice.code).Sublist (s.link.ring.map Notice.code)) (hp : t.pending = s.pending)
    (hr : t.regs = s.regs) (hs : t.sram = s.sram) (hg : t.sramGen = s.sramGen) (ho : t.otp = s.otp) : Kept s0 t := by
  refine h.ringStep hp (fun x => hr ▸ x) hs hg ho (fun hb => ?_)
  have key : ∀ p : Nat → Bool, (t.link.ring.filter (fun n => p n.code)).length ≤ (s.link.ring.filter (fun n => p n.code)).length := by
    intro p
    have h1 : ∀ l : List Notice, (l.filter (fun n => p n.code)).length = ((l.map Notice.code).filter p).length := by
      intro l
      rw [List.filter_map, List.length_map]
      rfl
    rw [h1, h1]
    exact (hl.filter p).length_le
  exact ⟨Nat.le_trans (key (fun c => c != 0x19)) hb.1, Nat.le_trans (key (fun c => c == 0x19)) hb.2⟩

theorem State.admitNotice_kept (h : Kept s0 s) (code : Nat) (p : List Byte) : Kept s0 (s.admitNotice code p) := by
  unfold State.admitNotice
  split
  · exact h
  · have h1 := State.enterNotice_kept h ‹_› p
    have h2 : ∀ (s1 : State) (m : Nat) (b : Bool), Kept s0 s1 →
        Kept s0 { s1 with link := { s1.link with wm := s1.link.wm.follow Nat.max m b } } := fun s1 m b h => h.fields rfl rfl rfl rfl rfl rfl
    dsimp only
    split
    · exact State.ringCross_kept (h2 _ _ _ h1) _
    · exact h2 _ _ _ h1

theorem State.admitAll_kept (h : Kept s0 s) (l : List (Nat × List Byte)) : Kept s0 (s.admitAll l) :=
  Kept.foldl (fun _ _ h => State.admitNotice_kept h _ _) h

theorem State.openCycle_kept (h : Kept s0 s) : Kept s0 s.openCycle := by
  unfold State.openCycle
  dsimp only
  split
  · refine State.setReg_kept (State.putNote_kept ?_ _ _) _ _
    refine h.codes ?_ rfl rfl rfl rfl rfl
    exact (List.take_sublist _ _).map _
  · exact h.fields rfl rfl rfl rfl rfl rfl

/-- A notice keeps everything; its code is not that of NTC_LOST, which the ring itself enters. -/
theorem State.notice_kept (h : Kept s0 s) (code : Nat) (p : List Byte) : Kept s0 (s.notice code p) := by
  unfold State.notice
  split
  · refine State.admitAll_kept ?_ _
    exact (State.openCycle_kept h).fields rfl rfl rfl rfl rfl rfl
  · exact h

theorem State.amendNotice_kept (h : Kept s0 s) (code : Nat) (a b c : List Byte) : Kept s0 (s.amendNotice code a b c) := by
  unfold State.amendNotice
  split
  · refine State.admitAll_kept ?_ _
    exact (State.openCycle_kept h).fields rfl rfl rfl rfl rfl rfl
  · exact State.notice_kept h _ _

theorem State.noticeAll_kept (h : Kept s0 s) (l : List (Nat × List Byte)) : Kept s0 (s.noticeAll l) :=
  Kept.foldl (fun _ _ h => State.notice_kept h _ _) h

theorem State.closeCycle_kept (h : Kept s0 s) : Kept s0 s.closeCycle := h.fields rfl rfl rfl rfl rfl rfl

theorem State.clearRingWm_kept (h : Kept s0 s) : Kept s0 s.clearRingWm := by
  have h0 := State.closeCycle_kept h
  unfold State.clearRingWm
  dsimp only
  split
  · refine State.enterRingWatermark_kept ?_ _
    exact h0.fields rfl rfl rfl rfl rfl rfl
  · exact h0.fields rfl rfl rfl rfl rfl rfl

end Sys2Proof.Machine
end

