-- ==== Sys2Proof/Laws/KeptBlocks.lean ====
section
/-!
SUPPORT. What the operations of the blocks keep, one lemma for each operation.
-/

namespace Sys2Proof.Machine

set_option Elab.async false
set_option linter.all false

/-! ### Ops -/

theorem State.drawFree_kept {k0 s : State} (h : Kept k0 s) : Kept k0 (State.drawFree s).2 := by
  unfold State.drawFree
  with_reducible repeat' first
    | assumption | (refine Kept.lit rfl rfl rfl rfl rfl rfl ?_; assumption) | split | dsimp only

/-! ### Store -/

theorem State.setPage_kept {k0 s : State} (h : Kept k0 s) (row : Nat) (p : NandPage) : Kept k0 (State.setPage s row p) := by
  unfold State.setPage
  with_reducible repeat' first
    | assumption | (refine Kept.lit rfl rfl rfl rfl rfl rfl ?_; assumption) | dsimp only

theorem State.erasePages_kept {k0 s : State} (h : Kept k0 s) (b : Nat) : Kept k0 (State.erasePages s b) := by
  unfold State.erasePages
  with_reducible repeat' first
    | assumption | (refine Kept.lit rfl rfl rfl rfl rfl rfl ?_; assumption) | dsimp only

theorem State.nandPick_kept {k0 s : State} (h : Kept k0 s) : Kept k0 (State.nandPick s) := by
  unfold State.nandPick
  with_reducible repeat' first
    | assumption | (refine Kept.lit rfl rfl rfl rfl rfl rfl ?_; assumption) | refine Kept.ite ?_ ?_ | dsimp only

theorem State.addJob_kept {k0 s : State} (h : Kept k0 s) (kind : JobKind) (prio : Nat) (todo : List NandOp) : Kept k0 (State.addJob s kind prio todo) := by
  unfold State.addJob
  with_reducible repeat' first
    | assumption | apply State.nandPick_kept | (refine Kept.lit rfl rfl rfl rfl rfl rfl ?_; assumption)

theorem State.dropJob_kept {k0 s : State} (h : Kept k0 s) (kind : JobKind) : Kept k0 (State.dropJob s kind) := by
  unfold State.dropJob
  with_reducible repeat' first
    | assumption | (refine Kept.lit rfl rfl rfl rfl rfl rfl ?_; assumption) | refine Kept.ite ?_ ?_ | dsimp only

theorem State.dropJobs_kept {k0 s : State} (h : Kept k0 s) (p : JobKind → Bool) : Kept k0 (State.dropJobs s p) := by
  unfold State.dropJobs
  try dsimp only
  with_reducible repeat' first
    | assumption | (refine Kept.lit rfl rfl rfl rfl rfl rfl ?_; assumption) | refine Kept.ite ?_ ?_ | dsimp only

theorem State.openLogBlock_kept {k0 s : State} (h : Kept k0 s) : Kept k0 (State.openLogBlock s).2 := by
  unfold State.openLogBlock
  try dsimp only
  with_reducible repeat' first
    | assumption | (refine Kept.lit rfl rfl rfl rfl rfl rfl ?_; assumption) | refine Kept.ite ?_ ?_ | split | dsimp only

theorem State.startLogProgram_kept {k0 s : State} (h : Kept k0 s) : Kept k0 (State.startLogProgram s) := by
  unfold State.startLogProgram
  try dsimp only
  with_reducible repeat' first
    | assumption | apply State.openLogBlock_kept | apply State.addJob_kept
    | (refine Kept.lit rfl rfl rfl rfl rfl rfl ?_; first | assumption | apply State.openLogBlock_kept | apply State.addJob_kept | refine Kept.ite ?_ ?_)
    | refine Kept.ite ?_ ?_ | split | dsimp only

theorem State.flushLog_kept {k0 s : State} (h : Kept k0 s) : Kept k0 (State.flushLog s) := by
  unfold State.flushLog
  with_reducible repeat' first
    | assumption | apply State.startLogProgram_kept | (refine Kept.lit rfl rfl rfl rfl rfl rfl ?_; assumption)
    | refine Kept.ite ?_ ?_

theorem State.logDropped_kept {k0 s : State} (h : Kept k0 s) : Kept k0 (State.logDropped s) := by
  unfold State.logDropped
  with_reducible repeat' first
    | assumption | apply State.satInc_kept

theorem State.appendLog_kept {k0 s : State} (h : Kept k0 s) (src : Nat) (payload : List Byte) : Kept k0 (State.appendLog s src payload).2 := by
  unfold State.appendLog
  try dsimp only
  with_reducible repeat' first
    | assumption | (refine Kept.lit rfl rfl rfl rfl rfl rfl ?_; assumption) | refine Kept.ite ?_ ?_ | split | dsimp only

theorem State.logEntry_kept {k0 s : State} (h : Kept k0 s) (src : Nat) (payload : List Byte) (urgent : Bool) : Kept k0 (State.logEntry s src payload urgent).2 := by
  unfold State.logEntry
  try dsimp only
  with_reducible repeat' first
    | assumption | apply State.logDropped_kept | apply State.flushLog_kept | apply State.appendLog_kept | refine Kept.ite ?_ ?_
    | split | dsimp only

theorem State.logOf_kept {k0 s : State} (h : Kept k0 s) (src : Nat) (payload : List Byte) : Kept k0 (State.logOf s src payload) := by
  unfold State.logOf
  with_reducible repeat' first
    | assumption | apply State.logEntry_kept

theorem State.logCave_kept {k0 s : State} (h : Kept k0 s) (event : Nat) (block : Nat) : Kept k0 (State.logCave s event block) := by
  unfold State.logCave
  with_reducible repeat' first
    | assumption | apply State.logEntry_kept

theorem State.openRecBlock_kept {q s t : State} {more : Bool} (h : Kept q s) (e : s.openRecBlock more = some t) : Kept q t := by
  unfold State.openRecBlock at e
  split at e
  · cases e
  · obtain ⟨n, -, rfl⟩ := Option.map_eq_some_iff.1 e
    exact h.fields rfl rfl rfl rfl rfl rfl

theorem State.allocSlot_kept {q s t : State} {p : Nat × Nat} {more : Bool} (h : Kept q s) (e : s.allocSlot more = some (p, t)) : Kept q t := by
  have hr : ∀ (c : Bool) (x : State), (if c = true then some s else s.openRecBlock more) = some x → Kept q x := by
    intro c x hx
    split at hx
    · cases hx; exact h
    · exact State.openRecBlock_kept h hx
  unfold State.allocSlot at e
  dsimp only at e
  split at e
  · rename_i s1 hs1
    split at e
    · cases e
      exact (hr _ _ hs1).fields rfl rfl rfl rfl rfl rfl
    · cases e
  · cases e

theorem State.startRecWrite_kept {k0 s : State} (h : Kept k0 s) : Kept k0 (State.startRecWrite s) := by
  unfold State.startRecWrite
  try dsimp only
  with_reducible repeat' first
    | assumption | refine State.allocSlot_kept ?_ (by assumption) | apply State.addJob_kept
    | (refine Kept.lit rfl rfl rfl rfl rfl rfl ?_; first | assumption | refine State.allocSlot_kept ?_ (by assumption) | apply State.addJob_kept | refine Kept.ite ?_ ?_)
    | refine Kept.ite ?_ ?_ | split | dsimp only

theorem State.recordWrite_kept {k0 s : State} (h : Kept k0 s) (kind : Nat) (index : Nat) (version : Nat) (body : List Byte) : Kept k0 (State.recordWrite s kind index version body) := by
  unfold State.recordWrite
  try dsimp only
  with_reducible repeat' first
    | assumption | apply State.startRecWrite_kept | (refine Kept.lit rfl rfl rfl rfl rfl rfl ?_; assumption)
    | refine Kept.ite ?_ ?_ | dsimp only

/-! ### Health -/

theorem State.healthLog_kept {k0 s : State} (h : Kept k0 s) (event : Nat) (cause : Nat) (unit : Nat) : Kept k0 (State.healthLog s event cause unit) := by
  unfold State.healthLog
  with_reducible repeat' first
    | assumption | apply State.logOf_kept

theorem State.healthNotice_kept {k0 s : State} (h : Kept k0 s) (code : Nat) (cause : Nat) (unit : Nat) : Kept k0 (State.healthNotice s code cause unit) := by
  unfold State.healthNotice
  with_reducible repeat' first
    | assumption | (refine Kept.lit rfl rfl rfl rfl rfl rfl ?_; assumption)

theorem State.sendHealth_kept {k0 s : State} (h : Kept k0 s) : Kept k0 (State.sendHealth s) := by
  unfold State.sendHealth
  try dsimp only
  with_reducible repeat' first
    | assumption | apply State.notice_kept | refine Kept.foldl (fun _ _ _ => ?_) ?_
    | (refine Kept.lit rfl rfl rfl rfl rfl rfl ?_; first | assumption | apply State.notice_kept | refine Kept.foldl (fun _ _ _ => ?_) ?_ | refine Kept.ite ?_ ?_)
    | refine Kept.ite ?_ ?_ | dsimp only

theorem State.replaceNotice_kept {k0 s : State} (h : Kept k0 s) (cause : Nat) (unit : Nat) : Kept k0 (State.replaceNotice s cause unit) := by
  unfold State.replaceNotice
  with_reducible repeat' first
    | assumption | apply State.healthNotice_kept | apply State.healthLog_kept

theorem State.advise_kept {k0 s : State} (h : Kept k0 s) (b : Nat) (unit : Nat) : Kept k0 (State.advise s b unit) := by
  unfold State.advise
  try dsimp only
  with_reducible repeat' first
    | assumption | apply State.orReg_kept | apply State.healthNotice_kept | apply State.healthLog_kept | refine Kept.ite ?_ ?_
    | dsimp only

theorem State.writeHealth_kept {k0 s : State} (h : Kept k0 s) : Kept k0 (State.writeHealth s) := by
  unfold State.writeHealth
  with_reducible repeat' first
    | assumption | apply State.orReg_kept | apply State.recordWrite_kept | refine Kept.ite ?_ ?_

theorem State.healthTick_kept {k0 s : State} (h : Kept k0 s) : Kept k0 (State.healthTick s) := by
  unfold State.healthTick
  with_reducible repeat' first
    | assumption | apply State.writeHealth_kept | (refine Kept.lit rfl rfl rfl rfl rfl rfl ?_; assumption)
    | refine Kept.ite ?_ ?_

theorem State.healthSlice_kept {k0 s : State} (h : Kept k0 s) (c : Nat) (k : Nat) : Kept k0 (State.healthSlice s c k) := by
  unfold State.healthSlice
  try dsimp only
  with_reducible repeat' first
    | assumption | apply State.noteSet_kept | apply State.replaceNotice_kept | apply State.writeHealth_kept
    | (refine Kept.lit rfl rfl rfl rfl rfl rfl ?_; first | assumption | apply State.noteSet_kept | apply State.replaceNotice_kept | apply State.writeHealth_kept | refine Kept.ite ?_ ?_)
    | refine Kept.ite ?_ ?_ | dsimp only

theorem State.healthWheel_kept {k0 s : State} (h : Kept k0 s) (w : Nat) : Kept k0 (State.healthWheel s w) := by
  unfold State.healthWheel
  try dsimp only
  with_reducible repeat' first
    | assumption | apply State.noteSet_kept | apply State.replaceNotice_kept | apply State.writeHealth_kept
    | (refine Kept.lit rfl rfl rfl rfl rfl rfl ?_; first | assumption | apply State.noteSet_kept | apply State.replaceNotice_kept | apply State.writeHealth_kept | refine Kept.ite ?_ ?_)
    | refine Kept.ite ?_ ?_ | dsimp only

theorem State.notifyOnce_kept {k0 s : State} (h : Kept k0 s) (bit : Nat) (cause : Nat) (unit : Nat) : Kept k0 (State.notifyOnce s bit cause unit) := by
  unfold State.notifyOnce
  with_reducible repeat' first
    | assumption | apply State.replaceNotice_kept | apply State.writeHealth_kept
    | (refine Kept.lit rfl rfl rfl rfl rfl rfl ?_; assumption) | refine Kept.ite ?_ ?_

theorem State.unnotify_kept {k0 s : State} (h : Kept k0 s) (bit : Nat) : Kept k0 (State.unnotify s bit) := by
  unfold State.unnotify
  with_reducible repeat' first
    | assumption | apply State.writeHealth_kept | (refine Kept.lit rfl rfl rfl rfl rfl rfl ?_; assumption)
    | refine Kept.ite ?_ ?_

theorem State.healthPool_kept {k0 s : State} (h : Kept k0 s) (level : Nat) : Kept k0 (State.healthPool s level) := by
  unfold State.healthPool
  with_reducible repeat' first
    | assumption | apply State.notifyOnce_kept | apply State.unnotify_kept
    | (refine Kept.lit rfl rfl rfl rfl rfl rfl ?_; assumption) | refine Kept.ite ?_ ?_

theorem State.healthModel_kept {k0 s : State} (h : Kept k0 s) : Kept k0 (State.healthModel s) := by
  unfold State.healthModel
  with_reducible repeat' first
    | assumption | apply State.notifyOnce_kept | (refine Kept.lit rfl rfl rfl rfl rfl rfl ?_; assumption)
    | refine Kept.ite ?_ ?_

theorem State.healthModelOk_kept {k0 s : State} (h : Kept k0 s) : Kept k0 (State.healthModelOk s) := by
  unfold State.healthModelOk
  with_reducible repeat' first
    | assumption | apply State.unnotify_kept | (refine Kept.lit rfl rfl rfl rfl rfl rfl ?_; assumption) | refine Kept.ite ?_ ?_

theorem State.healthLife_kept {k0 s : State} (h : Kept k0 s) : Kept k0 (State.healthLife s) := by
  unfold State.healthLife
  try dsimp only
  with_reducible repeat' first
    | assumption | apply State.notifyOnce_kept | apply State.unnotify_kept | apply State.advise_kept
    | (refine Kept.lit rfl rfl rfl rfl rfl rfl ?_; first | assumption | apply State.notifyOnce_kept | apply State.unnotify_kept | apply State.advise_kept | refine Kept.ite ?_ ?_)
    | refine Kept.ite ?_ ?_ | dsimp only

theorem State.accountLife_kept {k0 s : State} (h : Kept k0 s) (t : Int) (n : Nat) : Kept k0 (State.accountLife s t n) := by
  unfold State.accountLife
  try dsimp only
  with_reducible repeat' first
    | assumption | apply State.healthLife_kept | refine Kept.getD ?_ (fun _ _ => ?_)
    | (refine Kept.lit rfl rfl rfl rfl rfl rfl ?_; assumption) | refine Kept.ite ?_ ?_ | dsimp only

theorem State.setHealthTemp_kept {k0 s : State} (h : Kept k0 s) (t : Int) : Kept k0 (State.setHealthTemp s t) := by
  unfold State.setHealthTemp
  with_reducible repeat' first
    | assumption | (refine Kept.lit rfl rfl rfl rfl rfl rfl ?_; assumption) | refine Kept.ite ?_ ?_

theorem State.setHealthSecond_kept {k0 s : State} (h : Kept k0 s) (t : Nat) : Kept k0 (State.setHealthSecond s t) := by
  unfold State.setHealthSecond
  with_reducible repeat' first
    | assumption | (refine Kept.lit rfl rfl rfl rfl rfl rfl ?_; assumption)

theorem State.healthTemp_kept {k0 s : State} (h : Kept k0 s) (t : Int) : Kept k0 (State.healthTemp s t) := by
  unfold State.healthTemp
  try dsimp only
  with_reducible repeat' first
    | assumption | apply State.setHealthTemp_kept | apply State.setHealthSecond_kept | apply State.accountLife_kept
    | apply State.advise_kept
    | (refine Kept.lit rfl rfl rfl rfl rfl rfl ?_; first | assumption | apply State.setHealthTemp_kept | apply State.setHealthSecond_kept | apply State.accountLife_kept | apply State.advise_kept | refine Kept.ite ?_ ?_)
    | refine Kept.ite ?_ ?_ | dsimp only

theorem State.accountStandby_kept {k0 s : State} (h : Kept k0 s) (t : Int) (n : Nat) : Kept k0 (State.accountStandby s t n) := by
  unfold State.accountStandby
  try dsimp only
  with_reducible repeat' first
    | assumption | apply State.setHealthTemp_kept | apply State.accountLife_kept | refine Kept.getD ?_ (fun _ _ => ?_)
    | (refine Kept.lit rfl rfl rfl rfl rfl rfl ?_; first | assumption | apply State.setHealthTemp_kept | apply State.accountLife_kept | refine Kept.getD ?_ (fun _ _ => ?_) | refine Kept.ite ?_ ?_)
    | refine Kept.ite ?_ ?_ | dsimp only

theorem State.healthXchk_kept {k0 s : State} (h : Kept k0 s) : Kept k0 (State.healthXchk s) := by
  unfold State.healthXchk
  try dsimp only
  with_reducible repeat' first
    | assumption | apply State.advise_kept | (refine Kept.lit rfl rfl rfl rfl rfl rfl ?_; assumption) | refine Kept.ite ?_ ?_
    | dsimp only

theorem State.healthClear_kept {k0 s : State} (h : Kept k0 s) (w : Word) : Kept k0 (State.healthClear s w) := by
  unfold State.healthClear
  try dsimp only
  with_reducible repeat' first
    | assumption | apply State.orReg_kept | apply State.clrReg_kept | apply State.logOf_kept | apply State.writeHealth_kept
    | refine Kept.getD ?_ (fun _ _ => ?_) | refine Kept.foldl (fun _ _ _ => ?_) ?_
    | (refine Kept.lit rfl rfl rfl rfl rfl rfl ?_; assumption) | refine Kept.ite ?_ ?_ | dsimp only

theorem State.renewHealth_kept {k0 s : State} (h : Kept k0 s) : Kept k0 (State.renewHealth s) := by
  unfold State.renewHealth
  with_reducible repeat' first
    | assumption | apply State.writeHealth_kept | refine Kept.ite ?_ ?_ | dsimp only

theorem State.healthMount_kept {k0 s : State} (h : Kept k0 s) (body : Option (List Byte)) (existed : Bool) : Kept k0 (State.healthMount s body existed) := by
  unfold State.healthMount
  try dsimp only
  with_reducible repeat' first
    | assumption | apply State.renewHealth_kept | apply State.healthLife_kept | apply State.writeHealth_kept
    | apply State.orReg_kept | (refine Kept.lit rfl rfl rfl rfl rfl rfl ?_; assumption) | refine Kept.ite ?_ ?_ | split
    | dsimp only

/-! ### Link -/

theorem State.goBackRing_kept {q s : State} (h : Kept q s) : Kept q s.goBackRing := by
  refine h.codes ?_ rfl rfl rfl rfl rfl
  have e : (s.goBackRing.link.ring.map Notice.code) = s.link.ring.map Notice.code := by
    show List.map _ (List.map _ _) = _
    rw [List.map_map]
    refine List.map_congr_left (fun n _ => ?_)
    show Notice.code (if n.sent then { n with queued := true, txAt := s.now } else n) = n.code
    split <;> rfl
  exact e ▸ List.Sublist.refl _

theorem State.endStale_kept {k0 s : State} (h : Kept k0 s) : Kept k0 (State.endStale s) := by
  unfold State.endStale
  with_reducible repeat' first
    | assumption | apply State.goBackRing_kept | (refine Kept.lit rfl rfl rfl rfl rfl rfl ?_; assumption)
    | refine Kept.ite ?_ ?_

theorem sendFirst_codes (now : Nat) (l : List Notice) : (sendFirst now l).map Notice.code = l.map Notice.code := by
  induction l with
  | nil => rfl
  | cons n t ih =>
    unfold sendFirst
    split <;> simp [ih]

theorem State.transmitNotice_kept {q s : State} (h : Kept q s) : Kept q s.transmitNotice := by
  unfold State.transmitNotice
  split
  · split
    · exact h
    · refine h.codes ?_ rfl rfl rfl rfl rfl
      exact (sendFirst_codes s.now s.link.ring) ▸ List.Sublist.refl _
  · exact h

theorem State.goBack_kept {k0 s : State} (h : Kept k0 s) : Kept k0 (State.goBack s) := by
  unfold State.goBack
  try dsimp only
  with_reducible repeat' first
    | assumption | apply State.goBackRing_kept
    | (refine Kept.lit rfl rfl rfl rfl rfl rfl ?_; first | assumption | apply State.goBackRing_kept | refine Kept.ite ?_ ?_)
    | refine Kept.ite ?_ ?_ | dsimp only

theorem State.linkStale_kept {k0 s : State} (h : Kept k0 s) : Kept k0 (State.linkStale s) := by
  unfold State.linkStale
  with_reducible repeat' first
    | assumption | (refine Kept.lit rfl rfl rfl rfl rfl rfl ?_; assumption) | refine Kept.ite ?_ ?_

theorem State.noticeRetract_kept {k0 s : State} (h : Kept k0 s) (n : Nat) : Kept k0 (State.noticeRetract s n) := by
  unfold State.noticeRetract
  with_reducible repeat' first
    | assumption | apply State.notice_kept | refine Kept.ite ?_ ?_

theorem State.renewRetract_kept {k0 s : State} (h : Kept k0 s) (e : Notice) : Kept k0 (State.renewRetract s e) := by
  unfold State.renewRetract
  try dsimp only
  with_reducible repeat' first
    | assumption | apply State.noticeRetract_kept | refine Kept.ite ?_ ?_ | dsimp only

theorem splitAck_sublist {m : Nat} {l a b : List Notice} (h : splitAck m l = some (a, b)) : b.Sublist l := by
  induction l generalizing a b with
  | nil => cases h
  | cons n t ih =>
    unfold splitAck at h
    split at h
    · split at h
      · cases h; exact List.sublist_cons_self _ _
      · split at h
        · cases h
        · rename_i heq
          cases h
          exact (ih heq).cons _
    · cases h

theorem State.ackNow_kept {q s : State} (h : Kept q s) (m : Nat) : Kept q (s.ackNow m) := by
  unfold State.ackNow
  split
  · exact State.satInc_kept h _ _ _
  · rename_i heq
    refine Kept.foldl (fun _ _ h => State.renewRetract_kept h _) (State.endStale_kept ?_)
    exact h.codes ((splitAck_sublist heq).map _) rfl rfl rfl rfl rfl

theorem State.ack_kept {k0 s : State} (h : Kept k0 s) (m : Nat) : Kept k0 (State.ack s m) := by
  unfold State.ack
  try dsimp only
  with_reducible repeat' first
    | assumption | apply State.openCycle_kept | apply State.closeCycle_kept | apply State.ackNow_kept
    | apply State.noticeAll_kept | refine Kept.ite ?_ ?_ | dsimp only

theorem State.busOff_kept {k0 s : State} (h : Kept k0 s) : Kept k0 s.busOff := by
  unfold State.busOff
  split
  · exact h.fields rfl rfl rfl rfl rfl rfl
  · exact h

theorem State.busOffRecovery_kept {k0 s : State} (h : Kept k0 s) : Kept k0 (State.busOffRecovery s) := by
  unfold State.busOffRecovery
  try dsimp only
  with_reducible repeat' first
    | assumption | apply State.busOff_kept | apply State.goBackRing_kept | apply State.notice_kept
    | (refine Kept.lit rfl rfl rfl rfl rfl rfl ?_; assumption) | refine Kept.ite ?_ ?_ | dsimp only

theorem State.errorPassive_kept {k0 s : State} (h : Kept k0 s) (tx : Nat) (rx : Nat) : Kept k0 (State.errorPassive s tx rx) := by
  unfold State.errorPassive
  with_reducible repeat' first
    | assumption | (refine Kept.lit rfl rfl rfl rfl rfl rfl ?_; assumption) | refine Kept.ite ?_ ?_

theorem State.busIntegrated_kept {k0 s : State} (h : Kept k0 s) : Kept k0 (State.busIntegrated s) := by
  unfold State.busIntegrated
  with_reducible repeat' first
    | assumption | apply State.errorPassive_kept | (refine Kept.lit rfl rfl rfl rfl rfl rfl ?_; assumption)
    | refine Kept.ite ?_ ?_

theorem State.applyLinkSettings_kept {k0 s : State} (h : Kept k0 s) : Kept k0 (State.applyLinkSettings s) := by
  unfold State.applyLinkSettings
  with_reducible repeat' first
    | assumption | apply State.busOff_kept | apply State.goBackRing_kept
    | (refine Kept.lit rfl rfl rfl rfl rfl rfl ?_; assumption) | refine Kept.ite ?_ ?_

theorem State.ignoredFrame_kept {k0 s : State} (h : Kept k0 s) (f : BusFrame) : Kept k0 (State.ignoredFrame s f) := by
  unfold State.ignoredFrame
  with_reducible repeat' first
    | assumption | apply State.satInc_kept | refine Kept.ite ?_ ?_

theorem State.handOver_kept {k0 s : State} (h : Kept k0 s) (f : List Byte) : Kept k0 (State.handOver s f) := by
  unfold State.handOver
  with_reducible repeat' first
    | assumption | (refine Kept.lit rfl rfl rfl rfl rfl rfl ?_; assumption)

theorem State.markMine_kept {k0 s : State} (h : Kept k0 s) (before : State) : Kept k0 (State.markMine before s) := by
  unfold State.markMine
  try dsimp only
  with_reducible repeat' first
    | assumption | (refine Kept.lit rfl rfl rfl rfl rfl rfl ?_; assumption) | dsimp only

theorem State.holdNotices_kept {q before s : State} (hb : Kept q before) (h : Kept q s) : Kept q (before.holdNotices s) :=
  ⟨h.pending, h.regs, h.sram, hb.ring, h.otp⟩

theorem State.releaseIn_kept {k0 s : State} (h : Kept k0 s) : Kept k0 (State.releaseIn s) := by
  unfold State.releaseIn
  with_reducible repeat' first
    | assumption | apply State.noticeAll_kept | (refine Kept.lit rfl rfl rfl rfl rfl rfl ?_; assumption)

theorem State.respond_kept {q before : State} (hb : Kept q before) (seq op : Nat) {r : Reply} (h : Kept q r.next) :
    Kept q (before.respond seq op r) := by
  have hm : ∀ s, Kept q s → Kept q (State.markMine before (State.holdNotices before s)) := fun s hs =>
    State.markMine_kept (State.holdNotices_kept hb hs) _
  unfold State.respond
  split
  · exact (hm _ h).fields rfl rfl rfl rfl rfl rfl
  · have h1 : ∀ (c : Prop) [Decidable c] (x : Option CacheEntry), Kept q (if c then { r.next with link := { r.next.link with cache := x } } else r.next) :=
      fun c _ x => Kept.ite (h.fields rfl rfl rfl rfl rfl rfl) h
    dsimp only
    refine Kept.ite (Kept.ite ?_ ?_) (State.handOver_kept (h1 _ _) _)
    · exact (hm _ (h1 _ _)).fields rfl rfl rfl rfl rfl rfl
    · exact State.releaseIn_kept (State.handOver_kept (hm _ (h1 _ _)) _)

theorem State.command_kept {q s : State} (h : Kept q s) (op need : Nat) (allowed : State → Bool) (entryOk : Bool) {body : State → Reply}
    (hb : ∀ s, Kept q s → Kept q (body s).next) (seq : Nat) (args : List Byte) :
    Kept q (s.command op need allowed entryOk body seq args) := by
  have h1 : Kept q { s.endStale.closeCycle with power := { s.endStale.power with activeAt := s.now } } :=
    (State.closeCycle_kept (State.endStale_kept h)).fields rfl rfl rfl rfl rfl rfl
  unfold State.command
  split
  · dsimp only
    repeat' split
    all_goals first
      | exact State.respond_kept h1 _ _ h1
      | exact State.respond_kept h1 _ _ (hb _ h1)
      | exact State.handOver_kept h1 _
  · exact h

/-! ### Wheel -/

theorem State.setWheel_kept {k0 s : State} (h : Kept k0 s) (n : Fin 4) (w : WheelSt) : Kept k0 (State.setWheel s n w) := by
  unfold State.setWheel
  with_reducible repeat' first
    | assumption | (refine Kept.lit rfl rfl rfl rfl rfl rfl ?_; assumption)

/-! ### Clocking -/

theorem State.setTimer_kept {k0 s : State} (h : Kept k0 s) (n : Fin 16) (t : TimerSt) : Kept k0 (State.setTimer s n t) := by
  unfold State.setTimer
  with_reducible repeat' first
    | assumption | (refine Kept.lit rfl rfl rfl rfl rfl rfl ?_; assumption)

theorem State.setPllOn_kept {k0 s : State} (h : Kept k0 s) (b : Bool) : Kept k0 (State.setPllOn s b) := by
  unfold State.setPllOn
  with_reducible repeat' first
    | assumption | (refine Kept.lit rfl rfl rfl rfl rfl rfl ?_; assumption)

theorem State.ownSources_kept {k0 s : State} (h : Kept k0 s) : Kept k0 (State.ownSources s) := by
  unfold State.ownSources
  with_reducible repeat' first
    | assumption | (refine Kept.lit rfl rfl rfl rfl rfl rfl ?_; assumption) | dsimp only

theorem State.lfClocks_kept {k0 s : State} (h : Kept k0 s) (lf : Nat) : Kept k0 (State.lfClocks s lf) := by
  unfold State.lfClocks
  try dsimp only
  with_reducible repeat' first
    | assumption | (refine Kept.lit rfl rfl rfl rfl rfl rfl ?_; assumption) | dsimp only

theorem State.angClocks_kept {k0 s : State} (h : Kept k0 s) (d : Span) : Kept k0 (State.angClocks s d) := by
  unfold State.angClocks
  with_reducible repeat' first
    | assumption | (refine Kept.lit rfl rfl rfl rfl rfl rfl ?_; assumption) | dsimp only

theorem State.wakeClocks_kept {k0 s : State} (h : Kept k0 s) (d : Span) : Kept k0 (State.wakeClocks s d) := by
  unfold State.wakeClocks
  try dsimp only
  with_reducible repeat' first
    | assumption | apply State.lfClocks_kept | apply State.ownSources_kept | apply State.setPllOn_kept | refine Kept.ite ?_ ?_
    | dsimp only

theorem State.runClocks_kept {k0 s : State} (h : Kept k0 s) (d : Span) : Kept k0 (State.runClocks s d) := by
  unfold State.runClocks
  with_reducible repeat' first
    | assumption | apply State.lfClocks_kept | apply State.wakeClocks_kept | apply State.angClocks_kept
    | (refine Kept.lit rfl rfl rfl rfl rfl rfl ?_; assumption) | refine Kept.ite ?_ ?_ | split | dsimp only

/-! ### Fabric -/

theorem State.setOut_kept {k0 s : State} (h : Kept k0 s) (n : Fin 32) (o : OutSt) : Kept k0 (State.setOut s n o) := by
  unfold State.setOut
  with_reducible repeat' first
    | assumption | (refine Kept.lit rfl rfl rfl rfl rfl rfl ?_; assumption)

theorem State.setCopy_kept {k0 s : State} (h : Kept k0 s) (m : Master) (c : MasterCopy) : Kept k0 (State.setCopy s m c) := by
  unfold State.setCopy
  with_reducible repeat' first
    | assumption | (refine Kept.lit rfl rfl rfl rfl rfl rfl ?_; assumption) | split | dsimp only

theorem State.setAdc_kept {k0 s : State} (h : Kept k0 s) (x : Conv) (a : AdcSt) : Kept k0 (State.setAdc s x a) := by
  unfold State.setAdc
  with_reducible repeat' first
    | assumption | (refine Kept.lit rfl rfl rfl rfl rfl rfl ?_; assumption) | split | dsimp only

theorem State.setSeq_kept {k0 s : State} (h : Kept k0 s) (x : Conv) (inj : Bool) (q : SeqSt) : Kept k0 (State.setSeq s x inj q) := by
  unfold State.setSeq
  with_reducible repeat' first
    | assumption | (refine Kept.lit rfl rfl rfl rfl rfl rfl ?_; assumption) | split | dsimp only

theorem State.setCh_kept {k0 s : State} (h : Kept k0 s) (n : Fin 16) (c : DmaCh) : Kept k0 (State.setCh s n c) := by
  unfold State.setCh
  with_reducible repeat' first
    | assumption | (refine Kept.lit rfl rfl rfl rfl rfl rfl ?_; assumption)

theorem State.requestWake_kept {k0 s : State} (h : Kept k0 s) (m : Nat) : Kept k0 (State.requestWake s m) := by
  unfold State.requestWake
  try dsimp only
  with_reducible repeat' first
    | assumption | apply State.orReg_kept
    | (refine Kept.lit rfl rfl rfl rfl rfl rfl ?_; first | assumption | apply State.orReg_kept | refine Kept.ite ?_ ?_)
    | refine Kept.ite ?_ ?_ | dsimp only

theorem State.pulseSeq_kept {k0 s : State} (h : Kept k0 s) (p : Pulse) (spec : Bool) (x : Conv) (inj : Bool) : Kept k0 (State.pulseSeq s p spec x inj) := by
  unfold State.pulseSeq
  try dsimp only
  with_reducible repeat' first
    | assumption | apply State.setSeq_kept | (refine Kept.lit rfl rfl rfl rfl rfl rfl ?_; assumption) | refine Kept.ite ?_ ?_
    | dsimp only

theorem State.pulseTimer_kept {k0 s : State} (h : Kept k0 s) (p : Pulse) (n : Fin 16) : Kept k0 (State.pulseTimer s p n) := by
  unfold State.pulseTimer
  try dsimp only
  with_reducible repeat' first
    | assumption | apply State.setTimer_kept | refine Kept.getD ?_ (fun _ _ => ?_)
    | (refine Kept.lit rfl rfl rfl rfl rfl rfl ?_; assumption) | refine Kept.ite ?_ ?_ | split | dsimp only

theorem State.pulseDma_kept {k0 s : State} (h : Kept k0 s) (p : Pulse) (n : Fin 16) : Kept k0 (State.pulseDma s p n) := by
  unfold State.pulseDma
  try dsimp only
  with_reducible repeat' first
    | assumption | apply State.setCh_kept | (refine Kept.lit rfl rfl rfl rfl rfl rfl ?_; assumption) | refine Kept.ite ?_ ?_
    | dsimp only

theorem State.raise_kept {k0 s : State} (h : Kept k0 s) (p : Pulse) (spec : Bool) : Kept k0 (State.raise s p spec) := by
  unfold State.raise
  try dsimp only
  with_reducible repeat' first
    | assumption | apply State.pulseSeq_kept | apply State.pulseTimer_kept | apply State.pulseDma_kept
    | refine Kept.foldl (fun _ _ _ => ?_) ?_ | dsimp only

theorem State.releaseTimer_kept {k0 s : State} (h : Kept k0 s) (n : Fin 16) : Kept k0 (State.releaseTimer s n) := by
  unfold State.releaseTimer
  try dsimp only
  with_reducible repeat' first
    | assumption | apply State.setTimer_kept | (refine Kept.lit rfl rfl rfl rfl rfl rfl ?_; assumption) | dsimp only

theorem State.autostartTimers_kept {k0 s : State} (h : Kept k0 s) : Kept k0 (State.autostartTimers s) := by
  unfold State.autostartTimers
  with_reducible repeat' first
    | assumption | apply State.releaseTimer_kept | refine Kept.foldl (fun _ _ _ => ?_) ?_ | refine Kept.ite ?_ ?_ | dsimp only

theorem State.gstart_kept {k0 s : State} (h : Kept k0 s) (m : Nat) (c : Nat) : Kept k0 (State.gstart s m c) := by
  unfold State.gstart
  try dsimp only
  with_reducible repeat' first
    | assumption | apply State.setTimer_kept | refine Kept.getD ?_ (fun _ _ => ?_) | refine Kept.foldl (fun _ _ _ => ?_) ?_
    | (refine Kept.lit rfl rfl rfl rfl rfl rfl ?_; assumption) | refine Kept.ite ?_ ?_ | dsimp only

theorem State.sendSignal_kept {k0 s : State} (h : Kept k0 s) (n : Fin 16) (sig : Fin 16) (spec : Bool) : Kept k0 (State.sendSignal s n sig spec) := by
  unfold State.sendSignal
  try dsimp only
  with_reducible repeat' first
    | assumption | apply State.setCh_kept | apply State.orReg_kept | (refine Kept.lit rfl rfl rfl rfl rfl rfl ?_; assumption)
    | refine Kept.ite ?_ ?_ | dsimp only

theorem State.dmaRequest_kept {k0 s : State} (h : Kept k0 s) (line : Nat) (entry : Nat) (spec : Bool) : Kept k0 (State.dmaRequest s line entry spec) := by
  unfold State.dmaRequest
  try dsimp only
  with_reducible repeat' first
    | assumption | apply State.setCh_kept | apply State.satInc_kept | refine Kept.foldl (fun _ _ _ => ?_) ?_
    | (refine Kept.lit rfl rfl rfl rfl rfl rfl ?_; assumption) | refine Kept.ite ?_ ?_ | dsimp only

/-! ### Timer -/

theorem State.timerFlags_kept {k0 s : State} (h : Kept k0 s) (n : Fin 16) (m : Nat) : Kept k0 (State.timerFlags s n m) := by
  unfold State.timerFlags
  try dsimp only
  with_reducible repeat' first
    | assumption | apply State.orReg_kept | apply State.setTimer_kept | apply State.amendNotice_kept
    | (refine Kept.lit rfl rfl rfl rfl rfl rfl ?_; assumption) | refine Kept.ite ?_ ?_ | split | dsimp only

theorem State.releaseDue_kept {k0 s : State} (h : Kept k0 s) (n : Fin 16) : Kept k0 (State.releaseDue s n) := by
  unfold State.releaseDue
  try dsimp only
  with_reducible repeat' first
    | assumption | apply State.setTimer_kept | apply State.releaseTimer_kept
    | (refine Kept.lit rfl rfl rfl rfl rfl rfl ?_; assumption) | refine Kept.ite ?_ ?_ | dsimp only

theorem State.timerRelease_kept {k0 s : State} (h : Kept k0 s) (m : Nat) : Kept k0 (State.timerRelease s m) := by
  unfold State.timerRelease
  with_reducible repeat' first
    | assumption | apply State.releaseDue_kept | apply State.gstart_kept | refine Kept.foldl (fun _ _ _ => ?_) ?_ | dsimp only

theorem State.wrapStart_kept {k0 s : State} (h : Kept k0 s) (n : Fin 16) : Kept k0 (State.wrapStart s n) := by
  unfold State.wrapStart
  try dsimp only
  with_reducible repeat' first
    | assumption | apply State.setTimer_kept
    | (refine Kept.lit rfl rfl rfl rfl rfl rfl ?_; first | assumption | apply State.setTimer_kept | refine Kept.ite ?_ ?_)
    | refine Kept.ite ?_ ?_ | dsimp only

theorem State.wrapEnd_kept {k0 s : State} (h : Kept k0 s) (n : Fin 16) : Kept k0 (State.wrapEnd s n) := by
  unfold State.wrapEnd
  with_reducible repeat' first
    | assumption | apply State.timerFlags_kept | apply State.raise_kept

theorem State.timerMatchA_kept {k0 s : State} (h : Kept k0 s) (n : Fin 16) : Kept k0 (State.timerMatchA s n) := by
  unfold State.timerMatchA
  try dsimp only
  with_reducible repeat' first
    | assumption | apply State.setTimer_kept | apply State.timerFlags_kept | apply State.raise_kept
    | apply State.requestWake_kept | (refine Kept.lit rfl rfl rfl rfl rfl rfl ?_; assumption) | refine Kept.ite ?_ ?_ | split
    | dsimp only

theorem State.timerMatchB_kept {k0 s : State} (h : Kept k0 s) (n : Fin 16) : Kept k0 (State.timerMatchB s n) := by
  unfold State.timerMatchB
  try dsimp only
  with_reducible repeat' first
    | assumption | apply State.setTimer_kept | apply State.timerFlags_kept | apply State.raise_kept
    | apply State.requestWake_kept | (refine Kept.lit rfl rfl rfl rfl rfl rfl ?_; assumption) | refine Kept.ite ?_ ?_ | split
    | dsimp only

theorem State.timerResetLoad_kept {k0 s : State} (h : Kept k0 s) (n : Fin 16) : Kept k0 (State.timerResetLoad s n) := by
  unfold State.timerResetLoad
  try dsimp only
  with_reducible repeat' first
    | assumption | apply State.setTimer_kept | (refine Kept.lit rfl rfl rfl rfl rfl rfl ?_; assumption) | refine Kept.ite ?_ ?_
    | dsimp only

theorem State.timerCaptureNow_kept {k0 s : State} (h : Kept k0 s) (n : Fin 16) : Kept k0 (State.timerCaptureNow s n) := by
  unfold State.timerCaptureNow
  try dsimp only
  with_reducible repeat' first
    | assumption | apply State.setTimer_kept | apply State.timerFlags_kept
    | (refine Kept.lit rfl rfl rfl rfl rfl rfl ?_; assumption) | refine Kept.ite ?_ ?_ | dsimp only

theorem State.timerCapture_kept {k0 s : State} (h : Kept k0 s) (n : Fin 16) (pin : Option Bool) : Kept k0 (State.timerCapture s n pin) := by
  unfold State.timerCapture
  try dsimp only
  with_reducible repeat' first
    | assumption | apply State.setTimer_kept | apply State.timerCaptureNow_kept
    | (refine Kept.lit rfl rfl rfl rfl rfl rfl ?_; assumption) | refine Kept.ite ?_ ?_ | split | dsimp only

theorem State.swCapture_kept {k0 s : State} (h : Kept k0 s) (m : Nat) : Kept k0 (State.swCapture s m) := by
  unfold State.swCapture
  with_reducible repeat' first
    | assumption | apply State.setTimer_kept | refine Kept.foldl (fun _ _ _ => ?_) ?_
    | (refine Kept.lit rfl rfl rfl rfl rfl rfl ?_; assumption) | refine Kept.ite ?_ ?_ | dsimp only

theorem State.compareHigh_kept {k0 s : State} (h : Kept k0 s) (m : Master) (v : Word) : Kept k0 (State.compareHigh s m v) := by
  unfold State.compareHigh
  with_reducible repeat' first
    | assumption | apply State.setCopy_kept | (refine Kept.lit rfl rfl rfl rfl rfl rfl ?_; assumption)

theorem State.compareLow_kept {k0 s : State} (h : Kept k0 s) (m : Master) (n : Fin 16) (chanB : Bool) (v : Word) : Kept k0 (State.compareLow s m n chanB v) := by
  unfold State.compareLow
  try dsimp only
  with_reducible repeat' first
    | assumption | apply State.setTimer_kept | (refine Kept.lit rfl rfl rfl rfl rfl rfl ?_; assumption) | dsimp only

theorem State.timerReadLow_kept {k0 s : State} (h : Kept k0 s) (m : Master) (n : Fin 16) (cap : Bool) : Kept k0 (State.timerReadLow s m n cap).2 := by
  unfold State.timerReadLow
  try dsimp only
  with_reducible repeat' first
    | assumption | apply State.setCopy_kept | apply State.setTimer_kept
    | (refine Kept.lit rfl rfl rfl rfl rfl rfl ?_; assumption) | refine Kept.ite ?_ ?_ | split | dsimp only

theorem State.timerReadHigh_kept {k0 s : State} (h : Kept k0 s) (m : Master) (n : Fin 16) (cap : Bool) : Kept k0 (State.timerReadHigh s m n cap).2 := by
  unfold State.timerReadHigh
  try dsimp only
  with_reducible repeat' first
    | assumption | apply State.setCopy_kept | (refine Kept.lit rfl rfl rfl rfl rfl rfl ?_; assumption) | refine Kept.ite ?_ ?_
    | split | dsimp only

theorem State.commitTimer_kept {k0 s : State} (h : Kept k0 s) (o : Nat → Word) (c : Nat → Word) (n : Fin 16) : Kept k0 (State.commitTimer s o c n) := by
  unfold State.commitTimer
  try dsimp only
  with_reducible repeat' first
    | assumption | apply State.setTimer_kept | refine Kept.getD ?_ (fun _ _ => ?_)
    | (refine Kept.lit rfl rfl rfl rfl rfl rfl ?_; assumption) | refine Kept.ite ?_ ?_ | dsimp only

/-! ### Evq -/

theorem State.insertEvent_kept {k0 s : State} (h : Kept k0 s) (m : Master) (d : EventDesc) : Kept k0 (State.insertEvent s m d) := by
  unfold State.insertEvent
  try dsimp only
  with_reducible repeat' first
    | assumption | apply State.setCopy_kept | apply State.setOut_kept | apply State.orReg_kept | apply State.satInc_kept
    | (refine Kept.lit rfl rfl rfl rfl rfl rfl ?_; assumption) | refine Kept.ite ?_ ?_ | dsimp only

theorem State.settlePair_kept {k0 s : State} (h : Kept k0 s) (k : Fin 16) : Kept k0 (State.settlePair s k) := by
  unfold State.settlePair
  try dsimp only
  with_reducible repeat' first
    | assumption | apply State.setOut_kept | apply State.orReg_kept | refine Kept.ite ?_ ?_ | dsimp only

theorem State.settleAll_kept {k0 s : State} (h : Kept k0 s) : Kept k0 (State.settleAll s) := by
  unfold State.settleAll
  with_reducible repeat' first
    | assumption | apply State.settlePair_kept | refine Kept.foldl (fun _ _ _ => ?_) ?_ | dsimp only

theorem State.ilkAgain_kept {k0 s : State} (h : Kept k0 s) : Kept k0 (State.ilkAgain s) := by
  unfold State.ilkAgain
  with_reducible repeat' first
    | assumption | apply State.orReg_kept | refine Kept.foldl (fun _ _ _ => ?_) ?_ | refine Kept.ite ?_ ?_ | dsimp only

theorem State.settle_kept {k0 s : State} (h : Kept k0 s) (n : Fin 32) : Kept k0 (State.settle s n) := by
  unfold State.settle
  with_reducible repeat' first
    | assumption | apply State.settlePair_kept

theorem State.beginHold_kept {k0 s : State} (h : Kept k0 s) (n : Fin 32) (f : OutSt → OutSt) : Kept k0 (State.beginHold s n f) := by
  unfold State.beginHold
  try dsimp only
  with_reducible repeat' first
    | assumption | apply State.setOut_kept | apply State.settle_kept | (refine Kept.lit rfl rfl rfl rfl rfl rfl ?_; assumption)
    | dsimp only

theorem State.flushQueue_kept {k0 s : State} (h : Kept k0 s) (n : Fin 32) : Kept k0 (State.flushQueue s n) := by
  unfold State.flushQueue
  with_reducible repeat' first
    | assumption | apply State.setOut_kept | (refine Kept.lit rfl rfl rfl rfl rfl rfl ?_; assumption)

theorem State.flushQueues_kept {k0 s : State} (h : Kept k0 s) (m : Nat) : Kept k0 (State.flushQueues s m) := by
  unfold State.flushQueues
  with_reducible repeat' first
    | assumption | apply State.flushQueue_kept | refine Kept.foldl (fun _ _ _ => ?_) ?_ | refine Kept.ite ?_ ?_ | dsimp only

theorem State.startChop_kept {k0 s : State} (h : Kept k0 s) (n : Fin 32) : Kept k0 (State.startChop s n) := by
  unfold State.startChop
  try dsimp only
  with_reducible repeat' first
    | assumption | apply State.orReg_kept | apply State.setOut_kept | apply State.settle_kept
    | (refine Kept.lit rfl rfl rfl rfl rfl rfl ?_; assumption) | refine Kept.ite ?_ ?_ | dsimp only

theorem State.endChop_kept {k0 s : State} (h : Kept k0 s) (n : Fin 32) : Kept k0 (State.endChop s n) := by
  unfold State.endChop
  with_reducible repeat' first
    | assumption | apply State.setOut_kept | apply State.settle_kept | (refine Kept.lit rfl rfl rfl rfl rfl rfl ?_; assumption)

theorem State.chopEnter_kept {k0 s : State} (h : Kept k0 s) (n : Fin 32) (cmp : Nat) : Kept k0 (State.chopEnter s n cmp) := by
  unfold State.chopEnter
  try dsimp only
  with_reducible repeat' first
    | assumption | apply State.startChop_kept | refine Kept.ite ?_ ?_ | dsimp only

theorem State.chopLeave_kept {k0 s : State} (h : Kept k0 s) (n : Fin 32) (cmp : Nat) : Kept k0 (State.chopLeave s n cmp) := by
  unfold State.chopLeave
  try dsimp only
  with_reducible repeat' first
    | assumption | apply State.endChop_kept | refine Kept.ite ?_ ?_ | dsimp only

theorem State.chopTimedEnd_kept {k0 s : State} (h : Kept k0 s) (n : Fin 32) : Kept k0 (State.chopTimedEnd s n) := by
  unfold State.chopTimedEnd
  try dsimp only
  with_reducible repeat' first
    | assumption | apply State.endChop_kept | refine Kept.ite ?_ ?_ | dsimp only

theorem State.updateChop_kept {k0 s : State} (h : Kept k0 s) (n : Fin 32) : Kept k0 (State.updateChop s n) := by
  unfold State.updateChop
  try dsimp only
  with_reducible repeat' first
    | assumption | apply State.endChop_kept | apply State.startChop_kept | apply State.chopTimedEnd_kept | refine Kept.ite ?_ ?_
    | dsimp only

theorem State.deadTimeEnd_kept {k0 s : State} (h : Kept k0 s) (k : Fin 16) : Kept k0 (State.deadTimeEnd s k) := by
  unfold State.deadTimeEnd
  with_reducible repeat' first
    | assumption | apply State.settlePair_kept

theorem State.catchFallback_kept {k0 s : State} (h : Kept k0 s) (w : Fin 4) : Kept k0 (State.catchFallback s w) := by
  unfold State.catchFallback
  with_reducible repeat' first
    | assumption | apply State.setOut_kept | refine Kept.foldl (fun _ _ _ => ?_) ?_
    | (refine Kept.lit rfl rfl rfl rfl rfl rfl ?_; assumption) | refine Kept.ite ?_ ?_ | split | dsimp only

theorem State.repeatEvent_kept {k0 s : State} (h : Kept k0 s) (n : Fin 32) (d : EventDesc) : Kept k0 (State.repeatEvent s n d) := by
  unfold State.repeatEvent
  try dsimp only
  with_reducible repeat' first
    | assumption | apply State.satInc_kept | apply State.setOut_kept | (refine Kept.lit rfl rfl rfl rfl rfl rfl ?_; assumption)
    | refine Kept.ite ?_ ?_ | dsimp only

theorem State.pinAction_kept {k0 s : State} (h : Kept k0 s) (n : Fin 32) (lvl : Bool) (p : Option PulseEnd) : Kept k0 (State.pinAction s n lvl p) := by
  unfold State.pinAction
  try dsimp only
  with_reducible repeat' first
    | assumption | apply State.setOut_kept | apply State.settle_kept | (refine Kept.lit rfl rfl rfl rfl rfl rfl ?_; assumption)
    | dsimp only

theorem State.runAction_kept {k0 s : State} (h : Kept k0 s) (n : Fin 32) (d : EventDesc) (spec : Bool) : Kept k0 (State.runAction s n d spec) := by
  unfold State.runAction
  try dsimp only
  with_reducible repeat' first
    | assumption | apply State.pinAction_kept | apply State.setReg_kept | apply State.setOut_kept | apply State.settle_kept
    | apply State.raise_kept | apply State.sendSignal_kept | (refine Kept.lit rfl rfl rfl rfl rfl rfl ?_; assumption) | split
    | dsimp only

theorem State.fireEvent_kept {k0 s : State} (h : Kept k0 s) (n : Fin 32) (d : EventDesc) (kind : Nat) : Kept k0 (State.fireEvent s n d kind) := by
  unfold State.fireEvent
  try dsimp only
  with_reducible repeat' first
    | assumption | apply State.setReg_kept | apply State.setOut_kept | apply State.runAction_kept | apply State.raise_kept
    | (refine Kept.lit rfl rfl rfl rfl rfl rfl ?_; assumption) | refine Kept.ite ?_ ?_ | dsimp only

theorem State.testHead_kept {k0 s : State} (h : Kept k0 s) (n : Fin 32) : Kept k0 (State.testHead s n) := by
  unfold State.testHead
  try dsimp only
  with_reducible repeat' first
    | assumption | apply State.setOut_kept | apply State.orReg_kept | apply State.satInc_kept | apply State.repeatEvent_kept
    | apply State.fireEvent_kept | (refine Kept.lit rfl rfl rfl rfl rfl rfl ?_; assumption) | refine Kept.ite ?_ ?_ | split
    | dsimp only

theorem State.pulseEnd_kept {k0 s : State} (h : Kept k0 s) (n : Fin 32) : Kept k0 (State.pulseEnd s n) := by
  unfold State.pulseEnd
  with_reducible repeat' first
    | assumption | apply State.setOut_kept | apply State.settle_kept | (refine Kept.lit rfl rfl rfl rfl rfl rfl ?_; assumption)
    | refine Kept.ite ?_ ?_

theorem State.eventDue_kept {k0 s : State} (h : Kept k0 s) (n : Fin 32) : Kept k0 (State.eventDue s n) := by
  unfold State.eventDue
  with_reducible repeat' first
    | assumption | apply State.pulseEnd_kept | apply State.testHead_kept

theorem State.probeSample_kept {k0 s : State} (h : Kept k0 s) (n : Fin 32) : Kept k0 (State.probeSample s n) := by
  unfold State.probeSample
  with_reducible repeat' first
    | assumption | apply State.setOut_kept | apply State.raise_kept | (refine Kept.lit rfl rfl rfl rfl rfl rfl ?_; assumption)
    | split | dsimp only

theorem State.compensate_kept {k0 s : State} (h : Kept k0 s) (n : Fin 32) (f : Firing) : Kept k0 (State.compensate s n f) := by
  unfold State.compensate
  try dsimp only
  with_reducible repeat' first
    | assumption | apply State.setOut_kept | apply State.settle_kept | (refine Kept.lit rfl rfl rfl rfl rfl rfl ?_; assumption)
    | split | dsimp only

theorem State.retract_kept {k0 s : State} (h : Kept k0 s) (n : Fin 32) (f : Firing) : Kept k0 (State.retract s n f) := by
  unfold State.retract
  try dsimp only
  with_reducible repeat' first
    | assumption | apply State.compensate_kept | apply State.orReg_kept | apply State.putFld_kept | apply State.setReg_kept
    | apply State.noticeRetract_kept | dsimp only

theorem State.retractAll_kept {k0 s : State} (h : Kept k0 s) (n : Fin 32) (l : List Firing) : Kept k0 (State.retractAll s n l) := by
  unfold State.retractAll
  with_reducible repeat' first
    | assumption | apply State.retract_kept | refine Kept.foldl (fun _ _ _ => ?_) ?_ | dsimp only

theorem State.boundFirings_kept {k0 s : State} (h : Kept k0 s) (n : Fin 32) (v : Fin 4) (a0 : Word) (t0 : Nat) (t1 : Nat) (w : Nat) (untested : Bool) : Kept k0 (State.boundFirings s n v a0 t0 t1 w untested) := by
  unfold State.boundFirings
  try dsimp only
  with_reducible repeat' first
    | assumption | apply State.satCount_kept | apply State.setOut_kept | apply State.retractAll_kept
    | (refine Kept.lit rfl rfl rfl rfl rfl rfl ?_; assumption) | refine Kept.ite ?_ ?_ | dsimp only

theorem State.removeFar_kept {k0 s : State} (h : Kept k0 s) (n : Fin 32) : Kept k0 (State.removeFar s n) := by
  unfold State.removeFar
  try dsimp only
  with_reducible repeat' first
    | assumption | apply State.setOut_kept | apply State.orReg_kept | apply State.satCount_kept
    | (refine Kept.lit rfl rfl rfl rfl rfl rfl ?_; assumption) | refine Kept.ite ?_ ?_ | dsimp only

theorem State.retractWheel_kept {k0 s : State} (h : Kept k0 s) (n : Fin 32) (v : Fin 4) : Kept k0 (State.retractWheel s n v) := by
  unfold State.retractWheel
  try dsimp only
  with_reducible repeat' first
    | assumption | apply State.setOut_kept | apply State.retractAll_kept
    | (refine Kept.lit rfl rfl rfl rfl rfl rfl ?_; assumption) | dsimp only

theorem State.loseLock_kept {k0 s : State} (h : Kept k0 s) (n : Fin 32) : Kept k0 (State.loseLock s n) := by
  unfold State.loseLock
  try dsimp only
  with_reducible repeat' first
    | assumption | apply State.flushQueue_kept | apply State.beginHold_kept
    | (refine Kept.lit rfl rfl rfl rfl rfl rfl ?_; assumption) | refine Kept.ite ?_ ?_ | dsimp only

theorem State.regainLock_kept {k0 s : State} (h : Kept k0 s) (n : Fin 32) : Kept k0 (State.regainLock s n) := by
  unfold State.regainLock
  with_reducible repeat' first
    | assumption | apply State.setOut_kept | apply State.settle_kept | (refine Kept.lit rfl rfl rfl rfl rfl rfl ?_; assumption)
    | refine Kept.ite ?_ ?_

theorem State.updateFallback_kept {k0 s : State} (h : Kept k0 s) (n : Fin 32) (edge : Bool) : Kept k0 (State.updateFallback s n edge) := by
  unfold State.updateFallback
  try dsimp only
  with_reducible repeat' first
    | assumption | apply State.setOut_kept | (refine Kept.lit rfl rfl rfl rfl rfl rfl ?_; assumption) | refine Kept.ite ?_ ?_
    | dsimp only

theorem State.freeFallback_kept {k0 s : State} (h : Kept k0 s) (n : Fin 32) (moved : Bool) : Kept k0 (State.freeFallback s n moved) := by
  unfold State.freeFallback
  with_reducible repeat' first
    | assumption | apply State.setOut_kept | (refine Kept.lit rfl rfl rfl rfl rfl rfl ?_; assumption) | refine Kept.ite ?_ ?_

theorem State.wheelToOutputs_kept {k0 s : State} (h : Kept k0 s) (w : Fin 4) (wasOk : Bool) (edge : Bool) : Kept k0 (State.wheelToOutputs s w wasOk edge) := by
  unfold State.wheelToOutputs
  try dsimp only
  with_reducible repeat' first
    | assumption | apply State.retractWheel_kept | apply State.loseLock_kept | apply State.regainLock_kept
    | apply State.updateFallback_kept | apply State.removeFar_kept | refine Kept.foldl (fun _ _ _ => ?_) ?_
    | refine Kept.ite ?_ ?_ | dsimp only

theorem State.boundOutputs_kept {k0 s : State} (h : Kept k0 s) (w : Fin 4) (a0 : Word) (t0 : Nat) (t1 : Nat) (wd : Nat) (untested : Bool) : Kept k0 (State.boundOutputs s w a0 t0 t1 wd untested) := by
  unfold State.boundOutputs
  with_reducible repeat' first
    | assumption | apply State.boundFirings_kept | refine Kept.foldl (fun _ _ _ => ?_) ?_ | dsimp only

theorem State.outputsOff_kept {k0 s : State} (h : Kept k0 s) : Kept k0 (State.outputsOff s) := by
  unfold State.outputsOff
  with_reducible repeat' first
    | assumption | apply State.setOut_kept | apply State.settleAll_kept | refine Kept.foldl (fun _ _ _ => ?_) ?_ | dsimp only

theorem State.outputsWake_kept {k0 s : State} (h : Kept k0 s) : Kept k0 (State.outputsWake s) := by
  unfold State.outputsWake
  with_reducible repeat' first
    | assumption | (refine Kept.lit rfl rfl rfl rfl rfl rfl ?_; assumption)

theorem State.outputsVioLow_kept {k0 s : State} (h : Kept k0 s) : Kept k0 (State.outputsVioLow s) := by
  unfold State.outputsVioLow
  with_reducible repeat' first
    | assumption | apply State.flushQueue_kept | apply State.beginHold_kept | refine Kept.foldl (fun _ _ _ => ?_) ?_
    | (refine Kept.lit rfl rfl rfl rfl rfl rfl ?_; assumption) | dsimp only

theorem State.outputsVioOk_kept {k0 s : State} (h : Kept k0 s) : Kept k0 (State.outputsVioOk s) := by
  unfold State.outputsVioOk
  with_reducible repeat' first
    | assumption | apply State.setOut_kept | apply State.settle_kept | refine Kept.foldl (fun _ _ _ => ?_) ?_
    | (refine Kept.lit rfl rfl rfl rfl rfl rfl ?_; assumption) | refine Kept.ite ?_ ?_ | dsimp only

theorem State.outputsTest_kept {k0 s : State} (h : Kept k0 s) : Kept k0 (State.outputsTest s) := by
  unfold State.outputsTest
  with_reducible repeat' first
    | assumption | apply State.beginHold_kept | refine Kept.foldl (fun _ _ _ => ?_) ?_
    | (refine Kept.lit rfl rfl rfl rfl rfl rfl ?_; assumption) | dsimp only

theorem State.outputsTestEnd_kept {k0 s : State} (h : Kept k0 s) : Kept k0 (State.outputsTestEnd s) := by
  unfold State.outputsTestEnd
  try dsimp only
  with_reducible repeat' first
    | assumption | apply State.setOut_kept | apply State.settle_kept | apply State.loseLock_kept
    | refine Kept.foldl (fun _ _ _ => ?_) ?_ | (refine Kept.lit rfl rfl rfl rfl rfl rfl ?_; assumption) | refine Kept.ite ?_ ?_
    | dsimp only

/-! ### Converters -/

theorem State.retireSlice_kept {k0 s : State} (h : Kept k0 s) (x : Conv) (k : Fin 9) : Kept k0 (State.retireSlice s x k) := by
  unfold State.retireSlice
  try dsimp only
  with_reducible repeat' first
    | assumption | apply State.setAdc_kept | apply State.notice_kept | apply State.healthSlice_kept | dsimp only

theorem State.failPass_kept {k0 s : State} (h : Kept k0 s) (x : Conv) (k : Fin 9) (cause : Nat) : Kept k0 (State.failPass s x k cause) := by
  unfold State.failPass
  try dsimp only
  with_reducible repeat' first
    | assumption | apply State.setAdc_kept | apply State.retireSlice_kept
    | (refine Kept.lit rfl rfl rfl rfl rfl rfl ?_; assumption) | refine Kept.ite ?_ ?_ | dsimp only

theorem State.passDone_kept {k0 s : State} (h : Kept k0 s) (x : Conv) (low : List (BitVec 16)) (mid : List (BitVec 16)) (high : List (BitVec 16)) : Kept k0 (State.passDone s x low mid high) := by
  unfold State.passDone
  try dsimp only
  with_reducible repeat' first
    | assumption | apply State.setAdc_kept | apply State.failPass_kept
    | (refine Kept.lit rfl rfl rfl rfl rfl rfl ?_; assumption) | refine Kept.ite ?_ ?_ | split | dsimp only

theorem State.rotationBoundary_kept {k0 s : State} (h : Kept k0 s) (x : Conv) : Kept k0 (State.rotationBoundary s x) := by
  unfold State.rotationBoundary
  try dsimp only
  with_reducible repeat' first
    | assumption | apply State.setAdc_kept | (refine Kept.lit rfl rfl rfl rfl rfl rfl ?_; assumption) | refine Kept.ite ?_ ?_
    | split | dsimp only

theorem State.setAdcTest_kept {k0 s : State} (h : Kept k0 s) (x : Conv) (t : SelfTest) : Kept k0 (State.setAdcTest s x t) := by
  unfold State.setAdcTest
  with_reducible repeat' first
    | assumption | (refine Kept.lit rfl rfl rfl rfl rfl rfl ?_; assumption) | split | dsimp only

theorem State.restartDuties_kept {k0 s : State} (h : Kept k0 s) (x : Conv) : Kept k0 (State.restartDuties s x) := by
  unfold State.restartDuties
  try dsimp only
  with_reducible repeat' first
    | assumption | apply State.setAdcTest_kept
    | (refine Kept.lit rfl rfl rfl rfl rfl rfl ?_; first | assumption | apply State.setAdcTest_kept) | split | dsimp only

theorem State.spareHandover_kept {k0 s : State} (h : Kept k0 s) (x : Conv) : Kept k0 (State.spareHandover s x) := by
  unfold State.spareHandover
  try dsimp only
  with_reducible repeat' first
    | assumption | apply State.setAdc_kept | apply State.restartDuties_kept
    | (refine Kept.lit rfl rfl rfl rfl rfl rfl ?_; assumption) | refine Kept.ite ?_ ?_ | split | dsimp only

theorem State.rotate_kept {k0 s : State} (h : Kept k0 s) (x : Conv) : Kept k0 (State.rotate s x) := by
  unfold State.rotate
  with_reducible repeat' first
    | assumption | apply State.rotationBoundary_kept | apply State.spareHandover_kept

theorem State.timeoutSwap_kept {k0 s : State} (h : Kept k0 s) (x : Conv) (k : Fin 9) : Kept k0 (State.timeoutSwap s x k) := by
  unfold State.timeoutSwap
  try dsimp only
  with_reducible repeat' first
    | assumption | apply State.failPass_kept | apply State.setAdc_kept | apply State.restartDuties_kept
    | (refine Kept.lit rfl rfl rfl rfl rfl rfl ?_; assumption) | refine Kept.ite ?_ ?_ | split | dsimp only

theorem State.resumeRotation_kept {k0 s : State} (h : Kept k0 s) (x : Conv) : Kept k0 (State.resumeRotation s x) := by
  unfold State.resumeRotation
  try dsimp only
  with_reducible repeat' first
    | assumption | apply State.setAdc_kept | (refine Kept.lit rfl rfl rfl rfl rfl rfl ?_; assumption) | refine Kept.ite ?_ ?_
    | dsimp only

theorem State.startAdcTest_kept {k0 s : State} (h : Kept k0 s) (x : Conv) : Kept k0 (State.startAdcTest s x) := by
  unfold State.startAdcTest
  with_reducible repeat' first
    | assumption | apply State.setAdcTest_kept | (refine Kept.lit rfl rfl rfl rfl rfl rfl ?_; assumption) | split | dsimp only

theorem State.loadConverter_kept {k0 s : State} (h : Kept k0 s) (x : Conv) : Kept k0 (State.loadConverter s x) := by
  unfold State.loadConverter
  try dsimp only
  with_reducible repeat' first
    | assumption | apply State.setAdc_kept
    | (refine Kept.lit rfl rfl rfl rfl rfl rfl ?_; first | assumption | apply State.setAdc_kept | refine Kept.ite ?_ ?_)
    | refine Kept.ite ?_ ?_ | dsimp only

theorem State.referenceFault_kept {k0 s : State} (h : Kept k0 s) (x : Conv) : Kept k0 (State.referenceFault s x) := by
  unfold State.referenceFault
  with_reducible repeat' first
    | assumption | apply State.orReg_kept | apply State.advise_kept

theorem State.adcTestDone_kept {k0 s : State} (h : Kept k0 s) (x : Conv) (t : AdcTest) : Kept k0 (State.adcTestDone s x t) := by
  unfold State.adcTestDone
  try dsimp only
  with_reducible repeat' first
    | assumption | apply State.setAdcTest_kept | apply State.notice_kept | apply State.failPass_kept
    | apply State.referenceFault_kept | (refine Kept.lit rfl rfl rfl rfl rfl rfl ?_; assumption) | refine Kept.ite ?_ ?_ | split
    | dsimp only

theorem State.setCmp_kept {k0 s : State} (h : Kept k0 s) (c : Fin 16) (v : CmpSt) : Kept k0 (State.setCmp s c v) := by
  unfold State.setCmp
  with_reducible repeat' first
    | assumption | (refine Kept.lit rfl rfl rfl rfl rfl rfl ?_; assumption) | refine Kept.ite ?_ ?_

theorem State.cmpEnter_kept {k0 s : State} (h : Kept k0 s) (c : Fin 16) : Kept k0 (State.cmpEnter s c) := by
  unfold State.cmpEnter
  try dsimp only
  with_reducible repeat' first
    | assumption | apply State.setCmp_kept | apply State.orReg_kept | apply State.satInc_kept | apply State.chopEnter_kept
    | apply State.raise_kept | refine Kept.foldl (fun _ _ _ => ?_) ?_ | (refine Kept.lit rfl rfl rfl rfl rfl rfl ?_; assumption)
    | dsimp only

theorem State.comparatorEnter_kept {k0 s : State} (h : Kept k0 s) (c : Fin 16) (samples : List Int) : Kept k0 (State.comparatorEnter s c samples) := by
  unfold State.comparatorEnter
  with_reducible repeat' first
    | assumption | apply State.cmpEnter_kept | refine Kept.ite ?_ ?_

theorem State.comparatorLeave_kept {k0 s : State} (h : Kept k0 s) (c : Fin 16) (samples : List Int) : Kept k0 (State.comparatorLeave s c samples) := by
  unfold State.comparatorLeave
  try dsimp only
  with_reducible repeat' first
    | assumption | apply State.setCmp_kept | apply State.orReg_kept | apply State.chopLeave_kept
    | refine Kept.foldl (fun _ _ _ => ?_) ?_ | (refine Kept.lit rfl rfl rfl rfl rfl rfl ?_; assumption) | refine Kept.ite ?_ ?_
    | dsimp only

theorem State.comparatorReady_kept {k0 s : State} (h : Kept k0 s) (c : Fin 16) (samples : List Int) : Kept k0 (State.comparatorReady s c samples) := by
  unfold State.comparatorReady
  try dsimp only
  with_reducible repeat' first
    | assumption | apply State.setCmp_kept | apply State.cmpEnter_kept
    | (refine Kept.lit rfl rfl rfl rfl rfl rfl ?_; assumption) | refine Kept.ite ?_ ?_ | dsimp only

theorem State.restartCmp_kept {k0 s : State} (h : Kept k0 s) (c : Fin 16) : Kept k0 (State.restartCmp s c) := by
  unfold State.restartCmp
  try dsimp only
  with_reducible repeat' first
    | assumption | apply State.setCmp_kept | apply State.chopLeave_kept | refine Kept.foldl (fun _ _ _ => ?_) ?_
    | (refine Kept.lit rfl rfl rfl rfl rfl rfl ?_; assumption) | refine Kept.ite ?_ ?_ | dsimp only

theorem State.restartCmps_kept {k0 s : State} (h : Kept k0 s) (x : Conv) : Kept k0 (State.restartCmps s x) := by
  unfold State.restartCmps
  with_reducible repeat' first
    | assumption | apply State.restartCmp_kept | refine Kept.foldl (fun _ _ _ => ?_) ?_ | refine Kept.ite ?_ ?_ | dsimp only

theorem State.commitCmp_kept {k0 s : State} (h : Kept k0 s) (o : Nat → Word) (c : Nat → Word) (k : Fin 16) : Kept k0 (State.commitCmp s o c k) := by
  unfold State.commitCmp
  try dsimp only
  with_reducible repeat' first
    | assumption | apply State.restartCmp_kept | apply State.setCmp_kept
    | (refine Kept.lit rfl rfl rfl rfl rfl rfl ?_; assumption) | refine Kept.ite ?_ ?_ | dsimp only

theorem State.loadCmps_kept {k0 s : State} (h : Kept k0 s) : Kept k0 (State.loadCmps s) := by
  unfold State.loadCmps
  with_reducible repeat' first
    | assumption | apply State.restartCmps_kept

theorem State.converterOn_kept {k0 s : State} (h : Kept k0 s) (x : Conv) : Kept k0 (State.converterOn s x) := by
  unfold State.converterOn
  with_reducible repeat' first
    | assumption | apply State.restartCmps_kept | apply State.startAdcTest_kept | apply State.resumeRotation_kept

/-! ### Sequences -/

theorem State.seqFlag_kept {k0 s : State} (h : Kept k0 s) (x : Conv) (i : Nat) : Kept k0 (State.seqFlag s x i) := by
  unfold State.seqFlag
  try dsimp only
  with_reducible repeat' first
    | assumption | apply State.orReg_kept | apply State.satInc_kept | (refine Kept.lit rfl rfl rfl rfl rfl rfl ?_; assumption)
    | split | dsimp only

theorem State.seqFlags_kept {k0 s : State} (h : Kept k0 s) (l : List Conv) (i : Nat) : Kept k0 (State.seqFlags s l i) := by
  unfold State.seqFlags
  with_reducible repeat' first
    | assumption | apply State.seqFlag_kept | refine Kept.foldl (fun _ _ _ => ?_) ?_ | dsimp only

theorem State.firstRequest_kept {k0 s : State} (h : Kept k0 s) (x : Conv) (inj : Bool) (c : Nat) : Kept k0 (State.firstRequest s x inj c) := by
  unfold State.firstRequest
  try dsimp only
  with_reducible repeat' first
    | assumption | apply State.setSeq_kept | (refine Kept.lit rfl rfl rfl rfl rfl rfl ?_; assumption) | refine Kept.ite ?_ ?_
    | dsimp only

theorem State.startEntry_kept {k0 s : State} (h : Kept k0 s) (x : Conv) (inj : Bool) (i : Nat) (c : Nat) : Kept k0 (State.startEntry s x inj i c) := by
  unfold State.startEntry
  try dsimp only
  with_reducible repeat' first
    | assumption | apply State.setSeq_kept | (refine Kept.lit rfl rfl rfl rfl rfl rfl ?_; assumption) | refine Kept.ite ?_ ?_
    | dsimp only

theorem State.retable_kept {k0 s : State} (h : Kept k0 s) (x : Conv) (inj : Bool) : Kept k0 (State.retable s x inj) := by
  unfold State.retable
  try dsimp only
  with_reducible repeat' first
    | assumption | apply State.setSeq_kept | (refine Kept.lit rfl rfl rfl rfl rfl rfl ?_; assumption) | refine Kept.ite ?_ ?_
    | split | dsimp only

theorem State.idleSeq_kept {k0 s : State} (h : Kept k0 s) (x : Conv) (inj : Bool) : Kept k0 (State.idleSeq s x inj) := by
  unfold State.idleSeq
  try dsimp only
  with_reducible repeat' first
    | assumption | apply State.setSeq_kept | dsimp only

theorem State.advanceReg_kept {k0 s : State} (h : Kept k0 s) (x : Conv) (r : SeqReq) (c : Nat) : Kept k0 (State.advanceReg s x r c) := by
  unfold State.advanceReg
  try dsimp only
  with_reducible repeat' first
    | assumption | apply State.setSeq_kept | apply State.startEntry_kept | apply State.idleSeq_kept
    | refine Kept.getD ?_ (fun _ _ => ?_) | (refine Kept.lit rfl rfl rfl rfl rfl rfl ?_; assumption) | refine Kept.ite ?_ ?_
    | split | dsimp only

theorem State.resumeReg_kept {k0 s : State} (h : Kept k0 s) (x : Conv) (e : Nat) : Kept k0 (State.resumeReg s x e) := by
  unfold State.resumeReg
  try dsimp only
  with_reducible repeat' first
    | assumption | apply State.setSeq_kept | apply State.advanceReg_kept | apply State.firstRequest_kept
    | (refine Kept.lit rfl rfl rfl rfl rfl rfl ?_; assumption) | refine Kept.ite ?_ ?_ | split | dsimp only

theorem State.endInj_kept {k0 s : State} (h : Kept k0 s) (x : Conv) (e : Nat) : Kept k0 (State.endInj s x e) := by
  unfold State.endInj
  try dsimp only
  with_reducible repeat' first
    | assumption | apply State.resumeReg_kept | apply State.idleSeq_kept | refine Kept.foldl (fun _ _ _ => ?_) ?_ | dsimp only

theorem State.advanceInj_kept {k0 s : State} (h : Kept k0 s) (x : Conv) (r : SeqReq) (c : Nat) : Kept k0 (State.advanceInj s x r c) := by
  unfold State.advanceInj
  try dsimp only
  with_reducible repeat' first
    | assumption | apply State.setSeq_kept | apply State.startEntry_kept | apply State.endInj_kept
    | refine Kept.getD ?_ (fun _ _ => ?_) | (refine Kept.lit rfl rfl rfl rfl rfl rfl ?_; assumption) | refine Kept.ite ?_ ?_
    | dsimp only

theorem State.abortJobs_kept {k0 s : State} (h : Kept k0 s) (c : Nat) (x : Conv) : Kept k0 (State.abortJobs s c x) := by
  unfold State.abortJobs
  with_reducible repeat' first
    | assumption | apply State.setAdc_kept | (refine Kept.lit rfl rfl rfl rfl rfl rfl ?_; assumption) | dsimp only

theorem State.preempt_kept {k0 s : State} (h : Kept k0 s) (c : Nat) (x : Conv) : Kept k0 (State.preempt s c x) := by
  unfold State.preempt
  try dsimp only
  with_reducible repeat' first
    | assumption | apply State.abortJobs_kept | apply State.setSeq_kept | apply State.seqFlags_kept
    | refine Kept.foldl (fun _ _ _ => ?_) ?_ | (refine Kept.lit rfl rfl rfl rfl rfl rfl ?_; assumption) | refine Kept.ite ?_ ?_
    | dsimp only

theorem State.acceptInj_kept {k0 s : State} (h : Kept k0 s) (x : Conv) (c : Nat) (spec : Bool) : Kept k0 (State.acceptInj s x c spec) := by
  unfold State.acceptInj
  try dsimp only
  with_reducible repeat' first
    | assumption | apply State.setSeq_kept | apply State.firstRequest_kept | apply State.preempt_kept
    | apply State.seqFlags_kept | refine Kept.foldl (fun _ _ _ => ?_) ?_
    | (refine Kept.lit rfl rfl rfl rfl rfl rfl ?_; assumption) | refine Kept.ite ?_ ?_ | dsimp only

theorem State.acceptReg_kept {k0 s : State} (h : Kept k0 s) (x : Conv) (c : Nat) (spec : Bool) : Kept k0 (State.acceptReg s x c spec) := by
  unfold State.acceptReg
  try dsimp only
  with_reducible repeat' first
    | assumption | apply State.setSeq_kept | apply State.firstRequest_kept | apply State.preempt_kept
    | apply State.seqFlags_kept | (refine Kept.lit rfl rfl rfl rfl rfl rfl ?_; assumption) | refine Kept.ite ?_ ?_ | split
    | dsimp only

theorem State.sequenceTrigger_kept {k0 s : State} (h : Kept k0 s) (x : Conv) (inj : Bool) : Kept k0 (State.sequenceTrigger s x inj) := by
  unfold State.sequenceTrigger
  try dsimp only
  with_reducible repeat' first
    | assumption | apply State.setSeq_kept | apply State.acceptInj_kept | apply State.acceptReg_kept
    | (refine Kept.lit rfl rfl rfl rfl rfl rfl ?_; assumption) | refine Kept.ite ?_ ?_ | split | dsimp only

theorem State.softwareTrigger_kept {k0 s : State} (h : Kept k0 s) (m : Nat) : Kept k0 (State.softwareTrigger s m) := by
  unfold State.softwareTrigger
  try dsimp only
  with_reducible repeat' first
    | assumption | apply State.setSeq_kept | (refine Kept.lit rfl rfl rfl rfl rfl rfl ?_; assumption) | refine Kept.ite ?_ ?_
    | dsimp only

theorem State.stopSeq_kept {k0 s : State} (h : Kept k0 s) (x : Conv) (inj : Bool) (c : Nat) : Kept k0 (State.stopSeq s x inj c) := by
  unfold State.stopSeq
  try dsimp only
  with_reducible repeat' first
    | assumption | apply State.endInj_kept | apply State.idleSeq_kept | refine Kept.ite ?_ ?_ | dsimp only

theorem State.stopSeqs_kept {k0 s : State} (h : Kept k0 s) (m : Nat) : Kept k0 (State.stopSeqs s m) := by
  unfold State.stopSeqs
  try dsimp only
  with_reducible repeat' first
    | assumption | apply State.setSeq_kept | (refine Kept.lit rfl rfl rfl rfl rfl rfl ?_; assumption) | refine Kept.ite ?_ ?_
    | dsimp only

theorem State.earlierTriggers_kept {k0 s : State} (h : Kept k0 s) : Kept k0 (State.earlierTriggers s) := by
  unfold State.earlierTriggers
  try dsimp only
  with_reducible repeat' first
    | assumption | apply State.sequenceTrigger_kept | apply State.setSeq_kept | refine Kept.foldl (fun _ _ _ => ?_) ?_
    | (refine Kept.lit rfl rfl rfl rfl rfl rfl ?_; assumption) | split | dsimp only

theorem State.dropTriggers_kept {k0 s : State} (h : Kept k0 s) : Kept k0 (State.dropTriggers s) := by
  unfold State.dropTriggers
  with_reducible repeat' first
    | assumption | apply State.setSeq_kept | refine Kept.foldl (fun _ _ _ => ?_) ?_
    | (refine Kept.lit rfl rfl rfl rfl rfl rfl ?_; assumption) | refine Kept.ite ?_ ?_ | dsimp only

theorem State.acceptBy_kept {k0 s : State} (h : Kept k0 s) (x : Conv) (inj : Bool) (c : Nat) : Kept k0 (State.acceptBy s x inj c) := by
  unfold State.acceptBy
  with_reducible repeat' first
    | assumption | apply State.sequenceTrigger_kept | refine Kept.foldl (fun _ _ _ => ?_) ?_ | refine Kept.ite ?_ ?_
    | dsimp only

theorem State.dueStops_kept {k0 s : State} (h : Kept k0 s) (x : Conv) (inj : Bool) : Kept k0 (State.dueStops s x inj) := by
  unfold State.dueStops
  try dsimp only
  with_reducible repeat' first
    | assumption | apply State.setSeq_kept | apply State.acceptBy_kept | apply State.stopSeq_kept
    | refine Kept.foldl (fun _ _ _ => ?_) ?_ | (refine Kept.lit rfl rfl rfl rfl rfl rfl ?_; assumption) | dsimp only

theorem State.startOn_kept {k0 s : State} (h : Kept k0 s) (c : Nat) (inj : Bool) (r : SeqReq) (x : Conv) (w : Word) (xchk : Bool) : Kept k0 (State.startOn s c inj r x w xchk) := by
  unfold State.startOn
  try dsimp only
  with_reducible repeat' first
    | assumption | apply State.setAdc_kept | (refine Kept.lit rfl rfl rfl rfl rfl rfl ?_; assumption) | split | dsimp only

theorem State.startPending_kept {k0 s : State} (h : Kept k0 s) (x : Conv) (inj : Bool) : Kept k0 (State.startPending s x inj) := by
  unfold State.startPending
  try dsimp only
  with_reducible repeat' first
    | assumption | apply State.seqFlags_kept | apply State.startOn_kept | apply State.setSeq_kept | apply State.advanceInj_kept
    | apply State.advanceReg_kept | refine Kept.getD ?_ (fun _ _ => ?_) | refine Kept.foldl (fun _ _ _ => ?_) ?_
    | (refine Kept.lit rfl rfl rfl rfl rfl rfl ?_; assumption) | refine Kept.ite ?_ ?_ | split | dsimp only

theorem State.conversionStart_kept {k0 s : State} (h : Kept k0 s) (x : Conv) (inj : Bool) : Kept k0 (State.conversionStart s x inj) := by
  unfold State.conversionStart
  with_reducible repeat' first
    | assumption | apply State.rotate_kept | apply State.sequenceTrigger_kept | apply State.startPending_kept
    | refine Kept.foldl (fun _ _ _ => ?_) ?_

theorem State.runLine_kept {k0 s : State} (h : Kept k0 s) (x : Conv) (inj : Bool) : Kept k0 (State.runLine s x inj) := by
  unfold State.runLine
  try dsimp only
  with_reducible repeat' first
    | assumption | apply State.setSeq_kept | apply State.dmaRequest_kept | refine Kept.foldl (fun _ _ _ => ?_) ?_
    | (refine Kept.lit rfl rfl rfl rfl rfl rfl ?_; assumption) | refine Kept.ite ?_ ?_ | dsimp only

theorem State.lineRequest_kept {k0 s : State} (h : Kept k0 s) (x : Conv) (j : ConvJob) : Kept k0 (State.lineRequest s x j) := by
  unfold State.lineRequest
  try dsimp only
  with_reducible repeat' first
    | assumption | apply State.setSeq_kept | apply State.runLine_kept | (refine Kept.lit rfl rfl rfl rfl rfl rfl ?_; assumption)
    | refine Kept.ite ?_ ?_ | dsimp only

theorem State.writeResult_kept {k0 s : State} (h : Kept k0 s) (x : Conv) (j : ConvJob) (r : ConvResult) (xchk : Bool) : Kept k0 (State.writeResult s x j r xchk) := by
  unfold State.writeResult
  try dsimp only
  with_reducible repeat' first
    | assumption | apply State.noteSet_kept | apply State.setReg_kept | apply State.seqFlag_kept | apply State.lineRequest_kept
    | refine Kept.ite ?_ ?_ | dsimp only

theorem State.removeJob_kept {k0 s : State} (h : Kept k0 s) (x : Conv) (j : ConvJob) : Kept k0 (State.removeJob s x j) := by
  unfold State.removeJob
  with_reducible repeat' first
    | assumption | apply State.setAdc_kept | (refine Kept.lit rfl rfl rfl rfl rfl rfl ?_; assumption)

theorem State.crossCheck_kept {k0 s : State} (h : Kept k0 s) (ja : ConvJob) (jb : ConvJob) (ra : ConvResult) (rb : ConvResult) : Kept k0 (State.crossCheck s ja jb ra rb).2 := by
  unfold State.crossCheck
  try dsimp only
  with_reducible repeat' first
    | assumption | apply State.setReg_kept | apply State.satInc_kept | apply State.orReg_kept | apply State.notice_kept
    | apply State.healthXchk_kept | refine Kept.ite ?_ ?_ | split | dsimp only

theorem State.finishJob_kept {k0 s : State} (h : Kept k0 s) (x : Conv) (j : ConvJob) (r : ConvResult) (other : ConvJob → ConvResult) : Kept k0 (State.finishJob s x j r other) := by
  unfold State.finishJob
  try dsimp only
  with_reducible repeat' first
    | assumption | apply State.removeJob_kept | apply State.crossCheck_kept | apply State.writeResult_kept
    | (refine Kept.lit rfl rfl rfl rfl rfl rfl ?_; assumption) | split | dsimp only

theorem State.conversionDone_kept {k0 s : State} (h : Kept k0 s) (x : Conv) (k : Fin 9) (raw : BitVec 16) (excess : Bool) (rawP : BitVec 16) (overP : Bool) : Kept k0 (State.conversionDone s x k raw excess rawP overP) := by
  unfold State.conversionDone
  with_reducible repeat' first
    | assumption | apply State.finishJob_kept | (refine Kept.lit rfl rfl rfl rfl rfl rfl ?_; assumption) | refine Kept.ite ?_ ?_
    | split | dsimp only

theorem State.sliceTimeout_kept {k0 s : State} (h : Kept k0 s) (x : Conv) (k : Fin 9) (rawP : BitVec 16) (overP : Bool) : Kept k0 (State.sliceTimeout s x k rawP overP) := by
  unfold State.sliceTimeout
  with_reducible repeat' first
    | assumption | apply State.finishJob_kept | apply State.timeoutSwap_kept
    | (refine Kept.lit rfl rfl rfl rfl rfl rfl ?_; assumption) | refine Kept.ite ?_ ?_ | split | dsimp only

theorem State.clearResults_kept {k0 s : State} (h : Kept k0 s) (x : Conv) : Kept k0 (s.clearResults x) :=
  h.trans ⟨rfl, fun y => Sparse.wf_filter _ y, id, id, OtpSt.below_refl _⟩

theorem State.converterOff_kept {k0 s : State} (h : Kept k0 s) (x : Conv) : Kept k0 (State.converterOff s x) := by
  unfold State.converterOff
  try dsimp only
  with_reducible repeat' first
    | assumption | apply State.stopSeq_kept | apply State.setAdc_kept | apply State.clearResults_kept
    | apply State.restartCmps_kept | (refine Kept.lit rfl rfl rfl rfl rfl rfl ?_; assumption) | dsimp only

theorem State.runSequencers_kept {k0 s : State} (h : Kept k0 s) : Kept k0 (State.runSequencers s) := by
  unfold State.runSequencers
  try dsimp only
  with_reducible repeat' first
    | assumption | apply State.dueStops_kept | apply State.runLine_kept | dsimp only

theorem State.clearSequences_kept {k0 s : State} (h : Kept k0 s) : Kept k0 (State.clearSequences s) := by
  unfold State.clearSequences
  with_reducible repeat' first
    | assumption | (refine Kept.lit rfl rfl rfl rfl rfl rfl ?_; assumption)

/-! ### Dma -/

theorem State.resetCh_kept {k0 s : State} (h : Kept k0 s) (n : Fin 16) (st : ChState) (a : List Nat) : Kept k0 (State.resetCh s n st a) := by
  unfold State.resetCh
  try dsimp only
  with_reducible repeat' first
    | assumption | apply State.setCh_kept | (refine Kept.lit rfl rfl rfl rfl rfl rfl ?_; assumption) | dsimp only

theorem State.startCh_kept {k0 s : State} (h : Kept k0 s) (n : Fin 16) : Kept k0 (State.startCh s n) := by
  unfold State.startCh
  with_reducible repeat' first
    | assumption | apply State.resetCh_kept

theorem State.idleCh_kept {k0 s : State} (h : Kept k0 s) (n : Fin 16) : Kept k0 (State.idleCh s n) := by
  unfold State.idleCh
  with_reducible repeat' first
    | assumption | apply State.resetCh_kept

theorem State.stopAt_kept {k0 s : State} (h : Kept k0 s) (n : Fin 16) (k : AfterBeat) : Kept k0 (State.stopAt s n k) := by
  unfold State.stopAt
  with_reducible repeat' first
    | assumption | apply State.setCh_kept | apply State.startCh_kept | apply State.idleCh_kept
    | (refine Kept.lit rfl rfl rfl rfl rfl rfl ?_; assumption) | refine Kept.ite ?_ ?_

theorem State.stopCh_kept {k0 s : State} (h : Kept k0 s) (n : Fin 16) : Kept k0 (State.stopCh s n) := by
  unfold State.stopCh
  with_reducible repeat' first
    | assumption | apply State.stopAt_kept

theorem State.dropCh_kept {k0 s : State} (h : Kept k0 s) (n : Fin 16) : Kept k0 (State.dropCh s n) := by
  unfold State.dropCh
  with_reducible repeat' first
    | assumption | apply State.stopAt_kept

theorem State.restartCh_kept {k0 s : State} (h : Kept k0 s) (n : Fin 16) : Kept k0 (State.restartCh s n) := by
  unfold State.restartCh
  with_reducible repeat' first
    | assumption | apply State.stopAt_kept

theorem State.dmaStart_kept {k0 s : State} (h : Kept k0 s) (n : Fin 16) : Kept k0 (State.dmaStart s n) := by
  unfold State.dmaStart
  try dsimp only
  with_reducible repeat' first
    | assumption | apply State.startCh_kept | refine Kept.ite ?_ ?_ | dsimp only

theorem State.dmaAbort_kept {k0 s : State} (h : Kept k0 s) (n : Fin 16) : Kept k0 (State.dmaAbort s n) := by
  unfold State.dmaAbort
  with_reducible repeat' first
    | assumption | apply State.stopCh_kept

theorem State.dmaResume_kept {k0 s : State} (h : Kept k0 s) (n : Fin 16) : Kept k0 (State.dmaResume s n) := by
  unfold State.dmaResume
  try dsimp only
  with_reducible repeat' first
    | assumption | apply State.setCh_kept | (refine Kept.lit rfl rfl rfl rfl rfl rfl ?_; assumption) | refine Kept.ite ?_ ?_
    | dsimp only

theorem State.autostartDma_kept {k0 s : State} (h : Kept k0 s) : Kept k0 (State.autostartDma s) := by
  unfold State.autostartDma
  with_reducible repeat' first
    | assumption | apply State.startCh_kept | refine Kept.foldl (fun _ _ _ => ?_) ?_ | refine Kept.ite ?_ ?_ | dsimp only

theorem State.loadDma_kept {k0 s : State} (h : Kept k0 s) : Kept k0 (State.loadDma s) := by
  unfold State.loadDma
  with_reducible repeat' first
    | assumption | apply State.resetCh_kept | apply State.autostartDma_kept | refine Kept.foldl (fun _ _ _ => ?_) ?_
    | dsimp only

theorem State.stopRunning_kept {k0 s : State} (h : Kept k0 s) : Kept k0 (State.stopRunning s) := by
  unfold State.stopRunning
  with_reducible repeat' first
    | assumption | apply State.stopCh_kept | refine Kept.foldl (fun _ _ _ => ?_) ?_ | refine Kept.ite ?_ ?_ | dsimp only

theorem State.clearDma_kept {k0 s : State} (h : Kept k0 s) : Kept k0 (State.clearDma s) := by
  unfold State.clearDma
  with_reducible repeat' first
    | assumption | (refine Kept.lit rfl rfl rfl rfl rfl rfl ?_; assumption)

theorem State.signalBits_kept {k0 s : State} (h : Kept k0 s) (n : Fin 16) (m : Nat) : Kept k0 (State.signalBits s n m) := by
  unfold State.signalBits
  with_reducible repeat' first
    | assumption | apply State.sendSignal_kept | refine Kept.foldl (fun _ _ _ => ?_) ?_ | refine Kept.ite ?_ ?_ | dsimp only

theorem State.signalClear_kept {k0 s : State} (h : Kept k0 s) (n : Fin 16) (m : Nat) : Kept k0 (State.signalClear s n m) := by
  unfold State.signalClear
  try dsimp only
  with_reducible repeat' first
    | assumption | apply State.setCh_kept | (refine Kept.lit rfl rfl rfl rfl rfl rfl ?_; assumption) | dsimp only

theorem State.closeLevel_kept {k0 s : State} (h : Kept k0 s) (n : Fin 16) : Kept k0 (State.closeLevel s n) := by
  unfold State.closeLevel
  try dsimp only
  with_reducible repeat' first
    | assumption | apply State.setCh_kept | apply State.notice_kept | (refine Kept.lit rfl rfl rfl rfl rfl rfl ?_; assumption)
    | refine Kept.ite ?_ ?_ | split | dsimp only

theorem State.closeLevels_kept {k0 s : State} (h : Kept k0 s) : Kept k0 (State.closeLevels s) := by
  unfold State.closeLevels
  with_reducible repeat' first
    | assumption | apply State.closeLevel_kept | refine Kept.foldl (fun _ _ _ => ?_) ?_

theorem State.setLevel_kept {k0 s : State} (h : Kept k0 s) (n : Fin 16) (k : LevelCycle) : Kept k0 (State.setLevel s n k) := by
  unfold State.setLevel
  with_reducible repeat' first
    | assumption | apply State.setCh_kept | (refine Kept.lit rfl rfl rfl rfl rfl rfl ?_; assumption)

theorem State.levelUp_kept {k0 s : State} (h : Kept k0 s) (n : Fin 16) : Kept k0 (State.levelUp s n) := by
  unfold State.levelUp
  try dsimp only
  with_reducible repeat' first
    | assumption | apply State.orReg_kept | apply State.setLevel_kept | (refine Kept.lit rfl rfl rfl rfl rfl rfl ?_; assumption)
    | refine Kept.ite ?_ ?_ | dsimp only

theorem State.levelDown_kept {k0 s : State} (h : Kept k0 s) (n : Fin 16) (v : Nat) : Kept k0 (State.levelDown s n v) := by
  unfold State.levelDown
  try dsimp only
  with_reducible repeat' first
    | assumption | apply State.setLevel_kept | (refine Kept.lit rfl rfl rfl rfl rfl rfl ?_; assumption) | dsimp only

theorem State.clearLevelWm_kept {k0 s : State} (h : Kept k0 s) (n : Fin 16) : Kept k0 (State.clearLevelWm s n) := by
  unfold State.clearLevelWm
  try dsimp only
  with_reducible repeat' first
    | assumption | apply State.setCh_kept | apply State.notice_kept | (refine Kept.lit rfl rfl rfl rfl rfl rfl ?_; assumption)
    | refine Kept.ite ?_ ?_ | dsimp only

theorem State.opLoop_kept {k0 s : State} (h : Kept k0 s) (n : Fin 16) : Kept k0 (State.opLoop s n) := by
  unfold State.opLoop
  try dsimp only
  with_reducible repeat' first
    | assumption | apply State.setCh_kept | (refine Kept.lit rfl rfl rfl rfl rfl rfl ?_; assumption) | refine Kept.ite ?_ ?_
    | dsimp only

theorem State.opEndLoop_kept {k0 s : State} (h : Kept k0 s) (n : Fin 16) : Kept k0 (State.opEndLoop s n) := by
  unfold State.opEndLoop
  try dsimp only
  with_reducible repeat' first
    | assumption | apply State.setCh_kept | (refine Kept.lit rfl rfl rfl rfl rfl rfl ?_; assumption) | refine Kept.ite ?_ ?_
    | split | dsimp only

theorem State.endWait_kept {k0 s : State} (h : Kept k0 s) (n : Fin 16) (tag : Bool) : Kept k0 (State.endWait s n tag) := by
  unfold State.endWait
  try dsimp only
  with_reducible repeat' first
    | assumption | apply State.setCh_kept | apply State.signalClear_kept
    | (refine Kept.lit rfl rfl rfl rfl rfl rfl ?_; assumption) | refine Kept.ite ?_ ?_ | dsimp only

theorem State.opWait_kept {k0 s : State} (h : Kept k0 s) (n : Fin 16) : Kept k0 (State.opWait s n) := by
  unfold State.opWait
  try dsimp only
  with_reducible repeat' first
    | assumption | apply State.endWait_kept | apply State.setCh_kept | (refine Kept.lit rfl rfl rfl rfl rfl rfl ?_; assumption)
    | refine Kept.ite ?_ ?_ | dsimp only

theorem State.waitComplete_kept {k0 s : State} (h : Kept k0 s) (n : Fin 16) : Kept k0 (State.waitComplete s n) := by
  unfold State.waitComplete
  try dsimp only
  with_reducible repeat' first
    | assumption | apply State.endWait_kept | (refine Kept.lit rfl rfl rfl rfl rfl rfl ?_; assumption) | split | dsimp only

theorem State.opSignal_kept {k0 s : State} (h : Kept k0 s) (n : Fin 16) : Kept k0 (State.opSignal s n) := by
  unfold State.opSignal
  try dsimp only
  with_reducible repeat' first
    | assumption | apply State.setCh_kept | apply State.sendSignal_kept
    | (refine Kept.lit rfl rfl rfl rfl rfl rfl ?_; assumption) | refine Kept.ite ?_ ?_ | dsimp only

theorem State.opSet_kept {k0 s : State} (h : Kept k0 s) (n : Fin 16) : Kept k0 (State.opSet s n) := by
  unfold State.opSet
  try dsimp only
  with_reducible repeat' first
    | assumption | apply State.setCh_kept | (refine Kept.lit rfl rfl rfl rfl rfl rfl ?_; assumption) | refine Kept.ite ?_ ?_
    | dsimp only

theorem State.opEnd_kept {k0 s : State} (h : Kept k0 s) (n : Fin 16) : Kept k0 (State.opEnd s n) := by
  unfold State.opEnd
  with_reducible repeat' first
    | assumption | apply State.setCh_kept | apply State.orReg_kept | (refine Kept.lit rfl rfl rfl rfl rfl rfl ?_; assumption)
    | refine Kept.ite ?_ ?_

theorem State.opMove_kept {k0 s : State} (h : Kept k0 s) (n : Fin 16) : Kept k0 (State.opMove s n) := by
  unfold State.opMove
  try dsimp only
  with_reducible repeat' first
    | assumption | apply State.setCh_kept | refine Kept.getD ?_ (fun _ _ => ?_)
    | (refine Kept.lit rfl rfl rfl rfl rfl rfl ?_; assumption) | refine Kept.ite ?_ ?_ | dsimp only

theorem State.endMove_kept {k0 s : State} (h : Kept k0 s) (n : Fin 16) (i : MoveIns) : Kept k0 (State.endMove s n i) := by
  unfold State.endMove
  try dsimp only
  with_reducible repeat' first
    | assumption | apply State.setCh_kept | apply State.levelUp_kept | refine Kept.getD ?_ (fun _ _ => ?_)
    | (refine Kept.lit rfl rfl rfl rfl rfl rfl ?_; assumption) | refine Kept.ite ?_ ?_ | dsimp only

theorem State.beatDone_kept {k0 s : State} (h : Kept k0 s) (n : Fin 16) (bytes : List Byte) (write : Bool) : Kept k0 (State.beatDone s n bytes write) := by
  unfold State.beatDone
  try dsimp only
  with_reducible repeat' first
    | assumption | apply State.setCh_kept | apply State.endMove_kept | (refine Kept.lit rfl rfl rfl rfl rfl rfl ?_; assumption)
    | refine Kept.ite ?_ ?_ | split | dsimp only

theorem State.unpark_kept {k0 s : State} (h : Kept k0 s) (n : Fin 16) {done : State → State} (hd : ∀ s, Kept k0 s → Kept k0 (done s)) :
    Kept k0 (s.unpark n done) := by
  have h1 : Kept k0 (s.setCh n { s.ch n with parked := false, after := none }) := State.setCh_kept h _ _
  unfold State.unpark
  dsimp only
  split
  · exact hd _ h1
  · exact State.stopAt_kept (hd _ h1) _ _
  · exact State.stopAt_kept h1 _ _

theorem State.tlbInvalidate_kept {k0 s : State} (h : Kept k0 s) (w : Word) : Kept k0 (State.tlbInvalidate s w) := by
  unfold State.tlbInvalidate
  with_reducible repeat' first
    | assumption | (refine Kept.lit rfl rfl rfl rfl rfl rfl ?_; assumption) | dsimp only

theorem State.tlbFill_kept {k0 s : State} (h : Kept k0 s) (e : TlbEntry) : Kept k0 (State.tlbFill s e) := by
  unfold State.tlbFill
  try dsimp only
  with_reducible repeat' first
    | assumption | (refine Kept.lit rfl rfl rfl rfl rfl rfl ?_; assumption) | dsimp only

theorem State.tlbDropCtx_kept {k0 s : State} (h : Kept k0 s) (k : Nat) : Kept k0 (State.tlbDropCtx s k) := by
  unfold State.tlbDropCtx
  with_reducible repeat' first
    | assumption | (refine Kept.lit rfl rfl rfl rfl rfl rfl ?_; assumption) | dsimp only

theorem State.faultRecord_kept {k0 s : State} (h : Kept k0 s) (n : Fin 16) (st : ChState) (cause : Nat) (va : Nat) (pa : Nat) (write : Bool) : Kept k0 (State.faultRecord s n st cause va pa write) := by
  unfold State.faultRecord
  try dsimp only
  with_reducible repeat' first
    | assumption | apply State.setCh_kept | (refine Kept.lit rfl rfl rfl rfl rfl rfl ?_; assumption) | dsimp only

theorem State.translationFault_kept {k0 s : State} (h : Kept k0 s) (n : Fin 16) (cause : Nat) (va : Nat) (write : Bool) : Kept k0 (State.translationFault s n cause va write) := by
  unfold State.translationFault
  try dsimp only
  with_reducible repeat' first
    | assumption | apply State.faultRecord_kept | apply State.orReg_kept | apply State.notice_kept | dsimp only

theorem State.beatError_kept {k0 s : State} (h : Kept k0 s) (n : Fin 16) (va : Nat) (pa : Nat) (write : Bool) : Kept k0 (State.beatError s n va pa write) := by
  unfold State.beatError
  try dsimp only
  with_reducible repeat' first
    | assumption | apply State.setCh_kept | apply State.faultRecord_kept | apply State.orReg_kept | apply State.notice_kept
    | (refine Kept.lit rfl rfl rfl rfl rfl rfl ?_; assumption) | refine Kept.ite ?_ ?_ | dsimp only

theorem State.countPreempt_kept {k0 s : State} (h : Kept k0 s) (n : Fin 16) : Kept k0 (State.countPreempt s n) := by
  unfold State.countPreempt
  try dsimp only
  with_reducible repeat' first
    | assumption | apply State.satInc_kept
    | (refine Kept.lit rfl rfl rfl rfl rfl rfl ?_; first | assumption | apply State.satInc_kept | refine Kept.ite ?_ ?_)
    | refine Kept.ite ?_ ?_ | split | dsimp only

/-! ### Angle -/

theorem State.setPhase_kept {k0 s : State} (h : Kept k0 s) (k : Fin 2) (p : PhaseSt) : Kept k0 (State.setPhase s k p) := by
  unfold State.setPhase
  with_reducible repeat' first
    | assumption | (refine Kept.lit rfl rfl rfl rfl rfl rfl ?_; assumption)

theorem State.phaseDiscard_kept {k0 s : State} (h : Kept k0 s) (k : Fin 2) (n : Nat) : Kept k0 (State.phaseDiscard s k n) := by
  unfold State.phaseDiscard
  try dsimp only
  with_reducible repeat' first
    | assumption | apply State.satCount_kept | dsimp only

theorem State.phaseSample_kept {k0 s : State} (h : Kept k0 s) (k : Fin 2) (tB : Nat) (thetaB : Nat) (thetaA : Nat) : Kept k0 (State.phaseSample s k tB thetaB thetaA) := by
  unfold State.phaseSample
  try dsimp only
  with_reducible repeat' first
    | assumption | apply State.setPhase_kept | apply State.setReg_kept
    | (refine Kept.lit rfl rfl rfl rfl rfl rfl ?_; assumption) | refine Kept.ite ?_ ?_ | dsimp only

theorem State.phaseDropWaiting_kept {k0 s : State} (h : Kept k0 s) (k : Fin 2) : Kept k0 (State.phaseDropWaiting s k) := by
  unfold State.phaseDropWaiting
  try dsimp only
  with_reducible repeat' first
    | assumption | apply State.setPhase_kept | apply State.phaseDiscard_kept
    | (refine Kept.lit rfl rfl rfl rfl rfl rfl ?_; assumption) | dsimp only

theorem State.phaseReset_kept {k0 s : State} (h : Kept k0 s) (k : Fin 2) : Kept k0 (State.phaseReset s k) := by
  unfold State.phaseReset
  try dsimp only
  with_reducible repeat' first
    | assumption | apply State.phaseDropWaiting_kept | apply State.setPhase_kept | dsimp only

theorem State.phaseLost_kept {k0 s : State} (h : Kept k0 s) (w : Fin 4) : Kept k0 (State.phaseLost s w) := by
  unfold State.phaseLost
  with_reducible repeat' first
    | assumption | apply State.phaseReset_kept | refine Kept.foldl (fun _ _ _ => ?_) ?_ | refine Kept.ite ?_ ?_ | dsimp only

theorem State.phaseResetAll_kept {k0 s : State} (h : Kept k0 s) : Kept k0 (State.phaseResetAll s) := by
  unfold State.phaseResetAll
  with_reducible repeat' first
    | assumption | apply State.phaseReset_kept | refine Kept.foldl (fun _ _ _ => ?_) ?_ | dsimp only

theorem State.phaseOnA_kept {k0 s : State} (h : Kept k0 s) (k : Fin 2) (e : PhaseEdgeA) : Kept k0 (State.phaseOnA s k e) := by
  unfold State.phaseOnA
  try dsimp only
  with_reducible repeat' first
    | assumption | apply State.phaseReset_kept | apply State.phaseDropWaiting_kept | apply State.phaseSample_kept
    | apply State.setPhase_kept | refine Kept.foldl (fun _ _ _ => ?_) ?_
    | (refine Kept.lit rfl rfl rfl rfl rfl rfl ?_; assumption) | refine Kept.ite ?_ ?_ | dsimp only

theorem State.phaseOnB_kept {k0 s0 : State} (h : Kept k0 s0) (k : Fin 2) (e : PhaseEdgeB) : Kept k0 (State.phaseOnB s0 k e) := by
  unfold State.phaseOnB
  try dsimp only
  with_reducible repeat' first
    | assumption | apply State.phaseReset_kept | apply State.setPhase_kept | apply State.phaseDiscard_kept
    | apply State.phaseSample_kept | (refine Kept.lit rfl rfl rfl rfl rfl rfl ?_; assumption) | refine Kept.ite ?_ ?_
    | dsimp only

theorem State.phaseRestore_kept {k0 s : State} (h : Kept k0 s) (k : Fin 2) (u : PhaseCycle) : Kept k0 (State.phaseRestore s k u) := by
  unfold State.phaseRestore
  try dsimp only
  with_reducible repeat' first
    | assumption | apply State.setPhase_kept | apply State.setReg_kept | apply State.putNote_kept
    | refine Kept.getD ?_ (fun _ _ => ?_) | refine Kept.foldl (fun _ _ _ => ?_) ?_
    | (refine Kept.lit rfl rfl rfl rfl rfl rfl ?_; assumption) | dsimp only

theorem State.phaseRun_kept {k0 s : State} (h : Kept k0 s) (k : Fin 2) (u : PhaseCycle) : Kept k0 (State.phaseRun s k u) := by
  unfold State.phaseRun
  try dsimp only
  with_reducible repeat' first
    | assumption | apply State.phaseRestore_kept | apply State.phaseOnA_kept | apply State.phaseOnB_kept
    | apply State.setPhase_kept | (refine Kept.lit rfl rfl rfl rfl rfl rfl ?_; assumption) | split | dsimp only

theorem State.phaseEdge_kept {k0 s : State} (h : Kept k0 s) (w : Fin 4) (old : WheelSt) (new : WheelSt) (rep : EdgeReport) : Kept k0 (State.phaseEdge s w old new rep) := by
  unfold State.phaseEdge
  try dsimp only
  with_reducible repeat' first
    | assumption | apply State.phaseRun_kept | refine Kept.getD ?_ (fun _ _ => ?_) | refine Kept.foldl (fun _ _ _ => ?_) ?_
    | (refine Kept.lit rfl rfl rfl rfl rfl rfl ?_; assumption) | refine Kept.ite ?_ ?_ | dsimp only

theorem State.watchZero_kept {k0 s : State} (h : Kept k0 s) (w : Fin 4) (old : WheelSt) : Kept k0 (State.watchZero s w old) := by
  unfold State.watchZero
  try dsimp only
  with_reducible repeat' first
    | assumption | (refine Kept.lit rfl rfl rfl rfl rfl rfl ?_; assumption) | refine Kept.ite ?_ ?_ | dsimp only

theorem State.wheelMoved_kept {k0 s : State} (h : Kept k0 s) (w : Fin 4) (old : Sync) : Kept k0 (State.wheelMoved s w old) := by
  unfold State.wheelMoved
  try dsimp only
  with_reducible repeat' first
    | assumption | apply State.satInc_kept | apply State.notice_kept | refine Kept.ite ?_ ?_ | dsimp only

theorem State.wheelTail_kept {k0 s : State} (h : Kept k0 s) (tail : Option WheelTail) : Kept k0 (State.wheelTail s tail) := by
  unfold State.wheelTail
  try dsimp only
  with_reducible repeat' first
    | assumption | apply State.boundOutputs_kept | apply State.wheelToOutputs_kept | apply State.raise_kept
    | (refine Kept.lit rfl rfl rfl rfl rfl rfl ?_; assumption) | refine Kept.ite ?_ ?_ | split | dsimp only

theorem State.moveWheel_kept {k0 s : State} (h : Kept k0 s) (w : Fin 4) (v : WheelSt) : Kept k0 (State.moveWheel s w v).2 := by
  unfold State.moveWheel
  try dsimp only
  with_reducible repeat' first
    | assumption | apply State.catchFallback_kept | apply State.setWheel_kept | apply State.watchZero_kept
    | apply State.wheelMoved_kept | apply State.phaseLost_kept | refine Kept.ite ?_ ?_ | split | dsimp only

theorem State.changeWheel_kept {k0 s : State} (h : Kept k0 s) (w : Fin 4) (v : WheelSt) : Kept k0 (State.changeWheel s w v) := by
  unfold State.changeWheel
  try dsimp only
  with_reducible repeat' first
    | assumption | apply State.moveWheel_kept | apply State.wheelTail_kept | dsimp only

theorem State.wheelCounts_kept {k0 s : State} (h : Kept k0 s) (w : Fin 4) (r : EdgeReport) : Kept k0 (State.wheelCounts s w r) := by
  unfold State.wheelCounts
  try dsimp only
  with_reducible repeat' first
    | assumption | apply State.satInc_kept | apply State.orReg_kept | refine Kept.ite ?_ ?_ | dsimp only

theorem State.trackEdge_kept {k0 s : State} (h : Kept k0 s) (w : Fin 4) (t : Nat) (qd : Dir) : Kept k0 (State.trackEdge s w t qd).2 := by
  unfold State.trackEdge
  try dsimp only
  with_reducible repeat' first
    | assumption | apply State.catchFallback_kept | apply State.setWheel_kept | apply State.watchZero_kept
    | apply State.wheelCounts_kept | apply State.wheelMoved_kept | apply State.phaseEdge_kept
    | (refine Kept.lit rfl rfl rfl rfl rfl rfl ?_; first | assumption | apply State.catchFallback_kept | apply State.setWheel_kept | apply State.watchZero_kept | apply State.wheelCounts_kept | apply State.wheelMoved_kept | apply State.phaseEdge_kept | refine Kept.ite ?_ ?_)
    | refine Kept.ite ?_ ?_ | split | dsimp only

theorem State.wheelsSilent_kept {k0 s : State} (h : Kept k0 s) : Kept k0 (State.wheelsSilent s) := by
  unfold State.wheelsSilent
  with_reducible repeat' first
    | assumption | apply State.changeWheel_kept | refine Kept.foldl (fun _ _ _ => ?_) ?_
    | (refine Kept.lit rfl rfl rfl rfl rfl rfl ?_; assumption) | dsimp only

theorem State.angleTestStart_kept {k0 s : State} (h : Kept k0 s) : Kept k0 (State.angleTestStart s) := by
  unfold State.angleTestStart
  with_reducible repeat' first
    | assumption | apply State.phaseResetAll_kept | apply State.outputsTest_kept
    | (refine Kept.lit rfl rfl rfl rfl rfl rfl ?_; assumption) | refine Kept.ite ?_ ?_ | split | dsimp only

theorem State.angleTestStop_kept {k0 s : State} (h : Kept k0 s) (t : SelfTest) : Kept k0 (State.angleTestStop s t) := by
  unfold State.angleTestStop
  with_reducible repeat' first
    | assumption | apply State.wheelsSilent_kept | apply State.outputsTestEnd_kept
    | (refine Kept.lit rfl rfl rfl rfl rfl rfl ?_; assumption)

theorem State.angleTestEnd_kept {k0 s : State} (h : Kept k0 s) (pass : Bool) (detail : Word) : Kept k0 (State.angleTestEnd s pass detail) := by
  unfold State.angleTestEnd
  with_reducible repeat' first
    | assumption | apply State.angleTestStop_kept | apply State.notice_kept
    | (refine Kept.lit rfl rfl rfl rfl rfl rfl ?_; assumption) | refine Kept.ite ?_ ?_ | split | dsimp only

theorem State.angleTestAbandon_kept {k0 s : State} (h : Kept k0 s) : Kept k0 (State.angleTestAbandon s) := by
  unfold State.angleTestAbandon
  with_reducible repeat' first
    | assumption | apply State.angleTestStop_kept | (refine Kept.lit rfl rfl rfl rfl rfl rfl ?_; assumption) | split
    | dsimp only

theorem State.selftestDeferred_kept {k0 s : State} (h : Kept k0 s) : Kept k0 (State.selftestDeferred s) := by
  unfold State.selftestDeferred
  with_reducible repeat' first
    | assumption | apply State.notice_kept | (refine Kept.lit rfl rfl rfl rfl rfl rfl ?_; assumption) | refine Kept.ite ?_ ?_
    | split | dsimp only

theorem State.abandonBias_kept {k0 s : State} (h : Kept k0 s) (i : Nat) : Kept k0 (State.abandonBias s i) := by
  unfold State.abandonBias
  with_reducible repeat' first
    | assumption | (refine Kept.lit rfl rfl rfl rfl rfl rfl ?_; assumption) | refine Kept.ite ?_ ?_ | dsimp only

theorem State.setTooth_kept {k0 s : State} (h : Kept k0 s) (w : Fin 4) (onB : Bool) (l : InLevel) (t : Nat) : Kept k0 (State.setTooth s w onB l t) := by
  unfold State.setTooth
  try dsimp only
  with_reducible repeat' first
    | assumption | apply State.setWheel_kept | (refine Kept.lit rfl rfl rfl rfl rfl rfl ?_; assumption) | refine Kept.ite ?_ ?_
    | dsimp only

theorem State.showDir_kept {k0 s : State} (h : Kept k0 s) (w : Fin 4) (qd : Dir) : Kept k0 (State.showDir s w qd) := by
  unfold State.showDir
  with_reducible repeat' first
    | assumption | apply State.catchFallback_kept | apply State.setWheel_kept
    | (refine Kept.lit rfl rfl rfl rfl rfl rfl ?_; assumption) | refine Kept.ite ?_ ?_

theorem State.transitionA_kept {k0 s : State} (h : Kept k0 s) (w : Fin 4) (rising : Bool) (peak : Nat) (t : Nat) (old : WheelSt) : Kept k0 (State.transitionA s w rising peak t old).2 := by
  unfold State.transitionA
  try dsimp only
  with_reducible repeat' first
    | assumption | apply State.setWheel_kept | apply State.angleTestAbandon_kept | apply State.showDir_kept
    | apply State.trackEdge_kept | (refine Kept.lit rfl rfl rfl rfl rfl rfl ?_; assumption) | refine Kept.ite ?_ ?_ | split
    | dsimp only

theorem State.toothEdge_kept {k0 s : State} (h : Kept k0 s) (w : Fin 4) (onB : Bool) (level : InLevel) (peak : Nat) : Kept k0 (State.toothEdge s w onB level peak).2 := by
  unfold State.toothEdge
  try dsimp only
  with_reducible repeat' first
    | assumption | apply State.catchFallback_kept | apply State.setTooth_kept | apply State.abandonBias_kept
    | apply State.transitionA_kept | refine Kept.ite ?_ ?_ | split | dsimp only

theorem State.toothStuck_kept {k0 s : State} (h : Kept k0 s) (w : Fin 4) (onB : Bool) : Kept k0 (State.toothStuck s w onB) := by
  unfold State.toothStuck
  try dsimp only
  with_reducible repeat' first
    | assumption | apply State.setWheel_kept | apply State.notice_kept | apply State.advise_kept
    | (refine Kept.lit rfl rfl rfl rfl rfl rfl ?_; assumption) | refine Kept.ite ?_ ?_ | dsimp only

theorem State.standstill_kept {k0 s : State} (h : Kept k0 s) (w : Fin 4) : Kept k0 (State.standstill s w).2 := by
  unfold State.standstill
  try dsimp only
  with_reducible repeat' first
    | assumption | apply State.moveWheel_kept | (refine Kept.lit rfl rfl rfl rfl rfl rfl ?_; assumption) | refine Kept.ite ?_ ?_
    | split | dsimp only

theorem State.coastEntry_kept {k0 s : State} (h : Kept k0 s) (w : Fin 4) : Kept k0 (State.coastEntry s w).2 := by
  unfold State.coastEntry
  try dsimp only
  with_reducible repeat' first
    | assumption | apply State.moveWheel_kept | (refine Kept.lit rfl rfl rfl rfl rfl rfl ?_; assumption) | refine Kept.ite ?_ ?_
    | split | dsimp only

theorem State.wheelDead_kept {k0 s : State} (h : Kept k0 s) (w : Fin 4) : Kept k0 (State.wheelDead s w) := by
  unfold State.wheelDead
  try dsimp only
  with_reducible repeat' first
    | assumption | apply State.orReg_kept | apply State.healthWheel_kept | refine Kept.ite ?_ ?_ | dsimp only

theorem State.biasCheck_kept {k0 s : State} (h : Kept k0 s) : Kept k0 (State.biasCheck s) := by
  unfold State.biasCheck
  try dsimp only
  with_reducible repeat' first
    | assumption | (refine Kept.lit rfl rfl rfl rfl rfl rfl ?_; assumption) | refine Kept.ite ?_ ?_ | split | dsimp only

theorem State.biasDone_kept {k0 s : State} (h : Kept k0 s) (plus : LegReading) (minus : LegReading) (idle : LegReading) (rails : RailReading) : Kept k0 (State.biasDone s plus minus idle rails) := by
  unfold State.biasDone
  try dsimp only
  with_reducible repeat' first
    | assumption | apply State.setReg_kept | apply State.orReg_kept | apply State.notice_kept | apply State.advise_kept
    | (refine Kept.lit rfl rfl rfl rfl rfl rfl ?_; assumption) | refine Kept.ite ?_ ?_ | split | dsimp only

theorem State.snapshot_kept {k0 s : State} (h : Kept k0 s) : Kept k0 (State.snapshot s) := by
  unfold State.snapshot
  with_reducible repeat' first
    | assumption | (refine Kept.lit rfl rfl rfl rfl rfl rfl ?_; assumption)

theorem State.snapCopy_kept {k0 s : State} (h : Kept k0 s) (t : Nat) : Kept k0 (State.snapCopy s t) := by
  unfold State.snapCopy
  with_reducible repeat' first
    | assumption | apply State.setReg_kept | refine Kept.foldl (fun _ _ _ => ?_) ?_ | dsimp only

theorem State.takeSnaps_kept {k0 s : State} (h : Kept k0 s) (c : Nat) : Kept k0 (State.takeSnaps s c) := by
  unfold State.takeSnaps
  with_reducible repeat' first
    | assumption | apply State.snapCopy_kept | refine Kept.foldl (fun _ _ _ => ?_) ?_
    | (refine Kept.lit rfl rfl rfl rfl rfl rfl ?_; assumption) | dsimp only

/-! ### Cave -/

theorem State.doomBlock_kept {k0 s : State} (h : Kept k0 s) (b : Nat) : Kept k0 (State.doomBlock s b) := by
  unfold State.doomBlock
  with_reducible repeat' first
    | assumption | (refine Kept.lit rfl rfl rfl rfl rfl rfl ?_; assumption) | refine Kept.ite ?_ ?_

theorem State.dueBlock_kept {k0 s : State} (h : Kept k0 s) (b : Nat) : Kept k0 (State.dueBlock s b) := by
  unfold State.dueBlock
  with_reducible repeat' first
    | assumption | (refine Kept.lit rfl rfl rfl rfl rfl rfl ?_; assumption) | refine Kept.ite ?_ ?_

theorem State.countLost_kept {k0 s : State} (h : Kept k0 s) (old : State) (row : Nat) : Kept k0 (State.countLost s old row) := by
  unfold State.countLost
  try dsimp only
  with_reducible repeat' first
    | assumption | apply State.satCount_kept | apply State.advise_kept
    | (refine Kept.lit rfl rfl rfl rfl rfl rfl ?_; assumption) | refine Kept.ite ?_ ?_ | split | dsimp only

theorem State.readDone_kept {k0 s : State} (h : Kept k0 s) (row : Nat) (errs : List Nat) : Kept k0 (State.readDone s row errs).2 := by
  unfold State.readDone
  try dsimp only
  with_reducible repeat' first
    | assumption | apply State.satCount_kept | apply State.dueBlock_kept | apply State.countLost_kept
    | apply State.doomBlock_kept
    | (refine Kept.lit rfl rfl rfl rfl rfl rfl ?_; first | assumption | apply State.satCount_kept | apply State.dueBlock_kept | apply State.countLost_kept | apply State.doomBlock_kept | refine Kept.ite ?_ ?_)
    | refine Kept.ite ?_ ?_ | split | dsimp only

theorem State.opFailed_kept {k0 s : State} (h : Kept k0 s) (b : Nat) : Kept k0 (State.opFailed s b) := by
  unfold State.opFailed
  with_reducible repeat' first
    | assumption | apply State.logCave_kept | apply State.notice_kept | apply State.doomBlock_kept

theorem State.opDone_kept {k0 s : State} (h : Kept k0 s) (j : NandJob) (op : NandOp) (fail : Bool) (errs : List Nat) : Kept k0 (State.opDone s j op fail errs).2 := by
  unfold State.opDone
  try dsimp only
  with_reducible repeat' first
    | assumption | apply State.readDone_kept | apply State.opFailed_kept | apply State.setPage_kept | apply State.doomBlock_kept
    | apply State.erasePages_kept
    | (refine Kept.lit rfl rfl rfl rfl rfl rfl ?_; first | assumption | apply State.readDone_kept | apply State.opFailed_kept | apply State.setPage_kept | apply State.doomBlock_kept | apply State.erasePages_kept | refine Kept.ite ?_ ?_)
    | refine Kept.ite ?_ ?_ | split | dsimp only

theorem State.storeJob_kept {k0 s : State} (h : Kept k0 s) (j : NandJob) : Kept k0 (State.storeJob s j) := by
  unfold State.storeJob
  with_reducible repeat' first
    | assumption | (refine Kept.lit rfl rfl rfl rfl rfl rfl ?_; assumption) | refine Kept.ite ?_ ?_ | dsimp only

theorem State.imageNotice_kept {k0 s : State} (h : Kept k0 s) (code : Nat) (slot : Nat) (gen : Nat) : Kept k0 (State.imageNotice s code slot gen) := by
  unfold State.imageNotice
  with_reducible repeat' first
    | assumption | apply State.notice_kept

theorem State.updFail_kept {k0 s : State} (h : Kept k0 s) (u : ImgUpd) : Kept k0 (State.updFail s u) := by
  unfold State.updFail
  try dsimp only
  with_reducible repeat' first
    | assumption | apply State.dropJobs_kept | apply State.imageNotice_kept
    | (refine Kept.lit rfl rfl rfl rfl rfl rfl ?_; first | assumption | apply State.dropJobs_kept | apply State.imageNotice_kept)
    | dsimp only

theorem State.toReadonly_kept {k0 s : State} (h : Kept k0 s) : Kept k0 (State.toReadonly s) := by
  unfold State.toReadonly
  try dsimp only
  with_reducible repeat' first
    | assumption | apply State.dropJobs_kept | apply State.advise_kept | apply State.updFail_kept
    | (refine Kept.lit rfl rfl rfl rfl rfl rfl ?_; assumption) | split | dsimp only

theorem State.poolChanged_kept {k0 s : State} (h : Kept k0 s) : Kept k0 (State.poolChanged s) := by
  unfold State.poolChanged
  try dsimp only
  with_reducible repeat' first
    | assumption | apply State.notice_kept | apply State.healthPool_kept | apply State.toReadonly_kept
    | (refine Kept.lit rfl rfl rfl rfl rfl rfl ?_; first | assumption | apply State.notice_kept | apply State.healthPool_kept | apply State.toReadonly_kept | refine Kept.ite ?_ ?_)
    | refine Kept.ite ?_ ?_ | dsimp only

theorem State.clearPoolWm_kept {k0 s : State} (h : Kept k0 s) : Kept k0 (State.clearPoolWm s) := by
  unfold State.clearPoolWm
  try dsimp only
  with_reducible repeat' first
    | assumption | apply State.notice_kept | (refine Kept.lit rfl rfl rfl rfl rfl rfl ?_; assumption) | refine Kept.ite ?_ ?_
    | dsimp only

theorem State.extendJob_kept {k0 s : State} (h : Kept k0 s) (kind : JobKind) (prio : Nat) (ops : List NandOp) : Kept k0 (State.extendJob s kind prio ops) := by
  unfold State.extendJob
  with_reducible repeat' first
    | assumption | apply State.nandPick_kept | apply State.addJob_kept
    | (refine Kept.lit rfl rfl rfl rfl rfl rfl ?_; assumption) | refine Kept.ite ?_ ?_ | dsimp only

theorem State.writeCtab_kept {k0 s : State} (h : Kept k0 s) : Kept k0 (State.writeCtab s) := by
  unfold State.writeCtab
  try dsimp only
  with_reducible repeat' first
    | assumption | apply State.extendJob_kept | (refine Kept.lit rfl rfl rfl rfl rfl rfl ?_; assumption) | refine Kept.ite ?_ ?_
    | split | dsimp only

theorem State.mountTake_kept {k0 s : State} (h : Kept k0 s) : Kept k0 (State.mountTake s) := by
  unfold State.mountTake
  try dsimp only
  with_reducible repeat' first
    | assumption | apply State.satCount_kept | apply State.advise_kept | apply State.addJob_kept | apply State.writeCtab_kept
    | (refine Kept.lit rfl rfl rfl rfl rfl rfl ?_; assumption) | refine Kept.ite ?_ ?_ | split | dsimp only

theorem State.mountGo_kept {k0 s : State} (h : Kept k0 s) (n : Nat) : Kept k0 (State.mountGo n s) := by
  induction n generalizing s with
  | zero => exact h
  | succ n ih =>
    unfold State.mountGo
    dsimp only
    split
    · exact State.mountTake_kept h
    · split
      · exact ih (h.fields rfl rfl rfl rfl rfl rfl)
      · refine State.addJob_kept ?_ _ _ _
        exact h.fields rfl rfl rfl rfl rfl rfl

theorem State.caveMount_kept {k0 s : State} (h : Kept k0 s) : Kept k0 (State.caveMount s) := by
  unfold State.caveMount
  with_reducible repeat' first
    | assumption | apply State.mountGo_kept | refine Kept.ite ?_ ?_

theorem State.takeStandbyReq_kept {k0 s : State} (h : Kept k0 s) : Kept k0 (State.takeStandbyReq s) := by
  unfold State.takeStandbyReq
  try dsimp only
  with_reducible repeat' first
    | assumption | refine Kept.getD ?_ (fun _ _ => ?_) | (refine Kept.lit rfl rfl rfl rfl rfl rfl ?_; assumption) | dsimp only

theorem State.openBlocks_kept {k0 s : State} (h : Kept k0 s) : Kept k0 (State.openBlocks s) := by
  unfold State.openBlocks
  try dsimp only
  with_reducible repeat' first
    | assumption | refine State.openRecBlock_kept ?_ (by assumption) | refine Kept.getD ?_ (fun _ _ => ?_)
    | (refine Kept.lit rfl rfl rfl rfl rfl rfl ?_; first | assumption | refine State.openRecBlock_kept ?_ (by assumption) | refine Kept.getD ?_ (fun _ _ => ?_))
    | split | dsimp only

theorem State.mountEnd_kept {k0 s : State} (h : Kept k0 s) : Kept k0 (State.mountEnd s) := by
  unfold State.mountEnd
  try dsimp only
  with_reducible repeat' first
    | assumption | apply State.takeStandbyReq_kept | apply State.advise_kept | apply State.openBlocks_kept
    | apply State.logCave_kept | apply State.poolChanged_kept | apply State.startLogProgram_kept | apply State.flushLog_kept
    | apply State.startRecWrite_kept
    | (refine Kept.lit rfl rfl rfl rfl rfl rfl ?_; first | assumption | apply State.takeStandbyReq_kept | apply State.advise_kept | apply State.openBlocks_kept | apply State.logCave_kept | apply State.poolChanged_kept | apply State.startLogProgram_kept | apply State.flushLog_kept | apply State.startRecWrite_kept | refine Kept.ite ?_ ?_)
    | refine Kept.ite ?_ ?_ | dsimp only

theorem State.startCopy_kept {k0 s : State} (h : Kept k0 s) (slot : Nat) (gen : Nat) (kind : JobKind) : Kept k0 (State.startCopy s slot gen kind) := by
  unfold State.startCopy
  try dsimp only
  with_reducible repeat' first
    | assumption | apply State.addJob_kept | (refine Kept.lit rfl rfl rfl rfl rfl rfl ?_; assumption) | refine Kept.ite ?_ ?_
    | split | dsimp only

theorem State.startMove_kept {k0 s : State} (h : Kept k0 s) (src : Nat) (dst : Nat) : Kept k0 (State.startMove s src dst) := by
  unfold State.startMove
  try dsimp only
  with_reducible repeat' first
    | assumption | apply State.addJob_kept | (refine Kept.lit rfl rfl rfl rfl rfl rfl ?_; assumption) | refine Kept.ite ?_ ?_
    | dsimp only

theorem State.startRetire_kept {k0 s : State} (h : Kept k0 s) (b : Nat) : Kept k0 (State.startRetire s b) := by
  unfold State.startRetire
  with_reducible repeat' first
    | assumption | apply State.addJob_kept

theorem State.serviceBlock_kept {k0 s t : State} {b : Nat} {dead : Bool} (h : Kept k0 s) (e : s.serviceBlock b dead = some t) : Kept k0 t := by
  unfold State.serviceBlock at e
  dsimp only at e
  repeat' split at e
  all_goals first
    | (obtain ⟨x, -, rfl⟩ := Option.map_eq_some_iff.1 e; exact State.startMove_kept h _ x)
    | cases e
  all_goals repeat' first
    | with_reducible assumption
    | with_reducible apply State.startRetire_kept
    | with_reducible apply State.startCopy_kept
    | with_reducible apply State.startMove_kept
    | with_reducible apply State.writeCtab_kept
    | (with_reducible refine Kept.lit rfl rfl rfl rfl rfl rfl ?_; first | with_reducible assumption | with_reducible apply State.startCopy_kept | with_reducible apply State.writeCtab_kept | with_reducible refine Kept.ite ?_ ?_)
    | with_reducible refine Kept.ite ?_ ?_

theorem State.serviceFirst_kept {k0 s t : State} {l : List Nat} {dead : Bool} (h : Kept k0 s) (e : s.serviceFirst dead l = some t) : Kept k0 t := by
  induction l with
  | nil => cases e
  | cons b l ih =>
    unfold State.serviceFirst at e
    split at e
    · cases e
      exact State.serviceBlock_kept h (by assumption)
    · exact ih e

theorem State.caveService_kept {k0 s : State} (h : Kept k0 s) : Kept k0 (State.caveService s) := by
  unfold State.caveService
  with_reducible repeat' first
    | assumption | refine State.serviceFirst_kept ?_ (by assumption) | refine Kept.getD ?_ (fun _ _ => ?_)
    | (refine Kept.lit rfl rfl rfl rfl rfl rfl ?_; assumption) | refine Kept.ite ?_ ?_ | split | dsimp only

theorem State.retired_kept {k0 s : State} (h : Kept k0 s) (b : Nat) : Kept k0 (State.retired s b) := by
  unfold State.retired
  try dsimp only
  with_reducible repeat' first
    | assumption | apply State.notice_kept | apply State.logCave_kept | apply State.poolChanged_kept
    | apply State.writeCtab_kept | (refine Kept.lit rfl rfl rfl rfl rfl rfl ?_; assumption) | refine Kept.ite ?_ ?_ | dsimp only

theorem State.collectOps_kept {k0 s t : State} {l : List (Nat × Nat)} {r : List NandOp} (h : Kept k0 s) (e : s.collectOps l = some (r, t)) :
    Kept k0 t := by
  induction l generalizing s r with
  | nil => cases e; exact h
  | cons p l ih =>
    unfold State.collectOps at e
    split at e
    · cases e
    · dsimp only at e
      split at e
      · cases e
      · cases e
        exact ih (State.allocSlot_kept h (by assumption)) (by assumption)

theorem State.collectIfLow_kept {k0 s : State} (h : Kept k0 s) : Kept k0 (State.collectIfLow s) := by
  unfold State.collectIfLow
  with_reducible repeat' first
    | assumption | refine State.collectOps_kept ?_ (by assumption) | apply State.addJob_kept
    | (refine Kept.lit rfl rfl rfl rfl rfl rfl ?_; assumption) | refine Kept.ite ?_ ?_ | split | dsimp only

theorem State.skipOld_kept {k0 s : State} (h : Kept k0 s) (old : Option (Nat × Nat)) : Kept k0 (State.skipOld s old) := by
  unfold State.skipOld
  with_reducible repeat' first
    | assumption | (refine Kept.lit rfl rfl rfl rfl rfl rfl ?_; assumption) | split | dsimp only

theorem State.recordWriteDone_kept {k0 s : State} (h : Kept k0 s) : Kept k0 (State.recordWriteDone s) := by
  unfold State.recordWriteDone
  try dsimp only
  with_reducible repeat' first
    | assumption | apply State.dropJob_kept | apply State.skipOld_kept | apply State.collectIfLow_kept
    | apply State.startRecWrite_kept | apply State.caveService_kept | apply State.nandPick_kept
    | (refine Kept.lit rfl rfl rfl rfl rfl rfl ?_; first | assumption | apply State.dropJob_kept | apply State.skipOld_kept | apply State.collectIfLow_kept | apply State.startRecWrite_kept | apply State.caveService_kept | apply State.nandPick_kept | refine Kept.ite ?_ ?_)
    | refine Kept.ite ?_ ?_ | split | dsimp only

theorem State.logProgrammed_kept {k0 s : State} (h : Kept k0 s) (failed : Bool) : Kept k0 (State.logProgrammed s failed) := by
  unfold State.logProgrammed
  try dsimp only
  with_reducible repeat' first
    | assumption | apply State.startLogProgram_kept | apply State.flushLog_kept
    | (refine Kept.lit rfl rfl rfl rfl rfl rfl ?_; assumption) | refine Kept.ite ?_ ?_ | dsimp only

theorem State.logFlushDue_kept {k0 s : State} (h : Kept k0 s) : Kept k0 (State.logFlushDue s) := by
  unfold State.logFlushDue
  with_reducible repeat' first
    | assumption | apply State.flushLog_kept | refine Kept.ite ?_ ?_

theorem State.reqCheckpoint_kept {k0 s : State} (h : Kept k0 s) : Kept k0 (State.reqCheckpoint s) := by
  unfold State.reqCheckpoint
  try dsimp only
  with_reducible repeat' first
    | assumption | apply State.writeCtab_kept | apply State.logCave_kept | dsimp only

theorem State.retentionTick_kept {k0 s : State} (h : Kept k0 s) : Kept k0 (State.retentionTick s) := by
  unfold State.retentionTick
  try dsimp only
  with_reducible repeat' first
    | assumption | apply State.dueBlock_kept | apply State.reqCheckpoint_kept | apply State.caveService_kept
    | refine Kept.foldl (fun _ _ _ => ?_) ?_
    | (refine Kept.lit rfl rfl rfl rfl rfl rfl ?_; first | assumption | apply State.dueBlock_kept | apply State.reqCheckpoint_kept | apply State.caveService_kept | refine Kept.foldl (fun _ _ _ => ?_) ?_ | refine Kept.ite ?_ ?_)
    | refine Kept.ite ?_ ?_ | dsimp only

theorem State.refreshPassPage_kept {k0 s : State} (h : Kept k0 s) : Kept k0 (State.refreshPassPage s) := by
  unfold State.refreshPassPage
  try dsimp only
  with_reducible repeat' first
    | assumption | apply State.addJob_kept | apply State.notice_kept | apply State.logCave_kept
    | (refine Kept.lit rfl rfl rfl rfl rfl rfl ?_; assumption) | refine Kept.ite ?_ ?_ | split | dsimp only

theorem State.wearLevelCheck_kept {k0 s : State} (h : Kept k0 s) : Kept k0 (State.wearLevelCheck s) := by
  unfold State.wearLevelCheck
  try dsimp only
  with_reducible repeat' first
    | assumption | apply State.startMove_kept | (refine Kept.lit rfl rfl rfl rfl rfl rfl ?_; assumption) | refine Kept.ite ?_ ?_
    | split | dsimp only

theorem State.updProgram_kept {k0 s : State} (h : Kept k0 s) : Kept k0 (State.updProgram s) := by
  unfold State.updProgram
  with_reducible repeat' first
    | assumption | apply State.addJob_kept | (refine Kept.lit rfl rfl rfl rfl rfl rfl ?_; assumption) | refine Kept.ite ?_ ?_
    | split | dsimp only

theorem State.updEraseRest_kept {k0 s : State} (h : Kept k0 s) (u : ImgUpd) : Kept k0 (State.updEraseRest s u) := by
  unfold State.updEraseRest
  with_reducible repeat' first
    | assumption | apply State.addJob_kept | refine Kept.ite ?_ ?_

theorem State.updPageDone_kept {k0 s : State} (h : Kept k0 s) (failed : Bool) : Kept k0 (State.updPageDone s failed) := by
  unfold State.updPageDone
  try dsimp only
  with_reducible repeat' first
    | assumption | apply State.updFail_kept | apply State.updEraseRest_kept | apply State.updProgram_kept
    | (refine Kept.lit rfl rfl rfl rfl rfl rfl ?_; assumption) | refine Kept.ite ?_ ?_ | split | dsimp only

theorem State.updEndDone_kept {k0 s : State} (h : Kept k0 s) (failed : Bool) : Kept k0 (State.updEndDone s failed) := by
  unfold State.updEndDone
  with_reducible repeat' first
    | assumption | apply State.updFail_kept | apply State.addJob_kept | (refine Kept.lit rfl rfl rfl rfl rfl rfl ?_; assumption)
    | refine Kept.ite ?_ ?_ | split | dsimp only

theorem State.imageCheckDone_kept {k0 s : State} (h : Kept k0 s) : Kept k0 (State.imageCheckDone s) := by
  unfold State.imageCheckDone
  try dsimp only
  with_reducible repeat' first
    | assumption | apply State.dropJob_kept | apply State.imageNotice_kept | apply State.addJob_kept | apply State.nandPick_kept
    | refine Kept.getD ?_ (fun _ _ => ?_)
    | (refine Kept.lit rfl rfl rfl rfl rfl rfl ?_; first | assumption | apply State.dropJob_kept | apply State.imageNotice_kept | apply State.addJob_kept | apply State.nandPick_kept | refine Kept.getD ?_ (fun _ _ => ?_) | refine Kept.ite ?_ ?_)
    | refine Kept.ite ?_ ?_ | split | dsimp only

theorem State.imageRepairEnd_kept {k0 s : State} (h : Kept k0 s) : Kept k0 (State.imageRepairEnd s) := by
  unfold State.imageRepairEnd
  try dsimp only
  with_reducible repeat' first
    | assumption | apply State.dropJob_kept | apply State.notice_kept | apply State.logCave_kept | apply State.caveService_kept
    | apply State.nandPick_kept
    | (refine Kept.lit rfl rfl rfl rfl rfl rfl ?_; first | assumption | apply State.dropJob_kept | apply State.notice_kept | apply State.logCave_kept | apply State.caveService_kept | apply State.nandPick_kept)
    | split | dsimp only

theorem State.caveJobDone_kept {k0 s : State} (h : Kept k0 s) (j : NandJob) : Kept k0 (State.caveJobDone s j) := by
  unfold State.caveJobDone
  try dsimp only
  with_reducible repeat' first
    | assumption | apply State.dropJob_kept | apply State.mountGo_kept | apply State.writeCtab_kept
    | apply State.logProgrammed_kept | apply State.addJob_kept | apply State.collectIfLow_kept | apply State.startRecWrite_kept
    | apply State.startRetire_kept | apply State.retired_kept | apply State.updPageDone_kept | apply State.updEndDone_kept
    | (refine Kept.lit rfl rfl rfl rfl rfl rfl ?_; first | assumption | apply State.dropJob_kept | apply State.mountGo_kept | apply State.writeCtab_kept | apply State.logProgrammed_kept | apply State.addJob_kept | apply State.collectIfLow_kept | apply State.startRecWrite_kept | apply State.startRetire_kept | apply State.retired_kept | apply State.updPageDone_kept | apply State.updEndDone_kept | refine Kept.ite ?_ ?_)
    | refine Kept.ite ?_ ?_ | split | dsimp only

theorem State.cutOff_kept {k0 s : State} (h : Kept k0 s) : Kept k0 (State.cutOff s) := by
  unfold State.cutOff
  with_reducible repeat' first
    | assumption | apply State.erasePages_kept | (refine Kept.lit rfl rfl rfl rfl rfl rfl ?_; assumption) | split | dsimp only

theorem State.startMounting_kept {k0 s : State} (h : Kept k0 s) : Kept k0 (State.startMounting s) := by
  unfold State.startMounting
  try dsimp only
  with_reducible repeat' first
    | assumption | (refine Kept.lit rfl rfl rfl rfl rfl rfl ?_; assumption) | refine Kept.ite ?_ ?_ | dsimp only

end Sys2Proof.Machine
end

