-- ==== Sys2Proof/Laws/KeptUnits.lean ====
section
/-!
SUPPORT. What the operations of the battery, fusion, monitoring, lock and lifecycle units and of the commands' bodies keep.
-/

namespace Sys2Proof.Machine

set_option Elab.async false
set_option linter.all false

/-! ### Battery -/

theorem State.publishCurd_kept {k0 s : State} (h : Kept k0 s) (c : Curd) (time : Nat) (stby : Bool) (gap : Bool) (est : Bool) : Kept k0 (State.publishCurd s c time stby gap est) := by
  unfold State.publishCurd
  try dsimp only
  with_reducible repeat' first
    | assumption | apply State.setReg_kept | apply State.orReg_kept | refine Kept.getD ?_ (fun _ _ => ?_)
    | refine Kept.foldl (fun _ _ _ => ?_) ?_ | refine Kept.ite ?_ ?_ | dsimp only

theorem State.ntcFaults_kept {k0 s : State} (h : Kept k0 s) (c : Curd) : Kept k0 (State.ntcFaults s c) := by
  unfold State.ntcFaults
  try dsimp only
  with_reducible repeat' first
    | assumption | apply State.orReg_kept | apply State.notice_kept | apply State.advise_kept
    | refine Kept.getD ?_ (fun _ _ => ?_) | refine Kept.foldl (fun _ _ _ => ?_) ?_
    | (refine Kept.lit rfl rfl rfl rfl rfl rfl ?_; first | assumption | apply State.orReg_kept | apply State.notice_kept | apply State.advise_kept | refine Kept.getD ?_ (fun _ _ => ?_) | refine Kept.foldl (fun _ _ _ => ?_) ?_ | refine Kept.ite ?_ ?_)
    | refine Kept.ite ?_ ?_ | dsimp only

theorem State.setBat_kept {k0 s : State} (h : Kept k0 s) (b : BatSt) : Kept k0 (State.setBat s b) := by
  unfold State.setBat
  with_reducible repeat' first
    | assumption | (refine Kept.lit rfl rfl rfl rfl rfl rfl ?_; assumption)

theorem State.batLog_kept {k0 s : State} (h : Kept k0 s) (event : Nat) (index : Nat) (id : Nat) (data : List Byte) : Kept k0 (State.batLog s event index id data) := by
  unfold State.batLog
  with_reducible repeat' first
    | assumption | apply State.logEntry_kept

theorem State.packNotice_kept {k0 s : State} (h : Kept k0 s) (event : Nat) (index : Nat) (id : Nat) : Kept k0 (State.packNotice s event index id) := by
  unfold State.packNotice
  with_reducible repeat' first
    | assumption | apply State.notice_kept

theorem State.writePack_kept {k0 s : State} (h : Kept k0 s) (index : Nat) (r : PackRec) : Kept k0 (State.writePack s index r) := by
  unfold State.writePack
  with_reducible repeat' first
    | assumption | apply State.recordWrite_kept | apply State.orReg_kept | refine Kept.ite ?_ ?_

theorem State.checkpoint_kept {k0 s : State} (h : Kept k0 s) : Kept k0 (State.checkpoint s) := by
  unfold State.checkpoint
  try dsimp only
  with_reducible repeat' first
    | assumption | apply State.setBat_kept | apply State.writePack_kept
    | (refine Kept.lit rfl rfl rfl rfl rfl rfl ?_; assumption) | split | dsimp only

theorem State.insertEntry_kept {k0 s : State} (h : Kept k0 s) (result : Nat) : Kept k0 (State.insertEntry s result) := by
  unfold State.insertEntry
  with_reducible repeat' first
    | assumption | apply State.setBat_kept | apply State.batLog_kept | refine Kept.getD ?_ (fun _ _ => ?_)
    | (refine Kept.lit rfl rfl rfl rfl rfl rfl ?_; assumption) | refine Kept.ite ?_ ?_ | split | dsimp only

theorem State.closeSession_kept {k0 s0 : State} (h : Kept k0 s0) : Kept k0 (State.closeSession s0) := by
  unfold State.closeSession
  try dsimp only
  with_reducible repeat' first
    | assumption | apply State.insertEntry_kept | apply State.setBat_kept | apply State.writePack_kept
    | apply State.packNotice_kept | apply State.batLog_kept | (refine Kept.lit rfl rfl rfl rfl rfl rfl ?_; assumption)
    | refine Kept.ite ?_ ?_ | split | dsimp only

theorem State.cacheRecord_kept {k0 s : State} (h : Kept k0 s) : Kept k0 (State.cacheRecord s) := by
  unfold State.cacheRecord
  try dsimp only
  with_reducible repeat' first
    | assumption | apply State.setBat_kept | (refine Kept.lit rfl rfl rfl rfl rfl rfl ?_; assumption) | refine Kept.ite ?_ ?_
    | split | dsimp only

theorem State.takeCached_kept {k0 s t : State} {key : Nat} {l : List Byte} (h : Kept k0 s) (e : s.takeCached key = some (l, t)) : Kept k0 t := by
  unfold State.takeCached at e
  obtain ⟨p, -, hp⟩ := Option.map_eq_some_iff.1 e
  obtain ⟨-, rfl⟩ := Prod.mk.inj hp
  exact State.setBat_kept h _

theorem State.cachedRecord_kept {k0 s t : State} {key : Nat} {l : List Byte} (h : Kept k0 s) (e : s.cachedRecord key = some (l, t)) : Kept k0 t := by
  unfold State.cachedRecord at e
  repeat' split at e
  · obtain ⟨-, rfl⟩ := Prod.mk.inj (Option.some.inj e)
    exact h
  · exact State.takeCached_kept h e
  · exact State.takeCached_kept h e

theorem State.closeLeft_kept {k0 s : State} (h : Kept k0 s) (key : Nat) (r : PackRec) : Kept k0 (State.closeLeft s key r) := by
  unfold State.closeLeft
  try dsimp only
  with_reducible repeat' first
    | assumption | apply State.setBat_kept | apply State.writePack_kept
    | (refine Kept.lit rfl rfl rfl rfl rfl rfl ?_; assumption) | refine Kept.ite ?_ ?_ | dsimp only

theorem State.closeStale_kept {k0 s : State} (h : Kept k0 s) (except : Nat) : Kept k0 (State.closeStale s except) := by
  unfold State.closeStale
  try dsimp only
  with_reducible repeat' first
    | assumption | apply State.closeLeft_kept | apply State.setBat_kept | refine Kept.foldl (fun _ _ _ => ?_) ?_
    | (refine Kept.lit rfl rfl rfl rfl rfl rfl ?_; assumption) | refine Kept.ite ?_ ?_ | split | dsimp only

theorem State.openPack_kept {k0 s : State} (h : Kept k0 s) (id : Nat) : Kept k0 (State.openPack s id) := by
  unfold State.openPack
  try dsimp only
  with_reducible repeat' first
    | assumption | apply State.closeStale_kept | apply State.setBat_kept | apply State.orReg_kept | apply State.satInc_kept
    | apply State.batLog_kept | apply State.packNotice_kept | apply State.insertEntry_kept | apply State.checkpoint_kept
    | refine Kept.getD ?_ (fun _ _ => ?_) | (refine Kept.lit rfl rfl rfl rfl rfl rfl ?_; assumption) | refine Kept.ite ?_ ?_
    | dsimp only

theorem State.openScratch_kept {k0 s : State} (h : Kept k0 s) : Kept k0 (State.openScratch s) := by
  unfold State.openScratch
  try dsimp only
  with_reducible repeat' first
    | assumption | apply State.setBat_kept | apply State.packNotice_kept | apply State.batLog_kept | apply State.orReg_kept
    | apply State.advise_kept | apply State.checkpoint_kept | (refine Kept.lit rfl rfl rfl rfl rfl rfl ?_; assumption)
    | dsimp only

theorem State.identified_kept {k0 s : State} (h : Kept k0 s) (id : Nat) : Kept k0 (State.identified s id) := by
  unfold State.identified
  try dsimp only
  with_reducible repeat' first
    | assumption | apply State.setBat_kept | apply State.openPack_kept | apply State.addJob_kept
    | (refine Kept.lit rfl rfl rfl rfl rfl rfl ?_; assumption) | refine Kept.ite ?_ ?_ | dsimp only

theorem State.sessionFetched_kept {k0 s : State} (h : Kept k0 s) (again : Bool) : Kept k0 (State.sessionFetched s again) := by
  unfold State.sessionFetched
  with_reducible repeat' first
    | assumption | apply State.addJob_kept | apply State.openPack_kept
    | (refine Kept.lit rfl rfl rfl rfl rfl rfl ?_; assumption) | refine Kept.ite ?_ ?_ | split | dsimp only

theorem State.presenceStep_kept {k0 s : State} (h : Kept k0 s) (seen : Option Bool) : Kept k0 (State.presenceStep s seen) := by
  unfold State.presenceStep
  try dsimp only
  with_reducible repeat' first
    | assumption | apply State.setBat_kept | apply State.insertEntry_kept | apply State.packNotice_kept
    | apply State.batLog_kept | apply State.closeSession_kept | refine Kept.getD ?_ (fun _ _ => ?_)
    | (refine Kept.lit rfl rfl rfl rfl rfl rfl ?_; assumption) | refine Kept.ite ?_ ?_ | split | dsimp only

theorem State.addCharge_kept {k0 s : State} (h : Kept k0 s) (dq : Int) : Kept k0 (State.addCharge s dq) := by
  unfold State.addCharge
  try dsimp only
  with_reducible repeat' first
    | assumption | apply State.setBat_kept | (refine Kept.lit rfl rfl rfl rfl rfl rfl ?_; assumption) | split | dsimp only

theorem State.countWindow_kept {k0 s : State} (h : Kept k0 s) (i : Int) : Kept k0 (State.countWindow s i) := by
  unfold State.countWindow
  try dsimp only
  with_reducible repeat' first
    | assumption | apply State.setBat_kept | apply State.addCharge_kept
    | (refine Kept.lit rfl rfl rfl rfl rfl rfl ?_; assumption) | refine Kept.ite ?_ ?_ | dsimp only

theorem State.countInterval_kept {k0 s : State} (h : Kept k0 s) (i : Int) (n : Nat) : Kept k0 (State.countInterval s i n) := by
  unfold State.countInterval
  try dsimp only
  with_reducible repeat' first
    | assumption | apply State.setBat_kept | apply State.addCharge_kept
    | (refine Kept.lit rfl rfl rfl rfl rfl rfl ?_; assumption) | refine Kept.ite ?_ ?_ | dsimp only

theorem State.countSoc_kept {k0 s : State} (h : Kept k0 s) : Kept k0 (State.countSoc s) := by
  unfold State.countSoc
  try dsimp only
  with_reducible repeat' first
    | assumption | apply State.setBat_kept | (refine Kept.lit rfl rfl rfl rfl rfl rfl ?_; assumption) | split | dsimp only

theorem State.repStep_kept {k0 s : State} (h : Kept k0 s) (n : Nat) : Kept k0 (State.repStep s n) := by
  unfold State.repStep
  try dsimp only
  with_reducible repeat' first
    | assumption | apply State.setBat_kept | (refine Kept.lit rfl rfl rfl rfl rfl rfl ?_; assumption) | refine Kept.ite ?_ ?_
    | split | dsimp only

theorem State.setAnchor_kept {k0 s : State} (h : Kept k0 s) (kind : Nat) (sa : Nat) : Kept k0 (State.setAnchor s kind sa) := by
  unfold State.setAnchor
  try dsimp only
  with_reducible repeat' first
    | assumption | apply State.setBat_kept | apply State.orReg_kept | apply State.batLog_kept | apply State.checkpoint_kept
    | refine Kept.getD ?_ (fun _ _ => ?_) | (refine Kept.lit rfl rfl rfl rfl rfl rfl ?_; assumption) | refine Kept.ite ?_ ?_
    | split | dsimp only

theorem State.setSoc_kept {k0 s : State} (h : Kept k0 s) (w : Word) : Kept k0 (State.setSoc s w) := by
  unfold State.setSoc
  with_reducible repeat' first
    | assumption | apply State.setAnchor_kept | apply State.orReg_kept | refine Kept.ite ?_ ?_

theorem State.anchorTests_kept {k0 s : State} (h : Kept k0 s) (c : Curd) : Kept k0 (State.anchorTests s c) := by
  unfold State.anchorTests
  try dsimp only
  with_reducible repeat' first
    | assumption | apply State.setBat_kept | apply State.insertEntry_kept | apply State.setAnchor_kept
    | (refine Kept.lit rfl rfl rfl rfl rfl rfl ?_; assumption) | refine Kept.ite ?_ ?_ | split | dsimp only

theorem State.extremeStep_kept {k0 s : State} (h : Kept k0 s) (c : Curd) : Kept k0 (State.extremeStep s c) := by
  unfold State.extremeStep
  with_reducible repeat' first
    | assumption | apply State.setBat_kept | (refine Kept.lit rfl rfl rfl rfl rfl rfl ?_; assumption) | refine Kept.ite ?_ ?_
    | split | dsimp only

theorem State.histStep_kept {k0 s : State} (h : Kept k0 s) (c : Curd) (units : Nat) (run : Bool) : Kept k0 (State.histStep s c units run) := by
  unfold State.histStep
  try dsimp only
  with_reducible repeat' first
    | assumption | apply State.setBat_kept | (refine Kept.lit rfl rfl rfl rfl rfl rfl ?_; assumption) | refine Kept.ite ?_ ?_
    | split | dsimp only

theorem State.curdDone_kept {k0 s : State} (h : Kept k0 s) (v : Nat) (code : BitVec 24) (excess : Bool) (ntc : List Nat) (age : Nat) : Kept k0 (State.curdDone s v code excess ntc age) := by
  unfold State.curdDone
  try dsimp only
  with_reducible repeat' first
    | assumption | apply State.presenceStep_kept | apply State.publishCurd_kept | apply State.ntcFaults_kept
    | apply State.countWindow_kept | apply State.setBat_kept | apply State.anchorTests_kept | apply State.countSoc_kept
    | apply State.extremeStep_kept | apply State.histStep_kept | (refine Kept.lit rfl rfl rfl rfl rfl rfl ?_; assumption)
    | refine Kept.ite ?_ ?_ | dsimp only

theorem State.lostCurd_kept {k0 s : State} (h : Kept k0 s) : Kept k0 (State.lostCurd s) := by
  unfold State.lostCurd
  try dsimp only
  with_reducible repeat' first
    | assumption | apply State.orReg_kept | apply State.satInc_kept | apply State.setBat_kept
    | (refine Kept.lit rfl rfl rfl rfl rfl rfl ?_; assumption) | dsimp only

theorem State.nextStandbyCurd_kept {k0 s : State} (h : Kept k0 s) : Kept k0 (State.nextStandbyCurd s) := by
  unfold State.nextStandbyCurd
  with_reducible repeat' first
    | assumption | apply State.setBat_kept | (refine Kept.lit rfl rfl rfl rfl rfl rfl ?_; assumption)

theorem State.curdLost_kept {k0 s : State} (h : Kept k0 s) : Kept k0 (State.curdLost s) := by
  unfold State.curdLost
  try dsimp only
  with_reducible repeat' first
    | assumption | apply State.presenceStep_kept | apply State.countWindow_kept | apply State.setBat_kept
    | apply State.lostCurd_kept | apply State.countInterval_kept | apply State.nextStandbyCurd_kept
    | (refine Kept.lit rfl rfl rfl rfl rfl rfl ?_; assumption) | refine Kept.ite ?_ ?_ | dsimp only

theorem State.epochAdvance_kept {k0 s : State} (h : Kept k0 s) : Kept k0 (State.epochAdvance s) := by
  unfold State.epochAdvance
  try dsimp only
  with_reducible repeat' first
    | assumption | apply State.setBat_kept | apply State.setReg_kept | (refine Kept.lit rfl rfl rfl rfl rfl rfl ?_; assumption)
    | refine Kept.ite ?_ ?_ | dsimp only

theorem State.standbyCurd_kept {k0 s : State} (h : Kept k0 s) (v : Nat) (code : BitVec 24) (excess : Bool) (ntc : List Nat) : Kept k0 (State.standbyCurd s v code excess ntc) := by
  unfold State.standbyCurd
  try dsimp only
  with_reducible repeat' first
    | assumption | apply State.presenceStep_kept | apply State.publishCurd_kept | apply State.ntcFaults_kept
    | apply State.countInterval_kept | apply State.nextStandbyCurd_kept | apply State.setBat_kept | apply State.countSoc_kept
    | apply State.extremeStep_kept | apply State.histStep_kept | apply State.repStep_kept | apply State.epochAdvance_kept
    | apply State.accountStandby_kept | apply State.requestWake_kept | (refine Kept.lit rfl rfl rfl rfl rfl rfl ?_; assumption)
    | refine Kept.ite ?_ ?_ | dsimp only

theorem State.socReportStep_kept {k0 s : State} (h : Kept k0 s) : Kept k0 (State.socReportStep s) := by
  unfold State.socReportStep
  try dsimp only
  with_reducible repeat' first
    | assumption | apply State.repStep_kept | apply State.setBat_kept | (refine Kept.lit rfl rfl rfl rfl rfl rfl ?_; assumption)
    | refine Kept.ite ?_ ?_ | dsimp only

theorem State.epochTick_kept {k0 s : State} (h : Kept k0 s) : Kept k0 (State.epochTick s) := by
  unfold State.epochTick
  with_reducible repeat' first
    | assumption | apply State.epochAdvance_kept | refine Kept.ite ?_ ?_

theorem State.writeEpoch_kept {k0 s : State} (h : Kept k0 s) (w : Word) : Kept k0 (State.writeEpoch s w) := by
  unfold State.writeEpoch
  with_reducible repeat' first
    | assumption | apply State.setReg_kept | apply State.setBat_kept | (refine Kept.lit rfl rfl rfl rfl rfl rfl ?_; assumption)

theorem State.recordCheckpoint_kept {k0 s : State} (h : Kept k0 s) : Kept k0 (State.recordCheckpoint s) := by
  unfold State.recordCheckpoint
  with_reducible repeat' first
    | assumption | apply State.setBat_kept | apply State.checkpoint_kept
    | (refine Kept.lit rfl rfl rfl rfl rfl rfl ?_; assumption) | refine Kept.ite ?_ ?_

theorem State.idAttempt_kept {k0 s : State} (h : Kept k0 s) : Kept k0 (State.idAttempt s) := by
  unfold State.idAttempt
  with_reducible repeat' first
    | assumption | apply State.setBat_kept | (refine Kept.lit rfl rfl rfl rfl rfl rfl ?_; assumption) | refine Kept.ite ?_ ?_

theorem State.packReturned_kept {k0 s : State} (h : Kept k0 s) : Kept k0 (State.packReturned s) := by
  unfold State.packReturned
  try dsimp only
  with_reducible repeat' first
    | assumption | apply State.setBat_kept | apply State.packNotice_kept | apply State.batLog_kept
    | refine Kept.getD ?_ (fun _ _ => ?_) | (refine Kept.lit rfl rfl rfl rfl rfl rfl ?_; assumption) | split | dsimp only

theorem State.idAttemptDone_kept {k0 s : State} (h : Kept k0 s) (r : IdReading) : Kept k0 (State.idAttemptDone s r) := by
  unfold State.idAttemptDone
  try dsimp only
  with_reducible repeat' first
    | assumption | apply State.setBat_kept | apply State.identified_kept | apply State.packReturned_kept
    | apply State.closeSession_kept | (refine Kept.lit rfl rfl rfl rfl rfl rfl ?_; assumption) | refine Kept.ite ?_ ?_
    | dsimp only

theorem State.idDeadline_kept {k0 s : State} (h : Kept k0 s) : Kept k0 (State.idDeadline s) := by
  unfold State.idDeadline
  try dsimp only
  with_reducible repeat' first
    | assumption | apply State.closeSession_kept | apply State.openScratch_kept | refine Kept.ite ?_ ?_ | dsimp only

theorem State.forgetId_kept {k0 s : State} (h : Kept k0 s) : Kept k0 (State.forgetId s) := by
  unfold State.forgetId
  with_reducible repeat' first
    | assumption | apply State.setBat_kept | (refine Kept.lit rfl rfl rfl rfl rfl rfl ?_; assumption)

theorem State.graceEnded_kept {k0 s : State} (h : Kept k0 s) : Kept k0 (State.graceEnded s) := by
  unfold State.graceEnded
  with_reducible repeat' first
    | assumption | apply State.setBat_kept | apply State.closeSession_kept | apply State.forgetId_kept
    | (refine Kept.lit rfl rfl rfl rfl rfl rfl ?_; assumption) | refine Kept.ite ?_ ?_

theorem State.batteryMount_kept {k0 s : State} (h : Kept k0 s) : Kept k0 (State.batteryMount s) := by
  unfold State.batteryMount
  try dsimp only
  with_reducible repeat' first
    | assumption | apply State.identified_kept | apply State.setBat_kept
    | (refine Kept.lit rfl rfl rfl rfl rfl rfl ?_; assumption) | refine Kept.ite ?_ ?_ | split | dsimp only

theorem State.batteryWake_kept {k0 s : State} (h : Kept k0 s) (src : Nat) : Kept k0 (State.batteryWake s src) := by
  unfold State.batteryWake
  try dsimp only
  with_reducible repeat' first
    | assumption | apply State.countInterval_kept | apply State.setBat_kept | apply State.idDeadline_kept
    | (refine Kept.lit rfl rfl rfl rfl rfl rfl ?_; assumption) | refine Kept.ite ?_ ?_ | dsimp only

theorem State.batterySleep_kept {k0 s : State} (h : Kept k0 s) : Kept k0 (State.batterySleep s) := by
  unfold State.batterySleep
  with_reducible repeat' first
    | assumption | apply State.setBat_kept | (refine Kept.lit rfl rfl rfl rfl rfl rfl ?_; assumption) | dsimp only

theorem State.batteryShip_kept {k0 s : State} (h : Kept k0 s) : Kept k0 (State.batteryShip s) := by
  unfold State.batteryShip
  try dsimp only
  with_reducible repeat' first
    | assumption | apply State.setBat_kept | apply State.closeSession_kept | apply State.forgetId_kept | apply State.batLog_kept
    | refine Kept.getD ?_ (fun _ _ => ?_) | (refine Kept.lit rfl rfl rfl rfl rfl rfl ?_; assumption) | dsimp only

theorem State.commitBattery_kept {k0 s : State} (h : Kept k0 s) (o : Nat → Word) (c : Nat → Word) : Kept k0 (State.commitBattery s o c) := by
  unfold State.commitBattery
  try dsimp only
  with_reducible repeat' first
    | assumption | apply State.setBat_kept | (refine Kept.lit rfl rfl rfl rfl rfl rfl ?_; assumption) | refine Kept.ite ?_ ?_
    | dsimp only

theorem State.clearBattery_kept {k0 s : State} (h : Kept k0 s) : Kept k0 (State.clearBattery s) := by
  unfold State.clearBattery
  with_reducible repeat' first
    | assumption | apply State.setBat_kept

/-! ### Fusion -/

theorem State.setFus_kept {k0 s : State} (h : Kept k0 s) (f : FusSt) : Kept k0 (State.setFus s f) := by
  unfold State.setFus
  with_reducible repeat' first
    | assumption | (refine Kept.lit rfl rfl rfl rfl rfl rfl ?_; assumption)

theorem State.setImu_kept {k0 s : State} (h : Kept k0 s) (n : Fin 2) (m : ImuSt) : Kept k0 (State.setImu s n m) := by
  unfold State.setImu
  with_reducible repeat' first
    | assumption | apply State.setFus_kept | (refine Kept.lit rfl rfl rfl rfl rfl rfl ?_; assumption)

theorem State.setSlot_kept {k0 s : State} (h : Kept k0 s) (i : Fin 32) (v : FusSlot) : Kept k0 (State.setSlot s i v) := by
  unfold State.setSlot
  with_reducible repeat' first
    | assumption | apply State.setFus_kept | (refine Kept.lit rfl rfl rfl rfl rfl rfl ?_; assumption)

theorem State.markStale_kept {k0 s : State} (h : Kept k0 s) (i : Fin 32) : Kept k0 (State.markStale s i) := by
  unfold State.markStale
  with_reducible repeat' first
    | assumption | apply State.setSlot_kept | (refine Kept.lit rfl rfl rfl rfl rfl rfl ?_; assumption) | refine Kept.ite ?_ ?_

theorem State.overGroup_kept {k0 s : State} (h : Kept k0 s) (g : List Nat) (f : FusSlot → FusSlot) : Kept k0 (State.overGroup s g f) := by
  unfold State.overGroup
  try dsimp only
  with_reducible repeat' first
    | assumption | apply State.setSlot_kept | refine Kept.foldl (fun _ _ _ => ?_) ?_ | dsimp only

theorem State.slotWrite_kept {k0 s : State} (h : Kept k0 s) (i : Fin 32) (w : Word) (tag : Bool) : Kept k0 (State.slotWrite s i w tag) := by
  unfold State.slotWrite
  try dsimp only
  with_reducible repeat' first
    | assumption | apply State.orReg_kept | apply State.satInc_kept | apply State.overGroup_kept | apply State.setSlot_kept
    | (refine Kept.lit rfl rfl rfl rfl rfl rfl ?_; assumption) | refine Kept.ite ?_ ?_ | dsimp only

theorem State.gridMode_kept {k0 s : State} (h : Kept k0 s) : Kept k0 (State.gridMode s) := by
  unfold State.gridMode
  try dsimp only
  with_reducible repeat' first
    | assumption | apply State.standstill_kept | apply State.setFus_kept
    | (refine Kept.lit rfl rfl rfl rfl rfl rfl ?_; assumption) | refine Kept.ite ?_ ?_ | dsimp only

theorem State.gridFall_kept {k0 s : State} (h : Kept k0 s) : Kept k0 (State.gridFall s) := by
  unfold State.gridFall
  with_reducible repeat' first
    | assumption | apply State.setFus_kept | (refine Kept.lit rfl rfl rfl rfl rfl rfl ?_; assumption) | refine Kept.ite ?_ ?_
    | split | dsimp only

theorem State.closeCell_kept {k0 s : State} (h : Kept k0 s) (newest : Nat) (dir : Dir) : Kept k0 (State.closeCell s newest dir) := by
  unfold State.closeCell
  try dsimp only
  with_reducible repeat' first
    | assumption | apply State.setFus_kept | apply State.satInc_kept | (refine Kept.lit rfl rfl rfl rfl rfl rfl ?_; assumption)
    | split | dsimp only

theorem State.cellClose_kept {k0 s : State} (h : Kept k0 s) : Kept k0 (State.cellClose s) := by
  unfold State.cellClose
  try dsimp only
  with_reducible repeat' first
    | assumption | apply State.gridMode_kept | apply State.setFus_kept | apply State.closeCell_kept
    | (refine Kept.lit rfl rfl rfl rfl rfl rfl ?_; assumption) | refine Kept.ite ?_ ?_ | dsimp only

theorem State.encoderDone_kept {k0 s : State} (h : Kept k0 s) : Kept k0 (State.encoderDone s) := by
  unfold State.encoderDone
  try dsimp only
  with_reducible repeat' first
    | assumption | apply State.setFus_kept | (refine Kept.lit rfl rfl rfl rfl rfl rfl ?_; assumption) | split | dsimp only

theorem State.coverMask_kept {k0 s : State} (h : Kept k0 s) : Kept k0 (State.coverMask s) := by
  unfold State.coverMask
  try dsimp only
  with_reducible repeat' first
    | assumption | apply State.setFus_kept | (refine Kept.lit rfl rfl rfl rfl rfl rfl ?_; assumption) | dsimp only

theorem State.fusWheel_kept {k0 s : State} (h : Kept k0 s) (before : State) (w : Fin 4) : Kept k0 (State.fusWheel before s w) := by
  unfold State.fusWheel
  try dsimp only
  with_reducible repeat' first
    | assumption | apply State.setFus_kept | apply State.coverMask_kept | apply State.gridMode_kept
    | (refine Kept.lit rfl rfl rfl rfl rfl rfl ?_; assumption) | refine Kept.ite ?_ ?_ | dsimp only

theorem State.fusWheels_kept {k0 s : State} (h : Kept k0 s) (before : State) : Kept k0 (State.fusWheels before s) := by
  unfold State.fusWheels
  with_reducible repeat' first
    | assumption | apply State.fusWheel_kept | refine Kept.foldl (fun _ _ _ => ?_) ?_ | dsimp only

theorem State.predictTracks_kept {k0 s : State} (h : Kept k0 s) : Kept k0 (State.predictTracks s) := by
  unfold State.predictTracks
  try dsimp only
  with_reducible repeat' first
    | assumption | apply State.setFus_kept | (refine Kept.lit rfl rfl rfl rfl rfl rfl ?_; assumption) | refine Kept.ite ?_ ?_
    | dsimp only

theorem State.startFetch_kept {k0 s : State} (h : Kept k0 s) (n : Fin 2) : Kept k0 (State.startFetch s n) := by
  unfold State.startFetch
  try dsimp only
  with_reducible repeat' first
    | assumption | apply State.setImu_kept | apply State.setFus_kept | (refine Kept.lit rfl rfl rfl rfl rfl rfl ?_; assumption)
    | dsimp only

theorem State.nextFetch_kept {k0 s : State} (h : Kept k0 s) : Kept k0 (State.nextFetch s) := by
  unfold State.nextFetch
  with_reducible repeat' first
    | assumption | apply State.startFetch_kept | refine Kept.ite ?_ ?_

theorem State.imuFetch_kept {k0 s : State} (h : Kept k0 s) (n : Fin 2) : Kept k0 (State.imuFetch s n) := by
  unfold State.imuFetch
  try dsimp only
  with_reducible repeat' first
    | assumption | apply State.setImu_kept | apply State.nextFetch_kept
    | (refine Kept.lit rfl rfl rfl rfl rfl rfl ?_; assumption) | refine Kept.ite ?_ ?_ | dsimp only

theorem State.imuFault_kept {k0 s : State} (h : Kept k0 s) (n : Fin 2) : Kept k0 (State.imuFault s n) := by
  unfold State.imuFault
  try dsimp only
  with_reducible repeat' first
    | assumption | apply State.setImu_kept | apply State.advise_kept | (refine Kept.lit rfl rfl rfl rfl rfl rfl ?_; assumption)
    | refine Kept.ite ?_ ?_ | dsimp only

theorem State.imuSample_kept {k0 s : State} (h : Kept k0 s) (n : Fin 2) (resp : List Byte) : Kept k0 (State.imuSample s n resp) := by
  unfold State.imuSample
  try dsimp only
  with_reducible repeat' first
    | assumption | apply State.setImu_kept
    | (refine Kept.lit rfl rfl rfl rfl rfl rfl ?_; first | assumption | apply State.setImu_kept) | dsimp only

theorem State.imuBad_kept {k0 s : State} (h : Kept k0 s) (n : Fin 2) : Kept k0 (State.imuBad s n) := by
  unfold State.imuBad
  try dsimp only
  with_reducible repeat' first
    | assumption | apply State.setImu_kept | apply State.satInc_kept | apply State.imuFault_kept
    | (refine Kept.lit rfl rfl rfl rfl rfl rfl ?_; assumption) | refine Kept.ite ?_ ?_ | dsimp only

theorem State.imuFetchDone_kept {k0 s : State} (h : Kept k0 s) (n : Fin 2) (resp : List Byte) : Kept k0 (State.imuFetchDone s n resp) := by
  unfold State.imuFetchDone
  try dsimp only
  with_reducible repeat' first
    | assumption | apply State.setImu_kept | apply State.imuBad_kept | apply State.imuSample_kept | apply State.nextFetch_kept
    | (refine Kept.lit rfl rfl rfl rfl rfl rfl ?_; assumption) | refine Kept.ite ?_ ?_ | dsimp only

theorem State.imuInit_kept {k0 s : State} (h : Kept k0 s) (n : Fin 2) (who : Byte) : Kept k0 (State.imuInit s n who) := by
  unfold State.imuInit
  try dsimp only
  with_reducible repeat' first
    | assumption | apply State.setFus_kept | apply State.imuFault_kept | apply State.setImu_kept
    | (refine Kept.lit rfl rfl rfl rfl rfl rfl ?_; assumption) | refine Kept.ite ?_ ?_ | split | dsimp only

theorem State.imuRestart_kept {k0 s : State} (h : Kept k0 s) (n : Fin 2) : Kept k0 (State.imuRestart s n) := by
  unfold State.imuRestart
  with_reducible repeat' first
    | assumption | apply State.setImu_kept | (refine Kept.lit rfl rfl rfl rfl rfl rfl ?_; assumption) | refine Kept.ite ?_ ?_

theorem State.refine_kept {k0 s : State} (h : Kept k0 s) (n : Fin 2) : Kept k0 (State.refine s n) := by
  unfold State.refine
  try dsimp only
  with_reducible repeat' first
    | assumption | apply State.setImu_kept | apply State.orReg_kept | apply State.logOf_kept | apply State.advise_kept
    | refine Kept.getD ?_ (fun _ _ => ?_) | (refine Kept.lit rfl rfl rfl rfl rfl rfl ?_; assumption) | refine Kept.ite ?_ ?_
    | split | dsimp only

theorem State.writeFuscal_kept {k0 s : State} (h : Kept k0 s) (n : Fin 2) : Kept k0 (State.writeFuscal s n) := by
  unfold State.writeFuscal
  with_reducible repeat' first
    | assumption | apply State.setImu_kept | apply State.recordWrite_kept
    | (refine Kept.lit rfl rfl rfl rfl rfl rfl ?_; assumption)

theorem State.fuscalTick_kept {k0 s : State} (h : Kept k0 s) (n : Fin 2) : Kept k0 (State.fuscalTick s n) := by
  unfold State.fuscalTick
  try dsimp only
  with_reducible repeat' first
    | assumption | apply State.setImu_kept | apply State.writeFuscal_kept
    | (refine Kept.lit rfl rfl rfl rfl rfl rfl ?_; assumption) | refine Kept.ite ?_ ?_ | dsimp only

theorem State.fuscalEntry_kept {k0 s : State} (h : Kept k0 s) : Kept k0 (State.fuscalEntry s) := by
  unfold State.fuscalEntry
  with_reducible repeat' first
    | assumption | apply State.writeFuscal_kept | refine Kept.foldl (fun _ _ _ => ?_) ?_ | refine Kept.ite ?_ ?_ | dsimp only

theorem State.readFuscal_kept {k0 s : State} (h : Kept k0 s) (n : Fin 2) : Kept k0 (State.readFuscal s n) := by
  unfold State.readFuscal
  try dsimp only
  with_reducible repeat' first
    | assumption | apply State.setImu_kept | (refine Kept.lit rfl rfl rfl rfl rfl rfl ?_; assumption) | refine Kept.ite ?_ ?_
    | split | dsimp only

theorem State.readFuscals_kept {k0 s : State} (h : Kept k0 s) : Kept k0 (State.readFuscals s) := by
  unfold State.readFuscals
  try dsimp only
  with_reducible repeat' first
    | assumption | apply State.setFus_kept | apply State.readFuscal_kept | refine Kept.foldl (fun _ _ _ => ?_) ?_
    | (refine Kept.lit rfl rfl rfl rfl rfl rfl ?_; assumption) | dsimp only

theorem State.fusionMount_kept {k0 s : State} (h : Kept k0 s) : Kept k0 (State.fusionMount s) := by
  unfold State.fusionMount
  with_reducible repeat' first
    | assumption | apply State.readFuscals_kept | refine Kept.ite ?_ ?_

theorem State.startHead_kept {k0 s : State} (h : Kept k0 s) : Kept k0 (State.startHead s) := by
  unfold State.startHead
  try dsimp only
  with_reducible repeat' first
    | assumption | apply State.setFus_kept | refine Kept.getD ?_ (fun _ _ => ?_)
    | (refine Kept.lit rfl rfl rfl rfl rfl rfl ?_; assumption) | dsimp only

theorem State.rideEvent_kept {k0 s : State} (h : Kept k0 s) (out : List Int) (k : Nat) (otime : Word) : Kept k0 (State.rideEvent s out k otime) := by
  unfold State.rideEvent
  try dsimp only
  with_reducible repeat' first
    | assumption | apply State.satInc_kept | apply State.notice_kept | apply State.logOf_kept | dsimp only

theorem State.publish_kept {k0 s : State} (h : Kept k0 s) (h : HeadRun) (out : List Int) : Kept k0 (State.publish s h out) := by
  unfold State.publish
  try dsimp only
  with_reducible repeat' first
    | assumption | apply State.setFus_kept | apply State.setReg_kept | apply State.rideEvent_kept
    | refine Kept.getD ?_ (fun _ _ => ?_) | refine Kept.foldl (fun _ _ _ => ?_) ?_
    | (refine Kept.lit rfl rfl rfl rfl rfl rfl ?_; first | assumption | apply State.setFus_kept | apply State.setReg_kept | apply State.rideEvent_kept | refine Kept.getD ?_ (fun _ _ => ?_) | refine Kept.foldl (fun _ _ _ => ?_) ?_)
    | split | dsimp only

theorem State.applyFus_kept {k0 s : State} (h : Kept k0 s) : Kept k0 (State.applyFus s) := by
  unfold State.applyFus
  try dsimp only
  with_reducible repeat' first
    | assumption | apply State.setFus_kept | apply State.imuRestart_kept | refine Kept.foldl (fun _ _ _ => ?_) ?_
    | (refine Kept.lit rfl rfl rfl rfl rfl rfl ?_; assumption) | refine Kept.ite ?_ ?_ | dsimp only

theorem State.testWithoutFrame_kept {k0 s : State} (h : Kept k0 s) : Kept k0 (State.testWithoutFrame s) := by
  unfold State.testWithoutFrame
  with_reducible repeat' first
    | assumption | (refine Kept.lit rfl rfl rfl rfl rfl rfl ?_; assumption) | split | dsimp only

theorem State.modelFailed_kept {k0 s : State} (h : Kept k0 s) (code : Nat) : Kept k0 (State.modelFailed s code) := by
  unfold State.modelFailed
  try dsimp only
  with_reducible repeat' first
    | assumption | apply State.setFus_kept | apply State.healthModel_kept | apply State.logEntry_kept
    | apply State.testWithoutFrame_kept | (refine Kept.lit rfl rfl rfl rfl rfl rfl ?_; assumption) | refine Kept.ite ?_ ?_
    | dsimp only

theorem State.modelStart_kept {k0 s : State} (h : Kept k0 s) : Kept k0 (State.modelStart s) := by
  unfold State.modelStart
  try dsimp only
  with_reducible repeat' first
    | assumption | apply State.setFus_kept | apply State.setReg_kept | apply State.healthModelOk_kept
    | apply State.imuRestart_kept | apply State.setImu_kept | apply State.readFuscals_kept | apply State.logOf_kept
    | apply State.gridMode_kept | refine Kept.foldl (fun _ _ _ => ?_) ?_
    | (refine Kept.lit rfl rfl rfl rfl rfl rfl ?_; assumption) | refine Kept.ite ?_ ?_ | dsimp only

theorem State.startModelRead_kept {k0 s : State} (h : Kept k0 s) (slot : Nat) (other : Bool) : Kept k0 (State.startModelRead s slot other) := by
  unfold State.startModelRead
  try dsimp only
  with_reducible repeat' first
    | assumption | apply State.addJob_kept | (refine Kept.lit rfl rfl rfl rfl rfl rfl ?_; assumption) | split | dsimp only

theorem State.loadModel_kept {k0 s : State} (h : Kept k0 s) : Kept k0 (State.loadModel s) := by
  unfold State.loadModel
  try dsimp only
  with_reducible repeat' first
    | assumption | apply State.setFus_kept | apply State.dropJobs_kept | apply State.startModelRead_kept
    | (refine Kept.lit rfl rfl rfl rfl rfl rfl ?_; assumption) | refine Kept.ite ?_ ?_ | split | dsimp only

theorem State.modelLoadDone_kept {k0 s : State} (h : Kept k0 s) : Kept k0 (State.modelLoadDone s) := by
  unfold State.modelLoadDone
  try dsimp only
  with_reducible repeat' first
    | assumption | apply State.dropJob_kept | apply State.startModelRead_kept | apply State.modelFailed_kept
    | apply State.nandPick_kept | apply State.setFus_kept | apply State.modelStart_kept
    | (refine Kept.lit rfl rfl rfl rfl rfl rfl ?_; first | assumption | apply State.dropJob_kept | apply State.startModelRead_kept | apply State.modelFailed_kept | apply State.nandPick_kept | apply State.setFus_kept | apply State.modelStart_kept | refine Kept.ite ?_ ?_)
    | refine Kept.ite ?_ ?_ | split | dsimp only

theorem State.modelRunCrc_kept {k0 s : State} (h : Kept k0 s) : Kept k0 (State.modelRunCrc s) := by
  unfold State.modelRunCrc
  with_reducible repeat' first
    | assumption | apply State.loadModel_kept | (refine Kept.lit rfl rfl rfl rfl rfl rfl ?_; assumption)

theorem State.clearFusion_kept {k0 s : State} (h : Kept k0 s) : Kept k0 (State.clearFusion s) := by
  unfold State.clearFusion
  with_reducible repeat' first
    | assumption | apply State.setFus_kept | apply State.clearWords_kept
    | (refine Kept.lit rfl rfl rfl rfl rfl rfl ?_; assumption)

theorem State.frameEnd_kept {k0 s : State} (h : Kept k0 s) : Kept k0 (State.frameEnd s) := by
  unfold State.frameEnd
  try dsimp only
  with_reducible repeat' first
    | assumption | apply State.clearFusion_kept | apply State.loadModel_kept | refine Kept.ite ?_ ?_ | dsimp only

theorem State.stopFusion_kept {k0 s : State} (h : Kept k0 s) : Kept k0 (State.stopFusion s) := by
  unfold State.stopFusion
  with_reducible repeat' first
    | assumption | apply State.setFus_kept | apply State.clearFusion_kept
    | (refine Kept.lit rfl rfl rfl rfl rfl rfl ?_; assumption) | refine Kept.ite ?_ ?_

theorem State.cellFirst_kept {k0 s : State} (h : Kept k0 s) : Kept k0 (State.cellFirst s) := by
  unfold State.cellFirst
  with_reducible repeat' first
    | assumption | apply State.cellClose_kept | refine Kept.ite ?_ ?_

theorem State.fusionTick_kept {k0 s0 : State} (h : Kept k0 s0) : Kept k0 (State.fusionTick s0) := by
  unfold State.fusionTick
  try dsimp only
  with_reducible repeat' first
    | assumption | apply State.cellFirst_kept | apply State.setFus_kept | apply State.applyFus_kept | apply State.gridMode_kept
    | apply State.publish_kept | apply State.satInc_kept | apply State.frameEnd_kept | apply State.predictTracks_kept
    | apply State.refine_kept | apply State.startHead_kept | (refine Kept.lit rfl rfl rfl rfl rfl rfl ?_; assumption)
    | refine Kept.ite ?_ ?_ | split | dsimp only

theorem State.headDone_kept {k0 s : State} (h : Kept k0 s) : Kept k0 (State.headDone s) := by
  unfold State.headDone
  with_reducible repeat' first
    | assumption | apply State.setFus_kept | (refine Kept.lit rfl rfl rfl rfl rfl rfl ?_; assumption) | refine Kept.ite ?_ ?_
    | split | dsimp only

theorem State.upsetWeights_kept {k0 s : State} (h : Kept k0 s) (l : List (Nat × Byte)) : Kept k0 (State.upsetWeights s l) := by
  unfold State.upsetWeights
  with_reducible repeat' first
    | assumption | apply State.setFus_kept | refine Kept.foldl (fun _ _ _ => ?_) ?_
    | (refine Kept.lit rfl rfl rfl rfl rfl rfl ?_; assumption) | refine Kept.ite ?_ ?_ | dsimp only

theorem State.weightCheck_kept {k0 s0 : State} (h : Kept k0 s0) (l : List (Nat × Byte)) (dense : Bool) (track : Bool) : Kept k0 (State.weightCheck s0 l dense track) := by
  unfold State.weightCheck
  try dsimp only
  with_reducible repeat' first
    | assumption | apply State.upsetWeights_kept | apply State.setFus_kept | apply State.modelRunCrc_kept
    | (refine Kept.lit rfl rfl rfl rfl rfl rfl ?_; assumption) | refine Kept.ite ?_ ?_ | split | dsimp only

theorem State.fusionTestDone_kept {k0 s : State} (h : Kept k0 s) : Kept k0 (State.fusionTestDone s) := by
  unfold State.fusionTestDone
  try dsimp only
  with_reducible repeat' first
    | assumption | apply State.setFus_kept | apply State.notice_kept | apply State.modelRunCrc_kept
    | (refine Kept.lit rfl rfl rfl rfl rfl rfl ?_; assumption) | refine Kept.ite ?_ ?_ | split | dsimp only

theorem State.commitFusion_kept {k0 s : State} (h : Kept k0 s) (changed : List (Nat × Word)) : Kept k0 (State.commitFusion s changed) := by
  unfold State.commitFusion
  with_reducible repeat' first
    | assumption | apply State.setFus_kept | (refine Kept.lit rfl rfl rfl rfl rfl rfl ?_; assumption) | refine Kept.ite ?_ ?_
    | dsimp only

/-! ### Rind -/

theorem State.setRind_kept {k0 s : State} (h : Kept k0 s) (r : RindSt) : Kept k0 (State.setRind s r) := by
  unfold State.setRind
  with_reducible repeat' first
    | assumption | (refine Kept.lit rfl rfl rfl rfl rfl rfl ?_; assumption)

theorem State.setRindIn_kept {k0 s : State} (h : Kept k0 s) (i : Fin 6) (l : InLevel) : Kept k0 (State.setRindIn s i l) := by
  unfold State.setRindIn
  try dsimp only
  with_reducible repeat' first
    | assumption | apply State.setBat_kept | apply State.setRind_kept | (refine Kept.lit rfl rfl rfl rfl rfl rfl ?_; assumption)
    | refine Kept.ite ?_ ?_ | dsimp only

theorem State.setRule_kept {k0 s : State} (h : Kept k0 s) (k : Fin 16) (v : RuleSt) : Kept k0 (State.setRule s k v) := by
  unfold State.setRule
  with_reducible repeat' first
    | assumption | apply State.setRind_kept | (refine Kept.lit rfl rfl rfl rfl rfl rfl ?_; assumption)

theorem State.startAlarm_kept {k0 s : State} (h : Kept k0 s) : Kept k0 (State.startAlarm s) := by
  unfold State.startAlarm
  try dsimp only
  with_reducible repeat' first
    | assumption | apply State.setRind_kept | (refine Kept.lit rfl rfl rfl rfl rfl rfl ?_; assumption) | refine Kept.ite ?_ ?_
    | dsimp only

theorem State.stopAlarm_kept {k0 s : State} (h : Kept k0 s) : Kept k0 (State.stopAlarm s) := by
  unfold State.stopAlarm
  with_reducible repeat' first
    | assumption | apply State.setRind_kept | (refine Kept.lit rfl rfl rfl rfl rfl rfl ?_; assumption)

theorem State.alarmEnd_kept {k0 s : State} (h : Kept k0 s) : Kept k0 (State.alarmEnd s) := by
  unfold State.alarmEnd
  with_reducible repeat' first
    | assumption | apply State.stopAlarm_kept | (refine Kept.lit rfl rfl rfl rfl rfl rfl ?_; assumption) | refine Kept.ite ?_ ?_
    | split | dsimp only

theorem State.alarmToggle_kept {k0 s : State} (h : Kept k0 s) : Kept k0 (State.alarmToggle s) := by
  unfold State.alarmToggle
  try dsimp only
  with_reducible repeat' first
    | assumption | apply State.setRind_kept | (refine Kept.lit rfl rfl rfl rfl rfl rfl ?_; assumption) | refine Kept.ite ?_ ?_
    | dsimp only

theorem State.countRule_kept {k0 s : State} (h : Kept k0 s) (k : Fin 16) : Kept k0 (State.countRule s k).2 := by
  unfold State.countRule
  try dsimp only
  with_reducible repeat' first
    | assumption | apply State.setRule_kept | (refine Kept.lit rfl rfl rfl rfl rfl rfl ?_; assumption) | refine Kept.ite ?_ ?_
    | split | dsimp only

theorem State.pushRind_kept {k0 s : State} (h : Kept k0 s) (k : Fin 16) (act : Nat) : Kept k0 (State.pushRind s k act) := by
  unfold State.pushRind
  with_reducible repeat' first
    | assumption | apply State.setRind_kept | apply State.satInc_kept | (refine Kept.lit rfl rfl rfl rfl rfl rfl ?_; assumption)
    | refine Kept.ite ?_ ?_

theorem State.fireRule_kept {k0 s : State} (h : Kept k0 s) (k : Fin 16) : Kept k0 (State.fireRule s k) := by
  unfold State.fireRule
  try dsimp only
  with_reducible repeat' first
    | assumption | apply State.orReg_kept | apply State.setRule_kept | apply State.requestWake_kept | apply State.satInc_kept
    | apply State.pushRind_kept | apply State.startAlarm_kept | (refine Kept.lit rfl rfl rfl rfl rfl rfl ?_; assumption)
    | refine Kept.ite ?_ ?_ | dsimp only

theorem State.evalRule_kept {k0 s : State} (h : Kept k0 s) (e : RindEvents) (k : Fin 16) : Kept k0 (State.evalRule e s k) := by
  unfold State.evalRule
  try dsimp only
  with_reducible repeat' first
    | assumption | apply State.countRule_kept | apply State.fireRule_kept | refine Kept.ite ?_ ?_ | dsimp only

theorem State.evalRules_kept {k0 s : State} (h : Kept k0 s) (e : RindEvents) : Kept k0 (State.evalRules s e) := by
  unfold State.evalRules
  with_reducible repeat' first
    | assumption | apply State.evalRule_kept | refine Kept.foldl (fun _ _ _ => ?_) ?_

theorem State.windowClose_kept {k0 s : State} (h : Kept k0 s) (k : Fin 16) : Kept k0 (State.windowClose s k) := by
  unfold State.windowClose
  with_reducible repeat' first
    | assumption | apply State.setRule_kept | (refine Kept.lit rfl rfl rfl rfl rfl rfl ?_; assumption) | refine Kept.ite ?_ ?_
    | split | dsimp only

theorem State.holdoffEnd_kept {k0 s : State} (h : Kept k0 s) (k : Fin 16) : Kept k0 (State.holdoffEnd s k) := by
  unfold State.holdoffEnd
  with_reducible repeat' first
    | assumption | apply State.setRule_kept | (refine Kept.lit rfl rfl rfl rfl rfl rfl ?_; assumption) | refine Kept.ite ?_ ?_
    | split | dsimp only

theorem State.rindDrain_kept {k0 s : State} (h : Kept k0 s) : Kept k0 (State.rindDrain s) := by
  unfold State.rindDrain
  try dsimp only
  with_reducible repeat' first
    | assumption | apply State.notice_kept | apply State.logOf_kept | apply State.setRind_kept
    | (refine Kept.lit rfl rfl rfl rfl rfl rfl ?_; assumption) | refine Kept.ite ?_ ?_ | split | dsimp only

theorem State.restartFilter_kept {k0 s : State} (h : Kept k0 s) (i : Fin 6) : Kept k0 (State.restartFilter s i) := by
  unfold State.restartFilter
  with_reducible repeat' first
    | assumption | apply State.setRind_kept | (refine Kept.lit rfl rfl rfl rfl rfl rfl ?_; assumption) | refine Kept.ite ?_ ?_

theorem State.restartFilters_kept {k0 s : State} (h : Kept k0 s) : Kept k0 (State.restartFilters s) := by
  unfold State.restartFilters
  with_reducible repeat' first
    | assumption | apply State.restartFilter_kept | refine Kept.foldl (fun _ _ _ => ?_) ?_

theorem State.commitRind_kept {k0 s : State} (h : Kept k0 s) (o : Nat → Word) (c : Nat → Word) : Kept k0 (State.commitRind s o c) := by
  unfold State.commitRind
  try dsimp only
  with_reducible repeat' first
    | assumption | apply State.restartFilter_kept | apply State.setRule_kept | apply State.setRind_kept
    | refine Kept.foldl (fun _ _ _ => ?_) ?_ | (refine Kept.lit rfl rfl rfl rfl rfl rfl ?_; assumption) | refine Kept.ite ?_ ?_
    | dsimp only

theorem State.clearRind_kept {k0 s : State} (h : Kept k0 s) : Kept k0 (State.clearRind s) := by
  unfold State.clearRind
  with_reducible repeat' first
    | assumption | (refine Kept.lit rfl rfl rfl rfl rfl rfl ?_; assumption)

/-! ### Lock -/

theorem State.setLock_kept {k0 s : State} (h : Kept k0 s) (l : LockSt) : Kept k0 (State.setLock s l) := by
  unfold State.setLock
  with_reducible repeat' first
    | assumption | (refine Kept.lit rfl rfl rfl rfl rfl rfl ?_; assumption)

theorem State.limitMoved_kept {k0 s : State} (h : Kept k0 s) (isOpen : Bool) (was : Option Bool) : Kept k0 (State.limitMoved s isOpen was) := by
  unfold State.limitMoved
  try dsimp only
  with_reducible repeat' first
    | assumption | apply State.setLock_kept | (refine Kept.lit rfl rfl rfl rfl rfl rfl ?_; assumption) | refine Kept.ite ?_ ?_
    | dsimp only

theorem State.lockNotice_kept {k0 s : State} (h : Kept k0 s) : Kept k0 (State.lockNotice s) := by
  unfold State.lockNotice
  with_reducible repeat' first
    | assumption | apply State.notice_kept | refine Kept.ite ?_ ?_

theorem State.setLockState_kept {k0 s : State} (h : Kept k0 s) (t : LockState) : Kept k0 (State.setLockState s t) := by
  unfold State.setLockState
  with_reducible repeat' first
    | assumption | apply State.setLock_kept | apply State.lockNotice_kept
    | (refine Kept.lit rfl rfl rfl rfl rfl rfl ?_; assumption) | refine Kept.ite ?_ ?_

theorem State.lockLog_kept {k0 s : State} (h : Kept k0 s) (event : Nat) (cause : Nat) (before : Nat) (restarts : Nat) (ms : Nat) (urgent : Bool) : Kept k0 (State.lockLog s event cause before restarts ms urgent) := by
  unfold State.lockLog
  with_reducible repeat' first
    | assumption | apply State.logEntry_kept

theorem State.enterFault_kept {k0 s : State} (h : Kept k0 s) (cause : Nat) : Kept k0 (State.enterFault s cause) := by
  unfold State.enterFault
  try dsimp only
  with_reducible repeat' first
    | assumption | apply State.setLock_kept | apply State.satInc_kept | apply State.setLockState_kept | apply State.lockLog_kept
    | apply State.advise_kept | (refine Kept.lit rfl rfl rfl rfl rfl rfl ?_; assumption) | refine Kept.ite ?_ ?_ | dsimp only

theorem State.lockFault_kept {k0 s : State} (h : Kept k0 s) (cause : Nat) : Kept k0 (State.lockFault s cause) := by
  unfold State.lockFault
  with_reducible repeat' first
    | assumption | apply State.enterFault_kept | apply State.evalRules_kept | refine Kept.ite ?_ ?_

theorem State.faultEvent_kept {k0 s : State} (h : Kept k0 s) (cause : Nat) : Kept k0 (State.faultEvent s cause).1 := by
  unfold State.faultEvent
  with_reducible repeat' first
    | assumption | apply State.enterFault_kept | split | dsimp only

theorem State.lockDrift_kept {k0 s : State} (h : Kept k0 s) (both : Bool) : Kept k0 (State.lockDrift s both).1 := by
  unfold State.lockDrift
  try dsimp only
  with_reducible repeat' first
    | assumption | apply State.orReg_kept | apply State.enterFault_kept | apply State.setLockState_kept
    | apply State.lockLog_kept | refine Kept.ite ?_ ?_ | split | dsimp only

theorem State.repolarise_kept {k0 s : State} (h : Kept k0 s) (o : Word) (c : Word) : Kept k0 (State.repolarise s o c) := by
  unfold State.repolarise
  try dsimp only
  with_reducible repeat' first
    | assumption | apply State.setLock_kept | (refine Kept.lit rfl rfl rfl rfl rfl rfl ?_; assumption) | refine Kept.ite ?_ ?_
    | dsimp only

theorem State.lockEndMove_kept {k0 s : State} (h : Kept k0 s) (b : Bridge) (brakeEnd : Option Nat) : Kept k0 (State.lockEndMove s b brakeEnd) := by
  unfold State.lockEndMove
  try dsimp only
  with_reducible repeat' first
    | assumption | apply State.setLock_kept | apply State.setLockState_kept
    | (refine Kept.lit rfl rfl rfl rfl rfl rfl ?_; assumption) | dsimp only

theorem State.lockSuccess_kept {k0 s : State} (h : Kept k0 s) : Kept k0 (State.lockSuccess s) := by
  unfold State.lockSuccess
  with_reducible repeat' first
    | assumption | apply State.lockEndMove_kept | apply State.satInc_kept

theorem State.lockConsider_kept {k0 s : State} (h : Kept k0 s) (chOpen : Bool) (chShut : Bool) : Kept k0 (State.lockConsider s chOpen chShut).1 := by
  unfold State.lockConsider
  try dsimp only
  with_reducible repeat' first
    | assumption | apply State.faultEvent_kept | apply State.setLock_kept | apply State.lockSuccess_kept
    | apply State.lockDrift_kept | apply State.setLockState_kept | (refine Kept.lit rfl rfl rfl rfl rfl rfl ?_; assumption)
    | refine Kept.ite ?_ ?_ | split | dsimp only

theorem State.limitDecide_kept {k0 s : State} (h : Kept k0 s) : Kept k0 (State.limitDecide s).1 := by
  unfold State.limitDecide
  try dsimp only
  with_reducible repeat' first
    | assumption | apply State.setLock_kept | apply State.lockConsider_kept
    | (refine Kept.lit rfl rfl rfl rfl rfl rfl ?_; assumption) | split | dsimp only

theorem State.limitChange_kept {k0 s : State} (h : Kept k0 s) : Kept k0 (State.limitChange s) := by
  unfold State.limitChange
  try dsimp only
  with_reducible repeat' first
    | assumption | apply State.limitDecide_kept | apply State.evalRules_kept | dsimp only

theorem State.cmdResult_kept {k0 s : State} (h : Kept k0 s) (code : Nat) : Kept k0 (State.cmdResult s code) := by
  unfold State.cmdResult
  try dsimp only
  with_reducible repeat' first
    | assumption | apply State.setLock_kept | apply State.orReg_kept | (refine Kept.lit rfl rfl rfl rfl rfl rfl ?_; assumption)
    | refine Kept.ite ?_ ?_ | dsimp only

theorem State.startMove'_kept {k0 s : State} (h : Kept k0 s) (kind : LockState) : Kept k0 (State.startMove' s kind) := by
  unfold State.startMove'
  try dsimp only
  with_reducible repeat' first
    | assumption | apply State.setLock_kept | apply State.repolarise_kept | apply State.setLockState_kept
    | (refine Kept.lit rfl rfl rfl rfl rfl rfl ?_; assumption) | refine Kept.ite ?_ ?_ | dsimp only

theorem State.lockMove_kept {k0 s0 : State} (h : Kept k0 s0) (kind : LockState) : Kept k0 (State.lockMove s0 kind) := by
  unfold State.lockMove
  try dsimp only
  with_reducible repeat' first
    | assumption | apply State.limitChange_kept | apply State.cmdResult_kept | apply State.startMove'_kept
    | refine Kept.ite ?_ ?_ | dsimp only

theorem State.lockTimeout_kept {k0 s : State} (h : Kept k0 s) : Kept k0 (State.lockTimeout s) := by
  unfold State.lockTimeout
  try dsimp only
  with_reducible repeat' first
    | assumption | apply State.limitDecide_kept | apply State.enterFault_kept | apply State.evalRules_kept
    | (refine Kept.lit rfl rfl rfl rfl rfl rfl ?_; assumption) | refine Kept.ite ?_ ?_ | dsimp only

theorem State.lockStop_kept {k0 s0 : State} (h : Kept k0 s0) : Kept k0 (State.lockStop s0) := by
  unfold State.lockStop
  try dsimp only
  with_reducible repeat' first
    | assumption | apply State.lockTimeout_kept | apply State.cmdResult_kept | apply State.lockEndMove_kept
    | refine Kept.ite ?_ ?_ | dsimp only

theorem State.lockClear_kept {k0 s0 : State} (h : Kept k0 s0) : Kept k0 (State.lockClear s0) := by
  unfold State.lockClear
  try dsimp only
  with_reducible repeat' first
    | assumption | apply State.limitChange_kept | apply State.cmdResult_kept | apply State.setLock_kept
    | apply State.setLockState_kept | apply State.lockConsider_kept | apply State.evalRules_kept
    | (refine Kept.lit rfl rfl rfl rfl rfl rfl ?_; assumption) | refine Kept.ite ?_ ?_ | dsimp only

theorem State.lockBadKey_kept {k0 s : State} (h : Kept k0 s) : Kept k0 (State.lockBadKey s) := by
  unfold State.lockBadKey
  with_reducible repeat' first
    | assumption | apply State.cmdResult_kept

theorem State.lockWord_kept {k0 s : State} (h : Kept k0 s) (w : Word) : Kept k0 (State.lockWord s w) := by
  unfold State.lockWord
  with_reducible repeat' first
    | assumption | apply State.lockMove_kept | apply State.lockStop_kept | apply State.lockClear_kept
    | apply State.lockBadKey_kept | (refine Kept.lit rfl rfl rfl rfl rfl rfl ?_; assumption) | refine Kept.ite ?_ ?_ | split
    | dsimp only

theorem State.lockStall_kept {k0 s : State} (h : Kept k0 s) : Kept k0 (State.lockStall s) := by
  unfold State.lockStall
  with_reducible repeat' first
    | assumption | apply State.limitChange_kept | refine Kept.ite ?_ ?_

theorem State.brakeEnded_kept {k0 s : State} (h : Kept k0 s) : Kept k0 (State.brakeEnded s) := by
  unfold State.brakeEnded
  with_reducible repeat' first
    | assumption | apply State.setLock_kept | (refine Kept.lit rfl rfl rfl rfl rfl rfl ?_; assumption) | refine Kept.ite ?_ ?_
    | split | dsimp only

theorem State.lockSupply_kept {k0 s : State} (h : Kept k0 s) : Kept k0 (State.lockSupply s) := by
  unfold State.lockSupply
  try dsimp only
  with_reducible repeat' first
    | assumption | apply State.lockFault_kept | apply State.setLock_kept
    | (refine Kept.lit rfl rfl rfl rfl rfl rfl ?_; assumption) | refine Kept.ite ?_ ?_ | dsimp only

theorem State.lockEntry_kept {k0 s : State} (h : Kept k0 s) : Kept k0 (State.lockEntry s) := by
  unfold State.lockEntry
  with_reducible repeat' first
    | assumption | apply State.setLock_kept | (refine Kept.lit rfl rfl rfl rfl rfl rfl ?_; assumption)

theorem State.lockSleep_kept {k0 s : State} (h : Kept k0 s) : Kept k0 (State.lockSleep s) := by
  unfold State.lockSleep
  with_reducible repeat' first
    | assumption | apply State.setLock_kept | (refine Kept.lit rfl rfl rfl rfl rfl rfl ?_; assumption)

theorem State.lockWake_kept {k0 s : State} (h : Kept k0 s) : Kept k0 (State.lockWake s) := by
  unfold State.lockWake
  try dsimp only
  with_reducible repeat' first
    | assumption | apply State.setLock_kept | apply State.lockNotice_kept
    | (refine Kept.lit rfl rfl rfl rfl rfl rfl ?_; assumption) | refine Kept.ite ?_ ?_ | dsimp only

theorem State.lockReset_kept {k0 s : State} (h : Kept k0 s) : Kept k0 (State.lockReset s) := by
  unfold State.lockReset
  try dsimp only
  with_reducible repeat' first
    | assumption | apply State.setLock_kept | apply State.orReg_kept | (refine Kept.lit rfl rfl rfl rfl rfl rfl ?_; assumption)
    | refine Kept.ite ?_ ?_ | dsimp only

theorem State.lockResolved_kept {k0 s : State} (h : Kept k0 s) : Kept k0 (State.lockResolved s).1 := by
  unfold State.lockResolved
  try dsimp only
  with_reducible repeat' first
    | assumption | apply State.faultEvent_kept | apply State.setLock_kept
    | (refine Kept.lit rfl rfl rfl rfl rfl rfl ?_; assumption) | refine Kept.ite ?_ ?_ | split | dsimp only

theorem State.lockLoaded_kept {k0 s : State} (h : Kept k0 s) : Kept k0 (State.lockLoaded s) := by
  unfold State.lockLoaded
  try dsimp only
  with_reducible repeat' first
    | assumption | apply State.setLock_kept | apply State.repolarise_kept | apply State.lockResolved_kept
    | apply State.lockNotice_kept | apply State.evalRules_kept | apply State.lockMove_kept
    | (refine Kept.lit rfl rfl rfl rfl rfl rfl ?_; assumption) | refine Kept.ite ?_ ?_ | dsimp only

theorem State.commitLock_kept {k0 s : State} (h : Kept k0 s) : Kept k0 (State.commitLock s) := by
  unfold State.commitLock
  try dsimp only
  with_reducible repeat' first
    | assumption | apply State.lockTimeout_kept | apply State.lockEndMove_kept | refine Kept.ite ?_ ?_ | dsimp only

theorem State.acceptWheel_kept {k0 s : State} (h : Kept k0 s) (v : InLevel) : Kept k0 (State.acceptWheel s v).1 := by
  unfold State.acceptWheel
  try dsimp only
  with_reducible repeat' first
    | assumption | apply State.setRind_kept | apply State.setReg_kept | (refine Kept.lit rfl rfl rfl rfl rfl rfl ?_; assumption)
    | refine Kept.ite ?_ ?_ | split | dsimp only

theorem State.wheelLevel_kept {k0 s : State} (h : Kept k0 s) (v : InLevel) : Kept k0 (State.wheelLevel s v).1 := by
  unfold State.wheelLevel
  try dsimp only
  with_reducible repeat' first
    | assumption | apply State.setRind_kept | apply State.acceptWheel_kept
    | (refine Kept.lit rfl rfl rfl rfl rfl rfl ?_; assumption) | refine Kept.ite ?_ ?_ | split | dsimp only

theorem wheelTaken_kept {k0 x : State} (c : Prop) [Decidable c] (h : Kept k0 x) {p : State × Bool} (hp : Kept k0 p.1) :
    Kept k0 (if c then p else (x, false)).1 := by
  split <;> assumption

theorem State.takeSample_kept {k0 : State} {p : State × RindEvents} (h : Kept k0 p.1) (c : Fin 6 × InLevel) :
    Kept k0 (State.takeSample p c).1 := by
  have h1 := State.setRindIn_kept h c.1 c.2
  have h2 : ∀ (q : Prop) [Decidable q] (o : Bool) (l : Option Bool), Kept k0 (if q then (p.1.setRindIn c.1 c.2).limitMoved o l
      else p.1.setRindIn c.1 c.2) := fun q _ o l => Kept.ite (State.limitMoved_kept h1 _ _) h1
  unfold State.takeSample
  dsimp only
  split
  · exact State.setRind_kept h _
  · split
    · exact State.setRind_kept h _
    · exact wheelTaken_kept _ (h2 _ _ _) (State.acceptWheel_kept (h2 _ _ _) _)

theorem State.rindChange_kept {k0 : State} {p : State × RindEvents} (h : Kept k0 p.1) (c : Fin 6 × InLevel) :
    Kept k0 (State.rindChange p c).1 := by
  unfold State.rindChange
  split
  · exact h
  · have hs : ∀ (x : State) (e : RindEvents), Kept k0 x → Kept k0 (if x.sampleEdge then State.takeSample (x, e) c else (x, e)).1 := by
      intro x e hx
      split
      · exact State.takeSample_kept hx c
      · exact hx
    exact hs _ _ (wheelTaken_kept _ h (State.wheelLevel_kept h c.2))

theorem State.rindChanges_kept {k0 : State} {p : State × RindEvents} (h : Kept k0 p.1) (l : List (Fin 6 × InLevel)) :
    Kept k0 (l.foldl State.rindChange p).1 := by
  induction l generalizing p with
  | nil => exact h
  | cons c t ih => exact ih (State.rindChange_kept h c)

theorem State.tamperWindow_kept {k0 s : State} (h : Kept k0 s) (tamper : Option (InLevel × InLevel)) : Kept k0 (State.tamperWindow s tamper).2 := by
  unfold State.tamperWindow
  with_reducible repeat' first
    | assumption | apply State.setRind_kept | (refine Kept.lit rfl rfl rfl rfl rfl rfl ?_; assumption) | refine Kept.ite ?_ ?_
    | split | dsimp only

theorem State.rindSample_kept {k0 s : State} (h : Kept k0 s) (changes : List (Fin 6 × InLevel)) (tamper : Option (InLevel × InLevel)) :
    Kept k0 (s.rindSample changes tamper) := by
  unfold State.rindSample
  split
  · exact State.evalRules_kept (State.rindChanges_kept (p := (_, {})) (State.tamperWindow_kept h _) _) _
  · exact h

theorem State.rindStuck_kept {k0 s : State} (h : Kept k0 s) (i : Fin 6) : Kept k0 (s.rindStuck i) := by
  have hr : Kept k0 (if (i = 1 ∨ i = 2) ∧ s.lock.moving = true then s.limitDecide else (s, {})).1 := by
    split
    · exact State.limitDecide_kept h
    · exact h
  have ha := fun l => State.advise_kept (State.notice_kept (State.setRindIn_kept hr i .stuckMid) 0x05 l) 2 (8 + i.val)
  exact Kept.ite (State.evalRules_kept (Kept.ite (State.orReg_kept (ha _) _ _) (ha _)) _) h

/-! ### Life -/

theorem State.setLife_kept {k0 s : State} (h : Kept k0 s) (l : LifeSt) : Kept k0 (State.setLife s l) := by
  unfold State.setLife
  with_reducible repeat' first
    | assumption | (refine Kept.lit rfl rfl rfl rfl rfl rfl ?_; assumption)

theorem State.issueChallenge_kept {k0 s : State} (h : Kept k0 s) (target : Nat) : Kept k0 (State.issueChallenge s target) := by
  unfold State.issueChallenge
  try dsimp only
  with_reducible repeat' first
    | assumption | (refine Kept.lit rfl rfl rfl rfl rfl rfl ?_; assumption) | refine Kept.ite ?_ ?_ | dsimp only

theorem State.voidChallenge_kept {k0 s : State} (h : Kept k0 s) : Kept k0 (State.voidChallenge s) := by
  unfold State.voidChallenge
  with_reducible repeat' first
    | assumption | apply State.setLife_kept | (refine Kept.lit rfl rfl rfl rfl rfl rfl ?_; assumption)

theorem State.challengeLapse_kept {k0 s : State} (h : Kept k0 s) : Kept k0 (State.challengeLapse s) := by
  unfold State.challengeLapse
  with_reducible repeat' first
    | assumption | apply State.voidChallenge_kept | refine Kept.ite ?_ ?_

theorem State.lockoutEnd_kept {k0 s : State} (h : Kept k0 s) : Kept k0 (State.lockoutEnd s) := by
  unfold State.lockoutEnd
  with_reducible repeat' first
    | assumption | apply State.setLife_kept | (refine Kept.lit rfl rfl rfl rfl rfl rfl ?_; assumption) | refine Kept.ite ?_ ?_
    | split | dsimp only

theorem State.authFail_kept {k0 s : State} (h : Kept k0 s) : Kept k0 (State.authFail s) := by
  unfold State.authFail
  try dsimp only
  with_reducible repeat' first
    | assumption | apply State.setLife_kept | (refine Kept.lit rfl rfl rfl rfl rfl rfl ?_; assumption) | refine Kept.ite ?_ ?_
    | dsimp only

theorem State.supplyR_kept {k0 s : State} (h : Kept k0 s) (r : List Byte) : Kept k0 (State.supplyR s r) := by
  unfold State.supplyR
  with_reducible repeat' first
    | assumption | apply State.setLife_kept | (refine Kept.lit rfl rfl rfl rfl rfl rfl ?_; assumption) | split | dsimp only

/-- A change of the fuses that takes none back. -/
theorem Kept.otpStep {k0 s t : State} (h : Kept k0 s) (ho : s.otp.below t.otp) (hp : t.pending = s.pending) (hr : t.regs = s.regs)
    (hs : t.sram = s.sram) (hg : t.sramGen = s.sramGen) (hl : t.link.ring = s.link.ring) : Kept k0 t := by
  refine h.trans ⟨hp, fun x => hr ▸ x, fun x => ?_, fun x => ?_, ho⟩
  · simpa only [Memory.wf, hs, hg] using x
  · simpa only [State.ringBounded, hl] using x

theorem OtpSt.killImplied_below (o : OtpSt) : o.below o.killImplied := by
  obtain ⟨h1, h2, h3, h4, h5, h6, h7, h8, -, -, -⟩ := OtpSt.below_refl o
  have hm : ∀ (l : List KeySlot) (f : KeySlot → KeySlot), (∀ k, k.revoke = true → (f k).revoke = true) → ∀ i,
      (l.getD i {}).revoke = true → ((l.map f).getD i {}).revoke = true := by
    intro l f hf i hi
    rw [List.getD_eq_getElem?_getD] at hi ⊢
    rw [List.getElem?_map]
    cases hl : l[i]? with
    | none => rw [hl] at hi; cases hi
    | some k => rw [hl] at hi; exact hf k hi
  have hz : ∀ (p : KeySlot → Bool) (f : KeySlot × Nat → KeySlot), (∀ q, p q.1 = true → p (f q) = true) → p {} = false → ∀ i < 4,
      p (o.imgkey.getD i {}) = true → p (((o.imgkey.zip (List.range 4)).map f).getD i {}) = true := by
    intro p f hf hd i hi4 hi
    rw [List.getD_eq_getElem?_getD] at hi ⊢
    cases hl : o.imgkey[i]? with
    | none =>
      rw [hl] at hi
      exact absurd (hd.symm.trans hi) (by decide)
    | some k =>
      rw [hl] at hi
      have hq : (o.imgkey.zip (List.range 4))[i]? = some (k, i) := List.getElem?_zip_eq_some.2 ⟨hl, List.getElem?_range hi4⟩
      rw [List.getElem?_map, hq]
      exact hf _ hi
  refine ⟨h1, h2, h3, h4, h5, h6, h7, h8, fun i _ => hm _ _ (fun k hk => ?_) i, hz (fun k => k.revoke) _ (fun q hq => ?_) rfl,
    hz (fun k => k.kill) _ (fun q hq => ?_) rfl⟩
  · split <;> exact hk
  · split <;> exact hq
  · split
    · rfl
    · exact hq

theorem State.finishWipe_kept {k0 s : State} (h : Kept k0 s) : Kept k0 s.finishWipe :=
  h.otpStep (OtpSt.killImplied_below _) rfl rfl rfl rfl rfl

theorem State.wipeLeft_kept {k0 s : State} (h : Kept k0 s) : Kept k0 (State.wipeLeft s) := by
  unfold State.wipeLeft
  with_reducible repeat' first
    | assumption | apply State.finishWipe_kept | refine Kept.ite ?_ ?_

theorem blowNext_below (l : List (BitVec 3)) (i : Nat) : l.getD i 0 &&& ~~~((blowNext l).getD i 0) = 0 := by
  have hs : ∀ x : BitVec 3, x &&& ~~~x = 0 := by decide
  induction l generalizing i with
  | nil => exact hs _
  | cons f t ih =>
    unfold blowNext
    split
    · cases i with
      | zero => exact hs f
      | succ i => exact ih i
    · cases i with
      | zero => exact (by decide : ∀ x : BitVec 3, x &&& ~~~7 = 0) f
      | succ i => exact hs _

theorem vecOf_below {n : Nat} (v : Vector (BitVec 3) n) (k : Fin n) : v[k] &&& ~~~((vecOf n (blowNext v.toList))[k]) = 0 := by
  have h := blowNext_below v.toList k.val
  have e : v.toList.getD k.val 0 = v[k] := by
    rw [List.getD_eq_getElem?_getD, List.getElem?_eq_getElem (by simp)]
    simp
  have e2 : (vecOf n (blowNext v.toList))[k] = (blowNext v.toList).getD k.val 0 := by simp [vecOf]
  rw [e2, ← e]
  exact h

theorem OtpSt.blow_below (o : OtpSt) (dest : Life) : o.below (o.blow dest) := by
  have hf : ∀ x : BitVec 3, x &&& ~~~7 = 0 := by decide
  obtain ⟨h1, h2, h3, h4, h5, h6, h7, h8, h9, h10, h11⟩ := OtpSt.below_refl o
  cases dest with
  | blank => exact OtpSt.below_refl o
  | factory => exact ⟨hf _, h2, h3, h4, h5, h6, h7, h8, h9, h10, h11⟩
  | fieldLocked => exact ⟨h1, h2, h3, vecOf_below o.lockcnt, h5, h6, h7, h8, h9, h10, h11⟩
  | fieldOpen => exact ⟨h1, h2, h3, h4, vecOf_below o.opencnt, h6, h7, h8, h9, h10, h11⟩
  | ret => exact ⟨h1, hf _, h3, h4, h5, h6, h7, h8, h9, h10, h11⟩
  | scrap => exact ⟨h1, h2, hf _, h4, h5, h6, h7, h8, h9, h10, h11⟩

theorem State.transit_kept {k0 s : State} (h : Kept k0 s) (dest : Life) : Kept k0 (s.transit dest) := by
  have h1 : Kept k0 { s with
      otp := s.otp.blow dest
      life := { s.life with state := (s.otp.blow dest).lifeState, challenge := none, keyBuf := List.replicate 64 0 }
      link := { s.link with cache := none } } := h.otpStep (OtpSt.blow_below _ dest) rfl rfl rfl rfl rfl
  unfold State.transit
  exact State.setLife_kept (State.notice_kept h1 _ _) _

theorem State.startOp_kept {k0 s : State} (h : Kept k0 s) : Kept k0 (State.startOp s) := by
  unfold State.startOp
  with_reducible repeat' first
    | assumption | apply State.setLife_kept | (refine Kept.lit rfl rfl rfl rfl rfl rfl ?_; assumption)

theorem State.opGo_kept {k0 s : State} (h : Kept k0 s) : Kept k0 (State.opGo s) := by
  unfold State.opGo
  with_reducible repeat' first
    | assumption | apply State.setLife_kept | apply State.startOp_kept
    | (refine Kept.lit rfl rfl rfl rfl rfl rfl ?_; assumption) | refine Kept.ite ?_ ?_ | split | dsimp only

theorem State.opGoOf_kept {k0 s : State} (h : Kept k0 s) (op : Nat) : Kept k0 (State.opGoOf s op) := by
  unfold State.opGoOf
  with_reducible repeat' first
    | assumption | apply State.opGo_kept | refine Kept.ite ?_ ?_

theorem State.verify_kept {k0 s : State} (h : Kept k0 s) (sBytes : List Byte) : Kept k0 (State.verify s sBytes).2.2 := by
  unfold State.verify
  try dsimp only
  with_reducible repeat' first
    | assumption | apply State.authFail_kept | apply State.setLife_kept | apply State.startOp_kept | apply State.transit_kept
    | (refine Kept.lit rfl rfl rfl rfl rfl rfl ?_; assumption) | refine Kept.ite ?_ ?_ | split | dsimp only

theorem getD_set_slot (l : List KeySlot) (i j : Nat) (v : KeySlot) (p : KeySlot → Bool) (h : p (l.getD i {}) = true → p v = true)
    (hj : p (l.getD j {}) = true) : p ((l.set i v).getD j {}) = true := by
  rw [List.getD_eq_getElem?_getD] at h hj ⊢
  rw [List.getElem?_set]
  split
  · rename_i e
    subst e
    split
    · exact h hj
    · rename_i hl
      rw [List.getElem?_eq_none (Nat.le_of_not_lt hl)] at hj
      exact hj
  · exact hj

theorem KeySlot.empty_clear {k : KeySlot} {b : Bool} (h : ¬ k.status b ≠ .empty) : k.revoke = false ∧ k.kill = false := by
  have h' := Decidable.of_not_not h
  unfold KeySlot.status at h'
  split at h'
  · cases h'
  · rename_i hn
    simp at hn
    exact ⟨hn.1.1, hn.1.2⟩

theorem State.opEffect_kept {k0 s : State} (h : Kept k0 s) (op arg : Nat) (fail : Bool) : Kept k0 (s.opEffect op arg fail).2 := by
  obtain ⟨h1, h2, h3, h4, h5, h6, h7, h8, h9, h10, h11⟩ := OtpSt.below_refl s.otp
  have hor : ∀ {n} (x y : BitVec n), x &&& ~~~(x ||| y) = 0 := by
    intro n x y
    ext i hi
    simp
    intro a b
    simp [a] at b
  have no : ∀ {a b : Bool}, a = false → (a = true → b = true) := fun ha hb => by rw [ha] at hb; cases hb
  unfold State.opEffect
  dsimp only
  split
  · refine (apply_ite (fun x => Kept k0 (Prod.snd x)) _ _ _).mpr ?_
    split
    · exact h
    refine (apply_ite (fun x => Kept k0 (Prod.snd x)) _ _ _).mpr ?_
    split
    · exact h
    · rename_i he
      have hc := KeySlot.empty_clear he
      exact h.otpStep ⟨h1, h2, h3, h4, h5, h6, h7, h8, fun k _ => getD_set_slot _ _ _ _ (fun x => x.revoke) (no hc.1), h10, h11⟩
        rfl rfl rfl rfl rfl
  · refine (apply_ite (fun x => Kept k0 (Prod.snd x)) _ _ _).mpr ?_
    split
    · exact h
    refine (apply_ite (fun x => Kept k0 (Prod.snd x)) _ _ _).mpr ?_
    split
    · exact h
    · exact h.otpStep ⟨h1, h2, h3, h4, h5, h6, h7, h8, h9, h10, h11⟩ rfl rfl rfl rfl rfl
  · refine (apply_ite (fun x => Kept k0 (Prod.snd x)) _ _ _).mpr ?_
    split
    · exact h
    refine (apply_ite (fun x => Kept k0 (Prod.snd x)) _ _ _).mpr ?_
    split
    · exact h
    · rename_i he
      have hc := KeySlot.empty_clear he
      exact h.otpStep ⟨h1, h2, h3, h4, h5, h6, h7, h8, h9, fun k _ => getD_set_slot _ _ _ _ (fun x => x.revoke) (no hc.1),
        fun k _ => getD_set_slot _ _ _ _ (fun x => x.kill) (no hc.2)⟩ rfl rfl rfl rfl rfl
  · repeat' split
    · exact h
    · exact h
    · exact h.otpStep ⟨h1, h2, h3, h4, h5, h6, h7, h8, fun k _ => getD_set_slot _ _ _ _ (fun x => x.revoke) (fun hk => hk), h10, h11⟩
        rfl rfl rfl rfl rfl
    · exact h.otpStep ⟨h1, h2, h3, h4, h5, h6, h7, h8, fun k _ => getD_set_slot _ _ _ _ (fun x => x.revoke) (fun _ => rfl), h10, h11⟩
        rfl rfl rfl rfl rfl
  · repeat' split
    · exact h
    · exact h
    · exact h
    · exact h.otpStep ⟨h1, h2, h3, h4, h5, hor _ _, h7, h8, h9, h10, h11⟩ rfl rfl rfl rfl rfl
  · repeat' split
    · exact h
    · exact h
    · exact h.fields rfl rfl rfl rfl rfl rfl
  · repeat' split
    · exact h
    · exact h
    · exact h
    · refine h.otpStep ⟨h1, h2, h3, h4, h5, h6, hor _ _, fun hn => ?_, h9, h10, h11⟩ rfl rfl rfl rfl rfl
      show (s.otp.noenc || arg.testBit 8) = true
      rw [hn]
      rfl

theorem State.opDone'_kept {k0 s : State} (h : Kept k0 s) (fail : Bool) : Kept k0 (State.opDone' s fail) := by
  unfold State.opDone'
  try dsimp only
  with_reducible repeat' first
    | assumption | apply State.opEffect_kept | apply State.setLife_kept
    | (refine Kept.lit rfl rfl rfl rfl rfl rfl ?_; assumption) | split | dsimp only

theorem State.lcsWrite_kept {k0 s : State} (h : Kept k0 s) (off : Nat) (w : Word) : Kept k0 (State.lcsWrite s off w) := by
  unfold State.lcsWrite
  with_reducible repeat' first
    | assumption | apply State.voidChallenge_kept | apply State.opGo_kept | apply State.setLife_kept
    | (refine Kept.lit rfl rfl rfl rfl rfl rfl ?_; assumption) | refine Kept.ite ?_ ?_

theorem State.resetLife_kept {k0 s : State} (h : Kept k0 s) (por : Bool) : Kept k0 (State.resetLife s por) := by
  unfold State.resetLife
  try dsimp only
  with_reducible repeat' first
    | assumption | (refine Kept.lit rfl rfl rfl rfl rfl rfl ?_; assumption) | refine Kept.ite ?_ ?_ | dsimp only

theorem State.updateIr_kept {k0 s : State} (h : Kept k0 s) (code : Option Nat) : Kept k0 (State.updateIr s code) := by
  unfold State.updateIr
  try dsimp only
  with_reducible repeat' first
    | assumption | (refine Kept.lit rfl rfl rfl rfl rfl rfl ?_; assumption) | refine Kept.ite ?_ ?_ | split | dsimp only

theorem State.lcsPort_kept {k0 s : State} (h : Kept k0 s) {f : State → Nat × Word × State} (hf : ∀ s, Kept k0 s → Kept k0 (f s).2.2) :
    Kept k0 (s.lcsPort f) := by
  unfold State.lcsPort
  split
  · split
    · exact h.fields rfl rfl rfl rfl rfl rfl
    · exact (hf s h).fields rfl rfl rfl rfl rfl rfl
  · exact h

theorem State.portChallenge_kept {k0 s : State} (h : Kept k0 s) (target : Nat) : Kept k0 (State.portChallenge s target) := by
  unfold State.portChallenge
  with_reducible repeat' first
    | assumption | refine State.lcsPort_kept ?_ (fun _ _ => ?_) | apply State.lcsPort_kept | apply State.issueChallenge_kept
    | (refine Kept.lit rfl rfl rfl rfl rfl rfl ?_; assumption) | split | dsimp only

theorem State.portReadch_kept {k0 s : State} (h : Kept k0 s) (i : Nat) : Kept k0 (State.portReadch s i) := by
  unfold State.portReadch
  with_reducible repeat' first
    | assumption | refine State.lcsPort_kept ?_ (fun _ _ => ?_) | apply State.lcsPort_kept
    | (refine Kept.lit rfl rfl rfl rfl rfl rfl ?_; assumption) | refine Kept.ite ?_ ?_ | split | dsimp only

theorem State.portLoadr_kept {k0 s : State} (h : Kept k0 s) (i : Nat) (w : Word) : Kept k0 (State.portLoadr s i w) := by
  unfold State.portLoadr
  try dsimp only
  with_reducible repeat' first
    | assumption | refine State.lcsPort_kept ?_ (fun _ _ => ?_) | apply State.lcsPort_kept | apply State.supplyR_kept
    | (refine Kept.lit rfl rfl rfl rfl rfl rfl ?_; assumption) | refine Kept.ite ?_ ?_ | split | dsimp only

theorem State.portLoads_kept {k0 s : State} (h : Kept k0 s) (i : Nat) (w : Word) : Kept k0 (State.portLoads s i w) := by
  unfold State.portLoads
  with_reducible repeat' first
    | assumption | refine State.lcsPort_kept ?_ (fun _ _ => ?_) | apply State.lcsPort_kept
    | (refine Kept.lit rfl rfl rfl rfl rfl rfl ?_; first | assumption | refine State.lcsPort_kept ?_ (fun _ _ => ?_) | apply State.lcsPort_kept | refine Kept.ite ?_ ?_ | split | dsimp only)
    | refine Kept.ite ?_ ?_ | split | dsimp only

theorem State.portVerify_kept {k0 s : State} (h : Kept k0 s) : Kept k0 (State.portVerify s) := by
  unfold State.portVerify
  try dsimp only
  with_reducible repeat' first
    | assumption | refine State.lcsPort_kept ?_ (fun _ _ => ?_) | apply State.lcsPort_kept | apply State.verify_kept
    | (refine Kept.lit rfl rfl rfl rfl rfl rfl ?_; first | assumption | refine State.lcsPort_kept ?_ (fun _ _ => ?_) | apply State.lcsPort_kept | apply State.verify_kept)
    | dsimp only

theorem State.portGo_kept {k0 s : State} (h : Kept k0 s) : Kept k0 (State.portGo s) := by
  unfold State.portGo
  with_reducible repeat' first
    | assumption | refine State.lcsPort_kept ?_ (fun _ _ => ?_) | apply State.lcsPort_kept | apply State.opGo_kept | dsimp only

theorem State.memtestDone_kept {k0 s : State} (h : Kept k0 s) (failing : Nat) : Kept k0 (State.memtestDone s failing) := by
  unfold State.memtestDone
  with_reducible repeat' first
    | assumption | (refine Kept.lit rfl rfl rfl rfl rfl rfl ?_; assumption) | refine Kept.ite ?_ ?_

theorem State.extest_kept {k0 s : State} (h : Kept k0 s) (cells : List (Nat × Bool)) : Kept k0 (State.extest s cells) := by
  unfold State.extest
  with_reducible repeat' first
    | assumption | (refine Kept.lit rfl rfl rfl rfl rfl rfl ?_; assumption) | refine Kept.ite ?_ ?_

/-! ### Power -/

theorem State.setPower_kept {k0 s : State} (h : Kept k0 s) (p : PowerSt) : Kept k0 (State.setPower s p) := by
  unfold State.setPower
  with_reducible repeat' first
    | assumption | (refine Kept.lit rfl rfl rfl rfl rfl rfl ?_; assumption)

theorem State.setResult_kept {k0 s : State} (h : Kept k0 s) (code : Nat) : Kept k0 (State.setResult s code) := by
  unfold State.setResult
  with_reducible repeat' first
    | assumption | apply State.setPower_kept | (refine Kept.lit rfl rfl rfl rfl rfl rfl ?_; assumption)

theorem State.clockNotice_kept {k0 s : State} (h : Kept k0 s) : Kept k0 (State.clockNotice s) := by
  unfold State.clockNotice
  with_reducible repeat' first
    | assumption | apply State.notice_kept | apply State.setPower_kept
    | (refine Kept.lit rfl rfl rfl rfl rfl rfl ?_; assumption) | refine Kept.ite ?_ ?_

theorem State.lfCrystalStart_kept {k0 s : State} (h : Kept k0 s) : Kept k0 (State.lfCrystalStart s) := by
  unfold State.lfCrystalStart
  with_reducible repeat' first
    | assumption | apply State.setPower_kept | (refine Kept.lit rfl rfl rfl rfl rfl rfl ?_; assumption) | refine Kept.ite ?_ ?_

theorem State.lfxFail_kept {k0 s : State} (h : Kept k0 s) : Kept k0 (State.lfxFail s) := by
  unfold State.lfxFail
  try dsimp only
  with_reducible repeat' first
    | assumption | apply State.setPower_kept | apply State.orReg_kept | apply State.clockNotice_kept | apply State.advise_kept
    | (refine Kept.lit rfl rfl rfl rfl rfl rfl ?_; assumption) | refine Kept.ite ?_ ?_ | dsimp only

theorem State.lfSwitch_kept {k0 s : State} (h : Kept k0 s) : Kept k0 (State.lfSwitch s) := by
  unfold State.lfSwitch
  try dsimp only
  with_reducible repeat' first
    | assumption | apply State.setPower_kept | apply State.orReg_kept | apply State.clockNotice_kept | apply State.advise_kept
    | (refine Kept.lit rfl rfl rfl rfl rfl rfl ?_; assumption) | refine Kept.ite ?_ ?_ | dsimp only

theorem State.lfcalWindow_kept {k0 s : State} (h : Kept k0 s) (count : Nat) : Kept k0 (State.lfcalWindow s count) := by
  unfold State.lfcalWindow
  with_reducible repeat' first
    | assumption | apply State.setReg_kept | apply State.setPower_kept
    | (refine Kept.lit rfl rfl rfl rfl rfl rfl ?_; assumption) | refine Kept.ite ?_ ?_

theorem State.vioLow_kept {k0 s : State} (h : Kept k0 s) : Kept k0 (State.vioLow s) := by
  unfold State.vioLow
  try dsimp only
  with_reducible repeat' first
    | assumption | apply State.setPower_kept | apply State.outputsVioLow_kept | apply State.lockSupply_kept
    | apply State.orReg_kept | apply State.notice_kept | apply State.advise_kept
    | (refine Kept.lit rfl rfl rfl rfl rfl rfl ?_; assumption) | refine Kept.ite ?_ ?_ | dsimp only

theorem State.vioRecovered_kept {k0 s : State} (h : Kept k0 s) : Kept k0 (State.vioRecovered s) := by
  unfold State.vioRecovered
  with_reducible repeat' first
    | assumption | apply State.setPower_kept | apply State.outputsVioOk_kept
    | (refine Kept.lit rfl rfl rfl rfl rfl rfl ?_; assumption) | refine Kept.ite ?_ ?_

theorem State.vdd5Late_kept {k0 s : State} (h : Kept k0 s) : Kept k0 (State.vdd5Late s) := by
  unfold State.vdd5Late
  with_reducible repeat' first
    | assumption | apply State.orReg_kept | apply State.advise_kept

theorem State.domainReady_kept {k0 s : State} (h : Kept k0 s) (n : Fin 14) : Kept k0 (State.domainReady s n) := by
  unfold State.domainReady
  try dsimp only
  with_reducible repeat' first
    | assumption | apply State.setPower_kept | apply State.converterOn_kept | apply State.loadModel_kept
    | (refine Kept.lit rfl rfl rfl rfl rfl rfl ?_; assumption) | refine Kept.ite ?_ ?_ | dsimp only

theorem State.commitDomains_kept {k0 s : State} (h : Kept k0 s) (o : Word) (c : Word) : Kept k0 (State.commitDomains s o c) := by
  unfold State.commitDomains
  try dsimp only
  with_reducible repeat' first
    | assumption | apply State.earlierTriggers_kept | apply State.converterOff_kept | apply State.stopFusion_kept
    | apply State.setPower_kept | apply State.dropTriggers_kept | (refine Kept.lit rfl rfl rfl rfl rfl rfl ?_; assumption)
    | refine Kept.ite ?_ ?_ | dsimp only

theorem State.endTest_kept {k0 s : State} (h : Kept k0 s) (unit : Nat) : Kept k0 (State.endTest s unit) := by
  unfold State.endTest
  try dsimp only
  with_reducible repeat' first
    | assumption | apply State.notice_kept | (refine Kept.lit rfl rfl rfl rfl rfl rfl ?_; assumption) | split | dsimp only

theorem State.commitPower_kept {k0 s : State} (h : Kept k0 s) (o : Nat → Word) (c : Nat → Word) : Kept k0 (State.commitPower s o c) := by
  unfold State.commitPower
  try dsimp only
  with_reducible repeat' first
    | assumption | apply State.endTest_kept | apply State.commitDomains_kept | apply State.setPower_kept
    | (refine Kept.lit rfl rfl rfl rfl rfl rfl ?_; assumption) | refine Kept.ite ?_ ?_ | dsimp only

theorem State.powerRequest_kept {k0 s : State} (h : Kept k0 s) (ship : Bool) (keyOk : Bool) : Kept k0 (State.powerRequest s ship keyOk) := by
  unfold State.powerRequest
  with_reducible repeat' first
    | assumption | apply State.setResult_kept | apply State.setPower_kept
    | (refine Kept.lit rfl rfl rfl rfl rfl rfl ?_; assumption) | refine Kept.ite ?_ ?_ | split | dsimp only

theorem State.powerWord_kept {k0 s : State} (h : Kept k0 s) (w : Word) : Kept k0 (State.powerWord s w) := by
  unfold State.powerWord
  try dsimp only
  with_reducible repeat' first
    | assumption | apply State.powerRequest_kept | apply State.setResult_kept
    | (refine Kept.lit rfl rfl rfl rfl rfl rfl ?_; assumption) | refine Kept.ite ?_ ?_ | split | dsimp only

theorem State.autosby_kept {k0 s : State} (h : Kept k0 s) : Kept k0 (State.autosby s) := by
  unfold State.autosby
  try dsimp only
  with_reducible repeat' first
    | assumption | apply State.powerRequest_kept | apply State.setPower_kept
    | (refine Kept.lit rfl rfl rfl rfl rfl rfl ?_; assumption) | refine Kept.ite ?_ ?_ | split | dsimp only

theorem State.autoship_kept {k0 s : State} (h : Kept k0 s) : Kept k0 (State.autoship s) := by
  unfold State.autoship
  with_reducible repeat' first
    | assumption | apply State.setBat_kept | apply State.powerRequest_kept
    | (refine Kept.lit rfl rfl rfl rfl rfl rfl ?_; assumption) | refine Kept.ite ?_ ?_

theorem State.powerNotice_kept {k0 s : State} (h : Kept k0 s) (event : Nat) (sources : Nat) (periods : Nat) : Kept k0 (State.powerNotice s event sources periods) := by
  unfold State.powerNotice
  with_reducible repeat' first
    | assumption | apply State.notice_kept

theorem State.setEntry_kept {k0 s : State} (h : Kept k0 s) (e : Option Entry) : Kept k0 (State.setEntry s e) := by
  unfold State.setEntry
  with_reducible repeat' first
    | assumption | apply State.setPower_kept | (refine Kept.lit rfl rfl rfl rfl rfl rfl ?_; assumption)

theorem State.endEntry_kept {k0 s : State} (h : Kept k0 s) (e : Entry) (result : Nat) (sources : Nat) : Kept k0 (State.endEntry s e result sources) := by
  unfold State.endEntry
  try dsimp only
  with_reducible repeat' first
    | assumption | apply State.setEntry_kept | apply State.setResult_kept | apply State.setPower_kept
    | apply State.powerNotice_kept | (refine Kept.lit rfl rfl rfl rfl rfl rfl ?_; assumption) | refine Kept.ite ?_ ?_
    | dsimp only

theorem State.entryStep2_kept {k0 s : State} (h : Kept k0 s) : Kept k0 (State.entryStep2 s) := by
  unfold State.entryStep2
  with_reducible repeat' first
    | assumption | apply State.outputsOff_kept | apply State.lockEntry_kept

theorem State.entryStep3_kept {k0 s : State} (h : Kept k0 s) : Kept k0 (State.entryStep3 s) := by
  unfold State.entryStep3
  try dsimp only
  with_reducible repeat' first
    | assumption | apply State.stopSeq_kept | dsimp only

theorem State.entryStep4_kept {k0 s : State} (h : Kept k0 s) (ship : Bool) : Kept k0 (State.entryStep4 s ship) := by
  unfold State.entryStep4
  try dsimp only
  with_reducible repeat' first
    | assumption | apply State.batteryShip_kept | apply State.checkpoint_kept | apply State.fuscalEntry_kept
    | apply State.writeHealth_kept | apply State.reqCheckpoint_kept | apply State.flushLog_kept | refine Kept.ite ?_ ?_
    | dsimp only

theorem State.announceEntry_kept {k0 s : State} (h : Kept k0 s) (e : Entry) : Kept k0 (State.announceEntry s e) := by
  unfold State.announceEntry
  try dsimp only
  with_reducible repeat' first
    | assumption | apply State.powerNotice_kept | apply State.setEntry_kept | refine Kept.getD ?_ (fun _ _ => ?_)
    | (refine Kept.lit rfl rfl rfl rfl rfl rfl ?_; assumption) | refine Kept.ite ?_ ?_ | dsimp only

theorem State.dropTests_kept {k0 s : State} (h : Kept k0 s) : Kept k0 (State.dropTests s) := by
  unfold State.dropTests
  try dsimp only
  with_reducible repeat' first
    | assumption | apply State.notice_kept
    | (refine Kept.lit rfl rfl rfl rfl rfl rfl ?_; first | assumption | apply State.notice_kept | refine Kept.ite ?_ ?_)
    | refine Kept.ite ?_ ?_ | dsimp only

theorem State.enterStandby_kept {k0 s : State} (h : Kept k0 s) : Kept k0 (State.enterStandby s) := by
  unfold State.enterStandby
  try dsimp only
  with_reducible repeat' first
    | assumption | apply State.setPower_kept | apply State.dropTests_kept | apply State.batterySleep_kept
    | apply State.lockSleep_kept | apply State.restartFilters_kept
    | (refine Kept.lit rfl rfl rfl rfl rfl rfl ?_; first | assumption | apply State.setPower_kept | apply State.dropTests_kept | apply State.batterySleep_kept | apply State.lockSleep_kept | apply State.restartFilters_kept)
    | dsimp only

theorem State.enterShip_kept {k0 s : State} (h : Kept k0 s) : Kept k0 (State.enterShip s) := by
  unfold State.enterShip
  with_reducible repeat' first
    | assumption | apply State.stopAlarm_kept | apply State.setPower_kept
    | (refine Kept.lit rfl rfl rfl rfl rfl rfl ?_; assumption)

theorem State.nextStep_kept {k0 s : State} (h : Kept k0 s) (e : Entry) : Kept k0 (State.nextStep s e) := by
  unfold State.nextStep
  try dsimp only
  with_reducible repeat' first
    | assumption | apply State.orReg_kept | apply State.endEntry_kept | apply State.entryStep2_kept
    | apply State.entryStep3_kept | apply State.setEntry_kept | apply State.entryStep4_kept | apply State.announceEntry_kept
    | apply State.enterShip_kept | apply State.enterStandby_kept | (refine Kept.lit rfl rfl rfl rfl rfl rfl ?_; assumption)
    | refine Kept.ite ?_ ?_ | split | dsimp only

theorem State.chargerCheck_kept {k0 s : State} (h : Kept k0 s) : Kept k0 (State.chargerCheck s) := by
  unfold State.chargerCheck
  with_reducible repeat' first
    | assumption | apply State.endEntry_kept | (refine Kept.lit rfl rfl rfl rfl rfl rfl ?_; assumption) | refine Kept.ite ?_ ?_
    | split | dsimp only

theorem State.entryStepDone_kept {k0 s : State} (h : Kept k0 s) : Kept k0 (State.entryStepDone s) := by
  unfold State.entryStepDone
  with_reducible repeat' first
    | assumption | apply State.nextStep_kept | apply State.flushLog_kept
    | (refine Kept.lit rfl rfl rfl rfl rfl rfl ?_; assumption) | refine Kept.ite ?_ ?_ | split | dsimp only

theorem State.dmaDrained_kept {k0 s : State} (h : Kept k0 s) (e : Entry) : Kept k0 (State.dmaDrained s e) := by
  unfold State.dmaDrained
  with_reducible repeat' first
    | assumption | apply State.nextStep_kept | refine Kept.ite ?_ ?_

theorem State.entryDmaTimeout_kept {k0 s : State} (h : Kept k0 s) : Kept k0 (State.entryDmaTimeout s) := by
  unfold State.entryDmaTimeout
  with_reducible repeat' first
    | assumption | apply State.stopRunning_kept | apply State.dmaDrained_kept
    | (refine Kept.lit rfl rfl rfl rfl rfl rfl ?_; assumption) | refine Kept.ite ?_ ?_ | split | dsimp only

theorem State.entryAckTimeout_kept {k0 s : State} (h : Kept k0 s) : Kept k0 (State.entryAckTimeout s) := by
  unfold State.entryAckTimeout
  with_reducible repeat' first
    | assumption | apply State.nextStep_kept | (refine Kept.lit rfl rfl rfl rfl rfl rfl ?_; assumption) | refine Kept.ite ?_ ?_
    | split | dsimp only

theorem State.entryTimeout_kept {k0 s : State} (h : Kept k0 s) : Kept k0 (State.entryTimeout s) := by
  unfold State.entryTimeout
  with_reducible repeat' first
    | assumption | apply State.outputsOff_kept | apply State.endEntry_kept
    | (refine Kept.lit rfl rfl rfl rfl rfl rfl ?_; assumption) | refine Kept.ite ?_ ?_ | split | dsimp only

theorem State.wakeLatch_kept {k0 s : State} (h : Kept k0 s) (wakein : Bool) : Kept k0 (State.wakeLatch s wakein) := by
  unfold State.wakeLatch
  try dsimp only
  with_reducible repeat' first
    | assumption | apply State.setPower_kept | apply State.orReg_kept | apply State.setEntry_kept
    | (refine Kept.lit rfl rfl rfl rfl rfl rfl ?_; assumption) | refine Kept.ite ?_ ?_ | split | dsimp only

theorem State.forgetSram_kept {k0 s : State} (h : Kept k0 s) : Kept k0 s.forgetSram := by
  refine h.trans ⟨rfl, id, fun x => ?_, id, OtpSt.below_refl _⟩
  refine Sparse.wfFrom_congr (d := sramDflt s.sramGen) (fun p hp => ?_) (Sparse.wf_filter (fun c => decide (c.1 < 0x810000)) x)
  have hp' := (List.mem_filter.1 hp).2
  have hlt : ¬ (0x810000 ≤ p.1) := Nat.not_le.2 (of_decide_eq_true hp')
  simp only [sramDflt, hlt, and_false, if_false]

theorem State.accountSleep_kept {k0 s : State} (h : Kept k0 s) : Kept k0 (State.accountSleep s) := by
  unfold State.accountSleep
  with_reducible repeat' first
    | assumption | apply State.accountStandby_kept | refine Kept.ite ?_ ?_

theorem State.wakeWheels_kept {k0 s : State} (h : Kept k0 s) : Kept k0 (State.wakeWheels s) := by
  unfold State.wakeWheels
  with_reducible repeat' first
    | assumption | apply State.phaseResetAll_kept | (refine Kept.lit rfl rfl rfl rfl rfl rfl ?_; assumption) | dsimp only

theorem State.wakeWheelNotices_kept {k0 s : State} (h : Kept k0 s) (before : State) : Kept k0 (State.wakeWheelNotices s before) := by
  unfold State.wakeWheelNotices
  try dsimp only
  with_reducible repeat' first
    | assumption | apply State.notice_kept | refine Kept.foldl (fun _ _ _ => ?_) ?_ | refine Kept.ite ?_ ?_ | dsimp only

theorem State.wakeConverter_kept {k0 s : State} (h : Kept k0 s) (x : Conv) : Kept k0 (State.wakeConverter s x) := by
  unfold State.wakeConverter
  with_reducible repeat' first
    | assumption | apply State.setAdc_kept | apply State.clearResults_kept
    | (refine Kept.lit rfl rfl rfl rfl rfl rfl ?_; assumption)

theorem State.wakeDma_kept {k0 s : State} (h : Kept k0 s) : Kept k0 (State.wakeDma s) := by
  unfold State.wakeDma
  with_reducible repeat' first
    | assumption | apply State.resetCh_kept | apply State.clearDma_kept | apply State.autostartDma_kept
    | refine Kept.foldl (fun _ _ _ => ?_) ?_ | dsimp only

theorem State.wakeLink_kept {k0 s : State} (h : Kept k0 s) : Kept k0 s.wakeLink := by
  have e : (s.wakeLink.link.ring.map Notice.code) = s.link.ring.map Notice.code := by
    show List.map _ (List.map _ _) = _
    rw [List.map_map]
    rfl
  exact h.codes (e ▸ List.Sublist.refl _) rfl rfl rfl rfl rfl

theorem State.wakeWords_kept {k0 s : State} (h : Kept k0 s) : Kept k0 (State.wakeWords s) := by
  unfold State.wakeWords
  try dsimp only
  with_reducible repeat' first
    | assumption | apply State.clearWords_kept | refine Kept.foldl (fun _ _ _ => ?_) ?_ | dsimp only

theorem State.runReached_kept {k0 s : State} (h : Kept k0 s) : Kept k0 (State.runReached s) := by
  unfold State.runReached
  try dsimp only
  with_reducible repeat' first
    | assumption | apply State.ownSources_kept | apply State.accountSleep_kept | apply State.setPower_kept
    | apply State.forgetSram_kept | apply State.wakeWords_kept | apply State.outputsWake_kept | apply State.settleAll_kept
    | apply State.wakeWheels_kept | apply State.clearSequences_kept | apply State.wakeConverter_kept | apply State.wakeDma_kept
    | apply State.wakeLink_kept | apply State.startMounting_kept | apply State.clearFusion_kept | apply State.loadModel_kept
    | apply State.batteryWake_kept | apply State.powerNotice_kept | apply State.clockNotice_kept
    | apply State.wakeWheelNotices_kept | apply State.lockWake_kept | apply State.restartFilters_kept
    | apply State.setHealthSecond_kept | apply State.autoship_kept
    | (refine Kept.lit rfl rfl rfl rfl rfl rfl ?_; first | assumption | apply State.ownSources_kept | apply State.accountSleep_kept | apply State.setPower_kept | apply State.forgetSram_kept | apply State.wakeWords_kept | apply State.outputsWake_kept | apply State.settleAll_kept | apply State.wakeWheels_kept | apply State.clearSequences_kept | apply State.wakeConverter_kept | apply State.wakeDma_kept | apply State.wakeLink_kept | apply State.startMounting_kept | apply State.clearFusion_kept | apply State.loadModel_kept | apply State.batteryWake_kept | apply State.powerNotice_kept | apply State.clockNotice_kept | apply State.wakeWheelNotices_kept | apply State.lockWake_kept | apply State.restartFilters_kept | apply State.setHealthSecond_kept | apply State.autoship_kept | refine Kept.ite ?_ ?_)
    | refine Kept.ite ?_ ?_ | dsimp only

/-! ### Reset -/

theorem State.clearCore_kept {k0 s : State} (h : Kept k0 s) (cause : Word) (por : Bool) : Kept k0 (s.clearCore cause por) := by
  unfold State.clearCore
  refine State.resetLife_kept ?_ _
  refine h.trans ⟨rfl, fun x => ?_, fun _ => rfl, fun _ => ⟨Nat.zero_le _, Nat.zero_le _⟩, OtpSt.below_refl _⟩
  exact Sparse.wf_set (Sparse.wf_set (Sparse.wf_filter _ x) _ _) _ _

theorem State.startPd1_kept {k0 s : State} (h : Kept k0 s) : Kept k0 (State.startPd1 s) := by
  unfold State.startPd1
  with_reducible repeat' first
    | assumption | apply State.setPower_kept | (refine Kept.lit rfl rfl rfl rfl rfl rfl ?_; assumption) | refine Kept.ite ?_ ?_

theorem State.resetKeep_kept {k0 s : State} (h : Kept k0 s) (bit : Nat) : Kept k0 (State.resetKeep s bit) := by
  unfold State.resetKeep
  try dsimp only
  with_reducible repeat' first
    | assumption | apply State.lockReset_kept | apply State.restartFilters_kept | apply State.clearCore_kept
    | apply State.setPower_kept | apply State.startPd1_kept | (refine Kept.lit rfl rfl rfl rfl rfl rfl ?_; assumption)
    | refine Kept.ite ?_ ?_ | dsimp only

theorem State.powerOn_kept {k0 s : State} (h : Kept k0 s) : Kept k0 s.powerOn := by
  unfold State.powerOn
  refine State.resetLife_kept ?_ _
  refine State.setReg_kept ?_ _ _
  refine h.trans ⟨rfl, fun _ => ?_, fun _ => rfl, fun _ => ⟨Nat.zero_le _, Nat.zero_le _⟩, OtpSt.below_refl _⟩
  exact (by decide : Sparse.wf resetWord State.reset.regs = true)

theorem State.por_kept {k0 s : State} (h : Kept k0 s) : Kept k0 (State.por s) := by
  unfold State.por
  with_reducible repeat' first
    | assumption | apply State.powerOn_kept

theorem State.vaonLoss_kept {k0 s : State} (h : Kept k0 s) : Kept k0 (State.vaonLoss s) := by
  unfold State.vaonLoss
  try dsimp only
  with_reducible repeat' first
    | assumption | apply State.powerOn_kept | apply State.setPower_kept
    | (refine Kept.lit rfl rfl rfl rfl rfl rfl ?_; assumption) | dsimp only

theorem State.vdd5Valid_kept {k0 s : State} (h : Kept k0 s) (late : Bool) : Kept k0 (State.vdd5Valid s late) := by
  unfold State.vdd5Valid
  try dsimp only
  with_reducible repeat' first
    | assumption | apply State.setPower_kept | apply State.vdd5Late_kept | apply State.startPd1_kept
    | (refine Kept.lit rfl rfl rfl rfl rfl rfl ?_; assumption) | refine Kept.ite ?_ ?_ | dsimp only

theorem State.brownOut_kept {k0 s : State} (h : Kept k0 s) : Kept k0 (State.brownOut s) := by
  unfold State.brownOut
  try dsimp only
  with_reducible repeat' first
    | assumption | apply State.setPower_kept | apply State.resetKeep_kept
    | (refine Kept.lit rfl rfl rfl rfl rfl rfl ?_; assumption) | refine Kept.ite ?_ ?_ | dsimp only

theorem State.pinReset_kept {k0 s : State} (h : Kept k0 s) : Kept k0 (State.pinReset s) := by
  unfold State.pinReset
  with_reducible repeat' first
    | assumption | apply State.setPower_kept | apply State.resetKeep_kept
    | (refine Kept.lit rfl rfl rfl rfl rfl rfl ?_; assumption) | refine Kept.ite ?_ ?_

theorem State.rstnRelease_kept {k0 s : State} (h : Kept k0 s) : Kept k0 (State.rstnRelease s) := by
  unfold State.rstnRelease
  with_reducible repeat' first
    | assumption | apply State.setPower_kept | apply State.startPd1_kept
    | (refine Kept.lit rfl rfl rfl rfl rfl rfl ?_; assumption) | refine Kept.ite ?_ ?_

theorem State.clockFailure_kept {k0 s : State} (h : Kept k0 s) : Kept k0 (State.clockFailure s) := by
  unfold State.clockFailure
  with_reducible repeat' first
    | assumption | apply State.resetKeep_kept | refine Kept.ite ?_ ?_

theorem State.pllTimeout_kept {k0 s : State} (h : Kept k0 s) : Kept k0 (State.pllTimeout s) := by
  unfold State.pllTimeout
  with_reducible repeat' first
    | assumption | apply State.setPower_kept | apply State.resetKeep_kept
    | (refine Kept.lit rfl rfl rfl rfl rfl rfl ?_; assumption) | refine Kept.ite ?_ ?_

theorem State.shipFailure_kept {k0 s : State} (h : Kept k0 s) : Kept k0 (State.shipFailure s) := by
  unfold State.shipFailure
  with_reducible repeat' first
    | assumption | apply State.resetKeep_kept | refine Kept.ite ?_ ?_

theorem State.hostReset_kept {k0 s : State} (h : Kept k0 s) : Kept k0 (State.hostReset s) := by
  unfold State.hostReset
  with_reducible repeat' first
    | assumption | apply State.resetKeep_kept | refine Kept.ite ?_ ?_

theorem State.lifecycleReset_kept {k0 s : State} (h : Kept k0 s) : Kept k0 (State.lifecycleReset s) := by
  unfold State.lifecycleReset
  with_reducible repeat' first
    | assumption | apply State.finishWipe_kept | apply State.resetKeep_kept | refine Kept.ite ?_ ?_

theorem State.debugReset_kept {k0 s : State} (h : Kept k0 s) : Kept k0 (State.debugReset s) := by
  unfold State.debugReset
  with_reducible repeat' first
    | assumption | apply State.updateIr_kept | apply State.resetKeep_kept | refine Kept.ite ?_ ?_

theorem State.tapUpdateIr_kept {k0 s : State} (h : Kept k0 s) (code : Option Nat) : Kept k0 (State.tapUpdateIr s code) := by
  unfold State.tapUpdateIr
  try dsimp only
  with_reducible repeat' first
    | assumption | apply State.updateIr_kept | apply State.resetKeep_kept | refine Kept.ite ?_ ?_ | dsimp only

theorem State.memtest_kept {k0 s : State} (h : Kept k0 s) (target : Nat) (alg : Nat) (go : Bool) : Kept k0 (State.memtest s target alg go) := by
  unfold State.memtest
  try dsimp only
  with_reducible repeat' first
    | assumption | apply State.outputsOff_kept | apply State.lockReset_kept
    | (refine Kept.lit rfl rfl rfl rfl rfl rfl ?_; first | assumption | apply State.outputsOff_kept | apply State.lockReset_kept | refine Kept.ite ?_ ?_)
    | refine Kept.ite ?_ ?_ | dsimp only

/-! ### Loader -/

theorem State.identifyNand_kept {k0 s t : State} {p : NandProbe} (h : Kept k0 s) (e : s.identifyNand p = .ok t) : Kept k0 t := by
  unfold State.identifyNand at e
  repeat' split at e
  all_goals cases e
  exact h.fields rfl rfl rfl rfl rfl rfl

theorem State.bootNotice_kept {k0 s : State} (h : Kept k0 s) : Kept k0 (State.bootNotice s) := by
  unfold State.bootNotice
  with_reducible repeat' first
    | assumption | apply State.notice_kept

theorem State.toRun_kept {k0 s : State} (h : Kept k0 s) : Kept k0 (State.toRun s) := by
  unfold State.toRun
  try dsimp only
  with_reducible repeat' first
    | assumption | apply State.setPower_kept
    | (refine Kept.lit rfl rfl rfl rfl rfl rfl ?_; first | assumption | apply State.setPower_kept) | dsimp only

theorem State.enterRecovery_kept {k0 s : State} (h : Kept k0 s) (global : Nat) : Kept k0 (State.enterRecovery s global) := by
  unfold State.enterRecovery
  try dsimp only
  with_reducible repeat' first
    | assumption | apply State.toRun_kept | apply State.bootNotice_kept | apply State.setPower_kept
    | (refine Kept.lit rfl rfl rfl rfl rfl rfl ?_; assumption) | refine Kept.ite ?_ ?_ | dsimp only

theorem State.nextCandidate_kept {k0 s : State} (h : Kept k0 s) : Kept k0 (State.nextCandidate s) := by
  unfold State.nextCandidate
  try dsimp only
  with_reducible repeat' first
    | assumption | apply State.enterRecovery_kept | apply State.addJob_kept
    | (refine Kept.lit rfl rfl rfl rfl rfl rfl ?_; assumption) | split | dsimp only

theorem State.failCandidate_kept {k0 s : State} (h : Kept k0 s) (slot : Nat) (code : Nat) : Kept k0 (State.failCandidate s slot code) := by
  unfold State.failCandidate
  try dsimp only
  with_reducible repeat' first
    | assumption | apply State.nextCandidate_kept | (refine Kept.lit rfl rfl rfl rfl rfl rfl ?_; assumption)
    | refine Kept.ite ?_ ?_ | dsimp only

theorem State.scanDone_kept {k0 s0 : State} (h : Kept k0 s0) : Kept k0 (State.scanDone s0) := by
  unfold State.scanDone
  try dsimp only
  with_reducible repeat' first
    | assumption | apply State.dropJob_kept | apply State.nextCandidate_kept
    | (refine Kept.lit rfl rfl rfl rfl rfl rfl ?_; first | assumption | apply State.dropJob_kept | apply State.nextCandidate_kept | refine Kept.ite ?_ ?_)
    | refine Kept.ite ?_ ?_ | split | dsimp only

theorem State.candidateDone_kept {k0 s0 : State} (h : Kept k0 s0) (slot : Nat) (j : NandJob) : Kept k0 (State.candidateDone s0 slot j) := by
  unfold State.candidateDone
  try dsimp only
  with_reducible repeat' first
    | assumption | apply State.dropJob_kept | apply State.failCandidate_kept
    | (refine Kept.lit rfl rfl rfl rfl rfl rfl ?_; first | assumption | apply State.dropJob_kept | apply State.failCandidate_kept | refine Kept.ite ?_ ?_)
    | refine Kept.ite ?_ ?_ | split | dsimp only

theorem State.bootAdvise_kept {k0 s : State} (h : Kept k0 s) (slot : Nat) : Kept k0 (State.bootAdvise s slot) := by
  unfold State.bootAdvise
  try dsimp only
  with_reducible repeat' first
    | assumption | apply State.advise_kept | refine Kept.ite ?_ ?_ | dsimp only

theorem State.loadBlocks_kept {k0 s : State} (h : Kept k0 s) (o : Nat → Word) : Kept k0 (State.loadBlocks s o) := by
  unfold State.loadBlocks
  try dsimp only
  with_reducible repeat' first
    | assumption | apply State.commitPower_kept | apply State.loadConverter_kept | apply State.autostartTimers_kept
    | apply State.loadDma_kept | apply State.commitRind_kept | apply State.commitLock_kept | apply State.lockLoaded_kept
    | apply State.presenceStep_kept | apply State.loadCmps_kept | apply State.settleAll_kept
    | (refine Kept.lit rfl rfl rfl rfl rfl rfl ?_; first | assumption | apply State.commitPower_kept | apply State.loadConverter_kept | apply State.autostartTimers_kept | apply State.loadDma_kept | apply State.commitRind_kept | apply State.commitLock_kept | apply State.lockLoaded_kept | apply State.presenceStep_kept | apply State.loadCmps_kept | apply State.settleAll_kept | refine Kept.ite ?_ ?_)
    | refine Kept.ite ?_ ?_ | dsimp only

theorem State.loadTail_kept {k0 s : State} (h : Kept k0 s) (slot : Nat) : Kept k0 (State.loadTail s slot) := by
  unfold State.loadTail
  try dsimp only
  with_reducible repeat' first
    | assumption | apply State.bootAdvise_kept | apply State.logOf_kept | apply State.setPower_kept
    | apply State.clockNotice_kept | apply State.startMounting_kept | apply State.loadModel_kept | apply State.startCopy_kept
    | (refine Kept.lit rfl rfl rfl rfl rfl rfl ?_; first | assumption | apply State.bootAdvise_kept | apply State.logOf_kept | apply State.setPower_kept | apply State.clockNotice_kept | apply State.startMounting_kept | apply State.loadModel_kept | apply State.startCopy_kept | refine Kept.ite ?_ ?_)
    | refine Kept.ite ?_ ?_ | dsimp only

theorem State.loadCommit_kept {k0 s : State} (h : Kept k0 s) : Kept k0 (State.loadCommit s) := by
  unfold State.loadCommit
  try dsimp only
  with_reducible repeat' first
    | assumption | apply State.failCandidate_kept | apply State.defaultRws_kept | apply State.setReg_kept
    | apply State.setSramBytes_kept | apply State.toRun_kept | apply State.loadBlocks_kept | apply State.loadTail_kept
    | apply State.bootNotice_kept | refine Kept.getD ?_ (fun _ _ => ?_) | refine Kept.foldl (fun _ _ _ => ?_) ?_
    | (refine Kept.lit rfl rfl rfl rfl rfl rfl ?_; first | assumption | apply State.failCandidate_kept | apply State.defaultRws_kept | apply State.setReg_kept | apply State.setSramBytes_kept | apply State.toRun_kept | apply State.loadBlocks_kept | apply State.loadTail_kept | apply State.bootNotice_kept | refine Kept.getD ?_ (fun _ _ => ?_) | refine Kept.foldl (fun _ _ _ => ?_) ?_ | refine Kept.ite ?_ ?_)
    | refine Kept.ite ?_ ?_ | split | dsimp only

theorem State.nandWaitEnd_kept {k0 s0 : State} (h : Kept k0 s0) (p : NandProbe) : Kept k0 (State.nandWaitEnd s0 p) := by
  unfold State.nandWaitEnd
  try dsimp only
  with_reducible repeat' first
    | assumption | apply State.setPower_kept | apply State.enterRecovery_kept
    | refine State.identifyNand_kept ?_ (by assumption) | apply State.addJob_kept
    | (refine Kept.lit rfl rfl rfl rfl rfl rfl ?_; first | assumption | apply State.setPower_kept | apply State.enterRecovery_kept | refine State.identifyNand_kept ?_ (by assumption) | apply State.addJob_kept | refine Kept.ite ?_ ?_)
    | refine Kept.ite ?_ ?_ | split | dsimp only

theorem State.nandOpEnd_kept {k0 s : State} (h : Kept k0 s) (fail : Bool) (errs : List Nat) : Kept k0 (State.nandOpEnd s fail errs) := by
  unfold State.nandOpEnd
  try dsimp only
  with_reducible repeat' first
    | assumption | apply State.opDone_kept | apply State.storeJob_kept | apply State.scanDone_kept
    | apply State.candidateDone_kept | apply State.caveJobDone_kept | apply State.cacheRecord_kept
    | apply State.sessionFetched_kept | apply State.caveService_kept | apply State.nandPick_kept
    | (refine Kept.lit rfl rfl rfl rfl rfl rfl ?_; first | assumption | apply State.opDone_kept | apply State.storeJob_kept | apply State.scanDone_kept | apply State.candidateDone_kept | apply State.caveJobDone_kept | apply State.cacheRecord_kept | apply State.sessionFetched_kept | apply State.caveService_kept | apply State.nandPick_kept | refine Kept.ite ?_ ?_)
    | refine Kept.ite ?_ ?_ | split | dsimp only

theorem State.nandTimeout_kept {k0 s : State} (h : Kept k0 s) : Kept k0 (State.nandTimeout s) := by
  unfold State.nandTimeout
  with_reducible repeat' first
    | assumption | apply State.enterRecovery_kept | apply State.nandOpEnd_kept
    | (refine Kept.lit rfl rfl rfl rfl rfl rfl ?_; assumption) | refine Kept.ite ?_ ?_ | split | dsimp only

theorem State.mountDone_kept {k0 s : State} (h : Kept k0 s) : Kept k0 (State.mountDone s) := by
  unfold State.mountDone
  try dsimp only
  with_reducible repeat' first
    | assumption | apply State.mountEnd_kept | apply State.healthMount_kept | apply State.batteryMount_kept
    | apply State.fusionMount_kept | apply State.startRecWrite_kept | apply State.collectIfLow_kept | refine Kept.ite ?_ ?_
    | dsimp only

/-! ### Txn -/

theorem State.shadowWrite_kept {k0 s : State} (h : Kept k0 s) (a : Nat) (w : Word) : Kept k0 (State.shadowWrite s a w) := by
  unfold State.shadowWrite
  with_reducible repeat' first
    | assumption | (refine Kept.lit rfl rfl rfl rfl rfl rfl ?_; assumption)

theorem State.holdSet_kept {k0 s : State} (h : Kept k0 s) (m : Nat) : Kept k0 (State.holdSet s m) := by
  unfold State.holdSet
  with_reducible repeat' first
    | assumption | (refine Kept.lit rfl rfl rfl rfl rfl rfl ?_; assumption) | refine Kept.ite ?_ ?_

theorem State.openTxn_kept {k0 s : State} (h : Kept k0 s) (p : CommitPoint) (staged : Bool) : Kept k0 (State.openTxn s p staged) := by
  unfold State.openTxn
  with_reducible repeat' first
    | assumption | (refine Kept.lit rfl rfl rfl rfl rfl rfl ?_; assumption) | refine Kept.ite ?_ ?_

theorem State.endTxn_kept {k0 s : State} (h : Kept k0 s) (cause : Nat) (addr : Nat) : Kept k0 (State.endTxn s cause addr) := by
  unfold State.endTxn
  with_reducible repeat' first
    | assumption | (refine Kept.lit rfl rfl rfl rfl rfl rfl ?_; assumption)

theorem State.endTxnNotice_kept {k0 s : State} (h : Kept k0 s) (cause : Nat) (addr : Nat) (outcome : Nat) : Kept k0 (State.endTxnNotice s cause addr outcome) := by
  unfold State.endTxnNotice
  with_reducible repeat' first
    | assumption | apply State.endTxn_kept | apply State.notice_kept

theorem State.abortTxn_kept {k0 s : State} (h : Kept k0 s) : Kept k0 (State.abortTxn s) := by
  unfold State.abortTxn
  with_reducible repeat' first
    | assumption | apply State.endTxn_kept | apply State.endTxnNotice_kept
    | (refine Kept.lit rfl rfl rfl rfl rfl rfl ?_; assumption) | split | dsimp only

theorem State.armTxn_kept {k0 s : State} (h : Kept k0 s) (last : Bool) : Kept k0 (State.armTxn s last) := by
  unfold State.armTxn
  with_reducible repeat' first
    | assumption | (refine Kept.lit rfl rfl rfl rfl rfl rfl ?_; assumption) | split | dsimp only

theorem State.closeTxn_kept {k0 s t : State} {last : Bool} (h : Kept k0 s) (e : s.closeTxn last = .ok t) : Kept k0 t := by
  unfold State.closeTxn at e
  split at e
  · cases e
  · cases e; exact State.armTxn_kept h last

theorem State.armTimeout_kept {k0 s : State} (h : Kept k0 s) : Kept k0 (State.armTimeout s) := by
  unfold State.armTimeout
  with_reducible repeat' first
    | assumption | apply State.endTxnNotice_kept | refine Kept.ite ?_ ?_

theorem State.stageTimeout_kept {k0 s : State} (h : Kept k0 s) : Kept k0 (State.stageTimeout s) := by
  unfold State.stageTimeout
  with_reducible repeat' first
    | assumption | apply State.endTxnNotice_kept | refine Kept.ite ?_ ?_

/-! ### Commit -/

theorem State.setLfQueue_kept {k0 s : State} (h : Kept k0 s) (b : LfBlock) (l : List LfWrite) : Kept k0 (State.setLfQueue s b l) := by
  unfold State.setLfQueue
  with_reducible repeat' first
    | assumption | apply State.setPower_kept | (refine Kept.lit rfl rfl rfl rfl rfl rfl ?_; assumption) | split | dsimp only

theorem State.pushLf_kept {k0 s : State} (h : Kept k0 s) (w : LfWrite) : Kept k0 (State.pushLf s w) := by
  unfold State.pushLf
  try dsimp only
  with_reducible repeat' first
    | assumption | apply State.setLfQueue_kept | dsimp only

theorem State.commitWord_kept {k0 s : State} (h : Kept k0 s) (a : Nat) (v : Word) : Kept k0 (State.commitWord s a v) := by
  unfold State.commitWord
  try dsimp only
  with_reducible repeat' first
    | assumption | apply State.pushLf_kept | apply State.setReg_kept | refine Kept.ite ?_ ?_ | dsimp only

theorem State.commitWheel_kept {k0 s : State} (h : Kept k0 s) (o : Nat → Word) (c : Nat → Word) (changed : List Nat) (w : Fin 4) : Kept k0 (State.commitWheel s o c changed w) := by
  unfold State.commitWheel
  try dsimp only
  with_reducible repeat' first
    | assumption | apply State.setWheel_kept | apply State.changeWheel_kept | apply State.fusWheel_kept
    | (refine Kept.lit rfl rfl rfl rfl rfl rfl ?_; assumption) | refine Kept.ite ?_ ?_ | dsimp only

theorem State.commitPhase_kept {k0 s : State} (h : Kept k0 s) (words : List Nat) (k : Fin 2) : Kept k0 (State.commitPhase s words k) := by
  unfold State.commitPhase
  with_reducible repeat' first
    | assumption | apply State.phaseReset_kept | refine Kept.ite ?_ ?_ | dsimp only

theorem State.commitDma_kept {k0 s : State} (h : Kept k0 s) (o : Nat → Word) (c : Nat → Word) : Kept k0 (State.commitDma s o c) := by
  unfold State.commitDma
  try dsimp only
  with_reducible repeat' first
    | assumption | apply State.tlbDropCtx_kept | apply State.stopCh_kept | refine Kept.foldl (fun _ _ _ => ?_) ?_
    | refine Kept.ite ?_ ?_ | dsimp only

theorem State.commitBlocks_kept {k0 s : State} (h : Kept k0 s) (o c : Nat → Word) (words changed : List Nat) :
    Kept k0 (s.commitBlocks o c words changed) := by
  have h2 : ∀ s, Kept k0 s → Kept k0 ((List.finRange 4).foldl (fun s (w : Fin 4) => s.commitWheel o c changed w) s) := fun s h =>
    Kept.foldl (fun _ _ h => State.commitWheel_kept h _ _ _ _) h
  have h3 : ∀ s, Kept k0 s → Kept k0 ((List.finRange 2).foldl (fun s (k : Fin 2) => s.commitPhase words k) s) := fun s h =>
    Kept.foldl (fun _ _ h => State.commitPhase_kept h _ _) h
  have h5 : ∀ s, Kept k0 s → Kept k0 ((List.finRange 16).foldl (fun s (n : Fin 16) => s.commitTimer o c n) s) :=
    fun s h => Kept.foldl (fun _ _ h => State.commitTimer_kept h _ _ _) h
  have h6 : ∀ s, Kept k0 s → Kept k0 ((List.finRange 16).foldl (fun s (k : Fin 16) => s.commitCmp o c k) s) :=
    fun s h => Kept.foldl (fun _ _ h => State.commitCmp_kept h _ _ _) h
  unfold State.commitBlocks
  extract_lets touches s0 s1 t s2 s3 s3b s4 s5 s6 s7 n8 s8 s9
  have e0 : Kept k0 s0 := Kept.ite (h2 _ h) h
  have e1 : Kept k0 s1 := h3 _ e0
  have et : Kept k0 t := Kept.foldl (fun _ _ h =>
    State.updateChop_kept (State.regainLock_kept (State.updateFallback_kept (State.freeFallback_kept h _ _) _ _) _) _) e1
  have e2 : Kept k0 s2 := Kept.ite (State.settleAll_kept et) e1
  have e3 : Kept k0 s3 := Kept.ite (h5 _ e2) e2
  have e3' : Kept k0 s3b := Kept.ite (Kept.foldl (fun _ _ h => State.retable_kept h _ _) e3) e3
  have e4 : Kept k0 s4 := Kept.ite (h6 _ e3') e3'
  have e5 : Kept k0 s5 := Kept.ite (State.commitDma_kept e4 _ _) e4
  have e6 : Kept k0 s6 := Kept.ite (State.commitBattery_kept e5 _ _) e5
  have e7 : Kept k0 s7 := Kept.ite (State.commitFusion_kept e6 _) e6
  have e8 : Kept k0 s8 := Kept.ite (e7.fields rfl rfl rfl rfl rfl rfl) e7
  have e9 : Kept k0 s9 := Kept.ite (State.healthLife_kept e8) e8
  exact Kept.ite (e9.fields rfl rfl rfl rfl rfl rfl) e9

theorem State.commitHolds_kept {k0 s : State} (h : Kept k0 s) (last : Bool) (named : Nat) : Kept k0 (State.commitHolds s last named) := by
  unfold State.commitHolds
  try dsimp only
  with_reducible repeat' first
    | assumption | apply State.flushQueue_kept | apply State.beginHold_kept | apply State.settle_kept
    | refine Kept.foldl (fun _ _ _ => ?_) ?_ | (refine Kept.lit rfl rfl rfl rfl rfl rfl ?_; assumption) | refine Kept.ite ?_ ?_
    | dsimp only

theorem State.commitChannels_kept {k0 s : State} (h : Kept k0 s) (last : Bool) (changed : Nat) (named : Nat) : Kept k0 (State.commitChannels s last changed named) := by
  unfold State.commitChannels
  try dsimp only
  with_reducible repeat' first
    | assumption | apply State.restartCh_kept | apply State.dropCh_kept | refine Kept.foldl (fun _ _ _ => ?_) ?_
    | (refine Kept.lit rfl rfl rfl rfl rfl rfl ?_; assumption) | refine Kept.ite ?_ ?_ | dsimp only

theorem State.applyShadow_kept {k0 s : State} (h : Kept k0 s) (last : Bool) : Kept k0 (State.applyShadow s last) := by
  unfold State.applyShadow
  try dsimp only
  with_reducible repeat' first
    | assumption | apply State.earlierTriggers_kept | apply State.takeSnaps_kept | apply State.catchFallback_kept
    | apply State.commitWord_kept | apply State.commitBlocks_kept | apply State.commitChannels_kept
    | apply State.commitHolds_kept | refine Kept.foldl (fun _ _ _ => ?_) ?_
    | (refine Kept.lit rfl rfl rfl rfl rfl rfl ?_; first | assumption | apply State.earlierTriggers_kept | apply State.takeSnaps_kept | apply State.catchFallback_kept | apply State.commitWord_kept | apply State.commitBlocks_kept | apply State.commitChannels_kept | apply State.commitHolds_kept | refine Kept.foldl (fun _ _ _ => ?_) ?_ | refine Kept.ite ?_ ?_ | split | dsimp only)
    | refine Kept.ite ?_ ?_ | split | dsimp only

theorem State.finishCommit_kept {k0 s : State} (h : Kept k0 s) : Kept k0 (State.finishCommit s) := by
  unfold State.finishCommit
  try dsimp only
  with_reducible repeat' first
    | assumption | apply State.endTxnNotice_kept | apply State.applyShadow_kept | apply State.notice_kept
    | (refine Kept.lit rfl rfl rfl rfl rfl rfl ?_; first | assumption | apply State.endTxnNotice_kept | apply State.applyShadow_kept | apply State.notice_kept | refine Kept.ite ?_ ?_)
    | refine Kept.ite ?_ ?_ | split | dsimp only

theorem State.commitPoint_kept {k0 s : State} (h : Kept k0 s) : Kept k0 (State.commitPoint s) := by
  unfold State.commitPoint
  try dsimp only
  with_reducible repeat' first
    | assumption | apply State.finishCommit_kept | (refine Kept.lit rfl rfl rfl rfl rfl rfl ?_; assumption)
    | refine Kept.ite ?_ ?_ | dsimp only

theorem State.asSingle_kept {k0 s : State} (h : Kept k0 s) (a : Nat) (v : Word) : Kept k0 (State.asSingle s a v) := by
  unfold State.asSingle
  with_reducible repeat' first
    | assumption | (refine Kept.lit rfl rfl rfl rfl rfl rfl ?_; assumption)

theorem State.applySingle_kept {k0 s : State} (h : Kept k0 s) (a : Nat) (v : Word) : Kept k0 (State.applySingle s a v) := by
  unfold State.applySingle
  try dsimp only
  with_reducible repeat' first
    | assumption | apply State.asSingle_kept | apply State.applyShadow_kept
    | (refine Kept.lit rfl rfl rfl rfl rfl rfl ?_; first | assumption | apply State.asSingle_kept | apply State.applyShadow_kept)
    | dsimp only

theorem State.singleCommit_kept {k0 s t : State} {a : Nat} {v : Word} (h : Kept k0 s) (e : s.singleCommit a v = .ok t) : Kept k0 t := by
  unfold State.singleCommit at e
  dsimp only at e
  split at e
  · cases e
  · split at e
    · cases e; exact h.fields rfl rfl rfl rfl rfl rfl
    · cases e; exact State.applySingle_kept h a v

theorem State.endSingle_kept {k0 s t : State} {a : Nat} {v : Word} (h : Kept k0 s) (e : s.endSingle a v = .ok t) : Kept k0 t := by
  unfold State.endSingle at e
  split at e
  · cases e
  · cases e; exact State.applySingle_kept h a v

theorem State.flushWaiting_kept {k0 s : State} (h : Kept k0 s) (l : List (Nat × Word)) : Kept k0 (State.flushWaiting s l) := by
  unfold State.flushWaiting
  with_reducible repeat' first
    | assumption | refine State.endSingle_kept ?_ (by assumption) | refine Kept.foldl (fun _ _ _ => ?_) ?_
    | (refine Kept.lit rfl rfl rfl rfl rfl rfl ?_; first | assumption | refine State.endSingle_kept ?_ (by assumption) | refine Kept.foldl (fun _ _ _ => ?_) ?_)
    | split | dsimp only

theorem State.stepTwo_kept {k0 s : State} (h : Kept k0 s) : Kept k0 (State.stepTwo s) := by
  unfold State.stepTwo
  with_reducible repeat' first
    | assumption | apply State.commitPoint_kept | refine Kept.ite ?_ ?_

theorem State.landCommit_kept {k0 s : State} (h : Kept k0 s) (b : LfBlock) (l : List LfWrite) : Kept k0 (State.landCommit s b l) := by
  unfold State.landCommit
  try dsimp only
  with_reducible repeat' first
    | assumption | apply State.setReg_kept | apply State.commitRind_kept | apply State.commitLock_kept
    | apply State.commitPower_kept | refine Kept.foldl (fun _ _ _ => ?_) ?_
    | (refine Kept.lit rfl rfl rfl rfl rfl rfl ?_; assumption) | split | dsimp only

/-! ### Bus -/

theorem State.clearRc_kept {k0 s : State} (h : Kept k0 s) (a : Nat) : Kept k0 (State.clearRc s a) := by
  unfold State.clearRc
  try dsimp only
  with_reducible repeat' first
    | assumption | apply State.clrReg_kept | apply State.setReg_kept | (refine Kept.lit rfl rfl rfl rfl rfl rfl ?_; assumption)
    | refine Kept.ite ?_ ?_ | split | dsimp only

theorem State.takeMirror_kept {k0 s : State} (h : Kept k0 s) : Kept k0 (State.takeMirror s) := by
  unfold State.takeMirror
  with_reducible repeat' first
    | assumption | (refine Kept.lit rfl rfl rfl rfl rfl rfl ?_; assumption) | refine Kept.ite ?_ ?_ | dsimp only

theorem State.readMirror_kept {k0 s : State} (h : Kept k0 s) (a : Nat) : Kept k0 (State.readMirror s a).next := by
  unfold State.readMirror
  try dsimp only
  with_reducible repeat' first
    | assumption | apply State.setReg_kept | (refine Kept.lit rfl rfl rfl rfl rfl rfl ?_; assumption) | refine Kept.ite ?_ ?_
    | split | dsimp only

theorem State.busReadWord_kept {k0 s : State} (h : Kept k0 s) (m : Master) (jornus : Bool) (a : Nat) : Kept k0 (State.busReadWord s m jornus a).next := by
  unfold State.busReadWord
  try dsimp only
  with_reducible repeat' first
    | assumption | apply State.timerReadHigh_kept | apply State.timerReadLow_kept | apply State.readMirror_kept
    | apply State.closeCycle_kept | apply State.clearRc_kept | refine Kept.getD ?_ (fun _ _ => ?_)
    | (refine Kept.lit rfl rfl rfl rfl rfl rfl ?_; assumption) | refine Kept.ite ?_ ?_ | split | dsimp only

theorem State.writeFields_kept {k0 s : State} (h : Kept k0 s) (a : Nat) (w : Word) : Kept k0 (State.writeFields s a w) := by
  unfold State.writeFields
  try dsimp only
  with_reducible repeat' first
    | assumption | apply State.setReg_kept | (refine Kept.lit rfl rfl rfl rfl rfl rfl ?_; assumption) | split | dsimp only

theorem State.pushFromBus_kept {k0 s : State} (h : Kept k0 s) (m : Master) (w : Word) : Kept k0 (State.pushFromBus s m w) := by
  unfold State.pushFromBus
  try dsimp only
  with_reducible repeat' first
    | assumption | apply State.logDropped_kept | apply State.logEntry_kept | apply State.setCopy_kept
    | (refine Kept.lit rfl rfl rfl rfl rfl rfl ?_; assumption) | refine Kept.ite ?_ ?_ | split | dsimp only

theorem State.writeChCtrl_kept {k0 s : State} (h : Kept k0 s) (n : Fin 16) (w : Word) : Kept k0 (State.writeChCtrl s n w) := by
  unfold State.writeChCtrl
  try dsimp only
  with_reducible repeat' first
    | assumption | apply State.dmaStart_kept | apply State.dmaAbort_kept | apply State.dmaResume_kept | refine Kept.ite ?_ ?_
    | dsimp only

theorem State.writeDma_kept {k0 s : State} (h : Kept k0 s) (a : Nat) (w : Word) : Kept k0 (State.writeDma s a w) := by
  unfold State.writeDma
  try dsimp only
  with_reducible repeat' first
    | assumption | apply State.writeChCtrl_kept | apply State.signalBits_kept | apply State.signalClear_kept
    | apply State.levelDown_kept | apply State.clearLevelWm_kept | apply State.writeFields_kept
    | (refine Kept.lit rfl rfl rfl rfl rfl rfl ?_; assumption) | refine Kept.ite ?_ ?_ | split | dsimp only

theorem State.writeTimer_kept {k0 s : State} (h : Kept k0 s) (m : Master) (a : Nat) (w : Word) : Kept k0 (State.writeTimer s m a w) := by
  unfold State.writeTimer
  try dsimp only
  with_reducible repeat' first
    | assumption | apply State.compareHigh_kept | apply State.compareLow_kept | apply State.writeFields_kept
    | (refine Kept.lit rfl rfl rfl rfl rfl rfl ?_; assumption) | split | dsimp only

theorem State.writeInsert_kept {k0 s : State} (h : Kept k0 s) (m : Master) (i : Nat) (w : Word) : Kept k0 (State.writeInsert s m i w) := by
  unfold State.writeInsert
  try dsimp only
  with_reducible repeat' first
    | assumption | apply State.setCopy_kept | apply State.insertEvent_kept | refine Kept.getD ?_ (fun _ _ => ?_)
    | (refine Kept.lit rfl rfl rfl rfl rfl rfl ?_; assumption) | refine Kept.ite ?_ ?_ | dsimp only

theorem State.writeSwtrig_kept {k0 s : State} (h : Kept k0 s) (w : Word) : Kept k0 (State.writeSwtrig s w) := by
  unfold State.writeSwtrig
  with_reducible repeat' first
    | assumption | apply State.softwareTrigger_kept | apply State.stopSeqs_kept

theorem State.clearAdvise_kept {k0 s : State} (h : Kept k0 s) (w : Word) : Kept k0 (State.clearAdvise s w) := by
  unfold State.clearAdvise
  try dsimp only
  with_reducible repeat' first
    | assumption | apply State.noteSet_kept | apply State.writeFields_kept
    | (refine Kept.lit rfl rfl rfl rfl rfl rfl ?_; first | assumption | apply State.noteSet_kept | apply State.writeFields_kept | refine Kept.ite ?_ ?_)
    | refine Kept.ite ?_ ?_ | dsimp only

theorem State.writeBatFault_kept {k0 s : State} (h : Kept k0 s) (w : Word) : Kept k0 (State.writeBatFault s w) := by
  unfold State.writeBatFault
  try dsimp only
  with_reducible repeat' first
    | assumption | apply State.writeFields_kept
    | (refine Kept.lit rfl rfl rfl rfl rfl rfl ?_; first | assumption | apply State.writeFields_kept | refine Kept.ite ?_ ?_)
    | refine Kept.ite ?_ ?_ | dsimp only

theorem State.writePlain_kept {k0 s : State} (h : Kept k0 s) (m : Master) (a : Nat) (w : Word) : Kept k0 (State.writePlain s m a w) := by
  unfold State.writePlain
  try dsimp only
  with_reducible repeat' first
    | assumption | apply State.writeDma_kept | apply State.writeTimer_kept | apply State.slotWrite_kept
    | apply State.setCopy_kept | apply State.writeFields_kept | apply State.lcsWrite_kept | apply State.clearRingWm_kept
    | apply State.holdSet_kept | apply State.snapshot_kept | apply State.writeInsert_kept | apply State.ilkAgain_kept
    | apply State.flushQueues_kept | apply State.gstart_kept | apply State.swCapture_kept | apply State.writeSwtrig_kept
    | apply State.tlbInvalidate_kept | apply State.clearPoolWm_kept | apply State.pushFromBus_kept
    | apply State.writeBatFault_kept | apply State.writeEpoch_kept | apply State.setSoc_kept | apply State.clearAdvise_kept
    | apply State.healthClear_kept | (refine Kept.lit rfl rfl rfl rfl rfl rfl ?_; assumption) | refine Kept.ite ?_ ?_ | split
    | dsimp only

theorem State.stageClose_kept {k0 s : State} (h : Kept k0 s) : Kept k0 (State.stageClose s).1 := by
  unfold State.stageClose
  with_reducible repeat' first
    | assumption | refine State.closeTxn_kept ?_ (by assumption) | (refine Kept.lit rfl rfl rfl rfl rfl rfl ?_; assumption)
    | refine Kept.ite ?_ ?_ | split | dsimp only

theorem State.stallLast_kept {k0 s : State} (h : Kept k0 s) (m : Master) (b : LfBlock) : Kept k0 (State.stallLast s m b) := by
  unfold State.stallLast
  with_reducible repeat' first
    | assumption | apply State.setLfQueue_kept | apply State.setCh_kept
    | (refine Kept.lit rfl rfl rfl rfl rfl rfl ?_; assumption) | split | dsimp only

theorem State.lfStore_kept {k0 s : State} (h : Kept k0 s) (m : Master) (a : Nat) (w : Word) : Kept k0 (State.lfStore s m a w) := by
  unfold State.lfStore
  try dsimp only
  with_reducible repeat' first
    | assumption | apply State.pushLf_kept | apply State.stallLast_kept | refine Kept.ite ?_ ?_ | dsimp only

theorem State.writeRws_kept {k0 s : State} (h : Kept k0 s) (m : Master) (a : Nat) (w : Word) : Kept k0 (State.writeRws s m a w).next := by
  unfold State.writeRws
  try dsimp only
  with_reducible repeat' first
    | assumption | apply State.orReg_kept | refine State.singleCommit_kept ?_ (by assumption) | apply State.stallLast_kept
    | apply State.shadowWrite_kept
    | (refine Kept.lit rfl rfl rfl rfl rfl rfl ?_; first | assumption | apply State.orReg_kept | refine State.singleCommit_kept ?_ (by assumption) | apply State.stallLast_kept | apply State.shadowWrite_kept | refine Kept.ite ?_ ?_)
    | refine Kept.ite ?_ ?_ | split | dsimp only

theorem State.busWriteWord_kept {k0 s : State} (h : Kept k0 s) (m : Master) (jornus : Bool) (a : Nat) (w : Word) : Kept k0 (State.busWriteWord s m jornus a w).next := by
  unfold State.busWriteWord
  try dsimp only
  with_reducible repeat' first
    | assumption | apply State.setSramWord_kept | apply State.writeRws_kept | apply State.lfStore_kept
    | apply State.stageClose_kept | apply State.writePlain_kept | refine Kept.ite ?_ ?_ | split | dsimp only

theorem State.busWrite_kept {k0 s : State} (h : Kept k0 s) (m : Master) (a : Nat) (w : Word) : Kept k0 (State.busWrite s m a w) := by
  unfold State.busWrite
  try dsimp only
  with_reducible repeat' first
    | assumption | apply State.busWriteWord_kept
    | (refine Kept.lit rfl rfl rfl rfl rfl rfl ?_; first | assumption | apply State.busWriteWord_kept | refine Kept.ite ?_ ?_)
    | refine Kept.ite ?_ ?_ | dsimp only

theorem State.busRead'_kept {k0 s : State} (h : Kept k0 s) (m : Master) (a : Nat) : Kept k0 (State.busRead' s m a) := by
  unfold State.busRead'
  try dsimp only
  with_reducible repeat' first
    | assumption | apply State.busReadWord_kept
    | (refine Kept.lit rfl rfl rfl rfl rfl rfl ?_; first | assumption | apply State.busReadWord_kept | refine Kept.ite ?_ ?_)
    | refine Kept.ite ?_ ?_ | dsimp only

theorem State.landWord_kept {k0 s : State} (h : Kept k0 s) (a : Nat) (w : Word) : Kept k0 (State.landWord s a w) := by
  unfold State.landWord
  with_reducible repeat' first
    | assumption | apply State.powerWord_kept | apply State.lockWord_kept | apply State.stopAlarm_kept
    | apply State.writeFields_kept | (refine Kept.lit rfl rfl rfl rfl rfl rfl ?_; assumption) | refine Kept.ite ?_ ?_ | split
    | dsimp only

theorem State.landRead_kept {k0 s : State} (h : Kept k0 s) (w : LfWrite) : Kept k0 (s.landRead w) := by
  unfold State.landRead
  split
  · exact h
  · exact State.unpark_kept (State.busReadWord_kept h _ _ _) _
      (fun _ h => Kept.ite (State.beatError_kept h _ _ _ _) (State.beatDone_kept h _ _ _))

theorem State.lfProceed_kept {k0 s : State} (h : Kept k0 s) (b : LfBlock) : Kept k0 (s.lfProceed b) := by
  unfold State.lfProceed
  split
  · exact h
  · refine Kept.foldl (fun _ _ h => State.landRead_kept h _) ?_
    split
    · exact State.unpark_kept (State.setLfQueue_kept h _ _) _ (fun _ h => State.beatDone_kept h _ _ _)
    · exact State.setLfQueue_kept h _ _

theorem State.releaseHeld_kept {k0 s : State} (h : Kept k0 s) : Kept k0 (State.releaseHeld s) := by
  unfold State.releaseHeld
  with_reducible repeat' first
    | assumption | apply State.handOver_kept | apply State.releaseIn_kept
    | (refine Kept.lit rfl rfl rfl rfl rfl rfl ?_; assumption) | refine Kept.ite ?_ ?_ | split | dsimp only

theorem State.landOwn_kept {k0 s : State} (h : Kept k0 s) (w : LfWrite) {land : State → State} (hl : ∀ s, Kept k0 s → Kept k0 (land s)) :
    Kept k0 (s.landOwn w land) := by
  have hc := State.closeCycle_kept h
  exact Kept.ite (State.holdNotices_kept hc (hl _ hc)) (hl _ h)

theorem State.lfWriteDone_kept {k0 s : State} (h : Kept k0 s) (b : LfBlock) : Kept k0 (s.lfWriteDone b) := by
  unfold State.lfWriteDone
  dsimp only
  split
  · exact h
  · exact State.releaseHeld_kept (State.lfProceed_kept (State.takeMirror_kept (State.landOwn_kept (State.setLfQueue_kept h _ _) _
      (fun _ h => Kept.ite (State.landCommit_kept h _ _) (State.landWord_kept h _ _)))) _)

theorem State.landNow_kept {k0 s : State} (h : Kept k0 s) (a : Nat) (w : Word) : Kept k0 (State.landNow s a w) := by
  unfold State.landNow
  try dsimp only
  with_reducible repeat' first
    | assumption | apply State.whileRunning_kept | apply State.landWord_kept | apply State.lfWriteDone_kept
    | apply State.lfStore_kept | (refine Kept.lit rfl rfl rfl rfl rfl rfl ?_; assumption) | refine Kept.ite ?_ ?_ | split
    | dsimp only

/-! ### Elapse -/

theorem State.dropFar_kept {k0 s : State} (h : Kept k0 s) : Kept k0 (State.dropFar s) := by
  unfold State.dropFar
  with_reducible repeat' first
    | assumption | apply State.removeFar_kept | refine Kept.foldl (fun _ _ _ => ?_) ?_ | refine Kept.ite ?_ ?_ | dsimp only

theorem State.endCycle_kept {k0 s : State} (h : Kept k0 s) (d : Span) : Kept k0 (State.endCycle s d) := by
  unfold State.endCycle
  with_reducible repeat' first
    | assumption | apply State.closeLevels_kept | refine Kept.ite ?_ ?_

theorem State.healthCycle_kept {k0 s : State} (h : Kept k0 s) (d : Span) : Kept k0 (State.healthCycle s d) := by
  unfold State.healthCycle
  with_reducible repeat' first
    | assumption | apply State.sendHealth_kept | refine Kept.ite ?_ ?_

theorem State.edgeMirror_kept {k0 s : State} (h : Kept k0 s) (d : Span) : Kept k0 (State.edgeMirror s d) := by
  unfold State.edgeMirror
  with_reducible repeat' first
    | assumption | apply State.takeMirror_kept | refine Kept.ite ?_ ?_

theorem State.spanSnaps_kept {k0 s : State} (h : Kept k0 s) (d : Span) : Kept k0 (State.spanSnaps s d) := by
  unfold State.spanSnaps
  with_reducible repeat' first
    | assumption | apply State.takeSnaps_kept | refine Kept.ite ?_ ?_

theorem State.runSpan_kept {k0 s : State} (h : Kept k0 s) (d : Span) : Kept k0 (State.runSpan s d) := by
  unfold State.runSpan
  with_reducible repeat' first
    | assumption | apply State.runClocks_kept | apply State.gridFall_kept

theorem State.elapse_kept {k0 s0 : State} (h : Kept k0 s0) (d : Span) : Kept k0 (State.elapse s0 d) := by
  unfold State.elapse
  try dsimp only
  with_reducible repeat' first
    | assumption | apply State.healthCycle_kept | apply State.endCycle_kept | apply State.spanSnaps_kept
    | apply State.runSpan_kept | apply State.dropFar_kept | apply State.runSequencers_kept | apply State.edgeMirror_kept
    | apply State.runClocks_kept | refine Kept.ite ?_ ?_ | dsimp only

/-! ### Beats -/

theorem State.walk_kept {k0 s : State} (h : Kept k0 s) (n : Fin 16) (root : Nat) (va : Nat) (write : Bool) : Kept k0 (State.walk s n root va write).2 := by
  unfold State.walk
  try dsimp only
  with_reducible repeat' first
    | assumption | apply State.busReadWord_kept | refine Kept.ite ?_ ?_ | split | dsimp only

theorem State.translate_kept {k0 s : State} (h : Kept k0 s) (n : Fin 16) (va : Nat) (write : Bool) : Kept k0 (State.translate s n va write).2 := by
  unfold State.translate
  try dsimp only
  with_reducible repeat' first
    | assumption | refine Kept.snd (by assumption) ?_ | apply State.satInc_kept | apply State.walk_kept
    | apply State.tlbFill_kept
    | (refine Kept.lit rfl rfl rfl rfl rfl rfl ?_; first | assumption | refine Kept.snd (by assumption) ?_ | apply State.satInc_kept | apply State.walk_kept | apply State.tlbFill_kept | refine Kept.ite ?_ ?_ | split | dsimp only)
    | refine Kept.ite ?_ ?_ | split | dsimp only

theorem State.beatRead_kept {k0 s t : State} {n : Fin 16} {pa width : Nat} {whole : Bool} {l : List Byte} (h : Kept k0 s)
    (e : s.beatRead n pa width whole = some (l, t)) : Kept k0 t := by
  unfold State.beatRead at e
  dsimp only at e
  repeat' split at e
  · cases e
  · obtain ⟨-, rfl⟩ := Prod.mk.inj (Option.some.inj e)
    exact h
  · cases e
  · cases e
  · obtain ⟨-, rfl⟩ := Prod.mk.inj (Option.some.inj e)
    exact State.busReadWord_kept h _ _ _

theorem State.setLanes_kept {k0 s : State} (h : Kept k0 s) (a : Nat) (l : List (Option Byte)) : Kept k0 (s.setLanes a l) := by
  induction l generalizing s a with
  | nil => exact h
  | cons b t ih =>
    cases b with
    | none => exact ih h (a + 1)
    | some b => exact ih (State.setSramByte_kept h a b) (a + 1)

theorem State.beatWrite_kept {k0 s t : State} {n : Fin 16} {pa width : Nat} {l : List (Option Byte)} (h : Kept k0 s)
    (e : s.beatWrite n pa width l = some t) : Kept k0 t := by
  unfold State.beatWrite at e
  dsimp only at e
  repeat' split at e
  · cases e
  · cases e; exact State.setLanes_kept h _ _
  · cases e
  · cases e
  · cases e; exact State.busWriteWord_kept h _ _ _ _

theorem State.parkRead_kept {k0 s : State} (h : Kept k0 s) (n : Fin 16) (va : Nat) (pa : Nat) : Kept k0 (State.parkRead s n va pa) := by
  unfold State.parkRead
  with_reducible repeat' first
    | assumption | apply State.pushLf_kept | apply State.setCh_kept | (refine Kept.lit rfl rfl rfl rfl rfl rfl ?_; assumption)

theorem State.countReissue_kept {k0 s : State} (h : Kept k0 s) (n : Fin 16) : Kept k0 (State.countReissue s n) := by
  unfold State.countReissue
  with_reducible repeat' first
    | assumption | apply State.satInc_kept | refine Kept.ite ?_ ?_

theorem State.channelBeat_kept {k0 s0 : State} (h : Kept k0 s0) (n : Fin 16) : Kept k0 (State.channelBeat s0 n) := by
  unfold State.channelBeat
  try dsimp only
  with_reducible repeat' first
    | assumption | refine Kept.snd (by assumption) ?_ | apply State.countReissue_kept | apply State.translate_kept
    | apply State.translationFault_kept | apply State.beatError_kept | apply State.parkRead_kept
    | refine State.beatRead_kept ?_ (by assumption) | apply State.beatDone_kept | refine State.beatWrite_kept ?_ (by assumption)
    | (refine Kept.lit rfl rfl rfl rfl rfl rfl ?_; assumption) | refine Kept.ite ?_ ?_ | split | dsimp only

theorem State.dmaBeat_kept {k0 s : State} (h : Kept k0 s) : Kept k0 (State.dmaBeat s) := by
  unfold State.dmaBeat
  with_reducible repeat' first
    | assumption | apply State.countPreempt_kept | apply State.channelBeat_kept
    | (refine Kept.lit rfl rfl rfl rfl rfl rfl ?_; assumption) | refine Kept.ite ?_ ?_ | split | dsimp only

theorem State.debugAccess_kept {k0 s : State} (h : Kept k0 s) (write : Bool) (a : Nat) (w : Word) : Kept k0 (State.debugAccess s write a w) := by
  unfold State.debugAccess
  try dsimp only
  with_reducible repeat' first
    | assumption | apply State.busWriteWord_kept | apply State.busReadWord_kept
    | (refine Kept.lit rfl rfl rfl rfl rfl rfl ?_; first | assumption | apply State.busWriteWord_kept | apply State.busReadWord_kept | refine Kept.ite ?_ ?_ | split | dsimp only)
    | refine Kept.ite ?_ ?_ | split | dsimp only

theorem State.debugHalt_kept {k0 s : State} (h : Kept k0 s) (halt : Bool) : Kept k0 (State.debugHalt s halt) := by
  unfold State.debugHalt
  try dsimp only
  with_reducible repeat' first
    | assumption | apply State.memtest_kept | apply State.setLife_kept | apply State.nandPick_kept
    | (refine Kept.lit rfl rfl rfl rfl rfl rfl ?_; assumption) | refine Kept.ite ?_ ?_ | dsimp only

/-! ### Commands -/

theorem State.refuse_kept {k0 s : State} (h : Kept k0 s) (status : Nat) (detail : Nat) : Kept k0 (State.refuse s status detail).next := by
  unfold State.refuse
  with_reducible repeat' first
    | assumption | (refine Kept.lit rfl rfl rfl rfl rfl rfl ?_; assumption) | split | dsimp only

theorem State.readWords_kept {k0 s : State} (h : Kept k0 s) (l : List Nat) (data : List Byte) : Kept k0 (s.readWords l data).next := by
  induction l generalizing s data with
  | nil => exact h
  | cons a t ih =>
    have hr := State.busReadWord_kept h .link true a
    unfold State.readWords
    dsimp only
    split
    · exact hr
    · exact ih hr _

theorem State.cmdRead_kept {k0 s : State} (h : Kept k0 s) (args : List Byte) : Kept k0 (State.cmdRead s args).next := by
  unfold State.cmdRead
  try dsimp only
  with_reducible repeat' first
    | assumption | apply State.refuse_kept | apply State.readWords_kept
    | (refine Kept.lit rfl rfl rfl rfl rfl rfl ?_; assumption) | split | dsimp only

theorem State.writeWords_kept {k0 s : State} (h : Kept k0 s) (l : List (Nat × Word)) : Kept k0 (s.writeWords l).next := by
  induction l generalizing s with
  | nil => exact h
  | cons a t ih =>
    have hr := State.busWriteWord_kept h .link true a.1 a.2
    unfold State.writeWords
    dsimp only
    split
    · exact hr
    · split
      · exact ih hr
      · exact hr

theorem State.cmdWrite_kept {k0 s : State} (h : Kept k0 s) (args : List Byte) : Kept k0 (State.cmdWrite s args).next := by
  unfold State.cmdWrite
  try dsimp only
  with_reducible repeat' first
    | assumption | apply State.refuse_kept | apply State.writeWords_kept
    | (refine Kept.lit rfl rfl rfl rfl rfl rfl ?_; assumption) | split | dsimp only

theorem State.waitedWords_kept {k0 s : State} (h : Kept k0 s) : Kept k0 s.waitedWords := by
  have hs : ∀ (x : State) (c : CfgSt), Kept k0 x → Kept k0 { x with cfg := c } := fun _ _ hx => hx.fields rfl rfl rfl rfl rfl rfl
  have hc : Kept k0 (if s.cfg.waitCmd.isSome then s.closeCycle else s) := Kept.ite (State.closeCycle_kept h) h
  have h0 := hs _ { s.cfg with waiting := [], waitCmd := none, dmaWait := none } hc
  unfold State.waitedWords
  dsimp only
  split
  · refine State.flushWaiting_kept (State.respond_kept h0 _ _ ?_) _
    split
    · exact hs _ _ hc
    · rename_i he
      have hu := fun l => State.writeWords_kept (State.endSingle_kept h0 he) l
      split <;> exact hu _
  · exact State.flushWaiting_kept h0 _

theorem State.commitWaitEnd_kept {k0 s : State} (h : Kept k0 s) : Kept k0 (State.commitWaitEnd s) := by
  unfold State.commitWaitEnd
  with_reducible repeat' first
    | assumption | apply State.finishCommit_kept | apply State.waitedWords_kept
    | (refine Kept.lit rfl rfl rfl rfl rfl rfl ?_; assumption) | refine Kept.ite ?_ ?_ | split | dsimp only

theorem State.cmdModify_kept {k0 s : State} (h : Kept k0 s) (args : List Byte) : Kept k0 (State.cmdModify s args).next := by
  unfold State.cmdModify
  try dsimp only
  with_reducible repeat' first
    | assumption | apply State.refuse_kept | apply State.busReadWord_kept | apply State.busWriteWord_kept
    | (refine Kept.lit rfl rfl rfl rfl rfl rfl ?_; assumption) | refine Kept.ite ?_ ?_ | split | dsimp only

theorem State.cmdPing_kept {k0 s : State} (h : Kept k0 s) : Kept k0 (State.cmdPing s).next := by
  unfold State.cmdPing
  with_reducible repeat' first
    | assumption | (refine Kept.lit rfl rfl rfl rfl rfl rfl ?_; assumption) | split | dsimp only

theorem State.cmdReset_kept {k0 s : State} (h : Kept k0 s) (args : List Byte) : Kept k0 (State.cmdReset s args).next := by
  unfold State.cmdReset
  with_reducible repeat' first
    | assumption | apply State.refuse_kept | (refine Kept.lit rfl rfl rfl rfl rfl rfl ?_; assumption) | refine Kept.ite ?_ ?_
    | split | dsimp only

theorem State.cmdTxnOpen_kept {k0 s : State} (h : Kept k0 s) (args : List Byte) : Kept k0 (State.cmdTxnOpen s args).next := by
  unfold State.cmdTxnOpen
  try dsimp only
  with_reducible repeat' first
    | assumption | apply State.refuse_kept | apply State.openTxn_kept | (refine Kept.lit rfl rfl rfl rfl rfl rfl ?_; assumption)
    | refine Kept.ite ?_ ?_ | split | dsimp only

theorem State.cmdTxnCommit_kept {k0 s : State} (h : Kept k0 s) : Kept k0 (State.cmdTxnCommit s).next := by
  unfold State.cmdTxnCommit
  with_reducible repeat' first
    | assumption | apply State.refuse_kept | refine State.closeTxn_kept ?_ (by assumption)
    | (refine Kept.lit rfl rfl rfl rfl rfl rfl ?_; assumption) | split | dsimp only

theorem State.cmdTxnAbort_kept {k0 s : State} (h : Kept k0 s) : Kept k0 (State.cmdTxnAbort s).next := by
  unfold State.cmdTxnAbort
  with_reducible repeat' first
    | assumption | apply State.refuse_kept | apply State.abortTxn_kept
    | (refine Kept.lit rfl rfl rfl rfl rfl rfl ?_; assumption) | refine Kept.ite ?_ ?_ | split | dsimp only

theorem State.cmdTxnStatus_kept {k0 s : State} (h : Kept k0 s) : Kept k0 (State.cmdTxnStatus s).next := by
  unfold State.cmdTxnStatus
  try dsimp only
  with_reducible repeat' first
    | assumption | (refine Kept.lit rfl rfl rfl rfl rfl rfl ?_; assumption) | refine Kept.ite ?_ ?_ | split | dsimp only

theorem State.cmdImgBegin_kept {k0 s : State} (h : Kept k0 s) (args : List Byte) : Kept k0 (State.cmdImgBegin s args).next := by
  unfold State.cmdImgBegin
  try dsimp only
  with_reducible repeat' first
    | assumption | apply State.refuse_kept | (refine Kept.lit rfl rfl rfl rfl rfl rfl ?_; assumption) | refine Kept.ite ?_ ?_
    | split | dsimp only

theorem State.cmdImgData_kept {k0 s : State} (h : Kept k0 s) (args : List Byte) : Kept k0 (State.cmdImgData s args).next := by
  unfold State.cmdImgData
  try dsimp only
  with_reducible repeat' first
    | assumption | apply State.refuse_kept | apply State.updProgram_kept
    | (refine Kept.lit rfl rfl rfl rfl rfl rfl ?_; assumption) | refine Kept.ite ?_ ?_ | split | dsimp only

theorem State.cmdImgEnd_kept {k0 s : State} (h : Kept k0 s) : Kept k0 (State.cmdImgEnd s).next := by
  unfold State.cmdImgEnd
  try dsimp only
  with_reducible repeat' first
    | assumption | apply State.refuse_kept | apply State.updEraseRest_kept | apply State.updProgram_kept
    | (refine Kept.lit rfl rfl rfl rfl rfl rfl ?_; assumption) | refine Kept.ite ?_ ?_ | split | dsimp only

theorem State.cmdImgAbort_kept {k0 s : State} (h : Kept k0 s) : Kept k0 (State.cmdImgAbort s).next := by
  unfold State.cmdImgAbort
  try dsimp only
  with_reducible repeat' first
    | assumption | apply State.refuse_kept | apply State.dropJobs_kept | apply State.addJob_kept | apply State.nandPick_kept
    | refine Kept.getD ?_ (fun _ _ => ?_)
    | (refine Kept.lit rfl rfl rfl rfl rfl rfl ?_; first | assumption | apply State.refuse_kept | apply State.dropJobs_kept | apply State.addJob_kept | apply State.nandPick_kept | refine Kept.getD ?_ (fun _ _ => ?_))
    | split | dsimp only

theorem State.recordReply_kept {k0 s : State} (h : Kept k0 s) (body : List Byte) (off : Nat) : Kept k0 (State.recordReply s body off).next := by
  unfold State.recordReply
  try dsimp only
  with_reducible repeat' first
    | assumption | apply State.refuse_kept | (refine Kept.lit rfl rfl rfl rfl rfl rfl ?_; assumption) | refine Kept.ite ?_ ?_
    | split | dsimp only

theorem State.cmdRecRead_kept {k0 s : State} (h : Kept k0 s) (args : List Byte) : Kept k0 (State.cmdRecRead s args).next := by
  unfold State.cmdRecRead
  try dsimp only
  with_reducible repeat' first
    | assumption | apply State.refuse_kept | refine State.cachedRecord_kept ?_ (by assumption) | apply State.recordReply_kept
    | apply State.addJob_kept | (refine Kept.lit rfl rfl rfl rfl rfl rfl ?_; assumption) | refine Kept.ite ?_ ?_ | split
    | dsimp only

theorem State.entryReply_kept {k0 s : State} (h : Kept k0 s) (e : LogEntry) : Kept k0 (State.entryReply s e).next := by
  unfold State.entryReply
  try dsimp only
  with_reducible repeat' first
    | assumption | (refine Kept.lit rfl rfl rfl rfl rfl rfl ?_; assumption) | split | dsimp only

theorem State.cmdLogRead_kept {k0 s : State} (h : Kept k0 s) (args : List Byte) : Kept k0 (State.cmdLogRead s args).next := by
  unfold State.cmdLogRead
  try dsimp only
  with_reducible repeat' first
    | assumption | apply State.refuse_kept | apply State.entryReply_kept | apply State.addJob_kept
    | (refine Kept.lit rfl rfl rfl rfl rfl rfl ?_; assumption) | refine Kept.ite ?_ ?_ | split | dsimp only

theorem State.testOff_kept {k0 s : State} (h : Kept k0 s) (unit : Nat) : Kept k0 (State.testOff s unit).next := by
  unfold State.testOff
  with_reducible repeat' first
    | assumption | apply State.notice_kept | (refine Kept.lit rfl rfl rfl rfl rfl rfl ?_; assumption) | split | dsimp only

theorem State.adcTestRequest_kept {k0 s : State} (h : Kept k0 s) (x : Conv) (deadline : Nat) : Kept k0 (State.adcTestRequest s x deadline).next := by
  unfold State.adcTestRequest
  with_reducible repeat' first
    | assumption | apply State.testOff_kept | apply State.setAdcTest_kept
    | (refine Kept.lit rfl rfl rfl rfl rfl rfl ?_; assumption) | refine Kept.ite ?_ ?_ | split | dsimp only

theorem State.cmdSelftest_kept {k0 s : State} (h : Kept k0 s) (args : List Byte) : Kept k0 (State.cmdSelftest s args).next := by
  unfold State.cmdSelftest
  try dsimp only
  with_reducible repeat' first
    | assumption | apply State.refuse_kept | apply State.angleTestStart_kept | apply State.adcTestRequest_kept
    | apply State.testOff_kept | (refine Kept.lit rfl rfl rfl rfl rfl rfl ?_; assumption) | refine Kept.ite ?_ ?_ | split
    | dsimp only

theorem State.cmdChallenge_kept {k0 s : State} (h : Kept k0 s) (args : List Byte) : Kept k0 (State.cmdChallenge s args).next := by
  unfold State.cmdChallenge
  try dsimp only
  with_reducible repeat' first
    | assumption | apply State.refuse_kept | apply State.issueChallenge_kept | refine Kept.getD ?_ (fun _ _ => ?_)
    | (refine Kept.lit rfl rfl rfl rfl rfl rfl ?_; assumption) | split | dsimp only

theorem State.cmdRespond_kept {k0 s : State} (h : Kept k0 s) (args : List Byte) : Kept k0 (State.cmdRespond s args).next := by
  unfold State.cmdRespond
  try dsimp only
  with_reducible repeat' first
    | assumption | apply State.supplyR_kept | apply State.verify_kept | apply State.refuse_kept
    | (refine Kept.lit rfl rfl rfl rfl rfl rfl ?_; assumption) | split | dsimp only

theorem State.frame_kept {k0 s : State} (h : Kept k0 s) (op need : Nat) (entryOk : Bool) {body : State → Reply}
    (hb : ∀ s, Kept k0 s → Kept k0 (body s).next) (seq : BitVec 16) (args : List Byte) : Kept k0 (s.frame op need entryOk body seq args) := by
  unfold State.frame
  exact State.command_kept h _ _ _ _ hb _ _

theorem State.badOpcode_kept {k0 s : State} (h : Kept k0 s) (seq : BitVec 16) (op : Nat) (args : List Byte) : Kept k0 (s.badOpcode seq op args) := by
  unfold State.badOpcode
  exact State.command_kept h _ _ _ _ (fun _ h => h) _ _

end Sys2Proof.Machine
end

