-- ==== Sys2Proof/Laws/KeptCommands.lean ====
section
/-!
SUPPORT. Every command answers a next state and keeps the queue, the canonical form, the bounds of the ring and every blown fuse.
-/

namespace Sys2Proof.Machine

set_option Elab.async false
set_option linter.all false

/-! ### ExecAngle -/

theorem execInputStuckTimeout_kept (s : State) (dt : Span) (input : Fin 14) : ∃ t, execInputStuckTimeout dt input s = .next t ∧ Kept s t := by
  unfold execInputStuckTimeout
  dsimp only
  split
  · exact ⟨_, rfl, State.fusWheels_kept (State.toothStuck_kept (State.elapse_kept (Kept.refl s) dt) _ _) _⟩
  · exact ⟨_, rfl, State.rindStuck_kept (State.elapse_kept (Kept.refl s) dt) _⟩

theorem execToothEdge_kept (s : State) (dt : Span) (w : Fin 4) (onB : Bool) (level : InLevel) (peak : Nat) : ∃ t, execToothEdge dt w onB level peak s = .next t ∧ Kept s t := by
  refine ⟨_, rfl, ?_⟩
  with_reducible repeat' first | exact Kept.refl _ | assumption | apply State.elapse_kept | apply State.toothEdge_kept | apply State.fusWheels_kept | apply State.stepTwo_kept | apply State.wheelTail_kept | dsimp only

theorem execStandstill_kept (s : State) (dt : Span) (w : Fin 4) : ∃ t, execStandstill dt w s = .next t ∧ Kept s t := by
  refine ⟨_, rfl, ?_⟩
  with_reducible repeat' first | exact Kept.refl _ | assumption | apply State.elapse_kept | apply State.standstill_kept | apply State.fusWheels_kept | apply State.stepTwo_kept | apply State.wheelTail_kept | dsimp only

theorem execCoastEntry_kept (s : State) (dt : Span) (w : Fin 4) : ∃ t, execCoastEntry dt w s = .next t ∧ Kept s t := by
  refine ⟨_, rfl, ?_⟩
  with_reducible repeat' first | exact Kept.refl _ | assumption | apply State.elapse_kept | apply State.coastEntry_kept | apply State.fusWheels_kept | apply State.stepTwo_kept | apply State.wheelTail_kept | dsimp only

theorem execWheelDead_kept (s : State) (dt : Span) (w : Fin 4) : ∃ t, execWheelDead dt w s = .next t ∧ Kept s t := by
  refine ⟨_, rfl, ?_⟩
  with_reducible repeat' first | exact Kept.refl _ | assumption | apply State.elapse_kept | apply State.wheelDead_kept | dsimp only

theorem execBiasCheck_kept (s : State) (dt : Span) : ∃ t, execBiasCheck dt s = .next t ∧ Kept s t := by
  refine ⟨_, rfl, ?_⟩
  with_reducible repeat' first | exact Kept.refl _ | assumption | apply State.elapse_kept | apply State.biasCheck_kept | dsimp only

theorem execBiasCheckDone_kept (s : State) (dt : Span) (plus : LegReading) (minus : LegReading) (idle : LegReading) (rail : RailReading) : ∃ t, execBiasCheckDone dt plus minus idle rail s = .next t ∧ Kept s t := by
  refine ⟨_, rfl, ?_⟩
  with_reducible repeat' first | exact Kept.refl _ | assumption | apply State.elapse_kept | apply State.biasDone_kept | dsimp only

theorem execSnapshot_kept (s : State) (dt : Span) (m : Master) : ∃ t, execSnapshot dt m s = .next t ∧ Kept s t := by
  refine ⟨_, rfl, ?_⟩
  with_reducible repeat' first | exact Kept.refl _ | assumption | apply State.elapse_kept | apply State.busWrite_kept | dsimp only

/-! ### ExecPower -/

theorem execPor_kept (s : State) (dt : Span) : ∃ t, execPor dt s = .next t ∧ Kept s t := by
  refine ⟨_, rfl, ?_⟩
  with_reducible repeat' first | exact Kept.refl _ | assumption | apply State.elapse_kept | apply State.por_kept | dsimp only

theorem execPinReset_kept (s : State) (dt : Span) : ∃ t, execPinReset dt s = .next t ∧ Kept s t := by
  refine ⟨_, rfl, ?_⟩
  with_reducible repeat' first | exact Kept.refl _ | assumption | apply State.elapse_kept | apply State.pinReset_kept | dsimp only

theorem execBor_kept (s : State) (dt : Span) : ∃ t, execBor dt s = .next t ∧ Kept s t := by
  refine ⟨_, rfl, ?_⟩
  with_reducible repeat' first | exact Kept.refl _ | assumption | apply State.elapse_kept | apply State.brownOut_kept | dsimp only

theorem execClockFailure_kept (s : State) (dt : Span) : ∃ t, execClockFailure dt s = .next t ∧ Kept s t := by
  refine ⟨_, rfl, ?_⟩
  with_reducible repeat' first | exact Kept.refl _ | assumption | apply State.elapse_kept | apply State.clockFailure_kept | dsimp only

theorem execPllLockTimeout_kept (s : State) (dt : Span) : ∃ t, execPllLockTimeout dt s = .next t ∧ Kept s t := by
  refine ⟨_, rfl, ?_⟩
  with_reducible repeat' first | exact Kept.refl _ | assumption | apply State.elapse_kept | apply State.pllTimeout_kept | dsimp only

theorem execVioLow_kept (s : State) (dt : Span) : ∃ t, execVioLow dt s = .next t ∧ Kept s t := by
  refine ⟨_, rfl, ?_⟩
  with_reducible repeat' first | exact Kept.refl _ | assumption | apply State.elapse_kept | apply State.vioLow_kept | dsimp only

theorem execVioRecovered_kept (s : State) (dt : Span) : ∃ t, execVioRecovered dt s = .next t ∧ Kept s t := by
  refine ⟨_, rfl, ?_⟩
  with_reducible repeat' first | exact Kept.refl _ | assumption | apply State.elapse_kept | apply State.vioRecovered_kept | dsimp only

theorem execLfCrystalStart_kept (s : State) (dt : Span) : ∃ t, execLfCrystalStart dt s = .next t ∧ Kept s t := by
  refine ⟨_, rfl, ?_⟩
  with_reducible repeat' first | exact Kept.refl _ | assumption | apply State.elapse_kept | apply State.lfCrystalStart_kept | dsimp only

theorem execLfxfail_kept (s : State) (dt : Span) : ∃ t, execLfxfail dt s = .next t ∧ Kept s t := by
  refine ⟨_, rfl, ?_⟩
  with_reducible repeat' first | exact Kept.refl _ | assumption | apply State.elapse_kept | apply State.lfxFail_kept | dsimp only

theorem execLfswitch_kept (s : State) (dt : Span) : ∃ t, execLfswitch dt s = .next t ∧ Kept s t := by
  refine ⟨_, rfl, ?_⟩
  with_reducible repeat' first | exact Kept.refl _ | assumption | apply State.elapse_kept | apply State.lfSwitch_kept | dsimp only

theorem execLfcalWindowEnd_kept (s : State) (dt : Span) (count : Nat) : ∃ t, execLfcalWindowEnd dt count s = .next t ∧ Kept s t := by
  refine ⟨_, rfl, ?_⟩
  with_reducible repeat' first | exact Kept.refl _ | assumption | apply State.elapse_kept | apply State.lfcalWindow_kept | dsimp only

theorem execDomainReady_kept (s : State) (dt : Span) (n : Fin 14) : ∃ t, execDomainReady dt n s = .next t ∧ Kept s t := by
  refine ⟨_, rfl, ?_⟩
  with_reducible repeat' first | exact Kept.refl _ | assumption | apply State.elapse_kept | apply State.domainReady_kept | dsimp only

theorem execStandbyRequest_kept (s : State) (dt : Span) (key : BitVec 16) : ∃ t, execStandbyRequest dt key s = .next t ∧ Kept s t := by
  refine ⟨_, rfl, ?_⟩
  with_reducible repeat' first | exact Kept.refl _ | assumption | apply State.elapse_kept | apply State.landNow_kept | dsimp only

theorem execShipRequest_kept (s : State) (dt : Span) (key : BitVec 16) : ∃ t, execShipRequest dt key s = .next t ∧ Kept s t := by
  refine ⟨_, rfl, ?_⟩
  with_reducible repeat' first | exact Kept.refl _ | assumption | apply State.elapse_kept | apply State.landNow_kept | dsimp only

theorem execAutosbyIdle_kept (s : State) (dt : Span) : ∃ t, execAutosbyIdle dt s = .next t ∧ Kept s t := by
  refine ⟨_, rfl, ?_⟩
  with_reducible repeat' first | exact Kept.refl _ | assumption | apply State.elapse_kept | apply State.autosby_kept | dsimp only

theorem execStandbyEntryStepDone_kept (s : State) (dt : Span) : ∃ t, execStandbyEntryStepDone dt s = .next t ∧ Kept s t := by
  refine ⟨_, rfl, ?_⟩
  with_reducible repeat' first | exact Kept.refl _ | assumption | apply State.elapse_kept | apply State.entryStepDone_kept | dsimp only

theorem execEntryDmaDrainTimeout_kept (s : State) (dt : Span) : ∃ t, execEntryDmaDrainTimeout dt s = .next t ∧ Kept s t := by
  refine ⟨_, rfl, ?_⟩
  with_reducible repeat' first | exact Kept.refl _ | assumption | apply State.elapse_kept | apply State.entryDmaTimeout_kept | dsimp only

theorem execNtcPowerAckTimeout_kept (s : State) (dt : Span) : ∃ t, execNtcPowerAckTimeout dt s = .next t ∧ Kept s t := by
  refine ⟨_, rfl, ?_⟩
  with_reducible repeat' first | exact Kept.refl _ | assumption | apply State.elapse_kept | apply State.entryAckTimeout_kept | dsimp only

theorem execStandbyEntryTimeout_kept (s : State) (dt : Span) : ∃ t, execStandbyEntryTimeout dt s = .next t ∧ Kept s t := by
  refine ⟨_, rfl, ?_⟩
  with_reducible repeat' first | exact Kept.refl _ | assumption | apply State.elapse_kept | apply State.entryTimeout_kept | dsimp only

theorem execWakeSourceLatch_kept (s : State) (dt : Span) (wakein : Bool) : ∃ t, execWakeSourceLatch dt wakein s = .next t ∧ Kept s t := by
  refine ⟨_, rfl, ?_⟩
  with_reducible repeat' first | exact Kept.refl _ | assumption | apply State.elapse_kept | apply State.wakeLatch_kept | dsimp only

theorem execRunReached_kept (s : State) (dt : Span) : ∃ t, execRunReached dt s = .next t ∧ Kept s t := by
  refine ⟨_, rfl, ?_⟩
  with_reducible repeat' first | exact Kept.refl _ | assumption | apply State.elapse_kept | apply State.runReached_kept | dsimp only

theorem execShipFailure_kept (s : State) (dt : Span) : ∃ t, execShipFailure dt s = .next t ∧ Kept s t := by
  refine ⟨_, rfl, ?_⟩
  with_reducible repeat' first | exact Kept.refl _ | assumption | apply State.elapse_kept | apply State.shipFailure_kept | dsimp only

theorem execVaonLoss_kept (s : State) (dt : Span) : ∃ t, execVaonLoss dt s = .next t ∧ Kept s t := by
  refine ⟨_, rfl, ?_⟩
  with_reducible repeat' first | exact Kept.refl _ | assumption | apply State.elapse_kept | apply State.vaonLoss_kept | dsimp only

theorem execVdd5Valid_kept (s : State) (dt : Span) (late : Bool) : ∃ t, execVdd5Valid dt late s = .next t ∧ Kept s t := by
  refine ⟨_, rfl, ?_⟩
  with_reducible repeat' first | exact Kept.refl _ | assumption | apply State.elapse_kept | apply State.vdd5Valid_kept | dsimp only

theorem execRstnRelease_kept (s : State) (dt : Span) : ∃ t, execRstnRelease dt s = .next t ∧ Kept s t := by
  refine ⟨_, rfl, ?_⟩
  with_reducible repeat' first | exact Kept.refl _ | assumption | apply State.elapse_kept | apply State.rstnRelease_kept | dsimp only

theorem execHostReset_kept (s : State) (dt : Span) : ∃ t, execHostReset dt s = .next t ∧ Kept s t := by
  refine ⟨_, rfl, ?_⟩
  with_reducible repeat' first | exact Kept.refl _ | assumption | apply State.elapse_kept | apply State.whileRunning_kept | apply State.hostReset_kept | dsimp only

theorem execNandPowerupWaitEnd_kept (s : State) (dt : Span) (probe : NandProbe) : ∃ t, execNandPowerupWaitEnd dt probe s = .next t ∧ Kept s t := by
  refine ⟨_, rfl, ?_⟩
  with_reducible repeat' first | exact Kept.refl _ | assumption | apply State.elapse_kept | apply State.nandWaitEnd_kept | dsimp only

theorem execNandOpComplete_kept (s : State) (dt : Span) (fail : Bool) (errors : List Nat) : ∃ t, execNandOpComplete dt fail errors s = .next t ∧ Kept s t := by
  refine ⟨_, rfl, ?_⟩
  with_reducible repeat' first | exact Kept.refl _ | assumption | apply State.elapse_kept | apply State.whileNandUp_kept | apply State.nandOpEnd_kept | dsimp only

theorem execNandTimeout_kept (s : State) (dt : Span) : ∃ t, execNandTimeout dt s = .next t ∧ Kept s t := by
  refine ⟨_, rfl, ?_⟩
  with_reducible repeat' first | exact Kept.refl _ | assumption | apply State.elapse_kept | apply State.whileNandUp_kept | apply State.nandTimeout_kept | dsimp only

theorem execLoadCommit_kept (s : State) (dt : Span) : ∃ t, execLoadCommit dt s = .next t ∧ Kept s t := by
  refine ⟨_, rfl, ?_⟩
  with_reducible repeat' first | exact Kept.refl _ | assumption | apply State.elapse_kept | apply State.loadCommit_kept | dsimp only

theorem execModelLoadDone_kept (s : State) (dt : Span) : ∃ t, execModelLoadDone dt s = .next t ∧ Kept s t := by
  refine ⟨_, rfl, ?_⟩
  with_reducible repeat' first | exact Kept.refl _ | assumption | apply State.elapse_kept | apply State.whileRunning_kept | apply State.modelLoadDone_kept | dsimp only

theorem execImageRepairEnd_kept (s : State) (dt : Span) : ∃ t, execImageRepairEnd dt s = .next t ∧ Kept s t := by
  refine ⟨_, rfl, ?_⟩
  with_reducible repeat' first | exact Kept.refl _ | assumption | apply State.elapse_kept | apply State.whileRunning_kept | apply State.imageRepairEnd_kept | dsimp only

/-! ### ExecLink -/

theorem execPing_kept (s : State) (dt : Span) (seq : BitVec 16) (args : List Byte) : ∃ t, execPing dt seq args s = .next t ∧ Kept s t := by
  refine ⟨_, rfl, ?_⟩
  with_reducible repeat' first | exact Kept.refl _ | assumption | apply State.elapse_kept | refine State.frame_kept ?_ _ _ _ (fun _ _ => ?_) _ _ | apply State.cmdPing_kept | dsimp only

theorem execReset_kept (s : State) (dt : Span) (seq : BitVec 16) (args : List Byte) : ∃ t, execReset dt seq args s = .next t ∧ Kept s t := by
  refine ⟨_, rfl, ?_⟩
  with_reducible repeat' first | exact Kept.refl _ | assumption | apply State.elapse_kept | refine State.frame_kept ?_ _ _ _ (fun _ _ => ?_) _ _ | apply State.cmdReset_kept | dsimp only

theorem execRead_kept (s : State) (dt : Span) (seq : BitVec 16) (args : List Byte) : ∃ t, execRead dt seq args s = .next t ∧ Kept s t := by
  refine ⟨_, rfl, ?_⟩
  with_reducible repeat' first | exact Kept.refl _ | assumption | apply State.elapse_kept | refine State.frame_kept ?_ _ _ _ (fun _ _ => ?_) _ _ | apply State.cmdRead_kept | dsimp only

theorem execWrite_kept (s : State) (dt : Span) (seq : BitVec 16) (args : List Byte) : ∃ t, execWrite dt seq args s = .next t ∧ Kept s t := by
  refine ⟨_, rfl, ?_⟩
  with_reducible repeat' first | exact Kept.refl _ | assumption | apply State.elapse_kept | refine State.frame_kept ?_ _ _ _ (fun _ _ => ?_) _ _ | apply State.cmdWrite_kept | dsimp only

theorem execModify_kept (s : State) (dt : Span) (seq : BitVec 16) (args : List Byte) : ∃ t, execModify dt seq args s = .next t ∧ Kept s t := by
  refine ⟨_, rfl, ?_⟩
  with_reducible repeat' first | exact Kept.refl _ | assumption | apply State.elapse_kept | refine State.frame_kept ?_ _ _ _ (fun _ _ => ?_) _ _ | apply State.cmdModify_kept | dsimp only

theorem execTxnOpen_kept (s : State) (dt : Span) (seq : BitVec 16) (args : List Byte) : ∃ t, execTxnOpen dt seq args s = .next t ∧ Kept s t := by
  refine ⟨_, rfl, ?_⟩
  with_reducible repeat' first | exact Kept.refl _ | assumption | apply State.elapse_kept | refine State.frame_kept ?_ _ _ _ (fun _ _ => ?_) _ _ | apply State.cmdTxnOpen_kept | dsimp only

theorem execTxnCommit_kept (s : State) (dt : Span) (seq : BitVec 16) (args : List Byte) : ∃ t, execTxnCommit dt seq args s = .next t ∧ Kept s t := by
  refine ⟨_, rfl, ?_⟩
  with_reducible repeat' first | exact Kept.refl _ | assumption | apply State.elapse_kept | refine State.frame_kept ?_ _ _ _ (fun _ _ => ?_) _ _ | apply State.cmdTxnCommit_kept | dsimp only

theorem execTxnAbort_kept (s : State) (dt : Span) (seq : BitVec 16) (args : List Byte) : ∃ t, execTxnAbort dt seq args s = .next t ∧ Kept s t := by
  refine ⟨_, rfl, ?_⟩
  with_reducible repeat' first | exact Kept.refl _ | assumption | apply State.elapse_kept | refine State.frame_kept ?_ _ _ _ (fun _ _ => ?_) _ _ | apply State.cmdTxnAbort_kept | dsimp only

theorem execTxnStatus_kept (s : State) (dt : Span) (seq : BitVec 16) (args : List Byte) : ∃ t, execTxnStatus dt seq args s = .next t ∧ Kept s t := by
  refine ⟨_, rfl, ?_⟩
  with_reducible repeat' first | exact Kept.refl _ | assumption | apply State.elapse_kept | refine State.frame_kept ?_ _ _ _ (fun _ _ => ?_) _ _ | apply State.cmdTxnStatus_kept | dsimp only

theorem execImgBegin_kept (s : State) (dt : Span) (seq : BitVec 16) (args : List Byte) : ∃ t, execImgBegin dt seq args s = .next t ∧ Kept s t := by
  refine ⟨_, rfl, ?_⟩
  with_reducible repeat' first | exact Kept.refl _ | assumption | apply State.elapse_kept | refine State.frame_kept ?_ _ _ _ (fun _ _ => ?_) _ _ | apply State.cmdImgBegin_kept | dsimp only

theorem execImgData_kept (s : State) (dt : Span) (seq : BitVec 16) (args : List Byte) : ∃ t, execImgData dt seq args s = .next t ∧ Kept s t := by
  refine ⟨_, rfl, ?_⟩
  with_reducible repeat' first | exact Kept.refl _ | assumption | apply State.elapse_kept | refine State.frame_kept ?_ _ _ _ (fun _ _ => ?_) _ _ | apply State.cmdImgData_kept | dsimp only

theorem execImgEnd_kept (s : State) (dt : Span) (seq : BitVec 16) (args : List Byte) : ∃ t, execImgEnd dt seq args s = .next t ∧ Kept s t := by
  refine ⟨_, rfl, ?_⟩
  with_reducible repeat' first | exact Kept.refl _ | assumption | apply State.elapse_kept | refine State.frame_kept ?_ _ _ _ (fun _ _ => ?_) _ _ | apply State.cmdImgEnd_kept | dsimp only

theorem execImgAbort_kept (s : State) (dt : Span) (seq : BitVec 16) (args : List Byte) : ∃ t, execImgAbort dt seq args s = .next t ∧ Kept s t := by
  refine ⟨_, rfl, ?_⟩
  with_reducible repeat' first | exact Kept.refl _ | assumption | apply State.elapse_kept | refine State.frame_kept ?_ _ _ _ (fun _ _ => ?_) _ _ | apply State.cmdImgAbort_kept | dsimp only

theorem execRecRead_kept (s : State) (dt : Span) (seq : BitVec 16) (args : List Byte) : ∃ t, execRecRead dt seq args s = .next t ∧ Kept s t := by
  refine ⟨_, rfl, ?_⟩
  with_reducible repeat' first | exact Kept.refl _ | assumption | apply State.elapse_kept | refine State.frame_kept ?_ _ _ _ (fun _ _ => ?_) _ _ | apply State.cmdRecRead_kept | dsimp only

theorem execLogRead_kept (s : State) (dt : Span) (seq : BitVec 16) (args : List Byte) : ∃ t, execLogRead dt seq args s = .next t ∧ Kept s t := by
  refine ⟨_, rfl, ?_⟩
  with_reducible repeat' first | exact Kept.refl _ | assumption | apply State.elapse_kept | refine State.frame_kept ?_ _ _ _ (fun _ _ => ?_) _ _ | apply State.cmdLogRead_kept | dsimp only

theorem execSelftest_kept (s : State) (dt : Span) (seq : BitVec 16) (args : List Byte) : ∃ t, execSelftest dt seq args s = .next t ∧ Kept s t := by
  refine ⟨_, rfl, ?_⟩
  with_reducible repeat' first | exact Kept.refl _ | assumption | apply State.elapse_kept | refine State.frame_kept ?_ _ _ _ (fun _ _ => ?_) _ _ | apply State.cmdSelftest_kept | dsimp only

theorem execLcsChallenge_kept (s : State) (dt : Span) (seq : BitVec 16) (args : List Byte) : ∃ t, execLcsChallenge dt seq args s = .next t ∧ Kept s t := by
  refine ⟨_, rfl, ?_⟩
  with_reducible repeat' first | exact Kept.refl _ | assumption | apply State.elapse_kept | refine State.frame_kept ?_ _ _ _ (fun _ _ => ?_) _ _ | apply State.cmdChallenge_kept | dsimp only

theorem execLcsRespond_kept (s : State) (dt : Span) (seq : BitVec 16) (args : List Byte) : ∃ t, execLcsRespond dt seq args s = .next t ∧ Kept s t := by
  refine ⟨_, rfl, ?_⟩
  with_reducible repeat' first | exact Kept.refl _ | assumption | apply State.elapse_kept | refine State.frame_kept ?_ _ _ _ (fun _ _ => ?_) _ _ | apply State.cmdRespond_kept | dsimp only

theorem execBadOpcode_kept (s : State) (dt : Span) (seq : BitVec 16) (op : Byte) (args : List Byte) : ∃ t, execBadOpcode dt seq op args s = .next t ∧ Kept s t := by
  refine ⟨_, rfl, ?_⟩
  with_reducible repeat' first | exact Kept.refl _ | assumption | apply State.elapse_kept | apply State.badOpcode_kept | refine Kept.ite ?_ ?_ | split | dsimp only

theorem execAck_kept (s : State) (dt : Span) (number : BitVec 16) : ∃ t, execAck dt number s = .next t ∧ Kept s t := by
  refine ⟨_, rfl, ?_⟩
  with_reducible repeat' first | exact Kept.refl _ | assumption | apply State.elapse_kept | apply State.ack_kept | dsimp only

theorem execIgnoredFrame_kept (s : State) (dt : Span) (frame : BusFrame) : ∃ t, execIgnoredFrame dt frame s = .next t ∧ Kept s t := by
  refine ⟨_, rfl, ?_⟩
  with_reducible repeat' first | exact Kept.refl _ | assumption | apply State.elapse_kept | apply State.ignoredFrame_kept | dsimp only

theorem execNoticeTransmit_kept (s : State) (dt : Span) : ∃ t, execNoticeTransmit dt s = .next t ∧ Kept s t := by
  refine ⟨_, rfl, ?_⟩
  with_reducible repeat' first | exact Kept.refl _ | assumption | apply State.elapse_kept | apply State.transmitNotice_kept | dsimp only

theorem execGoBack_kept (s : State) (dt : Span) : ∃ t, execGoBack dt s = .next t ∧ Kept s t := by
  refine ⟨_, rfl, ?_⟩
  with_reducible repeat' first | exact Kept.refl _ | assumption | apply State.elapse_kept | apply State.goBack_kept | dsimp only

theorem execLinkStale_kept (s : State) (dt : Span) : ∃ t, execLinkStale dt s = .next t ∧ Kept s t := by
  refine ⟨_, rfl, ?_⟩
  with_reducible repeat' first | exact Kept.refl _ | assumption | apply State.elapse_kept | apply State.linkStale_kept | dsimp only

theorem execBusOff_kept (s : State) (dt : Span) : ∃ t, execBusOff dt s = .next t ∧ Kept s t := by
  refine ⟨_, rfl, ?_⟩
  with_reducible repeat' first | exact Kept.refl _ | assumption | apply State.elapse_kept | apply State.busOff_kept | dsimp only

theorem execBusOffRecovery_kept (s : State) (dt : Span) : ∃ t, execBusOffRecovery dt s = .next t ∧ Kept s t := by
  refine ⟨_, rfl, ?_⟩
  with_reducible repeat' first | exact Kept.refl _ | assumption | apply State.elapse_kept | apply State.busOffRecovery_kept | dsimp only

theorem execLinkSettingsApply_kept (s : State) (dt : Span) : ∃ t, execLinkSettingsApply dt s = .next t ∧ Kept s t := by
  refine ⟨_, rfl, ?_⟩
  with_reducible repeat' first | exact Kept.refl _ | assumption | apply State.elapse_kept | apply State.whileRunning_kept | apply State.applyLinkSettings_kept | dsimp only

theorem execErrorPassive_kept (s : State) (dt : Span) (tec : BitVec 9) (rec : BitVec 8) : ∃ t, execErrorPassive dt tec rec s = .next t ∧ Kept s t := by
  refine ⟨_, rfl, ?_⟩
  with_reducible repeat' first | exact Kept.refl _ | assumption | apply State.elapse_kept | apply State.errorPassive_kept | dsimp only

theorem execBusIntegrationDone_kept (s : State) (dt : Span) : ∃ t, execBusIntegrationDone dt s = .next t ∧ Kept s t := by
  refine ⟨_, rfl, ?_⟩
  with_reducible repeat' first | exact Kept.refl _ | assumption | apply State.elapse_kept | apply State.busIntegrated_kept | dsimp only

/-! ### ExecConfig -/

theorem execRegisterWrite_kept (s : State) (dt : Span) (m : Master) (addr : BitVec 24) (value : Word) : ∃ t, execRegisterWrite dt m addr value s = .next t ∧ Kept s t := by
  refine ⟨_, rfl, ?_⟩
  with_reducible repeat' first | exact Kept.refl _ | assumption | apply State.elapse_kept | apply State.busWrite_kept | dsimp only

theorem execLfWriteDone_kept (s : State) (dt : Span) (block : LfBlock) : ∃ t, execLfWriteDone dt block s = .next t ∧ Kept s t := by
  refine ⟨_, rfl, ?_⟩
  with_reducible repeat' first | exact Kept.refl _ | assumption | apply State.elapse_kept | apply State.lfWriteDone_kept | dsimp only

theorem execCfgStageClose_kept (s : State) (dt : Span) (m : Master) : ∃ t, execCfgStageClose dt m s = .next t ∧ Kept s t := by
  refine ⟨_, rfl, ?_⟩
  with_reducible repeat' first | exact Kept.refl _ | assumption | apply State.elapse_kept | apply State.busWrite_kept | dsimp only

theorem execCfgHoldset_kept (s : State) (dt : Span) (m : Master) (mask : Word) : ∃ t, execCfgHoldset dt m mask s = .next t ∧ Kept s t := by
  refine ⟨_, rfl, ?_⟩
  with_reducible repeat' first | exact Kept.refl _ | assumption | apply State.elapse_kept | apply State.busWrite_kept | dsimp only

theorem execCommitPoint_kept (s : State) (dt : Span) : ∃ t, execCommitPoint dt s = .next t ∧ Kept s t := by
  refine ⟨_, rfl, ?_⟩
  with_reducible repeat' first | exact Kept.refl _ | assumption | apply State.elapse_kept | apply State.commitPoint_kept | dsimp only

theorem execCommitDmaWaitEnd_kept (s : State) (dt : Span) : ∃ t, execCommitDmaWaitEnd dt s = .next t ∧ Kept s t := by
  refine ⟨_, rfl, ?_⟩
  with_reducible repeat' first | exact Kept.refl _ | assumption | apply State.elapse_kept | apply State.whileRunning_kept | apply State.commitWaitEnd_kept | dsimp only

theorem execArmTimeout_kept (s : State) (dt : Span) : ∃ t, execArmTimeout dt s = .next t ∧ Kept s t := by
  refine ⟨_, rfl, ?_⟩
  with_reducible repeat' first | exact Kept.refl _ | assumption | apply State.elapse_kept | apply State.whileRunning_kept | apply State.armTimeout_kept | dsimp only

theorem execStageTimeout_kept (s : State) (dt : Span) : ∃ t, execStageTimeout dt s = .next t ∧ Kept s t := by
  refine ⟨_, rfl, ?_⟩
  with_reducible repeat' first | exact Kept.refl _ | assumption | apply State.elapse_kept | apply State.whileRunning_kept | apply State.stageTimeout_kept | dsimp only

theorem execAngleSelftestStart_kept (s : State) (dt : Span) : ∃ t, execAngleSelftestStart dt s = .next t ∧ Kept s t := by
  refine ⟨_, rfl, ?_⟩
  with_reducible repeat' first | exact Kept.refl _ | assumption | apply State.elapse_kept | apply State.angleTestStart_kept | dsimp only

theorem execAngleSelftestEnd_kept (s : State) (dt : Span) (pass : Bool) (detail : Word) : ∃ t, execAngleSelftestEnd dt pass detail s = .next t ∧ Kept s t := by
  refine ⟨_, rfl, ?_⟩
  with_reducible repeat' first | exact Kept.refl _ | assumption | apply State.elapse_kept | apply State.whileRunning_kept | apply State.fusWheels_kept | apply State.angleTestEnd_kept | dsimp only

theorem execSelftestDeferredTimeout_kept (s : State) (dt : Span) : ∃ t, execSelftestDeferredTimeout dt s = .next t ∧ Kept s t := by
  refine ⟨_, rfl, ?_⟩
  with_reducible repeat' first | exact Kept.refl _ | assumption | apply State.elapse_kept | apply State.whileRunning_kept | apply State.selftestDeferred_kept | dsimp only

theorem execAdcSelftestDone_kept (s : State) (dt : Span) (x : Conv) (readings : AdcTest) : ∃ t, execAdcSelftestDone dt x readings s = .next t ∧ Kept s t := by
  refine ⟨_, rfl, ?_⟩
  with_reducible repeat' first | exact Kept.refl _ | assumption | apply State.elapse_kept | apply State.adcTestDone_kept | dsimp only

/-! ### ExecEvents -/

theorem execEventInsert_kept (s : State) (dt : Span) (m : Master) (ctl : Word) : ∃ t, execEventInsert dt m ctl s = .next t ∧ Kept s t := by
  refine ⟨_, rfl, ?_⟩
  with_reducible repeat' first | exact Kept.refl _ | assumption | apply State.elapse_kept | apply State.busWrite_kept | dsimp only

theorem execEventDue_kept (s : State) (dt : Span) (n : Fin 32) : ∃ t, execEventDue dt n s = .next t ∧ Kept s t := by
  refine ⟨_, rfl, ?_⟩
  with_reducible repeat' first | exact Kept.refl _ | assumption | apply State.elapse_kept | apply State.whileRunning_kept | apply State.stepTwo_kept | apply State.eventDue_kept | dsimp only

theorem execPulseEnd_kept (s : State) (dt : Span) (n : Fin 32) : ∃ t, execPulseEnd dt n s = .next t ∧ Kept s t := by
  refine ⟨_, rfl, ?_⟩
  with_reducible repeat' first | exact Kept.refl _ | assumption | apply State.elapse_kept | apply State.whileRunning_kept | apply State.stepTwo_kept | apply State.pulseEnd_kept | dsimp only

theorem execProbeSample_kept (s : State) (dt : Span) (n : Fin 32) : ∃ t, execProbeSample dt n s = .next t ∧ Kept s t := by
  refine ⟨_, rfl, ?_⟩
  with_reducible repeat' first | exact Kept.refl _ | assumption | apply State.elapse_kept | apply State.whileRunning_kept | apply State.probeSample_kept | dsimp only

theorem execQueueFlush_kept (s : State) (dt : Span) (m : Master) (mask : Word) : ∃ t, execQueueFlush dt m mask s = .next t ∧ Kept s t := by
  refine ⟨_, rfl, ?_⟩
  with_reducible repeat' first | exact Kept.refl _ | assumption | apply State.elapse_kept | apply State.busWrite_kept | dsimp only

theorem execChopTimedEnd_kept (s : State) (dt : Span) (n : Fin 32) : ∃ t, execChopTimedEnd dt n s = .next t ∧ Kept s t := by
  refine ⟨_, rfl, ?_⟩
  with_reducible repeat' first | exact Kept.refl _ | assumption | apply State.elapse_kept | apply State.whileRunning_kept | apply State.chopTimedEnd_kept | dsimp only

theorem execDeadTimeEnd_kept (s : State) (dt : Span) (k : Fin 16) : ∃ t, execDeadTimeEnd dt k s = .next t ∧ Kept s t := by
  refine ⟨_, rfl, ?_⟩
  with_reducible repeat' first | exact Kept.refl _ | assumption | apply State.elapse_kept | apply State.whileRunning_kept | apply State.deadTimeEnd_kept | dsimp only

theorem execTimerRelease_kept (s : State) (dt : Span) (mask : BitVec 16) : ∃ t, execTimerRelease dt mask s = .next t ∧ Kept s t := by
  refine ⟨_, rfl, ?_⟩
  with_reducible repeat' first | exact Kept.refl _ | assumption | apply State.elapse_kept | apply State.whileAwake_kept | apply State.timerRelease_kept | dsimp only

theorem execTimerWrap_kept (s : State) (dt : Span) (n : Fin 16) : ∃ t, execTimerWrap dt n s = .next t ∧ Kept s t := by
  refine ⟨_, rfl, ?_⟩
  with_reducible repeat' first | exact Kept.refl _ | assumption | apply State.elapse_kept | apply State.whileAwake_kept | apply State.wrapStart_kept | apply State.stepTwo_kept | apply State.wrapEnd_kept | refine Kept.ite ?_ ?_ | split | dsimp only

theorem execTimerMatch_kept (s : State) (dt : Span) (n : Fin 16) (chanB : Bool) : ∃ t, execTimerMatch dt n chanB s = .next t ∧ Kept s t := by
  refine ⟨_, rfl, ?_⟩
  with_reducible repeat' first | exact Kept.refl _ | assumption | apply State.elapse_kept | apply State.whileAwake_kept | apply State.stepTwo_kept | apply State.timerMatchB_kept | apply State.timerMatchA_kept | refine Kept.ite ?_ ?_ | split | dsimp only

theorem execTimerResetLoad_kept (s : State) (dt : Span) (n : Fin 16) : ∃ t, execTimerResetLoad dt n s = .next t ∧ Kept s t := by
  refine ⟨_, rfl, ?_⟩
  with_reducible repeat' first | exact Kept.refl _ | assumption | apply State.elapse_kept | apply State.whileAwake_kept | apply State.timerResetLoad_kept | dsimp only

theorem execTimerCapture_kept (s : State) (dt : Span) (n : Fin 16) (pin : Option Bool) : ∃ t, execTimerCapture dt n pin s = .next t ∧ Kept s t := by
  refine ⟨_, rfl, ?_⟩
  with_reducible repeat' first | exact Kept.refl _ | assumption | apply State.elapse_kept | apply State.whileAwake_kept | apply State.stepTwo_kept | apply State.timerCapture_kept | dsimp only

theorem execTmrSwcap_kept (s : State) (dt : Span) (m : Master) (mask : BitVec 16) : ∃ t, execTmrSwcap dt m mask s = .next t ∧ Kept s t := by
  refine ⟨_, rfl, ?_⟩
  with_reducible repeat' first | exact Kept.refl _ | assumption | apply State.elapse_kept | apply State.busWrite_kept | dsimp only

theorem execCompareWrite_kept (s : State) (dt : Span) (m : Master) (n : Fin 16) (chanB : Bool) (value : Word) : ∃ t, execCompareWrite dt m n chanB value s = .next t ∧ Kept s t := by
  refine ⟨_, rfl, ?_⟩
  with_reducible repeat' first | exact Kept.refl _ | assumption | apply State.elapse_kept | apply State.busWrite_kept | refine Kept.ite ?_ ?_ | split | dsimp only

theorem execCompareHighWrite_kept (s : State) (dt : Span) (m : Master) (n : Fin 16) (chanB : Bool) (value : Word) : ∃ t, execCompareHighWrite dt m n chanB value s = .next t ∧ Kept s t := by
  refine ⟨_, rfl, ?_⟩
  with_reducible repeat' first | exact Kept.refl _ | assumption | apply State.elapse_kept | apply State.busWrite_kept | refine Kept.ite ?_ ?_ | split | dsimp only

theorem execTimerLatchedRead_kept (s : State) (dt : Span) (m : Master) (n : Fin 16) (cap : Bool) : ∃ t, execTimerLatchedRead dt m n cap s = .next t ∧ Kept s t := by
  refine ⟨_, rfl, ?_⟩
  with_reducible repeat' first | exact Kept.refl _ | assumption | apply State.elapse_kept | apply State.busRead'_kept | refine Kept.ite ?_ ?_ | split | dsimp only

/-! ### ExecConvert -/

theorem execSequenceTrigger_kept (s : State) (dt : Span) (x : Conv) (inj : Bool) : ∃ t, execSequenceTrigger dt x inj s = .next t ∧ Kept s t := by
  refine ⟨_, rfl, ?_⟩
  with_reducible repeat' first | exact Kept.refl _ | assumption | apply State.elapse_kept | apply State.whileRunning_kept | apply State.sequenceTrigger_kept | dsimp only

theorem execSoftwareTrigger_kept (s : State) (dt : Span) (m : Master) (mask : BitVec 4) : ∃ t, execSoftwareTrigger dt m mask s = .next t ∧ Kept s t := by
  refine ⟨_, rfl, ?_⟩
  with_reducible repeat' first | exact Kept.refl _ | assumption | apply State.elapse_kept | apply State.busWrite_kept | dsimp only

theorem execSequenceStop_kept (s : State) (dt : Span) (m : Master) (mask : BitVec 4) : ∃ t, execSequenceStop dt m mask s = .next t ∧ Kept s t := by
  refine ⟨_, rfl, ?_⟩
  with_reducible repeat' first | exact Kept.refl _ | assumption | apply State.elapse_kept | apply State.busWrite_kept | dsimp only

theorem execConversionStart_kept (s : State) (dt : Span) (x : Conv) (inj : Bool) : ∃ t, execConversionStart dt x inj s = .next t ∧ Kept s t := by
  refine ⟨_, rfl, ?_⟩
  with_reducible repeat' first | exact Kept.refl _ | assumption | apply State.elapse_kept | apply State.whileRunning_kept | apply State.conversionStart_kept | dsimp only

theorem execConversionDone_kept (s : State) (dt : Span) (x : Conv) (slice : Fin 9) (raw : BitVec 16) (excess : Bool) (rawP : BitVec 16) (excessP : Bool) : ∃ t, execConversionDone dt x slice raw excess rawP excessP s = .next t ∧ Kept s t := by
  refine ⟨_, rfl, ?_⟩
  with_reducible repeat' first | exact Kept.refl _ | assumption | apply State.elapse_kept | apply State.whileRunning_kept | apply State.conversionDone_kept | dsimp only

theorem execSliceTimeout_kept (s : State) (dt : Span) (x : Conv) (slice : Fin 9) (rawP : BitVec 16) (excessP : Bool) : ∃ t, execSliceTimeout dt x slice rawP excessP s = .next t ∧ Kept s t := by
  refine ⟨_, rfl, ?_⟩
  with_reducible repeat' first | exact Kept.refl _ | assumption | apply State.elapse_kept | apply State.whileRunning_kept | apply State.sliceTimeout_kept | dsimp only

theorem execCalibrationPassDone_kept (s : State) (dt : Span) (x : Conv) (low : List (BitVec 16)) (mid : List (BitVec 16)) (high : List (BitVec 16)) : ∃ t, execCalibrationPassDone dt x low mid high s = .next t ∧ Kept s t := by
  refine ⟨_, rfl, ?_⟩
  with_reducible repeat' first | exact Kept.refl _ | assumption | apply State.elapse_kept | apply State.passDone_kept | dsimp only

theorem execRotationBoundary_kept (s : State) (dt : Span) (x : Conv) : ∃ t, execRotationBoundary dt x s = .next t ∧ Kept s t := by
  refine ⟨_, rfl, ?_⟩
  with_reducible repeat' first | exact Kept.refl _ | assumption | apply State.elapse_kept | apply State.rotationBoundary_kept | dsimp only

theorem execSpareHandover_kept (s : State) (dt : Span) (x : Conv) : ∃ t, execSpareHandover dt x s = .next t ∧ Kept s t := by
  refine ⟨_, rfl, ?_⟩
  with_reducible repeat' first | exact Kept.refl _ | assumption | apply State.elapse_kept | apply State.whileRunning_kept | apply State.spareHandover_kept | dsimp only

theorem execComparatorEnter_kept (s : State) (dt : Span) (c : Fin 16) (samples : List Int) : ∃ t, execComparatorEnter dt c samples s = .next t ∧ Kept s t := by
  refine ⟨_, rfl, ?_⟩
  with_reducible repeat' first | exact Kept.refl _ | assumption | apply State.elapse_kept | apply State.comparatorEnter_kept | dsimp only

theorem execComparatorLeave_kept (s : State) (dt : Span) (c : Fin 16) (samples : List Int) : ∃ t, execComparatorLeave dt c samples s = .next t ∧ Kept s t := by
  refine ⟨_, rfl, ?_⟩
  with_reducible repeat' first | exact Kept.refl _ | assumption | apply State.elapse_kept | apply State.comparatorLeave_kept | dsimp only

theorem execComparatorReady_kept (s : State) (dt : Span) (c : Fin 16) (samples : List Int) : ∃ t, execComparatorReady dt c samples s = .next t ∧ Kept s t := by
  refine ⟨_, rfl, ?_⟩
  with_reducible repeat' first | exact Kept.refl _ | assumption | apply State.elapse_kept | apply State.comparatorReady_kept | dsimp only

theorem execReferenceFault_kept (s : State) (dt : Span) (x : Conv) : ∃ t, execReferenceFault dt x s = .next t ∧ Kept s t := by
  refine ⟨_, rfl, ?_⟩
  with_reducible repeat' first | exact Kept.refl _ | assumption | apply State.elapse_kept | apply State.whileRunning_kept | apply State.referenceFault_kept | dsimp only

/-! ### ExecDma -/

theorem execDmaStart_kept (s : State) (dt : Span) (n : Fin 16) : ∃ t, execDmaStart dt n s = .next t ∧ Kept s t := by
  refine ⟨_, rfl, ?_⟩
  with_reducible repeat' first | exact Kept.refl _ | assumption | apply State.elapse_kept | apply State.busWrite_kept | dsimp only

theorem execDmaAbort_kept (s : State) (dt : Span) (n : Fin 16) : ∃ t, execDmaAbort dt n s = .next t ∧ Kept s t := by
  refine ⟨_, rfl, ?_⟩
  with_reducible repeat' first | exact Kept.refl _ | assumption | apply State.elapse_kept | apply State.busWrite_kept | dsimp only

theorem execDmaResume_kept (s : State) (dt : Span) (n : Fin 16) : ∃ t, execDmaResume dt n s = .next t ∧ Kept s t := by
  refine ⟨_, rfl, ?_⟩
  with_reducible repeat' first | exact Kept.refl _ | assumption | apply State.elapse_kept | apply State.busWrite_kept | dsimp only

theorem execSignalDelivery_kept (s : State) (dt : Span) (m : Master) (n : Fin 16) (mask : BitVec 16) : ∃ t, execSignalDelivery dt m n mask s = .next t ∧ Kept s t := by
  refine ⟨_, rfl, ?_⟩
  with_reducible repeat' first | exact Kept.refl _ | assumption | apply State.elapse_kept | apply State.busWrite_kept | dsimp only

theorem execSigclr_kept (s : State) (dt : Span) (m : Master) (n : Fin 16) (mask : BitVec 16) : ∃ t, execSigclr dt m n mask s = .next t ∧ Kept s t := by
  refine ⟨_, rfl, ?_⟩
  with_reducible repeat' first | exact Kept.refl _ | assumption | apply State.elapse_kept | apply State.busWrite_kept | dsimp only

theorem execLvldec_kept (s : State) (dt : Span) (m : Master) (n : Fin 16) (amount : BitVec 16) : ∃ t, execLvldec dt m n amount s = .next t ∧ Kept s t := by
  refine ⟨_, rfl, ?_⟩
  with_reducible repeat' first | exact Kept.refl _ | assumption | apply State.elapse_kept | apply State.busWrite_kept | dsimp only

theorem execTlbInvalidate_kept (s : State) (dt : Span) (value : Word) : ∃ t, execTlbInvalidate dt value s = .next t ∧ Kept s t := by
  refine ⟨_, rfl, ?_⟩
  with_reducible repeat' first | exact Kept.refl _ | assumption | apply State.elapse_kept | apply State.busWrite_kept | dsimp only

theorem execDmaMove_kept (s : State) (dt : Span) (n : Fin 16) : ∃ t, execDmaMove dt n s = .next t ∧ Kept s t := by
  refine ⟨_, rfl, ?_⟩
  with_reducible repeat' first | exact Kept.refl _ | assumption | apply State.elapse_kept | apply State.opMove_kept | dsimp only

theorem execDmaBeat_kept (s : State) (dt : Span) : ∃ t, execDmaBeat dt s = .next t ∧ Kept s t := by
  refine ⟨_, rfl, ?_⟩
  with_reducible repeat' first | exact Kept.refl _ | assumption | apply State.elapse_kept | apply State.dmaBeat_kept | dsimp only

theorem execDmaLoop_kept (s : State) (dt : Span) (n : Fin 16) : ∃ t, execDmaLoop dt n s = .next t ∧ Kept s t := by
  refine ⟨_, rfl, ?_⟩
  with_reducible repeat' first | exact Kept.refl _ | assumption | apply State.elapse_kept | apply State.opLoop_kept | dsimp only

theorem execDmaEndloop_kept (s : State) (dt : Span) (n : Fin 16) : ∃ t, execDmaEndloop dt n s = .next t ∧ Kept s t := by
  refine ⟨_, rfl, ?_⟩
  with_reducible repeat' first | exact Kept.refl _ | assumption | apply State.elapse_kept | apply State.opEndLoop_kept | dsimp only

theorem execDmaWait_kept (s : State) (dt : Span) (n : Fin 16) : ∃ t, execDmaWait dt n s = .next t ∧ Kept s t := by
  refine ⟨_, rfl, ?_⟩
  with_reducible repeat' first | exact Kept.refl _ | assumption | apply State.elapse_kept | apply State.opWait_kept | dsimp only

theorem execWaitComplete_kept (s : State) (dt : Span) (n : Fin 16) : ∃ t, execWaitComplete dt n s = .next t ∧ Kept s t := by
  refine ⟨_, rfl, ?_⟩
  with_reducible repeat' first | exact Kept.refl _ | assumption | apply State.elapse_kept | apply State.whileRunning_kept | apply State.waitComplete_kept | dsimp only

theorem execDmaSignal_kept (s : State) (dt : Span) (n : Fin 16) : ∃ t, execDmaSignal dt n s = .next t ∧ Kept s t := by
  refine ⟨_, rfl, ?_⟩
  with_reducible repeat' first | exact Kept.refl _ | assumption | apply State.elapse_kept | apply State.opSignal_kept | dsimp only

theorem execDmaSet_kept (s : State) (dt : Span) (n : Fin 16) : ∃ t, execDmaSet dt n s = .next t ∧ Kept s t := by
  refine ⟨_, rfl, ?_⟩
  with_reducible repeat' first | exact Kept.refl _ | assumption | apply State.elapse_kept | apply State.opSet_kept | dsimp only

theorem execDmaEnd_kept (s : State) (dt : Span) (n : Fin 16) : ∃ t, execDmaEnd dt n s = .next t ∧ Kept s t := by
  refine ⟨_, rfl, ?_⟩
  with_reducible repeat' first | exact Kept.refl _ | assumption | apply State.elapse_kept | apply State.opEnd_kept | dsimp only

/-! ### ExecCave -/

theorem execCaveMount_kept (s : State) (dt : Span) : ∃ t, execCaveMount dt s = .next t ∧ Kept s t := by
  refine ⟨_, rfl, ?_⟩
  with_reducible repeat' first | exact Kept.refl _ | assumption | apply State.elapse_kept | apply State.whileRunning_kept | apply State.caveMount_kept | dsimp only

theorem execMountDone_kept (s : State) (dt : Span) : ∃ t, execMountDone dt s = .next t ∧ Kept s t := by
  refine ⟨_, rfl, ?_⟩
  with_reducible repeat' first | exact Kept.refl _ | assumption | apply State.elapse_kept | apply State.mountDone_kept | dsimp only

theorem execRecordWrite_kept (s : State) (dt : Span) (kind : BitVec 8) (index : BitVec 16) (version : BitVec 8) (body : List Byte) : ∃ t, execRecordWrite dt kind index version body s = .next t ∧ Kept s t := by
  refine ⟨_, rfl, ?_⟩
  with_reducible repeat' first | exact Kept.refl _ | assumption | apply State.elapse_kept | apply State.whileAwake_kept | apply State.recordWrite_kept | dsimp only

theorem execRecordWriteDone_kept (s : State) (dt : Span) : ∃ t, execRecordWriteDone dt s = .next t ∧ Kept s t := by
  refine ⟨_, rfl, ?_⟩
  with_reducible repeat' first | exact Kept.refl _ | assumption | apply State.elapse_kept | apply State.whileRunning_kept | apply State.recordWriteDone_kept | dsimp only

theorem execLogPush_kept (s : State) (dt : Span) (m : Master) (ctl : Word) : ∃ t, execLogPush dt m ctl s = .next t ∧ Kept s t := by
  refine ⟨_, rfl, ?_⟩
  with_reducible repeat' first | exact Kept.refl _ | assumption | apply State.elapse_kept | apply State.busWrite_kept | dsimp only

theorem execLogFlush_kept (s : State) (dt : Span) : ∃ t, execLogFlush dt s = .next t ∧ Kept s t := by
  refine ⟨_, rfl, ?_⟩
  with_reducible repeat' first | exact Kept.refl _ | assumption | apply State.elapse_kept | apply State.whileRunning_kept | apply State.logFlushDue_kept | dsimp only

theorem execRetentionTick_kept (s : State) (dt : Span) : ∃ t, execRetentionTick dt s = .next t ∧ Kept s t := by
  refine ⟨_, rfl, ?_⟩
  with_reducible repeat' first | exact Kept.refl _ | assumption | apply State.elapse_kept | apply State.retentionTick_kept | dsimp only

theorem execRefreshPassPage_kept (s : State) (dt : Span) : ∃ t, execRefreshPassPage dt s = .next t ∧ Kept s t := by
  refine ⟨_, rfl, ?_⟩
  with_reducible repeat' first | exact Kept.refl _ | assumption | apply State.elapse_kept | apply State.refreshPassPage_kept | dsimp only

theorem execWearLevelCheck_kept (s : State) (dt : Span) : ∃ t, execWearLevelCheck dt s = .next t ∧ Kept s t := by
  refine ⟨_, rfl, ?_⟩
  with_reducible repeat' first | exact Kept.refl _ | assumption | apply State.elapse_kept | apply State.wearLevelCheck_kept | dsimp only

theorem execImageCheckDone_kept (s : State) (dt : Span) : ∃ t, execImageCheckDone dt s = .next t ∧ Kept s t := by
  refine ⟨_, rfl, ?_⟩
  with_reducible repeat' first | exact Kept.refl _ | assumption | apply State.elapse_kept | apply State.whileRunning_kept | apply State.imageCheckDone_kept | dsimp only

/-! ### ExecBattery -/

theorem execCurdDone_kept (s : State) (dt : Span) (vpack : Nat) (code : BitVec 24) (excess : Bool) (ntc : List Nat) (age : Nat) : ∃ t, execCurdDone dt vpack code excess ntc age s = .next t ∧ Kept s t := by
  refine ⟨_, rfl, ?_⟩
  with_reducible repeat' first | exact Kept.refl _ | assumption | apply State.elapse_kept | apply State.curdDone_kept | dsimp only

theorem execStandbyCurd_kept (s : State) (dt : Span) (vpack : Nat) (code : BitVec 24) (excess : Bool) (ntc : List Nat) : ∃ t, execStandbyCurd dt vpack code excess ntc s = .next t ∧ Kept s t := by
  refine ⟨_, rfl, ?_⟩
  with_reducible repeat' first | exact Kept.refl _ | assumption | apply State.elapse_kept | apply State.standbyCurd_kept | dsimp only

theorem execCurdLost_kept (s : State) (dt : Span) : ∃ t, execCurdLost dt s = .next t ∧ Kept s t := by
  refine ⟨_, rfl, ?_⟩
  with_reducible repeat' first | exact Kept.refl _ | assumption | apply State.elapse_kept | apply State.curdLost_kept | dsimp only

theorem execIdAttempt_kept (s : State) (dt : Span) : ∃ t, execIdAttempt dt s = .next t ∧ Kept s t := by
  refine ⟨_, rfl, ?_⟩
  with_reducible repeat' first | exact Kept.refl _ | assumption | apply State.elapse_kept | apply State.idAttempt_kept | dsimp only

theorem execIdAttemptDone_kept (s : State) (dt : Span) (reading : IdReading) : ∃ t, execIdAttemptDone dt reading s = .next t ∧ Kept s t := by
  refine ⟨_, rfl, ?_⟩
  with_reducible repeat' first | exact Kept.refl _ | assumption | apply State.elapse_kept | apply State.idAttemptDone_kept | dsimp only

theorem execIdDeadline_kept (s : State) (dt : Span) : ∃ t, execIdDeadline dt s = .next t ∧ Kept s t := by
  refine ⟨_, rfl, ?_⟩
  with_reducible repeat' first | exact Kept.refl _ | assumption | apply State.elapse_kept | apply State.idDeadline_kept | dsimp only

theorem execGraceEnd_kept (s : State) (dt : Span) : ∃ t, execGraceEnd dt s = .next t ∧ Kept s t := by
  refine ⟨_, rfl, ?_⟩
  with_reducible repeat' first | exact Kept.refl _ | assumption | apply State.elapse_kept | apply State.whileAwake_kept | apply State.graceEnded_kept | dsimp only

theorem execSetsoc_kept (s : State) (dt : Span) (m : Master) (value : Word) : ∃ t, execSetsoc dt m value s = .next t ∧ Kept s t := by
  refine ⟨_, rfl, ?_⟩
  with_reducible repeat' first | exact Kept.refl _ | assumption | apply State.elapse_kept | apply State.busWrite_kept | dsimp only

theorem execSocReportStep_kept (s : State) (dt : Span) : ∃ t, execSocReportStep dt s = .next t ∧ Kept s t := by
  refine ⟨_, rfl, ?_⟩
  with_reducible repeat' first | exact Kept.refl _ | assumption | apply State.elapse_kept | apply State.socReportStep_kept | dsimp only

theorem execRecordCheckpoint_kept (s : State) (dt : Span) : ∃ t, execRecordCheckpoint dt s = .next t ∧ Kept s t := by
  refine ⟨_, rfl, ?_⟩
  with_reducible repeat' first | exact Kept.refl _ | assumption | apply State.elapse_kept | apply State.recordCheckpoint_kept | dsimp only

theorem execEpochTick_kept (s : State) (dt : Span) : ∃ t, execEpochTick dt s = .next t ∧ Kept s t := by
  refine ⟨_, rfl, ?_⟩
  with_reducible repeat' first | exact Kept.refl _ | assumption | apply State.elapse_kept | apply State.epochTick_kept | dsimp only

theorem execAutoshipRetry_kept (s : State) (dt : Span) : ∃ t, execAutoshipRetry dt s = .next t ∧ Kept s t := by
  refine ⟨_, rfl, ?_⟩
  with_reducible repeat' first | exact Kept.refl _ | assumption | apply State.elapse_kept | apply State.autoship_kept | dsimp only

/-! ### ExecFusion -/

theorem execFusionTick_kept (s : State) (dt : Span) : ∃ t, execFusionTick dt s = .next t ∧ Kept s t := by
  refine ⟨_, rfl, ?_⟩
  with_reducible repeat' first | exact Kept.refl _ | assumption | apply State.elapse_kept | apply State.fusionTick_kept | dsimp only

theorem execHeadRunDone_kept (s : State) (dt : Span) : ∃ t, execHeadRunDone dt s = .next t ∧ Kept s t := by
  refine ⟨_, rfl, ?_⟩
  with_reducible repeat' first | exact Kept.refl _ | assumption | apply State.elapse_kept | apply State.headDone_kept | dsimp only

theorem execCellClose_kept (s : State) (dt : Span) : ∃ t, execCellClose dt s = .next t ∧ Kept s t := by
  refine ⟨_, rfl, ?_⟩
  with_reducible repeat' first | exact Kept.refl _ | assumption | apply State.elapse_kept | apply State.cellClose_kept | dsimp only

theorem execEncoderRunDone_kept (s : State) (dt : Span) : ∃ t, execEncoderRunDone dt s = .next t ∧ Kept s t := by
  refine ⟨_, rfl, ?_⟩
  with_reducible repeat' first | exact Kept.refl _ | assumption | apply State.elapse_kept | apply State.encoderDone_kept | dsimp only

theorem execImuFetch_kept (s : State) (dt : Span) (n : Fin 2) : ∃ t, execImuFetch dt n s = .next t ∧ Kept s t := by
  refine ⟨_, rfl, ?_⟩
  with_reducible repeat' first | exact Kept.refl _ | assumption | apply State.elapse_kept | apply State.imuFetch_kept | dsimp only

theorem execImuFetchDone_kept (s : State) (dt : Span) (n : Fin 2) (response : List Byte) : ∃ t, execImuFetchDone dt n response s = .next t ∧ Kept s t := by
  refine ⟨_, rfl, ?_⟩
  with_reducible repeat' first | exact Kept.refl _ | assumption | apply State.elapse_kept | apply State.imuFetchDone_kept | dsimp only

theorem execImuInit_kept (s : State) (dt : Span) (n : Fin 2) (who : Byte) : ∃ t, execImuInit dt n who s = .next t ∧ Kept s t := by
  refine ⟨_, rfl, ?_⟩
  with_reducible repeat' first | exact Kept.refl _ | assumption | apply State.elapse_kept | apply State.imuInit_kept | dsimp only

theorem execFuscalWrite_kept (s : State) (dt : Span) (n : Fin 2) : ∃ t, execFuscalWrite dt n s = .next t ∧ Kept s t := by
  refine ⟨_, rfl, ?_⟩
  with_reducible repeat' first | exact Kept.refl _ | assumption | apply State.elapse_kept | apply State.fuscalTick_kept | dsimp only

theorem execWeightCheck_kept (s : State) (dt : Span) (flips : List (Nat × Byte)) (dense : Bool) (track : Bool) : ∃ t, execWeightCheck dt flips dense track s = .next t ∧ Kept s t := by
  refine ⟨_, rfl, ?_⟩
  with_reducible repeat' first | exact Kept.refl _ | assumption | apply State.elapse_kept | apply State.whileRunning_kept | apply State.weightCheck_kept | dsimp only

theorem execFusionSelftestDone_kept (s : State) (dt : Span) : ∃ t, execFusionSelftestDone dt s = .next t ∧ Kept s t := by
  refine ⟨_, rfl, ?_⟩
  with_reducible repeat' first | exact Kept.refl _ | assumption | apply State.elapse_kept | apply State.whileRunning_kept | apply State.fusionTestDone_kept | dsimp only

theorem execFusionSlotWrite_kept (s : State) (dt : Span) (m : Master) (slot : Fin 32) (value : Word) : ∃ t, execFusionSlotWrite dt m slot value s = .next t ∧ Kept s t := by
  refine ⟨_, rfl, ?_⟩
  with_reducible repeat' first | exact Kept.refl _ | assumption | apply State.elapse_kept | apply State.busWrite_kept | dsimp only

theorem execSlotStale_kept (s : State) (dt : Span) (slot : Fin 32) : ∃ t, execSlotStale dt slot s = .next t ∧ Kept s t := by
  refine ⟨_, rfl, ?_⟩
  with_reducible repeat' first | exact Kept.refl _ | assumption | apply State.elapse_kept | apply State.markStale_kept | dsimp only

/-! ### ExecRind -/

theorem execRindInputChange_kept (s : State) (dt : Span) (changes : List (Fin 6 × InLevel)) (tamper : Option (InLevel × InLevel)) : ∃ t, execRindInputChange dt changes tamper s = .next t ∧ Kept s t := by
  refine ⟨_, rfl, ?_⟩
  with_reducible repeat' first | exact Kept.refl _ | assumption | apply State.elapse_kept | apply State.rindSample_kept | apply State.chargerCheck_kept | dsimp only

theorem execCountWindowClose_kept (s : State) (dt : Span) (k : Fin 16) : ∃ t, execCountWindowClose dt k s = .next t ∧ Kept s t := by
  refine ⟨_, rfl, ?_⟩
  with_reducible repeat' first | exact Kept.refl _ | assumption | apply State.elapse_kept | apply State.windowClose_kept | dsimp only

theorem execHoldoffEnd_kept (s : State) (dt : Span) (k : Fin 16) : ∃ t, execHoldoffEnd dt k s = .next t ∧ Kept s t := by
  refine ⟨_, rfl, ?_⟩
  with_reducible repeat' first | exact Kept.refl _ | assumption | apply State.elapse_kept | apply State.holdoffEnd_kept | dsimp only

theorem execRindFifoDrain_kept (s : State) (dt : Span) : ∃ t, execRindFifoDrain dt s = .next t ∧ Kept s t := by
  refine ⟨_, rfl, ?_⟩
  with_reducible repeat' first | exact Kept.refl _ | assumption | apply State.elapse_kept | apply State.rindDrain_kept | dsimp only

theorem execAlarmEnd_kept (s : State) (dt : Span) : ∃ t, execAlarmEnd dt s = .next t ∧ Kept s t := by
  refine ⟨_, rfl, ?_⟩
  with_reducible repeat' first | exact Kept.refl _ | assumption | apply State.elapse_kept | apply State.alarmEnd_kept | dsimp only

theorem execAlarmToggle_kept (s : State) (dt : Span) : ∃ t, execAlarmToggle dt s = .next t ∧ Kept s t := by
  refine ⟨_, rfl, ?_⟩
  with_reducible repeat' first | exact Kept.refl _ | assumption | apply State.elapse_kept | apply State.alarmToggle_kept | dsimp only

theorem execAlarmStop_kept (s : State) (dt : Span) : ∃ t, execAlarmStop dt s = .next t ∧ Kept s t := by
  refine ⟨_, rfl, ?_⟩
  with_reducible repeat' first | exact Kept.refl _ | assumption | apply State.elapse_kept | apply State.landNow_kept | dsimp only

theorem execLockOpen_kept (s : State) (dt : Span) : ∃ t, execLockOpen dt s = .next t ∧ Kept s t := by
  refine ⟨_, rfl, ?_⟩
  with_reducible repeat' first | exact Kept.refl _ | assumption | apply State.elapse_kept | apply State.landNow_kept | dsimp only

theorem execLockShut_kept (s : State) (dt : Span) : ∃ t, execLockShut dt s = .next t ∧ Kept s t := by
  refine ⟨_, rfl, ?_⟩
  with_reducible repeat' first | exact Kept.refl _ | assumption | apply State.elapse_kept | apply State.landNow_kept | dsimp only

theorem execLockHome_kept (s : State) (dt : Span) : ∃ t, execLockHome dt s = .next t ∧ Kept s t := by
  refine ⟨_, rfl, ?_⟩
  with_reducible repeat' first | exact Kept.refl _ | assumption | apply State.elapse_kept | apply State.landNow_kept | dsimp only

theorem execLockStop_kept (s : State) (dt : Span) : ∃ t, execLockStop dt s = .next t ∧ Kept s t := by
  refine ⟨_, rfl, ?_⟩
  with_reducible repeat' first | exact Kept.refl _ | assumption | apply State.elapse_kept | apply State.landNow_kept | dsimp only

theorem execLockClear_kept (s : State) (dt : Span) : ∃ t, execLockClear dt s = .next t ∧ Kept s t := by
  refine ⟨_, rfl, ?_⟩
  with_reducible repeat' first | exact Kept.refl _ | assumption | apply State.elapse_kept | apply State.landNow_kept | dsimp only

theorem execLockBadkey_kept (s : State) (dt : Span) (value : Word) : ∃ t, execLockBadkey dt value s = .next t ∧ Kept s t := by
  refine ⟨_, rfl, ?_⟩
  with_reducible repeat' first | exact Kept.refl _ | assumption | apply State.elapse_kept | apply State.landNow_kept | refine Kept.ite ?_ ?_ | split | dsimp only

theorem execLimitChange_kept (s : State) (dt : Span) : ∃ t, execLimitChange dt s = .next t ∧ Kept s t := by
  refine ⟨_, rfl, ?_⟩
  with_reducible repeat' first | exact Kept.refl _ | assumption | apply State.elapse_kept | apply State.limitChange_kept | dsimp only

theorem execLockMoveTimeout_kept (s : State) (dt : Span) : ∃ t, execLockMoveTimeout dt s = .next t ∧ Kept s t := by
  refine ⟨_, rfl, ?_⟩
  with_reducible repeat' first | exact Kept.refl _ | assumption | apply State.elapse_kept | apply State.lockTimeout_kept | dsimp only

theorem execLockStall_kept (s : State) (dt : Span) : ∃ t, execLockStall dt s = .next t ∧ Kept s t := by
  refine ⟨_, rfl, ?_⟩
  with_reducible repeat' first | exact Kept.refl _ | assumption | apply State.elapse_kept | apply State.lockStall_kept | dsimp only

theorem execBrakeEnd_kept (s : State) (dt : Span) : ∃ t, execBrakeEnd dt s = .next t ∧ Kept s t := by
  refine ⟨_, rfl, ?_⟩
  with_reducible repeat' first | exact Kept.refl _ | assumption | apply State.elapse_kept | apply State.brakeEnded_kept | dsimp only

/-! ### ExecLife -/

theorem execLcsportChallenge_kept (s : State) (dt : Span) (target : BitVec 8) : ∃ t, execLcsportChallenge dt target s = .next t ∧ Kept s t := by
  refine ⟨_, rfl, ?_⟩
  with_reducible repeat' first | exact Kept.refl _ | assumption | apply State.elapse_kept | apply State.portChallenge_kept | dsimp only

theorem execLcsportReadch_kept (s : State) (dt : Span) (index : BitVec 8) : ∃ t, execLcsportReadch dt index s = .next t ∧ Kept s t := by
  refine ⟨_, rfl, ?_⟩
  with_reducible repeat' first | exact Kept.refl _ | assumption | apply State.elapse_kept | apply State.portReadch_kept | dsimp only

theorem execLcsportLoadr_kept (s : State) (dt : Span) (index : BitVec 8) (value : Word) : ∃ t, execLcsportLoadr dt index value s = .next t ∧ Kept s t := by
  refine ⟨_, rfl, ?_⟩
  with_reducible repeat' first | exact Kept.refl _ | assumption | apply State.elapse_kept | apply State.portLoadr_kept | dsimp only

theorem execLcsportLoads_kept (s : State) (dt : Span) (index : BitVec 8) (value : Word) : ∃ t, execLcsportLoads dt index value s = .next t ∧ Kept s t := by
  refine ⟨_, rfl, ?_⟩
  with_reducible repeat' first | exact Kept.refl _ | assumption | apply State.elapse_kept | apply State.portLoads_kept | dsimp only

theorem execLcsportVerify_kept (s : State) (dt : Span) : ∃ t, execLcsportVerify dt s = .next t ∧ Kept s t := by
  refine ⟨_, rfl, ?_⟩
  with_reducible repeat' first | exact Kept.refl _ | assumption | apply State.elapse_kept | apply State.portVerify_kept | dsimp only

theorem execLcsportGo_kept (s : State) (dt : Span) : ∃ t, execLcsportGo dt s = .next t ∧ Kept s t := by
  refine ⟨_, rfl, ?_⟩
  with_reducible repeat' first | exact Kept.refl _ | assumption | apply State.elapse_kept | apply State.portGo_kept | dsimp only

theorem execLifecycleReset_kept (s : State) (dt : Span) : ∃ t, execLifecycleReset dt s = .next t ∧ Kept s t := by
  refine ⟨_, rfl, ?_⟩
  with_reducible repeat' first | exact Kept.refl _ | assumption | apply State.elapse_kept | apply State.lifecycleReset_kept | dsimp only

theorem execChallengeLapse_kept (s : State) (dt : Span) : ∃ t, execChallengeLapse dt s = .next t ∧ Kept s t := by
  refine ⟨_, rfl, ?_⟩
  with_reducible repeat' first | exact Kept.refl _ | assumption | apply State.elapse_kept | apply State.challengeLapse_kept | dsimp only

theorem execLockoutEnd_kept (s : State) (dt : Span) : ∃ t, execLockoutEnd dt s = .next t ∧ Kept s t := by
  refine ⟨_, rfl, ?_⟩
  with_reducible repeat' first | exact Kept.refl _ | assumption | apply State.elapse_kept | apply State.lockoutEnd_kept | dsimp only

theorem execOpSigkey_kept (s : State) (dt : Span) : ∃ t, execOpSigkey dt s = .next t ∧ Kept s t := by
  refine ⟨_, rfl, ?_⟩
  with_reducible repeat' first | exact Kept.refl _ | assumption | apply State.elapse_kept | apply State.opGoOf_kept | dsimp only

theorem execOpLkey_kept (s : State) (dt : Span) : ∃ t, execOpLkey dt s = .next t ∧ Kept s t := by
  refine ⟨_, rfl, ?_⟩
  with_reducible repeat' first | exact Kept.refl _ | assumption | apply State.elapse_kept | apply State.opGoOf_kept | dsimp only

theorem execOpImgkey_kept (s : State) (dt : Span) : ∃ t, execOpImgkey dt s = .next t ∧ Kept s t := by
  refine ⟨_, rfl, ?_⟩
  with_reducible repeat' first | exact Kept.refl _ | assumption | apply State.elapse_kept | apply State.opGoOf_kept | dsimp only

theorem execOpRevoke_kept (s : State) (dt : Span) : ∃ t, execOpRevoke dt s = .next t ∧ Kept s t := by
  refine ⟨_, rfl, ?_⟩
  with_reducible repeat' first | exact Kept.refl _ | assumption | apply State.elapse_kept | apply State.opGoOf_kept | dsimp only

theorem execOpMinver_kept (s : State) (dt : Span) : ∃ t, execOpMinver dt s = .next t ∧ Kept s t := by
  refine ⟨_, rfl, ?_⟩
  with_reducible repeat' first | exact Kept.refl _ | assumption | apply State.elapse_kept | apply State.opGoOf_kept | dsimp only

theorem execOpStorewrite_kept (s : State) (dt : Span) : ∃ t, execOpStorewrite dt s = .next t ∧ Kept s t := by
  refine ⟨_, rfl, ?_⟩
  with_reducible repeat' first | exact Kept.refl _ | assumption | apply State.elapse_kept | apply State.opGoOf_kept | dsimp only

theorem execOpPolicy_kept (s : State) (dt : Span) : ∃ t, execOpPolicy dt s = .next t ∧ Kept s t := by
  refine ⟨_, rfl, ?_⟩
  with_reducible repeat' first | exact Kept.refl _ | assumption | apply State.elapse_kept | apply State.opGoOf_kept | dsimp only

theorem execLcsOperationDone_kept (s : State) (dt : Span) (fail : Bool) : ∃ t, execLcsOperationDone dt fail s = .next t ∧ Kept s t := by
  refine ⟨_, rfl, ?_⟩
  with_reducible repeat' first | exact Kept.refl _ | assumption | apply State.elapse_kept | apply State.opDone'_kept | dsimp only

theorem execWipependClears_kept (s : State) (dt : Span) : ∃ t, execWipependClears dt s = .next t ∧ Kept s t := by
  refine ⟨_, rfl, ?_⟩
  with_reducible repeat' first | exact Kept.refl _ | assumption | apply State.elapse_kept | apply State.wipeLeft_kept | dsimp only

theorem execDbgacc_kept (s : State) (dt : Span) (write : Bool) (addr : BitVec 24) (value : Word) : ∃ t, execDbgacc dt write addr value s = .next t ∧ Kept s t := by
  refine ⟨_, rfl, ?_⟩
  with_reducible repeat' first | exact Kept.refl _ | assumption | apply State.elapse_kept | apply State.debugAccess_kept | dsimp only

theorem execDebugHalt_kept (s : State) (dt : Span) (halt : Bool) : ∃ t, execDebugHalt dt halt s = .next t ∧ Kept s t := by
  refine ⟨_, rfl, ?_⟩
  with_reducible repeat' first | exact Kept.refl _ | assumption | apply State.elapse_kept | apply State.debugHalt_kept | dsimp only

theorem execMemtest_kept (s : State) (dt : Span) (target : BitVec 4) (alg : BitVec 4) (go : Bool) : ∃ t, execMemtest dt target alg go s = .next t ∧ Kept s t := by
  refine ⟨_, rfl, ?_⟩
  with_reducible repeat' first | exact Kept.refl _ | assumption | apply State.elapse_kept | apply State.memtest_kept | dsimp only

theorem execMemtestDone_kept (s : State) (dt : Span) (failing : Nat) : ∃ t, execMemtestDone dt failing s = .next t ∧ Kept s t := by
  refine ⟨_, rfl, ?_⟩
  with_reducible repeat' first | exact Kept.refl _ | assumption | apply State.elapse_kept | apply State.memtestDone_kept | dsimp only

theorem execDbgrst_kept (s : State) (dt : Span) : ∃ t, execDbgrst dt s = .next t ∧ Kept s t := by
  refine ⟨_, rfl, ?_⟩
  with_reducible repeat' first | exact Kept.refl _ | assumption | apply State.elapse_kept | apply State.debugReset_kept | dsimp only

theorem execTapUpdateIr_kept (s : State) (dt : Span) (code : Option (BitVec 5)) : ∃ t, execTapUpdateIr dt code s = .next t ∧ Kept s t := by
  refine ⟨_, rfl, ?_⟩
  with_reducible repeat' first | exact Kept.refl _ | assumption | apply State.elapse_kept | apply State.tapUpdateIr_kept | dsimp only

theorem execExtestUpdate_kept (s : State) (dt : Span) (cells : List (Nat × Bool)) : ∃ t, execExtestUpdate dt cells s = .next t ∧ Kept s t := by
  refine ⟨_, rfl, ?_⟩
  with_reducible repeat' first | exact Kept.refl _ | assumption | apply State.elapse_kept | apply State.extest_kept | dsimp only

theorem execHealthTempRead_kept (s : State) (dt : Span) (centi : Int) : ∃ t, execHealthTempRead dt centi s = .next t ∧ Kept s t := by
  refine ⟨_, rfl, ?_⟩
  with_reducible repeat' first | exact Kept.refl _ | assumption | apply State.elapse_kept | apply State.healthTemp_kept | dsimp only

theorem execHltClr_kept (s : State) (dt : Span) (m : Master) (value : Word) : ∃ t, execHltClr dt m value s = .next t ∧ Kept s t := by
  refine ⟨_, rfl, ?_⟩
  with_reducible repeat' first | exact Kept.refl _ | assumption | apply State.elapse_kept | apply State.busWrite_kept | dsimp only

theorem execHealthRecordWrite_kept (s : State) (dt : Span) : ∃ t, execHealthRecordWrite dt s = .next t ∧ Kept s t := by
  refine ⟨_, rfl, ?_⟩
  with_reducible repeat' first | exact Kept.refl _ | assumption | apply State.elapse_kept | apply State.healthTick_kept | dsimp only

end Sys2Proof.Machine
end

