-- ==== Sys2Proof/WellFormed.lean ====
section
/-!
DEFINITION. Which commands can occur: the operand values that the spec's own formats allow. The meanings are total and need none of
these checks; a statement that speaks of what the outside can send uses them.
-/

namespace Sys2Proof

/-- The lengths of a CAN FD data field that hold a command's four bytes of header (R122). -/
def frameLengths : List Nat := [4, 5, 6, 7, 8, 12, 16, 20, 24, 32, 48, 64]

/-- The bytes after OP fit a frame. -/
def argsOk (args : List Byte) : Bool := frameLengths.contains (4 + args.length)

/-- The opcodes of Table Link.3. -/
def opcodes : List Nat :=
  [0x01, 0x02, 0x10, 0x11, 0x12, 0x20, 0x21, 0x22, 0x23, 0x30, 0x31, 0x32, 0x33, 0x40, 0x41, 0x50, 0x60, 0x61]

/-- A number of a list stands in it once. -/
def onceEach (l : List Nat) : Bool := l.all (fun a => l.count a == 1)

/-- The codes of a calibration pass: 64 for each ladder point in turn, or fewer when a ladder conversion has timed out. -/
def ladderCodes (low mid high : List (BitVec 16)) : Bool :=
  decide (low.length ≤ 64 ∧ mid.length ≤ 64 ∧ high.length ≤ 64) && (low.length == 64 || mid.isEmpty) && (mid.length == 64 || high.isEmpty)

/-- At most four TCLK pins bring edges. -/
def Span.wf (d : Span) : Bool := decide (d.tclk.length ≤ 4)

/-- The operands are within their formats. -/
def Instr.argsWf : Instr → Bool
  | .ping _ _ a | .reset _ _ a | .read _ _ a | .write _ _ a | .modify _ _ a | .txnOpen _ _ a | .txnCommit _ _ a | .txnAbort _ _ a
  | .txnStatus _ _ a | .imgBegin _ _ a | .imgData _ _ a | .imgEnd _ _ a | .imgAbort _ _ a | .recRead _ _ a | .logRead _ _ a
  | .selftest _ _ a | .lcsChallenge _ _ a | .lcsRespond _ _ a => argsOk a
  | .badOpcode _ _ op a => argsOk a && !opcodes.contains op.toNat
  | .ignoredFrame _ f => ([0, 1, 2, 3] ++ frameLengths).contains f.bytes.length
  | .registerWrite _ _ addr _ => addr.toNat % 4 == 0
  | .dbgacc _ _ _ _ => true
  | .nandOpComplete _ _ l => decide (l.length ≤ 4)
  | .toothEdge _ _ _ level _ => level == .low || level == .high
  | .adcSelftestDone _ _ r => r.low.length == 64 && r.mid.length == 64 && r.high.length == 64
  | .calibrationPassDone _ _ low mid high => ladderCodes low mid high
  | .comparatorEnter _ _ l | .comparatorLeave _ _ l | .comparatorReady _ _ l => decide (1 ≤ l.length ∧ l.length ≤ 16)
  | .recordWrite _ _ _ _ body => decide (1 ≤ body.length ∧ body.length ≤ 8160)
  | .curdDone _ _ _ _ ntc _ => ntc.length == 4
  | .standbyCurd _ _ _ _ ntc => ntc.length == 4
  | .idAttemptDone _ r => decide (r.bytes.length ≤ 9) && decide (r.again.length ≤ 8)
  | .rindInputChange _ l _ => onceEach (l.map (fun p => p.1.val))
  | .extestUpdate _ l => onceEach (l.map Prod.fst)
  | _ => true

/-- The time operand of a command. -/
def Instr.span : Instr → Span
  | .por dt => dt
  | .pinReset dt => dt
  | .bor dt => dt
  | .clockFailure dt => dt
  | .pllLockTimeout dt => dt
  | .vioLow dt => dt
  | .vioRecovered dt => dt
  | .lfCrystalStart dt => dt
  | .lfxfail dt => dt
  | .lfswitch dt => dt
  | .lfcalWindowEnd dt _ => dt
  | .domainReady dt _ => dt
  | .standbyRequest dt _ => dt
  | .shipRequest dt _ => dt
  | .autosbyIdle dt => dt
  | .standbyEntryStepDone dt => dt
  | .entryDmaDrainTimeout dt => dt
  | .ntcPowerAckTimeout dt => dt
  | .standbyEntryTimeout dt => dt
  | .wakeSourceLatch dt _ => dt
  | .runReached dt => dt
  | .shipFailure dt => dt
  | .vaonLoss dt => dt
  | .vdd5Valid dt _ => dt
  | .rstnRelease dt => dt
  | .hostReset dt => dt
  | .nandPowerupWaitEnd dt _ => dt
  | .nandOpComplete dt _ _ => dt
  | .nandTimeout dt => dt
  | .loadCommit dt => dt
  | .modelLoadDone dt => dt
  | .imageRepairEnd dt => dt
  | .ping dt _ _ => dt
  | .reset dt _ _ => dt
  | .read dt _ _ => dt
  | .write dt _ _ => dt
  | .modify dt _ _ => dt
  | .txnOpen dt _ _ => dt
  | .txnCommit dt _ _ => dt
  | .txnAbort dt _ _ => dt
  | .txnStatus dt _ _ => dt
  | .imgBegin dt _ _ => dt
  | .imgData dt _ _ => dt
  | .imgEnd dt _ _ => dt
  | .imgAbort dt _ _ => dt
  | .recRead dt _ _ => dt
  | .logRead dt _ _ => dt
  | .selftest dt _ _ => dt
  | .lcsChallenge dt _ _ => dt
  | .lcsRespond dt _ _ => dt
  | .badOpcode dt _ _ _ => dt
  | .ack dt _ => dt
  | .ignoredFrame dt _ => dt
  | .noticeTransmit dt => dt
  | .goBack dt => dt
  | .linkStale dt => dt
  | .busOff dt => dt
  | .busOffRecovery dt => dt
  | .linkSettingsApply dt => dt
  | .errorPassive dt _ _ => dt
  | .busIntegrationDone dt => dt
  | .registerWrite dt _ _ _ => dt
  | .lfWriteDone dt _ => dt
  | .cfgStageClose dt _ => dt
  | .cfgHoldset dt _ _ => dt
  | .commitPoint dt => dt
  | .commitDmaWaitEnd dt => dt
  | .armTimeout dt => dt
  | .stageTimeout dt => dt
  | .angleSelftestStart dt => dt
  | .angleSelftestEnd dt _ _ => dt
  | .selftestDeferredTimeout dt => dt
  | .adcSelftestDone dt _ _ => dt
  | .inputStuckTimeout dt _ => dt
  | .toothEdge dt _ _ _ _ => dt
  | .standstill dt _ => dt
  | .coastEntry dt _ => dt
  | .wheelDead dt _ => dt
  | .biasCheck dt => dt
  | .biasCheckDone dt _ _ _ _ => dt
  | .snapshot dt _ => dt
  | .eventInsert dt _ _ => dt
  | .eventDue dt _ => dt
  | .pulseEnd dt _ => dt
  | .probeSample dt _ => dt
  | .queueFlush dt _ _ => dt
  | .chopTimedEnd dt _ => dt
  | .deadTimeEnd dt _ => dt
  | .timerRelease dt _ => dt
  | .timerWrap dt _ => dt
  | .timerMatch dt _ _ => dt
  | .timerResetLoad dt _ => dt
  | .timerCapture dt _ _ => dt
  | .tmrSwcap dt _ _ => dt
  | .compareWrite dt _ _ _ _ => dt
  | .compareHighWrite dt _ _ _ _ => dt
  | .timerLatchedRead dt _ _ _ => dt
  | .sequenceTrigger dt _ _ => dt
  | .softwareTrigger dt _ _ => dt
  | .sequenceStop dt _ _ => dt
  | .conversionStart dt _ _ => dt
  | .conversionDone dt _ _ _ _ _ _ => dt
  | .sliceTimeout dt _ _ _ _ => dt
  | .calibrationPassDone dt _ _ _ _ => dt
  | .rotationBoundary dt _ => dt
  | .spareHandover dt _ => dt
  | .comparatorEnter dt _ _ => dt
  | .comparatorLeave dt _ _ => dt
  | .comparatorReady dt _ _ => dt
  | .referenceFault dt _ => dt
  | .dmaStart dt _ => dt
  | .dmaAbort dt _ => dt
  | .dmaResume dt _ => dt
  | .signalDelivery dt _ _ _ => dt
  | .sigclr dt _ _ _ => dt
  | .lvldec dt _ _ _ => dt
  | .tlbInvalidate dt _ => dt
  | .dmaMove dt _ => dt
  | .dmaBeat dt => dt
  | .dmaLoop dt _ => dt
  | .dmaEndloop dt _ => dt
  | .dmaWait dt _ => dt
  | .waitComplete dt _ => dt
  | .dmaSignal dt _ => dt
  | .dmaSet dt _ => dt
  | .dmaEnd dt _ => dt
  | .caveMount dt => dt
  | .mountDone dt => dt
  | .recordWrite dt _ _ _ _ => dt
  | .recordWriteDone dt => dt
  | .logPush dt _ _ => dt
  | .logFlush dt => dt
  | .retentionTick dt => dt
  | .refreshPassPage dt => dt
  | .wearLevelCheck dt => dt
  | .imageCheckDone dt => dt
  | .curdDone dt _ _ _ _ _ => dt
  | .standbyCurd dt _ _ _ _ => dt
  | .curdLost dt => dt
  | .idAttempt dt => dt
  | .idAttemptDone dt _ => dt
  | .idDeadline dt => dt
  | .graceEnd dt => dt
  | .setsoc dt _ _ => dt
  | .socReportStep dt => dt
  | .recordCheckpoint dt => dt
  | .epochTick dt => dt
  | .autoshipRetry dt => dt
  | .fusionTick dt => dt
  | .headRunDone dt => dt
  | .cellClose dt => dt
  | .encoderRunDone dt => dt
  | .imuFetch dt _ => dt
  | .imuFetchDone dt _ _ => dt
  | .imuInit dt _ _ => dt
  | .fuscalWrite dt _ => dt
  | .weightCheck dt _ _ _ => dt
  | .fusionSelftestDone dt => dt
  | .fusionSlotWrite dt _ _ _ => dt
  | .slotStale dt _ => dt
  | .rindInputChange dt _ _ => dt
  | .countWindowClose dt _ => dt
  | .holdoffEnd dt _ => dt
  | .rindFifoDrain dt => dt
  | .alarmEnd dt => dt
  | .alarmToggle dt => dt
  | .alarmStop dt => dt
  | .lockOpen dt => dt
  | .lockShut dt => dt
  | .lockHome dt => dt
  | .lockStop dt => dt
  | .lockClear dt => dt
  | .lockBadkey dt _ => dt
  | .limitChange dt => dt
  | .lockMoveTimeout dt => dt
  | .lockStall dt => dt
  | .brakeEnd dt => dt
  | .lcsportChallenge dt _ => dt
  | .lcsportReadch dt _ => dt
  | .lcsportLoadr dt _ _ => dt
  | .lcsportLoads dt _ _ => dt
  | .lcsportVerify dt => dt
  | .lcsportGo dt => dt
  | .lifecycleReset dt => dt
  | .challengeLapse dt => dt
  | .lockoutEnd dt => dt
  | .opSigkey dt => dt
  | .opLkey dt => dt
  | .opImgkey dt => dt
  | .opRevoke dt => dt
  | .opMinver dt => dt
  | .opStorewrite dt => dt
  | .opPolicy dt => dt
  | .lcsOperationDone dt _ => dt
  | .wipependClears dt => dt
  | .dbgacc dt _ _ _ => dt
  | .debugHalt dt _ => dt
  | .memtest dt _ _ _ => dt
  | .memtestDone dt _ => dt
  | .dbgrst dt => dt
  | .tapUpdateIr dt _ => dt
  | .extestUpdate dt _ => dt
  | .healthTempRead dt _ => dt
  | .hltClr dt _ _ => dt
  | .healthRecordWrite dt => dt

/-- A command that can occur. -/
def Instr.wf (i : Instr) : Bool := i.span.wf && i.argsWf

end Sys2Proof
end

