-- ==== Sys2Proof/Laws/PerInstr.lean ====
section
/-!
SUPPORT. A family of statements made for each command apart: what a well-formed command's time operand may be.
-/

namespace Sys2Proof.Laws

set_option Elab.async false
set_option linter.all false

open Sys2Proof.Machine

/-- A well-formed command's time brings edges on at most the four TCLK pins. -/
def SpanFamily.Statement (i : Instr) : Prop := i.wf = true → i.span.tclk.length ≤ 4

/-- It holds of every command by the one check of the time operand. -/
theorem span_le (i : Instr) : SpanFamily.Statement i := by
  intro h
  unfold Instr.wf at h
  exact of_decide_eq_true (Bool.and_eq_true_iff.1 h).1

theorem SpanFamily.por (dt : Span) : SpanFamily.Statement (.por dt) := span_le _
theorem SpanFamily.pinReset (dt : Span) : SpanFamily.Statement (.pinReset dt) := span_le _
theorem SpanFamily.bor (dt : Span) : SpanFamily.Statement (.bor dt) := span_le _
theorem SpanFamily.clockFailure (dt : Span) : SpanFamily.Statement (.clockFailure dt) := span_le _
theorem SpanFamily.pllLockTimeout (dt : Span) : SpanFamily.Statement (.pllLockTimeout dt) := span_le _
theorem SpanFamily.vioLow (dt : Span) : SpanFamily.Statement (.vioLow dt) := span_le _
theorem SpanFamily.vioRecovered (dt : Span) : SpanFamily.Statement (.vioRecovered dt) := span_le _
theorem SpanFamily.lfCrystalStart (dt : Span) : SpanFamily.Statement (.lfCrystalStart dt) := span_le _
theorem SpanFamily.lfxfail (dt : Span) : SpanFamily.Statement (.lfxfail dt) := span_le _
theorem SpanFamily.lfswitch (dt : Span) : SpanFamily.Statement (.lfswitch dt) := span_le _
theorem SpanFamily.lfcalWindowEnd (dt : Span) (count : Nat) : SpanFamily.Statement (.lfcalWindowEnd dt count) := span_le _
theorem SpanFamily.domainReady (dt : Span) (n : Fin 14) : SpanFamily.Statement (.domainReady dt n) := span_le _
theorem SpanFamily.standbyRequest (dt : Span) (key : BitVec 16) : SpanFamily.Statement (.standbyRequest dt key) := span_le _
theorem SpanFamily.shipRequest (dt : Span) (key : BitVec 16) : SpanFamily.Statement (.shipRequest dt key) := span_le _
theorem SpanFamily.autosbyIdle (dt : Span) : SpanFamily.Statement (.autosbyIdle dt) := span_le _
theorem SpanFamily.standbyEntryStepDone (dt : Span) : SpanFamily.Statement (.standbyEntryStepDone dt) := span_le _
theorem SpanFamily.entryDmaDrainTimeout (dt : Span) : SpanFamily.Statement (.entryDmaDrainTimeout dt) := span_le _
theorem SpanFamily.ntcPowerAckTimeout (dt : Span) : SpanFamily.Statement (.ntcPowerAckTimeout dt) := span_le _
theorem SpanFamily.standbyEntryTimeout (dt : Span) : SpanFamily.Statement (.standbyEntryTimeout dt) := span_le _
theorem SpanFamily.wakeSourceLatch (dt : Span) (wakein : Bool) : SpanFamily.Statement (.wakeSourceLatch dt wakein) := span_le _
theorem SpanFamily.runReached (dt : Span) : SpanFamily.Statement (.runReached dt) := span_le _
theorem SpanFamily.shipFailure (dt : Span) : SpanFamily.Statement (.shipFailure dt) := span_le _
theorem SpanFamily.vaonLoss (dt : Span) : SpanFamily.Statement (.vaonLoss dt) := span_le _
theorem SpanFamily.vdd5Valid (dt : Span) (late : Bool) : SpanFamily.Statement (.vdd5Valid dt late) := span_le _
theorem SpanFamily.rstnRelease (dt : Span) : SpanFamily.Statement (.rstnRelease dt) := span_le _
theorem SpanFamily.hostReset (dt : Span) : SpanFamily.Statement (.hostReset dt) := span_le _
theorem SpanFamily.nandPowerupWaitEnd (dt : Span) (probe : NandProbe) : SpanFamily.Statement (.nandPowerupWaitEnd dt probe) := span_le _
theorem SpanFamily.nandOpComplete (dt : Span) (fail : Bool) (errors : List Nat) : SpanFamily.Statement (.nandOpComplete dt fail errors) := span_le _
theorem SpanFamily.nandTimeout (dt : Span) : SpanFamily.Statement (.nandTimeout dt) := span_le _
theorem SpanFamily.loadCommit (dt : Span) : SpanFamily.Statement (.loadCommit dt) := span_le _
theorem SpanFamily.modelLoadDone (dt : Span) : SpanFamily.Statement (.modelLoadDone dt) := span_le _
theorem SpanFamily.imageRepairEnd (dt : Span) : SpanFamily.Statement (.imageRepairEnd dt) := span_le _
theorem SpanFamily.ping (dt : Span) (seq : BitVec 16) (args : List Byte) : SpanFamily.Statement (.ping dt seq args) := span_le _
theorem SpanFamily.reset (dt : Span) (seq : BitVec 16) (args : List Byte) : SpanFamily.Statement (.reset dt seq args) := span_le _
theorem SpanFamily.read (dt : Span) (seq : BitVec 16) (args : List Byte) : SpanFamily.Statement (.read dt seq args) := span_le _
theorem SpanFamily.write (dt : Span) (seq : BitVec 16) (args : List Byte) : SpanFamily.Statement (.write dt seq args) := span_le _
theorem SpanFamily.modify (dt : Span) (seq : BitVec 16) (args : List Byte) : SpanFamily.Statement (.modify dt seq args) := span_le _
theorem SpanFamily.txnOpen (dt : Span) (seq : BitVec 16) (args : List Byte) : SpanFamily.Statement (.txnOpen dt seq args) := span_le _
theorem SpanFamily.txnCommit (dt : Span) (seq : BitVec 16) (args : List Byte) : SpanFamily.Statement (.txnCommit dt seq args) := span_le _
theorem SpanFamily.txnAbort (dt : Span) (seq : BitVec 16) (args : List Byte) : SpanFamily.Statement (.txnAbort dt seq args) := span_le _
theorem SpanFamily.txnStatus (dt : Span) (seq : BitVec 16) (args : List Byte) : SpanFamily.Statement (.txnStatus dt seq args) := span_le _
theorem SpanFamily.imgBegin (dt : Span) (seq : BitVec 16) (args : List Byte) : SpanFamily.Statement (.imgBegin dt seq args) := span_le _
theorem SpanFamily.imgData (dt : Span) (seq : BitVec 16) (args : List Byte) : SpanFamily.Statement (.imgData dt seq args) := span_le _
theorem SpanFamily.imgEnd (dt : Span) (seq : BitVec 16) (args : List Byte) : SpanFamily.Statement (.imgEnd dt seq args) := span_le _
theorem SpanFamily.imgAbort (dt : Span) (seq : BitVec 16) (args : List Byte) : SpanFamily.Statement (.imgAbort dt seq args) := span_le _
theorem SpanFamily.recRead (dt : Span) (seq : BitVec 16) (args : List Byte) : SpanFamily.Statement (.recRead dt seq args) := span_le _
theorem SpanFamily.logRead (dt : Span) (seq : BitVec 16) (args : List Byte) : SpanFamily.Statement (.logRead dt seq args) := span_le _
theorem SpanFamily.selftest (dt : Span) (seq : BitVec 16) (args : List Byte) : SpanFamily.Statement (.selftest dt seq args) := span_le _
theorem SpanFamily.lcsChallenge (dt : Span) (seq : BitVec 16) (args : List Byte) : SpanFamily.Statement (.lcsChallenge dt seq args) := span_le _
theorem SpanFamily.lcsRespond (dt : Span) (seq : BitVec 16) (args : List Byte) : SpanFamily.Statement (.lcsRespond dt seq args) := span_le _
theorem SpanFamily.badOpcode (dt : Span) (seq : BitVec 16) (op : Byte) (args : List Byte) : SpanFamily.Statement (.badOpcode dt seq op args) := span_le _
theorem SpanFamily.ack (dt : Span) (number : BitVec 16) : SpanFamily.Statement (.ack dt number) := span_le _
theorem SpanFamily.ignoredFrame (dt : Span) (frame : BusFrame) : SpanFamily.Statement (.ignoredFrame dt frame) := span_le _
theorem SpanFamily.noticeTransmit (dt : Span) : SpanFamily.Statement (.noticeTransmit dt) := span_le _
theorem SpanFamily.goBack (dt : Span) : SpanFamily.Statement (.goBack dt) := span_le _
theorem SpanFamily.linkStale (dt : Span) : SpanFamily.Statement (.linkStale dt) := span_le _
theorem SpanFamily.busOff (dt : Span) : SpanFamily.Statement (.busOff dt) := span_le _
theorem SpanFamily.busOffRecovery (dt : Span) : SpanFamily.Statement (.busOffRecovery dt) := span_le _
theorem SpanFamily.linkSettingsApply (dt : Span) : SpanFamily.Statement (.linkSettingsApply dt) := span_le _
theorem SpanFamily.errorPassive (dt : Span) (tec : BitVec 9) (rec : BitVec 8) : SpanFamily.Statement (.errorPassive dt tec rec) := span_le _
theorem SpanFamily.busIntegrationDone (dt : Span) : SpanFamily.Statement (.busIntegrationDone dt) := span_le _
theorem SpanFamily.registerWrite (dt : Span) (m : Master) (addr : BitVec 24) (value : Word) : SpanFamily.Statement (.registerWrite dt m addr value) := span_le _
theorem SpanFamily.lfWriteDone (dt : Span) (block : LfBlock) : SpanFamily.Statement (.lfWriteDone dt block) := span_le _
theorem SpanFamily.cfgStageClose (dt : Span) (m : Master) : SpanFamily.Statement (.cfgStageClose dt m) := span_le _
theorem SpanFamily.cfgHoldset (dt : Span) (m : Master) (mask : Word) : SpanFamily.Statement (.cfgHoldset dt m mask) := span_le _
theorem SpanFamily.commitPoint (dt : Span) : SpanFamily.Statement (.commitPoint dt) := span_le _
theorem SpanFamily.commitDmaWaitEnd (dt : Span) : SpanFamily.Statement (.commitDmaWaitEnd dt) := span_le _
theorem SpanFamily.armTimeout (dt : Span) : SpanFamily.Statement (.armTimeout dt) := span_le _
theorem SpanFamily.stageTimeout (dt : Span) : SpanFamily.Statement (.stageTimeout dt) := span_le _
theorem SpanFamily.angleSelftestStart (dt : Span) : SpanFamily.Statement (.angleSelftestStart dt) := span_le _
theorem SpanFamily.angleSelftestEnd (dt : Span) (pass : Bool) (detail : Word) : SpanFamily.Statement (.angleSelftestEnd dt pass detail) := span_le _
theorem SpanFamily.selftestDeferredTimeout (dt : Span) : SpanFamily.Statement (.selftestDeferredTimeout dt) := span_le _
theorem SpanFamily.adcSelftestDone (dt : Span) (x : Conv) (readings : AdcTest) : SpanFamily.Statement (.adcSelftestDone dt x readings) := span_le _
theorem SpanFamily.inputStuckTimeout (dt : Span) (input : Fin 14) : SpanFamily.Statement (.inputStuckTimeout dt input) := span_le _
theorem SpanFamily.toothEdge (dt : Span) (w : Fin 4) (onB : Bool) (level : InLevel) (peak : Nat) : SpanFamily.Statement (.toothEdge dt w onB level peak) := span_le _
theorem SpanFamily.standstill (dt : Span) (w : Fin 4) : SpanFamily.Statement (.standstill dt w) := span_le _
theorem SpanFamily.coastEntry (dt : Span) (w : Fin 4) : SpanFamily.Statement (.coastEntry dt w) := span_le _
theorem SpanFamily.wheelDead (dt : Span) (w : Fin 4) : SpanFamily.Statement (.wheelDead dt w) := span_le _
theorem SpanFamily.biasCheck (dt : Span) : SpanFamily.Statement (.biasCheck dt) := span_le _
theorem SpanFamily.biasCheckDone (dt : Span) (plus : LegReading) (minus : LegReading) (idle : LegReading) (rail : RailReading) : SpanFamily.Statement (.biasCheckDone dt plus minus idle rail) := span_le _
theorem SpanFamily.snapshot (dt : Span) (m : Master) : SpanFamily.Statement (.snapshot dt m) := span_le _
theorem SpanFamily.eventInsert (dt : Span) (m : Master) (ctl : Word) : SpanFamily.Statement (.eventInsert dt m ctl) := span_le _
theorem SpanFamily.eventDue (dt : Span) (n : Fin 32) : SpanFamily.Statement (.eventDue dt n) := span_le _
theorem SpanFamily.pulseEnd (dt : Span) (n : Fin 32) : SpanFamily.Statement (.pulseEnd dt n) := span_le _
theorem SpanFamily.probeSample (dt : Span) (n : Fin 32) : SpanFamily.Statement (.probeSample dt n) := span_le _
theorem SpanFamily.queueFlush (dt : Span) (m : Master) (mask : Word) : SpanFamily.Statement (.queueFlush dt m mask) := span_le _
theorem SpanFamily.chopTimedEnd (dt : Span) (n : Fin 32) : SpanFamily.Statement (.chopTimedEnd dt n) := span_le _
theorem SpanFamily.deadTimeEnd (dt : Span) (k : Fin 16) : SpanFamily.Statement (.deadTimeEnd dt k) := span_le _
theorem SpanFamily.timerRelease (dt : Span) (mask : BitVec 16) : SpanFamily.Statement (.timerRelease dt mask) := span_le _
theorem SpanFamily.timerWrap (dt : Span) (n : Fin 16) : SpanFamily.Statement (.timerWrap dt n) := span_le _
theorem SpanFamily.timerMatch (dt : Span) (n : Fin 16) (chanB : Bool) : SpanFamily.Statement (.timerMatch dt n chanB) := span_le _
theorem SpanFamily.timerResetLoad (dt : Span) (n : Fin 16) : SpanFamily.Statement (.timerResetLoad dt n) := span_le _
theorem SpanFamily.timerCapture (dt : Span) (n : Fin 16) (pin : Option Bool) : SpanFamily.Statement (.timerCapture dt n pin) := span_le _
theorem SpanFamily.tmrSwcap (dt : Span) (m : Master) (mask : BitVec 16) : SpanFamily.Statement (.tmrSwcap dt m mask) := span_le _
theorem SpanFamily.compareWrite (dt : Span) (m : Master) (n : Fin 16) (chanB : Bool) (value : Word) : SpanFamily.Statement (.compareWrite dt m n chanB value) := span_le _
theorem SpanFamily.compareHighWrite (dt : Span) (m : Master) (n : Fin 16) (chanB : Bool) (value : Word) : SpanFamily.Statement (.compareHighWrite dt m n chanB value) := span_le _
theorem SpanFamily.timerLatchedRead (dt : Span) (m : Master) (n : Fin 16) (cap : Bool) : SpanFamily.Statement (.timerLatchedRead dt m n cap) := span_le _
theorem SpanFamily.sequenceTrigger (dt : Span) (x : Conv) (inj : Bool) : SpanFamily.Statement (.sequenceTrigger dt x inj) := span_le _
theorem SpanFamily.softwareTrigger (dt : Span) (m : Master) (mask : BitVec 4) : SpanFamily.Statement (.softwareTrigger dt m mask) := span_le _
theorem SpanFamily.sequenceStop (dt : Span) (m : Master) (mask : BitVec 4) : SpanFamily.Statement (.sequenceStop dt m mask) := span_le _
theorem SpanFamily.conversionStart (dt : Span) (x : Conv) (inj : Bool) : SpanFamily.Statement (.conversionStart dt x inj) := span_le _
theorem SpanFamily.conversionDone (dt : Span) (x : Conv) (slice : Fin 9) (raw : BitVec 16) (excess : Bool) (rawP : BitVec 16) (excessP : Bool) : SpanFamily.Statement (.conversionDone dt x slice raw excess rawP excessP) := span_le _
theorem SpanFamily.sliceTimeout (dt : Span) (x : Conv) (slice : Fin 9) (rawP : BitVec 16) (excessP : Bool) : SpanFamily.Statement (.sliceTimeout dt x slice rawP excessP) := span_le _
theorem SpanFamily.calibrationPassDone (dt : Span) (x : Conv) (low : List (BitVec 16)) (mid : List (BitVec 16)) (high : List (BitVec 16)) : SpanFamily.Statement (.calibrationPassDone dt x low mid high) := span_le _
theorem SpanFamily.rotationBoundary (dt : Span) (x : Conv) : SpanFamily.Statement (.rotationBoundary dt x) := span_le _
theorem SpanFamily.spareHandover (dt : Span) (x : Conv) : SpanFamily.Statement (.spareHandover dt x) := span_le _
theorem SpanFamily.comparatorEnter (dt : Span) (c : Fin 16) (samples : List Int) : SpanFamily.Statement (.comparatorEnter dt c samples) := span_le _
theorem SpanFamily.comparatorLeave (dt : Span) (c : Fin 16) (samples : List Int) : SpanFamily.Statement (.comparatorLeave dt c samples) := span_le _
theorem SpanFamily.comparatorReady (dt : Span) (c : Fin 16) (samples : List Int) : SpanFamily.Statement (.comparatorReady dt c samples) := span_le _
theorem SpanFamily.referenceFault (dt : Span) (x : Conv) : SpanFamily.Statement (.referenceFault dt x) := span_le _
theorem SpanFamily.dmaStart (dt : Span) (n : Fin 16) : SpanFamily.Statement (.dmaStart dt n) := span_le _
theorem SpanFamily.dmaAbort (dt : Span) (n : Fin 16) : SpanFamily.Statement (.dmaAbort dt n) := span_le _
theorem SpanFamily.dmaResume (dt : Span) (n : Fin 16) : SpanFamily.Statement (.dmaResume dt n) := span_le _
theorem SpanFamily.signalDelivery (dt : Span) (m : Master) (n : Fin 16) (mask : BitVec 16) : SpanFamily.Statement (.signalDelivery dt m n mask) := span_le _
theorem SpanFamily.sigclr (dt : Span) (m : Master) (n : Fin 16) (mask : BitVec 16) : SpanFamily.Statement (.sigclr dt m n mask) := span_le _
theorem SpanFamily.lvldec (dt : Span) (m : Master) (n : Fin 16) (amount : BitVec 16) : SpanFamily.Statement (.lvldec dt m n amount) := span_le _
theorem SpanFamily.tlbInvalidate (dt : Span) (value : Word) : SpanFamily.Statement (.tlbInvalidate dt value) := span_le _
theorem SpanFamily.dmaMove (dt : Span) (n : Fin 16) : SpanFamily.Statement (.dmaMove dt n) := span_le _
theorem SpanFamily.dmaBeat (dt : Span) : SpanFamily.Statement (.dmaBeat dt) := span_le _
theorem SpanFamily.dmaLoop (dt : Span) (n : Fin 16) : SpanFamily.Statement (.dmaLoop dt n) := span_le _
theorem SpanFamily.dmaEndloop (dt : Span) (n : Fin 16) : SpanFamily.Statement (.dmaEndloop dt n) := span_le _
theorem SpanFamily.dmaWait (dt : Span) (n : Fin 16) : SpanFamily.Statement (.dmaWait dt n) := span_le _
theorem SpanFamily.waitComplete (dt : Span) (n : Fin 16) : SpanFamily.Statement (.waitComplete dt n) := span_le _
theorem SpanFamily.dmaSignal (dt : Span) (n : Fin 16) : SpanFamily.Statement (.dmaSignal dt n) := span_le _
theorem SpanFamily.dmaSet (dt : Span) (n : Fin 16) : SpanFamily.Statement (.dmaSet dt n) := span_le _
theorem SpanFamily.dmaEnd (dt : Span) (n : Fin 16) : SpanFamily.Statement (.dmaEnd dt n) := span_le _
theorem SpanFamily.caveMount (dt : Span) : SpanFamily.Statement (.caveMount dt) := span_le _
theorem SpanFamily.mountDone (dt : Span) : SpanFamily.Statement (.mountDone dt) := span_le _
theorem SpanFamily.recordWrite (dt : Span) (kind : BitVec 8) (index : BitVec 16) (version : BitVec 8) (body : List Byte) : SpanFamily.Statement (.recordWrite dt kind index version body) := span_le _
theorem SpanFamily.recordWriteDone (dt : Span) : SpanFamily.Statement (.recordWriteDone dt) := span_le _
theorem SpanFamily.logPush (dt : Span) (m : Master) (ctl : Word) : SpanFamily.Statement (.logPush dt m ctl) := span_le _
theorem SpanFamily.logFlush (dt : Span) : SpanFamily.Statement (.logFlush dt) := span_le _
theorem SpanFamily.retentionTick (dt : Span) : SpanFamily.Statement (.retentionTick dt) := span_le _
theorem SpanFamily.refreshPassPage (dt : Span) : SpanFamily.Statement (.refreshPassPage dt) := span_le _
theorem SpanFamily.wearLevelCheck (dt : Span) : SpanFamily.Statement (.wearLevelCheck dt) := span_le _
theorem SpanFamily.imageCheckDone (dt : Span) : SpanFamily.Statement (.imageCheckDone dt) := span_le _
theorem SpanFamily.curdDone (dt : Span) (vpack : Nat) (code : BitVec 24) (excess : Bool) (ntc : List Nat) (age : Nat) : SpanFamily.Statement (.curdDone dt vpack code excess ntc age) := span_le _
theorem SpanFamily.standbyCurd (dt : Span) (vpack : Nat) (code : BitVec 24) (excess : Bool) (ntc : List Nat) : SpanFamily.Statement (.standbyCurd dt vpack code excess ntc) := span_le _
theorem SpanFamily.curdLost (dt : Span) : SpanFamily.Statement (.curdLost dt) := span_le _
theorem SpanFamily.idAttempt (dt : Span) : SpanFamily.Statement (.idAttempt dt) := span_le _
theorem SpanFamily.idAttemptDone (dt : Span) (reading : IdReading) : SpanFamily.Statement (.idAttemptDone dt reading) := span_le _
theorem SpanFamily.idDeadline (dt : Span) : SpanFamily.Statement (.idDeadline dt) := span_le _
theorem SpanFamily.graceEnd (dt : Span) : SpanFamily.Statement (.graceEnd dt) := span_le _
theorem SpanFamily.setsoc (dt : Span) (m : Master) (value : Word) : SpanFamily.Statement (.setsoc dt m value) := span_le _
theorem SpanFamily.socReportStep (dt : Span) : SpanFamily.Statement (.socReportStep dt) := span_le _
theorem SpanFamily.recordCheckpoint (dt : Span) : SpanFamily.Statement (.recordCheckpoint dt) := span_le _
theorem SpanFamily.epochTick (dt : Span) : SpanFamily.Statement (.epochTick dt) := span_le _
theorem SpanFamily.autoshipRetry (dt : Span) : SpanFamily.Statement (.autoshipRetry dt) := span_le _
theorem SpanFamily.fusionTick (dt : Span) : SpanFamily.Statement (.fusionTick dt) := span_le _
theorem SpanFamily.headRunDone (dt : Span) : SpanFamily.Statement (.headRunDone dt) := span_le _
theorem SpanFamily.cellClose (dt : Span) : SpanFamily.Statement (.cellClose dt) := span_le _
theorem SpanFamily.encoderRunDone (dt : Span) : SpanFamily.Statement (.encoderRunDone dt) := span_le _
theorem SpanFamily.imuFetch (dt : Span) (n : Fin 2) : SpanFamily.Statement (.imuFetch dt n) := span_le _
theorem SpanFamily.imuFetchDone (dt : Span) (n : Fin 2) (response : List Byte) : SpanFamily.Statement (.imuFetchDone dt n response) := span_le _
theorem SpanFamily.imuInit (dt : Span) (n : Fin 2) (who : Byte) : SpanFamily.Statement (.imuInit dt n who) := span_le _
theorem SpanFamily.fuscalWrite (dt : Span) (n : Fin 2) : SpanFamily.Statement (.fuscalWrite dt n) := span_le _
theorem SpanFamily.weightCheck (dt : Span) (flips : List (Nat × Byte)) (dense : Bool) (track : Bool) : SpanFamily.Statement (.weightCheck dt flips dense track) := span_le _
theorem SpanFamily.fusionSelftestDone (dt : Span) : SpanFamily.Statement (.fusionSelftestDone dt) := span_le _
theorem SpanFamily.fusionSlotWrite (dt : Span) (m : Master) (slot : Fin 32) (value : Word) : SpanFamily.Statement (.fusionSlotWrite dt m slot value) := span_le _
theorem SpanFamily.slotStale (dt : Span) (slot : Fin 32) : SpanFamily.Statement (.slotStale dt slot) := span_le _
theorem SpanFamily.rindInputChange (dt : Span) (changes : List (Fin 6 × InLevel)) (tamper : Option (InLevel × InLevel)) : SpanFamily.Statement (.rindInputChange dt changes tamper) := span_le _
theorem SpanFamily.countWindowClose (dt : Span) (k : Fin 16) : SpanFamily.Statement (.countWindowClose dt k) := span_le _
theorem SpanFamily.holdoffEnd (dt : Span) (k : Fin 16) : SpanFamily.Statement (.holdoffEnd dt k) := span_le _
theorem SpanFamily.rindFifoDrain (dt : Span) : SpanFamily.Statement (.rindFifoDrain dt) := span_le _
theorem SpanFamily.alarmEnd (dt : Span) : SpanFamily.Statement (.alarmEnd dt) := span_le _
theorem SpanFamily.alarmToggle (dt : Span) : SpanFamily.Statement (.alarmToggle dt) := span_le _
theorem SpanFamily.alarmStop (dt : Span) : SpanFamily.Statement (.alarmStop dt) := span_le _
theorem SpanFamily.lockOpen (dt : Span) : SpanFamily.Statement (.lockOpen dt) := span_le _
theorem SpanFamily.lockShut (dt : Span) : SpanFamily.Statement (.lockShut dt) := span_le _
theorem SpanFamily.lockHome (dt : Span) : SpanFamily.Statement (.lockHome dt) := span_le _
theorem SpanFamily.lockStop (dt : Span) : SpanFamily.Statement (.lockStop dt) := span_le _
theorem SpanFamily.lockClear (dt : Span) : SpanFamily.Statement (.lockClear dt) := span_le _
theorem SpanFamily.lockBadkey (dt : Span) (value : Word) : SpanFamily.Statement (.lockBadkey dt value) := span_le _
theorem SpanFamily.limitChange (dt : Span) : SpanFamily.Statement (.limitChange dt) := span_le _
theorem SpanFamily.lockMoveTimeout (dt : Span) : SpanFamily.Statement (.lockMoveTimeout dt) := span_le _
theorem SpanFamily.lockStall (dt : Span) : SpanFamily.Statement (.lockStall dt) := span_le _
theorem SpanFamily.brakeEnd (dt : Span) : SpanFamily.Statement (.brakeEnd dt) := span_le _
theorem SpanFamily.lcsportChallenge (dt : Span) (target : BitVec 8) : SpanFamily.Statement (.lcsportChallenge dt target) := span_le _
theorem SpanFamily.lcsportReadch (dt : Span) (index : BitVec 8) : SpanFamily.Statement (.lcsportReadch dt index) := span_le _
theorem SpanFamily.lcsportLoadr (dt : Span) (index : BitVec 8) (value : Word) : SpanFamily.Statement (.lcsportLoadr dt index value) := span_le _
theorem SpanFamily.lcsportLoads (dt : Span) (index : BitVec 8) (value : Word) : SpanFamily.Statement (.lcsportLoads dt index value) := span_le _
theorem SpanFamily.lcsportVerify (dt : Span) : SpanFamily.Statement (.lcsportVerify dt) := span_le _
theorem SpanFamily.lcsportGo (dt : Span) : SpanFamily.Statement (.lcsportGo dt) := span_le _
theorem SpanFamily.lifecycleReset (dt : Span) : SpanFamily.Statement (.lifecycleReset dt) := span_le _
theorem SpanFamily.challengeLapse (dt : Span) : SpanFamily.Statement (.challengeLapse dt) := span_le _
theorem SpanFamily.lockoutEnd (dt : Span) : SpanFamily.Statement (.lockoutEnd dt) := span_le _
theorem SpanFamily.opSigkey (dt : Span) : SpanFamily.Statement (.opSigkey dt) := span_le _
theorem SpanFamily.opLkey (dt : Span) : SpanFamily.Statement (.opLkey dt) := span_le _
theorem SpanFamily.opImgkey (dt : Span) : SpanFamily.Statement (.opImgkey dt) := span_le _
theorem SpanFamily.opRevoke (dt : Span) : SpanFamily.Statement (.opRevoke dt) := span_le _
theorem SpanFamily.opMinver (dt : Span) : SpanFamily.Statement (.opMinver dt) := span_le _
theorem SpanFamily.opStorewrite (dt : Span) : SpanFamily.Statement (.opStorewrite dt) := span_le _
theorem SpanFamily.opPolicy (dt : Span) : SpanFamily.Statement (.opPolicy dt) := span_le _
theorem SpanFamily.lcsOperationDone (dt : Span) (fail : Bool) : SpanFamily.Statement (.lcsOperationDone dt fail) := span_le _
theorem SpanFamily.wipependClears (dt : Span) : SpanFamily.Statement (.wipependClears dt) := span_le _
theorem SpanFamily.dbgacc (dt : Span) (write : Bool) (addr : BitVec 24) (value : Word) : SpanFamily.Statement (.dbgacc dt write addr value) := span_le _
theorem SpanFamily.debugHalt (dt : Span) (halt : Bool) : SpanFamily.Statement (.debugHalt dt halt) := span_le _
theorem SpanFamily.memtest (dt : Span) (target : BitVec 4) (alg : BitVec 4) (go : Bool) : SpanFamily.Statement (.memtest dt target alg go) := span_le _
theorem SpanFamily.memtestDone (dt : Span) (failing : Nat) : SpanFamily.Statement (.memtestDone dt failing) := span_le _
theorem SpanFamily.dbgrst (dt : Span) : SpanFamily.Statement (.dbgrst dt) := span_le _
theorem SpanFamily.tapUpdateIr (dt : Span) (code : Option (BitVec 5)) : SpanFamily.Statement (.tapUpdateIr dt code) := span_le _
theorem SpanFamily.extestUpdate (dt : Span) (cells : List (Nat × Bool)) : SpanFamily.Statement (.extestUpdate dt cells) := span_le _
theorem SpanFamily.healthTempRead (dt : Span) (centi : Int) : SpanFamily.Statement (.healthTempRead dt centi) := span_le _
theorem SpanFamily.hltClr (dt : Span) (m : Master) (value : Word) : SpanFamily.Statement (.hltClr dt m value) := span_le _
theorem SpanFamily.healthRecordWrite (dt : Span) : SpanFamily.Statement (.healthRecordWrite dt) := span_le _

end Sys2Proof.Laws
end

