-- ==== Sys2Proof/Machine/Pins.lean ====
section
/-!
DEFINITION. What the digital output balls show (19_package_pins.md, R600 to R603, R613, R614): functions of the state, since every ball
follows from registers and engines that State holds.
-/

namespace Sys2Proof.Machine

/-- What a ball does: it drives a level, or it is at high impedance with its internal pull on, or with the pull off. -/
inductive Ball where
  | drives (high : Bool)
  | pulled
  | floating
deriving DecidableEq, Repr

/-- A VIO pad: floating below the VIO threshold, its reset state or its own drive otherwise (R614). -/
def State.vioPad (s : State) (b : Ball) : Ball :=
  if s.power.phase = .unpowered ∨ s.power.vioOk = false then .floating else b

/-- EXTEST drives a ball from its boundary cell; another instruction, and a cell not yet shifted, leave the ball as it is (R613). -/
def State.extestOr (s : State) (cell : Nat) (b : Ball) : Ball :=
  if s.jtagAt 0 then (match s.jtag.boundary.find? (fun p => p.1 == cell) with
    | some p => .drives p.2
    | none => b) else b

/-- EVOn: the logical level XOR POL, while the output is driven and PINEN is 1, outside the hold of VIO low; else the reset state (R73,
R263, R285, R601). Its boundary
cell is number n (log entry 61). -/
def State.evoBall (s : State) (n : Fin 32) : Ball :=
  let o := s.outs[n]
  let on := s.running && s.bit (evoBase n) 15 && s.bit (evoBase n) 8 && s.isDriven n && !o.holdVio
  s.vioPad (s.extestOr n.val (if on then .drives (o.lvl != s.bit (evoBase n) 6) else .pulled))

/-- LOCKA and LOCKB: the drive code while the bridge is served and EN is 1, else the reset state, which reads as COAST (R531, R600); in
recovery mode the reset state too (R112). Their boundary cells are 32 and 33. -/
def State.lockBalls (s : State) : Ball × Ball :=
  let own := s.running && s.boot.loaded && s.bit 0xE000C 31
  let p := s.lockPins
  (s.vioPad (s.extestOr 32 (if own then .drives p.1 else .pulled)), s.vioPad (s.extestOr 33 (if own then .drives p.2 else .pulled)))

/-- ATTN: open drain, low by R145, else released. Its boundary cell is 34. -/
def State.attnBall (s : State) : Ball := s.vioPad (s.extestOr 34 (if s.attnLow then .drives false else .floating))

/-- A PD0 ball, which no VIO feeds; in SHIP no ball drives (R603). -/
def State.pd0Ball (s : State) (cell : Nat) (level : Bool) : Ball :=
  if s.power.phase = .unpowered then .floating else s.extestOr cell (.drives level)

/-- ALARM, MAINEN and SHIPOFF (R62, R76, R530), with the boundary cells 35 to 37. -/
def State.alarmBall (s : State) : Ball := s.pd0Ball 35 s.alarmPin
def State.mainenBall (s : State) : Ball := s.pd0Ball 36 s.power.mainen
def State.shipoffBall (s : State) : Ball := s.pd0Ball 37 s.power.shipoff

/-- An output ball of a bus controller between transfers, each of which is one command here: its idle level while the part is running or
starting up, held by its own pull in STANDBY (Table Pins.3). -/
def State.idleBall (s : State) (cell : Nat) (level : Bool) : Ball :=
  s.vioPad (s.extestOr cell (if s.power.phase = .standby then .pulled else .drives level))

/-- CTXD, NSCK, NCSN, SPMOSI, SPCS0 and SPCS1 between frames and transfers, with the boundary cells 38 to 43. -/
def State.ctxdBall (s : State) : Ball := s.idleBall 38 true
def State.nsckBall (s : State) : Ball := s.idleBall 39 false
def State.ncsnBall (s : State) : Ball := s.idleBall 40 true
def State.spmosiBall (s : State) : Ball := s.idleBall 41 false
def State.spcsBall (s : State) (n : Fin 2) : Ball := s.idleBall (42 + n.val) true

/-- SPSCK between transfers idles at the level of MODE (R494, R600), with the boundary cell 45; where the two sensors' MODE differ the manual
gives no level between the transfers of one and the other. -/
def State.spsckBall (s : State) : Option Ball :=
  let m := fun (n : Nat) => s.bit (0xC0200 + 0x80 * n) 27
  if m 0 = m 1 ∨ s.power.phase = .standby then some (s.idleBall 45 (m 0)) else none

/-- TAMPO: high and low in turn within a sample window, low while TAMPEN is 0 (R521), with the boundary cell 44. -/
def State.tampoBall (s : State) : Ball := s.pd0Ball 44 s.tampoHigh

/-- TDO: at high impedance while PD1 is off; else it follows the shift, which is one command (R565). -/
def State.tdoBall (s : State) : Option Ball := if s.tapOn then none else some .floating

/-- The level that a ball drives. -/
def Ball.level : Ball → Option Bool
  | .drives h => some h
  | .pulled => none
  | .floating => none

/-- What SAMPLE captures of the output balls that drive a level, by cell (R565, log entries 61 and 151). -/
def State.sampled (s : State) : List (Nat × Bool) :=
  let fixed : List (Nat × Ball) := [(32, s.lockBalls.1), (33, s.lockBalls.2), (34, s.attnBall), (35, s.alarmBall), (36, s.mainenBall),
    (37, s.shipoffBall), (38, s.ctxdBall), (39, s.nsckBall), (40, s.ncsnBall), (41, s.spmosiBall), (42, s.spcsBall 0), (43, s.spcsBall 1),
    (44, s.tampoBall)]
  ((List.finRange 32).map (fun (n : Fin 32) => (n.val, s.evoBall n)) ++ fixed).filterMap (fun p => p.2.level.map (fun h => (p.1, h)))

end Sys2Proof.Machine
end

