-- ==== Sys2Proof/Tests/Slice0.lean ====
section
/-!
SUPPORT. Tests: an ill-formed command for each check of WellFormed, the worked cases of the spec, sample states, and for every statement
a state that meets its conditions. Every expected result stands in the spec at the place that the docstring names.
-/

namespace Sys2Proof.Tests

open Sys2Proof Sys2Proof.Machine
set_option Elab.async false
set_option linter.all false

/-! ### Ill-formed commands -/

/-- No time passed. -/
def t0 : Span := { ang := 0, lf := 0 }

theorem test_wf_span : (Instr.por { t0 with tclk := [(1, 0), (1, 0), (1, 0), (1, 0), (1, 0)] }).wf = false := by decide
theorem test_wf_good : (Instr.por t0).wf = true ∧ (Instr.ping t0 7 []).wf = true := by decide
theorem test_wf_frameLength : (Instr.ping t0 7 (List.replicate 5 0)).wf = false := by decide
theorem test_wf_badOpcode : (Instr.badOpcode t0 7 0x10 []).wf = false := by decide
theorem test_wf_ignoredFrame :
    (Instr.ignoredFrame t0 { ident := 0x100, ext := false, fd := true, remote := false, bytes := List.replicate 9 0 }).wf = false := by decide
theorem test_wf_registerWrite : (Instr.registerWrite t0 .link 0x40002 0).wf = false := by decide
theorem test_wf_nandOpComplete : (Instr.nandOpComplete t0 false [0, 0, 0, 0, 0]).wf = false := by decide
theorem test_wf_toothEdge : (Instr.toothEdge t0 0 false .unknown 0).wf = false := by decide
theorem test_wf_adcSelftestDone :
    (Instr.adcSelftestDone t0 .adcA { low := [], mid := List.replicate 64 0, high := List.replicate 64 0, vdd5 := 0, vio := 0, vaon := 0, refer := 0 }).wf = false := by decide
theorem test_wf_calibrationPassDone : (Instr.calibrationPassDone t0 .adcA [0] [0] []).wf = false := by decide
theorem test_wf_comparator :
    (Instr.comparatorEnter t0 0 []).wf = false ∧ (Instr.comparatorLeave t0 0 []).wf = false ∧
    (Instr.comparatorReady t0 0 (List.replicate 17 0)).wf = false := by decide
theorem test_wf_recordWrite : (Instr.recordWrite t0 3 0 1 []).wf = false := by decide
theorem test_wf_curd : (Instr.curdDone t0 0 0 false [0, 0, 0] 0).wf = false ∧ (Instr.standbyCurd t0 0 0 false []).wf = false := by decide
theorem test_wf_idAttempt :
    (Instr.idAttemptDone t0 { nack := false, bytes := List.replicate 10 0, again := [] }).wf = false := by decide
theorem test_wf_rindInput : (Instr.rindInputChange t0 [(0, .high), (0, .low)] none).wf = false := by decide
theorem test_wf_extest : (Instr.extestUpdate t0 [(3, true), (3, false)]).wf = false := by decide
/-- The opcode table gives its rows no bits, so no word spells a command. -/
theorem test_decode_none : decodeTableWord 8 0x01 = none := by decide

/-! ### Worked cases of the spec -/

/-- R93: the CRC-32 of the string 123456789. -/
theorem test_crc32 : crc32 [0x31, 0x32, 0x33, 0x34, 0x35, 0x36, 0x37, 0x38, 0x39] = 0xCBF43926 := by decide +kernel
/-- R467: the CRC-8 of the string 123456789. -/
theorem test_crc8 : crc8 [0x31, 0x32, 0x33, 0x34, 0x35, 0x36, 0x37, 0x38, 0x39] = 0xF7 := by decide +kernel
/-- A phase-current reading (10_converters.md): DATA 0x1FCE, OVR 0. -/
theorem test_phaseCurrent : (correct 41000 2400 3146 0x3 0xFD71FFEC false).data = 0x1FCE ∧ (correct 41000 2400 3146 0x3 0xFD71FFEC false).ovr = false := by
  decide +kernel
/-- The same reading with PREC 2 (10_converters.md): 509. -/
theorem test_phaseCurrent12 : (correct 41000 2400 3146 0x23 0xFD71FFEC false).data = 0x01FD := by decide +kernel
/-- A curb strike (15_fusion.md): the element 81 and the confidence 53,713. -/
theorem test_requant :
    requant { op := 1, act := 0, in0 := 0, in1 := 0, out := 0, w := 0, b := 0, mul := 1518500250, shift := 38, k := 0, stride := 0, zeros := true }
      (-20) 18350 = 81 := by decide +kernel
theorem test_confidence : confidence [0, 81] 1 = 53713 := by decide


/-! ### Sample states -/

/-- Some register words of a state set, in order. -/
def withRegs (s : State) (l : List (Nat × Word)) : State := l.foldl (fun s p => s.setReg p.1 p.2) s

/-- The moment of a state, with no time passed. -/
def now (s : State) : State := s.elapse { ang := 0, lf := 0 }

/-- RUN: the image is loaded, every domain is ready, the link is online and nothing waits. -/
def stRun : State :=
  { State.reset with
    power := { phase := .run, domRdy := 0x3FFF, vdd5Ok := true }, boot := { stage := .loaded, loaded := true }
    link := { can := .errorActive }, life := { state := .factory }, now := 200000000, lf := 20000 }
def stStartup : State := { stRun with power := { stRun.power with phase := .startup } }

/-! Power and resets. -/
def stWaking : State := { stRun with power := { phase := .waking } }
def stCrystalEarly : State := { stRun with power := { stRun.power with porLf := 10000 } }
def stWakeLost : State := { stRun with power := { phase := .waking, pllTries := 3 } }
def stWaking5 : State := { stRun with power := { phase := .waking, vdd5Ok := true } }
def stWakingMainoff : State := (stWaking.setReg 0x110008 2).setReg 0x10040 0xFFFFFFFF
def stWakingSoon : State := { stWakingMainoff with power := { stWakingMainoff.power with wakeAt := 20000 } }
def stShipping : State := { stRun with power := { phase := .shipping, shipoff := true } }
def stResetPend : State := { stRun with link := { stRun.link with resetPend := true } }
def stTransition : State := { stRun with life := { state := .factory, transition := some { dest := .scrap, at_ := 0 } } }
def stRstLow : State := { State.reset with power := { rstLow := true } }
def stRstLow5 : State := { State.reset with power := { rstLow := true, vdd5Ok := true } }
def stVioLow : State := { stRun with power := { stRun.power with vioOk := false, vioReady := false } }
def stLfLost : State := { stRun with power := { stRun.power with lfNoReturn := true } }
def stRunLate : State := { stRun with lf := 40000 }
def stXtal : State := { stRun with power := { stRun.power with lfXtal := true } }
def stPd4Off : State := ({ stRun with power := { stRun.power with domRdy := 0x3FEF } }).setReg 0x11000C 0x3FFF
def stTurning : State := { stRun with wheels := stRun.wheels.set 0 { sync := .seek, standstill := false } }
def stAutosby : State := { (stRun.setReg 0x110008 0x0110) with now := 1000000000 }
def stEntry (k : Nat) : State :=
  { stRun with power := { stRun.power with entry := some { kind := .standby, step := k, announced := true, noticeNum := 9 } } }
def stAutosbyEntry : State := { stAutosby with power := (stEntry 5).power }
def stEntry3 : State := { stRun with power := { stRun.power with entry := some { kind := .standby, step := 3 } }, now := 1000000000 }
def stEntry5 : State := { stRun with power := { stRun.power with entry := some { kind := .standby, step := 5 } } }
def stShip5 : State := { stRun with power := { stRun.power with entry := some { kind := .ship, step := 5 } } }
def stEntryAbort : State := { stRun with power := { stRun.power with entry := some { kind := .standby, step := 6, aborting := 8 } } }
def stStandby : State := { stRun with power := { phase := .standby } }
def stStandbyRind : State := { stRun with power := { phase := .standby, wakeReq := 1 } }
def stEntryRind : State := { stRun with power := { stRun.power with entry := some { kind := .standby, step := 6 }, wakeReq := 1 } }

/-! The link. -/
def stCached (op : Nat) : State := { stRun with link := { stRun.link with cache := some { seq := 7, op := op, frame := [0x02] } } }
def stFull : State :=
  { stRun with link := { stRun.link with
      ring := List.replicate 31 { num := 1, code := 2, time := 0, payload := [] } ++ [{ num := 9, code := 0x19, time := 0, payload := [] }] } }
def stNoticed : State := { stRun with link := { stRun.link with ring := [{ num := 1, code := 2, time := 0, payload := [] }] } }
def stSent : State := { stRun with link := { stRun.link with ring := [{ num := 1, code := 2, time := 0, payload := [], sent := true, queued := false }] } }
def stSentLate (n : Nat) : State := { stSent with link := { stSent.link with retry := n }, now := 1000000000 }
def stBusOff : State := { stRun with link := { can := .busOff } }
def stIntegrating : State := { stRun with link := {} }
def stSettings : State := { stRun with link := { stRun.link with settingsPend := true } }

/-! Transactions. -/
def stOpened : State := { stRun with cfg := { state := .opened, num := 1, nextNum := 2 } }
def stOpenedBad : State := { stOpened with cfg := { stOpened.cfg with shadow := [(0xE0010, 0)] } }
def stArmed : State := { stRun with cfg := { state := .armed, num := 1 } }
def stStaged : State := { stOpened with cfg := { stOpened.cfg with staged := true } }
def stCrossing : State := { stRun with power := { stRun.power with lfPwr := [{ addr := 0x110018, value := 8 }] } }
def stArmedCtrl : State := { stArmed with cfg := { stArmed.cfg with shadow := [(0x20008, 0x0505)] } }
def stArmedBad : State := { stArmed with cfg := { stArmed.cfg with shadow := [(0xE0010, 0)] } }
def stArmedLate : State := { stArmed with now := 2000000000 }
def stStagingLate : State := { stRun with cfg := { state := .staging, num := 1 }, now := 2000000000 }
def stWaitBad : State := { stArmedBad with cfg := { stArmedBad.cfg with dmaWait := some 0 } }
def stWaitGood : State := { stArmed with cfg := { stArmed.cfg with dmaWait := some 0 } }

/-! Updates, records and the log. -/
def stNand : State :=
  withRegs { stRun with nand := { present := true, page := 2048, ppb := 64, blocks := 1024 }, cave := { mode := .mounted } } [(0xA0020, 0x00400040)]
def stUpdate : State := { stNand with cave := { stNand.cave with imgUpd := some { slot := 1, gen := 2, len := 256, count := 1 } } }
def stUpdateAll : State :=
  { stNand with cave := { stNand.cave with
      imgUpd := some { slot := 1, gen := 2, len := 256, count := 1, got := 256, used := [1], buf := [1, 2] } } }
def stMounting : State := { stNand with cave := { mode := .mounting }, health := { writeAt := 0 } }
def stRecord : State := { stNand with bat := { session := some { index := 3 } } }
def stRecordBytes : List Byte := (((now stRecord).served.cachedRecord 3).getD ([], stRecord)).1
def stLogged : State := { stNand with cave := { stNand.cave with logCur := [{ num := 4, mount := 1, time := 9, src := 3, payload := [1, 2] }] } }
def stRecordAfter : State := (((now stRecord).served.cachedRecord 3).getD ([], stRecord)).2

/-! DMA. -/
def withCh (s : State) (c : DmaCh) : State := s.setCh 2 c
/-- Channel 2 enabled over program words 0 to 15, with one word at its entry point. -/
def stDmaIdle : State := withRegs stRun [(0x90100, 0x80000000), (0x90104, 0x000F0000), (0x90800, 1)]
def stDmaRun (w : Word) : State := withCh (stDmaIdle.setReg 0x200000 w) { state := .run }
def stDmaHalted : State := withCh stDmaIdle { state := .halted, tries := 3 }
def stSignalled : State := withCh stDmaIdle { state := .wait, sig := 3, sigSpec := 1, level := 9 }
def stLevelled : State := withCh stDmaIdle { level := 8, lvl := some { cyc := 100000000, was := 3, up := 9, down := 1 } }
def stDmaSuspended : State := withCh stDmaIdle { state := .suspended, tries := 3 }
def stDmaLfWrite : State := { withCh stDmaIdle { state := .run, parked := true } with power := { stDmaIdle.power with lfAon := [{ addr := 0xD0000, value := 0, chan := some 2 }] } }
def stEntry3Parked : State := { stDmaLfWrite with power := { stDmaLfWrite.power with entry := some { kind := .standby, step := 3 } }, now := 1000000000 }
def stLevelledBefore : State := withCh stDmaIdle { level := 8, lvl := some { cyc := 5, was := 3, up := 9, down := 1 } }
def stDmaLoop (k : Nat) : State := withCh (stDmaIdle.setReg 0x200000 0x30000000) { state := .run, loops := [{ body := 4, left := some k }] }
def stDmaSig : State := withCh (stDmaIdle.setReg 0x200000 0x40000001) { state := .run, sig := 3, sigSpec := 2 }
def stDmaMet : State := withCh stDmaIdle { state := .wait, met := some true }
def stDmaWork (w : BeatWork) : State :=
  withCh (withRegs stDmaIdle [(0x200000, 0x1A000004), (0x200004, 0x800100), (0x200008, 0x800200)]) { state := .run, work := w }
def stDmaRead : State := stDmaWork (.move { src := 0x800100, dst := 0x800200 })
def stDmaWrite : State := stDmaWork (.move { got := 4, nr := 1, dst := 0x800200, src := 0x800100, hold := [1, 2, 3, 4] })
def stDmaPartial : State := withRegs stDmaRead [(0x200000, 0x1AC00003), (0x90100, 0x80010000)]
def stDmaSet : State := stDmaWork (.set 0x800010 0x11223344)
def stDmaUnmapped : State := (stDmaWork (.move { src := 0x100, dst := 0x800200 })).setReg 0x90800 0x80001000
def stArmedDma : State := { stDmaRun 0 with cfg := { state := .armed, num := 1, shadow := [(0x200000, 0x20000000)] } }
def stArmedDmaWait : State := { stArmedDma with cfg := { stArmedDma.cfg with dmaWait := some 200000000 } }

/-! Wheels. Wheel 0 has a ring of 60 equal teeth, given by class 0; a Hall sensor on A, and no direction source. -/
def stWheels : State :=
  withRegs { stRun with wheels := Vector.replicate 4 {} } [(0x30000, 2), (0x30004, 60), (0x30018, 69905), (0x30100, 2), (0x30104, 60)]
def withWheel (s : State) (w : WheelSt) : State := { s with wheels := s.wheels.set 0 w }
def stWheelLow : State := withWheel stWheels { lvlA := .low }
def stWheelHigh : State := withWheel stWheels { lvlA := .high }
def stSeekOld : State := withWheel stWheels { sync := .seek, hasEdge := true, standstill := false }
def stLockedOld : State := withWheel stWheels { sync := .locked, hasEdge := true, standstill := false, hist := [(1000, 69905)] }
def stDead : State := { withWheel (stWheels.setReg 0x3000C 0x00010000) { sync := .seek, hasEdge := true, standstill := false } with now := 1000000000 }
def stStuck : State := stWheels.setReg 0x48 1
def stBias : State := { stWheels.setReg 0x30800 10 with bias := { dueAt := 400000000, queue := [0, 2] } }
def stBiasRun : State := { (withRegs stWheels [(0x30808, 0xFFFF0000), (0x3080C, 0)]) with bias := { running := some (0, 0) } }
def stTestQueued : State := { stRun with cfg := { testAngle := .queued 500000000 }, now := 400000000 }
def stTestRunning : State := { stRun with cfg := { testAngle := .running 0 500000000 } }
def stTesting : State := { stRun with cfg := { testAdcA := .running 0 500000000 } }
def goodPlus : LegReading := { p := 1100000, n := 0 }
def goodMinus : LegReading := { p := 1000000, n := 0 }
def goodIdle : LegReading := { p := 1000, n := 0 }
def goodRail : RailReading := { vio := 3300000, vdd5 := 5000000 }
def goodReadings : AdcTest :=
  { low := List.replicate 64 4096, mid := List.replicate 64 32768, high := List.replicate 64 61440, vdd5 := 32768, vio := 21627, vaon := 19661, refer := 32768 }
def stFusTest : State := { stRun with cfg := { testFusion := .running 0 0 }, fus := { testBits := some 0 } }

/-! Events and timers. -/
/-- Output 0 and output 5 on time, enabled. -/
def stEvq : State := withRegs stRun [(0x40000, 0x8010), (0x40140, 0x8010)]
def anEvent (k : Nat) : EventDesc := { target := 100, arg := 0, rep := 0, ctl := BitVec.ofNat 32 (0x500 + k) }
def withOut (s : State) (o : OutSt) : State := { s with outs := s.outs.set 5 o }
def stEventDue (k : Nat) : State := withOut stEvq { queue := [anEvent k] }
def stPulse : State := withOut stEvq { cmd := true, pulse := some (.atTime 0) }
def stProbe : State := withOut stEvq { samples := [(0, 3, false)] }
def stProbeLater : State := withOut stEvq { samples := [(900000000, 3, false)] }
def stChop : State := withOut (stEvq.setReg 0x4014C 0x40) { chop := true }
def withTimer (t : TimerSt) : State := { stRun with timers := stRun.timers.set 2 t }
def stTimer : State := withTimer { run := true, count := 77 }
def stTimerOwed : State := (withTimer { run := true, owed := 1 }).setReg 0x50104 0x10000
def stTimerRst : State := withTimer { run := true, count := 9, rstDue := some 0, acc := 3 }
def stTimerPass : State := withTimer { run := true, passA := true, passB := true }
def stCapDue : State := withTimer { run := true, count := 77, capDue := [0] }
def stCapHeld : State := withTimer { run := true, count := 77, capf := true, capDue := [0] }
def stCapStopped : State := withTimer { count := 77, capDue := [0] }
def stPreload : State := stTimer.setReg 0x50100 0x0C000000

/-! Converters and sequences; CLK_CONV stands at cycle 50000000. -/
def aTrigger : TrigReq := { due := 0, src := 0, spec := false }
def stTrig (t : List TrigReq) : State := { stRun with regA := { trig := t } }
def stTrigLater : State := stTrig [{ aTrigger with due := 90000000 }]
def stTrigOff : State := { stTrig [aTrigger] with power := { stRun.power with domRdy := 0x3FBF } }
def stTrigInj : State := { stRun with injA := { trig := [aTrigger] } }
def stTrigBusy : State := { stRun with injA := { trig := [aTrigger], state := .run } }
def stTrigReg : State := stTrig [aTrigger]
def stTrigRegBusy : State := { stRun with regA := { trig := [aTrigger], state := .run } }
def aRequest : SeqReq := { entry := 0, pendAt := 50000000 }
def stNoRot : State := { stRun with adcA := { rotAt := 900000000 }, adcB := { rotAt := 900000000 } }
def stRegRun : State := { stNoRot with regA := { state := .run, pend := some aRequest } }
def stRegStop : State := { stRun with regA := { state := .run, pend := some aRequest, stops := [50000000] } }
def stPreempted : State := { stRun with injA := { state := .run }, regA := { state := .preempted, reissue := [aRequest] } }
def stRegDue : State := stRegRun
def stRegLater : State := { stNoRot with regA := { state := .run, pend := some { aRequest with pendAt := 80000000 } } }
def aJob : ConvJob := { slice := 0, inj := false, req := aRequest, word := 0, start := 0, chan := 0x400, trim := 0, sofs := 0, sgain := 0 }
def stConverting : State := { stRun with adcA := { jobs := [aJob] } }
def stConvertingLate : State := { stRun with adcA := { jobs := [{ aJob with start := 90000000 }] } }
def stAdcReady : State := { stRun with adcA := { passRun := true } }
def stAdcPassed : State := { stRun with adcA := { passOk := true } }
def stAdcFailed : State := stRun
def stAdcLater : State := { stRun with adcA := { rotAt := 900000000 } }
def stAdcHandover : State := { stRun with adcA := { outgoing := some 0, passOk := true } }
def stCmpOn : State := withRegs stRun [(0x60400, 0x80000000), (0x60404, 0x01000000)]
def stCmpReady : State := stCmpOn.setCmp 0 { ready := true }
def stCmpActive : State := stCmpOn.setCmp 0 { ready := true, active := true }
def stTestOverdue : State := { stRun with cfg := { testAngle := .queued 0 } }
def stNoSpare : State := { stRun with adcA := { spare := none } }

/-! The NAND, start-up and the cave. -/
def aProbe : NandProbe := { id := 0x2C24, copies := [], eccEn := false, protect := false }
def paramHead : List Byte :=
  [0x4F, 0x4E, 0x46, 0x49] ++ List.replicate 76 0 ++ bytesLE 4 2048 ++ bytesLE 2 64 ++ List.replicate 6 0 ++ bytesLE 4 64 ++ bytesLE 4 1024
def paramBody : List Byte := paramHead ++ (List.replicate 77 0 ++ List.replicate 77 0)
/-- A parameter page of 2048 + 64 bytes a page, 64 pages a block and 1024 blocks; its last two bytes are its CRC. -/
def paramPage : List Byte := paramBody ++ [0x52, 0xCD]
def stNandWait : State := { stRun with power := { stRun.power with phase := .startup }, boot := { stage := .nandWait } }
def stPage : NandPage := { main := [1, 2, 3] }
def withJob (j : NandJob) : State := { stNand with nand := { stNand.nand with jobs := [j], act := some j.kind } }
def programJob : NandJob := { kind := .logProgram, prio := 3, todo := [.program 4500 stPage, .read 4500] }
def stProgramming : State := withJob programJob
def eraseJob : NandJob := { kind := .retire 70, prio := 4, todo := [.erase 70, .read 4500] }
def stErasing : State := withJob eraseJob
def readJob : NandJob := { kind := .mount, prio := 1, todo := [.read 4500, .read 4501] }
def stReading : State := withJob readJob
def stScanning : State :=
  { stNandWait with boot := { stage := .scan }, nand := { (withJob { kind := .scan, prio := 1, todo := [.read 0, .read 64] }).nand with tries := 3 } }
def stPassedGone : State := { stNandWait with boot := { stage := .passed 1 } }
def stModelBad : State := { stNand with nand := { stNand.nand with jobs := [{ kind := .model 0 true, prio := 1, todo := [] }] } }
def stRepaired : State := { stMounting with boot := { stMounting.boot with repair := true }, nand := { stNand.nand with jobs := [{ kind := .repair 1, prio := 4, todo := [] }] } }
def stMountEnd : State := { stMounting with cave := { mode := .mounting, mount := 1, mountStep := 7 } }
def stMountPoor : State := { stMountEnd with nand := { present := true, ppb := 64, blocks := 10 } }
def stMounted : State :=
  { stNand with cave := { mode := .mounted, recOpen := some (80, 2) } }
def stMountedPage : State := { stMounted with nand := { stMounted.nand with pages := [(4500, stPage)] }, cave := { stMounted.cave with pass := true } }
def wornHeader (erases : Nat) : NandPage :=
  { stMounted.headerPage erases with main := (stMounted.headerPage erases).main.take 32 }
/-- Block 82 holds records, block 90 is SPARE. -/
def stWorn (spare : Nat) : State :=
  { stMounted with nand := { stMounted.nand with
      pages := [(5248, wornHeader 5), (5249, { main := [1], oob := pmeta 1 1 }), (5760, wornHeader spare)] } }
def stWear : State := stWorn 100000
def stWearEven : State := stWorn 7
def stWearBusy : State := { stWear with power := { stWear.power with entry := some { kind := .standby, step := 3 } } }
def stPassRound : State := { stMounted with cave := { stMounted.cave with pass := true } }
def stRecEnd : State :=
  { stMounted with
    cave := { stMounted.cave with recBusy := some ({ kind := 3, index := 0, version := 1, body := [7], time := 0 }, 80, 2) }
    nand := { stMounted.nand with jobs := [{ kind := .recWrite, prio := 2, todo := [] }] } }
def stLogWaiting : State :=
  { stMounted with now := 400000000000, cave := { mode := .mounted, logOpen := some (90, 1), logCur := [{ num := 4, mount := 1, time := 9, src := 3, payload := [1, 2] }] } }
def stImgCheck : State :=
  { stMounted with
    cave := { stMounted.cave with imgUpd := some { slot := 1, gen := 5, len := 64, count := 1, used := [9] } }
    nand := { stMounted.nand with jobs := [{ kind := .imgCheck, prio := 3, todo := [] }] } }

/-! The battery. -/
def stBat : State := { stRun.setReg 0xB0000 1 with bat := { winAt := 199800000 } }
def aSession : SessionSt := { index := 3 }
def withBat (b : BatSt) : State := { stBat with bat := b }
def stBatStandby : State := { stBat with power := { stStandby.power with } }
def stSession : State := withBat { state := .active, session := some aSession, winAt := 199800000 }
def stIdent : State := withBat { state := .ident, deadline := 900000 }
def aTxn : IdTxn := { addr := 0x50, reg := 0, fast := false, crc := false, began := 200000000 }
def stAttempting : State := withBat { state := .ident, attempt := some aTxn, deadline := 900000 }
def stAttemptDir : State := withBat { state := .ident, attempt := some aTxn, deadline := 900000, dirReady := true }
/-- Record 3 lies in slot 0 of block 82, read back from its pages; the directory gives it to the ID 01..08. -/
def stAttemptRead : State :=
  let s := { stAttemptDir with cave := { mode := .mounted }, nand := { present := true, page := 2048, ppb := 64, blocks := 1024 } }
  let w : RecWrite := { kind := 1, index := 3, version := 1, body := [7], time := 0 }
  let ops := s.slotOps 82 0 1 (s.recBytes w 5)
  let s1 := ops.foldl (fun s o => match o with
    | .program r p => s.setPage r p
    | _ => s) s
  { s1 with bat := { s1.bat with dir := [{ index := 3, id := 0x0807060504030201, opened := false, lastSess := 1 }] } }
def stIdentLate : State := withBat { state := .ident }
def stGrace : State := withBat { state := .grace }
def stSocRep : State := { (withBat { socCnt := 5000, socValid := true, rep := some 0 }) with lf := 90000 }
def stCheckpoint : State := { (withBat { state := .active, session := some aSession }) with cave := { mode := .mounting } }
def stEpoch : State := { stRun.setReg 0xB0128 5 with lf := 90000 }
def stAutoship : State := { (withRegs stRun [(0xB0000, 0x21), (0xB002C, 100)]) with bat := { shipAt := some 0 } }

/-! Fusion. -/
def withFus (f : FusSt) : State := { stRun with fus := f }
def aHead : HeadRun := { startAt := 0, grid := [], track := [], flags := 0, words := [], cells := 0, out := some [0, 0, 0, 0, 0, 0] }
def stFrame : State := withFus { mstate := .running, head := some aHead }
def stFrameLast : State := withFus { mstate := .running, head := some aHead, ending := true }
def stFrameWaits : State := withFus { mstate := .running, head := some { aHead with out := none }, encRun := some { input := [] } }
def stFrameOpen : State := withFus { mstate := .running, head := some { aHead with out := none } }
def stCell : State := withFus { mstate := .running, gridTime := true }
def stCellRun : State := withFus { mstate := .running, encRun := some { input := [] } }
def withImu (i : ImuSt) : State := { (withRegs stRun [(0xC0200, 0x80000064), (0xC0204, 0x3B03), (0xC0224, 0x00010011)]) with fus := { mstate := .running, imus := Vector.replicate 2 i } }
def stImu : State := withImu { ready := true }
def stImuBusy : State := withImu { ready := true, busy := true }
def stImuInit : State := withImu { initAt := some 0 }
def stCal : State := { (stRun.setReg 0xC0064 0x00010000) with fus := { mstate := .running } }
def stCalMoved : State := { (stRun.setReg 0xC0064 0x00010000) with cave := { mode := .mounting }, fus := { mstate := .running, imus := Vector.replicate 2 { corr := [0x3F800000, 0, 0] } } }
def stPd9Off : State := { stRun with power := { stRun.power with domRdy := 0x3DFF } }
def stSlotOld : State := stRun.setReg 0xC090C 0x00010000
def stFusTesting : State := { stRun with cfg := { testFusion := .running 0 0 } }

/-! The rind and the lock. -/
def stUnpowered : State := { stRun with power := { phase := .unpowered } }
def withRules (r : RuleSt) : State := { stRun with rind := { rules := Vector.replicate 16 r } }
def stRules : State := withRules { hold := some 0, window := some 0, count := 2 }
def stRulesLater : State := withRules { hold := some 900000, window := some 900000, count := 2 }
def anEntry : RindEntry := { rule := 3, act := 0, counter := 0, time := 0, levels := 0, lock := 0 }
def stFifo : State := { stRun with rind := { fifo := [anEntry] } }
def stFifoWait : State := { stRun with rind := { fifo := [{ anEntry with act := 2 }] }, cave := { mode := .mounting } }
def stRindStuck : State := stStandby.setReg 0x48 0x010000
def stFilter : State := { stRun.setReg 0xD0008 0x3000 with rind := { inputs := Vector.replicate 6 .low } }
def stAlarm : State := { (stRun.setReg 0xD0004 0x1000) with rind := { alarm := { active := true, endAt := some 0, on := true } } }
/-- The lock enabled, both limits at rest at a low level of positive polarity, debounced. -/
def stLock : State :=
  { (stRun.setReg 0xE000C 0x98000001) with
    rind := { inputs := Vector.replicate 6 .low }
    lock := { moveCfg := 0x98000001, limOpen := { stable := .released }, limShut := { stable := .released } } }
def stMove : State := { stLock with lock := { stLock.lock with state := .opening, bridge := .drive 0 true 5, moveAt := 20000, moveTime := 0x00A00000 } }
def stLockFault : State := { stLock with lock := { stLock.lock with state := .fault, fault := 1 } }
def stLimit : State := { stLock with rind := { inputs := Vector.replicate 6 .high }, lock := { stLock.lock with state := .fault, fault := 1 } }
def stMoveOld : State := { stMove with lock := { stMove.lock with moveAt := 0 } }
def stStall : State := { stMove.setCmp 0 { ready := true, active := true } with lock := { stMove.lock with moveGuard := 0x00010000 } }
def stBrake : State := { stLock with lock := { stLock.lock with bridge := .brake, brakeEnd := some 0 } }

/-! A copy of an image in slot 0, whose one section is a minimal MODEL. -/
def modelTens (type rows cols off : Nat) : List Byte := [BitVec.ofNat 8 type, 0] ++ bytesLE 2 rows ++ bytesLE 2 cols ++ [0, 0] ++ bytesLE 4 off
def modelLay (op in0 out w b : Nat) : List Byte :=
  [BitVec.ofNat 8 op, 0] ++ bytesLE 2 in0 ++ [0, 0] ++ bytesLE 2 out ++ bytesLE 2 w ++ bytesLE 2 b ++ bytesLE 4 1 ++ [1, 1, 1, 0]
def modelHead : List Byte :=
  bytesLE 4 0x4C444D46 ++ bytesLE 2 1 ++ bytesLE 2 64 ++ bytesLE 4 236 ++ bytesLE 4 64 ++ bytesLE 4 7 ++ [1, 0, 1, 1] ++ bytesLE 2 7 ++ bytesLE 2 2 ++
    bytesLE 2 1 ++ [0, 0] ++ bytesLE 4 64 ++ bytesLE 4 76 ++ bytesLE 4 76 ++ bytesLE 4 160 ++ List.replicate 12 0
def modelData : List Byte :=
  modelHead ++ bytesLE 4 (crc32 modelHead) ++ List.replicate 12 0 ++
    (modelTens 0 1 1 0 ++ modelTens 0 1 1 4 ++ modelTens 0 1 1 0 ++ modelTens 0 1 32 8 ++ modelTens 0 1 6 40 ++ modelTens 1 6 1 200 ++ modelTens 2 1 6 208) ++
    (modelLay 3 0 1 0 0 ++ modelLay 1 2 4 5 6) ++ List.replicate 32 0
/-- One input; an encoder that copies it to the feature, and a head that makes six outputs of the feature. -/
def aModel : List Byte := modelData ++ bytesLE 4 (crc32 modelData)
def imgHead : List Byte :=
  List.replicate 0x18 0 ++ bytesLE 2 1 ++ List.replicate 102 0 ++
    (bytesLE 2 4 ++ bytesLE 2 2 ++ bytesLE 4 2048 ++ bytesLE 4 236 ++ bytesLE 4 0 ++ sha256 aModel)
def imgPages : List (Nat × NandPage) :=
  [(0, { main := imgHead, oob := [0xFF, 0, 0, 0] ++ tagBytes { slot := 0, index := 0, count := 1, gen := 5 } }), (1, { main := aModel })]
def passedCopy : ImgCopy := { gen := 5, blocks := [0] }
def stPassed : State := { stNandWait with boot := { stage := .passed 0 }, nand := { stNand.nand with pages := [(0, { main := List.replicate 32 0, oob := [0xFF, 0, 0, 0] ++ tagBytes { slot := 0, index := 0, count := 1, gen := 5 } })] } }
def stModelGood : State :=
  { stNand with
    boot := { stage := .loaded, loaded := true, modelPos := some 0, modelDigest := sha256 aModel }
    nand := { stNand.nand with pages := imgPages, jobs := [{ kind := .model 0 false, prio := 1, todo := [] }] } }
def stWeights : State := (withFus { mstate := .running, weights := [0, 0, 0, 0] }).setReg 0xC0004 1
def stCalOff : State := stRun.setReg 0xC0064 0
def stReadonly : State := { stNand with cave := { mode := .readonly } }

/-! Lifecycle and debug. -/
def stReturn : State := { stRun with life := { state := .ret } }
def withIr (s : State) (ir : Nat) : State := { s with jtag := { ir := ir } }
/-- A valid key in LKEY and SIGKEY 0: the generator point of P-256. -/
def genPoint : List Byte :=
  bytesBE 32 0x6B17D1F2E12C4247F8BCE6E563A440F277037D812DEB33A0F4A13945D898C296 ++
    bytesBE 32 0x4FE342E2FE1A7F9B8EE7EB4A7C0F9E162BCE33576B315ECECBB6406837BF51F5
def genKey : KeySlot := { bytes := genPoint, crc := crc32 genPoint }
def stFactory : State := { stRun with otp := { lkey := genKey, factf := 7 } }
def stFactory0 : State := stRun
def aChallenge : Challenge := { bytes := List.replicate 32 0, target := 0, tail := [], at_ := 20000, r := List.replicate 32 0 }
def stPort : State := withIr stFactory 0x08
def stPort9 : State := withIr stRun 0x09
def stPortA : State := withIr stRun 0x0A
def stPortB : State := withIr stRun 0x0B
def stExtest : State := withIr stRun 0x00
def stMemtest : State := { stRun with power := { stRun.power with phase := .memtest }, jtag := { test := some (1, 2) } }
def stChallenged : State := { stPort with life := { state := .factory, challenge := some aChallenge } }
def stChallengedBlank : State := { withIr stRun 0x08 with life := { challenge := some { aChallenge with target := 1 } } }
def stChallengedBusy : State := { stChallengedBlank with life := { stChallengedBlank.life with opRun := some (5, 3) } }
def stChallengeOld : State := { stChallenged with lf := 9000000 }
def stLockout : State := { stRun with life := { state := .factory, lockout := some 0 } }
def stWipe : State := { stRun with store := { epoch := 9 } }
def stOp (k : Nat) : State := { stRun.setReg 0xF000C (BitVec.ofNat 32 k) with life := { state := if k = 6 then .factory else .blank } }
def stOpRet (k : Nat) : State := { stRun.setReg 0xF000C (BitVec.ofNat 32 k) with life := { state := .ret } }
def stOpField (k : Nat) : State := { stRun.setReg 0xF000C (BitVec.ofNat 32 k) with life := { state := .fieldLocked } }
def stOpPort : State := withIr (stOp 1) 0x08
def stOpRun (op arg : Nat) : State := { stRun with life := { state := .blank, opRun := some (op, arg), opKey := List.replicate 64 7 } }
def stOpKey (op arg : Nat) : State := { stRun with life := { state := .blank, opRun := some (op, arg), opKey := genPoint } }


/-! ### Worked cases of one step -/

/-- The part of a run's outcome that a test looks at. -/
def after {α : Type} (o : Host.Outcome State Fault Refusal) (f : State → α) : Option α :=
  match o with
  | .next t => some (f t)
  | _ => none

/-- Reading the identity registers (04_jornus_link.md): the response frame. -/
theorem test_identity :
    after (exec (.read t0 0x42 [0, 0, 0, 3]) stRun) (fun t => t.link.lastResp) =
      some [0x02, 0x42, 0x00, 0x10, 0, 0, 0, 0, 0x4C, 0xB1, 0x80, 0x08, 0x04, 0x42, 0xE8, 0x00, 0x26, 0x22, 0, 0] := by decide +kernel
/-- Reading past the last block (21_register_map.md): two words and BUS_ERROR at 0x12_0000. -/
theorem test_pastTheEnd :
    after (exec (.read t0 0x43 [0xF8, 0xFF, 0x11, 3]) stRun) (fun t => t.link.lastResp) =
      some [0x02, 0x43, 0x00, 0x10, 0x15, 0x00, 0x00, 0x12, 0, 0, 0, 0, 0, 0, 0, 0] := by decide +kernel
/-- A 10 s stop on the LF RC (02_clocks_power.md): PWR_LFCAL. -/
theorem test_lfcal : after (exec (.lfcalWindowEnd t0 12121331) stRun) (fun t => t.reg 0x110020) = some 775765184 := by decide +kernel
/-- The same stop: TMR2's advance over 324,400 CLK_LF periods of STANDBY. -/
theorem test_standbyTimer :
    (({ stTimer with power := { phase := .standby, lfTimers := true }, timers := stRun.timers.set 2 { run := true } }.setReg 0x110020 775765184).elapse
      { ang := 0, lf := 324400 }).timers[2].count = 3839999781 := by decide +kernel
/-- The step on an empty queue changes nothing (log entry 1); a queued command is taken from the front. -/
theorem test_stepFront : after (step ({ stRun with pending := [.lfcalWindowEnd t0 2, .por t0] })) (fun t => (t.pending.length, t.reg 0x110020)) =
    some (1, 128) := by decide +kernel
/-- A POR sets RSTCAUSE to POR alone (R80). -/
theorem test_porCause : after (exec (.por t0) (stRun.setReg 0x20 0x22)) (fun t => t.reg 0x20) = some 1 := by decide +kernel

/-- One byte of CRC-16 (R419). -/
def crcStep (c : Nat) (b : Byte) : Nat :=
  crc16Bit (crc16Bit (crc16Bit (crc16Bit (crc16Bit (crc16Bit (crc16Bit (crc16Bit (c ^^^ (b.toNat * 256)))))))))
theorem crc_head : paramHead.foldl crcStep 0x4F4E = 13291 := by decide +kernel
theorem crc_mid : (List.replicate 77 (0 : Byte)).foldl crcStep 13291 = 36646 := by decide +kernel
theorem crc_tail : (List.replicate 77 (0 : Byte)).foldl crcStep 36646 = 52562 := by decide +kernel
theorem crc_body : crc16 paramBody = 52562 := by
  show (paramHead ++ (List.replicate 77 0 ++ List.replicate 77 0)).foldl crcStep 0x4F4E = _
  rw [List.foldl_append, List.foldl_append, crc_head, crc_mid, crc_tail]
/-- The sample parameter page is a valid copy (R415). -/
theorem paramPage_ok : paramOk paramPage = true := by
  have h1 : paramPage.take 254 = paramBody := by decide +kernel
  have h2 : paramPage.take 4 = [0x4F, 0x4E, 0x46, 0x49] := by decide +kernel
  have h3 : natAt paramPage 254 2 = 52562 := by decide +kernel
  simp [paramOk, h1, h2, h3, crc_body]

/-- The conditions of StepTakesTheFront are met by a queue of two commands and by an empty one. -/
theorem witness_StepTakesTheFront :
    ({ stRun with pending := [.lfcalWindowEnd t0 2, .por t0] } : State).pending = [.lfcalWindowEnd t0 2] ++ [.por t0] ∧ stRun.pending = [] := ⟨rfl, rfl⟩
/-- The conditions of EveryStepKeepsCanonicalForm are met where a command waits and words and bytes are listed. -/
theorem witness_EveryStepKeepsCanonicalForm :
    (stRun.setSramBytes 0x800010 [1, 2]).canonical ∧ (stRun.setSramBytes 0x800010 [1, 2]).sram.length = 2 ∧
    after (step ((stRun.setSramBytes 0x800010 [1, 2]).withFront (.lfcalWindowEnd t0 2))) (fun t => t.sram.length) = some 2 := by
  refine ⟨?_, ?_, ?_⟩ <;> decide +kernel
/-- The conditions of EveryStepKeepsTheRingBounds are met with a notice in the ring. -/
theorem witness_EveryStepKeepsTheRingBounds :
    (stRun.notice 0x07 [1]).ringBounded ∧ (stRun.notice 0x07 [1]).link.ring.length = 1 ∧
    after (step ((stRun.notice 0x07 [1]).withFront (.lfcalWindowEnd t0 2))) (fun t => t.link.ring.length) = some 1 := by
  refine ⟨⟨?_, ?_⟩, ?_, ?_⟩ <;> decide +kernel
/-- The condition of EveryStepOnlyBlowsFuses is met by the step on an empty queue and by a command. -/
theorem witness_EveryStepOnlyBlowsFuses :
    after (step stRun) (fun t => t.otp) = some stRun.otp ∧ after (step (stRun.withFront (.por t0))) (fun t => t.otp) = some stRun.otp := by
  refine ⟨?_, ?_⟩ <;> decide +kernel
/-- The condition of StorageReadsBack is met where words and bytes are listed. -/
theorem witness_StorageReadsBack :
    (stRun.setSramBytes 0x800010 [1, 2]).canonical ∧ stRun.regs ≠ [] := by
  refine ⟨?_, ?_⟩ <;> decide +kernel


/-! ### Witnesses: the conditions of every statement can be met -/

/-- The conditions of NoticeEntersTheRing are met, clause by clause. -/
theorem witness_NoticeEntersTheRing :
    (State.noticeOn stStartup 1 = false ∧ stStartup.link.cycIn = []) ∧
    (stRun.noticeOn 1 = true ∧ stRun.link.cycIn = [] ∧ stRun.ordinaryFill < 31 ∧ stRun.link.ring.length + 1 < stRun.fld
      0x1002C 5 0) ∧
    (stRun.noticeOn 7 = true ∧ stRun.noticeOn 1 = true ∧ stRun.canonical ∧ stRun.link.cycIn = [] ∧ stRun.ordinaryFill < 30
      ∧ stRun.link.ring.length + 2 < stRun.fld 0x1002C 5 0) ∧
    (stFull.noticeOn 1 = true ∧ stFull.link.cycIn = [] ∧ 31 ≤ stFull.ordinaryFill ∧ stFull.link.ring.any (fun n => n.code
      == 0x19) = true ∧ 32 ≤ stFull.link.ring.length) := by
  refine ⟨?_, ?_, ?_, ?_⟩ <;> decide +kernel

/-- The conditions of Resets are met, clause by clause. -/
theorem witness_Resets :
    ((fun (e : State) => e.power.phase ≠ .unpowered) (now stRun)) ∧
    (now stRun).canonical ∧
    ((fun (e : State) => e.running = true) (now stRun)) ∧
    ((fun (e : State) => e.power.phase = .waking ∧ 3 ≤ e.power.pllTries) (now stWakeLost)) ∧
    (now stWakeLost).canonical ∧
    ((fun (e : State) => e.power.phase = .waking ∧ e.power.pllTries < 3) (now stWaking)) ∧
    ((fun (e : State) => e.power.phase = .shipping ∧ e.power.shipAt + 3277 ≤ e.lf) (now stShipping)) ∧
    (now stShipping).canonical ∧
    ((fun (e : State) => e.running = true ∧ e.link.resetPend = true) (now stResetPend)) ∧
    (now stResetPend).canonical ∧
    ((fun (e : State) => e.transitionEnds = true) (now stTransition)) ∧
    (now stTransition).canonical ∧
    ((fun (e : State) => e.tapOn = true ∧ e.life.state ≠ .fieldLocked ∧ e.life.state ≠ .scrap) (now stRun)) := by
  refine ⟨?_, ?_, ?_, ?_, ?_, ?_, ?_, ?_, ?_, ?_, ?_, ?_, ?_⟩ <;> decide +kernel

/-- The conditions of SupplyEventsAndLfSource are met, clause by clause. -/
theorem witness_SupplyEventsAndLfSource :
    ((fun (late : Bool) (e : State) => e.power.phase = .startup ∧ e.boot.stage = .supply ∧ e.power.rstLow = false) true
      (now State.reset)) ∧
    ((fun (late : Bool) (e : State) => e.power.phase = .startup ∧ e.power.rstLow = true) false (now stRstLow)) ∧
    ((fun (late : Bool) (e : State) => e.power.phase = .waking ∧ e.power.vdd5Ok = false ∧ e.bit 0x110008 1 = true ∧
      e.vdd5IsLate late = true) true (now stWakingMainoff)) ∧
    (now stWakingMainoff).canonical ∧
    ((fun (late : Bool) (e : State) => e.power.phase = .waking ∧ e.bit 0x110008 1 = true ∧ e.vdd5IsLate late = false) false
      (now stWakingSoon)) ∧
    ((fun (e : State) => e.power.phase = .startup ∧ e.boot.stage = .supply ∧ e.power.vdd5Ok = true) (now stRstLow5)) ∧
    ((fun (e : State) => e.power.phase ≠ .unpowered) (now stRun)) ∧
    (now stRun).canonical ∧
    ((fun (e : State) => e.power.phase ≠ .unpowered ∧ e.power.vioReady = false) (now stVioLow)) ∧
    (now stVioLow).canonical ∧
    ((fun (e : State) => e.power.phase ≠ .unpowered ∧ e.fld 0x110008 3 2 ≠ 1 ∧ e.power.lfNoReturn = false ∧
      e.power.lfFailed = false ∧ e.lf < e.power.porLf + 32768) (now stCrystalEarly)) ∧
    ((fun (e : State) => e.fld 0x110008 3 2 = 1 ∨ e.power.lfNoReturn = true ∨ e.power.lfFailed = true ∨ e.power.porLf +
      32768 ≤ e.lf) (now stLfLost)) ∧
    ((fun (e : State) => e.power.phase ≠ .unpowered ∧ e.fld 0x110008 3 2 ≠ 1 ∧ e.power.lfXtal = false ∧ e.power.lfNoReturn
      = false ∧ e.power.lfFailed = false ∧ e.power.porLf + 32768 ≤ e.lf) (now stRunLate)) ∧
    (now stRunLate).canonical ∧
    ((fun (e : State) => e.power.phase ≠ .unpowered ∧ e.power.lfXtal = true) (now stXtal)) ∧
    (now stXtal).canonical ∧
    ((fun (count : Nat) (e : State) => e.lfcalOver count = true) 12000000 (now stRun)) ∧
    ((fun (count : Nat) (e : State) => e.lfcalOver count = false) 12000000 (now State.reset)) := by
  refine ⟨?_, ?_, ?_, ?_, ?_, ?_, ?_, ?_, ?_, ?_, ?_, ?_, ?_, ?_, ?_, ?_, ?_, ?_⟩ <;> decide +kernel

/-- The conditions of DomainsAndRequests are met, clause by clause. -/
theorem witness_DomainsAndRequests :
    ((fun (n : Fin 14) (e : State) => e.running = true ∧ e.bit 0x11000C n.val = true ∧ e.domReady n.val = false ∧ (n.val =
      6 → e.power.pd6On + usAng 250 ≤ e.now)) 4 (now stPd4Off)) ∧
    (now stPd4Off).canonical ∧
    ((fun (n : Fin 14) (e : State) => e.domReady n.val = true ∨ (n.val = 6 ∧ e.now < e.power.pd6On + usAng 250)) 4 (now
      stRun)) ∧
    ((fun (key : BitVec 16) (e : State) => e.running = true ∧ e.power.lfPwr = [] ∧ key ≠ 0xA5C3) 0 (now stRun)) ∧
    ((fun (e : State) => e.running = true ∧ e.power.lfPwr = [] ∧ e.requestRefusal false true = none) (now stRun)) ∧
    ((fun (e : State) => e.running = true ∧ e.power.lfPwr = [] ∧ e.entering = false ∧ e.wheelsAtRest = false) (now
      stTurning)) ∧
    ((fun (e : State) => e.running = true ∧ e.power.lfPwr = [] ∧ e.requestRefusal true true = none) (now stRun)) ∧
    ((fun (since : Nat) (e : State) => e.running = true ∧ e.bit 0x110008 4 = true ∧ e.idleSince = some since ∧ since +
      secAng (e.fld 0x110008 15 8) ≤ e.now ∧ e.requestRefusal false true = none) 0 (now stAutosby)) := by
  refine ⟨?_, ?_, ?_, ?_, ?_, ?_, ?_, ?_⟩ <;> decide +kernel

/-- The conditions of EntryAndWake are met, clause by clause. -/
theorem witness_EntryAndWake :
    ((fun (x : Entry) (e : State) => e.running = true ∧ e.power.entry = some x ∧ (x.kind = .ship ∨ x.aborting = 0) ∧
      (x.kind = .standby ∨ e.chargerOn = false) ∧ x.step = 1 ∧ e.lock.moving = false ∧ e.cfg.testAngle = .idle) { kind := .standby, step := 1, announced := true, noticeNum := 9 }
      (now (stEntry 1))) ∧
    (now (stEntry 1)).canonical ∧
    ((fun (x : Entry) (e : State) => e.running = true ∧ e.power.entry = some x ∧ (x.kind = .ship ∨ x.aborting = 0) ∧
      (x.kind = .standby ∨ e.chargerOn = false) ∧ x.step = 3 ∧ e.dmaBusy = false) { kind := .standby, step := 3, announced := true, noticeNum := 9 }
      (now (stEntry 3))) ∧
    (now (stEntry 3)).canonical ∧
    ((fun (x : Entry) (e : State) => e.running = true ∧ e.power.entry = some x ∧ (x.kind = .ship ∨ x.aborting = 0) ∧
      (x.kind = .standby ∨ e.chargerOn = false) ∧ x.step = 4 ∧ e.caveDrained = true) { kind := .standby, step := 4, announced := true, noticeNum := 9 }
      (now (stEntry 4))) ∧
    (now (stEntry 4)).canonical ∧
    ((fun (x : Entry) (e : State) => e.running = true ∧ e.power.entry = some x ∧ x.kind = .standby ∧ x.aborting = 0 ∧
      x.step = 5 ∧ e.entryAcked x = true) { kind := .standby, step := 5, announced := true, noticeNum := 9 } (now
      (stEntry 5))) ∧
    ((fun (x : Entry) (e : State) => e.running = true ∧ e.power.entry = some x ∧ x.kind = .standby ∧ x.aborting = 0 ∧
      x.step = 6 ∧ e.lfPending = false) { kind := .standby, step := 6, announced := true, noticeNum := 9 } (now
      (stEntry 6))) ∧
    (now (stEntry 6)).canonical ∧
    ((fun (x : Entry) (e : State) => e.running = true ∧ e.power.entry = some x ∧ x.kind = .standby ∧ x.aborting ≠ 0 ∧
      x.step = 6 ∧ x.announced = false ∧ e.lfPending = false) { kind := .standby, step := 6, aborting := 8 } (now
      stEntryAbort)) ∧
    (now stEntryAbort).canonical ∧
    ((fun (x : Entry) (e : State) => e.running = true ∧ e.power.entry = some x ∧ (x.kind = .ship ∨ x.aborting = 0) ∧
      (x.kind = .standby ∨ e.chargerOn = false) ∧ x.step = 3 ∧ x.stepAt + msAng 1 ≤ e.now ∧ e.stopRunning.dmaBusy =
      false) { kind := .standby, step := 3 } (now stEntry3)) ∧
    (now stEntry3).canonical ∧
    ((fun (x : Entry) (e : State) => e.running = true ∧ e.power.entry = some x ∧ x.step = 3 ∧ x.stepAt + msAng 1 ≤ e.now ∧
      e.stopRunning.dmaBusy = true) { kind := .standby, step := 3 } (now stEntry3Parked)) ∧
    ((fun (x : Entry) (e : State) => e.running = true ∧ e.power.entry = some x ∧ x.kind = .standby ∧ x.aborting = 0 ∧
      x.step = 5 ∧ x.stepAt + msAng 50 ≤ e.now) { kind := .standby, step := 5 } (now stEntry5)) ∧
    ((fun (x : Entry) (e : State) => e.running = true ∧ e.power.entry = some x ∧ x.kind = .ship ∧ e.chargerOn = false ∧
      x.step = 5 ∧ x.stepAt + msAng 50 ≤ e.now) { kind := .ship, step := 5 } (now stShip5)) ∧
    (now stShip5).canonical ∧
    ((fun (x : Entry) (e : State) => e.running = true ∧ e.power.entry = some x ∧ x.step ≤ 4 ∧ x.startedAt + secAng 2 ≤
      e.now ∧ x.announced = false) { kind := .standby, step := 3 } (now stEntry3)) ∧
    ((fun (wakein : Bool) (e : State) => e.power.phase = .standby ∧ ((e.power.wakeReq ||| 8 * b2n wakein) &&& (e.fld
      0x110014 3 0 ||| 1)) ≠ 0) false (now stStandbyRind)) ∧
    (now stStandbyRind).canonical ∧
    ((fun (wakein : Bool) (e : State) => ((e.power.wakeReq ||| 8 * b2n wakein) &&& (e.fld 0x110014 3 0 ||| 1)) = 0) false
      (now stStandby)) ∧
    ((fun (wakein : Bool) (x : Entry) (e : State) => e.power.phase = .run ∧ e.power.entry = some x ∧ x.kind = .standby ∧
      ((e.power.wakeReq ||| 8 * b2n wakein) &&& (e.fld 0x110014 3 0 ||| 1)) ≠ 0) false { kind := .standby, step := 6 }
      (now stEntryRind)) ∧
    (now stEntryRind).canonical ∧
    ((fun (e : State) => e.power.phase = .waking ∧ e.power.vdd5Ok = true) (now stWaking5)) ∧
    (now stWaking5).canonical ∧
    ((fun (e : State) => e.power.phase ≠ .waking ∨ e.power.vdd5Ok = false) (now stRun)) := by
  refine ⟨?_, ?_, ?_, ?_, ?_, ?_, ?_, ?_, ?_, ?_, ?_, ?_, ?_, ?_, ?_, ?_, ?_, ?_, ?_, ?_, ?_, ?_, ?_, ?_, ?_, ?_⟩ <;> decide +kernel

/-- The conditions of ReadWriteModify are met, clause by clause. -/
theorem witness_ReadWriteModify :
    ((fun (seq : BitVec 16) (args : List Byte) (e : State) => e.takes seq ∧ 4 ≤ args.length ∧ rangeRefusal (frameNat args 4
      3) (frameNat args 7 1) = none ∧ ∀ a ∈ wordAddrs (frameNat args 4 3) (frameNat args 7 1), inSram a = true) 7
      [0x00, 0x00, 0x80, 2] (now stRun)) ∧
    ((fun (seq : BitVec 16) (args : List Byte) (e : State) => e.takes seq ∧ 4 ≤ args.length ∧ (frameNat args 7 1 = 0 ∨ 14 <
      frameNat args 7 1)) 7 [0x00, 0x00, 0x80, 15] (now stRun)) ∧
    ((fun (seq : BitVec 16) (args : List Byte) (e : State) => e.takes seq ∧ 4 ≤ args.length ∧ 1 ≤ frameNat args 7 1 ∧
      frameNat args 7 1 ≤ 14 ∧ frameNat args 4 3 % 4 ≠ 0) 7 [0x02, 0x00, 0x80, 1] (now stRun)) ∧
    ((fun (seq : BitVec 16) (args : List Byte) (e : State) => e.takes seq ∧ 4 ≤ args.length ∧ frameNat args 7 1 = 1 ∧
      frameNat args 4 3 % 4 = 0 ∧ implemented (frameNat args 4 3) = false) 7 [0x00, 0x00, 0x12, 1] (now stRun)) ∧
    ((fun (seq : BitVec 16) (args : List Byte) (e : State) => e.takes seq ∧ 8 ≤ args.length ∧ frameNat args 7 1 = 1 ∧
      frameNat args 4 3 % 4 = 0 ∧ inSram (frameNat args 4 3) = true ∧ e.cfg.state = .idle) 7 [0x00, 0x00, 0x80, 1, 1,
      2, 3, 4] (now stRun)) ∧
    ((fun (seq : BitVec 16) (args : List Byte) (e : State) => e.takes seq ∧ 12 ≤ args.length ∧ frameNat args 7 1 = 0 ∧
      frameNat args 4 3 % 4 = 0 ∧ inSram (frameNat args 4 3) = true ∧ e.cfg.state = .idle) 7 [0x00, 0x00, 0x80, 0, 15,
      0, 0, 0, 5, 0, 0, 0] (now stRun)) := by
  refine ⟨?_, ?_, ?_, ?_, ?_, ?_⟩ <;> decide +kernel

/-- The conditions of PingResetAndResponses are met, clause by clause. -/
theorem witness_PingResetAndResponses :
    ((fun (seq : BitVec 16) (args : List Byte) (e : State) => e.takes seq) 7 [] (now stRun)) ∧
    ((fun (seq : BitVec 16) (args : List Byte) (e : State) => e.takes seq ∧ 2 ≤ args.length ∧ frameNat args 4 2 = 0x3CA5) 7
      [0xA5, 0x3C] (now stRun)) ∧
    ((fun (seq : BitVec 16) (args : List Byte) (e : State) => e.takes seq ∧ 2 ≤ args.length ∧ frameNat args 4 2 ≠ 0x3CA5) 7
      [0xA5, 0x3D] (now stRun)) ∧
    ((fun (seq : BitVec 16) (op : Byte) (args : List Byte) (e : State) => e.takes seq ∧ knownOps.contains op.toNat = false)
      7 0x7F [] (now stRun)) ∧
    ((fun (seq : BitVec 16) (args : List Byte) (f : List Byte) (e : State) => e.online = true ∧ e.link.stale = false ∧
      e.linkBusy = false ∧ e.link.cache = some { seq := seq.toNat, op := 0x11, frame := f }) 7 [] [0x02] (now (stCached
      0x11))) ∧
    ((fun (seq : BitVec 16) (args : List Byte) (f : List Byte) (e : State) => e.online = true ∧ e.link.stale = false ∧
      e.linkBusy = false ∧ e.link.cache = some { seq := seq.toNat, op := 0x20, frame := f }) 7 [] [0x02] (now (stCached
      0x20))) ∧
    ((fun (seq : BitVec 16) (args : List Byte) (f : List Byte) (e : State) => e.online = true ∧ e.link.stale = false ∧
      e.linkBusy = false ∧ e.link.cache = some { seq := seq.toNat, op := 0x02, frame := f }) 7 [] [0x02] (now (stCached
      0x02))) ∧
    ((fun (seq : BitVec 16) (args : List Byte) (op : Nat) (f : List Byte) (e : State) => e.online = true ∧ e.link.stale =
      false ∧ e.linkBusy = false ∧ e.linkStalled = false ∧ e.link.heldIn = [] ∧ e.link.cache = some { seq := seq.toNat, op := op, frame := f }
      ∧ op ≠ 0x11) 7 [] 0x20 [0x02] (now (stCached 0x20))) := by
  refine ⟨?_, ?_, ?_, ?_, ?_, ?_, ?_, ?_⟩ <;> decide +kernel

/-- The conditions of TransactionCommands are met, clause by clause. -/
theorem witness_TransactionCommands :
    ((fun (seq : BitVec 16) (args : List Byte) (p : CommitPoint) (e : State) => e.takes seq ∧ 4 ≤ args.length ∧ e.cfg.state
      = .idle ∧ pointOf args = some p) 7 [0, 0, 0, 0] .immediate (now stRun)) ∧
    ((fun (seq : BitVec 16) (args : List Byte) (p : CommitPoint) (e : State) => e.takes seq ∧ 4 ≤ args.length ∧ e.cfg.state
      = .idle ∧ pointOf args = some p) 7 [1, 2, 1, 0] (.wheelZero 2) (now stRun)) ∧
    (now stRun).canonical ∧
    ((fun (seq : BitVec 16) (args : List Byte) (e : State) => e.takes seq ∧ 4 ≤ args.length ∧ e.cfg.state ≠ .idle) 7 [0, 0,
      0, 0] (now stOpened)) ∧
    ((fun (seq : BitVec 16) (args : List Byte) (e : State) => e.takes seq ∧ e.cfg.state = .opened ∧ e.closeFailure = none)
      7 [] (now stOpened)) ∧
    (now stOpened).canonical ∧
    ((fun (seq : BitVec 16) (args : List Byte) (st d : Nat) (e : State) => e.takes seq ∧ e.cfg.state = .opened ∧
      e.closeFailure = some (st, d)) 7 [] 0x23 0xE0010 (now stOpenedBad)) ∧
    ((fun (seq : BitVec 16) (args : List Byte) (e : State) => e.takes seq ∧ e.cfg.state = .idle) 7 [] (now stRun)) ∧
    ((fun (seq : BitVec 16) (args : List Byte) (e : State) => e.takes seq ∧ e.cfg.state ≠ .idle) 7 [] (now stOpened)) ∧
    ((fun (seq : BitVec 16) (args : List Byte) (e : State) => e.takes seq ∧ e.cfg.staged = false) 7 [] (now stOpened)) := by
  refine ⟨?_, ?_, ?_, ?_, ?_, ?_, ?_, ?_, ?_, ?_⟩ <;> decide +kernel

/-- The conditions of ImagesRecordsAndLog are met, clause by clause. -/
theorem witness_ImagesRecordsAndLog :
    ((fun (seq : BitVec 16) (args : List Byte) (e : State) => e.takes seq ∧ 4 ≤ args.length ∧ e.cave.imgUpd = none ∧
      e.imgWriting = false ∧ e.cave.mode ≠ .readonly ∧ 0x100 ≤ frameNat args 4 4 ∧ frameNat args 4 4 ≤ 0x200000 ∧
      e.blockSize ≠ 0 ∧ e.blocksFor (frameNat args 4 4) ≤ (e.goodSlotBlocks e.updateTarget.1).length) 7 [0, 1, 0, 0]
      (now stNand)) ∧
    (now stNand).canonical ∧
    ((fun (seq : BitVec 16) (args : List Byte) (e : State) => e.takes seq ∧ 4 ≤ args.length ∧ e.cave.imgUpd = none ∧
      e.imgWriting = false ∧ e.cave.mode ≠ .readonly ∧ (frameNat args 4 4 < 0x100 ∨ 0x200000 < frameNat args 4 4)) 7
      [255, 0, 0, 0] (now stRun)) ∧
    ((fun (seq : BitVec 16) (args : List Byte) (u : ImgUpd) (e : State) => e.takes seq ∧ imgNeed args ≤ args.length ∧
      e.cave.imgUpd = some u ∧ u.ended = false ∧ 1 ≤ frameNat args 7 1 ∧ frameNat args 7 1 ≤ 56 ∧ frameNat args 4 3 =
      u.got ∧ u.got + frameNat args 7 1 ≤ u.len ∧ u.full = [] ∧ u.buf.length + frameNat args 7 1 < e.nand.page) 7 [0,
      0, 0, 2, 9, 9] { slot := 1, gen := 2, len := 256, count := 1 } (now stUpdate)) ∧
    ((fun (seq : BitVec 16) (args : List Byte) (e : State) => e.takes seq ∧ imgNeed args ≤ args.length ∧ e.cave.imgUpd =
      none) 7 [0, 0, 0, 1, 9] (now stRun)) ∧
    ((fun (seq : BitVec 16) (args : List Byte) (u : ImgUpd) (e : State) => e.takes seq ∧ e.cave.imgUpd = some u ∧ u.ended =
      false ∧ u.len ≤ u.got) 7 [] { slot := 1, gen := 2, len := 256, count := 1, got := 256, used := [1], buf := [1, 2] }
      (now stUpdateAll)) ∧
    (now stUpdateAll).canonical ∧
    ((fun (seq : BitVec 16) (args : List Byte) (e : State) => e.takes seq ∧ e.cave.imgUpd.all (fun u => decide (u.got <
      u.len)) = true) 7 [] (now stRun)) ∧
    ((fun (seq : BitVec 16) (args : List Byte) (u : ImgUpd) (e : State) => e.takes seq ∧ e.cave.imgUpd = some u) 7 [] { slot := 1, gen := 2, len := 256, count := 1 }
      (now stUpdate)) ∧
    (now stUpdate).canonical ∧
    ((fun (seq : BitVec 16) (args : List Byte) (e : State) => e.takes seq ∧ e.cave.imgUpd = none) 7 [] (now stRun)) ∧
    ((fun (seq : BitVec 16) (args : List Byte) (e : State) => e.takes seq ∧ 4 ≤ args.length ∧ frameNat args 4 2 ≤ 255 ∧
      e.caveServes = false) 7 [0, 0, 0, 0] (now stRun)) ∧
    ((fun (seq : BitVec 16) (args : List Byte) (body : List Byte) (u : State) (e : State) => e.takes seq ∧ 4 ≤ args.length
      ∧ frameNat args 4 2 ≤ 255 ∧ e.caveServes = true ∧ e.served.cachedRecord (frameNat args 4 2) = some (body, u) ∧
      frameNat args 6 2 < body.length) 7 [3, 0, 0, 0] stRecordBytes stRecordAfter (now stRecord)) ∧
    ((fun (seq : BitVec 16) (args : List Byte) (e : State) => e.takes seq ∧ 4 ≤ args.length ∧ 255 < frameNat args 4 2 ∧
      frameNat args 4 2 ≠ 0xFFFF) 7 [0, 1, 0, 0] (now stRun)) ∧
    ((fun (seq : BitVec 16) (args : List Byte) (e : State) => e.takes seq ∧ 4 ≤ args.length ∧ e.caveServes = false) 7 [0,
      0, 0, 0] (now stRun)) ∧
    ((fun (seq : BitVec 16) (args : List Byte) (x : LogEntry) (e : State) => e.takes seq ∧ 4 ≤ args.length ∧ e.caveServes =
      true ∧ e.bufferedEntry (frameNat args 4 4) = some x) 7 [4, 0, 0, 0] { num := 4, mount := 1, time := 9, src := 3, payload := [1, 2] }
      (now stLogged)) := by
  refine ⟨?_, ?_, ?_, ?_, ?_, ?_, ?_, ?_, ?_, ?_, ?_, ?_, ?_, ?_, ?_, ?_⟩ <;> decide +kernel

/-- The conditions of SelfTesting are met, clause by clause. -/
theorem witness_SelfTesting :
    ((fun (seq : BitVec 16) (args : List Byte) (e : State) => e.takes seq ∧ 3 ≤ args.length ∧ frameNat args 4 1 = 1 ∧
      e.cfg.testAdcA = .idle ∧ e.domainOn 4 = true ∧ e.convOn .adcA = true) 7 [1, 0, 0] (now stRun)) ∧
    ((fun (seq : BitVec 16) (args : List Byte) (e : State) => e.takes seq ∧ 3 ≤ args.length ∧ frameNat args 4 1 = 0 ∧
      e.cfg.testAngle = .idle ∧ e.restedHalfSecond = false) 7 [0, 0, 0] (now stTurning)) ∧
    ((fun (seq : BitVec 16) (args : List Byte) (e : State) => e.takes seq ∧ 3 ≤ args.length ∧ 3 < frameNat args 4 1) 7 [4,
      0, 0] (now stRun)) ∧
    ((fun (seq : BitVec 16) (args : List Byte) (e : State) => e.takes seq ∧ 3 ≤ args.length ∧ frameNat args 4 1 = 1 ∧
      e.cfg.testAdcA ≠ .idle) 7 [1, 0, 0] (now stTesting)) ∧
    ((fun (deadline : Nat) (e : State) => e.running = true ∧ e.cfg.testAngle = .queued deadline ∧ e.restedHalfSecond = true
      ∧ e.now < deadline) 500000000 (now stTestQueued)) ∧
    (now stTestQueued).canonical ∧
    ((fun (e : State) => e.restedHalfSecond = false) (now stTurning)) ∧
    ((fun (pass : Bool) (detail : Word) (since deadline : Nat) (e : State) => e.running = true ∧ e.cfg.testAngle = .running
      since deadline) true 0 0 500000000 (now stTestRunning)) ∧
    (now stTestRunning).canonical ∧
    ((fun (deadline : Nat) (e : State) => e.running = true ∧ e.cfg.testAngle = .queued deadline ∧ deadline ≤ e.now) 0 (now
      stTestOverdue)) ∧
    ((fun (r : AdcTest) (since deadline : Nat) (e : State) => e.running = true ∧ e.cfg.testAdcA = .running since deadline ∧
      e.convOn .adcA = true ∧ e.adcDetail .adcA r % 32 = 0) goodReadings 0 500000000 (now stTesting)) ∧
    ((fun (r : AdcTest) (e : State) => e.cfg.testAdcA = .idle) goodReadings (now stRun)) ∧
    ((fun (since deadline b : Nat) (e : State) => e.running = true ∧ e.cfg.testFusion = .running since deadline ∧
      e.fus.testBits = some b) 0 0 0 (now stFusTest)) ∧
    (now stFusTest).canonical := by
  refine ⟨?_, ?_, ?_, ?_, ?_, ?_, ?_, ?_, ?_, ?_, ?_, ?_, ?_, ?_⟩ <;> decide +kernel

/-- The conditions of Challenges are met, clause by clause. -/
theorem witness_Challenges :
    ((fun (seq : BitVec 16) (args : List Byte) (e : State) => e.takes seq ∧ 1 ≤ args.length ∧ e.challengeRefusal (frameNat
      args 4 1) = none) 7 [5] (now stFactory)) ∧
    (now stFactory).canonical ∧
    ((fun (seq : BitVec 16) (args : List Byte) (st d : Nat) (e : State) => e.takes seq ∧ 1 ≤ args.length ∧
      e.challengeRefusal (frameNat args 4 1) = some (st, d)) 7 [5] 0x14 4 (now stFactory0)) ∧
    ((fun (seq : BitVec 16) (args : List Byte) (c : Challenge) (e : State) => e.takes seq ∧ 36 ≤ args.length ∧ frameNat
      args 4 1 = 0 ∧ e.liveChallenge = some c) 7 (List.replicate 36 0) aChallenge (now stChallenged)) ∧
    ((fun (seq : BitVec 16) (args : List Byte) (e : State) => e.takes seq ∧ 36 ≤ args.length ∧ frameNat args 4 1 = 1 ∧
      e.liveChallenge = none) 7 (1 :: List.replicate 35 0) (now stRun)) ∧
    ((fun (target : BitVec 8) (e : State) => e.jtagAt 0x08 = true ∧ e.power.phase ≠ .memtest ∧ e.life.transition = none ∧
      e.challengeRefusal target.toNat = none) 5 (now stPort)) ∧
    (now stPort).canonical ∧
    ((fun (target : BitVec 8) (st d : Nat) (e : State) => e.jtagAt 0x08 = true ∧ e.power.phase ≠ .memtest ∧
      e.life.transition = none ∧ e.challengeRefusal target.toNat = some (st, d)) 9 0x11 0 (now stPort)) ∧
    ((fun (index : BitVec 8) (c : Challenge) (e : State) => e.jtagAt 0x08 = true ∧ e.power.phase ≠ .memtest ∧
      e.life.transition = none ∧ e.liveChallenge = some c ∧ index.toNat < 8) 2 aChallenge (now stChallenged)) ∧
    (now stChallenged).canonical ∧
    ((fun (index : BitVec 8) (e : State) => e.jtagAt 0x08 = true ∧ e.power.phase ≠ .memtest ∧ e.life.transition = none ∧
      (e.liveChallenge = none ∨ 8 ≤ index.toNat)) 9 (now stPort)) ∧
    ((fun (index : BitVec 8) (value : Word) (c : Challenge) (e : State) => e.jtagAt 0x08 = true ∧ e.power.phase ≠ .memtest
      ∧ e.life.transition = none ∧ e.liveChallenge = some c ∧ index.toNat < 8 ∧ c.r.length = 32) 2 0x11223344
      aChallenge (now stChallenged)) ∧
    ((fun (index : BitVec 8) (value : Word) (e : State) => e.jtagAt 0x08 = true ∧ e.power.phase ≠ .memtest ∧
      e.life.transition = none ∧ 8 ≤ index.toNat) 8 0 (now stPort)) ∧
    ((fun (index : BitVec 8) (value : Word) (e : State) => e.jtagAt 0x08 = true ∧ e.power.phase ≠ .memtest ∧
      e.life.transition = none ∧ index.toNat < 8) 2 0x11223344 (now stPort)) := by
  refine ⟨?_, ?_, ?_, ?_, ?_, ?_, ?_, ?_, ?_, ?_, ?_, ?_, ?_, ?_⟩ <;> decide +kernel

/-- The conditions of NoticesAndAcknowledgement are met, clause by clause. -/
theorem witness_NoticesAndAcknowledgement :
    ((fun (n : Notice) (rest : List Notice) (e : State) => e.online = true ∧ e.link.stale = false ∧ e.link.held = none ∧
      e.link.ring = n :: rest ∧ n.queued = true) { num := 1, code := 2, time := 0, payload := [] } [] (now stNoticed)) ∧
    ((fun (e : State) => e.link.stale = true ∨ e.link.held.isSome = true ∨ e.online = false) (now State.reset)) ∧
    ((fun (number : BitVec 16) (freed rest : List Notice) (e : State) => e.online = true ∧ e.link.cycIn = [] ∧ e.link.stale
      = false ∧ splitAck number.toNat e.link.ring = some (freed, rest) ∧ (∀ n ∈ freed, n.code ≠ 0x08 ∧ n.code ≠ 0x17))
      1 [{ num := 1, code := 2, time := 0, payload := [], sent := true, queued := false }] [] (now stSent)) ∧
    ((fun (number : BitVec 16) (e : State) => e.online = true ∧ e.link.cycIn = [] ∧ splitAck number.toNat e.link.ring =
      none) 5 (now stRun)) ∧
    ((fun (e : State) => e.online = true ∧ e.link.stale = false ∧ e.oldestDue = true ∧ e.link.retry < 3) (now (stSentLate
      0))) ∧
    ((fun (e : State) => e.online = true ∧ e.link.stale = false ∧ e.oldestDue = true ∧ e.link.retry = 3) (now (stSentLate
      3))) ∧
    ((fun (e : State) => e.link.retry = 3 ∨ e.link.stale = true ∨ e.oldestDue = false) (now stRun)) ∧
    ((fun (f : BusFrame) (e : State) => e.online = true ∧ e.link.active.onCommandId f = true ∧ (f.fd = false ∨ f.remote =
      true ∨ f.bytes.length < 4)) { ident := stRun.link.active.ident 0, ext := false, fd := false, remote := false, bytes := [] }
      (now stRun)) ∧
    ((fun (f : BusFrame) (e : State) => e.link.active.onCommandId f = false) { ident := 5, ext := true, fd := true, remote := false, bytes := [] }
      (now stRun)) := by
  refine ⟨?_, ?_, ?_, ?_, ?_, ?_, ?_, ?_, ?_⟩ <;> decide +kernel

/-- The conditions of CanController are met, clause by clause. -/
theorem witness_CanController :
    ((fun (e : State) => e.online = true) (now stRun)) ∧
    (now stRun).canonical ∧
    ((fun (e : State) => e.linkUp = true ∧ e.link.can = .busOff) (now stBusOff)) ∧
    (now stBusOff).canonical ∧
    ((fun (tx : BitVec 9) (rx : BitVec 8) (e : State) => e.online = true ∧ (127 < tx.toNat ∨ 127 < rx.toNat)) 128 0 (now
      stRun)) ∧
    ((fun (tx : BitVec 9) (rx : BitVec 8) (e : State) => e.online = true ∧ tx.toNat ≤ 127 ∧ rx.toNat ≤ 127) 127 127 (now
      stRun)) ∧
    ((fun (e : State) => e.linkUp = true ∧ e.link.can = .integrating ∧ e.link.txErr ≤ 127 ∧ e.link.rxErr ≤ 127) (now
      stIntegrating)) ∧
    ((fun (e : State) => e.running = true ∧ e.link.settingsPend = true ∧ e.link.can ≠ .busOff) (now stSettings)) ∧
    ((fun (e : State) => e.link.settingsPend = false) (now stRun)) := by
  refine ⟨?_, ?_, ?_, ?_, ?_, ?_, ?_, ?_, ?_⟩ <;> decide +kernel

/-- The conditions of RegisterWrites are met, clause by clause. -/
theorem witness_RegisterWrites :
    ((fun (m : Master) (addr : BitVec 24) (value : Word) (e : State) => e.running = true ∧ inSram addr.toNat = true) .link
      0x800000 5 (now stRun)) ∧
    ((fun (addr : BitVec 24) (value : Word) (e : State) => e.running = true ∧ e.cfg.state = .opened ∧ rwsMask addr.toNat ≠
      0 ∧ e.accessFails .link true addr.toNat true = false ∧ inSram addr.toNat = false ∧ e.shadowBytes + 4 *
      e.newShadowWords [addr.toNat] ≤ 4096) 0x20008 0x0505 (now stOpened)) ∧
    ((fun (addr : BitVec 24) (value : Word) (e : State) => e.running = true ∧ e.cfg.state = .armed ∧ rwsMask addr.toNat ≠ 0
      ∧ e.accessFails .link true addr.toNat true = false ∧ inSram addr.toNat = false) 0x20008 0x0505 (now stArmed)) ∧
    ((fun (n : Fin 16) (addr : BitVec 24) (value : Word) (e : State) => e.running = true ∧ rwsMask addr.toNat ≠ 0 ∧
      e.accessFails (.dma n) true addr.toNat true = false ∧ inSram addr.toNat = false) 3 0x20008 0x0505 (now stRun)) ∧
    (now stRun).canonical ∧
    ((fun (m : Master) (addr : BitVec 24) (value : Word) (e : State) => e.running = true ∧ implemented addr.toNat = false)
      .link 0x120000 5 (now stRun)) ∧
    ((fun (value : Word) (e : State) => e.running = true ∧ e.life.state ≠ .scrap ∧ e.power.lfLck = []) 0x4C4B0001 (now
      stRun)) ∧
    ((fun (b : LfBlock) (x : LfWrite) (e : State) => e.lfQueue b = [x] ∧ x.commit = false ∧ x.addr ≠ 0x110004 ∧ x.addr ≠
      0xE0004 ∧ x.addr ≠ 0xD0018 ∧ e.link.held = none ∧ e.cfg.waitCmd = none) .pwr { addr := 0x110018, value := 8 }
      (now stCrossing)) ∧
    (now stCrossing).canonical := by
  refine ⟨?_, ?_, ?_, ?_, ?_, ?_, ?_, ?_, ?_⟩ <;> decide +kernel

/-- The conditions of StagedCommits are met, clause by clause. -/
theorem witness_StagedCommits :
    ((fun (m : Master) (e : State) => e.running = true ∧ e.life.state ≠ .scrap ∧ e.cfg.state = .opened ∧ e.cfg.staged =
      true ∧ e.closeFailure = none) .link (now stStaged)) ∧
    (now stStaged).canonical ∧
    ((fun (m : Master) (e : State) => e.running = true ∧ e.life.state ≠ .scrap ∧ e.cfg.state = .idle) .link (now stRun)) ∧
    ((fun (m : Master) (mask : Word) (e : State) => e.running = true ∧ e.life.state ≠ .scrap ∧ (e.cfg.state = .opened ∨
      e.cfg.state = .staging)) .link 6 (now stStaged)) ∧
    ((fun (m : Master) (mask : Word) (e : State) => e.running = true ∧ e.life.state ≠ .scrap ∧ (e.cfg.state = .idle ∨
      e.cfg.state = .armed)) .link 6 (now stRun)) ∧
    ((fun (v : Word) (e : State) => e.running = true ∧ e.cfg.state = .armed ∧ e.cfg.dmaWait = none ∧ e.cfg.staged = false ∧
      e.cfg.last = true ∧ e.pointReached = true ∧ e.cfg.shadow = [(0x20008, v)] ∧ e.cfg.hold = 0 ∧ e.cfg.holdCh = 0 ∧
      e.snapAt = [] ∧ e.closeFailure = none) 0x0505 (now stArmedCtrl)) ∧
    (now stArmedCtrl).canonical ∧
    ((fun (st d : Nat) (e : State) => e.running = true ∧ e.cfg.state = .armed ∧ e.cfg.dmaWait = none ∧ e.pointReached =
      true ∧ e.waitsForTest (e.cfg.shadow.map Prod.fst) = false ∧ e.waitChannels = 0 ∧ e.closeFailure = some (st, d))
      0x23 0xE0010 (now stArmedBad)) ∧
    (now stArmedBad).canonical ∧
    ((fun (e : State) => e.running = true ∧ e.cfg.state = .armed ∧ e.cfg.dmaWait = none ∧ e.pointReached = true ∧
      e.waitsForTest (e.cfg.shadow.map Prod.fst) = false ∧ e.waitChannels ≠ 0) (now stArmedDma)) ∧
    ((fun (e : State) => e.cfg.state ≠ .armed ∨ e.pointReached = false) (now stRun)) ∧
    ((fun (since st d : Nat) (e : State) => e.running = true ∧ e.cfg.state = .armed ∧ e.cfg.dmaWait = some since ∧
      e.armedWaitOver since = true ∧ e.closeFailure = some (st, d)) 0 0x23 0xE0010 (now stWaitBad)) ∧
    (now stWaitBad).canonical ∧
    ((fun (since : Nat) (e : State) => e.running = true ∧ e.cfg.state = .armed ∧ e.cfg.dmaWait = some since ∧
      e.armedWaitOver since = true ∧ e.cfg.staged = false ∧ e.cfg.last = true ∧ e.closeFailure = none) 0 (now
      stWaitGood)) ∧
    (now stWaitGood).canonical ∧
    ((fun (since : Nat) (e : State) => e.cfg.state = .armed ∧ e.cfg.dmaWait = some since ∧ e.armedWaitOver since = false)
      200000000 (now stArmedDmaWait)) ∧
    ((fun (e : State) => e.running = true ∧ e.cfg.state = .armed ∧ e.cfg.pointSeen = false ∧ e.cfg.armedAt + msAng (10 *
      e.cfg.armTo) ≤ e.now) (now stArmedLate)) ∧
    (now stArmedLate).canonical ∧
    ((fun (e : State) => e.running = true ∧ e.cfg.state = .staging ∧ e.cfg.stageAt + msAng (10 * e.cfg.stgTo) ≤ e.now) (now
      stStagingLate)) ∧
    (now stStagingLate).canonical ∧
    ((fun (e : State) => e.cfg.state ≠ .armed) (now stRun)) := by
  refine ⟨?_, ?_, ?_, ?_, ?_, ?_, ?_, ?_, ?_, ?_, ?_, ?_, ?_, ?_, ?_, ?_, ?_, ?_, ?_, ?_, ?_⟩ <;> decide +kernel

/-- The conditions of ToothEdges are met, clause by clause. -/
theorem witness_ToothEdges :
    ((fun (w : Fin 4) (onB : Bool) (level : InLevel) (peak : Nat) (e : State) => e.running = true ∧ e.toothUsed w onB =
      true ∧ (level = .low ∨ level = .high) ∧ (if onB then (e.wheels[w]).lvlB else (e.wheels[w]).lvlA) = .unknown ∧
      (e.cfg.state ≠ .armed ∨ e.cfg.point = .immediate)) 1 false .high 0 (now stWheels)) ∧
    (now stWheels).canonical ∧
    ((fun (w : Fin 4) (peak : Nat) (e : State) => e.running = true ∧ e.toothUsed w false = true ∧ (e.wheels[w]).lvlA = .low
      ∧ (e.wheelCfg w.val).sense = 0 ∧ (e.wheelCfg w.val).edge = 0 ∧ (e.wheelCfg w.val).dirSrc ≠ 1 ∧ e.angleTesting =
      false ∧ (e.wheels[w]).sync = .silent ∧ (e.wheels[w]).hasEdge = false ∧ (e.cfg.state ≠ .armed ∨ e.cfg.point =
      .immediate)) 0 0 (now stWheelLow)) ∧
    (now stWheelLow).canonical ∧
    ((fun (w : Fin 4) (peak : Nat) (e : State) => e.running = true ∧ e.toothUsed w false = true ∧ (e.wheels[w]).lvlA =
      .high ∧ (e.wheelCfg w.val).sense = 0 ∧ (e.wheelCfg w.val).edge = 0 ∧ (e.wheelCfg w.val).dirSrc ≠ 1 ∧
      e.angleTesting = false ∧ (e.cfg.state ≠ .armed ∨ e.cfg.point = .immediate)) 0 0 (now stWheelHigh)) ∧
    (now stWheelHigh).canonical ∧
    ((fun (w : Fin 4) (onB : Bool) (level : InLevel) (peak : Nat) (e : State) => e.running = false ∨ ((e.wheelCfg
      w.val).mode = 0 ∧ e.cfg.state ≠ .armed)) 2 false .high 0 (now stRun)) ∧
    (now stRun).canonical := by
  refine ⟨?_, ?_, ?_, ?_, ?_, ?_, ?_, ?_⟩ <;> decide +kernel

/-- The conditions of WheelConditions are met, clause by clause. -/
theorem witness_WheelConditions :
    ((fun (w : Fin 4) (e : State) => e.running = true ∧ (e.wheels[w]).stopDue (e.wheelCfg w.val) e.now = true ∧
      (e.wheels[w]).sync = .seek ∧ (e.cfg.state ≠ .armed ∨ e.cfg.point = .immediate)) 0 (now stSeekOld)) ∧
    (now stSeekOld).canonical ∧
    ((fun (w : Fin 4) (e : State) => e.running = false) 0 (now State.reset)) ∧
    ((fun (w : Fin 4) (e : State) => e.running = true ∧ (e.wheels[w]).coastDue (e.wheelCfg w.val) e.now = true ∧
      (e.cfg.state ≠ .armed ∨ e.cfg.point = .immediate)) 0 (now stLockedOld)) ∧
    (now stLockedOld).canonical ∧
    ((fun (w : Fin 4) (e : State) => e.running = true ∧ ((e.wheels[w]).sync = .seek ∨ (e.wheels[w]).sync = .provisional ∨
      (e.wheels[w]).sync = .lost) ∧ (e.wheelCfg w.val).deadSec ≠ 0 ∧ (e.wheels[w]).badSince + secAng (e.wheelCfg
      w.val).deadSec ≤ e.now ∧ e.bit (wheelBase w.val + 0x58) 0 = false) 0 (now stDead)) ∧
    (now stDead).canonical ∧
    ((fun (input : Fin 14) (e : State) => e.running = true ∧ e.boot.loaded = true ∧ input = 0 ∧ e.toothUsed 0 false = true
      ∧ (e.wheelCfg 0).sense = 0 ∧ e.fld 0x48 7 0 ≠ 0 ∧ (e.wheels[(0 : Fin 4)]).lvlA = .unknown ∧ e.boot.toothAt +
      msAng (10 * e.fld 0x48 7 0) ≤ e.now) 0 (now stStuck)) ∧
    (now stStuck).canonical ∧
    ((fun (input : Fin 14) (e : State) => e.running = false ∧ (input.val < 8 ∨ e.rindSamples = false)) 3 (now State.reset)) ∧
    ((fun (input : Fin 14) (i : Fin 6) (e : State) => 8 ≤ input.val ∧ i = Fin.ofNat 6 (input.val - 8) ∧ e.rindStuckDue i =
      true) 11 3 (now stRindStuck)) ∧
    (now stRindStuck).canonical ∧
    ((fun (i : Nat) (rest : List Nat) (e : State) => e.running = true ∧ e.boot.loaded = true ∧ e.fld 0x30800 7 0 ≠ 0 ∧
      e.convOn .adcB = true ∧ e.adcB.spare.isSome = true ∧ e.cfg.testAdcB = .idle ∧ e.bias.running = none ∧ e.now <
      e.bias.dueAt ∧ e.bias.queue = i :: rest ∧ e.biasReady i = true ∧ i ∉ rest) 0 [2] (now stBias)) ∧
    (now stBias).canonical ∧
    ((fun (plus minus idle : LegReading) (rail : RailReading) (i since : Nat) (v : Int × Int) (e : State) => e.bias.running
      = some (i, since) ∧ since + usAng 300 ≤ e.now ∧ e.convOn .adcB = true ∧ e.adcB.spare.isSome = true ∧ v =
      biasValues plus minus idle (e.inputVr i) ∧ biasClass (e.reg (if e.inputVr i then 0x30810 else 0x30808)) (e.reg
      ((if e.inputVr i then 0x30810 else 0x30808) + 4)) v.1 v.2 (Int.ofNat (if e.inputVr i then rail.vdd5 else
      rail.vio)) = 0) goodPlus goodMinus goodIdle goodRail 0 0 (biasValues goodPlus goodMinus goodIdle false) (now
      stBiasRun)) ∧
    ((fun (plus minus idle : LegReading) (rail : RailReading) (e : State) => e.bias.running = none) goodPlus goodMinus
      goodIdle goodRail (now stRun)) ∧
    ((fun (m : Master) (e : State) => e.running = true ∧ e.life.state ≠ .scrap) .link (now stRun)) ∧
    (now stRun).canonical := by
  refine ⟨?_, ?_, ?_, ?_, ?_, ?_, ?_, ?_, ?_, ?_, ?_, ?_, ?_, ?_, ?_, ?_, ?_, ?_⟩ <;> decide +kernel

/-- The conditions of EventsAndOutputs are met, clause by clause. -/
theorem witness_EventsAndOutputs :
    ((fun (m : Master) (ctl : Word) (d : EventDesc) (e : State) => e.running = true ∧ e.life.state ≠ .scrap ∧ d = { target := (e.copyOf m).ins.getD 0 0, arg := (e.copyOf m).ins.getD 1 0, rep := (e.copyOf m).ins.getD 2 0, ctl := ctl }
      ∧ (e.copyOf m).ins.length = 4 ∧ e.insertCode (Fin.ofNat 32 d.out) d = 0) .link 0 { target := 0, arg := 0, rep := 0, ctl := 0 }
      (now stEvq)) ∧
    (now stEvq).canonical ∧
    ((fun (m : Master) (ctl : Word) (d : EventDesc) (e : State) => e.running = true ∧ e.life.state ≠ .scrap ∧ d = { target := (e.copyOf m).ins.getD 0 0, arg := (e.copyOf m).ins.getD 1 0, rep := (e.copyOf m).ins.getD 2 0, ctl := ctl }
      ∧ (e.copyOf m).ins.length = 4 ∧ 1 < e.insertCode (Fin.ofNat 32 d.out) d) .link 0x5 { target := 0, arg := 0, rep := 0, ctl := 5 }
      (now stRun)) ∧
    (now stRun).canonical ∧
    ((fun (n : Fin 32) (d : EventDesc) (rest : List EventDesc) (e : State) => e.running = true ∧ e.stepTwo = e ∧ e.pulseDue
      n = false ∧ (e.outs[n]).headAt ≠ some e.now ∧ (e.outs[n]).queue = d :: rest ∧ e.dueKind n = 1 ∧ d.action = 0 ∧
      d.count = 0 ∧ d.ldrop = false) 5 (anEvent 0) [] (now (stEventDue 0))) ∧
    (now (stEventDue 0)).canonical ∧
    ((fun (n : Fin 32) (d : EventDesc) (rest : List EventDesc) (e : State) => e.running = true ∧ e.stepTwo = e ∧ e.pulseDue
      n = false ∧ (e.outs[n]).headAt ≠ some e.now ∧ (e.outs[n]).queue = d :: rest ∧ e.dueKind n = 1 ∧ d.action = 1 ∧
      d.count = 0 ∧ d.ldrop = false) 5 (anEvent 1) [] (now (stEventDue 1))) ∧
    (now (stEventDue 1)).canonical ∧
    ((fun (n : Fin 32) (e : State) => e.running = false ∨ (e.stepTwo = e ∧ e.pulseDue n = false ∧ ((e.outs[n]).queue = [] ∨
      e.dueKind n = 0))) 5 (now stRun)) ∧
    ((fun (n : Fin 32) (e : State) => e.running = true ∧ e.stepTwo = e ∧ e.pulseDue n = true) 5 (now stPulse)) ∧
    (now stPulse).canonical ∧
    ((fun (n : Fin 32) (e : State) => e.stepTwo = e ∧ e.pulseDue n = false) 5 (now stRun)) ∧
    ((fun (n : Fin 32) (due line : Nat) (spec : Bool) (e : State) => e.running = true ∧ (e.outs[n]).samples = [(due, line,
      spec)] ∧ due ≤ e.now) 5 0 3 false (now stProbe)) ∧
    (now stProbe).canonical ∧
    ((fun (n : Fin 32) (due line : Nat) (spec : Bool) (e : State) => (e.outs[n]).samples = [(due, line, spec)] ∧ e.now <
      due) 5 900000000 3 false (now stProbeLater)) ∧
    ((fun (m : Master) (mask : Word) (e : State) => e.running = true ∧ e.life.state ≠ .scrap) .link 0x20 (now (stEventDue
      0))) ∧
    ((fun (n : Fin 32) (e : State) => e.running = true ∧ (e.outs[n]).chop = true ∧ e.fld (evoBase n + 0xC) 6 5 = 2 ∧
      (e.outs[n]).chopAt + e.fld (evoBase n + 0xC) 25 16 ≤ e.now ∧ e.cmpActive (e.fld (evoBase n + 0xC) 3 0) = false) 5
      (now stChop)) ∧
    (now stChop).canonical ∧
    ((fun (n : Fin 32) (e : State) => (e.outs[n]).chop = false) 5 (now stRun)) ∧
    ((fun (k : Fin 16) (e : State) => e.running = true) 3 (now stRun)) := by
  refine ⟨?_, ?_, ?_, ?_, ?_, ?_, ?_, ?_, ?_, ?_, ?_, ?_, ?_, ?_, ?_, ?_, ?_, ?_, ?_, ?_⟩ <;> decide +kernel

/-- The conditions of Timers are met, clause by clause. -/
theorem witness_Timers :
    ((fun (mask : BitVec 16) (n : Fin 16) (e : State) => e.running = true ∧ mask.toNat.testBit n.val = true ∧
      (e.timers[n]).run = false) 4 2 (now stRun)) ∧
    (now stRun).canonical ∧
    ((fun (mask : BitVec 16) (n : Fin 16) (e : State) => (e.timers[n]).run = true ∧ (e.timers[n]).relDue = none) 4 2 (now
      stTimer)) ∧
    (now stTimer).canonical ∧
    ((fun (n : Fin 16) (e : State) => e.running = true ∧ (e.timers[n]).run = true ∧ (e.timers[n]).owed = 1 ∧ e.cfg.state ≠
      .armed ∧ e.timerTop n ≠ 0) 2 (now stTimerOwed)) ∧
    (now stTimerOwed).canonical ∧
    ((fun (n : Fin 16) (e : State) => (e.timers[n]).run = false ∨ (e.timers[n]).owed = 0) 2 (now stRun)) ∧
    ((fun (n : Fin 16) (c : Nat) (e : State) => e.running = true ∧ (e.timers[n]).rstDue = some c ∧ c ≤ e.now ∧
      (e.timers[n]).run = true) 2 0 (now stTimerRst)) ∧
    (now stTimerRst).canonical ∧
    ((fun (n : Fin 16) (e : State) => (e.timers[n]).rstDue = none) 2 (now stRun)) ∧
    ((fun (n : Fin 16) (chanB : Bool) (e : State) => e.running = true ∧ e.stepTwo = e ∧ (e.timers[n]).run = true ∧ (if
      chanB then (e.timers[n]).dueB (e.timerTop n) else (e.timers[n]).dueA (e.timerTop n)) = true) 2 true (now
      stTimerPass)) ∧
    (now stTimerPass).canonical ∧
    ((fun (n : Fin 16) (chanB : Bool) (e : State) => e.stepTwo = e ∧ (e.timers[n]).run = false) 2 false (now stRun)) ∧
    ((fun (n : Fin 16) (pin : Option Bool) (c : Nat) (e : State) => e.running = true ∧ e.stepTwo = e ∧ (e.timers[n]).capDue
      = [c] ∧ c ≤ e.now ∧ (e.timers[n]).run = true ∧ (e.timers[n]).capf = false) 2 none 0 (now stCapDue)) ∧
    ((fun (n : Fin 16) (e : State) => e.stepTwo = e ∧ (e.timers[n]).capDue = []) 2 (now stRun)) ∧
    ((fun (m : Master) (mask : BitVec 16) (n : Fin 16) (e : State) => e.running = true ∧ e.life.state ≠ .scrap ∧
      mask.toNat.testBit n.val = true) .link 4 2 (now stTimer)) ∧
    ((fun (m : Master) (n : Fin 16) (chanB : Bool) (value : Word) (e : State) => e.running = true ∧ e.life.state ≠ .scrap ∧
      e.bit (tmrBase n) (if chanB then 27 else 26) = true) .link 2 false 77 (now stPreload)) ∧
    (now stPreload).canonical ∧
    ((fun (m : Master) (n : Fin 16) (chanB : Bool) (value : Word) (e : State) => e.running = true ∧ e.life.state ≠ .scrap ∧
      e.bit (tmrBase n) (if chanB then 27 else 26) = false) .link 2 true 77 (now stRun)) ∧
    ((fun (m : Master) (n : Fin 16) (chanB : Bool) (value : Word) (e : State) => e.running = true ∧ e.life.state ≠ .scrap)
      .link 2 true 0x12345 (now stRun)) ∧
    ((fun (m : Master) (n : Fin 16) (cap : Bool) (e : State) => e.running = true ∧ e.life.state ≠ .scrap) .link 2 true (now
      stTimer)) := by
  refine ⟨?_, ?_, ?_, ?_, ?_, ?_, ?_, ?_, ?_, ?_, ?_, ?_, ?_, ?_, ?_, ?_, ?_, ?_, ?_, ?_, ?_⟩ <;> decide +kernel

/-- The conditions of SequenceControl are met, clause by clause. -/
theorem witness_SequenceControl :
    ((stRegStop.seq .adcA false).stops = [50000000] ∧ 50000000 ≤ stRegStop.convCycle ∧ stRegStop.dueTriggers .adcA false =
      [] ∧ stRegStop.followsA .adcA false = false ∧ (stRegStop.seq .adcA false).state ≠ .idle) ∧
    (∀ c ∈ (stRun.seq .adcA true).stops, stRun.convCycle < c) ∧
    ((fun (x : Conv) (inj : Bool) (e : State) => e.running = false ∨ e.dueTriggers x inj = []) .adcB true (now stRun)) ∧
    ((fun (x : Conv) (inj : Bool) (r : TrigReq) (e : State) => e.running = true ∧ e.dueTriggers x inj = [r] ∧ e.members x
      inj = [x] ∧ e.followsA x inj = false ∧ e.convOn x = false) .adcA false aTrigger (now stTrigOff)) ∧
    ((fun (x : Conv) (r : TrigReq) (e : State) => e.running = true ∧ e.dueTriggers x true = [r] ∧ e.members x true = [x] ∧
      e.followsA x true = false ∧ e.convOn x = true ∧ (e.seq x true).state = .idle) .adcA aTrigger (now stTrigInj)) ∧
    (now stTrigInj).canonical ∧
    ((fun (x : Conv) (r : TrigReq) (e : State) => e.running = true ∧ e.dueTriggers x true = [r] ∧ e.members x true = [x] ∧
      e.followsA x true = false ∧ e.convOn x = true ∧ (e.seq x true).state ≠ .idle) .adcA aTrigger (now stTrigBusy)) ∧
    (now stTrigBusy).canonical ∧
    ((fun (x : Conv) (r : TrigReq) (e : State) => e.running = true ∧ e.dueTriggers x false = [r] ∧ e.members x false = [x]
      ∧ e.followsA x false = false ∧ e.convOn x = true ∧ (e.seq x false).state = .idle ∧ e.injBusy x = false) .adcA
      aTrigger (now stTrigReg)) ∧
    ((fun (x : Conv) (r : TrigReq) (e : State) => e.running = true ∧ e.dueTriggers x false = [r] ∧ e.members x false = [x]
      ∧ e.followsA x false = false ∧ e.convOn x = true ∧ ((e.seq x false).state = .run ∨ (e.seq x false).state =
      .preempted)) .adcA aTrigger (now stTrigRegBusy)) ∧
    (now stTrigRegBusy).canonical ∧
    ((fun (m : Master) (mask : BitVec 4) (e : State) => e.running = true ∧ e.life.state ≠ .scrap) .link 5 (now stRun)) ∧
    (now stRun).canonical ∧
    ((fun (m : Master) (mask : BitVec 4) (e : State) => e.running = true ∧ e.life.state ≠ .scrap) .link 5 (now stRegRun)) := by
  refine ⟨?_, ?_, ?_, ?_, ?_, ?_, ?_, ?_, ?_, ?_, ?_, ?_, ?_, ?_⟩ <;> decide +kernel

/-- The conditions of Conversions are met, clause by clause. -/
theorem witness_Conversions :
    ((fun (x : Conv) (inj : Bool) (r : SeqReq) (k : Fin 9) (e : State) => (e.members x inj).foldl State.rotate e = e ∧
      e.dueTriggers x inj = [] ∧ (e.seq x inj).state = .run ∧ (e.seq x inj).pend = some r ∧ r.pendAt = e.convCycle ∧
      r.word = none ∧ r.entry < e.seqLen x inj ∧ e.members x inj = [x] ∧ e.followsA x inj = false ∧ e.convOn x = true ∧
      (e.adc x).dead = false ∧ (e.adc x).allocate e.convCycle = some k) .adcA false aRequest 0 (now stRegDue)) ∧
    (now stRegDue).canonical ∧
    ((fun (x : Conv) (inj : Bool) (e : State) => (e.members x inj).foldl State.rotate e = e ∧ e.dueTriggers x inj = [] ∧
      (e.seq x inj).pend = none) .adcB true (now stNoRot)) ∧
    ((fun (x : Conv) (inj : Bool) (r : SeqReq) (e : State) => (e.members x inj).foldl State.rotate e = e ∧ e.dueTriggers x
      inj = [] ∧ (e.seq x inj).pend = some r ∧ e.convCycle < r.pendAt) .adcA false { aRequest with pendAt := 80000000 }
      (now stRegLater)) ∧
    ((fun (x : Conv) (k : Fin 9) (raw : BitVec 16) (excess : Bool) (rawP : BitVec 16) (excessP : Bool) (j : ConvJob) (e :
      State) => e.running = true ∧ (e.adc x).jobs.find? (fun j => j.slice == k) = some j ∧ j.xchk = false ∧ j.doneAt ≤
      e.convCycle ∧ bitOf j.word 7 = false) .adcA 0 18350 false 0 false aJob (now stConverting)) ∧
    (now stConverting).canonical ∧
    ((fun (x : Conv) (k : Fin 9) (raw : BitVec 16) (excess : Bool) (rawP : BitVec 16) (excessP : Bool) (e : State) =>
      e.running = false ∨ (e.adc x).jobs.find? (fun j => j.slice == k) = none) .adcB 3 0 false 0 false (now stRun)) ∧
    ((fun (x : Conv) (k : Fin 9) (raw : BitVec 16) (excess : Bool) (rawP : BitVec 16) (excessP : Bool) (j : ConvJob) (e :
      State) => (e.adc x).jobs.find? (fun j => j.slice == k) = some j ∧ e.convCycle < j.doneAt) .adcA 0 0 false 0 false
      { aJob with start := 90000000 } (now stConvertingLate)) ∧
    ((fun (x : Conv) (k : Fin 9) (rawP : BitVec 16) (excessP : Bool) (j : ConvJob) (p : Fin 9) (e : State) => e.running =
      true ∧ (e.adc x).jobs.find? (fun j => j.slice == k) = some j ∧ j.xchk = false ∧ j.freeAt ≤ e.convCycle ∧ bitOf
      j.word 7 = false ∧ (e.adc x).spare = some p ∧ p ≠ k ∧ ((e.adc x).slices[k]).fails < 2) .adcA 0 0 false aJob 8
      (now stConverting)) := by
  refine ⟨?_, ?_, ?_, ?_, ?_, ?_, ?_, ?_, ?_⟩ <;> decide +kernel

/-- The conditions of ResultsStayInTheirFormat are met, clause by clause. -/
theorem witness_ResultsStayInTheirFormat :
    (fieldOf 0x400 5 4 < 3) ∧
    (fieldOf 0x403 5 4 < 3 ∧ bitOf 0x403 0 = true ∧ bitOf 0x403 1 = true) := by
  refine ⟨?_, ?_⟩ <;> decide +kernel

/-- The conditions of CalibrationAndRotation are met, clause by clause. -/
theorem witness_CalibrationAndRotation :
    ((fun (x : Conv) (lo mid hi : List (BitVec 16)) (k : Fin 9) (ofs gain : Int) (e : State) => e.convOn x = true ∧ (e.adc
      x).spare = some k ∧ (e.adc x).passRun = true ∧ e.spareBusy x = false ∧ lo.length = 64 ∧ mid.length = 64 ∧
      hi.length = 64 ∧ gain = passGain (meanOf lo) (meanOf hi) ∧ ofs = passOffset (meanOf lo) gain ∧ passCause ((e.adc
      x).slices[k]) (e.reg (adcBase x + 8)) ofs gain (passMidErr (meanOf mid) ofs gain) mid = 0) .adcA (List.replicate
      64 4096) (List.replicate 64 32768) (List.replicate 64 61440) 8 0 0 (now stAdcReady)) ∧
    (now stAdcReady).canonical ∧
    ((fun (x : Conv) (lo mid hi : List (BitVec 16)) (k : Fin 9) (ofs gain : Int) (e : State) => e.convOn x = true ∧ (e.adc
      x).spare = some k ∧ (e.adc x).passRun = true ∧ e.spareBusy x = false ∧ lo.length = 64 ∧ mid.length = 64 ∧
      hi.length = 64 ∧ gain = passGain (meanOf lo) (meanOf hi) ∧ ofs = passOffset (meanOf lo) gain ∧ passCause ((e.adc
      x).slices[k]) (e.reg (adcBase x + 8)) ofs gain (passMidErr (meanOf mid) ofs gain) mid ≠ 0 ∧ ((e.adc
      x).slices[k]).fails < 2) .adcA (List.replicate 64 0) (List.replicate 64 32768) (List.replicate 64 61440) 8
      (passOffset 0 (-69906)) (-69906) (now stAdcReady)) ∧
    ((fun (x : Conv) (lo mid hi : List (BitVec 16)) (e : State) => (e.adc x).spare = none ∨ e.convOn x = false ∨ (e.adc
      x).passRun = false) .adcA [] [] [] (now stNoSpare)) ∧
    ((fun (x : Conv) (k : Fin 9) (e : State) => e.convOn x = true ∧ (e.adc x).rotAt / 4 ≤ e.convCycle ∧ (e.adc x).spare =
      some k ∧ (e.adc x).passOk = true ∧ (e.adc x).outgoing = none) .adcA 8 (now stAdcPassed)) ∧
    ((fun (x : Conv) (k : Fin 9) (e : State) => e.convOn x = true ∧ (e.adc x).rotAt / 4 ≤ e.convCycle ∧ (e.adc x).spare =
      some k ∧ (e.adc x).passOk = false ∧ (e.adc x).passRun = false) .adcA 8 (now stAdcFailed)) ∧
    ((fun (x : Conv) (e : State) => e.convOn x = false ∨ e.convCycle < (e.adc x).rotAt / 4) .adcA (now stAdcLater)) ∧
    ((fun (x : Conv) (k p : Fin 9) (e : State) => e.running = true ∧ e.convOn x = true ∧ (e.adc x).outgoing = some k ∧
      (e.adc x).freeIn k e.convCycle = true ∧ (e.adc x).spare = some p) .adcA 0 8 (now stAdcHandover)) ∧
    ((fun (x : Conv) (e : State) => e.running = false ∨ e.convOn x = false ∨ (e.adc x).outgoing = none) .adcB (now stRun)) ∧
    ((fun (x : Conv) (e : State) => e.running = true) .adcB (now stRun)) ∧
    (now stRun).canonical := by
  refine ⟨?_, ?_, ?_, ?_, ?_, ?_, ?_, ?_, ?_, ?_, ?_⟩ <;> decide +kernel

/-- The conditions of ComparatorDecisions are met, clause by clause. -/
theorem witness_ComparatorDecisions :
    ((fun (c : Fin 16) (samples : List Int) (e : State) => e.cmpOn c = true ∧ (e.cmp c).ready = true ∧ (e.cmp c).active =
      false ∧ e.cmpSettles c true samples = true) 0 [2000000] (now stCmpReady)) ∧
    (now stCmpReady).canonical ∧
    ((fun (c : Fin 16) (samples : List Int) (e : State) => e.cmpOn c = false ∨ e.cmpSettles c true samples = false) 0 [0]
      (now stCmpReady)) ∧
    ((fun (c : Fin 16) (samples : List Int) (e : State) => e.cmpOn c = true ∧ (e.cmp c).ready = true ∧ (e.cmp c).active =
      true ∧ e.cmpSettles c false samples = true) 0 [0] (now stCmpActive)) ∧
    (now stCmpActive).canonical ∧
    ((fun (c : Fin 16) (samples : List Int) (e : State) => (e.cmp c).active = false) 3 [] (now stRun)) ∧
    ((fun (c : Fin 16) (samples : List Int) (e : State) => e.cmpOn c = true ∧ (e.cmp c).ready = false ∧ samples.length =
      e.fld (cmpBase c) 11 8 + 1 ∧ (e.cmp c).startAt + samples.length ≤ e.now ∧ e.cmpSettles c true samples = false) 0
      [0] (now stCmpOn)) ∧
    ((fun (c : Fin 16) (samples : List Int) (e : State) => e.cmpOn c = true ∧ (e.cmp c).ready = false ∧ samples.length =
      e.fld (cmpBase c) 11 8 + 1 ∧ (e.cmp c).startAt + samples.length ≤ e.now ∧ e.cmpSettles c true samples = true) 0
      [2000000] (now stCmpOn)) ∧
    (now stCmpOn).canonical := by
  refine ⟨?_, ?_, ?_, ?_, ?_, ?_, ?_, ?_, ?_⟩ <;> decide +kernel

/-- The conditions of DmaControl are met, clause by clause. -/
theorem witness_DmaControl :
    ((fun (n : Fin 16) (e : State) => e.running = true ∧ e.life.state ≠ .scrap ∧ ((e.ch n).state = .idle ∨ (e.ch n).state =
      .done) ∧ e.chEn n = true ∧ e.cfg.holdCh.testBit n.val = false) 2 (now stDmaIdle)) ∧
    ((fun (n : Fin 16) (e : State) => e.running = true ∧ e.life.state ≠ .scrap ∧ (e.chEn n = false ∨ e.cfg.holdCh.testBit
      n.val = true ∨ (e.ch n).state = .run ∨ (e.ch n).state = .wait ∨ (e.ch n).state = .suspended ∨ (e.ch n).state =
      .halted)) 2 (now stRun)) ∧
    ((fun (n : Fin 16) (e : State) => e.running = true ∧ e.life.state ≠ .scrap ∧ (e.ch n).parked = false) 2 (now (stDmaRun
      0x20000003))) ∧
    ((fun (n : Fin 16) (e : State) => e.running = true ∧ e.life.state ≠ .scrap ∧ (e.ch n).parked = true) 2 (now
      stDmaLfWrite)) ∧
    ((fun (n : Fin 16) (e : State) => e.running = true ∧ e.life.state ≠ .scrap ∧ (e.ch n).state = .suspended) 2 (now
      stDmaSuspended)) ∧
    ((fun (n : Fin 16) (e : State) => e.running = true ∧ e.life.state ≠ .scrap ∧ (e.ch n).state = .halted) 2 (now
      stDmaHalted)) ∧
    ((fun (n : Fin 16) (e : State) => e.running = true ∧ e.life.state ≠ .scrap ∧ ((e.ch n).state = .idle ∨ (e.ch n).state =
      .run ∨ (e.ch n).state = .wait ∨ (e.ch n).state = .done)) 2 (now stRun)) := by
  refine ⟨?_, ?_, ?_, ?_, ?_, ?_, ?_⟩ <;> decide +kernel

/-- The conditions of DmaSignalsAndLevels are met, clause by clause. -/
theorem witness_DmaSignalsAndLevels :
    ((fun (m : Master) (n : Fin 16) (mask : BitVec 16) (e : State) => e.running = true ∧ e.life.state ≠ .scrap) .link 4
      0x21 (now stRun)) ∧
    (now stRun).canonical ∧
    ((fun (m : Master) (n : Fin 16) (mask : BitVec 16) (e : State) => e.running = true ∧ e.life.state ≠ .scrap) .link 2 0x1
      (now stSignalled)) ∧
    (now stSignalled).canonical ∧
    ((fun (m : Master) (n : Fin 16) (amount : BitVec 16) (e : State) => e.running = true ∧ e.life.state ≠ .scrap ∧ (e.ch
      n).lvl = none) .link 2 7 (now stSignalled)) ∧
    ((fun (m : Master) (n : Fin 16) (amount : BitVec 16) (k : LevelCycle) (e : State) => e.running = true ∧ e.life.state ≠
      .scrap ∧ (e.ch n).lvl = some k ∧ k.cyc = e.now / 2) .link 2 7 { cyc := 100000000, was := 3, up := 9, down := 1 }
      (now stLevelled)) ∧
    (now stLevelled).canonical ∧
    ((fun (m : Master) (n : Fin 16) (amount : BitVec 16) (k : LevelCycle) (e : State) => e.running = true ∧ e.life.state ≠
      .scrap ∧ (e.ch n).lvl = some k ∧ k.cyc ≠ e.now / 2) .link 2 7 { cyc := 5, was := 3, up := 9, down := 1 } (now
      stLevelledBefore)) ∧
    (now stLevelledBefore).canonical ∧
    ((fun (value : Word) (e : State) => e.running = true ∧ e.life.state ≠ .scrap) 0x80000000 (now stRun)) := by
  refine ⟨?_, ?_, ?_, ?_, ?_, ?_, ?_, ?_, ?_, ?_⟩ <;> decide +kernel

/-- The conditions of DmaInstructions are met, clause by clause. -/
theorem witness_DmaInstructions :
    ((fun (n : Fin 16) (k : Nat) (e : State) => e.atOp n 2 = true ∧ fieldOf (e.progWord (e.ch n).pc) 15 0 = k + 1) 2 2 (now
      (stDmaRun 0x20000003))) ∧
    ((fun (n : Fin 16) (e : State) => e.atOp n 2 = true ∧ fieldOf (e.progWord (e.ch n).pc) 15 0 = 0) 2 (now (stDmaRun
      0x20000000))) ∧
    ((fun (n : Fin 16) (e : State) => (e.ch n).state ≠ .run) 2 (now stRun)) ∧
    ((fun (n : Fin 16) (b k : Nat) (rest : List LoopFrame) (e : State) => e.atOp n 3 = true ∧ (e.ch n).loops = { body := b, left := some (k + 2) }
      :: rest) 2 4 1 [] (now (stDmaLoop 3))) ∧
    ((fun (n : Fin 16) (b : Nat) (rest : List LoopFrame) (e : State) => e.atOp n 3 = true ∧ (e.ch n).loops = { body := b, left := some 1 }
      :: rest) 2 4 [] (now (stDmaLoop 1))) ∧
    ((fun (n : Fin 16) (e : State) => e.atOp n 4 = true ∧ fieldOf (e.progWord (e.ch n).pc) 27 26 = 0 ∧ (e.ch n).sig.testBit
      (fieldOf (e.progWord (e.ch n).pc) 3 0) = true) 2 (now stDmaSig)) ∧
    (now stDmaSig).canonical ∧
    ((fun (n : Fin 16) (e : State) => e.atOp n 4 = true ∧ (fieldOf (e.progWord (e.ch n).pc) 27 26 ≠ 0 ∨ (e.ch
      n).sig.testBit (fieldOf (e.progWord (e.ch n).pc) 3 0) = false)) 2 (now (stDmaRun 0x40000000))) ∧
    ((fun (n : Fin 16) (tag : Bool) (e : State) => e.running = true ∧ (e.ch n).state = .wait ∧ (e.ch n).met = some tag) 2
      true (now stDmaMet)) ∧
    (now stDmaMet).canonical ∧
    ((fun (n : Fin 16) (e : State) => (e.ch n).met = none) 2 (now stRun)) ∧
    ((fun (n : Fin 16) (k : Fin 16) (e : State) => e.atOp n 5 = true ∧ k = Fin.ofNat 16 (fieldOf (e.progWord (e.ch n).pc) 3
      0)) 2 5 (now (stDmaRun 0x50000035))) ∧
    (now (stDmaRun 0x50000035)).canonical ∧
    ((fun (n : Fin 16) (e : State) => e.atOp n 6 = true ∧ bitOf (e.progWord (e.ch n).pc) 27 = false) 2 (now (stDmaRun
      0x60000001))) ∧
    ((fun (n : Fin 16) (e : State) => e.atOp n 6 = true ∧ bitOf (e.progWord (e.ch n).pc) 27 = true) 2 (now (stDmaRun
      0x68800010))) ∧
    ((fun (n : Fin 16) (e : State) => e.atOp n 0 = true) 2 (now (stDmaRun 0))) ∧
    (now (stDmaRun 0)).canonical ∧
    ((fun (n : Fin 16) (e : State) => e.atOp n 1 = true) 2 (now (stDmaRun 0x1A200004))) := by
  refine ⟨?_, ?_, ?_, ?_, ?_, ?_, ?_, ?_, ?_, ?_, ?_, ?_, ?_, ?_, ?_, ?_, ?_, ?_⟩ <;> decide +kernel

/-- The conditions of DmaBeats are met, clause by clause. -/
theorem witness_DmaBeats :
    ((fun (n : Fin 16) (m : MoveSt) (a k : Nat) (e : State) => e.running = true ∧ e.life.halted = false ∧ e.grant = some n
      ∧ (e.ch n).work = .move m ∧ e.moveBeat n (e.moveAt (e.ch n).pc) m = { addr := a, width := k, lanes := none } ∧
      bitOf (e.reg (0x90800 + 4 * e.chCtx n)) 0 = true ∧ inSram a = true ∧ a % k = 0 ∧ e.beatPartial n false = false ∧
      m.put < (e.moveAt (e.ch n).pc).len) 2 { src := 0x800100, dst := 0x800200 } 0x800100 4 (now stDmaRead)) ∧
    (now stDmaRead).canonical ∧
    ((fun (n : Fin 16) (m : MoveSt) (a k : Nat) (l : List (Option Byte)) (e : State) => e.running = true ∧ e.life.halted =
      false ∧ e.grant = some n ∧ (e.ch n).work = .move m ∧ e.moveBeat n (e.moveAt (e.ch n).pc) m = { addr := a, width := k, lanes := some l }
      ∧ bitOf (e.reg (0x90800 + 4 * e.chCtx n)) 0 = true ∧ inSram a = true ∧ a % k = 0 ∧ e.beatPartial n true = false)
      2 { got := 4, nr := 1, dst := 0x800200, src := 0x800100, hold := [1, 2, 3, 4] } 0x800200 4 [some 1, some 2, some
      3, some 4] (now stDmaWrite)) ∧
    (now stDmaWrite).canonical ∧
    ((fun (n : Fin 16) (b : Beat) (e : State) => e.running = true ∧ e.life.halted = false ∧ e.grant = some n ∧ e.nextBeat n
      = some b ∧ bitOf (e.reg (0x90800 + 4 * e.chCtx n)) 0 = true ∧ e.beatPartial n b.lanes.isSome = true ∧ (e.ch
      n).tries < e.chRetry n) 2 { addr := 0x800100, width := 4, lanes := none } (now stDmaPartial)) ∧
    (now stDmaPartial).canonical ∧
    ((fun (n : Fin 16) (a : Nat) (v : Word) (e : State) => e.running = true ∧ e.life.halted = false ∧ e.grant = some n ∧
      (e.ch n).work = .set a v ∧ bitOf (e.reg (0x90800 + 4 * e.chCtx n)) 0 = true ∧ inSram a = true ∧ a % 4 = 0) 2
      0x800010 0x11223344 (now stDmaSet)) ∧
    (now stDmaSet).canonical ∧
    ((fun (n : Fin 16) (b : Beat) (e : State) => e.running = true ∧ e.life.halted = false ∧ e.grant = some n ∧ e.nextBeat n
      = some b ∧ bitOf (e.reg (0x90800 + 4 * e.chCtx n)) 0 = false ∧ e.dma.tlb = [] ∧ bitOf (e.sramWord (fieldOf (e.reg
      (0x90800 + 4 * e.chCtx n)) 23 8 * 256 + 4 * fieldNat b.addr 23 18)) 0 = false) 2 { addr := 0x100, width := 4, lanes := none }
      (now stDmaUnmapped)) ∧
    (now stDmaUnmapped).canonical ∧
    ((fun (e : State) => e.running = false ∨ e.life.halted = true ∨ e.grant = none) (now stRun)) := by
  refine ⟨?_, ?_, ?_, ?_, ?_, ?_, ?_, ?_, ?_, ?_, ?_⟩ <;> decide +kernel

/-- The conditions of NandWork are met, clause by clause. -/
theorem witness_NandWork :
    ((fun (p : NandProbe) (l : List Byte) (e : State) => e.power.phase = .startup ∧ e.boot.stage = .nandWait ∧
      e.boot.waitAt + usAng 1250 ≤ e.now ∧ p.timeout = false ∧ (p.copies.take 3).find? paramOk = some l ∧ geometryOk l
      p.eccEn = true ∧ e.life.state ≠ .blank ∧ e.life.state ≠ .scrap) { aProbe with copies := [paramPage] } paramPage
      (now stNandWait)) ∧
    (now stNandWait).canonical ∧
    ((fun (p : NandProbe) (e : State) => e.power.phase = .startup ∧ e.boot.stage = .nandWait ∧ e.boot.waitAt + usAng 1250 ≤
      e.now ∧ p.timeout = true ∧ e.life.state ≠ .blank ∧ e.life.state ≠ .scrap) { aProbe with timeout := true } (now
      stNandWait)) ∧
    ((fun (p : NandProbe) (e : State) => e.power.phase = .startup ∧ e.boot.stage = .nandWait ∧ e.boot.waitAt + usAng 1250 ≤
      e.now ∧ p.timeout = false ∧ (p.copies.take 3).find? paramOk = none ∧ e.life.state ≠ .blank ∧ e.life.state ≠
      .scrap) { aProbe with copies := [] } (now stNandWait)) ∧
    ((fun (p : NandProbe) (e : State) => e.power.phase ≠ .startup ∨ e.boot.stage ≠ .nandWait ∨ e.now < e.boot.waitAt +
      usAng 1250) aProbe (now stRun)) ∧
    ((fun (errs : List Nat) (j : NandJob) (row : Nat) (page : NandPage) (e : State) => (e.running = true ∨ e.power.phase =
      .startup) ∧ e.actJob = some (j, .program row page) ∧ 1 < j.todo.length) [] programJob 4500 { main := [1, 2, 3] }
      (now stProgramming)) ∧
    (now stProgramming).canonical ∧
    ((fun (errs : List Nat) (j : NandJob) (b : Nat) (e : State) => (e.running = true ∨ e.power.phase = .startup) ∧ e.actJob
      = some (j, .erase b) ∧ 1 < j.todo.length ∧ e.nand.ppb ≠ 0) [] eraseJob 70 (now stErasing)) ∧
    (now stErasing).canonical ∧
    ((fun (fail : Bool) (errs : List Nat) (j : NandJob) (row : Nat) (e : State) => (e.running = true ∨ e.power.phase =
      .startup) ∧ e.actJob = some (j, .read row) ∧ 1 < j.todo.length) false [] readJob 4500 (now stReading)) ∧
    (now stReading).canonical ∧
    ((fun (fail : Bool) (errs : List Nat) (e : State) => e.actJob = none) false [] (now stRun)) ∧
    ((fun (e : State) => (e.running = true ∨ e.power.phase = .startup) ∧ e.nand.act.isSome = true ∧ e.nand.tries < 3) (now
      stReading)) ∧
    ((fun (e : State) => e.nand.act = none) (now stRun)) ∧
    ((fun (e : State) => (e.running = true ∨ e.power.phase = .startup) ∧ e.nand.act.isSome = true ∧ 3 ≤ e.nand.tries ∧
      e.boot.stage = .scan) (now stScanning)) ∧
    (now stScanning).canonical := by
  refine ⟨⟨?_, ?_, ?_, ?_, by simp [paramPage_ok], ?_, ?_, ?_⟩, ?_, ?_, ?_, ?_, ?_, ?_, ?_, ?_, ?_, ?_, ?_, ?_, ?_, ?_, ?_⟩ <;> decide +kernel

/-- The conditions of LoadAndRepair are met, clause by clause. -/
theorem witness_LoadAndRepair :
    ((fun (slot : Nat) (copy : ImgCopy) (base : State) (e : State) => e.power.phase = .startup ∧ e.boot.stage = .passed
      slot ∧ e.copyIn slot = some copy ∧ base = (e.defaultRws 0xD0000 0xF0000).defaultRws 0x110000 0x120000 ∧
      e.loadRefused copy (Sparse.get base.reg (applyWrites base.reg (e.candidateWrites copy))) = false) 0 passedCopy
      (((now stPassed).defaultRws 0xD0000 0xF0000).defaultRws 0x110000 0x120000) (now stPassed)) ∧
    (now stPassed).canonical ∧
    ((fun (slot : Nat) (e : State) => e.power.phase = .startup ∧ e.boot.stage = .passed slot ∧ e.copyIn slot = none ∧
      e.boot.cands = []) 1 (now stPassedGone)) ∧
    (now stPassedGone).canonical ∧
    ((fun (e : State) => e.power.phase ≠ .startup ∨ e.boot.stage = .candidate 0 ∨ e.boot.stage = .candidate 1 ∨
      e.boot.stage = .loaded ∨ e.boot.stage = .recovery) (now stRun)) ∧
    ((fun (slot : Nat) (p : List Byte) (e : State) => e.running = true ∧ e.nand.jobs = [{ kind := .model slot false, prio := 1, todo := [] }]
      ∧ (match (e.dropJob (.model slot false)).modelPlain slot [] with | .ok x => decide (x = p) | .error _ => false) =
      true ∧ modelCode p = 0) 0 aModel (now stModelGood)) ∧
    (now stModelGood).canonical ∧
    ((fun (slot c : Nat) (bad : List Nat) (e : State) => e.running = true ∧ e.nand.jobs = [{ kind := .model slot true, prio := 1, todo := [], bad := bad }]
      ∧ (match (e.dropJob (.model slot true)).modelPlain slot bad with | .error x => decide (x = c) | .ok _ => false) =
      true) 0 3 [] (now stModelBad)) ∧
    (now stModelBad).canonical ∧
    ((fun (e : State) => e.nand.jobs = []) (now stRun)) ∧
    ((fun (slot : Nat) (f : Option Nat) (e : State) => e.running = true ∧ e.nand.jobs = [{ kind := .repair slot, prio := 4, todo := [], failed := f }]
      ∧ e.cave.mode = .mounting) 1 none (now stRepaired)) ∧
    (now stRepaired).canonical := by
  refine ⟨?_, ?_, ?_, ?_, ?_, ?_, ?_, ?_, ?_, ?_, ?_, ?_⟩ <;> decide +kernel

/-- The conditions of MountAndRecords are met, clause by clause. -/
theorem witness_MountAndRecords :
    ((fun (e : State) => e.running = true ∧ e.cave.mode = .mounting ∧ e.hasJob .mount = false ∧ e.cave.mountStep = 0 ∧
      e.cave.seen = [] ∧ e.nand.present = true) (now stMounting)) ∧
    (now stMounting).canonical ∧
    ((fun (e : State) => e.cave.mode ≠ .mounting) (now stRun)) ∧
    ((fun (e : State) => e.mountReady = true ∧ e.caveTooSmall = false) (now stMountEnd)) ∧
    (now stMountEnd).canonical ∧
    ((fun (e : State) => e.mountReady = true ∧ e.caveTooSmall = true) (now stMountPoor)) ∧
    (now stMountPoor).canonical ∧
    ((fun (e : State) => e.mountReady = false) (now stRun)) ∧
    ((fun (kind : BitVec 8) (index : BitVec 16) (version : BitVec 8) (body : List Byte) (e : State) => (e.running = true ∨
      e.power.phase = .standby ∨ e.power.phase = .waking) ∧ body ≠ [] ∧ body.length ≤ 8160 ∧ (e.cave.mode = .unmounted
      ∨ e.cave.mode = .mounting) ∧ (∀ q ∈ e.cave.recQueue, ¬(q.kind = kind.toNat ∧ q.index = index.toNat))) 3 0 1 [7,
      8] (now stMounting)) ∧
    ((fun (kind : BitVec 8) (index : BitVec 16) (version : BitVec 8) (body : List Byte) (e : State) => body = [] ∨ 8160 <
      body.length ∨ e.cave.mode = .readonly ∨ e.cave.mode = .failed) 3 0 1 [] (now stRun)) ∧
    ((fun (kind : BitVec 8) (index : BitVec 16) (version : BitVec 8) (body : List Byte) (b k : Nat) (e : State) =>
      (e.running = true ∨ e.power.phase = .standby ∨ e.power.phase = .waking) ∧ body ≠ [] ∧ body.length ≤ 8160 ∧
      e.cave.mode = .mounted ∧ e.cave.recBusy = none ∧ e.cave.recQueue = [] ∧ e.cave.recOpen = some (b, k) ∧ k <
      e.slotsPerBlock) 3 0 1 [7, 8] 80 2 (now stMounted)) ∧
    (now stMounted).canonical ∧
    ((fun (j : NandJob) (x : RecWrite) (b k : Nat) (e : State) => e.running = true ∧ e.finished (fun k => decide (k =
      .recWrite)) = some j ∧ j.failed = none ∧ e.cave.recBusy = some (x, b, k) ∧ e.cave.recQueue = []) { kind := .recWrite, prio := 2, todo := [] }
      { kind := 3, index := 0, version := 1, body := [7], time := 0 } 80 2 (now stRecEnd)) ∧
    (now stRecEnd).canonical ∧
    ((fun (e : State) => e.cave.recBusy = none) (now stRun)) := by
  refine ⟨?_, ?_, ?_, ?_, ?_, ?_, ?_, ?_, ?_, ?_, ?_, ?_, ?_, ?_, ?_⟩ <;> decide +kernel

/-- The conditions of LogAndUpkeep are met, clause by clause. -/
theorem witness_LogAndUpkeep :
    ((fun (m : Master) (ctl : Word) (n : Nat) (p : List Byte) (e : State) => e.running = true ∧ e.life.state ≠ .scrap ∧
      e.cave.mode = .mounted ∧ n = fieldOf ctl 5 0 ∧ n ≤ 44 ∧ bitOf ctl 8 = false ∧ p = ((e.copyOf m).logd.flatMap (fun
      d => bytesLE 4 d.toNat)).take n ∧ logUsed e.cave.logCur + (12 + p.length + 3) / 4 * 4 ≤ e.nand.page) .link 4 4
      [0, 0, 0, 0] (now stMounted)) ∧
    (now stMounted).canonical ∧
    ((fun (m : Master) (ctl : Word) (e : State) => e.running = true ∧ e.life.state ≠ .scrap ∧ (e.cave.mode = .mounting ∨
      e.cave.mode = .readonly)) .link 4 (now stMounting)) ∧
    (now stMounting).canonical ∧
    ((fun (b p : Nat) (e : State) => e.running = true ∧ e.cave.mode = .mounted ∧ e.cave.logCur ≠ [] ∧ e.cave.logAt + secAng
      (e.fld 0xA0034 15 0) ≤ e.now ∧ e.cave.logProg = [] ∧ e.cave.logOpen = some (b, p) ∧ p < e.nand.ppb) 90 1 (now
      stLogWaiting)) ∧
    (now stLogWaiting).canonical ∧
    ((fun (e : State) => e.cave.logCur = [] ∨ e.cave.mode ≠ .mounted) (now stRun)) ∧
    ((fun (e : State) => e.running = true ∧ e.cave.tickAt ≤ e.now) (now stMounted)) ∧
    ((fun (e : State) => e.running = true ∧ e.cave.tickAt ≤ e.now ∧ e.cave.mode ≠ .mounted ∧ e.cave.mode ≠ .readonly) (now
      stRun)) ∧
    ((fun (e : State) => e.running = false ∨ e.now < e.cave.tickAt) (now State.reset)) ∧
    ((fun (r : Nat) (e : State) => e.running = true ∧ e.cave.mode = .mounted ∧ e.cave.pass = true ∧ e.nand.jobs = [] ∧
      e.nextScrubRow e.cave.passRow = some r) 4500 (now stMountedPage)) ∧
    (now stMountedPage).canonical ∧
    ((fun (e : State) => e.running = true ∧ e.cave.mode = .mounted ∧ e.cave.pass = true ∧ e.nand.jobs = [] ∧ e.nextScrubRow
      e.cave.passRow = none) (now stPassRound)) ∧
    (now stPassRound).canonical ∧
    ((fun (e : State) => e.cave.pass = false) (now stRun)) ∧
    ((fun (e : State) => e.running = true ∧ e.cave.mode = .mounted ∧ e.cave.wearAt ≤ e.now ∧ e.serviceBusy = false ∧
      e.entering = false ∧ (leastBy e.blockErases (e.areaBlocks 0x01 ++ e.areaBlocks 0x02)).all (fun b =>
      !e.blockWritten b) = true) (now stMounted)) ∧
    ((fun (b d : Nat) (e : State) => e.running = true ∧ e.cave.mode = .mounted ∧ e.cave.wearAt ≤ e.now ∧ leastBy (fun x =>
      0xFFFFFFFF - e.blockErases x) e.spareBlocks = some d ∧ leastBy e.blockErases (e.areaBlocks 0x01 ++ e.areaBlocks
      0x02) = some b ∧ e.blockErases b + e.fld 0xA0028 31 16 < e.blockErases d ∧ (e.serviceBusy = true ∨ e.entering =
      true ∨ e.blockWritten b = true)) 82 90 (now stWearBusy)) ∧
    ((fun (b d : Nat) (e : State) => e.running = true ∧ e.cave.mode = .mounted ∧ e.cave.wearAt ≤ e.now ∧ leastBy (fun x =>
      0xFFFFFFFF - e.blockErases x) e.spareBlocks = some d ∧ leastBy e.blockErases (e.areaBlocks 0x01 ++ e.areaBlocks
      0x02) = some b ∧ e.blockErases b + e.fld 0xA0028 31 16 < e.blockErases d ∧ e.serviceBusy = false ∧ e.entering =
      false ∧ e.blockWritten b = false) 82 90 (now stWear)) ∧
    (now stWear).canonical ∧
    ((fun (b d : Nat) (e : State) => e.running = true ∧ e.cave.mode = .mounted ∧ e.cave.wearAt ≤ e.now ∧ leastBy (fun x =>
      0xFFFFFFFF - e.blockErases x) e.spareBlocks = some d ∧ leastBy e.blockErases (e.areaBlocks 0x01 ++ e.areaBlocks
      0x02) = some b ∧ e.blockErases d ≤ e.blockErases b + e.fld 0xA0028 31 16) 82 90 (now stWearEven)) ∧
    (now stWearEven).canonical ∧
    ((fun (e : State) => e.now < e.cave.wearAt ∨ e.cave.mode ≠ .mounted) (now stRun)) ∧
    ((fun (j : NandJob) (u : ImgUpd) (e : State) => e.running = true ∧ e.finished (fun k => decide (k = .imgCheck)) = some
      j ∧ e.cave.imgUpd = some u) { kind := .imgCheck, prio := 3, todo := [] } { slot := 1, gen := 5, len := 64, count := 1, used := [9] }
      (now stImgCheck)) ∧
    (now stImgCheck).canonical ∧
    ((fun (e : State) => e.cave.imgUpd = none) (now stRun)) := by
  refine ⟨?_, ?_, ?_, ?_, ?_, ?_, ?_, ?_, ?_, ?_, ?_, ?_, ?_, ?_, ?_, ?_, ?_, ?_, ?_, ?_, ?_, ?_, ?_, ?_, ?_⟩ <;> decide +kernel

/-- The conditions of Curds are met, clause by clause. -/
theorem witness_Curds :
    ((fun (vpack : Nat) (code : BitVec 24) (excess : Bool) (ntc : List Nat) (age : Nat) (i : Int) (e : State) =>
      e.windowDue = true ∧ e.now = e.bat.winAt + windowAng / 2 + age ∧ i = (e.windowCal e.bat.winAt).current
      code.toInt) 400000 1000 false [] 152000 ((curdCal (now stBat).reg).current 1000) (now stBat)) ∧
    (now stBat).canonical ∧
    ((fun (vpack : Nat) (code : BitVec 24) (excess : Bool) (ntc : List Nat) (age : Nat) (i : Int) (x : SessionSt) (e :
      State) => e.windowDue = true ∧ e.now = e.bat.winAt + windowAng / 2 + age ∧ i = (e.windowCal e.bat.winAt).current
      code.toInt ∧ e.bat.state = .active ∧ e.bat.session = some x ∧ e.presentAt (e.bat.winAt + windowAng) false ≠ some
      false) 400000 1000 false [] 152000 ((curdCal (now stSession).reg).current 1000) aSession (now stSession)) ∧
    (now stSession).canonical ∧
    ((fun (vpack : Nat) (code : BitVec 24) (excess : Bool) (ntc : List Nat) (age : Nat) (e : State) => e.windowDue = false)
      0 0 false [] 0 (now stRun)) ∧
    ((fun (vpack : Nat) (code : BitVec 24) (excess : Bool) (ntc : List Nat) (i : Int) (e : State) => e.standbyDue = true ∧
      i = (curdCal e.reg).current code.toInt) 400000 1000 false [] ((curdCal (now stBatStandby).reg).current 1000) (now
      stBatStandby)) ∧
    (now stBatStandby).canonical ∧
    ((fun (vpack : Nat) (code : BitVec 24) (excess : Bool) (ntc : List Nat) (e : State) => e.standbyDue = false) 0 0 false
      [] (now stRun)) ∧
    ((fun (e : State) => e.windowDue = true) (now stBat)) ∧
    ((fun (e : State) => e.windowDue = false ∧ e.standbyDue = true) (now stBatStandby)) := by
  refine ⟨?_, ?_, ?_, ?_, ?_, ?_, ?_, ?_, ?_, ?_⟩ <;> decide +kernel

/-- The conditions of PackIdentification are met, clause by clause. -/
theorem witness_PackIdentification :
    ((fun (e : State) => e.mayAttempt = true) (now stIdent)) ∧
    ((fun (e : State) => e.mayAttempt = false) (now stRun)) ∧
    ((fun (r : IdReading) (e : State) => e.running = true ∧ e.bat.attempt.isSome = true ∧ e.idCode r ≠ 0) { nack := true, bytes := [], again := [] }
      (now stAttempting)) ∧
    ((fun (r : IdReading) (e : State) => e.running = true ∧ e.bat.attempt.isSome = true ∧ e.idCode r = 0 ∧ e.bat.state =
      .ident ∧ e.bat.dirReady = false) { nack := false, bytes := [1, 2, 3, 4, 5, 6, 7, 8], again := [1, 2, 3, 4, 5, 6, 7, 8] }
      (now stAttempting)) ∧
    ((fun (r : IdReading) (e : State) => e.running = true ∧ e.bat.attempt.isSome = true ∧ e.idCode r = 0 ∧ e.bat.state =
      .ident ∧ e.bat.dirReady = true ∧ e.sessionRows (natLE (r.bytes.take 8)) = []) { nack := false, bytes := [1, 2, 3, 4, 5, 6, 7, 8], again := [1, 2, 3, 4, 5, 6, 7, 8] }
      (now stAttemptDir)) ∧
    (now stAttemptDir).canonical ∧
    ((fun (r : IdReading) (e : State) => e.running = true ∧ e.bat.attempt.isSome = true ∧ e.idCode r = 0 ∧ e.bat.state =
      .ident ∧ e.bat.dirReady = true ∧ e.sessionRows (natLE (r.bytes.take 8)) ≠ []) { nack := false, bytes := [1, 2, 3, 4, 5, 6, 7, 8], again := [1, 2, 3, 4, 5, 6, 7, 8] }
      (now stAttemptRead)) ∧
    (now stAttemptRead).canonical ∧
    ((fun (r : IdReading) (e : State) => e.running = false ∨ e.bat.attempt = none) { nack := true, bytes := [], again := [] }
      (now stRun)) ∧
    ((fun (e : State) => e.running = true ∧ e.bat.state = .ident ∧ e.bat.deadline ≤ e.lf ∧ e.bat.attempt = none ∧
      e.bat.idWait = none) (now stIdentLate)) ∧
    (now stIdentLate).canonical ∧
    ((fun (e : State) => e.bat.state = .empty ∨ e.lf < e.bat.deadline) (now stRun)) ∧
    ((fun (e : State) => (e.running = true ∨ e.power.phase = .standby ∨ e.power.phase = .waking) ∧ e.bat.state = .grace ∧
      e.bat.graceEnd ≤ e.lf) (now stGrace)) ∧
    (now stGrace).canonical ∧
    ((fun (e : State) => e.bat.state ≠ .grace) (now stRun)) := by
  refine ⟨?_, ?_, ?_, ?_, ?_, ?_, ?_, ?_, ?_, ?_, ?_, ?_, ?_, ?_, ?_⟩ <;> decide +kernel

/-- The conditions of BatteryClocks are met, clause by clause. -/
theorem witness_BatteryClocks :
    ((fun (m : Master) (value : Word) (x : SessionSt) (e : State) => e.running = true ∧ e.life.state ≠ .scrap ∧ fieldOf
      value 31 16 = 0x50C0 ∧ fieldOf value 15 0 ≤ 10000 ∧ e.bat.state = .active ∧ e.bat.session = some x) .link
      0x50C01388 aSession (now stSession)) ∧
    (now stSession).canonical ∧
    ((fun (m : Master) (value : Word) (e : State) => e.running = true ∧ e.life.state ≠ .scrap ∧ (fieldOf value 31 16 ≠
      0x50C0 ∨ 10000 < fieldOf value 15 0 ∨ e.bat.state ≠ .active)) .link 0x1388 (now stRun)) ∧
    (now stRun).canonical ∧
    ((fun (v : Int) (e : State) => e.running = true ∧ e.batOn = true ∧ e.bat.repAt + 32768 ≤ e.lf ∧ e.bat.rep = some v ∧
      e.bat.socValid = true) 0 (now stSocRep)) ∧
    ((fun (e : State) => e.lf < e.bat.repAt + 32768) (now stRun)) ∧
    ((fun (x : SessionSt) (e : State) => e.running = true ∧ e.bat.session = some x ∧ e.bat.ckptAt ≤ e.now ∧ e.cave.mode =
      .mounting ∧ (e.liveRecord x true).bytes.length ≤ 8160) aSession (now stCheckpoint)) ∧
    (now stCheckpoint).canonical ∧
    ((fun (e : State) => e.bat.session = none ∨ e.now < e.bat.ckptAt) (now stRun)) ∧
    ((fun (e : State) => e.running = true ∧ e.bat.epochAt + 32768 ≤ e.lf ∧ e.reg 0xB0128 ≠ 0) (now stEpoch)) ∧
    (now stEpoch).canonical ∧
    ((fun (e : State) => e.lf < e.bat.epochAt + 32768) (now stRun)) ∧
    ((fun (e : State) => e.autoshipDue = true ∧ e.requestRefusal true true = none) (now stAutoship)) ∧
    (now stAutoship).canonical ∧
    ((fun (e : State) => e.autoshipDue = false) (now stRun)) := by
  refine ⟨?_, ?_, ?_, ?_, ?_, ?_, ?_, ?_, ?_, ?_, ?_, ?_, ?_, ?_, ?_⟩ <;> decide +kernel

/-- The conditions of FusionFrames are met, clause by clause. -/
theorem witness_FusionFrames :
    ((fun (h : HeadRun) (out : List Int) (e : State) => e.fusOn = true ∧ e.fus.tickAt ≤ e.now ∧ e.fus.head = some h ∧ h.out
      = some out ∧ e.fus.ending = false) aHead [0, 0, 0, 0, 0, 0] (now stFrame)) ∧
    (now stFrame).canonical ∧
    ((fun (h : HeadRun) (out : List Int) (e : State) => e.fusOn = true ∧ e.fus.tickAt ≤ e.now ∧ e.fus.head = some h ∧ h.out
      = some out ∧ e.fus.ending = true) aHead [0, 0, 0, 0, 0, 0] (now stFrameLast)) ∧
    (now stFrameLast).canonical ∧
    ((fun (h : HeadRun) (e : State) => e.fusOn = true ∧ e.fus.tickAt ≤ e.now ∧ e.fus.head = some h ∧ h.out = none) { aHead with out := none }
      (now stFrameOpen)) ∧
    (now stFrameOpen).canonical ∧
    ((fun (e : State) => e.fus.mstate ≠ .running ∨ (e.now < e.fus.tickAt ∧ e.fus.gridTime = false)) (now stRun)) ∧
    ((fun (h : HeadRun) (e : State) => e.fusOn = true ∧ e.fus.head = some h ∧ h.out = none ∧ e.headFree h = true) { aHead with out := none }
      (now stFrameOpen)) ∧
    ((fun (h : HeadRun) (e : State) => e.fus.head = some h ∧ e.headFree h = false) { aHead with out := none } (now
      stFrameWaits)) ∧
    ((fun (e : State) => e.fus.head = none) (now stRun)) ∧
    ((fun (e : State) => e.fusOn = true ∧ e.gridMode = e ∧ e.fus.gridTime = true ∧ e.fus.cellAt ≤ e.now ∧ e.fus.encRun =
      none) (now stCell)) ∧
    (now stCell).canonical ∧
    ((fun (e : State) => e.fusOn = false) (now stRun)) ∧
    ((fun (r : EncRun) (e : State) => e.fusOn = true ∧ e.fus.encRun = some r) { input := [] } (now stCellRun)) ∧
    ((fun (e : State) => e.fus.encRun = none) (now stRun)) := by
  refine ⟨?_, ?_, ?_, ?_, ?_, ?_, ?_, ?_, ?_, ?_, ?_, ?_, ?_, ?_, ?_⟩ <;> decide +kernel

/-- The conditions of InertialAndSlots are met, clause by clause. -/
theorem witness_InertialAndSlots :
    ((fun (n : Fin 2) (e : State) => e.fetchDue n = true ∧ e.fusBit (imuBase n.val) 29 = false ∧ e.spiFree = true ∧ (n = 0
      ∨ e.fetchDue 0 = false)) 0 (now stImu)) ∧
    (now stImu).canonical ∧
    ((fun (n : Fin 2) (e : State) => e.imuLive n = false) 1 (now stRun)) ∧
    ((fun (n : Fin 2) (resp : List Byte) (e : State) => e.running = true ∧ (e.imu n).busy = true ∧ (e.imu n).doneAt ≤ e.now
      ∧ e.imuLive n = true ∧ (resp.take (e.fusFld (imuBase n.val + 4) 5 0)).all (fun b => b == 0) = true ∧ (e.imu
      n).badRun < 7) 0 [0, 0, 0] (now stImuBusy)) ∧
    (now stImuBusy).canonical ∧
    ((fun (n : Fin 2) (resp l : List Byte) (e : State) => e.running = true ∧ (e.imu n).busy = true ∧ (e.imu n).doneAt ≤
      e.now ∧ e.imuLive n = true ∧ l = resp.take (e.fusFld (imuBase n.val + 4) 5 0) ∧ l.all (fun b => b == 0) = false ∧
      l.all (fun b => b == 0xFF) = false) 0 [1, 2, 3] [1, 2, 3] (now stImuBusy)) ∧
    ((fun (n : Fin 2) (resp : List Byte) (e : State) => e.running = false ∨ (e.imu n).busy = false ∨ e.now < (e.imu
      n).doneAt) 0 [] (now stRun)) ∧
    ((fun (n : Fin 2) (who : Byte) (at_ : Nat) (e : State) => e.fusOn = true ∧ e.fusBit (imuBase n.val) 31 = true ∧ (e.imu
      n).initAt = some at_ ∧ at_ ≤ e.now ∧ e.spiFree = true ∧ (e.fusBit (imuBase n.val + 0x24) 16 = false ∨ who.toNat =
      e.fusFld (imuBase n.val + 0x24) 7 0)) 0 0x11 0 (now stImuInit)) ∧
    ((fun (n : Fin 2) (who : Byte) (at_ : Nat) (e : State) => e.fusOn = true ∧ e.fusBit (imuBase n.val) 31 = true ∧ (e.imu
      n).initAt = some at_ ∧ at_ ≤ e.now ∧ e.spiFree = true ∧ e.fusBit (imuBase n.val + 0x24) 16 = true ∧ who.toNat ≠
      e.fusFld (imuBase n.val + 0x24) 7 0 ∧ (e.imu n).fault = false) 0 0x22 0 (now stImuInit)) ∧
    (now stImuInit).canonical ∧
    ((fun (n : Fin 2) (who : Byte) (e : State) => (e.imu n).initAt = none) 0 0 (now stRun)) ∧
    ((fun (n : Fin 2) (e : State) => e.running = true ∧ e.life.halted = false ∧ e.fusFld 0xC0064 23 16 ≠ 0 ∧ (e.imu
      n).calAt ≤ e.now ∧ (e.imu n).moved < 1000) 0 (now stCal)) ∧
    ((fun (n : Fin 2) (e : State) => e.running = true ∧ e.life.halted = false ∧ e.fusFld 0xC0064 23 16 ≠ 0 ∧ (e.imu
      n).calAt ≤ e.now ∧ 1000 ≤ (e.imu n).moved ∧ e.cave.mode = .mounting) 0 (now stCalMoved)) ∧
    (now stCalMoved).canonical ∧
    ((fun (n : Fin 2) (e : State) => e.fusFld 0xC0064 23 16 = 0) 1 (now stCalOff)) ∧
    ((fun (slot : Fin 32) (value : Word) (e : State) => e.running = true ∧ e.life.state ≠ .scrap ∧ e.domReady 9 = true ∧
      groupOf (e.fusReg 0xC0880) slot.val = [slot.val] ∧ groupLow (e.fusReg 0xC0880) slot.val = slot.val ∧ (e.slot
      slot).spoiled = false ∧ (e.fusBit 0xC0884 slot.val = false ∨ bitOf value 17 = false)) 7 0x1234 (now stRun)) ∧
    (now stRun).canonical ∧
    ((fun (m : Master) (slot : Fin 32) (value : Word) (e : State) => e.running = true ∧ e.life.state ≠ .scrap ∧ e.domReady
      9 = false) .link 7 0x1234 (now stPd9Off)) ∧
    (now stPd9Off).canonical ∧
    ((fun (slot : Fin 32) (e : State) => e.running = true ∧ e.slotOld slot = true) 3 (now stSlotOld)) ∧
    ((fun (slot : Fin 32) (e : State) => e.slotOld slot = false) 3 (now stRun)) ∧
    ((fun (dense track : Bool) (e : State) => e.cfg.testFusion = .idle ∧ e.fusOn = true ∧ e.fusFld 0xC0004 7 0 ≠ 0 ∧
      e.fus.checkAt ≤ e.now ∧ modelCrcOk e.fus.weights = true ∧ e.macIdle = true) true false (now stWeights)) ∧
    ((fun (dense track : Bool) (a b : Nat) (e : State) => e.running = true ∧ e.cfg.testFusion = .running a b ∧ e.fus.mstate
      ≠ .running ∧ e.macIdle = true) true false 0 0 (now stFusTesting)) ∧
    ((fun (dense track : Bool) (e : State) => e.cfg.testFusion = .idle ∧ e.fus.mstate ≠ .running) true true (now stRun)) ∧
    ((fun (dense track : Bool) (e : State) => e.macIdle = false) true true (now stFrameWaits)) := by
  refine ⟨?_, ?_, ?_, ?_, ?_, ?_, ?_, ?_, ?_, ?_, ?_, ?_, ?_, ?_, ?_, ?_, ?_, ?_, ?_, ?_, ?_, ?_, ?_, ?_, ?_⟩ <;> decide +kernel

/-- The conditions of RindMonitoring are met, clause by clause. -/
theorem witness_RindMonitoring :
    ((fun (i : Fin 6) (v : InLevel) (e : State) => e.rindSamples = true ∧ e.rindUsed i = true ∧ e.rindIn i ≠ v ∧
      e.sampleEdge = true ∧ e.filterPasses i v = true ∧ (v = .low ∨ v = .high) ∧ i ≠ 5) 3 .high (now stRun)) ∧
    (now stRun).canonical ∧
    ((fun (i : Fin 6) (v : InLevel) (e : State) => e.rindSamples = true ∧ e.sampleEdge = true ∧ e.rindUsed i = true ∧
      e.rindIn i ≠ v ∧ e.filterPasses i v = false ∧ (v = .low ∨ v = .high) ∧ i ≠ 0 ∧ i ≠ 5) 3 .high (now stFilter)) ∧
    (now stFilter).canonical ∧
    ((fun (i : Fin 6) (v : InLevel) (e : State) => e.rindSamples = true ∧ e.sampleEdge = false ∧ i ≠ 0) 3 .high (now
      stStandby)) ∧
    (now stStandby).canonical ∧
    ((fun (changes : List (Fin 6 × InLevel)) (tamper : Option (InLevel × InLevel)) (e : State) => e.rindSamples = false) []
      none (now stUnpowered)) ∧
    ((fun (k : Fin 16) (at_ : Nat) (e : State) => (e.rule k).window = some at_ ∧ at_ ≤ e.lf) 3 0 (now stRules)) ∧
    ((fun (k : Fin 16) (e : State) => (e.rule k).window = none) 3 (now stRun)) ∧
    ((fun (k : Fin 16) (at_ : Nat) (e : State) => (e.rule k).window = some at_ ∧ e.lf < at_) 3 900000 (now stRulesLater)) ∧
    ((fun (k : Fin 16) (at_ : Nat) (e : State) => (e.rule k).hold = some at_ ∧ at_ ≤ e.lf) 3 0 (now stRules)) ∧
    ((fun (k : Fin 16) (e : State) => (e.rule k).hold = none) 3 (now stRun)) ∧
    ((fun (x : RindEntry) (rest : List RindEntry) (e : State) => e.linkUp = true ∧ e.rind.fifo = x :: rest ∧ (x.act.testBit
      1 = false ∨ e.cave.mode = .mounted ∨ e.cave.mode = .readonly ∨ e.cave.mode = .failed)) anEntry [] (now stFifo)) ∧
    (now stFifo).canonical ∧
    ((fun (x : RindEntry) (rest : List RindEntry) (e : State) => e.linkUp = true ∧ e.rind.fifo = x :: rest ∧ x.act.testBit
      1 = true ∧ (e.cave.mode = .mounting ∨ e.cave.mode = .unmounted)) { anEntry with act := 2 } [] (now stFifoWait)) ∧
    (now stFifoWait).canonical ∧
    ((fun (e : State) => e.rind.fifo = [] ∨ e.linkUp = false) (now stRun)) ∧
    ((fun (at_ : Nat) (e : State) => e.rind.alarm.active = true ∧ e.rind.alarm.endAt = some at_ ∧ at_ ≤ e.lf) 0 (now
      stAlarm)) ∧
    ((fun (e : State) => e.rind.alarm.active = false) (now stRun)) ∧
    ((fun (e : State) => e.rind.alarm.active = true ∧ e.bit 0xD0004 12 = true ∧ e.rind.alarm.toggleAt ≤ e.lf) (now
      stAlarm)) ∧
    ((fun (e : State) => e.running = true ∧ e.power.lfAon = []) (now stAlarm)) := by
  refine ⟨?_, ?_, ?_, ?_, ?_, ?_, ?_, ?_, ?_, ?_, ?_, ?_, ?_, ?_, ?_, ?_, ?_, ?_, ?_, ?_, ?_⟩ <;> decide +kernel

/-- The conditions of LockMotor are met, clause by clause. -/
theorem witness_LockMotor :
    ((fun (e : State) => e.running = true ∧ e.power.lfLck = [] ∧ e.limitChange.moveCheck .opening = 1) (now stLock)) ∧
    (now stLock).canonical ∧
    ((fun (e : State) => e.running = true ∧ e.power.lfLck = [] ∧ e.limitChange.moveCheck .closing = 1) (now stLock)) ∧
    ((fun (e : State) => e.running = true ∧ e.power.lfLck = [] ∧ e.limitChange.moveCheck .homing = 1) (now stLock)) ∧
    ((fun (e : State) => e.running = true ∧ e.power.lfLck = [] ∧ e.limitChange.moveCheck .opening ≠ 1) (now stRun)) ∧
    (now stRun).canonical ∧
    ((fun (e : State) => e.running = true ∧ e.power.lfLck = [] ∧ e.limitChange.moveCheck .closing ≠ 1) (now stRun)) ∧
    ((fun (e : State) => e.running = true ∧ e.power.lfLck = [] ∧ e.limitChange.moveCheck .homing ≠ 1) (now stRun)) ∧
    ((fun (e : State) => e.running = true ∧ e.power.lfLck = [] ∧ e.lockTimeout.bit 0xE000C 31 = true ∧ e.boot.loaded = true
      ∧ e.lockTimeout.lock.moving = true) (now stMove)) ∧
    (now stMove).canonical ∧
    ((fun (e : State) => e.running = true ∧ e.power.lfLck = [] ∧ e.limitChange.bit 0xE000C 31 = true ∧ e.boot.loaded = true
      ∧ e.limitChange.lock.state = .fault ∧ (e.limitChange.lock.limOpen.stable ≠ .asserted ∨
      e.limitChange.lock.limShut.stable ≠ .asserted)) (now stLockFault)) ∧
    (now stLockFault).canonical ∧
    ((fun (value : Word) (e : State) => e.running = true ∧ e.power.lfLck = [] ∧ lockWordOk value = false) 1 (now stLock)) ∧
    ((fun (value : Word) (e : State) => lockWordOk value = true) 0x4C4B0001 (now stLock)) ∧
    ((fun (v : Stable) (e : State) => e.limitDue true = some v) .asserted (now stLimit)) ∧
    (now stLimit).canonical ∧
    ((fun (e : State) => e.limitDue true = none ∧ e.limitDue false = none ∧ e.lock.state = .fault) (now stLockFault)) ∧
    ((fun (e : State) => e.limitChange.moveTimedOut = true) (now stMoveOld)) ∧
    (now stMoveOld).canonical ∧
    ((fun (e : State) => e.limitChange.moveTimedOut = false) (now stRun)) ∧
    ((fun (e : State) => e.stallDue = true ∧ e.limitDue true = none ∧ e.limitDue false = none ∧ (e.lock.limOpen.stable ≠
      .asserted ∨ e.lock.limShut.stable ≠ .asserted) ∧ e.lock.restartDue = 0 ∧ e.rindStuckDue 1 = false ∧
      e.rindStuckDue 2 = false) (now stStall)) ∧
    (now stStall).canonical ∧
    ((fun (e : State) => e.stallDue = true) (now stStall)) ∧
    ((fun (e : State) => e.lock.moving = false) (now stRun)) ∧
    ((fun (at_ : Nat) (e : State) => e.lock.brakeEnd = some at_ ∧ at_ ≤ e.lf) 0 (now stBrake)) ∧
    ((fun (e : State) => e.lock.brakeEnd = none) (now stRun)) := by
  refine ⟨?_, ?_, ?_, ?_, ?_, ?_, ?_, ?_, ?_, ?_, ?_, ?_, ?_, ?_, ?_, ?_, ?_, ?_, ?_, ?_, ?_, ?_, ?_, ?_, ?_, ?_⟩ <;> decide +kernel

/-- The conditions of Authentication are met, clause by clause. -/
theorem witness_Authentication :
    ((fun (e : State) => e.jtagAt 0x08 = true ∧ e.power.phase ≠ .memtest ∧ e.life.transition = none ∧ e.liveChallenge =
      none) (now stPort)) ∧
    (now stPort).canonical ∧
    ((fun (c : Challenge) (dest : Life) (e : State) => e.jtagAt 0x08 = true ∧ e.power.phase ≠ .memtest ∧ e.life.transition
      = none ∧ e.liveChallenge = some c ∧ e.responseOk c e.jtag.s = true ∧ c.target ≠ e.life.state.code ∧ lifeOf
      c.target = some dest ∧ e.life.opRun = none) { aChallenge with target := 1 } .factory (now stChallengedBlank)) ∧
    (now stChallengedBlank).canonical ∧
    ((fun (c : Challenge) (e : State) => e.jtagAt 0x08 = true ∧ e.power.phase ≠ .memtest ∧ e.life.transition = none ∧
      e.liveChallenge = some c ∧ e.responseOk c e.jtag.s = true ∧ e.life.opRun.isSome = true) { aChallenge with target := 1 }
      (now stChallengedBusy)) ∧
    (now stChallengedBusy).canonical ∧
    ((fun (c : Challenge) (e : State) => e.jtagAt 0x08 = true ∧ e.power.phase ≠ .memtest ∧ e.life.transition = none ∧
      e.liveChallenge = some c ∧ e.responseOk c e.jtag.s = false) aChallenge (now stChallenged)) ∧
    (now stChallenged).canonical ∧
    ((fun (c : Challenge) (e : State) => e.life.challenge = some c ∧ c.at_ + 1966080 ≤ e.lf) aChallenge (now
      stChallengeOld)) ∧
    ((fun (e : State) => e.life.challenge = none) (now stRun)) ∧
    ((fun (c : Challenge) (e : State) => e.life.challenge = some c ∧ e.lf < c.at_ + 1966080) aChallenge (now stChallenged)) ∧
    ((fun (at_ : Nat) (e : State) => e.life.lockout = some at_ ∧ at_ ≤ e.lf) 0 (now stLockout)) ∧
    ((fun (e : State) => e.life.lockout = none) (now stRun)) ∧
    ((fun (e : State) => e.life.transition = none ∧ (e.boot.loaded = true ∨ e.boot.recovery = true) ∧ e.wipePend = true)
      (now stWipe)) ∧
    ((fun (e : State) => e.wipePend = false) (now stRun)) := by
  refine ⟨?_, ?_, ?_, ?_, ?_, ?_, ?_, ?_, ?_, ?_, ?_, ?_, ?_, ?_, ?_⟩ <;> decide +kernel

/-- The conditions of LifecycleOperations are met, clause by clause. -/
theorem witness_LifecycleOperations :
    ((fun (e : State) => e.opReq.1 = 1 ∧ e.life.opRun = none ∧ opMode 1 e.life.state = .direct) (now (stOp 1))) ∧
    ((fun (e : State) => e.opReq.1 = 2 ∧ e.life.opRun = none ∧ opMode 2 e.life.state = .direct) (now (stOp 2))) ∧
    ((fun (e : State) => e.opReq.1 = 3 ∧ e.life.opRun = none ∧ opMode 3 e.life.state = .direct) (now (stOp 3))) ∧
    ((fun (e : State) => e.opReq.1 = 4 ∧ e.life.opRun = none ∧ opMode 4 e.life.state = .direct) (now (stOp 4))) ∧
    ((fun (e : State) => e.opReq.1 = 5 ∧ e.life.opRun = none ∧ opMode 5 e.life.state = .direct) (now (stOp 5))) ∧
    ((fun (e : State) => e.opReq.1 = 6 ∧ e.life.opRun = none ∧ opMode 6 e.life.state = .direct) (now (stOp 6))) ∧
    ((fun (e : State) => e.opReq.1 = 7 ∧ e.life.opRun = none ∧ opMode 7 e.life.state = .direct) (now (stOp 7))) ∧
    ((fun (e : State) => e.opReq.1 = 1 ∧ opMode 1 e.life.state = .refused) (now (stOpRet 1))) ∧
    ((fun (e : State) => e.opReq.1 = 2 ∧ opMode 2 e.life.state = .refused) (now (stOpRet 2))) ∧
    ((fun (e : State) => e.opReq.1 = 3 ∧ opMode 3 e.life.state = .refused) (now (stOpRet 3))) ∧
    ((fun (e : State) => e.opReq.1 = 4 ∧ opMode 4 e.life.state = .refused) (now (stOpRet 4))) ∧
    ((fun (e : State) => e.opReq.1 = 5 ∧ opMode 5 e.life.state = .refused) (now (stOpRet 5))) ∧
    ((fun (e : State) => e.opReq.1 = 6 ∧ opMode 6 e.life.state = .refused) (now (stOpRet 6))) ∧
    ((fun (e : State) => e.opReq.1 = 7 ∧ opMode 7 e.life.state = .refused) (now (stOpRet 7))) ∧
    ((fun (e : State) => e.opReq.1 = 5 ∧ opMode 5 e.life.state = .signed) (now (stOpField 5))) ∧
    ((fun (e : State) => e.opReq.1 ≠ 1) (now stRun)) ∧
    ((fun (e : State) => e.jtagAt 0x08 = true ∧ e.power.phase ≠ .memtest ∧ e.life.transition = none ∧ opMode e.opReq.1
      e.life.state = .direct ∧ e.life.opRun = none) (now stOpPort)) ∧
    (now stOpPort).canonical ∧
    ((fun (arg : Nat) (e : State) => e.life.opRun = some (5, arg) ∧ arg ≤ 64 ∧ e.minVersion < arg) 9 (now (stOpRun 5 9))) ∧
    (now (stOpRun 5 9)).canonical ∧
    ((fun (arg : Nat) (e : State) => e.life.opRun = some (7, arg) ∧ arg ≤ 0x1FF) 0x81 (now (stOpRun 7 0x81))) ∧
    (now (stOpRun 7 0x81)).canonical ∧
    ((fun (arg : Nat) (e : State) => e.life.opRun = some (4, arg) ∧ arg ≤ 3 ∧ e.life.state = .blank) 1 (now (stOpRun 4 1))) ∧
    (now (stOpRun 4 1)).canonical ∧
    ((fun (arg : Nat) (e : State) => e.life.opRun = some (1, arg) ∧ arg ≤ 3 ∧ keyOnCurve e.life.opKey = true ∧ e.sigStatus
      arg = .empty) 2 (now (stOpKey 1 2))) ∧
    (now (stOpKey 1 2)).canonical ∧
    ((fun (e : State) => e.life.opRun = some (2, 0) ∧ keyOnCurve e.life.opKey = true ∧ e.lkeyStatus = .empty) (now (stOpKey
      2 0))) ∧
    (now (stOpKey 2 0)).canonical ∧
    ((fun (e : State) => e.life.opRun = some (3, 0) ∧ e.imgStatus e.otp.openN = .empty) (now (stOpRun 3 0))) ∧
    (now (stOpRun 3 0)).canonical ∧
    ((fun (arg : Nat) (e : State) => e.life.opRun = some (6, arg) ∧ e.storeEntry arg = none) 7 (now (stOpRun 6 7))) ∧
    (now (stOpRun 6 7)).canonical ∧
    ((fun (fail : Bool) (e : State) => e.life.opRun = none) true (now stRun)) := by
  refine ⟨?_, ?_, ?_, ?_, ?_, ?_, ?_, ?_, ?_, ?_, ?_, ?_, ?_, ?_, ?_, ?_, ?_, ?_, ?_, ?_, ?_, ?_, ?_, ?_, ?_, ?_, ?_, ?_, ?_, ?_, ?_, ?_, ?_⟩ <;> decide +kernel

/-- The conditions of DebugPort are met, clause by clause. -/
theorem witness_DebugPort :
    ((fun (addr : BitVec 24) (value : Word) (e : State) => e.jtagAt 0x09 = true ∧ e.running = true ∧ inSram addr.toNat =
      true ∧ addr.toNat % 4 = 0) 0x800010 0 (now stPort9)) ∧
    (now stPort9).canonical ∧
    ((fun (addr : BitVec 24) (value : Word) (e : State) => e.jtagAt 0x09 = true ∧ e.running = true ∧ inSram addr.toNat =
      true ∧ addr.toNat % 4 = 0) 0x800010 0x11223344 (now stPort9)) ∧
    ((fun (write : Bool) (addr : BitVec 24) (value : Word) (e : State) => e.jtagAt 0x09 = true ∧ e.running = true ∧
      addr.toNat % 4 ≠ 0) true 0x800011 0 (now stPort9)) ∧
    ((fun (write : Bool) (addr : BitVec 24) (value : Word) (e : State) => e.jtag.ir ≠ 0x09) true 0x800010 0 (now stRun)) ∧
    ((fun (e : State) => e.jtagAt 0x0A = true ∧ e.power.phase ≠ .memtest) (now stPortA)) ∧
    (now stPortA).canonical ∧
    ((fun (target alg : BitVec 4) (e : State) => e.jtagAt 0x0B = true ∧ e.power.phase ≠ .memtest ∧ memtestAllowed
      target.toNat alg.toNat e.life.state = true) 1 2 (now stPortB)) ∧
    (now stPortB).canonical ∧
    ((fun (target alg : BitVec 4) (e : State) => e.jtagAt 0x0B = true ∧ e.power.phase ≠ .memtest ∧ memtestAllowed
      target.toNat alg.toNat e.life.state = false) 9 2 (now stPortB)) ∧
    ((fun (failing : Nat) (e : State) => e.power.phase = .memtest ∧ e.jtag.test.isSome = true) 5 (now stMemtest)) ∧
    ((fun (failing : Nat) (e : State) => e.power.phase ≠ .memtest) 0 (now stRun)) ∧
    ((fun (code : BitVec 5) (e : State) => e.tapOn = true ∧ code ≠ 0x0C) 9 (now stRun)) ∧
    (now stRun).canonical ∧
    ((fun (e : State) => e.tapOn = true) (now stPort)) ∧
    (now stPort).canonical ∧
    ((fun (cells : List (Nat × Bool)) (e : State) => e.jtagAt 0x00 = true ∨ e.jtagAt 0x01 = true) [(3, true)] (now
      stExtest)) ∧
    ((fun (cells : List (Nat × Bool)) (e : State) => e.jtag.ir ≠ 0 ∧ e.jtag.ir ≠ 1) [(3, true)] (now stRun)) := by
  refine ⟨?_, ?_, ?_, ?_, ?_, ?_, ?_, ?_, ?_, ?_, ?_, ?_, ?_, ?_, ?_, ?_, ?_, ?_⟩ <;> decide +kernel

/-- The conditions of HealthCommands are met, clause by clause. -/
theorem witness_HealthCommands :
    ((fun (centi : Int) (e : State) => e.running = true ∧ e.boot.loaded = true ∧ e.health.tempAt + 32768 ≤ e.lf) 4500 (now
      stRunLate)) ∧
    (now stRunLate).canonical ∧
    ((fun (centi : Int) (e : State) => e.running = false ∨ e.boot.loaded = false ∨ e.lf < e.health.tempAt + 32768) 4500
      (now State.reset)) ∧
    ((fun (m : Master) (value : Word) (e : State) => e.running = true ∧ e.life.state ≠ .scrap ∧ (fieldOf value 31 16 ≠
      0x4845 ∨ (bitOf value 1 = true ∧ e.sliceClearable = false))) .link 0x100 (now stRun)) ∧
    (now stRun).canonical ∧
    ((fun (m : Master) (value : Word) (e : State) => e.running = true ∧ e.life.state ≠ .scrap ∧ fieldOf value 31 16 =
      0x4845 ∧ bitOf value 1 = false ∧ e.boot.loaded = true ∧ e.noteOf 0x100010 = none) .link 0x48450100 (now stRun)) ∧
    ((fun (m : Master) (value : Word) (e : State) => e.running = true ∧ e.life.state ≠ .scrap ∧ fieldOf value 31 16 =
      0x4845 ∧ bitOf value 1 = true ∧ e.sliceClearable = true ∧ e.boot.loaded = true ∧ e.noteOf 0x100010 = none ∧
      e.noteOf 0x10000C = none) .link 0x48450002 (now stReturn)) ∧
    (now stReturn).canonical ∧
    ((fun (e : State) => e.running = true ∧ e.boot.loaded = true ∧ e.health.writeAt ≤ e.now ∧ e.cave.mode = .readonly) (now
      stReadonly)) ∧
    (now stReadonly).canonical ∧
    ((fun (e : State) => e.running = true ∧ e.boot.loaded = true ∧ e.health.writeAt ≤ e.now ∧ e.cave.mode = .mounting ∧
      e.healthBody.length ≤ 8160) (now stMounting)) ∧
    (now stMounting).canonical ∧
    ((fun (e : State) => e.running = false ∨ e.boot.loaded = false ∨ e.now < e.health.writeAt) (now State.reset)) := by
  refine ⟨?_, ?_, ?_, ?_, ?_, ?_, ?_, ?_, ?_, ?_, ?_, ?_, ?_⟩ <;> decide +kernel

/-- The conditions of ShipFailure are met, clause by clause. -/
theorem witness_ShipFailure :
    ((fun (e : State) => e.power.phase = .shipping ∧ e.power.shipAt + 3277 ≤ e.lf) (now stShipping)) ∧
    (now stShipping).canonical ∧
    ((fun (e : State) => e.power.phase ≠ .shipping ∨ e.lf < e.power.shipAt + 3277) (now stRun)) := by
  refine ⟨?_, ?_, ?_⟩ <;> decide +kernel

/-- The conditions of SecondRequestIsBusy are met, clause by clause. -/
theorem witness_SecondRequestIsBusy :
    ((fun (e : State) => e.running = true ∧ e.power.lfPwr = [] ∧ e.entering = true) (now (stEntry 5))) ∧
    ((fun (since : Nat) (e : State) => e.running = true ∧ e.bit 0x110008 4 = true ∧ e.idleSince = some since ∧ since +
      secAng (e.fld 0x110008 15 8) ≤ e.now ∧ e.entering = true) 0 (now stAutosbyEntry)) ∧
    ((fun (e : State) => e.running = true ∧ e.power.lfPwr = [] ∧ e.requestRefusal false true = none) (now stRun)) ∧
    (now stRun).canonical ∧
    ((fun (since : Nat) (e : State) => e.running = true ∧ e.bit 0x110008 4 = true ∧ e.idleSince = some since ∧ since +
      secAng (e.fld 0x110008 15 8) ≤ e.now ∧ e.requestRefusal false true = none) 0 (now stAutosby)) ∧
    (now stAutosby).canonical := by
  refine ⟨?_, ?_, ?_, ?_, ?_, ?_⟩ <;> decide +kernel

/-- The conditions of AcknowledgedNoticesAreFreed are met, clause by clause. -/
theorem witness_AcknowledgedNoticesAreFreed :
    ((fun (m : BitVec 16) (old rest : List Notice) (n : Notice) (e : State) => e.online = true ∧ e.link.cycIn = [] ∧
      e.link.ring = old ++ n :: rest ∧ (∀ x ∈ old, x.sent = true ∧ x.num ≠ m.toNat) ∧ n.sent = true ∧ n.num = m.toNat)
      1 [] [] { num := 1, code := 2, time := 0, payload := [], sent := true, queued := false } (now stSent)) ∧
    (now stSent).canonical ∧
    ((fun (m : BitVec 16) (e : State) => e.online = true ∧ e.link.cycIn = [] ∧ (∀ x ∈ e.link.ring, x.sent = true → x.num ≠
      m.toNat)) 5 (now stSent)) := by
  refine ⟨?_, ?_, ?_⟩ <;> decide +kernel

/-- The conditions of ResponseCacheHolds are met, clause by clause. -/
theorem witness_ResponseCacheHolds :
    (({ status := 3, next := stRun } : Reply).rest = none ∧ ({ status := 3, next := stRun } : Reply).status = 0x03) ∧
    (({ status := 0, next := stRun } : Reply).rest = none ∧ ({ status := 0, next := stRun } : Reply).status ≠ 0x02 ∧
      stRun.life.transition = none) ∧
    (({ status := 1, next := stTransition } : Reply).rest = none ∧ stRun.life.transition = none ∧ ({ status := 1, next := stTransition }
      : Reply).next.life.transition ≠ none) ∧
    (({ status := 0, next := stRun, rest := some [] } : Reply).rest ≠ none) := by
  refine ⟨?_, ?_, ?_, ?_⟩ <;> decide +kernel

/-- The conditions of CaptureOrder are met, clause by clause. -/
theorem witness_CaptureOrder :
    ((fun (n : Fin 16) (pin : Option Bool) (c : Nat) (e : State) => e.running = true ∧ e.stepTwo = e ∧ (e.timers[n]).capDue
      = [c] ∧ c ≤ e.now ∧ (e.timers[n]).run = true) 2 none 0 (now stCapHeld)) ∧
    (now stCapHeld).canonical ∧
    ((fun (n : Fin 16) (pin : Option Bool) (c : Nat) (e : State) => e.running = true ∧ e.stepTwo = e ∧ (e.timers[n]).capDue
      = [c] ∧ c ≤ e.now ∧ (e.timers[n]).run = false) 2 none 0 (now stCapStopped)) ∧
    ((fun (m : Master) (n : Fin 16) (e : State) => e.running = true ∧ e.life.state ≠ .scrap) .link 2 (now stCapDue)) := by
  refine ⟨?_, ?_, ?_, ?_⟩ <;> decide +kernel

/-- The conditions of LoopsOfAChannel are met, clause by clause. -/
theorem witness_LoopsOfAChannel :
    ((fun (n : Fin 16) (e : State) => e.atOp n 2 = true) 2 (now (stDmaRun 0x20000003))) ∧
    ((fun (n : Fin 16) (b k : Nat) (rest : List LoopFrame) (e : State) => e.atOp n 3 = true ∧ (e.ch n).loops = { body := b, left := some k }
      :: rest ∧ 2 ≤ k) 2 4 3 [] (now (stDmaLoop 3))) ∧
    ((fun (n : Fin 16) (b : Nat) (rest : List LoopFrame) (e : State) => e.atOp n 3 = true ∧ (e.ch n).loops = { body := b, left := none }
      :: rest) 2 4 [] (now (withCh (stDmaIdle.setReg 0x200000 0x30000000) { state := .run, loops := [{ body := 4, left := none }] }))) ∧
    ((fun (n : Fin 16) (b k : Nat) (rest : List LoopFrame) (e : State) => e.atOp n 3 = true ∧ (e.ch n).loops = { body := b, left := some k }
      :: rest ∧ k ≤ 1) 2 4 1 [] (now (stDmaLoop 1))) := by
  refine ⟨?_, ?_, ?_, ?_⟩ <;> decide +kernel

/-- The conditions of ResumeFromSuspension are met, clause by clause. -/
theorem witness_ResumeFromSuspension :
    ((fun (n : Fin 16) (e : State) => e.running = true ∧ e.life.state ≠ .scrap ∧ ((e.ch n).state = .suspended ∨ (e.ch
      n).state = .halted)) 2 (now stDmaHalted)) ∧
    (now stDmaHalted).canonical ∧
    ((fun (n : Fin 16) (e : State) => e.running = true ∧ e.life.state ≠ .scrap ∧ ((e.ch n).state = .idle ∨ (e.ch n).state =
      .run ∨ (e.ch n).state = .wait ∨ (e.ch n).state = .done)) 2 (now stRun)) := by
  refine ⟨?_, ?_, ?_⟩ <;> decide +kernel

/-- The conditions of HealthLevel are met, clause by clause. -/
theorem witness_HealthLevel :
    (stRun.running = true ∧ stRun.life.state ≠ .scrap) := by
  decide +kernel

/-- The conditions of ReadsOfClkLfBlocks are met, clause by clause. -/
theorem witness_ReadsOfClkLfBlocks :
    (0x110020 ∈ mirrorAddrs) ∧
    (stRun.running = true ∧ stRun.life.state ≠ .scrap ∧ inPd0 0xD0014 = true ∧ 0xD0014 % 0x10000 ≠ 0) := by
  refine ⟨?_, ?_⟩ <;> decide +kernel

end Sys2Proof.Tests
end

section
/-!
PROOFS. A reset with PD0 kept (R76 to R81), the ship-failure reset (R63), and requests for STANDBY and SHIP (R50, R51, R61, R70).
-/

namespace Sys2Proof.Machine

/-! ### A reset with PD0 kept -/

@[simp] theorem State.lockReset_power (s : State) : s.lockReset.power = s.power := by
  unfold State.lockReset
  dsimp only
  split <;> simp

/-- The lock's share of a reset touches its fault word alone (R547). -/
theorem State.reg_lockReset_other (s : State) {a : Nat} (h : a ≠ 0xE0008) : s.lockReset.reg a = s.reg a := by
  unfold State.lockReset
  dsimp only
  split
  · exact State.reg_orReg_other _ 2 h
  · rfl

/-- Beginning filters anew touches the rind alone. -/
theorem State.foldl_restartFilter_frame (l : List (Fin 6)) (s : State) :
    l.foldl State.restartFilter s = { s with rind := (l.foldl State.restartFilter s).rind } := by
  induction l generalizing s with
  | nil => rfl
  | cons i l ih => exact ih (s.restartFilter i)

@[simp] theorem State.restartFilters_power (s : State) : s.restartFilters.power = s.power := by
  rw [State.restartFilters, State.foldl_restartFilter_frame]

@[simp] theorem State.restartFilters_regs (s : State) : s.restartFilters.regs = s.regs := by
  rw [State.restartFilters, State.foldl_restartFilter_frame]

@[simp] theorem State.clearCore_power (s : State) (cause : Word) (por : Bool) : (s.clearCore cause por).power = s.power := rfl

/-- SYS_RSTCAUSE shows the cause: the word of NVM_BOOT, which is loaded after it, is another one. -/
theorem State.reg_clearCore_cause (s : State) (cause : Word) (por : Bool) : (s.clearCore cause por).reg 0x20 = cause :=
  (Sparse.get_set_other resetWord _ _ (by decide)).trans (Sparse.get_set_same resetWord _ _ _)

/-- What PD0 keeps through a reset of the rest: the lock stops, and a rind that slept begins its filters anew (R523, R547). -/
def State.pd0Reset (s : State) : State := if s.rindSleeps then s.lockReset.restartFilters else s.lockReset

@[simp] theorem State.pd0Reset_power (s : State) : s.pd0Reset.power = s.power := by
  unfold State.pd0Reset
  split <;> simp

theorem State.reg_pd0Reset_other (s : State) {a : Nat} (h : a ≠ 0xE0008) : s.pd0Reset.reg a = s.reg a := by
  unfold State.pd0Reset
  split
  · exact (State.reg_congr s.lockReset.restartFilters_regs a).trans (s.reg_lockReset_other h)
  · exact s.reg_lockReset_other h

/-- The power state that a reset with PD0 kept, made in state `s`, leaves while PD1 is still off (R76, R78). -/
def PowerSt.restarted (p : PowerSt) (s : State) : PowerSt :=
  { p with
    phase := .startup, entry := none, domRdy := 1, mainen := true, shipoff := false, wakeReq := 0, wakeSrc := 0, clockOwed := false
    pllTries := 0, activeAt := s.now, clockFail := false, vioReady := s.power.vioOk, lfTimers := false, pllOn := false, nowFrac := 0
    lfAon := inFlight s.power.lfAon, lfLck := inFlight s.power.lfLck, lfPwr := inFlight s.power.lfPwr }

/-- The state that a reset with PD0 kept leaves before PD1 may start. -/
def State.resetToPd0 (s : State) (bit : Nat) : State :=
  let c := s.pd0Reset.clearCore (s.pd0Reset.reg 0x20 ||| BitVec.ofNat 32 (2 ^ bit)) false
  c.setPower (c.power.restarted s)

/-- A reset with PD0 kept clears everything else, and then PD1 starts where it may. -/
theorem State.resetKeep_eq (s : State) (bit : Nat) : s.resetKeep bit = (s.resetToPd0 bit).startPd1 := rfl

@[simp] theorem State.resetToPd0_power (s : State) (bit : Nat) : (s.resetToPd0 bit).power = s.power.restarted s :=
  congrArg (PowerSt.restarted · s) ((s.pd0Reset.clearCore_power _ false).trans s.pd0Reset_power)

/-- The reset adds its cause to those that SYS_RSTCAUSE holds (R80). -/
theorem State.reg_resetToPd0_cause (s : State) (bit : Nat) : (s.resetToPd0 bit).reg 0x20 = s.reg 0x20 ||| BitVec.ofNat 32 (2 ^ bit) := by
  rw [← s.reg_pd0Reset_other (a := 0x20) (by decide)]
  exact s.pd0Reset.reg_clearCore_cause _ false

/-- PD1 is allowed to come up: VDD5 is valid and RSTN high (R76). -/
def State.pd1Allowed (s : State) : Prop := s.power.vdd5Ok = true ∧ s.power.rstLow = false

theorem State.not_pd1Allowed_iff {s : State} : ¬ s.pd1Allowed ↔ s.power.vdd5Ok = false ∨ s.power.rstLow = true := by
  rw [State.pd1Allowed, Decidable.not_and_iff_not_or_not, Bool.not_eq_true, Bool.not_eq_false]

/-- With VDD5 valid and RSTN high, PD1 of a start-up that still waits for them starts, and the NAND's power-up wait begins. -/
theorem State.startPd1_starts {s : State} (hp : s.power.phase = .startup) (hb : s.boot.stage = .supply) (h : s.pd1Allowed) :
    s.startPd1 = ({ s with boot := { s.boot with stage := .nandWait, waitAt := s.now } }).setPower { s.power with domRdy := 0x1803 } := by
  unfold State.startPd1
  exact if_pos ⟨hp, hb, h.1, h.2⟩

/-- Without VDD5, or with RSTN low, PD1 stays off. -/
theorem State.startPd1_waits {s : State} (h : ¬ s.pd1Allowed) : s.startPd1 = s := by
  unfold State.startPd1
  exact if_neg fun ⟨_, _, h5, hr⟩ => h ⟨h5, hr⟩

/-- The start of PD1 changes no register word. -/
@[simp] theorem State.reg_startPd1 (s : State) (a : Nat) : s.startPd1.reg a = s.reg a := by
  unfold State.startPd1
  split <;> rfl

/-- The start of PD1 changes nothing of the power state but the domains that are ready. -/
theorem State.startPd1_power (s : State) : s.startPd1.power = { s.power with domRdy := s.startPd1.power.domRdy } := by
  unfold State.startPd1
  split <;> rfl

theorem State.reg_resetKeep_cause (s : State) (bit : Nat) : (s.resetKeep bit).reg 0x20 = s.reg 0x20 ||| BitVec.ofNat 32 (2 ^ bit) := by
  rw [s.resetKeep_eq, State.reg_startPd1, s.reg_resetToPd0_cause]

theorem State.resetKeep_power (s : State) (bit : Nat) :
    (s.resetKeep bit).power = { s.power.restarted s with domRdy := (s.resetKeep bit).power.domRdy } := by
  rw [s.resetKeep_eq, ← s.resetToPd0_power bit]
  exact (s.resetToPd0 bit).startPd1_power

theorem State.resetToPd0_pd1Allowed (s : State) (bit : Nat) : (s.resetToPd0 bit).pd1Allowed ↔ s.pd1Allowed := by
  simp [State.pd1Allowed, PowerSt.restarted]

/-- Where VDD5 and RSTN already allow it, a reset leaves PD1 coming up (R76). -/
theorem State.resetKeep_of_pd1Allowed {s : State} (bit : Nat) (h : s.pd1Allowed) :
    (s.resetKeep bit).power.domRdy = 0x1803 ∧ (s.resetKeep bit).boot.stage = .nandWait := by
  rw [s.resetKeep_eq, State.startPd1_starts rfl rfl ((s.resetToPd0_pd1Allowed bit).2 h)]
  exact ⟨rfl, rfl⟩

/-- Otherwise it leaves PD0 alone ready, the start-up waiting for the supply. -/
theorem State.resetKeep_of_not_pd1Allowed {s : State} (bit : Nat) (h : ¬ s.pd1Allowed) :
    (s.resetKeep bit).power.domRdy = 1 ∧ (s.resetKeep bit).boot.stage = .supply := by
  rw [s.resetKeep_eq, State.startPd1_waits (mt (s.resetToPd0_pd1Allowed bit).1 h)]
  exact ⟨rfl, rfl⟩

/-! ### The ship failure (R63) -/

theorem State.shipFailure_due {s : State} (hp : s.power.phase = .shipping) (ht : s.power.shipAt + 3277 ≤ s.lf) :
    s.shipFailure = s.resetKeep 4 := by
  unfold State.shipFailure
  exact if_pos ⟨hp, ht⟩

/-- Before its moment, and in every other power state, the ship failure has no effect (log entry 4). -/
theorem State.shipFailure_undue {s : State} (h : s.power.phase ≠ .shipping ∨ s.lf < s.power.shipAt + 3277) : s.shipFailure = s := by
  unfold State.shipFailure
  exact if_neg fun ⟨hp, ht⟩ => h.elim (· hp) (Nat.not_lt.2 ht)

/-- Settles O52: the moment makes the reset with PD0 kept and cause bit 4; whether PD1 comes up with it is a case split on what VDD5 and
RSTN allow. -/
theorem shipFailure : Obligations.ShipFailure := by
  refine ⟨fun dt s _ ⟨hp, ht⟩ => ?due, fun dt s h => ?undue⟩
  case due =>
    have hx : exec (.shipFailure dt) s = .next ((s.elapse dt).resetKeep 4) := congrArg Host.Outcome.next (State.shipFailure_due hp ht)
    have power := (s.elapse dt).resetKeep_power 4
    exact ⟨_, hx, congrArg PowerSt.shipoff power, congrArg PowerSt.mainen power, congrArg PowerSt.phase power,
      (s.elapse dt).reg_resetKeep_cause 4, State.resetKeep_of_pd1Allowed 4,
      fun h => State.resetKeep_of_not_pd1Allowed 4 (State.not_pd1Allowed_iff.2 h)⟩
  case undue => exact congrArg Host.Outcome.next (State.shipFailure_undue h)

/-! ### Requests for STANDBY and SHIP (R50, R51, R61, R70) -/

/-- The power state once a request is accepted: RESULT 1 and the entry at step 1 (R52). -/
def PowerSt.accepted (p : PowerSt) (kind : EntryKind) (now : Nat) : PowerSt :=
  { p with result := 1, wakeReq := 0, entry := some { kind := kind, step := 1, startedAt := now, stepAt := now } }

/-- With the right key, an entry in progress decides before all else. -/
theorem State.requestRefusal_entering {s : State} (ship : Bool) (h : s.entering = true) : s.requestRefusal ship true = some 7 := by
  simp [State.requestRefusal, h]

/-- A refused request sets RESULT, and nothing else. -/
theorem State.powerRequest_refused {s : State} {ship keyOk : Bool} {code : Nat} (hr : s.running = true)
    (h : s.requestRefusal ship keyOk = some code) : s.powerRequest ship keyOk = s.setResult code := by
  simp [State.powerRequest, hr, h]

/-- A request that nothing refuses begins its entry. -/
theorem State.powerRequest_accepted {s : State} {ship keyOk : Bool} (hr : s.running = true) (h : s.requestRefusal ship keyOk = none) :
    s.powerRequest ship keyOk = s.setPower (s.power.accepted (if ship then .ship else .standby) s.now) := by
  simp only [State.powerRequest, hr, h, if_true]
  rfl

/-- PWR_REQ with the key and code 1 requests STANDBY, with code 2 SHIP (Table Power.8). -/
theorem State.powerWord_standby (s : State) : s.powerWord (requestWord 0xA5C3 1) = s.powerRequest false true := rfl

theorem State.powerWord_ship (s : State) : s.powerWord (requestWord 0xA5C3 2) = s.powerRequest true true := rfl

/-- In RUN, with no write on its way into the PWR block, a word of PWR_REQ takes effect at once. -/
theorem State.landNow_powerWord {s : State} (w : Word) (hr : s.running = true) (hq : s.power.lfPwr = []) :
    s.landNow 0x110004 w = s.powerWord w := by
  have hq' : s.lfQueue (lfBlockOf 0x110004) = [] := hq
  simp only [State.landNow, hq', State.whileRunning, hr, if_true]
  rfl

theorem exec_standbyRequest {dt : Span} {s : State} (hr : (s.elapse dt).running = true) (hq : (s.elapse dt).power.lfPwr = []) :
    exec (.standbyRequest dt 0xA5C3) s = .next ((s.elapse dt).powerRequest false true) :=
  congrArg Host.Outcome.next ((State.landNow_powerWord _ hr hq).trans (State.powerWord_standby _))

theorem exec_shipRequest {dt : Span} {s : State} (hr : (s.elapse dt).running = true) (hq : (s.elapse dt).power.lfPwr = []) :
    exec (.shipRequest dt 0xA5C3) s = .next ((s.elapse dt).powerRequest true true) :=
  congrArg Host.Outcome.next ((State.landNow_powerWord _ hr hq).trans (State.powerWord_ship _))

/-- In RUN with AUTOSBY enabled, the part has been idle for IDLESEC seconds since `since` (R50). -/
structure State.AutosbyDue (s : State) (since : Nat) : Prop where
  running : s.running = true
  enabled : s.bit 0x110008 4 = true
  idle : s.idleSince = some since
  elapsed : since + secAng (s.fld 0x110008 15 8) ≤ s.now

/-- The idle condition makes the request for STANDBY with its key, and its clock begins anew (log entry 50). -/
theorem State.autosby_due {s : State} {since : Nat} (h : s.AutosbyDue since) :
    s.autosby = (s.powerRequest false true).setPower { (s.powerRequest false true).power with activeAt := s.now } := by
  simp [State.autosby, h.running, h.enabled, h.idle, h.elapsed]

theorem exec_autosbyIdle {dt : Span} {s t : State} {since : Nat} (h : (s.elapse dt).AutosbyDue since)
    (hp : (s.elapse dt).powerRequest false true = t) :
    exec (.autosbyIdle dt) s = .next (t.setPower { t.power with activeAt := (s.elapse dt).now }) :=
  congrArg Host.Outcome.next (hp ▸ State.autosby_due h)

/-- Settles O53: every request comes down to `State.powerRequest`, which an entry in progress refuses with BUSY and which otherwise starts the
entry. -/
theorem secondRequestIsBusy : Obligations.SecondRequestIsBusy := by
  have busy {e : State} (ship : Bool) (hr : e.running = true) (he : e.entering = true) : e.powerRequest ship true = e.setResult 7 :=
    State.powerRequest_refused hr (State.requestRefusal_entering ship he)
  refine ⟨fun dt s ⟨hr, hq, he⟩ => ?standbyBusy, fun dt s ⟨hr, hq, he⟩ => ?shipBusy,
    fun since dt s ⟨hr, hen, hi, ht, he⟩ => ?autosbyBusy, fun dt s _ ⟨hr, hq, hn⟩ => ?standbyStarts,
    fun since dt s _ ⟨hr, hen, hi, ht, hn⟩ => ?autosbyStarts⟩
  case standbyBusy => exact (exec_standbyRequest hr hq).trans (congrArg Host.Outcome.next (busy false hr he))
  case shipBusy => exact (exec_shipRequest hr hq).trans (congrArg Host.Outcome.next (busy true hr he))
  case autosbyBusy => exact exec_autosbyIdle ⟨hr, hen, hi, ht⟩ (busy false hr he)
  case standbyStarts =>
    exact ⟨_, (exec_standbyRequest hr hq).trans (congrArg Host.Outcome.next (State.powerRequest_accepted hr hn)), rfl, rfl, rfl⟩
  case autosbyStarts => exact ⟨_, exec_autosbyIdle ⟨hr, hen, hi, ht⟩ (State.powerRequest_accepted hr hn), rfl, rfl⟩

end Sys2Proof.Machine
end

section
/-!
PROOFS. The response cache (R134, R556).
-/

namespace Sys2Proof.Machine

/-! ### What leaves the response cache alone -/

/-- A notice does not touch the response cache. -/
theorem NoticeFrame.cache {s t : State} (h : NoticeFrame s t) : t.link.cache = s.link.cache :=
  (congrArg LinkSt.cache h.linkRest :)

theorem State.noticeAll_frame (s : State) (l : List (Nat × List Byte)) : NoticeFrame s (s.noticeAll l) :=
  NoticeFrame.foldl (f := fun (s : State) (p : Nat × List Byte) => s.notice p.1 p.2) (fun s p => s.notice_frame p.1 p.2) l s

@[simp] theorem State.handOver_cache (s : State) (f : List Byte) : (s.handOver f).link.cache = s.link.cache := rfl

@[simp] theorem State.markMine_cache (before s : State) : (before.markMine s).link.cache = s.link.cache := rfl

@[simp] theorem State.holdNotices_cache (before s : State) : (before.holdNotices s).link.cache = s.link.cache := rfl

/-- The notices that waited for a response enter without touching the cache (R139). -/
@[simp] theorem State.releaseIn_cache (s : State) : s.releaseIn.link.cache = s.link.cache :=
  (State.noticeAll_frame _ s.link.heldIn).cache

/-! ### What a response does to it -/

/-- A status is kept in the cache unless it is BUSY, FETCHING, BUSY_MEDIA or SEQ_CONFLICT (R134). -/
theorem cachedStatus_eq_false_iff {status : Nat} :
    cachedStatus status = false ↔ status = 0x02 ∨ status = 0x03 ∨ status = 0x04 ∨ status = 0x13 := by
  simp only [cachedStatus, Bool.not_eq_false', Bool.or_eq_true, beq_iff_eq, or_assoc]

/-- The reply begins a lifecycle transition that was not under way before it. -/
def Reply.transits (before : State) (r : Reply) : Bool := before.life.transition.isNone && r.next.life.transition.isSome

theorem Reply.transits_iff {before : State} {r : Reply} :
    r.transits before = true ↔ before.life.transition = none ∧ r.next.life.transition ≠ none := by
  simp [Reply.transits, Option.isSome_iff_ne_none]

/-- The cache entry that a reply makes: SEQ, OP and the frame of its response (R134). -/
def Reply.cacheEntry (before : State) (seq op : Nat) (r : Reply) : CacheEntry :=
  { seq := seq, op := op, frame := responseFrame before.ringPending before.boot.recovery seq op r.status r.detail r.data }

/-- A command that waits for the commit of one of its words has no response yet (R161). -/
theorem State.respond_cache_of_waiting {before : State} {seq op : Nat} {r : Reply} (h : r.rest ≠ none) :
    (before.respond seq op r).link.cache = r.next.link.cache := by
  obtain ⟨rest, hrest⟩ := Option.ne_none_iff_exists'.1 h
  simp only [State.respond, hrest, State.markMine_cache, State.holdNotices_cache]

/-- The state after a command, with its reply in the cache where it is kept. -/
def State.cacheReply (before : State) (seq op : Nat) (r : Reply) : State :=
  if cachedStatus r.status && !r.transits before then
    { r.next with link := { r.next.link with cache := some (r.cacheEntry before seq op) } }
  else r.next

/-- A response frame leaves: at once, or held behind a stalled write, with the command's own notices after it (R43, R127, R139). -/
def State.deliver (before s : State) (f : List Byte) : State :=
  if s.link.held.isNone && s.cfg.waitCmd.isNone && (s.linkStalled || !s.link.heldIn.isEmpty) then
    let s2 := before.markMine (before.holdNotices s)
    if s2.linkStalled then { s2 with link := { s2.link with held := some f } } else (s2.handOver f).releaseIn
  else s.handOver f

@[simp] theorem State.deliver_cache (before s : State) (f : List Byte) : (before.deliver s f).link.cache = s.link.cache := by
  unfold State.deliver
  dsimp only
  split
  · split
    · rfl
    · simp
  · rfl

/-- A response is cached first and then delivered. -/
theorem State.respond_eq_deliver {before : State} {seq op : Nat} {r : Reply} (h : r.rest = none) :
    before.respond seq op r = before.deliver (before.cacheReply seq op r) (r.cacheEntry before seq op).frame := by
  simp only [State.respond, h]
  rfl

/-- Delivery leaves the cache, so that it holds the reply unless the status is not kept or a transition has wiped it (R134, R556; log entry 129). -/
theorem State.respond_cache {before : State} {seq op : Nat} {r : Reply} (h : r.rest = none) :
    (before.respond seq op r).link.cache =
      if cachedStatus r.status && !r.transits before then some (r.cacheEntry before seq op) else r.next.link.cache := by
  rw [State.respond_eq_deliver h, State.deliver_cache]
  exact apply_ite (fun s : State => s.link.cache) _ _ _

/-- Settles O55: a response writes the cache before it is delivered, and only under a status that is kept and with no transition begun. -/
theorem responseCacheHolds : Obligations.ResponseCacheHolds := by
  intro s seq op r
  refine ⟨fun h => ⟨fun hstatus => ?unchanged, fun hbefore hafter => ?wiped, fun ⟨h2, h3, h4, h13, ht⟩ => ?kept⟩,
    State.respond_cache_of_waiting⟩
  case unchanged =>
    have hkept : cachedStatus r.status = false := cachedStatus_eq_false_iff.2 hstatus
    simp [State.respond_cache h, hkept]
  case wiped =>
    have htransits : r.transits s = true := Reply.transits_iff.2 ⟨hbefore, hafter⟩
    simp [State.respond_cache h, htransits]
  case kept =>
    have hkept : cachedStatus r.status = true := by simp [← Bool.not_eq_false, cachedStatus_eq_false_iff, h2, h3, h4, h13]
    have htransits : r.transits s = false := by
      rw [← Bool.not_eq_true, Reply.transits_iff]
      exact fun ⟨hbefore, hafter⟩ => ht.elim (absurd hbefore) hafter
    rw [State.respond_cache h, hkept, htransits]
    rfl

end Sys2Proof.Machine
end

section
/-!
PROOFS. The captures of a timer and the reads of CAPLO (R303 to R306).
-/

namespace Sys2Proof.Machine

/-! ### The flags of a timer and their notice -/

/-- A notice that takes up more can change what a notice can. -/
theorem State.amendNotice_frame (s : State) (code : Nat) (old new extra : List Byte) :
    NoticeFrame s (s.amendNotice code old new extra) := by
  unfold State.amendNotice
  split
  · refine s.openCycle_frame.trans (NoticeFrame.trans ?_ (State.admitAll_frame _ _))
    exact ⟨rfl, fun _ _ => rfl, rfl⟩
  · exact s.notice_frame code extra

theorem NoticeFrame.of_eq {s t : State} (h : s = t) : NoticeFrame s t := h ▸ .refl s

theorem NoticeFrame.timers {s t : State} (h : NoticeFrame s t) : t.timers = s.timers := (congrArg State.timers h.rest :)

theorem NoticeFrame.sram {s t : State} (h : NoticeFrame s t) : t.sram = s.sram := (congrArg State.sram h.rest :)

theorem NoticeFrame.outs {s t : State} (h : NoticeFrame s t) : t.outs = s.outs := (congrArg State.outs h.rest :)

theorem State.setTimer_self (s : State) (n : Fin 16) : s.setTimer n s.timers[n] = s := by simp [State.setTimer]

theorem State.setTimer_setTimer (s : State) (n : Fin 16) (t u : TimerSt) : (s.setTimer n t).setTimer n u = s.setTimer n u := by
  simp [State.setTimer]

theorem State.getElem_setTimer_same (s : State) (n : Fin 16) (t : TimerSt) : (s.setTimer n t).timers[n] = t := by simp

theorem State.reg_setTimer (s : State) (n : Fin 16) (t : TimerSt) (a : Nat) : (s.setTimer n t).reg a = s.reg a := rfl

/-- Flags that rise set their bits of TMRn_STAT; the notice notes its moment at the timer, and changes nothing else but what a notice
can (R306). -/
theorem State.timerFlags_frame (s : State) (n : Fin 16) (m : Nat) :
    ∃ stamp, NoticeFrame ((s.orReg (tmrBase n + 0x2C) m).setTimer n { s.timers[n] with ntcAt := stamp }) (s.timerFlags n m) := by
  unfold State.timerFlags
  dsimp only
  split
  · exact ⟨(s.timers[n]).ntcAt, .of_eq ((s.orReg _ m).setTimer_self n)⟩
  · exact ⟨_, State.amendNotice_frame _ _ _ _ _⟩

/-- TMRn_STAT is not LNK_NTCLOST. -/
theorem tmrStat_ne_ntcLost (n : Fin 16) : tmrBase n + 0x2C ≠ 0x10034 := by unfold tmrBase; omega

/-- The flags join those that TMRn_STAT shows. -/
theorem State.reg_timerFlags (s : State) (n : Fin 16) (m : Nat) :
    (s.timerFlags n m).reg (tmrBase n + 0x2C) = s.reg (tmrBase n + 0x2C) ||| BitVec.ofNat 32 m := by
  obtain ⟨_, frame⟩ := s.timerFlags_frame n m
  rw [frame.reg _ (tmrStat_ne_ntcLost n), State.reg_setTimer, State.reg_orReg_same]

theorem State.timerFlags_timers (s : State) (n : Fin 16) (m : Nat) :
    (s.timerFlags n m).timers = s.timers.set n { s.timers[n] with ntcAt := ((s.timerFlags n m).timers[n]).ntcAt } := by
  obtain ⟨_, frame⟩ := s.timerFlags_frame n m
  simp [frame.timers]

@[simp] theorem State.timerFlags_sram (s : State) (n : Fin 16) (m : Nat) : (s.timerFlags n m).sram = s.sram := by
  obtain ⟨_, frame⟩ := s.timerFlags_frame n m
  exact frame.sram

@[simp] theorem State.timerFlags_outs (s : State) (n : Fin 16) (m : Nat) : (s.timerFlags n m).outs = s.outs := by
  obtain ⟨_, frame⟩ := s.timerFlags_frame n m
  exact frame.outs

/-! ### A capture (R303) -/

theorem bitOf_or (w m : Word) (i : Nat) : bitOf (w ||| m) i = (bitOf w i || bitOf m i) := by simp [bitOf]

/-- The timer once the capture event that was due is used up. -/
def TimerSt.eventTaken (t : TimerSt) : TimerSt := { t with capDue := [] }

/-- The timer once that event has made its capture: CAP has taken COUNT, and CAPF is set. -/
def TimerSt.captured (t : TimerSt) : TimerSt := { t.eventTaken with cap := t.count, capf := true }

/-- The one capture event that is due is used up, whatever the pin shows. A timer at rest captures nothing; of one that runs, the capture
changes that timer alone where none is held, and raises OVR where one is. -/
theorem State.timerCapture_due {s : State} {n : Fin 16} {c : Nat} (pin : Option Bool) (hd : (s.timers[n]).capDue = [c]) (hc : c ≤ s.now) :
    s.timerCapture n pin =
      if (s.timers[n]).run then
        if (s.timers[n]).capf then (s.setTimer n (s.timers[n]).captured).timerFlags n 8 else s.setTimer n (s.timers[n]).captured
      else s.setTimer n (s.timers[n]).eventTaken := by
  have taken : s.timerCapture n pin = (s.setTimer n (s.timers[n]).eventTaken).timerCaptureNow n := by
    simp only [State.timerCapture, hd, List.find?_cons, hc, decide_true, List.erase_cons_head]
    rfl
  rw [taken, State.timerCaptureNow, State.getElem_setTimer_same, State.setTimer_setTimer]
  rfl

theorem State.whileAwake_of_running {s : State} (h : s.running = true) (f : State → State) : s.whileAwake f = f s := by
  have hp : (s.power.phase == .run) = true := h
  simp [State.whileAwake, hp]

/-- In RUN, with no commit at this moment, TIMER_CAPTURE is the capture alone. -/
theorem exec_timerCapture {dt : Span} {s : State} (n : Fin 16) (pin : Option Bool) (hr : (s.elapse dt).running = true)
    (hs : (s.elapse dt).stepTwo = s.elapse dt) : exec (.timerCapture dt n pin) s = .next ((s.elapse dt).timerCapture n pin) := by
  have hx : exec (.timerCapture dt n pin) s = .next ((s.elapse dt).whileAwake fun e => e.stepTwo.timerCapture n pin) := rfl
  rw [hx, State.whileAwake_of_running hr, hs]

/-! ### A read of CAPLO (R303, R304) -/

/-- Where CAPLO of each timer lies: in the TMR block, and among the latched words. -/
theorem capLo_address : ∀ n : Fin 16,
    (tmrBase n + 0x38) / 0x10000 = 5 ∧ inBlocks (tmrBase n + 0x38) = true ∧ inSram (tmrBase n + 0x38) = false ∧
      isStored (tmrBase n + 0x38) = false ∧ latchedRead (tmrBase n + 0x38) = some (n, true, false) := by decide

/-- Outside SCRAP no read of CAPLO ends in a bus error. -/
theorem State.accessFails_capLo {s : State} (h : s.life.state ≠ .scrap) (m : Master) (jornus : Bool) (n : Fin 16) :
    s.accessFails m jornus (tmrBase n + 0x38) false = false := by
  obtain ⟨block, inBlock, -, notStored, -⟩ := capLo_address n
  simp [State.accessFails, implemented, block, inBlock, notStored, h]

theorem State.busReadWord_capLo {s : State} (h : s.life.state ≠ .scrap) (m : Master) (jornus : Bool) (n : Fin 16) :
    s.busReadWord m jornus (tmrBase n + 0x38) = { next := (s.timerReadLow m n true).2, word := (s.timerReadLow m n true).1 } := by
  obtain ⟨-, -, notSram, notStored, latched⟩ := capLo_address n
  simp [State.busReadWord, State.accessFails_capLo h, notSram, notStored, latched]

theorem exec_timerLatchedRead_cap {dt : Span} {s : State} (m : Master) (n : Fin 16) (hr : (s.elapse dt).running = true)
    (hl : (s.elapse dt).life.state ≠ .scrap) :
    exec (.timerLatchedRead dt m n true) s = .next { ((s.elapse dt).timerReadLow m n true).2 with
      busRead := ((s.elapse dt).timerReadLow m n true).1, busError := false } := by
  have hx : exec (.timerLatchedRead dt m n true) s = .next ((s.elapse dt).busRead' m (tmrBase n + 0x38)) := rfl
  rw [hx, State.busRead', if_pos hr, State.busReadWord_capLo hl]
  rfl

/-- Settles O56: the event that is due is used up, and then the capture depends on the timer being released and on CAPF alone; a read of
CAPLO is the low read of CAP, whichever master makes it. -/
theorem captureOrder : Obligations.CaptureOrder := by
  refine ⟨fun n pin c dt s _ ⟨hr, hs, hd, hc, hrun⟩ => ⟨_, exec_timerCapture n pin hr hs, ?released⟩,
    fun n pin c dt s ⟨hr, hs, hd, hc, hrun⟩ => ?unreleased, fun m n dt s ⟨hr, hl⟩ => ?capLo⟩
  case released =>
    rw [State.timerCapture_due pin hd hc, if_pos hrun]
    generalize s.elapse dt = e at hrun ⊢
    cases hf : (e.timers[n]).capf with
    | false =>
      rw [if_neg Bool.false_ne_true]
      have timer := e.getElem_setTimer_same n (e.timers[n]).captured
      exact ⟨by rw [timer]; rfl, nofun, fun _ => ⟨rfl, by rw [timer]; rfl⟩, rfl, rfl⟩
    | true =>
      rw [if_pos rfl]
      have timers := (e.setTimer n (e.timers[n]).captured).timerFlags_timers n 8
      have stat := (e.setTimer n (e.timers[n]).captured).reg_timerFlags n 8
      have ovr := (congrArg (bitOf · 3) stat).trans ((bitOf_or _ 8 3).trans (Bool.or_true _))
      rw [State.getElem_setTimer_same, State.setTimer_timers, Vector.set_set] at timers
      exact ⟨timers, fun _ => ⟨ovr, stat⟩, nofun, State.timerFlags_sram _ n 8, State.timerFlags_outs _ n 8⟩
  case unreleased =>
    rw [exec_timerCapture n pin hr hs, State.timerCapture_due pin hd hc, hrun]
    rfl
  case capLo =>
    rw [exec_timerLatchedRead_cap m n hr hl]
    cases m <;> rfl

end Sys2Proof.Machine
end

section
/-!
PROOFS. The loops of a DMA channel (R390) and RESUME (R411, R412).
-/

namespace Sys2Proof.Machine

/-! ### LOOP and ENDLOOP (R390) -/

/-- LOOP opens a loop at the next instruction; COUNT 0 gives it no end. -/
theorem State.opLoop_atOp {s : State} {n : Fin 16} (h : s.atOp n 2 = true) :
    s.opLoop n = s.setCh n { s.ch n with
      pc := (s.ch n).pc + 1
      loops := { body := (s.ch n).pc + 1
                 left := if fieldOf (s.progWord (s.ch n).pc) 15 0 = 0 then none else some (fieldOf (s.progWord (s.ch n).pc) 15 0) } ::
        (s.ch n).loops } := by
  unfold State.opLoop
  exact if_pos h

/-- With runs left, ENDLOOP uses one up and goes back to the body. -/
theorem State.opEndLoop_again {s : State} {n : Fin 16} {b k : Nat} {rest : List LoopFrame} (h : s.atOp n 3 = true)
    (hl : (s.ch n).loops = { body := b, left := some k } :: rest) (hk : 2 ≤ k) :
    s.opEndLoop n = s.setCh n { s.ch n with pc := b, loops := { body := b, left := some (k - 1) } :: rest } := by
  have more : 1 < k := hk
  simp only [State.opEndLoop, h, hl, more, if_true]

/-- A loop without end goes back to its body and stays open. -/
theorem State.opEndLoop_endless {s : State} {n : Fin 16} {b : Nat} {rest : List LoopFrame} (h : s.atOp n 3 = true)
    (hl : (s.ch n).loops = { body := b, left := none } :: rest) :
    s.opEndLoop n = s.setCh n { s.ch n with pc := b } := by
  simp only [State.opEndLoop, h, hl, if_true]

/-- In the last run ENDLOOP closes the loop and goes on. -/
theorem State.opEndLoop_last {s : State} {n : Fin 16} {b k : Nat} {rest : List LoopFrame} (h : s.atOp n 3 = true)
    (hl : (s.ch n).loops = { body := b, left := some k } :: rest) (hk : k ≤ 1) :
    s.opEndLoop n = s.setCh n { s.ch n with pc := (s.ch n).pc + 1, loops := rest } := by
  have last : ¬ 1 < k := Nat.not_lt.2 hk
  simp only [State.opEndLoop, h, hl, last, if_true, if_false]

/-- Settles O57: LOOP pushes a frame, and ENDLOOP does what the runs left in the innermost frame say: some, no end, or the last one. -/
theorem loopsOfAChannel : Obligations.LoopsOfAChannel :=
  ⟨fun _ _ _ h => congrArg Host.Outcome.next (State.opLoop_atOp h),
    fun _ _ _ _ _ _ ⟨h, hl, hk⟩ => congrArg Host.Outcome.next (State.opEndLoop_again h hl hk),
    fun _ _ _ _ _ ⟨h, hl⟩ => congrArg Host.Outcome.next (State.opEndLoop_endless h hl),
    fun _ _ _ _ _ _ ⟨h, hl, hk⟩ => congrArg Host.Outcome.next (State.opEndLoop_last h hl hk)⟩

/-! ### A write of DMA_CHn_CTRL by the link -/

/-- DMA_CHn_CTRL lies in the DMA block, and is a word of the register map with no RWS field. -/
theorem chCtrl_address : ∀ n : Fin 16,
    (dmaBase n + 8) / 0x10000 = 9 ∧ inBlocks (dmaBase n + 8) = true ∧ inSram (dmaBase n + 8) = false ∧
      isStored (dmaBase n + 8) = false ∧ rwsMask (dmaBase n + 8) = 0 ∧ (regRow (dmaBase n + 8)).isNone = false ∧
      inPd0 (dmaBase n + 8) = false := by decide

/-- It is word 8 of the page of its channel. -/
theorem chCtrl_page : ∀ n : Fin 16,
    (dmaBase n + 8) % 0x80 = 8 ∧ Fin.ofNat 16 ((dmaBase n + 8 - 0x90000) / 0x80) = n ∧
      0x90000 ≤ dmaBase n + 8 ∧ dmaBase n + 8 < 0x90800 := by decide

/-- Outside SCRAP no write of the link to DMA_CHn_CTRL ends in a bus error. -/
theorem State.accessFails_chCtrl {s : State} (h : s.life.state ≠ .scrap) (jornus : Bool) (n : Fin 16) :
    s.accessFails .link jornus (dmaBase n + 8) true = false := by
  obtain ⟨block, inBlock, -, notStored, -⟩ := chCtrl_address n
  simp [State.accessFails, implemented, block, inBlock, notStored, h]

theorem State.writePlain_chCtrl (s : State) (m : Master) (n : Fin 16) (w : Word) :
    s.writePlain m (dmaBase n + 8) w = s.writeChCtrl n w := by
  obtain ⟨word, channel, low, high⟩ := chCtrl_page n
  simp only [State.writePlain, low, high, and_self, if_true, State.writeDma, word, channel]

/-- In RUN, outside SCRAP, such a write makes the channel do what its bits say, and succeeds. -/
theorem State.busWrite_chCtrl {s : State} (hr : s.running = true) (hl : s.life.state ≠ .scrap) (n : Fin 16) (w : Word) :
    s.busWrite .link (dmaBase n + 8) w = { s.writeChCtrl n w with busRead := 0, busError := false } := by
  obtain ⟨block, -, notSram, -, noRws, mapped, notPd0⟩ := chCtrl_address n
  have notClose : dmaBase n + 8 ≠ 0x20010 := by omega
  simp [State.busWrite, hr, State.busWriteWord, State.accessFails_chCtrl hl, notSram, noRws, mapped, notPd0, notClose,
    State.writePlain_chCtrl]

/-! ### RESUME (R411, R412) -/

/-- A channel resumed: in RUN at its beat, from HALTED with a fresh retry count. -/
def DmaCh.resumed (c : DmaCh) : DmaCh := { c with state := .run, tries := if c.state = .halted then 0 else c.tries }

theorem State.dmaResume_stopped {s : State} {n : Fin 16} (h : (s.ch n).state = .suspended ∨ (s.ch n).state = .halted) :
    s.dmaResume n = s.setCh n (s.ch n).resumed := by
  rcases h with h | h <;> simp [State.dmaResume, DmaCh.resumed, h]

/-- A channel that is neither SUSPENDED nor HALTED ignores RESUME. -/
theorem State.dmaResume_ignored {s : State} {n : Fin 16} (hs : (s.ch n).state ≠ .suspended) (hh : (s.ch n).state ≠ .halted) :
    s.dmaResume n = s := by
  simp only [State.dmaResume, hs, hh, if_false]

/-- A write of RESUME alone. -/
theorem State.writeChCtrl_resume (s : State) (n : Fin 16) : s.writeChCtrl n 4 = s.dmaResume n := rfl

theorem exec_dmaResume {dt : Span} {s : State} (n : Fin 16) (hr : (s.elapse dt).running = true)
    (hl : (s.elapse dt).life.state ≠ .scrap) :
    exec (.dmaResume dt n) s = .next { (s.elapse dt).dmaResume n with busRead := 0, busError := false } := by
  rw [← State.writeChCtrl_resume]
  exact congrArg Host.Outcome.next (State.busWrite_chCtrl hr hl n 4)

theorem State.ch_setCh_same (s : State) (n : Fin 16) (c : DmaCh) : (s.setCh n c).ch n = c := by simp [State.ch]

theorem State.progWord_congr {s t : State} (h : t.regs = s.regs) (off : Nat) : t.progWord off = s.progWord off := State.reg_congr h _

theorem State.moveAt_congr {s t : State} (h : t.regs = s.regs) (off : Nat) : t.moveAt off = s.moveAt off := by
  simp only [State.moveAt, State.progWord_congr h]

theorem State.opRing_congr {s t : State} (h : t.regs = s.regs) (n : Fin 16) (mode r : Nat) : t.opRing n mode r = s.opRing n mode r := by
  simp only [State.opRing, State.chRing, State.fld, State.reg_congr h]

theorem State.moveBeat_congr {s t : State} (h : t.regs = s.regs) (n : Fin 16) (i : MoveIns) (m : MoveSt) :
    t.moveBeat n i m = s.moveBeat n i m := by
  simp only [State.moveBeat, State.opRing_congr h]

/-- The next beat of a channel depends on its work, on its PC and on register words alone. -/
theorem State.nextBeat_congr {s t : State} {n : Fin 16} (hwork : (t.ch n).work = (s.ch n).work) (hpc : (t.ch n).pc = (s.ch n).pc)
    (hregs : t.regs = s.regs) : t.nextBeat n = s.nextBeat n := by
  unfold State.nextBeat
  rw [hwork, hpc]
  cases (s.ch n).work with
  | none => rfl
  | set a v => rfl
  | move m => simp only [State.moveAt_congr hregs, State.moveBeat_congr hregs]

/-- Settles O58: RESUME of a stopped channel changes its state and its retry count alone, on which its next beat does not depend. -/
theorem resumeFromSuspension : Obligations.ResumeFromSuspension := by
  refine ⟨fun n dt s _ ⟨hr, hl, hstopped⟩ => ⟨_, exec_dmaResume n hr hl, ?stopped⟩, fun n dt s ⟨hr, hl, hother⟩ => ?other⟩
  case stopped =>
    rw [State.dmaResume_stopped hstopped]
    generalize s.elapse dt = e
    have resumed := e.ch_setCh_same n (e.ch n).resumed
    exact ⟨rfl, State.nextBeat_congr (congrArg DmaCh.work resumed :) (congrArg DmaCh.pc resumed :) rfl, congrArg DmaCh.state resumed⟩
  case other =>
    have ignored : (s.elapse dt).dmaResume n = s.elapse dt := by
      rcases hother with h | h | h | h <;> exact State.dmaResume_ignored (by simp [h]) (by simp [h])
    rw [exec_dmaResume n hr hl, ignored]

end Sys2Proof.Machine
end

section
/-!
PROOFS. The level that a read of HLT_LEVEL answers (R581).
-/

namespace Sys2Proof.Machine

/-! ### Reads of a word without RC fields (R7, R640) -/

/-- A read clears nothing in such a word. -/
theorem State.clearRc_of_rc_eq_zero (s : State) {a : Nat} {r : RegRow} (hrow : regRow a = some r) (hrc : r.rc = 0) :
    s.clearRc a = s := by
  simp only [State.clearRc, hrow, hrc, if_true]

/-- It shows the word as it stands, whatever the hardware has set in this CLK_SYS cycle (R9). -/
theorem State.readBack_of_rc_eq_zero (s : State) {a : Nat} {r : RegRow} (w : Word) (hrow : regRow a = some r) (hrc : r.rc = 0)
    (hres : isResult a = false) : s.readBack a w = w := by
  cases hn : s.noteOf a with
  | none => simp only [State.readBack, hrow, hn]
  | some n =>
    have whole : w &&& 0xFFFFFFFF#32 = w := BitVec.and_allOnes
    simp [State.readBack, hrow, hrc, hres, hn, whole]

/-! ### The word at HLT_LEVEL -/

/-- HLT_LEVEL is a word of the register map with no RC field. -/
theorem regRow_hltLevel : regRow 0x100000 = some { name := "HLT_LEVEL", first := 0x100000 } := by decide

theorem State.view_hltLevel (s : State) (m : Master) : s.view m 0x100000 = s.levelWord := by
  have shown : (regRow 0x100000).isSome = true := congrArg Option.isSome regRow_hltLevel
  rw [State.view, if_pos shown]
  rfl

/-- Outside SCRAP no read of HLT_LEVEL ends in a bus error. -/
theorem State.accessFails_hltLevel {s : State} (h : s.life.state ≠ .scrap) (m : Master) (jornus : Bool) :
    s.accessFails m jornus 0x100000 false = false := by
  simp [State.accessFails, implemented, inBlocks, isStored, h]

/-- Such a read answers the word of the causes as they stand, and changes nothing. -/
theorem State.busReadWord_hltLevel {s : State} (h : s.life.state ≠ .scrap) (m : Master) (jornus : Bool) :
    s.busReadWord m jornus 0x100000 = { next := s, word := s.levelWord } := by
  have kept := s.clearRc_of_rc_eq_zero regRow_hltLevel rfl
  have shown := s.readBack_of_rc_eq_zero s.levelWord regRow_hltLevel rfl (by decide)
  simp [State.busReadWord, State.accessFails_hltLevel h, inSram, isStored, latchedRead, inProgStore, inPd0, State.view_hltLevel, kept,
    shown]

theorem State.busRead'_hltLevel {s : State} (hr : s.running = true) (hl : s.life.state ≠ .scrap) (m : Master) :
    s.busRead' m 0x100000 = { s with busRead := s.levelWord, busError := false } := by
  rw [State.busRead', if_pos hr, State.busReadWord_hltLevel hl]
  rfl

/-! ### LEVEL (R581) -/

/-- The REPLACE causes, one bit each in the order of HLT_LEVEL: SLICE, WHEEL, SPARE_POOL, LIFE, MODEL. -/
def HealthSt.replaceBits (h : HealthSt) : Nat :=
  b2n h.slice + 2 * b2n (decide (h.deadW ≠ 0)) + 4 * b2n h.sparePool + 8 * b2n h.life + 16 * b2n h.model

@[simp] theorem b2n_eq_zero_iff {b : Bool} : b2n b = 0 ↔ b = false := by cases b <;> decide

theorem HealthSt.replaceBits_eq_zero_iff {h : HealthSt} :
    h.replaceBits = 0 ↔ h.slice = false ∧ h.deadW = 0 ∧ h.sparePool = false ∧ h.life = false ∧ h.model = false := by
  have bits : h.replaceBits = 0 ↔
      b2n h.slice = 0 ∧ b2n (decide (h.deadW ≠ 0)) = 0 ∧ b2n h.sparePool = 0 ∧ b2n h.life = 0 ∧ b2n h.model = 0 := by
    unfold HealthSt.replaceBits
    omega
  simp only [bits, b2n_eq_zero_iff, decide_eq_false_iff_not, Decidable.not_not, ne_eq]

theorem HealthSt.replaceBits_ne_zero_iff {h : HealthSt} :
    h.replaceBits ≠ 0 ↔ h.slice = true ∨ h.deadW ≠ 0 ∨ h.sparePool = true ∨ h.life = true ∨ h.model = true := by
  simp only [ne_eq, HealthSt.replaceBits_eq_zero_iff, Decidable.not_and_iff_not_or_not, Bool.not_eq_false]

/-- HLT_LEVEL shows the REPLACE causes from bit 8 on, and LEVEL below them. -/
theorem State.levelWord_eq (s : State) :
    s.levelWord = BitVec.ofNat 32 (atBit s.health.replaceBits 8 +
      (if s.health.replaceBits ≠ 0 then 2 else if s.reg 0x100004 ≠ 0 then 1 else 0)) := rfl

/-- A value below bit 2 reads back whatever stands from bit 8 on. -/
theorem fieldOf_low_of_atBit (r : Nat) {v : Nat} (h : v < 4) : fieldOf (BitVec.ofNat 32 (atBit r 8 + v)) 1 0 = v := by
  simp only [fieldOf, fieldNat, atBit, BitVec.toNat_ofNat, Nat.shiftLeft_eq, Nat.shiftRight_zero]
  omega

/-- LEVEL is REPLACE under a REPLACE cause, otherwise ADVISE under an ADVISE bit, otherwise OK. -/
theorem State.level_levelWord (s : State) :
    fieldOf s.levelWord 1 0 = if s.health.replaceBits ≠ 0 then 2 else if s.reg 0x100004 ≠ 0 then 1 else 0 := by
  rw [s.levelWord_eq]
  refine fieldOf_low_of_atBit _ ?_
  split
  · decide
  · split <;> decide

/-- Settles O59: a read of HLT_LEVEL answers the word of the causes, whose LEVEL the REPLACE bits decide before the ADVISE bits. -/
theorem healthLevel : Obligations.HealthLevel := by
  intro e m hr hl
  have read := State.busRead'_hltLevel hr hl m
  have answer : (e.busRead' m 0x100000).busRead = e.levelWord := congrArg State.busRead read
  rw [answer]
  refine ⟨?level, read⟩
  simp only [e.level_levelWord, HealthSt.replaceBits_ne_zero_iff]

end Sys2Proof.Machine
end

section
/-!
PROOFS. What every step keeps, and what a step is.
-/

namespace Sys2Proof.Machine

/-- Every command answers a next state, which keeps the queue, the canonical form, the bounds of the ring and every blown fuse. -/
theorem exec_kept : ∀ (c : Instr) (s : State), ∃ t, exec c s = .next t ∧ Kept s t
  | .por dt, s => execPor_kept s dt
  | .pinReset dt, s => execPinReset_kept s dt
  | .bor dt, s => execBor_kept s dt
  | .clockFailure dt, s => execClockFailure_kept s dt
  | .pllLockTimeout dt, s => execPllLockTimeout_kept s dt
  | .vioLow dt, s => execVioLow_kept s dt
  | .vioRecovered dt, s => execVioRecovered_kept s dt
  | .lfCrystalStart dt, s => execLfCrystalStart_kept s dt
  | .lfxfail dt, s => execLfxfail_kept s dt
  | .lfswitch dt, s => execLfswitch_kept s dt
  | .lfcalWindowEnd dt count, s => execLfcalWindowEnd_kept s dt count
  | .domainReady dt n, s => execDomainReady_kept s dt n
  | .standbyRequest dt key, s => execStandbyRequest_kept s dt key
  | .shipRequest dt key, s => execShipRequest_kept s dt key
  | .autosbyIdle dt, s => execAutosbyIdle_kept s dt
  | .standbyEntryStepDone dt, s => execStandbyEntryStepDone_kept s dt
  | .entryDmaDrainTimeout dt, s => execEntryDmaDrainTimeout_kept s dt
  | .ntcPowerAckTimeout dt, s => execNtcPowerAckTimeout_kept s dt
  | .standbyEntryTimeout dt, s => execStandbyEntryTimeout_kept s dt
  | .wakeSourceLatch dt wakein, s => execWakeSourceLatch_kept s dt wakein
  | .runReached dt, s => execRunReached_kept s dt
  | .shipFailure dt, s => execShipFailure_kept s dt
  | .vaonLoss dt, s => execVaonLoss_kept s dt
  | .vdd5Valid dt late, s => execVdd5Valid_kept s dt late
  | .rstnRelease dt, s => execRstnRelease_kept s dt
  | .hostReset dt, s => execHostReset_kept s dt
  | .nandPowerupWaitEnd dt probe, s => execNandPowerupWaitEnd_kept s dt probe
  | .nandOpComplete dt fail errors, s => execNandOpComplete_kept s dt fail errors
  | .nandTimeout dt, s => execNandTimeout_kept s dt
  | .loadCommit dt, s => execLoadCommit_kept s dt
  | .modelLoadDone dt, s => execModelLoadDone_kept s dt
  | .imageRepairEnd dt, s => execImageRepairEnd_kept s dt
  | .ping dt seq args, s => execPing_kept s dt seq args
  | .reset dt seq args, s => execReset_kept s dt seq args
  | .read dt seq args, s => execRead_kept s dt seq args
  | .write dt seq args, s => execWrite_kept s dt seq args
  | .modify dt seq args, s => execModify_kept s dt seq args
  | .txnOpen dt seq args, s => execTxnOpen_kept s dt seq args
  | .txnCommit dt seq args, s => execTxnCommit_kept s dt seq args
  | .txnAbort dt seq args, s => execTxnAbort_kept s dt seq args
  | .txnStatus dt seq args, s => execTxnStatus_kept s dt seq args
  | .imgBegin dt seq args, s => execImgBegin_kept s dt seq args
  | .imgData dt seq args, s => execImgData_kept s dt seq args
  | .imgEnd dt seq args, s => execImgEnd_kept s dt seq args
  | .imgAbort dt seq args, s => execImgAbort_kept s dt seq args
  | .recRead dt seq args, s => execRecRead_kept s dt seq args
  | .logRead dt seq args, s => execLogRead_kept s dt seq args
  | .selftest dt seq args, s => execSelftest_kept s dt seq args
  | .lcsChallenge dt seq args, s => execLcsChallenge_kept s dt seq args
  | .lcsRespond dt seq args, s => execLcsRespond_kept s dt seq args
  | .badOpcode dt seq op args, s => execBadOpcode_kept s dt seq op args
  | .ack dt number, s => execAck_kept s dt number
  | .ignoredFrame dt frame, s => execIgnoredFrame_kept s dt frame
  | .noticeTransmit dt, s => execNoticeTransmit_kept s dt
  | .goBack dt, s => execGoBack_kept s dt
  | .linkStale dt, s => execLinkStale_kept s dt
  | .busOff dt, s => execBusOff_kept s dt
  | .busOffRecovery dt, s => execBusOffRecovery_kept s dt
  | .linkSettingsApply dt, s => execLinkSettingsApply_kept s dt
  | .errorPassive dt tec rec, s => execErrorPassive_kept s dt tec rec
  | .busIntegrationDone dt, s => execBusIntegrationDone_kept s dt
  | .registerWrite dt m addr value, s => execRegisterWrite_kept s dt m addr value
  | .lfWriteDone dt block, s => execLfWriteDone_kept s dt block
  | .cfgStageClose dt m, s => execCfgStageClose_kept s dt m
  | .cfgHoldset dt m mask, s => execCfgHoldset_kept s dt m mask
  | .commitPoint dt, s => execCommitPoint_kept s dt
  | .commitDmaWaitEnd dt, s => execCommitDmaWaitEnd_kept s dt
  | .armTimeout dt, s => execArmTimeout_kept s dt
  | .stageTimeout dt, s => execStageTimeout_kept s dt
  | .angleSelftestStart dt, s => execAngleSelftestStart_kept s dt
  | .angleSelftestEnd dt pass detail, s => execAngleSelftestEnd_kept s dt pass detail
  | .selftestDeferredTimeout dt, s => execSelftestDeferredTimeout_kept s dt
  | .adcSelftestDone dt x readings, s => execAdcSelftestDone_kept s dt x readings
  | .inputStuckTimeout dt input, s => execInputStuckTimeout_kept s dt input
  | .toothEdge dt w onB level peak, s => execToothEdge_kept s dt w onB level peak
  | .standstill dt w, s => execStandstill_kept s dt w
  | .coastEntry dt w, s => execCoastEntry_kept s dt w
  | .wheelDead dt w, s => execWheelDead_kept s dt w
  | .biasCheck dt, s => execBiasCheck_kept s dt
  | .biasCheckDone dt plus minus idle rail, s => execBiasCheckDone_kept s dt plus minus idle rail
  | .snapshot dt m, s => execSnapshot_kept s dt m
  | .eventInsert dt m ctl, s => execEventInsert_kept s dt m ctl
  | .eventDue dt n, s => execEventDue_kept s dt n
  | .pulseEnd dt n, s => execPulseEnd_kept s dt n
  | .probeSample dt n, s => execProbeSample_kept s dt n
  | .queueFlush dt m mask, s => execQueueFlush_kept s dt m mask
  | .chopTimedEnd dt n, s => execChopTimedEnd_kept s dt n
  | .deadTimeEnd dt k, s => execDeadTimeEnd_kept s dt k
  | .timerRelease dt mask, s => execTimerRelease_kept s dt mask
  | .timerWrap dt n, s => execTimerWrap_kept s dt n
  | .timerMatch dt n chanB, s => execTimerMatch_kept s dt n chanB
  | .timerResetLoad dt n, s => execTimerResetLoad_kept s dt n
  | .timerCapture dt n pin, s => execTimerCapture_kept s dt n pin
  | .tmrSwcap dt m mask, s => execTmrSwcap_kept s dt m mask
  | .compareWrite dt m n chanB value, s => execCompareWrite_kept s dt m n chanB value
  | .compareHighWrite dt m n chanB value, s => execCompareHighWrite_kept s dt m n chanB value
  | .timerLatchedRead dt m n cap, s => execTimerLatchedRead_kept s dt m n cap
  | .sequenceTrigger dt x inj, s => execSequenceTrigger_kept s dt x inj
  | .softwareTrigger dt m mask, s => execSoftwareTrigger_kept s dt m mask
  | .sequenceStop dt m mask, s => execSequenceStop_kept s dt m mask
  | .conversionStart dt x inj, s => execConversionStart_kept s dt x inj
  | .conversionDone dt x slice raw excess rawP excessP, s => execConversionDone_kept s dt x slice raw excess rawP excessP
  | .sliceTimeout dt x slice rawP excessP, s => execSliceTimeout_kept s dt x slice rawP excessP
  | .calibrationPassDone dt x low mid high, s => execCalibrationPassDone_kept s dt x low mid high
  | .rotationBoundary dt x, s => execRotationBoundary_kept s dt x
  | .spareHandover dt x, s => execSpareHandover_kept s dt x
  | .comparatorEnter dt c samples, s => execComparatorEnter_kept s dt c samples
  | .comparatorLeave dt c samples, s => execComparatorLeave_kept s dt c samples
  | .comparatorReady dt c samples, s => execComparatorReady_kept s dt c samples
  | .referenceFault dt x, s => execReferenceFault_kept s dt x
  | .dmaStart dt n, s => execDmaStart_kept s dt n
  | .dmaAbort dt n, s => execDmaAbort_kept s dt n
  | .dmaResume dt n, s => execDmaResume_kept s dt n
  | .signalDelivery dt m n mask, s => execSignalDelivery_kept s dt m n mask
  | .sigclr dt m n mask, s => execSigclr_kept s dt m n mask
  | .lvldec dt m n amount, s => execLvldec_kept s dt m n amount
  | .tlbInvalidate dt value, s => execTlbInvalidate_kept s dt value
  | .dmaMove dt n, s => execDmaMove_kept s dt n
  | .dmaBeat dt, s => execDmaBeat_kept s dt
  | .dmaLoop dt n, s => execDmaLoop_kept s dt n
  | .dmaEndloop dt n, s => execDmaEndloop_kept s dt n
  | .dmaWait dt n, s => execDmaWait_kept s dt n
  | .waitComplete dt n, s => execWaitComplete_kept s dt n
  | .dmaSignal dt n, s => execDmaSignal_kept s dt n
  | .dmaSet dt n, s => execDmaSet_kept s dt n
  | .dmaEnd dt n, s => execDmaEnd_kept s dt n
  | .caveMount dt, s => execCaveMount_kept s dt
  | .mountDone dt, s => execMountDone_kept s dt
  | .recordWrite dt kind index version body, s => execRecordWrite_kept s dt kind index version body
  | .recordWriteDone dt, s => execRecordWriteDone_kept s dt
  | .logPush dt m ctl, s => execLogPush_kept s dt m ctl
  | .logFlush dt, s => execLogFlush_kept s dt
  | .retentionTick dt, s => execRetentionTick_kept s dt
  | .refreshPassPage dt, s => execRefreshPassPage_kept s dt
  | .wearLevelCheck dt, s => execWearLevelCheck_kept s dt
  | .imageCheckDone dt, s => execImageCheckDone_kept s dt
  | .curdDone dt vpack code excess ntc age, s => execCurdDone_kept s dt vpack code excess ntc age
  | .standbyCurd dt vpack code excess ntc, s => execStandbyCurd_kept s dt vpack code excess ntc
  | .curdLost dt, s => execCurdLost_kept s dt
  | .idAttempt dt, s => execIdAttempt_kept s dt
  | .idAttemptDone dt reading, s => execIdAttemptDone_kept s dt reading
  | .idDeadline dt, s => execIdDeadline_kept s dt
  | .graceEnd dt, s => execGraceEnd_kept s dt
  | .setsoc dt m value, s => execSetsoc_kept s dt m value
  | .socReportStep dt, s => execSocReportStep_kept s dt
  | .recordCheckpoint dt, s => execRecordCheckpoint_kept s dt
  | .epochTick dt, s => execEpochTick_kept s dt
  | .autoshipRetry dt, s => execAutoshipRetry_kept s dt
  | .fusionTick dt, s => execFusionTick_kept s dt
  | .headRunDone dt, s => execHeadRunDone_kept s dt
  | .cellClose dt, s => execCellClose_kept s dt
  | .encoderRunDone dt, s => execEncoderRunDone_kept s dt
  | .imuFetch dt n, s => execImuFetch_kept s dt n
  | .imuFetchDone dt n response, s => execImuFetchDone_kept s dt n response
  | .imuInit dt n who, s => execImuInit_kept s dt n who
  | .fuscalWrite dt n, s => execFuscalWrite_kept s dt n
  | .weightCheck dt flips dense track, s => execWeightCheck_kept s dt flips dense track
  | .fusionSelftestDone dt, s => execFusionSelftestDone_kept s dt
  | .fusionSlotWrite dt m slot value, s => execFusionSlotWrite_kept s dt m slot value
  | .slotStale dt slot, s => execSlotStale_kept s dt slot
  | .rindInputChange dt changes tamper, s => execRindInputChange_kept s dt changes tamper
  | .countWindowClose dt k, s => execCountWindowClose_kept s dt k
  | .holdoffEnd dt k, s => execHoldoffEnd_kept s dt k
  | .rindFifoDrain dt, s => execRindFifoDrain_kept s dt
  | .alarmEnd dt, s => execAlarmEnd_kept s dt
  | .alarmToggle dt, s => execAlarmToggle_kept s dt
  | .alarmStop dt, s => execAlarmStop_kept s dt
  | .lockOpen dt, s => execLockOpen_kept s dt
  | .lockShut dt, s => execLockShut_kept s dt
  | .lockHome dt, s => execLockHome_kept s dt
  | .lockStop dt, s => execLockStop_kept s dt
  | .lockClear dt, s => execLockClear_kept s dt
  | .lockBadkey dt value, s => execLockBadkey_kept s dt value
  | .limitChange dt, s => execLimitChange_kept s dt
  | .lockMoveTimeout dt, s => execLockMoveTimeout_kept s dt
  | .lockStall dt, s => execLockStall_kept s dt
  | .brakeEnd dt, s => execBrakeEnd_kept s dt
  | .lcsportChallenge dt target, s => execLcsportChallenge_kept s dt target
  | .lcsportReadch dt index, s => execLcsportReadch_kept s dt index
  | .lcsportLoadr dt index value, s => execLcsportLoadr_kept s dt index value
  | .lcsportLoads dt index value, s => execLcsportLoads_kept s dt index value
  | .lcsportVerify dt, s => execLcsportVerify_kept s dt
  | .lcsportGo dt, s => execLcsportGo_kept s dt
  | .lifecycleReset dt, s => execLifecycleReset_kept s dt
  | .challengeLapse dt, s => execChallengeLapse_kept s dt
  | .lockoutEnd dt, s => execLockoutEnd_kept s dt
  | .opSigkey dt, s => execOpSigkey_kept s dt
  | .opLkey dt, s => execOpLkey_kept s dt
  | .opImgkey dt, s => execOpImgkey_kept s dt
  | .opRevoke dt, s => execOpRevoke_kept s dt
  | .opMinver dt, s => execOpMinver_kept s dt
  | .opStorewrite dt, s => execOpStorewrite_kept s dt
  | .opPolicy dt, s => execOpPolicy_kept s dt
  | .lcsOperationDone dt fail, s => execLcsOperationDone_kept s dt fail
  | .wipependClears dt, s => execWipependClears_kept s dt
  | .dbgacc dt write addr value, s => execDbgacc_kept s dt write addr value
  | .debugHalt dt halt, s => execDebugHalt_kept s dt halt
  | .memtest dt target alg go, s => execMemtest_kept s dt target alg go
  | .memtestDone dt failing, s => execMemtestDone_kept s dt failing
  | .dbgrst dt, s => execDbgrst_kept s dt
  | .tapUpdateIr dt code, s => execTapUpdateIr_kept s dt code
  | .extestUpdate dt cells, s => execExtestUpdate_kept s dt cells
  | .healthTempRead dt centi, s => execHealthTempRead_kept s dt centi
  | .hltClr dt m value, s => execHltClr_kept s dt m value
  | .healthRecordWrite dt, s => execHealthRecordWrite_kept s dt

theorem step_of_pending_nil {s : State} (h : s.pending = []) : step s = .next s := by
  unfold step
  rw [h]

theorem step_of_pending_cons {s : State} {c : Instr} {rest : List Instr} (h : s.pending = c :: rest) :
    step s = exec c { s with pending := rest } := by
  unfold step
  rw [h]
  exact congrArg (fun l => exec c { s with pending := l }) (congrArg List.tail h)

/-- A step keeps all that commands keep, from the state with what is left of the queue. -/
theorem step_kept {s t : State} (h : step s = .next t) : ∃ rest, Kept { s with pending := rest } t := by
  cases hp : s.pending with
  | nil =>
    rw [step_of_pending_nil hp] at h
    cases h
    exact ⟨s.pending, Kept.refl s⟩
  | cons c rest =>
    obtain ⟨u, hu, kept⟩ := exec_kept c { s with pending := rest }
    rw [step_of_pending_cons hp, hu] at h
    cases h
    exact ⟨rest, kept⟩

/-- The two bounds leave room for 32 entries (R138, R143). -/
theorem State.ringBounded.length_le {s : State} (h : s.ringBounded) : s.link.ring.length ≤ 32 := by
  obtain ⟨ordinary, lost⟩ := h
  have split := List.length_eq_countP_add_countP (fun n : Notice => n.code == 0x19) (l := s.link.ring)
  have others : s.link.ring.countP (fun n => decide ¬(n.code == 0x19) = true) = (s.link.ring.filter (fun n => n.code != 0x19)).length := by
    rw [List.countP_eq_length_filter]
    exact congrArg (fun p => (s.link.ring.filter p).length) (funext fun n => by rw [decide_not, Bool.decide_eq_true]; rfl)
  rw [others, List.countP_eq_length_filter] at split
  omega

theorem Kept.canonical {s t : State} (h : Kept s t) (hc : s.canonical) : t.canonical := ⟨h.regs hc.1, h.sram hc.2⟩

/-- Settles O4: no command leaves the canonical form (`Kept`), and the queue is no part of it. -/
theorem everyStepKeepsCanonicalForm : Obligations.EveryStepKeepsCanonicalForm := by
  intro s t hc h
  obtain ⟨rest, kept⟩ := step_kept h
  exact kept.canonical hc

/-- Settles O5: no command leaves the bounds of the ring (`Kept`), which leave room for 32 entries. -/
theorem everyStepKeepsTheRingBounds : Obligations.EveryStepKeepsTheRingBounds := by
  intro s t hring h
  obtain ⟨rest, kept⟩ := step_kept h
  have bounded := kept.ring hring
  exact ⟨bounded, bounded.length_le⟩

/-- Settles O6: every command blows fuses at most (`Kept`). -/
theorem everyStepOnlyBlowsFuses : Obligations.EveryStepOnlyBlowsFuses := by
  intro s t h
  obtain ⟨rest, kept⟩ := step_kept h
  exact kept.otp

/-- Settles O7: what every command keeps includes the queue. -/
theorem commandsLeaveTheQueue : Obligations.CommandsLeaveTheQueue := by
  intro c s
  obtain ⟨t, ht, kept⟩ := exec_kept c s
  exact ⟨t, ht, kept.pending⟩

/-- Settles O1: the two cases of the queue. -/
theorem stepTakesTheFront : Obligations.StepTakesTheFront :=
  ⟨fun _ _ _ h => step_of_pending_cons h, fun _ _ => step_of_pending_cons rfl, fun _ h => step_of_pending_nil h⟩

/-! ### The state after a power-on reset -/

theorem State.reg_reset_other {a : Nat} (h : a ≠ 0x20) (hb : a ≠ 0xA0008) : State.reset.reg a = resetWord a := by
  simp only [State.reg, State.reset, Sparse.get, h, hb, if_false]

theorem State.sramByte_reset (a : Nat) : State.reset.sramByte a = 0 := by
  simp [State.sramByte, State.reset, Sparse.get, sramDflt]

/-- Settles O2: the two words that State.reset lists read back, and every field else has its default. -/
theorem powerOnValues : Obligations.PowerOnValues := by
  refine ⟨by decide, rfl, rfl, rfl, rfl, rfl, rfl, rfl, rfl, rfl, rfl, rfl, rfl, rfl, State.sramByte_reset,
    fun a h hb => State.reg_reset_other h hb, fun n => ?_, fun w => ?_⟩
  · revert n
    decide
  · revert w
    decide

/-- Settles O3: the two words of State.reset stand in rising order and differ from their reset values; SRAM and ring are empty. -/
theorem resetMeetsTheInvariant : Obligations.ResetMeetsTheInvariant := by
  refine ⟨⟨by decide, rfl⟩, by decide, by decide⟩

end Sys2Proof.Machine
end

section
/-!
PROOFS. What storage reads back (R19, R639), and how a notice enters the ring (R138, R139, R143, R146).
-/

namespace Sys2Proof.Machine

/-! ### Bytes written to working SRAM -/

/-- A run of bytes leaves every byte outside it. -/
theorem State.sramByte_setSramBytes_outside (s : State) {a b : Nat} {l : List Byte} (h : b < a ∨ a + l.length ≤ b) :
    (s.setSramBytes a l).sramByte b = s.sramByte b := by
  induction l generalizing s a with
  | nil => rfl
  | cons x l ih =>
    rw [List.length_cons] at h
    exact (ih (s.setSramByte a x) (by omega)).trans (s.sramByte_setSramByte_other x (by omega))

/-- Each byte of the run reads back. -/
theorem State.sramByte_setSramBytes_inside (s : State) {a i : Nat} {l : List Byte} (h : i < l.length) :
    (s.setSramBytes a l).sramByte (a + i) = l.getD i 0 := by
  induction l generalizing s a i with
  | nil => exact absurd h (Nat.not_lt_zero i)
  | cons x l ih =>
    cases i with
    | zero => exact (State.sramByte_setSramBytes_outside _ (Or.inl (Nat.lt_succ_self a))).trans (s.sramByte_setSramByte_same a x)
    | succ i =>
      rw [Nat.add_comm i 1, ← Nat.add_assoc, Nat.add_comm 1 i, List.getD_cons_succ]
      exact ih (s.setSramByte a x) (Nat.lt_of_succ_lt_succ h)

@[simp] theorem State.setSramBytes_regs (s : State) (a : Nat) (l : List Byte) : (s.setSramBytes a l).regs = s.regs := by
  rw [State.setSramBytes_eq]

theorem State.reg_setReg (s : State) (a b : Nat) (w : Word) : (s.setReg a w).reg b = if b = a then w else s.reg b := by
  split
  · rename_i h
    exact h ▸ s.reg_setReg_same b w
  · rename_i h
    exact s.reg_setReg_other w h

/-- Settles O8: the sparse store reads back a write and leaves every other address; for a run of bytes, by induction on the run. -/
theorem storageReadsBack : Obligations.StorageReadsBack :=
  ⟨fun s a w hc => ⟨fun b => s.reg_setReg a b w, (State.setReg_kept (Kept.refl s) a w).canonical hc, rfl, rfl, rfl⟩,
    fun s a l hc => ⟨fun _ hi => s.sramByte_setSramBytes_inside hi, fun _ hb => s.sramByte_setSramBytes_outside hb,
      (State.setSramBytes_kept (Kept.refl s) a l).canonical hc, s.setSramBytes_regs a l⟩⟩

/-! ### Notices of one CLK_SYS cycle -/

/-- The state with another record of the ring's watermark. -/
def State.setRingWm (s : State) (w : Watermark) : State := { s with link := { s.link with wm := w } }

/-- A notice that is not generated changes nothing (R143, R148, R155). -/
theorem State.notice_off {s : State} {code : Nat} (p : List Byte) (h : s.noticeOn code = false) : s.notice code p = s := by
  simp [State.notice, h]

/-- The state once the record of the ring's watermark has followed the fill (R146). -/
def State.followRing (s : State) : State :=
  s.setRingWm (s.link.wm.follow Nat.max s.link.ring.length (decide (s.fld 0x1002C 5 0 ≤ s.link.ring.length)))

/-- A notice that takes the fill over no watermark enters or is dropped, and that is all (R146). -/
theorem State.admitNotice_uncrossed {s t : State} {code : Nat} {p : List Byte} (hc : code ≠ 0x19) (entered : s.enterNotice code p = t)
    (h : ¬ (s.link.ring.length < t.fld 0x1002C 5 0 ∧ t.fld 0x1002C 5 0 ≤ t.link.ring.length)) :
    s.admitNotice code p = t.followRing := by
  subst entered
  unfold State.admitNotice
  rw [if_neg hc]
  exact if_neg h

/-- An ordinary notice that finds room below the watermark becomes the newest entry (R138, R146). -/
theorem State.admitNotice_room {s : State} {code : Nat} (p : List Byte) (hc : code ≠ 0x19) (hroom : s.ordinaryFill < 31)
    (hwm : s.link.ring.length + 1 < s.fld 0x1002C 5 0) : s.admitNotice code p = (s.pushNotice code p).followRing := by
  refine State.admitNotice_uncrossed hc (if_pos hroom) fun ⟨_, crossed⟩ => ?_
  have length : (s.pushNotice code p).link.ring.length = s.link.ring.length + 1 := by simp [State.pushNotice]
  have threshold : (s.pushNotice code p).fld 0x1002C 5 0 = s.fld 0x1002C 5 0 := rfl
  omega

/-- Two ordinary notices that find room below the watermark become the newest entries in turn. -/
theorem State.admitNotice_two {s : State} {code next : Nat} (p q : List Byte) (hc : code ≠ 0x19) (hn : next ≠ 0x19) (hroom : s.ordinaryFill < 30)
    (hwm : s.link.ring.length + 2 < s.fld 0x1002C 5 0) :
    ((s.admitNotice code p).admitNotice next q).link.ring = s.link.ring ++
      [{ num := s.link.nextNum, code := code, time := BitVec.ofNat 32 s.lf, payload := p },
       { num := nextNoticeNum s.link.nextNum, code := next, time := BitVec.ofNat 32 s.lf, payload := q }] := by
  have length : (s.pushNotice code p).followRing.link.ring.length = s.link.ring.length + 1 := by
    simp [State.followRing, State.setRingWm, State.pushNotice]
  have fill : (s.pushNotice code p).followRing.ordinaryFill = s.ordinaryFill + 1 := by
    simp [State.followRing, State.setRingWm, State.pushNotice, State.ordinaryFill, hc]
  have threshold : (s.pushNotice code p).followRing.fld 0x1002C 5 0 = s.fld 0x1002C 5 0 := rfl
  rw [State.admitNotice_room p hc (by omega) (by omega), State.admitNotice_room q hn (by omega) (by omega)]
  exact List.append_assoc s.link.ring _ _

/-- An ordinary notice that finds the entries full and an NTC_LOST among them is only counted (R143). -/
theorem State.admitNotice_full {s : State} {code : Nat} (p : List Byte) (hc : code ≠ 0x19) (hfull : 31 ≤ s.ordinaryFill)
    (hlost : s.link.ring.any (fun n => n.code == 0x19) = true) : s.admitNotice code p = (s.satInc 0x10034 15 0).followRing := by
  have dropped : s.enterNotice code p = s.satInc 0x10034 15 0 := (if_neg (Nat.not_lt.2 hfull)).trans (if_pos hlost)
  exact State.admitNotice_uncrossed hc dropped fun ⟨below, crossed⟩ => absurd crossed (Nat.not_le.2 below)

/-- What the first notice of a CLK_SYS cycle finds: the cycle is open, with this notice in it. -/
def State.firstOfCycle (s : State) (code : Nat) (p : List Byte) : State :=
  { s with link := { s.link with
      cycAt := s.now / 2, cycIn := [(code, p)], cycLen := s.link.ring.length, cycWm := s.link.wm, cycLost := s.reg 0x10034
      cycNote := s.noteOf 0x10034 } }

theorem State.notice_first {s : State} {code : Nat} (p : List Byte) (hon : s.noticeOn code = true) (hcyc : s.link.cycIn = []) :
    s.notice code p = (s.firstOfCycle code p).admitNotice code p := by
  simp [State.notice, hon, State.openCycle, hcyc, byCode, State.admitAll, State.firstOfCycle]

/-- The first notice of a cycle once it stands in the ring. -/
def State.entered (s : State) (code : Nat) (p : List Byte) : State := ((s.firstOfCycle code p).pushNotice code p).followRing

/-- A second notice of the cycle finds the ring as it stood before the first. -/
def State.reopened (s : State) (code : Nat) (p : List Byte) : State :=
  ({ s.entered code p with link := { (s.entered code p).link with
      ring := s.link.ring, nextNum := s.link.nextNum, wm := s.link.wm } }.putNote 0x10034 (s.noteOf 0x10034)).setReg 0x10034 (s.reg 0x10034)

theorem State.openCycle_entered (s : State) (code : Nat) (p : List Byte) : (s.entered code p).openCycle = s.reopened code p := by
  have taken : (s.entered code p).link.ring.take s.link.ring.length = s.link.ring := List.take_left
  have number : (((s.entered code p).link.ring.drop s.link.ring.length).head?.map Notice.num).getD (s.entered code p).link.nextNum =
      s.link.nextNum := by
    simp [State.entered, State.firstOfCycle, State.pushNotice, State.followRing, State.setRingWm]
  have again : (s.entered code p).link.cycAt = (s.entered code p).now / 2 ∧ (s.entered code p).link.cycIn ≠ [] :=
    ⟨rfl, List.cons_ne_nil _ _⟩
  have open_eq : (s.entered code p).openCycle = ({ s.entered code p with link := { (s.entered code p).link with
      ring := (s.entered code p).link.ring.take s.link.ring.length
      nextNum := (((s.entered code p).link.ring.drop s.link.ring.length).head?.map Notice.num).getD (s.entered code p).link.nextNum
      wm := s.link.wm } }.putNote 0x10034 (s.noteOf 0x10034)).setReg 0x10034 (s.reg 0x10034) := if_pos again
  rw [open_eq, taken, number]
  rfl

/-- What two notices of a cycle find as they enter. -/
def State.bothOfCycle (s : State) (code lower : Nat) (p q : List Byte) : State :=
  { s.reopened code p with link := { (s.reopened code p).link with cycIn := [(lower, q), (code, p)] } }

theorem State.bothOfCycle_ring (s : State) (code lower : Nat) (p q : List Byte) : (s.bothOfCycle code lower p q).link.ring = s.link.ring := rfl

theorem State.bothOfCycle_nextNum (s : State) (code lower : Nat) (p q : List Byte) :
    (s.bothOfCycle code lower p q).link.nextNum = s.link.nextNum := rfl

theorem State.bothOfCycle_lf (s : State) (code lower : Nat) (p q : List Byte) : (s.bothOfCycle code lower p q).lf = s.lf := by
  simp [State.bothOfCycle, State.reopened, State.entered, State.followRing, State.setRingWm, State.firstOfCycle]

theorem State.ordinaryFill_congr {s t : State} (h : t.link.ring = s.link.ring) : t.ordinaryFill = s.ordinaryFill := by
  unfold State.ordinaryFill
  rw [h]

/-- A second notice of the cycle, of a smaller code: the two enter in order of code (R139). -/
theorem State.notice_second {s : State} {code lower : Nat} (p q : List Byte) (hlt : lower < code) (hon : s.noticeOn lower = true) :
    (s.entered code p).notice lower q = ((s.bothOfCycle code lower p q).admitNotice lower q).admitNotice code p := by
  have on : (s.entered code p).noticeOn lower = true := hon
  have order : byCode (lower, q) [(code, p)] = [(lower, q), (code, p)] := if_pos hlt
  unfold State.notice
  rw [if_pos on, s.openCycle_entered]
  exact congrArg (fun l => State.admitAll { s.reopened code p with link := { (s.reopened code p).link with cycIn := l } } l) order

/-- Settles O9: a notice of a new cycle enters the ring as it stands; one that joins it makes both enter anew, in order of code. -/
theorem noticeEntersTheRing : Obligations.NoticeEntersTheRing := by
  intro s code p hc hcyc
  have first (hon : s.noticeOn code = true) (hroom : s.ordinaryFill < 31) (hwm : s.link.ring.length + 1 < s.fld 0x1002C 5 0) :
      s.notice code p = s.entered code p :=
    (State.notice_first p hon hcyc).trans (State.admitNotice_room (s := s.firstOfCycle code p) p hc hroom hwm)
  refine ⟨State.notice_off p, fun hon hroom hwm => ?newest, fun lower q _ hon hlower hlt hl hroom hwm => ?ordered, fun hon hfull hlost _ => ?lost⟩
  case newest =>
    rw [first hon hroom hwm]
    exact ⟨rfl, rfl, rfl⟩
  case ordered =>
    have threshold : (s.bothOfCycle code lower p q).fld 0x1002C 5 0 = s.fld 0x1002C 5 0 :=
      congrArg (fieldOf · 5 0) (State.reg_setReg_other _ _ (by decide))
    rw [first hon (Nat.lt_succ_of_lt hroom) (Nat.lt_of_succ_lt hwm), State.notice_second p q hlt hlower]
    have fill := State.ordinaryFill_congr (s.bothOfCycle_ring code lower p q)
    have entered := State.admitNotice_two (s := s.bothOfCycle code lower p q) q p hl hc (by omega)
      (by rw [threshold, State.bothOfCycle_ring]; exact hwm)
    rw [State.bothOfCycle_ring, State.bothOfCycle_nextNum, State.bothOfCycle_lf] at entered
    exact entered
  case lost =>
    rw [State.notice_first p hon hcyc, State.admitNotice_full (s := s.firstOfCycle code p) p hc hfull hlost]
    exact ⟨rfl, rfl⟩

end Sys2Proof.Machine
end

section
/-!
PROOFS. How a clause about a command comes down to the operation that the command makes, and which parts of the state an operation can touch.
-/

namespace Sys2Proof.Machine

/-! ### From a command to its operation -/

/-- A command that lets its time pass and then makes `g` completes in a given state where `g` does. -/
theorem Makes.of {c : Span → Instr} {pre : State → Prop} {f : State → State} (g : State → State)
    (hexec : ∀ dt s, exec (c dt) s = .next (g (s.elapse dt))) (h : ∀ e, pre e → g e = f e) : Makes c pre f :=
  fun dt s hp => (hexec dt s).trans (congrArg Host.Outcome.next (h _ hp))

/-- A command that lets its time pass and then makes `g` does what `g` does. -/
theorem Does.of {c : Span → Instr} {pre : State → Prop} {post : State → State → Prop} (g : State → State)
    (hexec : ∀ dt s, exec (c dt) s = .next (g (s.elapse dt))) (h : ∀ e, e.canonical → pre e → post e (g e)) : Does c pre post :=
  fun dt s hc hp => ⟨_, hexec dt s, h _ hc hp⟩

/-! ### The parts of the state -/

/-- The NAND without its pages. -/
def NandSt.unpaged (n : NandSt) : NandSt := { n with pages := [] }

theorem NandSt.eq_of_unpaged {m n : NandSt} (h : m.unpaged = n.unpaged) (hp : m.pages = n.pages) : m = n := by
  cases m
  cases n
  simp_all [NandSt.unpaged]

/-- The fields of `State`, by name; of `nand` the pages are a part of their own. -/
inductive Part where
  | now | lf | free | pending | regs | sram | sramGen | power | link | cfg | boot | tnowBase | wheels | phases | bias | snapAt | outs | timers
  | adcA | adcB | regA | injA | regB | injB | dma | nand | pages | cave | health | bat | fus | rind | lock | life | otp | store | jtag
  | copyLink | copyDma | busRead | busError | setAt | setNow | mirror
deriving DecidableEq

/-- A part of `t` is as it was in `s`. -/
def Part.same (s t : State) : Part → Prop
  | .now => t.now = s.now
  | .lf => t.lf = s.lf
  | .free => t.free = s.free
  | .pending => t.pending = s.pending
  | .regs => t.regs = s.regs
  | .sram => t.sram = s.sram
  | .sramGen => t.sramGen = s.sramGen
  | .power => t.power = s.power
  | .link => t.link = s.link
  | .cfg => t.cfg = s.cfg
  | .boot => t.boot = s.boot
  | .tnowBase => t.tnowBase = s.tnowBase
  | .wheels => t.wheels = s.wheels
  | .phases => t.phases = s.phases
  | .bias => t.bias = s.bias
  | .snapAt => t.snapAt = s.snapAt
  | .outs => t.outs = s.outs
  | .timers => t.timers = s.timers
  | .adcA => t.adcA = s.adcA
  | .adcB => t.adcB = s.adcB
  | .regA => t.regA = s.regA
  | .injA => t.injA = s.injA
  | .regB => t.regB = s.regB
  | .injB => t.injB = s.injB
  | .dma => t.dma = s.dma
  | .nand => t.nand.unpaged = s.nand.unpaged
  | .pages => t.nand.pages = s.nand.pages
  | .cave => t.cave = s.cave
  | .health => t.health = s.health
  | .bat => t.bat = s.bat
  | .fus => t.fus = s.fus
  | .rind => t.rind = s.rind
  | .lock => t.lock = s.lock
  | .life => t.life = s.life
  | .otp => t.otp = s.otp
  | .store => t.store = s.store
  | .jtag => t.jtag = s.jtag
  | .copyLink => t.copyLink = s.copyLink
  | .copyDma => t.copyDma = s.copyDma
  | .busRead => t.busRead = s.busRead
  | .busError => t.busError = s.busError
  | .setAt => t.setAt = s.setAt
  | .setNow => t.setNow = s.setNow
  | .mirror => t.mirror = s.mirror

theorem Part.same_refl (s : State) (p : Part) : p.same s s := by cases p <;> rfl

theorem Part.same_trans {s t u : State} {p : Part} (h : p.same s t) (k : p.same t u) : p.same s u := by
  cases p <;> exact k.trans h

theorem nand_of_same {s t : State} (hn : Part.nand.same s t) (hp : Part.pages.same s t) : t.nand = s.nand := NandSt.eq_of_unpaged hn hp

/-- States that agree in every part are equal. -/
theorem State.eq_of_same {s t : State} (h : ∀ p : Part, p.same s t) : t = s := by
  cases s; cases t
  simp only [State.mk.injEq]
  exact ⟨h .now, h .lf, h .free, h .pending, h .regs, h .sram, h .sramGen, h .power, h .link, h .cfg, h .boot, h .tnowBase, h .wheels,
    h .phases, h .bias, h .snapAt, h .outs, h .timers, h .adcA, h .adcB, h .regA, h .injA, h .regB, h .injB, h .dma, nand_of_same (h .nand) (h .pages), h .cave,
    h .health, h .bat, h .fus, h .rind, h .lock, h .life, h .otp, h .store, h .jtag, h .copyLink, h .copyDma, h .busRead, h .busError,
    h .setAt, h .setNow, h .mirror⟩

/-- From `s` to `t` no part changes but those of the list. -/
def Only (l : List Part) (s t : State) : Prop := ∀ p, p ∉ l → p.same s t

variable {l l' : List Part} {s t u : State}

theorem Only.refl (l : List Part) (s : State) : Only l s s := fun p _ => p.same_refl s

theorem Only.trans (h : Only l s t) (k : Only l t u) : Only l s u := fun p hp => Part.same_trans (h p hp) (k p hp)

theorem Only.mono (h : Only l s t) (hl : l ⊆ l') : Only l' s t := fun p hp => h p fun hm => hp (hl hm)

theorem Only.nand (h : Only l s t) (hn : .nand ∉ l) (hp : .pages ∉ l) : t.nand = s.nand := nand_of_same (h .nand hn) (h .pages hp)

theorem Only.ite {c : Prop} [Decidable c] (ht : Only l s t) (hu : Only l s u) : Only l s (if c then t else u) := by
  split <;> assumption

theorem Only.foldl {α : Type} {f : State → α → State} (hf : ∀ s x, Only l s (f s x)) (xs : List α) (s : State) :
    Only l s (xs.foldl f s) := by
  induction xs generalizing s with
  | nil => exact .refl l s
  | cons x xs ih => exact (hf s x).trans (ih _)

/-- Two states that differ from a third in the same parts alone are equal where those parts agree. -/
theorem Only.eq (h : Only l s t) (k : Only l s u) (hl : ∀ p ∈ l, p.same u t) : t = u := by
  refine State.eq_of_same fun p => ?_
  by_cases hp : p ∈ l
  · exact hl p hp
  · have hs : p.same s t := h p hp
    have hu : p.same s u := k p hp
    cases p <;> exact hs.trans hu.symm

end Sys2Proof.Machine
end

section
/-!
PROOFS. DMA_CHn_CTRL: START, ABORT and RESUME (R384, R409, R411).
-/

namespace Sys2Proof.Machine

theorem State.writeChCtrl_start (s : State) (n : Fin 16) : s.writeChCtrl n 1 = s.dmaStart n := rfl

theorem State.writeChCtrl_abort (s : State) (n : Fin 16) : s.writeChCtrl n 2 = s.dmaAbort n := rfl

/-- A channel at the entry point, in RUN, its address registers cleared. -/
def DmaCh.started (c : DmaCh) (entry : Nat) : DmaCh :=
  { c with
    state := .run, pc := entry, a := [0, 0, 0, 0], loops := [], tag := false, work := .none, tries := 0, parked := false, after := none
    met := none }

/-- A channel at the entry point, idle, its address registers as they are. -/
def DmaCh.aborted (c : DmaCh) (entry : Nat) : DmaCh :=
  { c with
    state := .idle, pc := entry, loops := [], tag := false, work := .none, tries := 0, parked := false, after := none, met := none }

/-- An enabled channel that is idle or done and that nothing holds starts. -/
theorem State.dmaStart_starts {s : State} {n : Fin 16} (hst : (s.ch n).state = .idle ∨ (s.ch n).state = .done) (hen : s.chEn n = true)
    (hhold : s.cfg.holdCh.testBit n.val = false) : s.dmaStart n = s.setCh n ((s.ch n).started (s.chEntry n)) := by
  have may : (((s.ch n).state == .idle || (s.ch n).state == .done) && s.chEn n && !s.cfg.holdCh.testBit n.val) = true := by
    simp [hst, hen, hhold]
  unfold State.dmaStart
  exact if_pos may

/-- A disabled or held channel, and one at work, ignores START. -/
theorem State.dmaStart_ignored {s : State} {n : Fin 16} (h : s.chEn n = false ∨ s.cfg.holdCh.testBit n.val = true ∨
    ((s.ch n).state ≠ .idle ∧ (s.ch n).state ≠ .done)) : s.dmaStart n = s := by
  have mayNot : ¬ (((s.ch n).state == .idle || (s.ch n).state == .done) && s.chEn n && !s.cfg.holdCh.testBit n.val) = true := by
    rcases h with h | h | ⟨hidle, hdone⟩
    · simp [h]
    · simp [h]
    · simp [hidle, hdone]
  unfold State.dmaStart
  exact if_neg mayNot

/-- Between beats, ABORT acts at once. -/
theorem State.dmaAbort_between {s : State} {n : Fin 16} (h : (s.ch n).parked = false) :
    s.dmaAbort n = s.setCh n ((s.ch n).aborted (s.chEntry n)) := by
  simp only [State.dmaAbort, State.stopCh, State.stopAt, h]
  rfl

/-- During a parked beat, ABORT waits for its end. -/
theorem State.dmaAbort_parked {s : State} {n : Fin 16} (h : (s.ch n).parked = true) :
    s.dmaAbort n = s.setCh n { s.ch n with after := some .stop } := by
  simp only [State.dmaAbort, State.stopCh, State.stopAt, h, if_true]

/-- A command of DMA_CHn_CTRL makes the operation `k` of its bits. -/
theorem Makes.of_chCtrl {c : Span → Instr} {pre : State → Prop} {f : State → State} {n : Fin 16} {w : Word} {k : State → State}
    (hexec : ∀ dt s, exec (c dt) s = .next ((s.elapse dt).busWrite .link (dmaBase n + 8) w)) (hk : ∀ s, s.writeChCtrl n w = k s)
    (h : ∀ e, pre e → e.running = true ∧ e.life.state ≠ .scrap ∧ { k e with busRead := 0, busError := false } = f e) : Makes c pre f :=
  .of (fun e => e.busWrite .link (dmaBase n + 8) w) hexec fun e hp => by
    obtain ⟨hr, hl, made⟩ := h e hp
    rw [State.busWrite_chCtrl hr hl n w, hk, made]

/-- Settles O33: a write of DMA_CHn_CTRL makes START, ABORT or RESUME, and each is decided by the state of its channel. -/
theorem dmaControl : Obligations.DmaControl := by
  refine ⟨fun n => ?starts, fun n => ?startIgnored, fun n => ?aborts, fun n => ?abortWaits, fun n => ?resumes, fun n => ?resumesHalted,
    fun n => ?resumeIgnored⟩
  case starts =>
    refine .of_chCtrl (fun _ _ => rfl) (State.writeChCtrl_start · n) fun e ⟨hr, hl, hst, hen, hhold⟩ => ⟨hr, hl, ?_⟩
    rw [State.dmaStart_starts hst hen hhold]
    rfl
  case startIgnored =>
    refine .of_chCtrl (fun _ _ => rfl) (State.writeChCtrl_start · n) fun e ⟨hr, hl, hother⟩ => ⟨hr, hl, ?_⟩
    have ignored : e.dmaStart n = e := by
      refine State.dmaStart_ignored (hother.imp_right (Or.imp_right fun h => ?_))
      rcases h with h | h | h | h <;> simp [h]
    rw [ignored]
  case aborts =>
    refine .of_chCtrl (fun _ _ => rfl) (State.writeChCtrl_abort · n) fun e ⟨hr, hl, hp⟩ => ⟨hr, hl, ?_⟩
    rw [State.dmaAbort_between hp]
    rfl
  case abortWaits =>
    refine .of_chCtrl (fun _ _ => rfl) (State.writeChCtrl_abort · n) fun e ⟨hr, hl, hp⟩ => ⟨hr, hl, ?_⟩
    rw [State.dmaAbort_parked hp]
  case resumes =>
    refine .of_chCtrl (fun _ _ => rfl) (State.writeChCtrl_resume · n) fun e ⟨hr, hl, hs⟩ => ⟨hr, hl, ?_⟩
    rw [State.dmaResume_stopped (Or.inl hs)]
    simp [DmaCh.resumed, hs]
  case resumesHalted =>
    refine .of_chCtrl (fun _ _ => rfl) (State.writeChCtrl_resume · n) fun e ⟨hr, hl, hs⟩ => ⟨hr, hl, ?_⟩
    rw [State.dmaResume_stopped (Or.inr hs)]
    simp [DmaCh.resumed, hs]
  case resumeIgnored =>
    refine .of_chCtrl (fun _ _ => rfl) (State.writeChCtrl_resume · n) fun e ⟨hr, hl, hother⟩ => ⟨hr, hl, ?_⟩
    have ignored : e.dmaResume n = e := by
      rcases hother with h | h | h | h <;> exact State.dmaResume_ignored (by simp [h]) (by simp [h])
    rw [ignored]

end Sys2Proof.Machine
end

section
/-!
PROOFS. Bus writes of words outside the CLK_LF blocks, and the signals, levels and translation cache of the DMA (R392, R398, R403).
-/

namespace Sys2Proof.Machine

/-! ### Bits of numbers -/

theorem testBit_or_two_pow (x i j : Nat) : (x ||| 2 ^ i).testBit j = (x.testBit j || decide (i = j)) := by
  rw [Nat.testBit_or, Nat.testBit_two_pow]

/-- A mask of 16 bits, complemented as the clears of signals write it. -/
theorem testBit_and_complement (x m : Nat) {i : Nat} (h : i < 16) :
    (x &&& (0xFFFF - m % 0x10000)).testBit i = (x.testBit i && !m.testBit i) := by
  have below : m % 2 ^ 16 < 2 ^ 16 := Nat.mod_lt _ (by decide)
  have complement : 0xFFFF - m % 0x10000 = 2 ^ 16 - (m % 2 ^ 16 + 1) := by omega
  rw [Nat.testBit_and, complement, Nat.testBit_two_pow_sub_succ below, Nat.testBit_mod_two_pow]
  simp [h]

/-- Sixteen bits in the low half of a word. -/
theorem fieldOf_zeroExtend (v : BitVec 16) : fieldOf (v.zeroExtend 32) 15 0 = v.toNat := by
  have small : v.toNat < 65536 := v.isLt
  simp only [fieldOf, fieldNat, BitVec.truncate_eq_setWidth, BitVec.toNat_setWidth, Nat.shiftRight_zero]
  omega

/-! ### Writes that no rule of the bus keeps from their block -/

/-- The word of a register outside the CLK_LF blocks and without RWS fields, which every block decides by its own rules: no SRAM, no program
store, no stored word of LCS, and not CFG_STAGE. -/
def isPlain (a : Nat) : Bool :=
  inBlocks a && !inSram a && !isStored a && decide (rwsMask a = 0) && (regRow a).isSome && !inPd0 a && decide (a ≠ 0x20010)

/-- The words that only the link may write: DMA_TLBINV and DMA_CHn_CTRL. -/
def linkOnly (a : Nat) : Bool := a == 0x90840 || (decide (0x90000 ≤ a) && decide (a < 0x90800) && a % 0x80 == 8)

/-- The domain of the block that holds the address is ready, where the block has one that can be off (R46). -/
def State.blockUp (s : State) (a : Nat) : Prop :=
  (a / 0x10000 = 6 → s.domReady 4 = true) ∧ (a / 0x10000 = 7 → s.domReady 5 = true) ∧ (a / 0x10000 = 0xC → s.domReady 9 = true)

theorem State.accessFails_plain {s : State} {a : Nat} {m : Master} (jornus : Bool) (hl : s.life.state ≠ .scrap) (hp : isPlain a = true)
    (hup : s.blockUp a) (hm : m = .link ∨ linkOnly a = false) : s.accessFails m jornus a true = false := by
  obtain ⟨upA, upB, upF⟩ := hup
  simp only [isPlain, Bool.and_eq_true, Bool.not_eq_true'] at hp
  obtain ⟨⟨⟨⟨⟨⟨block, -⟩, notStored⟩, -⟩, -⟩, -⟩, -⟩ := hp
  have scrap : (s.life.state == .scrap) = false := beq_eq_false_iff_ne.2 hl
  have linkMay : m ≠ .link → (a == 0x90840 || (decide (0x90000 ≤ a) && decide (a < 0x90800) && a % 0x80 == 8)) = false := hm.resolve_left
  have gateA : (a / 0x10000 == 6 && !s.domReady 4) = false := by
    by_cases h : a / 0x10000 = 6
    · simp [upA h]
    · simp [h]
  have gateB : (a / 0x10000 == 7 && !s.domReady 5) = false := by
    by_cases h : a / 0x10000 = 7
    · simp [upB h]
    · simp [h]
  have gateF : (a / 0x10000 == 0xC && !s.domReady 9) = false := by
    by_cases h : a / 0x10000 = 0xC
    · simp [upF h]
    · simp [h]
  cases m with
  | link => simp only [State.accessFails, implemented, block, notStored, scrap, gateA, gateB, gateF, Bool.true_or, Bool.not_true,
      Bool.and_false, Bool.false_and, Bool.or_false]
  | dma n => simp only [State.accessFails, implemented, block, notStored, scrap, gateA, gateB, gateF, linkMay (Master.noConfusion),
      Bool.true_or, Bool.not_true, Bool.and_false, Bool.false_and, Bool.or_false]

/-- Such a write is the block's own matter. -/
theorem State.busWriteWord_plain {s : State} {a : Nat} {m : Master} (jornus : Bool) (w : Word) (hl : s.life.state ≠ .scrap)
    (hp : isPlain a = true) (hup : s.blockUp a) (hm : m = .link ∨ linkOnly a = false) :
    s.busWriteWord m jornus a w = { next := s.writePlain m a w } := by
  have ok := State.accessFails_plain jornus hl hp hup hm
  simp only [isPlain, Bool.and_eq_true, Bool.not_eq_true', decide_eq_true_eq] at hp
  obtain ⟨⟨⟨⟨⟨⟨-, notSram⟩, -⟩, noRws⟩, mapped⟩, notPd0⟩, notClose⟩ := hp
  have mapped' : (regRow a).isNone = false := by simpa using mapped
  simp only [State.busWriteWord, ok, notSram, noRws, mapped', notPd0, notClose, ne_eq, not_true, if_false, Bool.false_eq_true]

theorem State.busWrite_plain {s : State} {a : Nat} {m : Master} (w : Word) (hr : s.running = true) (hl : s.life.state ≠ .scrap)
    (hp : isPlain a = true) (hup : s.blockUp a) (hm : m = .link ∨ linkOnly a = false) :
    s.busWrite m a w = { s.writePlain m a w with busRead := 0, busError := false } := by
  simp only [State.busWrite, hr, if_true, State.busWriteWord_plain true w hl hp hup hm]
  rfl

/-! ### The words of a DMA channel -/

theorem State.ch_setCh_other (s : State) {n k : Fin 16} (c : DmaCh) (h : k ≠ n) : (s.setCh n c).ch k = s.ch k := by
  have apart : n.val ≠ k.val := fun e => h (Fin.ext e.symm)
  simp [State.ch, apart]

theorem State.ch_congr {s t : State} (h : t.dma = s.dma) (n : Fin 16) : t.ch n = s.ch n := by
  unfold State.ch
  rw [h]

/-- The words of a channel that SIGNAL_DELIVERY, SIGCLR and LVLDEC write. -/
theorem chWords_plain : ∀ n : Fin 16, ∀ w ∈ [0x14, 0x18, 0x34],
    isPlain (dmaBase n + w) = true ∧ linkOnly (dmaBase n + w) = false ∧ (dmaBase n + w) / 0x10000 = 9 ∧
      (dmaBase n + w) % 0x80 = w ∧ Fin.ofNat 16 ((dmaBase n + w - 0x90000) / 0x80) = n ∧
      0x90000 ≤ dmaBase n + w ∧ dmaBase n + w < 0x90800 := by decide

/-- Such a write by any master acts on the channel by the word's place. -/
theorem State.busWrite_chWord {s : State} {w : Nat} (hw : w ∈ [0x14, 0x18, 0x34]) (m : Master) (n : Fin 16) (v : Word)
    (hr : s.running = true) (hl : s.life.state ≠ .scrap) :
    s.busWrite m (dmaBase n + w) v = { s.writeDma (dmaBase n + w) v with busRead := 0, busError := false } := by
  obtain ⟨plain, open_, block, -, -, low, high⟩ := chWords_plain n w hw
  have up : s.blockUp (dmaBase n + w) := by simp [State.blockUp, block]
  rw [State.busWrite_plain v hr hl plain up (Or.inr open_)]
  simp only [State.writePlain, low, high, and_self, if_true]

theorem State.writeDma_sig (s : State) (n : Fin 16) (v : Word) : s.writeDma (dmaBase n + 0x14) v = s.signalBits n (fieldOf v 15 0) := by
  obtain ⟨-, -, -, word, channel, -⟩ := chWords_plain n 0x14 (by decide)
  simp only [State.writeDma, word, channel]

theorem State.writeDma_sigclr (s : State) (n : Fin 16) (v : Word) : s.writeDma (dmaBase n + 0x18) v = s.signalClear n (fieldOf v 15 0) := by
  obtain ⟨-, -, -, word, channel, -⟩ := chWords_plain n 0x18 (by decide)
  simp only [State.writeDma, word, channel]

theorem State.writeDma_lvldec (s : State) (n : Fin 16) (v : Word) : s.writeDma (dmaBase n + 0x34) v = s.levelDown n (fieldOf v 15 0) := by
  obtain ⟨-, -, -, word, channel, -⟩ := chWords_plain n 0x34 (by decide)
  simp only [State.writeDma, word, channel]

/-! ### Signals (R392) -/

/-- What one signal does: it is pending at its channel, which a WAIT may be met by; SIGMRG is set where it was pending already. -/
structure Signalled (s : State) (n : Fin 16) (sig : Fin 16) (spec : Bool) (t : State) : Prop where
  channel : ∃ met, t.ch n = { s.ch n with
    sig := (s.ch n).sig ||| 2 ^ sig.val, sigSpec := if spec then (s.ch n).sigSpec ||| 2 ^ sig.val else (s.ch n).sigSpec, met := met }
  others : ∀ k, k ≠ n → t.ch k = s.ch k
  only : Only [.dma, .regs, .setAt, .setNow] s t
  words : t.regs = if (s.ch n).sig.testBit sig then (s.orReg (dmaBase n + 0x10) 8).regs else s.regs

theorem State.setCh_only (s : State) (n : Fin 16) (c : DmaCh) : Only [.dma] s (s.setCh n c) := by
  intro p hp
  cases p <;> simp at hp <;> rfl

theorem State.orReg_only (s : State) (a m : Nat) : Only [.regs, .setAt, .setNow] s (s.orReg a m) := by
  intro p hp
  cases p <;> simp at hp <;> rfl

/-- The state in which a signal is pending and SIGMRG told, before a WAIT sees it. -/
def State.signalled (s : State) (n : Fin 16) (c : DmaCh) (merged : Bool) : State :=
  if merged then (s.setCh n c).orReg (dmaBase n + 0x10) 8 else s.setCh n c

theorem State.signalled_ch (s : State) (n k : Fin 16) (c : DmaCh) (merged : Bool) : (s.signalled n c merged).ch k = (s.setCh n c).ch k := by
  unfold State.signalled
  split <;> rfl

theorem State.signalled_only (s : State) (n : Fin 16) (c : DmaCh) (merged : Bool) :
    Only [.dma, .regs, .setAt, .setNow] s (s.signalled n c merged) := by
  unfold State.signalled
  split
  · exact ((s.setCh_only n c).mono (by decide)).trans ((State.orReg_only _ _ _).mono (by decide))
  · exact (s.setCh_only n c).mono (by decide)

theorem State.signalled_regs (s : State) (n : Fin 16) (c : DmaCh) (merged : Bool) :
    (s.signalled n c merged).regs = if merged then (s.orReg (dmaBase n + 0x10) 8).regs else s.regs := by
  unfold State.signalled
  split <;> rfl

theorem State.sendSignal_signalled (s : State) (n sig : Fin 16) (spec : Bool) : Signalled s n sig spec (s.sendSignal n sig spec) := by
  have hsend : s.sendSignal n sig spec =
      let c := { s.ch n with
        sig := (s.ch n).sig ||| 2 ^ sig.val, sigSpec := if spec then (s.ch n).sigSpec ||| 2 ^ sig.val else (s.ch n).sigSpec }
      let u := s.signalled n c ((s.ch n).sig.testBit sig)
      let ins := s.progWord (s.ch n).pc
      if (s.ch n).state = .wait ∧ fieldOf ins 31 28 = 4 ∧ fieldOf ins 27 26 = 0 ∧ fieldOf ins 3 0 = sig.val then
        u.setCh n { c with met := some (c.sigSpec.testBit sig) }
      else u := rfl
  rw [hsend]
  dsimp only
  split
  · refine ⟨⟨_, State.ch_setCh_same _ n _⟩, fun k hk => ?_, ?_, State.signalled_regs _ _ _ _⟩
    · rw [State.ch_setCh_other _ _ hk, State.signalled_ch, State.ch_setCh_other _ _ hk]
    · exact (State.signalled_only _ _ _ _).trans ((State.setCh_only _ _ _).mono (by decide))
  · refine ⟨⟨_, (State.signalled_ch _ _ _ _ _).trans (State.ch_setCh_same _ n _)⟩, fun k hk => ?_, State.signalled_only _ _ _ _,
      State.signalled_regs _ _ _ _⟩
    rw [State.signalled_ch, State.ch_setCh_other _ _ hk]

/-- The signals that a mask names become pending one after the other; the channel keeps its tags and its place. -/
structure Delivered (s : State) (n : Fin 16) (l : List (Fin 16)) (m : Nat) (t : State) : Prop where
  channel : ∃ sig met, t.ch n = { s.ch n with sig := sig, met := met }
  pending : ∀ i : Fin 16, (t.ch n).sig.testBit i.val = ((s.ch n).sig.testBit i.val || (decide (i ∈ l) && m.testBit i.val))
  others : ∀ k, k ≠ n → t.ch k = s.ch k
  only : Only [.dma, .regs, .setAt, .setNow] s t

theorem Delivered.nil (s : State) (n : Fin 16) (m : Nat) : Delivered s n [] m s :=
  ⟨⟨_, _, rfl⟩, fun i => by simp, fun _ _ => rfl, .refl _ s⟩

/-- One more signal of the mask, or none. -/
theorem Delivered.cons {s t : State} {n : Fin 16} {l : List (Fin 16)} {m : Nat} (i : Fin 16)
    (h : Delivered (if m.testBit i.val then s.sendSignal n i false else s) n l m t) : Delivered s n (i :: l) m t := by
  by_cases hm : m.testBit i.val = true
  · rw [if_pos hm] at h
    obtain ⟨⟨sig, met, hch⟩, hpend, hoth, honly⟩ := h
    obtain ⟨⟨met1, hch1⟩, hoth1, honly1, -⟩ := s.sendSignal_signalled n i false
    refine ⟨⟨sig, met, by rw [hch, hch1]; rfl⟩, fun j => ?_, fun k hk => (hoth k hk).trans (hoth1 k hk), honly1.trans honly⟩
    rw [hpend, hch1]
    simp only [testBit_or_two_pow, List.mem_cons, Fin.val_inj]
    by_cases hj : i = j
    · subst hj; simp [hm]
    · have : ¬ j = i := fun e => hj e.symm
      simp [hj, this]
  · rw [if_neg hm] at h
    obtain ⟨hch, hpend, hoth, honly⟩ := h
    refine ⟨hch, fun j => ?_, hoth, honly⟩
    rw [hpend]
    by_cases hj : j = i
    · subst hj; simp [hm]
    · simp [hj]

theorem Delivered.foldl (n : Fin 16) (m : Nat) (l : List (Fin 16)) (s : State) :
    Delivered s n l m (l.foldl (fun s (i : Fin 16) => if m.testBit i.val then s.sendSignal n i false else s) s) := by
  induction l generalizing s with
  | nil => exact .nil s n m
  | cons i l ih => exact .cons i (ih _)

/-! ### Levels (R403) -/

/-- LVLDEC changes the level of its channel with the record of the cycle, and nothing else. -/
theorem State.levelDown_eq (s : State) (n : Fin 16) (v : Nat) :
    s.levelDown n v = s.setCh n { s.ch n with
      lvl := some { (s.ch n).levelCycle (s.now / 2) with down := ((s.ch n).levelCycle (s.now / 2)).down + v }
      level := ((s.ch n).levelCycle (s.now / 2)).up - (((s.ch n).levelCycle (s.now / 2)).down + v) } := rfl

/-- What an LVLDEC leaves, the level as `level` says. -/
theorem State.busWrite_lvldec {e : State} {m : Master} {n : Fin 16} {amount : BitVec 16} (hr : e.running = true) (hl : e.life.state ≠ .scrap) :
    let k := (e.ch n).levelCycle (e.now / 2)
    let t := e.busWrite m (dmaBase n + 0x34) (amount.zeroExtend 32)
    (t.ch n).level = k.up - (k.down + amount.toNat) ∧ (t.ch n).state = (e.ch n).state ∧ (t.ch n).sig = (e.ch n).sig ∧
      (∀ k : Fin 16, k ≠ n → t.ch k = e.ch k) ∧ t = { e with dma := t.dma, busRead := 0, busError := false } := by
  dsimp only
  rw [State.busWrite_chWord (by decide) m n _ hr hl, State.writeDma_lvldec, fieldOf_zeroExtend, State.levelDown_eq]
  have same := e.ch_setCh_same n { e.ch n with
      lvl := some { (e.ch n).levelCycle (e.now / 2) with down := ((e.ch n).levelCycle (e.now / 2)).down + amount.toNat }
      level := ((e.ch n).levelCycle (e.now / 2)).up - (((e.ch n).levelCycle (e.now / 2)).down + amount.toNat) }
  exact ⟨(congrArg DmaCh.level same :), (congrArg DmaCh.state same :), (congrArg DmaCh.sig same :), fun k hk => e.ch_setCh_other _ hk, rfl⟩

theorem DmaCh.levelCycle_none {c : DmaCh} (h : c.lvl = none) (cyc : Nat) : c.levelCycle cyc = { cyc := cyc, was := c.level, up := c.level } := by
  simp [DmaCh.levelCycle, h]

theorem DmaCh.levelCycle_same {c : DmaCh} {k : LevelCycle} (h : c.lvl = some k) : c.levelCycle k.cyc = k := by
  simp [DmaCh.levelCycle, h]

theorem DmaCh.levelCycle_earlier {c : DmaCh} {k : LevelCycle} {cyc : Nat} (h : c.lvl = some k) (hc : k.cyc ≠ cyc) :
    c.levelCycle cyc = { cyc := cyc, was := k.was, up := c.level } := by
  simp [DmaCh.levelCycle, h, hc]

/-! ### The translation cache (R398, R407) -/

theorem tlbInv_plain : isPlain 0x90840 = true := by decide

theorem State.busWrite_tlbInv {e : State} (w : Word) (hr : e.running = true) (hl : e.life.state ≠ .scrap) :
    e.busWrite .link 0x90840 w = { e.tlbInvalidate w with busRead := 0, busError := false } :=
  State.busWrite_plain w hr hl tlbInv_plain (by simp [State.blockUp]) (Or.inl rfl)

theorem TlbEntry.hit_eq_true_iff {x : TlbEntry} {w : Word} :
    x.hit w = true ↔ bitOf w 31 = true ∨ (x.ctx = fieldOf w 27 24 ∧ x.page = fieldOf w 11 0) := by
  simp [TlbEntry.hit]

/-- An entry that an invalidation of this cycle names does not stay after a walk has filled it (R407). -/
theorem State.tlbFill_invalidated (s : State) {w : Word} {x : TlbEntry} (h : x.hit w = true) :
    x ∉ ((s.tlbInvalidate w).tlbFill x).dma.tlb := by
  intro hx
  have gone : ((s.tlbInvalidate w).dma.inv.any fun p => decide (p.1 = (s.tlbInvalidate w).now / 2) && x.hit p.2) = true :=
    List.any_eq_true.2 ⟨(s.now / 2, w), List.mem_cons_self, by simp [State.tlbInvalidate, h]⟩
  have kept := (List.mem_filter.1 hx).2
  dsimp only at kept
  rw [gone] at kept
  cases kept

/-- Settles O34: each of these commands is a write that comes down to one operation on its channel, or on the cache. -/
theorem dmaSignalsAndLevels : Obligations.DmaSignalsAndLevels := by
  refine ⟨fun m n mask => ?delivery, fun m n mask => ?clear, fun m n amount => ?levelUntouched, fun m n amount k => ?levelSameCycle,
    fun m n amount k => ?levelEarlier, fun value => ?cache⟩
  case delivery =>
    refine .of (fun e => e.busWrite m (dmaBase n + 0x14) (mask.zeroExtend 32)) (fun _ _ => rfl) fun e _ ⟨hr, hl⟩ => ?_
    rw [State.busWrite_chWord (by decide) m n _ hr hl, State.writeDma_sig, fieldOf_zeroExtend]
    obtain ⟨⟨sig, met, hch⟩, pending, others, only⟩ := Delivered.foldl n mask.toNat (List.finRange 16) e
    have all (i : Fin 16) : (((e.signalBits n mask.toNat).ch n).sig.testBit i.val) =
        ((e.ch n).sig.testBit i.val || mask.toNat.testBit i.val) := by
      have p := pending i
      rw [decide_eq_true (List.mem_finRange i), Bool.true_and] at p
      exact p
    exact ⟨all, (congrArg DmaCh.sigSpec hch :), (congrArg DmaCh.a hch :), (congrArg DmaCh.loops hch :), (congrArg DmaCh.pc hch :),
      (congrArg DmaCh.state hch :), others, only .sram (by decide), rfl⟩
  case clear =>
    refine .of (fun e => e.busWrite m (dmaBase n + 0x18) (mask.zeroExtend 32)) (fun _ _ => rfl) fun e _ ⟨hr, hl⟩ => ?_
    rw [State.busWrite_chWord (by decide) m n _ hr hl, State.writeDma_sigclr, fieldOf_zeroExtend]
    have same := e.ch_setCh_same n { e.ch n with
      sig := (e.ch n).sig &&& (0xFFFF - mask.toNat % 0x10000), sigSpec := (e.ch n).sigSpec &&& (0xFFFF - mask.toNat % 0x10000) }
    have sig : ((e.signalClear n mask.toNat).ch n).sig = (e.ch n).sig &&& (0xFFFF - mask.toNat % 0x10000) := congrArg DmaCh.sig same
    have spec : ((e.signalClear n mask.toNat).ch n).sigSpec = (e.ch n).sigSpec &&& (0xFFFF - mask.toNat % 0x10000) :=
      congrArg DmaCh.sigSpec same
    refine ⟨fun i => ⟨?_, ?_⟩, ?_⟩
    · exact (congrArg (·.testBit i.val) sig).trans (testBit_and_complement _ _ i.isLt)
    · exact (congrArg (·.testBit i.val) spec).trans (testBit_and_complement _ _ i.isLt)
    · change _ = { e.setCh n { e.ch n with
        sig := ((e.signalClear n mask.toNat).ch n).sig, sigSpec := ((e.signalClear n mask.toNat).ch n).sigSpec } with
        busRead := 0, busError := false }
      rw [sig, spec]
      rfl
  case levelUntouched =>
    refine .of (fun e => e.busWrite m (dmaBase n + 0x34) (amount.zeroExtend 32)) (fun _ _ => rfl) fun e _ ⟨hr, hl, hk⟩ => ?_
    have done := State.busWrite_lvldec (m := m) (n := n) (amount := amount) hr hl
    rw [DmaCh.levelCycle_none hk] at done
    simpa using done
  case levelSameCycle =>
    refine .of (fun e => e.busWrite m (dmaBase n + 0x34) (amount.zeroExtend 32)) (fun _ _ => rfl) fun e _ ⟨hr, hl, hk, hcyc⟩ => ?_
    obtain ⟨level, -, sig, others, rest⟩ := State.busWrite_lvldec (m := m) (n := n) (amount := amount) hr hl
    rw [← hcyc, DmaCh.levelCycle_same hk] at level
    exact ⟨level, sig, others, rest⟩
  case levelEarlier =>
    refine .of (fun e => e.busWrite m (dmaBase n + 0x34) (amount.zeroExtend 32)) (fun _ _ => rfl) fun e _ ⟨hr, hl, hk, hcyc⟩ => ?_
    obtain ⟨level, -, sig, others, rest⟩ := State.busWrite_lvldec (m := m) (n := n) (amount := amount) hr hl
    rw [DmaCh.levelCycle_earlier hk hcyc, Nat.zero_add] at level
    exact ⟨level, sig, others, rest⟩
  case cache =>
    refine .of (fun e => e.busWrite .link 0x90840 value) (fun _ _ => rfl) fun e _ ⟨hr, hl⟩ => ?_
    rw [State.busWrite_tlbInv value hr hl]
    refine ⟨fun x => ?_, fun x hx => e.tlbFill_invalidated (TlbEntry.hit_eq_true_iff.2 hx), rfl, rfl⟩
    have kept : x ∈ (e.tlbInvalidate value).dma.tlb ↔ x ∈ e.dma.tlb ∧ x.hit value = false := by
      simp [State.tlbInvalidate]
    refine kept.trans (and_congr_right fun _ => ?_)
    rw [← Bool.not_eq_true, TlbEntry.hit_eq_true_iff, not_or, Bool.not_eq_true]

end Sys2Proof.Machine
end

section
/-!
PROOFS. The instructions of a DMA channel (R387, R390 to R393).
-/

namespace Sys2Proof.Machine

/-- A channel that is not in RUN is at no instruction. -/
theorem State.atOp_of_state_ne_run {s : State} {n : Fin 16} (op : Nat) (h : (s.ch n).state ≠ .run) : s.atOp n op = false := by
  simp [State.atOp, h]

theorem State.opLoop_elsewhere {s : State} {n : Fin 16} (h : s.atOp n 2 = false) : s.opLoop n = s := by
  simp [State.opLoop, h]

theorem State.opMove_elsewhere {s : State} {n : Fin 16} (h : s.atOp n 1 = false) : s.opMove n = s := by
  simp [State.opMove, h]

/-- MOVE takes its operands, each by its mode (R387). -/
theorem State.opMove_atOp {s : State} {n : Fin 16} (h : s.atOp n 1 = true) :
    s.opMove n = s.setCh n { s.ch n with
      work := .move {
        src := if 2 ≤ fieldOf (s.progWord (s.ch n).pc) 23 22 then (s.ch n).a.getD (fieldOf (s.progWord ((s.ch n).pc + 1)) 1 0) 0
          else fieldOf (s.progWord ((s.ch n).pc + 1)) 23 0
        dst := if 2 ≤ fieldOf (s.progWord (s.ch n).pc) 21 20 then (s.ch n).a.getD (fieldOf (s.progWord ((s.ch n).pc + 2)) 1 0) 0
          else fieldOf (s.progWord ((s.ch n).pc + 2)) 23 0 }
      tries := 0 } := by
  unfold State.opMove
  exact if_pos h

/-- SET of an address register loads it and goes on (R393). -/
theorem State.opSet_register {s : State} {n : Fin 16} (h : s.atOp n 6 = true) (hw : bitOf (s.progWord (s.ch n).pc) 27 = false) :
    s.opSet n = s.setCh n { s.ch n with
      pc := (s.ch n).pc + 2
      a := (s.ch n).a.set (fieldOf (s.progWord (s.ch n).pc) 1 0) (fieldOf (s.progWord ((s.ch n).pc + 1)) 23 0) } := by
  simp only [State.opSet, h, hw, if_true, if_false, Bool.false_eq_true]

/-- SET of a word asks for a write beat (R393). -/
theorem State.opSet_word {s : State} {n : Fin 16} (h : s.atOp n 6 = true) (hw : bitOf (s.progWord (s.ch n).pc) 27 = true) :
    s.opSet n = s.setCh n { s.ch n with
      work := .set (fieldOf (s.progWord (s.ch n).pc) 23 0) (s.progWord ((s.ch n).pc + 1)), tries := 0 } := by
  simp only [State.opSet, h, hw, if_true]

/-! ### WAIT (R391) -/

/-- The pending signals and tags that the end of a WAIT for a signal clears; a WAIT for anything else clears none. -/
def State.waitMask (s : State) (n : Fin 16) : Nat :=
  if fieldOf (s.progWord (s.ch n).pc) 27 26 = 0 then 2 ^ fieldOf (s.progWord (s.ch n).pc) 3 0 else 0

/-- A channel after its WAIT: in RUN at the next instruction with its tag, the signals of the mask cleared. -/
def DmaCh.waited (c : DmaCh) (tag : Bool) (mask : Nat) : DmaCh :=
  { c with
    state := .run, pc := c.pc + 1, tag := tag, met := none, sig := c.sig &&& (0xFFFF - mask % 0x10000)
    sigSpec := c.sigSpec &&& (0xFFFF - mask % 0x10000) }

theorem State.setCh_setCh (s : State) (n : Fin 16) (c d : DmaCh) : (s.setCh n c).setCh n d = s.setCh n d := by
  simp [State.setCh]

theorem State.endWait_eq (s : State) (n : Fin 16) (tag : Bool) : s.endWait n tag = s.setCh n ((s.ch n).waited tag (s.waitMask n)) := by
  simp only [State.endWait, State.signalClear, State.ch_setCh_same, State.setCh_setCh]
  rfl

/-- What the end of a WAIT leaves of the DMA, and of the rest of the state. -/
theorem State.endWait_spec (s : State) (n : Fin 16) (tag : Bool) :
    (s.endWait n tag).ch n = (s.ch n).waited tag (s.waitMask n) ∧ (∀ k : Fin 16, k ≠ n → (s.endWait n tag).ch k = s.ch k) ∧
      s.endWait n tag = { s with dma := (s.endWait n tag).dma } := by
  rw [State.endWait_eq]
  exact ⟨s.ch_setCh_same n _, fun k hk => s.ch_setCh_other _ hk, rfl⟩

theorem fieldOf_lt (w : Word) (hi lo : Nat) : fieldOf w hi lo < 2 ^ (hi + 1 - lo) := Nat.mod_lt _ (Nat.two_pow_pos _)

/-- A WAIT for a pending signal ends at once (R391). -/
theorem State.opWait_pending {s : State} {n : Fin 16} (h : s.atOp n 4 = true) (hk : fieldOf (s.progWord (s.ch n).pc) 27 26 = 0)
    (hp : (s.ch n).sig.testBit (fieldOf (s.progWord (s.ch n).pc) 3 0) = true) :
    s.opWait n = s.endWait n ((s.ch n).sigSpec.testBit (fieldOf (s.progWord (s.ch n).pc) 3 0)) := by
  simp only [State.opWait, h, hk, hp, and_self, if_true]

/-- Otherwise the channel waits (R391). -/
theorem State.opWait_waits {s : State} {n : Fin 16} (h : s.atOp n 4 = true) (hk : fieldOf (s.progWord (s.ch n).pc) 27 26 ≠ 0 ∨
    (s.ch n).sig.testBit (fieldOf (s.progWord (s.ch n).pc) 3 0) = false) :
    s.opWait n = s.setCh n { s.ch n with state := .wait, met := none } := by
  have waits : ¬ (fieldOf (s.progWord (s.ch n).pc) 27 26 = 0 ∧ (s.ch n).sig.testBit (fieldOf (s.progWord (s.ch n).pc) 3 0) = true) :=
    fun ⟨h0, hp⟩ => hk.elim (· h0) (fun hf => Bool.false_ne_true (hf.symm.trans hp))
  simp only [State.opWait, h, waits, if_true, if_false]

theorem State.waitComplete_met {s : State} {n : Fin 16} {tag : Bool} (hs : (s.ch n).state = .wait) (hm : (s.ch n).met = some tag) :
    s.waitComplete n = s.endWait n tag := by
  simp only [State.waitComplete, hs, hm]

theorem State.waitComplete_unmet {s : State} {n : Fin 16} (hm : (s.ch n).met = none) : s.waitComplete n = s := by
  simp only [State.waitComplete, hm]
  cases (s.ch n).state <;> rfl

/-! ### SIGNAL and END (R392, R393) -/

/-- SIGNAL goes on and delivers its signal, with the channel's TAG. -/
theorem State.opSignal_atOp {s : State} {n : Fin 16} (h : s.atOp n 5 = true) :
    s.opSignal n = (s.setCh n { s.ch n with pc := (s.ch n).pc + 1 }).sendSignal (Fin.ofNat 16 (fieldOf (s.progWord (s.ch n).pc) 3 0))
      (Fin.ofNat 16 (fieldOf (s.progWord (s.ch n).pc) 7 4)) (s.ch n).tag := by
  unfold State.opSignal
  exact if_pos h

theorem State.opEnd_atOp {s : State} {n : Fin 16} (h : s.atOp n 0 = true) :
    s.opEnd n = (s.setCh n { s.ch n with state := .done }).orReg (dmaBase n + 0x10) 1 := by
  unfold State.opEnd
  exact if_pos h

/-- A bit that a mask sets reads 1. -/
theorem State.bit_orReg_same (s : State) (a m : Nat) {i : Nat} (hi : i < 32) (hm : m.testBit i = true) : (s.orReg a m).bit a i = true := by
  simp only [State.bit, bitOf, State.reg_orReg_same, BitVec.toNat_or, BitVec.toNat_ofNat, Nat.testBit_or, Nat.testBit_mod_two_pow, hi, hm,
    decide_true, Bool.and_self, Bool.or_true]

theorem execDmaSignal_post {e : State} {n k : Fin 16} (h : e.atOp n 5 = true) (hk : k = Fin.ofNat 16 (fieldOf (e.progWord (e.ch n).pc) 3 0)) :
    ((e.opSignal n).ch n).pc = (e.ch n).pc + 1 ∧ ((e.opSignal n).ch k).sig.testBit (fieldOf (e.progWord (e.ch n).pc) 7 4) = true ∧
      (∀ i : Fin 16, i ≠ n → i ≠ k → (e.opSignal n).ch i = e.ch i) ∧ (e.opSignal n).sram = e.sram ∧
      (e.opSignal n).regs = if (e.ch k).sig.testBit (fieldOf (e.progWord (e.ch n).pc) 7 4) then (e.orReg (dmaBase k + 0x10) 8).regs else e.regs := by
  subst hk
  rw [State.opSignal_atOp h]
  generalize hgo : e.setCh n { e.ch n with pc := (e.ch n).pc + 1 } = g
  generalize hsig : fieldOf (e.progWord (e.ch n).pc) 7 4 = sig
  have hlt : sig < 16 := hsig ▸ fieldOf_lt _ _ _
  have number : (Fin.ofNat 16 sig).val = sig := Nat.mod_eq_of_lt hlt
  generalize Fin.ofNat 16 (fieldOf (e.progWord (e.ch n).pc) 3 0) = k
  obtain ⟨⟨met, hch⟩, others, only, words⟩ := g.sendSignal_signalled k (Fin.ofNat 16 sig) (e.ch n).tag
  rw [number] at hch words
  have goOther (i : Fin 16) (hi : i ≠ n) : g.ch i = e.ch i := hgo ▸ e.ch_setCh_other _ hi
  have goSame : g.ch n = { e.ch n with pc := (e.ch n).pc + 1 } := hgo ▸ e.ch_setCh_same n _
  have goSig : (g.ch k).sig = (e.ch k).sig := by
    by_cases hkn : k = n
    · rw [hkn, goSame]
    · rw [goOther k hkn]
  have goRegs : g.regs = e.regs := hgo ▸ rfl
  refine ⟨?pc, ?pending, fun i hn hk => (others i hk).trans (goOther i hn), ?sram, ?words⟩
  case pc =>
    by_cases hkn : n = k
    · subst hkn
      exact (congrArg DmaCh.pc hch :).trans (congrArg DmaCh.pc goSame :)
    · rw [others n hkn, goSame]
  case pending =>
    rw [hch]
    simp only [testBit_or_two_pow, decide_true, Bool.or_true]
  case sram => exact (only .sram (by decide)).trans (hgo ▸ rfl)
  case words =>
    rw [words, goSig]
    have told : (g.orReg (dmaBase k + 0x10) 8).regs = (e.orReg (dmaBase k + 0x10) 8).regs := hgo ▸ rfl
    rw [told, goRegs]

/-- Settles O35: one lemma per instruction, each about a channel that stands at it; the end of a WAIT is shared by WAIT and WAIT_COMPLETE. -/
theorem dmaInstructions : Obligations.DmaInstructions := by
  refine ⟨fun n k => ?loop, fun n => ?loopEndless, fun n => ?loopElsewhere, fun n b k rest => ?again, fun n b rest => ?last, fun n => ?waitGoes,
    fun n => ?waitStays, fun n tag => ?met, fun n => ?unmet, fun n k => ?signal, fun n => ?setRegister, fun n => ?setWord, fun n => ?ends,
    fun n => ?move, fun n => ?moveElsewhere⟩
  case loop =>
    refine .of (·.opLoop n) (fun _ _ => rfl) fun e ⟨h, hk⟩ => ?_
    rw [State.opLoop_atOp h, hk, if_neg (Nat.succ_ne_zero k)]
  case loopEndless =>
    refine .of (·.opLoop n) (fun _ _ => rfl) fun e ⟨h, hk⟩ => ?_
    rw [State.opLoop_atOp h, hk, if_pos rfl]
  case loopElsewhere => exact .of (·.opLoop n) (fun _ _ => rfl) fun e h => State.opLoop_elsewhere (State.atOp_of_state_ne_run 2 h)
  case again => exact .of (·.opEndLoop n) (fun _ _ => rfl) fun e ⟨h, hl⟩ => State.opEndLoop_again h hl (Nat.le_add_left 2 k)
  case last => exact .of (·.opEndLoop n) (fun _ _ => rfl) fun e ⟨h, hl⟩ => State.opEndLoop_last h hl (Nat.le_refl 1)
  case waitGoes =>
    refine .of (·.opWait n) (fun _ _ => rfl) fun e _ ⟨h, hk, hp⟩ => ?_
    rw [State.opWait_pending h hk hp]
    obtain ⟨same, others, rest⟩ := e.endWait_spec n ((e.ch n).sigSpec.testBit (fieldOf (e.progWord (e.ch n).pc) 3 0))
    refine ⟨(congrArg DmaCh.state same :), (congrArg DmaCh.pc same :), (congrArg DmaCh.tag same :), fun i => ?_, others, rest⟩
    have mask : e.waitMask n = 2 ^ fieldOf (e.progWord (e.ch n).pc) 3 0 := if_pos hk
    rw [same]
    refine (testBit_and_complement _ _ i.isLt).trans ?_
    rw [mask, Nat.testBit_two_pow]
    simp [eq_comm]
  case waitStays => exact .of (·.opWait n) (fun _ _ => rfl) fun e ⟨h, hk⟩ => State.opWait_waits h hk
  case met =>
    refine .of (fun e => e.whileRunning (fun e => e.waitComplete n)) (fun _ _ => rfl) fun e _ ⟨hr, hs, hm⟩ => ?_
    have done : e.whileRunning (fun e => e.waitComplete n) = e.endWait n tag := (if_pos hr).trans (State.waitComplete_met hs hm)
    rw [done]
    obtain ⟨same, others, rest⟩ := e.endWait_spec n tag
    exact ⟨(congrArg DmaCh.state same :), (congrArg DmaCh.pc same :), (congrArg DmaCh.tag same :), (congrArg DmaCh.met same :), others, rest⟩
  case unmet =>
    refine .of (fun e => e.whileRunning (fun e => e.waitComplete n)) (fun _ _ => rfl) fun e hm => ?_
    simp only [State.whileRunning, State.waitComplete_unmet hm, ite_self]
  case signal => exact .of (·.opSignal n) (fun _ _ => rfl) fun e _ ⟨h, hk⟩ => execDmaSignal_post h hk
  case setRegister => exact .of (·.opSet n) (fun _ _ => rfl) fun e ⟨h, hw⟩ => State.opSet_register h hw
  case setWord => exact .of (·.opSet n) (fun _ _ => rfl) fun e ⟨h, hw⟩ => State.opSet_word h hw
  case ends =>
    refine .of (·.opEnd n) (fun _ _ => rfl) fun e _ h => ?_
    rw [State.opEnd_atOp h]
    exact ⟨e.ch_setCh_same n _, State.bit_orReg_same _ _ _ (by decide) (by decide), fun k hk => e.ch_setCh_other _ hk, rfl,
      fun a ha => State.reg_orReg_other _ _ ha⟩
  case move => exact .of (·.opMove n) (fun _ _ => rfl) fun e h => State.opMove_atOp h
  case moveElsewhere => exact .of (·.opMove n) (fun _ _ => rfl) fun e h => State.opMove_elsewhere (State.atOp_of_state_ne_run 1 h)

end Sys2Proof.Machine
end

section
/-!
PROOFS. The beats of a DMA channel (R389, R393 to R399, R410, R412).
-/

namespace Sys2Proof.Machine

theorem Only.sramByte {l : List Part} {s t : State} (h : Only l s t) (a : Nat) (hb : Part.sram ∉ l)
    (hg : Part.sramGen ∉ l) : t.sramByte a = s.sramByte a := by
  have bytes : t.sram = s.sram := h .sram hb
  have gen : t.sramGen = s.sramGen := h .sramGen hg
  unfold State.sramByte
  rw [bytes, gen]

theorem Only.ch {l : List Part} {s t : State} (h : Only l s t) (n : Fin 16) (hl : Part.dma ∉ l) : t.ch n = s.ch n :=
  State.ch_congr (h .dma hl) n

/-! ### What is counted before a beat (R399, R412) -/

/-- The counters of the channels, PREEMPT and RETRIES. -/
def isBeatCount (a : Nat) : Prop := ∃ h : Fin 16, a = dmaBase h + 0x1C

/-- The state before a beat and the state once PREEMPT and RETRIES have counted it: the port's holder may be another, and of the register
words the counters alone have changed. -/
structure BeatCounted (s t : State) : Prop where
  only : Only [.dma, .regs, .setAt, .setNow] s t
  channels : t.dma.chs = s.dma.chs
  cache : t.dma.tlb = s.dma.tlb
  words : ∀ a, ¬ isBeatCount a → t.reg a = s.reg a

theorem State.satInc_only (s : State) (a hi lo : Nat) : Only [.regs, .setAt, .setNow] s (s.satInc a hi lo) := by
  intro p hp
  cases p <;> simp at hp <;> rfl

theorem BeatCounted.satInc {s : State} (h : Fin 16) (hi lo : Nat) : BeatCounted s (s.satInc (dmaBase h + 0x1C) hi lo) :=
  ⟨(s.satInc_only _ _ _).mono (by decide), rfl, rfl, fun _ ha => s.reg_satInc_other hi lo fun e => ha ⟨h, e⟩⟩

theorem BeatCounted.refl (s : State) : BeatCounted s s := ⟨.refl _ s, rfl, rfl, fun _ _ => rfl⟩

theorem BeatCounted.trans {s t u : State} (h : BeatCounted s t) (k : BeatCounted t u) : BeatCounted s u :=
  ⟨h.only.trans k.only, k.channels.trans h.channels, k.cache.trans h.cache, fun a ha => (k.words a ha).trans (h.words a ha)⟩

theorem BeatCounted.ite {s t u : State} {c : Prop} [Decidable c] (ht : BeatCounted s t) (hu : BeatCounted s u) :
    BeatCounted s (if c then t else u) := by
  split <;> assumption

/-- The port's holder is recorded. -/
theorem State.setLast_only (s : State) (n : Fin 16) : Only [.dma] s { s with dma := { s.dma with last := n } } := by
  intro p hp
  cases p <;> simp at hp <;> rfl

theorem BeatCounted.last (s : State) (n : Fin 16) : BeatCounted s { s with dma := { s.dma with last := n } } :=
  ⟨(s.setLast_only n).mono (by decide), rfl, rfl, fun _ _ => rfl⟩

theorem State.countPreempt_counted (s : State) (n : Fin 16) : BeatCounted s (s.countPreempt n) := by
  exact (BeatCounted.ite (.satInc _ _ _) (.refl s)).trans (.last _ n)

theorem State.countReissue_counted (s : State) (n : Fin 16) : BeatCounted s (s.countReissue n) := by
  unfold State.countReissue
  split
  · exact .refl s
  · exact .satInc _ _ _

/-- The state in which the beat of the granted channel is made. -/
def State.beatReady (s : State) (n : Fin 16) : State := (s.countPreempt n).countReissue n

theorem State.beatReady_counted (s : State) (n : Fin 16) : BeatCounted s (s.beatReady n) :=
  (s.countPreempt_counted n).trans (State.countReissue_counted _ n)

theorem State.countReissue_last (s : State) (n : Fin 16) : (s.countReissue n).dma.last = s.dma.last := by
  unfold State.countReissue
  split <;> rfl

theorem State.beatReady_last (s : State) (n : Fin 16) : (s.beatReady n).dma.last = n := State.countReissue_last _ n

@[simp] theorem State.setCh_last (s : State) (n : Fin 16) (c : DmaCh) : (s.setCh n c).dma.last = s.dma.last := rfl

/-! ### What a beat sees of the state before it -/

section
variable {s t : State} (h : BeatCounted s t)
include h

theorem BeatCounted.ch (n : Fin 16) : t.ch n = s.ch n := by
  unfold State.ch
  rw [h.channels]

theorem BeatCounted.fld_base (n : Fin 16) (hi lo : Nat) : t.fld (dmaBase n) hi lo = s.fld (dmaBase n) hi lo :=
  congrArg (fieldOf · hi lo) (h.words _ fun ⟨k, e⟩ => by simp only [dmaBase] at e; omega)

theorem BeatCounted.context (n : Fin 16) : t.reg (0x90800 + 4 * t.chCtx n) = s.reg (0x90800 + 4 * s.chCtx n) := by
  have ctx : t.chCtx n = s.chCtx n := h.fld_base n 27 24
  rw [ctx]
  exact h.words _ fun ⟨k, e⟩ => by simp only [dmaBase] at e; omega

theorem BeatCounted.progWord (off : Nat) : t.progWord off = s.progWord off :=
  h.words _ fun ⟨k, e⟩ => by simp only [dmaBase] at e; omega

theorem BeatCounted.moveAt (off : Nat) : t.moveAt off = s.moveAt off := by
  simp only [State.moveAt, h.progWord]

theorem BeatCounted.moveBeat (n : Fin 16) (i : MoveIns) (m : MoveSt) : t.moveBeat n i m = s.moveBeat n i m := by
  have ring (mode r : Nat) : t.opRing n mode r = s.opRing n mode r := by
    simp only [State.opRing, State.chRing, h.fld_base]
  simp only [State.moveBeat, ring]

theorem BeatCounted.nextBeat (n : Fin 16) : t.nextBeat n = s.nextBeat n := by
  unfold State.nextBeat
  rw [h.ch]
  cases (s.ch n).work with
  | none => rfl
  | set a v => rfl
  | move m => simp only [h.moveAt, h.moveBeat]

theorem BeatCounted.beatPartial (n : Fin 16) (w : Bool) : t.beatPartial n w = s.beatPartial n w := by
  simp only [State.beatPartial, h.ch, h.moveAt]

theorem BeatCounted.chRetry (n : Fin 16) : t.chRetry n = s.chRetry n := h.fld_base n 19 16

end

theorem State.sramBytes_congr {s t : State} (h : ∀ a, t.sramByte a = s.sramByte a) (a n : Nat) : t.sramBytes a n = s.sramBytes a n := by
  induction n generalizing a with
  | zero => rfl
  | succ n ih => simp only [State.sramBytes, h, ih]

/-- A granted channel asks for a beat, and none of its beats is parked. -/
theorem State.chReady_of_grant {s : State} {n : Fin 16} (h : s.grant = some n) : s.chReady n = true := by
  unfold State.grant at h
  dsimp only at h
  have ready : n ∈ (chRing16 s.dma.last).filter s.chReady := by
    split at h
    · rename_i hc
      cases h
      exact (List.mem_filter.1 (List.contains_iff_mem.1 hc)).1
    · exact (List.mem_filter.1 (List.mem_of_mem_head? h)).1
  exact (List.mem_filter.1 ready).2

theorem State.not_parked_of_grant {s : State} {n : Fin 16} (h : s.grant = some n) : (s.ch n).parked = false := by
  have ready := State.chReady_of_grant h
  simp only [State.chReady, Bool.and_eq_true, Bool.not_eq_true'] at ready
  exact ready.2

theorem State.dmaBeat_granted {s : State} {n : Fin 16} (hr : s.running = true) (hh : s.life.halted = false) (hg : s.grant = some n) :
    s.dmaBeat = (s.countPreempt n).channelBeat n := by
  simp [State.dmaBeat, hr, hh, hg]

theorem State.dmaBeat_none {s : State} (h : s.running = false ∨ s.life.halted = true ∨ s.grant = none) : s.dmaBeat = s := by
  rcases h with h | h | h <;> simp [State.dmaBeat, h]

/-- With BYPASS the address is the physical one (R395). -/
theorem State.translate_bypass {s : State} {n : Fin 16} (va : Nat) (w : Bool) (h : bitOf (s.reg (0x90800 + 4 * s.chCtx n)) 0 = true) :
    s.translate n va w = (.ok va, s) := by
  unfold State.translate
  exact if_pos h

theorem not_inPd0_of_inSram {a : Nat} (h : inSram a = true) : inPd0 a = false := by
  simp only [inSram, Bool.and_eq_true, decide_eq_true_eq] at h
  simp only [inPd0, Bool.or_eq_false_iff, Bool.and_eq_false_iff, decide_eq_false_iff_not]
  omega

/-! ### The end of a beat (R387, R402, R403) -/

/-- The end of a beat changes its own channel, and of the register words LVLSAT at most. -/
structure BeatEnded (s : State) (n : Fin 16) (t : State) : Prop where
  only : Only [.dma, .regs, .setAt, .setNow] s t
  others : ∀ k, k ≠ n → t.ch k = s.ch k
  last : t.dma.last = s.dma.last

theorem BeatEnded.setCh (s : State) (n : Fin 16) (c : DmaCh) : BeatEnded s n (s.setCh n c) :=
  ⟨(s.setCh_only n c).mono (by decide), fun _ hk => s.ch_setCh_other c hk, rfl⟩

theorem BeatEnded.trans {s t u : State} {n : Fin 16} (h : BeatEnded s n t) (k : BeatEnded t n u) : BeatEnded s n u :=
  ⟨h.only.trans k.only, fun i hi => (k.others i hi).trans (h.others i hi), k.last.trans h.last⟩

theorem BeatEnded.ite {s t u : State} {n : Fin 16} {c : Prop} [Decidable c] (ht : BeatEnded s n t) (hu : BeatEnded s n u) :
    BeatEnded s n (if c then t else u) := by
  split <;> assumption

theorem State.levelUp_ended (s : State) (n : Fin 16) : BeatEnded s n (s.levelUp n) := by
  unfold State.levelUp
  dsimp only
  split
  · exact ⟨(s.orReg_only _ _).mono (by decide), fun _ _ => rfl, rfl⟩
  · exact .setCh s n _

theorem State.endMove_ended (s : State) (n : Fin 16) (i : MoveIns) : BeatEnded s n (s.endMove n i) := by
  unfold State.endMove
  dsimp only
  split
  · exact (BeatEnded.setCh s n _).trans (State.levelUp_ended _ n)
  · exact .setCh s n _

theorem State.beatDone_ended (s : State) (n : Fin 16) (bytes : List Byte) (write : Bool) : BeatEnded s n (s.beatDone n bytes write) := by
  unfold State.beatDone
  dsimp only
  cases (s.ch n).work with
  | none => exact ⟨.refl _ s, fun _ _ => rfl, rfl⟩
  | set a v => exact .setCh s n _
  | move m =>
    refine BeatEnded.ite ?_ (.setCh s n _)
    exact (BeatEnded.setCh s n _).trans (State.endMove_ended _ n _)

/-- The lanes of a write beat store the bytes of the enabled ones at their places, and no other. -/
theorem State.sramByte_setLanes (s : State) (a b : Nat) (l : List (Option Byte)) :
    (s.setLanes a l).sramByte b = if a ≤ b then ((l[b - a]?).join).getD (s.sramByte b) else s.sramByte b := by
  induction l generalizing s a with
  | nil => simp [State.setLanes]
  | cons x l ih =>
    by_cases hb : b = a
    · subst hb
      have beyond : ¬ b + 1 ≤ b := Nat.not_succ_le_self b
      cases x <;> simp [State.setLanes, ih, beyond]
    · by_cases hle : a ≤ b
      · have step : b - a = (b - (a + 1)) + 1 := by omega
        have next : a + 1 ≤ b := by omega
        cases x with
        | none => simp [State.setLanes, ih, next, hle, step]
        | some v => simp [State.setLanes, ih, next, hle, step, State.sramByte_setSramByte_other s v hb]
      · have next : ¬ a + 1 ≤ b := by omega
        cases x with
        | none => simp [State.setLanes, ih, next, hle]
        | some v => simp [State.setLanes, ih, next, hle, State.sramByte_setSramByte_other s v hb]

/-- A lane that the write enables is stored at its place. -/
theorem State.sramByte_setLanes_at (s : State) (a i : Nat) (l : List (Option Byte)) :
    (s.setLanes a l).sramByte (a + i) = ((l[i]?).join).getD (s.sramByte (a + i)) := by
  rw [State.sramByte_setLanes, if_pos (Nat.le_add_right a i), Nat.add_sub_cancel_left]

/-- No byte beside the lanes changes. -/
theorem State.sramByte_setLanes_outside (s : State) (a b : Nat) (l : List (Option Byte)) (h : b < a ∨ a + l.length ≤ b) :
    (s.setLanes a l).sramByte b = s.sramByte b := by
  rw [State.sramByte_setLanes]
  split
  · rw [List.getElem?_eq_none (by omega)]
    rfl
  · rfl

theorem State.setLanes_only (s : State) (a : Nat) (l : List (Option Byte)) : Only [.sram] s (s.setLanes a l) := by
  induction l generalizing s a with
  | nil => exact .refl _ s
  | cons x l ih =>
    cases x with
    | none => exact ih s (a + 1)
    | some v =>
      refine Only.trans (t := s.setSramByte a v) ?_ (ih _ _)
      intro p hp
      cases p <;> simp at hp <;> rfl


/-! ### The beats of a granted channel -/

section
variable {s : State} {n : Fin 16} {b : Beat} (hr : s.running = true) (hh : s.life.halted = false) (hg : s.grant = some n)
  (hb : s.nextBeat n = some b)
include hr hh hg hb

/-- With BYPASS, a read of an aligned unit in SRAM brings its bytes (R395, R397). -/
theorem State.dmaBeat_read (hby : bitOf (s.reg (0x90800 + 4 * s.chCtx n)) 0 = true) (hp : s.beatPartial n false = false)
    (hl : b.lanes = none) (hs : inSram b.addr = true) (hk : b.addr % b.width = 0) :
    s.dmaBeat = (s.beatReady n).beatDone n (s.sramBytes b.addr b.width) false := by
  have counted := s.beatReady_counted n
  have next : (s.beatReady n).nextBeat n = some b := (counted.nextBeat n).trans hb
  have bypass := State.translate_bypass b.addr false ((congrArg (bitOf · 0) (counted.context n)).trans hby)
  have whole : (s.beatReady n).beatPartial n false = false := (counted.beatPartial n false).trans hp
  have bytes := State.sramBytes_congr (fun a => counted.only.sramByte a (by decide) (by decide)) b.addr b.width
  rw [State.dmaBeat_granted hr hh hg, State.channelBeat, ← State.beatReady]
  simp [next, hl, bypass, whole, State.beatWaits, not_inPd0_of_inSram hs, State.beatRead, hk, hs, bytes]

/-- With BYPASS, a write of an aligned unit to SRAM stores its enabled lanes (R395, R397). -/
theorem State.dmaBeat_write {l : List (Option Byte)} (hby : bitOf (s.reg (0x90800 + 4 * s.chCtx n)) 0 = true)
    (hp : s.beatPartial n true = false) (hl : b.lanes = some l) (hs : inSram b.addr = true) (hk : b.addr % b.width = 0) :
    s.dmaBeat = ((s.beatReady n).setLanes b.addr l).beatDone n [] true := by
  have counted := s.beatReady_counted n
  have next : (s.beatReady n).nextBeat n = some b := (counted.nextBeat n).trans hb
  have bypass := State.translate_bypass b.addr true ((congrArg (bitOf · 0) (counted.context n)).trans hby)
  have whole : (s.beatReady n).beatPartial n true = false := (counted.beatPartial n true).trans hp
  have channel : ((s.beatReady n).setLanes b.addr l).ch n = s.ch n :=
    (State.ch_congr (State.setLanes_only _ b.addr l .dma (by decide)) n).trans (counted.ch n)
  rw [State.dmaBeat_granted hr hh hg, State.channelBeat, ← State.beatReady]
  simp [next, hl, bypass, whole, State.beatWrite, hk, hs, channel, State.not_parked_of_grant hg]

/-- A beat of a fixed operand beyond LEN ends in a bus error (R387). -/
theorem State.dmaBeat_beyond (hby : bitOf (s.reg (0x90800 + 4 * s.chCtx n)) 0 = true) (hp : s.beatPartial n b.lanes.isSome = true) :
    s.dmaBeat = (s.beatReady n).beatError n b.addr b.addr b.lanes.isSome := by
  have counted := s.beatReady_counted n
  have next : (s.beatReady n).nextBeat n = some b := (counted.nextBeat n).trans hb
  have bypass := State.translate_bypass b.addr b.lanes.isSome ((congrArg (bitOf · 0) (counted.context n)).trans hby)
  have beyond : (s.beatReady n).beatPartial n b.lanes.isSome = true := (counted.beatPartial n _).trans hp
  rw [State.dmaBeat_granted hr hh hg, State.channelBeat, ← State.beatReady]
  simp [next, bypass, beyond]

/-- With an empty translation cache, a level-1 entry without V is fault 1 (R396, R398). -/
theorem State.dmaBeat_unmapped (hby : bitOf (s.reg (0x90800 + 4 * s.chCtx n)) 0 = false) (ht : s.dma.tlb = [])
    (hv : bitOf (s.sramWord (fieldOf (s.reg (0x90800 + 4 * s.chCtx n)) 23 8 * 256 + 4 * fieldNat b.addr 23 18)) 0 = false) :
    s.dmaBeat = ((s.beatReady n).satInc 0x90844 31 16).translationFault n 1 b.addr b.lanes.isSome := by
  have counted := s.beatReady_counted n
  have next : (s.beatReady n).nextBeat n = some b := (counted.nextBeat n).trans hb
  have faulted := counted.only.trans (((s.beatReady n).satInc_only 0x90844 31 16).mono (by decide))
  have entry (a : Nat) : ((s.beatReady n).satInc 0x90844 31 16).sramWord a = s.sramWord a :=
    congrArg (fun l => BitVec.ofNat 32 (natLE l)) (State.sramBytes_congr (fun b => faulted.sramByte b (by decide) (by decide)) a 4)
  have fault : (s.beatReady n).translate n b.addr b.lanes.isSome = (.fault 1, (s.beatReady n).satInc 0x90844 31 16) := by
    simp [State.translate, counted.context n, hby, counted.cache, ht, State.walk, entry, hv]
  rw [State.dmaBeat_granted hr hh hg, State.channelBeat, ← State.beatReady]
  simp [next, fault]

end

/-- The channel of a beat stored over the state before the beat: no other channel changes, nor SRAM. -/
theorem BeatCounted.setCh {s : State} {n : Fin 16} (h : BeatCounted s (s.beatReady n)) (k : Fin 16) (c : DmaCh) :
    ((s.beatReady n).setCh k c).ch k = c ∧ (∀ i : Fin 16, i ≠ k → ((s.beatReady n).setCh k c).ch i = s.ch i) ∧
      ((s.beatReady n).setCh k c).sram = s.sram ∧ ((s.beatReady n).setCh k c).dma.last = n ∧
      ((s.beatReady n).setCh k c).wheels = s.wheels := by
  have frame := h.only.trans (((s.beatReady n).setCh_only k c).mono (by decide))
  exact ⟨State.ch_setCh_same _ k c, fun i hi => (State.ch_setCh_other _ c hi).trans (h.ch i), frame .sram (by decide),
    (State.setCh_last _ k c).trans (s.beatReady_last n), frame .wheels (by decide)⟩

/-- A bus error that RETRY allows leaves the beat to be made again (R410, R412). -/
theorem State.beatError_retry {s : State} {n : Fin 16} (va pa : Nat) (w : Bool) (h : (s.ch n).tries < s.chRetry n) :
    s.beatError n va pa w = s.setCh n { s.ch n with tries := (s.ch n).tries + 1 } := by
  unfold State.beatError
  exact if_pos h

/-- The write of a SET ends it (R393). -/
theorem State.beatDone_set {s : State} {n : Fin 16} {a : Nat} {v : Word} (bytes : List Byte) (w : Bool) (h : (s.ch n).work = .set a v) :
    s.beatDone n bytes w = s.setCh n { s.ch n with work := .none, pc := (s.ch n).pc + 2, tries := 0 } := by
  simp only [State.beatDone, h]

/-- A read beat within a MOVE fills the holding register (R397). -/
theorem State.beatDone_read {s : State} {n : Fin 16} {m : MoveSt} (bytes : List Byte) (h : (s.ch n).work = .move m)
    (hm : m.put < (s.moveAt (s.ch n).pc).len) :
    s.beatDone n bytes false = s.setCh n { s.ch n with work := .move (moveRead (s.moveAt (s.ch n).pc) m bytes), tries := 0 } := by
  have more : ¬ (s.moveAt (s.ch n).pc).len ≤ (moveRead (s.moveAt (s.ch n).pc) m bytes).put := Nat.not_le.2 hm
  simp only [State.beatDone, h, more, if_false, Bool.false_eq_true]

theorem State.nextBeat_move {s : State} {n : Fin 16} {m : MoveSt} (h : (s.ch n).work = .move m) :
    s.nextBeat n = some (s.moveBeat n (s.moveAt (s.ch n).pc) m) := by
  simp only [State.nextBeat, h]

theorem State.nextBeat_set {s : State} {n : Fin 16} {a : Nat} {v : Word} (h : (s.ch n).work = .set a v) :
    s.nextBeat n = some { addr := a, width := 4, lanes := some ((bytesLE 4 v.toNat).map some) } := by
  simp only [State.nextBeat, h]

theorem State.beatPartial_set {s : State} {n : Fin 16} {a : Nat} {v : Word} (w : Bool) (h : (s.ch n).work = .set a v) :
    s.beatPartial n w = false := by
  simp only [State.beatPartial, h]

/-- The four lanes of a word, once stored, read back the word. -/
theorem State.sramWord_setLanes_word (s : State) (a : Nat) (v : Word) :
    (s.setLanes a ((bytesLE 4 v.toNat).map some)).sramWord a = v := by
  have byte (i : Nat) := s.sramByte_setLanes_at a i ((bytesLE 4 v.toNat).map some)
  have byte0 := byte 0
  have bound := v.isLt
  apply BitVec.eq_of_toNat_eq
  simp [bytesLE] at byte byte0
  simp [State.sramWord, State.sramBytes, bytesLE, natLE, byte, byte0, Nat.add_assoc]
  omega

/-- What a failed translation leaves: the channel suspended at the beat with its fault record, and TFLT set (R398). -/
theorem State.translationFault_spec (s : State) (n : Fin 16) (cause va : Nat) (w : Bool) :
    (s.translationFault n cause va w).ch n = { s.ch n with
      state := .suspended, fCause := cause, fVaddr := va, fPaddr := 0, fWrite := w, fOffset := (s.ch n).pc } ∧
    (∀ k, k ≠ n → (s.translationFault n cause va w).ch k = s.ch k) ∧ (s.translationFault n cause va w).bit (dmaBase n + 0x10) 1 = true ∧
    (s.translationFault n cause va w).sram = s.sram := by
  have frame := ((s.faultRecord n .suspended cause va 0 w).orReg (dmaBase n + 0x10) 2).notice_frame 0x13 (dmaPayload n.val 2 va (s.ch n).pc)
  have dma := (congrArg State.dma frame.rest :)
  refine ⟨(State.ch_congr dma n).trans (s.ch_setCh_same n _), fun k hk => (State.ch_congr dma k).trans (s.ch_setCh_other _ hk), ?_,
    frame.sram⟩
  have word := frame.reg (dmaBase n + 0x10) (by simp only [dmaBase]; omega)
  exact (congrArg (bitOf · 1) word).trans (State.bit_orReg_same _ _ 2 (by decide) (by decide))

/-- Settles O36: the beat of the granted channel is worked out for reads, writes, beats beyond LEN, the write of a SET and a failed walk. -/
theorem dmaBeats : Obligations.DmaBeats := by
  refine ⟨fun n m a k => ?read, fun n m a k l => ?write, fun n b => ?beyond, fun n a v => ?setWord, fun n b => ?unmapped, ?none⟩
  case read =>
    refine .of State.dmaBeat (fun _ _ => rfl) fun e _ ⟨hr, hh, hg, hw, hb, hby, hs, hk, hp, hm⟩ => ?_
    have counted := e.beatReady_counted n
    have chan := counted.ch n
    rw [State.dmaBeat_read hr hh hg ((State.nextBeat_move hw).trans (congrArg some hb)) hby hp rfl hs hk,
      State.beatDone_read _ ((congrArg DmaCh.work chan).trans hw) (by rw [chan, counted.moveAt]; exact hm), chan, counted.moveAt]
    exact counted.setCh n _
  case write =>
    refine .of State.dmaBeat (fun _ _ => rfl) fun e _ ⟨hr, hh, hg, hw, hb, hby, hs, hk, hp⟩ => ?_
    have counted := e.beatReady_counted n
    have lanes := (e.beatReady n).setLanes_only a l
    have ended := ((e.beatReady n).setLanes a l).beatDone_ended n [] true
    rw [State.dmaBeat_write hr hh hg ((State.nextBeat_move hw).trans (congrArg some hb)) hby hp rfl hs hk]
    refine ⟨fun i b hi => ?_, fun i hi => ?_, fun b hout => ?_, ?_, fun i hi => ?_, ?_⟩
    · rw [ended.only.sramByte _ (by decide) (by decide), State.sramByte_setLanes_at, hi]
      rfl
    · rw [ended.only.sramByte _ (by decide) (by decide), State.sramByte_setLanes_at, hi, counted.only.sramByte _ (by decide) (by decide)]
      rfl
    · rw [ended.only.sramByte _ (by decide) (by decide), State.sramByte_setLanes_outside _ _ _ _ hout,
        counted.only.sramByte _ (by decide) (by decide)]
    · exact ended.last.trans ((congrArg DmaSt.last (lanes .dma (by decide))).trans (State.beatReady_last e n))
    · exact (ended.others i hi).trans ((State.ch_congr (lanes .dma (by decide)) i).trans (counted.ch i))
    · exact (ended.only .wheels (by decide)).trans ((lanes .wheels (by decide)).trans (counted.only .wheels (by decide)))
  case beyond =>
    refine .of State.dmaBeat (fun _ _ => rfl) fun e _ ⟨hr, hh, hg, hb, hby, hp, ht⟩ => ?_
    have counted := e.beatReady_counted n
    have chan := counted.ch n
    rw [State.dmaBeat_beyond hr hh hg hb hby hp, State.beatError_retry _ _ _ (by rw [chan, counted.chRetry]; exact ht), chan]
    obtain ⟨own, others, sram, _⟩ := counted.setCh n { e.ch n with tries := (e.ch n).tries + 1 }
    exact ⟨own, sram, others⟩
  case setWord =>
    refine .of State.dmaBeat (fun _ _ => rfl) fun e _ ⟨hr, hh, hg, hw, hby, hs, hk⟩ => ?_
    have counted := e.beatReady_counted n
    have lanes := (e.beatReady n).setLanes_only a ((bytesLE 4 v.toNat).map some)
    have chan (k : Fin 16) := (lanes.ch k (by decide)).trans (counted.ch k)
    have done := State.beatDone_set (s := (e.beatReady n).setLanes a ((bytesLE 4 v.toNat).map some)) [] true
      ((congrArg DmaCh.work (chan n)).trans hw)
    have ended := ((e.beatReady n).setLanes a ((bytesLE 4 v.toNat).map some)).beatDone_ended n [] true
    have own := (congrArg (State.ch · n) done).trans (State.ch_setCh_same _ n _)
    have word (t : State) (h : ∀ b, t.sramByte b = ((e.beatReady n).setLanes a ((bytesLE 4 v.toNat).map some)).sramByte b) :
        t.sramWord a = v :=
      (congrArg (fun l => BitVec.ofNat 32 (natLE l)) (State.sramBytes_congr h a 4)).trans (State.sramWord_setLanes_word _ a v)
    rw [State.dmaBeat_write hr hh hg (State.nextBeat_set hw) hby (State.beatPartial_set true hw) rfl hs hk]
    refine ⟨congrArg DmaCh.work own, ?_, word _ fun b => ended.only.sramByte b (by decide) (by decide), fun b hout => ?_, fun i hi => (ended.others i hi).trans (chan i)⟩
    · exact (congrArg DmaCh.pc own).trans (congrArg (fun c : DmaCh => c.pc + 2) (chan n))
    · rw [ended.only.sramByte _ (by decide) (by decide), State.sramByte_setLanes_outside _ _ _ _ hout,
        counted.only.sramByte _ (by decide) (by decide)]
  case unmapped =>
    refine .of State.dmaBeat (fun _ _ => rfl) fun e _ ⟨hr, hh, hg, hb, hby, ht, hv⟩ => ?_
    have counted := e.beatReady_counted n
    obtain ⟨own, others, flag, sram⟩ := ((e.beatReady n).satInc 0x90844 31 16).translationFault_spec n 1 b.addr b.lanes.isSome
    have chan (k : Fin 16) : ((e.beatReady n).satInc 0x90844 31 16).ch k = e.ch k :=
      (((e.beatReady n).satInc_only 0x90844 31 16).ch k (by decide)).trans (counted.ch k)
    have walked : ((e.beatReady n).satInc 0x90844 31 16).sram = (e.beatReady n).sram :=
      (e.beatReady n).satInc_only 0x90844 31 16 .sram (by decide)
    rw [State.dmaBeat_unmapped hr hh hg hb hby ht hv, own, chan]
    exact ⟨rfl, rfl, rfl, rfl, rfl, rfl, flag, sram.trans (walked.trans (counted.only .sram (by decide))), fun i hi => (others i hi).trans (chan i)⟩
  case none => exact .of State.dmaBeat (fun _ _ => rfl) fun e h => State.dmaBeat_none h

end Sys2Proof.Machine
end

section
/-!
PROOFS. How the parts that an operation can change are found from those of the operations it is made of.
-/

namespace Sys2Proof.Machine

variable {l l' : List Part} {k s t u : State}

/-- One more operation, whose parts are among those of the list. -/
theorem Only.step (h : Only l' s t) (hk : Only l k s) (hl : l' ⊆ l) : Only l k t := hk.trans (h.mono hl)

/-- One more operation: the parts add up. -/
theorem Only.after (h : Only l' s t) (hk : Only l k s) : Only (l ++ l') k t :=
  (hk.mono (List.subset_append_left _ _)).trans (h.mono (List.subset_append_right _ _))

theorem Only.among (h : Only l' s t) (hl : l' ⊆ l) : Only l s t := h.mono hl

theorem Only.iteSnd {α : Type} {c : Prop} [Decidable c] {a b : α × State} (ha : Only l k a.2) (hb : Only l k b.2) :
    Only l k (if c then a else b).2 := by
  split <;> assumption

theorem Only.iteFst {α : Type} {c : Prop} [Decidable c] {a b : State × α} (ha : Only l k a.1) (hb : Only l k b.1) :
    Only l k (if c then a else b).1 := by
  split <;> assumption

theorem Only.getD {o : Option State} (h : Only l k s) (ho : ∀ t, o = some t → Only l k t) : Only l k (o.getD s) := by
  cases o with
  | none => exact h
  | some t => exact ho t rfl

theorem Only.snd {α : Type} {p : α × State} {a : α} (e : p = (a, t)) (h : Only l k p.2) : Only l k t := by
  subst e; exact h

theorem Only.fst {α : Type} {p : State × α} {a : α} (e : p = (t, a)) (h : Only l k p.1) : Only l k t := by
  subst e; exact h

theorem Only.fold {α : Type} {f : State → α → State} {xs : List α} (hf : ∀ s x, Only l s (f s x)) (h : Only l k s) :
    Only l k (xs.foldl f s) := h.trans (.foldl hf xs s)

theorem Only.whileRunning {f : State → State} (h : Only l k s) (hf : Only l k (f s)) : Only l k (s.whileRunning f) := by
  unfold State.whileRunning; split <;> assumption

theorem Only.whileAwake {f : State → State} (h : Only l k s) (hf : Only l k (f s)) : Only l k (s.whileAwake f) := by
  unfold State.whileAwake; split <;> assumption

theorem Only.whileNandUp {f : State → State} (h : Only l k s) (hf : Only l k (f s)) : Only l k (s.whileNandUp f) := by
  unfold State.whileNandUp; split <;> assumption

/-- A record update: the parts outside the list are those of the state it starts from. -/
theorem Only.lit {x0 x1 x2 x3 x4 x5 x6 x7 x8 x9 x10 x11 x12 x13 x14 x15 x16 x17 x18 x19 x20 x21 x22 x23 x24 x25 x26 x27 x28 x29 x30 x31 x32
    x33 x34 x35 x36 x37 x38 x39 x40 x41 x42} (_ : x3 = s.pending)
    (h : ∀ p, p ∉ l → Part.same s (State.mk x0 x1 x2 x3 x4 x5 x6 x7 x8 x9 x10 x11 x12 x13 x14 x15 x16 x17 x18 x19 x20 x21 x22 x23 x24 x25 x26
      x27 x28 x29 x30 x31 x32 x33 x34 x35 x36 x37 x38 x39 x40 x41 x42) p) (hk : Only l k s) :
    Only l k (State.mk x0 x1 x2 x3 x4 x5 x6 x7 x8 x9 x10 x11 x12 x13 x14 x15 x16 x17 x18 x19 x20 x21 x22 x23 x24 x25 x26 x27 x28 x29 x30 x31
      x32 x33 x34 x35 x36 x37 x38 x39 x40 x41 x42) := hk.trans h

/-! ### Updates of one part -/

theorem Only.set_free (s : State) (x) : Only [.free] s { s with free := x } := fun p hp => by cases p <;> simp at hp <;> rfl

theorem Only.set_regs (s : State) (x) : Only [.regs] s { s with regs := x } := fun p hp => by cases p <;> simp at hp <;> rfl

theorem Only.set_sram (s : State) (x) : Only [.sram] s { s with sram := x } := fun p hp => by cases p <;> simp at hp <;> rfl

theorem Only.set_power (s : State) (x) : Only [.power] s { s with power := x } := fun p hp => by cases p <;> simp at hp <;> rfl

theorem Only.set_link (s : State) (x) : Only [.link] s { s with link := x } := fun p hp => by cases p <;> simp at hp <;> rfl

theorem Only.set_cfg (s : State) (x) : Only [.cfg] s { s with cfg := x } := fun p hp => by cases p <;> simp at hp <;> rfl

theorem Only.set_boot (s : State) (x) : Only [.boot] s { s with boot := x } := fun p hp => by cases p <;> simp at hp <;> rfl

theorem Only.set_wheels (s : State) (x) : Only [.wheels] s { s with wheels := x } := fun p hp => by cases p <;> simp at hp <;> rfl

theorem Only.set_phases (s : State) (x) : Only [.phases] s { s with phases := x } := fun p hp => by cases p <;> simp at hp <;> rfl

theorem Only.set_bias (s : State) (x) : Only [.bias] s { s with bias := x } := fun p hp => by cases p <;> simp at hp <;> rfl

theorem Only.set_snapAt (s : State) (x) : Only [.snapAt] s { s with snapAt := x } := fun p hp => by cases p <;> simp at hp <;> rfl

theorem Only.set_outs (s : State) (x) : Only [.outs] s { s with outs := x } := fun p hp => by cases p <;> simp at hp <;> rfl

theorem Only.set_timers (s : State) (x) : Only [.timers] s { s with timers := x } := fun p hp => by cases p <;> simp at hp <;> rfl

theorem Only.set_adcA (s : State) (x) : Only [.adcA] s { s with adcA := x } := fun p hp => by cases p <;> simp at hp <;> rfl

theorem Only.set_adcB (s : State) (x) : Only [.adcB] s { s with adcB := x } := fun p hp => by cases p <;> simp at hp <;> rfl

theorem Only.set_regA (s : State) (x) : Only [.regA] s { s with regA := x } := fun p hp => by cases p <;> simp at hp <;> rfl

theorem Only.set_injA (s : State) (x) : Only [.injA] s { s with injA := x } := fun p hp => by cases p <;> simp at hp <;> rfl

theorem Only.set_regB (s : State) (x) : Only [.regB] s { s with regB := x } := fun p hp => by cases p <;> simp at hp <;> rfl

theorem Only.set_injB (s : State) (x) : Only [.injB] s { s with injB := x } := fun p hp => by cases p <;> simp at hp <;> rfl

theorem Only.set_dma (s : State) (x) : Only [.dma] s { s with dma := x } := fun p hp => by cases p <;> simp at hp <;> rfl

theorem Only.set_nand (s : State) {x : NandSt} (h : x.pages = s.nand.pages) : Only [.nand] s { s with nand := x } := fun p hp => by
  cases p
  case pages => exact h
  all_goals simp at hp <;> rfl

theorem Only.set_pages (s : State) (x) : Only [.pages] s { s with nand := { s.nand with pages := x } } := fun p hp => by
  cases p <;> simp at hp <;> rfl

theorem Only.set_cave (s : State) (x) : Only [.cave] s { s with cave := x } := fun p hp => by cases p <;> simp at hp <;> rfl

theorem Only.set_health (s : State) (x) : Only [.health] s { s with health := x } := fun p hp => by cases p <;> simp at hp <;> rfl

theorem Only.set_bat (s : State) (x) : Only [.bat] s { s with bat := x } := fun p hp => by cases p <;> simp at hp <;> rfl

theorem Only.set_fus (s : State) (x) : Only [.fus] s { s with fus := x } := fun p hp => by cases p <;> simp at hp <;> rfl

theorem Only.set_rind (s : State) (x) : Only [.rind] s { s with rind := x } := fun p hp => by cases p <;> simp at hp <;> rfl

theorem Only.set_lock (s : State) (x) : Only [.lock] s { s with lock := x } := fun p hp => by cases p <;> simp at hp <;> rfl

theorem Only.set_life (s : State) (x) : Only [.life] s { s with life := x } := fun p hp => by cases p <;> simp at hp <;> rfl

theorem Only.set_copyLink (s : State) (x) : Only [.copyLink] s { s with copyLink := x } := fun p hp => by cases p <;> simp at hp <;> rfl

theorem Only.set_copyDma (s : State) (x) : Only [.copyDma] s { s with copyDma := x } := fun p hp => by cases p <;> simp at hp <;> rfl

end Sys2Proof.Machine
end

section
/-!
PROOFS. The parts of the state that each operation can change: one lemma for each, from those of the operations it is made of.
-/

namespace Sys2Proof.Machine

/-- The parts that an edge of a wheel moves: the wheel, the clients of its angle, and their words. -/
def edgeParts : List Part :=
  [.regs, .link, .cfg, .wheels, .phases, .outs, .timers, .regA, .injA, .regB, .injB, .dma, .setAt, .setNow]

/-- Those and the fusion engine. -/
def wheelParts : List Part :=
  [.regs, .link, .cfg, .wheels, .phases, .outs, .timers, .regA, .injA, .regB, .injB, .dma, .fus, .setAt, .setNow]

/-- The parts that new words of their blocks move. -/
def commitParts : List Part :=
  [.regs, .link, .cfg, .wheels, .phases, .outs, .timers, .adcA, .adcB, .regA, .injA, .regB, .injB, .dma, .nand, .cave, .health, .bat, .fus,
    .setAt, .setNow]

/-- The parts that a commit point moves. -/
def pointParts : List Part :=
  [.regs, .power, .link, .cfg, .wheels, .phases, .snapAt, .outs, .timers, .adcA, .adcB, .regA, .injA, .regB, .injB, .dma, .nand, .cave, .health,
    .bat, .fus, .setAt, .setNow]

theorem State.setReg_only (s : State) (a : Nat) (w : Word) : Only [.regs] s (s.setReg a w) := by
  unfold State.setReg
  exact Only.set_regs _ _

theorem State.putNote_only (s : State) (a : Nat) (n : Option SetNote) : Only [.setAt, .setNow] s (s.putNote a n) := by
  unfold State.putNote
  exact .lit rfl (fun p hp => by cases p <;> simp at hp <;> rfl) (.refl _ _)

theorem State.openCycle_only (s : State) : Only [.regs, .link, .setAt, .setNow] s (s.openCycle) := by
  unfold State.openCycle
  dsimp only
  exact .ite (((State.setReg_only _ _ _).after ((State.putNote_only _ _ _).after (Only.set_link _ _))).among (by decide))
      ((Only.set_link _ _).among (by decide))

theorem State.pushNotice_only (s : State) (code : Nat) (payload : List Byte) : Only [.link] s (s.pushNotice code payload) := by
  unfold State.pushNotice
  dsimp only
  exact Only.set_link _ _

theorem State.setFld_only (s : State) (a hi lo v : Nat) : Only [.regs] s (s.setFld a hi lo v) := by
  unfold State.setFld
  exact State.setReg_only _ _ _

theorem State.setFresh_only (s : State) (a hi lo v : Nat) : Only [.setAt, .setNow] s (s.setFresh a hi lo v) := by
  unfold State.setFresh
  exact State.putNote_only _ _ _

theorem State.noteSet_only (s : State) (a : Nat) (m : Word) : Only [.setAt, .setNow] s (s.noteSet a m) := by
  unfold State.noteSet
  dsimp only
  exact .lit rfl (fun p hp => by cases p <;> simp at hp <;> rfl) (.refl _ _)

theorem State.putFld_only (s : State) (a hi lo v : Nat) : Only [.regs, .setAt, .setNow] s (s.putFld a hi lo v) := by
  unfold State.putFld
  exact ((State.setFld_only _ _ _ _ _).after ((State.setFresh_only _ _ _ _ _).after (State.noteSet_only _ _ _))).among (by decide)

theorem State.dropNotice_only (s : State) (code : Nat) : Only [.regs, .link, .setAt, .setNow] s (s.dropNotice code) := by
  unfold State.dropNotice
  dsimp only
  exact .ite ((State.satInc_only _ _ _ _).among (by decide)) (((State.pushNotice_only _ _ _).after ((State.putFld_only _ _ _ _ _).after
      (State.satInc_only _ _ _ _))).among (by decide))

theorem State.enterNotice_only (s : State) (code : Nat) (payload : List Byte) :
    Only [.regs, .link, .setAt, .setNow] s (s.enterNotice code payload) := by
  unfold State.enterNotice
  exact .ite ((State.pushNotice_only _ _ _).among (by decide)) (State.dropNotice_only _ _)

theorem State.enterRingWatermark_only (s : State) (level : Nat) : Only [.regs, .link, .setAt, .setNow] s (s.enterRingWatermark level) := by
  unfold State.enterRingWatermark
  dsimp only
  exact .ite (((Only.set_link _ _).after (State.enterNotice_only _ _ _)).among (by decide)) (.refl _ _)

theorem State.ringCross_only (s : State) (level : Nat) : Only [.regs, .link, .setAt, .setNow] s (s.ringCross level) := by
  unfold State.ringCross
  dsimp only
  exact .ite (((State.enterRingWatermark_only _ _).after (Only.set_link _ _)).among (by decide))
      ((Only.set_link _ _).among (by decide))

theorem State.admitNotice_only (s : State) (code : Nat) (payload : List Byte) :
    Only [.regs, .link, .setAt, .setNow] s (s.admitNotice code payload) := by
  unfold State.admitNotice
  dsimp only
  refine .ite ?_ ?_
  · exact .refl _ _
  · exact .ite (((State.ringCross_only _ _).after ((Only.set_link _ _).after (State.enterNotice_only _ _ _))).among (by decide))
      ((Only.set_link _ _).step
      (State.enterNotice_only _ _ _) (by decide))

theorem State.admitAll_only (s : State) (l : List (Nat × List Byte)) : Only [.regs, .link, .setAt, .setNow] s (s.admitAll l) := by
  unfold State.admitAll
  exact .fold (fun _ _ => State.admitNotice_only _ _ _) (.refl _ _)

theorem State.notice_only (s : State) (code : Nat) (payload : List Byte) :
    Only [.regs, .link, .setAt, .setNow] s (s.notice code payload) := by
  unfold State.notice
  dsimp only
  exact .ite (((State.admitAll_only _ _).after ((Only.set_link _ _).after (State.openCycle_only _))).among (by decide)) (.refl _ _)

theorem State.noticeRetract_only (s : State) (n : Nat) : Only [.regs, .link, .setAt, .setNow] s (s.noticeRetract n) := by
  unfold State.noticeRetract
  exact .ite (.refl _ _) (State.notice_only _ _ _)

theorem State.goBackRing_only (s : State) : Only [.link] s (s.goBackRing) := by
  unfold State.goBackRing
  dsimp only
  exact Only.set_link _ _

theorem State.setAdcTest_only (s : State) (x : Conv) (t : SelfTest) : Only [.cfg] s (s.setAdcTest x t) := by
  unfold State.setAdcTest
  dsimp only
  split
  · exact Only.set_cfg _ _
  · exact Only.set_cfg _ _

theorem State.setAdc_only (s : State) (x : Conv) (a : AdcSt) : Only [.adcA, .adcB] s (s.setAdc x a) := by
  unfold State.setAdc
  split
  · exact (Only.set_adcA _ _).among (by decide)
  · exact (Only.set_adcB _ _).among (by decide)

theorem State.openRecBlock_only (s : State) (more : Bool) {t : State} (h : s.openRecBlock more = some t) : Only [.cave] s t := by
  unfold State.openRecBlock at h
  split at h
  · cases h
  · obtain ⟨n, -, rfl⟩ := Option.map_eq_some_iff.1 h
    exact Only.set_cave _ _

theorem State.allocSlot_only (s : State) (more : Bool) {r : (Nat × Nat) × State} (h : s.allocSlot more = some r) : Only [.cave] s r.2 := by
  have opened (room : Bool) {t : State} (ht : (if room then some s else s.openRecBlock more) = some t) : Only [.cave] s t := by
    split at ht
    · cases ht
      exact .refl _ _
    · exact s.openRecBlock_only more ht
  unfold State.allocSlot at h
  dsimp only at h
  split at h
  · rename_i s1 hs
    split at h
    · cases h
      exact ((Only.set_cave _ _).after (opened _ hs)).among (by decide)
    · cases h
  · cases h

theorem State.nandPick_only (s : State) : Only [.nand] s (s.nandPick) := by
  unfold State.nandPick
  dsimp only
  exact .ite (Only.set_nand _ (by rfl)) (.refl _ _)

theorem State.addJob_only (s : State) (kind : JobKind) (prio : Nat) (todo : List NandOp) : Only [.nand] s (s.addJob kind prio todo) := by
  unfold State.addJob
  dsimp only
  exact ((State.nandPick_only _).after (Only.set_nand _ (by rfl))).among (by decide)

theorem State.startRecWrite_only (s : State) : Only [.nand, .cave] s (s.startRecWrite) := by
  unfold State.startRecWrite
  dsimp only
  refine .ite ?_ ?_
  · split
    · exact .refl _ _
    · split
      · exact .refl _ _
      · rename_i h
        exact ((State.addJob_only _ _ _ _).after ((Only.set_cave _ _).after (s.allocSlot_only _ h))).among (by decide)
  · exact .refl _ _

theorem State.recordWrite_only (s : State) (kind index version : Nat) (body : List Byte) :
    Only [.nand, .cave] s (s.recordWrite kind index version body) := by
  unfold State.recordWrite
  dsimp only
  exact .ite (.refl _ _) (((State.startRecWrite_only _).after (Only.set_cave _ _)).among (by decide))

theorem State.writeHealth_only (s : State) : Only [.regs, .nand, .cave, .setAt, .setNow] s (s.writeHealth) := by
  unfold State.writeHealth
  exact .ite ((State.orReg_only _ _ _).among (by decide)) ((State.recordWrite_only _ _ _ _ _).among (by decide))

theorem State.logDropped_only (s : State) : Only [.regs, .setAt, .setNow] s (s.logDropped) := by
  unfold State.logDropped
  exact State.satInc_only _ _ _ _

theorem State.openLogBlock_only (s : State) : Only [.cave] s (s.openLogBlock.2) := by
  unfold State.openLogBlock
  dsimp only
  split
  · exact Only.set_cave _ _
  · exact Only.set_cave _ _

theorem State.startLogProgram_only (s : State) : Only [.nand, .cave] s (s.startLogProgram) := by
  unfold State.startLogProgram
  dsimp only
  refine .ite ?_ ?_
  · exact .refl _ _
  · split
    · refine (State.addJob_only _ _ _ _).step ?_ (by decide)
      refine (Only.set_cave _ _).step ?_ (by decide)
      split
      · exact .iteSnd (.refl _ _) ((State.openLogBlock_only _).among (by decide))
      · exact (State.openLogBlock_only _).among (by decide)
    · split
      · exact .iteSnd (.refl _ _) ((State.openLogBlock_only _).among (by decide))
      · exact (State.openLogBlock_only _).among (by decide)

theorem State.flushLog_only (s : State) : Only [.nand, .cave] s (s.flushLog) := by
  unfold State.flushLog
  dsimp only
  exact .ite (.refl _ _) (.ite (((State.startLogProgram_only _).after (Only.set_cave _ _)).among (by decide))
      ((Only.set_cave _ _).among (by decide)))

theorem State.appendLog_only (s : State) (src : Nat) (payload : List Byte) : Only [.cave] s (s.appendLog src payload).2 := by
  unfold State.appendLog
  dsimp only
  exact Only.set_cave _ _

theorem State.logEntry_only (s : State) (src : Nat) (payload : List Byte) (urgent : Bool) :
    Only [.regs, .nand, .cave, .setAt, .setNow] s (s.logEntry src payload urgent).2 := by
  unfold State.logEntry
  dsimp only
  refine .iteSnd ?_ ?_
  · exact (State.logDropped_only _).among (by decide)
  · refine .iteSnd ?_ ?_
    · refine .ite ?_ ?_
      · exact ((State.flushLog_only _).after (State.appendLog_only _ _ _)).step (.ite (.refl _ _)
          ((State.flushLog_only _).among (by decide))) (by decide)
      · exact (State.appendLog_only _ _ _).step (.ite (.refl _ _) ((State.flushLog_only _).among (by decide))) (by decide)
    · exact (State.logDropped_only _).among (by decide)

theorem State.logOf_only (s : State) (src : Nat) (payload : List Byte) :
    Only [.regs, .nand, .cave, .setAt, .setNow] s (s.logOf src payload) := by
  unfold State.logOf
  exact State.logEntry_only _ _ _ _

theorem State.healthLog_only (s : State) (event cause unit : Nat) :
    Only [.regs, .nand, .cave, .setAt, .setNow] s (s.healthLog event cause unit) := by
  unfold State.healthLog
  exact State.logOf_only _ _ _

theorem State.healthNotice_only (s : State) (code cause unit : Nat) : Only [.health] s (s.healthNotice code cause unit) := by
  unfold State.healthNotice
  dsimp only
  exact Only.set_health _ _

theorem State.replaceNotice_only (s : State) (cause unit : Nat) :
    Only [.regs, .nand, .cave, .health, .setAt, .setNow] s (s.replaceNotice cause unit) := by
  unfold State.replaceNotice
  exact ((State.healthLog_only _ _ _ _).after (State.healthNotice_only _ _ _ _)).among (by decide)

theorem State.advise_only (s : State) (b unit : Nat) : Only [.regs, .nand, .cave, .health, .setAt, .setNow] s (s.advise b unit) := by
  unfold State.advise
  dsimp only
  exact .ite ((State.orReg_only _ _ _).among (by decide)) (((State.healthLog_only _ _ _ _).after ((State.healthNotice_only _ _ _ _).after
      (State.orReg_only _ _ _))).among (by decide))

theorem State.referenceFault_only (s : State) (x : Conv) : Only [.regs, .nand, .cave, .health, .setAt, .setNow] s (s.referenceFault x) := by
  unfold State.referenceFault
  exact ((State.advise_only _ _ _).after (State.orReg_only _ _ _)).among (by decide)

theorem State.setRind_only (s : State) (r : RindSt) : Only [.rind] s (s.setRind r) := by
  unfold State.setRind
  exact Only.set_rind _ _

theorem State.setOut_only (s : State) (n : Fin 32) (o : OutSt) : Only [.outs] s (s.setOut n o) := by
  unfold State.setOut
  exact Only.set_outs _ _

theorem State.settlePair_only (s : State) (k : Fin 16) : Only [.regs, .outs, .setAt, .setNow] s (s.settlePair k) := by
  unfold State.settlePair
  dsimp only
  refine .ite ?_ ?_
  · exact ((State.orReg_only _ _ _).after ((State.setOut_only _ _ _).after (State.setOut_only _ _ _))).among (by decide)
  · exact ((State.setOut_only _ _ _).after (State.setOut_only _ _ _)).among (by decide)

theorem State.settle_only (s : State) (n : Fin 32) : Only [.regs, .outs, .setAt, .setNow] s (s.settle n) := by
  unfold State.settle
  exact State.settlePair_only _ _

theorem State.flushQueue_only (s : State) (n : Fin 32) : Only [.outs] s (s.flushQueue n) := by
  unfold State.flushQueue
  dsimp only
  exact State.setOut_only _ _ _

theorem State.beginHold_only (s : State) (n : Fin 32) (f : OutSt → OutSt) : Only [.regs, .outs, .setAt, .setNow] s (s.beginHold n f) := by
  unfold State.beginHold
  dsimp only
  exact ((State.settle_only _ _).after (State.setOut_only _ _ _)).among (by decide)

theorem State.loseLock_only (s : State) (n : Fin 32) : Only [.regs, .outs, .setAt, .setNow] s (s.loseLock n) := by
  unfold State.loseLock
  dsimp only
  exact (State.beginHold_only _ _ _).step (.ite ((State.flushQueue_only _ _).among (by decide)) (.refl _ _)) (by decide)

theorem State.outputsTestEnd_only (s : State) : Only [.regs, .outs, .setAt, .setNow] s (s.outputsTestEnd) := by
  unfold State.outputsTestEnd
  dsimp only
  refine .fold (fun _ _ => ?_) ?_
  · refine .ite ?_ ?_
    · refine .ite ?_ ?_
      · exact ((State.settle_only _ _).after (State.setOut_only _ _ _)).among (by decide)
      · exact ((State.loseLock_only _ _).after ((State.settle_only _ _).after (State.setOut_only _ _ _))).among (by decide)
    · exact .refl _ _
  · exact .refl _ _

theorem State.wheelMoved_only (s : State) (w : Fin 4) (old : Sync) : Only [.regs, .link, .setAt, .setNow] s (s.wheelMoved w old) := by
  unfold State.wheelMoved
  dsimp only
  refine .ite ?_ ?_
  · exact .refl _ _
  · refine .ite ?_ ?_
    · exact .ite ((State.satInc_only _ _ _ _).among (by decide)) (.ite ((State.satInc_only _ _ _ _).among (by decide)) (.refl _ _))
    · exact (State.notice_only _ _ _).step (.ite ((State.satInc_only _ _ _ _).among (by decide)) (.ite
        ((State.satInc_only _ _ _ _).among (by decide)) (.refl _ _))) (by decide)

theorem State.watchZero_only (s : State) (w : Fin 4) (old : WheelSt) : Only [.cfg] s (s.watchZero w old) := by
  unfold State.watchZero
  dsimp only
  exact .ite (Only.set_cfg _ _) (.refl _ _)

theorem State.setWheel_only (s : State) (n : Fin 4) (w : WheelSt) : Only [.wheels] s (s.setWheel n w) := by
  unfold State.setWheel
  exact Only.set_wheels _ _

theorem State.catchFallback_only (s : State) (w : Fin 4) : Only [.outs] s (s.catchFallback w) := by
  unfold State.catchFallback
  dsimp only
  refine .fold (fun _ _ => ?_) ?_
  · refine .ite ?_ ?_
    · split
      · exact State.setOut_only _ _ _
      · exact .refl _ _
    · exact .refl _ _
  · exact .refl _ _

theorem State.satCount_only (s : State) (a hi lo n : Nat) : Only [.regs, .setAt, .setNow] s (s.satCount a hi lo n) := by
  unfold State.satCount
  dsimp only
  exact ((State.setFld_only _ _ _ _ _).after ((State.setFresh_only _ _ _ _ _).after (State.noteSet_only _ _ _))).among (by decide)

theorem State.phaseDiscard_only (s : State) (k : Fin 2) (n : Nat) : Only [.regs, .setAt, .setNow] s (s.phaseDiscard k n) := by
  unfold State.phaseDiscard
  dsimp only
  exact State.satCount_only _ _ _ _ _

theorem State.setPhase_only (s : State) (k : Fin 2) (p : PhaseSt) : Only [.phases] s (s.setPhase k p) := by
  unfold State.setPhase
  exact Only.set_phases _ _

theorem State.phaseDropWaiting_only (s : State) (k : Fin 2) : Only [.regs, .phases, .setAt, .setNow] s (s.phaseDropWaiting k) := by
  unfold State.phaseDropWaiting
  dsimp only
  exact ((State.phaseDiscard_only _ _ _).after (State.setPhase_only _ _ _)).among (by decide)

theorem State.phaseReset_only (s : State) (k : Fin 2) : Only [.regs, .phases, .setAt, .setNow] s (s.phaseReset k) := by
  unfold State.phaseReset
  dsimp only
  exact ((State.setPhase_only _ _ _).after (State.phaseDropWaiting_only _ _)).among (by decide)

theorem State.phaseLost_only (s : State) (w : Fin 4) : Only [.regs, .phases, .setAt, .setNow] s (s.phaseLost w) := by
  unfold State.phaseLost
  exact .fold (fun _ _ => .ite (State.phaseReset_only _ _) (.refl _ _)) (.refl _ _)

theorem State.moveWheel_only (s : State) (w : Fin 4) (v : WheelSt) :
    Only [.regs, .link, .cfg, .wheels, .phases, .outs, .setAt, .setNow] s (s.moveWheel w v).2 := by
  unfold State.moveWheel
  dsimp only
  refine .ite ?_ ?_
  · exact ((State.phaseLost_only _ _).after ((State.wheelMoved_only _ _ _).after ((State.watchZero_only _ _ _).after
      ((State.setWheel_only _ _ _).after (State.catchFallback_only _ _))))).among (by decide)
  · exact ((State.wheelMoved_only _ _ _).after ((State.watchZero_only _ _ _).after ((State.setWheel_only _ _ _).after
      (State.catchFallback_only _ _)))).among (by decide)

theorem State.compensate_only (s : State) (n : Fin 32) (f : Firing) : Only [.regs, .outs, .setAt, .setNow] s (s.compensate n f) := by
  unfold State.compensate
  dsimp only
  split
  · exact .refl _ _
  · exact ((State.settle_only _ _).after (State.setOut_only _ _ _)).among (by decide)
  · exact ((State.settle_only _ _).after (State.setOut_only _ _ _)).among (by decide)
  · exact ((State.settle_only _ _).after (State.setOut_only _ _ _)).among (by decide)

theorem State.retract_only (s : State) (n : Fin 32) (f : Firing) : Only [.regs, .link, .outs, .setAt, .setNow] s (s.retract n f) := by
  unfold State.retract
  dsimp only
  exact ((State.noticeRetract_only _ _).after ((State.setReg_only _ _ _).after ((State.putFld_only _ _ _ _ _).after
      ((State.orReg_only _ _ _).after (State.compensate_only _ _ _))))).among (by decide)

theorem State.retractAll_only (s : State) (n : Fin 32) (l : List Firing) :
    Only [.regs, .link, .outs, .setAt, .setNow] s (s.retractAll n l) := by
  unfold State.retractAll
  exact .fold (fun _ _ => State.retract_only _ _ _) (.refl _ _)

theorem State.boundFirings_only (s : State) (n : Fin 32) (v : Fin 4) (a0 : Word) (t0 t1 w : Nat) (untested : Bool) :
    Only [.regs, .link, .outs, .setAt, .setNow] s (s.boundFirings n v a0 t0 t1 w untested) := by
  unfold State.boundFirings
  dsimp only
  refine (State.retractAll_only _ _ _).step ?_ (by decide)
  refine (State.setOut_only _ _ _).step ?_ (by decide)
  refine .ite ?_ ?_
  · exact .ite (.refl _ _) ((State.satCount_only _ _ _ _ _).among (by decide))
  · exact (State.satCount_only _ _ _ _ _).step (.ite (.refl _ _) ((State.satCount_only _ _ _ _ _).among (by decide))) (by decide)

theorem State.boundOutputs_only (s : State) (w : Fin 4) (a0 : Word) (t0 t1 wd : Nat) (untested : Bool) :
    Only [.regs, .link, .outs, .setAt, .setNow] s (s.boundOutputs w a0 t0 t1 wd untested) := by
  unfold State.boundOutputs
  exact .fold (fun _ _ => State.boundFirings_only _ _ _ _ _ _ _ _) (.refl _ _)

theorem State.retractWheel_only (s : State) (n : Fin 32) (v : Fin 4) :
    Only [.regs, .link, .outs, .setAt, .setNow] s (s.retractWheel n v) := by
  unfold State.retractWheel
  dsimp only
  exact ((State.retractAll_only _ _ _).after (State.setOut_only _ _ _)).among (by decide)

theorem State.regainLock_only (s : State) (n : Fin 32) : Only [.regs, .outs, .setAt, .setNow] s (s.regainLock n) := by
  unfold State.regainLock
  dsimp only
  exact .ite (((State.settle_only _ _).after (State.setOut_only _ _ _)).among (by decide)) (.refl _ _)

theorem State.removeFar_only (s : State) (n : Fin 32) : Only [.regs, .outs, .setAt, .setNow] s (s.removeFar n) := by
  unfold State.removeFar
  dsimp only
  exact .ite (.refl _ _) (((State.satCount_only _ _ _ _ _).after ((State.orReg_only _ _ _).after (State.setOut_only _ _ _))).among (by decide))

theorem State.updateFallback_only (s : State) (n : Fin 32) (edge : Bool) : Only [.outs] s (s.updateFallback n edge) := by
  unfold State.updateFallback
  dsimp only
  exact .ite (.ite (State.setOut_only _ _ _) (.refl _ _)) (State.setOut_only _ _ _)

theorem State.wheelToOutputs_only (s : State) (w : Fin 4) (wasOk edge : Bool) :
    Only [.regs, .link, .outs, .setAt, .setNow] s (s.wheelToOutputs w wasOk edge) := by
  unfold State.wheelToOutputs
  dsimp only
  exact .fold (fun _ _ => ((State.removeFar_only _ _).after (State.updateFallback_only _ _ _)).step (.ite
      ((State.loseLock_only _ _).among (by decide)) ((State.regainLock_only _ _).among (by decide))) (by decide)) (.ite (.fold
      (fun _ _ => State.retractWheel_only _ _ _) (.refl _ _)) (.refl _ _))

theorem State.setSeq_only (s : State) (x : Conv) (inj : Bool) (q : SeqSt) : Only [.regA, .injA, .regB, .injB] s (s.setSeq x inj q) := by
  unfold State.setSeq
  split
  · exact (Only.set_regA _ _).among (by decide)
  · exact (Only.set_injA _ _).among (by decide)
  · exact (Only.set_regB _ _).among (by decide)
  · exact (Only.set_injB _ _).among (by decide)

theorem State.pulseSeq_only (s : State) (p : Pulse) (spec : Bool) (x : Conv) (inj : Bool) :
    Only [.regA, .injA, .regB, .injB] s (s.pulseSeq p spec x inj) := by
  unfold State.pulseSeq
  dsimp only
  exact .ite (State.setSeq_only _ _ _ _) (.refl _ _)

theorem State.setTimer_only (s : State) (n : Fin 16) (t : TimerSt) : Only [.timers] s (s.setTimer n t) := by
  unfold State.setTimer
  exact Only.set_timers _ _

theorem State.pulseTimer_only (s : State) (p : Pulse) (n : Fin 16) : Only [.timers] s (s.pulseTimer p n) := by
  unfold State.pulseTimer
  dsimp only
  exact State.setTimer_only _ _ _

theorem State.pulseDma_only (s : State) (p : Pulse) (n : Fin 16) : Only [.dma] s (s.pulseDma p n) := by
  unfold State.pulseDma
  dsimp only
  exact .ite (State.setCh_only _ _ _) (.refl _ _)

theorem State.raise_only (s : State) (p : Pulse) (spec : Bool) : Only [.timers, .regA, .injA, .regB, .injB, .dma] s (s.raise p spec) := by
  unfold State.raise
  dsimp only
  exact .fold (fun _ _ => (State.pulseDma_only _ _ _).among (by decide)) (.fold (fun _ _ => (State.pulseTimer_only _ _ _).among (by decide))
      (((State.pulseSeq_only _ _ _ _ _).after ((State.pulseSeq_only _ _ _ _ _).after ((State.pulseSeq_only _ _ _ _ _).after
      (State.pulseSeq_only _ _ _ _ _)))).among (by decide)))

theorem State.wheelTail_only (s : State) (tail : Option WheelTail) :
    Only [.regs, .link, .outs, .timers, .regA, .injA, .regB, .injB, .dma, .setAt, .setNow] s (s.wheelTail tail) := by
  unfold State.wheelTail
  dsimp only
  split
  · exact .refl _ _
  · refine .ite ?_ ?_
    · refine (State.raise_only _ _ _).step ?_ (by decide)
      refine (State.wheelToOutputs_only _ _ _ _).step ?_ (by decide)
      split
      · exact (State.boundOutputs_only _ _ _ _ _ _ _).among (by decide)
      · exact .refl _ _
    · refine (State.wheelToOutputs_only _ _ _ _).step ?_ (by decide)
      split
      · exact (State.boundOutputs_only _ _ _ _ _ _ _).among (by decide)
      · exact .refl _ _

theorem State.changeWheel_only (s : State) (w : Fin 4) (v : WheelSt) :
    Only edgeParts
      s (s.changeWheel w v) := by
  unfold State.changeWheel
  dsimp only
  exact ((State.wheelTail_only _ _).after (State.moveWheel_only _ _ _)).among (by decide)

theorem State.wheelsSilent_only (s : State) :
    Only edgeParts s (s.wheelsSilent) := by
  unfold State.wheelsSilent
  dsimp only
  exact .fold (fun _ _ => State.changeWheel_only _ _ _) (.refl _ _)

theorem State.angleTestStop_only (s : State) (t : SelfTest) :
    Only edgeParts
      s (s.angleTestStop t) := by
  unfold State.angleTestStop
  dsimp only
  exact ((State.outputsTestEnd_only _).after ((State.wheelsSilent_only _).after (Only.set_cfg _ _))).among (by decide)

theorem State.angleTestEnd_only (s : State) (pass : Bool) (detail : Word) :
    Only edgeParts
      s (s.angleTestEnd pass detail) := by
  unfold State.angleTestEnd
  split
  · exact ((State.notice_only _ _ _).after (State.angleTestStop_only _ _)).among (by decide)
  · exact .refl _ _

theorem State.outputsTest_only (s : State) : Only [.regs, .outs, .setAt, .setNow] s (s.outputsTest) := by
  unfold State.outputsTest
  exact .fold (fun _ _ => State.beginHold_only _ _ _) (.refl _ _)

theorem State.phaseResetAll_only (s : State) : Only [.regs, .phases, .setAt, .setNow] s (s.phaseResetAll) := by
  unfold State.phaseResetAll
  exact .fold (fun _ _ => State.phaseReset_only _ _) (.refl _ _)

theorem State.angleTestStart_only (s : State) : Only [.regs, .cfg, .phases, .outs, .setAt, .setNow] s (s.angleTestStart) := by
  unfold State.angleTestStart
  dsimp only
  split
  · exact .ite (((State.outputsTest_only _).after ((State.phaseResetAll_only _).after (Only.set_cfg _ _))).among (by decide)) (.refl _ _)
  · exact .refl _ _

theorem State.endTxn_only (s : State) (cause addr : Nat) : Only [.cfg] s (s.endTxn cause addr) := by
  unfold State.endTxn
  dsimp only
  exact Only.set_cfg _ _

theorem State.endTxnNotice_only (s : State) (cause addr outcome : Nat) :
    Only [.regs, .link, .cfg, .setAt, .setNow] s (s.endTxnNotice cause addr outcome) := by
  unfold State.endTxnNotice
  exact ((State.notice_only _ _ _).after (State.endTxn_only _ _ _)).among (by decide)

theorem State.setPower_only (s : State) (p : PowerSt) : Only [.power] s (s.setPower p) := by
  unfold State.setPower
  exact Only.set_power _ _

theorem State.setResult_only (s : State) (code : Nat) : Only [.power] s (s.setResult code) := by
  unfold State.setResult
  dsimp only
  exact State.setPower_only _ _

theorem State.powerRequest_only (s : State) (ship keyOk : Bool) : Only [.power] s (s.powerRequest ship keyOk) := by
  unfold State.powerRequest
  dsimp only
  refine .ite ?_ ?_
  · split
    · exact State.setResult_only _ _
    · exact ((State.setPower_only _ _).after (State.setResult_only _ _)).among (by decide)
  · exact .refl _ _

theorem State.setBat_only (s : State) (b : BatSt) : Only [.bat] s (s.setBat b) := by
  unfold State.setBat
  exact Only.set_bat _ _

theorem State.autoship_only (s : State) : Only [.power, .bat] s (s.autoship) := by
  unfold State.autoship
  dsimp only
  exact .ite (((State.powerRequest_only _ _ _).after (State.setBat_only _ _)).among (by decide)) (.refl _ _)

theorem State.refuse_only (s : State) (status : Nat) (detail : optParam Nat 0) : Only [] s (s.refuse status detail).next := by
  unfold State.refuse
  exact .refl _ _

theorem State.setLock_only (s : State) (l : LockSt) : Only [.lock] s (s.setLock l) := by
  unfold State.setLock
  exact Only.set_lock _ _

theorem State.restartFilter_only (s : State) (i : Fin 6) : Only [.rind] s (s.restartFilter i) := by
  unfold State.restartFilter
  dsimp only
  exact State.setRind_only _ _

theorem State.restartFilters_only (s : State) : Only [.rind] s (s.restartFilters) := by
  unfold State.restartFilters
  exact .fold (fun _ _ => State.restartFilter_only _ _) (.refl _ _)

theorem State.lockReset_only (s : State) : Only [.regs, .lock, .setAt, .setNow] s (s.lockReset) := by
  unfold State.lockReset
  dsimp only
  exact .ite (((State.orReg_only _ _ _).after (State.setLock_only _ _)).among (by decide))
      ((State.setLock_only _ _).among (by decide))

theorem State.erasePages_only (s : State) (b : Nat) : Only [.pages] s (s.erasePages b) := by
  unfold State.erasePages
  exact Only.set_pages _ _

theorem State.drawFree_only (s : State) : Only [.free] s (s.drawFree.2) := by
  unfold State.drawFree
  exact Only.set_free _ _

theorem State.setCopy_only (s : State) (m : Master) (c : MasterCopy) : Only [.copyLink, .copyDma] s (s.setCopy m c) := by
  unfold State.setCopy
  split
  · exact (Only.set_copyLink _ _).among (by decide)
  · exact (Only.set_copyDma _ _).among (by decide)

theorem State.clrReg_only (s : State) (a m : Nat) : Only [.regs] s (s.clrReg a m) := by
  unfold State.clrReg
  exact State.setReg_only _ _ _

theorem State.setSramByte_only (s : State) (a : Nat) (b : Byte) : Only [.sram] s (s.setSramByte a b) := by
  unfold State.setSramByte
  exact Only.set_sram _ _

theorem State.setSramBytes_only (s : State) (a : Nat) (x2 : List Byte) : Only [.sram] s (s.setSramBytes a x2) := by
  unfold State.setSramBytes
  split
  · exact .refl _ _
  · exact ((State.setSramBytes_only _ _ _).after (State.setSramByte_only _ _ _)).among (by decide)

theorem State.setSramWord_only (s : State) (a : Nat) (w : Word) : Only [.sram] s (s.setSramWord a w) := by
  unfold State.setSramWord
  exact State.setSramBytes_only _ _ _

theorem State.firstRequest_only (s : State) (x : Conv) (inj : Bool) (c : Nat) :
    Only [.regA, .injA, .regB, .injB] s (s.firstRequest x inj c) := by
  unfold State.firstRequest
  dsimp only
  exact State.setSeq_only _ _ _ _

theorem State.abortJobs_only (s : State) (c : Nat) (x : Conv) : Only [.adcA, .adcB] s (s.abortJobs c x) := by
  unfold State.abortJobs
  dsimp only
  exact State.setAdc_only _ _ _

theorem State.seqFlag_only (s : State) (x : Conv) (i : Nat) : Only [.regs, .setAt, .setNow] s (s.seqFlag x i) := by
  unfold State.seqFlag
  dsimp only
  split
  · exact ((State.satInc_only _ _ _ _).after (State.orReg_only _ _ _)).among (by decide)
  · exact ((State.satInc_only _ _ _ _).after (State.orReg_only _ _ _)).among (by decide)
  · exact ((State.satInc_only _ _ _ _).after (State.orReg_only _ _ _)).among (by decide)
  · exact ((State.satInc_only _ _ _ _).after (State.orReg_only _ _ _)).among (by decide)
  · exact State.orReg_only _ _ _

theorem State.seqFlags_only (s : State) (l : List Conv) (i : Nat) : Only [.regs, .setAt, .setNow] s (s.seqFlags l i) := by
  unfold State.seqFlags
  exact .fold (fun _ _ => State.seqFlag_only _ _ _) (.refl _ _)

theorem State.preempt_only (s : State) (c : Nat) (x : Conv) :
    Only [.regs, .adcA, .adcB, .regA, .injA, .regB, .injB, .setAt, .setNow] s (s.preempt c x) := by
  unfold State.preempt
  dsimp only
  exact .ite (((State.seqFlags_only _ _ _).after (State.setSeq_only _ _ _ _)).step (.fold (fun _ _ =>
      (State.abortJobs_only _ _ _).among (by decide)) (.refl _ _)) (by decide)) (.refl _ _)

theorem State.acceptInj_only (s : State) (x : Conv) (c : Nat) (spec : Bool) :
    Only [.regs, .adcA, .adcB, .regA, .injA, .regB, .injB, .setAt, .setNow] s (s.acceptInj x c spec) := by
  unfold State.acceptInj
  dsimp only
  refine .ite ?_ ?_
  · exact .fold (fun _ _ => State.preempt_only _ _ _) (((State.firstRequest_only _ _ _ _).after (State.setSeq_only _ _ _ _)).among (by decide))
  · exact (State.seqFlags_only _ _ _).among (by decide)

theorem State.acceptReg_only (s : State) (x : Conv) (c : Nat) (spec : Bool) :
    Only [.regs, .adcA, .adcB, .regA, .injA, .regB, .injB, .setAt, .setNow] s (s.acceptReg x c spec) := by
  unfold State.acceptReg
  dsimp only
  split
  · refine .ite ?_ ?_
    · exact ((State.preempt_only _ _ _).after ((State.firstRequest_only _ _ _ _).after (State.setSeq_only _ _ _ _))).among (by decide)
    · exact ((State.firstRequest_only _ _ _ _).after (State.setSeq_only _ _ _ _)).among (by decide)
  · refine .ite ?_ ?_
    · exact .refl _ _
    · refine .ite ?_ ?_
      · exact ((State.preempt_only _ _ _).after ((State.firstRequest_only _ _ _ _).after (State.setSeq_only _ _ _ _))).among (by decide)
      · exact .ite ((State.setSeq_only _ _ _ _).among (by decide)) (((State.firstRequest_only _ _ _ _).after
          (State.setSeq_only _ _ _ _)).among (by decide))
  · exact (State.seqFlags_only _ _ _).among (by decide)

theorem State.sequenceTrigger_only (s : State) (x : Conv) (inj : Bool) :
    Only [.regs, .adcA, .adcB, .regA, .injA, .regB, .injB, .setAt, .setNow] s (s.sequenceTrigger x inj) := by
  unfold State.sequenceTrigger
  dsimp only
  split
  · exact .refl _ _
  · refine .ite ?_ ?_
    · exact (State.setSeq_only _ _ _ _).among (by decide)
    · exact .ite (((State.acceptInj_only _ _ _ _).after (State.setSeq_only _ _ _ _)).among (by decide))
        ((State.acceptReg_only _ _ _ _).step
        ((State.setSeq_only _ _ _ _).among (by decide)) (by decide))

theorem State.earlierTriggers_only (s : State) :
    Only [.regs, .adcA, .adcB, .regA, .injA, .regB, .injB, .setAt, .setNow] s (s.earlierTriggers) := by
  unfold State.earlierTriggers
  dsimp only
  refine .fold (fun _ _ => ?_) ?_
  · exact (State.setSeq_only _ _ _ _).among (by decide)
  · refine .fold (fun _ _ => ?_) ?_
    · split
      · exact State.sequenceTrigger_only _ _ _
      · exact .refl _ _
    · exact .refl _ _

theorem State.snapCopy_only (s : State) (t : Nat) : Only [.regs] s (s.snapCopy t) := by
  unfold State.snapCopy
  exact .fold (fun _ _ => State.setReg_only _ _ _) (State.setReg_only _ _ _)

theorem State.takeSnaps_only (s : State) (c : Nat) : Only [.regs, .snapAt] s (s.takeSnaps c) := by
  unfold State.takeSnaps
  exact .fold (fun _ _ => (State.snapCopy_only _ _).among (by decide)) ((Only.set_snapAt _ _).among (by decide))

theorem State.setLfQueue_only (s : State) (b : LfBlock) (l : List LfWrite) : Only [.power] s (s.setLfQueue b l) := by
  unfold State.setLfQueue
  dsimp only
  split
  · exact State.setPower_only _ _
  · exact State.setPower_only _ _
  · exact State.setPower_only _ _

theorem State.pushLf_only (s : State) (w : LfWrite) : Only [.power] s (s.pushLf w) := by
  unfold State.pushLf
  dsimp only
  exact State.setLfQueue_only _ _ _

theorem State.commitWord_only (s : State) (a : Nat) (v : Word) : Only [.regs, .power] s (s.commitWord a v) := by
  unfold State.commitWord
  dsimp only
  exact .ite ((State.pushLf_only _ _).among (by decide)) ((State.setReg_only _ _ _).among (by decide))

theorem State.setFus_only (s : State) (f : FusSt) : Only [.fus] s (s.setFus f) := by
  unfold State.setFus
  exact Only.set_fus _ _

theorem State.gridMode_only (s : State) : Only [.fus] s (s.gridMode) := by
  unfold State.gridMode
  dsimp only
  exact .ite (.ite (State.setFus_only _ _) (.refl _ _)) (.ite (State.setFus_only _ _) (.refl _ _))

theorem State.coverMask_only (s : State) : Only [.fus] s (s.coverMask) := by
  unfold State.coverMask
  dsimp only
  exact State.setFus_only _ _

theorem State.fusWheel_only (before s : State) (w : Fin 4) : Only [.fus] s (State.fusWheel before s w) := by
  unfold State.fusWheel
  dsimp only
  exact .ite (((State.gridMode_only _).after (State.coverMask_only _)).step (.ite (State.setFus_only _ _) (.refl _ _)) (by decide)) (.refl _ _)

theorem State.commitWheel_only (s : State) (o c : Nat → Word) (changed : List Nat) (w : Fin 4) :
    Only wheelParts
      s (s.commitWheel o c changed w) := by
  unfold State.commitWheel
  extract_lets a s1 bound v _ s2 _ s3 _ s4 s5
  have hs1 : Only wheelParts s s1 := .ite (.refl _ _) ((State.setWheel_only _ _ _).among (by decide))
  have hs2 : Only wheelParts s s2 := .ite (((State.changeWheel_only _ _ _).after hs1).among (by decide)) hs1
  have hs3 : Only wheelParts s s3 := .ite hs2 (((State.setWheel_only _ _ _).after hs2).among (by decide))
  have hs4 : Only wheelParts s s4 := .ite hs3 (((State.setWheel_only _ _ _).after hs3).among (by decide))
  have hs5 : Only wheelParts s s5 := .ite hs4 (((State.setWheel_only _ _ _).after hs4).among (by decide))
  exact .ite (((State.fusWheel_only _ _ _).after hs5).among (by decide)) hs5

theorem State.commitPhase_only (s : State) (words : List Nat) (k : Fin 2) :
    Only [.regs, .phases, .setAt, .setNow] s (s.commitPhase words k) := by
  unfold State.commitPhase
  exact .ite (State.phaseReset_only _ _) (.refl _ _)

theorem State.endChop_only (s : State) (n : Fin 32) : Only [.regs, .outs, .setAt, .setNow] s (s.endChop n) := by
  unfold State.endChop
  dsimp only
  exact ((State.settle_only _ _).after (State.setOut_only _ _ _)).among (by decide)

theorem State.startChop_only (s : State) (n : Fin 32) : Only [.regs, .outs, .setAt, .setNow] s (s.startChop n) := by
  unfold State.startChop
  dsimp only
  exact .ite (.refl _ _) (((State.settle_only _ _).after ((State.setOut_only _ _ _).after (State.orReg_only _ _ _))).among (by decide))

theorem State.chopTimedEnd_only (s : State) (n : Fin 32) : Only [.regs, .outs, .setAt, .setNow] s (s.chopTimedEnd n) := by
  unfold State.chopTimedEnd
  dsimp only
  exact .ite (State.endChop_only _ _) (.refl _ _)

theorem State.updateChop_only (s : State) (n : Fin 32) : Only [.regs, .outs, .setAt, .setNow] s (s.updateChop n) := by
  unfold State.updateChop
  dsimp only
  refine .ite ?_ ?_
  · exact .ite (State.endChop_only _ _) (.refl _ _)
  · exact .ite (.ite (State.startChop_only _ _) (.ite (State.endChop_only _ _) (.refl _ _))) (State.chopTimedEnd_only _ _)

theorem State.freeFallback_only (s : State) (n : Fin 32) (moved : Bool) : Only [.outs] s (s.freeFallback n moved) := by
  unfold State.freeFallback
  dsimp only
  exact .ite (State.setOut_only _ _ _) (.refl _ _)

theorem State.settleAll_only (s : State) : Only [.regs, .outs, .setAt, .setNow] s (s.settleAll) := by
  unfold State.settleAll
  exact .fold (fun _ _ => State.settlePair_only _ _) (.refl _ _)

theorem State.commitTimer_only (s : State) (o c : Nat → Word) (n : Fin 16) : Only [.timers] s (s.commitTimer o c n) := by
  unfold State.commitTimer
  dsimp only
  exact State.setTimer_only _ _ _

theorem State.retable_only (s : State) (x : Conv) (inj : Bool) : Only [.regA, .injA, .regB, .injB] s (s.retable x inj) := by
  unfold State.retable
  dsimp only
  split
  · split
    · exact .ite (State.setSeq_only _ _ _ _) (State.setSeq_only _ _ _ _)
    · exact .refl _ _
  · exact .refl _ _

theorem State.setCmp_only (s : State) (c : Fin 16) (v : CmpSt) : Only [.adcA, .adcB] s (s.setCmp c v) := by
  unfold State.setCmp
  dsimp only
  exact .ite ((Only.set_adcA _ _).among (by decide)) ((Only.set_adcB _ _).among (by decide))

theorem State.chopLeave_only (s : State) (n : Fin 32) (cmp : Nat) : Only [.regs, .outs, .setAt, .setNow] s (s.chopLeave n cmp) := by
  unfold State.chopLeave
  dsimp only
  exact .ite (.ite (State.endChop_only _ _) (.ite (State.endChop_only _ _) (.refl _ _))) (.refl _ _)

theorem State.restartCmp_only (s : State) (c : Fin 16) : Only [.regs, .outs, .adcA, .adcB, .setAt, .setNow] s (s.restartCmp c) := by
  unfold State.restartCmp
  dsimp only
  exact .ite (.fold (fun _ _ => (State.chopLeave_only _ _ _).among (by decide)) ((State.setCmp_only _ _ _).among (by decide)))
      ((State.setCmp_only _ _ _).among (by decide))

theorem State.commitCmp_only (s : State) (o c : Nat → Word) (k : Fin 16) :
    Only [.regs, .outs, .adcA, .adcB, .setAt, .setNow] s (s.commitCmp o c k) := by
  unfold State.commitCmp
  dsimp only
  exact .ite (State.restartCmp_only _ _) (.ite (.refl _ _) ((State.setCmp_only _ _ _).among (by decide)))

theorem State.tlbDropCtx_only (s : State) (k : Nat) : Only [.dma] s (s.tlbDropCtx k) := by
  unfold State.tlbDropCtx
  dsimp only
  exact Only.set_dma _ _

theorem State.resetCh_only (s : State) (n : Fin 16) (st : ChState) (a : List Nat) : Only [.dma] s (s.resetCh n st a) := by
  unfold State.resetCh
  dsimp only
  exact State.setCh_only _ _ _

theorem State.startCh_only (s : State) (n : Fin 16) : Only [.dma] s (s.startCh n) := by
  unfold State.startCh
  exact State.resetCh_only _ _ _ _

theorem State.idleCh_only (s : State) (n : Fin 16) : Only [.dma] s (s.idleCh n) := by
  unfold State.idleCh
  exact State.resetCh_only _ _ _ _

theorem State.stopAt_only (s : State) (n : Fin 16) (k : AfterBeat) : Only [.dma] s (s.stopAt n k) := by
  unfold State.stopAt
  dsimp only
  exact .ite (State.setCh_only _ _ _) (.ite (State.startCh_only _ _) (State.idleCh_only _ _))

theorem State.stopCh_only (s : State) (n : Fin 16) : Only [.dma] s (s.stopCh n) := by
  unfold State.stopCh
  exact State.stopAt_only _ _ _

theorem State.commitDma_only (s : State) (o c : Nat → Word) : Only [.dma] s (s.commitDma o c) := by
  unfold State.commitDma
  dsimp only
  exact .fold (fun _ _ => .ite (State.stopCh_only _ _) (.refl _ _)) (.fold (fun _ _ => .ite (.refl _ _) (State.tlbDropCtx_only _ _))
      (.refl _ _))

theorem State.commitBattery_only (s : State) (o c : Nat → Word) : Only [.bat] s (s.commitBattery o c) := by
  unfold State.commitBattery
  dsimp only
  refine .ite ?_ ?_
  · exact (State.setBat_only _ _).step (.ite ((State.setBat_only _ _).step (.ite (State.setBat_only _ _) (.refl _ _)) (by decide)) (.ite
      (State.setBat_only _ _) (.refl _ _))) (by decide)
  · exact .ite ((State.setBat_only _ _).step (.ite (State.setBat_only _ _) (.refl _ _)) (by decide)) (.ite (State.setBat_only _ _) (.refl _ _))

theorem State.commitFusion_only (s : State) (changed : List (Nat × Word)) : Only [.fus] s (s.commitFusion changed) := by
  unfold State.commitFusion
  dsimp only
  exact .ite (State.setFus_only _ _) (.refl _ _)

theorem State.notifyOnce_only (s : State) (bit cause unit : Nat) :
    Only [.regs, .nand, .cave, .health, .setAt, .setNow] s (s.notifyOnce bit cause unit) := by
  unfold State.notifyOnce
  dsimp only
  exact .ite (.refl _ _) (((State.writeHealth_only _).after ((State.replaceNotice_only _ _ _).after (Only.set_health _ _))).among (by decide))

theorem State.unnotify_only (s : State) (bit : Nat) : Only [.regs, .nand, .cave, .health, .setAt, .setNow] s (s.unnotify bit) := by
  unfold State.unnotify
  dsimp only
  exact .ite (((State.writeHealth_only _).after (Only.set_health _ _)).among (by decide)) (.refl _ _)

theorem State.healthLife_only (s : State) : Only [.regs, .nand, .cave, .health, .setAt, .setNow] s (s.healthLife) := by
  unfold State.healthLife
  dsimp only
  refine (Only.set_health _ _).step ?_ (by decide)
  refine .ite ?_ ?_
  · exact (State.advise_only _ _ _).step (.ite (((State.notifyOnce_only _ _ _ _).after (Only.set_health _ _)).among (by decide)) (.ite
      (((State.unnotify_only _ _).after (Only.set_health _ _)).among (by decide)) (.refl _ _))) (by decide)
  · exact .ite (((State.notifyOnce_only _ _ _ _).after (Only.set_health _ _)).among (by decide)) (.ite (((State.unnotify_only _ _).after
      (Only.set_health _ _)).among (by decide)) (.refl _ _))

theorem State.commitBlocks_only (s : State) (o c : Nat → Word) (words changed : List Nat) :
    Only commitParts s (s.commitBlocks o c words changed) := by
  unfold State.commitBlocks
  extract_lets touches s0 s1 _ s2 s3 s35 s4 s5 s6 s7 _ s8 s9
  have hs0 : Only commitParts s s0 := .ite (.fold (fun _ _ => (State.commitWheel_only _ _ _ _ _).among (by decide)) (.refl _ _)) (.refl _ _)
  have hs1 : Only commitParts s s1 := .fold (fun _ _ => (State.commitPhase_only _ _ _).among (by decide)) hs0
  have hs2 : Only commitParts s s2 := by
    refine .ite ?_ ?_
    · exact (State.settleAll_only _).step (.fold (fun _ _ => ((State.updateChop_only _ _).after ((State.regainLock_only _ _).after
        ((State.updateFallback_only _ _ _).after (State.freeFallback_only _ _ _)))).among (by decide)) hs1) (by decide)
    · exact hs1
  have hs3 : Only commitParts s s3 := .ite (.fold (fun _ _ => (State.commitTimer_only _ _ _ _).among (by decide)) hs2) hs2
  have hs35 : Only commitParts s s35 := .ite (.fold (fun _ _ => (State.retable_only _ _ _).among (by decide)) hs3) hs3
  have hs4 : Only commitParts s s4 := .ite (.fold (fun _ _ => (State.commitCmp_only _ _ _ _).among (by decide)) hs35) hs35
  have hs5 : Only commitParts s s5 := .ite (((State.commitDma_only _ _ _).after hs4).among (by decide)) hs4
  have hs6 : Only commitParts s s6 := .ite (((State.commitBattery_only _ _ _).after hs5).among (by decide)) hs5
  have hs7 : Only commitParts s s7 := .ite (((State.commitFusion_only _ _).after hs6).among (by decide)) hs6
  have hs8 : Only commitParts s s8 := .ite (((Only.set_nand _ (by rfl)).after hs7).among (by decide)) hs7
  have hs9 : Only commitParts s s9 := .ite (((State.healthLife_only _).after hs8).among (by decide)) hs8
  exact .ite (((Only.set_link _ _).after hs9).among (by decide)) hs9

theorem State.commitHolds_only (s : State) (last : Bool) (named : Nat) :
    Only [.regs, .cfg, .outs, .setAt, .setNow] s (s.commitHolds last named) := by
  unfold State.commitHolds
  dsimp only
  refine .ite ?_ ?_
  · refine .fold (fun _ _ => ?_) ?_
    · exact .ite (((State.settle_only _ _).after (Only.set_cfg _ _)).among (by decide)) (.refl _ _)
    · refine .ite ?_ ?_
      · exact .fold (fun _ _ => .ite (((State.beginHold_only _ _ _).after ((State.flushQueue_only _ _).after
          (Only.set_cfg _ _))).among (by decide)) (.refl _ _)) (.refl _ _)
      · exact .refl _ _
  · refine .ite ?_ ?_
    · exact .fold (fun _ _ => .ite (((State.beginHold_only _ _ _).after ((State.flushQueue_only _ _).after
        (Only.set_cfg _ _))).among (by decide)) (.refl _ _)) (.refl _ _)
    · exact .refl _ _

theorem State.restartCh_only (s : State) (n : Fin 16) : Only [.dma] s (s.restartCh n) := by
  unfold State.restartCh
  exact State.stopAt_only _ _ _

theorem State.dropCh_only (s : State) (n : Fin 16) : Only [.dma] s (s.dropCh n) := by
  unfold State.dropCh
  exact State.stopAt_only _ _ _

theorem State.commitChannels_only (s : State) (last : Bool) (changed named : Nat) :
    Only [.cfg, .dma] s (s.commitChannels last changed named) := by
  unfold State.commitChannels
  dsimp only
  refine .fold (fun _ _ => ?_) ?_
  · refine .ite ?_ ?_
    · exact .ite (((State.restartCh_only _ _).after (Only.set_cfg _ _)).among (by decide)) (.refl _ _)
    · exact .ite (((State.dropCh_only _ _).after (Only.set_cfg _ _)).among (by decide)) (.refl _ _)
  · exact .refl _ _

theorem State.applyShadow_only (s : State) (last : Bool) :
    Only pointParts s (s.applyShadow last) := by
  unfold State.applyShadow
  dsimp only
  refine (Only.set_cfg _ _).step ?_ (by decide)
  refine (State.commitHolds_only _ _ _).step ?_ (by decide)
  refine (State.commitChannels_only _ _ _ _).step ?_ (by decide)
  refine (State.commitBlocks_only _ _ _ _ _).step ?_ (by decide)
  refine .fold (fun _ _ => ?_) ?_
  · exact (State.commitWord_only _ _ _).among (by decide)
  · refine .ite ?_ ?_
    · exact .fold (fun _ _ => (State.catchFallback_only _ _).among (by decide)) (.ite (.ite
        ((State.earlierTriggers_only _).among (by decide)) (.refl _ _)) ((State.takeSnaps_only _ _).step (.ite
        ((State.earlierTriggers_only _).among (by decide)) (.refl _ _)) (by decide)))
    · exact .ite (.ite ((State.earlierTriggers_only _).among (by decide)) (.refl _ _)) ((State.takeSnaps_only _ _).step (.ite
        ((State.earlierTriggers_only _).among (by decide)) (.refl _ _)) (by decide))

theorem State.armTxn_only (s : State) (last : Bool) : Only [.cfg] s (s.armTxn last) := by
  unfold State.armTxn
  dsimp only
  exact Only.set_cfg _ _

theorem State.sendSignal_only (s : State) (n sig : Fin 16) (spec : Bool) :
    Only [.regs, .dma, .setAt, .setNow] s (s.sendSignal n sig spec) := by
  unfold State.sendSignal
  dsimp only
  refine .ite ?_ ?_
  · exact (State.setCh_only _ _ _).step (.ite (((State.orReg_only _ _ _).after (State.setCh_only _ _ _)).among (by decide))
      ((State.setCh_only _ _ _).among (by decide))) (by decide)
  · exact .ite (((State.orReg_only _ _ _).after (State.setCh_only _ _ _)).among (by decide))
      ((State.setCh_only _ _ _).among (by decide))

theorem State.writeFields_only (s : State) (a : Nat) (w : Word) : Only [.regs] s (s.writeFields a w) := by
  unfold State.writeFields
  dsimp only
  split
  · exact .refl _ _
  · exact State.setReg_only _ _ _

theorem State.setLife_only (s : State) (l : LifeSt) : Only [.life] s (s.setLife l) := by
  unfold State.setLife
  exact Only.set_life _ _

theorem State.flushQueues_only (s : State) (m : Nat) : Only [.outs] s (s.flushQueues m) := by
  unfold State.flushQueues
  exact .fold (fun _ _ => .ite (State.flushQueue_only _ _) (.refl _ _)) (.refl _ _)

theorem State.gstart_only (s : State) (m c : Nat) : Only [.timers] s (s.gstart m c) := by
  unfold State.gstart
  dsimp only
  exact .fold (fun _ _ => .ite (State.setTimer_only _ _ _) (.refl _ _)) (.refl _ _)

theorem State.swCapture_only (s : State) (m : Nat) : Only [.timers] s (s.swCapture m) := by
  unfold State.swCapture
  dsimp only
  exact .fold (fun _ _ => .ite (State.setTimer_only _ _ _) (.refl _ _)) (.refl _ _)

theorem State.writePack_only (s : State) (index : Nat) (r : PackRec) :
    Only [.regs, .nand, .cave, .setAt, .setNow] s (s.writePack index r) := by
  unfold State.writePack
  exact .ite (.ite ((State.recordWrite_only _ _ _ _ _).among (by decide)) ((State.recordWrite_only _ _ _ _ _).among (by decide)))
      ((State.orReg_only _ _ _).among (by decide))

theorem State.checkpoint_only (s : State) : Only [.regs, .nand, .cave, .bat, .setAt, .setNow] s (s.checkpoint) := by
  unfold State.checkpoint
  dsimp only
  split
  · exact ((State.writePack_only _ _ _).after (State.setBat_only _ _)).among (by decide)
  · exact .refl _ _

theorem State.batLog_only (s : State) (event index id : Nat) (data : List Byte) :
    Only [.regs, .nand, .cave, .setAt, .setNow] s (s.batLog event index id data) := by
  unfold State.batLog
  exact State.logEntry_only _ _ _ _

theorem State.setAnchor_only (s : State) (kind sa : Nat) : Only [.regs, .nand, .cave, .bat, .setAt, .setNow] s (s.setAnchor kind sa) := by
  unfold State.setAnchor
  dsimp only
  split
  · exact ((State.checkpoint_only _).after (State.batLog_only _ _ _ _ _)).step (.ite (((State.orReg_only _ _ _).after
      (State.setBat_only _ _)).among (by decide)) ((State.setBat_only _ _).among (by decide))) (by decide)
  · exact .refl _ _

theorem State.extendJob_only (s : State) (kind : JobKind) (prio : Nat) (ops : List NandOp) :
    Only [.nand] s (s.extendJob kind prio ops) := by
  unfold State.extendJob
  dsimp only
  exact .ite (((State.nandPick_only _).after (Only.set_nand _ (by rfl))).among (by decide)) (State.addJob_only _ _ _ _)

theorem State.writeCtab_only (s : State) : Only [.nand, .cave] s (s.writeCtab) := by
  unfold State.writeCtab
  dsimp only
  refine .ite ?_ ?_
  · exact ((State.extendJob_only _ _ _ _).after (Only.set_cave _ _)).among (by decide)
  · split
    · exact ((State.extendJob_only _ _ _ _).after (Only.set_cave _ _)).among (by decide)
    · exact .refl _ _

theorem State.closeCell_only (s : State) (newest : Nat) (dir : Dir) : Only [.regs, .fus, .setAt, .setNow] s (s.closeCell newest dir) := by
  unfold State.closeCell
  dsimp only
  split
  · exact ((State.setFus_only _ _).after (State.setFus_only _ _)).among (by decide)
  · exact ((State.setFus_only _ _).after (State.setFus_only _ _)).among (by decide)
  · exact ((State.satInc_only _ _ _ _).after ((State.setFus_only _ _).after (State.setFus_only _ _))).among (by decide)

theorem State.cellClose_only (s : State) : Only [.regs, .fus, .setAt, .setNow] s (s.cellClose) := by
  have grid : Only [.regs, .fus, .setAt, .setNow] s s.gridMode := (State.gridMode_only _).among (by decide)
  unfold State.cellClose
  dsimp only
  refine .ite (.ite (.ite ?_ grid) (.ite grid ?_)) (.refl _ _)
  · exact ((State.closeCell_only _ _ _).after ((State.setFus_only _ _).after grid)).among (by decide)
  · exact ((State.closeCell_only _ _ _).after ((State.setFus_only _ _).after grid)).among (by decide)

theorem State.setEntry_only (s : State) (e : Option Entry) : Only [.power] s (s.setEntry e) := by
  unfold State.setEntry
  dsimp only
  exact State.setPower_only _ _

theorem State.powerNotice_only (s : State) (event sources periods : Nat) :
    Only [.regs, .link, .setAt, .setNow] s (s.powerNotice event sources periods) := by
  unfold State.powerNotice
  exact State.notice_only _ _ _

theorem State.endEntry_only (s : State) (e : Entry) (result sources : Nat) :
    Only [.regs, .power, .link, .setAt, .setNow] s (s.endEntry e result sources) := by
  unfold State.endEntry
  dsimp only
  refine .ite ?_ ?_
  · exact ((State.powerNotice_only _ _ _ _).after ((State.setPower_only _ _).after ((State.setResult_only _ _).after
      (State.setEntry_only _ _)))).among (by decide)
  · exact ((State.setPower_only _ _).after ((State.setResult_only _ _).after (State.setEntry_only _ _))).among (by decide)

theorem State.chargerCheck_only (s : State) : Only [.regs, .power, .link, .setAt, .setNow] s (s.chargerCheck) := by
  unfold State.chargerCheck
  split
  · exact .ite (State.endEntry_only _ _ _ _) (.refl _ _)
  · exact .refl _ _

theorem State.issueChallenge_only (s : State) (target : Nat) : Only [.free, .life] s (s.issueChallenge target) := by
  unfold State.issueChallenge
  dsimp only
  exact .lit rfl (fun p hp => by cases p <;> simp at hp <;> rfl) (.refl _ _)

theorem State.dropJobs_only (s : State) (p : JobKind → Bool) : Only [.nand] s (s.dropJobs p) := by
  unfold State.dropJobs
  dsimp only
  exact Only.set_nand _ (by rfl)

theorem State.cmdImgAbort_only (s : State) : Only [.nand, .cave] s (s.cmdImgAbort.next) := by
  unfold State.cmdImgAbort
  dsimp only
  split
  · exact (State.refuse_only _ _ _).among (by decide)
  · exact ((State.nandPick_only _).after ((State.addJob_only _ _ _ _).after ((Only.set_cave _ _).after
      (State.dropJobs_only _ _)))).among (by decide)

theorem State.updProgram_only (s : State) : Only [.nand, .cave] s (s.updProgram) := by
  unfold State.updProgram
  dsimp only
  split
  · refine .ite ?_ ?_
    · exact .refl _ _
    · split
      · exact .refl _ _
      · exact ((State.addJob_only _ _ _ _).after (Only.set_cave _ _)).among (by decide)
  · exact .refl _ _

theorem State.updEraseRest_only (s : State) (u : ImgUpd) : Only [.nand] s (s.updEraseRest u) := by
  unfold State.updEraseRest
  exact .ite (State.addJob_only _ _ _ _) (State.addJob_only _ _ _ _)

theorem State.takeCached_only (s : State) (key : Nat) {r : List Byte × State} (h : s.takeCached key = some r) : Only [.bat] s r.2 := by
  unfold State.takeCached at h
  obtain ⟨p, -, rfl⟩ := Option.map_eq_some_iff.1 h
  exact State.setBat_only _ _

theorem State.cachedRecord_only (s : State) (key : Nat) {r : List Byte × State} (h : s.cachedRecord key = some r) : Only [.bat] s r.2 := by
  unfold State.cachedRecord at h
  cases hx : s.bat.session with
  | none =>
    rw [hx] at h
    exact s.takeCached_only key h
  | some x =>
    rw [hx] at h
    by_cases hi : x.index = key
    · have own := (congrArg (Option.map Prod.snd) ((if_pos hi).symm.trans h) :)
      exact (Option.some.inj own) ▸ Only.refl _ s
    · exact s.takeCached_only key ((if_neg hi).symm.trans h)

theorem State.authFail_only (s : State) : Only [.life] s (s.authFail) := by
  unfold State.authFail
  dsimp only
  exact State.setLife_only _ _

theorem State.abortTxn_only (s : State) : Only [.regs, .link, .cfg, .setAt, .setNow] s (s.abortTxn) := by
  unfold State.abortTxn
  split
  · exact .refl _ _
  · exact (State.endTxn_only _ _ _).among (by decide)
  · exact State.endTxnNotice_only _ _ _ _
  · exact State.endTxnNotice_only _ _ _ _

theorem State.openTxn_only (s : State) (p : CommitPoint) (staged : Bool) : Only [.cfg] s (s.openTxn p staged) := by
  unfold State.openTxn
  dsimp only
  exact Only.set_cfg _ _

theorem State.finishCommit_only (s : State) :
    Only pointParts s (s.finishCommit) := by
  unfold State.finishCommit
  dsimp only
  split
  · exact (State.endTxnNotice_only _ _ _ _).among (by decide)
  · exact ((State.notice_only _ _ _).after ((Only.set_cfg _ _).after (State.applyShadow_only _ _))).among (by decide)

theorem State.commitPoint_only (s : State) :
    Only pointParts s (s.commitPoint) := by
  unfold State.commitPoint
  dsimp only
  exact .ite (.ite ((Only.set_cfg _ _).among (by decide)) (.ite ((Only.set_cfg _ _).among (by decide)) (((State.finishCommit_only _).after
      (Only.set_cfg _ _)).among (by decide)))) (.refl _ _)

theorem State.chopEnter_only (s : State) (n : Fin 32) (cmp : Nat) : Only [.regs, .outs, .setAt, .setNow] s (s.chopEnter n cmp) := by
  unfold State.chopEnter
  dsimp only
  exact .ite (State.startChop_only _ _) (.refl _ _)

theorem State.cmpEnter_only (s : State) (c : Fin 16) :
    Only [.regs, .outs, .timers, .adcA, .adcB, .regA, .injA, .regB, .injB, .dma, .setAt, .setNow] s (s.cmpEnter c) := by
  unfold State.cmpEnter
  dsimp only
  exact .fold (fun _ _ => (State.chopEnter_only _ _ _).among (by decide)) (((State.raise_only _ _ _).after
      ((State.satInc_only _ _ _ _).after ((State.orReg_only _ _ _).after (State.setCmp_only _ _ _)))).among (by decide))

theorem State.removeJob_only (s : State) (x : Conv) (j : ConvJob) : Only [.adcA, .adcB] s (s.removeJob x j) := by
  unfold State.removeJob
  dsimp only
  exact State.setAdc_only _ _ _

theorem State.startEntry_only (s : State) (x : Conv) (inj : Bool) (i c : Nat) :
    Only [.regA, .injA, .regB, .injB] s (s.startEntry x inj i c) := by
  unfold State.startEntry
  dsimp only
  exact .ite (State.setSeq_only _ _ _ _) (State.setSeq_only _ _ _ _)

theorem State.idleSeq_only (s : State) (x : Conv) (inj : Bool) : Only [.regA, .injA, .regB, .injB] s (s.idleSeq x inj) := by
  unfold State.idleSeq
  dsimp only
  exact State.setSeq_only _ _ _ _

theorem State.advanceReg_only (s : State) (x : Conv) (r : SeqReq) (c : Nat) : Only [.regA, .injA, .regB, .injB] s (s.advanceReg x r c) := by
  unfold State.advanceReg
  dsimp only
  split
  · exact State.setSeq_only _ _ _ _
  · refine .ite ?_ ?_
    · exact State.setSeq_only _ _ _ _
    · refine .ite ?_ ?_
      · exact State.startEntry_only _ _ _ _ _
      · refine .ite ?_ ?_
        · exact State.startEntry_only _ _ _ _ _
        · exact .ite (((State.idleSeq_only _ _ _).after (State.setSeq_only _ _ _ _)).among (by decide))
            (((State.startEntry_only _ _ _ _ _).after (State.setSeq_only _ _ _ _)).among (by decide))

theorem State.resumeReg_only (s : State) (x : Conv) (e : Nat) : Only [.regA, .injA, .regB, .injB] s (s.resumeReg x e) := by
  unfold State.resumeReg
  dsimp only
  refine .ite ?_ ?_
  · exact .refl _ _
  · refine .ite ?_ ?_
    · split
      · exact ((State.setSeq_only _ _ _ _).after (State.setSeq_only _ _ _ _)).among (by decide)
      · exact ((State.advanceReg_only _ _ _ _).after (State.setSeq_only _ _ _ _)).among (by decide)
      · exact State.setSeq_only _ _ _ _
    · split
      · exact ((State.firstRequest_only _ _ _ _).after (State.setSeq_only _ _ _ _)).among (by decide)
      · exact .refl _ _

theorem State.endInj_only (s : State) (x : Conv) (e : Nat) : Only [.regA, .injA, .regB, .injB] s (s.endInj x e) := by
  unfold State.endInj
  dsimp only
  exact .fold (fun _ _ => State.resumeReg_only _ _ _) (State.idleSeq_only _ _ _)

theorem State.advanceInj_only (s : State) (x : Conv) (r : SeqReq) (c : Nat) : Only [.regA, .injA, .regB, .injB] s (s.advanceInj x r c) := by
  unfold State.advanceInj
  dsimp only
  exact .ite (State.setSeq_only _ _ _ _) (.ite (State.startEntry_only _ _ _ _ _) (.ite (State.startEntry_only _ _ _ _ _)
      (State.endInj_only _ _ _)))

theorem State.restartDuties_only (s : State) (x : Conv) : Only [.cfg, .bias] s (s.restartDuties x) := by
  unfold State.restartDuties
  dsimp only
  split
  · refine (Only.set_bias _ _).step ?_ (by decide)
    split
    · exact (State.setAdcTest_only _ _ _).among (by decide)
    · exact .refl _ _
  · split
    · exact (State.setAdcTest_only _ _ _).among (by decide)
    · exact .refl _ _

theorem State.insertEntry_only (s : State) (result : Nat) : Only [.regs, .nand, .cave, .bat, .setAt, .setNow] s (s.insertEntry result) := by
  unfold State.insertEntry
  dsimp only
  split
  · exact .ite (((State.batLog_only _ _ _ _ _).after (State.setBat_only _ _)).among (by decide)) (.refl _ _)
  · exact .refl _ _

theorem State.packNotice_only (s : State) (event index id : Nat) :
    Only [.regs, .link, .setAt, .setNow] s (s.packNotice event index id) := by
  unfold State.packNotice
  exact State.notice_only _ _ _

theorem State.closeSession_only (s0 : State) : Only [.regs, .link, .nand, .cave, .bat, .setAt, .setNow] s0 (s0.closeSession) := by
  unfold State.closeSession
  dsimp only
  split
  · exact ((State.batLog_only _ _ _ _ _).after ((State.packNotice_only _ _ _ _).after ((State.writePack_only _ _ _).after
      ((State.setBat_only _ _).after (State.insertEntry_only _ _))))).among (by decide)
  · exact (State.insertEntry_only _ _).among (by decide)

theorem State.presenceStep_only (s : State) (seen : Option Bool) :
    Only [.regs, .link, .nand, .cave, .bat, .setAt, .setNow] s (s.presenceStep seen) := by
  unfold State.presenceStep
  dsimp only
  split
  · exact (State.setBat_only _ _).among (by decide)
  · exact (State.setBat_only _ _).among (by decide)
  · exact (State.setBat_only _ _).among (by decide)
  · exact (State.setBat_only _ _).among (by decide)
  · exact ((State.batLog_only _ _ _ _ _).after ((State.packNotice_only _ _ _ _).after ((State.setBat_only _ _).after
      (State.insertEntry_only _ _)))).among (by decide)
  · exact ((State.closeSession_only _).after (State.setBat_only _ _)).among (by decide)
  · exact .refl _ _

theorem State.addCharge_only (s : State) (dq : Int) : Only [.bat] s (s.addCharge dq) := by
  unfold State.addCharge
  dsimp only
  split
  · exact State.setBat_only _ _
  · exact State.setBat_only _ _
  · exact State.setBat_only _ _
  · exact State.setBat_only _ _
  · exact .refl _ _

theorem State.countWindow_only (s : State) (i : Int) : Only [.bat] s (s.countWindow i) := by
  unfold State.countWindow
  dsimp only
  exact .ite (((State.addCharge_only _ _).after (State.setBat_only _ _)).among (by decide)) (.refl _ _)

theorem State.ntcFaults_only (s : State) (c : Curd) :
    Only [.regs, .link, .nand, .cave, .health, .bat, .setAt, .setNow] s (s.ntcFaults c) := by
  unfold State.ntcFaults
  dsimp only
  refine .fold (fun _ _ => ?_) ?_
  · refine .ite ?_ ?_
    · refine .ite ?_ ?_
      · exact (State.orReg_only _ _ _).among (by decide)
      · exact ((State.advise_only _ _ _).after ((State.notice_only _ _ _).after ((Only.set_bat _ _).after
          (State.orReg_only _ _ _)))).among (by decide)
    · exact .refl _ _
  · exact .refl _ _

theorem State.publishCurd_only (s : State) (c : Curd) (time : Nat) (stby gap est : Bool) :
    Only [.regs, .setAt, .setNow] s (s.publishCurd c time stby gap est) := by
  unfold State.publishCurd
  dsimp only
  refine .ite ?_ ?_
  · refine (State.orReg_only _ _ _).step ?_ (by decide)
    refine .ite ?_ ?_
    · exact (State.orReg_only _ _ _).step (.fold (fun _ _ => (State.setReg_only _ _ _).among (by decide)) (.refl _ _)) (by decide)
    · exact .fold (fun _ _ => (State.setReg_only _ _ _).among (by decide)) (.refl _ _)
  · refine .ite ?_ ?_
    · exact (State.orReg_only _ _ _).step (.fold (fun _ _ => (State.setReg_only _ _ _).among (by decide)) (.refl _ _)) (by decide)
    · exact .fold (fun _ _ => (State.setReg_only _ _ _).among (by decide)) (.refl _ _)

theorem State.histStep_only (s : State) (c : Curd) (units : Nat) (run : Bool) : Only [.bat] s (s.histStep c units run) := by
  unfold State.histStep
  dsimp only
  split
  · exact State.setBat_only _ _
  · exact .refl _ _

theorem State.extremeStep_only (s : State) (c : Curd) : Only [.bat] s (s.extremeStep c) := by
  unfold State.extremeStep
  dsimp only
  exact State.setBat_only _ _

theorem State.countSoc_only (s : State) : Only [.bat] s (s.countSoc) := by
  unfold State.countSoc
  dsimp only
  split
  · exact State.setBat_only _ _
  · exact State.setBat_only _ _

theorem State.anchorTests_only (s : State) (c : Curd) : Only [.regs, .nand, .cave, .bat, .setAt, .setNow] s (s.anchorTests c) := by
  unfold State.anchorTests
  dsimp only
  split
  · refine .ite ?_ ?_
    · refine (State.setAnchor_only _ _ _).step ?_ (by decide)
      refine .ite ?_ ?_
      · refine (State.setAnchor_only _ _ _).step ?_ (by decide)
        refine .ite ?_ ?_
        · exact ((State.setAnchor_only _ _ _).after ((State.insertEntry_only _ _).after (State.setBat_only _ _))).among (by decide)
        · refine .ite ?_ ?_
          · exact ((State.setAnchor_only _ _ _).after ((State.insertEntry_only _ _).after (State.setBat_only _ _))).among (by decide)
          · exact .ite (((State.insertEntry_only _ _).after (State.setBat_only _ _)).among (by decide))
              ((State.setBat_only _ _).among (by decide))
      · refine .ite ?_ ?_
        · exact ((State.setAnchor_only _ _ _).after ((State.insertEntry_only _ _).after (State.setBat_only _ _))).among (by decide)
        · refine .ite ?_ ?_
          · exact ((State.setAnchor_only _ _ _).after ((State.insertEntry_only _ _).after (State.setBat_only _ _))).among (by decide)
          · exact .ite (((State.insertEntry_only _ _).after (State.setBat_only _ _)).among (by decide))
              ((State.setBat_only _ _).among (by decide))
    · refine .ite ?_ ?_
      · refine (State.setAnchor_only _ _ _).step ?_ (by decide)
        refine .ite ?_ ?_
        · exact ((State.setAnchor_only _ _ _).after ((State.insertEntry_only _ _).after (State.setBat_only _ _))).among (by decide)
        · refine .ite ?_ ?_
          · exact ((State.setAnchor_only _ _ _).after ((State.insertEntry_only _ _).after (State.setBat_only _ _))).among (by decide)
          · exact .ite (((State.insertEntry_only _ _).after (State.setBat_only _ _)).among (by decide))
              ((State.setBat_only _ _).among (by decide))
      · refine .ite ?_ ?_
        · exact ((State.setAnchor_only _ _ _).after ((State.insertEntry_only _ _).after (State.setBat_only _ _))).among (by decide)
        · refine .ite ?_ ?_
          · exact ((State.setAnchor_only _ _ _).after ((State.insertEntry_only _ _).after (State.setBat_only _ _))).among (by decide)
          · exact .ite (((State.insertEntry_only _ _).after (State.setBat_only _ _)).among (by decide))
              ((State.setBat_only _ _).among (by decide))
  · exact .refl _ _

theorem State.curdDone_only (s : State) (v : Nat) (code : BitVec 24) (excess : Bool) (ntc : List Nat) (age : Nat) :
    Only [.regs, .link, .nand, .cave, .health, .bat, .setAt, .setNow] s (s.curdDone v code excess ntc age) := by
  unfold State.curdDone
  dsimp only
  refine .ite ?_ ?_
  · refine .ite ?_ ?_
    · exact ((State.histStep_only _ _ _ _).after ((State.extremeStep_only _ _).after ((State.countSoc_only _).after
        ((State.anchorTests_only _ _).after ((State.setBat_only _ _).after ((State.countWindow_only _ _).after
        ((State.ntcFaults_only _ _).after ((State.publishCurd_only _ _ _ _ _ _).after (State.presenceStep_only _ _))))))))).among (by decide)
    · exact ((State.extremeStep_only _ _).after ((State.countSoc_only _).after ((State.setBat_only _ _).after
        ((State.countWindow_only _ _).after ((State.ntcFaults_only _ _).after ((State.publishCurd_only _ _ _ _ _ _).after
        (State.presenceStep_only _ _))))))).among (by decide)
  · exact .refl _ _

theorem State.lostCurd_only (s : State) : Only [.regs, .bat, .setAt, .setNow] s (s.lostCurd) := by
  unfold State.lostCurd
  dsimp only
  exact ((State.setBat_only _ _).after ((State.satInc_only _ _ _ _).after (State.orReg_only _ _ _))).among (by decide)

theorem State.countInterval_only (s : State) (i : Int) (n : Nat) : Only [.bat] s (s.countInterval i n) := by
  unfold State.countInterval
  dsimp only
  exact .ite (((State.addCharge_only _ _).after (State.setBat_only _ _)).among (by decide)) (.refl _ _)

theorem State.nextStandbyCurd_only (s : State) : Only [.bat] s (s.nextStandbyCurd) := by
  unfold State.nextStandbyCurd
  dsimp only
  exact State.setBat_only _ _

theorem State.curdLost_only (s : State) : Only [.regs, .link, .nand, .cave, .bat, .setAt, .setNow] s (s.curdLost) := by
  unfold State.curdLost
  dsimp only
  refine .ite ?_ ?_
  · exact ((State.lostCurd_only _).after ((State.setBat_only _ _).after ((State.countWindow_only _ _).after
      (State.presenceStep_only _ _)))).among (by decide)
  · exact .ite (((State.lostCurd_only _).after ((State.nextStandbyCurd_only _).after ((State.countInterval_only _ _ _).after
      (State.presenceStep_only _ _)))).among (by decide)) (.refl _ _)

theorem State.resumeRotation_only (s : State) (x : Conv) : Only [.adcA, .adcB] s (s.resumeRotation x) := by
  unfold State.resumeRotation
  dsimp only
  exact .ite (State.setAdc_only _ _ _) (.ite (.refl _ _) (State.setAdc_only _ _ _))

theorem State.startAdcTest_only (s : State) (x : Conv) : Only [.cfg] s (s.startAdcTest x) := by
  unfold State.startAdcTest
  split
  · exact State.setAdcTest_only _ _ _
  · exact .refl _ _

theorem State.restartCmps_only (s : State) (x : Conv) : Only [.regs, .outs, .adcA, .adcB, .setAt, .setNow] s (s.restartCmps x) := by
  unfold State.restartCmps
  exact .fold (fun _ _ => .ite (State.restartCmp_only _ _) (.refl _ _)) (.refl _ _)

theorem State.converterOn_only (s : State) (x : Conv) : Only [.regs, .cfg, .outs, .adcA, .adcB, .setAt, .setNow] s (s.converterOn x) := by
  unfold State.converterOn
  exact ((State.resumeRotation_only _ _).after ((State.startAdcTest_only _ _).after (State.restartCmps_only _ _))).among (by decide)

theorem State.startModelRead_only (s : State) (slot : Nat) (other : Bool) : Only [.nand] s (s.startModelRead slot other) := by
  unfold State.startModelRead
  dsimp only
  exact State.addJob_only _ _ _ _

theorem State.loadModel_only (s : State) : Only [.boot, .nand, .fus] s (s.loadModel) := by
  unfold State.loadModel
  dsimp only
  refine .ite ?_ ?_
  · exact .refl _ _
  · refine .ite ?_ ?_
    · exact ((State.setFus_only _ _).after (Only.set_boot _ _)).among (by decide)
    · exact ((State.startModelRead_only _ _ _).after ((State.dropJobs_only _ _).after ((State.setFus_only _ _).after
        (Only.set_boot _ _)))).among (by decide)

theorem State.stopSeq_only (s : State) (x : Conv) (inj : Bool) (c : Nat) : Only [.regA, .injA, .regB, .injB] s (s.stopSeq x inj c) := by
  unfold State.stopSeq
  dsimp only
  exact .ite (.refl _ _) (.ite (State.endInj_only _ _ _) (State.idleSeq_only _ _ _))

theorem State.entryStep3_only (s : State) : Only [.regA, .injA, .regB, .injB] s (s.entryStep3) := by
  unfold State.entryStep3
  dsimp only
  exact ((State.stopSeq_only _ _ _ _).after ((State.stopSeq_only _ _ _ _).after ((State.stopSeq_only _ _ _ _).after
      (State.stopSeq_only _ _ _ _)))).among (by decide)

theorem State.lockEntry_only (s : State) : Only [.lock] s (s.lockEntry) := by
  unfold State.lockEntry
  dsimp only
  exact State.setLock_only _ _

theorem State.outputsOff_only (s : State) : Only [.regs, .outs, .setAt, .setNow] s (s.outputsOff) := by
  unfold State.outputsOff
  exact (State.settleAll_only _).step (.fold (fun _ _ => (State.setOut_only _ _ _).among (by decide)) (.refl _ _)) (by decide)

theorem State.entryStep2_only (s : State) : Only [.regs, .outs, .lock, .setAt, .setNow] s (s.entryStep2) := by
  unfold State.entryStep2
  exact ((State.lockEntry_only _).after (State.outputsOff_only _)).among (by decide)

theorem State.forgetId_only (s : State) : Only [.bat] s (s.forgetId) := by
  unfold State.forgetId
  dsimp only
  exact State.setBat_only _ _

theorem State.batteryShip_only (s : State) : Only [.regs, .link, .nand, .cave, .bat, .setAt, .setNow] s (s.batteryShip) := by
  unfold State.batteryShip
  dsimp only
  exact ((State.batLog_only _ _ _ _ _).after ((State.forgetId_only _).after ((State.closeSession_only _).after
      (State.setBat_only _ _)))).among (by decide)

theorem State.setImu_only (s : State) (n : Fin 2) (m : ImuSt) : Only [.fus] s (s.setImu n m) := by
  unfold State.setImu
  dsimp only
  exact State.setFus_only _ _

theorem State.writeFuscal_only (s : State) (n : Fin 2) : Only [.nand, .cave, .fus] s (s.writeFuscal n) := by
  unfold State.writeFuscal
  dsimp only
  exact ((State.recordWrite_only _ _ _ _ _).after (State.setImu_only _ _ _)).among (by decide)

theorem State.fuscalEntry_only (s : State) : Only [.nand, .cave, .fus] s (s.fuscalEntry) := by
  unfold State.fuscalEntry
  exact .fold (fun _ _ => .ite (State.writeFuscal_only _ _) (.refl _ _)) (.refl _ _)

theorem State.logCave_only (s : State) (event block : Nat) : Only [.regs, .nand, .cave, .setAt, .setNow] s (s.logCave event block) := by
  unfold State.logCave
  exact State.logEntry_only _ _ _ _

theorem State.reqCheckpoint_only (s : State) : Only [.regs, .nand, .cave, .setAt, .setNow] s (s.reqCheckpoint) := by
  unfold State.reqCheckpoint
  dsimp only
  exact ((State.logCave_only _ _ _).after (State.writeCtab_only _)).among (by decide)

theorem State.entryStep4_only (s : State) (ship : Bool) :
    Only [.regs, .link, .nand, .cave, .bat, .fus, .setAt, .setNow] s (s.entryStep4 ship) := by
  unfold State.entryStep4
  dsimp only
  refine .ite ?_ ?_
  · exact ((State.flushLog_only _).after ((State.reqCheckpoint_only _).after ((State.writeHealth_only _).after
      (State.fuscalEntry_only _)))).step (.ite ((State.batteryShip_only _).among (by decide))
      ((State.checkpoint_only _).among (by decide))) (by decide)
  · exact ((State.flushLog_only _).after (State.fuscalEntry_only _)).step (.ite ((State.batteryShip_only _).among (by decide))
      ((State.checkpoint_only _).among (by decide))) (by decide)

theorem State.announceEntry_only (s : State) (e : Entry) : Only [.regs, .power, .link, .setAt, .setNow] s (s.announceEntry e) := by
  unfold State.announceEntry
  dsimp only
  exact ((State.setEntry_only _ _).after (State.powerNotice_only _ _ _ _)).among (by decide)

theorem State.lockSleep_only (s : State) : Only [.lock] s (s.lockSleep) := by
  unfold State.lockSleep
  dsimp only
  exact State.setLock_only _ _

theorem State.batterySleep_only (s : State) : Only [.bat] s (s.batterySleep) := by
  unfold State.batterySleep
  dsimp only
  exact State.setBat_only _ _

theorem State.dropTests_only (s : State) : Only [.regs, .link, .cfg, .fus, .setAt, .setNow] s (s.dropTests) := by
  unfold State.dropTests
  dsimp only
  exact .lit rfl (fun p hp => by cases p <;> simp at hp <;> rfl) ((by
    refine .ite ?_ ?_
    · exact .ite (.ite (.refl _ _) ((State.notice_only _ _ _).among (by decide))) ((State.notice_only _ _ _).step (.ite (.refl _ _)
        ((State.notice_only _ _ _).among (by decide))) (by decide))
    · exact (State.notice_only _ _ _).step (.ite (.ite (.refl _ _) ((State.notice_only _ _ _).among (by decide))) ((State.notice_only _ _ _).step
        (.ite (.refl _ _) ((State.notice_only _ _ _).among (by decide))) (by decide))) (by decide)))

theorem State.enterStandby_only (s : State) :
    Only [.regs, .power, .link, .cfg, .nand, .cave, .bat, .fus, .rind, .lock, .setAt, .setNow] s (s.enterStandby) := by
  have slept (t : State) (c : CaveSt) (n : NandSt) (h : n.pages = t.nand.pages) : Only [.cave, .nand] t { t with cave := c, nand := n } :=
    ((Only.set_nand { t with cave := c } h).after (Only.set_cave t c)).mono (by decide)
  unfold State.enterStandby
  dsimp only
  have before := (State.restartFilters_only _).after ((State.lockSleep_only _).after ((State.batterySleep_only _).after
    ((State.dropTests_only _).after (State.setPower_only s { s.power with
      phase := .standby, entry := none, sbyCount := s.power.sbyCount + 1, standbyAt := s.lf, domRdy := 0x0009
      mainen := !s.bit 0x110008 1, vdd5Ok := s.power.vdd5Ok && !s.bit 0x110008 1, pllTries := 0, lfTimers := true, pllOn := false
      nowFrac := 0 }))))
  have within : Only [.regs, .power, .link, .cfg, .nand, .cave, .bat, .fus, .rind, .lock, .setAt, .setNow] s _ := before.among (by decide)
  exact (slept _ _ { s.nand with jobs := [], act := none, tries := 0 } (before .pages (by decide)).symm).step within (by decide)

theorem State.stopRunning_only (s : State) : Only [.dma] s (s.stopRunning) := by
  unfold State.stopRunning
  exact .fold (fun _ _ => .ite (State.stopCh_only _ _) (.refl _ _)) (.refl _ _)

theorem State.epochAdvance_only (s : State) : Only [.regs, .bat] s (s.epochAdvance) := by
  unfold State.epochAdvance
  dsimp only
  exact .ite ((State.setBat_only _ _).among (by decide)) (((State.setBat_only _ _).after (State.setReg_only _ _ _)).among (by decide))

theorem State.repeatEvent_only (s : State) (n : Fin 32) (d : EventDesc) : Only [.regs, .outs, .setAt, .setNow] s (s.repeatEvent n d) := by
  unfold State.repeatEvent
  dsimp only
  exact .ite (.refl _ _) (.ite ((State.satInc_only _ _ _ _).among (by decide)) ((State.setOut_only _ _ _).among (by decide)))

theorem State.pinAction_only (s : State) (n : Fin 32) (lvl : Bool) (p : Option PulseEnd) :
    Only [.regs, .outs, .setAt, .setNow] s (s.pinAction n lvl p) := by
  unfold State.pinAction
  dsimp only
  exact ((State.settle_only _ _).after (State.setOut_only _ _ _)).among (by decide)

theorem State.runAction_only (s : State) (n : Fin 32) (d : EventDesc) (spec : Bool) :
    Only [.regs, .outs, .timers, .regA, .injA, .regB, .injB, .dma, .setAt, .setNow] s (s.runAction n d spec) := by
  unfold State.runAction
  dsimp only
  split
  · exact (State.pinAction_only _ _ _ _).among (by decide)
  · exact (State.pinAction_only _ _ _ _).among (by decide)
  · exact (State.pinAction_only _ _ _ _).among (by decide)
  · exact (State.pinAction_only _ _ _ _).among (by decide)
  · exact (State.pinAction_only _ _ _ _).among (by decide)
  · exact ((State.setOut_only _ _ _).after ((State.pinAction_only _ _ _ _).after (State.setReg_only _ _ _))).among (by decide)
  · exact ((State.raise_only _ _ _).after (State.settle_only _ _)).among (by decide)
  · exact ((State.sendSignal_only _ _ _ _).after (State.settle_only _ _)).among (by decide)

theorem State.fireEvent_only (s : State) (n : Fin 32) (d : EventDesc) (kind : Nat) :
    Only [.regs, .outs, .timers, .regA, .injA, .regB, .injB, .dma, .setAt, .setNow] s (s.fireEvent n d kind) := by
  unfold State.fireEvent
  dsimp only
  exact ((State.raise_only _ _ _).after ((State.runAction_only _ _ _ _).after (State.setOut_only _ _ _))).step (.ite
      (((State.setOut_only _ _ _).after (State.setReg_only _ _ _)).among (by decide)) ((State.setReg_only _ _ _).among (by decide))) (by decide)

theorem State.testHead_only (s : State) (n : Fin 32) :
    Only [.regs, .outs, .timers, .regA, .injA, .regB, .injB, .dma, .setAt, .setNow] s (s.testHead n) := by
  unfold State.testHead
  dsimp only
  split
  · exact .refl _ _
  · refine .ite ?_ ?_
    · exact .refl _ _
    · refine .ite ?_ ?_
      · exact ((State.repeatEvent_only _ _ _).after ((State.satInc_only _ _ _ _).after ((State.orReg_only _ _ _).after
          (State.setOut_only _ _ _)))).among (by decide)
      · refine .ite ?_ ?_
        · exact ((State.repeatEvent_only _ _ _).after ((State.satInc_only _ _ _ _).after ((State.orReg_only _ _ _).after
            (State.setOut_only _ _ _)))).among (by decide)
        · exact ((State.repeatEvent_only _ _ _).after ((State.fireEvent_only _ _ _ _).after (State.setOut_only _ _ _))).among (by decide)

theorem State.fusWheels_only (before s : State) : Only [.fus] s (State.fusWheels before s) := by
  unfold State.fusWheels
  exact .fold (fun _ _ => State.fusWheel_only _ _ _) (.refl _ _)

theorem State.modelRunCrc_only (s : State) : Only [.boot, .nand, .fus] s (s.modelRunCrc) := by
  unfold State.modelRunCrc
  dsimp only
  exact ((State.loadModel_only _).after (Only.set_fus _ _)).among (by decide)

theorem State.fusionTestDone_only (s : State) : Only [.regs, .link, .cfg, .boot, .nand, .fus, .setAt, .setNow] s (s.fusionTestDone) := by
  unfold State.fusionTestDone
  dsimp only
  split
  · refine .ite ?_ ?_
    · exact ((State.modelRunCrc_only _).after ((State.notice_only _ _ _).after ((State.setFus_only _ _).after
        (Only.set_cfg _ _)))).among (by decide)
    · exact ((State.notice_only _ _ _).after ((State.setFus_only _ _).after (Only.set_cfg _ _))).among (by decide)
  · exact .refl _ _

theorem State.cellFirst_only (s : State) : Only [.regs, .fus, .setAt, .setNow] s (s.cellFirst) := by
  unfold State.cellFirst
  exact .ite (State.cellClose_only _) (.refl _ _)

theorem State.imuRestart_only (s : State) (n : Fin 2) : Only [.fus] s (s.imuRestart n) := by
  unfold State.imuRestart
  dsimp only
  exact State.setImu_only _ _ _

theorem State.applyFus_only (s : State) : Only [.fus] s (s.applyFus) := by
  unfold State.applyFus
  dsimp only
  exact .fold (fun _ _ => .ite (State.imuRestart_only _ _) (.refl _ _)) (.ite (State.setFus_only _ _) (((State.setFus_only _ _).after
      (State.setFus_only _ _)).among (by decide)))

theorem State.rideEvent_only (s : State) (out : List Int) (k : Nat) (otime : Word) :
    Only [.regs, .link, .nand, .cave, .setAt, .setNow] s (s.rideEvent out k otime) := by
  unfold State.rideEvent
  dsimp only
  exact ((State.logOf_only _ _ _).after ((State.notice_only _ _ _).after (State.satInc_only _ _ _ _))).among (by decide)

theorem State.publish_only (s : State) (h : HeadRun) (out : List Int) :
    Only [.regs, .link, .cfg, .nand, .cave, .fus, .setAt, .setNow] s (s.publish h out) := by
  unfold State.publish
  dsimp only
  split
  · exact .lit rfl (fun p hp => by cases p <;> simp at hp <;> rfl) (.fold (fun _ _ => (State.rideEvent_only _ _ _ _).among (by decide)) (.fold
      (fun _ _ => (State.setReg_only _ _ _).among (by decide)) ((State.setFus_only _ _).among (by decide))))
  · exact .fold (fun _ _ => (State.rideEvent_only _ _ _ _).among (by decide)) (.fold (fun _ _ => (State.setReg_only _ _ _).among (by decide))
      ((State.setFus_only _ _).among (by decide)))

theorem State.clearWords_only (s : State) (lo hi : Nat) : Only [.regs] s (s.clearWords lo hi) := by
  unfold State.clearWords
  dsimp only
  exact Only.set_regs _ _

theorem State.clearFusion_only (s : State) : Only [.regs, .fus] s (s.clearFusion) := by
  unfold State.clearFusion
  exact ((State.clearWords_only _ _ _).after (State.setFus_only _ _)).among (by decide)

theorem State.frameEnd_only (s : State) : Only [.regs, .boot, .nand, .fus] s (s.frameEnd) := by
  unfold State.frameEnd
  dsimp only
  exact .ite (((State.loadModel_only _).after (State.clearFusion_only _)).among (by decide))
      ((State.clearFusion_only _).among (by decide))

theorem State.predictTracks_only (s : State) : Only [.fus] s (s.predictTracks) := by
  unfold State.predictTracks
  dsimp only
  exact State.setFus_only _ _

theorem State.refine_only (s : State) (n : Fin 2) : Only [.regs, .nand, .cave, .health, .fus, .setAt, .setNow] s (s.refine n) := by
  unfold State.refine
  dsimp only
  split
  · exact .refl _ _
  · refine .ite ?_ ?_
    · refine .ite ?_ ?_
      · refine (State.advise_only _ _ _).step ?_ (by decide)
        refine .ite ?_ ?_
        · exact ((State.orReg_only _ _ _).after (State.setImu_only _ _ _)).among (by decide)
        · exact ((State.logOf_only _ _ _).after ((State.orReg_only _ _ _).after (State.setImu_only _ _ _))).among (by decide)
      · exact (State.setImu_only _ _ _).among (by decide)
    · exact .refl _ _

theorem State.startHead_only (s : State) : Only [.fus] s (s.startHead) := by
  unfold State.startHead
  dsimp only
  exact State.setFus_only _ _

theorem State.graceEnded_only (s : State) : Only [.regs, .link, .nand, .cave, .bat, .setAt, .setNow] s (s.graceEnded) := by
  unfold State.graceEnded
  dsimp only
  exact .ite (((State.forgetId_only _).after ((State.closeSession_only _).after (State.setBat_only _ _))).among (by decide)) (.refl _ _)

theorem State.setHealthSecond_only (s : State) (t : Nat) : Only [.health] s (s.setHealthSecond t) := by
  unfold State.setHealthSecond
  dsimp only
  exact Only.set_health _ _

theorem State.setHealthTemp_only (s : State) (t : Int) : Only [.health] s (s.setHealthTemp t) := by
  unfold State.setHealthTemp
  dsimp only
  exact Only.set_health _ _

theorem State.accountLife_only (s : State) (t : Int) (n : Nat) :
    Only [.regs, .nand, .cave, .health, .setAt, .setNow] s (s.accountLife t n) := by
  unfold State.accountLife
  dsimp only
  exact ((State.healthLife_only _).after (Only.set_health _ _)).among (by decide)

theorem State.healthTemp_only (s : State) (t : Int) : Only [.regs, .nand, .cave, .health, .setAt, .setNow] s (s.healthTemp t) := by
  unfold State.healthTemp
  dsimp only
  refine .ite ?_ ?_
  · refine .ite ?_ ?_
    · exact ((State.advise_only _ _ _).after ((State.accountLife_only _ _ _).after ((Only.set_health _ _).after
        ((State.setHealthSecond_only _ _).after (State.setHealthTemp_only _ _))))).among (by decide)
    · exact ((State.accountLife_only _ _ _).after ((Only.set_health _ _).after ((State.setHealthSecond_only _ _).after
        (State.setHealthTemp_only _ _)))).among (by decide)
  · exact .refl _ _

theorem State.setRule_only (s : State) (k : Fin 16) (v : RuleSt) : Only [.rind] s (s.setRule k v) := by
  unfold State.setRule
  dsimp only
  exact State.setRind_only _ _

theorem State.closeLeft_only (s : State) (key : Nat) (r : PackRec) :
    Only [.regs, .nand, .cave, .bat, .setAt, .setNow] s (s.closeLeft key r) := by
  unfold State.closeLeft
  dsimp only
  exact ((State.writePack_only _ _ _).after (State.setBat_only _ _)).among (by decide)

theorem State.closeStale_only (s : State) (except : Nat) : Only [.regs, .nand, .cave, .bat, .setAt, .setNow] s (s.closeStale except) := by
  unfold State.closeStale
  dsimp only
  refine .ite ?_ ?_
  · split
    · refine (State.closeLeft_only _ _ _).step ?_ (by decide)
      refine (State.setBat_only _ _).step ?_ (by decide)
      refine .fold (fun _ _ => ?_) ?_
      · split
        · exact State.closeLeft_only _ _ _
        · exact .refl _ _
      · exact .refl _ _
    · refine .fold (fun _ _ => ?_) ?_
      · split
        · exact State.closeLeft_only _ _ _
        · exact .refl _ _
      · exact .refl _ _
  · refine .fold (fun _ _ => ?_) ?_
    · split
      · exact State.closeLeft_only _ _ _
      · exact .refl _ _
    · exact .refl _ _

theorem State.openPack_only (s : State) (id : Nat) : Only [.regs, .link, .nand, .cave, .bat, .setAt, .setNow] s (s.openPack id) := by
  unfold State.openPack
  extract_lets ch i old known resume s0 sess base ep r0 r _ x b _ s1 s2 s3 s4 s5
  have hs0 : Only [.regs, .link, .nand, .cave, .bat, .setAt, .setNow] s s0 := .ite (.refl _ _) ((State.closeStale_only _ _).among (by decide))
  have hs1 : Only [.regs, .link, .nand, .cave, .bat, .setAt, .setNow] s s1 := ((State.setBat_only _ _).after hs0).among (by decide)
  have hs2 : Only [.regs, .link, .nand, .cave, .bat, .setAt, .setNow] s s2 := .ite (((State.batLog_only _ _ _ _ _).after
      ((State.satInc_only _ _ _ _).after ((State.orReg_only _ _ _).after hs1))).among (by decide)) hs1
  have hs3 : Only [.regs, .link, .nand, .cave, .bat, .setAt, .setNow] s s3 := ((State.packNotice_only _ _ _ _).after hs2).among (by decide)
  have hs4 : Only [.regs, .link, .nand, .cave, .bat, .setAt, .setNow] s s4 := .ite
      (((State.batLog_only _ _ _ _ _).after hs3).among (by decide)) (.ite (((State.insertEntry_only _ _).after hs3).among (by decide)) hs3)
  have hs5 : Only [.regs, .link, .nand, .cave, .bat, .setAt, .setNow] s s5 := ((State.checkpoint_only _).after hs4).among (by decide)
  exact .ite hs5 (((State.orReg_only _ _ _).after hs5).among (by decide))

theorem State.identified_only (s : State) (id : Nat) : Only [.regs, .link, .nand, .cave, .bat, .setAt, .setNow] s (s.identified id) := by
  unfold State.identified
  dsimp only
  exact .ite ((State.setBat_only _ _).among (by decide)) (.ite (State.openPack_only _ _) (((State.addJob_only _ _ _ _).after
      (State.setBat_only _ _)).among (by decide)))

theorem State.openScratch_only (s : State) : Only [.regs, .link, .nand, .cave, .health, .bat, .setAt, .setNow] s (s.openScratch) := by
  unfold State.openScratch
  dsimp only
  exact ((State.checkpoint_only _).after ((State.advise_only _ _ _).after ((State.orReg_only _ _ _).after
      ((State.batLog_only _ _ _ _ _).after ((State.packNotice_only _ _ _ _).after (State.setBat_only _ _)))))).among (by decide)

theorem State.idDeadline_only (s : State) : Only [.regs, .link, .nand, .cave, .health, .bat, .setAt, .setNow] s (s.idDeadline) := by
  unfold State.idDeadline
  dsimp only
  exact .ite (((State.openScratch_only _).after (State.closeSession_only _)).among (by decide)) (.refl _ _)

theorem State.dropJob_only (s : State) (kind : JobKind) : Only [.nand] s (s.dropJob kind) := by
  unfold State.dropJob
  dsimp only
  exact Only.set_nand _ (by rfl)

theorem State.imageNotice_only (s : State) (code slot gen : Nat) :
    Only [.regs, .link, .setAt, .setNow] s (s.imageNotice code slot gen) := by
  unfold State.imageNotice
  exact State.notice_only _ _ _

theorem State.startCopy_only (s : State) (slot gen : Nat) (kind : JobKind) : Only [.nand] s (s.startCopy slot gen kind) := by
  unfold State.startCopy
  dsimp only
  split
  · exact .ite (.refl _ _) (State.addJob_only _ _ _ _)
  · exact .refl _ _

theorem State.startRetire_only (s : State) (b : Nat) : Only [.nand] s (s.startRetire b) := by
  unfold State.startRetire
  exact State.addJob_only _ _ _ _

theorem State.startMove_only (s : State) (src dst : Nat) : Only [.nand, .cave] s (s.startMove src dst) := by
  unfold State.startMove
  dsimp only
  exact ((State.addJob_only _ _ _ _).after (Only.set_cave _ _)).among (by decide)

theorem State.serviceBlock_only (s : State) (b : Nat) (dead : Bool) {t : State} (h : s.serviceBlock b dead = some t) :
    Only [.nand, .cave] s t := by
  unfold State.serviceBlock at h
  dsimp only at h
  split at h
  · split at h
    · split at h
      · cases h
      · split at h
        · cases h
          exact ((Only.set_cave _ _).after (State.startCopy_only _ _ _ _)).among (by decide)
        · cases h
    · split at h
      · split at h
        · cases h
        · cases h
          exact (State.startRetire_only _ _).among (by decide)
      · split at h
        · cases h
          exact ((Only.set_cave _ _).after (State.startCopy_only _ _ _ _)).among (by decide)
        · cases h
  · split at h
    · split at h
      · cases h
        exact (State.startRetire_only _ _).step (.ite (State.writeCtab_only _) (.refl _ _)) (by decide)
      · cases h
        exact (Only.set_cave _ _).step (.ite (State.writeCtab_only _) (.refl _ _)) (by decide)
    · split at h
      · cases h
      · split at h
        · obtain ⟨d, -, rfl⟩ := Option.map_eq_some_iff.1 h
          exact (State.startMove_only _ _ _).among (by decide)
        · split at h
          · cases h
            exact (State.startRetire_only _ _).among (by decide)
          · cases h
            exact (Only.set_cave _ _).among (by decide)

theorem State.serviceFirst_only (s : State) (dead : Bool) (l : List Nat) {t : State} (h : s.serviceFirst dead l = some t) :
    Only [.nand, .cave] s t := by
  induction l with
  | nil => cases h
  | cons b l ih =>
    unfold State.serviceFirst at h
    split at h
    · cases h
      rename_i hb
      exact s.serviceBlock_only b dead hb
    · exact ih h

theorem State.caveService_only (s : State) : Only [.nand, .cave] s (s.caveService) := by
  unfold State.caveService
  refine .ite (.refl _ _) ?_
  split
  · rename_i h
    exact s.serviceFirst_only _ _ h
  · exact .getD (.refl _ _) fun t h => s.serviceFirst_only _ _ h

theorem State.lockNotice_only (s : State) : Only [.regs, .link, .setAt, .setNow] s (s.lockNotice) := by
  unfold State.lockNotice
  exact .ite (.refl _ _) (State.notice_only _ _ _)

theorem State.setLockState_only (s : State) (t : LockState) : Only [.regs, .link, .lock, .setAt, .setNow] s (s.setLockState t) := by
  unfold State.setLockState
  dsimp only
  exact .ite (.refl _ _) (((State.lockNotice_only _).after (State.setLock_only _ _)).among (by decide))

theorem State.lockLog_only (s : State) (event cause before restarts ms : Nat) (urgent : Bool) :
    Only [.regs, .nand, .cave, .setAt, .setNow] s (s.lockLog event cause before restarts ms urgent) := by
  unfold State.lockLog
  exact State.logEntry_only _ _ _ _

theorem State.enterFault_only (s : State) (cause : Nat) :
    Only [.regs, .link, .nand, .cave, .health, .lock, .setAt, .setNow] s (s.enterFault cause) := by
  unfold State.enterFault
  dsimp only
  refine .ite ?_ ?_
  · exact .refl _ _
  · exact ((State.advise_only _ _ _).after ((State.lockLog_only _ _ _ _ _ _ _).after ((State.setLockState_only _ _).after
      ((State.satInc_only _ _ _ _).after (State.setLock_only _ _))))).among (by decide)

theorem State.faultEvent_only (s : State) (cause : Nat) :
    Only [.regs, .link, .nand, .cave, .health, .lock, .setAt, .setNow] s (s.faultEvent cause).1 := by
  unfold State.faultEvent
  exact State.enterFault_only _ _

theorem State.lockEndMove_only (s : State) (b : Bridge) (brakeEnd : Option Nat) :
    Only [.regs, .link, .lock, .setAt, .setNow] s (s.lockEndMove b brakeEnd) := by
  unfold State.lockEndMove
  dsimp only
  exact ((State.setLockState_only _ _).after (State.setLock_only _ _)).among (by decide)

theorem State.lockSuccess_only (s : State) : Only [.regs, .link, .lock, .setAt, .setNow] s (s.lockSuccess) := by
  unfold State.lockSuccess
  exact ((State.satInc_only _ _ _ _).after (State.lockEndMove_only _ _ _)).among (by decide)

theorem State.lockDrift_only (s : State) (both : Bool) :
    Only [.regs, .link, .nand, .cave, .health, .lock, .setAt, .setNow] s (s.lockDrift both).1 := by
  unfold State.lockDrift
  dsimp only
  exact (State.lockLog_only _ _ _ _ _ _ _).step (.ite (((State.enterFault_only _ _).after (State.orReg_only _ _ _)).among (by decide))
      (((State.setLockState_only _ _).after (State.orReg_only _ _ _)).among (by decide))) (by decide)

theorem State.lockConsider_only (s : State) (chOpen chShut : Bool) :
    Only [.regs, .link, .nand, .cave, .health, .lock, .setAt, .setNow] s (s.lockConsider chOpen chShut).1 := by
  unfold State.lockConsider
  extract_lets l opp chOpp tgt chTgt both
  refine .iteFst ?_ ?_
  · exact .refl _ _
  · refine .iteFst ?_ ?_
    · refine .iteFst ?_ ?_
      · exact State.faultEvent_only _ _
      · refine .iteFst ?_ ?_
        · exact State.faultEvent_only _ _
        · refine .iteFst ?_ ?_
          · exact State.faultEvent_only _ _
          · refine .iteFst ?_ ?_
            · exact ((State.faultEvent_only _ _).after (State.setLock_only _ _)).among (by decide)
            · refine .iteFst ?_ ?_
              · exact ((State.faultEvent_only _ _).after (State.setLock_only _ _)).among (by decide)
              · exact .iteFst (((State.lockSuccess_only _).after (State.setLock_only _ _)).among (by decide))
                  ((State.setLock_only _ _).among (by decide))
    · split
      · exact .iteFst (State.lockDrift_only _ _) (.iteFst (State.lockDrift_only _ _) (.refl _ _))
      · exact .iteFst (State.lockDrift_only _ _) (.iteFst (State.lockDrift_only _ _) (.refl _ _))
      · exact .iteFst (State.faultEvent_only _ _) ((State.setLockState_only _ _).among (by decide))

theorem State.limitDecide_only (s : State) : Only [.regs, .link, .nand, .cave, .health, .lock, .setAt, .setNow] s (s.limitDecide.1) := by
  unfold State.limitDecide
  dsimp only
  exact ((State.lockConsider_only _ _ _).after (State.setLock_only _ _)).among (by decide)

theorem State.countRule_only (s : State) (k : Fin 16) : Only [.rind] s (s.countRule k).2 := by
  unfold State.countRule
  dsimp only
  exact .iteSnd (State.setRule_only _ _ _) (State.setRule_only _ _ _)

theorem State.requestWake_only (s : State) (m : Nat) : Only [.regs, .power, .setAt, .setNow] s (s.requestWake m) := by
  unfold State.requestWake
  dsimp only
  exact .ite ((Only.set_power _ _).among (by decide)) (.ite (((Only.set_power _ _).after (State.orReg_only _ _ _)).among (by decide))
      (.refl _ _))

theorem State.pushRind_only (s : State) (k : Fin 16) (act : Nat) : Only [.regs, .rind, .setAt, .setNow] s (s.pushRind k act) := by
  unfold State.pushRind
  dsimp only
  exact .ite ((State.setRind_only _ _).among (by decide)) ((State.satInc_only _ _ _ _).among (by decide))

theorem State.startAlarm_only (s : State) : Only [.rind] s (s.startAlarm) := by
  unfold State.startAlarm
  dsimp only
  exact State.setRind_only _ _

theorem State.fireRule_only (s : State) (k : Fin 16) : Only [.regs, .power, .rind, .setAt, .setNow] s (s.fireRule k) := by
  unfold State.fireRule
  extract_lets w hold _ s1 s2 s3 s4
  have hs1 : Only [.regs, .power, .rind, .setAt, .setNow] s s1 := (State.setRule_only _ _ _).step
      ((State.orReg_only _ _ _).among (by decide)) (by decide)
  have hs2 : Only [.regs, .power, .rind, .setAt, .setNow] s s2 := .ite (((State.requestWake_only _ _).after hs1).among (by decide)) hs1
  have hs3 : Only [.regs, .power, .rind, .setAt, .setNow] s s3 := .ite (((State.satInc_only _ _ _ _).after hs2).among (by decide)) hs2
  have hs4 : Only [.regs, .power, .rind, .setAt, .setNow] s s4 := .ite (((State.pushRind_only _ _ _).after hs3).among (by decide)) hs3
  exact .ite (((State.startAlarm_only _).after hs4).among (by decide)) hs4

theorem State.evalRule_only (e : RindEvents) (s : State) (k : Fin 16) :
    Only [.regs, .power, .rind, .setAt, .setNow] s (State.evalRule e s k) := by
  unfold State.evalRule
  dsimp only
  refine .ite ?_ ?_
  · refine .ite ?_ ?_
    · exact .ite (.ite (((State.fireRule_only _ _).after (State.countRule_only _ _)).among (by decide))
        ((State.countRule_only _ _).among (by decide))) (.refl _ _)
    · exact .ite (State.fireRule_only _ _) (.refl _ _)
  · exact .refl _ _

theorem State.evalRules_only (s : State) (e : RindEvents) : Only [.regs, .power, .rind, .setAt, .setNow] s (s.evalRules e) := by
  unfold State.evalRules
  exact .fold (fun _ _ => State.evalRule_only _ _ _) (.refl _ _)

theorem State.limitChange_only (s : State) :
    Only [.regs, .power, .link, .nand, .cave, .health, .rind, .lock, .setAt, .setNow] s (s.limitChange) := by
  unfold State.limitChange
  dsimp only
  exact ((State.evalRules_only _ _).after (State.limitDecide_only _)).among (by decide)

theorem State.repolarise_only (s : State) (o c : Word) : Only [.lock] s (s.repolarise o c) := by
  unfold State.repolarise
  dsimp only
  exact .ite (.ite (.refl _ _) (State.setLock_only _ _)) ((State.setLock_only _ _).step (.ite (.refl _ _) (State.setLock_only _ _)) (by decide))

theorem State.startMove'_only (s : State) (kind : LockState) : Only [.regs, .link, .lock, .setAt, .setNow] s (s.startMove' kind) := by
  unfold State.startMove'
  dsimp only
  exact ((State.setLockState_only _ _).after ((State.setLock_only _ _).after ((State.repolarise_only _ _ _).after
      (State.setLock_only _ _)))).among (by decide)

theorem State.cmdResult_only (s : State) (code : Nat) : Only [.regs, .lock, .setAt, .setNow] s (s.cmdResult code) := by
  unfold State.cmdResult
  dsimp only
  exact .ite ((State.setLock_only _ _).among (by decide)) (((State.orReg_only _ _ _).after (State.setLock_only _ _)).among (by decide))

theorem State.lockMove_only (s0 : State) (kind : LockState) :
    Only [.regs, .power, .link, .nand, .cave, .health, .rind, .lock, .setAt, .setNow] s0 (s0.lockMove kind) := by
  unfold State.lockMove
  dsimp only
  refine .ite ?_ ?_
  · exact ((State.startMove'_only _ _).after ((State.cmdResult_only _ _).after (State.limitChange_only _))).among (by decide)
  · exact ((State.cmdResult_only _ _).after (State.limitChange_only _)).among (by decide)

theorem State.lockTimeout_only (s : State) :
    Only [.regs, .power, .link, .nand, .cave, .health, .rind, .lock, .setAt, .setNow] s (s.lockTimeout) := by
  unfold State.lockTimeout
  dsimp only
  refine .ite ?_ ?_
  · exact ((State.evalRules_only _ _).after ((State.enterFault_only _ _).after (State.limitDecide_only _))).among (by decide)
  · exact ((State.evalRules_only _ _).after (State.limitDecide_only _)).among (by decide)

theorem State.lockStop_only (s0 : State) :
    Only [.regs, .power, .link, .nand, .cave, .health, .rind, .lock, .setAt, .setNow] s0 (s0.lockStop) := by
  unfold State.lockStop
  dsimp only
  refine .ite ?_ ?_
  · exact ((State.cmdResult_only _ _).after (State.lockTimeout_only _)).among (by decide)
  · refine .ite ?_ ?_
    · exact ((State.lockEndMove_only _ _ _).after ((State.cmdResult_only _ _).after (State.lockTimeout_only _))).among (by decide)
    · exact ((State.cmdResult_only _ _).after (State.lockTimeout_only _)).among (by decide)

theorem State.lockClear_only (s0 : State) :
    Only [.regs, .power, .link, .nand, .cave, .health, .rind, .lock, .setAt, .setNow] s0 (s0.lockClear) := by
  unfold State.lockClear
  dsimp only
  refine .ite ?_ ?_
  · exact ((State.cmdResult_only _ _).after (State.limitChange_only _)).among (by decide)
  · refine .ite ?_ ?_
    · exact ((State.evalRules_only _ _).after ((State.lockConsider_only _ _ _).after ((State.setLockState_only _ _).after
        ((State.setLock_only _ _).after ((State.cmdResult_only _ _).after (State.limitChange_only _)))))).among (by decide)
    · exact ((State.cmdResult_only _ _).after (State.limitChange_only _)).among (by decide)

theorem State.commitRind_only (s : State) (o c : Nat → Word) : Only [.rind] s (s.commitRind o c) := by
  unfold State.commitRind
  dsimp only
  refine .ite ?_ ?_
  · exact .fold (fun _ _ => .ite (State.setRule_only _ _ _) (.refl _ _)) (.fold (fun _ _ => .ite (State.restartFilter_only _ _)
      (.refl _ _)) (.refl _ _))
  · exact (State.setRind_only _ _).step (.fold (fun _ _ => .ite (State.setRule_only _ _ _) (.refl _ _)) (.fold (fun _ _ => .ite
      (State.restartFilter_only _ _) (.refl _ _)) (.refl _ _))) (by decide)

theorem State.commitLock_only (s : State) :
    Only [.regs, .power, .link, .nand, .cave, .health, .rind, .lock, .setAt, .setNow] s (s.commitLock) := by
  unfold State.commitLock
  dsimp only
  exact .ite (.ite (((State.lockEndMove_only _ _ _).after (State.lockTimeout_only _)).among (by decide)) (State.lockTimeout_only _)) (.refl _ _)

theorem State.endTest_only (s : State) (unit : Nat) : Only [.regs, .link, .cfg, .fus, .setAt, .setNow] s (s.endTest unit) := by
  unfold State.endTest
  dsimp only
  refine (State.notice_only _ _ _).step ?_ (by decide)
  split
  · exact (Only.set_cfg _ _).among (by decide)
  · exact (Only.set_cfg _ _).among (by decide)
  · exact .lit rfl (fun p hp => by cases p <;> simp at hp <;> rfl) (.refl _ _)

theorem State.clearResults_only (s : State) (x : Conv) : Only [.regs] s (s.clearResults x) := by
  unfold State.clearResults
  dsimp only
  exact Only.set_regs _ _

theorem State.converterOff_only (s : State) (x : Conv) :
    Only [.regs, .outs, .adcA, .adcB, .regA, .injA, .regB, .injB, .setAt, .setNow] s (s.converterOff x) := by
  unfold State.converterOff
  dsimp only
  exact ((State.restartCmps_only _ _).after ((State.clearResults_only _ _).after ((State.setAdc_only _ _ _).after
      ((State.stopSeq_only _ _ _ _).after (State.stopSeq_only _ _ _ _))))).among (by decide)

theorem State.stopFusion_only (s : State) : Only [.regs, .fus] s (s.stopFusion) := by
  unfold State.stopFusion
  dsimp only
  exact .ite ((State.setFus_only _ _).among (by decide)) (State.clearFusion_only _)

theorem State.dropTriggers_only (s : State) : Only [.regA, .injA, .regB, .injB] s (s.dropTriggers) := by
  unfold State.dropTriggers
  dsimp only
  exact .fold (fun _ _ => .ite (.refl _ _) (State.setSeq_only _ _ _ _)) (.refl _ _)

theorem State.commitDomains_only (s : State) (o c : Word) :
    Only [.regs, .power, .outs, .adcA, .adcB, .regA, .injA, .regB, .injB, .fus, .setAt, .setNow] s (s.commitDomains o c) := by
  unfold State.commitDomains
  extract_lets off s1 s12 s2 s3 on6
  have hs1 : Only [.regs, .power, .outs, .adcA, .adcB, .regA, .injA, .regB, .injB, .fus, .setAt, .setNow] s s1 := .ite
      ((State.earlierTriggers_only _).among (by decide)) (.refl _ _)
  have hs12 : Only [.regs, .power, .outs, .adcA, .adcB, .regA, .injA, .regB, .injB, .fus, .setAt, .setNow] s s12 := .ite
      ((State.converterOff_only _ _).step hs1 (by decide)) hs1
  have hs2 : Only [.regs, .power, .outs, .adcA, .adcB, .regA, .injA, .regB, .injB, .fus, .setAt, .setNow] s s2 := .ite
      ((State.converterOff_only _ _).step hs12 (by decide)) hs12
  have hs3 : Only [.regs, .power, .outs, .adcA, .adcB, .regA, .injA, .regB, .injB, .fus, .setAt, .setNow] s s3 := .ite
      ((State.stopFusion_only _).step hs2 (by decide)) hs2
  exact ((State.dropTriggers_only _).after ((State.setPower_only _ _).after hs3)).among (by decide)

theorem State.commitPower_only (s : State) (o c : Nat → Word) :
    Only [.regs, .power, .link, .cfg, .outs, .adcA, .adcB, .regA, .injA, .regB, .injB, .fus, .setAt, .setNow] s (s.commitPower o c) := by
  unfold State.commitPower
  extract_lets a off s1 s2 s3 s4
  have hs1 : Only [.regs, .power, .link, .cfg, .outs, .adcA, .adcB, .regA, .injA, .regB, .injB, .fus, .setAt, .setNow] s s1 := .ite
      ((State.endTest_only _ _).among (by decide)) (.refl _ _)
  have hs2 : Only [.regs, .power, .link, .cfg, .outs, .adcA, .adcB, .regA, .injA, .regB, .injB, .fus, .setAt, .setNow] s s2 := .ite
      ((State.endTest_only _ _).step hs1 (by decide)) hs1
  have hs3 : Only [.regs, .power, .link, .cfg, .outs, .adcA, .adcB, .regA, .injA, .regB, .injB, .fus, .setAt, .setNow] s s3 := .ite
      ((State.endTest_only _ _).step hs2 (by decide)) hs2
  have hs4 : Only [.regs, .power, .link, .cfg, .outs, .adcA, .adcB, .regA, .injA, .regB, .injB, .fus, .setAt, .setNow] s s4 := .ite hs3
      ((State.commitDomains_only _ _ _).step hs3 (by decide))
  exact .ite (((State.setPower_only _ _).after hs4).among (by decide)) hs4

theorem State.takeMirror_only (s : State) : Only [.setNow, .mirror] s (s.takeMirror) := by
  unfold State.takeMirror
  exact .lit rfl (fun p hp => by cases p <;> simp at hp <;> rfl) (.refl _ _)

theorem State.clockNotice_only (s : State) : Only [.regs, .power, .link, .setAt, .setNow] s (s.clockNotice) := by
  unfold State.clockNotice
  dsimp only
  exact .ite ((State.notice_only _ _ _).among (by decide)) ((State.setPower_only _ _).among (by decide))

theorem State.bootNotice_only (s : State) : Only [.regs, .link, .setAt, .setNow] s (s.bootNotice) := by
  unfold State.bootNotice
  exact State.notice_only _ _ _

theorem State.toRun_only (s : State) : Only [.power, .link, .boot, .cave] s (s.toRun) := by
  unfold State.toRun
  dsimp only
  exact .lit rfl (fun p hp => by cases p <;> simp at hp <;> rfl) ((State.setPower_only _ _).among (by decide))

theorem State.enterRecovery_only (s : State) (global : Nat) :
    Only [.regs, .power, .link, .boot, .cave, .setAt, .setNow] s (s.enterRecovery global) := by
  unfold State.enterRecovery
  dsimp only
  refine .ite ?_ ?_
  · exact ((State.setPower_only _ _).after ((State.bootNotice_only _).after ((State.toRun_only _).after (Only.set_boot _ _)))).among (by decide)
  · exact ((State.bootNotice_only _).after ((State.toRun_only _).after (Only.set_boot _ _))).among (by decide)

theorem State.bootAdvise_only (s : State) (slot : Nat) : Only [.regs, .nand, .cave, .health, .setAt, .setNow] s (s.bootAdvise slot) := by
  have advised (s : State) (on : Bool) (b unit : Nat) :
      Only [.regs, .nand, .cave, .health, .setAt, .setNow] s (if on then s.advise b unit else s) :=
    .ite ((State.advise_only _ _ _).among (by decide)) (.refl _ _)
  unfold State.bootAdvise
  extract_lets f s1 s2 s3 s4
  exact ((((advised s _ _ _).trans (advised s1 _ _ _)).trans (advised s2 _ _ _)).trans (advised s3 _ _ _)).trans (advised s4 _ _ _)

theorem State.startMounting_only (s : State) : Only [.cave] s (s.startMounting) := by
  unfold State.startMounting
  dsimp only
  exact Only.set_cave _ _

theorem State.releaseTimer_only (s : State) (n : Fin 16) : Only [.timers] s (s.releaseTimer n) := by
  unfold State.releaseTimer
  dsimp only
  exact State.setTimer_only _ _ _

theorem State.autostartTimers_only (s : State) : Only [.timers] s (s.autostartTimers) := by
  unfold State.autostartTimers
  exact .fold (fun _ _ => .ite (State.releaseTimer_only _ _) (.refl _ _)) (.refl _ _)

theorem State.loadConverter_only (s : State) (x : Conv) : Only [.adcA, .adcB, .health] s (s.loadConverter x) := by
  unfold State.loadConverter
  dsimp only
  exact .ite ((State.setAdc_only _ _ _).among (by decide)) (((Only.set_health _ _).after (State.setAdc_only _ _ _)).among (by decide))

theorem State.autostartDma_only (s : State) : Only [.dma] s (s.autostartDma) := by
  unfold State.autostartDma
  exact .fold (fun _ _ => .ite (State.startCh_only _ _) (.refl _ _)) (.refl _ _)

theorem State.loadDma_only (s : State) : Only [.dma] s (s.loadDma) := by
  unfold State.loadDma
  exact (State.autostartDma_only _).step (.fold (fun _ _ => State.resetCh_only _ _ _ _) (.refl _ _)) (by decide)

theorem State.lockResolved_only (s : State) : Only [.regs, .link, .nand, .cave, .health, .lock, .setAt, .setNow] s (s.lockResolved.1) := by
  unfold State.lockResolved
  dsimp only
  exact .iteFst (.refl _ _) (.iteFst (State.faultEvent_only _ _) ((State.setLock_only _ _).among (by decide)))

theorem State.lockLoaded_only (s : State) :
    Only [.regs, .power, .link, .nand, .cave, .health, .rind, .lock, .setAt, .setNow] s (s.lockLoaded) := by
  unfold State.lockLoaded
  dsimp only
  refine .ite ?_ ?_
  · refine (State.lockMove_only _ _).step ?_ (by decide)
    refine (State.evalRules_only _ _).step ?_ (by decide)
    refine .ite ?_ ?_
    · exact ((State.lockResolved_only _).after ((State.repolarise_only _ _ _).after (State.setLock_only _ _))).among (by decide)
    · exact ((State.lockNotice_only _).after ((State.lockResolved_only _).after ((State.repolarise_only _ _ _).after
        (State.setLock_only _ _)))).among (by decide)
  · refine (State.evalRules_only _ _).step ?_ (by decide)
    refine .ite ?_ ?_
    · exact ((State.lockResolved_only _).after ((State.repolarise_only _ _ _).after (State.setLock_only _ _))).among (by decide)
    · exact ((State.lockNotice_only _).after ((State.lockResolved_only _).after ((State.repolarise_only _ _ _).after
        (State.setLock_only _ _)))).among (by decide)

theorem State.loadCmps_only (s : State) : Only [.regs, .outs, .adcA, .adcB, .setAt, .setNow] s (s.loadCmps) := by
  unfold State.loadCmps
  exact ((State.restartCmps_only _ _).after (State.restartCmps_only _ _)).among (by decide)

theorem State.loadBlocks_only (s : State) (o : Nat → Word) :
    Only [.regs, .power, .link, .cfg, .bias, .outs, .timers, .adcA, .adcB, .regA, .injA, .regB, .injB, .dma, .nand, .cave, .health, .bat, .fus,
      .rind, .lock, .setAt, .setNow] s (s.loadBlocks o) := by
  have begun (t : State) (c : BiasSt) (n : NandSt) (b : BatSt) (h : HealthSt) (hn : n.pages = t.nand.pages) :
      Only [.bias, .nand, .bat, .health] t { t with bias := c, nand := n, bat := b, health := h } := fun p hp => by
    cases p
    case pages => exact hn
    all_goals simp at hp <;> rfl
  unfold State.loadBlocks
  extract_lets s0 s1 s2 s3 s4
  have h3 : Only [.regs, .power, .link, .cfg, .bias, .outs, .timers, .adcA, .adcB, .regA, .injA, .regB, .injB, .dma, .nand, .cave, .health,
      .bat, .fus, .rind, .lock, .setAt, .setNow] s s3 :=
    (State.lockLoaded_only _).step ((State.commitLock_only _).step ((State.commitRind_only _ _ _).step ((State.loadDma_only _).step
      ((State.autostartTimers_only _).step ((State.loadConverter_only _ _).step ((State.loadConverter_only _ _).step
        ((State.commitPower_only _ _ _).among (by decide)) (by decide)) (by decide)) (by decide)) (by decide)) (by decide)) (by decide)) (by decide)
  have h4 : Only [.regs, .power, .link, .cfg, .bias, .outs, .timers, .adcA, .adcB, .regA, .injA, .regB, .injB, .dma, .nand, .cave, .health,
      .bat, .fus, .rind, .lock, .setAt, .setNow] s s4 := .ite ((State.presenceStep_only _ _).step h3 (by decide)) h3
  have settled : Only [.regs, .outs, .adcA, .adcB, .setAt, .setNow] s4 (s4.loadCmps).settleAll :=
    ((State.settleAll_only _).after (State.loadCmps_only s4)).among (by decide)
  exact (begun _ _ { s4.nand with bus := s4.reg 0xA0008 } _ _ (settled .pages (by decide)).symm).step (settled.step h4 (by decide)) (by decide)

theorem State.testWithoutFrame_only (s : State) : Only [.cfg, .fus] s (s.testWithoutFrame) := by
  unfold State.testWithoutFrame
  dsimp only
  split
  · exact .lit rfl (fun p hp => by cases p <;> simp at hp <;> rfl) (.refl _ _)
  · exact .refl _ _

theorem State.healthModel_only (s : State) : Only [.regs, .nand, .cave, .health, .setAt, .setNow] s (s.healthModel) := by
  unfold State.healthModel
  dsimp only
  exact .ite (.refl _ _) (((State.notifyOnce_only _ _ _ _).after (Only.set_health _ _)).among (by decide))

theorem State.modelFailed_only (s : State) (code : Nat) :
    Only [.regs, .cfg, .nand, .cave, .health, .fus, .setAt, .setNow] s (s.modelFailed code) := by
  unfold State.modelFailed
  dsimp only
  exact ((State.testWithoutFrame_only _).after ((State.logEntry_only _ _ _ _).after ((State.healthModel_only _).after
      (State.setFus_only _ _)))).among (by decide)

theorem State.healthModelOk_only (s : State) : Only [.regs, .nand, .cave, .health, .setAt, .setNow] s (s.healthModelOk) := by
  unfold State.healthModelOk
  dsimp only
  exact .ite (((State.unnotify_only _ _).after (Only.set_health _ _)).among (by decide)) (.refl _ _)

theorem State.readFuscal_only (s : State) (n : Fin 2) : Only [.fus] s (s.readFuscal n) := by
  unfold State.readFuscal
  dsimp only
  split
  · exact .ite (State.setImu_only _ _ _) (.refl _ _)
  · exact .refl _ _

theorem State.readFuscals_only (s : State) : Only [.fus] s (s.readFuscals) := by
  unfold State.readFuscals
  dsimp only
  exact .fold (fun _ _ => State.readFuscal_only _ _) (State.setFus_only _ _)

theorem State.modelStart_only (s : State) : Only [.regs, .nand, .cave, .health, .fus, .setAt, .setNow] s (s.modelStart) := by
  unfold State.modelStart
  dsimp only
  refine (State.gridMode_only _).step ?_ (by decide)
  refine (State.logOf_only _ _ _).step ?_ (by decide)
  refine .ite ?_ ?_
  · exact (State.readFuscals_only _).step (.fold (fun _ _ => ((State.setImu_only _ _ _).after
      (State.imuRestart_only _ _)).among (by decide)) (((State.healthModelOk_only _).after ((State.setReg_only _ _ _).after
      (State.setFus_only _ _))).among (by decide))) (by decide)
  · exact .fold (fun _ _ => ((State.setImu_only _ _ _).after (State.imuRestart_only _ _)).among (by decide))
      ((State.healthModelOk_only _).step
      ((State.setReg_only _ _ _).step ((State.setFus_only _ _).among (by decide)) (by decide)) (by decide))

theorem State.takeStandbyReq_only (s : State) : Only [.cave, .health] s (s.takeStandbyReq) := by
  unfold State.takeStandbyReq
  dsimp only
  exact .lit rfl (fun p hp => by cases p <;> simp at hp <;> rfl) (.refl _ _)

theorem State.openBlocks_only (s : State) : Only [.cave] s (s.openBlocks) := by
  have opened : Only [.cave] s ((s.openRecBlock true).getD s) := .getD (.refl _ _) fun t h => s.openRecBlock_only _ h
  unfold State.openBlocks
  dsimp only
  split
  · exact ((Only.set_cave _ _).after opened).among (by decide)
  · exact opened

theorem State.healthPool_only (s : State) (level : Nat) : Only [.regs, .nand, .cave, .health, .setAt, .setNow] s (s.healthPool level) := by
  unfold State.healthPool
  dsimp only
  exact .ite (((State.notifyOnce_only _ _ _ _).after (Only.set_health _ _)).among (by decide)) (.ite (((State.unnotify_only _ _).after
      (Only.set_health _ _)).among (by decide)) (.refl _ _))

theorem State.updFail_only (s : State) (u : ImgUpd) : Only [.regs, .link, .nand, .cave, .setAt, .setNow] s (s.updFail u) := by
  unfold State.updFail
  dsimp only
  exact ((State.imageNotice_only _ _ _ _).after ((Only.set_cave _ _).after (State.dropJobs_only _ _))).among (by decide)

theorem State.toReadonly_only (s : State) : Only [.regs, .link, .boot, .nand, .cave, .health, .setAt, .setNow] s (s.toReadonly) := by
  unfold State.toReadonly
  dsimp only
  split
  · exact ((State.updFail_only _ _).after ((State.advise_only _ _ _).after (State.dropJobs_only _ _))).step (.lit rfl
      (fun p hp => by cases p <;> simp at hp <;> rfl) (.refl _ _)) (by decide)
  · exact ((State.advise_only _ _ _).after (State.dropJobs_only _ _)).step (.lit rfl (fun p hp => by cases p <;> simp at hp <;> rfl)
      (.refl _ _)) (by decide)

theorem State.poolChanged_only (s : State) : Only [.regs, .link, .boot, .nand, .cave, .health, .setAt, .setNow] s (s.poolChanged) := by
  unfold State.poolChanged
  dsimp only
  refine .ite ?_ ?_
  · exact ((State.toReadonly_only _).after (State.healthPool_only _ _)).step (.ite (((State.notice_only _ _ _).after
      (Only.set_cave _ _)).among (by decide)) ((Only.set_cave _ _).among (by decide))) (by decide)
  · exact (State.healthPool_only _ _).step (.ite (((State.notice_only _ _ _).after (Only.set_cave _ _)).among (by decide))
      ((Only.set_cave _ _).among (by decide))) (by decide)

theorem State.mountEnd_only (s : State) : Only [.regs, .link, .boot, .nand, .cave, .health, .setAt, .setNow] s (s.mountEnd) := by
  unfold State.mountEnd
  extract_lets s0
  have hs0 : Only [.regs, .link, .boot, .nand, .cave, .health, .setAt, .setNow] s s0 := (State.takeStandbyReq_only _).among (by decide)
  refine .ite ?_ ?_
  · exact ((State.advise_only _ _ _).after ((Only.set_cave _ _).after hs0)).among (by decide)
  · refine .ite ?_ ?_
    · refine (State.startRecWrite_only _).step ?_ (by decide)
      refine .ite ?_ ?_
      · refine (State.flushLog_only _).step ?_ (by decide)
        refine .ite ?_ ?_
        · refine (State.poolChanged_only _).step ?_ (by decide)
          refine .ite ?_ ?_
          · exact ((State.logCave_only _ _ _).after ((State.openBlocks_only _).after ((Only.set_cave _ _).after hs0))).among (by decide)
          · exact ((State.openBlocks_only _).after ((Only.set_cave _ _).after hs0)).among (by decide)
        · refine (State.startLogProgram_only _).step ?_ (by decide)
          refine (State.poolChanged_only _).step ?_ (by decide)
          refine .ite ?_ ?_
          · exact ((State.logCave_only _ _ _).after ((State.openBlocks_only _).after ((Only.set_cave _ _).after hs0))).among (by decide)
          · exact ((State.openBlocks_only _).after ((Only.set_cave _ _).after hs0)).among (by decide)
      · refine .ite ?_ ?_
        · refine (State.poolChanged_only _).step ?_ (by decide)
          refine .ite ?_ ?_
          · exact ((State.logCave_only _ _ _).after ((State.openBlocks_only _).after ((Only.set_cave _ _).after hs0))).among (by decide)
          · exact ((State.openBlocks_only _).after ((Only.set_cave _ _).after hs0)).among (by decide)
        · refine (State.startLogProgram_only _).step ?_ (by decide)
          refine (State.poolChanged_only _).step ?_ (by decide)
          refine .ite ?_ ?_
          · exact ((State.logCave_only _ _ _).after ((State.openBlocks_only _).after ((Only.set_cave _ _).after hs0))).among (by decide)
          · exact ((State.openBlocks_only _).after ((Only.set_cave _ _).after hs0)).among (by decide)
    · refine (State.poolChanged_only _).step ?_ (by decide)
      refine .ite ?_ ?_
      · exact ((State.logCave_only _ _ _).after ((State.openBlocks_only _).after ((Only.set_cave _ _).after hs0))).among (by decide)
      · exact ((State.openBlocks_only _).after ((Only.set_cave _ _).after hs0)).among (by decide)

theorem State.collectOps_only (s : State) (l : List (Nat × Nat)) {r : List NandOp × State} (h : s.collectOps l = some r) :
    Only [.cave] s r.2 := by
  induction l generalizing s r with
  | nil =>
    cases h
    exact .refl _ _
  | cons p l ih =>
    unfold State.collectOps at h
    dsimp only at h
    split at h
    · cases h
    · rename_i hs
      split at h
      · cases h
      · rename_i hl
        have last := (congrArg (Option.map Prod.snd) h :)
        have rest := ih _ hl
        exact (Option.some.inj last) ▸ (s.allocSlot_only _ hs).trans rest

theorem State.collectIfLow_only (s : State) : Only [.nand, .cave] s (s.collectIfLow) := by
  unfold State.collectIfLow
  refine .ite ((Only.set_nand _ (by rfl)).among (by decide)) (.ite ?_ (.refl _ _))
  split
  · exact .refl _ _
  · split
    · rename_i h
      exact ((State.addJob_only _ _ _ _).after (s.collectOps_only _ h)).among (by decide)
    · exact .refl _ _

theorem State.fusionMount_only (s : State) : Only [.fus] s (s.fusionMount) := by
  unfold State.fusionMount
  exact .ite (State.readFuscals_only _) (.refl _ _)

theorem State.batteryMount_only (s : State) : Only [.regs, .link, .nand, .cave, .bat, .setAt, .setNow] s (s.batteryMount) := by
  unfold State.batteryMount
  dsimp only
  split
  · exact ((State.identified_only _ _).after (State.setBat_only _ _)).among (by decide)
  · exact (State.setBat_only _ _).among (by decide)

theorem State.renewHealth_only (s : State) : Only [.regs, .nand, .cave, .setAt, .setNow] s (s.renewHealth) := by
  unfold State.renewHealth
  exact .ite (State.writeHealth_only _) (.refl _ _)

theorem State.healthMount_only (s : State) (body : Option (List Byte)) (existed : Bool) :
    Only [.regs, .nand, .cave, .health, .setAt, .setNow] s (s.healthMount body existed) := by
  unfold State.healthMount
  dsimp only
  refine .ite ?_ ?_
  · exact (State.renewHealth_only _).among (by decide)
  · split
    · refine .ite ?_ ?_
      · exact ((State.writeHealth_only _).after ((State.healthLife_only _).after (Only.set_health _ _))).among (by decide)
      · exact ((State.renewHealth_only _).after ((State.healthLife_only _).after (Only.set_health _ _))).among (by decide)
    · refine .ite ?_ ?_
      · exact ((State.renewHealth_only _).after ((State.orReg_only _ _ _).after (Only.set_health _ _))).among (by decide)
      · exact ((State.renewHealth_only _).after (Only.set_health _ _)).among (by decide)

theorem State.mountDone_only (s : State) :
    Only [.regs, .link, .boot, .nand, .cave, .health, .bat, .fus, .setAt, .setNow] s (s.mountDone) := by
  unfold State.mountDone
  dsimp only
  refine .ite ?_ ?_
  · exact ((State.collectIfLow_only _).after ((State.startRecWrite_only _).after ((State.fusionMount_only _).after
      ((State.batteryMount_only _).after ((State.healthMount_only _ _ _).after (State.mountEnd_only _)))))).among (by decide)
  · exact .refl _ _

theorem State.dueBlock_only (s : State) (b : Nat) : Only [.cave] s (s.dueBlock b) := by
  unfold State.dueBlock
  dsimp only
  exact .ite (Only.set_cave _ _) (.refl _ _)

theorem State.doomBlock_only (s : State) (b : Nat) : Only [.cave] s (s.doomBlock b) := by
  unfold State.doomBlock
  dsimp only
  exact .ite (.refl _ _) (Only.set_cave _ _)

theorem State.countLost_only (s old : State) (row : Nat) :
    Only [.regs, .nand, .cave, .health, .setAt, .setNow] s (s.countLost old row) := by
  unfold State.countLost
  dsimp only
  refine .ite ?_ ?_
  · split
    · exact .ite (((State.advise_only _ _ _).after (State.satCount_only _ _ _ _ _)).among (by decide)) (.refl _ _)
    · exact .refl _ _
  · exact .refl _ _

theorem State.readDone_only (s : State) (row : Nat) (errs : List Nat) :
    Only [.regs, .nand, .cave, .health, .setAt, .setNow] s (s.readDone row errs).2 := by
  unfold State.readDone
  dsimp only
  refine .iteSnd ?_ ?_
  · refine .ite ?_ ?_
    · exact ((State.dueBlock_only _ _).after ((Only.set_cave _ _).after ((State.satCount_only _ _ _ _ _).after
        (State.satCount_only _ _ _ _ _)))).among (by decide)
    · exact ((Only.set_cave _ _).after ((State.satCount_only _ _ _ _ _).after (State.satCount_only _ _ _ _ _))).among (by decide)
  · refine (State.doomBlock_only _ _).step ?_ (by decide)
    refine (State.countLost_only _ _ _).step ?_ (by decide)
    refine .ite ?_ ?_
    · exact ((State.dueBlock_only _ _).after ((Only.set_cave _ _).after ((State.satCount_only _ _ _ _ _).after
        (State.satCount_only _ _ _ _ _)))).among (by decide)
    · exact ((Only.set_cave _ _).after ((State.satCount_only _ _ _ _ _).after (State.satCount_only _ _ _ _ _))).among (by decide)

theorem State.setPage_only (s : State) (row : Nat) (p : NandPage) : Only [.pages] s (s.setPage row p) := by
  unfold State.setPage
  exact Only.set_pages _ _

theorem State.storeJob_only (s : State) (j : NandJob) : Only [.nand] s (s.storeJob j) := by
  unfold State.storeJob
  dsimp only
  exact Only.set_nand _ (by rfl)

theorem State.sessionFetched_only (s : State) (again : Bool) :
    Only [.regs, .link, .nand, .cave, .bat, .setAt, .setNow] s (s.sessionFetched again) := by
  unfold State.sessionFetched
  split
  · exact .ite (.refl _ _) (.ite ((State.addJob_only _ _ _ _).among (by decide)) (State.openPack_only _ _))
  · exact .refl _ _

theorem State.cacheRecord_only (s : State) : Only [.cave, .bat] s (s.cacheRecord) := by
  unfold State.cacheRecord
  dsimp only
  split
  · exact .refl _ _
  · exact .ite ((Only.set_cave _ _).among (by decide)) (((State.setBat_only _ _).after (Only.set_cave _ _)).among (by decide))

theorem State.skipOld_only (s : State) (old : Option (Nat × Nat)) : Only [.nand] s (s.skipOld old) := by
  unfold State.skipOld
  dsimp only
  split
  · exact .refl _ _
  · exact Only.set_nand _ (by rfl)

theorem State.retentionTick_only (s : State) : Only [.regs, .nand, .cave, .setAt, .setNow] s (s.retentionTick) := by
  unfold State.retentionTick
  dsimp only
  refine .ite ?_ ?_
  · refine .ite ?_ ?_
    · refine (State.caveService_only _).step ?_ (by decide)
      refine .ite ?_ ?_
      · exact ((State.reqCheckpoint_only _).after (Only.set_cave _ _)).step (.fold (fun _ _ => (State.dueBlock_only _ _).among (by decide))
          ((Only.set_cave _ _).among (by decide))) (by decide)
      · exact .fold (fun _ _ => (State.dueBlock_only _ _).among (by decide)) ((Only.set_cave _ _).among (by decide))
    · exact (Only.set_cave _ _).among (by decide)
  · exact .refl _ _

theorem State.rindDrain_only (s : State) : Only [.regs, .link, .nand, .cave, .rind, .setAt, .setNow] s (s.rindDrain) := by
  unfold State.rindDrain
  dsimp only
  split
  · refine .ite ?_ ?_
    · exact (State.setRind_only _ _).step (.ite ((State.logOf_only _ _ _).step (.ite ((State.notice_only _ _ _).among (by decide))
        (.refl _ _)) (by decide)) (.ite ((State.notice_only _ _ _).among (by decide)) (.refl _ _))) (by decide)
    · exact (State.setRind_only _ _).step (.ite ((State.logOf_only _ _ _).step (.ite ((State.notice_only _ _ _).among (by decide))
        (.refl _ _)) (by decide)) (.ite ((State.notice_only _ _ _).among (by decide)) (.refl _ _))) (by decide)
  · exact .refl _ _

theorem State.acceptWheel_only (s : State) (v : InLevel) : Only [.regs, .rind] s (s.acceptWheel v).1 := by
  unfold State.acceptWheel
  dsimp only
  exact .ite (((State.setReg_only _ _ _).after (State.setRind_only _ _)).among (by decide))
      ((State.setRind_only _ _).among (by decide))

theorem State.limitMoved_only (s : State) (isOpen : Bool) (was : Option Bool) : Only [.lock] s (s.limitMoved isOpen was) := by
  unfold State.limitMoved
  dsimp only
  exact State.setLock_only _ _

theorem State.setRindIn_only (s : State) (i : Fin 6) (l : InLevel) : Only [.bat, .rind] s (s.setRindIn i l) := by
  unfold State.setRindIn
  dsimp only
  exact (State.setRind_only _ _).step (.ite ((State.setBat_only _ _).among (by decide)) (.refl _ _)) (by decide)

theorem State.wheelLevel_only (s : State) (v : InLevel) : Only [.regs, .rind] s (s.wheelLevel v).1 := by
  unfold State.wheelLevel
  dsimp only
  refine .iteFst ((State.setRind_only _ _).among (by decide)) (.iteFst (State.acceptWheel_only _ _) ((State.setRind_only _ _).among (by decide)))

theorem State.takeSample_only (p : State × RindEvents) (c : Fin 6 × InLevel) :
    Only [.regs, .bat, .rind, .lock] p.1 (State.takeSample p c).1 := by
  unfold State.takeSample
  extract_lets s e i was _ _ _ _ s1 s2 w
  have h2 : Only [.regs, .bat, .rind, .lock] s s2 :=
    .ite ((State.limitMoved_only _ _ _).step ((State.setRindIn_only _ _ _).among (by decide)) (by decide))
    ((State.setRindIn_only _ _ _).among (by decide))
  have hw : Only [.regs, .bat, .rind, .lock] s w.1 := .iteFst (((State.acceptWheel_only _ _).after h2).among (by decide)) h2
  exact .iteFst ((State.setRind_only _ _).among (by decide)) (.iteFst ((State.setRind_only _ _).among (by decide)) hw)

theorem State.rindStuck_only (s : State) (i : Fin 6) :
    Only [.regs, .power, .link, .nand, .cave, .health, .bat, .rind, .lock, .setAt, .setNow] s (s.rindStuck i) := by
  unfold State.rindStuck
  dsimp only
  refine .ite ?_ ?_
  · refine (State.evalRules_only _ _).step ?_ (by decide)
    refine .ite ?_ ?_
    · exact ((State.orReg_only _ _ _).after ((State.advise_only _ _ _).after ((State.notice_only _ _ _).after
        (State.setRindIn_only _ _ _)))).step (.iteFst ((State.limitDecide_only _).among (by decide)) (.refl _ _)) (by decide)
    · exact ((State.advise_only _ _ _).after ((State.notice_only _ _ _).after (State.setRindIn_only _ _ _))).step (.iteFst
        ((State.limitDecide_only _).among (by decide)) (.refl _ _)) (by decide)
  · exact .refl _ _

theorem State.ownSources_only (s : State) : Only [.power, .timers] s (s.ownSources) := by
  unfold State.ownSources
  dsimp only
  exact .lit rfl (fun p hp => by cases p <;> simp at hp <;> rfl) (.refl _ _)

theorem State.accountStandby_only (s : State) (t : Int) (n : Nat) :
    Only [.regs, .nand, .cave, .health, .setAt, .setNow] s (s.accountStandby t n) := by
  unfold State.accountStandby
  dsimp only
  exact ((State.accountLife_only _ _ _).after ((Only.set_health _ _).after (State.setHealthTemp_only _ _))).among (by decide)

theorem State.accountSleep_only (s : State) : Only [.regs, .nand, .cave, .health, .setAt, .setNow] s (s.accountSleep) := by
  unfold State.accountSleep
  exact .ite (State.accountStandby_only _ _ _) (.refl _ _)

theorem State.forgetSram_only (s : State) : Only [.free, .sram, .sramGen] s (s.forgetSram) := by
  unfold State.forgetSram
  dsimp only
  exact .lit rfl (fun p hp => by cases p <;> simp at hp <;> rfl) ((State.drawFree_only _).among (by decide))

theorem State.wakeWheels_only (s : State) : Only [.regs, .boot, .wheels, .phases, .bias, .setAt, .setNow] s (s.wakeWheels) := by
  unfold State.wakeWheels
  dsimp only
  exact (State.phaseResetAll_only _).step (.lit rfl (fun p hp => by cases p <;> simp at hp <;> rfl) (.refl _ _)) (by decide)

theorem State.outputsWake_only (s : State) : Only [.outs] s (s.outputsWake) := by
  unfold State.outputsWake
  exact Only.set_outs _ _

theorem State.wakeWords_only (s : State) : Only [.regs] s (s.wakeWords) := by
  unfold State.wakeWords
  dsimp only
  exact ((State.clearWords_only _ _ _).after ((State.clearWords_only _ _ _).after ((State.clearWords_only _ _ _).after
      (State.clearWords_only _ _ _)))).step (.fold (fun _ _ => ((State.clearWords_only _ _ _).after
      (State.clearWords_only _ _ _)).among (by decide)) (.refl _ _)) (by decide)

theorem State.clearDma_only (s : State) : Only [.dma] s (s.clearDma) := by
  unfold State.clearDma
  exact Only.set_dma _ _

theorem State.wakeDma_only (s : State) : Only [.dma] s (s.wakeDma) := by
  unfold State.wakeDma
  exact (State.autostartDma_only _).step (.fold (fun _ _ => State.resetCh_only _ _ _ _) (State.clearDma_only _)) (by decide)

theorem State.wakeConverter_only (s : State) (x : Conv) : Only [.regs, .adcA, .adcB] s (s.wakeConverter x) := by
  unfold State.wakeConverter
  dsimp only
  exact ((State.clearResults_only _ _).after (State.setAdc_only _ _ _)).among (by decide)

theorem State.clearSequences_only (s : State) : Only [.adcA, .adcB, .regA, .injA, .regB, .injB] s (s.clearSequences) := by
  unfold State.clearSequences
  dsimp only
  exact .lit rfl (fun p hp => by cases p <;> simp at hp <;> rfl) (.refl _ _)

theorem State.wakeLink_only (s : State) : Only [.link] s (s.wakeLink) := by
  unfold State.wakeLink
  dsimp only
  exact Only.set_link _ _

theorem State.batteryWake_only (s : State) (src : Nat) :
    Only [.regs, .link, .nand, .cave, .health, .bat, .setAt, .setNow] s (s.batteryWake src) := by
  unfold State.batteryWake
  dsimp only
  exact ((State.idDeadline_only _).after (State.setBat_only _ _)).step (.ite ((State.countInterval_only _ _ _).among (by decide))
      (.refl _ _)) (by decide)

theorem State.lockWake_only (s : State) : Only [.regs, .link, .lock, .setAt, .setNow] s (s.lockWake) := by
  unfold State.lockWake
  dsimp only
  exact .ite (((State.lockNotice_only _).after (State.setLock_only _ _)).among (by decide))
      ((State.setLock_only _ _).among (by decide))

theorem State.wakeWheelNotices_only (s before : State) : Only [.regs, .link, .setAt, .setNow] s (s.wakeWheelNotices before) := by
  unfold State.wakeWheelNotices
  dsimp only
  exact .fold (fun _ _ => .ite (.refl _ _) (State.notice_only _ _ _)) (.refl _ _)

theorem State.repStep_only (s : State) (n : Nat) : Only [.bat] s (s.repStep n) := by
  unfold State.repStep
  dsimp only
  split
  · exact .ite (State.setBat_only _ _) (.refl _ _)
  · exact .refl _ _

theorem State.standbyCurd_only (s : State) (v : Nat) (code : BitVec 24) (excess : Bool) (ntc : List Nat) :
    Only [.regs, .power, .link, .nand, .cave, .health, .bat, .setAt, .setNow] s (s.standbyCurd v code excess ntc) := by
  unfold State.standbyCurd
  dsimp only
  refine .ite ?_ ?_
  · refine .ite ?_ ?_
    · refine (State.accountStandby_only _ _ _).step ?_ (by decide)
      refine (State.epochAdvance_only _).step ?_ (by decide)
      refine (State.setBat_only _ _).step ?_ (by decide)
      refine (State.repStep_only _ _).step ?_ (by decide)
      refine .ite ?_ ?_
      · exact ((State.histStep_only _ _ _ _).after ((State.extremeStep_only _ _).after ((State.countSoc_only _).after
          ((State.setBat_only _ _).after ((State.nextStandbyCurd_only _).after ((State.countInterval_only _ _ _).after
          ((State.ntcFaults_only _ _).after ((State.publishCurd_only _ _ _ _ _ _).after (State.presenceStep_only _ _))))))))).among (by decide)
      · exact ((State.extremeStep_only _ _).after ((State.countSoc_only _).after ((State.setBat_only _ _).after
          ((State.nextStandbyCurd_only _).after ((State.countInterval_only _ _ _).after ((State.ntcFaults_only _ _).after
          ((State.publishCurd_only _ _ _ _ _ _).after (State.presenceStep_only _ _)))))))).among (by decide)
    · refine (State.requestWake_only _ _).step ?_ (by decide)
      refine (State.accountStandby_only _ _ _).step ?_ (by decide)
      refine (State.epochAdvance_only _).step ?_ (by decide)
      refine (State.setBat_only _ _).step ?_ (by decide)
      refine (State.repStep_only _ _).step ?_ (by decide)
      refine .ite ?_ ?_
      · exact ((State.histStep_only _ _ _ _).after ((State.extremeStep_only _ _).after ((State.countSoc_only _).after
          ((State.setBat_only _ _).after ((State.nextStandbyCurd_only _).after ((State.countInterval_only _ _ _).after
          ((State.ntcFaults_only _ _).after ((State.publishCurd_only _ _ _ _ _ _).after (State.presenceStep_only _ _))))))))).among (by decide)
      · exact ((State.extremeStep_only _ _).after ((State.countSoc_only _).after ((State.setBat_only _ _).after
          ((State.nextStandbyCurd_only _).after ((State.countInterval_only _ _ _).after ((State.ntcFaults_only _ _).after
          ((State.publishCurd_only _ _ _ _ _ _).after (State.presenceStep_only _ _)))))))).among (by decide)
  · exact .refl _ _

theorem State.stepTwo_only (s : State) :
    Only pointParts s (s.stepTwo) := by
  unfold State.stepTwo
  exact .ite (.refl _ _) (State.commitPoint_only _)

theorem State.amendNotice_only (s : State) (code : Nat) (old new extra : List Byte) :
    Only [.regs, .link, .setAt, .setNow] s (s.amendNotice code old new extra) := by
  unfold State.amendNotice
  dsimp only
  exact .ite (((State.admitAll_only _ _).after ((Only.set_link _ _).after (State.openCycle_only _))).among (by decide))
      (State.notice_only _ _ _)

theorem State.timerFlags_only (s : State) (n : Fin 16) (m : Nat) : Only [.regs, .link, .timers, .setAt, .setNow] s (s.timerFlags n m) := by
  unfold State.timerFlags
  dsimp only
  exact .ite ((State.orReg_only _ _ _).among (by decide)) (((State.amendNotice_only _ _ _ _ _).after ((State.setTimer_only _ _ _).after
      (State.orReg_only _ _ _))).among (by decide))

theorem State.timerMatchA_only (s : State) (n : Fin 16) :
    Only [.regs, .power, .link, .timers, .regA, .injA, .regB, .injB, .dma, .setAt, .setNow] s (s.timerMatchA n) := by
  unfold State.timerMatchA
  dsimp only
  refine .ite ?_ ?_
  · refine .ite ?_ ?_
    · exact ((State.requestWake_only _ _).after ((State.raise_only _ _ _).after ((State.timerFlags_only _ _ _).after
        (State.setTimer_only _ _ _)))).among (by decide)
    · exact ((State.raise_only _ _ _).after ((State.timerFlags_only _ _ _).after (State.setTimer_only _ _ _))).among (by decide)
  · exact .refl _ _

theorem State.timerMatchB_only (s : State) (n : Fin 16) :
    Only [.regs, .power, .link, .timers, .regA, .injA, .regB, .injB, .dma, .setAt, .setNow] s (s.timerMatchB n) := by
  unfold State.timerMatchB
  dsimp only
  refine .ite ?_ ?_
  · refine .ite ?_ ?_
    · exact ((State.requestWake_only _ _).after ((State.raise_only _ _ _).after ((State.timerFlags_only _ _ _).after
        (State.setTimer_only _ _ _)))).among (by decide)
    · exact ((State.raise_only _ _ _).after ((State.timerFlags_only _ _ _).after (State.setTimer_only _ _ _))).among (by decide)
  · exact .refl _ _

theorem State.releaseDue_only (s : State) (n : Fin 16) : Only [.timers] s (s.releaseDue n) := by
  unfold State.releaseDue
  dsimp only
  exact .ite (.ite (State.setTimer_only _ _ _) (State.releaseTimer_only _ _)) (.refl _ _)

theorem State.timerRelease_only (s : State) (m : Nat) : Only [.timers] s (s.timerRelease m) := by
  unfold State.timerRelease
  exact .fold (fun _ _ => State.releaseDue_only _ _) (State.gstart_only _ _ _)

theorem State.abandonBias_only (s : State) (i : Nat) : Only [.bias] s (s.abandonBias i) := by
  unfold State.abandonBias
  dsimp only
  exact .ite (Only.set_bias _ _) (.refl _ _)

theorem State.setTooth_only (s : State) (w : Fin 4) (onB : Bool) (l : InLevel) (t : Nat) : Only [.wheels] s (s.setTooth w onB l t) := by
  unfold State.setTooth
  dsimp only
  exact State.setWheel_only _ _ _

theorem State.angleTestAbandon_only (s : State) :
    Only edgeParts
      s (s.angleTestAbandon) := by
  unfold State.angleTestAbandon
  split
  · exact State.angleTestStop_only _ _
  · exact .refl _ _

theorem State.wheelCounts_only (s : State) (w : Fin 4) (r : EdgeReport) : Only [.regs, .setAt, .setNow] s (s.wheelCounts w r) := by
  unfold State.wheelCounts
  extract_lets b s1 s2 s3 s4
  have hs1 : Only [.regs, .setAt, .setNow] s s1 := .ite (State.satInc_only _ _ _ _) (.refl _ _)
  have hs2 : Only [.regs, .setAt, .setNow] s s2 := .ite (((State.orReg_only _ _ _).after
      ((State.satInc_only _ _ _ _).after hs1)).among (by decide)) hs1
  have hs3 : Only [.regs, .setAt, .setNow] s s3 := .ite (((State.satInc_only _ _ _ _).after hs2).among (by decide)) hs2
  have hs4 : Only [.regs, .setAt, .setNow] s s4 := .ite (((State.orReg_only _ _ _).after hs3).among (by decide)) hs3
  exact .ite (((State.satInc_only _ _ _ _).after hs4).among (by decide)) hs4

theorem State.phaseRestore_only (s : State) (k : Fin 2) (u : PhaseCycle) :
    Only [.regs, .phases, .setAt, .setNow] s (s.phaseRestore k u) := by
  unfold State.phaseRestore
  dsimp only
  exact .fold (fun _ _ => (State.setReg_only _ _ _).among (by decide)) (((State.putNote_only _ _ _).after
      (State.setPhase_only _ _ _)).among (by decide))

theorem State.phaseSample_only (s : State) (k : Fin 2) (tB thetaB thetaA : Nat) :
    Only [.regs, .phases] s (s.phaseSample k tB thetaB thetaA) := by
  unfold State.phaseSample
  dsimp only
  refine .ite ?_ ?_
  · exact (State.setPhase_only _ _ _).among (by decide)
  · exact ((State.setReg_only _ _ _).after ((State.setReg_only _ _ _).after ((State.setReg_only _ _ _).after
      ((State.setReg_only _ _ _).after (State.setPhase_only _ _ _))))).among (by decide)

theorem State.phaseOnA_only (s : State) (k : Fin 2) (e : PhaseEdgeA) : Only [.regs, .phases, .setAt, .setNow] s (s.phaseOnA k e) := by
  unfold State.phaseOnA
  dsimp only
  refine .ite ?_ ?_
  · exact State.phaseReset_only _ _
  · exact .ite (State.phaseDropWaiting_only _ _) (.fold (fun _ _ => (State.phaseSample_only _ _ _ _ _).among (by decide))
      ((State.setPhase_only _ _ _).among (by decide)))

theorem State.phaseOnB_only (s0 : State) (k : Fin 2) (e : PhaseEdgeB) : Only [.regs, .phases, .setAt, .setNow] s0 (s0.phaseOnB k e) := by
  unfold State.phaseOnB
  dsimp only
  refine .ite ?_ ?_
  · refine .ite ?_ ?_
    · refine .ite ?_ ?_
      · exact (State.setPhase_only _ _ _).step (.ite (State.phaseReset_only _ _) (.refl _ _)) (by decide)
      · exact (State.phaseDiscard_only _ _ _).step (.ite (State.phaseReset_only _ _) (.refl _ _)) (by decide)
    · refine .ite ?_ ?_
      · exact (State.phaseDiscard_only _ _ _).step (.ite (State.phaseReset_only _ _) (.refl _ _)) (by decide)
      · exact (State.phaseSample_only _ _ _ _ _).step (.ite (State.phaseReset_only _ _) (.refl _ _)) (by decide)
  · exact (State.phaseDiscard_only _ _ _).step (.ite (State.phaseReset_only _ _) (.refl _ _)) (by decide)

theorem State.phaseRun_only (s : State) (k : Fin 2) (u : PhaseCycle) : Only [.regs, .phases, .setAt, .setNow] s (s.phaseRun k u) := by
  unfold State.phaseRun
  dsimp only
  refine (State.setPhase_only _ _ _).step ?_ (by decide)
  split
  · refine (State.phaseOnB_only _ _ _).step ?_ (by decide)
    split
    · exact ((State.phaseOnA_only _ _ _).after (State.phaseRestore_only _ _ _)).among (by decide)
    · exact State.phaseRestore_only _ _ _
  · split
    · exact ((State.phaseOnA_only _ _ _).after (State.phaseRestore_only _ _ _)).among (by decide)
    · exact State.phaseRestore_only _ _ _

theorem State.phaseEdge_only (s : State) (w : Fin 4) (old new : WheelSt) (rep : EdgeReport) :
    Only [.regs, .phases, .setAt, .setNow] s (s.phaseEdge w old new rep) := by
  unfold State.phaseEdge
  dsimp only
  exact .fold (fun _ _ => .ite (.refl _ _) (.ite (State.phaseRun_only _ _ _) (.ite (State.phaseRun_only _ _ _) (.refl _ _)))) (.refl _ _)

theorem State.trackEdge_only (s : State) (w : Fin 4) (t : Nat) (qd : Dir) :
    Only [.regs, .power, .link, .cfg, .wheels, .phases, .outs, .setAt, .setNow] s (s.trackEdge w t qd).2 := by
  unfold State.trackEdge
  dsimp only
  refine .iteSnd ?_ ?_
  · refine (State.phaseEdge_only _ _ _ _ _).step ?_ (by decide)
    refine (State.wheelMoved_only _ _ _).step ?_ (by decide)
    refine .ite ?_ ?_
    · exact ((Only.set_power _ _).after ((State.wheelCounts_only _ _ _).after ((State.watchZero_only _ _ _).after
        ((State.setWheel_only _ _ _).after (State.catchFallback_only _ _))))).among (by decide)
    · exact ((State.wheelCounts_only _ _ _).after ((State.watchZero_only _ _ _).after ((State.setWheel_only _ _ _).after
        (State.catchFallback_only _ _)))).among (by decide)
  · exact ((State.wheelCounts_only _ _ _).after ((State.watchZero_only _ _ _).after ((State.setWheel_only _ _ _).after
      (State.catchFallback_only _ _)))).among (by decide)

theorem State.showDir_only (s : State) (w : Fin 4) (qd : Dir) : Only [.wheels, .outs] s (s.showDir w qd) := by
  unfold State.showDir
  dsimp only
  exact .ite (((State.setWheel_only _ _ _).after (State.catchFallback_only _ _)).among (by decide)) (.refl _ _)

theorem State.transitionA_only (s : State) (w : Fin 4) (rising : Bool) (peak t : Nat) (old : WheelSt) :
    Only [.regs, .power, .link, .cfg, .wheels, .phases, .outs, .timers, .regA, .injA, .regB, .injB, .dma, .setAt, .setNow]
      s (s.transitionA w rising peak t old).2 := by
  unfold State.transitionA
  dsimp only
  refine .iteSnd ?_ ?_
  · refine .iteSnd ?_ ?_
    · refine .iteSnd ?_ ?_
      · exact ((State.angleTestAbandon_only _).after (State.setWheel_only _ _ _)).among (by decide)
      · exact ((State.trackEdge_only _ _ _ _).after ((State.showDir_only _ _ _).after (State.setWheel_only _ _ _))).among (by decide)
    · exact .refl _ _
  · refine .iteSnd ?_ ?_
    · exact (State.angleTestAbandon_only _).among (by decide)
    · exact .iteSnd (((State.trackEdge_only _ _ _ _).after (State.showDir_only _ _ _)).among (by decide))
        ((State.showDir_only _ _ _).among (by decide))

theorem State.toothEdge_only (s : State) (w : Fin 4) (onB : Bool) (level : InLevel) (peak : Nat) :
    Only [.regs, .power, .link, .cfg, .wheels, .phases, .bias, .outs, .timers, .regA, .injA, .regB, .injB, .dma, .setAt, .setNow]
      s (s.toothEdge w onB level peak).2 := by
  have noted (t i : Nat) : Only [.regs, .power, .link, .cfg, .wheels, .phases, .bias, .outs, .timers, .regA, .injA, .regB, .injB, .dma, .setAt,
      .setNow] s (((s.catchFallback w).setTooth w onB level t).abandonBias i) :=
    (State.abandonBias_only _ _).step ((State.setTooth_only _ _ _ _ _).step
    ((State.catchFallback_only _ _).among (by decide)) (by decide)) (by decide)
  unfold State.toothEdge
  extract_lets old was t s1
  have h1 := noted t (toothInput w onB)
  refine .iteSnd (.refl _ _) (.iteSnd ?_ ?_)
  · dsimp only
    exact h1
  exact ((State.transitionA_only _ _ _ _ _ _).after h1).among (by decide)

theorem State.toothStuck_only (s : State) (w : Fin 4) (onB : Bool) :
    Only [.regs, .link, .wheels, .nand, .cave, .health, .setAt, .setNow] s (s.toothStuck w onB) := by
  unfold State.toothStuck
  dsimp only
  exact .ite (((State.advise_only _ _ _).after ((State.notice_only _ _ _).after (State.setWheel_only _ _ _))).among (by decide)) (.refl _ _)

theorem State.vdd5Late_only (s : State) : Only [.regs, .nand, .cave, .health, .setAt, .setNow] s (s.vdd5Late) := by
  unfold State.vdd5Late
  exact ((State.advise_only _ _ _).after (State.orReg_only _ _ _)).among (by decide)

theorem State.lockFault_only (s : State) (cause : Nat) :
    Only [.regs, .power, .link, .nand, .cave, .health, .rind, .lock, .setAt, .setNow] s (s.lockFault cause) := by
  unfold State.lockFault
  exact .ite (.refl _ _) (((State.evalRules_only _ _).after (State.enterFault_only _ _)).among (by decide))

theorem State.lockSupply_only (s : State) :
    Only [.regs, .power, .link, .nand, .cave, .health, .rind, .lock, .setAt, .setNow] s (s.lockSupply) := by
  unfold State.lockSupply
  dsimp only
  exact (State.setLock_only _ _).step (.ite (State.lockFault_only _ _) (.refl _ _)) (by decide)

theorem State.outputsVioLow_only (s : State) : Only [.regs, .outs, .setAt, .setNow] s (s.outputsVioLow) := by
  unfold State.outputsVioLow
  exact .fold (fun _ _ => ((State.beginHold_only _ _ _).after (State.flushQueue_only _ _)).among (by decide)) (.refl _ _)

theorem State.outputsVioOk_only (s : State) : Only [.regs, .outs, .setAt, .setNow] s (s.outputsVioOk) := by
  unfold State.outputsVioOk
  dsimp only
  exact .fold (fun _ _ => .ite (((State.settle_only _ _).after (State.setOut_only _ _ _)).among (by decide)) (.refl _ _)) (.refl _ _)

theorem State.wearLevelCheck_only (s : State) : Only [.nand, .cave] s (s.wearLevelCheck) := by
  unfold State.wearLevelCheck
  dsimp only
  refine .ite ?_ ?_
  · split
    · exact .ite (.ite (.refl _ _) (((State.startMove_only _ _ _).after (Only.set_cave _ _)).among (by decide)))
        ((Only.set_cave _ _).among (by decide))
    · exact (Only.set_cave _ _).among (by decide)
  · exact .refl _ _

theorem State.healthWheel_only (s : State) (w : Nat) : Only [.regs, .nand, .cave, .health, .setAt, .setNow] s (s.healthWheel w) := by
  unfold State.healthWheel
  dsimp only
  refine .ite ?_ ?_
  · exact (State.noteSet_only _ _ _).among (by decide)
  · exact ((State.writeHealth_only _).after ((State.replaceNotice_only _ _ _).after ((Only.set_health _ _).after
      (State.noteSet_only _ _ _)))).among (by decide)

theorem State.wrapEnd_only (s : State) (n : Fin 16) :
    Only [.regs, .link, .timers, .regA, .injA, .regB, .injB, .dma, .setAt, .setNow] s (s.wrapEnd n) := by
  unfold State.wrapEnd
  exact ((State.raise_only _ _ _).after (State.timerFlags_only _ _ _)).among (by decide)

end Sys2Proof.Machine
end

section
/-!
PROOFS. Reads of the blocks of CLK_LF, served from their mirror (R22, R43).
-/

namespace Sys2Proof.Machine

/-- The sparse list of the values of a function at some places holds those values there. -/
theorem Sparse.get_taken {α : Type} [DecidableEq α] (d f : Nat → α) (l : List Nat) (a : Nat) :
    Sparse.get d ((l.map (fun b => (b, f b))).filter (fun p => p.2 != d p.1)) a = if a ∈ l then f a else d a := by
  induction l with
  | nil => rfl
  | cons b l ih =>
    by_cases hd : f b = d b
    · by_cases hab : a = b
      · subst hab
        simp [hd, ih]
      · simp [hd, ih, hab]
    · by_cases hab : a = b
      · subst hab
        simp [hd, Sparse.get]
      · simp [hd, Sparse.get, hab, ih]

/-- The mirror holds what its blocks show the link at this edge. -/
theorem State.mirror_takeMirror (s : State) {a : Nat} (h : a ∈ mirrorAddrs) :
    Sparse.get resetWord s.takeMirror.mirror a = s.view .link a := by
  unfold State.takeMirror
  rw [Sparse.get_taken resetWord (fun a => s.view .link a), if_pos h]

/-- Of the rows of AON, LCK and PWR, those of AON_EVOVF and LCK_CNT alone have RC fields. -/
theorem rc_of_pd0_row : ∀ k ∈ [13, 14, 17], ∀ r ∈ blockRows k,
    r.rc = 0 ∨ ((r.first = 0xD001C ∨ r.first = 0xE001C) ∧ r.stride = 0x10000 ∧ r.count = 1 ∧ r.subs = 1) := by decide

theorem block_of_inPd0 {a : Nat} (h : inPd0 a = true) : a / 0x10000 ∈ [13, 14, 17] := by
  simp only [inPd0, Bool.or_eq_true, Bool.and_eq_true, decide_eq_true_eq] at h
  simp only [List.mem_cons, List.not_mem_nil, or_false]
  omega

theorem RegRow.first_of_covers {r : RegRow} {a : Nat} (h : r.covers a = true) (hs : r.stride = 0x10000) (hc : r.count = 1) (hb : r.subs = 1) :
    a = r.first := by
  simp only [RegRow.covers, hs, hc, hb, Bool.and_eq_true, decide_eq_true_eq] at h
  omega

theorem rc_of_inPd0 {a : Nat} {r : RegRow} (h : inPd0 a = true) (hr : regRow a = some r) (hov : a ≠ 0xD001C) (hcnt : a ≠ 0xE001C) :
    r.rc = 0 := by
  unfold regRow at hr
  have covers : r.covers a = true := List.find?_some (p := fun r : RegRow => r.covers a) hr
  rcases rc_of_pd0_row _ (block_of_inPd0 h) r (List.mem_of_find?_eq_some hr) with rc | ⟨first, stride, count, subs⟩
  · exact rc
  · have at_first := r.first_of_covers covers stride count subs
    omega

/-- A read by a master of a word of these blocks is served from the mirror. -/
theorem State.busReadWord_inPd0 {s : State} (m : Master) (jornus : Bool) {a : Nat} (hs : s.life.state ≠ .scrap) (h : inPd0 a = true) :
    s.busReadWord m jornus a = s.readMirror a := by
  have range := h
  simp only [inPd0, Bool.or_eq_true, Bool.and_eq_true, decide_eq_true_eq] at range
  have done : s.accessFails m jornus a false = false := by
    have blocks : inBlocks a = true := by simp only [inBlocks, decide_eq_true_eq]; omega
    have stored : isStored a = false := by simp [isStored]; omega
    have six : a / 0x10000 ≠ 6 ∧ a / 0x10000 ≠ 7 ∧ a / 0x10000 ≠ 12 := by omega
    simp [State.accessFails, implemented, blocks, stored, hs, six]
  have sram : inSram a = false := by simp [inSram]; omega
  have stored : isStored a = false := by simp [isStored]; omega
  have prog : inProgStore a = false := by simp [inProgStore]; omega
  have latched : latchedRead a = none := if_neg (by omega)
  simp [State.busReadWord, done, sram, stored, prog, latched, h]

/-- It answers the mirror's word, but for WPEND in the first word of a block. -/
theorem State.readMirror_word {s : State} {a : Nat} (h : a % 0x10000 ≠ 0) :
    (s.readMirror a).word = Sparse.get resetWord s.mirror a ∧ (s.readMirror a).err = none := by
  simp [State.readMirror, h]

theorem State.readMirror_reg (s : State) {a b : Nat} (h : b ≠ a) : (s.readMirror a).next.reg b = s.reg b := by
  unfold State.readMirror
  dsimp only
  cases regRow a with
  | none => rfl
  | some r =>
    dsimp only
    split
    · rfl
    · exact State.reg_setReg_other _ _ h

theorem State.readMirror_plain {s : State} {a : Nat} (h : inPd0 a = true) (hov : a ≠ 0xD001C) (hcnt : a ≠ 0xE001C) :
    (s.readMirror a).next = s := by
  unfold State.readMirror
  dsimp only
  cases hr : regRow a with
  | none => rfl
  | some r => exact if_pos (by simp only [rc_of_inPd0 h hr hov hcnt]; rfl)

/-- Settles O60: a read is served from the mirror, and what the mirror holds is what the blocks showed when it was taken. -/
theorem readsOfClkLfBlocks : Obligations.ReadsOfClkLfBlocks := by
  refine ⟨fun e a h => e.mirror_takeMirror h, fun e m a hrun hscrap hpd ha => ?_⟩
  have read : e.busRead' m a = { (e.readMirror a).next with busRead := (e.readMirror a).word, busError := (e.readMirror a).err.isSome } := by
    rw [State.busRead', if_pos hrun, State.busReadWord_inPd0 m true hscrap hpd]
  obtain ⟨word, err⟩ := State.readMirror_word (s := e) ha
  rw [word, err] at read
  rw [read]
  refine ⟨rfl, rfl, fun b hb => e.readMirror_reg hb, fun hov hcnt => ?_⟩
  rw [State.readMirror_plain hpd hov hcnt]
  rfl

end Sys2Proof.Machine
end

section
/-!
PROOFS. Which register words an operation can change, and what the forming of levels leaves of an output (R263).
-/

namespace Sys2Proof.Machine

/-! ### Register words -/

/-- From `s` to `t` no register word changes but those of the list. -/
def Words (l : List Nat) (s t : State) : Prop := ∀ a, a ∉ l → t.reg a = s.reg a

section
variable {l l' : List Nat} {k s t u : State}

theorem Words.refl (l : List Nat) (s : State) : Words l s s := fun _ _ => rfl

theorem Words.trans (h : Words l s t) (k : Words l t u) : Words l s u := fun a ha => (k a ha).trans (h a ha)

theorem Words.mono (h : Words l s t) (hl : l ⊆ l') : Words l' s t := fun a ha => h a fun hm => ha (hl hm)

theorem Words.step (h : Words l' s t) (hk : Words l k s) (hl : l' ⊆ l) : Words l k t := hk.trans (h.mono hl)

/-- One more operation: the addresses add up. -/
theorem Words.after (h : Words l' s t) (hk : Words l k s) : Words (l ++ l') k t :=
  (hk.mono (List.subset_append_left _ _)).trans (h.mono (List.subset_append_right _ _))

theorem Words.among (h : Words l' s t) (hl : l' ⊆ l) : Words l s t := h.mono hl

theorem Words.ite {c : Prop} [Decidable c] (ht : Words l s t) (hu : Words l s u) : Words l s (if c then t else u) := by
  split <;> assumption

theorem Words.fold {α : Type} {f : State → α → State} {xs : List α} (hf : ∀ s x, Words l s (f s x)) (h : Words l k s) :
    Words l k (xs.foldl f s) := by
  induction xs generalizing s with
  | nil => exact h
  | cons x xs ih => exact ih (h.trans (hf s x))

/-- An operation that leaves the register words alone. -/
theorem Words.of {parts : List Part} (h : Only parts s t) (hr : Part.regs ∉ parts) : Words l s t := fun a _ =>
  congrArg (Sparse.get resetWord · a) (h .regs hr)

theorem Words.stepOf {parts : List Part} (h : Only parts s t) (hk : Words l k s) (hr : Part.regs ∉ parts) : Words l k t :=
  hk.trans (.of h hr)

theorem Words.set_reg (s : State) (a : Nat) (w : Word) : Words [a] s (s.setReg a w) := fun _ hb =>
  s.reg_setReg_other w fun e => hb (e ▸ .head _)

end

theorem State.orReg_words (s : State) (a m : Nat) : Words [a] s (s.orReg a m) := fun _ hb => s.reg_orReg_other m fun e => hb (e ▸ .head _)

theorem State.satInc_words (s : State) (a hi lo : Nat) : Words [a] s (s.satInc a hi lo) := fun _ hb =>
  s.reg_satInc_other hi lo fun e => hb (e ▸ .head _)

theorem NoticeFrame.words {s t : State} (h : NoticeFrame s t) : Words [0x10034] s t := fun a ha => h.reg a fun e => ha (e ▸ .head _)

theorem State.notice_words (s : State) (code : Nat) (p : List Byte) : Words [0x10034] s (s.notice code p) := (s.notice_frame code p).words

theorem State.logOf_words (s : State) (src : Nat) (p : List Byte) : Words [0xA0058] s (s.logOf src p) := fun a ha =>
  (s.logOf_frame src p).reg a fun e => ha (e ▸ .head _)

theorem State.healthLog_words (s : State) (event cause unit : Nat) : Words [0xA0058] s (s.healthLog event cause unit) :=
  s.logOf_words _ _

/-- An ADVISE bit and the health log (R577, R584). -/
theorem State.advise_words (s : State) (b unit : Nat) : Words [0x100004, 0xA0058] s (s.advise b unit) := by
  have bit : Words [0x100004, 0xA0058] s (s.orReg 0x100004 (2 ^ b)) := (s.orReg_words _ _).among (by decide)
  unfold State.advise
  exact .ite bit ((State.healthLog_words _ _ _ _).step (.stepOf (State.healthNotice_only _ _ _ _) bit (by decide)) (by decide))

theorem State.clockNotice_words (s : State) : Words [0x10034] s s.clockNotice := .ite (s.notice_words _ _) (.of (s.setPower_only _) (by decide))

/-- A flag that is set stands where no later operation touches its word. -/
theorem Words.bit {l : List Nat} {s t : State} (h : Words l s t) {a i : Nat} (hs : s.bit a i = true) (ha : a ∉ l) :
    t.bit a i = true := by
  rw [State.bit, h a ha]
  exact hs

theorem State.advise_bit (s : State) (b unit : Nat) (hb : b < 32) : (s.advise b unit).bit 0x100004 b = true := by
  have bit : (s.orReg 0x100004 (2 ^ b)).bit 0x100004 b = true := s.bit_orReg_same _ _ hb Nat.testBit_two_pow_self
  unfold State.advise
  dsimp only
  split
  · exact bit
  · exact ((State.healthLog_words _ _ _ _).step (.of (State.healthNotice_only _ _ _ _) (by decide)) (List.Subset.refl _)).bit bit (by decide)

/-! ### Outputs -/

theorem State.outs_setOut (s : State) (n m : Fin 32) (o : OutSt) : (s.setOut n o).outs[m] = if m = n then o else s.outs[m] := by
  by_cases h : m = n
  · subst h
    simp
  · have apart : n.val ≠ m.val := fun e => h (Fin.ext e.symm)
    simp [h, apart]

/-- An output without what the forming of its logical level keeps of it. -/
def OutSt.command (o : OutSt) : OutSt := { o with lvl := false, prev := false, lvlAt := 0, offSince := 0 }

theorem OutSt.command_withLevel (o : OutSt) (now : Nat) (l : Bool) : (o.withLevel now l).command = o.command := rfl

/-- Settling a pair forms levels and leaves the rest of every output. -/
theorem State.settlePair_command (s : State) (k : Fin 16) (m : Fin 32) :
    ((s.settlePair k).outs[m]).command = (s.outs[m]).command := by
  have formed (t : State) (n : Fin 32) (l : Bool) : ((t.setOut n ((t.outs[n]).withLevel s.now l)).outs[m]).command = (t.outs[m]).command := by
    rw [State.outs_setOut]
    split
    · rename_i e
      rw [OutSt.command_withLevel, e]
    · rfl
  have raised (t : State) (c : Bool) (a w : Nat) : (if c then t.orReg a w else t).outs = t.outs := by split <;> rfl
  unfold State.settlePair
  dsimp only
  rw [raised, formed, formed]

theorem State.settle_command (s : State) (n m : Fin 32) : ((s.settle n).outs[m]).command = (s.outs[m]).command :=
  s.settlePair_command _ m

theorem State.settlePair_words (s : State) (k : Fin 16) : Words [0x40860] s (s.settlePair k) := by
  have formed {u t : State} (n m : Fin 32) (o p : OutSt) (h : Words [0x40860] u t) : Words [0x40860] u ((t.setOut n o).setOut m p) :=
    .stepOf ((State.setOut_only _ _ _).after (State.setOut_only _ _ _)) h (by decide)
  unfold State.settlePair
  dsimp only
  exact .ite ((State.orReg_words _ _ _).step (formed _ _ _ _ (.refl _ _)) (by decide)) (formed _ _ _ _ (.refl _ _))

/-- What every step of a run over the outputs establishes of its own one and keeps of the others holds of all of them after it. -/
theorem outputs_fold {f : State → Fin 32 → State} {P : OutSt → Prop} (own : ∀ s n, P (f s n).outs[n])
    (keep : ∀ s n m, m ≠ n → P s.outs[m] → P (f s n).outs[m]) (l : List (Fin 32)) (s : State) (m : Fin 32)
    (hm : m ∈ l ∨ P s.outs[m]) : P (l.foldl f s).outs[m] := by
  induction l generalizing s with
  | nil => exact hm.resolve_left (List.not_mem_nil)
  | cons n l ih =>
    refine ih (f s n) ?_
    by_cases e : m = n
    · exact .inr (e ▸ own s n)
    · rcases hm with hm | hm
      · exact .inl ((List.mem_cons.1 hm).resolve_left e)
      · exact .inr (keep s n m e hm)

end Sys2Proof.Machine
end

section
/-!
PROOFS. Supplies, the LF source, domains and the requests for STANDBY and SHIP (R40 to R51, R61, R73, R76, R79).
-/

namespace Sys2Proof.Machine

/-! ### Functions of the state that an operation keeps -/

/-- From `s` to `t` the value of `φ` stays. -/
def Keeps {α : Type} (φ : State → α) (s t : State) : Prop := φ t = φ s

section
variable {α : Type} {φ : State → α} {k s t u : State}

theorem Keeps.refl (φ : State → α) (s : State) : Keeps φ s s := rfl

theorem Keeps.trans (h : Keeps φ s t) (k : Keeps φ t u) : Keeps φ s u := Eq.trans k h

theorem Keeps.ite {c : Prop} [Decidable c] (ht : Keeps φ s t) (hu : Keeps φ s u) : Keeps φ s (if c then t else u) := by
  split <;> assumption

theorem Keeps.fold {β : Type} {f : State → β → State} {xs : List β} (hf : ∀ s x, Keeps φ s (f s x)) (h : Keeps φ k s) :
    Keeps φ k (xs.foldl f s) := by
  induction xs generalizing s with
  | nil => exact h
  | cons x xs ih => exact ih (h.trans (hf s x))

end

/-! ### What a wake request leaves of the power state -/

/-- The power state without the wake sources that have risen and the latched ones. -/
def PowerSt.unwoken (p : PowerSt) : PowerSt := { p with wakeReq := 0, wakeSrc := 0 }

def State.unwoken (s : State) : PowerSt := s.power.unwoken

theorem Only.unwoken {l : List Part} {s t : State} (h : Only l s t) (hl : Part.power ∉ l) : Keeps State.unwoken s t :=
  congrArg PowerSt.unwoken (h .power hl)

theorem State.requestWake_unwoken (s : State) (m : Nat) : Keeps State.unwoken s (s.requestWake m) := by
  unfold State.requestWake
  exact .ite rfl (.ite rfl rfl)

theorem State.fireRule_unwoken (s : State) (k : Fin 16) : Keeps State.unwoken s (s.fireRule k) := by
  unfold State.fireRule
  extract_lets w hold _ s1 s2 s3 s4
  have h1 : Keeps State.unwoken s s1 := ((s.orReg_only _ _).unwoken (by decide)).trans ((State.setRule_only _ _ _).unwoken (by decide))
  have h2 : Keeps State.unwoken s s2 := .ite (h1.trans (s1.requestWake_unwoken 1)) h1
  have h3 : Keeps State.unwoken s s3 := .ite (h2.trans ((State.satInc_only _ _ _ _).unwoken (by decide))) h2
  have h4 : Keeps State.unwoken s s4 := .ite (h3.trans ((State.pushRind_only _ _ _).unwoken (by decide))) h3
  exact .ite (h4.trans ((State.startAlarm_only _).unwoken (by decide))) h4

theorem State.evalRule_unwoken (e : RindEvents) (s : State) (k : Fin 16) : Keeps State.unwoken s (State.evalRule e s k) := by
  have fired (t : State) (h : Keeps State.unwoken s t) : Keeps State.unwoken s (t.fireRule k) := h.trans (t.fireRule_unwoken k)
  have counted : Keeps State.unwoken s (s.countRule k).2 := ((s.countRule_only k).unwoken (by decide))
  unfold State.evalRule
  dsimp only
  exact .ite (.ite (.ite (.ite (fired _ counted) counted) rfl) (.ite (fired _ rfl) rfl)) rfl

theorem State.evalRules_unwoken (s : State) (e : RindEvents) : Keeps State.unwoken s (s.evalRules e) :=
  .fold (fun s k => State.evalRule_unwoken e s k) rfl

theorem State.lockFault_unwoken (s : State) (cause : Nat) : Keeps State.unwoken s (s.lockFault cause) :=
  .ite rfl (((s.enterFault_only cause).unwoken (by decide)).trans (State.evalRules_unwoken _ _))

theorem State.lockSupply_unwoken (s : State) : Keeps State.unwoken s s.lockSupply := by
  have fault : Keeps State.unwoken s (if s.lock.moving then s.lockFault 7 else s) := .ite (s.lockFault_unwoken 7) rfl
  exact fault.trans ((State.setLock_only _ _).unwoken (by decide))

/-! ### VDD5, RSTN and VIO (R73, R76, R79) -/

theorem State.startPd1_of_phase {s : State} (h : s.power.phase ≠ .startup) : s.startPd1 = s := by
  unfold State.startPd1
  exact if_neg fun ⟨hp, _⟩ => h hp

theorem State.vdd5Late_spec (s : State) : s.vdd5Late.bit 0x110024 9 = true ∧ s.vdd5Late.bit 0x100004 12 = true ∧ s.vdd5Late.power = s.power :=
  ⟨((s.orReg 0x110024 0x200).advise_words 12 1).bit (s.bit_orReg_same _ _ (by decide) (by decide)) (by decide), State.advise_bit _ 12 1 (by decide),
    s.vdd5Late_only .power (by decide)⟩

/-- VDD5 that comes in time, or outside a wake, is noted and may start PD1. -/
theorem State.vdd5Valid_in_time {s : State} {late : Bool} (hp : s.power.phase ≠ .unpowered)
    (h : s.power.phase ≠ .waking ∨ s.vdd5IsLate late = false) :
    s.vdd5Valid late = (s.setPower { s.power with vdd5Ok := true }).startPd1 := by
  rcases h with h | h <;> simp [State.vdd5Valid, hp, h]

theorem State.vdd5Valid_late {s : State} {late : Bool} (hp : s.power.phase = .waking) (h5 : s.power.vdd5Ok = false)
    (hm : s.bit 0x110008 1 = true) (hl : s.vdd5IsLate late = true) :
    s.vdd5Valid late = (s.setPower { s.power with vdd5Ok := true }).vdd5Late := by
  have power : (s.setPower { s.power with vdd5Ok := true }).vdd5Late.power = { s.power with vdd5Ok := true } :=
    (s.setPower { s.power with vdd5Ok := true }).vdd5Late_spec.2.2
  have awake : (s.setPower { s.power with vdd5Ok := true }).vdd5Late.power.phase ≠ .startup := by
    rw [power]
    simp [hp]
  have up : s.power.phase ≠ .unpowered := by simp [hp]
  have due : (s.power.phase == .waking && !s.power.vdd5Ok && s.bit 0x110008 1 && s.vdd5IsLate late) = true := by simp [hp, h5, hm, hl]
  unfold State.vdd5Valid
  rw [if_neg up]
  dsimp only
  rw [if_pos due]
  exact State.startPd1_of_phase awake

/-- The hold that VIO begins: an output with an empty queue, held until VIO is back. -/
def OutSt.isHeldByVio (o : OutSt) : Prop := o.queue = [] ∧ o.holdVio = true

theorem OutSt.isHeldByVio_congr {o p : OutSt} (h : o.command = p.command) : o.isHeldByVio ↔ p.isHeldByVio := by
  have queue : o.queue = p.queue := (congrArg OutSt.queue h :)
  have hold : o.holdVio = p.holdVio := (congrArg OutSt.holdVio h :)
  rw [OutSt.isHeldByVio, OutSt.isHeldByVio, queue, hold]

theorem State.outputsVioLow_held (s : State) (m : Fin 32) : (s.outputsVioLow.outs[m]).isHeldByVio := by
  refine outputs_fold (fun s n => ?_) (fun s n m hm h => ?_) _ s m (.inl (List.mem_finRange m))
  · refine (OutSt.isHeldByVio_congr (State.settle_command _ n n)).2 ?_
    rw [State.outs_setOut, if_pos rfl]
    exact ⟨congrArg OutSt.queue ((State.outs_setOut s n n _).trans (if_pos rfl)), rfl⟩
  · refine (OutSt.isHeldByVio_congr (State.settle_command _ n m)).2 ?_
    rw [State.outs_setOut, if_neg hm, State.flushQueue, State.outs_setOut, if_neg hm]
    exact h

/-- What the fall of VIO leaves. -/
theorem State.vioLow_spec {s : State} (h : s.power.phase ≠ .unpowered) :
    s.vioLow.power.vioOk = false ∧ s.vioLow.power.vioReady = false ∧ s.vioLow.bit 0x110024 8 = true ∧ s.vioLow.bit 0x100004 12 = true ∧
      s.vioLow.lock.bridge = .coast ∧ s.vioLow.power.phase = s.power.phase ∧
      (∀ n : Fin 32, (s.vioLow.outs[n]).queue = [] ∧ (s.vioLow.outs[n]).holdVio = true) := by
  have outputs := (s.setPower { s.power with vioOk := false, vioLowAt := s.now, vioReady := false }).outputsVioLow_held
  have lowered := (s.setPower { s.power with vioOk := false, vioLowAt := s.now, vioReady := false }).outputsVioLow_only
  revert outputs lowered
  rw [State.vioLow, if_pos h]
  dsimp only
  generalize (s.setPower { s.power with vioOk := false, vioLowAt := s.now, vioReady := false }).outputsVioLow = u
  intro outputs lowered
  generalize (u.lockSupply.orReg 0x110024 0x100).fld 0x110024 9 8 * 256 + _ + 4 = supply
  have after := ((u.lockSupply.orReg 0x110024 0x100).notice_only 0x04 (bytesLE 2 supply)).after (State.orReg_only u.lockSupply 0x110024 0x100)
  have advised := (State.advise_only _ 12 0).after after
  have words := (State.advise_words ((u.lockSupply.orReg 0x110024 0x100).notice 0x04 (bytesLE 2 supply)) 12 0).after
    (State.notice_words (u.lockSupply.orReg 0x110024 0x100) 0x04 (bytesLE 2 supply))
  have power : Keeps State.unwoken _ _ := ((lowered.unwoken (by decide)).trans u.lockSupply_unwoken).trans (advised.unwoken (by decide))
  have outs : _ = u.outs := (advised .outs (by decide)).trans (u.lockSupply_only .outs (by decide))
  refine ⟨(congrArg PowerSt.vioOk power :), (congrArg PowerSt.vioReady power :), words.bit (State.bit_orReg_same _ _ _ (by decide) (by decide)) (by decide),
    State.advise_bit _ 12 0 (by decide), congrArg LockSt.bridge (advised .lock (by decide)), (congrArg PowerSt.phase power :), fun n => ?_⟩
  rw [outs]
  exact outputs n

/-- The return of VIO, which outputs and register words see alone beside the power state. -/
theorem State.vioRecovered_spec {s : State} (h : s.power.phase ≠ .unpowered) (hv : s.power.vioReady = false) :
    s.vioRecovered.power = { s.power with vioOk := true, vioReady := true } ∧
      Only [.power, .outs, .regs, .setAt, .setNow] s s.vioRecovered := by
  have back : s.vioRecovered = (s.setPower { s.power with vioOk := true, vioReady := true }).outputsVioOk := if_pos ⟨hv, h⟩
  have only := State.outputsVioOk_only (s.setPower { s.power with vioOk := true, vioReady := true })
  rw [back]
  exact ⟨only .power (by decide), (only.after (State.setPower_only s _)).among (by decide)⟩

/-- Where only these parts change, the state is the old one with them. -/
theorem Only.vio {s t : State} (h : Only [.power, .outs, .regs, .setAt, .setNow] s t) :
    t = { s with power := t.power, outs := t.outs, regs := t.regs, setAt := t.setAt, setNow := t.setNow } :=
  h.eq (fun p hp => by cases p <;> simp at hp <;> rfl) (by simp [Part.same])

/-! ### The LF source (R40 to R42) -/

theorem State.lfCrystalStart_taken {s : State} (hp : s.power.phase ≠ .unpowered) (hs : s.fld 0x110008 3 2 ≠ 1)
    (hn : s.power.lfNoReturn = false) (hf : s.power.lfFailed = false) (ht : s.lf < s.power.porLf + 32768) :
    s.lfCrystalStart = s.setPower { s.power with lfXtal := true } := if_pos ⟨hp, hs, hn, hf, ht⟩

theorem State.lfCrystalStart_not_taken {s : State}
    (h : s.fld 0x110008 3 2 = 1 ∨ s.power.lfNoReturn = true ∨ s.power.lfFailed = true ∨ s.power.porLf + 32768 ≤ s.lf) :
    s.lfCrystalStart = s := by
  refine if_neg fun ⟨_, hs, hn, hf, ht⟩ => ?_
  rcases h with h | h | h | h
  · exact hs h
  · exact Bool.false_ne_true (hn.symm.trans h)
  · exact Bool.false_ne_true (hf.symm.trans h)
  · omega

/-- The power state without the note that the clock notice is owed. -/
def State.unowed (s : State) : PowerSt := { s.power with clockOwed := false }

theorem State.clockNotice_unowed (s : State) : s.clockNotice.unowed = s.unowed := by
  unfold State.clockNotice
  split
  · exact congrArg (fun p : PowerSt => { p with clockOwed := false }) (s.notice_only _ _ .power (by decide))
  · rfl

/-- What a change of the LF source that sets flag `i` of PWR_LFSTAT leaves, and the ADVISE bit of the clock under LFSRC 2. -/
theorem State.clockNotice_advise_spec (s : State) (i : Nat) (c : Prop) [Decidable c] (hi : s.bit 0x11001C i = true) :
    (if c then s.clockNotice.advise 1 0 else s.clockNotice).bit 0x11001C i = true ∧
      (if c then s.clockNotice.advise 1 0 else s.clockNotice).unowed = s.unowed ∧
      (c → (if c then s.clockNotice.advise 1 0 else s.clockNotice).bit 0x100004 1 = true) ∧
      (if c then s.clockNotice.advise 1 0 else s.clockNotice).sram = s.sram ∧
      (if c then s.clockNotice.advise 1 0 else s.clockNotice).timers = s.timers := by
  have noted := s.clockNotice_only
  have flag : s.clockNotice.bit 0x11001C i = true := s.clockNotice_words.bit hi (by decide)
  have advised := s.clockNotice.advise_only 1 0
  split
  · refine ⟨(s.clockNotice.advise_words 1 0).bit flag (by decide), ?_, fun _ => s.clockNotice.advise_bit 1 0 (by decide), (advised .sram (by decide)).trans
      (noted .sram (by decide)), (advised .timers (by decide)).trans (noted .timers (by decide))⟩
    exact (congrArg (fun p : PowerSt => { p with clockOwed := false }) (advised .power (by decide))).trans s.clockNotice_unowed
  · exact ⟨flag, s.clockNotice_unowed, fun h => absurd h ‹_›, noted .sram (by decide), noted .timers (by decide)⟩

theorem State.lfxFail_due {s : State} (hp : s.power.phase ≠ .unpowered) (hs : s.fld 0x110008 3 2 ≠ 1) (hx : s.power.lfXtal = false)
    (hn : s.power.lfNoReturn = false) (hf : s.power.lfFailed = false) (ht : s.power.porLf + 32768 ≤ s.lf) :
    s.lfxFail = if s.fld 0x110008 3 2 = 2 then (((s.setPower { s.power with lfFailed := true }).orReg 0x11001C 2).clockNotice).advise 1 0
      else ((s.setPower { s.power with lfFailed := true }).orReg 0x11001C 2).clockNotice :=
  if_pos ⟨hp, hs, hx, hf, hn, ht⟩

theorem State.lfSwitch_due {s : State} (hp : s.power.phase ≠ .unpowered) (hx : s.power.lfXtal = true) :
    s.lfSwitch = if s.fld 0x110008 3 2 = 2
      then (((s.setPower { s.power with lfXtal := false, lfNoReturn := true }).orReg 0x11001C 4).clockNotice).advise 1 0
      else ((s.setPower { s.power with lfXtal := false, lfNoReturn := true }).orReg 0x11001C 4).clockNotice :=
  if_pos ⟨hp, hx⟩

/-- Settles O11: each event comes down to its operation, whose cases the lemmas above give. -/
theorem supplyEventsAndLfSource : Obligations.SupplyEventsAndLfSource := by
  refine ⟨fun late => ?valid, fun late => ?noted, fun late => ?late, fun late => ?inTime, ?release, ?vioLow, ?vioBack, ?crystal, ?noCrystal, ?fail,
    ?switch, fun count => ?window, fun count => ?early⟩
  case valid =>
    refine .of (·.vdd5Valid late) (fun _ _ => rfl) fun e ⟨hp, hs, hr⟩ => ?_
    rw [State.vdd5Valid_in_time (by simp [hp]) (.inl (by simp [hp]))]
    exact State.startPd1_starts (s := e.setPower { e.power with vdd5Ok := true }) hp hs ⟨rfl, hr⟩
  case noted =>
    refine .of (·.vdd5Valid late) (fun _ _ => rfl) fun e ⟨hp, hr⟩ => ?_
    rw [State.vdd5Valid_in_time (by simp [hp]) (.inl (by simp [hp]))]
    exact State.startPd1_waits fun h => Bool.false_ne_true (h.2.symm.trans hr)
  case late =>
    refine .of (·.vdd5Valid late) (fun _ _ => rfl) fun e _ ⟨hp, h5, hm, hl⟩ => ?_
    obtain ⟨flag, advised, power⟩ := (e.setPower { e.power with vdd5Ok := true }).vdd5Late_spec
    rw [State.vdd5Valid_late hp h5 hm hl]
    exact ⟨congrArg PowerSt.vdd5Ok power, (congrArg PowerSt.phase power).trans hp, flag, advised⟩
  case inTime =>
    refine .of (·.vdd5Valid late) (fun _ _ => rfl) fun e ⟨hp, _, hl⟩ => ?_
    rw [State.vdd5Valid_in_time (by simp [hp]) (.inr hl)]
    exact State.startPd1_of_phase fun h => by simp [hp] at h
  case release =>
    refine .of State.rstnRelease (fun _ _ => rfl) fun e ⟨hp, hs, h5⟩ => ?_
    have up : ¬ e.power.phase = .unpowered := by simp [hp]
    rw [State.rstnRelease, if_neg up]
    exact State.startPd1_starts (s := e.setPower { e.power with rstLow := false }) hp hs ⟨h5, rfl⟩
  case vioLow => exact .of State.vioLow (fun _ _ => rfl) fun e _ h => State.vioLow_spec h
  case vioBack =>
    refine .of State.vioRecovered (fun _ _ => rfl) fun e _ ⟨hp, hv⟩ => ?_
    obtain ⟨power, only⟩ := State.vioRecovered_spec hp hv
    exact ⟨congrArg PowerSt.vioOk power, congrArg PowerSt.vioReady power, only.vio⟩
  case crystal => exact .of State.lfCrystalStart (fun _ _ => rfl) fun e ⟨hp, hs, hn, hf, ht⟩ => State.lfCrystalStart_taken hp hs hn hf ht
  case noCrystal => exact .of State.lfCrystalStart (fun _ _ => rfl) fun e h => State.lfCrystalStart_not_taken h
  case fail =>
    refine .of State.lfxFail (fun _ _ => rfl) fun e _ ⟨hp, hs, hx, hn, hf, ht⟩ => ?_
    rw [State.lfxFail_due hp hs hx hn hf ht]
    obtain ⟨flag, power, advised, sram, timers⟩ := ((e.setPower { e.power with lfFailed := true }).orReg 0x11001C 2).clockNotice_advise_spec 1
      (e.fld 0x110008 3 2 = 2) (State.bit_orReg_same _ _ _ (by decide) (by decide))
    exact ⟨flag, (congrArg PowerSt.lfFailed power :), (congrArg PowerSt.lfXtal power :).trans hx, advised, (congrArg PowerSt.phase power :), sram,
      timers⟩
  case switch =>
    refine .of State.lfSwitch (fun _ _ => rfl) fun e _ ⟨hp, hx⟩ => ?_
    rw [State.lfSwitch_due hp hx]
    obtain ⟨flag, power, advised, sram, timers⟩ :=
      ((e.setPower { e.power with lfXtal := false, lfNoReturn := true }).orReg 0x11001C 4).clockNotice_advise_spec 2
        (e.fld 0x110008 3 2 = 2) (State.bit_orReg_same _ _ _ (by decide) (by decide))
    exact ⟨(congrArg PowerSt.lfXtal power :), (congrArg PowerSt.lfNoReturn power :), flag, advised, (congrArg PowerSt.phase power :), sram,
      timers⟩
  case window => exact .of (·.lfcalWindow count) (fun _ _ => rfl) fun e h => if_pos h
  case early => exact .of (·.lfcalWindow count) (fun _ _ => rfl) fun e h => if_neg fun h' => Bool.false_ne_true (h.symm.trans h')

/-! ### Domains (R46) -/

theorem State.domReady_set {s t : State} {n : Nat} (h : t.power.domRdy = s.power.domRdy ||| 2 ^ n) :
    t.domReady n = true ∧ ∀ m, m ≠ n → t.domReady m = s.domReady m := by
  simp only [State.domReady, h, Nat.testBit_or]
  refine ⟨by rw [Nat.testBit_two_pow_self, Bool.or_true], fun m hm => ?_⟩
  rw [Nat.testBit_two_pow_of_ne (Ne.symm hm), Bool.or_false]

/-- A domain that becomes ready sets its bit; converters and the model may begin to work with it. -/
theorem State.domainReady_spec {s : State} {n : Fin 14} (ho : s.domainOn n.val = true) (hr : s.domReady n.val = false)
    (h6 : n.val = 6 → s.power.pd6On + usAng 250 ≤ s.now) :
    (s.domainReady n).power = { s.power with domRdy := s.power.domRdy ||| 2 ^ n.val } ∧ (s.domainReady n).sram = s.sram ∧
      (s.domainReady n).wheels = s.wheels := by
  have due : (s.domainOn n.val && !s.domReady n.val && (n.val != 6 || decide (s.power.pd6On + usAng 250 ≤ s.now))) = true := by
    by_cases h : n.val = 6
    · simp [ho, hr, h6 h]
    · simp [ho, hr, h]
  have resumed (u : State) (x : Conv) :
      Only [.regs, .cfg, .outs, .adcA, .adcB, .setAt, .setNow] u (if u.convOn x && !s.convOn x then u.converterOn x else u) :=
    .ite (u.converterOn_only x) (.refl _ u)
  have only : Only [.regs, .cfg, .outs, .adcA, .adcB, .setAt, .setNow, .boot, .nand, .fus]
      (s.setPower { s.power with domRdy := s.power.domRdy ||| 2 ^ n.val }) (s.domainReady n) := by
    have both := (resumed (s.setPower { s.power with domRdy := s.power.domRdy ||| 2 ^ n.val }) .adcA).trans (resumed _ .adcB)
    unfold State.domainReady
    rw [if_pos due]
    exact .ite (((State.loadModel_only _).after both).among (by decide)) (both.among (by decide))
  exact ⟨only .power (by decide), only .sram (by decide), only .wheels (by decide)⟩

theorem State.domainReady_early {s : State} {n : Fin 14} (h : s.domReady n.val = true ∨ (n.val = 6 ∧ s.now < s.power.pd6On + usAng 250)) :
    s.domainReady n = s := by
  refine if_neg fun due => ?_
  simp only [Bool.and_eq_true, Bool.or_eq_true, Bool.not_eq_true', bne_iff_ne, decide_eq_true_eq] at due
  obtain ⟨⟨_, hr⟩, ht⟩ := due
  rcases h with h | ⟨h6, h⟩
  · exact Bool.false_ne_true (hr.symm.trans h)
  · rcases ht with ht | ht
    · exact ht h6
    · omega

/-! ### Requests (R50, R51, R61, Table Power.8) -/

theorem requestWord_fields (key : BitVec 16) {req : Nat} (h : req < 16) :
    fieldOf (requestWord key req) 31 16 = key.toNat ∧ fieldOf (requestWord key req) 3 0 = req := by
  have bound := key.isLt
  simp only [requestWord, fieldOf, fieldNat, BitVec.toNat_ofNat]
  omega

/-- PWR_REQ with another key and code 1 is a request without the key. -/
theorem State.powerWord_wrongKey (s : State) {key : BitVec 16} (h : key ≠ 0xA5C3) :
    s.powerWord (requestWord key 1) = s.powerRequest false false := by
  obtain ⟨hkey, hcode⟩ := requestWord_fields key (req := 1) (by decide)
  have wrong : ¬ key.toNat = 0xA5C3 := fun e => h (BitVec.eq_of_toNat_eq e)
  simp only [State.powerWord, hkey, hcode, wrong, decide_false]

theorem State.requestRefusal_wrongKey (s : State) (ship : Bool) : s.requestRefusal ship false = some 4 := rfl

/-- A wheel that turns is the second check of a request, behind an entry in progress. -/
theorem State.requestRefusal_turning {s : State} (ship : Bool) (he : s.entering = false) (hw : s.wheelsAtRest = false) :
    s.requestRefusal ship true = some 2 := by
  simp [State.requestRefusal, he, hw]

/-- Settles O12: a domain by its operation, and every request through `State.powerRequest`. -/
theorem domainsAndRequests : Obligations.DomainsAndRequests := by
  refine ⟨fun n => ?ready, fun n => ?already, fun key => ?wrongKey, ?standby, ?turning, ?ship, fun since => ?autosby⟩
  case ready =>
    refine .of (·.domainReady n) (fun _ _ => rfl) fun e _ ⟨hrun, hen, hr, h6⟩ => ?_
    have on : e.domainOn n.val = true := (if_pos hrun).trans hen
    obtain ⟨power, sram, wheels⟩ := State.domainReady_spec on hr h6
    obtain ⟨own, others⟩ := State.domReady_set (s := e) (t := e.domainReady n) (congrArg PowerSt.domRdy power)
    exact ⟨own, others, (congrArg PowerSt.phase power).trans (beq_iff_eq.1 hrun), sram, wheels⟩
  case already => exact .of (·.domainReady n) (fun _ _ => rfl) fun e h => State.domainReady_early h
  case wrongKey =>
    refine .of (·.landNow 0x110004 (requestWord key 1)) (fun _ _ => rfl) fun e ⟨hr, hq, hk⟩ => ?_
    rw [State.landNow_powerWord _ hr hq, State.powerWord_wrongKey e hk]
    exact State.powerRequest_refused hr (e.requestRefusal_wrongKey false)
  case standby =>
    refine .of (·.landNow 0x110004 (requestWord 0xA5C3 1)) (fun _ _ => rfl) fun e ⟨hr, hq, hn⟩ => ?_
    rw [State.landNow_powerWord _ hr hq, State.powerWord_standby]
    exact State.powerRequest_accepted hr hn
  case turning =>
    refine .of (·.landNow 0x110004 (requestWord 0xA5C3 1)) (fun _ _ => rfl) fun e ⟨hr, hq, he, hw⟩ => ?_
    rw [State.landNow_powerWord _ hr hq, State.powerWord_standby]
    exact State.powerRequest_refused hr (State.requestRefusal_turning false he hw)
  case ship =>
    refine .of (·.landNow 0x110004 (requestWord 0xA5C3 2)) (fun _ _ => rfl) fun e ⟨hr, hq, hn⟩ => ?_
    rw [State.landNow_powerWord _ hr hq, State.powerWord_ship]
    exact State.powerRequest_accepted hr hn
  case autosby =>
    refine .of State.autosby (fun _ _ => rfl) fun e ⟨hr, hen, hi, ht, hn⟩ => ?_
    rw [State.autosby_due ⟨hr, hen, hi, ht⟩, State.powerRequest_accepted hr hn]
    rfl

end Sys2Proof.Machine
end

section
/-!
PROOFS. A reset cuts an erase of the NAND short, and its block is left erased (log entry 66).
-/

namespace Sys2Proof.Machine

/-- A state after power-on whose NAND holds one page and is at work on the erase of its block. -/
def erasing : State :=
  { State.reset with nand := {
      pages := [(0, { main := [1] })], jobs := [{ kind := .scan, prio := 1, todo := [.erase 0] }], act := some .scan } }

/-- Refutes O10: a POR while an erase is under way leaves no page of the block, though the statement says that the NAND's pages stay. -/
theorem not_resets : ¬ Obligations.Resets := by
  intro h
  obtain ⟨-, -, -, -, -, -, -, -, -, por, -⟩ := h
  obtain ⟨t, made, -, -, -, -, -, -, -, -, -, -, -, pages, -⟩ := por { ang := 0, lf := 0 } erasing (by decide +kernel) trivial
  have left : t = (erasing.elapse { ang := 0, lf := 0 }).powerOn := (Host.Outcome.next.inj made).symm
  subst left
  revert pages
  decide +kernel

end Sys2Proof.Machine
end

section
/-!
PROOFS. The entry into STANDBY or SHIP and the wake (O13).
-/

namespace Sys2Proof.Machine

/-! ### What the notices leave of the link -/

/-- The link without the notice ring and the records of the notices that have arisen. -/
def State.wire (s : State) : LinkSt :=
  { s.link with ring := [], nextNum := 0, wm := {}, cycAt := 0, cycLen := 0, cycIn := [], cycWm := {}, cycLost := 0, cycNote := none }

theorem Only.wire {l : List Part} {s t : State} (h : Only l s t) (hl : Part.link ∉ l) : Keeps State.wire s t := by
  unfold Keeps State.wire
  rw [show t.link = s.link from h .link hl]

theorem NoticeFrame.wire {s t : State} (h : NoticeFrame s t) : Keeps State.wire s t := by
  unfold Keeps State.wire
  rw [h.linkRest]

theorem State.notice_wire (s : State) (code : Nat) (p : List Byte) : Keeps State.wire s (s.notice code p) := (s.notice_frame code p).wire

theorem State.clockNotice_wire (s : State) : Keeps State.wire s s.clockNotice := by
  unfold State.clockNotice
  exact .ite (State.notice_wire _ _ _) ((State.setPower_only _ _).wire (by decide))

theorem State.closeSession_wire (s : State) : Keeps State.wire s s.closeSession := by
  have entered : Keeps State.wire s (s.insertEntry 0) := (State.insertEntry_only _ _).wire (by decide)
  unfold State.closeSession
  dsimp only
  split
  · refine ((entered.trans ?_).trans (State.notice_wire _ _ _)).trans ((State.batLog_only _ _ _ _ _).wire (by decide))
    exact ((State.writePack_only _ _ _).after (State.setBat_only _ _)).wire (by decide)
  · exact entered

theorem State.openScratch_wire (s : State) : Keeps State.wire s s.openScratch := by
  unfold State.openScratch
  dsimp only
  exact (((State.setBat_only _ _).wire (by decide)).trans (State.notice_wire _ _ _)).trans (((State.checkpoint_only _).after
    ((State.advise_only _ _ _).after ((State.orReg_only _ _ _).after (State.batLog_only _ _ _ _ _)))).wire (by decide))

theorem State.batteryWake_wire (s : State) (src : Nat) : Keeps State.wire s (s.batteryWake src) := by
  unfold State.batteryWake
  dsimp only
  refine Keeps.trans ?_ (.ite ((State.closeSession_wire _).trans (State.openScratch_wire _)) (.refl _ _))
  exact ((State.setBat_only _ _).after (.ite (State.countInterval_only _ _ _) (.refl _ _))).wire (by decide)

theorem State.lockWake_wire (s : State) : Keeps State.wire s s.lockWake := by
  unfold State.lockWake
  dsimp only
  refine Keeps.trans ((State.setLock_only _ _).wire (by decide)) (.ite ?_ (.refl _ _))
  unfold State.lockNotice
  exact .ite (.refl _ _) (State.notice_wire _ _ _)

theorem State.wakeWheelNotices_wire (s before : State) : Keeps State.wire s (s.wakeWheelNotices before) := by
  unfold State.wakeWheelNotices
  exact .fold (fun _ _ => .ite (.refl _ _) (State.notice_wire _ _ _)) (.refl _ _)

/-! ### The steps of an entry -/

theorem OutSt.queue_of_command {o p : OutSt} (h : o.command = p.command) : o.queue = p.queue := (congrArg OutSt.queue h :)

theorem State.outputsOff_queue (s : State) (m : Fin 32) : (s.outputsOff.outs[m]).queue = [] := by
  have settled (t : State) : (t.settleAll.outs[m]).command = (t.outs[m]).command := by
    unfold State.settleAll
    exact Keeps.fold (φ := fun u => (u.outs[m]).command) (fun _ _ => State.settlePair_command _ _ m) rfl
  unfold State.outputsOff
  rw [OutSt.queue_of_command (settled _)]
  refine outputs_fold (P := fun o => o.queue = []) (fun s n => ?_) (fun s n k hk h => ?_) _ s m (.inl (List.mem_finRange m))
  · rw [State.outs_setOut, if_pos rfl]
    rfl
  · rw [State.outs_setOut, if_neg hk]
    exact h

section
variable {s : State} {x : Entry}

theorem State.entryStepDone_met (hr : s.running = true) (he : s.power.entry = some x) (hm : s.stepMet x = true) :
    s.entryStepDone = s.nextStep x := by
  unfold State.entryStepDone
  rw [he]
  dsimp only
  rw [if_pos hr, if_pos hm]

theorem State.entryAckTimeout_due (hr : s.running = true) (he : s.power.entry = some x) (h5 : x.step = 5) (ht : x.stepAt + msAng 50 ≤ s.now) :
    s.entryAckTimeout = s.nextStep x := by
  unfold State.entryAckTimeout
  rw [he]
  exact if_pos ⟨hr, h5, ht⟩

theorem State.entryDmaTimeout_due (hr : s.running = true) (he : s.power.entry = some x) (h3 : x.step = 3) (ht : x.stepAt + msAng 1 ≤ s.now) :
    s.entryDmaTimeout = s.stopRunning.dmaDrained x := by
  unfold State.entryDmaTimeout
  rw [he]
  exact if_pos ⟨hr, h3, ht⟩

theorem State.entryTimeout_due (hr : s.running = true) (he : s.power.entry = some x) (hs : x.step ≤ 4) (ht : x.startedAt + secAng 2 ≤ s.now) :
    s.entryTimeout = (s.outputsOff).endEntry x 8 0 := by
  unfold State.entryTimeout
  rw [he]
  exact if_pos ⟨hr, hs, ht⟩

/-- The step of an entry is aborted neither by a wake source of STANDBY nor by the charger of SHIP. -/
theorem Entry.not_aborted (hk : x.kind = .ship ∨ x.aborting = 0) (hc : x.kind = .standby ∨ s.chargerOn = false) :
    ¬ (!decide (x.kind = .ship) && decide (x.aborting ≠ 0)) = true ∧ ¬ (decide (x.kind = .ship) && s.chargerOn) = true := by
  constructor
  · rcases hk with h | h <;> simp [h]
  · rcases hc with h | h <;> simp [h]

theorem State.nextStep_one (hk : x.kind = .ship ∨ x.aborting = 0) (hc : x.kind = .standby ∨ s.chargerOn = false) (h : x.step = 1) :
    s.nextStep x = ((s.entryStep2).entryStep3).setEntry (some { x with step := 3, stepAt := s.now }) := by
  obtain ⟨stays, unplugged⟩ := Entry.not_aborted hk hc
  unfold State.nextStep
  dsimp only
  rw [if_neg stays, if_neg unplugged, h]
  rfl

theorem State.nextStep_three (hk : x.kind = .ship ∨ x.aborting = 0) (hc : x.kind = .standby ∨ s.chargerOn = false) (h : x.step = 3) :
    s.nextStep x = (s.entryStep4 (decide (x.kind = .ship))).setEntry (some { x with step := 4, stepAt := s.now }) := by
  obtain ⟨stays, unplugged⟩ := Entry.not_aborted hk hc
  unfold State.nextStep
  dsimp only
  rw [if_neg stays, if_neg unplugged, h]
  rfl

theorem State.nextStep_four (hk : x.kind = .ship ∨ x.aborting = 0) (hc : x.kind = .standby ∨ s.chargerOn = false) (h : x.step = 4) :
    s.nextStep x = s.announceEntry x := by
  obtain ⟨stays, unplugged⟩ := Entry.not_aborted hk hc
  unfold State.nextStep
  dsimp only
  rw [if_neg stays, if_neg unplugged, h]
  rfl

theorem State.nextStep_five_standby (hk : x.kind = .standby) (ha : x.aborting = 0) (h : x.step = 5) :
    s.nextStep x = s.setEntry (some { x with step := 6, stepAt := s.now }) := by
  obtain ⟨stays, unplugged⟩ := Entry.not_aborted (s := s) (.inr ha) (.inl hk)
  unfold State.nextStep
  dsimp only
  rw [if_neg stays, if_neg unplugged, h]
  exact if_neg (by simp [hk])

theorem State.nextStep_five_ship (hk : x.kind = .ship) (hc : s.chargerOn = false) (h : x.step = 5) : s.nextStep x = s.enterShip := by
  obtain ⟨stays, unplugged⟩ := Entry.not_aborted (.inl hk) (.inr hc)
  unfold State.nextStep
  dsimp only
  rw [if_neg stays, if_neg unplugged, h]
  exact if_pos (by simp [hk])

theorem State.nextStep_six_standby (hk : x.kind = .standby) (ha : x.aborting = 0) (h : x.step = 6) : s.nextStep x = s.enterStandby := by
  obtain ⟨stays, unplugged⟩ := Entry.not_aborted (s := s) (.inr ha) (.inl hk)
  unfold State.nextStep
  dsimp only
  rw [if_neg stays, if_neg unplugged, h]
  rfl

theorem State.nextStep_aborting (hk : x.kind = .standby) (ha : x.aborting ≠ 0) :
    s.nextStep x = (s.orReg 0x110018 0x100).endEntry x 9 x.aborting := by
  unfold State.nextStep
  dsimp only
  rw [if_pos (by simp [hk, ha])]

end

/-- The state after the second and third step of an entry. -/
theorem State.entrySteps_two_three (s : State) (x : Entry) :
    (s.entryStep2.entryStep3.setEntry (some x)).power.phase = s.power.phase ∧
      (s.entryStep2.entryStep3.setEntry (some x)).power.entry = some x ∧
      (∀ n : Fin 32, ((s.entryStep2.entryStep3.setEntry (some x)).outs[n]).queue = []) ∧
      Only [.regs, .power, .outs, .regA, .injA, .regB, .injB, .lock, .setAt, .setNow] s (s.entryStep2.entryStep3.setEntry (some x)) := by
  have only := (State.entryStep3_only _).after (State.entryStep2_only s)
  have kept : s.entryStep2.entryStep3.outs = s.outputsOff.outs :=
    ((State.entryStep3_only _) .outs (by decide)).trans ((State.lockEntry_only s.outputsOff) .outs (by decide))
  have queues := s.outputsOff_queue
  rw [← kept] at queues
  generalize s.entryStep2.entryStep3 = t at only queues ⊢
  exact ⟨(congrArg PowerSt.phase (only .power (by decide)) :), rfl, queues, ((State.setEntry_only t _).after only).among (by decide)⟩

/-- The state after the fourth step of an entry. -/
theorem State.entryStep4_spec (s : State) (ship : Bool) (x : Entry) :
    ((s.entryStep4 ship).setEntry (some x)).power.phase = s.power.phase ∧ ((s.entryStep4 ship).setEntry (some x)).power.entry = some x ∧
      Only [.regs, .power, .link, .nand, .cave, .bat, .fus, .setAt, .setNow] s ((s.entryStep4 ship).setEntry (some x)) := by
  have only := s.entryStep4_only ship
  generalize s.entryStep4 ship = t at only ⊢
  exact ⟨(congrArg PowerSt.phase (only .power (by decide)) :), rfl, ((State.setEntry_only t _).after only).among (by decide)⟩

theorem State.announceEntry_spec (s : State) (x : Entry) :
    (∃ y, (s.announceEntry x).power.entry = some y ∧ y.step = 5 ∧ y.stepAt = s.now ∧ y.kind = x.kind ∧ y.startedAt = x.startedAt) ∧
      (s.announceEntry x).power.phase = s.power.phase := by
  unfold State.announceEntry
  extract_lets s1 mine
  have power : s1.power = s.power := State.powerNotice_only _ _ _ _ .power (by decide)
  exact ⟨⟨_, rfl, rfl, rfl, rfl, rfl⟩, (congrArg PowerSt.phase power :)⟩

theorem State.endEntry_spec (s : State) {x : Entry} (result sources : Nat) (h : x.announced = false) :
    s.endEntry x result sources = s.setPower { s.power with entry := none, result := result, activeAt := s.now } := by
  unfold State.endEntry
  dsimp only
  rw [if_neg (by simp [h])]
  rfl

theorem State.enterStandby_spec (s : State) :
    s.enterStandby.power = { s.power with
      phase := .standby, entry := none, sbyCount := s.power.sbyCount + 1, standbyAt := s.lf, domRdy := 0x0009
      mainen := !s.bit 0x110008 1, vdd5Ok := s.power.vdd5Ok && !s.bit 0x110008 1, pllTries := 0, lfTimers := true, pllOn := false, nowFrac := 0 } ∧
      s.enterStandby.nand.pages = s.nand.pages := by
  unfold State.enterStandby
  extract_lets off p s1
  have quiet := (State.restartFilters_only _).after ((State.lockSleep_only _).after ((State.batterySleep_only _).after (State.dropTests_only s1)))
  have power : ((((s1.dropTests).batterySleep).lockSleep).restartFilters).power = s1.power := quiet .power (by decide)
  exact ⟨power, rfl⟩

/-! ### The wake -/

theorem State.wakeLatch_standby {s : State} {wakein : Bool} {m : Nat} (hp : s.power.phase = .standby)
    (hm : (s.power.wakeReq ||| 8 * b2n wakein) &&& (s.fld 0x110014 3 0 ||| 1) = m) (h0 : m ≠ 0) :
    s.wakeLatch wakein = (s.orReg 0x110018 m).setPower { s.power with
      wakeReq := 0, phase := .waking, mainen := true, wakeSrc := m, wakeAt := s.lf, pllTries := 0, pllOn := false } := by
  unfold State.wakeLatch
  dsimp only
  rw [hm, if_neg h0, hp]
  rfl

theorem State.wakeLatch_none {s : State} {wakein : Bool} (hm : (s.power.wakeReq ||| 8 * b2n wakein) &&& (s.fld 0x110014 3 0 ||| 1) = 0) :
    s.wakeLatch wakein = s.setPower { s.power with wakeReq := 0 } := by
  unfold State.wakeLatch
  dsimp only
  rw [if_pos hm]

theorem State.wakeLatch_entry {s : State} {wakein : Bool} {x : Entry} {m : Nat} (hp : s.power.phase = .run) (hx : s.power.entry = some x)
    (hk : x.kind = .standby) (hm : (s.power.wakeReq ||| 8 * b2n wakein) &&& (s.fld 0x110014 3 0 ||| 1) = m) (h0 : m ≠ 0) :
    s.wakeLatch wakein = (s.orReg 0x110018 m).setPower { s.power with
      wakeReq := 0, entry := some { x with aborting := x.aborting ||| m } } := by
  unfold State.wakeLatch
  dsimp only
  rw [hm, if_neg h0, hp, hx]
  dsimp only
  rw [if_pos hk]
  rfl

theorem State.powerRequest_phase (s : State) (ship keyOk : Bool) : (s.powerRequest ship keyOk).power.phase = s.power.phase := by
  unfold State.powerRequest
  split
  · split <;> rfl
  · rfl

theorem State.autoship_phase (s : State) : s.autoship.power.phase = s.power.phase := by
  unfold State.autoship
  split
  · exact State.powerRequest_phase _ _ _
  · rfl

theorem State.clockNotice_phase (s : State) : s.clockNotice.power.phase = s.power.phase := by
  unfold State.clockNotice
  split
  · exact (congrArg PowerSt.phase (State.notice_only _ _ _ .power (by decide)) :)
  · rfl

theorem State.wakeWheels_silent (s : State) (w : Fin 4) : (s.wakeWheels.wheels[w]).sync = .silent := by
  have kept : s.wakeWheels.wheels = Vector.ofFn (fun (w : Fin 4) => (s.wheels[w]).restart s.now true) :=
    State.phaseResetAll_only _ .wheels (by decide)
  rw [kept]
  simp [WheelSt.restart]

theorem Sparse.get_dflt {α : Type} {d d' : Nat → α} (l : List (Nat × α)) {a : Nat} (h : d a = d' a) : Sparse.get d l a = Sparse.get d' l a := by
  induction l with
  | nil => exact h
  | cons q l ih => simp only [Sparse.get, ih]

/-- A wake leaves the SRAM below the part that it forgets. -/
theorem State.forgetSram_low (s : State) {a : Nat} (h : a < 0x810000) : s.forgetSram.sramByte a = s.sramByte a := by
  have zero (gen : Nat) : sramDflt gen a = 0 := if_neg fun ⟨_, hl⟩ => Nat.not_lt.2 hl h
  calc s.forgetSram.sramByte a
      _ = Sparse.get (sramDflt (s.free + 1)) s.sram a := Sparse.get_filter s.sram (p := fun b => decide (b < 0x810000)) (decide_eq_true h)
      _ = s.sramByte a := Sparse.get_dflt s.sram ((zero _).trans (zero _).symm)

/-- The state that a wake reaches, from the stages it goes through. -/
theorem State.runReached_spec {s : State} (hp : s.power.phase = .waking) (h5 : s.power.vdd5Ok = true) :
    s.runReached.power.phase = .run ∧ s.runReached.link.can = .integrating ∧ s.runReached.link.cache = s.link.cache ∧
      (∀ w : Fin 4, (s.runReached.wheels[w]).sync = .silent) ∧ s.runReached.regA.state = .idle ∧ s.runReached.regB.state = .idle ∧
      ∀ a, a < 0x810000 → s.runReached.sramByte a = s.sramByte a := by
  unfold State.runReached
  rw [if_pos ⟨hp, h5⟩]
  extract_lets periods s0 f s1 d p s3 s4 s5 s6 s7 p7 s8
  have before : Only [.regs, .power, .nand, .cave, .health, .timers, .setAt, .setNow] s s1 :=
    (State.setPower_only _ _).step ((State.accountSleep_only _).step (.ite ((State.ownSources_only _).among (by decide)) (.refl _ _)) (by decide))
      (by decide)
  have copies : Only [.copyLink, .copyDma, .snapAt] d p := fun p hp => by cases p <;> simp at hp <;> rfl
  have stopped := (State.wakeWheels_only _).after ((State.settleAll_only _).after ((State.outputsWake_only _).after (State.wakeWords_only p)))
  have begun := (State.wakeDma_only _).after ((State.wakeConverter_only _ .adcB).after (State.wakeConverter_only s3.clearSequences .adcA))
  have linked : Only [.cave] s4.wakeLink s5 := State.startMounting_only _
  have loaded := (State.loadModel_only _).after (State.clearFusion_only s5)
  have clocked : Only [.regs, .power, .link, .setAt, .setNow] s7 s8 :=
    .ite (((State.clockNotice_only _).after (State.setPower_only _ _)).among (by decide)) (.refl _ _)
  have told := (State.powerNotice_only _ 3 (s6.fld 0x110018 8 0) periods).after (State.batteryWake_only s5.clearFusion.loadModel s.power.wakeSrc)
  have rested := (State.setHealthSecond_only _ s.lf).after ((State.restartFilters_only _).after ((State.lockWake_only _).after
    (State.wakeWheelNotices_only s8 s)))
  have late := (State.autoship_only _).after (rested.after (clocked.after (told.after loaded)))
  have fromIdle := late.after (linked.after ((State.wakeLink_only _).after begun))
  have fromSilent := fromIdle.after (State.clearSequences_only _)
  have earlier := copies.after ((State.forgetSram_only _).after before)
  have clockWire : Keeps State.wire s7 s8 := .ite (((State.setPower_only _ _).wire (by decide)).trans (State.clockNotice_wire _)) (.refl _ _)
  have wire : Keeps State.wire s5 s8 := (((loaded.wire (by decide)).trans (State.batteryWake_wire _ s.power.wakeSrc)).trans
    (State.notice_wire _ _ _)).trans clockWire
  have wire' : Keeps State.wire s8 _ := (((State.wakeWheelNotices_wire s8 s).trans (State.lockWake_wire _)).trans
    (((State.setHealthSecond_only _ s.lf).after (State.restartFilters_only _)).wire (by decide))).trans ((State.autoship_only _).wire (by decide))
  have last := wire.trans wire'
  have link5 : s5.link = s4.wakeLink.link := linked .link (by decide)
  have link4 : s4.link = s.link := (begun.after ((State.clearSequences_only s3).after (stopped.after earlier))) .link (by decide)
  have phase8 : s8.power.phase = .run := by
    have at7 : s7.power = s1.power := (told.after (loaded.after (linked.after ((State.wakeLink_only _).after (begun.after
      ((State.clearSequences_only s3).after (stopped.after (copies.after (State.forgetSram_only _))))))))) .power (by decide)
    show PowerSt.phase (State.power (if _ then _ else _)) = _
    split
    · exact (State.clockNotice_phase _).trans (congrArg PowerSt.phase at7 :)
    · exact (congrArg PowerSt.phase at7 :)
  refine ⟨?phase, ?can, ?cache, fun w => ?silent, ?idleA, ?idleB, fun a ha => ?low⟩
  case phase => exact (State.autoship_phase _).trans ((congrArg PowerSt.phase (rested .power (by decide)) :).trans phase8)
  case can => exact (congrArg LinkSt.can last :).trans (congrArg LinkSt.can link5 :)
  case cache => exact (congrArg LinkSt.cache last :).trans ((congrArg LinkSt.cache link5 :).trans (congrArg LinkSt.cache link4 :))
  case silent =>
    rw [show State.wheels _ = s3.wheels from fromSilent .wheels (by decide)]
    exact State.wakeWheels_silent _ w
  case idleA => exact (congrArg SeqSt.state (fromIdle .regA (by decide)) :)
  case idleB => exact (congrArg SeqSt.state (fromIdle .regB (by decide)) :)
  case low =>
    exact ((fromSilent.after (stopped.after copies)).sramByte a (by decide) (by decide)).trans
      ((State.forgetSram_low s1 ha).trans (before.sramByte a (by decide) (by decide)))

/-- Where the DMA alone changes, the state is the old one with it. -/
theorem Only.dma {s t : State} (h : Only [.dma] s t) : t = { s with dma := t.dma } :=
  h.eq (fun p hp => by cases p <;> simp at hp <;> rfl) (by simp [Part.same])

theorem State.dmaBusy_congr {s t : State} (h : t.dma = s.dma) : t.dmaBusy = s.dmaBusy := by
  unfold State.dmaBusy
  simp only [State.ch_congr h]

theorem State.running_iff (s : State) : s.running = true ↔ s.power.phase = .run := by simp [State.running]

/-- Settles O13: the steps of an entry, its time limits, the wake source latch and the end of a wake, clause by clause. -/
theorem entryAndWake : Obligations.EntryAndWake := by
  refine ⟨fun x => ?stepOne, fun x => ?stepThree, fun x => ?stepFour, fun x => ?stepFive, fun x => ?stepSix, fun x => ?aborted,
    fun x => ?drained, fun x => ?draining, fun x => ?ackStandby, fun x => ?ackShip, fun x => ?entryTimeout, fun wakein => ?latched,
    fun wakein => ?unlatched, fun wakein x => ?duringEntry, ?reached, ?notReached⟩
  case stepOne =>
    refine .of (·.entryStepDone) (fun _ _ => rfl) fun e _ ⟨hr, hx, hk, hc, h1, hm, ht⟩ => ?_
    obtain ⟨phase, entry, queues, only⟩ := e.entrySteps_two_three { x with step := 3, stepAt := e.now }
    rw [State.entryStepDone_met hr hx (by simp [State.stepMet, h1, hm, ht]), State.nextStep_one hk hc h1]
    exact ⟨entry, phase.trans (e.running_iff.1 hr), queues, only .sram (by decide), only .pages (by decide)⟩
  case stepThree =>
    refine .of (·.entryStepDone) (fun _ _ => rfl) fun e _ ⟨hr, hx, hk, hc, h3, hd⟩ => ?_
    obtain ⟨phase, entry, only⟩ := e.entryStep4_spec (decide (x.kind = .ship)) { x with step := 4, stepAt := e.now }
    rw [State.entryStepDone_met hr hx (by simp [State.stepMet, h3, hd]), State.nextStep_three hk hc h3]
    exact ⟨entry, phase.trans (e.running_iff.1 hr), only .sram (by decide), only .wheels (by decide)⟩
  case stepFour =>
    refine .of (·.entryStepDone) (fun _ _ => rfl) fun e _ ⟨hr, hx, hk, hc, h4, hd⟩ => ?_
    obtain ⟨entry, phase⟩ := e.announceEntry_spec x
    have only := e.announceEntry_only x
    rw [State.entryStepDone_met hr hx (by simp [State.stepMet, h4, hd]), State.nextStep_four hk hc h4]
    exact ⟨entry, phase.trans (e.running_iff.1 hr), only .sram (by decide), only .wheels (by decide)⟩
  case stepFive =>
    refine .of (·.entryStepDone) (fun _ _ => rfl) fun e ⟨hr, hx, hk, ha, h5, hd⟩ => ?_
    exact (State.entryStepDone_met hr hx (by simp [State.stepMet, h5, hd])).trans (State.nextStep_five_standby hk ha h5)
  case stepSix =>
    refine .of (·.entryStepDone) (fun _ _ => rfl) fun e _ ⟨hr, hx, hk, ha, h6, hp⟩ => ?_
    obtain ⟨power, pages⟩ := e.enterStandby_spec
    have only := e.enterStandby_only
    rw [State.entryStepDone_met hr hx (by simp [State.stepMet, h6, hp]), State.nextStep_six_standby hk ha h6, power]
    exact ⟨rfl, rfl, rfl, rfl, rfl, rfl, rfl, only .sram (by decide), pages, only .outs (by decide), only .timers (by decide)⟩
  case aborted =>
    refine .of (·.entryStepDone) (fun _ _ => rfl) fun e _ ⟨hr, hx, hk, ha, h6, hn, hp⟩ => ?_
    rw [State.entryStepDone_met hr hx (by simp [State.stepMet, h6, hp]), State.nextStep_aborting hk ha, State.endEntry_spec _ _ _ hn]
    exact ⟨e.running_iff.1 hr, rfl, rfl, rfl, fun a h => e.reg_orReg_other _ h⟩
  case drained =>
    refine .of (·.entryDmaTimeout) (fun _ _ => rfl) fun e _ ⟨hr, hx, hk, hc, h3, ht, hd⟩ => ?_
    have stopped := e.stopRunning_only
    rw [State.entryDmaTimeout_due hr hx h3 ht]
    generalize e.stopRunning = u at stopped hd ⊢
    have now : u.now = e.now := stopped .now (by decide)
    have charger : u.chargerOn = e.chargerOn := (congrArg State.chargerOn stopped.dma :)
    obtain ⟨phase, entry, only⟩ := u.entryStep4_spec (decide (x.kind = .ship)) { x with step := 4, stepAt := u.now }
    rw [State.dmaDrained, if_neg (by simp [hd]), State.nextStep_three hk (charger ▸ hc) h3]
    rw [now] at phase entry only ⊢
    have both := only.after stopped
    exact ⟨phase.trans ((congrArg PowerSt.phase (stopped .power (by decide)) :).trans (e.running_iff.1 hr)), entry,
      (State.dmaBusy_congr (only .dma (by decide))).trans hd, both .sram (by decide), both .wheels (by decide)⟩
  case draining =>
    refine .of (·.entryDmaTimeout) (fun _ _ => rfl) fun e ⟨hr, hx, h3, ht, hd⟩ => ?_
    exact (State.entryDmaTimeout_due hr hx h3 ht).trans (if_pos hd)
  case ackStandby =>
    refine .of (·.entryAckTimeout) (fun _ _ => rfl) fun e ⟨hr, hx, hk, ha, h5, ht⟩ => ?_
    exact (State.entryAckTimeout_due hr hx h5 ht).trans (State.nextStep_five_standby hk ha h5)
  case ackShip =>
    refine .of (·.entryAckTimeout) (fun _ _ => rfl) fun e _ ⟨hr, hx, hk, hc, h5, ht⟩ => ?_
    rw [State.entryAckTimeout_due hr hx h5 ht, State.nextStep_five_ship hk hc h5]
    exact ⟨rfl, rfl, rfl, rfl, rfl, rfl⟩
  case entryTimeout =>
    refine .of (·.entryTimeout) (fun _ _ => rfl) fun e _ ⟨hr, hx, hs, ht, hn⟩ => ?_
    have only := e.outputsOff_only
    have queues := e.outputsOff_queue
    rw [State.entryTimeout_due hr hx hs ht]
    generalize e.outputsOff = u at only queues ⊢
    rw [State.endEntry_spec _ _ _ hn]
    exact ⟨(congrArg PowerSt.phase (only .power (by decide)) :).trans (e.running_iff.1 hr), rfl, rfl, queues, only .sram (by decide)⟩
  case latched =>
    refine .of (·.wakeLatch wakein) (fun _ _ => rfl) fun e _ ⟨hp, hm⟩ => ?_
    rw [State.wakeLatch_standby hp rfl hm]
    exact ⟨rfl, rfl, rfl, rfl, rfl, e.reg_orReg_same _ _, rfl, fun a h => e.reg_orReg_other _ h⟩
  case unlatched => exact .of (·.wakeLatch wakein) (fun _ _ => rfl) fun e h => State.wakeLatch_none h
  case duringEntry =>
    refine .of (·.wakeLatch wakein) (fun _ _ => rfl) fun e _ ⟨hp, hx, hk, hm⟩ => ?_
    rw [State.wakeLatch_entry hp hx hk rfl hm]
    exact ⟨rfl, hp⟩
  case reached => exact .of (·.runReached) (fun _ _ => rfl) fun e _ ⟨hp, h5⟩ => State.runReached_spec hp h5
  case notReached =>
    refine .of (·.runReached) (fun _ _ => rfl) fun e h => if_neg fun ⟨hp, h5⟩ => ?_
    rcases h with h | h
    · exact h hp
    · exact Bool.false_ne_true (h.symm.trans h5)

end Sys2Proof.Machine
end

section
/-!
PROOFS. The lifecycle port: authentication and the operations of the lifecycle controller (O48, O49).
-/

namespace Sys2Proof.Machine

/-- An instruction of the lifecycle port that is selected outside a memory test and a transition. -/
theorem State.lcsPort_selected {s : State} {f : State → Nat × Word × State} (hj : s.jtagAt 0x08 = true) (hp : s.power.phase ≠ .memtest)
    (ht : s.life.transition = none) :
    s.lcsPort f = { (f s).2.2 with jtag := { (f s).2.2.jtag with lcsStatus := (f s).1, lcsWord := (f s).2.1 } } := by
  unfold State.lcsPort
  rw [if_pos (by simp [hj, hp]), if_neg (by simp [ht])]

/-! ### Authentication (R556 to R559) -/

theorem State.authFail_spec (s : State) :
    s.authFail = s.setLife { s.life with
      fails := satAdd 15 s.life.fails 1, challenge := none
      lockout := if 3 ≤ s.life.fails then some (s.lf + 1966080) else s.life.lockout } := by
  have reached : (4 ≤ satAdd 15 s.life.fails 1) = (3 ≤ s.life.fails) := by
    unfold satAdd
    split <;> simp only [eq_iff_iff] <;> omega
  unfold State.authFail
  simp only [reached]

theorem State.verify_none {s : State} (b : List Byte) (h : s.liveChallenge = none) : s.verify b = (0x50, 0, s.authFail) := by
  unfold State.verify
  rw [h]

theorem State.verify_wrong {s : State} {b : List Byte} {c : Challenge} (h : s.liveChallenge = some c) (hb : s.responseOk c b = false) :
    s.verify b = (0x50, 0, s.authFail) := by
  unfold State.verify
  rw [h]
  exact if_pos hb

theorem State.verify_busy {s : State} {b : List Byte} {c : Challenge} (h : s.liveChallenge = some c) (hb : s.responseOk c b = true)
    (ho : s.life.opRun.isSome = true) : s.verify b = (0x14, 5, s.setLife { s.life with fails := 0, lockout := none, challenge := none }) := by
  unfold State.verify
  rw [h]
  dsimp only
  rw [if_neg (by simp [hb]), if_pos (show (s.setLife { s.life with fails := 0, lockout := none, challenge := none }).life.opRun.isSome = true from ho)]

theorem State.verify_transit {s : State} {b : List Byte} {c : Challenge} {dest : Life} (h : s.liveChallenge = some c)
    (hb : s.responseOk c b = true) (ho : s.life.opRun = none) (hc : c.target ≠ s.life.state.code) (hd : lifeOf c.target = some dest) :
    s.verify b = (0x01, 0, (s.setLife { s.life with fails := 0, lockout := none, challenge := none }).transit dest) := by
  have idle : ¬ (s.setLife { s.life with fails := 0, lockout := none, challenge := none }).life.opRun.isSome = true := by
    simp [State.setLife, ho]
  unfold State.verify
  rw [h]
  dsimp only
  rw [if_neg (by simp [hb]), if_neg idle, if_neg hc, hd]

theorem State.transit_spec (s : State) (dest : Life) :
    (s.transit dest).otp = s.otp.blow dest ∧
      (s.transit dest).life = { s.life with
        state := (s.otp.blow dest).lifeState, challenge := none, keyBuf := List.replicate 64 0, transition := some { dest := dest, at_ := s.lf } } ∧
      (s.transit dest).link.cache = none ∧ (s.transit dest).sram = s.sram := by
  unfold State.transit
  extract_lets from_ o l k s1 s2
  have only : Only [.regs, .link, .setAt, .setNow] s1 s2 := State.notice_only _ _ _
  have wire : Keeps State.wire s1 s2 := State.notice_wire _ _ _
  have life : s2.life = s1.life := only .life (by decide)
  refine ⟨only .otp (by decide), ?_, (congrArg LinkSt.cache wire :), only .sram (by decide)⟩
  have kept : (s2.setLife { s2.life with transition := some { dest := dest, at_ := s.lf } }).life =
      { s1.life with transition := some { dest := dest, at_ := s.lf } } := by rw [← life]; rfl
  exact kept

theorem State.liveChallenge_eq {s : State} {c : Challenge} (h : s.life.challenge = some c) :
    s.liveChallenge = if s.lf < c.at_ + 1966080 then some c else none := by
  unfold State.liveChallenge
  rw [h]

/-- Settles O48: VERIFY by its outcomes, then the lapse of a challenge, the end of a lockout and the wipe that is left. -/
theorem authentication : Obligations.Authentication := by
  refine ⟨?noChallenge, fun c dest => ?transition, fun c => ?busy, fun c => ?wrong, fun c => ?lapse, ?noLapse, fun c => ?early, fun at_ => ?lockout,
    ?noLockout, ?wipe, ?noWipe⟩
  case noChallenge =>
    refine .of (·.portVerify) (fun _ _ => rfl) fun e _ ⟨hj, hp, ht, hc⟩ => ?_
    rw [State.portVerify, State.lcsPort_selected hj hp ht, State.verify_none _ hc, State.authFail_spec]
    exact ⟨rfl, rfl, rfl, rfl, rfl, rfl, rfl⟩
  case transition =>
    refine .of (·.portVerify) (fun _ _ => rfl) fun e _ ⟨hj, hp, ht, hc, hr, hs, hd, ho⟩ => ?_
    obtain ⟨otp, life, cache, sram⟩ := (e.setLife { e.life with fails := 0, lockout := none, challenge := none }).transit_spec dest
    rw [State.portVerify, State.lcsPort_selected hj hp ht, State.verify_transit hc hr ho hs hd]
    generalize (e.setLife { e.life with fails := 0, lockout := none, challenge := none }).transit dest = t at otp life cache sram ⊢
    refine ⟨rfl, otp, (congrArg LifeSt.state life :), (congrArg LifeSt.challenge life :), (congrArg LifeSt.fails life :),
      (congrArg LifeSt.lockout life :), cache, ?_, sram⟩
    exact (congrArg (fun l : LifeSt => l.transition.isSome) life :)
  case busy =>
    refine .of (·.portVerify) (fun _ _ => rfl) fun e _ ⟨hj, hp, ht, hc, hr, ho⟩ => ?_
    rw [State.portVerify, State.lcsPort_selected hj hp ht, State.verify_busy hc hr ho]
    exact ⟨rfl, rfl, rfl, rfl⟩
  case wrong =>
    refine .of (·.portVerify) (fun _ _ => rfl) fun e _ ⟨hj, hp, ht, hc, hr⟩ => ?_
    rw [State.portVerify, State.lcsPort_selected hj hp ht, State.verify_wrong hc hr, State.authFail_spec]
    exact ⟨rfl, rfl, rfl, rfl, rfl⟩
  case lapse =>
    refine .of (·.challengeLapse) (fun _ _ => rfl) fun e ⟨hc, hl⟩ => if_pos ?_
    simp [hc, State.liveChallenge_eq hc, Nat.not_lt.2 hl]
  case noLapse =>
    exact .of (·.challengeLapse) (fun _ _ => rfl) fun e h => if_neg (by simp [h])
  case early =>
    refine .of (·.challengeLapse) (fun _ _ => rfl) fun e ⟨hc, hl⟩ => if_neg ?_
    simp [hc, State.liveChallenge_eq hc, hl]
  case lockout =>
    refine .of (·.lockoutEnd) (fun _ _ => rfl) fun e ⟨hl, ht⟩ => ?_
    rw [State.lockoutEnd, hl]
    exact if_pos ht
  case noLockout =>
    refine .of (·.lockoutEnd) (fun _ _ => rfl) fun e h => ?_
    rw [State.lockoutEnd, h]
  case wipe =>
    refine .of (·.wipeLeft) (fun _ _ => rfl) fun e ⟨ht, hb, hw⟩ => if_pos ?_
    simp [ht, hw, hb]
  case noWipe => exact .of (·.wipeLeft) (fun _ _ => rfl) fun e h => if_neg (by simp [h])

/-! ### Operations of the lifecycle controller (R562 to R564) -/

section
variable {s : State} {op : Nat}

theorem State.opGo_direct (ho : s.life.opRun = none) (hm : opMode s.opReq.1 s.life.state = .direct) :
    s.opGo = s.setLife { s.life with opRes := 1, opRun := some s.opReq, opKey := s.life.keyBuf } := by
  unfold State.opGo
  rw [hm]
  exact if_neg (by simp [ho])

theorem State.opGoOf_direct (hr : s.opReq.1 = op) (ho : s.life.opRun = none) (hm : opMode op s.life.state = .direct) :
    s.opGoOf op = s.setLife { s.life with opRes := 1, opRun := some s.opReq, opKey := s.life.keyBuf } :=
  (if_pos hr).trans (State.opGo_direct ho (hr ▸ hm))

theorem State.opGoOf_refused (hr : s.opReq.1 = op) (hm : opMode op s.life.state = .refused) :
    s.opGoOf op = s.setLife { s.life with opRes := 4 } := by
  refine (if_pos hr).trans ?_
  rw [State.opGo, hr, hm]

theorem State.opGoOf_signed (hr : s.opReq.1 = op) (hm : opMode op s.life.state = .signed) :
    s.opGoOf op = s.setLife { s.life with opRes := 3 } := by
  refine (if_pos hr).trans ?_
  rw [State.opGo, hr, hm]

end

/-- The end of an operation, from its result and the fuses and store after it. -/
theorem State.opDone_of {s t : State} {op arg res : Nat} {fail : Bool} (hr : s.life.opRun = some (op, arg))
    (h : s.opEffect op arg fail = (res, t)) :
    s.opDone' fail = t.setLife { t.life with opRes := res, opRun := none, keyBuf := List.replicate 64 0, opKey := [] } := by
  unfold State.opDone'
  rw [hr]
  dsimp only
  rw [h]

section
variable {s : State} {arg : Nat}

theorem State.opEffect_minver (h64 : arg ≤ 64) (hv : s.minVersion < arg) (fail : Bool) :
    s.opEffect 5 arg fail = if fail then (8, s) else (2, { s with otp := { s.otp with minver := s.otp.minver ||| BitVec.ofNat 64 (2 ^ arg - 1) } }) := by
  have inRange : ¬ (arg = 0 ∨ 64 < arg) := by omega
  exact (if_neg inRange).trans (if_neg (Nat.not_le.2 hv))

/-- A POLICY that finds its bits blown leaves the fuses that blowing them would. -/
theorem State.opEffect_policy (ha : arg ≤ 0x1FF) :
    s.opEffect 7 arg false = (2, { s with otp := { s.otp with
      nvmBoot := s.otp.nvmBoot ||| BitVec.ofNat 8 arg, noenc := s.otp.noenc || arg.testBit 8 } }) := by
  refine (if_neg (Nat.not_lt.2 ha)).trans ?_
  by_cases blown : s.otp.nvmBoot ||| BitVec.ofNat 8 arg = s.otp.nvmBoot ∧ (s.otp.noenc = true ∨ arg.testBit 8 = false)
  · have noenc : (s.otp.noenc || arg.testBit 8) = s.otp.noenc := by
      rcases blown.2 with h | h <;> simp [h]
    rw [if_pos blown, blown.1, noenc]
  · rw [if_neg blown]
    rfl

theorem State.opEffect_revoke (ha : arg ≤ 3) (hb : s.life.state = .blank) :
    s.opEffect 4 arg false = (2, { s with otp := { s.otp with
      sigkey := s.otp.sigkey.set arg { s.otp.sigkey.getD arg {} with revoke := true } } }) :=
  (if_neg (Nat.not_lt.2 ha)).trans (if_neg fun h => h.1 hb)

theorem State.opEffect_sigkey (ha : arg ≤ 3) (hk : keyOnCurve s.life.opKey = true) (he : s.sigStatus arg = .empty) :
    s.opEffect 1 arg false = (2, { s with otp := { s.otp with
      sigkey := s.otp.sigkey.set arg { bytes := s.life.opKey, crc := crc32 s.life.opKey, bad := false } } }) := by
  have good : ¬ (3 < arg ∨ keyOnCurve s.life.opKey = false) := by simp [hk, Nat.not_lt.2 ha]
  exact (if_neg good).trans (if_neg fun h => h he)

theorem State.opEffect_lkey (hk : keyOnCurve s.life.opKey = true) (he : s.lkeyStatus = .empty) :
    s.opEffect 2 0 false = (2, { s with otp := { s.otp with
      lkey := { bytes := s.life.opKey, crc := crc32 s.life.opKey, bad := false } } }) := by
  have good : ¬ ((0 : Nat) ≠ 0 ∨ keyOnCurve s.life.opKey = false) := by simp [hk]
  exact (if_neg good).trans (if_neg fun h => h he)

theorem State.opEffect_imgkey (he : s.imgStatus s.otp.openN = .empty) :
    s.opEffect 3 0 false = (2, { s with otp := { s.otp with
      imgkey := s.otp.imgkey.set s.otp.openN
        { bytes := s.life.opKey.take 32, crc := crc32 (s.life.opKey.take 32), bad := false } } }) := by
  simp [State.opEffect, he, programmed]

theorem State.opEffect_storewrite (he : s.storeEntry arg = none) :
    s.opEffect 6 arg false = (2, { s with store := { epoch := s.otp.epoch, entries := s.storeEntries ++ [(arg, s.life.opKey.take 32)] } }) :=
  (if_neg (by simp [he])).trans (if_neg (by simp))

end

/-- Settles O49: GO by operation and state, then the end of each operation. -/
theorem lifecycleOperations : Obligations.LifecycleOperations := by
  refine ⟨.of (·.opGoOf 1) (fun _ _ => rfl) fun e ⟨hr, ho, hm⟩ => State.opGoOf_direct hr ho hm,
    .of (·.opGoOf 2) (fun _ _ => rfl) fun e ⟨hr, ho, hm⟩ => State.opGoOf_direct hr ho hm,
    .of (·.opGoOf 3) (fun _ _ => rfl) fun e ⟨hr, ho, hm⟩ => State.opGoOf_direct hr ho hm,
    .of (·.opGoOf 4) (fun _ _ => rfl) fun e ⟨hr, ho, hm⟩ => State.opGoOf_direct hr ho hm,
    .of (·.opGoOf 5) (fun _ _ => rfl) fun e ⟨hr, ho, hm⟩ => State.opGoOf_direct hr ho hm,
    .of (·.opGoOf 6) (fun _ _ => rfl) fun e ⟨hr, ho, hm⟩ => State.opGoOf_direct hr ho hm,
    .of (·.opGoOf 7) (fun _ _ => rfl) fun e ⟨hr, ho, hm⟩ => State.opGoOf_direct hr ho hm,
    .of (·.opGoOf 1) (fun _ _ => rfl) fun e ⟨hr, hm⟩ => State.opGoOf_refused hr hm,
    .of (·.opGoOf 2) (fun _ _ => rfl) fun e ⟨hr, hm⟩ => State.opGoOf_refused hr hm,
    .of (·.opGoOf 3) (fun _ _ => rfl) fun e ⟨hr, hm⟩ => State.opGoOf_refused hr hm,
    .of (·.opGoOf 4) (fun _ _ => rfl) fun e ⟨hr, hm⟩ => State.opGoOf_refused hr hm,
    .of (·.opGoOf 5) (fun _ _ => rfl) fun e ⟨hr, hm⟩ => State.opGoOf_refused hr hm,
    .of (·.opGoOf 6) (fun _ _ => rfl) fun e ⟨hr, hm⟩ => State.opGoOf_refused hr hm,
    .of (·.opGoOf 7) (fun _ _ => rfl) fun e ⟨hr, hm⟩ => State.opGoOf_refused hr hm,
    .of (·.opGoOf 5) (fun _ _ => rfl) fun e ⟨hr, hm⟩ => State.opGoOf_signed hr hm,
    .of (·.opGoOf 1) (fun _ _ => rfl) fun e h => if_neg h,
    ?port, fun arg => ?minver, fun arg => ?minverFailed, fun arg => ?policy, fun arg => ?revoke, fun arg => ?sigkey, ?lkey, ?imgkey,
    fun arg => ?storewrite, fun fail => ?idle⟩
  case port =>
    refine .of (·.portGo) (fun _ _ => rfl) fun e _ ⟨hj, hp, ht, hm, ho⟩ => ?_
    rw [State.portGo, State.lcsPort_selected hj hp ht, State.opGo_direct ho hm]
    exact ⟨rfl, rfl, rfl, rfl⟩
  case minver =>
    refine .of (·.opDone' false) (fun _ _ => rfl) fun e _ ⟨hr, h64, hv⟩ => ?_
    rw [State.opDone_of hr (State.opEffect_minver h64 hv false)]
    exact ⟨rfl, rfl, rfl, rfl⟩
  case minverFailed =>
    refine .of (·.opDone' true) (fun _ _ => rfl) fun e _ ⟨hr, h64, hv⟩ => ?_
    rw [State.opDone_of hr (State.opEffect_minver h64 hv true)]
    exact ⟨rfl, rfl, rfl, rfl⟩
  case policy =>
    refine .of (·.opDone' false) (fun _ _ => rfl) fun e _ ⟨hr, ha⟩ => ?_
    rw [State.opDone_of hr (State.opEffect_policy ha)]
    exact ⟨rfl, rfl, rfl⟩
  case revoke =>
    refine .of (·.opDone' false) (fun _ _ => rfl) fun e _ ⟨hr, ha, hb⟩ => ?_
    rw [State.opDone_of hr (State.opEffect_revoke ha hb)]
    exact ⟨rfl, rfl, rfl⟩
  case sigkey =>
    refine .of (·.opDone' false) (fun _ _ => rfl) fun e _ ⟨hr, ha, hk, he⟩ => ?_
    rw [State.opDone_of hr (State.opEffect_sigkey ha hk he)]
    exact ⟨rfl, rfl, rfl⟩
  case lkey =>
    refine .of (·.opDone' false) (fun _ _ => rfl) fun e _ ⟨hr, hk, he⟩ => ?_
    rw [State.opDone_of hr (State.opEffect_lkey hk he)]
    exact ⟨rfl, rfl, rfl⟩
  case imgkey =>
    refine .of (·.opDone' false) (fun _ _ => rfl) fun e _ ⟨hr, he⟩ => ?_
    rw [State.opDone_of hr (State.opEffect_imgkey he)]
    exact ⟨rfl, rfl, rfl⟩
  case storewrite =>
    refine .of (·.opDone' false) (fun _ _ => rfl) fun e _ ⟨hr, he⟩ => ?_
    rw [State.opDone_of hr (State.opEffect_storewrite he)]
    exact ⟨rfl, rfl, rfl, rfl⟩
  case idle =>
    refine .of (·.opDone' fail) (fun _ _ => rfl) fun e h => ?_
    rw [State.opDone', h]

end Sys2Proof.Machine
end

section
/-!
PROOFS. The debug port (O50).
-/

namespace Sys2Proof.Machine

/-! ### SRAM over the bus -/

section
variable {a : Nat} (s : State) (m : Master) (jornus : Bool)

/-- No master's access to SRAM ends in a bus error (R45). -/
theorem State.accessFails_sram (h : inSram a = true) (write : Bool) : s.accessFails m jornus a write = false := by
  simp only [inSram, Bool.and_eq_true, decide_eq_true_eq] at h
  obtain ⟨low, high⟩ := h
  have block : 0x80 ≤ a / 0x10000 := by omega
  have blocks : inBlocks a = false := decide_eq_false (by omega)
  have stored : isStored a = false := by simp only [isStored, Bool.and_eq_false_iff, decide_eq_false_iff_not]; omega
  have up (n : Nat) (hn : n < 0x80) : (a / 0x10000 == n) = false := beq_eq_false_iff_ne.2 (by omega)
  have dma : (a == 0x90840 || (decide (0x90000 ≤ a) && decide (a < 0x90800) && a % 0x80 == 8)) = false := by
    have : ¬ a < 0x90800 := by omega
    have : a ≠ 0x90840 := by omega
    simp [*]
  cases m <;> simp [State.accessFails, implemented, inSram, low, high, blocks, stored, up, dma]

theorem State.busReadWord_sram (h : inSram a = true) : s.busReadWord m jornus a = { next := s, word := s.sramWord a } := by
  simp only [State.busReadWord, s.accessFails_sram m jornus h, h, if_true, Bool.false_eq_true, if_false]

theorem State.busWriteWord_sram (h : inSram a = true) (w : Word) : s.busWriteWord m jornus a w = { next := s.setSramWord a w } := by
  simp only [State.busWriteWord, s.accessFails_sram m jornus h, h, if_true, Bool.false_eq_true, if_false]

end

theorem State.setSramBytes_eq_setLanes (s : State) (a : Nat) (l : List Byte) : s.setSramBytes a l = s.setLanes a (l.map some) := by
  induction l generalizing s a with
  | nil => rfl
  | cons b l ih => exact ih _ _

theorem State.sramWord_setSramWord (s : State) (a : Nat) (w : Word) : (s.setSramWord a w).sramWord a = w := by
  rw [State.setSramWord, State.setSramBytes_eq_setLanes]
  exact s.sramWord_setLanes_word a w

theorem State.sramByte_setSramWord_outside (s : State) {a b : Nat} (w : Word) (h : b < a ∨ a + 4 ≤ b) :
    (s.setSramWord a w).sramByte b = s.sramByte b := s.sramByte_setSramBytes_outside (l := bytesLE 4 w.toNat) (by rwa [show (bytesLE 4 w.toNat).length = 4 from rfl])

/-! ### DBGACC (R568) -/

section
variable {s : State} {addr : BitVec 24}

theorem debugAddr_toNat (addr : BitVec 24) : debugAddr addr.toNat = addr.toNat := Nat.mod_eq_of_lt addr.isLt

theorem State.debugAccess_read (hj : s.jtagAt 0x09 = true) (hr : s.running = true) (hs : inSram addr.toNat = true)
    (ha : addr.toNat % 4 = 0) (w : Word) :
    s.debugAccess false addr.toNat w = { s with jtag := { s.jtag with accError := false, accData := s.sramWord addr.toNat } } := by
  unfold State.debugAccess
  rw [if_pos (by simp [hj, hr])]
  dsimp only
  rw [debugAddr_toNat, if_neg (by simp [ha]), if_neg Bool.false_ne_true, State.busReadWord_sram _ _ _ hs]
  rfl

theorem State.debugAccess_write (hj : s.jtagAt 0x09 = true) (hr : s.running = true) (hs : inSram addr.toNat = true)
    (ha : addr.toNat % 4 = 0) (w : Word) :
    s.debugAccess true addr.toNat w =
      { s.setSramWord addr.toNat w with jtag := { (s.setSramWord addr.toNat w).jtag with accError := false } } := by
  unfold State.debugAccess
  rw [if_pos (by simp [hj, hr])]
  dsimp only
  rw [debugAddr_toNat, if_neg (by simp [ha]), if_pos rfl, State.busWriteWord_sram _ _ _ hs]
  rfl

theorem State.debugAccess_unaligned (hj : s.jtagAt 0x09 = true) (hr : s.running = true) (ha : addr.toNat % 4 ≠ 0) (write : Bool) (w : Word) :
    s.debugAccess write addr.toNat w = { s with jtag := { s.jtag with accError := true } } := by
  unfold State.debugAccess
  rw [if_pos (by simp [hj, hr])]
  dsimp only
  rw [debugAddr_toNat, if_pos ha]

theorem State.not_jtagAt {ir : Nat} (h : s.jtag.ir ≠ ir) : s.jtagAt ir = false := by
  have other : (s.jtag.ir == ir) = false := beq_eq_false_iff_ne.2 h
  simp [State.jtagAt, other]

end

/-! ### The memory test and the TAP (R565, R569) -/

theorem State.memtest_allowed {s : State} {target alg : Nat} (hj : s.jtagAt 0x0B = true) (hp : s.power.phase ≠ .memtest)
    (ha : memtestAllowed target alg s.life.state = true) :
    s.memtest target alg true = { s.outputsOff.lockReset with
      power := { s.outputsOff.lockReset.power with phase := .memtest, entry := none }
      jtag := { s.outputsOff.lockReset.jtag with test := some (target, alg), done := false, fail := false, failing := 0 } } := by
  unfold State.memtest
  rw [if_pos (by simp [hj]), if_neg hp, if_pos ha]

theorem State.memtest_not_allowed {s : State} {target alg : Nat} (hj : s.jtagAt 0x0B = true) (hp : s.power.phase ≠ .memtest)
    (ha : memtestAllowed target alg s.life.state = false) :
    s.memtest target alg true = { s with jtag := { s.jtag with done := true, fail := true, failing := 0 } } := by
  unfold State.memtest
  rw [if_pos (by simp [hj]), if_neg hp, if_neg (by simp [ha])]

theorem State.tapUpdateIr_of_not_reset (s : State) {code : Option Nat} (hc : code ≠ some 0x0C) : s.tapUpdateIr code = s.updateIr code := by
  unfold State.tapUpdateIr
  exact if_neg (by simp [hc])

theorem State.updateIr_powered {s : State} (ht : s.tapOn = true) (code : Option Nat) :
    s.updateIr code = { s with jtag := { s.jtag with
      ir := match code with
        | some c => s.selectedIr c
        | none => 0x02
      boundary := if code.isSome then s.jtag.boundary else [] } } := by
  refine (if_pos ht).trans ?_
  cases code <;> rfl

/-- Settles O50: each instruction of the port by its conditions. -/
theorem debugPort : Obligations.DebugPort := by
  refine ⟨fun addr w => ?read, fun addr w => ?write, fun write addr w => ?unaligned, fun write addr w => ?otherIr, ?halt, ?resume,
    fun target alg => ?tested, fun target alg => ?notTested, fun target alg => ?noGo, fun failing => ?testDone, fun failing => ?noTest,
    fun code => ?update, ?tapReset, fun cells => ?extest, fun cells => ?noExtest⟩
  case read =>
    refine .of (·.debugAccess false addr.toNat w) (fun _ _ => rfl) fun e _ ⟨hj, hr, hs, ha⟩ => ?_
    rw [State.debugAccess_read hj hr hs ha]
    exact ⟨rfl, rfl, rfl⟩
  case write =>
    refine .of (·.debugAccess true addr.toNat w) (fun _ _ => rfl) fun e _ ⟨hj, hr, hs, ha⟩ => ?_
    have word := e.sramWord_setSramWord addr.toNat w
    have bytes := fun b (h : b < addr.toNat ∨ addr.toNat + 4 ≤ b) => e.sramByte_setSramWord_outside (a := addr.toNat) w h
    have only : Only [.sram] e (e.setSramWord addr.toNat w) := State.setSramWord_only _ _ _
    rw [State.debugAccess_write hj hr hs ha]
    generalize e.setSramWord addr.toNat w = u at word bytes only ⊢
    exact ⟨word, bytes, rfl, only .regs (by decide), only .wheels (by decide)⟩
  case unaligned =>
    exact .of (·.debugAccess write addr.toNat w) (fun _ _ => rfl) fun e ⟨hj, hr, ha⟩ => State.debugAccess_unaligned hj hr ha write w
  case otherIr =>
    exact .of (·.debugAccess write addr.toNat w) (fun _ _ => rfl) fun e h => if_neg (by simp [State.not_jtagAt h])
  case halt =>
    refine .of (·.debugHalt true) (fun _ _ => rfl) fun e ⟨hj, hp⟩ => ?_
    exact if_pos (by simp [hj, hp])
  case resume =>
    refine .of (·.debugHalt false) (fun _ _ => rfl) fun e _ ⟨hj, hp⟩ => ?_
    have picked : e.debugHalt false = (e.setLife { e.life with halted := false }).nandPick := if_pos (by simp [hj, hp])
    have only := ((e.setLife { e.life with halted := false }).nandPick_only).after (e.setLife_only { e.life with halted := false })
    rw [picked]
    refine ⟨State.nandPick_only _ .life (by decide), ?_, only .dma (by decide), only .regs (by decide), only .sram (by decide)⟩
    unfold State.nandPick
    split <;> rfl
  case tested =>
    refine .of (·.memtest target.toNat alg.toNat true) (fun _ _ => rfl) fun e _ ⟨hj, hp, ha⟩ => ?_
    have only := (e.outputsOff.lockReset_only).after e.outputsOff_only
    rw [State.memtest_allowed hj hp ha]
    generalize e.outputsOff.lockReset = u at only ⊢
    exact ⟨rfl, rfl, rfl, rfl, rfl, rfl, only .sram (by decide), only .otp (by decide)⟩
  case notTested =>
    exact .of (·.memtest target.toNat alg.toNat true) (fun _ _ => rfl) fun e ⟨hj, hp, ha⟩ => State.memtest_not_allowed hj hp ha
  case noGo => exact .of (·.memtest target.toNat alg.toNat false) (fun _ _ => rfl) fun e _ => if_neg (by simp)
  case testDone => exact .of (·.memtestDone failing) (fun _ _ => rfl) fun e h => if_pos h
  case noTest => exact .of (·.memtestDone failing) (fun _ _ => rfl) fun e h => if_neg fun h' => h h'.1
  case update =>
    refine .of (·.tapUpdateIr (some code.toNat)) (fun _ _ => rfl) fun e _ ⟨ht, hc⟩ => ?_
    have other : (some code.toNat : Option Nat) ≠ some 0x0C := fun h => hc (BitVec.eq_of_toNat_eq (Option.some.inj h))
    rw [State.tapUpdateIr_of_not_reset _ other, State.updateIr_powered ht]
    exact ⟨rfl, rfl⟩
  case tapReset =>
    refine .of (·.tapUpdateIr none) (fun _ _ => rfl) fun e _ ht => ?_
    rw [State.tapUpdateIr_of_not_reset _ (by simp), State.updateIr_powered ht]
    exact ⟨rfl, rfl, rfl⟩
  case extest => exact .of (·.extest cells) (fun _ _ => rfl) fun e h => if_pos (by simpa using h)
  case noExtest =>
    exact .of (·.extest cells) (fun _ _ => rfl) fun e ⟨h0, h1⟩ => if_neg (by simp [State.not_jtagAt h0, State.not_jtagAt h1])

end Sys2Proof.Machine
end

section
/-!
PROOFS. How the link takes a command and answers it (R129, R134, R150, R161).
-/

namespace Sys2Proof.Machine

section
variable {s : State} {seq : BitVec 16} {op need : Nat} {entryOk : Bool} {body : State → Reply} {args : List Byte}

/-- A command that is taken reaches its body, in the state that the link has made of its arrival. -/
theorem State.command_taken {allowed : State → Bool} (h : s.takes seq) (ha : need ≤ args.length) (hm : allowed s.served = true) :
    s.command op need allowed entryOk body seq.toNat args = s.served.respond seq.toNat op (body s.served) := by
  obtain ⟨online, fresh, held, -, waiting, -, -, seqNew, settled, entering, -⟩ := h
  have served : ({ s.endStale.closeCycle with power := { s.endStale.power with activeAt := s.now } } : State) = s.served := by
    rw [show s.endStale = s from if_neg (by simp [fresh])]
    rfl
  have busy : s.served.linkBusy = false := by simp [State.linkBusy, State.served, held, waiting]
  have cacheSeq : ¬ (s.served.link.cache.map (fun c => c.seq)) = some seq.toNat := seqNew
  have noTransition : ¬ (s.served.life.transition.isSome && decide (op ≠ 0x01) && decide (op ≠ 0x10)) = true := by
    simp [show s.served.life.transition = none from settled]
  have noEntry : ¬ (s.served.entering && !entryOk) = true := by simp [show s.served.entering = false from entering]
  unfold State.command
  rw [if_pos online, served]
  dsimp only
  rw [if_neg (by simp [busy]), if_neg cacheSeq, if_neg (by simpa using noTransition), if_neg (by simp [hm]), if_neg noEntry,
    if_neg (Nat.not_lt.2 ha)]

theorem State.frame_taken (h : s.takes seq) (ha : need ≤ args.length) :
    s.frame op need entryOk body seq args = s.served.respond seq.toNat op (body s.served) := by
  obtain ⟨-, -, -, -, -, -, recovery, -, -, -, scrap⟩ := id h
  unfold State.frame
  refine State.command_taken h ha ?_
  simp [State.serves, show s.served.life.state ≠ .scrap from scrap, show s.served.boot.recovery = false from recovery]

theorem State.deliver_unheld {t : State} (hs : t.linkStalled = false) (hh : t.link.heldIn = []) (f : List Byte) :
    s.deliver t f = t.handOver f := if_neg (by simp [hs, hh])

/-- A reply that nothing holds back is handed to the controller, and kept where its status is (R127, R134). -/
theorem State.respond_answered {r : Reply} (hr : r.rest = none) (hs : r.next.linkStalled = false) (hh : r.next.link.heldIn = [])
    (ht : r.next.life.transition = none) : s.respond seq.toNat op r = s.answered seq op r.status r.detail r.data r.next := by
  have settles : r.transits s = false := by simp [Reply.transits, ht]
  rw [State.respond_eq_deliver hr]
  unfold State.cacheReply State.answered
  rw [settles]
  by_cases kept : cachedStatus r.status = true
  · simp only [kept, Bool.not_false, Bool.and_self, if_true]
    exact (State.deliver_unheld (by exact hs) (by exact hh) _).trans rfl
  · simp only [Bool.eq_false_iff.2 kept, Bool.false_and, Bool.false_eq_true, if_false]
    rw [State.deliver_unheld hs hh]
    rfl

theorem State.takes.served_answered {r : Reply} (h : s.takes seq) (hr : r.rest = none) (ho : r.next.linkStalled = s.served.linkStalled)
    (hh : r.next.link.heldIn = s.link.heldIn) (ht : r.next.life.transition = s.life.transition) :
    s.served.respond seq.toNat op r = s.served.answered seq op r.status r.detail r.data r.next := by
  obtain ⟨-, -, -, heldIn, -, stalled, -, -, settled, -, -⟩ := h
  exact State.respond_answered hr (ho.trans stalled) (hh.trans heldIn) (ht.trans settled)

/-- A command that is taken, with a reply that leaves the link and the writes in flight alone. -/
theorem State.frame_answered {r : Reply} (h : s.takes seq) (ha : need ≤ args.length) (hb : body s.served = r) (hr : r.rest = none)
    (ho : r.next.linkStalled = s.served.linkStalled) (hh : r.next.link.heldIn = s.link.heldIn)
    (ht : r.next.life.transition = s.life.transition) :
    s.frame op need entryOk body seq args = s.served.answered seq op r.status r.detail r.data r.next := by
  rw [State.frame_taken h ha, hb]
  exact h.served_answered hr ho hh ht

/-- A command that is taken and leaves power and link alone. -/
theorem State.frame_changed {t : State} {st d : Nat} {data : List Byte} {l : List Part} (h : s.takes seq) (ha : need ≤ args.length)
    (hb : body s.served = { status := st, detail := d, data := data, next := t }) (only : Only l s.served t) (hp : Part.power ∉ l)
    (hl : Part.link ∉ l) (ht : t.life.transition = s.life.transition) :
    s.frame op need entryOk body seq args = s.served.answered seq op st d data t := by
  have power : t.power = s.served.power := only .power hp
  have link : t.link = s.served.link := only .link hl
  exact State.frame_answered (r := { status := st, detail := d, data := data, next := t }) h ha hb rfl
    (by simp only [State.linkStalled, power]) (congrArg LinkSt.heldIn link :) ht

/-- A command that is taken and changes nothing. -/
theorem State.frame_refused {st d : Nat} {data : List Byte} (h : s.takes seq) (ha : need ≤ args.length)
    (hb : body s.served = { status := st, detail := d, data := data, next := s.served }) :
    s.frame op need entryOk body seq args = s.served.answered seq op st d data s.served :=
  State.frame_answered h ha hb rfl rfl rfl rfl

end

/-! ### Numbers in bytes -/

theorem natLE_bytesLE (k v : Nat) : natLE (bytesLE k v) = v % 256 ^ k := by
  induction k generalizing v with
  | zero => simp [bytesLE, natLE, Nat.mod_one]
  | succ k ih =>
    rw [bytesLE, natLE, ih, Nat.pow_succ', Nat.mod_mul, BitVec.toNat_ofNat]

theorem length_bytesLE (k v : Nat) : (bytesLE k v).length = k := by
  induction k generalizing v with
  | zero => rfl
  | succ k ih => rw [bytesLE, List.length_cons, ih]

end Sys2Proof.Machine
end

section
/-!
PROOFS. Challenges over the link and over the port (O19).
-/

namespace Sys2Proof.Machine

/-- The fields of a challenge that has been issued (R557). -/
theorem State.issueChallenge_spec (s : State) (target : Nat) : ∃ c, (s.issueChallenge target).life = { s.life with
      issued := s.life.issued + 1, challenge := some c } ∧ c.target = target ∧ c.at_ = s.lf ∧ c.r = [] ∧ c.bytes.length = 32 ∧
      natAt c.bytes 16 8 = s.otp.uid.toNat := by
  unfold State.issueChallenge
  extract_lets n nonce b tail
  have nonceLength : nonce.length = 16 := by simp [nonce]
  refine ⟨_, rfl, rfl, rfl, rfl, ?_, ?_⟩
  · simp [b, nonceLength, length_bytesLE]
  · have uid : slice b 16 8 = bytesLE 8 s.otp.uid.toNat := by
      simp only [slice, b, List.append_assoc]
      rw [← nonceLength, List.drop_left, List.take_left' (length_bytesLE _ _)]
    rw [natAt, uid, natLE_bytesLE]
    exact Nat.mod_eq_of_lt s.otp.uid.isLt

theorem State.liveChallenge_issued {s : State} {c : Challenge} (hc : s.life.challenge = some c) (ht : c.at_ = s.lf) :
    s.liveChallenge = some c := by
  rw [State.liveChallenge_eq hc, ht, if_pos (by omega)]

theorem State.supplyR_live {s : State} {c : Challenge} (h : s.liveChallenge = some c) (r : List Byte) :
    s.supplyR r = s.setLife { s.life with challenge := some { c with r := r } } := by
  unfold State.supplyR
  rw [h]

section
variable {s : State} {args : List Byte}

theorem State.cmdChallenge_accepted (h : s.challengeRefusal (frameNat args 4 1) = none) :
    s.cmdChallenge args = {
      status := 0x00
      data := ((s.issueChallenge (frameNat args 4 1)).liveChallenge.map (fun c => c.bytes)).getD []
      next := s.issueChallenge (frameNat args 4 1) } := by
  unfold State.cmdChallenge
  dsimp only
  rw [h]
  rfl

theorem State.cmdChallenge_refused {st d : Nat} (h : s.challengeRefusal (frameNat args 4 1) = some (st, d)) :
    s.cmdChallenge args = { status := st, detail := d, next := s } := by
  unfold State.cmdChallenge
  dsimp only
  rw [h]
  rfl

theorem State.cmdRespond_r (h : frameNat args 4 1 = 0) :
    s.cmdRespond args = { status := 0x00, next := s.supplyR ((args.drop 4).take 32) } := by
  unfold State.cmdRespond
  dsimp only
  rw [h]
  rfl

theorem State.cmdRespond_lapsed (h : frameNat args 4 1 = 1) (hc : s.liveChallenge = none) :
    s.cmdRespond args = { status := 0x50, next := s.authFail } := by
  unfold State.cmdRespond
  dsimp only
  rw [h, State.verify_none _ hc]
  rfl

end

/-- Settles O19: each command of a challenge over the link, then each over the port. -/
theorem challenges : Obligations.Challenges := by
  refine ⟨fun seq args => ?issued, fun seq args st d => ?refused, fun seq args c => ?part0, fun seq args => ?part1, fun target => ?portIssued,
    fun target st d => ?portRefused, fun index c => ?readch, fun index => ?noReadch, fun index v c => ?loadr, fun index v => ?noLoadr,
    fun index v => ?loads, fun index v => ?noLoads⟩
  case issued =>
    refine .of (·.frame 0x60 1 false (fun v => v.cmdChallenge args) seq args) (fun _ _ => rfl) fun e _ ⟨ht, ha, hc⟩ => ?_
    obtain ⟨c, life, target, at_, r, -, -⟩ := e.served.issueChallenge_spec (frameNat args 4 1)
    have only := e.served.issueChallenge_only (frameNat args 4 1)
    have live := State.liveChallenge_issued (s := e.served.issueChallenge (frameNat args 4 1)) (c := c) (congrArg LifeSt.challenge life :)
      (at_.trans (only .lf (by decide)).symm)
    have body := State.cmdChallenge_accepted (s := e.served) (args := args) hc
    rw [live] at body
    obtain ⟨-, -, -, -, -, -, recovery, -⟩ := id ht
    rw [State.frame_changed ht ha body only (by decide) (by decide) (congrArg LifeSt.transition life :)]
    generalize e.served.issueChallenge (frameNat args 4 1) = t at life only ⊢
    refine ⟨⟨c, (congrArg LifeSt.challenge life :), target, at_, r, ?_⟩, (congrArg LifeSt.issued life :), only .otp (by decide),
      only .regs (by decide)⟩
    simp only [State.answered, recovery, State.served, State.ringPending, Option.map_some, Option.getD_some]
  case refused =>
    refine .of (·.frame 0x60 1 false (fun v => v.cmdChallenge args) seq args) (fun _ _ => rfl) fun e ⟨ht, ha, hc⟩ => ?_
    exact State.frame_refused ht ha (State.cmdChallenge_refused hc)
  case part0 =>
    refine .of (·.frame 0x61 36 false (fun v => v.cmdRespond args) seq args) (fun _ _ => rfl) fun e ⟨ht, ha, hp, hc⟩ => ?_
    have body := State.cmdRespond_r (s := e.served) hp
    rw [State.supplyR_live (s := e.served) hc] at body
    exact State.frame_changed ht ha body (State.setLife_only _ _) (by decide) (by decide) rfl
  case part1 =>
    refine .of (·.frame 0x61 36 false (fun v => v.cmdRespond args) seq args) (fun _ _ => rfl) fun e ⟨ht, ha, hp, hc⟩ => ?_
    exact State.frame_changed ht ha (State.cmdRespond_lapsed (s := e.served) hp hc) (State.authFail_only _) (by decide) (by decide) rfl
  case portIssued =>
    refine .of (·.portChallenge target.toNat) (fun _ _ => rfl) fun e _ ⟨hj, hp, ht, hc⟩ => ?_
    obtain ⟨c, life, tgt, at_, -, length, uid⟩ := e.issueChallenge_spec target.toNat
    have only := e.issueChallenge_only target.toNat
    rw [State.portChallenge, State.lcsPort_selected hj hp ht, hc]
    dsimp only
    generalize e.issueChallenge target.toNat = t at life only ⊢
    refine ⟨rfl, (congrArg LifeSt.issued life :), ?_, ?_, (congrArg LifeSt.state life :), only .otp (by decide), only .regs (by decide),
      only .sram (by decide)⟩
    · rw [life]; simp [tgt, at_, length]
    · rw [life]; simp [uid]
  case portRefused =>
    refine .of (·.portChallenge target.toNat) (fun _ _ => rfl) fun e _ ⟨hj, hp, ht, hc⟩ => ?_
    rw [State.portChallenge, State.lcsPort_selected hj hp ht, hc]
    exact ⟨rfl, rfl, rfl, rfl⟩
  case readch =>
    refine .of (·.portReadch index.toNat) (fun _ _ => rfl) fun e _ ⟨hj, hp, ht, hc, hi⟩ => ?_
    rw [State.portReadch, State.lcsPort_selected hj hp ht, hc]
    dsimp only
    rw [if_pos hi]
    exact ⟨rfl, rfl, rfl, rfl, rfl⟩
  case noReadch =>
    refine .of (·.portReadch index.toNat) (fun _ _ => rfl) fun e _ ⟨hj, hp, ht, hc⟩ => ?_
    rw [State.portReadch, State.lcsPort_selected hj hp ht]
    cases hl : e.liveChallenge with
    | none => exact ⟨rfl, rfl, rfl⟩
    | some c =>
      dsimp only
      rw [if_neg (Nat.not_lt.2 (hc.resolve_left (by simp [hl])))]
      exact ⟨rfl, rfl, rfl⟩
  case loadr =>
    refine .of (·.portLoadr index.toNat v) (fun _ _ => rfl) fun e _ ⟨hj, hp, ht, hc, hi, hl⟩ => ?_
    have full : fitBytes 32 c.r = c.r := by
      simp [fitBytes, hl, padBytes, List.take_of_length_le (Nat.le_of_eq hl)]
    rw [State.portLoadr, State.lcsPort_selected hj hp ht, if_pos hi, hc]
    dsimp only
    rw [State.supplyR_live hc, full]
    exact ⟨rfl, rfl, rfl, rfl⟩
  case noLoadr =>
    refine .of (·.portLoadr index.toNat v) (fun _ _ => rfl) fun e _ ⟨hj, hp, ht, hi⟩ => ?_
    rw [State.portLoadr, State.lcsPort_selected hj hp ht, if_neg (Nat.not_lt.2 hi)]
    exact ⟨rfl, rfl, rfl⟩
  case loads =>
    refine .of (·.portLoads index.toNat v) (fun _ _ => rfl) fun e _ ⟨hj, hp, ht, hi⟩ => ?_
    rw [State.portLoads, State.lcsPort_selected hj hp ht, if_pos hi]
    exact ⟨rfl, rfl, rfl, rfl⟩
  case noLoads =>
    refine .of (·.portLoads index.toNat v) (fun _ _ => rfl) fun e _ ⟨hj, hp, ht, hi⟩ => ?_
    rw [State.portLoads, State.lcsPort_selected hj hp ht, if_neg (Nat.not_lt.2 hi)]
    exact ⟨rfl, rfl, rfl, rfl⟩

end Sys2Proof.Machine
end

section
/-!
PROOFS. READ, WRITE and MODIFY (O14), PING, RESET and the cached response (O15), and the commands of a transaction (O16).
-/

namespace Sys2Proof.Machine

/-! ### READ, WRITE and MODIFY of SRAM (R129 to R131) -/

theorem natLE_lt (l : List Byte) : natLE l < 256 ^ l.length := by
  induction l with
  | nil => exact Nat.one_pos
  | cons b l ih =>
    have : b.toNat < 256 := b.isLt
    rw [natLE, List.length_cons, Nat.pow_succ']
    omega

theorem frameNat_lt (args : List Byte) (k n : Nat) : frameNat args k n < 256 ^ n :=
  Nat.lt_of_lt_of_le (natLE_lt _) (Nat.pow_le_pow_right (by decide) (List.length_take_le _ _))

theorem rangeRefusal_none {a n : Nat} (hn : 1 ≤ n) (hm : n ≤ 14) (ha : a % 4 = 0) (he : a + 4 * n ≤ 2 ^ 24) : rangeRefusal a n = none := by
  unfold rangeRefusal
  rw [if_neg (by omega), if_neg (by omega), if_neg (by omega)]

theorem State.readWords_sram (s : State) {l : List Nat} (h : ∀ a ∈ l, inSram a = true) (data : List Byte) :
    s.readWords l data = { status := 0x00, data := data ++ l.flatMap (fun a => bytesLE 4 (s.sramWord a).toNat), next := s } := by
  induction l generalizing data with
  | nil => simp [State.readWords, stOk]
  | cons a l ih =>
    have ha := h a (.head _)
    have rest := ih (fun b hb => h b (.tail _ hb)) (data ++ bytesLE 4 (s.sramWord a).toNat)
    rw [State.readWords, State.busReadWord_sram _ _ _ ha]
    dsimp only
    rw [rest, List.flatMap_cons, List.append_assoc]

section
variable {s : State} {args : List Byte}

theorem State.cmdRead_refused {st : Nat} (h : rangeRefusal (frameNat args 4 3) (frameNat args 7 1) = some st) :
    s.cmdRead args = { status := st, next := s } := by
  unfold State.cmdRead
  dsimp only
  rw [h]
  rfl

theorem State.cmdRead_sram (h : rangeRefusal (frameNat args 4 3) (frameNat args 7 1) = none)
    (hs : ∀ a ∈ wordAddrs (frameNat args 4 3) (frameNat args 7 1), inSram a = true) :
    s.cmdRead args = {
      status := 0x00, next := s
      data := (wordAddrs (frameNat args 4 3) (frameNat args 7 1)).flatMap (fun a => bytesLE 4 (s.sramWord a).toNat) } := by
  unfold State.cmdRead
  dsimp only
  rw [h]
  exact s.readWords_sram hs []

theorem State.busReadWord_unimplemented (s : State) (m : Master) (jornus : Bool) {a : Nat} (h : implemented a = false) :
    s.busReadWord m jornus a = { next := s, err := some (0x15, a) } := by
  unfold State.busReadWord
  exact if_pos (by simp [State.accessFails, h])

/-- The end of the address space is a multiple of four away from every aligned word. -/
theorem word_in_space {a : Nat} (ha : a % 4 = 0) (hb : a < 256 ^ 3) : a + 4 * 1 ≤ 2 ^ 24 := by omega

theorem State.cmdRead_unimplemented (hn : frameNat args 7 1 = 1) (ha : frameNat args 4 3 % 4 = 0)
    (hi : implemented (frameNat args 4 3) = false) :
    s.cmdRead args = { status := 0x15, detail := frameNat args 4 3, next := s } := by
  have range := rangeRefusal_none (Nat.le_refl 1) (by decide) ha (word_in_space ha (frameNat_lt args 4 3))
  unfold State.cmdRead
  dsimp only
  rw [hn, range]
  dsimp only
  rw [show wordAddrs (frameNat args 4 3) 1 = [frameNat args 4 3] from rfl, State.readWords, State.busReadWord_unimplemented _ _ _ hi]

theorem State.cmdWrite_sram (hn : frameNat args 7 1 = 1) (ha : frameNat args 4 3 % 4 = 0) (hs : inSram (frameNat args 4 3) = true)
    (hc : s.cfg.state = .idle) (hw : s.cfg.waiting = []) :
    s.cmdWrite args = { status := 0x00, next := s.setSramBytes (frameNat args 4 3) (bytesLE 4 (frameNat args 8 4)) } := by
  have range := rangeRefusal_none (Nat.le_refl 1) (by decide) ha (word_in_space ha (frameNat_lt args 4 3))
  have value : (BitVec.ofNat 32 (frameNat args 8 4)).toNat = frameNat args 8 4 := Nat.mod_eq_of_lt (frameNat_lt args 8 4)
  have open_ (l : List Nat) : s.writeRefusal l = none := by rw [State.writeRefusal, hc]
  have cfg : (s.setSramWord (frameNat args 4 3) (BitVec.ofNat 32 (frameNat args 8 4))).cfg = s.cfg :=
    State.setSramWord_only _ _ _ .cfg (by decide)
  unfold State.cmdWrite
  dsimp only
  rw [hn, range]
  dsimp only
  rw [open_]
  dsimp only
  rw [show (wordAddrs (frameNat args 4 3) 1).zip ((List.range 1).map fun i => BitVec.ofNat 32 (frameNat args (8 + 4 * i) 4)) =
      [(frameNat args 4 3, BitVec.ofNat 32 (frameNat args 8 4))] from rfl, State.writeWords, State.busWriteWord_sram _ _ _ hs]
  dsimp only
  rw [if_pos (by rw [cfg, hw]; rfl), State.writeWords, State.setSramWord, value]
  rfl

theorem State.cmdModify_sram (hn : frameNat args 7 1 = 0) (ha : frameNat args 4 3 % 4 = 0) (hs : inSram (frameNat args 4 3) = true)
    (hc : s.cfg.state = .idle) (hw : s.cfg.waiting = []) :
    s.cmdModify args = { status := 0x00, data := bytesLE 4 (s.sramWord (frameNat args 4 3)).toNat
                         next := s.setSramWord (frameNat args 4 3) ((s.sramWord (frameNat args 4 3) &&& ~~~(BitVec.ofNat 32 (frameNat args 8 4))) |||
                           (BitVec.ofNat 32 (frameNat args 12 4) &&& BitVec.ofNat 32 (frameNat args 8 4))) } := by
  have open_ (l : List Nat) : s.writeRefusal l = none := by rw [State.writeRefusal, hc]
  have cfg (w : Word) : (s.setSramWord (frameNat args 4 3) w).cfg = s.cfg := State.setSramWord_only _ _ _ .cfg (by decide)
  unfold State.cmdModify
  dsimp only
  rw [if_neg (by simp [hn]), if_neg (by simp [ha]), open_]
  dsimp only
  rw [State.busReadWord_sram _ _ _ hs]
  dsimp only
  rw [State.busWriteWord_sram _ _ _ hs]
  dsimp only
  rw [if_pos (by rw [cfg, hw]; rfl)]
  rfl

end

/-- Settles O14: READ by what it names, then a WRITE and a MODIFY of one SRAM word. -/
theorem readWriteModify : Obligations.ReadWriteModify := by
  refine ⟨fun seq args => ?read, fun seq args => ?count, fun seq args => ?align, fun seq args => ?unimplemented, fun seq args => ?write,
    fun seq args => ?modify⟩
  case read =>
    refine .of (·.frame 0x10 4 true (fun v => v.cmdRead args) seq args) (fun _ _ => rfl) fun e ⟨ht, ha, hr, hs⟩ => ?_
    exact State.frame_refused ht ha (State.cmdRead_sram (s := e.served) hr hs)
  case count =>
    refine .of (·.frame 0x10 4 true (fun v => v.cmdRead args) seq args) (fun _ _ => rfl) fun e ⟨ht, ha, hn⟩ => ?_
    exact State.frame_refused ht ha (State.cmdRead_refused (if_pos hn))
  case align =>
    refine .of (·.frame 0x10 4 true (fun v => v.cmdRead args) seq args) (fun _ _ => rfl) fun e ⟨ht, ha, h1, h14, h4⟩ => ?_
    exact State.frame_refused ht ha (State.cmdRead_refused ((if_neg (by omega)).trans (if_pos h4)))
  case unimplemented =>
    refine .of (·.frame 0x10 4 true (fun v => v.cmdRead args) seq args) (fun _ _ => rfl) fun e ⟨ht, ha, hn, h4, hi⟩ => ?_
    exact State.frame_refused ht ha (State.cmdRead_unimplemented hn h4 hi)
  case write =>
    refine .of (·.frame 0x11 (writeNeed args) false (fun v => v.cmdWrite args) seq args) (fun _ _ => rfl) fun e ⟨ht, ha, hn, h4, hs, hc⟩ => ?_
    have need : writeNeed args = 8 := by simp [writeNeed, hn]
    obtain ⟨-, -, -, -, waiting, -⟩ := id ht
    have only := e.served.setSramBytes_only (frameNat args 4 3) (bytesLE 4 (frameNat args 8 4))
    exact State.frame_changed ht (need ▸ ha) (State.cmdWrite_sram (s := e.served) hn h4 hs hc waiting) only (by decide) (by decide)
      (congrArg LifeSt.transition (only .life (by decide)) :)
  case modify =>
    refine .of (·.frame 0x12 12 false (fun v => v.cmdModify args) seq args) (fun _ _ => rfl) fun e ⟨ht, ha, hn, h4, hs, hc⟩ => ?_
    obtain ⟨-, -, -, -, waiting, -⟩ := id ht
    have only := e.served.setSramWord_only (frameNat args 4 3) ((e.served.sramWord (frameNat args 4 3) &&& ~~~(BitVec.ofNat 32 (frameNat args 8 4))) |||
      (BitVec.ofNat 32 (frameNat args 12 4) &&& BitVec.ofNat 32 (frameNat args 8 4)))
    exact State.frame_changed ht ha (State.cmdModify_sram (s := e.served) hn h4 hs hc waiting) only (by decide) (by decide)
      (congrArg LifeSt.transition (only .life (by decide)) :)

/-! ### The response cache (R134) -/

section
variable {s : State} {seq : BitVec 16} {op need : Nat} {entryOk : Bool} {body : State → Reply} {args : List Byte} {c : CacheEntry}

theorem State.frame_of_cache (ho : s.online = true) (hf : s.link.stale = false) (hb : s.linkBusy = false) (hc : s.link.cache = some c)
    (hs : c.seq = seq.toNat) :
    s.frame op need entryOk body seq args = if c.op = op then s.served.handOver (cachedFrame c.frame)
      else s.served.respond seq.toNat op { status := 0x13, next := s.served } := by
  have served : ({ s.endStale.closeCycle with power := { s.endStale.power with activeAt := s.now } } : State) = s.served := by
    rw [show s.endStale = s from if_neg (by simp [hf])]
    rfl
  have cache : s.served.link.cache = some c := hc
  unfold State.frame State.command
  rw [if_pos ho, served]
  dsimp only
  rw [if_neg (by simp [show s.served.linkBusy = false from hb]), cache, if_pos (by simp [hs])]
  simp only [Option.map_some, Option.some.injEq, Option.getD_some]

theorem State.frame_cached (ho : s.online = true) (hf : s.link.stale = false) (hb : s.linkBusy = false) (hc : s.link.cache = some c)
    (hs : c.seq = seq.toNat) (hop : c.op = op) : s.frame op need entryOk body seq args = s.served.handOver (cachedFrame c.frame) :=
  (State.frame_of_cache ho hf hb hc hs).trans (if_pos hop)

end

/-- Settles O15: PING and RESET, an unknown opcode, and the cached response. -/
theorem pingResetAndResponses : Obligations.PingResetAndResponses := by
  refine ⟨fun seq args => ?ping, fun seq args => ?reset, fun seq args => ?wrongKey, fun seq op args => ?unknown, fun seq args f => ?write,
    fun seq args f => ?txnOpen, fun seq args f => ?resetAgain, fun seq args op f => ?conflict⟩
  case ping =>
    refine .of (·.frame 0x01 0 true State.cmdPing seq args) (fun _ _ => rfl) fun e ht => ?_
    exact State.frame_refused ht (Nat.zero_le _) rfl
  case reset =>
    refine .of (·.frame 0x02 2 false (fun v => v.cmdReset args) seq args) (fun _ _ => rfl) fun e ⟨ht, ha, hk⟩ => ?_
    exact State.frame_answered (r := { status := 0x00, next := { e.served with link := { e.served.link with resetPend := true } } }) ht ha
      (if_pos hk) rfl rfl rfl rfl
  case wrongKey =>
    refine .of (·.frame 0x02 2 false (fun v => v.cmdReset args) seq args) (fun _ _ => rfl) fun e ⟨ht, ha, hk⟩ => ?_
    exact State.frame_refused ht ha (if_neg hk)
  case unknown =>
    refine .of (fun e => if knownOps.contains op.toNat then e else e.badOpcode seq op.toNat args) (fun _ _ => rfl) fun e ⟨ht, hk⟩ => ?_
    refine (if_neg (by rw [hk]; exact Bool.false_ne_true)).trans ?_
    refine (State.command_taken ht (Nat.zero_le _) rfl).trans ?_
    exact ht.served_answered (r := { status := 0x10, next := e.served }) rfl rfl rfl rfl
  case write =>
    exact .of (·.frame 0x11 (writeNeed args) false (fun v => v.cmdWrite args) seq args) (fun _ _ => rfl)
      fun e ⟨ho, hf, hb, hc⟩ => State.frame_cached ho hf hb hc rfl rfl
  case txnOpen =>
    exact .of (·.frame 0x20 4 false (fun v => v.cmdTxnOpen args) seq args) (fun _ _ => rfl)
      fun e ⟨ho, hf, hb, hc⟩ => State.frame_cached ho hf hb hc rfl rfl
  case resetAgain =>
    exact .of (·.frame 0x02 2 false (fun v => v.cmdReset args) seq args) (fun _ _ => rfl)
      fun e ⟨ho, hf, hb, hc⟩ => State.frame_cached ho hf hb hc rfl rfl
  case conflict =>
    refine .of (·.frame 0x11 (writeNeed args) false (fun v => v.cmdWrite args) seq args) (fun _ _ => rfl)
      fun e ⟨ho, hf, hb, hs, hh, hc, hop⟩ => ?_
    rw [State.frame_of_cache ho hf hb hc rfl, if_neg hop, State.respond_eq_deliver rfl]
    exact State.deliver_unheld (t := e.served) hs hh _

/-! ### The commands of a transaction (R157 to R159, R164, R171) -/

section
variable {s : State} {args : List Byte}

theorem State.cmdTxnOpen_idle {p : CommitPoint} (hc : s.cfg.state = .idle) (hp : pointOf args = some p) :
    s.cmdTxnOpen args = { status := 0x00, data := bytesLE 2 s.cfg.nextNum, next := s.openTxn p (frameNat args 6 1 == 1) } := by
  unfold State.cmdTxnOpen
  rw [if_neg (by simp [hc]), hp]
  rfl

theorem State.cmdTxnCommit_opened (hc : s.cfg.state = .opened) :
    s.cmdTxnCommit = match s.closeFailure with
      | some (st, d) => s.refuse st d
      | none => { status := 0x01, next := s.armTxn true } := by
  unfold State.cmdTxnCommit State.closeTxn
  rw [hc]
  cases s.closeFailure <;> rfl

theorem State.cmdTxnCommit_idle (hc : s.cfg.state = .idle) : s.cmdTxnCommit = s.refuse 0x20 := by
  unfold State.cmdTxnCommit
  rw [hc]
  rfl

theorem State.cmdTxnStatus_unstaged (hc : s.cfg.staged = false) :
    s.cmdTxnStatus = { status := 0x00, next := s
                       data := bytesLE 1 s.cfg.state.code ++ [0, 0, 0] ++ bytesLE 2 s.shadowBytes ++ bytesLE 2 s.cfg.num } := by
  unfold State.cmdTxnStatus
  dsimp only
  rw [if_neg (by simp [hc]), if_neg (by simp [hc])]
  rfl

end

theorem State.closeFailure_served (s : State) : s.served.closeFailure = s.closeFailure := by
  have bounds : s.served.lockBoundWritten = s.lockBoundWritten := rfl
  have sums : s.served.toothSumWheel = s.toothSumWheel := rfl
  have fails : s.served.resultFails = s.resultFails := rfl
  have cfg : s.served.cfg = s.cfg := rfl
  unfold State.closeFailure
  rw [bounds, sums, fails, cfg]

/-- What an ended transaction leaves of the configuration state. -/
theorem State.abortTxn_spec {s : State} (hc : s.cfg.state ≠ .idle) :
    s.abortTxn.cfg.state = .idle ∧ s.abortTxn.cfg.shadow = [] ∧ s.abortTxn.cfg.lastCause = 6 ∧ Words [0x10034] s s.abortTxn ∧
      Keeps State.wire s s.abortTxn := by
  have told : (s.endTxnNotice 6 0 1).cfg = (s.endTxn 6 0).cfg := State.notice_only _ _ _ .cfg (by decide)
  have ended : Only [.cfg] s (s.endTxn 6 0) := State.endTxn_only _ _ _
  have words : Words [0x10034] s (s.endTxnNotice 6 0 1) := Words.trans (.of ended (by decide)) (State.notice_words _ _ _)
  have wire : Keeps State.wire s (s.endTxnNotice 6 0 1) := (ended.wire (by decide)).trans (State.notice_wire _ _ _)
  unfold State.abortTxn
  cases h : s.cfg.state with
  | idle => exact absurd h hc
  | opened => exact ⟨rfl, rfl, rfl, .of ended (by decide), ended.wire (by decide)⟩
  | armed => exact ⟨congrArg CfgSt.state told, congrArg CfgSt.shadow told, congrArg CfgSt.lastCause told, words, wire⟩
  | staging => exact ⟨congrArg CfgSt.state told, congrArg CfgSt.shadow told, congrArg CfgSt.lastCause told, words, wire⟩

/-- Settles O16: TXN_OPEN, TXN_COMMIT, TXN_ABORT and TXN_STATUS by the state of the transaction. -/
theorem transactionCommands : Obligations.TransactionCommands := by
  have opens (e : State) (seq : BitVec 16) (args : List Byte) (p : CommitPoint) (ht : e.takes seq) (ha : 4 ≤ args.length)
      (hc : e.cfg.state = .idle) (hp : pointOf args = some p) :
      e.frame 0x20 4 false (fun v => v.cmdTxnOpen args) seq args =
        e.served.answered seq 0x20 0x00 0 (bytesLE 2 e.cfg.nextNum) (e.served.openTxn p (frameNat args 6 1 == 1)) :=
    State.frame_changed ht ha (State.cmdTxnOpen_idle (s := e.served) hc hp) (State.openTxn_only _ _ _) (by decide) (by decide) rfl
  have arms (e : State) (seq : BitVec 16) (args : List Byte) (ht : e.takes seq) (hc : e.cfg.state = .opened) (hf : e.closeFailure = none) :
      e.frame 0x21 0 false State.cmdTxnCommit seq args = e.served.answered seq 0x21 0x01 0 [] (e.served.armTxn true) := by
    have body := State.cmdTxnCommit_opened (s := e.served) hc
    rw [e.closeFailure_served, hf] at body
    exact State.frame_changed ht (Nat.zero_le _) body (State.armTxn_only _ _) (by decide) (by decide) rfl
  refine ⟨fun seq args p => ?opened, fun seq args p => ?openedState, fun seq args => ?busy, fun seq args => ?armed, fun seq args => ?armedState,
    fun seq args st d => ?failed, fun seq args => ?noCommit, fun seq args => ?aborted, fun seq args => ?noAbort, fun seq args => ?status⟩
  case opened =>
    exact .of (·.frame 0x20 4 false (fun v => v.cmdTxnOpen args) seq args) (fun _ _ => rfl)
      fun e ⟨ht, ha, hc, hp⟩ => opens e seq args p ht ha hc hp
  case openedState =>
    refine .of (·.frame 0x20 4 false (fun v => v.cmdTxnOpen args) seq args) (fun _ _ => rfl) fun e _ ⟨ht, ha, hc, hp⟩ => ?_
    rw [opens e seq args p ht ha hc hp]
    exact ⟨rfl, rfl, rfl, rfl, rfl⟩
  case busy =>
    refine .of (·.frame 0x20 4 false (fun v => v.cmdTxnOpen args) seq args) (fun _ _ => rfl) fun e ⟨ht, ha, hc⟩ => ?_
    exact State.frame_refused ht ha (if_pos hc)
  case armed =>
    exact .of (·.frame 0x21 0 false State.cmdTxnCommit seq args) (fun _ _ => rfl) fun e ⟨ht, hc, hf⟩ => arms e seq args ht hc hf
  case armedState =>
    refine .of (·.frame 0x21 0 false State.cmdTxnCommit seq args) (fun _ _ => rfl) fun e _ ⟨ht, hc, hf⟩ => ?_
    rw [arms e seq args ht hc hf]
    exact ⟨rfl, rfl, rfl, rfl, rfl⟩
  case failed =>
    refine .of (·.frame 0x21 0 false State.cmdTxnCommit seq args) (fun _ _ => rfl) fun e ⟨ht, hc, hf⟩ => ?_
    have body := State.cmdTxnCommit_opened (s := e.served) hc
    rw [e.closeFailure_served, hf] at body
    exact State.frame_refused ht (Nat.zero_le _) body
  case noCommit =>
    refine .of (·.frame 0x21 0 false State.cmdTxnCommit seq args) (fun _ _ => rfl) fun e ⟨ht, hc⟩ => ?_
    exact State.frame_refused ht (Nat.zero_le _) (State.cmdTxnCommit_idle (s := e.served) hc)
  case aborted =>
    refine .of (·.frame 0x22 0 false State.cmdTxnAbort seq args) (fun _ _ => rfl) fun e _ ⟨ht, hc⟩ => ?_
    obtain ⟨-, -, -, -, -, -, recovery, -⟩ := id ht
    obtain ⟨state, shadow, cause, words, wire⟩ := State.abortTxn_spec (s := e.served) hc
    have only := e.served.abortTxn_only
    have power : e.served.abortTxn.power = e.served.power := only .power (by decide)
    have body : e.served.cmdTxnAbort = { status := 0x00, next := e.served.abortTxn } := if_neg hc
    rw [State.frame_answered ht (Nat.zero_le _) body rfl (by simp only [State.linkStalled, power]) (congrArg LinkSt.heldIn wire :)
      (congrArg LifeSt.transition (only .life (by decide)) :)]
    generalize e.served.abortTxn = t at state shadow cause words only ⊢
    refine ⟨state, shadow, cause, only .sram (by decide), fun a ha => words a (by simpa using ha), ?_⟩
    simp only [State.answered, recovery, State.served, State.ringPending]
  case noAbort =>
    refine .of (·.frame 0x22 0 false State.cmdTxnAbort seq args) (fun _ _ => rfl) fun e ⟨ht, hc⟩ => ?_
    exact State.frame_refused ht (Nat.zero_le _) (if_pos hc)
  case status =>
    refine .of (·.frame 0x23 0 false State.cmdTxnStatus seq args) (fun _ _ => rfl) fun e ⟨ht, hc⟩ => ?_
    exact State.frame_refused ht (Nat.zero_le _) (State.cmdTxnStatus_unstaged (s := e.served) hc)

end Sys2Proof.Machine
end

section
/-!
PROOFS. Notices and their acknowledgement (O20), and the CAN controller (O21).
-/

namespace Sys2Proof.Machine

/-! ### Acknowledgement (R140 to R144) -/

theorem State.renewRetract_other (s : State) {n : Notice} (h : n.code ≠ 0x08) : s.renewRetract n = s := if_neg h

theorem State.renewRetracts_other (s : State) {l : List Notice} (h : ∀ n ∈ l, n.code ≠ 0x08) : l.foldl State.renewRetract s = s := by
  induction l with
  | nil => rfl
  | cons n l ih => rw [List.foldl_cons, s.renewRetract_other (h n (.head _)), ih fun m hm => h m (.tail _ hm)]

section
variable {s : State} {m : Nat}

theorem State.ack_of_quiet (ho : s.online = true) (hc : s.link.cycIn = []) : s.ack m = s.ackNow m := by
  unfold State.ack
  rw [if_pos ho, if_neg (by simp [hc])]

theorem State.ackNow_unsent (h : splitAck m s.link.ring = none) : s.ackNow m = s.satInc 0x10038 31 16 := by
  unfold State.ackNow
  rw [h]

/-- An acknowledgement that frees neither an NTC_RETRACT nor an NTC_LIFECYCLE. -/
theorem State.ackNow_plain {freed rest : List Notice} (hs : s.link.stale = false) (h : splitAck m s.link.ring = some (freed, rest))
    (hf : ∀ n ∈ freed, n.code ≠ 0x08 ∧ n.code ≠ 0x17) :
    s.ackNow m = { s with link := { s.link with ring := rest, retry := 0 } } := by
  have told : freed.any (fun n => n.code == 0x17) = false :=
    List.any_eq_false.2 fun n hn => by simpa using (hf n hn).2
  have acked : s.life.transition.map (fun (t : Transition) => { t with acked := t.acked || false }) = s.life.transition := by
    cases s.life.transition <;> simp
  have alive (t : State) (ht : t.link.stale = false) : t.endStale = t := if_neg (by simp [ht])
  unfold State.ackNow
  rw [h]
  dsimp only
  rw [told, acked, State.renewRetracts_other _ fun n hn => (hf n hn).1]
  exact alive _ hs

end

/-- Settles O20: transmission, acknowledgement, go-back and the stale link, and the frames that are ignored. -/
theorem noticesAndAcknowledgement : Obligations.NoticesAndAcknowledgement := by
  refine ⟨fun n rest => ?sent, ?unsent, fun number freed rest => ?acked, fun number => ?badAck, ?goBack, ?stale, ?noGoBack, fun f => ?ignored,
    fun f => ?otherFrame⟩
  case sent =>
    refine .of (·.transmitNotice) (fun _ _ => rfl) fun e ⟨ho, hs, hh, hr, hq⟩ => ?_
    unfold State.transmitNotice
    rw [if_pos (by simp [ho, hs, hh]), hr]
    simp only [List.find?, hq, State.ringPending, hr, List.isEmpty, Bool.not_false, sendFirst, if_true]
  case unsent =>
    refine .of (·.transmitNotice) (fun _ _ => rfl) fun e h => if_neg ?_
    rcases h with h | h | h
    · simp [h]
    · obtain ⟨f, hf⟩ := Option.isSome_iff_exists.1 h
      simp [hf]
    · simp [h]
  case acked =>
    refine .of (·.ack number.toNat) (fun _ _ => rfl) fun e ⟨ho, hc, hs, ha, hf⟩ => ?_
    exact (State.ack_of_quiet ho hc).trans (State.ackNow_plain hs ha hf)
  case badAck =>
    refine .of (·.ack number.toNat) (fun _ _ => rfl) fun e ⟨ho, hc, ha⟩ => ?_
    exact (State.ack_of_quiet ho hc).trans (State.ackNow_unsent ha)
  case goBack =>
    refine .of (·.goBack) (fun _ _ => rfl) fun e ⟨ho, hs, hd, hr⟩ => ?_
    exact if_pos (by simp [ho, hs, hd, hr])
  case stale =>
    refine .of (·.linkStale) (fun _ _ => rfl) fun e ⟨ho, hs, hd, hr⟩ => ?_
    exact if_pos (by simp [ho, hs, hd, hr])
  case noGoBack =>
    refine .of (·.goBack) (fun _ _ => rfl) fun e h => if_neg ?_
    rcases h with h | h | h <;> simp [h]
  case ignored =>
    refine .of (·.ignoredFrame f) (fun _ _ => rfl) fun e ⟨ho, hf, hc⟩ => if_pos ?_
    rcases hc with hc | hc | hc <;> simp [ho, LinkSettings.frameCounts, hf, hc]
  case otherFrame =>
    exact .of (·.ignoredFrame f) (fun _ _ => rfl) fun e h => if_neg (by simp [LinkSettings.frameCounts, h])

/-! ### The controller (R121, R124, R125, R151) -/

theorem State.busOffRecovery_spec {s : State} (hu : s.linkUp = true) (hc : s.link.can = .busOff) :
    s.busOffRecovery.link.can = .errorActive ∧ s.busOffRecovery.link.txErr = 0 ∧ s.busOffRecovery.link.rxErr = 0 ∧
      s.busOffRecovery.link.retry = s.link.retry ∧ Only [.regs, .link, .setAt, .setNow] s s.busOffRecovery ∧
      Words [0x10034] s s.busOffRecovery := by
  unfold State.busOffRecovery
  rw [if_pos (by simp [hu, hc])]
  extract_lets l s1
  have begun : Only [.link] s s1 := Only.set_link s _
  have back : Only [.link] s s1.goBackRing := begun.trans (State.goBackRing_only s1)
  have wire : Keeps State.wire s1 (s1.goBackRing.notice 0x18 (bytesLE 2 s.link.boffCnt ++ bytesLE 1 0 ++ bytesLE 1 0)) :=
    Keeps.trans (show Keeps State.wire s1 s1.goBackRing from rfl) (State.notice_wire _ _ _)
  exact ⟨(congrArg LinkSt.can wire :), (congrArg LinkSt.txErr wire :), (congrArg LinkSt.rxErr wire :), (congrArg LinkSt.retry wire :),
    ((State.notice_only _ _ _).after back).among (by decide), Words.trans (.of back (by decide)) (State.notice_words _ _ _)⟩

/-- Settles O21: bus-off and its recovery, the error counters, the integration and new link settings. -/
theorem canController : Obligations.CanController := by
  refine ⟨?busOff, ?recovery, fun tx rx => ?passive, fun tx rx => ?active, ?integrated, ?settings, ?noSettings⟩
  case busOff =>
    refine .of (·.busOff) (fun _ _ => rfl) fun e _ ho => ?_
    rw [State.busOff, if_pos ho]
    exact ⟨rfl, rfl, Nat.lt_add_right _ (by decide), rfl, rfl, rfl, rfl⟩
  case recovery =>
    refine .of (·.busOffRecovery) (fun _ _ => rfl) fun e _ ⟨hu, hc⟩ => ?_
    obtain ⟨can, tx, rx, retry, only, words⟩ := State.busOffRecovery_spec hu hc
    exact ⟨can, tx, rx, retry, only .power (by decide), only .cfg (by decide), only .sram (by decide), fun a ha => words a (by simpa using ha)⟩
  case passive =>
    refine .of (·.errorPassive tx.toNat rx.toNat) (fun _ _ => rfl) fun e ⟨ho, hc⟩ => ?_
    rw [State.errorPassive, if_pos ho, Nat.mod_eq_of_lt tx.isLt, Nat.mod_eq_of_lt rx.isLt, if_pos hc]
  case active =>
    refine .of (·.errorPassive tx.toNat rx.toNat) (fun _ _ => rfl) fun e ⟨ho, ht, hr⟩ => ?_
    rw [State.errorPassive, if_pos ho, Nat.mod_eq_of_lt tx.isLt, Nat.mod_eq_of_lt rx.isLt, if_neg (by omega)]
  case integrated =>
    refine .of (·.busIntegrated) (fun _ _ => rfl) fun e ⟨hu, hc, ht, hr⟩ => ?_
    rw [State.busIntegrated, if_pos (by simp [hu, hc]), if_neg (by omega)]
  case settings =>
    refine .of (·.whileRunning (fun e => e.applyLinkSettings)) (fun _ _ => rfl) fun e ⟨hr, hp, hc⟩ => ?_
    have up : (e.link.can == CanState.busOff) = false := beq_eq_false_iff_ne.2 hc
    rw [State.whileRunning, if_pos hr, State.applyLinkSettings, if_pos hp, up]
    rfl
  case noSettings =>
    refine .of (·.whileRunning (fun e => e.applyLinkSettings)) (fun _ _ => rfl) fun e h => ?_
    have unchanged : e.applyLinkSettings = e := if_neg (by simp [h])
    rw [State.whileRunning, unchanged, ite_self]

end Sys2Proof.Machine
end

section
/-!
PROOFS. SELFTEST and the self-tests it starts (O18).
-/

namespace Sys2Proof.Machine

/-! ### What a change of a tracker leaves of the trackers and of the configuration -/

/-- The configuration state without what a watch for the zero of a wheel records. -/
def State.unwatched (s : State) : CfgSt := { s.cfg with zeroRef := 0, pointSeen := false }

theorem Only.unwatched {l : List Part} {s t : State} (h : Only l s t) (hl : Part.cfg ∉ l) : Keeps State.unwatched s t := by
  unfold Keeps State.unwatched
  rw [show t.cfg = s.cfg from h .cfg hl]

theorem State.watchZero_unwatched (s : State) (w : Fin 4) (old : WheelSt) : Keeps State.unwatched s (s.watchZero w old) := by
  unfold State.watchZero
  exact .ite rfl rfl

/-- What step 1 of R28 leaves: the one tracker's new state. -/
theorem State.moveWheel_spec (s : State) (w : Fin 4) (v : WheelSt) :
    (s.moveWheel w v).2.wheels = s.wheels.set w v ∧ Keeps State.unwatched s (s.moveWheel w v).2 := by
  have set : ((s.catchFallback w).setWheel w v).wheels = s.wheels.set w v := by
    rw [State.setWheel_wheels, s.catchFallback_only w .wheels (by decide)]
  have placed := ((State.setWheel_only (s.catchFallback w) w v).after (s.catchFallback_only w)).unwatched (by decide)
  generalize hu : (s.catchFallback w).setWheel w v = u at set placed
  have moved := (u.watchZero w s.wheels[w]).wheelMoved_only w (s.wheels[w]).sync
  have watched : Keeps State.unwatched s ((u.watchZero w s.wheels[w]).wheelMoved w (s.wheels[w]).sync) :=
    (placed.trans (u.watchZero_unwatched w _)).trans (moved.unwatched (by decide))
  have wheels := (moved.after (u.watchZero_only w s.wheels[w])) .wheels (by decide)
  unfold State.moveWheel
  dsimp only
  rw [hu]
  generalize (u.watchZero w s.wheels[w]).wheelMoved w (s.wheels[w]).sync = t at watched wheels
  split
  · have lost := t.phaseLost_only w
    exact ⟨(lost .wheels (by decide)).trans (wheels.trans set), watched.trans (lost.unwatched (by decide))⟩
  · exact ⟨wheels.trans set, watched⟩

theorem State.changeWheel_spec (s : State) (w : Fin 4) (v : WheelSt) :
    (s.changeWheel w v).wheels = s.wheels.set w v ∧ Keeps State.unwatched s (s.changeWheel w v) := by
  obtain ⟨wheels, watched⟩ := s.moveWheel_spec w v
  have tail := (s.moveWheel w v).2.wheelTail_only (s.moveWheel w v).1
  exact ⟨(tail .wheels (by decide)).trans wheels, watched.trans (tail.unwatched (by decide))⟩

/-- What every step of a run over the trackers establishes of its own one and keeps of the others holds of all of them after it. -/
theorem wheels_fold {f : State → Fin 4 → State} {P : WheelSt → Prop} (own : ∀ s n, P (f s n).wheels[n])
    (keep : ∀ s n m, m ≠ n → P s.wheels[m] → P (f s n).wheels[m]) (l : List (Fin 4)) (s : State) (m : Fin 4)
    (hm : m ∈ l ∨ P s.wheels[m]) : P (l.foldl f s).wheels[m] := by
  induction l generalizing s with
  | nil => exact hm.resolve_left (List.not_mem_nil)
  | cons n l ih =>
    refine ih (f s n) ?_
    by_cases e : m = n
    · exact .inr (e ▸ own s n)
    · rcases hm with hm | hm
      · exact .inl ((List.mem_cons.1 hm).resolve_left e)
      · exact .inr (keep s n m e hm)

theorem State.wheelsSilent_spec (s : State) :
    (∀ w : Fin 4, (s.wheelsSilent.wheels[w]).sync = .silent) ∧ Keeps State.unwatched s s.wheelsSilent := by
  refine ⟨fun w => ?_, .fold (fun _ _ => (State.changeWheel_spec _ _ _).2) (.refl _ _)⟩
  refine wheels_fold (P := fun v => v.sync = .silent) (fun s n => ?_) (fun s n m hm h => ?_) _ s w (.inl (List.mem_finRange w))
  · rw [(s.changeWheel_spec n _).1]
    simp [WheelSt.toSilent]
  · have apart : n.val ≠ m.val := fun e => hm (Fin.ext e.symm)
    rw [(s.changeWheel_spec n _).1]
    simpa [apart] using h

/-! ### SELFTEST (R133) -/

section
variable {s : State} {args : List Byte}

theorem State.cmdSelftest_unit (h : 3 < frameNat args 4 1) : s.cmdSelftest args = s.refuse 0x11 := if_pos h

theorem State.cmdSelftest_busy (h3 : frameNat args 4 1 ≤ 3) (h : s.testOf (frameNat args 4 1) ≠ .idle) : s.cmdSelftest args = s.refuse 0x30 :=
  (if_neg (Nat.not_lt.2 h3)).trans (if_pos h)

theorem State.cmdSelftest_adcA (hu : frameNat args 4 1 = 1) (hi : s.cfg.testAdcA = .idle) (hd : s.domainOn 4 = true) (ho : s.convOn .adcA = true) :
    s.cmdSelftest args = { status := 0x01, next := { s with cfg := { s.cfg with
      testAdcA := .running s.now (s.now + secAng (if frameNat args 5 2 = 0 then 60 else frameNat args 5 2)) } } } := by
  have on : (!s.domainOn (4 + Conv.adcA.index)) = false := by
    rw [show 4 + Conv.adcA.index = 4 from rfl, hd]
    rfl
  unfold State.cmdSelftest
  rw [hu]
  dsimp only
  rw [if_neg (by decide), if_neg (by simp [State.testOf, hi]), State.adcTestRequest, on, ho]
  rfl

theorem State.angleTestStart_restless (h : s.restedHalfSecond = false) : s.angleTestStart = s := by
  unfold State.angleTestStart
  split
  · exact if_neg (by simp [h])
  · rfl

theorem State.cmdSelftest_angle (hu : frameNat args 4 1 = 0) (hi : s.cfg.testAngle = .idle) (hr : s.restedHalfSecond = false) :
    s.cmdSelftest args = { status := 0x01, detail := 1, next := { s with cfg := { s.cfg with
      testAngle := .queued (s.now + secAng (if frameNat args 5 2 = 0 then 60 else frameNat args 5 2)) } } } := by
  unfold State.cmdSelftest
  rw [hu]
  dsimp only
  rw [if_neg (by decide), if_neg (by simp [State.testOf, hi])]
  rw [State.angleTestStart_restless (s := { s with cfg := { s.cfg with testAngle := .queued _ } }) hr]
  rfl

end

/-! ### The tests (R169, R345, R524) -/

theorem State.angleTestStart_spec {s : State} {deadline : Nat} (hr : s.running = true) (ht : s.cfg.testAngle = .queued deadline)
    (hs : s.restedHalfSecond = true) (hd : s.now < deadline) :
    s.angleTestStart.cfg.testAngle = .running s.now deadline ∧ Only [.regs, .cfg, .phases, .outs, .setAt, .setNow] s s.angleTestStart := by
  have started : s.angleTestStart = (({ s with cfg := { s.cfg with testAngle := .running s.now deadline } }).phaseResetAll).outputsTest := by
    unfold State.angleTestStart
    rw [ht]
    exact if_pos (by simp [hr, hs, hd])
  have cfg := ((State.outputsTest_only _).after (State.phaseResetAll_only { s with cfg := { s.cfg with testAngle := .running s.now deadline } }))
    .cfg (by decide)
  exact ⟨started ▸ (congrArg CfgSt.testAngle cfg :), s.angleTestStart_only⟩

theorem State.angleTestEnd_spec {s : State} {since deadline : Nat} (pass : Bool) (detail : Word) (ht : s.cfg.testAngle = .running since deadline) :
    (s.angleTestEnd pass detail).cfg.testAngle = .idle ∧ (∀ w : Fin 4, ((s.angleTestEnd pass detail).wheels[w]).sync = .silent) := by
  obtain ⟨silent, watched⟩ := ({ s with cfg := { s.cfg with testAngle := .idle } } : State).wheelsSilent_spec
  have ended : s.angleTestEnd pass detail = (({ s with cfg := { s.cfg with testAngle := .idle } }).wheelsSilent.outputsTestEnd).notice 0x07
      (selftestPayload 0 (if pass then 0 else 1) detail.toNat) := by
    unfold State.angleTestEnd
    rw [ht]
    rfl
  rw [ended]
  generalize ({ s with cfg := { s.cfg with testAngle := .idle } } : State).wheelsSilent = u at silent watched ⊢
  have only := (u.outputsTestEnd.notice_only 0x07 (selftestPayload 0 (if pass then 0 else 1) detail.toNat)).after u.outputsTestEnd_only
  refine ⟨(congrArg CfgSt.testAngle (watched.trans (only.unwatched (by decide))) :), fun w => ?_⟩
  rw [show State.wheels _ = u.wheels from only .wheels (by decide)]
  exact silent w

theorem State.adcTestDone_passed {s : State} {r : AdcTest} {since deadline : Nat} (ht : s.cfg.testAdcA = .running since deadline)
    (ho : s.convOn .adcA = true) (hd : s.adcDetail .adcA r % 32 = 0) :
    s.adcTestDone .adcA r =
      ({ s with cfg := { s.cfg with testAdcA := .idle } } : State).notice 0x07 (selftestPayload 1 0 (s.adcDetail .adcA r)) := by
  have test : s.adcTest .adcA = .running since deadline := ht
  have good : s.adcDetail .adcA r % 4 = 0 := by omega
  have bit : (s.adcDetail .adcA r).testBit 3 = false := by
    rw [Nat.testBit_eq_decide_div_mod_eq]
    exact decide_eq_false (by omega)
  unfold State.adcTestDone
  rw [test]
  dsimp only
  rw [if_neg (by simp [ho]), bit, if_neg Bool.false_ne_true, hd, if_pos rfl]
  cases (s.adc .adcA).spare with
  | none => rfl
  | some k => exact if_pos good

theorem State.loadModel_testBits (s : State) : s.loadModel.fus.testBits = s.fus.testBits := by
  unfold State.loadModel
  split
  · rfl
  · split
    · rfl
    · exact (congrArg FusSt.testBits (((State.startModelRead_only _ _ _).after (State.dropJobs_only _ _)) .fus (by decide)) :)

theorem State.fusionTestDone_spec {s : State} {since deadline b : Nat} (ht : s.cfg.testFusion = .running since deadline)
    (hb : s.fus.testBits = some b) : s.fusionTestDone.cfg.testFusion = .idle ∧ s.fusionTestDone.fus.testBits = none := by
  unfold State.fusionTestDone
  rw [ht, hb]
  dsimp -zeta only
  extract_lets us d c f s1 s2
  have told : Only [.regs, .link, .setAt, .setNow] s1 s2 := State.notice_only _ _ _
  have cfg : s2.cfg.testFusion = .idle := (congrArg CfgSt.testFusion (told .cfg (by decide)) :)
  have fus : s2.fus.testBits = none := (congrArg FusSt.testBits (told .fus (by decide)) :)
  split
  · refine ⟨(congrArg CfgSt.testFusion (s2.modelRunCrc_only .cfg (by decide)) :).trans cfg, ?_⟩
    exact (State.loadModel_testBits _).trans fus
  · exact ⟨cfg, fus⟩

/-- Settles O18: SELFTEST by its unit, then the beginning and the end of each test. -/
theorem selfTesting : Obligations.SelfTesting := by
  refine ⟨fun seq args => ?adcA, fun seq args => ?angle, fun seq args => ?unit, fun seq args => ?busy, fun deadline => ?start, ?restless,
    fun pass detail since deadline => ?ended, fun deadline => ?deferred, fun r since deadline => ?adcDone, fun r => ?noTest,
    fun since deadline b => ?fusion⟩
  case adcA =>
    refine .of (·.frame 0x50 3 false (fun v => v.cmdSelftest args) seq args) (fun _ _ => rfl) fun e ⟨ht, ha, hu, hi, hd, ho⟩ => ?_
    exact State.frame_changed ht ha (State.cmdSelftest_adcA (s := e.served) hu hi hd ho) (Only.set_cfg _ _) (by decide) (by decide) rfl
  case angle =>
    refine .of (·.frame 0x50 3 false (fun v => v.cmdSelftest args) seq args) (fun _ _ => rfl) fun e ⟨ht, ha, hu, hi, hr⟩ => ?_
    exact State.frame_changed ht ha (State.cmdSelftest_angle (s := e.served) hu hi hr) (Only.set_cfg _ _) (by decide) (by decide) rfl
  case unit =>
    refine .of (·.frame 0x50 3 false (fun v => v.cmdSelftest args) seq args) (fun _ _ => rfl) fun e ⟨ht, ha, hu⟩ => ?_
    exact State.frame_refused ht ha (State.cmdSelftest_unit hu)
  case busy =>
    refine .of (·.frame 0x50 3 false (fun v => v.cmdSelftest args) seq args) (fun _ _ => rfl) fun e ⟨ht, ha, hu, hb⟩ => ?_
    exact State.frame_refused ht ha (State.cmdSelftest_busy (s := e.served) (by omega) (by rw [hu]; exact hb))
  case start =>
    refine .of (·.angleTestStart) (fun _ _ => rfl) fun e _ ⟨hr, ht, hs, hd⟩ => ?_
    obtain ⟨test, only⟩ := State.angleTestStart_spec hr ht hs hd
    exact ⟨test, only .wheels (by decide), only .sram (by decide), only .power (by decide)⟩
  case restless => exact .of (·.angleTestStart) (fun _ _ => rfl) fun e h => State.angleTestStart_restless h
  case ended =>
    refine .of (·.whileRunning (fun e => State.fusWheels e (e.angleTestEnd pass detail))) (fun _ _ => rfl) fun e _ ⟨hr, ht⟩ => ?_
    obtain ⟨test, silent⟩ := State.angleTestEnd_spec pass detail ht
    have fused := State.fusWheels_only e (e.angleTestEnd pass detail)
    have only := fused.after (e.angleTestEnd_only pass detail)
    rw [State.whileRunning, if_pos hr]
    generalize e.angleTestEnd pass detail = u at test silent fused only ⊢
    refine ⟨(congrArg CfgSt.testAngle (fused .cfg (by decide)) :).trans test, fun w => ?_, only .sram (by decide), only .power (by decide)⟩
    rw [show State.wheels _ = u.wheels from fused .wheels (by decide)]
    exact silent w
  case deferred =>
    refine .of (·.whileRunning (fun e => e.selftestDeferred)) (fun _ _ => rfl) fun e ⟨hr, ht, hd⟩ => ?_
    rw [State.whileRunning, if_pos hr, State.selftestDeferred, ht]
    exact if_pos hd
  case adcDone =>
    exact .of (·.adcTestDone .adcA r) (fun _ _ => rfl) fun e ⟨hr, ht, ho, hd⟩ => State.adcTestDone_passed ht ho hd
  case noTest =>
    refine .of (·.adcTestDone .adcA r) (fun _ _ => rfl) fun e h => ?_
    rw [State.adcTestDone, show e.adcTest .adcA = .idle from h]
  case fusion =>
    refine .of (·.whileRunning (fun e => e.fusionTestDone)) (fun _ _ => rfl) fun e _ ⟨hr, ht, hb⟩ => ?_
    obtain ⟨test, bits⟩ := State.fusionTestDone_spec ht hb
    have only := e.fusionTestDone_only
    rw [State.whileRunning, if_pos hr]
    exact ⟨test, bits, only .sram (by decide), only .power (by decide)⟩

end Sys2Proof.Machine
end

section
/-!
PROOFS. The IMG, REC_READ and LOG_READ commands (O17).
-/

namespace Sys2Proof.Machine

section
variable {s : State} {args : List Byte} {u : ImgUpd}

/-! ### Image updates (R437) -/

theorem State.cmdImgBegin_length (hu : s.cave.imgUpd = none) (hw : s.imgWriting = false) (hm : s.cave.mode ≠ .readonly)
    (hl : frameNat args 4 4 < 0x100 ∨ 0x200000 < frameNat args 4 4) : s.cmdImgBegin args = s.refuse 0x11 := by
  unfold State.cmdImgBegin
  dsimp only
  rw [if_neg (by simp [hu, hw, hm]), if_pos hl]
  rfl

theorem State.cmdImgBegin_accepted (hu : s.cave.imgUpd = none) (hw : s.imgWriting = false) (hm : s.cave.mode ≠ .readonly)
    (h0 : 0x100 ≤ frameNat args 4 4) (h1 : frameNat args 4 4 ≤ 0x200000) (hb : s.blockSize ≠ 0)
    (hg : s.blocksFor (frameNat args 4 4) ≤ (s.goodSlotBlocks s.updateTarget.1).length) :
    s.cmdImgBegin args = {
      status := 0x00
      data := bytesLE 1 (s.updateTarget.1 + 1) ++ [0, 0, 0] ++ bytesLE 4 s.updateTarget.2
      next := { s with cave := { s.cave with imgUpd := some {
        slot := s.updateTarget.1, gen := s.updateTarget.2, len := frameNat args 4 4, count := s.blocksFor (frameNat args 4 4)
        used := (s.goodSlotBlocks s.updateTarget.1).take (s.blocksFor (frameNat args 4 4))
        free := (s.goodSlotBlocks s.updateTarget.1).drop (s.blocksFor (frameNat args 4 4)) } } } } := by
  unfold State.cmdImgBegin
  dsimp only
  rw [if_neg (by simp [hu, hw, hm]), if_neg (by omega), if_neg (by omega)]
  rfl

theorem State.updProgram_none (hu : s.cave.imgUpd = some u) (hf : u.full = []) : s.updProgram = s := by
  unfold State.updProgram
  rw [hu]
  dsimp only
  rw [hf, ite_self]

/-- The programming of a page counts it and leaves the rest of the update. -/
theorem State.updProgram_upd (hu : s.cave.imgUpd = some u) :
    ∃ k, s.updProgram.cave.imgUpd = some { u with pages := k } := by
  have same : s.cave.imgUpd = some { u with pages := u.pages } := hu
  unfold State.updProgram
  rw [hu]
  dsimp only
  split
  · exact ⟨_, same⟩
  · split
    · exact ⟨_, same⟩
    · exact ⟨_, (congrArg CaveSt.imgUpd (State.addJob_only _ _ _ _ .cave (by decide)) :)⟩

theorem State.cmdImgData_none (hu : s.cave.imgUpd = none) : s.cmdImgData args = s.refuse 0x40 := by
  unfold State.cmdImgData
  dsimp only
  rw [hu]
  rfl

/-- Bytes that leave the page buffer short of a page. -/
theorem State.cmdImgData_accepted (hu : s.cave.imgUpd = some u) (he : u.ended = false) (h1 : 1 ≤ frameNat args 7 1) (h56 : frameNat args 7 1 ≤ 56)
    (ho : frameNat args 4 3 = u.got) (hl : u.got + frameNat args 7 1 ≤ u.len) (hf : u.full = [])
    (hp : u.buf.length + frameNat args 7 1 < s.nand.page) (hn : 4 + frameNat args 7 1 ≤ args.length) :
    s.cmdImgData args = { status := 0x00, next := { s with cave := { s.cave with imgUpd := some { u with
      buf := u.buf ++ (args.drop 4).take (frameNat args 7 1), got := u.got + frameNat args 7 1 } } } } := by
  have length : ((args.drop 4).take (frameNat args 7 1)).length = frameNat args 7 1 := by
    rw [List.length_take, List.length_drop]
    omega
  have short : ¬ s.nand.page ≤ (u.buf ++ (args.drop 4).take (frameNat args 7 1)).length := by
    rw [List.length_append, length]
    omega
  have filled : fillPages s.nand.page u ((args.drop 4).take (frameNat args 7 1)) =
      { u with buf := u.buf ++ (args.drop 4).take (frameNat args 7 1), got := u.got + frameNat args 7 1 } := by
    rw [fillPages, if_neg short, length]
  have buffers : ¬ 2 < u.full.length + (u.buf.length + frameNat args 7 1 + s.nand.page - 1) / s.nand.page := by
    have : (u.buf.length + frameNat args 7 1 + s.nand.page - 1) / s.nand.page < 2 := Nat.div_lt_of_lt_mul (by omega)
    rw [hf, List.length_nil]
    omega
  unfold State.cmdImgData
  dsimp only
  rw [hu]
  dsimp only
  rw [if_neg (by simp [he]), if_neg (by omega), if_neg (by omega), if_neg (by omega), if_neg buffers, filled]
  exact congrArg (fun t : State => ({ status := 0x00, next := t } : Reply)) (State.updProgram_none rfl hf)

theorem State.cmdImgEnd_refused (hu : s.cave.imgUpd.all (fun u => decide (u.got < u.len)) = true) : s.cmdImgEnd = s.refuse 0x40 := by
  unfold State.cmdImgEnd
  cases h : s.cave.imgUpd with
  | none => rfl
  | some u =>
    rw [h] at hu
    exact if_pos (.inr (of_decide_eq_true hu))

theorem State.cmdImgEnd_accepted (hu : s.cave.imgUpd = some u) (he : u.ended = false) (hl : u.len ≤ u.got) :
    ∃ t, s.cmdImgEnd = { status := 0x01, next := t } ∧ Only [.nand, .cave] s t ∧
      ∃ v, t.cave.imgUpd = some v ∧ v.ended = true ∧ v.buf = [] ∧ v.slot = u.slot ∧ v.gen = u.gen := by
  have going : ¬ (u.ended = true ∨ u.got < u.len) := by simp [he, hl]
  unfold State.cmdImgEnd
  rw [hu]
  dsimp -zeta only
  rw [if_neg going]
  extract_lets u1 c s1
  have begun : Only [.cave] s s1 := Only.set_cave _ _
  refine ⟨_, rfl, .ite ((State.updEraseRest_only _ _).step (begun.among (by decide)) (by decide))
    ((State.updProgram_only _).step (begun.among (by decide)) (by decide)), ?_⟩
  split
  · exact ⟨u1, (congrArg CaveSt.imgUpd (s1.updEraseRest_only u1 .cave (by decide)) :), rfl, rfl, rfl, rfl⟩
  · obtain ⟨k, upd⟩ := State.updProgram_upd (s := s1) (u := u1) rfl
    exact ⟨_, upd, rfl, rfl, rfl, rfl⟩

theorem State.cmdImgAbort_open (hu : s.cave.imgUpd = some u) :
    ∃ t, s.cmdImgAbort = { status := 0x00, next := t } ∧ t.cave.imgUpd = none := by
  unfold State.cmdImgAbort
  rw [hu]
  exact ⟨_, rfl, (congrArg CaveSt.imgUpd (((State.nandPick_only _).after (State.addJob_only _ _ _ _)) .cave (by decide)) :)⟩

theorem State.cmdImgAbort_none (hu : s.cave.imgUpd = none) : s.cmdImgAbort = s.refuse 0x40 := by
  unfold State.cmdImgAbort
  rw [hu]
  rfl

/-! ### Records and log entries (R436) -/

theorem State.cmdRecRead_index (hk : 255 < frameNat args 4 2) (hs : frameNat args 4 2 ≠ 0xFFFF) : s.cmdRecRead args = s.refuse 0x11 :=
  if_pos ⟨hk, hs⟩

theorem State.cmdRecRead_unmounted (hk : frameNat args 4 2 ≤ 255) (hc : s.caveServes = false) : s.cmdRecRead args = s.refuse 0x03 :=
  (if_neg fun h => Nat.not_lt.2 hk h.1).trans (if_pos (by simp [hc]))

theorem State.cmdRecRead_cached {body : List Byte} {t : State} (hk : frameNat args 4 2 ≤ 255) (hc : s.caveServes = true)
    (hr : s.cachedRecord (frameNat args 4 2) = some (body, t)) (ho : frameNat args 6 2 < body.length) :
    s.cmdRecRead args = { status := 0x00, detail := ((body.drop (frameNat args 6 2)).take 56).length
                          data := (body.drop (frameNat args 6 2)).take 56, next := t } := by
  unfold State.cmdRecRead
  dsimp only
  rw [if_neg fun h => Nat.not_lt.2 hk h.1, if_neg (by simp [hc]), hr]
  exact if_neg (Nat.not_le.2 ho)

theorem State.cmdLogRead_unmounted (hc : s.caveServes = false) : s.cmdLogRead args = s.refuse 0x03 := if_pos (by simp [hc])

theorem State.cmdLogRead_buffered {x : LogEntry} (hc : s.caveServes = true) (hx : s.bufferedEntry (frameNat args 4 4) = some x) :
    s.cmdLogRead args = s.entryReply x := by
  unfold State.cmdLogRead
  dsimp only
  rw [if_neg (by simp [hc]), hx]

end

/-- Settles O17: IMG_BEGIN, IMG_DATA, IMG_END and IMG_ABORT, then REC_READ and LOG_READ. -/
theorem imagesRecordsAndLog : Obligations.ImagesRecordsAndLog := by
  refine ⟨fun seq args => ?begun, fun seq args => ?length, fun seq args u => ?taken, fun seq args => ?noData, fun seq args u => ?ended,
    fun seq args => ?noEnd, fun seq args u => ?aborted, fun seq args => ?noAbort, fun seq args => ?recUnmounted, fun seq args body u => ?record,
    fun seq args => ?recIndex, fun seq args => ?logUnmounted, fun seq args x => ?entry⟩
  case begun =>
    refine .of (·.frame 0x30 4 false (fun v => v.cmdImgBegin args) seq args) (fun _ _ => rfl) fun e _ ⟨ht, ha, hu, hw, hm, h0, h1, hb, hg⟩ => ?_
    obtain ⟨-, -, -, -, -, -, recovery, -⟩ := id ht
    rw [State.frame_changed ht ha (State.cmdImgBegin_accepted (s := e.served) hu hw hm h0 h1 hb hg) (Only.set_cave _ _) (by decide) (by decide) rfl]
    refine ⟨⟨_, rfl, rfl, rfl, rfl, rfl, rfl⟩, ?_, rfl⟩
    simp only [State.answered, recovery, State.served, State.ringPending]
    rfl
  case length =>
    refine .of (·.frame 0x30 4 false (fun v => v.cmdImgBegin args) seq args) (fun _ _ => rfl) fun e ⟨ht, ha, hu, hw, hm, hl⟩ => ?_
    exact State.frame_refused ht ha (State.cmdImgBegin_length (s := e.served) hu hw hm hl)
  case taken =>
    refine .of (·.frame 0x31 (imgNeed args) false (fun v => v.cmdImgData args) seq args) (fun _ _ => rfl)
      fun e ⟨ht, ha, hu, he, h1, h56, ho, hl, hf, hp⟩ => ?_
    have need : imgNeed args = 4 + frameNat args 7 1 := if_pos ⟨h1, h56⟩
    exact State.frame_changed ht ha (State.cmdImgData_accepted (s := e.served) hu he h1 h56 ho hl hf hp (need ▸ ha)) (Only.set_cave _ _)
      (by decide) (by decide) rfl
  case noData =>
    refine .of (·.frame 0x31 (imgNeed args) false (fun v => v.cmdImgData args) seq args) (fun _ _ => rfl) fun e ⟨ht, ha, hu⟩ => ?_
    exact State.frame_refused ht ha (State.cmdImgData_none (s := e.served) hu)
  case ended =>
    refine .of (·.frame 0x32 0 false State.cmdImgEnd seq args) (fun _ _ => rfl) fun e _ ⟨ht, hu, he, hl⟩ => ?_
    obtain ⟨-, -, -, -, -, -, recovery, -⟩ := id ht
    obtain ⟨t, body, only, upd⟩ := State.cmdImgEnd_accepted (s := e.served) hu he hl
    rw [State.frame_changed ht (Nat.zero_le _) body only (by decide) (by decide) (congrArg LifeSt.transition (only .life (by decide)) :)]
    refine ⟨?_, upd⟩
    simp only [State.answered, recovery, State.served, State.ringPending]
  case noEnd =>
    refine .of (·.frame 0x32 0 false State.cmdImgEnd seq args) (fun _ _ => rfl) fun e ⟨ht, hu⟩ => ?_
    exact State.frame_refused ht (Nat.zero_le _) (State.cmdImgEnd_refused (s := e.served) hu)
  case aborted =>
    refine .of (·.frame 0x33 0 false State.cmdImgAbort seq args) (fun _ _ => rfl) fun e _ ⟨ht, hu⟩ => ?_
    obtain ⟨-, -, -, -, -, -, recovery, -⟩ := id ht
    obtain ⟨t, body, upd⟩ := State.cmdImgAbort_open (s := e.served) hu
    have only := e.served.cmdImgAbort_only
    rw [body] at only
    rw [State.frame_changed ht (Nat.zero_le _) body only (by decide) (by decide) (congrArg LifeSt.transition (only .life (by decide)) :)]
    refine ⟨upd, ?_, only .regs (by decide), only .sram (by decide)⟩
    simp only [State.answered, recovery, State.served, State.ringPending]
  case noAbort =>
    refine .of (·.frame 0x33 0 false State.cmdImgAbort seq args) (fun _ _ => rfl) fun e ⟨ht, hu⟩ => ?_
    exact State.frame_refused ht (Nat.zero_le _) (State.cmdImgAbort_none (s := e.served) hu)
  case recUnmounted =>
    refine .of (·.frame 0x40 4 false (fun v => v.cmdRecRead args) seq args) (fun _ _ => rfl) fun e ⟨ht, ha, hk, hc⟩ => ?_
    obtain ⟨-, -, -, -, -, -, recovery, -⟩ := id ht
    refine (State.frame_refused ht ha (State.cmdRecRead_unmounted (s := e.served) hk hc)).trans ?_
    simp only [State.answered, recovery, State.served, State.ringPending, State.handOver]
    rfl
  case record =>
    refine .of (·.frame 0x40 4 false (fun v => v.cmdRecRead args) seq args) (fun _ _ => rfl) fun e ⟨ht, ha, hk, hc, hr, ho⟩ => ?_
    have only := State.cachedRecord_only _ _ hr
    exact State.frame_changed ht ha (State.cmdRecRead_cached (s := e.served) hk hc hr ho) only (by decide) (by decide)
      (congrArg LifeSt.transition (only .life (by decide)) :)
  case recIndex =>
    refine .of (·.frame 0x40 4 false (fun v => v.cmdRecRead args) seq args) (fun _ _ => rfl) fun e ⟨ht, ha, hk, hs⟩ => ?_
    exact State.frame_refused ht ha (State.cmdRecRead_index hk hs)
  case logUnmounted =>
    refine .of (·.frame 0x41 4 false (fun v => v.cmdLogRead args) seq args) (fun _ _ => rfl) fun e ⟨ht, ha, hc⟩ => ?_
    obtain ⟨-, -, -, -, -, -, recovery, -⟩ := id ht
    refine (State.frame_refused ht ha (State.cmdLogRead_unmounted (s := e.served) hc)).trans ?_
    simp only [State.answered, recovery, State.served, State.ringPending, State.handOver]
    rfl
  case entry =>
    refine .of (·.frame 0x41 4 false (fun v => v.cmdLogRead args) seq args) (fun _ _ => rfl) fun e ⟨ht, ha, hc, hx⟩ => ?_
    exact State.frame_refused ht ha (State.cmdLogRead_buffered (s := e.served) hc hx)

end Sys2Proof.Machine
end

section
/-!
PROOFS. What a write of a register does under each access code and in each state of a transaction (O22).
-/

namespace Sys2Proof.Machine

section
variable {s : State} {m : Master} {a : Nat}

theorem State.busWrite_of {r : Access} {w : Word} (hr : s.running = true) (h : s.busWriteWord m true a w = r) :
    s.busWrite m a w = { r.next with busRead := 0, busError := r.err.isSome } := by
  unfold State.busWrite
  rw [if_pos hr, h]

theorem State.busWriteWord_rws (jornus : Bool) (w : Word) (hf : s.accessFails m jornus a true = false) (hs : inSram a = false) (hw : rwsMask a ≠ 0) :
    s.busWriteWord m jornus a w = s.writeRws m a w := by
  unfold State.busWriteWord
  rw [if_neg (by simp [hf]), if_neg (by simp [hs]), if_pos hw]

theorem State.busWriteWord_unimplemented (jornus : Bool) (w : Word) (h : implemented a = false) :
    s.busWriteWord m jornus a w = { next := s, err := some (0x15, a) } := by
  unfold State.busWriteWord
  exact if_pos (by simp [State.accessFails, h])

theorem State.writeRws_opened (w : Word) (hc : s.cfg.state = .opened) (hl : s.shadowBytes + 4 * s.newShadowWords [a] ≤ 4096) :
    s.writeRws .link a w = { next := s.shadowWrite a w } := by
  unfold State.writeRws
  rw [hc]
  exact if_neg (Nat.not_lt.2 hl)

theorem State.writeRws_armed (w : Word) (hc : s.cfg.state = .armed) : s.writeRws .link a w = { next := s, err := some (0x21, a) } := by
  unfold State.writeRws
  rw [hc]

/-- LCK_CMD is written over its crossing, into a block that no other access crosses into (R43). -/
theorem State.busWriteWord_lckCmd (w : Word) (hl : s.life.state ≠ .scrap) (hq : s.power.lfLck = []) :
    s.busWriteWord .link true 0xE0004 w =
      { next := s.setPower { s.power with lfLck := [{ addr := 0xE0004, value := w }] } } := by
  have scrap : (s.life.state == .scrap) = false := beq_eq_false_iff_ne.2 hl
  have allowed : s.accessFails .link true 0xE0004 true = false := by
    simp [State.accessFails, scrap, show implemented 0xE0004 = true by decide, show isStored 0xE0004 = false by decide]
  have idle : s.wpend (lfBlockOf 0xE0004) = false := by
    rw [show lfBlockOf 0xE0004 = .lck by decide]
    simp [State.wpend, State.lfQueue, hq]
  unfold State.busWriteWord
  rw [if_neg (by simp [allowed]), if_neg (by decide), if_neg (by decide), if_neg (by decide), if_pos (by decide), State.lfStore, idle]
  dsimp only
  rw [if_neg Bool.false_ne_true, State.pushLf, show lfBlockOf 0xE0004 = .lck by decide]
  simp only [State.lfQueue, hq, State.setLfQueue, List.nil_append]

end

/-! ### The end of a crossing (R43) -/

section
variable (s : State) (b : LfBlock)

theorem State.lfQueue_setLfQueue (l : List LfWrite) : (s.setLfQueue b l).lfQueue b = l := by cases b <;> rfl

theorem State.writeFields_setLfQueue (l : List LfWrite) (a : Nat) (w : Word) :
    (s.setLfQueue b l).writeFields a w = (s.writeFields a w).setLfQueue b l := by
  unfold State.writeFields
  cases regRow a with
  | none => rfl
  | some r => cases b <;> rfl

theorem State.lfProceed_empty (h : s.lfQueue b = []) : s.lfProceed b = s := by
  unfold State.lfProceed
  rw [h]

theorem State.landWord_plain {a : Nat} (w : Word) (h1 : a ≠ 0x110004) (h2 : a ≠ 0xE0004) (h3 : a ≠ 0xD0018) :
    s.landWord a w = s.writeFields a w := by
  unfold State.landWord
  split
  · exact absurd rfl h1
  · exact absurd rfl h2
  · exact absurd rfl h3
  · rfl

end

/-- A word that is no command and that no command of the link waits for. -/
theorem State.lfWriteDone_plain {s : State} {b : LfBlock} {x : LfWrite} (hq : s.lfQueue b = [x]) (hc : x.commit = false)
    (h1 : x.addr ≠ 0x110004) (h2 : x.addr ≠ 0xE0004) (h3 : x.addr ≠ 0xD0018) (hh : s.link.held = none) (hw : s.cfg.waitCmd = none) :
    s.lfWriteDone b = ((s.writeFields x.addr x.value).setLfQueue b []).takeMirror := by
  have head : lfHead [x] = ([x], []) := by simp [lfHead, hc]
  have held (t : State) (l : List LfWrite) (ht : t.link.held = none ∧ t.cfg.waitCmd = none) :
      (t.setLfQueue b l).link.held = none ∧ (t.setLfQueue b l).cfg.waitCmd = none := by cases b <;> exact ht
  obtain ⟨held1, wait1⟩ := held s [] ⟨hh, hw⟩
  have fields := s.writeFields_only x.addr x.value
  have landed : ((s.setLfQueue b []).landOwn x fun s => if x.commit then s.landCommit b [x] else s.landWord x.addr x.value) =
      (s.writeFields x.addr x.value).setLfQueue b [] := by
    unfold State.landOwn
    rw [if_neg (by rw [held1, wait1]; simp), hc]
    dsimp only
    rw [if_neg Bool.false_ne_true, State.landWord_plain _ _ h1 h2 h3, State.writeFields_setLfQueue]
  unfold State.lfWriteDone
  rw [hq, head]
  dsimp only
  rw [landed, State.lfProceed_empty]
  · have unheld := (held (s.writeFields x.addr x.value) [] ⟨(congrArg LinkSt.held (fields .link (by decide)) :).trans hh,
      (congrArg CfgSt.waitCmd (fields .cfg (by decide)) :).trans hw⟩).1
    unfold State.releaseHeld
    rw [show ((s.writeFields x.addr x.value).setLfQueue b []).takeMirror.link.held = none from unheld]
  · exact (State.lfQueue_setLfQueue _ b [])

/-- Settles O22: REGISTER_WRITE by the word it names, then the end of a crossing. -/
theorem registerWrites : Obligations.RegisterWrites := by
  refine ⟨fun m addr v => ?sram, fun addr v => ?opened, fun addr v => ?armed, fun n addr v => ?dma, fun m addr v => ?unimplemented,
    fun v => ?crossing, fun b x => ?landed⟩
  case sram =>
    exact .of (·.busWrite m addr.toNat v) (fun _ _ => rfl) fun e ⟨hr, hs⟩ => State.busWrite_of hr (State.busWriteWord_sram _ _ _ hs v)
  case opened =>
    refine .of (·.busWrite .link addr.toNat v) (fun _ _ => rfl) fun e ⟨hr, hc, hw, hf, hs, hl⟩ => ?_
    exact State.busWrite_of hr ((State.busWriteWord_rws true v hf hs hw).trans (State.writeRws_opened v hc hl))
  case armed =>
    refine .of (·.busWrite .link addr.toNat v) (fun _ _ => rfl) fun e ⟨hr, hc, hw, hf, hs⟩ => ?_
    exact State.busWrite_of hr ((State.busWriteWord_rws true v hf hs hw).trans (State.writeRws_armed v hc))
  case dma =>
    refine .of (·.busWrite (.dma n) addr.toNat v) (fun _ _ => rfl) fun e _ ⟨hr, hw, hf, hs⟩ => ?_
    rw [State.busWrite_of hr (State.busWriteWord_rws true v hf hs hw)]
    exact ⟨rfl, rfl, fun a ha => e.reg_orReg_other 8 ha, rfl⟩
  case unimplemented =>
    exact .of (·.busWrite m addr.toNat v) (fun _ _ => rfl) fun e ⟨hr, hi⟩ => State.busWrite_of hr (State.busWriteWord_unimplemented true v hi)
  case crossing =>
    exact .of (·.busWrite .link 0xE0004 v) (fun _ _ => rfl) fun e ⟨hr, hl, hq⟩ => State.busWrite_of hr (State.busWriteWord_lckCmd v hl hq)
  case landed =>
    refine .of (·.lfWriteDone b) (fun _ _ => rfl) fun e _ ⟨hq, hc, h1, h2, h3, hh, hw⟩ => ?_
    rw [State.lfWriteDone_plain hq hc h1 h2 h3 hh hw]
    have only := (State.takeMirror_only _).after ((State.setLfQueue_only (e.writeFields x.addr x.value) b []).after (e.writeFields_only x.addr x.value))
    refine ⟨State.lfQueue_setLfQueue _ b [], fun a => ?_, only .sram (by decide), only .link (by decide), only .cfg (by decide)⟩
    cases b <;> rfl

end Sys2Proof.Machine
end

section
/-!
PROOFS. Stages, holds and commit points of a staged or single transaction (chapter 5).
-/

namespace Sys2Proof.Machine

section
variable {s : State}

/-! ### The two words of the configuration block that act -/

theorem State.busWriteWord_stage (m : Master) (hl : s.life.state ≠ .scrap) :
    s.busWriteWord m true 0x20010 1 = { next := s.stageClose.1, err := s.stageClose.2 } := by
  have scrap : (s.life.state == .scrap) = false := beq_eq_false_iff_ne.2 hl
  have allowed : s.accessFails m true 0x20010 true = false := by
    cases m <;> simp [State.accessFails, scrap, show implemented 0x20010 = true by decide, show isStored 0x20010 = false by decide]
  unfold State.busWriteWord
  rw [if_neg (by simp [allowed]), if_neg (by decide), if_neg (by decide), if_neg (by decide), if_neg (by decide), if_pos rfl, if_pos (by decide)]

theorem State.busWrite_holdset (m : Master) (w : Word) (hr : s.running = true) (hl : s.life.state ≠ .scrap) :
    s.busWrite m 0x20014 w = { s.holdSet w.toNat with busRead := 0, busError := false } :=
  State.busWrite_plain w hr hl (by decide) (by simp [State.blockUp]) (.inr (by decide))

/-- A stage that no check refuses is armed, not as the last. -/
theorem State.stageClose_opened (hc : s.cfg.state = .opened) (hs : s.cfg.staged = true) (hf : s.closeFailure = none) :
    s.stageClose = (s.armTxn false, none) := by
  unfold State.stageClose
  rw [hc]
  dsimp only
  rw [if_pos hs, State.closeTxn, hf]

/-! ### The end of a transaction with its notice -/

/-- A transaction that a cause ends: idle, with the cause and the address in CFG_LAST. -/
theorem State.endTxnNotice_spec (s : State) (cause addr outcome : Nat) :
    (s.endTxnNotice cause addr outcome).cfg = (s.endTxn cause addr).cfg ∧ Words [0x10034] s (s.endTxnNotice cause addr outcome) :=
  ⟨State.notice_only _ _ _ .cfg (by decide), .trans (.of (s.endTxn_only cause addr) (by decide)) (State.notice_words _ _ _)⟩

theorem State.finishCommit_refused {st d : Nat} (hf : s.closeFailure = some (st, d)) : s.finishCommit = s.endTxnNotice (causeOf st) d 2 := by
  unfold State.finishCommit
  rw [hf]

/-- The configuration state after the commit of the last stage, whatever the shadow holds. -/
theorem State.finishCommit_last (hf : s.closeFailure = none) (hl : s.cfg.last = true) :
    s.finishCommit.cfg = { (s.applyShadow true).cfg with
      state := .idle, shadow := [], named := 0, namedCh := 0, dmaWait := none, pointSeen := false } := by
  unfold State.finishCommit
  rw [hf, hl]
  dsimp only
  exact State.notice_only _ _ _ .cfg (by decide)

/-- The state in which the commit point has been seen. -/
def State.seen (s : State) : State := { s with cfg := { s.cfg with pointSeen := true } }

/-- Noting that the point was seen changes no check of the shadow. -/
theorem State.closeFailure_seen (s : State) : s.seen.closeFailure = s.closeFailure := by
  have bounds : s.seen.lockBoundWritten = s.lockBoundWritten := rfl
  have sums : s.seen.toothSumWheel = s.toothSumWheel := rfl
  have fails : s.seen.resultFails = s.resultFails := rfl
  have staged : s.seen.cfg.staged = s.cfg.staged := rfl
  unfold State.closeFailure
  rw [bounds, sums, fails, staged]

theorem State.commitPoint_reached (hc : s.cfg.state = .armed) (hw : s.cfg.dmaWait = none) (hp : s.pointReached = true) (hr : s.running = true)
    (ht : s.waitsForTest (s.cfg.shadow.map Prod.fst) = false) :
    s.commitPoint = if s.waitChannels ≠ 0 then { s with cfg := { s.cfg with pointSeen := true, dmaWait := some s.now } } else s.seen.finishCommit := by
  have test : State.waitsForTest { s with cfg := { s.cfg with pointSeen := true } } (s.cfg.shadow.map Prod.fst) = false := ht
  unfold State.commitPoint
  rw [if_pos ⟨hc, hw, hp, hr⟩]
  dsimp only
  rw [if_neg (by rw [test]; exact Bool.false_ne_true)]
  rfl

/-! ### The commit of CFG_CTRL alone, which touches no block -/

theorem rangeChanged_ctrl {o c : Nat → Word} (n : Fin 16) {words : List Nat} (hw : ∀ a ∈ words, a = 0x20008) (ho : ∀ a, a ≠ 0x20008 → o a = c a) :
    rangeChanged o c words n = false := by
  have base : dmaBase n ≠ 0x20008 := by simp only [dmaBase]; omega
  have range : dmaBase n + 4 ≠ 0x20008 := by simp only [dmaBase]; omega
  have store : ∀ a ∈ words, inProgStore a = false := fun a ha => by rw [hw a ha]; decide
  have none : ∀ f : Nat → Bool, (words.any fun a => inProgStore a && f a) = false := fun f => by
    simpa using fun a ha hs => absurd (store a ha) (by simp [hs])
  unfold rangeChanged
  dsimp only
  rw [ho _ base, ho _ range, none]
  simp

theorem maskWhere_never (n : Nat) {p : Nat → Bool} (h : ∀ i, p i = false) : maskWhere n p = 0 := by
  have empty : indicesWhere n p = [] := List.filter_eq_nil_iff.2 fun i _ => by simp [h i]
  unfold maskWhere
  rw [empty]
  rfl

theorem changedChannels_ctrl {o c : Nat → Word} {words : List Nat} (hw : ∀ a ∈ words, a = 0x20008) (ho : ∀ a, a ≠ 0x20008 → o a = c a) :
    changedChannels o c words = 0 := maskWhere_never _ fun _ => rangeChanged_ctrl _ hw ho

theorem State.resultWord_other (s : State) {a : Nat} (h : ∀ p ∈ s.cfg.shadow, p.1 ≠ a) : s.resultWord a = s.reg a := by
  have absent : s.cfg.shadow.find? (fun p => p.1 == a) = none := by simpa using fun x y hp => h (x, y) hp
  unfold State.resultWord
  rw [absent]

theorem foldl_fixed {α β : Type} {f : α → β → α} {a : α} {xs : List β} (h : ∀ x, f a x = a) : xs.foldl f a = a := by
  induction xs with
  | nil => rfl
  | cons x xs ih => rw [List.foldl_cons, h, ih]

theorem State.commitBlocks_ctrl (s : State) (o c : Nat → Word) {changed : List Nat} (h : ∀ a ∈ changed, a = 0x20008) :
    s.commitBlocks o c [0x20008] changed = s := by
  have untouched (b : Nat) (hb : b ≠ 2) : changed.any (fun a => decide (a / 0x10000 = b)) = false :=
    List.any_eq_false.2 fun a ha => by rw [h a ha]; simpa using Ne.symm hb
  have life : changed.contains 0x100018 = false := by
    simpa using fun hm => absurd (h _ hm) (by decide)
  have settings : changed.any (fun a => decide (0x10004 ≤ a ∧ a ≤ 0x10014)) = false :=
    List.any_eq_false.2 fun a ha => by rw [h a ha]; decide
  have phase (t : State) (k : Fin 2) : t.commitPhase [0x20008] k = t := by
    unfold State.commitPhase
    have below : ¬(phaseBase k ≤ 0x20008 ∧ 0x20008 < phaseBase k + 0x40) := by simp only [phaseBase]; omega
    exact if_neg (by rw [List.any_cons, decide_eq_false below]; exact Bool.false_ne_true)
  unfold State.commitBlocks
  extract_lets touches s0 s1 freed s2 timed s3 s4 s5 s6 s7 nand s8 s9 link
  have no (b : Nat) (hb : b ≠ 2) : touches b = false := untouched b hb
  calc _ = s9 := if_neg (by rw [settings]; exact Bool.false_ne_true)
    _ = s8 := if_neg (by rw [life]; exact Bool.false_ne_true)
    _ = s7 := if_neg (by rw [no 0xA (by decide)]; exact Bool.false_ne_true)
    _ = s6 := if_neg (by rw [no 0xC (by decide)]; exact Bool.false_ne_true)
    _ = s5 := if_neg (by rw [no 0xB (by decide)]; exact Bool.false_ne_true)
    _ = s4 := if_neg (by rw [no 9 (by decide)]; exact Bool.false_ne_true)
    _ = s3 := if_neg (by rw [no 6 (by decide), no 7 (by decide)]; exact Bool.false_ne_true)
    _ = timed := if_neg (by rw [no 8 (by decide)]; exact Bool.false_ne_true)
    _ = s2 := if_neg (by rw [no 5 (by decide)]; exact Bool.false_ne_true)
    _ = s1 := if_neg (by rw [no 3 (by decide), no 4 (by decide)]; exact Bool.false_ne_true)
    _ = s0 := foldl_fixed (phase s0)
    _ = s := if_neg (by rw [no 3 (by decide)]; exact Bool.false_ne_true)

theorem State.commitChannels_none (s : State) (named : Nat) (h : s.cfg.holdCh = 0) : s.commitChannels true 0 named = s :=
  foldl_fixed (fun n => by simp [h])

theorem State.commitHolds_none (s : State) (named : Nat) (hs : s.cfg.staged = false) (h : s.cfg.hold = 0) : s.commitHolds true named = s := by
  unfold State.commitHolds
  rw [hs]
  exact foldl_fixed (fun n => by simp [h])

/-- The word that a commit of CFG_CTRL makes: its RWS bits from the shadow, the others as they were. -/
theorem State.commitWord_ctrl (s : State) (v : Word) :
    s.commitWord 0x20008 (v &&& BitVec.ofNat 32 (rwsMask 0x20008)) =
      s.setReg 0x20008 ((s.reg 0x20008 &&& ~~~(BitVec.ofNat 32 (rwsMask 0x20008))) ||| (v &&& BitVec.ofNat 32 (rwsMask 0x20008))) := by
  unfold State.commitWord
  dsimp only
  rw [if_neg (by decide), BitVec.and_assoc, BitVec.and_self]

/-- CFG_CTRL alone, in a transaction without stages or holds: its word is made, and nothing else outside the configuration state changes. -/
theorem State.applyShadow_ctrl {v : Word} (h : s.cfg.shadow = [(0x20008, v)]) (hs : s.cfg.staged = false) (hh : s.cfg.hold = 0)
    (hc : s.cfg.holdCh = 0) (hn : s.snapAt = []) :
    Only [.cfg] (s.commitWord 0x20008 (v &&& BitVec.ofNat 32 (rwsMask 0x20008))) (s.applyShadow true) := by
  have others (a : Nat) (ha : a ≠ 0x20008) : s.reg a = s.resultWord a :=
    (s.resultWord_other fun p hp => by rw [h] at hp; rw [List.mem_singleton.1 hp]; exact Ne.symm ha).symm
  have kept := s.commitWord_only 0x20008 (v &&& BitVec.ofNat 32 (rwsMask 0x20008)) .cfg (by decide)
  have plain (q : Nat → Prop) [DecidablePred q] (hq : ¬q 0x20008) : ¬s.cfg.shadow.any (fun p => decide (q p.1)) = true := by
    rw [h, List.any_cons, decide_eq_false hq]
    exact Bool.false_ne_true
  unfold State.applyShadow
  extract_lets s0 s1 s2 o c words changed chans named namedCh t1 t2 t3
  have e0 : s0 = s := if_neg (plain (fun a => a / 0x10000 = 8) (by decide))
  have e1 : s1 = s := (if_pos (by rw [e0]; exact hn)).trans e0
  have e2 : s2 = s := (if_neg (by rw [e1]; exact plain (fun a => a / 0x10000 = 3 ∨ a / 0x10000 = 4) (by decide))).trans e1
  clear_value s2
  subst e2
  have ws : words = [0x20008] := congrArg (List.map Prod.fst) h
  have cs : ∀ a ∈ changed, a = 0x20008 := fun a ha => List.mem_singleton.1 (ws ▸ (List.mem_filter.1 ha).1)
  have none : chans = 0 := changedChannels_ctrl cs others
  have f1 : t1 = s2.commitWord 0x20008 (v &&& BitVec.ofNat 32 (rwsMask 0x20008)) := by simp only [t1, h, List.foldl_cons, List.foldl_nil]
  have f2 : t2 = t1 := (congrArg (fun w => t1.commitBlocks o t1.reg w changed) ws :).trans (t1.commitBlocks_ctrl o t1.reg cs)
  have f3 : t3 = t1 := by
    simp only [t3]
    rw [none, f2, State.commitChannels_none _ _ (by rw [f1, kept]; exact hc),
      State.commitHolds_none _ _ (by rw [f1, kept]; exact hs) (by rw [f1, kept]; exact hh)]
  rw [← f1, ← f3]
  exact Only.set_cfg _ _

/-- Its commit, the last of the transaction. -/
theorem State.finishCommit_ctrl {v : Word} (hf : s.closeFailure = none) (hl : s.cfg.last = true) (h : s.cfg.shadow = [(0x20008, v)])
    (hs : s.cfg.staged = false) (hh : s.cfg.hold = 0) (hc : s.cfg.holdCh = 0) (hn : s.snapAt = []) :
    Only [.cfg, .regs, .link, .setAt, .setNow] s s.finishCommit ∧
      Words [0x10034] (s.setReg 0x20008 ((s.reg 0x20008 &&& ~~~(BitVec.ofNat 32 (rwsMask 0x20008))) |||
        (v &&& BitVec.ofNat 32 (rwsMask 0x20008)))) s.finishCommit := by
  have made := State.applyShadow_ctrl h hs hh hc hn
  rw [State.commitWord_ctrl] at made
  unfold State.finishCommit
  rw [hf, hl]
  dsimp only
  refine ⟨((State.notice_only _ _ _).after ((Only.set_cfg _ _).after (made.after (Only.set_regs s _)))).among (by decide), ?_⟩
  exact Words.trans (.trans (.of made (by decide)) (.of (Only.set_cfg _ _) (by decide))) (State.notice_words _ _ _)

theorem State.waitChannels_ctrl {v : Word} (h : s.cfg.shadow = [(0x20008, v)]) : s.waitChannels = 0 := by
  have others (a : Nat) (ha : a ≠ 0x20008) : s.reg a = s.resultWord a :=
    (s.resultWord_other fun p hp => by rw [h] at hp; rw [List.mem_singleton.1 hp]; exact Ne.symm ha).symm
  have none : changedChannels s.reg s.resultWord ((s.cfg.shadow.map Prod.fst).filter fun a => decide (s.reg a ≠ s.resultWord a)) = 0 :=
    changedChannels_ctrl (fun a ha => by rw [h] at ha; exact List.mem_singleton.1 (List.mem_filter.1 ha).1) others
  unfold State.waitChannels
  dsimp only
  rw [none]
  exact maskWhere_never _ fun n => by simp

/-- A wait that is over, with no check that fails, commits. -/
theorem State.commitWaitEnd_armed {since : Nat} (hc : s.cfg.state = .armed) (hw : s.cfg.dmaWait = some since) :
    s.commitWaitEnd = if s.armedWaitOver since then s.finishCommit else s := by
  unfold State.commitWaitEnd
  rw [hw]
  exact if_pos hc

theorem State.whileRunning_of {f : State → State} (hr : s.running = true) : s.whileRunning f = f s := if_pos hr

theorem State.whileRunning_rest {f : State → State} (h : f s = s) : s.whileRunning f = s := by
  unfold State.whileRunning
  rw [h, ite_self]

end

/-- Settles O23: the close of a stage, holds, the commit point, the wait for DMA channels, and the two timeouts. -/
theorem stagedCommits : Obligations.StagedCommits := by
  refine ⟨fun m => ?closes, fun m => ?closed, fun m => ?none, fun m mask => ?holds, fun m mask => ?ignored, fun v => ?commits, fun st d => ?refused,
    ?waits, ?notYet, fun since st d => ?waitRefused, fun since => ?waitCommits, fun since => ?waitGoesOn, ?armOut, ?stageOut, ?noneArmed⟩
  case closes =>
    refine .of (·.busWrite m 0x20010 1) (fun _ _ => rfl) fun e ⟨hr, hl, hc, hs, hf⟩ => ?_
    rw [State.busWrite_of hr (State.busWriteWord_stage m hl), State.stageClose_opened hc hs hf]
    rfl
  case closed =>
    refine .of (·.busWrite m 0x20010 1) (fun _ _ => rfl) fun e _ ⟨hr, hl, hc, hs, hf⟩ => ?_
    rw [State.busWrite_of hr (State.busWriteWord_stage m hl), State.stageClose_opened hc hs hf]
    exact ⟨rfl, rfl, rfl, rfl⟩
  case none =>
    refine .of (·.busWrite m 0x20010 1) (fun _ _ => rfl) fun e ⟨hr, hl, hc⟩ => ?_
    have refused : e.stageClose = (e, some (0x20, 0)) := by
      unfold State.stageClose
      rw [hc]
    rw [State.busWrite_of hr (State.busWriteWord_stage m hl), refused]
    rfl
  case holds =>
    refine .of (·.busWrite m 0x20014 mask) (fun _ _ => rfl) fun e ⟨hr, hl, hc⟩ => ?_
    rw [State.busWrite_holdset m mask hr hl, State.holdSet, if_pos hc]
  case ignored =>
    refine .of (·.busWrite m 0x20014 mask) (fun _ _ => rfl) fun e ⟨hr, hl, hc⟩ => ?_
    have other : ¬(e.cfg.state = .opened ∨ e.cfg.state = .staging) := by rcases hc with hc | hc <;> simp [hc]
    rw [State.busWrite_holdset m mask hr hl, State.holdSet, if_neg other]
  case commits =>
    refine .of State.commitPoint (fun _ _ => rfl) fun e _ ⟨hr, hc, hw, hs, hl, hp, h, hh, hch, hn, hf⟩ => ?_
    have seen : e.seen.closeFailure = none := e.closeFailure_seen.trans hf
    have test : e.waitsForTest (e.cfg.shadow.map Prod.fst) = false := by simp [State.waitsForTest, h]
    rw [State.commitPoint_reached hc hw hp hr test, if_neg (by rw [State.waitChannels_ctrl h]; simp)]
    have cfg := State.finishCommit_last (s := e.seen) seen hl
    obtain ⟨only, words⟩ := State.finishCommit_ctrl (s := e.seen) seen hl h hs hh hch hn
    exact ⟨congrArg CfgSt.state cfg, congrArg CfgSt.shadow cfg, fun a ha => words a (by simpa using ha), only .sram (by decide),
      only .wheels (by decide), only .outs (by decide), only .timers (by decide)⟩
  case refused =>
    refine .of State.commitPoint (fun _ _ => rfl) fun e _ ⟨hr, hc, hw, hp, ht, hn, hf⟩ => ?_
    rw [State.commitPoint_reached hc hw hp hr ht, if_neg (by rw [hn]; simp), State.finishCommit_refused (e.closeFailure_seen.trans hf)]
    obtain ⟨cfg, words⟩ := e.seen.endTxnNotice_spec (causeOf st) d 2
    have only := e.seen.endTxnNotice_only (causeOf st) d 2
    exact ⟨congrArg CfgSt.state cfg, congrArg CfgSt.shadow cfg, congrArg CfgSt.lastCause cfg, congrArg CfgSt.lastAddr cfg,
      fun a ha => words a (by simpa using ha), only .sram (by decide)⟩
  case waits =>
    refine .of State.commitPoint (fun _ _ => rfl) fun e ⟨hr, hc, hw, hp, ht, hn⟩ => ?_
    rw [State.commitPoint_reached hc hw hp hr ht, if_pos hn]
  case notYet =>
    exact .of State.commitPoint (fun _ _ => rfl) fun e h => if_neg fun ⟨hc, _, hp, _⟩ => h.elim (· hc) fun h => by simp [h] at hp
  case waitRefused =>
    refine .of (·.whileRunning State.commitWaitEnd) (fun _ _ => rfl) fun e _ ⟨hr, hc, hw, ho, hf⟩ => ?_
    rw [State.whileRunning_of hr, State.commitWaitEnd_armed hc hw, if_pos ho, State.finishCommit_refused hf]
    obtain ⟨cfg, words⟩ := e.endTxnNotice_spec (causeOf st) d 2
    exact ⟨congrArg CfgSt.state cfg, congrArg CfgSt.shadow cfg, congrArg CfgSt.dmaWait cfg, congrArg CfgSt.lastCause cfg,
      congrArg CfgSt.lastAddr cfg, fun a ha => words a (by simpa using ha)⟩
  case waitCommits =>
    refine .of (·.whileRunning State.commitWaitEnd) (fun _ _ => rfl) fun e _ ⟨hr, hc, hw, ho, _, hl, hf⟩ => ?_
    rw [State.whileRunning_of hr, State.commitWaitEnd_armed hc hw, if_pos ho]
    have cfg := State.finishCommit_last hf hl
    exact ⟨congrArg CfgSt.state cfg, congrArg CfgSt.shadow cfg, congrArg CfgSt.dmaWait cfg⟩
  case waitGoesOn =>
    refine .of (·.whileRunning State.commitWaitEnd) (fun _ _ => rfl) fun e ⟨hc, hw, ho⟩ => ?_
    exact State.whileRunning_rest ((State.commitWaitEnd_armed hc hw).trans (if_neg (by simp [ho])))
  case armOut =>
    refine .of (·.whileRunning State.armTimeout) (fun _ _ => rfl) fun e _ ⟨hr, h⟩ => ?_
    rw [State.whileRunning_of hr, State.armTimeout, if_pos h]
    obtain ⟨cfg, words⟩ := e.endTxnNotice_spec 4 0 1
    have only := e.endTxnNotice_only 4 0 1
    exact ⟨congrArg CfgSt.state cfg, congrArg CfgSt.shadow cfg, congrArg CfgSt.lastCause cfg, fun a ha => words a (by simpa using ha),
      only .sram (by decide)⟩
  case stageOut =>
    refine .of (·.whileRunning State.stageTimeout) (fun _ _ => rfl) fun e _ ⟨hr, h⟩ => ?_
    rw [State.whileRunning_of hr, State.stageTimeout, if_pos h]
    obtain ⟨cfg, words⟩ := e.endTxnNotice_spec 5 0 1
    have only := e.endTxnNotice_only 5 0 1
    exact ⟨congrArg CfgSt.state cfg, congrArg CfgSt.shadow cfg, congrArg CfgSt.lastCause cfg, fun a ha => words a (by simpa using ha),
      only .sram (by decide)⟩
  case noneArmed =>
    exact .of (·.whileRunning State.armTimeout) (fun _ _ => rfl) fun e h => State.whileRunning_rest (if_neg fun ⟨hc, _⟩ => h hc)

end Sys2Proof.Machine
end

section
/-!
PROOFS. The health temperature, HLT_CLR and the periodic health record (R577 to R586).
-/

namespace Sys2Proof.Machine

/-- The health state without what the notices of health events keep: what is told, what is to be told, and the conditions told. -/
def HealthSt.measures (h : HealthSt) : HealthSt := { h with soon := [], notified := 0, life := false, lifeAdv := false }

def State.measures (s : State) : HealthSt := s.health.measures

theorem Only.measures {l : List Part} {s t : State} (h : Only l s t) (hl : Part.health ∉ l) : Keeps State.measures s t :=
  congrArg HealthSt.measures (h .health hl)

section
variable (s : State)

theorem State.healthNotice_measures (code cause unit : Nat) : Keeps State.measures s (s.healthNotice code cause unit) := rfl

theorem State.healthLog_measures (event cause unit : Nat) : Keeps State.measures s (s.healthLog event cause unit) :=
  (s.logOf_only _ _).measures (by decide)

theorem State.replaceNotice_measures (cause unit : Nat) : Keeps State.measures s (s.replaceNotice cause unit) :=
  (s.healthNotice_measures _ _ _).trans (State.healthLog_measures _ _ _ _)

theorem State.advise_measures (b unit : Nat) : Keeps State.measures s (s.advise b unit) := by
  have bit : Keeps State.measures s (s.orReg 0x100004 (2 ^ b)) := (s.orReg_only _ _).measures (by decide)
  unfold State.advise
  exact .ite bit (bit.trans ((State.healthNotice_measures _ _ _ _).trans (State.healthLog_measures _ _ _ _)))

theorem State.writeHealth_measures : Keeps State.measures s s.writeHealth := s.writeHealth_only.measures (by decide)

theorem State.notifyOnce_measures (bit cause unit : Nat) : Keeps State.measures s (s.notifyOnce bit cause unit) := by
  have told : Keeps State.measures s { s with health := { s.health with notified := s.health.notified + 2 ^ bit } } := rfl
  unfold State.notifyOnce
  exact .ite rfl (told.trans ((State.replaceNotice_measures _ _ _).trans (State.writeHealth_measures _)))

theorem State.unnotify_measures (bit : Nat) : Keeps State.measures s (s.unnotify bit) := by
  have told : Keeps State.measures s { s with health := { s.health with notified := s.health.notified - 2 ^ bit } } := rfl
  unfold State.unnotify
  exact .ite (told.trans (State.writeHealth_measures _)) rfl

theorem State.healthLife_measures : Keeps State.measures s s.healthLife := by
  have high : Keeps State.measures s { s with health := { s.health with life := true } } := rfl
  have low : Keeps State.measures s { s with health := { s.health with life := false } } := rfl
  unfold State.healthLife
  extract_lets p _ s1 excess s2 _
  have told : Keeps State.measures s s1 := .ite (high.trans (State.notifyOnce_measures _ _ _ _)) (.ite (low.trans (State.unnotify_measures _ _)) rfl)
  have advised : Keeps State.measures s1 s2 := .ite (State.advise_measures _ _ _) rfl
  exact told.trans (advised.trans rfl)

/-! ### HLT_CLR -/

theorem State.busWrite_hltClr {s : State} (m : Master) (w : Word) (hr : s.running = true) (hl : s.life.state ≠ .scrap) :
    s.busWrite m 0x10002C w = { s.healthClear w with busRead := 0, busError := false } :=
  State.busWrite_plain w hr hl (by decide) (by simp [State.blockUp]) (.inr (by decide))

end

/-- The health state with the named wheels dead no more and, where they are named, all slices good. -/
def HealthSt.cleared (h : HealthSt) (wheels : Nat) (slices : Bool) : HealthSt :=
  { h with
    deadW := h.deadW &&& (15 - wheels)
    retA := if slices then 0 else h.retA
    retB := if slices then 0 else h.retB
    slice := if slices then false else h.slice }

/-- A clear that is not refused, with no wheel gone dead in this cycle, is one of the health state, of DEAD bits and of the log. -/
theorem State.healthClear_spec {s : State} {w : Word} (hk : fieldOf w 31 16 = 0x4845) (hs : bitOf w 1 = true → s.sliceClearable = true)
    (hb : s.boot.loaded = true) (hn : s.noteOf 0x100010 = none) (hr : bitOf w 1 = true → s.noteOf 0x10000C = none) :
    (s.healthClear w).health = s.health.cleared (fieldOf w 11 8) (bitOf w 1) ∧
      Only [.health, .regs, .nand, .cave, .setAt, .setNow] s (s.healthClear w) := by
  have key : ¬(fieldOf w 31 16 ≠ 0x4845 ∨ bitOf w 1 = true ∧ s.sliceClearable = false) := by
    rintro (h | ⟨h, no⟩)
    · exact h hk
    · simp [hs h] at no
  have field : fieldOf w 11 8 &&& 15 = fieldOf w 11 8 := by
    rw [show 15 = 2 ^ 4 - 1 from rfl, Nat.and_two_pow_sub_one_eq_mod]
    exact Nat.mod_eq_of_lt (fieldOf_lt w 11 8)
  unfold State.healthClear
  rw [if_neg key]
  extract_lets keep wh health h r h1 s1
  have wheels : wh = fieldOf w 11 8 := by simp [wh, keep, hb, hn, field]
  have slices : h1 = s.health.cleared (fieldOf w 11 8) (bitOf w 1) := by
    cases hw : bitOf w 1 with
    | false => simp [h1, h, health, hw, wheels, HealthSt.cleared]
    | true => simp [h1, h, health, r, hw, hr hw, keep, wheels, HealthSt.cleared]
  have dead : Only [.regs] { s with health := h1 } s1 := .foldl (fun t _ => t.clrReg_only _ _) _ _
  have rest := (State.writeHealth_only (s1.logOf 1 ([3, 0, 0, 0] ++ bytesLE 4 w.toNat))).after (State.logOf_only _ _ _)
  exact ⟨(rest .health (by decide)).trans ((dead .health (by decide)).trans slices), (rest.after (dead.after (Only.set_health s h1))).among (by decide)⟩

/-- The record that falls due while the cave mounts waits in the queue. -/
theorem State.recordWrite_mounting {s : State} (hc : s.cave.mode = .mounting) (kind index version : Nat) {body : List Byte} (hb : body ≠ [])
    (hl : body.length ≤ 8160) :
    ∃ q ∈ (s.recordWrite kind index version body).cave.recQueue, q.kind = kind ∧ q.index = index ∧ q.body = body := by
  have goes : ¬(body.isEmpty || decide (8160 < body.length) || decide (s.cave.mode = .readonly) || decide (s.cave.mode = .failed)) = true := by
    simpa [hc, hb] using hl
  unfold State.recordWrite
  rw [if_neg goes]
  extract_lets w same q
  have there : ∃ x ∈ q, x.kind = kind ∧ x.index = index ∧ x.body = body := by
    by_cases h : s.cave.recQueue.any same = true
    · obtain ⟨x, hx, hs⟩ := List.any_eq_true.1 h
      refine ⟨w, ?_, rfl, rfl, rfl⟩
      simp only [q, if_pos h]
      exact List.mem_map.2 ⟨x, hx, if_pos hs⟩
    · refine ⟨w, ?_, rfl, rfl, rfl⟩
      simp only [q, if_neg h]
      exact List.mem_append_right _ (.head _)
  have waits : State.startRecWrite { s with cave := { s.cave with recQueue := q } } = { s with cave := { s.cave with recQueue := q } } :=
    if_neg (by simp [hc])
  rw [waits]
  exact there

theorem State.healthBody_ne_nil (s : State) : s.healthBody ≠ [] := by
  refine List.ne_nil_of_length_pos ?_
  unfold State.healthBody
  simp only [List.length_append, length_bytesLE]
  omega

/-- What a temperature reading that is due counts, all but the notices that it gives rise to. -/
def HealthSt.second (h : HealthSt) (t : Int) : HealthSt :=
  { h with
    tj := t, tjDie := t, tempAt := h.tempAt + 32768
    tjMax := if h.tjMax < t then t else h.tjMax
    tjEver := if h.tjEver < t then t else h.tjEver
    tjLow := if t < h.tjLow then t else h.tjLow
    runSec := satAdd 0xFFFFFFFF h.runSec 1
    lifeAcc := Nat.min 0xFFFFFFFF (h.lifeAcc + (lifeRate (lifeBand t) * 32768 + h.lrem) / 1966080)
    lrem := (lifeRate (lifeBand t) * 32768 + h.lrem) % 1966080
    bands := (List.range 11).map (fun i => h.bands.getD i 0 + (if i = lifeBand t then 32768 else 0)) }

theorem State.healthTemp_due {s : State} (t : Int) (hr : s.running = true) (hb : s.boot.loaded = true) (ht : s.health.tempAt + 32768 ≤ s.lf) :
    Keeps State.measures { s with health := s.health.second t } (s.healthTemp t) := by
  have due : (s.running && s.boot.loaded && decide (s.health.tempAt + 32768 ≤ s.lf)) = true := by simp [hr, hb, ht]
  have life : Keeps State.measures { s with health := s.health.second t } (State.healthLife { s with health := s.health.second t }) :=
    State.healthLife_measures _
  unfold State.healthTemp
  rw [if_pos due]
  extract_lets s1 h s2 s3
  have account : s3 = State.healthLife { s with health := s.health.second t } := congrArg State.healthLife rfl
  rw [account]
  exact .ite (life.trans (State.advise_measures _ _ _)) life

/-- Settles O51: the temperature of each second, HLT_CLR, and the periodic record by the mode of the cave. -/
theorem healthCommands : Obligations.HealthCommands := by
  refine ⟨fun centi => ?second, fun centi => ?notDue, fun m w => ?refused, fun m w => ?wheels, fun m w => ?slices, ?readOnly, ?mounting, ?rests⟩
  case second =>
    refine .of (·.healthTemp centi) (fun _ _ => rfl) fun e _ ⟨hr, hb, ht⟩ => ?_
    have told := State.healthTemp_due centi hr hb ht
    have only := e.healthTemp_only centi
    exact ⟨(congrArg HealthSt.tj told :), (congrArg HealthSt.tempAt told :), (congrArg HealthSt.tjDie told :), (congrArg HealthSt.tjMax told :),
      (congrArg HealthSt.runSec told :), (congrArg HealthSt.lifeAcc told :), (congrArg HealthSt.lrem told :), only .sram (by decide),
      only .wheels (by decide), only .power (by decide)⟩
  case notDue =>
    refine .of (·.healthTemp centi) (fun _ _ => rfl) fun e h => ?_
    exact if_neg (by rcases h with h | h | h <;> simp [h])
  case refused =>
    refine .of (·.busWrite m 0x10002C w) (fun _ _ => rfl) fun e _ ⟨hr, hl, h⟩ => ?_
    rw [State.busWrite_hltClr m w hr hl, State.healthClear, if_pos h]
    exact ⟨e.bit_orReg_same _ _ (by decide) (by decide), rfl, fun a ha => e.reg_orReg_other _ ha⟩
  case wheels =>
    refine .of (·.busWrite m 0x10002C w) (fun _ _ => rfl) fun e _ ⟨hr, hl, hk, hs, hb, hn⟩ => ?_
    obtain ⟨health, only⟩ := State.healthClear_spec hk (by simp [hs]) hb hn (by simp [hs])
    rw [State.busWrite_hltClr m w hr hl]
    rw [hs] at health
    exact ⟨(congrArg HealthSt.deadW health :), (congrArg HealthSt.retA health :), (congrArg HealthSt.retB health :), (congrArg HealthSt.slice health :),
      only .sram (by decide), only .wheels (by decide), rfl⟩
  case slices =>
    refine .of (·.busWrite m 0x10002C w) (fun _ _ => rfl) fun e _ ⟨hr, hl, hk, hs, hc, hb, hn, hn'⟩ => ?_
    obtain ⟨health, only⟩ := State.healthClear_spec hk (fun _ => hc) hb hn fun _ => hn'
    rw [State.busWrite_hltClr m w hr hl]
    rw [hs] at health
    exact ⟨(congrArg HealthSt.deadW health :), (congrArg HealthSt.retA health :), (congrArg HealthSt.retB health :), (congrArg HealthSt.slice health :),
      only .sram (by decide), rfl⟩
  case readOnly =>
    refine .of State.healthTick (fun _ _ => rfl) fun e _ ⟨hr, hb, ht, hc⟩ => ?_
    rw [State.healthTick, if_pos ⟨hr, hb, ht⟩, State.writeHealth, if_pos (.inl hc)]
    exact ⟨rfl, State.bit_orReg_same _ _ _ (by decide) (by decide), rfl, fun a ha => State.reg_orReg_other _ _ ha, rfl⟩
  case mounting =>
    refine .of State.healthTick (fun _ _ => rfl) fun e _ ⟨hr, hb, ht, hc, hl⟩ => ?_
    rw [State.healthTick, if_pos ⟨hr, hb, ht⟩, State.writeHealth, if_neg (by simp [hc])]
    have body : State.healthBody { e with health := { e.health with writeAt := e.now + secAng (60 * e.fld 0x100028 7 0) } } = e.healthBody := rfl
    rw [body]
    have only := State.recordWrite_only { e with health := { e.health with writeAt := e.now + secAng (60 * e.fld 0x100028 7 0) } } 3 0 1 e.healthBody
    obtain ⟨w, hw, kind, index, -⟩ := State.recordWrite_mounting (s := { e with health := { e.health with writeAt := e.now + secAng (60 * e.fld 0x100028 7 0) } })
      (by exact hc) 3 0 1 e.healthBody_ne_nil hl
    generalize State.recordWrite _ 3 0 1 e.healthBody = t at only hw ⊢
    exact ⟨(congrArg HealthSt.writeAt (only .health (by decide)) :), ⟨w, hw, kind, index⟩, only .regs (by decide), only .sram (by decide)⟩
  case rests =>
    refine .of State.healthTick (fun _ _ => rfl) fun e h => if_neg fun ⟨hr, hb, ht⟩ => ?_
    rcases h with h | h | h
    · simp [h] at hr
    · simp [h] at hb
    · omega

end Sys2Proof.Machine
end

section
/-!
PROOFS. The tooth inputs: what a transition does to its tracker (R201 to R215).
-/

namespace Sys2Proof.Machine

section
variable {s : State}

/-- One part alone may differ. -/
theorem Only.eq_fus {t : State} (h : Only [.fus] s t) : t = { s with fus := t.fus } :=
  Only.eq h (Only.set_fus s t.fus) fun p hp => by rw [List.mem_singleton.1 hp]; rfl

/-- With no armed transaction, or with the point IMMEDIATE, no commit is made at an event of a wheel. -/
theorem State.stepTwo_rest (h : s.cfg.state ≠ .armed ∨ s.cfg.point = .immediate) : s.stepTwo = s := by
  unfold State.stepTwo State.commitPoint
  by_cases hp : s.cfg.point = .immediate
  · exact if_pos hp
  · exact (if_neg hp).trans (if_neg fun ⟨hc, _⟩ => (h.resolve_right hp) hc)

theorem State.commitPoint_stopped (h : s.running = false) : s.commitPoint = s := if_neg fun ⟨_, _, _, hr⟩ => by simp [h] at hr

theorem State.stepTwo_stopped (h : s.running = false) : s.stepTwo = s := by
  unfold State.stepTwo
  rw [State.commitPoint_stopped h, ite_self]

theorem Only.running {l : List Part} {t : State} (h : Only l s t) (hl : Part.power ∉ l) : t.running = s.running := by
  unfold State.running
  rw [show t.power = s.power from h .power hl]

theorem Only.stepTwo_rest {l : List Part} {t : State} (k : Only l s t) (hl : Part.cfg ∉ l)
    (h : s.cfg.state ≠ .armed ∨ s.cfg.point = .immediate) : t.stepTwo = t := by
  refine State.stepTwo_rest ?_
  rw [show t.cfg = s.cfg from k .cfg hl]
  exact h

/-- No output names the wheel: its outputs are none. -/
theorem State.outsOfWheel_none {w : Fin 4} (h : ∀ n : Fin 32, s.outWheel n ≠ w) : s.outsOfWheel w = [] :=
  List.filter_eq_nil_iff.2 fun n _ => by simp [h n]

theorem State.wheelToOutputs_none {w : Fin 4} (ok edge : Bool) (h : ∀ n : Fin 32, s.outWheel n ≠ w) (hk : ok = true → (s.wheels[w]).angleOk = true) :
    s.wheelToOutputs w ok edge = s := by
  have kept : (ok && !(s.wheels[w]).angleOk) = false := by
    cases hok : ok with
    | false => rfl
    | true => rw [hk hok]; rfl
  unfold State.wheelToOutputs
  rw [kept]
  dsimp only
  rw [if_neg Bool.false_ne_true, State.outsOfWheel_none h]
  rfl

theorem State.catchFallback_none {w : Fin 4} (h : ∀ n : Fin 32, s.outWheel n ≠ w) : s.catchFallback w = s :=
  foldl_fixed fun n => if_neg fun ⟨e, _⟩ => h n e

/-- The tracker with a new level of one of its inputs. -/
def WheelSt.withTooth (v : WheelSt) (onB : Bool) (l : InLevel) (t : Nat) : WheelSt :=
  if onB then { v with lvlB := l, lvlBWas := v.lvlB, tranB := t } else { v with lvlA := l, tranA := t }

theorem WheelSt.angleOk_withTooth (v : WheelSt) (onB : Bool) (l : InLevel) (t : Nat) : (v.withTooth onB l t).angleOk = v.angleOk := by
  cases onB <;> rfl

/-- The state after a transition has been taken as the level of its input, and nothing counted. -/
def State.toothSet (s : State) (w : Fin 4) (onB : Bool) (l : InLevel) : State :=
  ((s.catchFallback w).setTooth w onB l (s.now - (16 * (s.wheelCfg w.val).filt + 4))).abandonBias (toothInput w onB)

theorem State.toothSet_only (s : State) (w : Fin 4) (onB : Bool) (l : InLevel) : Only [.wheels, .outs, .bias] s (s.toothSet w onB l) :=
  ((State.abandonBias_only _ _).after ((State.setTooth_only _ _ _ _ _).after (s.catchFallback_only w))).among (by decide)

theorem State.toothSet_wheels (s : State) (w : Fin 4) (onB : Bool) (l : InLevel) :
    (s.toothSet w onB l).wheels = s.wheels.set w ((s.wheels[w]).withTooth onB l (s.now - (16 * (s.wheelCfg w.val).filt + 4))) := by
  have caught : (s.catchFallback w).wheels = s.wheels := s.catchFallback_only w .wheels (by decide)
  refine (State.abandonBias_only _ _ .wheels (by decide)).trans ?_
  unfold State.setTooth
  dsimp only
  rw [State.setWheel_wheels, caught]
  rfl

theorem State.toothSet_outs {w : Fin 4} (onB : Bool) (l : InLevel) (h : ∀ n : Fin 32, s.outWheel n ≠ w) : (s.toothSet w onB l).outs = s.outs := by
  unfold State.toothSet
  rw [State.catchFallback_none h]
  exact ((State.abandonBias_only _ _).after (State.setTooth_only _ _ _ _ _)) .outs (by decide)

/-- A transition that a used input makes: its first level, and every level of the B input, counts nothing. -/
theorem State.toothEdge_uncounted {w : Fin 4} {onB : Bool} {l : InLevel} (peak : Nat) (hr : s.running = true) (hu : s.toothUsed w onB = true)
    (hl : l = .low ∨ l = .high) (hw : (if onB then (s.wheels[w]).lvlB else (s.wheels[w]).lvlA) = .unknown) :
    s.toothEdge w onB l peak = (some { wheel := w, wasOk := (s.wheels[w]).angleOk }, s.toothSet w onB l) := by
  have level : ¬(l ≠ .low ∧ l ≠ .high) := fun ⟨h1, h2⟩ => hl.elim h1 h2
  have other : (if onB then (s.wheels[w]).lvlB else (s.wheels[w]).lvlA) ≠ l := by
    rw [hw]
    rcases hl with rfl | rfl <;> exact InLevel.noConfusion
  unfold State.toothEdge
  dsimp only
  rw [if_neg (by simp only [hr, hu, level, false_or, Bool.true_eq_false]; exact other), if_pos (.inl hw)]
  rfl

/-- A known level of A of the other kind, without a test of the angle inputs. -/
theorem State.toothEdge_known {w : Fin 4} {l : InLevel} (peak : Nat) (hr : s.running = true) (hu : s.toothUsed w false = true)
    (hl : (s.wheels[w]).lvlA = .low ∧ l = .high ∨ (s.wheels[w]).lvlA = .high ∧ l = .low) :
    s.toothEdge w false l peak = (s.toothSet w false l).transitionA w (decide (l = .high)) peak
      (s.now - (16 * (s.wheelCfg w.val).filt + 4)) s.wheels[w] := by
  unfold State.toothEdge
  dsimp only
  rw [if_neg, if_neg]
  · rfl
  · rcases hl with ⟨h, -⟩ | ⟨h, -⟩ <;> rw [if_neg Bool.false_ne_true, h] <;> decide
  · rcases hl with ⟨h, rfl⟩ | ⟨h, rfl⟩ <;> rw [if_neg Bool.false_ne_true, h, hr, hu] <;> decide

/-- What follows a transition that counts nothing. -/
theorem State.toothSet_tail (s : State) (w : Fin 4) (onB : Bool) (l : InLevel) (h : s.cfg.state ≠ .armed ∨ s.cfg.point = .immediate) :
    let t := (State.fusWheels s (s.toothSet w onB l)).stepTwo.wheelTail (some { wheel := w, wasOk := (s.wheels[w]).angleOk })
    t.wheels = s.wheels.set w ((s.wheels[w]).withTooth onB l (s.now - (16 * (s.wheelCfg w.val).filt + 4))) ∧
      Only [.regs, .link, .wheels, .bias, .outs, .fus, .setAt, .setNow] s t ∧
      ((∀ n : Fin 32, s.outWheel n ≠ w) → t.outs = s.outs ∧ t.regs = s.regs) := by
  have set := (State.fusWheels_only s (s.toothSet w onB l)).after (s.toothSet_only w onB l)
  have wheels : (State.fusWheels s (s.toothSet w onB l)).wheels = _ :=
    (State.fusWheels_only s (s.toothSet w onB l) .wheels (by decide)).trans (s.toothSet_wheels w onB l)
  have outs (hn : ∀ n : Fin 32, s.outWheel n ≠ w) : (State.fusWheels s (s.toothSet w onB l)).outs = s.outs :=
    (State.fusWheels_only s (s.toothSet w onB l) .outs (by decide)).trans (State.toothSet_outs onB l hn)
  rw [Only.stepTwo_rest set (by decide) h]
  generalize State.fusWheels s (s.toothSet w onB l) = u at set wheels outs
  have tail := u.wheelToOutputs_only w (s.wheels[w]).angleOk false
  refine ⟨(tail .wheels (by decide)).trans wheels, (tail.after set).among (by decide), fun hn => ?_⟩
  have named (n : Fin 32) : u.outWheel n ≠ w := by
    have regs : u.regs = s.regs := set .regs (by decide)
    simpa only [State.outWheel, State.fld, State.reg, regs] using hn n
  have ok : (s.wheels[w]).angleOk = true → (u.wheels[w]).angleOk = true := by
    have own : u.wheels[w] = (s.wheels[w]).withTooth onB l (s.now - (16 * (s.wheelCfg w.val).filt + 4)) := by
      rw [wheels]
      exact Vector.getElem_set_self w.isLt
    rw [own, WheelSt.angleOk_withTooth]
    exact id
  have rest : u.wheelToOutputs w (s.wheels[w]).angleOk false = u := State.wheelToOutputs_none _ _ named ok
  exact ⟨(congrArg State.outs rest).trans (outs hn), (congrArg State.regs rest).trans (set .regs (by decide))⟩

theorem wheels_set_same {s t : State} {w : Fin 4} {v : WheelSt} (h : t.wheels = s.wheels.set w v) : t.wheels[w] = v := by
  rw [h]
  exact Vector.getElem_set_self w.isLt

theorem wheels_set_other {s t : State} {w k : Fin 4} {v : WheelSt} (h : t.wheels = s.wheels.set w v) (hk : k ≠ w) : t.wheels[k] = s.wheels[k] := by
  rw [h]
  exact Vector.getElem_set_ne _ _ fun e => hk (Fin.ext e.symm)

/-- A Hall sensor that counts rising edges and takes no direction from B. -/
theorem State.transitionA_hall {w : Fin 4} {t : Nat} {old : WheelSt} (rising : Bool) (peak : Nat) (hs : (s.wheelCfg w.val).sense = 0)
    (he : (s.wheelCfg w.val).edge = 0) (hd : (s.wheelCfg w.val).dirSrc ≠ 1) (ht : s.angleTesting = false) :
    s.transitionA w rising peak t old =
      if rising then s.trackEdge w t (quadDir (s.wheelCfg w.val) rising (old.lvlBAt t))
      else (some { wheel := w, wasOk := (s.wheels[w]).angleOk }, s) := by
  have shown (qd : Dir) : s.showDir w qd = s := if_neg hd
  unfold State.transitionA
  dsimp only
  rw [hs, if_neg (by decide), ht, if_neg Bool.false_ne_true, if_pos he, shown, decide_eq_false hd]
  cases rising <;> rfl

/-- An edge steps its tracker and no other, and leaves what a transaction waits for but for its reference. -/
theorem State.trackEdge_spec (s : State) (w : Fin 4) (t : Nat) (qd : Dir) :
    (s.trackEdge w t qd).2.wheels = s.wheels.set w ((s.wheels[w]).edgeStep (s.wheelCfg w.val) s.now t qd).1 ∧
      Keeps State.unwatched s (s.trackEdge w t qd).2 := by
  unfold State.trackEdge
  extract_lets c old r new s1 _ s2 untested
  have set : ((s.catchFallback w).setWheel w new).wheels = s.wheels.set w new := by
    rw [State.setWheel_wheels, s.catchFallback_only w .wheels (by decide)]
  have placed := ((State.setWheel_only (s.catchFallback w) w new).after (s.catchFallback_only w)).unwatched (by decide)
  have zero := State.watchZero_only ((s.catchFallback w).setWheel w new) w old
  have counts := State.wheelCounts_only (((s.catchFallback w).setWheel w new).watchZero w old) w r.2
  have wheels1 : s1.wheels = s.wheels.set w new := ((counts.after zero) .wheels (by decide)).trans set
  have watched1 : Keeps State.unwatched s s1 := placed.trans ((State.watchZero_unwatched _ w old).trans (counts.unwatched (by decide)))
  clear_value s1
  split
  · have woken : Only [.power] s1 s2 := .ite (Only.set_power s1 _) (.refl _ _)
    have rest := ((s2.wheelMoved w old.sync).phaseEdge_only w old new r.2).after ((s2.wheelMoved_only w old.sync).after woken)
    exact ⟨(rest .wheels (by decide)).trans wheels1, watched1.trans (rest.unwatched (by decide))⟩
  · exact ⟨wheels1, watched1⟩

/-- The first edge of a silent tracker: it is counted and the tracker seeks. -/
theorem WheelSt.edgeStep_silent {v : WheelSt} (c : WheelCfg) (now t : Nat) (qd : Dir) (hs : v.sync = .silent) (he : v.hasEdge = false) :
    (v.edgeStep c now t qd).1.sync = .seek ∧ (v.edgeStep c now t qd).1.edges = v.edges + 1 ∧ (v.edgeStep c now t qd).1.standstill = false ∧
      (v.edgeStep c now t qd).1.hasEdge = true ∧ (v.edgeStep c now t qd).1.lvlA = v.lvlA := by
  have core : ∃ u : WheelSt, u.edges = v.edges ∧ u.lvlA = v.lvlA ∧
      v.edgeCore c now t qd = ((({ (u.toSeek now t) with speed := 0, standstill := false } : WheelSt).closeEdge c t).1, { counted := true }) := by
    unfold WheelSt.edgeCore
    extract_lets p quadTurn w0
    rw [he, hs, if_neg (by simp), if_neg (by simp)]
    refine ⟨w0, ?_, ?_, rfl⟩ <;> dsimp only [w0]
    · split
      · rfl
      · split <;> rfl
    · split
      · rfl
      · split <;> rfl
  obtain ⟨u, edges, level, core⟩ := core
  unfold WheelSt.edgeStep
  rw [core]
  exact ⟨rfl, congrArg (· + 1) edges, rfl, rfl, level⟩

end

/-- What TOOTH_EDGE makes of the state at its time. -/
def State.toothTaken (s : State) (w : Fin 4) (onB : Bool) (l : InLevel) (peak : Nat) : State :=
  (State.fusWheels s (s.toothEdge w onB l peak).2).stepTwo.wheelTail (s.toothEdge w onB l peak).1

theorem State.toothTaken_only (s : State) (w : Fin 4) (onB : Bool) (l : InLevel) (peak : Nat) :
    Only [.regs, .power, .link, .cfg, .wheels, .phases, .bias, .snapAt, .outs, .timers, .adcA, .adcB, .regA, .injA, .regB, .injB, .dma, .nand, .cave,
      .health, .bat, .fus, .setAt, .setNow] s (s.toothTaken w onB l peak) :=
  ((State.wheelTail_only _ _).after ((State.stepTwo_only _).after ((State.fusWheels_only _ _).after (s.toothEdge_only w onB l peak)))).among (by decide)

/-- An event of a wheel that leaves what a transaction waits for, but for its reference, makes no commit where none is due. -/
theorem State.stepTwo_watched {s t : State} (k : Keeps State.unwatched s t) (h : s.cfg.state ≠ .armed ∨ s.cfg.point = .immediate) : t.stepTwo = t := by
  have state : t.cfg.state = s.cfg.state := (congrArg CfgSt.state k :)
  have point : t.cfg.point = s.cfg.point := (congrArg CfgSt.point k :)
  exact State.stepTwo_rest (by rw [state, point]; exact h)

theorem State.wheelCfg_congr {s t : State} (h : t.regs = s.regs) (n : Nat) : t.wheelCfg n = s.wheelCfg n := by
  unfold State.wheelCfg State.reg
  rw [h]

section
variable {s : State} {w : Fin 4}

theorem State.toothSet_hall (onB : Bool) (l : InLevel) (hs : (s.wheelCfg w.val).sense = 0) (he : (s.wheelCfg w.val).edge = 0)
    (hd : (s.wheelCfg w.val).dirSrc ≠ 1) (ht : s.angleTesting = false) (rising : Bool) (peak t : Nat) (old : WheelSt) :
    (s.toothSet w onB l).transitionA w rising peak t old =
      if rising then (s.toothSet w onB l).trackEdge w t (quadDir (s.wheelCfg w.val) rising (old.lvlBAt t))
      else (some { wheel := w, wasOk := (((s.toothSet w onB l).wheels)[w]).angleOk }, s.toothSet w onB l) := by
  have set := s.toothSet_only w onB l
  have cfg := State.wheelCfg_congr (set .regs (by decide)) w.val
  have test : (s.toothSet w onB l).angleTesting = s.angleTesting := by
    unfold State.angleTesting
    rw [show (s.toothSet w onB l).cfg = s.cfg from set .cfg (by decide)]
  rw [← cfg] at hs he hd ⊢
  exact State.transitionA_hall rising peak hs he hd (test.trans ht)

/-- The first edge of a silent tracker, as the whole event makes it. -/
theorem State.toothTaken_rises (peak : Nat) (hr : s.running = true) (hu : s.toothUsed w false = true)
    (hl : (s.wheels[w]).lvlA = .low) (hs : (s.wheelCfg w.val).sense = 0) (he : (s.wheelCfg w.val).edge = 0) (hd : (s.wheelCfg w.val).dirSrc ≠ 1)
    (ht : s.angleTesting = false) (hc : s.cfg.state ≠ .armed ∨ s.cfg.point = .immediate) :
    ∃ t qd, (s.toothTaken w false .high peak).wheels =
      s.wheels.set w (((s.wheels[w]).withTooth false .high t).edgeStep (s.wheelCfg w.val) s.now t qd).1 := by
  have set := s.toothSet_only w false .high
  have wheels := s.toothSet_wheels w false .high
  have edge : s.toothEdge w false .high peak = (s.toothSet w false .high).trackEdge w (s.now - (16 * (s.wheelCfg w.val).filt + 4)) _ :=
    (State.toothEdge_known peak hr hu (.inl ⟨hl, rfl⟩)).trans ((State.toothSet_hall false .high hs he hd ht true peak _ _).trans (if_pos rfl))
  refine ⟨s.now - (16 * (s.wheelCfg w.val).filt + 4),
    quadDir (s.wheelCfg w.val) true ((s.wheels[w]).lvlBAt (s.now - (16 * (s.wheelCfg w.val).filt + 4))), ?_⟩
  unfold State.toothTaken
  rw [edge]
  have now : (s.toothSet w false .high).now = s.now := set .now (by decide)
  obtain ⟨stepped, watched⟩ := (s.toothSet w false .high).trackEdge_spec w (s.now - (16 * (s.wheelCfg w.val).filt + 4))
    (quadDir (s.wheelCfg w.val) true ((s.wheels[w]).lvlBAt (s.now - (16 * (s.wheelCfg w.val).filt + 4))))
  rw [State.wheelCfg_congr (set .regs (by decide)), now, wheels_set_same wheels, wheels, Vector.set_set] at stepped
  generalize (s.toothSet w false .high).trackEdge w _ _ = r at stepped watched ⊢
  have fus := State.fusWheels_only s r.2
  rw [State.stepTwo_watched ((set.unwatched (by decide)).trans (watched.trans (fus.unwatched (by decide)))) hc]
  exact ((State.wheelTail_only _ r.1) .wheels (by decide)).trans ((fus .wheels (by decide)).trans stepped)

end

/-- Settles O24: the transitions of a tooth input by what its tracker may count. -/
theorem toothEdges : Obligations.ToothEdges := by
  refine ⟨fun w onB l peak => ?first, fun w peak => ?rises, fun w peak => ?falls, fun w onB l peak => ?ignored⟩
  case first =>
    refine .of (·.toothTaken w onB l peak) (fun _ _ => rfl) fun e _ ⟨hr, hu, hl, hw, hc⟩ => ?_
    rw [State.toothTaken, State.toothEdge_uncounted peak hr hu hl hw]
    obtain ⟨wheels, only, quiet⟩ := e.toothSet_tail w onB l hc
    have own := wheels_set_same wheels
    have level (v : WheelSt) (t : Nat) : (if onB then (v.withTooth onB l t).lvlB else (v.withTooth onB l t).lvlA) = l ∧
        (v.withTooth onB l t).edges = v.edges ∧ (v.withTooth onB l t).sync = v.sync := by
      cases onB <;> exact ⟨rfl, rfl, rfl⟩
    generalize State.wheelTail _ _ = t at wheels only quiet own ⊢
    rw [own]
    obtain ⟨tooth, edges, sync⟩ := level e.wheels[w] (e.now - (16 * (e.wheelCfg w.val).filt + 4))
    exact ⟨tooth, edges, sync, fun k hk => wheels_set_other wheels hk, only .power (by decide), only .timers (by decide), only .sram (by decide), quiet⟩
  case rises =>
    refine .of (·.toothTaken w false .high peak) (fun _ _ => rfl) fun e _ ⟨hr, hu, hl, hs, he, hd, ht, hy, hh, hc⟩ => ?_
    obtain ⟨t, qd, wheels⟩ := State.toothTaken_rises peak hr hu hl hs he hd ht hc
    obtain ⟨sync, edges, still, has, level⟩ :=
      WheelSt.edgeStep_silent (v := (e.wheels[w]).withTooth false .high t) (e.wheelCfg w.val) e.now t qd hy hh
    have own := wheels_set_same wheels
    have sram := e.toothTaken_only w false .high peak .sram (by decide)
    generalize e.toothTaken w false .high peak = u at wheels own sram ⊢
    rw [own]
    exact ⟨level, sync, edges, still, has, fun k hk => wheels_set_other wheels hk, sram⟩
  case falls =>
    refine .of (·.toothTaken w false .low peak) (fun _ _ => rfl) fun e _ ⟨hr, hu, hl, hs, he, hd, ht, hc⟩ => ?_
    have edge : e.toothEdge w false .low peak = (some { wheel := w, wasOk := (e.wheels[w]).angleOk }, e.toothSet w false .low) := by
      rw [State.toothEdge_known peak hr hu (.inr ⟨hl, rfl⟩), State.toothSet_hall false .low hs he hd ht, if_neg (by decide),
        wheels_set_same (e.toothSet_wheels w false .low), WheelSt.angleOk_withTooth]
    rw [State.toothTaken, edge]
    obtain ⟨wheels, only, quiet⟩ := e.toothSet_tail w false .low hc
    have own := wheels_set_same wheels
    generalize State.wheelTail _ _ = t at wheels only quiet own ⊢
    rw [own]
    exact ⟨rfl, rfl, rfl, only .sram (by decide), quiet⟩
  case ignored =>
    refine .of (·.toothTaken w onB l peak) (fun _ _ => rfl) fun e _ h => ?_
    have none : e.toothEdge w onB l peak = (none, e) := by
      refine if_pos ?_
      rcases h with h | ⟨h, -⟩
      · exact .inl h
      · exact .inr (.inl (by simp [State.toothUsed, h]))
    have rest : (State.fusWheels e e).stepTwo = State.fusWheels e e := by
      rcases h with h | ⟨-, h⟩
      · exact State.stepTwo_stopped (((State.fusWheels_only e e).running (by decide)).trans h)
      · exact Only.stepTwo_rest (State.fusWheels_only e e) (by decide) (.inl h)
    have fus : e.toothTaken w onB l peak = State.fusWheels e e := by
      rw [State.toothTaken, none, rest]
      rfl
    rw [fus]
    exact (State.fusWheels_only e e).eq_fus

end Sys2Proof.Machine
end

section
/-!
PROOFS. What the lock's decisions and the rules of the rind can touch (chapter 16), and the timed conditions of the wheels (chapters 3, 6, 7).
-/

namespace Sys2Proof.Machine

/-! ### The register words of the lock and of the rules -/

/-- The words that a decision of the lock may write: LCK_STAT, LCK_CNT, and those of notices and of health events. -/
def lockWords : List Nat := [0xE0008, 0xE001C, 0x10034, 0xA0058, 0x100004]

section
variable (s : State)

theorem State.lockNotice_words : Words lockWords s s.lockNotice := by
  unfold State.lockNotice
  exact .ite (.refl _ _) ((s.notice_words _ _).among (by decide))

theorem State.setLockState_words (t : LockState) : Words lockWords s (s.setLockState t) := by
  have set : Words lockWords s (s.setLock { s.lock with state := t }) := .of (State.setLock_only _ _) (by decide)
  unfold State.setLockState
  exact .ite (.refl _ _) (set.trans (State.lockNotice_words _))

theorem State.lockLog_words (event cause before restarts ms : Nat) (urgent : Bool) :
    Words lockWords s (s.lockLog event cause before restarts ms urgent) := fun a ha =>
  (s.logEntry_frame _ _ _).reg a fun e => ha (e ▸ by decide)

theorem State.enterFault_words (cause : Nat) : Words lockWords s (s.enterFault cause) := by
  unfold State.enterFault
  split
  · exact .refl _ _
  · extract_lets l ms s1 s2
    have set : Words lockWords s s1 := .of (State.setLock_only _ _) (by decide)
    have fault : Words lockWords s1 s2 := ((s1.satInc_words _ _ _).among (by decide)).trans (State.setLockState_words _ _)
    exact set.trans (fault.trans ((State.lockLog_words _ _ _ _ _ _ _).trans ((State.advise_words _ _ _).among (by decide))))

theorem State.faultEvent_words (cause : Nat) : Words lockWords s (s.faultEvent cause).1 := s.enterFault_words cause

theorem State.lockDrift_words (both : Bool) : Words lockWords s (s.lockDrift both).1 := by
  have bit : Words lockWords s (s.orReg 0xE0008 1) := (s.orReg_words _ _).among (by decide)
  unfold State.lockDrift
  exact bit.trans ((Words.ite (State.enterFault_words _ _) (State.setLockState_words _ _)).trans (State.lockLog_words _ _ _ _ _ _ _))

theorem State.lockEndMove_words (b : Bridge) (t : Option Nat) : Words lockWords s (s.lockEndMove b t) := by
  unfold State.lockEndMove
  exact (Words.of (State.setLock_only _ _) (by decide)).trans (State.setLockState_words _ _)

theorem State.lockSuccess_words : Words lockWords s s.lockSuccess :=
  (s.lockEndMove_words _ _).trans ((State.satInc_words _ _ _ _).among (by decide))

end

theorem Words.iteFst {α : Type} {l : List Nat} {s : State} {p q : State × α} {c : Prop} [Decidable c] (hp : Words l s p.1) (hq : Words l s q.1) :
    Words l s (if c then p else q).1 := by
  split <;> assumption

theorem State.lockConsider_words (s : State) (chOpen chShut : Bool) : Words lockWords s (s.lockConsider chOpen chShut).1 := by
  have set (l : LockSt) : Words lockWords s (s.setLock l) := .of (State.setLock_only _ _) (by decide)
  unfold State.lockConsider
  extract_lets l opp chOpp tgt chTgt both
  refine .iteFst (.refl _ _) (.iteFst ?_ ?_)
  · refine .iteFst (State.faultEvent_words _ _) (.iteFst (State.faultEvent_words _ _) (.iteFst (State.faultEvent_words _ _) ?_))
    refine .iteFst ((set _).trans (State.faultEvent_words _ _)) (.iteFst ((set _).trans (State.faultEvent_words _ _)) ?_)
    exact .iteFst ((set _).trans (State.lockSuccess_words _)) (set _)
  · split
    · exact .iteFst (State.lockDrift_words _ _) (.iteFst (State.lockDrift_words _ _) (.refl _ _))
    · exact .iteFst (State.lockDrift_words _ _) (.iteFst (State.lockDrift_words _ _) (.refl _ _))
    · exact .iteFst (State.faultEvent_words _ _) (State.setLockState_words _ _)

theorem State.limitDecide_words (s : State) : Words lockWords s s.limitDecide.1 := by
  unfold State.limitDecide
  exact (Words.of (State.setLock_only _ _) (by decide)).trans (State.lockConsider_words _ _ _)

/-- The words that the firing of rules may write: PWR_WAKESRC, RND_EVLOST, and the counter and FIRED bit of each rule. -/
def ruleWords : List Nat := 0x110018 :: 0xD001C :: (List.range 16).flatMap fun k => [0xD0100 + 0x10 * k + 8, 0xD0100 + 0x10 * k + 0xC]

theorem rule_mem_ruleWords (k : Fin 16) : ruleBase k.val + 8 ∈ ruleWords ∧ ruleBase k.val + 0xC ∈ ruleWords := by
  revert k
  decide

/-- The rind without what its rules keep: windows, holdoffs and counts, the event FIFO and the alarm. -/
def State.sensed (s : State) : RindSt := { s.rind with rules := Vector.replicate 16 {}, fifo := [], alarm := {} }

theorem Only.sensed {l : List Part} {s t : State} (h : Only l s t) (hl : Part.rind ∉ l) : Keeps State.sensed s t := by
  unfold Keeps State.sensed
  rw [show t.rind = s.rind from h .rind hl]

/-- What the rules leave: the words that are not theirs and what the rind has sensed. -/
structure Ruled (s t : State) : Prop where
  words : Words ruleWords s t
  sensed : Keeps State.sensed s t

section
variable {k s t u : State}

theorem Ruled.refl (s : State) : Ruled s s := ⟨.refl _ _, rfl⟩

theorem Ruled.trans (h : Ruled s t) (k : Ruled t u) : Ruled s u := ⟨h.words.trans k.words, h.sensed.trans k.sensed⟩

theorem Ruled.ite {c : Prop} [Decidable c] (ht : Ruled s t) (hu : Ruled s u) : Ruled s (if c then t else u) := by
  split <;> assumption

theorem Ruled.fold {β : Type} {f : State → β → State} {xs : List β} (hf : ∀ s x, Ruled s (f s x)) (h : Ruled k s) :
    Ruled k (xs.foldl f s) := by
  induction xs generalizing s with
  | nil => exact h
  | cons x xs ih => exact ih (h.trans (hf s x))

/-- An operation on words of the rules. -/
theorem Ruled.ofWords {l : List Nat} {p : List Part} (h : Words l s t) (hl : l ⊆ ruleWords) (o : Only p s t) (hp : Part.rind ∉ p) : Ruled s t :=
  ⟨h.mono hl, o.sensed hp⟩

end

section
variable (s : State) (k : Fin 16)

theorem State.setRule_ruled (v : RuleSt) : Ruled s (s.setRule k v) := ⟨.of (State.setRule_only _ _ _) (by decide), rfl⟩

theorem State.startAlarm_ruled : Ruled s s.startAlarm := ⟨.of s.startAlarm_only (by decide), rfl⟩

theorem State.requestWake_ruled (m : Nat) : Ruled s (s.requestWake m) := by
  have latched : Words ruleWords s (s.orReg 0x110018 (m &&& (s.fld 0x110014 3 0 ||| 1))) := (s.orReg_words _ _).among (by decide)
  refine ⟨?_, (s.requestWake_only m).sensed (by decide)⟩
  unfold State.requestWake
  exact .ite (.of (Only.set_power _ _) (by decide)) (.ite (latched.trans (.of (Only.set_power _ _) (by decide))) (.refl _ _))

theorem State.pushRind_ruled (act : Nat) : Ruled s (s.pushRind k act) := by
  have pushed (f : List RindEntry) : Ruled s (s.setRind { s.rind with fifo := f }) := ⟨.of (State.setRind_only _ _) (by decide), rfl⟩
  unfold State.pushRind
  exact .ite (pushed _) (.ofWords (s.satInc_words _ _ _) (by decide) (s.satInc_only _ _ _) (by decide))

theorem State.fireRule_ruled : Ruled s (s.fireRule k) := by
  obtain ⟨count, fired⟩ := rule_mem_ruleWords k
  have bit : Ruled s (s.orReg (ruleBase k.val + 0xC) 1) :=
    .ofWords (s.orReg_words _ _) (List.cons_subset.2 ⟨fired, List.nil_subset _⟩) (s.orReg_only _ _) (by decide)
  have counted (t : State) : Ruled t (t.satInc (ruleBase k.val + 8) 31 0) :=
    .ofWords (t.satInc_words _ _ _) (List.cons_subset.2 ⟨count, List.nil_subset _⟩) (t.satInc_only _ _ _) (by decide)
  unfold State.fireRule
  extract_lets w hold _ s1 s2 s3 s4
  have h1 : Ruled s s1 := bit.trans (State.setRule_ruled _ k _)
  have h2 : Ruled s s2 := .ite (h1.trans (State.requestWake_ruled _ _)) h1
  have h3 : Ruled s s3 := .ite (h2.trans (counted _)) h2
  have h4 : Ruled s s4 := .ite (h3.trans (State.pushRind_ruled _ k _)) h3
  exact .ite (h4.trans (State.startAlarm_ruled _)) h4

theorem State.countRule_ruled : Ruled s (s.countRule k).2 := by
  unfold State.countRule
  extract_lets p r n win
  split <;> exact s.setRule_ruled k _

theorem State.evalRule_ruled (e : RindEvents) : Ruled s (State.evalRule e s k) := by
  have counted := s.countRule_ruled k
  unfold State.evalRule
  refine .ite ?_ (.refl _)
  exact .ite (.ite (.ite (counted.trans (State.fireRule_ruled _ k)) counted) (.refl _)) (.ite (s.fireRule_ruled k) (.refl _))

theorem State.evalRules_ruled (e : RindEvents) : Ruled s (s.evalRules e) := .fold (fun t n => t.evalRule_ruled n e) (.refl _)

end

/-! ### What a rind input reads -/

theorem State.rindIn_congr {s t : State} {i : Fin 6} (hr : t.reg 0xD0004 = s.reg 0xD0004) (hk : t.rindKept i = s.rindKept i) : t.rindIn i = s.rindIn i := by
  unfold State.rindIn State.rindUsed State.bit
  rw [hr, hk]

theorem State.rindIn_setRindIn (s : State) (i : Fin 6) (l : InLevel) (hu : s.rindUsed i = true) :
    (s.setRindIn i l).rindIn i = l ∧ ∀ k, k ≠ i → (s.setRindIn i l).rindIn k = s.rindIn k := by
  have regs : (s.setRindIn i l).regs = s.regs := s.setRindIn_only i l .regs (by decide)
  have used (k : Fin 6) : (s.setRindIn i l).rindUsed k = s.rindUsed k := by
    unfold State.rindUsed State.bit State.reg
    rw [regs]
  have inputs : (s.setRindIn i l).rind.inputs = s.rind.inputs.set i l := by
    unfold State.setRindIn
    dsimp only
    split <;> rfl
  constructor
  · unfold State.rindIn State.rindKept
    rw [used, hu, if_pos rfl, inputs]
    exact Vector.getElem_set_self i.isLt
  · intro k hk
    unfold State.rindIn State.rindKept
    rw [used, inputs]
    exact congrArg (fun v => if s.rindUsed k = true then v else InLevel.unknown) (Vector.getElem_set_ne _ _ fun e => hk (Fin.ext e.symm))

/-- A rind input that is due reads STUCK_MID, and no other input changes. -/
theorem State.rindStuck_due {s : State} {i : Fin 6} (h : s.rindStuckDue i = true) :
    (s.rindStuck i).rindIn i = .stuckMid ∧ (∀ k, k ≠ i → (s.rindStuck i).rindIn k = s.rindIn k) ∧ (s.rindStuck i).bit 0x100004 2 = true := by
  have used : s.rindUsed i = true := by
    simp only [State.rindStuckDue, Bool.and_eq_true] at h
    exact h.1.1.1.2
  unfold State.rindStuck
  rw [if_pos h]
  extract_lets r s1
  have decided : Words lockWords s r.1 ∧ r.1.rind = s.rind := by
    simp only [r]
    split
    · exact ⟨s.limitDecide_words, s.limitDecide_only .rind (by decide)⟩
    · exact ⟨.refl _ _, rfl⟩
  clear_value r
  obtain ⟨words, rind⟩ := decided
  have same (k : Fin 6) : r.1.rindIn k = s.rindIn k := State.rindIn_congr (words 0xD0004 (by decide)) (by unfold State.rindKept; rw [rind])
  have used1 : r.1.rindUsed i = true := by
    unfold State.rindUsed State.bit at used ⊢
    rw [words 0xD0004 (by decide)]
    exact used
  obtain ⟨own, others⟩ := r.1.rindIn_setRindIn i .stuckMid used1
  have told : Only [.regs, .link, .nand, .cave, .health, .setAt, .setNow] (r.1.setRindIn i .stuckMid) s1 :=
    ((State.advise_only _ _ _).after (State.notice_only _ _ _)).among (by decide)
  have words1 : Words [0x10034, 0x100004, 0xA0058] (r.1.setRindIn i .stuckMid) s1 :=
    ((State.notice_words _ _ _).among (by decide)).trans ((State.advise_words _ _ _).among (by decide))
  have bit : s1.bit 0x100004 2 = true := State.advise_bit _ _ _ (by decide)
  clear_value s1
  have raised : Words [0xB0120] s1 (if i = 4 then s1.orReg 0xB0120 0x200 else s1) := .ite (s1.orReg_words _ _) (.refl _ _)
  have raisedOnly : Only [.regs, .setAt, .setNow] s1 (if i = 4 then s1.orReg 0xB0120 0x200 else s1) := .ite (s1.orReg_only _ _) (.refl _ _)
  generalize (if i = 4 then s1.orReg 0xB0120 0x200 else s1) = u at raised raisedOnly ⊢
  have ruled := u.evalRules_ruled { r.2 with stuck := [i.val] }
  generalize u.evalRules { r.2 with stuck := [i.val] } = t at ruled ⊢
  have rind : u.rind = (r.1.setRindIn i .stuckMid).rind := (raisedOnly.after told) .rind (by decide)
  have word : t.reg 0xD0004 = (r.1.setRindIn i .stuckMid).reg 0xD0004 :=
    (ruled.words _ (by decide)).trans ((raised _ (by decide)).trans (words1 _ (by decide)))
  have reads (k : Fin 6) : t.rindIn k = (r.1.setRindIn i .stuckMid).rindIn k := by
    refine State.rindIn_congr word ?_
    unfold State.rindKept
    rw [show t.rind.inputs = u.rind.inputs from (congrArg RindSt.inputs ruled.sensed :), rind]
  exact ⟨(reads i).trans own, fun k hk => (reads k).trans ((others k hk).trans (same k)), ruled.words.bit (raised.bit bit (by decide)) (by decide)⟩

/-- What STANDSTILL and COAST_ENTRY make of the state at their time, by what they do to the tracker. -/
def State.wheelTaken (s : State) (r : Option WheelTail × State) : State := (State.fusWheels s r.2).stepTwo.wheelTail r.1

/-- A change of one tracker, with what follows it. -/
theorem State.wheelTaken_moved {s u : State} {w : Fin 4} {v : WheelSt} (hu : Only [.power] s u) (h : s.cfg.state ≠ .armed ∨ s.cfg.point = .immediate) :
    (s.wheelTaken (u.moveWheel w v)).wheels = s.wheels.set w v ∧ (s.wheelTaken (u.moveWheel w v)).sram = s.sram := by
  obtain ⟨wheels, watched⟩ := u.moveWheel_spec w v
  have moved := u.moveWheel_only w v
  have fus := State.fusWheels_only s (u.moveWheel w v).2
  unfold State.wheelTaken
  rw [State.stepTwo_watched ((hu.unwatched (by decide)).trans (watched.trans (fus.unwatched (by decide)))) h]
  have tail := State.wheelTail_only (State.fusWheels s (u.moveWheel w v).2) (u.moveWheel w v).1
  refine ⟨(tail .wheels (by decide)).trans ((fus .wheels (by decide)).trans ?_),
    (tail .sram (by decide)).trans ((fus .sram (by decide)).trans ((moved .sram (by decide)).trans (hu .sram (by decide))))⟩
  rw [wheels, show u.wheels = s.wheels from hu .wheels (by decide)]

/-- With nothing moved and the engine not running, an event of a wheel leaves the state. -/
theorem State.fusWheels_stopped {s : State} (h : s.running = false) : State.fusWheels s s = s :=
  foldl_fixed fun w => if_neg (by simp [State.fusOn, h])

theorem State.writeHealth_words (s : State) : Words [0x100068] s s.writeHealth := by
  unfold State.writeHealth
  exact .ite (s.orReg_words _ _) (.of (State.recordWrite_only _ _ _ _ _) (by decide))

theorem State.healthWheel_words (s : State) (w : Nat) : Words [0xA0058, 0x100068] s (s.healthWheel w) := by
  have noted : Words [0xA0058, 0x100068] s (s.noteSet 0x100010 (BitVec.ofNat 32 (2 ^ w))) := .of (s.noteSet_only _ _) (by decide)
  have told (t : State) : Words [0xA0058, 0x100068] t (t.replaceNotice 2 w) :=
    (Words.of (t.healthNotice_only _ _ _) (by decide)).trans ((State.healthLog_words _ _ _ _).among (by decide))
  unfold State.healthWheel
  exact .ite noted (noted.trans ((Words.of (Only.set_health _ _) (by decide)).trans ((told _).trans ((State.writeHealth_words _).among (by decide)))))

/-- What INPUT_STUCK_TIMEOUT makes of the state at its time: inputs 0 to 7 are those of the trackers, the others those of the rind. -/
def State.stuckTaken (s : State) (input : Fin 14) : State :=
  if input.val < 8 then State.fusWheels s (s.toothStuck (Fin.ofNat 4 (input.val / 2)) (decide (input.val % 2 = 1)))
  else s.rindStuck (Fin.ofNat 6 (input.val - 8))

theorem exec_inputStuckTimeout (input : Fin 14) (dt : Span) (s : State) :
    exec (.inputStuckTimeout dt input) s = .next ((s.elapse dt).stuckTaken input) := by
  unfold State.stuckTaken
  rw [apply_ite Host.Outcome.next]
  rfl

/-- A tooth input that is due reads STUCK_MID. -/
theorem State.toothStuck_due {s : State} {w : Fin 4} (hr : s.running = true) (hb : s.boot.loaded = true) (hu : s.toothUsed w false = true)
    (hs : (s.wheelCfg w.val).sense = 0) (hd : s.fld 0x48 7 0 ≠ 0) (hl : (s.wheels[w]).lvlA = .unknown)
    (ht : s.boot.toothAt + msAng (10 * s.fld 0x48 7 0) ≤ s.now) :
    (s.toothStuck w false).wheels = s.wheels.set w { s.wheels[w] with lvlA := .stuckMid } ∧ (s.toothStuck w false).bit 0x100004 2 = true := by
  unfold State.toothStuck
  dsimp only
  rw [if_pos ⟨hr, hb, hu, by simp [hs], hd, hl, ht⟩]
  exact ⟨((State.advise_only _ _ _).after (State.notice_only _ _ _)) .wheels (by decide), State.advise_bit _ _ _ (by decide)⟩

/-- The next input of the round that may be checked. -/
theorem State.biasCheck_next {s : State} {i : Nat} {rest : List Nat} (hr : s.boot.loaded = true) (hp : s.fld 0x30800 7 0 ≠ 0)
    (ho : s.convOn .adcB = true) (hs : s.adcB.spare.isSome = true) (ht : s.cfg.testAdcB = .idle) (hn : s.bias.running = none)
    (hd : s.now < s.bias.dueAt) (hq : s.bias.queue = i :: rest) (hi : s.biasReady i = true) (hu : i ∉ rest) :
    s.biasCheck = { s with bias := { s.bias with running := some (i, s.now), queue := rest } } := by
  have first : (i :: rest).find? s.biasReady = some i := by rw [List.find?_cons_of_pos hi]
  have left : (i :: rest).filter (fun j => j != i) = rest := by
    rw [List.filter_cons_of_neg (by simp), List.filter_eq_self]
    intro j hj
    simpa using fun e : j = i => hu (e ▸ hj)
  unfold State.biasCheck
  dsimp only
  rw [ht, if_pos ⟨hp, hr, ho, hs, rfl, by simp [hn]⟩, if_neg (Nat.not_le.2 hd), hq, first]
  dsimp only
  rw [left]

/-- A check of an input whose readings are good. -/
theorem State.biasDone_good {s : State} {plus minus idle : LegReading} {rail : RailReading} {i since : Nat} {v : Int × Int}
    (hr : s.bias.running = some (i, since)) (ht : since + usAng 300 ≤ s.now) (ho : s.convOn .adcB = true) (hs : s.adcB.spare.isSome = true)
    (hv : v = biasValues plus minus idle (s.inputVr i))
    (hk : biasClass (s.reg (if s.inputVr i then 0x30810 else 0x30808)) (s.reg ((if s.inputVr i then 0x30810 else 0x30808) + 4)) v.1 v.2
      (Int.ofNat (if s.inputVr i then rail.vdd5 else rail.vio)) = 0) :
    s.biasDone plus minus idle rail = ({ s with bias := { s.bias with running := none } } : State).setReg (0x30C00 + 4 * i)
      (BitVec.ofNat 32 (atBit (Nat.min 0xFFFF (v.1 / 2000).toNat) 16 + atBit (Nat.min 0x3FFF (v.2 / 1000).toNat) 2)) := by
  have spare : s.adcB.spare.isNone = false := by
    cases hx : s.adcB.spare with
    | none => simp [hx] at hs
    | some x => rfl
  unfold State.biasDone
  rw [hr]
  dsimp only
  rw [← hv, hk, if_neg (by unfold usAng at ht; omega), ho, spare, if_neg (by decide), if_pos (.inl rfl), Nat.add_zero]

/-- A copy that is due takes the time and the angles of its cycle. -/
theorem State.snapCopy_words (s : State) (t : Nat) :
    (s.snapCopy t).reg 0x30908 = s.tnow t ∧ ∀ w : Fin 4, (s.snapCopy t).reg (0x30910 + 4 * w.val) = (s.wheels[w]).angleWord t := by
  have all : List.finRange 4 = [0, 1, 2, 3] := by decide
  unfold State.snapCopy
  rw [all]
  simp only [List.foldl_cons, List.foldl_nil]
  constructor
  · rw [State.reg_setReg_other _ _ (by decide), State.reg_setReg_other _ _ (by decide), State.reg_setReg_other _ _ (by decide),
      State.reg_setReg_other _ _ (by decide), State.reg_setReg_same]
  · intro w
    match w with
    | 3 => rw [State.reg_setReg_same]; rfl
    | 2 => rw [State.reg_setReg_other _ _ (by decide), State.reg_setReg_same]; rfl
    | 1 => rw [State.reg_setReg_other _ _ (by decide), State.reg_setReg_other _ _ (by decide), State.reg_setReg_same]; rfl
    | 0 => rw [State.reg_setReg_other _ _ (by decide), State.reg_setReg_other _ _ (by decide), State.reg_setReg_other _ _ (by decide),
        State.reg_setReg_same]; rfl

/-- The one copy that is due when its cycle has passed. -/
theorem State.takeSnaps_one {s : State} {t c : Nat} (h : s.snapAt = [t]) (ht : t < c) :
    s.takeSnaps c = State.snapCopy { s with snapAt := [] } t := by
  have due : [t].filter (fun x => decide (x < c)) = [t] := by simp [ht]
  have left : [t].filter (fun x => decide (c ≤ x)) = [] := by simp [ht]
  unfold State.takeSnaps
  rw [h, due, left]
  rfl

/-- Settles O25: the timed conditions of the wheels, the inputs that stay UNKNOWN, the bias check and the snapshot. -/
theorem wheelConditions : Obligations.WheelConditions := by
  refine ⟨fun w => ?stops, fun w => ?stopped, fun w => ?coasts, fun w => ?dead, fun input => ?tooth, fun input => ?noInput, fun input i => ?rindInput,
    fun i rest => ?check, fun plus minus idle rail i since v => ?good, fun plus minus idle rail => ?noCheck, fun m => ?snap⟩
  case stops =>
    refine .of (fun e => e.wheelTaken (e.standstill w)) (fun _ _ => rfl) fun e _ ⟨hr, hd, hs, hc⟩ => ?_
    have due : (e.running && (e.wheels[w]).stopDue (e.wheelCfg w.val) e.now) = true := by rw [hr, hd]; rfl
    have silent : (e.wheels[w]).stopStep (e.wheelCfg w.val) e.now = (e.wheels[w]).toSilent e.now := by
      unfold WheelSt.stopStep
      rw [hs]
    rw [show e.standstill w = _ from if_pos due, silent]
    obtain ⟨wheels, sram⟩ := State.wheelTaken_moved (w := w) (v := (e.wheels[w]).toSilent e.now)
      (Only.set_power e { e.power with activeAt := if (e.wheels[w]).atRest then e.power.activeAt else e.now }) hc
    generalize State.wheelTaken e _ = t at wheels sram ⊢
    rw [wheels_set_same wheels]
    exact ⟨rfl, rfl, rfl, fun k hk => wheels_set_other wheels hk, sram⟩
  case stopped =>
    refine .of (fun e => e.wheelTaken (e.standstill w)) (fun _ _ => rfl) fun e hr => ?_
    rw [show e.standstill w = (none, e) from if_neg (by simp [hr]), State.wheelTaken, State.fusWheels_stopped hr, State.stepTwo_stopped hr]
    rfl
  case coasts =>
    refine .of (fun e => e.wheelTaken (e.coastEntry w)) (fun _ _ => rfl) fun e _ ⟨hr, hd, hc⟩ => ?_
    have due : (e.running && (e.wheels[w]).coastDue (e.wheelCfg w.val) e.now) = true := by rw [hr, hd]; rfl
    rw [show e.coastEntry w = _ from if_pos due]
    obtain ⟨wheels, sram⟩ := State.wheelTaken_moved (w := w) (v := { e.wheels[w] with sync := .coast, miss := 0, dirPend := false }) (.refl _ e) hc
    generalize State.wheelTaken e _ = t at wheels sram ⊢
    rw [wheels_set_same wheels]
    exact ⟨rfl, rfl, rfl, fun k hk => wheels_set_other wheels hk, sram⟩
  case dead =>
    refine .of (·.wheelDead w) (fun _ _ => rfl) fun e _ ⟨hr, hs, hd, ht, _⟩ => ?_
    have due : (e.running && ((e.wheels[w]).sync == .seek || (e.wheels[w]).sync == .provisional || (e.wheels[w]).sync == .lost) &&
        decide ((e.wheelCfg w.val).deadSec ≠ 0) && decide ((e.wheels[w]).badSince + secAng (e.wheelCfg w.val).deadSec ≤ e.now)) = true := by
      rcases hs with h | h | h <;> rw [hr, h, decide_eq_true hd, decide_eq_true ht] <;> rfl
    have apart : ∀ k : Fin 4, wheelBase k.val + 0x58 ∉ [0xA0058, 0x100068] := by decide
    rw [show e.wheelDead w = _ from if_pos due]
    have only := (State.healthWheel_only (e.orReg (wheelBase w.val + 0x58) 1) w.val).after (e.orReg_only _ _)
    exact ⟨(State.healthWheel_words _ _).bit (e.bit_orReg_same _ _ (by decide) (by decide)) (apart w), only .wheels (by decide), only .outs (by decide),
      only .sram (by decide)⟩
  case tooth =>
    refine .of (·.stuckTaken input) (exec_inputStuckTimeout input) fun e _ ⟨hr, hb, hi, hu, hs, hd, hl, ht⟩ => ?_
    subst hi
    obtain ⟨wheels, bit⟩ := State.toothStuck_due hr hb hu hs hd hl ht
    have sram := e.toothStuck_only 0 false .sram (by decide)
    have fus := State.fusWheels_only e (e.toothStuck 0 false)
    rw [show e.stuckTaken 0 = State.fusWheels e (e.toothStuck 0 false) from if_pos (by decide)]
    have own := wheels_set_same ((fus .wheels (by decide)).trans wheels)
    have word : Words [] (e.toothStuck 0 false) (State.fusWheels e (e.toothStuck 0 false)) := .of fus (by decide)
    have bit' := word.bit bit (by decide)
    have sram' := (fus .sram (by decide)).trans sram
    generalize State.fusWheels e (e.toothStuck 0 false) = t at own bit' sram' ⊢
    rw [own]
    exact ⟨rfl, rfl, bit', sram'⟩
  case noInput =>
    refine .of (·.stuckTaken input) (exec_inputStuckTimeout input) fun e ⟨hr, h⟩ => ?_
    unfold State.stuckTaken
    by_cases hi : input.val < 8
    · have rest (w : Fin 4) (onB : Bool) : e.toothStuck w onB = e := if_neg fun ⟨h, _⟩ => by simp [hr] at h
      rw [if_pos hi, rest, State.fusWheels_stopped hr]
    · have off := h.resolve_left hi
      rw [if_neg hi]
      exact if_neg (by simp [State.rindStuckDue, off])
  case rindInput =>
    refine .of (·.stuckTaken input) (exec_inputStuckTimeout input) fun e _ ⟨h8, hi, hd⟩ => ?_
    rw [show e.stuckTaken input = e.rindStuck i from (if_neg (Nat.not_lt.2 h8)).trans (by rw [hi])]
    obtain ⟨own, others, bit⟩ := State.rindStuck_due hd
    have only := e.rindStuck_only i
    exact ⟨own, others, bit, only .wheels (by decide), only .sram (by decide)⟩
  case check =>
    refine .of State.biasCheck (fun _ _ => rfl) fun e _ ⟨_, hb, hp, ho, hs, ht, hn, hd, hq, hi, hu⟩ => ?_
    rw [State.biasCheck_next hb hp ho hs ht hn hd hq hi hu]
    exact ⟨rfl, rfl, rfl⟩
  case good =>
    exact .of (·.biasDone plus minus idle rail) (fun _ _ => rfl) fun e ⟨hr, ht, ho, hs, hv, hk⟩ => State.biasDone_good hr ht ho hs hv hk
  case noCheck =>
    refine .of (·.biasDone plus minus idle rail) (fun _ _ => rfl) fun e h => ?_
    unfold State.biasDone
    rw [h]
  case snap =>
    refine .of (·.busWrite m 0x30904 1) (fun _ _ => rfl) fun e _ ⟨hr, hl⟩ => ?_
    have asked : e.writePlain m 0x30904 1 = e.snapshot := by
      unfold State.writePlain
      rw [if_neg (by decide), if_neg (by decide), if_neg (by decide), if_neg (by decide), if_neg (by decide)]
      exact if_pos (by decide)
    rw [State.busWrite_plain 1 hr hl (by decide) (by simp [State.blockUp]) (.inr (by decide)), asked]
    refine ⟨rfl, fun hs => ?_⟩
    rw [State.takeSnaps_one (t := e.now + 2) (by simp [State.snapshot, hs]) (Nat.lt_succ_self _)]
    exact State.snapCopy_words _ _

end Sys2Proof.Machine
end

section
/-!
PROOFS. Event queues and outputs: insertion, firing, pulse ends, probes, chops and the dead time (R248 to R285).
-/

namespace Sys2Proof.Machine

section
variable {s : State} {n : Fin 32}

/-! ### Insertion (R251 to R254) -/

theorem State.copyOf_setCopy (s : State) (m : Master) (c : MasterCopy) : (s.setCopy m c).copyOf m = c := by
  cases m <;> rfl

theorem State.setCopy_setCopy (s : State) (m : Master) (c d : MasterCopy) : (s.setCopy m c).setCopy m d = s.setCopy m d := by
  cases m <;> rfl

theorem State.insertCode_setCopy (s : State) (m : Master) (c : MasterCopy) (n : Fin 32) (d : EventDesc) :
    (s.setCopy m c).insertCode n d = s.insertCode n d := by
  cases m <;> rfl

theorem State.keyOf_setCopy (s : State) (m : Master) (c : MasterCopy) (n : Fin 32) : (s.setCopy m c).keyOf n = s.keyOf n := by
  cases m <;> rfl

theorem State.outs_setCopy (s : State) (m : Master) (c : MasterCopy) : (s.setCopy m c).outs = s.outs := s.setCopy_only m c .outs (by decide)

/-- A descriptor that no check refuses stands in its queue. -/
theorem State.insertEvent_accepted {d : EventDesc} (m : Master) (h : s.insertCode (Fin.ofNat 32 d.out) d = 0) :
    s.insertEvent m d = (s.setCopy m { s.copyOf m with insStat := BitVec.ofNat 32 (256 * d.out) }).setOut (Fin.ofNat 32 d.out)
      { s.outs[(Fin.ofNat 32 d.out : Fin 32)] with
        queue := insertByKey (s.keyOf (Fin.ofNat 32 d.out)) d (s.outs[(Fin.ofNat 32 d.out : Fin 32)]).queue } := by
  have stat : 0 + atBit d.out 8 = 256 * d.out := by simp [atBit, Nat.shiftLeft_eq, Nat.mul_comm]
  unfold State.insertEvent
  dsimp only
  rw [h, if_pos rfl, stat, State.outs_setCopy]

theorem State.insertEvent_refused {d : EventDesc} (m : Master) (h : 1 < s.insertCode (Fin.ofNat 32 d.out) d) :
    s.insertEvent m d = ((s.setCopy m { s.copyOf m with
      insStat := BitVec.ofNat 32 (s.insertCode (Fin.ofNat 32 d.out) d + 256 * d.out) }).orReg (evoBase (Fin.ofNat 32 d.out) + 0x14) 16).satInc
        (evoBase (Fin.ofNat 32 d.out) + 0x18) 7 0 := by
  have stat : atBit d.out 8 = 256 * d.out := by simp [atBit, Nat.shiftLeft_eq, Nat.mul_comm]
  unfold State.insertEvent
  dsimp only
  rw [if_neg (by omega), if_neg (by omega), stat]

/-- The fourth word of a master makes the insertion of its four. -/
theorem State.writeInsert_last (s : State) (m : Master) (ctl : Word) :
    s.writeInsert m 3 ctl = (s.setCopy m { s.copyOf m with ins := (s.copyOf m).ins.set 3 ctl }).insertEvent m
      { target := (s.copyOf m).ins.getD 0 0, arg := (s.copyOf m).ins.getD 1 0, rep := (s.copyOf m).ins.getD 2 0, ctl := ctl } := by
  unfold State.writeInsert
  dsimp only
  rw [if_pos rfl]
  simp [List.getD]

theorem State.busWrite_insert (m : Master) (ctl : Word) (hr : s.running = true) (hl : s.life.state ≠ .scrap) :
    s.busWrite m 0x4080C ctl = { s.writeInsert m 3 ctl with busRead := 0, busError := false } :=
  State.busWrite_plain ctl hr hl (by decide) (by simp [State.blockUp]) (.inr (by decide))

theorem State.busWrite_flush (m : Master) (mask : Word) (hr : s.running = true) (hl : s.life.state ≠ .scrap) :
    s.busWrite m 0x40870 mask = { s.flushQueues mask.toNat with busRead := 0, busError := false } :=
  State.busWrite_plain mask hr hl (by decide) (by simp [State.blockUp]) (.inr (by decide))

theorem State.insStat_of_copies {l : List Part} {s t : State} {m : Master} (h : Only l s t) (hl : Part.copyLink ∉ l) (hd : Part.copyDma ∉ l) :
    (t.copyOf m).insStat = (s.copyOf m).insStat := by
  cases m with
  | link => exact congrArg MasterCopy.insStat (h .copyLink hl)
  | dma n => exact congrArg MasterCopy.insStat (h .copyDma hd)

/-! ### Output records -/

theorem State.outs_setOut_same (s : State) (n : Fin 32) (o : OutSt) : (s.setOut n o).outs[n] = o := (s.outs_setOut n n o).trans (if_pos rfl)

theorem State.outs_setOut_other (s : State) {n k : Fin 32} (o : OutSt) (h : k ≠ n) : (s.setOut n o).outs[k] = s.outs[k] :=
  (s.outs_setOut n k o).trans (if_neg h)

/-- An output set and its pair settled: all of it but its logical level. -/
theorem State.settle_setOut (s : State) (n : Fin 32) (o : OutSt) : (((s.setOut n o).settle n).outs[n]).command = o.command :=
  (State.settle_command _ n n).trans (congrArg OutSt.command (s.outs_setOut_same n o))

/-- A flush empties the queues that it names, and no more. -/
theorem State.flushQueues_outs (s : State) (mask : Nat) (k : Fin 32) :
    (s.flushQueues mask).outs[k] = if mask.testBit k.val then { s.outs[k] with queue := [] } else s.outs[k] := by
  have run (l : List (Fin 32)) (s : State) :
      (l.foldl (fun s (n : Fin 32) => if mask.testBit n.val then s.flushQueue n else s) s).outs[k] =
        if k ∈ l ∧ mask.testBit k.val then { s.outs[k] with queue := [] } else s.outs[k] := by
    induction l generalizing s with
    | nil => simp
    | cons n l ih =>
      rw [List.foldl_cons, ih]
      by_cases hn : k = n
      · subst hn
        cases hk : mask.testBit k.val with
        | false => simp
        | true => simp [State.flushQueue]
      · have kept : (if mask.testBit n.val then s.flushQueue n else s).outs[k] = s.outs[k] := by
          split
          · exact s.outs_setOut_other _ hn
          · rfl
        rw [kept]
        simp [hn]
  refine (run _ s).trans ?_
  simp

/-- A pair settled: the levels that the pair forms, and its interlock bit where the interlock acted. -/
theorem State.settlePair_outs (s : State) (k : Fin 16) :
    (s.settlePair k).outs[evenOf k] = (s.outs[evenOf k]).withLevel s.now (s.pairLevels k).1 ∧
      (s.settlePair k).outs[oddOf k] = (s.outs[oddOf k]).withLevel s.now (s.pairLevels k).2.1 ∧
      (∀ n : Fin 32, n ≠ evenOf k → n ≠ oddOf k → (s.settlePair k).outs[n] = s.outs[n]) ∧
      ((s.pairLevels k).2.2 = true → (s.settlePair k).bit 0x40860 k.val = true) ∧
      ((s.pairLevels k).2.2 = false → (s.settlePair k).regs = s.regs) := by
  have apart : evenOf k ≠ oddOf k := fun e => by simp [evenOf, oddOf] at e
  unfold State.settlePair
  extract_lets r e o s1 s2
  have outs : (if r.2.2 then s2.orReg 0x40860 (2 ^ k.val) else s2).outs = s2.outs := by split <;> rfl
  rw [outs]
  refine ⟨?_, ?_, fun n he ho => ?_, fun h => ?_, fun h => ?_⟩
  · exact (s1.outs_setOut_other _ apart).trans (s.outs_setOut_same _ _)
  · refine (s1.outs_setOut_same _ _).trans ?_
    rw [show s1.outs[o] = s.outs[o] from s.outs_setOut_other _ apart.symm]
  · exact (s1.outs_setOut_other _ ho).trans (s.outs_setOut_other _ he)
  · rw [if_pos h]
    exact s2.bit_orReg_same _ _ (by omega) Nat.testBit_two_pow_self
  · rw [if_neg (by simp [r, h])]
    rfl

/-! ### Firing, pulse ends and chops -/

theorem State.pulseEnd_rest (h : s.pulseDue n = false) : s.pulseEnd n = s := if_neg (by simp [h])

/-- The head leaves its queue and fires, by its basis, with a pin action and no repeat. -/
theorem State.testHead_pin {d : EventDesc} {rest : List EventDesc} {lvl : Bool} (hq : (s.outs[n]).queue = d :: rest) (hk : s.dueKind n = 1)
    (hh : (s.outs[n]).headAt ≠ some s.now) (hc : d.count = 0) (hl : d.ldrop = false) (ha : d.action = if lvl then 0 else 1) :
    ∃ o : OutSt, o.queue = rest ∧ o.cmd = lvl ∧ o.pulse = none ∧ o.driven = true ∧ o.pend = (s.outs[n]).pend ∧
      ((s.testHead n).outs[n]).command = o.command ∧ (s.testHead n).reg (evoBase n + 0x3C) = wordOfInt (s.lateness n d) := by
  have head : s.testHead n = (State.fireEvent (s.setOut n { s.outs[n] with queue := rest, headAt := some s.now }) n d 1) := by
    unfold State.testHead
    rw [hq]
    dsimp only
    rw [hk, if_neg (by simpa using hh), if_neg (by simp [hl]), if_neg (by rw [ha]; cases lvl <;> simp), State.repeatEvent, if_pos hc]
  rw [head]
  generalize hu : s.setOut n { s.outs[n] with queue := rest, headAt := some s.now } = u
  have own : u.outs[n] = { s.outs[n] with queue := rest, headAt := some s.now } := hu ▸ s.outs_setOut_same n _
  have late : u.lateness n d = s.lateness n d := hu ▸ rfl
  unfold State.fireEvent
  extract_lets s0 o f s1 p s2 s3
  have plain : s1 = s0 := if_neg (by decide)
  have driven : s2.outs[n] = { s.outs[n] with queue := rest, headAt := some s.now, driven := true } := by
    simp only [s2, p, State.outs_setOut_same, plain]
    exact congrArg (fun o : OutSt => { o with driven := true }) own
  have pins : s3 = s2.pinAction n lvl none := by
    simp only [s3, State.runAction, ha]
    cases lvl <;> rfl
  have word : s2.reg (evoBase n + 0x3C) = wordOfInt (s.lateness n d) := by
    have kept : Only [.outs] s1 s2 := State.setOut_only _ _ _
    have regs : s2.regs = s0.regs := (kept .regs (by decide)).trans (congrArg State.regs plain)
    unfold State.reg
    rw [regs, ← late]
    exact u.reg_setReg_same _ _
  have raised := s3.raise_only (.fire n) (decide (1 = 2 ∨ 1 = 3))
  have apart : evoBase n + 0x3C ∉ [0x40860] := by simp [evoBase]; omega
  refine ⟨{ s2.outs[n] with cmd := lvl, pulse := none, chop := (s2.outs[n]).chop && !decide (s2.fld (evoBase n + 0xC) 6 5 = 1), driven := true },
    by rw [driven], rfl, rfl, rfl, by rw [driven], ?_, ?_⟩
  · rw [show (s3.raise (.fire n) (decide (1 = 2 ∨ 1 = 3))).outs = s3.outs from raised .outs (by decide), pins]
    exact s2.settle_setOut n _
  · have settled : Words [0x40860] s2 s3 := by
      rw [pins]
      exact (Words.of (State.setOut_only _ _ _) (by decide)).trans (State.settlePair_words _ _)
    exact ((Words.of raised (by decide) : Words [] _ _) _ (by simp)).trans ((settled _ apart).trans word)

end

/-- Settles O26: insertion, firing, the ends of pulses, probes and chops, flushes and the dead time. -/
theorem eventsAndOutputs : Obligations.EventsAndOutputs := by
  refine ⟨fun m ctl d => ?inserts, fun m ctl d => ?refuses, fun n d rest => ?sets, fun n d rest => ?clears, fun n => ?nothingDue, fun n => ?ends,
    fun n => ?noEnd, fun n due line spec => ?samples, fun n due line spec => ?early, fun m mask => ?flushes, fun n => ?chopEnds, fun n => ?noChop,
    fun k => ?settles⟩
  case inserts =>
    refine .of (·.busWrite m 0x4080C ctl) (fun _ _ => rfl) fun e _ ⟨hr, hl, hd, hi, hc⟩ => ?_
    rw [State.busWrite_insert m ctl hr hl, State.writeInsert_last, ← hd, State.insertEvent_accepted m (by rw [State.insertCode_setCopy]; exact hc),
      State.outs_setCopy, State.keyOf_setCopy, State.copyOf_setCopy]
    have only := e.setCopy_only m { e.copyOf m with ins := (e.copyOf m).ins.set 3 ctl, insStat := BitVec.ofNat 32 (256 * d.out) }
    have copy := congrArg MasterCopy.insStat
      (e.copyOf_setCopy m { e.copyOf m with ins := (e.copyOf m).ins.set 3 ctl, insStat := BitVec.ofNat 32 (256 * d.out) })
    rw [State.setCopy_setCopy]
    generalize e.setCopy m _ = u at only copy ⊢
    have outs : u.outs = e.outs := only .outs (by decide)
    have put := u.setOut_only (Fin.ofNat 32 d.out) { e.outs[(Fin.ofNat 32 d.out : Fin 32)] with
      queue := insertByKey (e.keyOf (Fin.ofNat 32 d.out)) d (e.outs[(Fin.ofNat 32 d.out : Fin 32)]).queue }
    have own := u.outs_setOut_same (Fin.ofNat 32 d.out) { e.outs[(Fin.ofNat 32 d.out : Fin 32)] with
      queue := insertByKey (e.keyOf (Fin.ofNat 32 d.out)) d (e.outs[(Fin.ofNat 32 d.out : Fin 32)]).queue }
    have others (k : Fin 32) (hk : k ≠ Fin.ofNat 32 d.out) := u.outs_setOut_other { e.outs[(Fin.ofNat 32 d.out : Fin 32)] with
      queue := insertByKey (e.keyOf (Fin.ofNat 32 d.out)) d (e.outs[(Fin.ofNat 32 d.out : Fin 32)]).queue } hk
    generalize u.setOut _ _ = t at put own others ⊢
    exact ⟨congrArg OutSt.queue own, fun k hk => (others k hk).trans (by rw [outs]), (State.insStat_of_copies put (by decide) (by decide)).trans copy,
      (put.after only) .regs (by decide), (put.after only) .sram (by decide)⟩
  case refuses =>
    refine .of (·.busWrite m 0x4080C ctl) (fun _ _ => rfl) fun e _ ⟨hr, hl, hd, hi, hc⟩ => ?_
    rw [State.busWrite_insert m ctl hr hl, State.writeInsert_last, ← hd, State.insertEvent_refused m (by rw [State.insertCode_setCopy]; exact hc),
      State.insertCode_setCopy, State.copyOf_setCopy, State.setCopy_setCopy]
    generalize e.insertCode (Fin.ofNat 32 d.out) d = code
    have only := e.setCopy_only m { e.copyOf m with ins := (e.copyOf m).ins.set 3 ctl, insStat := BitVec.ofNat 32 (code + 256 * d.out) }
    have copy := congrArg MasterCopy.insStat
      (e.copyOf_setCopy m { e.copyOf m with ins := (e.copyOf m).ins.set 3 ctl, insStat := BitVec.ofNat 32 (code + 256 * d.out) })
    generalize e.setCopy m _ = u at only copy ⊢
    generalize evoBase (Fin.ofNat 32 d.out) = b
    have counted := (State.satInc_only (u.orReg (b + 0x14) 16) (b + 0x18) 7 0).after (u.orReg_only _ _)
    have bit := (State.satInc_words (u.orReg (b + 0x14) 16) (b + 0x18) 7 0).bit (u.bit_orReg_same (b + 0x14) 16 (i := 4) (by decide) (by decide)) (by simp)
    generalize (u.orReg _ 16).satInc _ 7 0 = t at counted bit ⊢
    exact ⟨(counted.after only) .outs (by decide), (State.insStat_of_copies counted (by decide) (by decide)).trans copy, bit,
      (counted.after only) .sram (by decide)⟩
  case sets =>
    refine .of (·.whileRunning fun e => e.stepTwo.eventDue n) (fun _ _ => rfl) fun e _ ⟨hr, hs, hp, hh, hq, hk, ha, hc, hl⟩ => ?_
    rw [State.whileRunning_of hr, hs, State.eventDue, State.pulseEnd_rest hp]
    obtain ⟨o, queue, cmd, pulse, driven, pend, out, late⟩ := State.testHead_pin (lvl := true) hq hk hh hc hl ha
    have only := e.testHead_only n
    generalize e.testHead n = t at out late only ⊢
    exact ⟨(congrArg OutSt.queue out :).trans queue, (congrArg OutSt.cmd out :).trans cmd, (congrArg OutSt.pulse out :).trans pulse,
      (congrArg OutSt.driven out :).trans driven, (congrArg OutSt.pend out :).trans pend, late, only .sram (by decide), only .wheels (by decide)⟩
  case clears =>
    refine .of (·.whileRunning fun e => e.stepTwo.eventDue n) (fun _ _ => rfl) fun e _ ⟨hr, hs, hp, hh, hq, hk, ha, hc, hl⟩ => ?_
    rw [State.whileRunning_of hr, hs, State.eventDue, State.pulseEnd_rest hp]
    obtain ⟨o, queue, cmd, -, driven, -, out, -⟩ := State.testHead_pin (lvl := false) hq hk hh hc hl ha
    have only := e.testHead_only n
    generalize e.testHead n = t at out only ⊢
    exact ⟨(congrArg OutSt.queue out :).trans queue, (congrArg OutSt.cmd out :).trans cmd, (congrArg OutSt.driven out :).trans driven,
      only .sram (by decide), only .wheels (by decide)⟩
  case nothingDue =>
    refine .of (·.whileRunning fun e => e.stepTwo.eventDue n) (fun _ _ => rfl) fun e h => ?_
    rcases h with h | ⟨hs, hp, hq⟩
    · exact if_neg (by simp [h])
    · refine State.whileRunning_rest ?_
      rw [hs, State.eventDue, State.pulseEnd_rest hp]
      unfold State.testHead
      rcases hq with hq | hq
      · rw [hq]
      · split
        · rfl
        · exact if_pos (.inl hq)
  case ends =>
    refine .of (·.whileRunning fun e => e.stepTwo.pulseEnd n) (fun _ _ => rfl) fun e _ ⟨hr, hs, hp⟩ => ?_
    rw [State.whileRunning_of hr, hs, State.pulseEnd, if_pos hp]
    have out := e.settle_setOut n { e.outs[n] with cmd := false, pulse := none }
    have only := (State.settle_only _ n).after (e.setOut_only n { e.outs[n] with cmd := false, pulse := none })
    generalize State.settle _ n = t at out only ⊢
    exact ⟨(congrArg OutSt.cmd out :), (congrArg OutSt.pulse out :), (congrArg OutSt.queue out :), (congrArg OutSt.pend out :),
      only .wheels (by decide), only .timers (by decide), only .sram (by decide)⟩
  case noEnd =>
    refine .of (·.whileRunning fun e => e.stepTwo.pulseEnd n) (fun _ _ => rfl) fun e ⟨hs, hp⟩ => State.whileRunning_rest ?_
    rw [hs]
    exact State.pulseEnd_rest hp
  case samples =>
    refine .of (·.whileRunning fun e => e.probeSample n) (fun _ _ => rfl) fun e _ ⟨hr, hs, hd⟩ => ?_
    have found : [(due, line, spec)].find? (fun p => decide (p.1 ≤ e.now)) = some (due, line, spec) := by simp [hd]
    rw [State.whileRunning_of hr, State.probeSample, hs, found]
    dsimp only
    have raised := State.raise_only (e.setOut n { e.outs[n] with samples := [(due, line, spec)].erase (due, line, spec) })
      (.line (Fin.ofNat 16 line)) spec
    have out := (congrArg (fun v : Vector OutSt 32 => v[n]) (raised .outs (by decide)) :).trans (e.outs_setOut_same n _)
    have only := raised.after (e.setOut_only n _)
    generalize State.raise _ _ _ = t at out only ⊢
    exact ⟨(congrArg OutSt.samples out).trans (by simp), (congrArg OutSt.cmd out :), only .wheels (by decide), only .sram (by decide)⟩
  case early =>
    refine .of (·.whileRunning fun e => e.probeSample n) (fun _ _ => rfl) fun e ⟨hs, hd⟩ => State.whileRunning_rest ?_
    have none : [(due, line, spec)].find? (fun p => decide (p.1 ≤ e.now)) = none := by simp [hd]
    unfold State.probeSample
    rw [hs, none]
  case flushes =>
    refine .of (·.busWrite m 0x40870 mask) (fun _ _ => rfl) fun e _ ⟨hr, hl⟩ => ?_
    rw [State.busWrite_flush m mask hr hl]
    refine ⟨fun n => (e.flushQueues_outs mask.toNat n).trans ?_, ?_⟩
    · cases mask.toNat.testBit n.val <;> rfl
    · have only := e.flushQueues_only mask.toNat
      rw [show e.flushQueues mask.toNat = { e with outs := (e.flushQueues mask.toNat).outs } from
        Only.eq only (Only.set_outs e _) fun p hp => by rw [List.mem_singleton.1 hp]; rfl]
  case chopEnds =>
    refine .of (·.whileRunning fun e => e.chopTimedEnd n) (fun _ _ => rfl) fun e _ ⟨hr, hc, hm, ht, ha⟩ => ?_
    rw [State.whileRunning_of hr, show e.chopTimedEnd n = e.endChop n from if_pos ⟨hc, hm, ht, ha⟩]
    have out := e.settle_setOut n { e.outs[n] with chop := false }
    have only := e.endChop_only n
    unfold State.endChop at only ⊢
    generalize State.settle _ n = t at out only ⊢
    exact ⟨(congrArg OutSt.chop out :), (congrArg OutSt.cmd out :), (congrArg OutSt.queue out :), only .wheels (by decide), only .sram (by decide)⟩
  case noChop =>
    refine .of (·.whileRunning fun e => e.chopTimedEnd n) (fun _ _ => rfl) fun e h => State.whileRunning_rest (if_neg fun ⟨hc, _⟩ => ?_)
    rw [h] at hc
    exact Bool.false_ne_true hc
  case settles =>
    refine .of (·.whileRunning fun e => e.deadTimeEnd k) (fun _ _ => rfl) fun e _ hr => ?_
    rw [State.whileRunning_of hr, State.deadTimeEnd]
    obtain ⟨even, odd, others, acted, rest⟩ := e.settlePair_outs k
    exact ⟨by rw [even]; rfl, by rw [odd]; rfl, acted, rest, by rw [even]; rfl, by rw [odd]; rfl, others⟩

end Sys2Proof.Machine
end

section
/-!
PROOFS. The timers: release, wrap, RESET load, matches, captures and the accesses of their latches (R286 to R318).
-/

namespace Sys2Proof.Machine

/-- A run over a list without repetition in which one entry alone makes `P` out of `I`: the entries before it keep `I`, those after it `P`. -/
theorem fold_own {α : Type} {f : State → α → State} {n : α} {I P : State → Prop} (before : ∀ s k, k ≠ n → I s → I (f s k))
    (own : ∀ s, I s → P (f s n)) (after : ∀ s k, k ≠ n → P s → P (f s k)) {l : List α} (hl : l.Nodup) (hn : n ∈ l) {s : State} (h : I s) :
    P (l.foldl f s) := by
  have rest (l : List α) (hl : n ∉ l) (s : State) (h : P s) : P (l.foldl f s) := by
    induction l generalizing s with
    | nil => exact h
    | cons k l ih => exact ih (List.not_mem_of_not_mem_cons hl) (f s k) (after s k (List.ne_of_not_mem_cons hl).symm h)
  induction l generalizing s with
  | nil => exact absurd hn List.not_mem_nil
  | cons k l ih =>
    obtain ⟨hk, hl⟩ := List.nodup_cons.1 hl
    by_cases e : k = n
    · exact rest l (e ▸ hk) _ (e ▸ own s h)
    · exact ih hl ((List.mem_cons.1 hn).resolve_left (Ne.symm e)) (before s k e h)

section
variable {s : State} {n : Fin 16}

theorem State.timers_setTimer_other (s : State) {n k : Fin 16} (t : TimerSt) (h : k ≠ n) : (s.setTimer n t).timers[k] = s.timers[k] :=
  Vector.getElem_set_ne n.isLt k.isLt fun e => h (Fin.ext e.symm)

theorem Only.eq_timers {t : State} (h : Only [.timers] s t) : t = { s with timers := t.timers } :=
  Only.eq h (Only.set_timers s t.timers) fun p hp => by rw [List.mem_singleton.1 hp]; rfl

/-- A run over the timers in which each step touches its own timer alone: what becomes of one timer is what its step makes of it. -/
theorem State.timers_fold {f : State → Fin 16 → State} (other : ∀ (t : State) (k n : Fin 16), n ≠ k → (f t k).timers[n] = t.timers[n])
    (only : ∀ t k, Only [.timers] t (f t k)) (s : State) (n : Fin 16) :
    ∃ t : State, t.timers[n] = s.timers[n] ∧ Only [.timers] s t ∧ ((List.finRange 16).foldl f s).timers[n] = (f t n).timers[n] := by
  refine fold_own (I := fun t : State => t.timers[n] = s.timers[n] ∧ Only [.timers] s t)
    (P := fun u : State => ∃ t : State, t.timers[n] = s.timers[n] ∧ Only [.timers] s t ∧ u.timers[n] = (f t n).timers[n])
    (fun t k hk ⟨h, o⟩ => ⟨(other t k n hk.symm).trans h, o.trans (only t k)⟩) (fun t ⟨h, o⟩ => ⟨t, h, o, rfl⟩)
    (fun t k hk ⟨u, h, o, e⟩ => ⟨u, h, o, (other t k n hk.symm).trans e⟩) (List.nodup_finRange 16) (List.mem_finRange n) ⟨rfl, .refl _ _⟩

/-! ### Release (R292 to R294) -/

/-- TMR_GSTART: the release that it asks of timer `n`. -/
theorem State.gstart_timer (s : State) (m c : Nat) (n : Fin 16) : (s.gstart m c).timers[n] =
    if m.testBit n.val && !(s.timers[n]).run then { s.timers[n] with relDue := some (Nat.min c ((s.timers[n]).relDue.getD c)) } else s.timers[n] := by
  obtain ⟨t, same, only, run⟩ := State.timers_fold (f := fun s (k : Fin 16) =>
    if m.testBit k.val && !(s.timers[k]).run then s.setTimer k { s.timers[k] with relDue := some (Nat.min c ((s.timers[k]).relDue.getD c)) } else s)
    (fun t k n h => by
      dsimp only
      split
      · exact t.timers_setTimer_other _ h
      · rfl)
    (fun t k => .ite (State.setTimer_only _ _ _) (.refl _ _)) s n
  refine Eq.trans run ?_
  dsimp only
  rw [same]
  split
  · exact t.getElem_setTimer_same n _
  · exact same

theorem State.releaseDue_other {k : Fin 16} (s : State) (h : n ≠ k) : (s.releaseDue k).timers[n] = s.timers[n] := by
  unfold State.releaseDue State.releaseTimer
  dsimp only
  split
  · split
    · exact s.timers_setTimer_other _ h
    · exact s.timers_setTimer_other _ h
  · rfl

/-- A named timer at rest runs. -/
theorem State.timerRelease_named {m : Nat} (s : State) (hm : m.testBit n.val = true) (hr : (s.timers[n]).run = false) :
    ((s.timerRelease m).timers[n]).run = true ∧ ((s.timerRelease m).timers[n]).count = s.timerInit n ∧
      ((s.timerRelease m).timers[n]).actA = s.cfg48 (tmrBase n + 0x18) ∧ ((s.timerRelease m).timers[n]).actB = s.cfg48 (tmrBase n + 0x20) ∧
      ((s.timerRelease m).timers[n]).lvl = false ∧ ((s.timerRelease m).timers[n]).acc = 0 := by
  obtain ⟨t, same, only, run⟩ := State.timers_fold (f := fun s (k : Fin 16) => s.releaseDue k) (fun t k n h => t.releaseDue_other h)
    (fun t k => t.releaseDue_only k) (s.gstart m s.now) n
  have asked : t.timers[n] = { s.timers[n] with relDue := some (Nat.min s.now ((s.timers[n]).relDue.getD s.now)) } := by
    rw [same, State.gstart_timer, if_pos (by rw [hm, hr]; rfl)]
  have kept := (only.after (s.gstart_only m s.now)).among (l := [.timers]) (by decide)
  have regs : t.regs = s.regs := kept .regs (by decide)
  have now : t.now = s.now := kept .now (by decide)
  have cfg (a : Nat) : t.cfg48 a = s.cfg48 a := by
    unfold State.cfg48 State.fld State.reg
    rw [regs]
  have due : (t.timers[n]).relDue.any (fun c => decide (c ≤ t.now)) = true := by
    rw [asked, now]
    exact decide_eq_true (Nat.min_le_left _ _)
  have released : t.releaseDue n = t.releaseTimer n := by
    unfold State.releaseDue
    dsimp only
    rw [if_pos due, if_neg (by rw [asked]; exact fun h => Bool.false_ne_true (hr.symm.trans h))]
  have own : (s.timerRelease m).timers[n] = (t.releaseTimer n).timers[n] := Eq.trans run (by rw [released])
  rw [own]
  unfold State.releaseTimer
  rw [State.getElem_setTimer_same]
  exact ⟨rfl, cfg _, cfg _, cfg _, rfl, rfl⟩

/-- One that runs, and of which no release is due, is not touched. -/
theorem State.timerRelease_running (s : State) (m : Nat) (hr : (s.timers[n]).run = true) (hd : (s.timers[n]).relDue = none) :
    (s.timerRelease m).timers[n] = s.timers[n] := by
  obtain ⟨t, same, only, run⟩ := State.timers_fold (f := fun s (k : Fin 16) => s.releaseDue k) (fun t k n h => t.releaseDue_other h)
    (fun t k => t.releaseDue_only k) (s.gstart m s.now) n
  have kept : t.timers[n] = s.timers[n] := by
    rw [same, State.gstart_timer, if_neg (by rw [hr]; simp)]
  have rest : t.releaseDue n = t := if_neg (by rw [kept, hd]; simp)
  exact Eq.trans run (by rw [rest, kept])

/-! ### What a pulse leaves of a timer that runs from CLK_ANG -/

/-- A timer without what a pulse of another can put into it: a count to come, a release, a RESET load and captures that are due. -/
def TimerSt.counts (t : TimerSt) : TimerSt := { t with link := false, relDue := none, rstDue := none, capDue := [], started := false, ntcAt := none }

theorem State.pulseTimer_counts (s : State) {p : Pulse} (hr : s.running = true) (hp : ∀ w, p ≠ .edge w) (k n : Fin 16) :
    ((s.pulseTimer p k).timers[n]).counts = (s.timers[n]).counts := by
  have phase : s.power.phase = .run := by simpa [State.running] using hr
  by_cases hn : n = k
  · subst hn
    unfold State.pulseTimer
    extract_lets b ctrl t src slave m lf next edge late t1 t2 t3 t4
    rw [State.getElem_setTimer_same]
    have noLf : lf = false := by simp [lf, phase]
    have noEdge : edge = false := by simp only [edge]
    have h1 : t1.counts = t.counts := by
      simp only [t1, noLf, noEdge, Bool.false_and, Bool.or_self, Bool.false_eq_true, if_false]
      split <;> rfl
    have h2 : t2.counts = t1.counts := by
      simp only [t2]
      split <;> rfl
    have h3 : t3.counts = t2.counts := by
      simp only [t3]
      split <;> rfl
    have h4 : t4.counts = t3.counts := by
      simp only [t4]
      split <;> rfl
    exact h4.trans (h3.trans (h2.trans h1))
  · exact congrArg TimerSt.counts (s.timers_setTimer_other _ hn)

/-- A pulse of no wheel, in RUN. -/
theorem State.raise_counts (s : State) {p : Pulse} (spec : Bool) (hr : s.running = true) (hp : ∀ w, p ≠ .edge w) (n : Fin 16) :
    ((s.raise p spec).timers[n]).counts = (s.timers[n]).counts := by
  unfold State.raise
  extract_lets s1 s2
  have seqs : Only [.regA, .injA, .regB, .injB] s s1 :=
    ((State.pulseSeq_only _ _ _ _ _).after ((State.pulseSeq_only _ _ _ _ _).after ((State.pulseSeq_only _ _ _ _ _).after
      (s.pulseSeq_only p spec .adcA false)))).among (by decide)
  have timed (l : List (Fin 16)) (u : State) (hu : u.running = true) :
      ((l.foldl (fun s (k : Fin 16) => s.pulseTimer p k) u).timers[n]).counts = (u.timers[n]).counts := by
    induction l generalizing u with
    | nil => rfl
    | cons k l ih =>
      exact (ih (u.pulseTimer p k) (((u.pulseTimer_only p k).running (by decide)).trans hu)).trans (u.pulseTimer_counts hu hp k n)
  have dma : Only [.dma] s2 ((List.finRange 16).foldl (fun s (n : Fin 16) => s.pulseDma p n) s2) := .foldl (fun t k => t.pulseDma_only p k) _ _
  rw [show ((List.finRange 16).foldl (fun s (n : Fin 16) => s.pulseDma p n) s2).timers = s2.timers from dma .timers (by decide)]
  refine (timed _ s1 ((seqs.running (by decide)).trans hr)).trans ?_
  rw [show s1.timers = s.timers from seqs .timers (by decide)]

theorem State.timerFlags_counts (s : State) (n : Fin 16) (m : Nat) : ((s.timerFlags n m).timers[n]).counts = (s.timers[n]).counts := by
  obtain ⟨stamp, frame⟩ := s.timerFlags_frame n m
  rw [frame.timers, State.getElem_setTimer_same]
  rfl

/-- The flags of a timer, with the pulse that goes with them, in RUN. -/
theorem State.flagged_spec (s : State) (n : Fin 16) (m i : Nat) (p : Pulse) (hr : s.running = true) (hp : ∀ w, p ≠ .edge w)
    (hi : i < 32) (hm : m.testBit i = true) :
    (((s.timerFlags n m).raise p false).timers[n]).counts = (s.timers[n]).counts ∧ ((s.timerFlags n m).raise p false).bit (tmrBase n + 0x2C) i = true := by
  have flags := s.timerFlags_only n m
  have raised := (s.timerFlags n m).raise_only p false
  refine ⟨((s.timerFlags n m).raise_counts false ((flags.running (by decide)).trans hr) hp n).trans (s.timerFlags_counts n m), ?_⟩
  refine (Words.of raised (by decide) : Words [] _ _).bit ?_ List.not_mem_nil
  have bit : bitOf (BitVec.ofNat 32 m) i = true := by
    simp only [bitOf, BitVec.toNat_ofNat, Nat.testBit_mod_two_pow, hi, hm, decide_true, Bool.and_self]
  unfold State.bit
  rw [State.reg_timerFlags, bitOf_or, bit, Bool.or_true]

/-! ### A wrap (R291, R295, R297) -/

/-- A count beyond TOP, with none after it. -/
theorem TimerSt.wrap_one (t : TimerSt) (top : Nat) (h : t.owed = 1) :
    (t.wrap top).count = 0 ∧ (t.wrap top).owed = 0 ∧ (t.wrap top).actA = t.pendA.getD t.actA ∧ (t.wrap top).actB = t.pendB.getD t.actB ∧
      (t.wrap top).pendA = none ∧ (t.wrap top).pendB = none := by
  unfold TimerSt.wrap TimerSt.countBy
  rw [h]
  exact ⟨rfl, rfl, rfl, rfl, rfl, rfl⟩

theorem State.wrapStart_plain (s : State) (n : Fin 16) (h : s.cfg.state ≠ .armed) : s.wrapStart n = s.setTimer n ((s.timers[n]).wrap (s.timerTop n)) :=
  if_neg fun ⟨hc, _⟩ => h hc

/-! ### Matches (R286, R296) -/

theorem State.timerMatchA_bit (s : State) (hr : s.running = true) (hn : (s.timers[n]).run = true) (hd : (s.timers[n]).dueA (s.timerTop n) = true) :
    (s.timerMatchA n).bit (tmrBase n + 0x2C) 0 = true := by
  unfold State.timerMatchA
  extract_lets t lvl s1 s2
  rw [if_pos ⟨hn, hd⟩, if_neg fun ⟨h, _⟩ => Bool.false_ne_true (h.symm.trans hr)]
  have put := s.setTimer_only n { t with passA := false, tookA := t.tookA || !t.passA, lvl := lvl }
  exact (State.flagged_spec _ n 1 0 (.matchA n) ((put.running (by decide)).trans hr) (fun _ => Pulse.noConfusion) (by decide) (by decide)).2

theorem State.timerMatchB_spec (s : State) (hr : s.running = true) (hn : (s.timers[n]).run = true) (hd : (s.timers[n]).dueB (s.timerTop n) = true) :
    ((s.timerMatchB n).timers[n]).lvl = false ∧ (s.timerMatchB n).bit (tmrBase n + 0x2C) 1 = true := by
  unfold State.timerMatchB
  extract_lets t s1 s2
  rw [if_pos ⟨hn, hd⟩, if_neg fun ⟨h, _⟩ => Bool.false_ne_true (h.symm.trans hr)]
  have put := s.setTimer_only n { t with passB := false, tookB := t.tookB || !t.passB, lvl := false, bAt := some (s.now, s.lf) }
  obtain ⟨counts, bit⟩ : (s2.timers[n]).counts = _ ∧ s2.bit (tmrBase n + 0x2C) 1 = true :=
    State.flagged_spec _ n 2 1 (.matchB n) ((put.running (by decide)).trans hr) (fun _ => Pulse.noConfusion) (by decide) (by decide)
  rw [State.getElem_setTimer_same] at counts
  clear_value s2
  exact ⟨(congrArg TimerSt.lvl counts :), bit⟩

/-! ### The addresses of a timer's words -/

/-- The compare words of a timer. -/
theorem cmpWords_plain : ∀ n : Fin 16, ∀ w ∈ [0x40, 0x44, 0x48, 0x4C],
    isPlain (tmrBase n + w) = true ∧ linkOnly (tmrBase n + w) = false ∧ (tmrBase n + w) / 0x10000 = 5 ∧ (tmrBase n + w) % 0x80 = w ∧
      Fin.ofNat 16 ((tmrBase n + w - 0x50000) / 0x80) = n ∧ 0x50000 ≤ tmrBase n + w ∧ tmrBase n + w < 0x50800 := by decide

theorem State.busWrite_cmpWord {w : Nat} (hw : w ∈ [0x40, 0x44, 0x48, 0x4C]) (m : Master) (n : Fin 16) (v : Word)
    (hr : s.running = true) (hl : s.life.state ≠ .scrap) :
    s.busWrite m (tmrBase n + w) v = { s.writeTimer m (tmrBase n + w) v with busRead := 0, busError := false } := by
  obtain ⟨plain, open_, block, -, -, low, high⟩ := cmpWords_plain n w hw
  have up : s.blockUp (tmrBase n + w) := by simp [State.blockUp, block]
  have asked : s.writePlain m (tmrBase n + w) v = s.writeTimer m (tmrBase n + w) v := by
    unfold State.writePlain
    rw [if_neg (by omega), if_pos ⟨low, high⟩]
  rw [State.busWrite_plain v hr hl plain up (.inr open_), asked]

theorem State.writeTimer_low (m : Master) (n : Fin 16) (chanB : Bool) (v : Word) :
    s.writeTimer m (tmrBase n + if chanB then 0x4C else 0x44) v = s.compareLow m n chanB v := by
  unfold State.writeTimer
  cases chanB with
  | false =>
    obtain ⟨-, -, -, word, timer, -⟩ := cmpWords_plain n 0x44 (by decide)
    simp only [if_neg Bool.false_ne_true, word, timer]
  | true =>
    obtain ⟨-, -, -, word, timer, -⟩ := cmpWords_plain n 0x4C (by decide)
    simp only [if_pos, word, timer]

theorem State.writeTimer_high (m : Master) (n : Fin 16) (chanB : Bool) (v : Word) :
    s.writeTimer m (tmrBase n + if chanB then 0x48 else 0x40) v = s.compareHigh m v := by
  unfold State.writeTimer
  cases chanB with
  | false =>
    obtain ⟨-, -, -, word, timer, -⟩ := cmpWords_plain n 0x40 (by decide)
    simp only [if_neg Bool.false_ne_true, word]
  | true =>
    obtain ⟨-, -, -, word, timer, -⟩ := cmpWords_plain n 0x48 (by decide)
    simp only [if_pos, word]

theorem countLo_address : ∀ n : Fin 16,
    (tmrBase n + 0x30) / 0x10000 = 5 ∧ inBlocks (tmrBase n + 0x30) = true ∧ inSram (tmrBase n + 0x30) = false ∧
      isStored (tmrBase n + 0x30) = false ∧ latchedRead (tmrBase n + 0x30) = some (n, false, false) := by decide

/-- The low read of COUNT or CAP, by whichever master. -/
theorem State.busRead_low (m : Master) (n : Fin 16) (cap : Bool) (hr : s.running = true) (hl : s.life.state ≠ .scrap) :
    s.busRead' m (tmrBase n + if cap then 0x38 else 0x30) =
      { (s.timerReadLow m n cap).2 with busRead := (s.timerReadLow m n cap).1, busError := false } := by
  have word : s.busReadWord m true (tmrBase n + if cap then 0x38 else 0x30) =
      { next := (s.timerReadLow m n cap).2, word := (s.timerReadLow m n cap).1 } := by
    cases cap with
    | true => exact State.busReadWord_capLo hl m true n
    | false =>
      obtain ⟨block, inBlock, notSram, notStored, latched⟩ := countLo_address n
      have allowed : s.accessFails m true (tmrBase n + 0x30) false = false := by
        simp [State.accessFails, implemented, block, inBlock, notStored, hl]
      rw [if_neg Bool.false_ne_true]
      simp [State.busReadWord, allowed, notSram, notStored, latched]
  rw [State.busRead', if_pos hr, word]
  rfl

/-- A software capture of the timers that a mask names. -/
theorem State.swCapture_timer (s : State) (m : Nat) (n : Fin 16) : (s.swCapture m).timers[n] =
    if m.testBit n.val then { s.timers[n] with capDue := (s.timers[n]).capDue ++ [s.now + 4] } else s.timers[n] := by
  obtain ⟨t, same, only, run⟩ := State.timers_fold (f := fun s (k : Fin 16) =>
    if m.testBit k.val then s.setTimer k { s.timers[k] with capDue := (s.timers[k]).capDue ++ [s.now + 4] } else s)
    (fun t k n h => by
      dsimp only
      split
      · exact t.timers_setTimer_other _ h
      · rfl)
    (fun t k => .ite (State.setTimer_only _ _ _) (.refl _ _)) s n
  refine Eq.trans run ?_
  dsimp only
  rw [same, show t.now = s.now from only .now (by decide)]
  split
  · exact t.getElem_setTimer_same n _
  · exact same

theorem State.busWrite_swcap (m : Master) (mask : BitVec 16) (hr : s.running = true) (hl : s.life.state ≠ .scrap) :
    s.busWrite m 0x50804 (mask.zeroExtend 32) = { s.swCapture mask.toNat with busRead := 0, busError := false } := by
  have asked : s.writePlain m 0x50804 (mask.zeroExtend 32) = s.swCapture (fieldOf (mask.zeroExtend 32) 15 0) := rfl
  rw [State.busWrite_plain _ hr hl (by decide) (by simp [State.blockUp]) (.inr (by decide)), asked, fieldOf_zeroExtend]

theorem State.whileAwake_rest {f : State → State} (h : f s = s) : s.whileAwake f = s := by
  unfold State.whileAwake
  rw [h, ite_self]

end

/-- Settles O27: releases, wraps, RESET loads, matches, captures, and the accesses of the compare words and latches. -/
theorem timers : Obligations.Timers := by
  refine ⟨fun mask n => ?released, fun mask n => ?runs, fun n => ?wraps, fun n => ?noWrap, fun n c => ?loads, fun n => ?noLoad,
    fun n chanB => ?meets, fun n chanB => ?atRest, fun n pin c => ?captures, fun n => ?noCapture, fun m mask n => ?asks,
    fun m n chanB v => ?preloads, fun m n chanB v => ?laps, fun m n chanB v => ?high, fun m n cap => ?reads⟩
  case released =>
    refine .of (·.whileAwake fun e => e.timerRelease mask.toNat) (fun _ _ => rfl) fun e _ ⟨hr, hm, hn⟩ => ?_
    rw [State.whileAwake_of_running hr]
    obtain ⟨run, count, actA, actB, lvl, acc⟩ := e.timerRelease_named hm hn
    exact ⟨run, count, actA, actB, lvl, acc, (e.timerRelease_only _).eq_timers⟩
  case runs =>
    refine .of (·.whileAwake fun e => e.timerRelease mask.toNat) (fun _ _ => rfl) fun e _ ⟨hr, hd⟩ => ?_
    unfold State.whileAwake
    split
    · exact e.timerRelease_running _ hr hd
    · rfl
  case wraps =>
    refine .of (·.whileAwake fun e => if e.wrapDue n then ((e.wrapStart n).stepTwo).wrapEnd n else e) (fun _ _ => rfl)
      fun e _ ⟨hr, hn, ho, hc, _⟩ => ?_
    have due : e.wrapDue n = true := by rw [State.wrapDue, hn, ho]; rfl
    rw [State.whileAwake_of_running hr, if_pos due, e.wrapStart_plain n hc, State.stepTwo_rest (s := e.setTimer n ((e.timers[n]).wrap (e.timerTop n))) (.inl hc), State.wrapEnd]
    have put := e.setTimer_only n ((e.timers[n]).wrap (e.timerTop n))
    obtain ⟨counts, bit⟩ := (e.setTimer n ((e.timers[n]).wrap (e.timerTop n))).flagged_spec n 4 2 (.wrap n) ((put.running (by decide)).trans hr)
      (fun _ => Pulse.noConfusion) (by decide) (by decide)
    rw [State.getElem_setTimer_same] at counts
    obtain ⟨count, owed, actA, actB, pendA, pendB⟩ := (e.timers[n]).wrap_one (e.timerTop n) ho
    have only := (State.wrapEnd_only _ n).after put
    unfold State.wrapEnd at only
    generalize State.raise _ _ _ = t at counts bit only ⊢
    exact ⟨bit, (congrArg TimerSt.count counts :).trans count, (congrArg TimerSt.owed counts :).trans owed,
      (congrArg TimerSt.actA counts :).trans actA, (congrArg TimerSt.actB counts :).trans actB, (congrArg TimerSt.pendA counts :).trans pendA,
      (congrArg TimerSt.pendB counts :).trans pendB, only .wheels (by decide), only .outs (by decide), only .sram (by decide), only .power (by decide)⟩
  case noWrap =>
    refine .of (·.whileAwake fun e => if e.wrapDue n then ((e.wrapStart n).stepTwo).wrapEnd n else e) (fun _ _ => rfl)
      fun e h => State.whileAwake_rest (if_neg ?_)
    unfold State.wrapDue
    rcases h with h | h <;> rw [h] <;> simp
  case loads =>
    refine .of (·.whileAwake fun e => e.timerResetLoad n) (fun _ _ => rfl) fun e _ ⟨hr, hd, hc, hn⟩ => ?_
    have due : e.timerResetLoad n = e.setTimer n _ := (if_pos (by rw [hd]; exact decide_eq_true hc)).trans (if_pos hn)
    rw [State.whileAwake_of_running hr, due, State.getElem_setTimer_same]
    exact ⟨rfl, rfl, rfl, rfl, rfl, fun k hk => e.timers_setTimer_other _ hk, rfl⟩
  case noLoad =>
    refine .of (·.whileAwake fun e => e.timerResetLoad n) (fun _ _ => rfl) fun e h => State.whileAwake_rest (if_neg ?_)
    rw [h]
    exact Bool.false_ne_true
  case meets =>
    refine .of (·.whileAwake fun e => if chanB then e.stepTwo.timerMatchB n else e.stepTwo.timerMatchA n) (fun _ _ => rfl)
      fun e _ ⟨hr, hs, hn, hd⟩ => ?_
    rw [State.whileAwake_of_running hr, hs]
    cases chanB with
    | false =>
      have bit := e.timerMatchA_bit hr hn hd
      have only := e.timerMatchA_only n
      exact ⟨bit, nofun, only .wheels (by decide), only .outs (by decide), only .sram (by decide)⟩
    | true =>
      obtain ⟨lvl, bit⟩ := e.timerMatchB_spec hr hn hd
      have only := e.timerMatchB_only n
      exact ⟨bit, fun _ => lvl, only .wheels (by decide), only .outs (by decide), only .sram (by decide)⟩
  case atRest =>
    refine .of (·.whileAwake fun e => if chanB then e.stepTwo.timerMatchB n else e.stepTwo.timerMatchA n) (fun _ _ => rfl)
      fun e ⟨hs, hn⟩ => State.whileAwake_rest ?_
    have rest (p : Prop) : ¬((e.timers[n]).run = true ∧ p) := fun ⟨h, _⟩ => Bool.false_ne_true (hn.symm.trans h)
    rw [hs]
    split
    · exact if_neg (rest _)
    · exact if_neg (rest _)
  case captures =>
    refine .of (·.whileAwake fun e => e.stepTwo.timerCapture n pin) (fun _ _ => rfl) fun e ⟨hr, hs, hd, hc, hn, hf⟩ => ?_
    rw [State.whileAwake_of_running hr, hs, State.timerCapture_due pin hd hc, if_pos hn, hf]
    rfl
  case noCapture =>
    refine .of (·.whileAwake fun e => e.stepTwo.timerCapture n none) (fun _ _ => rfl) fun e ⟨hs, hd⟩ => State.whileAwake_rest ?_
    rw [hs]
    unfold State.timerCapture
    dsimp only
    rw [hd]
    rfl
  case asks =>
    refine .of (·.busWrite m 0x50804 (mask.zeroExtend 32)) (fun _ _ => rfl) fun e _ ⟨hr, hl, hm⟩ => ?_
    rw [State.busWrite_swcap m mask hr hl]
    have only := (e.swCapture_only mask.toNat).eq_timers
    refine ⟨(e.swCapture_timer _ n).trans (if_pos hm), fun k hk => (e.swCapture_timer _ k).trans (if_neg (by simp [hk])), ?_⟩
    rw [only]
  case preloads =>
    refine .of (·.busWrite m (tmrBase n + if chanB then 0x4C else 0x44) v) (fun _ _ => rfl) fun e _ ⟨hr, hl, hb⟩ => ?_
    rw [State.busWrite_cmpWord (by cases chanB <;> simp) m n v hr hl, State.writeTimer_low]
    exact ⟨rfl, if_pos hb⟩
  case laps =>
    refine .of (·.busWrite m (tmrBase n + if chanB then 0x4C else 0x44) v) (fun _ _ => rfl) fun e _ ⟨hr, hl, hb⟩ => ?_
    rw [State.busWrite_cmpWord (by cases chanB <;> simp) m n v hr hl, State.writeTimer_low]
    exact ⟨rfl, if_neg (by rw [hb]; exact Bool.false_ne_true)⟩
  case high =>
    refine .of (·.busWrite m (tmrBase n + if chanB then 0x48 else 0x40) v) (fun _ _ => rfl) fun e _ ⟨hr, hl⟩ => ?_
    rw [State.busWrite_cmpWord (by cases chanB <;> simp) m n v hr hl, State.writeTimer_high]
    have only := e.setCopy_only m { e.copyOf m with wlatch := fieldOf v 15 0 }
    have copy := congrArg MasterCopy.wlatch (e.copyOf_setCopy m { e.copyOf m with wlatch := fieldOf v 15 0 })
    unfold State.compareHigh
    generalize e.setCopy m _ = t at only copy ⊢
    exact ⟨(by cases m <;> exact copy), only .timers (by decide), only .regs (by decide), only .sram (by decide), only .outs (by decide)⟩
  case reads =>
    refine .of (·.busRead' m (tmrBase n + if cap then 0x38 else 0x30)) (fun _ _ => rfl) fun e _ ⟨hr, hl⟩ => ?_
    rw [State.busRead_low m n cap hr hl]
    cases m <;> cases cap <;> exact ⟨rfl, rfl, rfl, rfl, rfl, rfl⟩

end Sys2Proof.Machine
end

section
/-!
PROOFS. What starts and stops a conversion sequence (O28).
-/

namespace Sys2Proof.Machine

/-! ### The four sequences and the two converters -/

/-- The part of the state that holds a sequence. -/
def seqPart : Conv → Bool → Part
  | .adcA, false => .regA
  | .adcA, true => .injA
  | .adcB, false => .regB
  | .adcB, true => .injB

/-- The part of the state that holds a converter. -/
def adcPart : Conv → Part
  | .adcA => .adcA
  | .adcB => .adcB

section
variable (s : State) (x : Conv) (inj : Bool)

theorem State.seq_setSeq (q : SeqSt) : (s.setSeq x inj q).seq x inj = q := by
  cases x <;> cases inj <;> rfl

theorem State.setSeq_setSeq (q p : SeqSt) : (s.setSeq x inj p).setSeq x inj q = s.setSeq x inj q := by
  cases x <;> cases inj <;> rfl

theorem State.setSeq_seq : s.setSeq x inj (s.seq x inj) = s := by
  cases x <;> cases inj <;> rfl

theorem State.setSeq_own (q : SeqSt) : Only [seqPart x inj] s (s.setSeq x inj q) := by
  cases x <;> cases inj
  · exact .set_regA s q
  · exact .set_injA s q
  · exact .set_regB s q
  · exact .set_injB s q

theorem State.adc_setAdc (a : AdcSt) : (s.setAdc x a).adc x = a := by
  cases x <;> rfl

end

section
variable {s t : State} {l : List Part}

theorem Only.seq (h : Only l s t) {x : Conv} {inj : Bool} (hl : seqPart x inj ∉ l) : t.seq x inj = s.seq x inj := by
  cases x <;> cases inj
  · exact h .regA hl
  · exact h .injA hl
  · exact h .regB hl
  · exact h .injB hl

theorem Only.adc (h : Only l s t) {x : Conv} (hl : adcPart x ∉ l) : t.adc x = s.adc x := by
  cases x
  · exact h .adcA hl
  · exact h .adcB hl

end

/-! ### Flags and pre-emption -/

section
variable (s : State) (x : Conv)

theorem State.seqFlag_words (i : Nat) : Words [aseqBase x + 0xC, aseqBase x + 0x10] s (s.seqFlag x i) := by
  have flag : Words [aseqBase x + 0xC, aseqBase x + 0x10] s (s.orReg (aseqBase x + 0xC) (2 ^ i)) := (s.orReg_words _ _).mono (by simp)
  have count (hi lo : Nat) : Words [aseqBase x + 0xC, aseqBase x + 0x10] s
      ((s.orReg (aseqBase x + 0xC) (2 ^ i)).satInc (aseqBase x + 0x10) hi lo) := (State.satInc_words _ _ _ _).step flag (by simp)
  unfold State.seqFlag
  dsimp only
  split
  · exact count _ _
  · exact count _ _
  · exact count _ _
  · exact count _ _
  · exact flag

theorem State.seqFlag_bit {i : Nat} (hi : i < 32) : (s.seqFlag x i).bit (aseqBase x + 0xC) i = true := by
  have flag : (s.orReg (aseqBase x + 0xC) (2 ^ i)).bit (aseqBase x + 0xC) i = true := s.bit_orReg_same _ _ hi Nat.testBit_two_pow_self
  have count (hi lo : Nat) : ((s.orReg (aseqBase x + 0xC) (2 ^ i)).satInc (aseqBase x + 0x10) hi lo).bit (aseqBase x + 0xC) i = true :=
    (State.satInc_words _ _ _ _).bit flag (by simp)
  unfold State.seqFlag
  dsimp only
  split
  · exact count _ _
  · exact count _ _
  · exact count _ _
  · exact count _ _
  · exact flag

/-- A pre-emption touches no injected sequence. -/
theorem State.preempt_injected (c : Nat) : Only [.regs, .adcA, .adcB, .regA, .regB, .setAt, .setNow] s (s.preempt c x) := by
  have aborts (m : List Conv) : Only [.adcA, .adcB] s (m.foldl (State.abortJobs · c) s) := .foldl (fun s x => s.abortJobs_only c x) m s
  have part : [seqPart x false] ⊆ [.regA, .regB] := by cases x <;> decide
  unfold State.preempt
  dsimp only
  refine .ite ?_ (.refl _ _)
  exact (State.seqFlags_only _ _ _).step (((State.setSeq_own _ _ _ _).mono part).after (aborts _) |>.mono (by decide)) (by decide)

theorem State.members_setSeq (inj : Bool) (q : SeqSt) (y : Conv) (b : Bool) : (s.setSeq x inj q).members y b = s.members y b := by
  cases x <;> cases inj <;> rfl

theorem State.lead_setSeq (inj : Bool) (q : SeqSt) (y : Conv) (b : Bool) : (s.setSeq x inj q).lead y b = s.lead y b := by
  cases x <;> cases inj <;> rfl

/-- No injected sequence of these members runs, so none was accepted in this cycle. -/
theorem State.injSince_of_not_busy (c : Nat) (h : s.injBusy x = false) : s.injSince x c = false := by
  have idle := List.any_eq_false.1 h
  exact List.any_eq_false.2 fun m hm => by simpa using fun run => absurd run (by simpa using idle m hm)

end

/-! ### Triggers (R355 to R360) -/

section
variable (s : State) (x : Conv) (inj : Bool)

/-- The first request of a sequence that stands at entry 0. -/
theorem State.firstRequest_entry (c : Nat) {q : SeqSt} (hp : q.pos = 0) : (s.setSeq x inj q).firstRequest x inj c =
    s.setSeq x inj { q with
      state := .run, pos := 0, held := none
      pend := some { entry := 0, spec := q.spec, pendAt := c + 1 + entryDly (s.entryWord x inj 0), base := some (c + 1) } } := by
  have len : 0 < (s.setSeq x inj q).seqLen x inj := by
    unfold State.seqLen
    split <;> exact Nat.succ_pos _
  have word : (s.setSeq x inj q).entryWord x inj 0 = s.entryWord x inj 0 := by cases x <;> cases inj <;> rfl
  unfold State.firstRequest
  dsimp only
  rw [s.seq_setSeq, hp, if_pos len, word, s.setSeq_setSeq]

/-- The sequence without the triggers of the cycle that it takes. -/
def SeqSt.taken (q : SeqSt) (r : TrigReq) : SeqSt := { q with trig := q.trig.filter (fun u => decide (r.due < u.due)) }

variable {s x inj} {r : TrigReq}

/-- A single trigger is taken off, then accepted where the converters of the sequence are on. -/
theorem State.sequenceTrigger_one (h : s.dueTriggers x inj = [r]) (hm : s.members x inj = [x]) (hf : s.followsA x inj = false) :
    s.sequenceTrigger x inj =
      if s.convOn x = false then s.setSeq x inj ((s.seq x inj).taken r)
      else if inj then (s.setSeq x inj ((s.seq x inj).taken r)).acceptInj x r.due r.spec
      else (s.setSeq x inj ((s.seq x inj).taken r)).acceptReg x r.due r.spec := by
  have members : (s.setSeq x inj ((s.seq x inj).taken r)).members x inj = [x] :=
    (s.members_setSeq _ _ _ _ _).trans hm
  unfold State.sequenceTrigger
  rw [h]
  dsimp only
  rw [hf, hm]
  simp only [List.any_nil, Bool.or_false, Bool.false_or, List.all_cons, List.all_nil, Bool.and_true, Bool.not_eq_true']
  rfl

end

section
variable {s : State} {x : Conv} {c : Nat}

/-- An idle injected sequence begins with entry 0; what it pre-empts touches no injected sequence. -/
theorem State.acceptInj_idle (spec : Bool) (h : (s.seq x true).state = .idle) : (s.acceptInj x c spec).seq x true =
    { s.seq x true with
      spec := spec, passes := 0, since := c, state := .run, pos := 0, held := none
      pend := some { entry := 0, spec := spec, pendAt := c + 1 + entryDly (s.entryWord x true 0), base := some (c + 1) } } := by
  have preempts (l : List Conv) (t : State) : (l.foldl (State.preempt · c) t).seq x true = t.seq x true :=
    Only.seq (.foldl (fun t y => t.preempt_injected y c) l t) (by cases x <;> decide)
  unfold State.acceptInj
  dsimp only
  rw [if_pos h, preempts, s.firstRequest_entry x true c rfl, s.seq_setSeq]

/-- A sequence that runs overruns: its flag and nothing but register words. -/
theorem State.seqFlags_one (hm : s.members x b = [x]) {i : Nat} (hi : i < 32) :
    (s.seqFlags (s.members x b) i).bit (aseqBase x + 0xC) i = true := by
  rw [hm]
  exact s.seqFlag_bit x hi

/-- An idle regular sequence begins a pass with entry 0, none of its members running an injected one. -/
theorem State.acceptReg_idle (spec : Bool) (h : (s.seq x false).state = .idle) (hb : s.injBusy x = false) : s.acceptReg x c spec =
    s.setSeq x false { s.seq x false with
      passes := 0, spec := spec, state := .run, pos := 0, held := none
      pend := some { entry := 0, spec := spec, pendAt := c + 1 + entryDly (s.entryWord x false 0), base := some (c + 1) } } := by
  unfold State.acceptReg
  dsimp only
  rw [h]
  dsimp only
  rw [s.injSince_of_not_busy x c hb, if_neg Bool.false_ne_true, s.firstRequest_entry x false c rfl]

theorem State.acceptReg_overrun (spec : Bool) (h : (s.seq x false).state = .run ∨ (s.seq x false).state = .preempted) :
    s.acceptReg x c spec = s.seqFlags (s.members x false) 0 := by
  unfold State.acceptReg
  dsimp only
  rcases h with h | h <;> rw [h]

theorem State.injBusy_setSeq (s : State) (x y : Conv) (q : SeqSt) : (s.setSeq x false q).injBusy y = s.injBusy y := by
  have injected (z : Conv) : (s.setSeq x false q).seq z true = s.seq z true := by cases x <;> cases z <;> rfl
  simp only [State.injBusy, s.members_setSeq, s.lead_setSeq, injected]

end

/-! ### Software triggers and STOPs (R355, R361) -/

section
variable (s : State)

theorem fieldOf_zeroExtend_low (v : BitVec 4) : fieldOf (v.zeroExtend 32) 3 0 = v.toNat ∧ fieldOf (v.zeroExtend 32) 11 8 = 0 := by
  decide +revert

theorem fieldOf_zeroExtend_shifted (v : BitVec 4) :
    fieldOf ((v.zeroExtend 32) <<< 8) 3 0 = 0 ∧ fieldOf ((v.zeroExtend 32) <<< 8) 11 8 = v.toNat := by
  decide +revert

theorem State.busWrite_swtrig (m : Master) (w : Word) (hr : s.running = true) (hl : s.life.state ≠ .scrap) :
    s.busWrite m 0x81000 w = { s.writeSwtrig w with busRead := 0, busError := false } := by
  have asked : s.writePlain m 0x81000 w = s.writeSwtrig w := rfl
  rw [State.busWrite_plain _ hr hl (by decide) (by simp [State.blockUp]) (.inr (by decide)), asked]

/-- The trigger input of a sequence after its TRIG bit. -/
def SeqSt.asked (q : SeqSt) (c : Nat) : SeqSt := { q with trig := addTrigger { due := c, src := 0, spec := false } q.trig }

/-- A TRIG bit of one sequence is taken where its converters are on, and in ADCB where no pair rules it. -/
def State.triggered (m i : Nat) (x : Conv) (inj : Bool) : SeqSt :=
  if m.testBit i && !s.followsA x inj && (s.members x inj).all s.convOn then (s.seq x inj).asked (s.convCycle + 2) else s.seq x inj

theorem State.ite_setSeq (c : Prop) [Decidable c] (x : Conv) (inj : Bool) (q : SeqSt) :
    (if c then s.setSeq x inj q else s) = s.setSeq x inj (if c then q else s.seq x inj) := by
  split
  · rfl
  · exact (s.setSeq_seq x inj).symm

theorem State.softwareTrigger_eq (m : Nat) : s.softwareTrigger m = { s with
    regA := s.triggered m 0 .adcA false, injA := s.triggered m 1 .adcA true,
    regB := s.triggered m 2 .adcB false, injB := s.triggered m 3 .adcB true } := by
  unfold State.softwareTrigger
  dsimp only
  simp only [State.ite_setSeq]
  rfl

theorem State.stopSeqs_eq (m : Nat) : s.stopSeqs m =
    { s with
      regA := if m.testBit 0 then { s.regA with stops := s.regA.stops ++ [s.convCycle + 2] } else s.regA
      injA := if m.testBit 1 then { s.injA with stops := s.injA.stops ++ [s.convCycle + 2] } else s.injA
      regB := if m.testBit 2 then { s.regB with stops := s.regB.stops ++ [s.convCycle + 2] } else s.regB
      injB := if m.testBit 3 then { s.injB with stops := s.injB.stops ++ [s.convCycle + 2] } else s.injB } := by
  unfold State.stopSeqs
  dsimp only
  simp only [State.ite_setSeq]
  rfl

/-- ADCA follows no other converter. -/
theorem State.triggered_adcA (m i : Nat) (inj : Bool) : s.triggered m i .adcA inj =
    if m.testBit i && (s.members .adcA inj).all s.convOn then (s.seq .adcA inj).asked (s.convCycle + 2) else s.seq .adcA inj := by
  have leads : s.followsA .adcA inj = false := rfl
  rw [State.triggered, leads, Bool.not_false, Bool.and_true]

theorem State.softwareTrigger_none : s.softwareTrigger 0 = s := by
  simp [State.softwareTrigger]

theorem State.stopSeqs_none : s.stopSeqs 0 = s := by
  simp [State.stopSeqs]

end

section
variable {s : State} {x : Conv} {c : Nat}

/-- No trigger waits that would be accepted before a STOP. -/
theorem State.acceptBy_none {inj : Bool} (h : s.dueTriggers x inj = []) : s.acceptBy x inj c = s :=
  foldl_fixed fun _ => if_neg (by rw [h]; exact Bool.false_ne_true)

/-- A STOP whose cycle has come takes a running regular sequence to IDLE, its trigger input and passes kept. -/
theorem State.dueStops_one (hs : (s.seq x false).stops = [c]) (hc : c ≤ s.convCycle) (hd : s.dueTriggers x false = [])
    (hf : s.followsA x false = false) (hi : (s.seq x false).state ≠ .idle) : s.dueStops x false =
      s.setSeq x false { trig := (s.seq x false).trig, passes := (s.seq x false).passes, reqs := (s.seq x false).reqs, reqAt := (s.seq x false).reqAt } := by
  have none : [c].filter (fun d => decide (s.convCycle < d)) = [] := by simp [hc]
  have one : [c].filter (fun d => decide (d ≤ s.convCycle)) = [c] := by simp [hc]
  have lead : s.lead x false = x := by rw [State.lead, hf]; rfl
  have took := s.seq_setSeq x false { s.seq x false with stops := [] }
  have due : (s.setSeq x false { s.seq x false with stops := [] }).dueTriggers x false = [] := by cases x <;> exact hd
  have leads := (s.lead_setSeq x false { s.seq x false with stops := [] } x false).trans lead
  have running : ((s.setSeq x false { s.seq x false with stops := [] }).seq x false).state ≠ .idle := by rw [took]; exact hi
  unfold State.dueStops
  dsimp only
  rw [hs, none, one, List.foldl_cons, List.foldl_nil, leads, State.acceptBy_none due, State.stopSeq, leads, if_neg running,
    if_neg Bool.false_ne_true, State.idleSeq, took, s.setSeq_setSeq]

end

/-- Settles O28: triggers taken, refused and overrun, software triggers and STOPs. -/
theorem sequenceControl : Obligations.SequenceControl := by
  refine ⟨fun x inj => ?idle, fun x inj r => ?dropped, fun x r => ?injStarts, fun x r => ?injOverruns, fun x r => ?regStarts,
    fun x r => ?regOverruns, fun m mask => ?software, fun m mask => ?stop, fun e x c => ?stopActs, fun e x inj => ?noStop⟩
  case idle =>
    refine .of (·.whileRunning fun e => e.sequenceTrigger x inj) (fun _ _ => rfl) fun e h => ?_
    rcases h with h | h
    · exact if_neg (by simp [h])
    · refine State.whileRunning_rest ?_
      unfold State.sequenceTrigger
      rw [h]
  case dropped =>
    refine .of (·.whileRunning fun e => e.sequenceTrigger x inj) (fun _ _ => rfl) fun e ⟨hr, hd, hm, hf, ho⟩ => ?_
    rw [State.whileRunning_of hr, State.sequenceTrigger_one hd hm hf, if_pos ho]
    rfl
  case injStarts =>
    refine .of (·.whileRunning fun e => e.sequenceTrigger x true) (fun _ _ => rfl) fun e _ ⟨hr, hd, hm, hf, ho, hi⟩ => ?_
    rw [State.whileRunning_of hr, State.sequenceTrigger_one hd hm hf, if_neg (by simp [ho]), if_pos rfl]
    have word : (e.setSeq x true ((e.seq x true).taken r)).entryWord x true 0 = e.entryWord x true 0 := by cases x <;> rfl
    have took := (e.seq_setSeq x true ((e.seq x true).taken r))
    have seq := State.acceptInj_idle (c := r.due) r.spec ((congrArg SeqSt.state took).trans hi)
    rw [took, word] at seq
    have only := (State.acceptInj_only _ x r.due r.spec).after (e.setSeq_only x true ((e.seq x true).taken r))
    rw [seq]
    exact ⟨rfl, rfl, rfl, rfl, rfl, only .wheels (by decide), only .outs (by decide), only .sram (by decide)⟩
  case injOverruns =>
    refine .of (·.whileRunning fun e => e.sequenceTrigger x true) (fun _ _ => rfl) fun e _ ⟨hr, hd, hm, hf, ho, hi⟩ => ?_
    rw [State.whileRunning_of hr, State.sequenceTrigger_one hd hm hf, if_neg (by simp [ho]), if_pos rfl]
    have took := (e.seq_setSeq x true ((e.seq x true).taken r))
    have put := e.setSeq_own x true ((e.seq x true).taken r)
    have members := (e.members_setSeq x true ((e.seq x true).taken r) x true).trans hm
    generalize e.setSeq x true ((e.seq x true).taken r) = t at took put members ⊢
    have overruns : t.acceptInj x r.due r.spec = t.seqFlags (t.members x true) 1 := if_neg (by rw [took]; exact hi)
    have flags := t.seqFlags_only (t.members x true) 1
    rw [overruns]
    exact ⟨(flags.seq (by cases x <;> decide)).trans took, State.seqFlags_one members (by decide),
      (flags.after put).seq (by cases x <;> decide), (flags.after put).adc (by cases x <;> decide), (flags.after put) .sram (by cases x <;> decide)⟩
  case regStarts =>
    refine .of (·.whileRunning fun e => e.sequenceTrigger x false) (fun _ _ => rfl) fun e ⟨hr, hd, hm, hf, ho, hi, hb⟩ => ?_
    rw [State.whileRunning_of hr, State.sequenceTrigger_one hd hm hf, if_neg (by simp [ho]), if_neg Bool.false_ne_true]
    have word : (e.setSeq x false ((e.seq x false).taken r)).entryWord x false 0 = e.entryWord x false 0 := by cases x <;> rfl
    have took := e.seq_setSeq x false ((e.seq x false).taken r)
    rw [State.acceptReg_idle r.spec ((congrArg SeqSt.state took).trans hi) ((e.injBusy_setSeq x x _).trans hb), took, word, e.setSeq_setSeq]
    rfl
  case regOverruns =>
    refine .of (·.whileRunning fun e => e.sequenceTrigger x false) (fun _ _ => rfl) fun e _ ⟨hr, hd, hm, hf, ho, hs⟩ => ?_
    rw [State.whileRunning_of hr, State.sequenceTrigger_one hd hm hf, if_neg (by simp [ho]), if_neg Bool.false_ne_true]
    have took := e.seq_setSeq x false ((e.seq x false).taken r)
    have put := e.setSeq_own x false ((e.seq x false).taken r)
    have members := (e.members_setSeq x false ((e.seq x false).taken r) x false).trans hm
    generalize e.setSeq x false ((e.seq x false).taken r) = t at took put members ⊢
    rw [State.acceptReg_overrun r.spec (by rw [took]; exact hs)]
    have flags := t.seqFlags_only (t.members x false) 0
    exact ⟨(flags.seq (by cases x <;> decide)).trans took, State.seqFlags_one members (by decide),
      (flags.after put).seq (by cases x <;> decide), (flags.after put).adc (by cases x <;> decide), (flags.after put) .sram (by cases x <;> decide)⟩
  case software =>
    refine .of (·.busWrite m 0x81000 (mask.zeroExtend 32)) (fun _ _ => rfl) fun e _ ⟨hr, hl⟩ => ?_
    obtain ⟨low, high⟩ := fieldOf_zeroExtend_low mask
    rw [e.busWrite_swtrig m _ hr hl, State.writeSwtrig, low, high, State.stopSeqs_none, State.softwareTrigger_eq]
    exact ⟨e.triggered_adcA _ _ _, e.triggered_adcA _ _ _, rfl, rfl, rfl⟩
  case stop =>
    refine .of (·.busWrite m 0x81000 ((mask.zeroExtend 32) <<< 8)) (fun _ _ => rfl) fun e ⟨hr, hl⟩ => ?_
    obtain ⟨low, high⟩ := fieldOf_zeroExtend_shifted mask
    rw [e.busWrite_swtrig m _ hr hl, State.writeSwtrig, low, high, State.softwareTrigger_none, State.stopSeqs_eq]
  case stopActs =>
    intro hs hc hd hf hi
    exact State.dueStops_one hs hc hd hf hi
  case noStop =>
    intro later
    have none : (e.seq x inj).stops.filter (fun c => decide (c ≤ e.convCycle)) = [] :=
      List.filter_eq_nil_iff.2 fun c hc => by simpa using later c hc
    have all : (e.seq x inj).stops.filter (fun c => decide (e.convCycle < c)) = (e.seq x inj).stops :=
      List.filter_eq_self.2 fun c hc => by simpa using later c hc
    unfold State.dueStops
    dsimp only
    rw [none, all]
    exact e.setSeq_seq x inj

end Sys2Proof.Machine
end

section
/-!
PROOFS. Conversions start and end (O29).
-/

namespace Sys2Proof.Machine

/-! ### The word of a result (Table Seq.5) -/

section
variable {n k v : Nat} (x sp o : Bool)

/-- A result word from SAMPLE, the slice, XCHK, SPEC, OVR and DATA. -/
def packedResult (n k v : Nat) (x sp o : Bool) : Word :=
  BitVec.ofNat 32 (atBit n 24 + atBit k 20 + atBit (b2n x) 19 + atBit 1 18 + atBit (b2n sp) 17 + atBit (b2n o) 16 + v)

theorem b2n_le (b : Bool) : b2n b ≤ 1 := by cases b <;> decide

theorem testBit_of_b2n {w i : Nat} {b : Bool} (h : w / 2 ^ i % 2 = b2n b) : w.testBit i = b := by
  rw [Nat.testBit_eq_decide_div_mod_eq, h]
  cases b <;> rfl

theorem packedResult_toNat (hn : n < 256) (hk : k < 16) (hv : v < 65536) : (packedResult n k v x sp o).toNat =
    n * 16777216 + k * 1048576 + b2n x * 524288 + 262144 + b2n sp * 131072 + b2n o * 65536 + v := by
  have hx := b2n_le x
  have hsp := b2n_le sp
  have ho := b2n_le o
  simp only [packedResult, BitVec.toNat_ofNat, atBit, Nat.shiftLeft_eq]
  omega

theorem packedResult_fields (hn : n < 256) (hk : k < 16) (hv : v < 65536) :
    fieldOf (packedResult n k v x sp o) 15 0 = v ∧ fieldOf (packedResult n k v x sp o) 23 20 = k ∧ fieldOf (packedResult n k v x sp o) 31 24 = n := by
  have hx := b2n_le x
  have hsp := b2n_le sp
  have ho := b2n_le o
  simp only [fieldOf, fieldNat, packedResult_toNat x sp o hn hk hv, Nat.shiftRight_eq_div_pow]
  omega

theorem packedResult_bits (hn : n < 256) (hk : k < 16) (hv : v < 65536) :
    bitOf (packedResult n k v x sp o) 16 = o ∧ bitOf (packedResult n k v x sp o) 17 = sp ∧ bitOf (packedResult n k v x sp o) 18 = true ∧
      bitOf (packedResult n k v x sp o) 19 = x := by
  have hx := b2n_le x
  have hsp := b2n_le sp
  have ho := b2n_le o
  have word := packedResult_toNat x sp o hn hk hv
  simp only [bitOf, word]
  refine ⟨testBit_of_b2n ?_, testBit_of_b2n ?_, testBit_of_b2n ?_, testBit_of_b2n ?_⟩
  · omega
  · omega
  · rw [show b2n true = 1 from rfl]
    omega
  · omega

end

/-! ### A conversion begins (R320, R358) -/

section
variable {s : State} {x : Conv} {inj : Bool} {r : SeqReq} {k : Fin 9}

/-- The conversion that a slice begins in the present cycle. -/
def State.newJob (s : State) (x : Conv) (inj : Bool) (r : SeqReq) (k : Fin 9) (w : Word) : ConvJob :=
  { slice := k, inj := inj, req := r, word := w, start := s.convCycle
    chan := s.reg (adcBase x + 0x200 + 8 * fieldOf w 5 0), trim := s.reg (adcBase x + 0x200 + 8 * fieldOf w 5 0 + 4)
    sofs := ((s.adc x).slices[k]).sofs, sgain := ((s.adc x).slices[k]).sgain, xchk := false }

/-- The request that starts: its entry's words are taken. -/
def State.started (s : State) (x : Conv) (inj : Bool) (r : SeqReq) : SeqReq :=
  { r with word := some (s.entryWord x inj r.entry), wordB := some (r.wordB.getD (s.entryWord .adcB inj r.entry)), base := none, waits := false }

theorem State.advance_only (s : State) (x : Conv) (inj : Bool) (r : SeqReq) (c : Nat) :
    Only [.regA, .injA, .regB, .injB] s (if inj then s.advanceInj x r c else s.advanceReg x r c) :=
  .ite (s.advanceInj_only x r c) (s.advanceReg_only x r c)

theorem State.startOn_given (r : SeqReq) (w : Word) (ha : (s.adc x).allocate s.convCycle = some k) :
    s.startOn s.convCycle inj r x w false = s.setAdc x { s.adc x with last := k, jobs := (s.adc x).jobs ++ [s.newJob x inj r k w] } := by
  unfold State.startOn
  dsimp only
  rw [ha]
  rfl

/-- The request of a single live converter that falls due starts there; beside that the sequence goes on. -/
theorem State.startPending_due (hq : (s.seq x inj).state = .run) (hp : (s.seq x inj).pend = some r) (hd : r.pendAt = s.convCycle)
    (hw : r.word = none) (hr : r.entry < s.seqLen x inj) (hm : s.members x inj = [x]) (hf : s.followsA x inj = false)
    (ho : s.convOn x = true) (hl : (s.adc x).dead = false) (ha : (s.adc x).allocate s.convCycle = some k) :
    Only [.regA, .injA, .regB, .injB] (s.startOn s.convCycle inj (s.started x inj r) x (s.entryWord x inj r.entry) false)
      (s.startPending x inj) := by
  have live : [x].filter (fun y => !(s.adc y).dead) = [x] := by simp [hl]
  have free : [x].all (fun y => ((s.adc y).allocate s.convCycle).isSome) = true := by simp [ha]
  have on : [x].all s.convOn = true := by simp [ho]
  have inside : ¬ s.seqLen x inj ≤ r.entry := Nat.not_le.2 hr
  have onTime : ¬ s.convCycle < r.pendAt := hd ▸ Nat.lt_irrefl _
  have notLate : ¬ r.pendAt < s.convCycle := hd ▸ Nat.lt_irrefl _
  unfold State.startPending
  dsimp only
  rw [hp]
  dsimp only
  rw [hm, live]
  simp only [List.isEmpty_cons, Bool.false_eq_true, if_false, hf, hq, onTime, on, free, ne_eq, not_true_eq_false, decide_false, Bool.not_true,
    Bool.or_false, hw, Option.isNone_none, Bool.true_and, inside, Option.getD_none, notLate, List.foldl_cons, List.foldl_nil, if_true,
    List.length_singleton, Nat.reduceEqDiff, Bool.false_and]
  exact (State.advance_only _ x inj _ _).step (State.setSeq_only _ x inj _) (List.Subset.refl _)

theorem State.startPending_none (h : (s.seq x inj).pend = none) : s.startPending x inj = s := by
  unfold State.startPending
  dsimp only
  rw [h]

theorem State.startPending_later (hp : (s.seq x inj).pend = some r) (hd : s.convCycle < r.pendAt) : s.startPending x inj = s := by
  unfold State.startPending
  dsimp only
  rw [hp]
  exact if_pos (by simp [hd])

/-- With no rotation step and no trigger due, a start is that of the pending request. -/
theorem State.conversionStart_quiet (hr : (s.members x inj).foldl State.rotate s = s) (hd : s.dueTriggers x inj = []) :
    s.conversionStart x inj = s.startPending x inj := by
  have quiet : s.sequenceTrigger x inj = s := by
    unfold State.sequenceTrigger
    rw [hd]
  rw [State.conversionStart, hr, quiet]

end

/-! ### A conversion ends (R321, R362) -/

section
variable {s : State} {x : Conv} {k : Fin 9} {j : ConvJob}

theorem wrapInt_lt (v : Int) : wrapInt 16 v < 65536 := by
  unfold wrapInt
  omega

theorem correct_data_lt (raw : Nat) (sofs sgain : Int) (chan trim : Word) (excess : Bool) : (correct raw sofs sgain chan trim excess).data < 65536 := by
  unfold correct
  dsimp only
  split
  · exact wrapInt_lt _
  · exact wrapInt_lt _

/-- The state once the word of a result is written. -/
def State.resulted (s : State) (x : Conv) (j : ConvJob) (r : ConvResult) (xchk : Bool) : State :=
  (s.noteSet (resultAddr x j.inj j.req.entry) 0x40000).setReg (resultAddr x j.inj j.req.entry)
    (packedResult ((s.fld (resultAddr x j.inj j.req.entry) 31 24 + 1) % 256) j.slice.val (r.data % 65536) xchk j.req.spec r.ovr)

/-- A result without a DMA request: its word, and over an unread one the flag. -/
theorem State.writeResult_plain (r : ConvResult) (xchk : Bool) (hd : bitOf j.word 7 = false) : s.writeResult x j r xchk =
    if s.bit (resultAddr x j.inj j.req.entry) 18 = true then (s.resulted x j r xchk).seqFlag x (if j.inj then 3 else 2)
    else s.resulted x j r xchk := by
  unfold State.writeResult
  dsimp only
  rw [hd, if_neg Bool.false_ne_true]
  rfl

theorem resultAddr_not_flag (x : Conv) (inj : Bool) (i : Nat) : resultAddr x inj i ∉ [aseqBase x + 0xC, aseqBase x + 0x10] := by
  unfold resultAddr
  simp only [List.mem_cons, List.not_mem_nil, or_false, not_or]
  split <;> omega

/-- What a result without a DMA request leaves in the registers: its word, and over an unread one the flag. -/
theorem State.writeResult_spec (r : ConvResult) (xchk : Bool) (hd : bitOf j.word 7 = false) :
    (s.writeResult x j r xchk).reg (resultAddr x j.inj j.req.entry) =
        packedResult ((s.fld (resultAddr x j.inj j.req.entry) 31 24 + 1) % 256) j.slice.val (r.data % 65536) xchk j.req.spec r.ovr ∧
      (s.bit (resultAddr x j.inj j.req.entry) 18 = true → (s.writeResult x j r xchk).bit (aseqBase x + 0xC) (if j.inj then 3 else 2) = true) ∧
      Only [.regs, .setAt, .setNow] s (s.writeResult x j r xchk) := by
  have word : (s.resulted x j r xchk).reg (resultAddr x j.inj j.req.entry) = _ := State.reg_setReg_same _ _ _
  have only : Only [.regs, .setAt, .setNow] s (s.resulted x j r xchk) :=
    ((State.noteSet_only _ _ _).after (.refl [.regs] _)).mono (by decide) |>.trans ((Only.set_regs _ _).mono (by decide))
  rw [State.writeResult_plain r xchk hd]
  split
  next unread =>
    refine ⟨((State.seqFlag_words _ x _) _ (resultAddr_not_flag x _ _)).trans word, fun _ => State.seqFlag_bit _ x (by split <;> decide), ?_⟩
    exact only.trans (State.seqFlag_only _ x _)
  next read => exact ⟨word, fun unread => absurd unread read, only⟩

/-- A conversion that is no half of a cross-check ends alone. -/
theorem State.finishJob_alone (r : ConvResult) (other : ConvJob → ConvResult) (hx : j.xchk = false) :
    s.finishJob x j r other = (s.removeJob x j).writeResult x j r false := by
  have alone : s.partnerJob x j = none := if_neg (by rw [hx]; exact Bool.false_ne_true)
  unfold State.finishJob
  rw [alone]

/-- A conversion that ends alone: its result register, the flag of an overwritten one, the converter without it. -/
theorem State.finishJob_spec (r : ConvResult) (other : ConvJob → ConvResult) (hx : j.xchk = false) (hd : bitOf j.word 7 = false) :
    (s.finishJob x j r other).reg (resultAddr x j.inj j.req.entry) =
        packedResult ((s.fld (resultAddr x j.inj j.req.entry) 31 24 + 1) % 256) j.slice.val (r.data % 65536) false j.req.spec r.ovr ∧
      (s.bit (resultAddr x j.inj j.req.entry) 18 = true → (s.finishJob x j r other).bit (aseqBase x + 0xC) (if j.inj then 3 else 2) = true) ∧
      (s.finishJob x j r other).adc x = { s.adc x with jobs := (s.adc x).jobs.erase j } ∧
      Only [.regs, .adcA, .adcB, .setAt, .setNow] s (s.finishJob x j r other) := by
  have gone := State.removeJob_only s x j
  have left : (s.removeJob x j).adc x = { s.adc x with jobs := (s.adc x).jobs.erase j } := s.adc_setAdc x _
  have same (a : Nat) : (s.removeJob x j).reg a = s.reg a := congrArg (Sparse.get resetWord · a) (gone .regs (by decide))
  obtain ⟨word, flag, only⟩ := State.writeResult_spec (s := s.removeJob x j) (x := x) r false hd
  simp only [State.fld, State.bit, same] at word flag ⊢
  rw [State.finishJob_alone r other hx]
  exact ⟨word, flag, (only.adc (by cases x <;> decide)).trans left, (only.after gone).mono (by decide)⟩

end

/-! ### A slice whose decision timed out (R341, R346) -/

section
variable {s : State} {x : Conv} {k p : Fin 9}

theorem clearBit_testBit (m i : Nat) : (clearBit m i).testBit i = false := by
  unfold clearBit
  split
  next set =>
    have odd : m / 2 ^ i % 2 = 1 := by simpa [Nat.testBit_eq_decide_div_mod_eq] using set
    have less : (m - 2 ^ i) / 2 ^ i = m / 2 ^ i - 1 := by simpa using Nat.sub_mul_div m (2 ^ i) 1
    rw [Nat.testBit_eq_decide_div_mod_eq, less]
    exact decide_eq_false (by omega)
  next clear => exact Bool.eq_false_iff.2 clear

theorem swapped_testBit (m : Nat) (h : p ≠ k) :
    (setBit (clearBit m k.val) p.val).testBit k.val = false ∧ (setBit (clearBit m k.val) p.val).testBit p.val = true := by
  simp only [setBit, Nat.testBit_or, clearBit_testBit, Nat.testBit_two_pow, Bool.false_or, decide_true, Bool.or_true, and_true]
  exact decide_eq_false fun e => h (Fin.ext e)

/-- The spare takes the place of the failing slice, which is the spare from now on, with one failed pass more. -/
theorem State.timeoutSwap_spare (hp : (s.adc x).spare = some p) (hk : p ≠ k) (hf : ((s.adc x).slices[k]).fails < 2) :
    (s.timeoutSwap x k).adc x =
        { (s.adc x).setSlice k { (s.adc x).slices[k] with fails := ((s.adc x).slices[k]).fails + 1, cause := 6 } with
          active := setBit (clearBit (s.adc x).active k.val) p.val, spare := some k, outgoing := none, passRun := true, passOk := false } ∧
      Only [.adcA, .adcB, .cfg, .bias] s (s.timeoutSwap x k) := by
  have duties (a : AdcSt) : ((s.setAdc x a).restartDuties x).adc x = a :=
    ((State.restartDuties_only _ x).adc (by cases x <;> decide)).trans (s.adc_setAdc x a)
  have count : Nat.min 3 (((s.adc x).slices[k]).fails + 1) = ((s.adc x).slices[k]).fails + 1 := Nat.min_eq_right (by omega)
  unfold State.timeoutSwap
  dsimp only
  rw [hp]
  dsimp only
  rw [if_neg hk, State.failPass, duties]
  dsimp only
  rw [count, if_neg (by omega)]
  refine ⟨State.adc_setAdc _ x _, ?_⟩
  exact ((State.setAdc_only _ x _).after ((State.restartDuties_only _ x).after (s.setAdc_only x _))).mono (by decide)

end

/-- Settles O29: conversions start, end and time out. -/
theorem conversions : Obligations.Conversions := by
  refine ⟨fun x inj r k => ?starts, fun x inj => ?noRequest, fun x inj r => ?later, fun x k raw excess rawP excessP j => ?ends,
    fun x k raw excess rawP excessP => ?noJob, fun x k raw excess rawP excessP j => ?early, fun x k rawP excessP j p => ?timesOut⟩
  case starts =>
    refine .of (·.whileRunning fun e => e.conversionStart x inj) (fun _ _ => rfl)
      fun e _ ⟨hrot, htr, hq, hp, hd, hw, hlen, hm, hf, ho, hl, ha⟩ => ?_
    have run : e.running = true := by
      simp only [State.convOn, Bool.and_eq_true] at ho
      exact ho.1.1
    rw [State.whileRunning_of run, State.conversionStart_quiet hrot htr]
    have begun := State.startPending_due hq hp hd hw hlen hm hf ho hl ha
    rw [State.startOn_given _ _ ha] at begun
    have adc := (begun.adc (x := x) (by cases x <;> decide)).trans (e.adc_setAdc x _)
    have only := begun.after (e.setAdc_only x _)
    rw [adc]
    exact ⟨rfl, only .regs (by decide), only .sram (by decide), rfl, rfl, rfl, _, rfl, rfl, rfl, rfl, rfl, rfl, rfl, rfl,
      congrArg e.reg (by omega), rfl, rfl, rfl⟩
  case noRequest =>
    refine .of (·.whileRunning fun e => e.conversionStart x inj) (fun _ _ => rfl) fun e ⟨hrot, htr, hp⟩ => ?_
    exact State.whileRunning_rest ((State.conversionStart_quiet hrot htr).trans (State.startPending_none hp))
  case later =>
    refine .of (·.whileRunning fun e => e.conversionStart x inj) (fun _ _ => rfl) fun e ⟨hrot, htr, hp, hd⟩ => ?_
    exact State.whileRunning_rest ((State.conversionStart_quiet hrot htr).trans (State.startPending_later hp hd))
  case ends =>
    refine .of (·.whileRunning fun e => e.conversionDone x k raw excess rawP excessP) (fun _ _ => rfl) fun e _ ⟨hr, hj, hx, ht, hd⟩ => ?_
    have done : e.conversionDone x k raw excess rawP excessP =
        e.finishJob x j (j.result raw.toNat excess) (fun p => p.result rawP.toNat excessP) := by
      unfold State.conversionDone
      rw [hj]
      exact if_pos ht
    obtain ⟨word, flag, adc, only⟩ := State.finishJob_spec (s := e) (x := x) (j.result raw.toNat excess) (fun p => p.result rawP.toNat excessP) hx hd
    have small := correct_data_lt raw.toNat j.sofs j.sgain j.chan j.trim excess
    have sample : (e.fld (resultAddr x j.inj j.req.entry) 31 24 + 1) % 256 < 256 := Nat.mod_lt _ (by decide)
    have data : (j.result raw.toNat excess).data % 65536 = (j.result raw.toNat excess).data := Nat.mod_eq_of_lt small
    rw [data] at word
    obtain ⟨low, slice, count⟩ := packedResult_fields false j.req.spec (j.result raw.toNat excess).ovr sample (by omega : j.slice.val < 16) small
    obtain ⟨ovr, spec, fresh, xchk⟩ := packedResult_bits false j.req.spec (j.result raw.toNat excess).ovr sample (by omega : j.slice.val < 16) small
    rw [State.whileRunning_of hr, done]
    generalize e.finishJob x j _ _ = t at word flag adc only ⊢
    simp only [State.fld, State.bit, word] at flag ⊢
    exact ⟨low, ovr, spec, fresh, xchk, slice, count, flag, (congrArg AdcSt.jobs adc :), (congrArg AdcSt.slices adc :),
      only.seq (by cases x <;> decide), only.seq (by cases x <;> decide), only .dma (by decide), only .sram (by decide), only .wheels (by decide)⟩
  case noJob =>
    refine .of (·.whileRunning fun e => e.conversionDone x k raw excess rawP excessP) (fun _ _ => rfl) fun e h => ?_
    rcases h with h | h
    · exact if_neg (by simp [h])
    · refine State.whileRunning_rest ?_
      unfold State.conversionDone
      rw [h]
  case early =>
    refine .of (·.whileRunning fun e => e.conversionDone x k raw excess rawP excessP) (fun _ _ => rfl) fun e ⟨hj, ht⟩ => ?_
    refine State.whileRunning_rest ?_
    unfold State.conversionDone
    rw [hj]
    exact if_neg (Nat.not_le.2 ht)
  case timesOut =>
    refine .of (·.whileRunning fun e => e.sliceTimeout x k rawP excessP) (fun _ _ => rfl) fun e _ ⟨hr, hj, hx, ht, hd, hp, hk, hf⟩ => ?_
    have done : e.sliceTimeout x k rawP excessP =
        (e.finishJob x j { q := 0, ovr := true, data := 0 } (fun p => p.result rawP.toNat excessP)).timeoutSwap x k := by
      unfold State.sliceTimeout
      rw [hj]
      exact if_pos ht
    obtain ⟨word, -, adc, only⟩ := State.finishJob_spec (s := e) (x := x) { q := 0, ovr := true, data := 0 } (fun p => p.result rawP.toNat excessP) hx hd
    have sample : (e.fld (resultAddr x j.inj j.req.entry) 31 24 + 1) % 256 < 256 := Nat.mod_lt _ (by decide)
    obtain ⟨low, -, -⟩ := packedResult_fields (v := 0) false j.req.spec true sample (by omega : j.slice.val < 16) (by decide)
    obtain ⟨ovr, -, fresh, -⟩ := packedResult_bits (v := 0) false j.req.spec true sample (by omega : j.slice.val < 16) (by decide)
    rw [State.whileRunning_of hr, done]
    generalize e.finishJob x j _ _ = t at word adc only ⊢
    have slices : (t.adc x).slices = (e.adc x).slices := (congrArg AdcSt.slices adc :)
    obtain ⟨swap, stays⟩ := State.timeoutSwap_spare (s := t) (x := x) (k := k) ((congrArg AdcSt.spare adc :).trans hp) hk (by rw [slices]; exact hf)
    obtain ⟨left, joined⟩ := swapped_testBit (p := p) (k := k) (t.adc x).active hk
    have same : (t.timeoutSwap x k).reg (resultAddr x j.inj j.req.entry) = t.reg (resultAddr x j.inj j.req.entry) :=
      congrArg (Sparse.get resetWord · _) (stays .regs (by decide))
    have own (v : SliceSt) : ((t.adc x).setSlice k v).slices[k] = v := Vector.getElem_set_self _
    have fails : ((t.adc x).slices[k]).fails = ((e.adc x).slices[k]).fails := by rw [slices]
    simp only [State.fld, State.bit, same, word, swap]
    exact ⟨low, ovr, fresh, left, joined, trivial, trivial, ((congrArg SliceSt.fails (own _) :).trans (congrArg (· + 1) fails :)),
      (congrArg SliceSt.cause (own _) :), ((stays.after only) .sram (by decide))⟩

end Sys2Proof.Machine
end

section
/-!
PROOFS. Calibration, rotation and the comparators (O31, O32).
-/

namespace Sys2Proof.Machine

/-! ### Fields of a word -/

section
variable (w : Word) {hi lo : Nat} (v : Nat)

theorem bitOf_withField {i : Nat} (h : i < 32) : bitOf (withField w hi lo v) i =
    if lo ≤ i ∧ i < hi + 1 then v.testBit (i - lo) else bitOf w i := by
  have bit (u : Word) : bitOf u i = u.getLsbD i := rfl
  simp only [bit, withField, BitVec.getLsbD_or, BitVec.getLsbD_and, BitVec.getLsbD_not, BitVec.getLsbD_ofNat, h, decide_true, Bool.true_and,
    Nat.testBit_shiftLeft, Nat.testBit_two_pow_sub_one, Nat.testBit_mod_two_pow]
  by_cases below : lo ≤ i
  · by_cases inside : i < hi + 1
    · have : i - lo < hi + 1 - lo := by omega
      simp [below, inside, this]
    · have : ¬ i - lo < hi + 1 - lo := by omega
      simp [below, inside, this]
  · simp [below]

theorem fieldOf_testBit (i : Nat) : (fieldOf w hi lo).testBit i = (decide (i < hi + 1 - lo) && bitOf w (lo + i)) := by
  simp only [fieldOf, fieldNat, bitOf, Nat.testBit_mod_two_pow, Nat.testBit_shiftRight]

theorem fieldOf_withField (h : hi < 32) : fieldOf (withField w hi lo v) hi lo = v % 2 ^ (hi + 1 - lo) := by
  refine Nat.eq_of_testBit_eq fun i => ?_
  rw [fieldOf_testBit, Nat.testBit_mod_two_pow]
  by_cases inside : i < hi + 1 - lo
  · rw [bitOf_withField w v (by omega), if_pos (by omega), Nat.add_sub_cancel_left]
  · simp [inside]

theorem bitOf_withField_other {i : Nat} (h : i < 32) (ho : i < lo ∨ hi < i) : bitOf (withField w hi lo v) i = bitOf w i := by
  rw [bitOf_withField w v h, if_neg (by omega)]

theorem fieldOf_withField_other {hi' lo' : Nat} (h : hi' < 32) (ho : hi' < lo ∨ hi < lo') :
    fieldOf (withField w hi lo v) hi' lo' = fieldOf w hi' lo' := by
  refine Nat.eq_of_testBit_eq fun i => ?_
  rw [fieldOf_testBit, fieldOf_testBit]
  by_cases inside : i < hi' + 1 - lo'
  · rw [bitOf_withField_other w v (by omega) (by omega)]
  · simp [inside]

theorem fieldOf_or_low {m : Nat} (hm : m < 2 ^ lo) : fieldOf (w ||| BitVec.ofNat 32 m) hi lo = fieldOf w hi lo := by
  refine Nat.eq_of_testBit_eq fun i => ?_
  have clear : bitOf (BitVec.ofNat 32 m) (lo + i) = false := by
    have : m.testBit (lo + i) = false := Nat.testBit_lt_two_pow (Nat.lt_of_lt_of_le hm (Nat.pow_le_pow_right (by decide) (Nat.le_add_right _ _)))
    simp only [bitOf, BitVec.toNat_ofNat, Nat.testBit_mod_two_pow, this, Bool.and_false]
  rw [fieldOf_testBit, fieldOf_testBit, bitOf_or, clear, Bool.or_false]

end

section
variable (s : State) (a hi lo : Nat)

theorem State.reg_setFld (v : Nat) : (s.setFld a hi lo v).reg a = withField (s.reg a) hi lo v := s.reg_setReg_same a _

/-- A saturating count: the field counts, and no other bit of its word changes. -/
theorem State.satInc_reg : (s.satInc a hi lo).reg a = withField (s.reg a) hi lo (satAdd (2 ^ (hi + 1 - lo) - 1) (s.fld a hi lo) 1) :=
  State.reg_setFld _ _ _ _ _

theorem satAdd_le {limit v n : Nat} : satAdd limit v n ≤ limit := by
  unfold satAdd
  split <;> omega

theorem State.satInc_fld (h : hi < 32) : (s.satInc a hi lo).fld a hi lo = satAdd (2 ^ (hi + 1 - lo) - 1) (s.fld a hi lo) 1 := by
  have top : satAdd (2 ^ (hi + 1 - lo) - 1) (s.fld a hi lo) 1 < 2 ^ (hi + 1 - lo) :=
    Nat.lt_of_le_pred (Nat.two_pow_pos _) satAdd_le
  rw [State.fld, State.satInc_reg, fieldOf_withField _ _ h, Nat.mod_eq_of_lt top]

theorem State.satInc_bit {i : Nat} (h : i < 32) (ho : i < lo ∨ hi < i) : (s.satInc a hi lo).bit a i = s.bit a i := by
  rw [State.bit, State.satInc_reg, bitOf_withField_other _ _ h ho]
  rfl

end

/-! ### Calibration passes and the rotation (R331 to R345) -/

section
variable {s : State} {x : Conv} {k : Fin 9} {lo mid hi : List (BitVec 16)}

theorem State.setAdc_setAdc (s : State) (x : Conv) (a b : AdcSt) : (s.setAdc x b).setAdc x a = s.setAdc x a := by
  cases x <;> rfl

/-- A failed pass that is not the third in a row: one failure more, and its cause. -/
theorem State.failPass_counts (cause : Nat) (h : ((s.adc x).slices[k]).fails < 2) : s.failPass x k cause =
    s.setAdc x { (s.adc x).setSlice k { (s.adc x).slices[k] with fails := ((s.adc x).slices[k]).fails + 1, cause := cause } with passOk := false } := by
  have count : Nat.min 3 (((s.adc x).slices[k]).fails + 1) = ((s.adc x).slices[k]).fails + 1 := Nat.min_eq_right (by omega)
  unfold State.failPass
  dsimp only
  rw [count, if_neg (by omega)]

/-- A slice after a pass, with the noise of its midscale codes. -/
def SliceSt.measured (sl : SliceSt) (mid : List (BitVec 16)) : SliceSt := { sl with noise := BitVec.ofNat 8 (noiseOf mid) }

/-- A pass with all its codes on a spare that is free for it. -/
theorem State.passDone_full (ho : s.convOn x = true) (hk : (s.adc x).spare = some k) (hp : (s.adc x).passRun = true) (hb : s.spareBusy x = false)
    (hl : lo.length = 64) (hm : mid.length = 64) (hh : hi.length = 64) {gain ofs : Int} {cause : Nat}
    (hg : gain = passGain (meanOf lo) (meanOf hi)) (hof : ofs = passOffset (meanOf lo) gain)
    (hc : passCause ((s.adc x).slices[k]) (s.reg (adcBase x + 8)) ofs gain (passMidErr (meanOf mid) ofs gain) mid = cause) :
    s.passDone x lo mid hi =
      if cause = 0 then
        s.setAdc x { (s.adc x).setSlice k { ((s.adc x).slices[k]).measured mid with
          sofs := ofs, sgain := gain, fails := 0, passes := ((s.adc x).slices[k]).passes + 1, fromPass := true } with passRun := false, passOk := true }
      else (s.setAdc x { (s.adc x).setSlice k (((s.adc x).slices[k]).measured mid) with passRun := false }).failPass x k cause := by
  unfold State.passDone
  dsimp only
  rw [hk]
  dsimp only
  rw [if_pos (by simp [ho, hp, hb]), if_neg (by omega), ← hg, ← hof, hc]
  split
  · exact s.setAdc_setAdc x _ _
  · rfl

theorem State.passDone_rest (h : (s.adc x).spare = none ∨ s.convOn x = false ∨ (s.adc x).passRun = false) : s.passDone x lo mid hi = s := by
  unfold State.passDone
  dsimp only
  split
  next k hk =>
    refine if_neg ?_
    rcases h with h | h | h
    · exact absurd (hk.symm.trans h) nofun
    · simp [h]
    · simp [h]
  next => rfl

end

/-- Settles O31: calibration passes, rotation boundaries, handovers and reference faults. -/
theorem calibrationAndRotation : Obligations.CalibrationAndRotation := by
  refine ⟨fun x lo mid hi k ofs gain => ?passes, fun x lo mid hi k ofs gain => ?fails, fun x lo mid hi => ?noPass, fun x k => ?withdraws,
    fun x k => ?again, fun x => ?noBoundary, fun x k p => ?hands, fun x => ?noHandover, fun x => ?faults⟩
  case passes =>
    refine .of (·.passDone x lo mid hi) (fun _ _ => rfl) fun e _ ⟨ho, hk, hp, hb, hl, hm, hh, hg, hof, hc⟩ => ?_
    have own (v : SliceSt) : ((e.adc x).setSlice k v).slices[k] = v := Vector.getElem_set_self _
    rw [(State.passDone_full ho hk hp hb hl hm hh hg hof hc).trans (if_pos rfl), State.adc_setAdc]
    exact ⟨(congrArg SliceSt.sofs (own _) :), (congrArg SliceSt.sgain (own _) :), (congrArg SliceSt.fails (own _) :),
      (congrArg SliceSt.passes (own _) :), rfl, rfl, rfl, rfl, rfl⟩
  case fails =>
    refine .of (·.passDone x lo mid hi) (fun _ _ => rfl) fun e _ ⟨ho, hk, hp, hb, hl, hm, hh, hg, hof, hc, hf⟩ => ?_
    have own (a : AdcSt) (v : SliceSt) : (a.setSlice k v).slices[k] = v := Vector.getElem_set_self _
    have adc := e.adc_setAdc x { (e.adc x).setSlice k (((e.adc x).slices[k]).measured mid) with passRun := false }
    have slice : ((e.setAdc x { (e.adc x).setSlice k (((e.adc x).slices[k]).measured mid) with passRun := false }).adc x).slices[k] =
        ((e.adc x).slices[k]).measured mid := by
      rw [adc]
      exact own _ _
    rw [(State.passDone_full ho hk hp hb hl hm hh hg hof rfl).trans (if_neg hc), State.failPass_counts _ (by rw [slice]; exact hf), slice, adc,
      State.setAdc_setAdc, State.adc_setAdc]
    exact ⟨(congrArg SliceSt.sofs (own _ _) :), (congrArg SliceSt.sgain (own _ _) :), (congrArg SliceSt.fails (own _ _) :),
      (congrArg SliceSt.cause (own _ _) :), rfl, rfl, rfl⟩
  case noPass => exact .of (·.passDone x lo mid hi) (fun _ _ => rfl) fun e h => State.passDone_rest h
  case withdraws =>
    refine .of (·.rotationBoundary x) (fun _ _ => rfl) fun e ⟨ho, ht, hk, hp, hout⟩ => ?_
    unfold State.rotationBoundary
    dsimp only
    rw [if_pos (by simp [ho, ht]), hk]
    exact if_pos (by simp [hp, hout])
  case again =>
    refine .of (·.rotationBoundary x) (fun _ _ => rfl) fun e ⟨ho, ht, hk, hp, hrun⟩ => ?_
    unfold State.rotationBoundary
    dsimp only
    rw [if_pos (by simp [ho, ht]), hk]
    exact (if_neg (by simp [hp])).trans (if_pos (by simp [hp, hrun]))
  case noBoundary =>
    refine .of (·.rotationBoundary x) (fun _ _ => rfl) fun e h => if_neg ?_
    rcases h with h | h
    · simp [h]
    · simp [Nat.not_le.2 h]
  case hands =>
    refine .of (·.whileRunning fun e => e.spareHandover x) (fun _ _ => rfl) fun e ⟨hr, ho, hk, hf, hp⟩ => ?_
    rw [State.whileRunning_of hr]
    unfold State.spareHandover
    dsimp only
    rw [hk]
    dsimp only
    rw [if_pos (by simp [ho, hf]), hp]
  case noHandover =>
    refine .of (·.whileRunning fun e => e.spareHandover x) (fun _ _ => rfl) fun e h => ?_
    rcases h with h | h
    · exact if_neg (by simp [h])
    · refine State.whileRunning_rest ?_
      unfold State.spareHandover
      dsimp only
      split
      next k hk =>
        refine if_neg ?_
        rcases h with h | h
        · simp [h]
        · exact absurd (hk.symm.trans h) nofun
      next => rfl
  case faults =>
    refine .of (·.whileRunning fun e => e.referenceFault x) (fun _ _ => rfl) fun e _ hr => ?_
    have only := e.referenceFault_only x
    have set := e.bit_orReg_same (adcBase x + 4) 0x400000 (i := 22) (by decide) (by decide)
    rw [State.whileRunning_of hr]
    exact ⟨(State.advise_words _ _ _).bit set (by cases x <;> decide), State.advise_bit _ 5 x.index (by decide), only.adc (by cases x <;> decide),
      only .regA (by decide), only .wheels (by decide), only .sram (by decide), only .power (by decide)⟩

/-! ### Comparators (R337, R338) -/

section
variable (s : State) (c : Fin 16)

theorem State.cmp_setCmp (v : CmpSt) : (s.setCmp c v).cmp c = v := by
  unfold State.cmp State.setCmp
  split
  · exact Vector.getElem_set_self _
  · exact Vector.getElem_set_self _

theorem State.cmp_setCmp_other {k : Fin 16} (h : k ≠ c) (v : CmpSt) : (s.setCmp c v).cmp k = s.cmp k := by
  have apart : k.val ≠ c.val := fun e => h (Fin.ext e)
  unfold State.cmp State.setCmp
  split
  next hk =>
    split
    next hc => exact Vector.getElem_set_ne (Fin.ofNat 8 c.val).isLt (Fin.ofNat 8 k.val).isLt (by simp only [Fin.ofNat]; omega)
    next => rfl
  next hk =>
    split
    next => rfl
    next hc => exact Vector.getElem_set_ne (Fin.ofNat 8 c.val).isLt (Fin.ofNat 8 k.val).isLt (by simp only [Fin.ofNat]; omega)

theorem Only.cmp {s t : State} {l : List Part} (h : Only l s t) (hA : Part.adcA ∉ l) (hB : Part.adcB ∉ l) (k : Fin 16) : t.cmp k = s.cmp k := by
  have a : t.adcA = s.adcA := h .adcA hA
  have b : t.adcB = s.adcB := h .adcB hB
  rw [State.cmp, State.cmp, a, b]

/-- The words that the outputs' choppers write: the flags of each output and those of the interlocks. -/
def chopWords : List Nat := 0x40860 :: (List.finRange 32).map (fun n => evoBase n + 0x14)

theorem State.chopEnter_words (n : Fin 32) (cmp : Nat) : Words chopWords s (s.chopEnter n cmp) := by
  have chop : Words chopWords s (s.startChop n) := by
    unfold State.startChop
    dsimp only
    refine .ite (.refl _ _) ((State.settlePair_words _ _).step (.stepOf (State.setOut_only _ n _) ?_ (by decide)) (by simp [chopWords]))
    exact (s.orReg_words _ _).mono (by simp [chopWords])
  exact .ite chop (.refl _ _)

theorem State.chopLeave_words (n : Fin 32) (cmp : Nat) : Words chopWords s (s.chopLeave n cmp) := by
  have chop : Words chopWords s (s.endChop n) :=
    (State.settlePair_words _ _).step (.of (State.setOut_only _ n _) (by decide)) (by simp [chopWords])
  exact .ite (.ite chop (.ite chop (.refl _ _))) (.refl _ _)

theorem cmpBase_not_chop : ∀ c : Fin 16, cmpBase c + 8 ∉ chopWords := by decide

/-- A comparator that becomes active: its own words and state, and what its outputs and pulses do elsewhere. -/
theorem State.cmpEnter_spec : (s.cmpEnter c).cmp c = { s.cmp c with active := true, since := s.now } ∧
    (s.cmpEnter c).bit (cmpBase c + 8) 8 = true ∧
    (s.cmpEnter c).fld (cmpBase c + 8) 31 16 = satAdd 65535 (s.fld (cmpBase c + 8) 31 16) 1 ∧
    (∀ k : Fin 16, k ≠ c → (s.cmpEnter c).cmp k = s.cmp k) := by
  unfold State.cmpEnter
  extract_lets src s1
  have raised := State.raise_only s1 (.enter c) false
  have chops : Only [.regs, .outs, .setAt, .setNow] (s1.raise (.enter c) false)
      ((List.finRange 32).foldl (fun s (n : Fin 32) => s.chopEnter n c.val) (s1.raise (.enter c) false)) :=
    .foldl (fun t n => t.chopEnter_only n c.val) _ _
  have words : Words chopWords s1 ((List.finRange 32).foldl (fun s (n : Fin 32) => s.chopEnter n c.val) (s1.raise (.enter c) false)) :=
    .fold (fun t n => t.chopEnter_words n c.val) (.of raised (by decide))
  have only := chops.after raised
  have counted : Only [.regs, .setAt, .setNow] (s.setCmp c { s.cmp c with active := true, since := s.now }) s1 :=
    ((State.satInc_only _ _ _ _).after (State.orReg_only _ _ _)).mono (by decide)
  have put := s.setCmp_only c { s.cmp c with active := true, since := s.now }
  have reg : (s.setCmp c { s.cmp c with active := true, since := s.now }).reg (cmpBase c + 8) = s.reg (cmpBase c + 8) :=
    congrArg (Sparse.get resetWord · _) (put .regs (by decide))
  have set : s1.bit (cmpBase c + 8) 8 = true :=
    (State.satInc_bit _ _ _ _ (by decide) (by decide)).trans (State.bit_orReg_same _ _ _ (by decide) (by decide))
  have count : s1.fld (cmpBase c + 8) 31 16 = satAdd 65535 (s.fld (cmpBase c + 8) 31 16) 1 := by
    refine (State.satInc_fld _ _ _ _ (by decide)).trans (congrArg (satAdd 65535 · 1) ?_)
    rw [State.fld, State.reg_orReg_same, reg, fieldOf_or_low _ (by decide)]
    rfl
  have cmp (k : Fin 16) := ((only.after counted).cmp (by decide) (by decide) k)
  generalize (List.finRange 32).foldl _ _ = t at words cmp ⊢
  refine ⟨(cmp c).trans (s.cmp_setCmp c _), words.bit set (cmpBase_not_chop c), ?_, fun k hk => (cmp k).trans (s.cmp_setCmp_other c hk _)⟩
  rw [State.fld, words _ (cmpBase_not_chop c)]
  exact count

end

/-- Settles O32: comparators become active, inactive and ready as their samples agree. -/
theorem comparatorDecisions : Obligations.ComparatorDecisions := by
  refine ⟨fun c samples => ?enters, fun c samples => ?disagree, fun c samples => ?leaves, fun c samples => ?inactive,
    fun c samples => ?ready, fun c samples => ?readyActive⟩
  case enters =>
    refine .of (·.comparatorEnter c samples) (fun _ _ => rfl) fun e _ ⟨ho, hr, ha, hs⟩ => ?_
    have enters : e.comparatorEnter c samples = e.cmpEnter c := if_pos (by simp [ho, hr, ha, hs])
    obtain ⟨own, bit, count, others⟩ := e.cmpEnter_spec c
    have only := e.cmpEnter_only c
    rw [enters, own]
    exact ⟨rfl, rfl, hr, bit, count, others, only .sram (by decide), only .wheels (by decide)⟩
  case disagree =>
    refine .of (·.comparatorEnter c samples) (fun _ _ => rfl) fun e h => if_neg ?_
    rcases h with h | h
    · simp [h]
    · simp [h]
  case leaves =>
    refine .of (·.comparatorLeave c samples) (fun _ _ => rfl) fun e _ ⟨ho, hr, ha, hs⟩ => ?_
    have put := e.setCmp_only c { e.cmp c with active := false }
    have flag := State.orReg_only (e.setCmp c { e.cmp c with active := false }) (cmpBase c + 8) 0x200
    have leaves : e.comparatorLeave c samples = (List.finRange 32).foldl (fun s (n : Fin 32) => s.chopLeave n c.val)
        ((e.setCmp c { e.cmp c with active := false }).orReg (cmpBase c + 8) 0x200) := if_pos (by simp [ho, hr, ha, hs])
    have set := State.bit_orReg_same (e.setCmp c { e.cmp c with active := false }) (cmpBase c + 8) 0x200 (i := 9) (by decide) (by decide)
    rw [leaves]
    generalize (e.setCmp c { e.cmp c with active := false }).orReg (cmpBase c + 8) 0x200 = s1 at flag set ⊢
    have chops : Only [.regs, .outs, .setAt, .setNow] s1 ((List.finRange 32).foldl (fun s (n : Fin 32) => s.chopLeave n c.val) s1) :=
      .foldl (fun t n => t.chopLeave_only n c.val) _ _
    have words : Words chopWords s1 ((List.finRange 32).foldl (fun s (n : Fin 32) => s.chopLeave n c.val) s1) :=
      .fold (fun t n => t.chopLeave_words n c.val) (.refl _ _)
    have cmp (k : Fin 16) := (chops.after flag).cmp (by decide) (by decide) k
    have only := (chops.after flag).after put
    rw [cmp c, e.cmp_setCmp]
    exact ⟨rfl, hr, words.bit set (cmpBase_not_chop c), fun k hk => (cmp k).trans (e.cmp_setCmp_other c hk _), only .sram (by decide),
      only .wheels (by decide)⟩
  case inactive => exact .of (·.comparatorLeave c samples) (fun _ _ => rfl) fun e h => if_neg (by simp [h])
  case ready =>
    refine .of (·.comparatorReady c samples) (fun _ _ => rfl) fun e ⟨ho, hr, hl, ht, hs⟩ => ?_
    rw [hl] at ht
    exact (if_pos (by simp [ho, hr, hl, ht])).trans (if_neg (by rw [hs]; exact Bool.false_ne_true))
  case readyActive =>
    refine .of (·.comparatorReady c samples) (fun _ _ => rfl) fun e _ ⟨ho, hr, hl, ht, hs⟩ => ?_
    rw [hl] at ht
    have enters : e.comparatorReady c samples = (e.setCmp c { e.cmp c with ready := true }).cmpEnter c :=
      (if_pos (by simp [ho, hr, hl, ht])).trans (if_pos hs)
    have put := e.setCmp_only c { e.cmp c with ready := true }
    have cmp := e.cmp_setCmp c { e.cmp c with ready := true }
    rw [enters]
    generalize e.setCmp c { e.cmp c with ready := true } = t at put cmp ⊢
    obtain ⟨own, bit, -, -⟩ := t.cmpEnter_spec c
    have only := (t.cmpEnter_only c).after put
    rw [own, cmp]
    exact ⟨rfl, rfl, bit, only .sram (by decide)⟩

end Sys2Proof.Machine
end

section
/-!
PROOFS. The work of the NAND: its identification and its page operations (O37).
-/

namespace Sys2Proof.Machine

/-! ### Runs of the NAND -/

section
variable {s : State}

theorem State.whileNandUp_of (h : s.running = true ∨ s.power.phase = .startup) (f : State → State) : s.whileNandUp f = f s := by
  refine if_pos ?_
  rcases h with h | h
  · simp [s.running_iff.1 h]
  · simp [h]

theorem State.whileNandUp_rest {f : State → State} (h : f s = s) : s.whileNandUp f = s := by
  unfold State.whileNandUp
  rw [h, ite_self]

theorem State.nandPick_jobs (s : State) : s.nandPick.nand.jobs = s.nand.jobs := by
  unfold State.nandPick
  split <;> rfl

theorem State.addJob_jobs (s : State) (kind : JobKind) (prio : Nat) (todo : List NandOp) :
    (s.addJob kind prio todo).nand.jobs = s.nand.jobs ++ [{ kind := kind, prio := prio, todo := todo }] :=
  State.nandPick_jobs _

theorem State.addJob_hasJob (s : State) (kind : JobKind) (prio : Nat) (todo : List NandOp) : (s.addJob kind prio todo).hasJob kind = true := by
  rw [State.hasJob, s.addJob_jobs]
  simp

/-- The device, apart from its runs and pages. -/
def NandSt.device (n : NandSt) : NandSt := { n with jobs := [], act := none, tries := 0 }

theorem State.addJob_device (s : State) (kind : JobKind) (prio : Nat) (todo : List NandOp) : (s.addJob kind prio todo).nand.device = s.nand.device := by
  unfold State.addJob State.nandPick
  dsimp only
  split <;> rfl

theorem Only.nandPage {l : List Part} {s t : State} (h : Only l s t) (hp : .pages ∉ l) (row : Nat) : t.nandPage row = s.nandPage row :=
  congrArg (fun pages => Sparse.get (fun _ => ({} : NandPage)) pages row) (h .pages hp)

theorem State.nandPage_setPage_same (s : State) (row : Nat) (p : NandPage) : (s.setPage row p).nandPage row = p :=
  Sparse.get_set_same _ _ _ _

theorem State.nandPage_setPage_other (s : State) {row r : Nat} (p : NandPage) (h : r ≠ row) : (s.setPage row p).nandPage r = s.nandPage r :=
  Sparse.get_set_other _ _ _ h

theorem State.nandPage_erasePages (s : State) (b r : Nat) :
    (s.erasePages b).nandPage r = if r / s.nand.ppb = b then {} else s.nandPage r := by
  split
  next h => exact Sparse.get_filter_out (p := fun q => q / s.nand.ppb != b) _ (by simp [h])
  next h => exact Sparse.get_filter (p := fun q => q / s.nand.ppb != b) _ (by simp [h])

end

/-! ### Recovery mode (R112) -/

/-- Recovery mode with its global error: RUN, the controller integrating. -/
theorem State.enterRecovery_spec (s : State) (g : Nat) :
    (s.enterRecovery g).boot = { s.boot with
        stage := .recovery, recovery := true, global := g, cands := [], loadAt := s.now, toothAt := s.now } ∧
      (s.enterRecovery g).power.phase = .run ∧ (s.enterRecovery g).link.can = .integrating := by
  unfold State.enterRecovery
  extract_lets src s1 s2
  have told := State.bootNotice_only s1.toRun
  have can : s2.link.can = .integrating := congrArg LinkSt.can (State.notice_wire s1.toRun _ _)
  have boot : s2.boot = s1.toRun.boot := told .boot (by decide)
  have power : s2.power = s1.toRun.power := told .power (by decide)
  split
  · exact ⟨boot, congrArg PowerSt.phase power, can⟩
  · exact ⟨boot, congrArg PowerSt.phase power, can⟩

/-! ### The end of the power-up wait (R85, R108) -/

section
variable {s : State} {p : NandProbe}

/-- The state that the identification looks at: PD6's switching on is noted. -/
def State.pd6Noted (s : State) : State := s.setPower { s.power with pd6On := s.now }

theorem State.nandWaitEnd_due (h : s.power.phase = .startup ∧ s.boot.stage = .nandWait ∧ s.boot.waitAt + usAng 1250 ≤ s.now)
    (hl : s.life.state ≠ .blank ∧ s.life.state ≠ .scrap) : s.nandWaitEnd p =
      if p.timeout then s.pd6Noted.enterRecovery 5
      else match s.pd6Noted.identifyNand p with
        | .error e => ({ s.pd6Noted with nand := { s.nand with id := p.id } }).enterRecovery e
        | .ok t => ({ t with boot := { t.boot with stage := .scan } }).addJob .scan 1 ((List.range t.imgBlocks).map (fun b => NandOp.read (t.rowOf b 0))) := by
  have search : (!(s.life.state == .blank || s.life.state == .scrap)) = true := by simpa using hl
  unfold State.nandWaitEnd
  dsimp only
  refine (if_pos h).trans ?_
  rw [show s.setPower { s.power with pd6On := s.now } = s.pd6Noted from rfl, show s.pd6Noted.life = s.life from rfl, search]
  rfl

theorem State.identifyNand_ok (s : State) {l : List Byte} (hf : (p.copies.take 3).find? paramOk = some l) (hg : geometryOk l p.eccEn = true) :
    s.identifyNand p = .ok { s with nand := s.nand.identify p l } := by
  unfold State.identifyNand
  rw [hf]
  exact if_pos hg

theorem State.identifyNand_none (s : State) (hf : (p.copies.take 3).find? paramOk = none) : s.identifyNand p = .error 1 := by
  unfold State.identifyNand
  rw [hf]

end

/-! ### The end of a page operation (R417) -/

section
variable {s : State} {j : NandJob} {op : NandOp} {fail : Bool} {errs : List Nat}

/-- An operation that is not the last of its run leaves the run for the next one. -/
theorem State.nandOpEnd_within (h : s.actJob = some (j, op)) (hn : (s.opDone j op fail errs).1.todo ≠ []) :
    Only [.nand] (s.opDone j op fail errs).2 (s.nandOpEnd fail errs) := by
  have stored := State.storeJob_only (s.opDone j op fail errs).2 (s.opDone j op fail errs).1
  have more : ((s.opDone j op fail errs).1.todo.isEmpty && !(s.opDone j op fail errs).1.kind.hasOwnEnd) = false := by simp [hn]
  unfold State.nandOpEnd
  rw [h]
  dsimp only
  rw [more, if_neg Bool.false_ne_true]
  exact (State.nandPick_only _).step (.ite ((Only.set_nand _ (by rfl)).step stored (List.Subset.refl _)) stored) (List.Subset.refl _)

theorem NandJob.drop_one_ne (h : 1 < j.todo.length) : j.todo.drop 1 ≠ [] := fun e => by
  have := congrArg List.length e
  rw [List.length_drop, List.length_nil] at this
  omega

/-- A page that has programmed: it reads as programmed, and no other page changes. -/
theorem State.opDone_program (j : NandJob) (row : Nat) (page : NandPage) (errs : List Nat) :
    (s.opDone j (.program row page) false errs).1.todo = j.todo.drop 1 ∧
      Only [.cave] (s.setPage row (page.whole s.nand.page s.nand.spare (s.tagRow row))) (s.opDone j (.program row page) false errs).2 :=
  ⟨rfl, .ite (State.doomBlock_only _ _) (.refl _ _)⟩

theorem State.restamp_ne (s : State) {l : List NandOp} (h : l ≠ []) : s.restamp l ≠ [] := by
  unfold State.restamp
  split
  · split <;> exact List.cons_ne_nil _ _
  · exact h

/-- A block that has been erased: its pages are, and no other page changes. -/
theorem State.opDone_erase (j : NandJob) (b : Nat) (errs : List Nat) :
    (s.opDone j (.erase b) false errs).1.todo = s.restamp (j.todo.drop 1) ∧ Only [.cave] (s.erasePages b) (s.opDone j (.erase b) false errs).2 :=
  ⟨rfl, Only.set_cave _ _⟩

/-- The runs that end early when a page of theirs cannot be read. -/
def JobKind.copies : JobKind → Bool
  | .move _ _ => true
  | .collect _ => true
  | .imgRefresh _ _ => true
  | .repair _ => true
  | _ => false

theorem State.afterBadRead_stays (kind : JobKind) (rest : List NandOp) (h : kind.copies = false) : s.afterBadRead kind rest = rest := by
  unfold State.afterBadRead
  dsimp only
  split
  · exact Bool.noConfusion h
  · exact Bool.noConfusion h
  · exact Bool.noConfusion h
  · exact Bool.noConfusion h
  · rfl

/-- The end of such a run touches the NAND and the cave alone. -/
theorem State.caveJobDone_copies (h : j.kind.copies = true) : Only [.nand, .cave] s (s.caveJobDone j) := by
  have gone := State.dropJob_only s j.kind
  unfold State.caveJobDone
  extract_lets failed s1
  cases hk : j.kind <;> rw [hk] at h
  case move src dst =>
    have freed : Only [.nand, .cave] s (if failed then s1 else { s1 with cave := { s1.cave with due := s1.cave.due.filter (fun x => x != src) } }) :=
      .ite (gone.mono (by decide)) (((Only.set_cave _ _).after gone).mono (by decide))
    exact .ite ((State.startRetire_only _ _).step freed (by decide)) freed
  case collect b => exact ((State.startRecWrite_only _).after ((State.collectIfLow_only _).after gone)).mono (by decide)
  case imgRefresh slot gen => exact ((Only.set_cave _ _).after gone).mono (by decide)
  case repair slot => exact .refl _ _
  all_goals exact Bool.noConfusion h

/-- A page that has been read, in a run with more to do. -/
theorem State.nandOpEnd_read {row : Nat} (h : s.actJob = some (j, .read row)) (hl : 1 < j.todo.length) :
    Only [.regs, .link, .nand, .cave, .health, .bat, .setAt, .setNow] s (s.nandOpEnd fail errs) := by
  have read := State.readDone_only s row errs
  have more := NandJob.drop_one_ne hl
  by_cases hn : (s.opDone j (.read row) fail errs).1.todo = []
  · have copies : j.kind.copies = true := by
      refine Decidable.byContradiction fun hc => more (Eq.trans ?_ hn)
      simp only [State.opDone, s.afterBadRead_stays j.kind _ (Bool.eq_false_iff.2 hc), ite_self]
    have kind : (s.opDone j (.read row) fail errs).1.kind.copies = true := copies
    have stored : Only [.regs, .link, .nand, .cave, .health, .bat, .setAt, .setNow] s
        ((s.opDone j (.read row) fail errs).2.storeJob (s.opDone j (.read row) fail errs).1) :=
      (State.storeJob_only _ _).step (read.mono (by decide)) (by decide)
    unfold State.nandOpEnd
    rw [h]
    dsimp only
    split
    · split
      next scan => exact Bool.noConfusion (scan ▸ kind)
      next candidate => exact Bool.noConfusion (candidate ▸ kind)
      next =>
        exact (State.nandPick_only _).step ((State.caveService_only _).step ((State.sessionFetched_only _ _).step ((State.cacheRecord_only _).step
          ((State.caveJobDone_copies kind).step (.ite ((Only.set_nand _ (by rfl)).step stored (by decide)) stored)
            (by decide)) (by decide)) (by decide)) (by decide)) (by decide)
    · exact (State.nandPick_only _).step (.ite ((Only.set_nand _ (by rfl)).step stored (by decide)) stored) (by decide)
  · exact (State.nandOpEnd_within h hn).step (read.mono (by decide)) (by decide)

end

/-- Settles O37: the power-up wait, the ends of page operations, and operations that time out. -/
theorem nandWork : Obligations.NandWork := by
  refine ⟨fun p l => ?identified, fun p => ?busy, fun p => ?noPage, fun p => ?noWait, fun errs j row page => ?programmed,
    fun errs j b => ?erased, fun fail errs j row => ?page, fun fail errs => ?noOperation, ?retries, ?noTimeout, ?givesUp⟩
  case identified =>
    refine .of (·.nandWaitEnd p) (fun _ _ => rfl) fun e _ ⟨hp, hs, hw, ht, hf, hg, hb, hsc⟩ => ?_
    have identified : e.nandWaitEnd p = _ := State.nandWaitEnd_due ⟨hp, hs, hw⟩ ⟨hb, hsc⟩
    rw [ht, if_neg Bool.false_ne_true, State.identifyNand_ok _ hf hg] at identified
    rw [identified]
    dsimp only
    have device := State.addJob_device ({ e.pd6Noted with
      nand := e.nand.identify p l, boot := { e.boot with stage := .scan } } : State) .scan 1
    have only (todo : List NandOp) := (State.addJob_only ({ e.pd6Noted with
      nand := e.nand.identify p l, boot := { e.boot with stage := .scan } } : State) .scan 1 todo)
    have noted := (Only.set_boot ({ e.pd6Noted with nand := e.nand.identify p l } : State) { e.boot with stage := .scan }).after
      ((Only.set_nand e.pd6Noted (x := e.nand.identify p l) rfl).after (e.setPower_only { e.power with pd6On := e.now }))
    refine ⟨(congrArg BootSt.stage (only _ .boot (by decide)) :), State.addJob_hasJob _ _ _ _, (congrArg NandSt.present (device _) :),
      (congrArg NandSt.id (device _) :), (congrArg NandSt.page (device _) :), (congrArg NandSt.ppb (device _) :),
      (congrArg NandSt.blocks (device _) :), ((only _).after noted) .pages (by decide),
      (congrArg PowerSt.phase (only _ .power (by decide)) :).trans hp, ((only _).after noted) .regs (by decide), ((only _).after noted) .sram (by decide)⟩
  case busy =>
    refine .of (·.nandWaitEnd p) (fun _ _ => rfl) fun e _ ⟨hp, hs, hw, ht, hb, hsc⟩ => ?_
    obtain ⟨boot, phase, can⟩ := State.enterRecovery_spec e.pd6Noted 5
    have only := (State.enterRecovery_only e.pd6Noted 5).after (e.setPower_only { e.power with pd6On := e.now })
    rw [(State.nandWaitEnd_due ⟨hp, hs, hw⟩ ⟨hb, hsc⟩).trans (if_pos ht), boot]
    exact ⟨rfl, rfl, rfl, phase, can, only .sram (by decide), only.nand (by decide) (by decide)⟩
  case noPage =>
    refine .of (·.nandWaitEnd p) (fun _ _ => rfl) fun e _ ⟨hp, hs, hw, ht, hf, hb, hsc⟩ => ?_
    have failed : e.nandWaitEnd p = _ := State.nandWaitEnd_due ⟨hp, hs, hw⟩ ⟨hb, hsc⟩
    rw [ht, if_neg Bool.false_ne_true, State.identifyNand_none _ hf] at failed
    rw [failed]
    dsimp only
    have noted := Only.set_nand e.pd6Noted (x := { e.nand with id := p.id }) rfl
    have id : ({ e.pd6Noted with nand := { e.nand with id := p.id } } : State).nand.id = p.id := rfl
    generalize ({ e.pd6Noted with nand := { e.nand with id := p.id } } : State) = t at noted id ⊢
    obtain ⟨boot, phase, can⟩ := t.enterRecovery_spec 1
    have only := t.enterRecovery_only 1
    rw [boot]
    exact ⟨rfl, rfl, rfl, phase, (congrArg NandSt.id (only.nand (by decide) (by decide)) :).trans id,
      ((only.after noted).after (e.setPower_only _)) .sram (by decide)⟩
  case noWait =>
    refine .of (·.nandWaitEnd p) (fun _ _ => rfl) fun e h => if_neg fun ⟨hp, hs, hw⟩ => ?_
    rcases h with h | h | h
    · exact h hp
    · exact h hs
    · exact absurd hw (Nat.not_le.2 h)
  case programmed =>
    refine .of (·.whileNandUp fun e => e.nandOpEnd false errs) (fun _ _ => rfl) fun e _ ⟨hr, ha, hl⟩ => ?_
    rw [State.whileNandUp_of hr]
    obtain ⟨todo, put⟩ := e.opDone_program j row page errs
    have only := State.nandOpEnd_within ha (fail := false) (errs := errs) (by rw [todo]; exact NandJob.drop_one_ne hl)
    have all := (only.after put).after (e.setPage_only row (page.whole e.nand.page e.nand.spare (e.tagRow row)))
    refine ⟨((only.after put).nandPage (by decide) row).trans (e.nandPage_setPage_same _ _), fun r hne =>
      ((only.after put).nandPage (by decide) r).trans (e.nandPage_setPage_other _ hne), (congrArg BootSt.stage (all .boot (by decide)) :),
      all .power (by decide), all .sram (by decide)⟩
  case erased =>
    refine .of (·.whileNandUp fun e => e.nandOpEnd false errs) (fun _ _ => rfl) fun e _ ⟨hr, ha, hl, hp⟩ => ?_
    rw [State.whileNandUp_of hr]
    obtain ⟨todo, put⟩ := e.opDone_erase j b errs
    have only := State.nandOpEnd_within ha (fail := false) (errs := errs) (by rw [todo]; exact e.restamp_ne (NandJob.drop_one_ne hl))
    have all := (only.after put).after (e.erasePages_only b)
    have page (r : Nat) := ((only.after put).nandPage (by decide) r).trans (e.nandPage_erasePages b r)
    exact ⟨fun r h => (page r).trans (if_pos h), fun r h => (page r).trans (if_neg h), all .power (by decide), all .sram (by decide)⟩
  case page =>
    refine .of (·.whileNandUp fun e => e.nandOpEnd fail errs) (fun _ _ => rfl) fun e _ ⟨hr, ha, hl⟩ => ?_
    have only := State.nandOpEnd_read (fail := fail) (errs := errs) ha hl
    rw [State.whileNandUp_of hr]
    exact ⟨only .pages (by decide), (congrArg BootSt.stage (only .boot (by decide)) :), only .power (by decide), only .sram (by decide)⟩
  case noOperation =>
    refine .of (·.whileNandUp fun e => e.nandOpEnd fail errs) (fun _ _ => rfl) fun e ha => State.whileNandUp_rest ?_
    unfold State.nandOpEnd
    rw [ha]
  case retries =>
    refine .of (·.whileNandUp fun e => e.nandTimeout) (fun _ _ => rfl) fun e ⟨hr, ha, ht⟩ => ?_
    have act : ¬ e.nand.act.isNone = true := by simpa [Option.isSome_iff_ne_none] using ha
    rw [State.whileNandUp_of hr]
    exact (if_neg act).trans (if_pos ht)
  case noTimeout =>
    exact .of (·.whileNandUp fun e => e.nandTimeout) (fun _ _ => rfl) fun e ha => State.whileNandUp_rest (if_pos (by simp [ha]))
  case givesUp =>
    refine .of (·.whileNandUp fun e => e.nandTimeout) (fun _ _ => rfl) fun e _ ⟨hr, ha, ht, hs⟩ => ?_
    rw [State.whileNandUp_of hr]
    have act : ¬ e.nand.act.isNone = true := by simpa [Option.isSome_iff_ne_none] using ha
    have ends : e.nandTimeout = ({ e with nand := { e.nand with jobs := [], act := none, tries := 0 } }).enterRecovery 5 := by
      unfold State.nandTimeout
      rw [if_neg act, if_neg (Nat.not_lt.2 ht), hs]
    have dropped := Only.set_nand e (x := { e.nand with jobs := [], act := none, tries := 0 }) rfl
    have jobs : ({ e with nand := { e.nand with jobs := [], act := none, tries := 0 } } : State).nand.jobs = [] := rfl
    rw [ends]
    generalize ({ e with nand := { e.nand with jobs := [], act := none, tries := 0 } } : State) = t at dropped jobs ⊢
    obtain ⟨boot, phase, -⟩ := t.enterRecovery_spec 5
    have only := t.enterRecovery_only 5
    rw [boot]
    exact ⟨rfl, rfl, rfl, phase, (congrArg NandSt.jobs (only.nand (by decide) (by decide))).trans jobs, (only.after dropped) .pages (by decide),
      (only.after dropped) .sram (by decide)⟩

end Sys2Proof.Machine
end

section
/-!
PROOFS. What the load commit leaves alone: the words of the wheel block, the controller and the power state, through everything that the
blocks do on their new configuration (R109 to R111).
-/

namespace Sys2Proof.Machine

/-- Nothing that the wheel block, the link's controller or the sequence of power states shows has changed. -/
structure Calm (s t : State) : Prop where
  words : ∀ a, 0x30000 ≤ a → a < 0x40000 → t.reg a = s.reg a
  wire : Keeps State.wire s t
  phase : t.power.phase = s.power.phase

section
variable {k s t u : State}

theorem Calm.refl (s : State) : Calm s s := ⟨fun _ _ _ => rfl, rfl, rfl⟩

theorem Calm.trans (h : Calm s t) (k : Calm t u) : Calm s u :=
  ⟨fun a lo hi => (k.words a lo hi).trans (h.words a lo hi), h.wire.trans k.wire, k.phase.trans h.phase⟩

/-- One more operation. -/
theorem Calm.after (h : Calm s t) (hk : Calm k s) : Calm k t := hk.trans h

theorem Calm.ite {c : Prop} [Decidable c] (ht : Calm s t) (hu : Calm s u) : Calm s (if c then t else u) := by
  split <;> assumption

theorem Calm.iteFst {α : Type} {c : Prop} [Decidable c] {p q : State × α} (hp : Calm s p.1) (hq : Calm s q.1) : Calm s (if c then p else q).1 := by
  split <;> assumption

theorem Calm.fold {β : Type} {f : State → β → State} {xs : List β} (hf : ∀ s x, Calm s (f s x)) (h : Calm k s) : Calm k (xs.foldl f s) := by
  induction xs generalizing s with
  | nil => exact h
  | cons x xs ih => exact ih (h.trans (hf s x))

/-- An operation on other parts of the state. -/
theorem Only.calm {l : List Part} (h : Only l s t) (hl : (l.all fun p => decide (p ∉ [Part.regs, .link, .power])) = true) : Calm s t := by
  have other (p : Part) (hp : p ∈ [Part.regs, .link, .power]) : p ∉ l := fun hm => by simpa [hp] using List.all_eq_true.1 hl p hm
  exact ⟨fun a _ _ => congrArg (Sparse.get resetWord · a) (h .regs (other _ (by decide))), h.wire (other _ (by decide)),
    congrArg PowerSt.phase (h .power (other _ (by decide)))⟩

/-- An operation that writes words of other blocks. -/
theorem Words.calm {w : List Nat} {l : List Part} (hw : Words w s t) (hwo : ∀ a ∈ w, a < 0x30000 ∨ 0x40000 ≤ a) (h : Only l s t)
    (hl : (l.all fun p => decide (p ∉ [Part.link, .power])) = true) : Calm s t := by
  have other (p : Part) (hp : p ∈ [Part.link, .power]) : p ∉ l := fun hm => by simpa [hp] using List.all_eq_true.1 hl p hm
  refine ⟨fun a lo hi => hw a fun ha => ?_, h.wire (other _ (by decide)), congrArg PowerSt.phase (h .power (other _ (by decide)))⟩
  rcases hwo a ha with h | h <;> omega

end

/-! ### Words and notices -/

section
variable (s : State)

theorem State.notice_calm (code : Nat) (p : List Byte) : Calm s (s.notice code p) := by
  refine ⟨fun a lo hi => s.notice_words code p a ?_, s.notice_wire code p, congrArg PowerSt.phase (s.notice_only code p .power (by decide))⟩
  simp
  omega

theorem State.orReg_calm {a : Nat} (h : a < 0x30000 ∨ 0x40000 ≤ a) (m : Nat) : Calm s (s.orReg a m) :=
  (s.orReg_words a m).calm (by simpa using h) (s.orReg_only a m) (by decide)

theorem State.satInc_calm {a : Nat} (h : a < 0x30000 ∨ 0x40000 ≤ a) (hi lo : Nat) : Calm s (s.satInc a hi lo) :=
  (s.satInc_words a hi lo).calm (by simpa using h) (s.satInc_only a hi lo) (by decide)

theorem State.advise_calm (b unit : Nat) : Calm s (s.advise b unit) := (s.advise_words b unit).calm (by decide) (s.advise_only b unit) (by decide)

theorem State.logOf_calm (src : Nat) (p : List Byte) : Calm s (s.logOf src p) :=
  (s.logOf_words src p).calm (by decide) (s.logOf_only src p) (by decide)

theorem State.clockNotice_calm : Calm s s.clockNotice := by
  unfold State.clockNotice
  exact .ite (s.notice_calm _ _) ⟨fun _ _ _ => rfl, rfl, rfl⟩

/-- Power but for its state may change. -/
theorem State.setPower_calm {p : PowerSt} (h : p.phase = s.power.phase) : Calm s (s.setPower p) := ⟨fun _ _ _ => rfl, rfl, h⟩

end

/-! ### The battery, the lock and the rules -/

section
variable (s : State)

theorem State.logEntry_calm (src : Nat) (p : List Byte) (urgent : Bool) : Calm s (s.logEntry src p urgent).2 := by
  have words : Words [0xA0058] s (s.logEntry src p urgent).2 := fun a ha => (s.logEntry_frame _ _ _).reg a fun e => ha (e ▸ .head _)
  exact words.calm (by decide) (s.logEntry_only src p urgent) (by decide)

theorem State.setBat_calm (b : BatSt) : Calm s (s.setBat b) := (s.setBat_only b).calm (by decide)

theorem State.insertEntry_calm (result : Nat) : Calm s (s.insertEntry result) := by
  unfold State.insertEntry
  dsimp only
  split
  · exact .ite ((State.logEntry_calm _ _ _ _).after (s.setBat_calm _)) (.refl _)
  · exact .refl _

theorem State.writePack_calm (index : Nat) (r : PackRec) : Calm s (s.writePack index r) := by
  unfold State.writePack
  exact .ite (.ite ((s.recordWrite_only _ _ _ _).calm (by decide)) ((s.recordWrite_only _ _ _ _).calm (by decide)))
    (s.orReg_calm (by decide) _)

theorem State.closeSession_calm : Calm s s.closeSession := by
  unfold State.closeSession
  dsimp only
  split
  · exact (State.logEntry_calm _ _ _ _).after ((State.notice_calm _ _ _).after ((State.writePack_calm _ _ _).after
      ((State.setBat_calm _ _).after (s.insertEntry_calm 0))))
  · exact s.insertEntry_calm 0

theorem State.presenceStep_calm (seen : Option Bool) : Calm s (s.presenceStep seen) := by
  unfold State.presenceStep
  dsimp only
  split
  · exact s.setBat_calm _
  · exact s.setBat_calm _
  · exact s.setBat_calm _
  · exact s.setBat_calm _
  · exact (State.logEntry_calm _ _ _ _).after ((State.notice_calm _ _ _).after ((State.setBat_calm _ _).after (s.insertEntry_calm 0)))
  · exact (State.closeSession_calm _).after (s.setBat_calm _)
  · exact .refl _

theorem State.setLock_calm (l : LockSt) : Calm s (s.setLock l) := (s.setLock_only l).calm (by decide)

theorem State.lockNotice_calm : Calm s s.lockNotice := .ite (.refl _) (s.notice_calm _ _)

theorem State.setLockState_calm (t : LockState) : Calm s (s.setLockState t) :=
  .ite (.refl _) ((State.lockNotice_calm _).after (s.setLock_calm _))

theorem State.enterFault_calm (cause : Nat) : Calm s (s.enterFault cause) :=
  .ite (.refl _) ((State.advise_calm _ _ _).after ((State.logEntry_calm _ _ _ _).after ((State.setLockState_calm _ _).after
    ((State.satInc_calm _ (by decide) _ _).after (s.setLock_calm _)))))

theorem State.lockDrift_calm (both : Bool) : Calm s (s.lockDrift both).1 :=
  (State.logEntry_calm _ _ _ _).after (.ite ((State.enterFault_calm _ _).after (s.orReg_calm (by decide) _))
    ((State.setLockState_calm _ _).after (s.orReg_calm (by decide) _)))

theorem State.lockEndMove_calm (b : Bridge) (t : Option Nat) : Calm s (s.lockEndMove b t) :=
  (State.setLockState_calm _ _).after (s.setLock_calm _)

theorem State.lockSuccess_calm : Calm s s.lockSuccess := (State.satInc_calm _ (by decide) _ _).after (s.lockEndMove_calm _ _)

theorem State.lockConsider_calm (chOpen chShut : Bool) : Calm s (s.lockConsider chOpen chShut).1 := by
  unfold State.lockConsider
  extract_lets l opp chOpp tgt chTgt both
  refine .iteFst (.refl _) (.iteFst ?_ ?_)
  · refine .iteFst (s.enterFault_calm _) (.iteFst (s.enterFault_calm _) (.iteFst (s.enterFault_calm _) ?_))
    refine .iteFst ((State.enterFault_calm _ _).after (s.setLock_calm _)) (.iteFst ((State.enterFault_calm _ _).after (s.setLock_calm _)) ?_)
    exact .iteFst ((State.lockSuccess_calm _).after (s.setLock_calm _)) (s.setLock_calm _)
  · split
    · exact .iteFst (s.lockDrift_calm _) (.iteFst (s.lockDrift_calm _) (.refl _))
    · exact .iteFst (s.lockDrift_calm _) (.iteFst (s.lockDrift_calm _) (.refl _))
    · exact .iteFst (s.enterFault_calm _) (s.setLockState_calm _)

theorem State.limitDecide_calm : Calm s s.limitDecide.1 := (State.lockConsider_calm _ _ _).after (s.setLock_calm _)

theorem ruleWords_outside : ∀ a ∈ ruleWords, a < 0x30000 ∨ 0x40000 ≤ a := by decide

theorem State.evalRules_calm (e : RindEvents) : Calm s (s.evalRules e) :=
  ⟨fun a lo hi => (s.evalRules_ruled e).words a fun ha => by rcases ruleWords_outside a ha with h | h <;> omega,
    (s.evalRules_only e).wire (by decide), (congrArg PowerSt.phase (s.evalRules_unwoken e) :)⟩

theorem State.limitChange_calm : Calm s s.limitChange := (State.evalRules_calm _ _).after s.limitDecide_calm

theorem State.lockTimeout_calm : Calm s s.lockTimeout :=
  .ite ((State.evalRules_calm _ _).after ((State.enterFault_calm _ _).after s.limitDecide_calm)) ((State.evalRules_calm _ _).after s.limitDecide_calm)

theorem State.cmdResult_calm (code : Nat) : Calm s (s.cmdResult code) := .ite (s.setLock_calm _) ((State.orReg_calm _ (by decide) _).after (s.setLock_calm _))

theorem State.repolarise_calm (o c : Word) : Calm s (s.repolarise o c) := (s.repolarise_only o c).calm (by decide)

theorem State.startMove'_calm (kind : LockState) : Calm s (s.startMove' kind) :=
  (State.setLockState_calm _ _).after ((State.setLock_calm _ _).after ((State.repolarise_calm _ _ _).after (s.setLock_calm _)))

theorem State.lockMove_calm (kind : LockState) : Calm s (s.lockMove kind) :=
  .ite ((State.startMove'_calm _ _).after ((State.cmdResult_calm _ _).after s.limitChange_calm)) ((State.cmdResult_calm _ _).after s.limitChange_calm)

theorem State.commitLock_calm : Calm s s.commitLock := by
  unfold State.commitLock
  exact .ite (.ite ((State.lockEndMove_calm _ _ _).after s.lockTimeout_calm) s.lockTimeout_calm) (.refl _)

theorem State.lockResolved_calm : Calm s s.lockResolved.1 := .iteFst (.refl _) (.iteFst (s.enterFault_calm _) (s.setLock_calm _))

theorem State.lockLoaded_calm : Calm s s.lockLoaded := by
  unfold State.lockLoaded
  extract_lets cfg src s0 r told s1
  have resolved : Calm s r.1 := (State.lockResolved_calm _).after ((State.repolarise_calm _ _ _).after (s.setLock_calm _))
  have ruled : Calm s s1 := (State.evalRules_calm _ _).after (.ite resolved ((State.lockNotice_calm _).after resolved))
  exact .ite ((State.lockMove_calm _ _).after ruled) ruled

end

/-! ### Sequences, comparators and domains -/

section
variable (s : State)

theorem aseqBase_outside (x : Conv) (n : Nat) : aseqBase x + n < 0x30000 ∨ 0x40000 ≤ aseqBase x + n := by
  unfold aseqBase
  omega

theorem State.seqFlag_calm (x : Conv) (i : Nat) : Calm s (s.seqFlag x i) := by
  refine (s.seqFlag_words x i).calm (fun a ha => ?_) (s.seqFlag_only x i) (by decide)
  rcases List.mem_cons.1 ha with h | h
  · exact h ▸ aseqBase_outside x _
  · exact List.mem_singleton.1 h ▸ aseqBase_outside x _

theorem State.seqFlags_calm (l : List Conv) (i : Nat) : Calm s (s.seqFlags l i) := .fold (fun t x => t.seqFlag_calm x i) (.refl s)

theorem State.setSeq_calm (x : Conv) (inj : Bool) (q : SeqSt) : Calm s (s.setSeq x inj q) := (s.setSeq_only x inj q).calm (by decide)

theorem State.firstRequest_calm (x : Conv) (inj : Bool) (c : Nat) : Calm s (s.firstRequest x inj c) := (s.firstRequest_only x inj c).calm (by decide)

theorem State.preempt_calm (c : Nat) (x : Conv) : Calm s (s.preempt c x) := by
  have aborts : Calm s ((s.members x false).foldl (State.abortJobs · c) s) := .fold (fun t y => (t.abortJobs_only c y).calm (by decide)) (.refl s)
  exact .ite ((State.seqFlags_calm _ _ _).after ((State.setSeq_calm _ _ _ _).after aborts)) (.refl _)

theorem State.acceptInj_calm (x : Conv) (c : Nat) (spec : Bool) : Calm s (s.acceptInj x c spec) :=
  .ite (.fold (fun t y => t.preempt_calm c y) ((State.firstRequest_calm _ _ _ _).after (s.setSeq_calm _ _ _))) (s.seqFlags_calm _ _)

theorem State.acceptReg_calm (x : Conv) (c : Nat) (spec : Bool) : Calm s (s.acceptReg x c spec) := by
  have requested (q : SeqSt) : Calm s ((s.setSeq x false q).firstRequest x false c) := (State.firstRequest_calm _ _ _ _).after (s.setSeq_calm _ _ _)
  unfold State.acceptReg
  dsimp only
  split
  · exact .ite ((State.preempt_calm _ _ _).after (requested _)) (requested _)
  · exact .ite (.refl _) (.ite ((State.preempt_calm _ _ _).after (requested _)) (.ite (s.setSeq_calm _ _ _) (requested _)))
  · exact s.seqFlags_calm _ _

theorem State.sequenceTrigger_calm (x : Conv) (inj : Bool) : Calm s (s.sequenceTrigger x inj) := by
  unfold State.sequenceTrigger
  dsimp only
  split
  · exact .refl _
  · exact .ite (s.setSeq_calm _ _ _) (.ite ((State.acceptInj_calm _ _ _ _).after (s.setSeq_calm _ _ _))
      ((State.acceptReg_calm _ _ _ _).after (s.setSeq_calm _ _ _)))

theorem State.earlierTriggers_calm : Calm s s.earlierTriggers := by
  unfold State.earlierTriggers
  dsimp only
  refine .fold (fun t p => t.setSeq_calm _ _ _) (.fold (fun t _ => ?_) (.refl s))
  split
  · exact t.sequenceTrigger_calm _ _
  · exact .refl _

theorem chopWords_outside : ∀ a ∈ chopWords, a < 0x30000 ∨ 0x40000 ≤ a := by decide

theorem State.restartCmp_calm (c : Fin 16) : Calm s (s.restartCmp c) := by
  have again : Calm s (s.setCmp c { startAt := s.now }) := (s.setCmp_only _ _).calm (by decide)
  exact .ite (.fold (fun t n => (t.chopLeave_words n c.val).calm chopWords_outside (t.chopLeave_only n c.val) (by decide)) again) again

theorem State.restartCmps_calm (x : Conv) : Calm s (s.restartCmps x) := .fold (fun t c => .ite (t.restartCmp_calm c) (.refl _)) (.refl s)

theorem State.loadCmps_calm : Calm s s.loadCmps := (State.restartCmps_calm _ _).after (s.restartCmps_calm _)

theorem State.settleAll_calm : Calm s s.settleAll :=
  .fold (fun t k => (t.settlePair_words k).calm (by decide) (t.settlePair_only k) (by decide)) (.refl s)

/-- A change of the register list that keeps the words of the wheel block. -/
theorem State.regs_calm {l : List (Nat × Word)} (h : ∀ a, 0x30000 ≤ a → a < 0x40000 → Sparse.get resetWord l a = s.reg a) :
    Calm s { s with regs := l } := ⟨h, rfl, rfl⟩

theorem State.clearResults_calm (x : Conv) : Calm s (s.clearResults x) := by
  refine s.regs_calm fun a lo hi => Sparse.get_filter (p := fun b => !(decide (aseqBase x + 0x400 ≤ b) && decide (b < aseqBase x + 0x400 + 0x200))) _ ?_
  have : ¬ aseqBase x + 0x400 ≤ a := by
    unfold aseqBase
    omega
  simp [this]

/-- A change of the entries of some keys alone leaves what the other keys read as. -/
theorem Sparse.get_filterMap {α : Type} {d : Nat → α} {f : Nat × α → Option (Nat × α)} (hk : ∀ p q, f p = some q → q.1 = p.1) {a : Nat}
    (ha : ∀ v, f (a, v) = some (a, v)) (l : List (Nat × α)) : Sparse.get d (l.filterMap f) a = Sparse.get d l a := by
  induction l with
  | nil => rfl
  | cons p t ih =>
    obtain ⟨b, v⟩ := p
    by_cases hb : a = b
    · subst hb
      rw [List.filterMap_cons_some (ha v)]
      simp [Sparse.get]
    · cases hf : f (b, v) with
      | none => rw [List.filterMap_cons_none hf, ih, Sparse.get, if_neg hb]
      | some q =>
        have key : q.1 = b := hk _ _ hf
        rw [List.filterMap_cons_some hf, Sparse.get, Sparse.get, if_neg hb, if_neg (key ▸ hb), ih]

theorem State.clearWords_calm {lo hi : Nat} (h : 0x40000 ≤ lo) : Calm s (s.clearWords lo hi) := by
  refine s.regs_calm fun a alo ahi => Sparse.get_filterMap (fun p q hq => ?_) (fun v => if_neg (by omega)) _
  dsimp only at hq
  split at hq
  · split at hq
    · cases hq
    · cases hq
      rfl
  · cases hq
    rfl

theorem State.stopFusion_calm : Calm s s.stopFusion :=
  .ite ((s.setFus_only _).calm (by decide)) ((State.clearWords_calm _ (by decide)).after ((s.setFus_only _).calm (by decide)))

theorem State.converterOff_calm (x : Conv) : Calm s (s.converterOff x) := by
  have stopped (t : State) (inj : Bool) (c : Nat) : Calm t (t.stopSeq x inj c) := (t.stopSeq_only _ _ _).calm (by decide)
  exact (State.restartCmps_calm _ _).after ((State.clearResults_calm _ _).after (((State.setAdc_only _ _ _).calm (by decide)).after
    ((stopped _ _ _).after (stopped s _ _))))

theorem State.commitDomains_calm (o c : Word) : Calm s (s.commitDomains o c) := by
  unfold State.commitDomains
  extract_lets off s1 s12 s2 s3 on6
  have h1 : Calm s s1 := .ite s.earlierTriggers_calm (.refl _)
  have h12 : Calm s s12 := .ite ((State.converterOff_calm _ _).after h1) h1
  have h2 : Calm s s2 := .ite ((State.converterOff_calm _ _).after h12) h12
  have h3 : Calm s s3 := .ite ((State.stopFusion_calm _).after h2) h2
  refine ((State.dropTriggers_only _).calm (by decide)).after (Calm.after (State.setPower_calm _ ?_) h3)
  rfl

theorem State.endTest_calm (unit : Nat) : Calm s (s.endTest unit) := by
  refine (State.notice_calm _ _ _).after ?_
  split
  · exact ⟨fun _ _ _ => rfl, rfl, rfl⟩
  · exact ⟨fun _ _ _ => rfl, rfl, rfl⟩
  · exact ⟨fun _ _ _ => rfl, rfl, rfl⟩

theorem State.commitPower_calm (o c : Nat → Word) : Calm s (s.commitPower o c) := by
  unfold State.commitPower
  extract_lets a off s1 s2 s3 s4
  have h1 : Calm s s1 := .ite (s.endTest_calm _) (.refl _)
  have h2 : Calm s s2 := .ite ((State.endTest_calm _ _).after h1) h1
  have h3 : Calm s s3 := .ite ((State.endTest_calm _ _).after h2) h2
  have h4 : Calm s s4 := .ite h3 ((State.commitDomains_calm _ _ _).after h3)
  refine .ite (Calm.after (State.setPower_calm _ ?_) h4) h4
  rfl

theorem State.restored_calm (c : BiasSt) (n : NandSt) (b : BatSt) (h : HealthSt) :
    Calm s { s with bias := c, nand := n, bat := b, health := h } := ⟨fun _ _ _ => rfl, rfl, rfl⟩

/-- What the blocks do in the load-commit cycle. -/
theorem State.loadBlocks_calm (o : Nat → Word) : Calm s (s.loadBlocks o) := by
  unfold State.loadBlocks
  extract_lets s0 s1 s2 s3 s4
  have h0 : Calm s s0 := s.commitPower_calm _ _
  have h1 : Calm s s1 := ((State.autostartTimers_only _).calm (by decide)).after (((State.loadConverter_only _ _).calm (by decide)).after
    (((State.loadConverter_only _ _).calm (by decide)).after h0))
  have h2 : Calm s s2 := ((State.commitRind_only _ _ _).calm (by decide)).after (((State.loadDma_only _).calm (by decide)).after h1)
  have h3 : Calm s s3 := (State.lockLoaded_calm _).after ((State.commitLock_calm _).after h2)
  have h4 : Calm s s4 := .ite ((State.presenceStep_calm _ _).after h3) h3
  have settled : Calm s (s4.loadCmps).settleAll := (State.settleAll_calm _).after ((State.loadCmps_calm _).after h4)
  exact (State.restored_calm _ _ _ _ _).after settled

theorem State.bootAdvise_calm (slot : Nat) : Calm s (s.bootAdvise slot) := by
  have advised (t : State) (on : Bool) (b unit : Nat) : Calm t (if on then t.advise b unit else t) := .ite (t.advise_calm _ _) (.refl _)
  unfold State.bootAdvise
  extract_lets f s1 s2 s3 s4
  exact ((((advised s _ _ _).trans (advised s1 _ _ _)).trans (advised s2 _ _ _)).trans (advised s3 _ _ _)).trans (advised s4 _ _ _)

end

end Sys2Proof.Machine
end

section
/-!
PROOFS. Which runs the NAND takes up: the log, the records and the upkeep of the cave begin runs of their own kinds alone
(R427 to R443).
-/

namespace Sys2Proof.Machine

theorem State.hasJob_iff {s : State} {k : JobKind} : s.hasJob k = true ↔ ∃ j ∈ s.nand.jobs, j.kind = k := by simp [State.hasJob]

/-- Only runs of the kinds p are new. -/
def Begins (p : JobKind → Bool) (s t : State) : Prop := ∀ k, p k = false → t.hasJob k = true → s.hasJob k = true

section
variable {p q : JobKind → Bool} {k s t u : State}

theorem Begins.refl (p : JobKind → Bool) (s : State) : Begins p s s := fun _ _ h => h

theorem Begins.after (h : Begins p s t) (hk : Begins p k s) : Begins p k t := fun j hj ht => hk j hj (h j hj ht)

theorem Begins.mono (h : Begins p s t) (hpq : ∀ k, p k = true → q k = true) : Begins q s t := fun j hj ht =>
  h j (by
    cases hp : p j with
    | false => rfl
    | true => exact absurd (hpq j hp) (by simp [hj])) ht

theorem Begins.ite {c : Prop} [Decidable c] (ht : Begins p s t) (hu : Begins p s u) : Begins p s (if c then t else u) := by
  split <;> assumption

theorem Begins.iteSnd {α : Type} {c : Prop} [Decidable c] {a b : α × State} (ha : Begins p s a.2) (hb : Begins p s b.2) :
    Begins p s (if c then a else b).2 := by
  split <;> assumption

/-- A run whose kind is not among the new ones does not appear. -/
theorem Begins.none (h : Begins p s t) {j : JobKind} (hp : p j = false) (hs : s.hasJob j = false) : t.hasJob j = false :=
  Bool.eq_false_iff.2 fun ht => absurd (h j hp ht) (by simp [hs])

theorem Begins.of_jobs (p : JobKind → Bool) (h : ∀ j ∈ t.nand.jobs, ∃ i ∈ s.nand.jobs, i.kind = j.kind) : Begins p s t := fun j _ ht => by
  obtain ⟨x, hx, hj⟩ := State.hasJob_iff.1 ht
  obtain ⟨i, hi, hij⟩ := h x hx
  exact State.hasJob_iff.2 ⟨i, hi, hij.trans hj⟩

theorem Begins.of_eq (p : JobKind → Bool) (h : t.nand.jobs = s.nand.jobs) : Begins p s t := .of_jobs p fun j hj => ⟨j, h ▸ hj, rfl⟩

/-- An operation that does not touch the NAND begins nothing. -/
theorem Only.begins {l : List Part} (h : Only l s t) (p : JobKind → Bool) (hn : .nand ∉ l) : Begins p s t :=
  .of_eq p (congrArg NandSt.jobs (h .nand hn) :)

end

section
variable (s : State)

theorem State.addJob_begins {p : JobKind → Bool} {kind : JobKind} (h : p kind = true) (prio : Nat) (todo : List NandOp) :
    Begins p s (s.addJob kind prio todo) := fun k hk ht => by
  obtain ⟨j, hj, rfl⟩ := State.hasJob_iff.1 ht
  rw [State.addJob_jobs] at hj
  rcases List.mem_append.1 hj with hj | hj
  · exact State.hasJob_iff.2 ⟨j, hj, rfl⟩
  · cases List.mem_singleton.1 hj
    simp [h] at hk

theorem State.nandPick_begins (p : JobKind → Bool) : Begins p s s.nandPick := .of_eq p s.nandPick_jobs

theorem State.extendJob_begins {p : JobKind → Bool} {kind : JobKind} (h : p kind = true) (prio : Nat) (ops : List NandOp) :
    Begins p s (s.extendJob kind prio ops) := by
  unfold State.extendJob
  refine .ite ((State.nandPick_begins _ p).after (.of_jobs p fun j hj => ?_)) (s.addJob_begins h prio ops)
  obtain ⟨i, hi, rfl⟩ := List.mem_map.1 hj
  refine ⟨i, hi, ?_⟩
  split <;> rfl

theorem State.hasJob_dropJob (kind : JobKind) : (s.dropJob kind).hasJob kind = false := by
  simp [State.hasJob, State.dropJob]

/-! ### The log and the records -/

/-- The runs of the log and of the records. -/
def isWriting : JobKind → Bool
  | .logProgram => true
  | .recWrite => true
  | _ => false

theorem State.startLogProgram_begins {p : JobKind → Bool} (h : p .logProgram = true) : Begins p s s.startLogProgram := by
  have opened : Begins p s s.openLogBlock.2 := s.openLogBlock_only.begins p (by decide)
  unfold State.startLogProgram
  refine .ite (.refl p s) ?_
  extract_lets r
  have block : Begins p s r.2 := by
    unfold r
    split
    · exact .iteSnd (.refl p s) opened
    · exact opened
  split
  · exact (State.addJob_begins _ h _ _).after (((Only.set_cave _ _).begins p (by decide)).after block)
  · exact block

theorem State.flushLog_begins {p : JobKind → Bool} (h : p .logProgram = true) : Begins p s s.flushLog := by
  unfold State.flushLog
  exact .ite (.refl p s) (.ite ((State.startLogProgram_begins _ h).after ((Only.set_cave s _).begins p (by decide)))
    ((Only.set_cave s _).begins p (by decide)))

theorem State.logEntry_begins {p : JobKind → Bool} (h : p .logProgram = true) (src : Nat) (payload : List Byte) (urgent : Bool) :
    Begins p s (s.logEntry src payload urgent).2 := by
  have dropped : Begins p s s.logDropped := s.logDropped_only.begins p (by decide)
  unfold State.logEntry
  extract_lets size fits s1 r now
  have appended : Begins p s r.2 := ((State.appendLog_only _ _ _).begins p (by decide)).after (.ite (.refl p s) (s.flushLog_begins h))
  exact .iteSnd dropped (.iteSnd (.ite ((State.flushLog_begins _ h).after appended) appended) dropped)

theorem State.startRecWrite_begins {p : JobKind → Bool} (h : p .recWrite = true) : Begins p s s.startRecWrite := by
  unfold State.startRecWrite
  refine .ite ?_ (.refl p s)
  split
  · exact .refl p s
  · split
    · exact .refl p s
    next b k s1 hs =>
      exact (State.addJob_begins _ h _ _).after (((Only.set_cave _ _).begins p (by decide)).after ((s.allocSlot_only false hs).begins p (by decide)))

theorem State.recordWrite_begins {p : JobKind → Bool} (h : p .recWrite = true) (kind index version : Nat) (body : List Byte) :
    Begins p s (s.recordWrite kind index version body) := by
  unfold State.recordWrite
  exact .ite (.refl p s) ((State.startRecWrite_begins _ h).after ((Only.set_cave s _).begins p (by decide)))

theorem State.writeHealth_begins {p : JobKind → Bool} (h : p .recWrite = true) : Begins p s s.writeHealth := by
  unfold State.writeHealth
  exact .ite ((s.orReg_only _ _).begins p (by decide)) (s.recordWrite_begins h _ _ _ _)

theorem State.notifyOnce_begins (bit cause unit : Nat) : Begins isWriting s (s.notifyOnce bit cause unit) := by
  unfold State.notifyOnce
  exact .ite (.refl _ s) ((State.writeHealth_begins _ (p := isWriting) rfl).after ((State.logEntry_begins _ (p := isWriting) rfl _ _ _).after
    (((State.healthNotice_only _ _ _ _).begins _ (by decide)).after ((Only.set_health s _).begins _ (by decide)))))

theorem State.healthModel_begins : Begins isWriting s s.healthModel :=
  .ite (.refl _ s) ((State.notifyOnce_begins _ _ _ _).after ((Only.set_health s _).begins _ (by decide)))

theorem State.healthModelOk_begins : Begins isWriting s s.healthModelOk := by
  unfold State.healthModelOk State.unnotify
  exact .ite (.ite ((State.writeHealth_begins _ (p := isWriting) rfl).after (((Only.set_health _ _).begins _ (by decide)).after
    ((Only.set_health s _).begins _ (by decide)))) ((Only.set_health s _).begins _ (by decide))) (.refl _ s)

/-! ### Upkeep (R440 to R443) -/

/-- The runs of upkeep. -/
def isUpkeep : JobKind → Bool
  | .ctab => true
  | .collect _ => true
  | .retire _ => true
  | .move _ _ => true
  | .imgRefresh _ _ => true
  | _ => false

theorem State.writeCtab_begins : Begins isUpkeep s s.writeCtab := by
  unfold State.writeCtab
  extract_lets page
  have extended (c : CaveSt) (ops : List NandOp) : Begins isUpkeep s (({ s with cave := c } : State).extendJob .ctab 2 ops) :=
    (State.extendJob_begins _ rfl _ _).after ((Only.set_cave s c).begins _ (by decide))
  refine .ite (extended _ _) ?_
  split
  · exact extended _ _
  · exact .refl _ s

theorem State.startCopy_begins (slot gen : Nat) {p : JobKind → Bool} {kind : JobKind} (h : p kind = true) : Begins p s (s.startCopy slot gen kind) := by
  unfold State.startCopy
  split
  · exact .ite (.refl p s) (s.addJob_begins h _ _)
  · exact .refl p s

theorem State.startRetire_begins (b : Nat) : Begins isUpkeep s (s.startRetire b) := s.addJob_begins rfl _ _

theorem State.startMove_begins (src dst : Nat) : Begins isUpkeep s (s.startMove src dst) :=
  (State.addJob_begins _ rfl _ _).after ((Only.set_cave s _).begins _ (by decide))

theorem State.serviceBlock_begins (b : Nat) (dead : Bool) {t : State} (h : s.serviceBlock b dead = some t) : Begins isUpkeep s t := by
  have told (u : State) (c : CaveSt) : Begins isUpkeep u { u with cave := c } := (Only.set_cave u c).begins _ (by decide)
  unfold State.serviceBlock at h
  dsimp only at h
  split at h
  · split at h
    · split at h
      · cases h
      · split at h
        · cases h
          exact (told _ _).after (s.startCopy_begins _ _ rfl)
        · cases h
    · split at h
      · split at h
        · cases h
        · cases h
          exact s.startRetire_begins b
      · split at h
        · cases h
          exact (told _ _).after (s.startCopy_begins _ _ rfl)
        · cases h
  · split at h
    · have listed : Begins isUpkeep s (if b = s.cave.ctabBlock ∨ dead = false then s.writeCtab else s) := .ite s.writeCtab_begins (.refl _ s)
      split at h
      · cases h
        exact (State.startRetire_begins _ b).after listed
      · cases h
        exact (told _ _).after listed
    · split at h
      · cases h
      · split at h
        · obtain ⟨d, -, rfl⟩ := Option.map_eq_some_iff.1 h
          exact s.startMove_begins b d
        · split at h
          · cases h
            exact s.startRetire_begins b
          · cases h
            exact told _ _

theorem State.serviceFirst_begins (dead : Bool) (l : List Nat) {t : State} (h : s.serviceFirst dead l = some t) : Begins isUpkeep s t := by
  induction l with
  | nil => cases h
  | cons b rest ih =>
    rw [State.serviceFirst] at h
    split at h
    next hb =>
      cases h
      exact s.serviceBlock_begins b dead hb
    next => exact ih h

theorem State.caveService_begins : Begins isUpkeep s s.caveService := by
  unfold State.caveService
  refine .ite (.refl _ s) ?_
  split
  next h => exact s.serviceFirst_begins _ _ h
  next =>
    cases hd : s.serviceFirst false s.cave.due with
    | none => exact .refl _ s
    | some t => exact s.serviceFirst_begins _ _ hd

theorem State.collectIfLow_begins : Begins isUpkeep s s.collectIfLow := by
  unfold State.collectIfLow
  refine .ite (.of_jobs _ fun j hj => ?_) (.ite ?_ (.refl _ s))
  · obtain ⟨i, hi, rfl⟩ := List.mem_map.1 hj
    refine ⟨i, hi, ?_⟩
    split <;> rfl
  · split
    · exact .refl _ s
    · split
      next hs => exact (State.addJob_begins _ rfl _ _).after ((s.collectOps_only _ hs).begins _ (by decide))
      next => exact .refl _ s

end

end Sys2Proof.Machine
end

section
/-!
PROOFS. The load commit, the model, and the repair of images (O38).
-/

namespace Sys2Proof.Machine

/-! ### The bank of a load commit -/

/-- The keys of a list rise. -/
def Rising {α : Type} (l : List (Nat × α)) : Prop := l.Pairwise (·.1 < ·.1)

theorem Sparse.mem_insert {α : Type} {l : List (Nat × α)} {a : Nat} {v : α} {p : Nat × α} (h : p ∈ Sparse.insert l a v) : p.1 = a ∨ p ∈ l := by
  induction l with
  | nil => exact .inl (by simp_all [Sparse.insert])
  | cons q t ih =>
    obtain ⟨b, w⟩ := q
    rw [Sparse.insert] at h
    split at h
    · rcases List.mem_cons.1 h with rfl | h
      · exact .inl rfl
      · exact .inr h
    · split at h
      · rcases List.mem_cons.1 h with rfl | h
        · exact .inl rfl
        · exact .inr (.tail _ h)
      · rcases List.mem_cons.1 h with rfl | h
        · exact .inr (.head _)
        · exact (ih h).imp_right (.tail _)

theorem Rising.insert {α : Type} {l : List (Nat × α)} (h : Rising l) (a : Nat) (v : α) : Rising (Sparse.insert l a v) := by
  induction l with
  | nil => exact List.pairwise_singleton _ _
  | cons q t ih =>
    obtain ⟨b, w⟩ := q
    have hq := List.pairwise_cons.1 h
    rw [Sparse.insert]
    split
    next hab =>
      refine List.pairwise_cons.2 ⟨fun p hp => ?_, h⟩
      rcases List.mem_cons.1 hp with rfl | hp
      · exact hab
      · exact Nat.lt_trans hab (hq.1 p hp)
    next hab =>
      split
      next he => exact List.pairwise_cons.2 ⟨fun p hp => he ▸ hq.1 p hp, hq.2⟩
      next he =>
        refine List.pairwise_cons.2 ⟨fun p hp => ?_, ih hq.2⟩
        rcases Sparse.mem_insert hp with hp | hp
        · dsimp only
          omega
        · exact hq.1 p hp

theorem applyWrites_rising (base : Nat → Word) (ws : List ConfigWrite) : Rising (applyWrites base ws) := by
  have step (l : List (Nat × Word)) (hl : Rising l) : Rising (ws.foldl (fun l x =>
      Sparse.insert l x.addr (((Sparse.get base l x.addr &&& ~~~BitVec.ofNat 32 (rwsMask x.addr))) |||
        (((Sparse.get base l x.addr &&& x.keep) ||| x.value) &&& BitVec.ofNat 32 (rwsMask x.addr)))) l) := by
    induction ws generalizing l with
    | nil => exact hl
    | cons x t ih => exact ih _ (hl.insert _ _)
  exact step [] List.Pairwise.nil

/-- Writing a bank of rising keys leaves the bank over what was there. -/
theorem State.setBank_reg {bank : List (Nat × Word)} (h : Rising bank) (s : State) (a : Nat) :
    (bank.foldl (fun s p => s.setReg p.1 p.2) s).reg a = Sparse.get s.reg bank a := by
  induction bank generalizing s with
  | nil => rfl
  | cons p t ih =>
    have hp := List.pairwise_cons.1 h
    rw [List.foldl_cons, ih hp.2, Sparse.get]
    split
    next e =>
      subst e
      rw [Sparse.get_of_lt (fun q hq => hp.1 q hq), State.reg_setReg_same]
    next e => exact Sparse.get_dflt t (s.reg_setReg_other _ e)

/-! ### What follows the load commit -/

theorem State.loadModel_boot (s : State) : ∃ m, s.loadModel.boot = { s.boot with model := m } := by
  unfold State.loadModel
  split
  · exact ⟨_, rfl⟩
  split
  · exact ⟨0, ((State.setFus_only _ _) .boot (by decide) :)⟩
  · refine ⟨1, ?_⟩
    have read := (State.startModelRead_only _ s.boot.modelSlot false).after ((State.dropJobs_only _ (fun k => match k with
      | .model _ _ => true
      | _ => false)).after (({ s with boot := { s.boot with model := 1 } } : State).setFus_only { s.fus.halt with mstate := .loading, weights := [] }))
    exact (read .boot (by decide) :)

/-- The tail of a load commit: the cave mounts, and of the boot state only the model and the repair change. -/
theorem State.loadTail_spec (s : State) (slot : Nat) :
    (∃ m r, (s.loadTail slot).boot = { s.boot with model := m, repair := r }) ∧ (s.loadTail slot).cave.mode = .mounting ∧ Calm s (s.loadTail slot) := by
  unfold State.loadTail
  extract_lets s2 s3 src s4 s5 other code s6
  have boot4 : s4.boot = s.boot :=
    ((Only.ite (((State.clockNotice_only _).after (State.setPower_only s3 _)).among (by decide)) (.refl _ _) :
      Only [.regs, .power, .link, .setAt, .setNow] s3 s4).after ((State.logOf_only s2 _ _).after (s.bootAdvise_only slot))) .boot (by decide)
  have calm4 : Calm s s4 := by
    have h3 : Calm s s3 := (State.logOf_calm _ _ _).after (s.bootAdvise_calm slot)
    refine .ite ((State.clockNotice_calm _).after (Calm.after (State.setPower_calm _ ?_) h3)) h3
    rfl
  have mounted : Only [.boot, .nand, .fus] s4.startMounting s5 := State.loadModel_only _
  have calm5 : Calm s s5 := (mounted.calm (by decide)).after (((State.startMounting_only s4).calm (by decide)).after calm4)
  have mode5 : s5.cave.mode = .mounting := (congrArg CaveSt.mode (mounted .cave (by decide)) :)
  obtain ⟨m, boot5⟩ := s4.startMounting.loadModel_boot
  have boot5 : s5.boot = { s.boot with model := m } := boot5.trans (by rw [show s4.startMounting.boot = s4.boot from rfl, boot4])
  have copied : Only [.nand] s5 s6 := s5.startCopy_only _ _ _
  have boot6 : s6.boot = { s.boot with model := m } := (copied .boot (by decide)).trans boot5
  have mode6 : s6.cave.mode = .mounting := (congrArg CaveSt.mode (copied .cave (by decide))).trans mode5
  have calm6 : Calm s s6 := (copied.calm (by decide)).after calm5
  clear_value s5 s6
  split
  · split
    · exact ⟨⟨m, true, congrArg (fun b => { b with repair := true }) boot6⟩, mode6,
        ((Only.set_boot s6 _).calm (by decide)).after calm6⟩
    · exact ⟨⟨m, s.boot.repair, boot6⟩, mode6, calm6⟩
  · exact ⟨⟨m, s.boot.repair, boot5⟩, mode5, calm5⟩

/-- What a load commit writes before RUN: the bank, the SRAM, and what it knows of the copy. -/
def State.loadWritten (s : State) (slot : Nat) (copy : ImgCopy) (base : State) (bank : List (Nat × Word)) : State :=
  let s1 := bank.foldl (fun s p => s.setReg p.1 p.2) base
  let s2 := (s.candidateSram copy).foldl (fun s p => s.setSramBytes p.1 p.2) s1
  { s2 with boot := { s2.boot with
      stage := .loaded, loaded := true, cands := [], copy := some slot, fallback := decide (s.boot.first ≠ some slot)
      imgVer := wordAt (s.copyHead copy) 0x10, imgBuild := wordAt (s.copyHead copy) 0x14, imgGen := BitVec.ofNat 32 copy.gen
      modelSlot := slot, modelPos := (s.modelSection copy).map Section.pos, modelDigest := ((s.modelSection copy).map Section.digest).getD [] } }

theorem State.loadCommit_taken {s base : State} {slot : Nat} {copy : ImgCopy} (hp : s.power.phase = .startup) (hs : s.boot.stage = .passed slot)
    (hc : s.copyIn slot = some copy) (hb : base = (s.defaultRws 0xD0000 0xF0000).defaultRws 0x110000 0x120000)
    (hr : s.loadRefused copy (Sparse.get base.reg (applyWrites base.reg (s.candidateWrites copy))) = false) :
    s.loadCommit = ((((s.loadWritten slot copy base (applyWrites base.reg (s.candidateWrites copy))).toRun).loadBlocks s.reg).loadTail slot).bootNotice := by
  subst hb
  unfold State.loadCommit
  rw [hp, hs]
  dsimp only
  rw [hc]
  exact if_neg (by simp [hr])

theorem State.loadWritten_reg (s : State) (slot : Nat) (copy : ImgCopy) (base : State) {bank : List (Nat × Word)} (h : Rising bank) (a : Nat) :
    (s.loadWritten slot copy base bank).reg a = Sparse.get base.reg bank a := by
  have stored : Only [.sram] (bank.foldl (fun s p => s.setReg p.1 p.2) base)
      ((s.candidateSram copy).foldl (fun s p => s.setSramBytes p.1 p.2) (bank.foldl (fun s p => s.setReg p.1 p.2) base)) :=
    .foldl (fun t (p : Nat × List Byte) => t.setSramBytes_only p.1 p.2) _ _
  exact (congrArg (Sparse.get resetWord · a) (stored .regs (by decide)) :).trans (State.setBank_reg h base a)

/-! ### The model -/

/-- The state of the model that runs. -/
def State.model (s : State) : ModelState × Word × Nat × List Byte := (s.fus.mstate, s.fus.frameNo, s.fus.mfail, s.fus.weights)

theorem Only.model {l : List Part} {s t : State} (h : Only l s t) (hf : .fus ∉ l) : Keeps State.model s t :=
  congrArg (fun f : FusSt => (f.mstate, f.frameNo, f.mfail, f.weights)) (h .fus hf)

section
variable (s : State)

theorem State.readFuscals_model : Keeps State.model s s.readFuscals := by
  unfold State.readFuscals
  refine .fold (fun t n => ?_) rfl
  unfold State.readFuscal
  split
  · exact .ite rfl rfl
  · exact rfl

theorem State.gridMode_model : Keeps State.model s s.gridMode := by
  unfold State.gridMode
  exact .ite (.ite rfl rfl) (.ite rfl rfl)

theorem State.modelStart_model : s.modelStart.model = (.running, 0, 0, s.fus.weights) := by
  unfold State.modelStart
  extract_lets m seeds src s1 s2 s3 s4
  have h2 : Keeps State.model s1 s2 := ((State.setReg_only s1 _ _).model (by decide)).trans ((State.healthModelOk_only _).model (by decide))
  have h3 : Keeps State.model s1 s3 := .fold (fun t n => rfl) h2
  have h4 : Keeps State.model s1 s4 := .ite (h3.trans s3.readFuscals_model) h3
  exact ((h4.trans ((State.logOf_only _ _ _).model (by decide))).trans (State.gridMode_model _) :)

theorem State.modelStart_begins : Begins isWriting s s.modelStart := by
  unfold State.modelStart
  extract_lets m seeds src s1 s2 s3 s4
  have h1 : Begins isWriting s s1 := (s.setFus_only _).begins _ (by decide)
  have h2 : Begins isWriting s s2 := (State.healthModelOk_begins _).after (((State.setReg_only _ _ _).begins _ (by decide)).after h1)
  have h3 : Begins isWriting s s3 :=
    (Only.begins (.foldl (fun t n => ((State.setImu_only _ _ _).after (t.imuRestart_only n)).among (by decide)) _ s2 : Only [.fus] s2 s3) _
      (by decide)).after h2
  have h4 : Begins isWriting s s4 := .ite ((s3.readFuscals_only.begins _ (by decide)).after h3) h3
  exact ((State.gridMode_only _).begins _ (by decide)).after ((State.logEntry_begins _ (p := isWriting) rfl _ _ _).after h4)

theorem State.healthModel_known : s.healthModel.health.model = true := by
  unfold State.healthModel
  split
  · assumption
  · unfold State.notifyOnce
    split
    · rfl
    · exact (congrArg HealthSt.model (((State.writeHealth_only _).after (State.logOf_only _ _ _)) .health (by decide)) :)

/-- A model that has failed: its state, no frame, and the health block knows. -/
theorem State.modelFailed_spec (code : Nat) :
    (s.modelFailed code).fus.mstate = .failed ∧ (s.modelFailed code).fus.head = none ∧ (s.modelFailed code).health.model = true ∧
      Begins isWriting s (s.modelFailed code) := by
  unfold State.modelFailed
  extract_lets src s1
  have told := State.logEntry_only s1.healthModel 2 (bytesLE 1 3 ++ bytesLE 1 s1.fus.mfail) true
  have fus := (told.after s1.healthModel_only) .fus (by decide)
  have health := (told .health (by decide) :)
  have begun : Begins isWriting s (s1.healthModel.logEntry 2 (bytesLE 1 3 ++ bytesLE 1 s1.fus.mfail) true).2 :=
    (State.logEntry_begins _ (p := isWriting) rfl _ _ _).after (s1.healthModel_begins.after ((s.setFus_only _).begins _ (by decide)))
  have known := (congrArg HealthSt.model health).trans s1.healthModel_known
  have tested := State.testWithoutFrame_only (s1.healthModel.logEntry 2 (bytesLE 1 3 ++ bytesLE 1 s1.fus.mfail) true).2
  generalize (s1.healthModel.logEntry 2 (bytesLE 1 3 ++ bytesLE 1 s1.fus.mfail) true).2 = u at *
  have mstate : u.fus.mstate = .failed := congrArg FusSt.mstate fus
  have head : u.fus.head = none := congrArg FusSt.head fus
  refine ⟨?_, ?_, (congrArg HealthSt.model (tested .health (by decide))).trans known, (tested.begins _ (by decide)).after begun⟩
  · unfold State.testWithoutFrame
    split <;> exact mstate
  · unfold State.testWithoutFrame
    split <;> exact head

end

/-- The one run is the one that has ended. -/
theorem State.finished_single {s : State} {j : NandJob} {p : JobKind → Bool} (h : s.nand.jobs = [j]) (hp : p j.kind = true) (hd : j.todo = []) :
    s.finished p = some j := by
  rw [State.finished, h]
  simp [hp, hd]

theorem State.finished_none {s : State} (p : JobKind → Bool) (h : s.nand.jobs = []) : s.finished p = none := by
  rw [State.finished, h]
  rfl

/-- A candidate noted as failed. -/
def State.failed (s : State) (slot code : Nat) : State :=
  { s with boot := if slot = 0 then { s.boot with errA := code } else { s.boot with errB := code } }

theorem State.loadCommit_gone {s : State} {slot : Nat} (hp : s.power.phase = .startup) (hs : s.boot.stage = .passed slot)
    (hc : s.copyIn slot = none) (hn : s.boot.cands = []) : s.loadCommit = (s.failed slot 0x0F).enterRecovery 3 := by
  have none_left : (s.failed slot 0x0F).boot.cands = [] := by
    dsimp only [State.failed]
    split <;> exact hn
  unfold State.loadCommit
  rw [hp, hs]
  dsimp only
  rw [hc]
  change (s.failed slot 0x0F).nextCandidate = _
  rw [State.nextCandidate, none_left]

/-- A model whose reads have ended and that is good, before it starts. -/
def State.modelTaken (s : State) (kind : JobKind) (p : List Byte) : State :=
  let s1 := s.dropJob kind
  (({ s1 with boot := { s1.boot with model := 2 } }).setFus { s1.fus with weights := p }).nandPick

theorem State.modelTaken_only (s : State) (kind : JobKind) (p : List Byte) : Only [.boot, .nand, .fus] s (s.modelTaken kind p) :=
  ((State.nandPick_only _).after ((State.setFus_only _ _).after ((Only.set_boot _ _).after (s.dropJob_only kind)))).among (by decide)

theorem State.modelTaken_spec (s : State) (kind : JobKind) (p : List Byte) :
    (s.modelTaken kind p).hasJob kind = false ∧ (s.modelTaken kind p).fus.weights = p ∧ (s.modelTaken kind p).boot.model = 2 :=
  have only := State.nandPick_only (({ s.dropJob kind with boot := { s.boot with model := 2 } } : State).setFus { s.fus with weights := p })
  ⟨(State.nandPick_begins _ fun _ => false).none rfl (s.hasJob_dropJob kind), (congrArg FusSt.weights (only .fus (by decide)) :),
    (congrArg BootSt.model (only .boot (by decide)) :)⟩

/-- A model whose reads have ended and that is not good, with its code. -/
def State.modelRefused (s : State) (kind : JobKind) (code : Nat) : State :=
  let s1 := s.dropJob kind
  { s1 with boot := { s1.boot with model := code } }

theorem State.modelRefused_only (s : State) (kind : JobKind) (code : Nat) : Only [.boot, .nand] s (s.modelRefused kind code) :=
  ((Only.set_boot _ _).after (s.dropJob_only kind)).among (by decide)

theorem State.modelLoadDone_good {s : State} {slot : Nat} {other : Bool} {p : List Byte} (hj : s.nand.jobs = [{ kind := .model slot other, prio := 1, todo := [] }])
    (hm : (s.dropJob (.model slot other)).modelPlain slot [] = .ok p) (hc : modelCode p = 0) :
    s.modelLoadDone = (s.modelTaken (.model slot other) p).modelStart := by
  unfold State.modelLoadDone
  rw [State.finished_single hj rfl rfl]
  dsimp only
  rw [hm]
  exact if_pos hc

theorem State.modelLoadDone_bad {s : State} {slot c : Nat} {bad : List Nat}
    (hj : s.nand.jobs = [{ kind := .model slot true, prio := 1, todo := [], bad := bad }])
    (hm : (s.dropJob (.model slot true)).modelPlain slot bad = .error c) :
    s.modelLoadDone = ((s.modelRefused (.model slot true) c).modelFailed 1).nandPick := by
  unfold State.modelLoadDone
  rw [State.finished_single hj rfl rfl]
  dsimp only
  rw [hm]
  rfl

/-- A rewrite has ended, before it is told. -/
def State.rewritten (s : State) (kind : JobKind) : State :=
  let s1 := s.dropJob kind
  { s1 with boot := { s1.boot with repair := false } }

theorem State.rewritten_only (s : State) (kind : JobKind) : Only [.boot, .nand] s (s.rewritten kind) :=
  ((Only.set_boot _ _).after (s.dropJob_only kind)).among (by decide)

theorem State.imageRepairEnd_ended {s : State} {slot : Nat} {f : Option Nat}
    (hj : s.nand.jobs = [{ kind := .repair slot, prio := 4, todo := [], failed := f }]) :
    s.imageRepairEnd = ((((s.rewritten (.repair slot)).notice 0x14 (bytesLE 1 4 ++ [0] ++ bytesLE 4 0)).logCave 4 0).caveService).nandPick := by
  unfold State.imageRepairEnd
  rw [State.finished_single hj rfl rfl]
  rfl

/-- Settles O38: the load commit writes the bank over the defaulted words, and nothing that follows it touches the wheel block; a model starts
or fails; a rewrite ends. -/
theorem loadAndRepair : Obligations.LoadAndRepair := by
  refine ⟨fun slot copy base => ?loaded, fun slot => ?gone, ?noCandidate, fun slot p => ?modelGood, fun slot c bad => ?modelBad, ?noModel,
    fun slot f => ?repaired, ?noRepair⟩
  case loaded =>
    refine .of (·.loadCommit) (fun _ _ => rfl) fun e _ ⟨hp, hs, hc, hb, hr⟩ => ?_
    rw [State.loadCommit_taken hp hs hc hb hr]
    have bank := e.loadWritten_reg slot copy base (applyWrites_rising base.reg (e.candidateWrites copy))
    generalize hw : e.loadWritten slot copy base (applyWrites base.reg (e.candidateWrites copy)) = w at bank ⊢
    have blocks := w.toRun.loadBlocks_calm e.reg
    have boot := (w.toRun.loadBlocks_only e.reg) .boot (by decide)
    generalize w.toRun.loadBlocks e.reg = u at blocks boot ⊢
    obtain ⟨⟨m, r, boot'⟩, mode, tail⟩ := u.loadTail_spec slot
    generalize u.loadTail slot = v at boot' mode tail ⊢
    have calm : Calm w.toRun v.bootNotice := (v.notice_calm _ _).after (tail.after blocks)
    have bootV : v.bootNotice.boot = { w.toRun.boot with model := m, repair := r } := (v.bootNotice_only .boot (by decide)).trans (boot ▸ boot')
    have mode' : v.bootNotice.cave.mode = .mounting := (congrArg CaveSt.mode (v.bootNotice_only .cave (by decide))).trans mode
    generalize v.bootNotice = t at calm bootV mode' ⊢
    rw [bootV]
    refine ⟨calm.phase, ?_, ?_, ?_, ?_, ?_, ?_, ?_, (congrArg LinkSt.can calm.wire :), mode', fun a lo hi => (calm.words a lo hi).trans (bank a)⟩
      <;> (rw [← hw]; rfl)
  case gone =>
    refine .of (·.loadCommit) (fun _ _ => rfl) fun e _ ⟨hp, hs, hc, hn⟩ => ?_
    rw [State.loadCommit_gone hp hs hc hn]
    have only := State.enterRecovery_only (e.failed slot 0x0F) 3
    obtain ⟨boot, phase, -⟩ := (e.failed slot 0x0F).enterRecovery_spec 3
    rw [boot]
    refine ⟨rfl, rfl, rfl, phase, ?_, ?_, only .sram (by decide)⟩
    · dsimp only [State.failed]
      split <;> rfl
    · by_cases h0 : slot = 0 <;> simp [State.failed, h0]
  case noCandidate =>
    refine .of (·.loadCommit) (fun _ _ => rfl) fun e h => ?_
    unfold State.loadCommit
    split
    next hp hs =>
      rw [hp, hs] at h
      simp at h
    next => rfl
  case modelGood =>
    refine .of (·.whileRunning (·.modelLoadDone)) (fun _ _ => rfl) fun e _ ⟨hr, hj, hm, hc⟩ => ?_
    have plain : (e.dropJob (.model slot false)).modelPlain slot [] = .ok p := by
      split at hm
      next hx => exact hx.trans (congrArg _ (of_decide_eq_true hm))
      next => cases hm
    rw [State.whileRunning_of hr, State.modelLoadDone_good hj plain hc]
    have read := e.modelTaken_only (.model slot false) p
    obtain ⟨gone, weights, status⟩ := e.modelTaken_spec (.model slot false) p
    generalize e.modelTaken (.model slot false) p = u at read gone weights status ⊢
    have started := u.modelStart_model
    have only := u.modelStart_only
    rw [State.model, Prod.mk.injEq, Prod.mk.injEq, Prod.mk.injEq] at started
    obtain ⟨mstate, frameNo, mfail, kept⟩ := started
    exact ⟨mstate, frameNo, mfail, kept.trans weights, (congrArg BootSt.model (only .boot (by decide))).trans status,
      u.modelStart_begins.none rfl gone, (only.after read) .wheels (by decide), (only.after read) .power (by decide)⟩
  case modelBad =>
    refine .of (·.whileRunning (·.modelLoadDone)) (fun _ _ => rfl) fun e _ ⟨hr, hj, hm⟩ => ?_
    have plain : (e.dropJob (.model slot true)).modelPlain slot bad = .error c := by
      split at hm
      next hx => exact hx.trans (congrArg _ (of_decide_eq_true hm))
      next => cases hm
    rw [State.whileRunning_of hr, State.modelLoadDone_bad hj plain]
    have read := e.modelRefused_only (.model slot true) c
    have gone : (e.modelRefused (.model slot true) c).hasJob (.model slot true) = false := e.hasJob_dropJob _
    have status : (e.modelRefused (.model slot true) c).boot.model = c := rfl
    generalize e.modelRefused (.model slot true) c = u at read gone status ⊢
    obtain ⟨mstate, head, health, begun⟩ := u.modelFailed_spec 1
    have failed := u.modelFailed_only 1
    generalize u.modelFailed 1 = v at mstate head health begun failed ⊢
    have only := v.nandPick_only
    exact ⟨(congrArg FusSt.mstate (only .fus (by decide))).trans mstate, (congrArg BootSt.model ((only.after failed) .boot (by decide))).trans status,
      (congrArg HealthSt.model (only .health (by decide))).trans health, (congrArg FusSt.head (only .fus (by decide))).trans head,
      ((v.nandPick_begins isWriting).after begun).none rfl gone, ((only.after failed).after read) .wheels (by decide),
      ((only.after failed).after read) .power (by decide)⟩
  case noModel =>
    refine .of (·.whileRunning (·.modelLoadDone)) (fun _ _ => rfl) fun e h => State.whileRunning_rest ?_
    unfold State.modelLoadDone
    rw [State.finished_none _ h]
  case repaired =>
    refine .of (·.whileRunning (·.imageRepairEnd)) (fun _ _ => rfl) fun e _ ⟨hr, hj, hm⟩ => ?_
    rw [State.whileRunning_of hr, State.imageRepairEnd_ended hj]
    have dropped := e.rewritten_only (.repair slot)
    have gone : (e.rewritten (.repair slot)).hasJob (.repair slot) = false := e.hasJob_dropJob _
    have ended : (e.rewritten (.repair slot)).boot = { e.boot with repair := false } := rfl
    generalize e.rewritten (.repair slot) = u at dropped gone ended ⊢
    have told := (State.logCave_only _ 4 0).after (u.notice_only 0x14 (bytesLE 1 4 ++ [0] ++ bytesLE 4 0))
    have begun : Begins isWriting u ((u.notice 0x14 (bytesLE 1 4 ++ [0] ++ bytesLE 4 0)).logCave 4 0) :=
      (State.logEntry_begins _ (p := isWriting) rfl _ _ _).after ((u.notice_only _ _).begins _ (by decide))
    generalize (u.notice 0x14 (bytesLE 1 4 ++ [0] ++ bytesLE 4 0)).logCave 4 0 = v at told begun ⊢
    have only := ((State.nandPick_only _).after v.caveService_only).after told
    have boot := (only .boot (by decide)).trans ended
    exact ⟨(congrArg BootSt.repair boot :), ((State.nandPick_begins _ isUpkeep).after v.caveService_begins).none rfl (begun.none rfl gone),
      (only.after dropped) .pages (by decide), (congrArg BootSt.copy boot :), (only.after dropped) .power (by decide),
      (only.after dropped) .wheels (by decide)⟩
  case noRepair =>
    refine .of (·.whileRunning (·.imageRepairEnd)) (fun _ _ => rfl) fun e h => State.whileRunning_rest ?_
    unfold State.imageRepairEnd
    rw [State.finished_none _ h]

end Sys2Proof.Machine
end

section
/-!
PROOFS. What the log, the records, the health block and the estimator leave of a mount: the cave's mode, and whether the health block and the
directory of packs have what the records hold; no ADVISE bit falls (R427, R486, R589, R596).
-/

namespace Sys2Proof.Machine

/-- The mode of the cave stays, the mount's results stay known, and no ADVISE bit falls. -/
structure Stands (s t : State) : Prop where
  mode : t.cave.mode = s.cave.mode
  packs : s.bat.dirReady = true → t.bat.dirReady = true
  health : s.health.mounted = true → t.health.mounted = true
  advice : ∀ n, s.bit 0x100004 n = true → t.bit 0x100004 n = true

section
variable {k s t u : State}

theorem Stands.refl (s : State) : Stands s s := ⟨rfl, id, id, fun _ => id⟩

/-- One more operation. -/
theorem Stands.after (h : Stands s t) (hk : Stands k s) : Stands k t :=
  ⟨h.mode.trans hk.mode, h.packs ∘ hk.packs, h.health ∘ hk.health, fun n => h.advice n ∘ hk.advice n⟩

theorem Stands.ite {c : Prop} [Decidable c] (ht : Stands s t) (hu : Stands s u) : Stands s (if c then t else u) := by
  split <;> assumption

theorem Stands.iteSnd {α : Type} {c : Prop} [Decidable c] {a b : α × State} (ha : Stands s a.2) (hb : Stands s b.2) :
    Stands s (if c then a else b).2 := by
  split <;> assumption

theorem Stands.fold {β : Type} {f : State → β → State} {xs : List β} (hf : ∀ s x, Stands s (f s x)) (h : Stands k s) : Stands k (xs.foldl f s) := by
  induction xs generalizing s with
  | nil => exact h
  | cons x xs ih => exact ih ((hf s x).after h)

/-- An operation that keeps the mode, among others of other parts. -/
theorem Only.stands {l : List Part} (h : Only l s t) (hl : (l.all fun p => decide (p ∉ [Part.regs, .bat, .health])) = true)
    (hm : t.cave.mode = s.cave.mode) : Stands s t := by
  have other (p : Part) (hp : p ∈ [Part.regs, .bat, .health]) : p ∉ l := fun hmem => by simpa [hp] using List.all_eq_true.1 hl p hmem
  exact ⟨hm, fun hd => (congrArg BatSt.dirReady (h .bat (other _ (by decide)))).trans hd,
    fun hd => (congrArg HealthSt.mounted (h .health (other _ (by decide)))).trans hd,
    fun n hn => (congrArg (fun r => bitOf (Sparse.get resetWord r 0x100004) n) (h .regs (other _ (by decide)))).trans hn⟩

/-- An operation on register words other than ADVISE. -/
theorem Words.stands {w : List Nat} {l : List Part} (hw : Words w s t) (ha : 0x100004 ∉ w) (h : Only l s t)
    (hl : (l.all fun p => decide (p ∉ [Part.cave, .bat, .health])) = true) : Stands s t := by
  have other (p : Part) (hp : p ∈ [Part.cave, .bat, .health]) : p ∉ l := fun hmem => by simpa [hp] using List.all_eq_true.1 hl p hmem
  exact ⟨congrArg CaveSt.mode (h .cave (other _ (by decide))), fun hd => (congrArg BatSt.dirReady (h .bat (other _ (by decide)))).trans hd,
    fun hd => (congrArg HealthSt.mounted (h .health (other _ (by decide)))).trans hd,
    fun n hn => (congrArg (bitOf · n) (hw 0x100004 ha)).trans hn⟩

end

section
variable (s : State)

theorem State.set_stands {c : CaveSt} {b : BatSt} {h : HealthSt} (hc : c.mode = s.cave.mode) (hb : s.bat.dirReady = true → b.dirReady = true)
    (hh : s.health.mounted = true → h.mounted = true) : Stands s { s with cave := c, bat := b, health := h } := ⟨hc, hb, hh, fun _ => id⟩

/-! ### Words and notices -/

theorem State.orReg_stands (a m : Nat) : Stands s (s.orReg a m) := by
  refine ⟨rfl, id, id, fun n hn => ?_⟩
  by_cases ha : a = 0x100004
  · subst ha
    rw [State.bit, bitOf, State.reg_orReg_same, BitVec.toNat_or, Nat.testBit_or, Bool.or_eq_true]
    exact .inl hn
  · exact (congrArg (bitOf · n) (s.reg_orReg_other m (Ne.symm ha))).trans hn

theorem State.satInc_stands {a : Nat} (h : a ≠ 0x100004) (hi lo : Nat) : Stands s (s.satInc a hi lo) :=
  (s.satInc_words a hi lo).stands (by simpa using Ne.symm h) (s.satInc_only a hi lo) (by decide)

theorem State.notice_stands (code : Nat) (p : List Byte) : Stands s (s.notice code p) :=
  (s.notice_words code p).stands (by decide) (s.notice_only code p) (by decide)

/-! ### The log and the records -/

theorem State.addJob_stands (kind : JobKind) (prio : Nat) (ops : List NandOp) : Stands s (s.addJob kind prio ops) :=
  (s.addJob_only kind prio ops).stands (by decide) (congrArg CaveSt.mode (s.addJob_only kind prio ops .cave (by decide)))

theorem State.openLogBlock_mode : s.openLogBlock.2.cave.mode = s.cave.mode := by
  unfold State.openLogBlock
  dsimp only
  split <;> rfl

theorem State.startLogProgram_mode : s.startLogProgram.cave.mode = s.cave.mode := by
  have opened := s.openLogBlock_mode
  unfold State.startLogProgram
  split
  · rfl
  extract_lets r
  have block : r.2.cave.mode = s.cave.mode := by
    unfold r
    split
    · split
      · rfl
      · exact opened
    · exact opened
  split
  · exact (congrArg CaveSt.mode (State.addJob_only _ _ _ _ .cave (by decide))).trans block
  · exact block

theorem State.startLogProgram_stands : Stands s s.startLogProgram :=
  s.startLogProgram_only.stands (by decide) s.startLogProgram_mode

theorem State.flushLog_stands : Stands s s.flushLog := by
  refine s.flushLog_only.stands (by decide) ?_
  unfold State.flushLog
  split
  · rfl
  split
  · exact State.startLogProgram_mode _
  · rfl

theorem State.appendLog_stands (src : Nat) (p : List Byte) : Stands s (s.appendLog src p).2 := (s.appendLog_only src p).stands (by decide) rfl

theorem State.logEntry_stands (src : Nat) (p : List Byte) (urgent : Bool) : Stands s (s.logEntry src p urgent).2 := by
  have dropped : Stands s s.logDropped := s.satInc_stands (by decide) 15 0
  unfold State.logEntry
  extract_lets size fits s1 r now
  have appended : Stands s r.2 := (State.appendLog_stands _ _ _).after (.ite (.refl s) s.flushLog_stands)
  exact .iteSnd dropped (.iteSnd (.ite ((State.flushLog_stands _).after appended) appended) dropped)

theorem State.allocSlot_mode {more : Bool} {r : (Nat × Nat) × State} (h : s.allocSlot more = some r) : r.2.cave.mode = s.cave.mode := by
  have opened (room : Bool) {t : State} (ht : (if room then some s else s.openRecBlock more) = some t) : t.cave.mode = s.cave.mode := by
    split at ht
    · cases ht
      rfl
    · unfold State.openRecBlock at ht
      split at ht
      · cases ht
      · obtain ⟨n, -, rfl⟩ := Option.map_eq_some_iff.1 ht
        rfl
  unfold State.allocSlot at h
  dsimp only at h
  split at h
  next hs =>
    split at h
    · cases h
      have same := opened _ hs
      exact same
    · cases h
  next => cases h

theorem State.startRecWrite_stands : Stands s s.startRecWrite := by
  refine s.startRecWrite_only.stands (by decide) ?_
  unfold State.startRecWrite
  split
  · split
    · rfl
    · split
      · rfl
      next hs => exact (congrArg CaveSt.mode (State.addJob_only _ _ _ _ .cave (by decide))).trans (s.allocSlot_mode hs)
  · rfl

theorem State.recordWrite_stands (kind index version : Nat) (body : List Byte) : Stands s (s.recordWrite kind index version body) := by
  unfold State.recordWrite
  exact .ite (.refl s) ((State.startRecWrite_stands _).after (s.set_stands (by rfl) id id))

theorem State.collectOps_mode {l : List (Nat × Nat)} {r : List NandOp × State} (h : s.collectOps l = some r) : r.2.cave.mode = s.cave.mode := by
  induction l generalizing s r with
  | nil =>
    cases h
    rfl
  | cons p l ih =>
    unfold State.collectOps at h
    dsimp only at h
    split at h
    · cases h
    next hs =>
      split at h
      · cases h
      next hl =>
        have last := (congrArg (Option.map Prod.snd) h :)
        exact (Option.some.inj last) ▸ (ih _ hl).trans (s.allocSlot_mode hs)

theorem State.collectIfLow_stands : Stands s s.collectIfLow := by
  refine s.collectIfLow_only.stands (by decide) ?_
  unfold State.collectIfLow
  split
  · rfl
  split
  · split
    · rfl
    · split
      next hs => exact (congrArg CaveSt.mode (State.addJob_only _ _ _ _ .cave (by decide))).trans (s.collectOps_mode hs)
      next => rfl
  · rfl

/-! ### The health block -/

theorem State.writeHealth_stands : Stands s s.writeHealth := .ite (s.orReg_stands _ _) (s.recordWrite_stands _ _ _ _)

theorem State.renewHealth_stands : Stands s s.renewHealth := .ite s.writeHealth_stands (.refl s)

theorem State.healthNotice_stands (code cause unit : Nat) : Stands s (s.healthNotice code cause unit) := s.set_stands rfl id id

theorem State.notifyOnce_stands (bit cause unit : Nat) : Stands s (s.notifyOnce bit cause unit) := by
  unfold State.notifyOnce
  exact .ite (.refl s) ((State.writeHealth_stands _).after ((State.logEntry_stands _ _ _ _).after ((State.healthNotice_stands _ _ _ _).after
    (s.set_stands rfl id id))))

theorem State.unnotify_stands (bit : Nat) : Stands s (s.unnotify bit) := by
  unfold State.unnotify
  exact .ite ((State.writeHealth_stands _).after (s.set_stands rfl id id)) (.refl s)

theorem State.advise_stands (b unit : Nat) : Stands s (s.advise b unit) :=
  .ite (s.orReg_stands _ _) ((State.logEntry_stands _ _ _ _).after ((State.healthNotice_stands _ _ _ _).after (s.orReg_stands _ _)))

theorem State.healthLife_stands : Stands s s.healthLife := by
  unfold State.healthLife
  extract_lets p src s1 excess s2
  have h1 : Stands s s1 := .ite ((State.notifyOnce_stands _ _ _ _).after (s.set_stands rfl id id))
    (.ite ((State.unnotify_stands _ _).after (s.set_stands rfl id id)) (.refl s))
  have h2 : Stands s s2 := .ite ((State.advise_stands _ _ _).after h1) h1
  exact (s2.set_stands rfl id (by exact id)).after h2

/-- The health block takes up what its record holds. -/
theorem State.healthMount_spec (body : Option (List Byte)) (existed : Bool) :
    Stands s (s.healthMount body existed) ∧ (s.healthMount body existed).health.mounted = true := by
  unfold State.healthMount
  split
  next hm => exact ⟨s.renewHealth_stands, s.renewHealth_stands.health hm⟩
  next =>
    cases body with
    | some b =>
      dsimp only
      generalize hh : HealthSt.mk .. = h2
      have mounted : h2.mounted = true := hh ▸ rfl
      have taken : Stands s ({ s with health := h2 } : State).healthLife :=
        (State.healthLife_stands _).after (s.set_stands rfl id fun _ => mounted)
      have known : ({ s with health := h2 } : State).healthLife.health.mounted = true := (State.healthLife_stands _).health mounted
      split
      · exact ⟨(State.writeHealth_stands _).after taken, (State.writeHealth_stands _).health known⟩
      · exact ⟨(State.renewHealth_stands _).after taken, (State.renewHealth_stands _).health known⟩
    | none =>
      have taken : Stands s { s with health := { s.health with mounted := true } } := s.set_stands rfl id fun _ => rfl
      dsimp only
      split
      · exact ⟨(State.renewHealth_stands _).after ((State.orReg_stands _ _ _).after taken),
          (State.renewHealth_stands _).health ((State.orReg_stands _ _ _).health rfl)⟩
      · exact ⟨(State.renewHealth_stands _).after taken, (State.renewHealth_stands _).health rfl⟩

/-! ### The estimator -/

theorem State.setBat_stands {b : BatSt} (h : s.bat.dirReady = true → b.dirReady = true) : Stands s (s.setBat b) := s.set_stands rfl h id

theorem State.writePack_stands (index : Nat) (r : PackRec) : Stands s (s.writePack index r) :=
  .ite (.ite (s.recordWrite_stands _ _ _ _) (s.recordWrite_stands _ _ _ _)) (s.orReg_stands _ _)

theorem State.checkpoint_stands : Stands s s.checkpoint := by
  unfold State.checkpoint
  split
  · exact (State.writePack_stands _ _ _).after (s.setBat_stands (by exact fun h => h))
  · exact .refl s

theorem State.insertEntry_stands (result : Nat) : Stands s (s.insertEntry result) := by
  unfold State.insertEntry
  split
  · exact .ite ((State.logEntry_stands _ _ _ _).after (s.setBat_stands (by exact fun h => h))) (.refl s)
  · exact .refl s

theorem State.closeLeft_stands (key : Nat) (r : PackRec) : Stands s (s.closeLeft key r) := (State.writePack_stands _ _ _).after (s.setBat_stands (by exact fun h => h))

theorem State.closeStale_stands (except : Nat) : Stands s (s.closeStale except) := by
  unfold State.closeStale
  extract_lets s1
  have h1 : Stands s s1 := .fold (fun t d => by
    split
    · exact t.closeLeft_stands _ _
    · exact .refl t) (.refl s)
  refine .ite ?_ h1
  split
  · exact (State.closeLeft_stands _ _ _).after ((State.setBat_stands s1 (by exact fun h => h)).after h1)
  · exact h1

theorem State.openPack_stands (id : Nat) : Stands s (s.openPack id) := by
  unfold State.openPack
  extract_lets ch i old known resume s0 sess base ep r0 r src x b src2 s1 s2 s3 s4 s5
  have h0 : Stands s s0 := .ite (.refl s) (s.closeStale_stands i)
  have h1 : Stands s s1 := (s0.setBat_stands (by exact fun h => h)).after h0
  have h2 : Stands s s2 := .ite ((State.logEntry_stands _ _ _ _).after ((State.satInc_stands _ (by decide) _ _).after ((State.orReg_stands _ _ _).after h1))) h1
  have h3 : Stands s s3 := (State.notice_stands _ _ _).after h2
  have h4 : Stands s s4 := .ite ((State.logEntry_stands _ _ _ _).after h3) (.ite ((State.insertEntry_stands _ _).after h3) h3)
  have h5 : Stands s s5 := (State.checkpoint_stands _).after h4
  exact .ite h5 ((State.orReg_stands _ _ _).after h5)

theorem State.identified_stands (id : Nat) : Stands s (s.identified id) := by
  have wait : Stands s (s.setBat { s.bat with idWait := some id, id := id, attempt := none }) := s.setBat_stands (by exact fun h => h)
  exact .ite wait (.ite (s.openPack_stands id) ((State.addJob_stands _ _ _ _).after wait))

/-- The estimator takes up the directory. -/
theorem State.batteryMount_spec : Stands s s.batteryMount ∧ s.batteryMount.bat.dirReady = true := by
  unfold State.batteryMount
  extract_lets keys dir kept left src s1
  have taken : Stands s s1 := s.setBat_stands fun _ => rfl
  split
  · exact ⟨(State.identified_stands _ _).after taken, (State.identified_stands _ _).packs rfl⟩
  · exact ⟨taken, rfl⟩

theorem State.fusionMount_stands : Stands s s.fusionMount :=
  s.fusionMount_only.stands (by decide) (congrArg CaveSt.mode (s.fusionMount_only .cave (by decide)))

end

end Sys2Proof.Machine
end

section
/-!
PROOFS. Mounting and the writing of records (O39).
-/

namespace Sys2Proof.Machine

/-! ### The reads of a mount -/

theorem State.mountGo_first {s : State} (hs : s.cave.mountStep = 0) (hn : s.cave.seen = []) (n : Nat) :
    ∃ c ops, c.mode = s.cave.mode ∧ s.mountGo (n + 1) = ({ s with cave := c } : State).addJob .mount 1 ops := by
  rw [State.mountGo, if_neg (by omega)]
  extract_lets src s1 rows
  have all : rows ≠ [] := by
    have later : s1.cave.mountStep = 0 := hs
    have first : s1.mountRows = s1.bbtBlocks.map (fun b => s1.rowOf b 0) := by
      simp only [State.mountRows, later]
    have unseen : rows = s1.mountRows := List.filter_eq_self.2 fun r _ => by rw [hn, List.contains_nil, Bool.not_false]
    have eight : s1.mountRows.length = 8 := by rw [first, List.length_map, State.bbtBlocks, List.length_map, List.length_range]
    rw [unseen]
    exact List.ne_nil_of_length_pos (by omega)
  rw [if_neg (by simpa using all)]
  exact ⟨{ s1.cave with seen := s.cave.seen ++ rows }, rows.map NandOp.read, rfl, rfl⟩

/-! ### The end of a mount -/

section
variable (s : State)

theorem State.takeStandbyReq_tooSmall : s.takeStandbyReq.caveTooSmall = s.caveTooSmall := rfl

/-- With too few good blocks the cave is FAILED, and its advice raised. -/
theorem State.mountEnd_tooSmall (h : s.caveTooSmall = true) : s.mountEnd.cave.mode = .failed ∧ s.mountEnd.bit 0x100004 10 = true := by
  have taken : s.mountEnd = _ := if_pos (s.takeStandbyReq_tooSmall.trans h)
  rw [taken]
  exact ⟨(State.advise_stands _ 10 2).mode, State.advise_bit _ 10 2 (by decide)⟩

theorem State.healthPool_stands (level : Nat) : Stands s (s.healthPool level) := by
  unfold State.healthPool
  exact .ite ((State.notifyOnce_stands _ _ _ _).after (s.set_stands rfl id (by exact id)))
    (.ite ((State.unnotify_stands _ _).after (s.set_stands rfl id (by exact id))) (.refl s))

theorem State.updFail_mode (u : ImgUpd) : (s.updFail u).cave.mode = s.cave.mode := (State.notice_stands _ _ _).mode

theorem State.toReadonly_mode : s.toReadonly.cave.mode = .readonly := by
  unfold State.toReadonly
  extract_lets src src2 s0 s1
  have mode : s1.cave.mode = .readonly := (State.advise_stands (s0.dropJobs JobKind.stopsReadonly) 10 1).mode
  split
  · exact (s1.updFail_mode _).trans mode
  · exact mode

theorem State.poolChanged_mode (h : s.cave.mode = .mounted) : s.poolChanged.cave.mode = .mounted ∨ s.poolChanged.cave.mode = .readonly := by
  unfold State.poolChanged
  extract_lets v th w crossed r src s1 s2 s3
  have h2 : Stands s s2 := by
    have h1 : Stands s s1 := s.set_stands rfl id id
    exact .ite ((State.notice_stands _ _ _).after h1) h1
  have mode : s3.cave.mode = .mounted := ((s2.healthPool_stands v).after h2).mode.trans h
  split
  · exact .inr s3.toReadonly_mode
  · exact .inl mode

theorem State.openBlocks_mode : s.openBlocks.cave.mode = s.cave.mode := by
  have opened : ((s.openRecBlock true).getD s).cave.mode = s.cave.mode := by
    unfold State.openRecBlock
    split
    · rfl
    · cases s.pickSpare <;> rfl
  unfold State.openBlocks
  dsimp only
  split <;> exact opened

/-- With good blocks enough the cave is MOUNTED, or READONLY. -/
theorem State.mountEnd_mode (h : s.caveTooSmall = false) : s.mountEnd.cave.mode = .mounted ∨ s.mountEnd.cave.mode = .readonly := by
  unfold State.mountEnd
  extract_lets s0 src early waiting named c1 s1 s2 s3 s4 s5
  rw [if_neg (by simp [s0, s.takeStandbyReq_tooSmall, h])]
  have mode2 : s2.cave.mode = .mounted := s1.openBlocks_mode
  have mode3 : s3.cave.mode = .mounted := by
    unfold s3
    split
    · exact (State.logEntry_stands _ _ _ _).mode.trans mode2
    · exact mode2
  clear_value s3
  have mode4 : s4.cave.mode = .mounted ∨ s4.cave.mode = .readonly := s3.poolChanged_mode mode3
  have h5 : Stands s4 s5 := .ite (.refl s4) s4.startLogProgram_stands
  clear_value s5 s4
  split
  next h4 =>
    exact .inl (((State.startRecWrite_stands _).after ((Stands.ite s5.flushLog_stands (.refl s5)).after h5)).mode.trans h4)
  next => exact mode4

/-- What follows the end of the mount: the mode stands, and health block and estimator have taken up their records. -/
theorem State.mountDone_spec (h : s.mountReady = true) :
    Stands s.mountEnd s.mountDone ∧ s.mountDone.health.mounted = true ∧ s.mountDone.bat.dirReady = true := by
  unfold State.mountDone
  rw [if_pos h]
  extract_lets existed s1 body
  obtain ⟨health, known⟩ := s1.healthMount_spec body existed
  obtain ⟨battery, packs⟩ := (s1.healthMount body existed).batteryMount_spec
  have rest := (State.collectIfLow_stands _).after ((State.startRecWrite_stands _).after (State.fusionMount_stands (s1.healthMount body existed).batteryMount))
  exact ⟨rest.after (battery.after health), rest.health (battery.health known), rest.packs packs⟩

end

/-! ### The writing of records -/

section
variable {s : State}

theorem State.whileAwake_of (h : s.running = true ∨ s.power.phase = .standby ∨ s.power.phase = .waking) (f : State → State) :
    s.whileAwake f = f s := by
  refine if_pos ?_
  rcases h with h | h | h
  · simp [s.running_iff.1 h]
  · simp [h]
  · simp [h]

/-- One more record waits. -/
def State.queued (s : State) (w : RecWrite) : State := { s with cave := { s.cave with recQueue := s.cave.recQueue ++ [w] } }

/-- A record of no kind and index that waits joins the queue. -/
theorem State.recordWrite_new {kind index : Nat} (version : Nat) {body : List Byte} (hb : body ≠ []) (hl : body.length ≤ 8160)
    (hr : s.cave.mode ≠ .readonly) (hf : s.cave.mode ≠ .failed) (hq : ∀ q ∈ s.cave.recQueue, ¬(q.kind = kind ∧ q.index = index)) :
    s.recordWrite kind index version body =
      (s.queued { kind := kind, index := index, version := version, body := body, time := BitVec.ofNat 32 s.lf }).startRecWrite := by
  have none : s.cave.recQueue.any (fun q => q.kind == kind && q.index == index) = false := by
    refine List.any_eq_false.2 fun q hm => ?_
    have := hq q hm
    simpa using this
  unfold State.recordWrite
  rw [if_neg (by simpa [hb, hr, hf] using hl)]
  dsimp only
  rw [none]
  rfl

theorem State.startRecWrite_unmounted (h : s.cave.mode ≠ .mounted) : s.startRecWrite = s := if_neg fun hm => h hm.1

theorem State.recordWrite_stops {kind index version : Nat} {body : List Byte}
    (h : body = [] ∨ 8160 < body.length ∨ s.cave.mode = .readonly ∨ s.cave.mode = .failed) : s.recordWrite kind index version body = s := by
  refine if_pos ?_
  rcases h with h | h | h | h <;> simp [h]

/-- With room in the open block the first record of the queue begins at once, in the next slot and under the next RSEQ. -/
theorem State.startRecWrite_first {w : RecWrite} {rest : List RecWrite} {b k : Nat} (hm : s.cave.mode = .mounted) (hb : s.cave.recBusy = none)
    (hq : s.cave.recQueue = w :: rest) (ho : s.cave.recOpen = some (b, k)) (hk : k < s.slotsPerBlock) :
    s.startRecWrite.cave = { s.cave with
        recOpen := some (b, k + 1), recQueue := rest, recBusy := some ({ w with time := BitVec.ofNat 32 s.lf }, b, k)
        rseq := s.cave.rseq + 1 } ∧ s.startRecWrite.hasJob .recWrite = true := by
  have slot : s.allocSlot false = some ((b, k), { s with cave := { s.cave with recOpen := some (b, k + 1) } }) := by
    unfold State.allocSlot
    simp [ho, hk]
  unfold State.startRecWrite
  rw [if_pos ⟨hm, hb⟩, hq]
  dsimp only
  rw [slot]
  exact ⟨State.addJob_only _ _ _ _ .cave (by decide), State.addJob_hasJob _ _ _ _⟩

/-- The cave but for its open blocks, its table, its log buffers, and what is due for upkeep. -/
def State.desk (s : State) : CaveSt :=
  { s.cave with
    cseq := 0, ctabBlock := 0, ctabPage := 0, reqCheck := 0, recOpen := none, logOpen := none, recBseq := 0, logBseq := 0, bseq := 0, logCur := []
    logProg := [], logAt := 0, logNext := 0, logForce := false, due := [], reads := [], imgRef := false }

theorem Only.desk {l : List Part} {s t : State} (h : Only l s t) (hl : .cave ∉ l) : Keeps State.desk s t := by
  unfold Keeps State.desk
  rw [h .cave hl]

end

section
variable (s : State)

theorem State.allocSlot_desk {more : Bool} {r : (Nat × Nat) × State} (h : s.allocSlot more = some r) : Keeps State.desk s r.2 := by
  have opened (room : Bool) {t : State} (ht : (if room then some s else s.openRecBlock more) = some t) : Keeps State.desk s t := by
    split at ht
    · cases ht
      rfl
    · unfold State.openRecBlock at ht
      split at ht
      · cases ht
      · obtain ⟨n, -, rfl⟩ := Option.map_eq_some_iff.1 ht
        rfl
  unfold State.allocSlot at h
  dsimp only at h
  split at h
  next hs =>
    split at h
    · cases h
      have same := opened _ hs
      exact same
    · cases h
  next => cases h

theorem State.collectOps_desk {l : List (Nat × Nat)} {r : List NandOp × State} (h : s.collectOps l = some r) : Keeps State.desk s r.2 := by
  induction l generalizing s r with
  | nil =>
    cases h
    rfl
  | cons p l ih =>
    unfold State.collectOps at h
    dsimp only at h
    split at h
    · cases h
    next hs =>
      split at h
      · cases h
      next hl =>
        have last := (congrArg (Option.map Prod.snd) h :)
        have rest := ih _ hl
        exact (Option.some.inj last) ▸ (s.allocSlot_desk hs).trans rest

theorem State.collectIfLow_desk : Keeps State.desk s s.collectIfLow := by
  unfold State.collectIfLow
  refine .ite rfl (.ite ?_ rfl)
  split
  · rfl
  · split
    next hs => exact (s.collectOps_desk hs).trans ((State.addJob_only _ _ _ _).desk (by decide))
    next => rfl

theorem State.writeCtab_desk : Keeps State.desk s s.writeCtab := by
  unfold State.writeCtab
  extract_lets page
  refine .ite ((State.extendJob_only _ _ _ _).desk (by decide)) ?_
  split
  · exact (State.extendJob_only _ _ _ _).desk (by decide)
  · rfl

theorem State.serviceBlock_desk (b : Nat) (dead : Bool) {t : State} (h : s.serviceBlock b dead = some t) : Keeps State.desk s t := by
  unfold State.serviceBlock at h
  dsimp only at h
  split at h
  · split at h
    · split at h
      · cases h
      · split at h
        · cases h
          exact ((s.startCopy_only _ _ _).desk (by decide) :)
        · cases h
    · split at h
      · split at h
        · cases h
        · cases h
          exact (s.startRetire_only b).desk (by decide)
      · split at h
        · cases h
          exact ((s.startCopy_only _ _ _).desk (by decide) :)
        · cases h
  · split at h
    · have listed : Keeps State.desk s (if b = s.cave.ctabBlock ∨ dead = false then s.writeCtab else s) := .ite s.writeCtab_desk rfl
      split at h
      · cases h
        exact listed.trans ((State.startRetire_only _ b).desk (by decide))
      · cases h
        exact listed
    · split at h
      · cases h
      · split at h
        · obtain ⟨d, -, rfl⟩ := Option.map_eq_some_iff.1 h
          exact (State.addJob_only _ _ _ _).desk (by decide)
        · split at h
          · cases h
            exact (s.startRetire_only b).desk (by decide)
          · cases h
            rfl

theorem State.serviceFirst_desk (dead : Bool) (l : List Nat) {t : State} (h : s.serviceFirst dead l = some t) : Keeps State.desk s t := by
  induction l with
  | nil => cases h
  | cons b rest ih =>
    rw [State.serviceFirst] at h
    split at h
    next hb =>
      cases h
      exact s.serviceBlock_desk b dead hb
    next => exact ih h

theorem State.caveService_desk : Keeps State.desk s s.caveService := by
  unfold State.caveService
  refine .ite rfl ?_
  split
  next h => exact s.serviceFirst_desk _ _ h
  next =>
    cases hd : s.serviceFirst false s.cave.due with
    | none => rfl
    | some t => exact s.serviceFirst_desk _ _ hd

theorem State.skipOld_begins (p : JobKind → Bool) (old : Option (Nat × Nat)) : Begins p s (s.skipOld old) := by
  unfold State.skipOld
  split
  · exact .refl p s
  · refine .of_jobs p fun j hj => ?_
    obtain ⟨i, hi, rfl⟩ := List.mem_map.1 hj
    refine ⟨i, hi, ?_⟩
    split <;> rfl

/-- The run of a record that has been written is gone, and none is being written. -/
def State.recFreed (s : State) : State :=
  let s1 := s.dropJob .recWrite
  { s1 with cave := { s1.cave with recBusy := none } }

theorem State.recFreed_only : Only [.nand, .cave] s s.recFreed := (Only.set_cave _ _).after (s.dropJob_only _)

/-- A record has been written: what follows, before the next one begins. -/
def State.recWritten (s : State) (w : RecWrite) (b k : Nat) : State :=
  (s.recFreed.skipOld ((s.dropJob .recWrite).olderSlot w.kind w.index (b, k))).collectIfLow

theorem State.recordWriteDone_good {j : NandJob} {w : RecWrite} {b k : Nat} (hj : s.finished (fun k => decide (k = .recWrite)) = some j)
    (hf : j.failed = none) (hb : s.cave.recBusy = some (w, b, k)) : s.recordWriteDone = ((s.recWritten w b k).startRecWrite).caveService.nandPick := by
  unfold State.recordWriteDone
  rw [hj, hb]
  dsimp only
  rw [hf]
  rfl

theorem State.recWritten_spec (w : RecWrite) (b k : Nat) :
    (s.recWritten w b k).desk = { s.desk with recBusy := none } ∧ (s.recWritten w b k).hasJob .recWrite = false ∧
      Only [.nand, .cave] s (s.recWritten w b k) := by
  have freed := s.recFreed_only
  have desk : s.recFreed.desk = { s.desk with recBusy := none } := rfl
  have gone : s.recFreed.hasJob .recWrite = false := s.hasJob_dropJob _
  unfold State.recWritten
  generalize s.recFreed = u at freed desk gone ⊢
  generalize (s.dropJob .recWrite).olderSlot w.kind w.index (b, k) = old
  have skipped := u.skipOld_only old
  exact ⟨Eq.trans ((skipped.desk (by decide)).trans (State.collectIfLow_desk _)) desk,
    (State.collectIfLow_begins _).none rfl ((u.skipOld_begins isUpkeep old).none rfl gone),
    ((State.collectIfLow_only _).after (skipped.after freed)).among (by decide)⟩

end

/-- Settles O39: a mount begins with its reads and ends MOUNTED, READONLY or FAILED; a record waits, begins, or has been written. -/
theorem mountAndRecords : Obligations.MountAndRecords := by
  refine ⟨?begins, ?noMount, ?mounted, ?tooSmall, ?notReady, fun kind index version body => ?waits, fun kind index version body => ?stops,
    fun kind index version body b k => ?atOnce, fun j x b k => ?written, ?noWrite⟩
  case begins =>
    refine .of (·.whileRunning (·.caveMount)) (fun _ _ => rfl) fun e _ ⟨hr, hm, hj, hs, hn, hp⟩ => ?_
    have goes : e.caveMount = e.mountGo 8 := if_pos ⟨hm, hj, hs, hp⟩
    obtain ⟨c, ops, mode, begun⟩ := State.mountGo_first hs hn 7
    rw [State.whileRunning_of hr, goes, begun]
    have only := (State.addJob_only { e with cave := c } .mount 1 ops).after (Only.set_cave e c)
    exact ⟨State.addJob_hasJob _ _ _ _, (congrArg CaveSt.mode (State.addJob_only _ _ _ _ .cave (by decide))).trans (mode.trans hm),
      only .pages (by decide), only .regs (by decide), only .sram (by decide), only .power (by decide)⟩
  case noMount =>
    exact .of (·.whileRunning (·.caveMount)) (fun _ _ => rfl) fun e h => State.whileRunning_rest (if_neg fun hm => h hm.1)
  case mounted =>
    refine .of (·.mountDone) (fun _ _ => rfl) fun e _ ⟨hr, hs⟩ => ?_
    obtain ⟨stands, health, packs⟩ := e.mountDone_spec hr
    have only := e.mountDone_only
    exact ⟨stands.mode ▸ e.mountEnd_mode hs, health, packs, only .pages (by decide), only .sram (by decide), only .power (by decide),
      only .wheels (by decide)⟩
  case tooSmall =>
    refine .of (·.mountDone) (fun _ _ => rfl) fun e _ ⟨hr, hs⟩ => ?_
    obtain ⟨stands, health, -⟩ := e.mountDone_spec hr
    obtain ⟨mode, advice⟩ := e.mountEnd_tooSmall hs
    have only := e.mountDone_only
    exact ⟨stands.mode.trans mode, stands.advice 10 advice, health, only .pages (by decide), only .sram (by decide), only .power (by decide)⟩
  case notReady => exact .of (·.mountDone) (fun _ _ => rfl) fun e h => if_neg (by simp [h])
  case waits =>
    refine .of (·.whileAwake (·.recordWrite kind.toNat index.toNat version.toNat body)) (fun _ _ => rfl) fun e ⟨ha, hb, hl, hm, hq⟩ => ?_
    have unmounted : e.cave.mode ≠ .mounted ∧ e.cave.mode ≠ .readonly ∧ e.cave.mode ≠ .failed := by rcases hm with h | h <;> simp [h]
    rw [State.whileAwake_of ha, State.recordWrite_new _ hb hl unmounted.2.1 unmounted.2.2 hq]
    exact State.startRecWrite_unmounted unmounted.1
  case stops =>
    exact .of (·.whileAwake (·.recordWrite kind.toNat index.toNat version.toNat body)) (fun _ _ => rfl) fun e h =>
      State.whileAwake_rest (State.recordWrite_stops h)
  case atOnce =>
    refine .of (·.whileAwake (·.recordWrite kind.toNat index.toNat version.toNat body)) (fun _ _ => rfl) fun e _ ⟨ha, hb, hl, hm, hf, hq, ho, hk⟩ => ?_
    have queued := State.recordWrite_new (s := e) (kind := kind.toNat) (index := index.toNat) version.toNat hb hl (by simp [hm]) (by simp [hm]) (by simp [hq])
    rw [State.whileAwake_of ha, queued]
    generalize hw : RecWrite.mk .. = w
    obtain ⟨cave, begun⟩ := State.startRecWrite_first (s := e.queued w) (rest := []) hm hf (congrArg (· ++ [w]) hq) ho hk
    have only := (State.startRecWrite_only (e.queued w)).after (Only.set_cave e _)
    generalize (e.queued w).startRecWrite = t at cave begun only ⊢
    rw [cave, ← hw]
    exact ⟨rfl, rfl, rfl, rfl, begun, only .pages (by decide), only .regs (by decide)⟩
  case written =>
    refine .of (·.whileRunning (·.recordWriteDone)) (fun _ _ => rfl) fun e _ ⟨hr, hj, hf, hb, hq⟩ => ?_
    rw [State.whileRunning_of hr, e.recordWriteDone_good hj hf hb]
    obtain ⟨desk, gone, only⟩ := e.recWritten_spec x b k
    generalize e.recWritten x b k = u at desk gone only ⊢
    have queue : u.cave.recQueue = [] := (congrArg CaveSt.recQueue desk :).trans hq
    have rests : u.startRecWrite = u := by
      unfold State.startRecWrite
      rw [queue]
      exact ite_self _
    rw [rests]
    have served : Keeps State.desk u u.caveService.nandPick := u.caveService_desk.trans ((State.nandPick_only _).desk (by decide))
    have cave := Eq.trans served desk
    exact ⟨(congrArg CaveSt.recBusy cave :), (congrArg CaveSt.recQueue cave :).trans hq,
      ((State.nandPick_begins _ isUpkeep).after u.caveService_begins).none rfl gone,
      ((((State.nandPick_only _).after u.caveService_only).after only) .pages (by decide)), (congrArg CaveSt.mode cave :)⟩
  case noWrite =>
    refine .of (·.whileRunning (·.recordWriteDone)) (fun _ _ => rfl) fun e h => State.whileRunning_rest ?_
    unfold State.recordWriteDone
    rw [h]
    cases e.finished (fun k => decide (k = .recWrite)) <;> rfl

end Sys2Proof.Machine
end

section
/-!
PROOFS. Log entries, and the upkeep of the NAND (O40).
-/

namespace Sys2Proof.Machine

/-! ### The log -/

section
variable (s : State)

theorem State.notice_desk (code : Nat) (p : List Byte) : Keeps State.desk s (s.notice code p) := (s.notice_only code p).desk (by decide)

theorem State.startLogProgram_desk : Keeps State.desk s s.startLogProgram := by
  have opened : Keeps State.desk s s.openLogBlock.2 := by
    unfold State.openLogBlock
    dsimp only
    split <;> rfl
  unfold State.startLogProgram
  refine .ite rfl ?_
  extract_lets r
  have block : Keeps State.desk s r.2 := by
    unfold r
    split
    · split
      · rfl
      · exact opened
    · exact opened
  split
  · exact block.trans ((State.addJob_only _ _ _ _).desk (by decide))
  · exact block

theorem State.flushLog_desk : Keeps State.desk s s.flushLog := by
  unfold State.flushLog
  exact .ite rfl (.ite (State.startLogProgram_desk _) rfl)

theorem State.logEntry_desk (src : Nat) (p : List Byte) (urgent : Bool) : Keeps State.desk s (s.logEntry src p urgent).2 := by
  have dropped : Keeps State.desk s s.logDropped := s.logDropped_only.desk (by decide)
  unfold State.logEntry
  extract_lets size fits s1 r now
  have appended : Keeps State.desk s r.2 := (Keeps.ite rfl s.flushLog_desk : Keeps State.desk s s1)
  split
  · exact dropped
  · split
    · exact .ite (appended.trans (State.flushLog_desk _)) appended
    · exact dropped

end

section
variable {s : State}

theorem State.logPush_asked (m : Master) (ctl : Word) (hr : s.running = true) (hl : s.life.state ≠ .scrap) :
    s.busWrite m 0xA012C ctl = { s.pushFromBus m ctl with busRead := 0, busError := false } :=
  State.busWrite_plain ctl hr hl (by decide) (by simp [State.blockUp]) (.inr (by decide))

/-- An entry has joined the buffer being filled. -/
def State.logged (s : State) (src : Nat) (p : List Byte) : State :=
  { s with cave := { s.cave with
      logCur := s.cave.logCur ++ [{ num := s.cave.logNext, mount := s.cave.mount % 65536, time := BitVec.ofNat 32 s.lf, src := src, payload := p }]
      logAt := if s.cave.logCur.isEmpty then s.now else s.cave.logAt, logNext := s.cave.logNext + 1 } }

/-- A push that the buffer takes. -/
theorem State.logEntry_fits {src : Nat} {p : List Byte} (hm : s.cave.mode = .mounted) (hp : p.length ≤ 44)
    (hf : logUsed s.cave.logCur + (12 + p.length + 3) / 4 * 4 ≤ s.nand.page) (hs : src = 7 ∨ src = 3) :
    s.logEntry src p false = (s.cave.logNext, s.logged src p) := by
  have takes : s.logTakes src = true := by
    unfold State.logTakes
    rw [hm]
  have fits : logUsed s.cave.logCur + ({ num := 0, mount := 0, time := 0, src := src, payload := p } : LogEntry).size ≤ s.nand.page := hf
  have calm : (false || src == 1 || src == 5 || src == 6) = false := by rcases hs with h | h <;> simp [h]
  unfold State.logEntry
  dsimp only
  rw [if_neg (by simpa [takes] using hp), decide_eq_true fits, if_pos (Bool.true_or _), if_pos rfl, calm, if_neg (by simp)]
  unfold State.appendLog State.logged
  simp only [hm, if_true]

/-- A bus master's push into a cave that is mounting or READONLY is dropped. -/
theorem State.logEntry_dropped {src : Nat} (p : List Byte) (hm : s.cave.mode = .mounting ∨ s.cave.mode = .readonly) (hs : src = 7 ∨ src = 3) (urgent : Bool) :
    s.logEntry src p urgent = (0, s.logDropped) := by
  have refuses : s.logTakes src = false := by
    unfold State.logTakes
    rcases hm with h | h <;> rcases hs with rfl | rfl <;> simp [h]
  unfold State.logEntry
  simp [refuses]

/-- The buffer being filled is handed over to be programmed. -/
def State.logHanded (s : State) : State := { s with cave := { s.cave with logProg := s.cave.logCur, logCur := [], logForce := false } }

/-- With room in the open block the buffer becomes its next page. -/
theorem State.startLogProgram_room {b p : Nat} (hm : s.cave.mode = .mounted) (ho : s.cave.logOpen = some (b, p)) (hp : p < s.nand.ppb) :
    s.startLogProgram.cave = { s.cave with logOpen := some (b, p + 1) } ∧ s.startLogProgram.hasJob .logProgram = true := by
  unfold State.startLogProgram
  rw [if_neg (by simp [hm]), ho]
  dsimp only
  rw [if_pos hp]
  dsimp only
  rw [ho]
  exact ⟨State.addJob_only _ _ _ _ .cave (by decide), State.addJob_hasJob _ _ _ _⟩

/-- What a push of a bus master leaves: its NUM in LOGRES. -/
theorem State.logPushed {m : Master} {ctl : Word} {n : Nat} {u : State}
    (hp : (if 44 < fieldOf ctl 5 0 then (0, s.logDropped) else s.logEntry (if m = .link then 7 else 3)
      (((s.copyOf m).logd.flatMap (fun d => bytesLE 4 d.toNat)).take (fieldOf ctl 5 0)) (bitOf ctl 8)) = (n, u)) :
    s.pushFromBus m ctl = u.setCopy m { u.copyOf m with logRes := BitVec.ofNat 32 n } := by
  unfold State.pushFromBus
  cases m with
  | link =>
    rw [if_pos rfl] at hp
    dsimp only
    rw [hp]
  | dma k =>
    rw [if_neg (c := Master.dma k = .link) Master.noConfusion] at hp
    dsimp only
    rw [hp]

end

/-! ### The minute and the pass -/

section
variable (s : State)

theorem State.dueBlock_desk (b : Nat) : Keeps State.desk s (s.dueBlock b) := .ite rfl rfl

/-- What a minute that is due counts. -/
def State.minuted (s : State) : State :=
  { s with cave := { s.cave with req := s.cave.req + retentionStep (lifeBand s.health.tj), tickAt := s.cave.tickAt + secAng 60 } }

theorem State.retentionTick_due (hr : s.running = true) (ht : s.cave.tickAt ≤ s.now) :
    s.retentionTick = if s.cave.mode = .mounted ∨ s.cave.mode = .readonly then
      (let s2 := s.minuted.agedBlocks.foldl State.dueBlock s.minuted
       if s2.cave.ckptAt ≤ s2.now ∧ s2.cave.mode = .mounted then
          ({ s2 with cave := { s2.cave with ckptAt := s2.cave.ckptAt + secAng 86400 } }).reqCheckpoint
        else s2).caveService else s.minuted := if_pos ⟨hr, ht⟩

theorem State.reqCheckpoint_desk : Keeps State.desk s s.reqCheckpoint := s.writeCtab_desk.trans (State.logEntry_desk _ _ _ _)

/-- The minute raises REQ and falls due again in 60 s, whatever else it finds. -/
theorem State.retentionTick_minute (hr : s.running = true) (ht : s.cave.tickAt ≤ s.now) :
    s.retentionTick.cave.req = s.minuted.cave.req ∧ s.retentionTick.cave.tickAt = s.minuted.cave.tickAt := by
  rw [s.retentionTick_due hr ht]
  split
  · extract_lets s2
    have aged : Keeps State.desk s.minuted s2 := .fold (fun t b => t.dueBlock_desk b) rfl
    clear_value s2
    split
    · have checked : ({ s2 with cave := { s2.cave with ckptAt := s2.cave.ckptAt + secAng 86400 } } : State).desk =
          { s.minuted.desk with ckptAt := s2.cave.ckptAt + secAng 86400 } := congrArg (fun c : CaveSt => { c with ckptAt := s2.cave.ckptAt + secAng 86400 }) aged
      have desk := Eq.trans ((State.reqCheckpoint_desk _).trans (State.caveService_desk _)) checked
      exact ⟨(congrArg CaveSt.req desk :), (congrArg CaveSt.tickAt desk :)⟩
    · have desk := aged.trans s2.caveService_desk
      exact ⟨(congrArg CaveSt.req desk :), (congrArg CaveSt.tickAt desk :)⟩
  · exact ⟨rfl, rfl⟩

theorem State.refreshPassPage_goes (hr : s.running = true) (hm : s.cave.mode = .mounted) (hp : s.cave.pass = true) (hj : s.nand.jobs = []) :
    s.refreshPassPage = match s.nextScrubRow s.cave.passRow with
      | some r => ({ s with cave := { s.cave with passRow := r + 1 } }).addJob (.scrub r) 4 [.read r]
      | none => (({ s with cave := { s.cave with passRow := 0, passAt := s.now } }).notice 0x14 (bytesLE 1 2 ++ [0] ++ bytesLE 4 0)).logCave 2 0 := by
  unfold State.refreshPassPage
  exact if_pos (by simp [hr, hm, hp, hj])

/-- The next check is due in an hour. -/
def State.hourly (s : State) : State := { s with cave := { s.cave with wearAt := s.cave.wearAt + secAng 3600 } }

theorem State.hourly_only : Only [.cave] s s.hourly := Only.set_cave _ _

theorem State.wearLevelCheck_due (hr : s.running = true) (hm : s.cave.mode = .mounted) (hw : s.cave.wearAt ≤ s.now) :
    s.wearLevelCheck = match leastBy (fun b => 0xFFFFFFFF - s.blockErases b) s.spareBlocks, leastBy s.blockErases (s.areaBlocks 0x01 ++ s.areaBlocks 0x02) with
       | some d, some b =>
         if s.blockErases b + s.fld 0xA0028 31 16 < s.blockErases d then
           (if s.serviceBusy ∨ s.entering = true ∨ s.blockWritten b = true then s else s.hourly.startMove b d)
         else s.hourly
       | _, _ => s.hourly := by
  unfold State.wearLevelCheck
  exact (if_pos ⟨hr, hm, hw⟩).trans (by rfl)

/-- A check that nothing holds up falls due again in an hour. -/
theorem State.wearLevelCheck_hour (hr : s.running = true) (hm : s.cave.mode = .mounted) (hw : s.cave.wearAt ≤ s.now) (hs : s.serviceBusy = false)
    (hn : s.entering = false) (hb : (leastBy s.blockErases (s.areaBlocks 0x01 ++ s.areaBlocks 0x02)).all (fun b => !s.blockWritten b) = true) :
    s.wearLevelCheck.cave.wearAt = s.cave.wearAt + secAng 3600 := by
  rw [s.wearLevelCheck_due hr hm hw]
  split
  next d b _ hl =>
    rw [hl] at hb
    split
    · rw [if_neg (by simpa [hs, hn] using hb)]
      exact (congrArg CaveSt.wearAt (State.addJob_only _ _ _ _ .cave (by decide)) :)
    · rfl
  next => rfl

/-! ### The end of an update -/

/-- The read-back of an update has ended: its run and the update are gone. -/
def State.updClosed (s : State) : State :=
  let s1 := s.dropJob .imgCheck
  { s1 with cave := { s1.cave with imgUpd := none } }

theorem State.updClosed_only : Only [.nand, .cave] s s.updClosed := (Only.set_cave _ _).after (s.dropJob_only _)

theorem State.imageCheckDone_ended {j : NandJob} {u : ImgUpd} (hj : s.finished (fun k => decide (k = .imgCheck)) = some j) (hu : s.cave.imgUpd = some u) :
    s.imageCheckDone =
      (if s.candidateCode { gen := u.gen, blocks := u.used } j.bad = 0 then
        s.updClosed.imageNotice (s.candidateCode { gen := u.gen, blocks := u.used } j.bad) u.slot u.gen
      else (s.updClosed.imageNotice (s.candidateCode { gen := u.gen, blocks := u.used } j.bad) u.slot u.gen).addJob (.imgDrop u.slot) 3
        [.erase (u.used.getD 0 0)]).nandPick := by
  unfold State.imageCheckDone
  rw [hj, hu]
  rfl

theorem noticeOn_congr {s t : State} (hr : t.regs = s.regs) (hb : t.boot = s.boot) (hp : t.power = s.power) (code : Nat) :
    t.noticeOn code = s.noticeOn code := by
  unfold State.noticeOn
  rw [hb, hp, State.bit, State.reg, hr]
  rfl

/-- The runs that drop a failed copy. -/
def isDrop : JobKind → Bool
  | .imgDrop _ => true
  | _ => false

end

/-- Settles O40: log entries join the buffer, are dropped or programmed; the minute, the pass, wear and the check of an update, due or not. -/
theorem logAndUpkeep : Obligations.LogAndUpkeep := by
  refine ⟨fun m ctl n p => ?pushed, fun m ctl => ?dropped, fun b p => ?flushed, ?noFlush, ?minute, ?minuteAlone, ?noMinute, fun r => ?row, ?lastRow,
    ?noPass, ?hour, fun b d => ?heldUp, fun b d => ?moves, fun b d => ?level, ?noHour, fun j u => ?checked, ?noUpdate⟩
  case pushed =>
    refine .of (·.busWrite m 0xA012C ctl) (fun _ _ => rfl) fun e _ ⟨hr, hl, hm, hn, h44, hu, hp, hf⟩ => ?_
    have source : (if m = .link then 7 else 3) = 7 ∨ (if m = .link then 7 else 3) = 3 := by split <;> simp
    have entered : e.logEntry (if m = .link then 7 else 3) p false = (e.cave.logNext, e.logged (if m = .link then 7 else 3) p) :=
      State.logEntry_fits hm (by rw [hp, List.length_take]; omega) hf source
    have pushed := State.logPushed (s := e) (m := m) (ctl := ctl) (n := e.cave.logNext) (u := e.logged (if m = .link then 7 else 3) p) (by
      rw [if_neg (hn ▸ Nat.not_lt.2 h44), ← hn, ← hp, hu, entered])
    rw [State.logPush_asked m ctl hr hl, pushed]
    cases m <;> exact ⟨rfl, rfl, rfl, rfl, rfl, rfl⟩
  case dropped =>
    refine .of (·.busWrite m 0xA012C ctl) (fun _ _ => rfl) fun e _ ⟨hr, hl, hm⟩ => ?_
    have source : (if m = .link then 7 else 3) = 7 ∨ (if m = .link then 7 else 3) = 3 := by split <;> simp
    have pushed := State.logPushed (s := e) (m := m) (ctl := ctl) ((ite_congr rfl (fun _ => rfl) fun _ => State.logEntry_dropped _ hm source _).trans (ite_self _))
    rw [State.logPush_asked m ctl hr hl, pushed]
    have lost := State.satInc_fld e 0xA0058 15 0 (by decide)
    have only := e.logDropped_only
    cases m <;> exact ⟨only .cave (by decide), rfl, lost, only .sram (by decide)⟩
  case flushed =>
    refine .of (·.whileRunning (·.logFlushDue)) (fun _ _ => rfl) fun e _ ⟨hr, hm, hc, ht, hp, ho, hb⟩ => ?_
    have due : e.logFlushDue = e.flushLog := if_pos ⟨hm, hc, ht⟩
    have full : e.flushLog = e.logHanded.startLogProgram := (if_neg (by simpa using hc)).trans (if_pos (by simp [hp]))
    obtain ⟨cave, begun⟩ := State.startLogProgram_room (s := e.logHanded) hm ho hb
    have only := (State.startLogProgram_only e.logHanded).after (Only.set_cave e _)
    rw [State.whileRunning_of hr, due, full]
    generalize e.logHanded.startLogProgram = t at cave begun only ⊢
    rw [cave]
    exact ⟨rfl, rfl, rfl, begun, only .pages (by decide), only .regs (by decide)⟩
  case noFlush =>
    refine .of (·.whileRunning (·.logFlushDue)) (fun _ _ => rfl) fun e h => State.whileRunning_rest (if_neg fun ⟨hm, hc, _⟩ => ?_)
    exact h.elim hc (· hm)
  case minute =>
    refine .of (·.retentionTick) (fun _ _ => rfl) fun e _ ⟨hr, ht⟩ => ?_
    obtain ⟨req, tick⟩ := e.retentionTick_minute hr ht
    have only := e.retentionTick_only
    exact ⟨req, tick, only .pages (by decide), only .sram (by decide), only .wheels (by decide)⟩
  case minuteAlone =>
    refine .of (·.retentionTick) (fun _ _ => rfl) fun e ⟨hr, ht, hm, ho⟩ => ?_
    rw [e.retentionTick_due hr ht]
    exact if_neg fun h => h.elim hm ho
  case noMinute =>
    refine .of (·.retentionTick) (fun _ _ => rfl) fun e h => if_neg fun ⟨hr, ht⟩ => ?_
    rcases h with h | h
    · simp [h] at hr
    · exact absurd ht (Nat.not_le.2 h)
  case row =>
    refine .of (·.refreshPassPage) (fun _ _ => rfl) fun e _ ⟨hr, hm, hp, hj, hn⟩ => ?_
    rw [e.refreshPassPage_goes hr hm hp hj, hn]
    dsimp only
    have only := State.addJob_only { e with cave := { e.cave with passRow := r + 1 } } (.scrub r) 4 [.read r]
    exact ⟨(congrArg CaveSt.passRow (only .cave (by decide)) :), State.addJob_hasJob _ _ _ _, only .pages (by decide), only .regs (by decide)⟩
  case lastRow =>
    refine .of (·.refreshPassPage) (fun _ _ => rfl) fun e _ ⟨hr, hm, hp, hj, hn⟩ => ?_
    rw [e.refreshPassPage_goes hr hm hp hj, hn]
    dsimp only
    have begun := Only.set_cave e { e.cave with passRow := 0, passAt := e.now }
    have row : ({ e with cave := { e.cave with passRow := 0, passAt := e.now } } : State).cave.passRow = 0 := rfl
    have time : ({ e with cave := { e.cave with passRow := 0, passAt := e.now } } : State).cave.passAt = e.now := rfl
    generalize ({ e with cave := { e.cave with passRow := 0, passAt := e.now } } : State) = u at begun row time ⊢
    have desk := (u.notice_desk 0x14 (bytesLE 1 2 ++ [0] ++ bytesLE 4 0)).trans (State.logEntry_desk _ 0 (bytesLE 1 2 ++ bytesLE 4 0) (2 == 1 || 2 == 3))
    have only := ((State.logCave_only _ 2 0).after (u.notice_only 0x14 (bytesLE 1 2 ++ [0] ++ bytesLE 4 0))).after begun
    exact ⟨(congrArg CaveSt.passRow desk :).trans row, (congrArg CaveSt.passAt desk :).trans time, only .pages (by decide), only .sram (by decide)⟩
  case noPass => exact .of (·.refreshPassPage) (fun _ _ => rfl) fun e h => if_neg (by simp [h])
  case hour =>
    refine .of (·.wearLevelCheck) (fun _ _ => rfl) fun e _ ⟨hr, hm, hw, hs, hn, hb⟩ => ?_
    have only := e.wearLevelCheck_only
    exact ⟨e.wearLevelCheck_hour hr hm hw hs hn hb, only .pages (by decide), only .regs (by decide)⟩
  case heldUp =>
    refine .of (·.wearLevelCheck) (fun _ _ => rfl) fun e ⟨hr, hm, hw, hd, hb, hmore, hbusy⟩ => ?_
    rw [e.wearLevelCheck_due hr hm hw, hd, hb]
    exact (if_pos hmore).trans (if_pos hbusy)
  case moves =>
    refine .of (·.wearLevelCheck) (fun _ _ => rfl) fun e _ ⟨hr, hm, hw, hd, hb, hmore, hs, hn, hbw⟩ => ?_
    have moved : e.wearLevelCheck = e.hourly.startMove b d := by
      rw [e.wearLevelCheck_due hr hm hw, hd, hb]
      exact (if_pos hmore).trans (if_neg (by simp [hs, hn, hbw]))
    rw [moved]
    exact ⟨State.addJob_hasJob _ _ _ _, ((State.startMove_only _ b d).after e.hourly_only) .pages (by decide)⟩
  case level =>
    refine .of (·.wearLevelCheck) (fun _ _ => rfl) fun e _ ⟨hr, hm, hw, hd, hb, hless⟩ => ?_
    rw [e.wearLevelCheck_due hr hm hw, hd, hb]
    dsimp only
    rw [if_neg (Nat.not_lt.2 hless)]
    rfl
  case noHour =>
    refine .of (·.wearLevelCheck) (fun _ _ => rfl) fun e h => if_neg fun ⟨_, hm, hw⟩ => ?_
    rcases h with h | h
    · exact absurd hw (Nat.not_le.2 h)
    · exact h hm
  case checked =>
    refine .of (·.whileRunning (·.imageCheckDone)) (fun _ _ => rfl) fun e _ ⟨hr, hj, hu⟩ => ?_
    rw [State.whileRunning_of hr, e.imageCheckDone_ended hj hu]
    generalize e.candidateCode { gen := u.gen, blocks := u.used } j.bad = code
    have closed := e.updClosed_only
    have gone : e.updClosed.hasJob .imgCheck = false := e.hasJob_dropJob _
    have none : e.updClosed.cave.imgUpd = none := rfl
    generalize e.updClosed = v at closed gone none ⊢
    have told : Only [.regs, .link, .setAt, .setNow] v (v.imageNotice code u.slot u.gen) := v.notice_only _ _
    have ended : Only [.nand] (v.imageNotice code u.slot u.gen) (if code = 0 then v.imageNotice code u.slot u.gen
        else (v.imageNotice code u.slot u.gen).addJob (.imgDrop u.slot) 3 [.erase (u.used.getD 0 0)]).nandPick :=
      (State.nandPick_only _).step (.ite (.refl _ _) (State.addJob_only _ _ _ _)) (by decide)
    have begun : Begins isDrop v (if code = 0 then v.imageNotice code u.slot u.gen
        else (v.imageNotice code u.slot u.gen).addJob (.imgDrop u.slot) 3 [.erase (u.used.getD 0 0)]).nandPick :=
      (State.nandPick_begins _ _).after (.ite (told.begins _ (by decide)) ((State.addJob_begins _ rfl _ _).after (told.begins _ (by decide))))
    refine ⟨(congrArg CaveSt.imgUpd ((ended.after told) .cave (by decide))).trans none, begun.none rfl gone,
      ((ended.after told).after closed) .pages (by decide), fun hc ho hf hw => ?_⟩
    have link : v.link = e.link := closed .link (by decide)
    have on : v.noticeOn 0x15 = true := (noticeOn_congr (closed .regs (by decide)) (closed .boot (by decide)) (closed .power (by decide)) _).trans ho
    have room : v.link.ring.length + 1 < v.fld 0x1002C 5 0 := by
      rw [link, State.fld, State.reg, closed .regs (by decide)]
      exact hw
    have fill : v.ordinaryFill < 31 := (State.ordinaryFill_congr (congrArg LinkSt.ring link)).symm ▸ hf
    have entered := ((noticeEntersTheRing v 0x15 (bytesLE 1 code ++ bytesLE 1 (u.slot + 1) ++ bytesLE 4 u.gen) (by decide)
      ((congrArg LinkSt.cycIn link).trans hc)).2.1 on fill room).1
    rw [link, closed .lf (by decide)] at entered
    exact (congrArg LinkSt.ring (ended .link (by decide))).trans entered
  case noUpdate =>
    refine .of (·.whileRunning (·.imageCheckDone)) (fun _ _ => rfl) fun e h => State.whileRunning_rest ?_
    unfold State.imageCheckDone
    rw [h]
    cases e.finished (fun k => decide (k = .imgCheck)) <;> rfl

end Sys2Proof.Machine
end

section
/-!
PROOFS. What the estimator's own steps leave of the curds and of the charge (R453 to R487).
-/

namespace Sys2Proof.Machine

/-- The words that the estimator and what it tells can change beside the curd, BAT_EPOCH and a wake. -/
def batWords : List Nat := [0x10034, 0x100004, 0x100068, 0xA0058, 0xB0120, 0xB0124]

/-- What numbers and places the curds. -/
def State.windows (s : State) : Word × Nat × Nat × Int × Bool := (s.bat.seq, s.bat.winAt, s.bat.sbyAt, s.bat.lastI, s.bat.estNext)

/-- Neither the curds nor a word outside the estimator's own has changed. -/
structure Beside (s t : State) : Prop where
  words : Words batWords s t
  windows : Keeps State.windows s t

section
variable {k s t u : State}

theorem Beside.refl (s : State) : Beside s s := ⟨.refl _ s, rfl⟩

/-- One more operation. -/
theorem Beside.after (h : Beside s t) (hk : Beside k s) : Beside k t := ⟨hk.words.trans h.words, hk.windows.trans h.windows⟩

theorem Beside.ite {c : Prop} [Decidable c] (ht : Beside s t) (hu : Beside s u) : Beside s (if c then t else u) := by
  split <;> assumption

theorem Beside.fold {β : Type} {f : State → β → State} {xs : List β} (hf : ∀ s x, Beside s (f s x)) (h : Beside k s) : Beside k (xs.foldl f s) := by
  induction xs generalizing s with
  | nil => exact h
  | cons x xs ih => exact ih ((hf s x).after h)

theorem Only.windows {l : List Part} (h : Only l s t) (hl : .bat ∉ l) : Keeps State.windows s t :=
  congrArg (fun b : BatSt => (b.seq, b.winAt, b.sbyAt, b.lastI, b.estNext)) (h .bat hl)

/-- An operation on other parts. -/
theorem Only.beside {l : List Part} (h : Only l s t) (hr : .regs ∉ l) (hb : .bat ∉ l) : Beside s t := ⟨.of h hr, h.windows hb⟩

/-- An operation on words of the list. -/
theorem Words.beside {w : List Nat} {l : List Part} (hw : Words w s t) (hsub : w ⊆ batWords) (h : Only l s t) (hb : .bat ∉ l) : Beside s t :=
  ⟨hw.mono hsub, h.windows hb⟩

end

section
variable (s : State)

theorem State.setBat_beside {b : BatSt}
    (h : (b.seq, b.winAt, b.sbyAt, b.lastI, b.estNext) = (s.bat.seq, s.bat.winAt, s.bat.sbyAt, s.bat.lastI, s.bat.estNext)) : Beside s (s.setBat b) :=
  ⟨.of (s.setBat_only b) (by decide), h⟩

theorem State.orReg_beside {a : Nat} (h : a ∈ batWords) (m : Nat) : Beside s (s.orReg a m) :=
  (s.orReg_words a m).beside (by simpa using h) (s.orReg_only a m) (by decide)

theorem State.notice_beside (code : Nat) (p : List Byte) : Beside s (s.notice code p) :=
  (s.notice_words code p).beside (by decide) (s.notice_only code p) (by decide)

theorem State.logEntry_beside (src : Nat) (p : List Byte) (urgent : Bool) : Beside s (s.logEntry src p urgent).2 := by
  have words : Words [0xA0058] s (s.logEntry src p urgent).2 := fun a ha => (s.logEntry_frame _ _ _).reg a fun e => ha (e ▸ .head _)
  exact words.beside (by decide) (s.logEntry_only src p urgent) (by decide)

theorem State.advise_beside (b unit : Nat) : Beside s (s.advise b unit) :=
  (s.advise_words b unit).beside (by decide) (s.advise_only b unit) (by decide)

theorem State.recordWrite_beside (kind index version : Nat) (body : List Byte) : Beside s (s.recordWrite kind index version body) :=
  (s.recordWrite_only kind index version body).beside (by decide) (by decide)

/-! ### Sessions -/

theorem State.writePack_beside (index : Nat) (r : PackRec) : Beside s (s.writePack index r) :=
  .ite (.ite (s.recordWrite_beside _ _ _ _) (s.recordWrite_beside _ _ _ _)) (s.orReg_beside (by decide) _)

theorem State.checkpoint_beside : Beside s s.checkpoint := by
  unfold State.checkpoint
  split
  · exact (State.writePack_beside _ _ _).after (s.setBat_beside (by rfl))
  · exact .refl s

theorem State.insertEntry_beside (result : Nat) : Beside s (s.insertEntry result) := by
  unfold State.insertEntry
  split
  · exact .ite ((State.logEntry_beside _ _ _ _).after (s.setBat_beside (by rfl))) (.refl s)
  · exact .refl s

theorem State.closeSession_beside : Beside s s.closeSession := by
  unfold State.closeSession
  dsimp only
  split
  · exact (State.logEntry_beside _ _ _ _).after ((State.notice_beside _ _ _).after ((State.writePack_beside _ _ _).after
      ((State.setBat_beside _ (by rfl)).after (s.insertEntry_beside 0))))
  · exact s.insertEntry_beside 0

theorem State.presenceStep_beside (seen : Option Bool) : Beside s (s.presenceStep seen) := by
  unfold State.presenceStep
  dsimp only
  split
  · exact s.setBat_beside (by rfl)
  · exact s.setBat_beside (by rfl)
  · exact s.setBat_beside (by rfl)
  · exact s.setBat_beside (by rfl)
  · exact (State.logEntry_beside _ _ _ _).after ((State.notice_beside _ _ _).after ((State.setBat_beside _ (by rfl)).after (s.insertEntry_beside 0)))
  · exact (State.closeSession_beside _).after (s.setBat_beside (by rfl))
  · exact .refl s

/-! ### Measurement and charge -/

theorem State.ntcFaults_beside (c : Curd) : Beside s (s.ntcFaults c) := by
  refine .fold (fun t n => .ite (.ite (t.orReg_beside (by decide) 8) ?_) (.refl t)) (.refl s)
  exact (State.advise_beside _ _ _).after ((State.notice_beside _ _ _).after ((State.setBat_beside _ (by rfl)).after (t.orReg_beside (by decide) 8)))

theorem State.addCharge_beside (dq : Int) : Beside s (s.addCharge dq) := by
  unfold State.addCharge
  dsimp only
  split
  · exact s.setBat_beside (by rfl)
  · exact s.setBat_beside (by rfl)
  · exact s.setBat_beside (by rfl)
  · exact s.setBat_beside (by rfl)
  · exact .refl s

theorem State.countWindow_beside (i : Int) : Beside s (s.countWindow i) :=
  .ite ((State.addCharge_beside _ _).after (s.setBat_beside (by rfl))) (.refl s)

theorem State.countInterval_beside (i : Int) (n : Nat) : Beside s (s.countInterval i n) :=
  .ite ((State.addCharge_beside _ _).after (s.setBat_beside (by rfl))) (.refl s)

theorem State.countSoc_beside : Beside s s.countSoc := by
  unfold State.countSoc
  split
  · exact s.setBat_beside (by rfl)
  · exact s.setBat_beside (by rfl)

theorem State.extremeStep_beside (c : Curd) : Beside s (s.extremeStep c) := s.setBat_beside (by rfl)

theorem State.histStep_beside (c : Curd) (units : Nat) (run : Bool) : Beside s (s.histStep c units run) := by
  unfold State.histStep
  split
  · exact s.setBat_beside (by rfl)
  · exact .refl s

theorem State.repStep_beside (n : Nat) : Beside s (s.repStep n) := by
  unfold State.repStep
  split
  · exact .ite (s.setBat_beside (by rfl)) (.refl s)
  · exact .refl s

theorem State.setAnchor_beside (kind sa : Nat) : Beside s (s.setAnchor kind sa) := by
  unfold State.setAnchor
  split
  · extract_lets r r1 pairs m measured nom ok r2 r3 src s1 s2
    have h1 : Beside s s1 := s.setBat_beside (by rfl)
    have h2 : Beside s s2 := .ite ((State.orReg_beside _ (by decide) _).after h1) h1
    exact (State.checkpoint_beside _).after ((State.logEntry_beside _ _ _ _).after h2)
  · exact .refl s

theorem State.anchorTests_beside (c : Curd) : Beside s (s.anchorTests c) := by
  unfold State.anchorTests
  split
  · extract_lets ifull vfull vempty full empty nf ne takes ins done mean src s1 s2 s3
    have h1 : Beside s s1 := s.setBat_beside (by rfl)
    have h2 : Beside s s2 := .ite ((State.setAnchor_beside _ _ _).after ((State.insertEntry_beside _ _).after h1))
      (.ite ((State.setAnchor_beside _ _ _).after ((State.insertEntry_beside _ _).after h1)) (.ite ((State.insertEntry_beside _ _).after h1) h1))
    have h3 : Beside s s3 := .ite ((State.setAnchor_beside _ _ _).after h2) h2
    exact .ite ((State.setAnchor_beside _ _ _).after h3) h3
  · exact .refl s

/-! ### Health in STANDBY -/

theorem State.writeHealth_beside : Beside s s.writeHealth := .ite (s.orReg_beside (by decide) _) (s.recordWrite_beside _ _ _ _)

theorem State.healthLife_beside : Beside s s.healthLife := by
  have noted (t : State) (h : HealthSt) : Beside t { t with health := h } := (Only.set_health t h).beside (by decide) (by decide)
  have told (t : State) (bit cause unit : Nat) : Beside t (t.notifyOnce bit cause unit) := by
    unfold State.notifyOnce
    exact .ite (.refl t) ((State.writeHealth_beside _).after ((State.logEntry_beside _ _ _ _).after
      (((State.healthNotice_only _ _ _ _).beside (by decide) (by decide)).after (noted t _))))
  have untold (t : State) (bit : Nat) : Beside t (t.unnotify bit) := by
    unfold State.unnotify
    exact .ite ((State.writeHealth_beside _).after (noted t _)) (.refl t)
  unfold State.healthLife
  extract_lets p src s1 excess s2
  have h1 : Beside s s1 := .ite ((told _ _ _ _).after (noted s _)) (.ite ((untold _ _).after (noted s _)) (.refl s))
  have h2 : Beside s s2 := .ite ((State.advise_beside _ _ _).after h1) h1
  exact (noted s2 _).after h2

theorem State.accountStandby_beside (t : Int) (n : Nat) : Beside s (s.accountStandby t n) :=
  (State.healthLife_beside _).after (.after (.after ((Only.set_health _ _).beside (by decide) (by decide))
    ((Only.set_health _ _).beside (by decide) (by decide))) ((Only.set_health s _).beside (by decide) (by decide)))

/-! ### The charge of a session -/

/-- The state of the pack, the remainder carried, and the charge of the open record. -/
def State.charge (s : State) : PackState × Int × Option Int := (s.bat.state, s.bat.rem, s.bat.session.map (fun x => x.record.q))

theorem Only.charge {l : List Part} {s t : State} (h : Only l s t) (hl : .bat ∉ l) : Keeps State.charge s t :=
  congrArg (fun b : BatSt => (b.state, b.rem, b.session.map (fun x : SessionSt => x.record.q))) (h .bat hl)

theorem State.setBat_charge {b : BatSt} (hs : b.state = s.bat.state) (hr : b.rem = s.bat.rem)
    (hq : b.session.map (fun x => x.record.q) = s.bat.session.map (fun x => x.record.q)) : Keeps State.charge s (s.setBat b) :=
  Prod.ext hs (Prod.ext hr hq)

theorem State.ntcFaults_charge (c : Curd) : Keeps State.charge s (s.ntcFaults c) := by
  refine .fold (fun t n => .ite (.ite ((t.orReg_only _ _).charge (by decide)) ?_) rfl) rfl
  have told : Keeps State.charge (t.orReg 0xB0120 8) { t.orReg 0xB0120 8 with bat := { (t.orReg 0xB0120 8).bat with
    ntcTold := (t.orReg 0xB0120 8).bat.ntcTold + 2 ^ n } } := rfl
  exact ((t.orReg_only 0xB0120 8).charge (by decide)).trans (told.trans (((State.notice_only _ _ _).charge (by decide)).trans
    ((State.advise_only _ _ _).charge (by decide))))

theorem State.insertEntry_charge (result : Nat) : Keeps State.charge s (s.insertEntry result) := by
  unfold State.insertEntry
  split
  next x hx =>
    refine .ite (Keeps.trans (s.setBat_charge (by rfl) (by rfl) ?_) ((State.batLog_only _ _ _ _ _).charge (by decide))) rfl
    rw [hx]
    rfl
  next => rfl

theorem State.checkpoint_charge : Keeps State.charge s s.checkpoint := by
  unfold State.checkpoint
  split
  next x hx =>
    refine Keeps.trans (s.setBat_charge (by rfl) (by rfl) ?_) ((State.writePack_only _ _ _).charge (by decide))
    rw [hx]
    rfl
  next => rfl

theorem State.setAnchor_charge (kind sa : Nat) : Keeps State.charge s (s.setAnchor kind sa) := by
  unfold State.setAnchor
  split
  next x hx =>
    extract_lets r r1 pairs m measured nom ok r2 r3 src s1 s2
    have q1 : r1.q = r.q := by
      unfold r1
      split
      · rfl
      · split <;> rfl
    have q2 : r2.q = r.q := by
      unfold r2
      split <;> exact q1
    have h1 : Keeps State.charge s s1 := s.setBat_charge (by rfl) (by rfl) (by
      rw [hx]
      exact congrArg some q2)
    have h2 : Keeps State.charge s s2 := .ite (h1.trans ((State.orReg_only _ _ _).charge (by decide))) h1
    exact (h2.trans ((State.batLog_only _ _ _ _ _).charge (by decide))).trans (State.checkpoint_charge _)
  next => rfl

theorem State.anchorTests_charge (c : Curd) : Keeps State.charge s (s.anchorTests c) := by
  unfold State.anchorTests
  split
  next x hx =>
    extract_lets ifull vfull vempty full empty nf ne takes ins done mean src s1 s2 s3
    have h1 : Keeps State.charge s s1 := s.setBat_charge (by rfl) (by rfl) (by
      rw [hx]
      rfl)
    have h2 : Keeps State.charge s s2 := .ite (h1.trans ((State.insertEntry_charge _ _).trans (State.setAnchor_charge _ _ _)))
      (.ite (h1.trans ((State.insertEntry_charge _ _).trans (State.setAnchor_charge _ _ _))) (.ite (h1.trans (State.insertEntry_charge _ _)) h1))
    have h3 : Keeps State.charge s s3 := .ite (h2.trans (State.setAnchor_charge _ _ _)) h2
    exact .ite (h3.trans (State.setAnchor_charge _ _ _)) h3
  next => rfl

theorem State.countSoc_charge : Keeps State.charge s s.countSoc := by
  unfold State.countSoc
  split <;> rfl

theorem State.extremeStep_charge (c : Curd) : Keeps State.charge s (s.extremeStep c) := by
  have kept (r : PackRec) : (r.extremes c).q = r.q := by
    unfold PackRec.extremes
    dsimp only
    split <;> split <;> rfl
  refine s.setBat_charge (by rfl) (by rfl) ?_
  cases s.bat.session with
  | none => rfl
  | some x => exact congrArg some (kept x.record)

theorem State.cycleStep_q (r : PackRec) : (s.cycleStep r).q = r.q := by
  unfold State.cycleStep
  dsimp only
  split <;> rfl

theorem SessionSt.depthStep_q (x : SessionSt) (soc : Nat) : (x.depthStep soc).record.q = x.record.q := by
  unfold SessionSt.depthStep
  split
  · rfl
  · split
    · rfl
    · dsimp only
      split <;> rfl

theorem State.zStep_q (x : SessionSt) (c : Curd) (gap : Bool) : (s.zStep x c gap).record.q = x.record.q := by
  unfold State.zStep
  dsimp only
  split
  · split
    · split <;> rfl
    · rfl
  · rfl

theorem State.histStep_charge (c : Curd) (units : Nat) (run : Bool) : Keeps State.charge s (s.histStep c units run) := by
  unfold State.histStep
  split
  next x hx =>
    extract_lets r hot ht hs hc x1 x2
    have q1 : x1.record.q = x.record.q := s.cycleStep_q x.record
    have q2 : x2.record.q = x.record.q := by
      unfold x2
      split
      · exact (x1.depthStep_q _).trans q1
      · exact q1
    refine s.setBat_charge (by rfl) (by rfl) ?_
    rw [hx]
    refine congrArg some ?_
    split
    · exact (s.zStep_q x2 c false).trans q2
    · exact q2
  next => rfl

end

end Sys2Proof.Machine
end

section
/-!
PROOFS. Curds: what one publishes and counts, in RUN and in STANDBY, and what a lost one leaves (O41).
-/

namespace Sys2Proof.Machine

theorem State.reg_setReg_if (s : State) (a b : Nat) (w : Word) : (s.setReg a w).reg b = if b = a then w else s.reg b := by
  split
  next h => exact h ▸ s.reg_setReg_same a w
  next h => exact s.reg_setReg_other w h

section
variable (s : State)

/-- What BAT_CURD shows of a curd (Table Bat.1). -/
theorem State.publishCurd_reg (c : Curd) (time : Nat) (stby gap est : Bool) :
    (s.publishCurd c time stby gap est).reg 0xB0130 = s.bat.seq ∧ (s.publishCurd c time stby gap est).reg 0xB0134 = s.tnow time ∧
      (s.publishCurd c time stby gap est).reg 0xB0138 = BitVec.ofNat 32 c.vpack ∧
      (s.publishCurd c time stby gap est).reg 0xB013C = wordOfInt c.ipack ∧ (s.publishCurd c time stby gap est).reg 0xB014C = s.bat.seq := by
  unfold State.publishCurd
  extract_lets t st w6 ws s1 s2
  have shown (i : Nat) (hi : i ∈ List.range 8) : s1.reg (0xB0130 + 4 * i) = ws.getD i 0 := by
    unfold s1
    generalize ws = l at *
    rw [show List.range 8 = [0, 1, 2, 3, 4, 5, 6, 7] from rfl] at hi ⊢
    simp only [List.foldl_cons, List.foldl_nil, State.reg_setReg_if]
    simp only [List.mem_cons, List.not_mem_nil, or_false] at hi
    rcases hi with rfl | rfl | rfl | rfl | rfl | rfl | rfl | rfl <;> rfl
  have flagged : Words [0xB0120] s1 (if c.iovr then s2.orReg 0xB0120 4 else s2) := by
    have h2 : Words [0xB0120] s1 s2 := .ite (s1.orReg_words _ _) (.refl _ _)
    exact .ite (h2.trans (s2.orReg_words _ _)) h2
  exact ⟨(flagged _ (by decide)).trans (shown 0 (by decide)), (flagged _ (by decide)).trans (shown 1 (by decide)),
    (flagged _ (by decide)).trans (shown 2 (by decide)), (flagged _ (by decide)).trans (shown 3 (by decide)),
    (flagged _ (by decide)).trans (shown 7 (by decide))⟩

theorem State.publishCurd_words (c : Curd) (time : Nat) (stby gap est : Bool) :
    Words [0xB0120, 0xB0130, 0xB0134, 0xB0138, 0xB013C, 0xB0140, 0xB0144, 0xB0148, 0xB014C] s (s.publishCurd c time stby gap est) := by
  unfold State.publishCurd
  extract_lets t st w6 ws s1 s2
  have h1 : Words [0xB0120, 0xB0130, 0xB0134, 0xB0138, 0xB013C, 0xB0140, 0xB0144, 0xB0148, 0xB014C] s s1 := fun a ha => by
    unfold s1
    rw [show List.range 8 = [0, 1, 2, 3, 4, 5, 6, 7] from rfl]
    simp only [List.mem_cons, List.not_mem_nil, or_false, not_or] at ha
    simp [State.reg_setReg_if, ha]
  have h2 : Words [0xB0120, 0xB0130, 0xB0134, 0xB0138, 0xB013C, 0xB0140, 0xB0144, 0xB0148, 0xB014C] s s2 :=
    .ite (h1.trans ((State.orReg_words _ _ _).among (by decide))) h1
  exact .ite (h2.trans ((State.orReg_words _ _ _).among (by decide))) h2

/-- A pack that is not seen absent leaves an ACTIVE session as it is. -/
theorem State.presenceStep_active {seen : Option Bool} (hs : s.bat.state = .active) (hp : seen ≠ some false) : s.presenceStep seen = s := by
  unfold State.presenceStep
  dsimp only
  rw [hs]
  generalize hpp : (if s.shipClosed then none else seen) = pp
  have here : pp ≠ some false := by
    rw [← hpp]
    split
    · simp
    · exact hp
  match pp, here with
  | none, _ => rfl
  | some true, _ => rfl

theorem State.addCharge_active {x : SessionSt} (dq : Int) (hs : s.bat.state = .active) (hx : s.bat.session = some x) :
    (s.addCharge dq).charge = (.active, s.bat.rem, some (x.record.q + dq)) := by
  unfold State.addCharge
  dsimp only
  split
  next h => cases hs.symm.trans h
  next h => cases hs.symm.trans h
  next y _ hy =>
    cases hx.symm.trans hy
    exact congrArg (fun p => (p, s.bat.rem, some (x.record.q + dq))) hs
  next h _ => cases hs.symm.trans h
  next _ _ h _ => exact absurd hx (h x hs)

/-- The charge of a window in an ACTIVE session: divided and rounded down, with what is left as the new remainder (R460). -/
theorem State.countWindow_active {q : Int} (i : Int) (h : s.charge = (.active, s.bat.rem, some q)) :
    (s.countWindow i).charge = (.active, (i + s.bat.rem) - Int.fdiv (i + s.bat.rem) 262144000 * 262144000,
      some (q + Int.fdiv (i + s.bat.rem) 262144000)) := by
  simp only [State.charge, Prod.mk.injEq, true_and] at h
  obtain ⟨state, session⟩ := h
  obtain ⟨x, hx, rfl⟩ := Option.map_eq_some_iff.1 session
  have counts : s.bat.state.counts = true := state ▸ rfl
  exact (congrArg State.charge (if_pos counts)).trans (State.addCharge_active _ _ state hx)

/-! ### A curd of RUN -/

/-- What a curd that has been delivered counts besides the charge. -/
def State.curdCounted (s : State) (c : Curd) : State :=
  if s.bat.state.keeps then (((s.anchorTests c).countSoc).extremeStep c).histStep c 1024 true else (s.countSoc).extremeStep c

theorem State.curdCounted_beside (c : Curd) : Beside s (s.curdCounted c) :=
  .ite ((State.histStep_beside _ _ _ _).after ((State.extremeStep_beside _ _).after ((State.countSoc_beside _).after (s.anchorTests_beside c))))
    ((State.extremeStep_beside _ _).after s.countSoc_beside)

theorem State.curdCounted_charge (c : Curd) : Keeps State.charge s (s.curdCounted c) :=
  .ite ((((s.anchorTests_charge c).trans (State.countSoc_charge _)).trans (State.extremeStep_charge _ _)).trans (State.histStep_charge _ _ _ _))
    (s.countSoc_charge.trans (State.extremeStep_charge _ _))

/-- The curd that the window in progress gives. -/
def State.windowCurd (s : State) (v : Nat) (code : BitVec 24) (excess : Bool) (ntc : List Nat) : Curd :=
  s.curdOf (s.windowCal s.bat.winAt) v code excess ntc

/-- What has become of the presence at the end of the window. -/
def State.windowSeen (s : State) : State := s.presenceStep (s.presentAt (s.bat.winAt + windowAng) false)

/-- A delivered curd is published and its charge counted. -/
def State.curdShown (s : State) (c : Curd) (age : Nat) : State :=
  ((s.windowSeen.publishCurd c (s.windowSeen.now - age) false (!s.windowSeen.bat.state.counts) s.windowSeen.bat.estNext).ntcFaults c).countWindow c.i

/-- The next window follows. -/
def State.curdNext (s : State) (c : Curd) (u : State) : State :=
  u.setBat { u.bat.nextWindow with
    seq := u.bat.seq + 1, lastI := c.i, lastIp := c.ipack, lastVp := c.vpack, estNext := false, lastEnd := u.lfAt (s.bat.winAt + windowAng)
    seen := (s.presentAt (s.bat.winAt + windowAng) false).orElse (fun _ => u.bat.seen)
    shipAt := if c.vpack < u.fld 0xB002C 15 0 * 100 then u.bat.shipAt else none }

theorem State.curdDone_due {v : Nat} {code : BitVec 24} {excess : Bool} {ntc : List Nat} {age : Nat} (hw : s.windowDue = true)
    (ht : s.now = s.bat.winAt + windowAng / 2 + age) :
    s.curdDone v code excess ntc age =
      (s.curdNext (s.windowCurd v code excess ntc) (s.curdShown (s.windowCurd v code excess ntc) age)).curdCounted (s.windowCurd v code excess ntc) := by
  unfold State.curdDone
  exact if_pos (by simp [hw, ht])

theorem State.windowSeen_beside : Beside s s.windowSeen := s.presenceStep_beside _

/-- A published curd shows what was published, numbered as before, whatever the estimator then does. -/
theorem State.curdShown_spec (c : Curd) (age : Nat) :
    (s.curdShown c age).reg 0xB0130 = s.bat.seq ∧ (s.curdShown c age).reg 0xB0134 = s.tnow (s.now - age) ∧
      (s.curdShown c age).reg 0xB0138 = BitVec.ofNat 32 c.vpack ∧ (s.curdShown c age).reg 0xB013C = wordOfInt c.ipack ∧
      (s.curdShown c age).reg 0xB014C = s.bat.seq ∧ (s.curdShown c age).windows = s.windows := by
  have seen := s.windowSeen_beside
  have only : Only [.regs, .link, .nand, .cave, .bat, .setAt, .setNow] s s.windowSeen := s.presenceStep_only _
  unfold State.curdShown
  generalize s.windowSeen = u at *
  obtain ⟨seq, time, vpack, ipack, last⟩ := u.publishCurd_reg c (u.now - age) false (!u.bat.state.counts) u.bat.estNext
  have published := u.publishCurd_only c (u.now - age) false (!u.bat.state.counts) u.bat.estNext
  generalize u.publishCurd c (u.now - age) false (!u.bat.state.counts) u.bat.estNext = p at *
  have counted := (State.countWindow_beside _ c.i).after (p.ntcFaults_beside c)
  have seqs : u.bat.seq = s.bat.seq := (congrArg Prod.fst seen.windows :)
  rw [seqs] at seq last
  have times : u.tnow (u.now - age) = s.tnow (s.now - age) := by
    unfold State.tnow
    rw [only .tnowBase (by decide), only .now (by decide)]
  exact ⟨(counted.words _ (by decide)).trans seq, ((counted.words _ (by decide)).trans time).trans times, (counted.words _ (by decide)).trans vpack,
    (counted.words _ (by decide)).trans ipack, (counted.words _ (by decide)).trans last,
    (seen.windows.trans ((published.windows (by decide)).trans counted.windows) : Keeps State.windows s _)⟩

/-! ### A curd of STANDBY -/

/-- What has become of the presence at the end of a STANDBY window. -/
def State.standbySeen (s : State) : State := s.presenceStep (s.presentAt s.standbyWindowEnd true)

/-- A curd of STANDBY is published and its interval counted, and the next one placed. -/
def State.standbyShown (s : State) (c : Curd) : State :=
  (((s.standbySeen.publishCurd c s.standbyMid true (!s.standbySeen.bat.state.counts) true).ntcFaults c).countInterval c.i
    (s.standbyWindowEnd - s.bat.lastEnd)).nextStandbyCurd

/-- The wake causes that a curd of STANDBY meets. -/
def State.standbyCause (s : State) (c : Curd) : Nat :=
  s.wakeCauses c ((s.presentAt s.standbyWindowEnd true).isSome && s.bat.seen.isSome && decide (s.presentAt s.standbyWindowEnd true ≠ s.bat.seen))
    (if s.bit 0xB0000 5 && decide (c.vpack < s.fld 0xB002C 15 0 * 100) then s.bat.shipRun + 1 else 0)

/-- The next curd is numbered, and what it wakes for kept. -/
def State.standbyNext (s : State) (c : Curd) (u : State) : State :=
  u.setBat { u.bat with
    seq := u.bat.seq + 1, lastI := c.i, lastIp := c.ipack, lastVp := c.vpack, estNext := false
    seen := (s.presentAt s.standbyWindowEnd true).orElse (fun _ => u.bat.seen)
    shipRun := if s.bit 0xB0000 5 && decide (c.vpack < s.fld 0xB002C 15 0 * 100) then s.bat.shipRun + 1 else 0
    shipWake := u.bat.shipWake || (s.standbyCause c).testBit 4, wakeCause := if s.standbyCause c = 0 then u.bat.wakeCause else s.standbyCause c }

/-- What a curd of STANDBY counts besides the charge. -/
def State.standbyCounted (s : State) (c : Curd) (n : Nat) : State :=
  let s3 := (s.countSoc).extremeStep c
  let s4 := if s3.bat.state.keeps then s3.histStep c (125 * n) false else s3
  let k := (s4.lf - s4.bat.repAt) / 32768
  let s5 := (s4.repStep k).setBat { (s4.repStep k).bat with repAt := s4.bat.repAt + k * 32768 }
  (s5.epochAdvance).accountStandby (s5.standbyTemp c) n

/-- A wake is asked for where a cause is met. -/
def State.wokenBy (s : State) (cause : Nat) : State := if cause = 0 then s else s.requestWake 4

theorem State.standbyCurd_due {v : Nat} {code : BitVec 24} {excess : Bool} {ntc : List Nat} (h : s.standbyDue = true) :
    s.standbyCurd v code excess ntc =
      (let c := s.curdOf (curdCal s.reg) v code excess ntc
       let s6 := (s.standbyNext c (s.standbyShown c)).standbyCounted c (s.standbyWindowEnd - s.bat.lastEnd)
       s6.wokenBy (s.standbyCause c)) := by
  unfold State.standbyCurd
  exact if_pos h

theorem State.epochAdvance_words : Words [0xB0128] s s.epochAdvance := by
  unfold State.epochAdvance
  exact .ite (.of (s.setBat_only _) (by decide)) (.stepOf (State.setBat_only _ _) (.set_reg s _ _) (by decide))

theorem State.epochAdvance_windows : Keeps State.windows s s.epochAdvance := by
  unfold State.epochAdvance
  exact .ite rfl rfl

theorem State.standbyCounted_spec (c : Curd) (n : Nat) :
    Words (0xB0128 :: batWords) s (s.standbyCounted c n) ∧ Keeps State.windows s (s.standbyCounted c n) := by
  unfold State.standbyCounted
  extract_lets s3 s4 k src s5
  have h3 : Beside s s3 := (State.extremeStep_beside _ c).after s.countSoc_beside
  have h4 : Beside s s4 := .ite ((State.histStep_beside _ _ _ _).after h3) h3
  have h5 : Beside s s5 := (State.setBat_beside _ (by rfl)).after ((State.repStep_beside _ _).after h4)
  have last := s5.epochAdvance.accountStandby_beside (s5.standbyTemp c) n
  exact ⟨((h5.words.among (by decide)).trans (s5.epochAdvance_words.among (by decide))).trans (last.words.among (by decide)),
    (h5.windows.trans s5.epochAdvance_windows).trans last.windows⟩

theorem State.standbyCounted_only (c : Curd) (n : Nat) :
    Only [.regs, .nand, .cave, .health, .bat, .setAt, .setNow] s (s.standbyCounted c n) := by
  unfold State.standbyCounted
  extract_lets s3 s4 k src s5
  have h3 : Only [.bat] s s3 := ((State.extremeStep_only _ c).after s.countSoc_only).among (by decide)
  have h4 : Only [.bat] s s4 := .ite (((State.histStep_only _ _ _ _).after h3).among (by decide)) h3
  have h5 : Only [.bat] s s5 := ((State.setBat_only _ _).after ((State.repStep_only _ _).after h4)).among (by decide)
  exact ((State.accountStandby_only _ _ _).after ((State.epochAdvance_only s5).after h5)).among (by decide)

/-- A published curd of STANDBY, and when the next one falls due. -/
theorem State.standbyShown_spec (c : Curd) :
    (s.standbyShown c).reg 0xB0130 = s.bat.seq ∧ (s.standbyShown c).reg 0xB0138 = BitVec.ofNat 32 c.vpack ∧
      (s.standbyShown c).reg 0xB013C = wordOfInt c.ipack ∧ (s.standbyShown c).bat.seq = s.bat.seq ∧
      (s.standbyShown c).bat.sbyAt = s.bat.sbyAt + 32768 * s.fld 0xB0000 23 16 := by
  have seen : Beside s s.standbySeen := s.presenceStep_beside _
  unfold State.standbyShown
  generalize s.standbyWindowEnd - s.bat.lastEnd = n
  generalize s.standbySeen = u at *
  obtain ⟨seq, -, vpack, ipack, -⟩ := u.publishCurd_reg c s.standbyMid true (!u.bat.state.counts) true
  have published := u.publishCurd_only c s.standbyMid true (!u.bat.state.counts) true
  have kept : (u.publishCurd c s.standbyMid true (!u.bat.state.counts) true).reg 0xB0000 = u.reg 0xB0000 :=
    u.publishCurd_words c s.standbyMid true (!u.bat.state.counts) true _ (by decide)
  generalize u.publishCurd c s.standbyMid true (!u.bat.state.counts) true = p at *
  have counted := (State.countInterval_beside _ c.i n).after (p.ntcFaults_beside c)
  have windows : Keeps State.windows s _ := seen.windows.trans ((published.windows (by decide)).trans counted.windows)
  have seqs : u.bat.seq = s.bat.seq := (congrArg Prod.fst seen.windows :)
  generalize (p.ntcFaults c).countInterval c.i n = w at *
  rw [seqs] at seq
  have sby : w.bat.sbyAt = s.bat.sbyAt := (congrArg (fun x => x.2.2.1) windows :)
  have per : w.fld 0xB0000 23 16 = s.fld 0xB0000 23 16 :=
    congrArg (fieldOf · 23 16) (((counted.words _ (by decide)).trans kept).trans (seen.words _ (by decide)))
  exact ⟨(counted.words _ (by decide)).trans seq, (counted.words _ (by decide)).trans vpack, (counted.words _ (by decide)).trans ipack,
    (congrArg Prod.fst windows :), by rw [← per, ← sby]; rfl⟩

theorem State.standbyShown_only (c : Curd) :
    Only [.regs, .link, .nand, .cave, .health, .bat, .setAt, .setNow] s (s.standbyShown c) :=
  ((State.setBat_only _ _).after ((State.countInterval_only _ _ _).after ((State.ntcFaults_only _ c).after ((State.publishCurd_only _ _ _ _ _ _).after
    (s.presenceStep_only _))))).among (by decide)

theorem State.requestWake_spec :
    Words [0x110018] s (s.requestWake 4) ∧ (s.requestWake 4).power.phase = s.power.phase ∧
      (s.power.phase = .standby → (s.requestWake 4).power.wakeReq.testBit 2 = true) := by
  unfold State.requestWake
  split
  · refine ⟨.refl _ _, rfl, fun _ => ?_⟩
    exact (Nat.testBit_or _ _ _).trans (by rw [show Nat.testBit 4 2 = true from rfl, Bool.or_true])
  next hn =>
    refine ⟨?_, ?_, fun h => absurd (.inl h) hn⟩
    · exact .ite ((s.orReg_words _ _).stepOf (Only.set_power _ _) (by decide)) (.refl _ _)
    · split <;> rfl

theorem State.wokenBy_spec (cause : Nat) :
    Words [0x110018] s (s.wokenBy cause) ∧ (s.wokenBy cause).bat = s.bat ∧ (s.wokenBy cause).power.phase = s.power.phase ∧
      (cause ≠ 0 → s.power.phase = .standby → (s.wokenBy cause).power.wakeReq.testBit 2 = true) := by
  unfold State.wokenBy
  split
  next h => exact ⟨.refl _ _, rfl, rfl, fun hn => absurd h hn⟩
  next => exact ⟨s.requestWake_spec.1, s.requestWake_only 4 .bat (by decide), s.requestWake_spec.2.1, fun _ => s.requestWake_spec.2.2⟩

/-- A pack voltage below VWAKE is a cause (R477). -/
theorem State.standbyCause_voltage (c : Curd) (hv : 0 < s.fld 0xB0024 31 16) (hl : c.vpack < s.fld 0xB0024 31 16 * 100) : s.standbyCause c ≠ 0 := by
  unfold State.standbyCause State.wakeCauses
  dsimp only
  have met : (decide (s.fld 0xB0024 31 16 ≠ 0) && decide (c.vpack < s.fld 0xB0024 31 16 * 100)) = true := by simp [Nat.ne_of_gt hv, hl]
  rw [met]
  simp [b2n]

/-! ### A curd that is lost -/

theorem State.lostCurd_spec :
    s.lostCurd.bat.seq = s.bat.seq + 1 ∧ s.lostCurd.bat.estNext = true ∧ s.lostCurd.bit 0xB0120 0 = true ∧ s.lostCurd.bat.lastI = s.bat.lastI ∧
      s.lostCurd.bat.winAt = s.bat.winAt ∧ s.lostCurd.bat.sbyAt = s.bat.sbyAt := by
  have lost : (s.orReg 0xB0120 1).bit 0xB0120 0 = true := s.bit_orReg_same _ _ (by decide) (by decide)
  exact ⟨rfl, rfl, Words.bit ((State.satInc_words _ 0xB0124 15 0).stepOf (State.setBat_only _ _) (by decide)) lost (by decide), rfl, rfl, rfl⟩

theorem State.curdLost_window (hw : s.windowDue = true) :
    s.curdLost = ((s.windowSeen.countWindow s.bat.lastI).setBat { (s.windowSeen.countWindow s.bat.lastI).bat.nextWindow with
      lastEnd := (s.windowSeen.countWindow s.bat.lastI).lfAt (s.bat.winAt + windowAng) }).lostCurd := by
  unfold State.curdLost
  exact if_pos hw

theorem State.curdLost_standby (hw : s.windowDue = false) (hs : s.standbyDue = true) :
    s.curdLost = ((s.standbySeen.countInterval s.bat.lastI (s.standbyWindowEnd - s.bat.lastEnd)).nextStandbyCurd).lostCurd := by
  unfold State.curdLost
  exact (if_neg (by simp [hw])).trans (if_pos hs)

end

/-- Settles O41: a curd publishes its window and the charge counts it; one of STANDBY wakes by its thresholds; a lost one leaves its mark. -/
theorem curds : Obligations.Curds := by
  refine ⟨fun v code excess ntc age i => ?published, fun v code excess ntc age i x => ?counted, fun v code excess ntc age => ?noWindow,
    fun v code excess ntc i => ?standby, fun v code excess ntc => ?noStandby, ?lost, ?lostStandby⟩
  case published =>
    refine .of (·.curdDone v code excess ntc age) (fun _ _ => rfl) fun e _ ⟨hw, ht, hi⟩ => ?_
    have only := e.curdDone_only v code excess ntc age
    rw [e.curdDone_due hw ht] at only ⊢
    have current : (e.windowCurd v code excess ntc).i = i := hi.symm
    have clamped : (e.windowCurd v code excess ntc).vpack = Nat.min v 900000 := rfl
    have ipack : (e.windowCurd v code excess ntc).ipack = ipackOf i := hi ▸ rfl
    generalize e.windowCurd v code excess ntc = c at *
    obtain ⟨seq, time, vpack, shown, last, windows⟩ := e.curdShown_spec c age
    generalize e.curdShown c age = u at *
    have next : Words [] u (e.curdNext c u) := .of (u.setBat_only _) (by decide)
    have placed : (e.curdNext c u).windows = (u.bat.seq + 1, u.bat.winAt + windowAng, u.bat.sbyAt, c.i, false) := rfl
    generalize e.curdNext c u = w at *
    have counted := w.curdCounted_beside c
    have rest (a : Nat) (ha : a ∉ batWords) : (w.curdCounted c).reg a = u.reg a := (counted.words a ha).trans (next a (List.not_mem_nil))
    have final := Eq.trans counted.windows placed
    generalize w.curdCounted c = t at *
    simp only [State.windows, Prod.mk.injEq] at windows final
    obtain ⟨seqs, wins, -, -, -⟩ := windows
    obtain ⟨fseq, fwin, -, fi, fest⟩ := final
    rw [BitVec.ofNat_toNat, BitVec.setWidth_eq]
    exact ⟨(rest _ (by decide)).trans seq, (rest _ (by decide)).trans last, (rest _ (by decide)).trans time, seqs ▸ fseq,
      ((rest _ (by decide)).trans vpack).trans (congrArg _ clamped), ((rest _ (by decide)).trans shown).trans (congrArg _ ipack), wins ▸ fwin,
      fi.trans current, fest, only .sram (by decide), only .wheels (by decide), only .power (by decide)⟩
  case counted =>
    refine .of (·.curdDone v code excess ntc age) (fun _ _ => rfl) fun e _ ⟨hw, ht, hi, hs, hx, hp⟩ => ?_
    rw [e.curdDone_due hw ht]
    have current : (e.windowCurd v code excess ntc).i = i := hi.symm
    generalize e.windowCurd v code excess ntc = c at *
    have same : e.windowSeen = e := e.presenceStep_active hs hp
    unfold State.curdShown
    rw [same]
    have before : Keeps State.charge e ((e.publishCurd c (e.now - age) false (!e.bat.state.counts) e.bat.estNext).ntcFaults c) :=
      ((e.publishCurd_only _ _ _ _ _).charge (by decide)).trans (State.ntcFaults_charge _ c)
    generalize (e.publishCurd c (e.now - age) false (!e.bat.state.counts) e.bat.estNext).ntcFaults c = n at *
    have rem : n.bat.rem = e.bat.rem := (congrArg (fun p => p.2.1) before :)
    have active : n.charge = (.active, n.bat.rem, some x.record.q) := by
      rw [rem]
      refine Eq.trans before ?_
      rw [State.charge, hs, hx]
      rfl
    have counted := n.countWindow_active c.i active
    generalize n.countWindow c.i = u at *
    have next : Keeps State.charge u (e.curdNext c u) := rfl
    have final := Eq.trans (next.trans (State.curdCounted_charge _ c)) counted
    generalize (e.curdNext c u).curdCounted c = t at *
    rw [State.charge, current, rem, Prod.mk.injEq, Prod.mk.injEq] at final
    exact ⟨final.2.2, final.1, final.2.1⟩
  case noWindow => exact .of (·.curdDone v code excess ntc age) (fun _ _ => rfl) fun e h => if_neg (by simp [h])
  case standby =>
    refine .of (·.standbyCurd v code excess ntc) (fun _ _ => rfl) fun e _ ⟨hd, hi⟩ => ?_
    have only := e.standbyCurd_only v code excess ntc
    rw [e.standbyCurd_due hd] at only ⊢
    have current : (e.curdOf (curdCal e.reg) v code excess ntc).i = i := hi.symm
    have clamped : (e.curdOf (curdCal e.reg) v code excess ntc).vpack = Nat.min v 900000 := rfl
    have ipack : (e.curdOf (curdCal e.reg) v code excess ntc).ipack = ipackOf i := hi ▸ rfl
    generalize e.curdOf (curdCal e.reg) v code excess ntc = c at *
    dsimp only at only ⊢
    obtain ⟨seq, vpack, shown, seqs, sby⟩ := e.standbyShown_spec c
    have before := e.standbyShown_only c
    generalize e.standbyShown c = u at *
    have next : Words [] u (e.standbyNext c u) := .of (u.setBat_only _) (by decide)
    have placed : (e.standbyNext c u).windows = (u.bat.seq + 1, u.bat.winAt, u.bat.sbyAt, c.i, false) := rfl
    have numbered : Only [.bat] u (e.standbyNext c u) := u.setBat_only _
    generalize e.standbyNext c u = w at *
    obtain ⟨words, windows⟩ := w.standbyCounted_spec c (e.standbyWindowEnd - e.bat.lastEnd)
    have counted := w.standbyCounted_only c (e.standbyWindowEnd - e.bat.lastEnd)
    generalize w.standbyCounted c (e.standbyWindowEnd - e.bat.lastEnd) = r at *
    have power : r.power = e.power := (counted.after (numbered.after before)) .power (by decide)
    have rest (a : Nat) (ha : a ∉ 0xB0128 :: batWords) : r.reg a = u.reg a := (words a ha).trans (next a List.not_mem_nil)
    have final := Eq.trans windows placed
    have cause := e.standbyCause_voltage c
    obtain ⟨woken, bat, phase, request⟩ := r.wokenBy_spec (e.standbyCause c)
    generalize r.wokenBy (e.standbyCause c) = t at *
    simp only [State.windows, Prod.mk.injEq] at final
    obtain ⟨fseq, -, fsby, fi, -⟩ := final
    rw [BitVec.ofNat_toNat, BitVec.setWidth_eq, bat]
    exact ⟨((woken _ (by decide)).trans (rest _ (by decide))).trans seq, fseq.trans (congrArg (· + 1) seqs),
      (((woken _ (by decide)).trans (rest _ (by decide))).trans vpack).trans (congrArg _ clamped),
      (((woken _ (by decide)).trans (rest _ (by decide))).trans shown).trans (congrArg _ ipack), fi.trans current, fsby.trans sby,
      fun hv hl hp => request (cause hv (clamped ▸ hl)) (power ▸ hp), phase.trans (congrArg PowerSt.phase power), only .sram (by decide)⟩
  case noStandby => exact .of (·.standbyCurd v code excess ntc) (fun _ _ => rfl) fun e h => if_neg (by simp [h])
  case lost =>
    refine .of (·.curdLost) (fun _ _ => rfl) fun e _ hw => ?_
    have only := e.curdLost_only
    have kept : Keeps State.windows e (e.windowSeen.countWindow e.bat.lastI) :=
      e.windowSeen_beside.windows.trans (State.countWindow_beside _ _).windows
    rw [e.curdLost_window hw] at only ⊢
    generalize e.windowSeen.countWindow e.bat.lastI = u at *
    rw [Keeps, State.windows, State.windows, Prod.mk.injEq, Prod.mk.injEq, Prod.mk.injEq, Prod.mk.injEq] at kept
    obtain ⟨seq, win, -, last, -⟩ := kept
    have lost := State.lostCurd_spec (u.setBat { u.bat.nextWindow with lastEnd := u.lfAt (e.bat.winAt + windowAng) })
    obtain ⟨seq', est, bit, last', win', -⟩ := lost
    exact ⟨seq'.trans (congrArg (· + 1) seq), est, bit, last'.trans last, win'.trans (congrArg (· + windowAng) win), only .sram (by decide),
      only .power (by decide), only .wheels (by decide)⟩
  case lostStandby =>
    refine .of (·.curdLost) (fun _ _ => rfl) fun e _ ⟨hw, hs⟩ => ?_
    have only := e.curdLost_only
    have seen : Beside e (e.standbySeen.countInterval e.bat.lastI (e.standbyWindowEnd - e.bat.lastEnd)) :=
      (State.countInterval_beside _ _ _).after (e.presenceStep_beside _)
    rw [e.curdLost_standby hw hs] at only ⊢
    generalize e.standbySeen.countInterval e.bat.lastI (e.standbyWindowEnd - e.bat.lastEnd) = u at *
    have kept := seen.windows
    rw [Keeps, State.windows, State.windows, Prod.mk.injEq, Prod.mk.injEq, Prod.mk.injEq, Prod.mk.injEq] at kept
    obtain ⟨seq, -, sby, -, -⟩ := kept
    have per : u.fld 0xB0000 23 16 = e.fld 0xB0000 23 16 := congrArg (fieldOf · 23 16) (seen.words _ (by decide))
    obtain ⟨seq', est, bit, -, -, sby'⟩ := u.nextStandbyCurd.lostCurd_spec
    refine ⟨seq'.trans (congrArg (· + 1) seq), est, bit, sby'.trans ?_, only .power (by decide), only .sram (by decide)⟩
    rw [← per, ← sby]
    rfl

end Sys2Proof.Machine
end

section
/-!
PROOFS. A pack is identified, waits, is taken up, times out and is forgotten (R446, R454 to R456, R471).
-/
namespace Sys2Proof.Machine

section
variable (s : State)

/-- The state of the pack, its ID, the attempt, and whether a pack is open and under which index. -/
def BatSt.holder (b : BatSt) : PackState × Nat × Option IdTxn × Bool × Option Nat :=
  (b.state, b.id, b.attempt, b.identified, b.session.map (fun x => x.index))

/-- The open session goes on under its index. -/
theorem BatSt.holder_goOn {b : BatSt} {x y : SessionSt} (hx : b.session = some x) (hi : y.index = x.index) :
    ({ b with session := some y } : BatSt).holder = b.holder := by
  unfold BatSt.holder
  rw [hx, Option.map_some, Option.map_some, hi]

/-- Whose pack it is. -/
def State.holder (s : State) : PackState × Nat × Option IdTxn × Bool × Option Nat := s.bat.holder

theorem Only.holder {l : List Part} {s t : State} (h : Only l s t) (hl : .bat ∉ l) : Keeps State.holder s t := congrArg BatSt.holder (h .bat hl)

theorem State.insertEntry_holder (result : Nat) : Keeps State.holder s (s.insertEntry result) := by
  unfold State.insertEntry
  split
  next x hx =>
    have told (b : BatSt) (e i j : Nat) (d : List Byte) : Keeps State.holder (s.setBat b) ((s.setBat b).batLog e i j d) :=
      (State.batLog_only _ _ _ _ _).holder (by decide)
    have owed : Keeps State.holder s (s.setBat { s.bat with session := some { x with insertOwed := false } }) :=
      BatSt.holder_goOn hx rfl
    exact .ite (owed.trans (told _ _ _ _ _)) rfl
  next => rfl

theorem State.checkpoint_holder : Keeps State.holder s s.checkpoint := by
  unfold State.checkpoint
  split
  next x hx =>
    have taken : Keeps State.holder s (s.setBat { s.bat with session := some { x with record := s.liveRecord x true } }) :=
      BatSt.holder_goOn hx rfl
    exact taken.trans ((State.writePack_only _ _ _).holder (by decide))
  next => rfl

/-- A record with its own index is opened: the session is that of the index chosen. -/
theorem State.openPack_holder (id : Nat) : (s.openPack id).holder = (.active, id, none, true, some (s.choosePack id).1) := by
  unfold State.openPack
  extract_lets ch i old known resume s0 sess base ep r0 r src x b src2 s1 s2 s3 s4 s5
  have h1 : s1.holder = (.active, id, none, true, some i) := rfl
  clear_value s1
  have h2 : Keeps State.holder s1 s2 := .ite (((State.orReg_only s1 _ _).holder (by decide)).trans (((State.satInc_only _ _ _ _).holder (by decide)).trans
    ((State.batLog_only _ _ _ _ _).holder (by decide)))) rfl
  have h3 : Keeps State.holder s1 s3 := h2.trans ((State.packNotice_only _ _ _ _).holder (by decide))
  have h4 : Keeps State.holder s1 s4 := .ite (h3.trans ((State.batLog_only _ _ _ _ _).holder (by decide)))
    (.ite (h3.trans (State.insertEntry_holder _ _)) h3)
  have h5 : Keeps State.holder s1 s5 := h4.trans s4.checkpoint_holder
  have h : Keeps State.holder s1 (if s5.storing then s5 else s5.orReg 0xB0120 256) := .ite h5 (h5.trans ((State.orReg_only _ _ _).holder (by decide)))
  exact Eq.trans h h1

/-! ### The deadline and the grace -/

/-- What a checkpoint may do to the fault bits: set one. -/
theorem State.checkpoint_fault {n : Nat} (h : s.bit 0xB0120 n = true) : s.checkpoint.bit 0xB0120 n = true := by
  have written (t : State) (i : Nat) (r : PackRec) (ht : t.bit 0xB0120 n = true) : (t.writePack i r).bit 0xB0120 n = true := by
    have kept (k j v : Nat) (body : List Byte) : (t.recordWrite k j v body).bit 0xB0120 n = true :=
      (congrArg (fun r => bitOf (Sparse.get resetWord r 0xB0120) n) ((t.recordWrite_only k j v body) .regs (by decide)) :).trans ht
    unfold State.writePack
    split
    · split
      · exact kept _ _ _ _
      · exact kept _ _ _ _
    · rw [State.bit, bitOf, State.reg_orReg_same, BitVec.toNat_or, Nat.testBit_or, Bool.or_eq_true]
      exact .inl ht
  unfold State.checkpoint
  split
  · exact written _ _ _ h
  · exact h

/-- The scratch record of an unidentified pack (R455). -/
theorem State.openScratch_spec : s.openScratch.holder = (.unknown, 0, none, s.bat.identified, some 0xFFFF) ∧
    s.openScratch.bit 0xB0120 4 = true ∧ s.openScratch.bit 0x100004 4 = true := by
  unfold State.openScratch
  extract_lets r b src s1 s2
  have h1 : s1.holder = (.unknown, 0, none, s.bat.identified, some 0xFFFF) := rfl
  clear_value s1
  have h2 : Keeps State.holder s1 s2 := ((State.packNotice_only _ _ _ _).holder (by decide)).trans ((State.batLog_only _ _ _ _ _).holder (by decide))
  have h3 : Keeps State.holder s1 ((s2.orReg 0xB0120 16).advise 4 0) := (h2.trans ((State.orReg_only _ _ _).holder (by decide))).trans
    ((State.advise_only _ _ _).holder (by decide))
  have fault : ((s2.orReg 0xB0120 16).advise 4 0).bit 0xB0120 4 = true :=
    (State.advise_words _ 4 0).bit (State.bit_orReg_same _ _ _ (by decide) (by decide)) (by decide)
  exact ⟨Eq.trans (h3.trans (State.checkpoint_holder _)) h1, State.checkpoint_fault _ fault,
    (State.checkpoint_stands _).advice 4 (State.advise_bit _ 4 0 (by decide))⟩

/-- A closed session leaves none. -/
theorem State.closeSession_spec : s.closeSession.bat.state = s.bat.state ∧ s.closeSession.bat.session = none := by
  unfold State.closeSession
  extract_lets t b
  have kept : t.bat.state = s.bat.state := congrArg Prod.fst (s.insertEntry_holder 0)
  clear_value t
  split
  · extract_lets r0 i r s1 s2
    have h1 : s1.bat.state = t.bat.state ∧ s1.bat.session = none := ⟨rfl, rfl⟩
    clear_value s1
    have h2 : s2.bat = s1.bat := ((State.packNotice_only _ _ _ _).after (State.writePack_only _ _ _)) .bat (by decide)
    have h3 (j : Nat) (d : List Byte) : (s2.batLog 5 j r.id d).bat = s1.bat := (State.batLog_only s2 5 j r.id d .bat (by decide)).trans h2
    exact ⟨(congrArg BatSt.state (h3 _ _)).trans (h1.1.trans kept), (congrArg BatSt.session (h3 _ _)).trans h1.2⟩
  next h => exact ⟨kept, h⟩

/-! ### Attempts -/

theorem State.idAttemptDone_ends {r : IdReading} (hr : s.running = true) (ha : s.bat.attempt.isSome = true) (hc : s.idCode r = 0)
    (hs : s.bat.state = .ident) : s.idAttemptDone r = s.identified (natLE (r.bytes.take 8)) :=
  (if_pos (by rw [hr, ha]; rfl)).trans ((if_neg (fun h => h hc)).trans (if_pos hs))

theorem State.idAttemptDone_fails {r : IdReading} (hr : s.running = true) (ha : s.bat.attempt.isSome = true) (hc : s.idCode r ≠ 0) :
    s.idAttemptDone r = s.setBat { s.bat with attempt := none, lastFail := s.idCode r, unstick := decide (s.idCode r = 2) } :=
  (if_pos (by rw [hr, ha]; rfl)).trans (if_pos hc)

theorem State.idAttemptDone_idle {r : IdReading} (h : s.running = false ∨ s.bat.attempt = none) : s.idAttemptDone r = s :=
  if_neg fun hc => by
    obtain ⟨hr, ha⟩ := Bool.and_eq_true_iff.1 hc
    rcases h with h | h
    · exact Bool.false_ne_true (h.symm.trans hr)
    · rw [h] at ha
      exact Bool.false_ne_true ha

theorem State.identified_waits {id : Nat} (h : s.bat.dirReady = false) :
    s.identified id = s.setBat { s.bat with idWait := some id, id := id, attempt := none } := if_pos (by rw [h]; rfl)

theorem State.identified_opens {id : Nat} (h : s.bat.dirReady = true) (hn : s.sessionRows id = []) : s.identified id = s.openPack id :=
  (if_neg (by rw [h]; decide)).trans (if_pos (by rw [hn]; rfl))

theorem State.identified_fetches {id : Nat} (h : s.bat.dirReady = true) (hn : s.sessionRows id ≠ []) :
    s.identified id = (s.setBat { s.bat with idWait := some id, id := id, attempt := none }).addJob .sessFetch 1 ((s.sessionRows id).map NandOp.read) :=
  (if_neg (by rw [h]; decide)).trans (if_neg fun he => hn (List.isEmpty_iff.1 he))

end

/-- Settles O42: attempts, their results, the deadline and the grace of a pack. -/
theorem packIdentification : Obligations.PackIdentification := by
  unfold Obligations.PackIdentification
  refine ⟨?begins, ?held, fun r => ?fails, fun r => ?waits, fun r => ?opens, fun r => ?fetches, fun r => ?idle, ?deadline, ?early, ?grace, ?other⟩
  case begins => exact .of (·.idAttempt) (fun _ _ => rfl) fun e h => if_pos h
  case held => exact .of (·.idAttempt) (fun _ _ => rfl) fun e h => if_neg (by rw [h]; decide)
  case fails => exact .of (·.idAttemptDone r) (fun _ _ => rfl) fun e ⟨hr, ha, hc⟩ => e.idAttemptDone_fails hr ha hc
  case waits =>
    exact .of (·.idAttemptDone r) (fun _ _ => rfl) fun e ⟨hr, ha, hc, hs, hd⟩ => (e.idAttemptDone_ends hr ha hc hs).trans (e.identified_waits hd)
  case opens =>
    refine .of (·.idAttemptDone r) (fun _ _ => rfl) fun e _ ⟨hr, ha, hc, hs, hd, hn⟩ => ?_
    rw [e.idAttemptDone_ends hr ha hc hs, e.identified_opens hd hn]
    have held := e.openPack_holder (natLE (r.bytes.take 8))
    have only := e.openPack_only (natLE (r.bytes.take 8))
    generalize e.openPack (natLE (r.bytes.take 8)) = t at *
    simp only [State.holder, BatSt.holder, Prod.mk.injEq] at held
    obtain ⟨state, id, attempt, identified, index⟩ := held
    exact ⟨state, id, attempt, identified, index, only .sram (by decide), only .wheels (by decide)⟩
  case fetches =>
    refine .of (·.idAttemptDone r) (fun _ _ => rfl) fun e _ ⟨hr, ha, hc, hs, hd, hn⟩ => ?_
    rw [e.idAttemptDone_ends hr ha hc hs, e.identified_fetches hd hn]
    generalize hw : e.setBat { e.bat with idWait := some (natLE (r.bytes.take 8)), id := natLE (r.bytes.take 8), attempt := none } = w
    have wait : w.bat.idWait = some (natLE (r.bytes.take 8)) ∧ w.bat.state = .ident ∧ w.nand = e.nand ∧ w.sram = e.sram := by
      rw [← hw]
      exact ⟨rfl, hs, rfl, rfl⟩
    obtain ⟨idWait, state, nand, sram⟩ := wait
    have only := w.addJob_only .sessFetch 1 ((e.sessionRows (natLE (r.bytes.take 8))).map NandOp.read)
    exact ⟨(congrArg BatSt.idWait (only .bat (by decide)) :).trans idWait, (congrArg BatSt.state (only .bat (by decide)) :).trans state,
      w.addJob_hasJob _ _ _, (only .pages (by decide)).trans (congrArg NandSt.pages nand), (only .sram (by decide)).trans sram⟩
  case idle => exact .of (·.idAttemptDone r) (fun _ _ => rfl) fun e h => e.idAttemptDone_idle h
  case deadline =>
    refine .of (·.idDeadline) (fun _ _ => rfl) fun e _ ⟨hr, hs, hd, ha, hw⟩ => ?_
    have due : e.idDeadline = e.closeSession.openScratch := if_pos (by simp [hr, hs, hd, ha, hw])
    have only := due ▸ e.idDeadline_only
    rw [due]
    obtain ⟨held, fault, advised⟩ := e.closeSession.openScratch_spec
    generalize e.closeSession.openScratch = t at *
    simp only [State.holder, BatSt.holder, Prod.mk.injEq] at held
    obtain ⟨state, id, -, -, index⟩ := held
    exact ⟨state, index, id, fault, advised, only .sram (by decide), only .wheels (by decide)⟩
  case early =>
    refine .of (·.idDeadline) (fun _ _ => rfl) fun e h => if_neg fun hc => ?_
    rcases h with h | h
    · simp [h] at hc
    · simp [Nat.not_le.2 h] at hc
  case grace =>
    refine .of (·.whileAwake (fun e => e.graceEnded)) (fun _ _ => rfl) fun e _ ⟨hp, hs, hg⟩ => ?_
    rw [State.whileAwake_of hp]
    have due : e.graceEnded = ((e.setBat { e.bat with state := .empty }).closeSession).forgetId := if_pos ⟨hs, hg⟩
    have only := due ▸ e.graceEnded_only
    rw [due]
    obtain ⟨state, session⟩ := (e.setBat { e.bat with state := .empty }).closeSession_spec
    exact ⟨state, session, rfl, only .sram (by decide), only .wheels (by decide), only .power (by decide)⟩
  case other =>
    refine .of (·.whileAwake (fun e => e.graceEnded)) (fun _ _ => rfl) fun e h => ?_
    exact State.whileAwake_rest (if_neg fun hc => h hc.1)

end Sys2Proof.Machine
end

section
/-!
PROOFS. SETSOC, the reported state of charge, checkpoints, the epoch and the ship retry (R461, R466, R470, R474, R479).
-/
namespace Sys2Proof.Machine

section
variable {s : State}

/-- The anchor of a record and the charge it stands at. -/
def PackRec.anchor (r : PackRec) : (Nat × Nat × Bool × Bool) × Int × Int := ((r.sa, r.akind, r.anch, r.uncert), r.q, r.qa)

/-- The state of the pack and the anchor of the open record. -/
def State.anchored (s : State) : PackState × Option ((Nat × Nat × Bool × Bool) × Int × Int) :=
  (s.bat.state, s.bat.session.map (fun x => x.record.anchor))

theorem Only.anchored {l : List Part} {s t : State} (h : Only l s t) (hl : .bat ∉ l) : Keeps State.anchored s t :=
  congrArg (fun b : BatSt => (b.state, b.session.map (fun x : SessionSt => x.record.anchor))) (h .bat hl)

theorem State.checkpoint_anchored (s : State) : Keeps State.anchored s s.checkpoint := by
  unfold State.checkpoint
  split
  next x hx =>
    have taken : Keeps State.anchored s (s.setBat { s.bat with session := some { x with record := s.liveRecord x true } }) := by
      unfold Keeps State.anchored
      rw [hx]
      rfl
    exact taken.trans ((State.writePack_only _ _ _).anchored (by decide))
  next => rfl

/-- The anchor that the host sets, at the charge that the record has (R466). -/
theorem State.setAnchor_host {x : SessionSt} (hx : s.bat.session = some x) (sa : Nat) :
    (s.setAnchor 3 sa).anchored = (s.bat.state, some ((sa, 3, true, false), x.record.q, x.record.q)) := by
  unfold State.setAnchor
  split
  next y hy =>
    cases hx.symm.trans hy
    extract_lets r r1 pairs m measured nom ok r2 r3 src s1 s2
    have h1 : s1.anchored = (s.bat.state, some ((sa, 3, true, false), x.record.q, x.record.q)) := rfl
    have h2 : Keeps State.anchored s1 s2 := rfl
    clear_value s2 s1
    exact Eq.trans ((h2.trans ((State.batLog_only _ _ _ _ _).anchored (by decide))).trans (State.checkpoint_anchored _)) h1
  next h => cases hx.symm.trans h

theorem State.busWrite_setSoc (m : Master) (w : Word) (hr : s.running = true) (hl : s.life.state ≠ .scrap) :
    s.busWrite m 0xB012C w = { s.setSoc w with busRead := 0, busError := false } :=
  State.busWrite_plain w hr hl (by decide) (by simp [State.blockUp]) (.inr (by decide))

theorem PackRec.bytes_ne_nil (r : PackRec) : r.bytes ≠ [] := by
  refine List.ne_nil_of_length_pos ?_
  unfold PackRec.bytes
  simp only [List.length_append, length_bytesLE]
  omega

/-- A record that a checkpoint writes while the cave mounts waits as it stands (R474). -/
theorem State.checkpoint_mounting {x : SessionSt} (hx : s.bat.session = some x) (hc : s.cave.mode = .mounting)
    (hl : (s.liveRecord x true).bytes.length ≤ 8160) :
    s.checkpoint.bat = { s.bat with session := some { x with record := s.liveRecord x true } } ∧
      (∃ q ∈ s.checkpoint.cave.recQueue, q.kind = (if x.index = 0xFFFF then 2 else 1) ∧ q.index = (if x.index = 0xFFFF then 0 else x.index) ∧
        q.body = (s.liveRecord x true).bytes) ∧
      s.checkpoint.regs = s.regs ∧ s.checkpoint.sram = s.sram := by
  generalize hr : s.liveRecord x true = r at *
  have writes : s.checkpoint = (s.setBat { s.bat with session := some { x with record := r } }).writePack x.index r := by
    unfold State.checkpoint
    rw [hx]
    dsimp only
    rw [hr]
  have mode : (s.setBat { s.bat with session := some { x with record := r } }).cave.mode = .mounting := hc
  have bat : (s.setBat { s.bat with session := some { x with record := r } }).bat = { s.bat with session := some { x with record := r } } := rfl
  have regs : (s.setBat { s.bat with session := some { x with record := r } }).regs = s.regs := rfl
  have sram : (s.setBat { s.bat with session := some { x with record := r } }).sram = s.sram := rfl
  rw [writes]
  generalize s.setBat { s.bat with session := some { x with record := r } } = t at *
  have stores : t.writePack x.index r = t.recordWrite (if x.index = 0xFFFF then 2 else 1) (if x.index = 0xFFFF then 0 else x.index) 1 r.bytes := by
    refine (if_pos (by rw [State.storing, mode]; decide)).trans ?_
    split <;> rfl
  rw [stores]
  have only := t.recordWrite_only (if x.index = 0xFFFF then 2 else 1) (if x.index = 0xFFFF then 0 else x.index) 1 r.bytes
  exact ⟨(only .bat (by decide)).trans bat, State.recordWrite_mounting mode _ _ _ r.bytes_ne_nil hl, (only .regs (by decide)).trans regs,
    (only .sram (by decide)).trans sram⟩

end

/-- Settles O43: SETSOC, the reported value, checkpoints, the epoch and the ship retry. -/
theorem batteryClocks : Obligations.BatteryClocks := by
  unfold Obligations.BatteryClocks
  refine ⟨fun m value x => ?anchors, fun m value => ?refused, fun v => ?reports, ?early, fun x => ?checkpoint, ?later, ?epoch, ?sooner, ?ships, ?rests⟩
  case anchors =>
    refine .of (·.busWrite m 0xB012C value) (fun _ _ => rfl) fun e _ ⟨hr, hl, hk, hv, hs, hx⟩ => ?_
    rw [State.busWrite_setSoc m value hr hl]
    have sets : e.setSoc value = e.setAnchor 3 (fieldOf value 15 0) := if_pos ⟨hk, hv, hs, by rw [hx]; rfl⟩
    have only := e.setAnchor_only 3 (fieldOf value 15 0)
    have anchored := State.setAnchor_host hx (fieldOf value 15 0)
    rw [sets]
    generalize e.setAnchor 3 (fieldOf value 15 0) = t at *
    obtain ⟨state, session⟩ := Prod.ext_iff.1 anchored
    obtain ⟨y, hy, anchor⟩ := Option.map_eq_some_iff.1 session
    obtain ⟨words, charge⟩ := Prod.ext_iff.1 anchor
    refine ⟨?_, ?_, state.trans hs, only .sram (by decide), only .wheels (by decide)⟩
    · exact (congrArg (Option.map fun y : SessionSt => (y.record.sa, y.record.akind, y.record.anch, y.record.uncert)) hy :).trans (congrArg some words)
    · exact (congrArg (Option.map fun y : SessionSt => (y.record.q, y.record.qa)) hy :).trans (congrArg some charge)
  case refused =>
    refine .of (·.busWrite m 0xB012C value) (fun _ _ => rfl) fun e _ ⟨hr, hl, hn⟩ => ?_
    rw [State.busWrite_setSoc m value hr hl]
    have refuses : e.setSoc value = e.orReg 0xB0120 128 := if_neg fun ⟨hk, hv, hs, _⟩ => by
      rcases hn with hn | hn | hn
      · exact hn hk
      · omega
      · exact hn hs
    rw [refuses]
    exact ⟨e.bit_orReg_same _ _ (by decide) (by decide), rfl, fun a ha => State.reg_orReg_other e 128 ha⟩
  case reports =>
    refine .of (·.socReportStep) (fun _ _ => rfl) fun e ⟨hr, hb, ht, hv, hs⟩ => ?_
    refine (if_pos (by simp [hr, hb, ht])).trans ?_
    unfold State.repStep
    rw [hv]
    dsimp only
    rw [if_pos (by simp [hs]), Int.natCast_one, Int.mul_one]
    rfl
  case early => exact .of (·.socReportStep) (fun _ _ => rfl) fun e h => if_neg (by simp [Nat.not_le.2 h])
  case checkpoint =>
    refine .of (·.recordCheckpoint) (fun _ _ => rfl) fun e _ ⟨hr, hx, ht, hc, hl⟩ => ?_
    have due : e.recordCheckpoint = (e.setBat { e.bat with ckptAt := e.now + secAng (60 * e.fld 0xB0000 31 24) }).checkpoint :=
      if_pos ⟨hr, by rw [hx]; rfl, ht⟩
    rw [due]
    obtain ⟨bat, queued, regs, sram⟩ :=
      State.checkpoint_mounting (s := e.setBat { e.bat with ckptAt := e.now + secAng (60 * e.fld 0xB0000 31 24) }) hx hc hl
    exact ⟨(congrArg BatSt.ckptAt bat :), (congrArg (fun b : BatSt => b.session.map (fun y => y.index)) bat :), queued, regs, sram⟩
  case later =>
    refine .of (·.recordCheckpoint) (fun _ _ => rfl) fun e h => if_neg fun ⟨_, hs, ht⟩ => ?_
    rcases h with h | h
    · rw [h] at hs
      exact Bool.false_ne_true hs
    · omega
  case epoch =>
    refine .of (·.epochTick) (fun _ _ => rfl) fun e _ ⟨hr, ht, hn⟩ => ?_
    have due : e.epochTick = (e.setReg 0xB0128 (e.reg 0xB0128 + BitVec.ofNat 32 ((e.lf - e.bat.epochAt) / 32768))).setBat
        { e.bat with epochAt := e.bat.epochAt + (e.lf - e.bat.epochAt) / 32768 * 32768 } :=
      (if_pos (by simp [hr, ht])).trans (if_neg hn)
    rw [due]
    exact ⟨e.reg_setReg_same _ _, rfl, rfl, fun a ha => e.reg_setReg_other _ ha⟩
  case sooner => exact .of (·.epochTick) (fun _ _ => rfl) fun e h => if_neg (by simp [Nat.not_le.2 h])
  case ships =>
    refine .of (·.autoship) (fun _ _ => rfl) fun e _ ⟨hd, hn⟩ => ?_
    have running : e.running = true := by
      simp only [State.autoshipDue, Bool.and_eq_true] at hd
      exact hd.1.1.1
    have due : e.autoship = (e.setBat { e.bat with shipAt := some (e.now + secAng 60) }).powerRequest true true := if_pos hd
    rw [due, State.powerRequest_accepted (s := e.setBat { e.bat with shipAt := some (e.now + secAng 60) }) running hn]
    exact ⟨rfl, rfl, rfl, rfl, rfl⟩
  case rests => exact .of (·.autoship) (fun _ _ => rfl) fun e h => if_neg (by rw [h]; decide)

end Sys2Proof.Machine
end

section
/-!
PROOFS. Frames, cells and encoder runs of the fusion engine (R489 to R491, R510 to R513).
-/
namespace Sys2Proof.Machine

section
variable (s : State)

/-- The course of the frames: the head run, the frame number, the next tick, and whether the engine runs and is to end. -/
def FusSt.course (f : FusSt) : Option HeadRun × Word × Nat × ModelState × Bool := (f.head, f.frameNo, f.tickAt, f.mstate, f.ending)

def State.course (s : State) : Option HeadRun × Word × Nat × ModelState × Bool := s.fus.course

theorem Only.course {l : List Part} {s t : State} (h : Only l s t) (hl : .fus ∉ l) : Keeps State.course s t := congrArg FusSt.course (h .fus hl)

theorem State.course_eq {c : Option HeadRun × Word × Nat × ModelState × Bool} (h : s.course = c) :
    s.fus.head = c.1 ∧ s.fus.frameNo = c.2.1 ∧ s.fus.tickAt = c.2.2.1 ∧ s.fus.mstate = c.2.2.2.1 ∧ s.fus.ending = c.2.2.2.2 := by
  subst h
  exact ⟨rfl, rfl, rfl, rfl, rfl⟩

theorem State.setFus_course {f : FusSt} (h : f.course = s.fus.course) : Keeps State.course s (s.setFus f) := h

theorem State.gridMode_course : Keeps State.course s s.gridMode := .ite (.ite (s.setFus_course rfl) rfl) (.ite (s.setFus_course rfl) rfl)

theorem State.closeCell_course (newest : Nat) (dir : Dir) : Keeps State.course s (s.closeCell newest dir) := by
  unfold State.closeCell
  extract_lets f run s1 src
  have h1 : Keeps State.course s s1 := s.setFus_course rfl
  split
  · exact h1.trans (s1.setFus_course rfl)
  · exact h1.trans (s1.setFus_course rfl)
  · exact (h1.trans (s1.setFus_course (by rfl))).trans ((State.satInc_only _ _ _ _).course (by decide))

theorem State.cellClose_course : Keeps State.course s s.cellClose := by
  unfold State.cellClose
  extract_lets s1 f
  have h1 : Keeps State.course s s1 := s.gridMode_course
  exact .ite (.ite (.ite ((h1.trans (s1.setFus_course rfl)).trans (State.closeCell_course _ _ _)) h1)
    (.ite h1 ((h1.trans (s1.setFus_course rfl)).trans (State.closeCell_course _ _ _)))) rfl

theorem State.cellFirst_course : Keeps State.course s s.cellFirst := .ite s.cellClose_course rfl

theorem State.applyFus_course : Keeps State.course s s.applyFus := by
  unfold State.applyFus
  extract_lets ch gw src s0 src' s1
  have h1 : Keeps State.course s s1 := .ite rfl (Keeps.trans (s.setFus_course (by rfl)) (s0.setFus_course rfl))
  exact .fold (fun t n => .ite rfl rfl) h1

theorem State.refine_course (n : Fin 2) : Keeps State.course s (s.refine n) := by
  unfold State.refine
  split
  · rfl
  · extract_lets m f steady e k step lim c s1 s2
    have h1 : Keeps State.course s s1 := rfl
    have h2 : Keeps State.course s s2 := h1.trans ((s1.orReg_only _ _).course (by decide))
    exact .ite (.ite ((Keeps.ite h2 (h2.trans ((State.logOf_only _ _ _).course (by decide)))).trans ((State.advise_only _ _ _).course (by decide))) h1) rfl

/-- Whether the engine is on, before and after. -/
theorem State.fusOn_congr {t : State} (hp : t.power = s.power) (hl : t.life = s.life) (hc : Keeps State.course s t) : t.fusOn = s.fusOn := by
  have mstate : t.fus.mstate = s.fus.mstate := (congrArg (fun c => c.2.2.2.1) hc :)
  unfold State.fusOn State.running
  rw [hp, hl, mstate]

theorem State.cellFirst_spec : s.cellFirst.fus.course = s.fus.course ∧ s.cellFirst.fusOn = s.fusOn ∧ s.cellFirst.now = s.now ∧
    s.cellFirst.fld 0xC0010 31 16 = s.fld 0xC0010 31 16 := by
  have only := s.cellFirst_only
  refine ⟨s.cellFirst_course, s.fusOn_congr (only .power (by decide)) (only .life (by decide)) s.cellFirst_course, only .now (by decide), ?_⟩
  have missed (t : State) : (t.satInc 0xC0010 15 0).fld 0xC0010 31 16 = t.fld 0xC0010 31 16 := by
    rw [State.fld, State.satInc_reg, fieldOf_withField_other _ _ (by decide) (.inr (by decide))]
    rfl
  have closes (t : State) (n : Nat) (d : Dir) : (t.closeCell n d).fld 0xC0010 31 16 = t.fld 0xC0010 31 16 := by
    unfold State.closeCell
    dsimp only
    split
    · rfl
    · rfl
    · exact missed _
  have grid : s.gridMode.fld 0xC0010 31 16 = s.fld 0xC0010 31 16 := congrArg (fun r => fieldOf (Sparse.get resetWord r 0xC0010) 31 16) (s.gridMode_only .regs (by decide))
  unfold State.cellFirst
  split
  · unfold State.cellClose
    dsimp only
    split
    · split
      · split
        · exact (closes _ _ _).trans grid
        · exact grid
      · split
        · exact grid
        · exact (closes _ _ _).trans grid
    · rfl
  · rfl

/-! ### The words of a frame -/

/-- Words stored one after the other, at addresses that differ. -/
theorem foldl_setReg_reg {l : List (Nat × Word)} (base : Nat) (hl : (l.map Prod.fst).Nodup) {i : Nat} {w : Word} (h : (i, w) ∈ l) :
    (l.foldl (fun s p => s.setReg (base + 4 * p.1) p.2) s).reg (base + 4 * i) = w := by
  induction l generalizing s with
  | nil => cases h
  | cons p l ih =>
    obtain ⟨apart, rest⟩ := List.nodup_cons.1 hl
    rcases List.mem_cons.1 h with rfl | h
    · have other : ∀ (l : List (Nat × Word)) (t : State), i ∉ l.map Prod.fst →
          (l.foldl (fun s p => s.setReg (base + 4 * p.1) p.2) t).reg (base + 4 * i) = t.reg (base + 4 * i) := by
        intro l
        induction l with
        | nil => exact fun _ _ => rfl
        | cons q l ih =>
          intro t hi
          rw [List.map_cons, List.mem_cons, not_or] at hi
          exact (ih _ hi.2).trans (t.reg_setReg_other _ (by omega))
      exact (other l _ apart).trans (s.reg_setReg_same _ _)
    · exact ih _ rest h

theorem State.rideEvent_reg (out : List Int) {k : Nat} (hk : k < 6) (w : Word) {a : Nat} (ha : 0xC0100 ≤ a) :
    (s.rideEvent out k w).reg a = s.reg a := by
  have words : Words ([0xC0024 + 8 * k] ++ [0x10034] ++ [0xA0058]) s (s.rideEvent out k w) :=
    (State.logOf_words _ _ _).after ((State.notice_words _ _ _).after (s.satInc_words _ _ _))
  refine words a ?_
  simp only [List.cons_append, List.nil_append, List.mem_cons, List.not_mem_nil, or_false]
  omega

theorem foldl_rideEvent_reg (out : List Int) (w : Word) {ks : List Nat} (hk : ∀ k ∈ ks, k < 6) {a : Nat} (ha : 0xC0100 ≤ a) :
    (ks.foldl (fun s k => s.rideEvent out k w) s).reg a = s.reg a := by
  induction ks generalizing s with
  | nil => rfl
  | cons k ks ih => exact (ih _ fun j hj => hk j (.tail _ hj)).trans (s.rideEvent_reg out (hk k (.head _)) w ha)

/-- A published frame: its number stands in its first and last word, its time in the second (Table Fusion.7). -/
theorem State.publish_spec (h : HeadRun) (out : List Int) :
    (s.publish h out).course = (none, s.fus.frameNo + 1, s.fus.tickAt, s.fus.mstate, s.fus.ending) ∧
      (s.publish h out).reg 0xC0100 = s.fus.frameNo + 1 ∧ (s.publish h out).reg 0xC0104 = s.tnow s.now ∧
      (s.publish h out).reg 0xC015C = s.fus.frameNo + 1 := by
  unfold State.publish
  extract_lets warm first ev fires no w conf w2 words src s1 s2 s3 src2 src3
  have h1 : s1.course = (none, no, s.fus.tickAt, s.fus.mstate, s.fus.ending) := rfl
  have h2 : Keeps State.course s1 s2 := .fold (fun t p => (t.setReg_only _ _).course (by decide)) rfl
  have h3 : Keeps State.course s2 s3 := .fold (fun t k => (t.rideEvent_only _ _ _).course (by decide)) rfl
  have stored {i : Nat} {v : Word} (hv : ((List.range 24).zip words)[i]? = some (i, v)) : s3.reg (0xC0100 + 4 * i) = v := by
    have distinct : (((List.range 24).zip words).map Prod.fst).Nodup := by
      rw [List.map_fst_zip (by simp [words])]
      exact List.nodup_range
    exact (foldl_rideEvent_reg s2 out w (fun k hk => List.mem_range.1 (List.mem_filter.1 hk).1) (by omega)).trans
      (foldl_setReg_reg s1 0xC0100 distinct (List.mem_of_getElem? hv))
  have course : s3.course = (none, no, s.fus.tickAt, s.fus.mstate, s.fus.ending) := Eq.trans (h2.trans h3) h1
  have number : s3.reg 0xC0100 = no := stored (i := 0) rfl
  have time : s3.reg 0xC0104 = w := stored (i := 1) rfl
  have again : s3.reg 0xC015C = no := stored (i := 23) rfl
  clear_value s3
  split
  · exact ⟨course, number, time, again⟩
  · exact ⟨course, number, time, again⟩

/-! ### The tick -/

/-- The next tick is set, a commit that waited for it applies, and the grid takes its mode. -/
def State.ticked : State := (s.setFus { s.fus with tickAt := s.fus.tickAt + msAng 10 }).applyFus.gridMode

theorem State.ticked_only : Only [.fus] s s.ticked :=
  ((State.gridMode_only _).after ((State.applyFus_only _).after (s.setFus_only _))).among (by decide)

theorem State.ticked_course : s.ticked.course = (s.fus.head, s.fus.frameNo, s.fus.tickAt + msAng 10, s.fus.mstate, s.fus.ending) :=
  Eq.trans ((State.applyFus_course (s.setFus { s.fus with tickAt := s.fus.tickAt + msAng 10 })).trans (State.gridMode_course _)) rfl

/-- What a tick does to the tracks. -/
def State.tracked : State := (s.predictTracks.refine 0).refine 1

theorem State.tracked_only : Only [.regs, .nand, .cave, .health, .fus, .setAt, .setNow] s s.tracked :=
  ((State.refine_only _ _).after ((State.refine_only _ _).after s.predictTracks_only)).among (by decide)

theorem State.startHead_spec : s.startHead.fus.head.isSome = true ∧ s.startHead.fus.frameNo = s.fus.frameNo ∧
    s.startHead.fus.tickAt = s.fus.tickAt ∧ s.startHead.regs = s.regs := ⟨rfl, rfl, rfl, rfl⟩

theorem State.tracked_course : Keeps State.course s s.tracked :=
  Keeps.trans (Keeps.trans (s.setFus_course (by rfl)) (State.refine_course s.predictTracks _)) (State.refine_course _ _)

theorem State.refine_words (n : Fin 2) : Words [0xC0000, 0xA0058, 0x100004] s (s.refine n) := by
  have sub {l : List Nat} {t : State} (h : Words l s t) (hl : l ⊆ [0xC0000, 0xA0058, 0x100004]) : Words [0xC0000, 0xA0058, 0x100004] s t := h.mono hl
  unfold State.refine
  split
  · exact .refl _ _
  · extract_lets m f steady e k step lim c s1 s2
    have h1 : Words [] s s1 := fun _ _ => rfl
    have h2 : Words [0xC0000] s s2 := ((s1.orReg_words _ _).after h1).mono (by decide)
    have h3 : Words [0xC0000, 0xA0058] s (if s.bit 0xC0000 (18 + n.val) then s2 else s2.logOf 2 [4, BitVec.ofNat 8 n.val]) :=
      .ite (h2.mono (by decide)) (((s2.logOf_words _ _).after h2).mono (by decide))
    exact .ite (.ite (((State.advise_words _ _ _).after h3).mono (by decide)) (h1.mono (by decide))) (.refl _ _)

theorem State.tracked_words : Words [0xC0000, 0xA0058, 0x100004] s s.tracked := by
  have predicted : Words [] s s.predictTracks := fun _ _ => rfl
  exact (((State.refine_words _ 1).after ((State.refine_words _ 0).after predicted)).mono (by decide))

theorem State.frameEnd_spec : s.frameEnd.fus.mstate ≠ .running ∧ s.frameEnd.fus.ending = false := by
  have loads (t : State) (hm : t.fus.mstate ≠ .running) (he : t.fus.ending = false) : t.loadModel.fus.mstate ≠ .running ∧ t.loadModel.fus.ending = false := by
    unfold State.loadModel
    split
    · exact ⟨hm, he⟩
    · split
      · exact ⟨nofun, he⟩
      · extract_lets src src' s1
        have h1 : s1.fus.mstate = .loading ∧ s1.fus.ending = false := ⟨rfl, he⟩
        clear_value s1
        have kept (p : JobKind → Bool) (k : Nat) : ((s1.dropJobs p).startModelRead k false).fus = s1.fus :=
          ((State.startModelRead_only _ _ _).after (s1.dropJobs_only p)) .fus (by decide)
        rw [kept, h1.1]
        exact ⟨nofun, h1.2⟩
  exact iteInduction (motive := fun t : State => t.fus.mstate ≠ .running ∧ t.fus.ending = false)
    (fun _ => loads _ nofun rfl) (fun _ => ⟨nofun, rfl⟩)

variable {s}

/-- A cell that closes with no run in the encoder queues the run of its inputs. -/
theorem State.closeCell_free (h : s.fus.encRun = none) (newest : Nat) (dir : Dir) : s.closeCell newest dir =
    s.setFus { s.fus with newest := newest, newestDir := dir, closed := s.fus.closed + 1, encRun := some { input := s.cellInput, queuedAt := some s.now } } := by
  unfold State.closeCell
  extract_lets f run s1 src
  have free : f.encRun = none := h
  split
  · rfl
  next hx _ => cases free.symm.trans hx
  next hx _ => cases free.symm.trans hx

/-- The inputs of a cell do not depend on when cells close. -/
theorem State.cellInput_setFus (cellAt cellCount : Nat) :
    (s.setFus { s.fus with cellAt := cellAt, cellCount := cellCount }).cellInput = s.cellInput := rfl

/-- A cell whose time is up in the TIME grid, with the encoder free. -/
theorem State.cellClose_time (hon : s.fusOn = true) (hg : s.gridMode = s) (ht : s.fus.gridTime = true) (hc : s.fus.cellAt ≤ s.now)
    (hr : s.fus.encRun = none) :
    s.cellClose = s.setFus { s.fus with
      cellAt := s.fus.cellAt + msAng (s.fusFld 0xC000C 15 0), cellCount := (s.fus.cellCount + 1) % 128, newest := 128 + s.fus.cellCount
      newestDir := .unknown, closed := s.fus.closed + 1, encRun := some { input := s.cellInput, queuedAt := some s.now } } := by
  unfold State.cellClose
  simp only [hg]
  refine (if_pos hon).trans ((if_pos ht).trans ((if_pos hc).trans ?_))
  rw [State.closeCell_free (by exact hr)]
  exact congrArg (fun i : List Int => s.setFus { s.fus with
    cellAt := s.fus.cellAt + msAng (s.fusFld 0xC000C 15 0), cellCount := (s.fus.cellCount + 1) % 128, newest := 128 + s.fus.cellCount
    newestDir := .unknown, closed := s.fus.closed + 1, encRun := some { input := i, queuedAt := some s.now } }) (s.cellInput_setFus _ _)

/-- A tick with an ended head run: its frame goes out, and then the engine stops or the next head run begins. -/
theorem State.fusionTick_publishes {h : HeadRun} {out : List Int} (hon : s.fusOn = true) (ht : s.fus.tickAt ≤ s.now) (hh : s.fus.head = some h)
    (ho : h.out = some out) :
    s.fusionTick = if s.fus.ending then (s.cellFirst.ticked.publish h out).frameEnd else (s.cellFirst.ticked.publish h out).tracked.startHead := by
  obtain ⟨course, fusOn, now, -⟩ := s.cellFirst_spec
  have ticked := s.cellFirst.ticked_course
  have published := (s.cellFirst.ticked.publish_spec h out).1
  unfold State.fusionTick
  extract_lets c src s1 s2 s3 s4
  simp only [FusSt.course, Prod.mk.injEq] at course
  obtain ⟨head, -, tickAt, -, ending⟩ := course
  have head1 : s1.fus.head = some h := ((congrArg Prod.fst ticked :).trans head).trans hh
  have s2_eq : s2 = s.cellFirst.ticked.publish h out := by
    simp only [s2, head1, ho]
    rfl
  have head2 : s2.fus.head = none := by
    rw [s2_eq]
    exact (congrArg Prod.fst published :)
  have ending2 : s2.fus.ending = s.fus.ending := by
    rw [s2_eq]
    exact ((congrArg (fun c => c.2.2.2.2) published :).trans (congrArg (fun c => c.2.2.2.2) ticked :)).trans ending
  clear_value s2
  have s4_eq : s4 = s2.tracked := rfl
  clear_value s4
  have head4 : s4.fus.head = none := s4_eq ▸ (s2.tracked.course_eq s2.tracked_course).1.trans head2
  refine (if_pos (by rw [fusOn, hon, tickAt, now, Bool.true_and]; exact decide_eq_true ht)).trans ?_
  rw [ending2, head2, head4, s4_eq, s2_eq, Option.isNone_none, Bool.and_true, if_pos rfl]

/-- A tick whose head run has not ended counts a miss. -/
theorem State.fusionTick_misses {h : HeadRun} (hon : s.fusOn = true) (ht : s.fus.tickAt ≤ s.now) (hh : s.fus.head = some h) (ho : h.out = none) :
    s.fusionTick = (s.cellFirst.ticked.satInc 0xC0010 31 16).tracked := by
  obtain ⟨course, fusOn, now, -⟩ := s.cellFirst_spec
  have ticked := s.cellFirst.ticked_course
  unfold State.fusionTick
  extract_lets c src s1 s2 s3 s4
  simp only [FusSt.course, Prod.mk.injEq] at course
  obtain ⟨head, -, tickAt, -, -⟩ := course
  have head1 : s1.fus.head = some h := ((congrArg Prod.fst ticked :).trans head).trans hh
  have s2_eq : s2 = s.cellFirst.ticked.satInc 0xC0010 31 16 := by
    simp only [s2, head1, ho]
    rfl
  have head2 : s2.fus.head = some h := by
    rw [s2_eq]
    exact head1
  clear_value s2
  have s4_eq : s4 = s2.tracked := rfl
  clear_value s4
  have head4 : s4.fus.head = some h := s4_eq ▸ (s2.tracked.course_eq s2.tracked_course).1.trans head2
  refine (if_pos (by rw [fusOn, hon, tickAt, now, Bool.true_and]; exact decide_eq_true ht)).trans ?_
  rw [head2, head4, Option.isNone_some, Bool.and_false, if_neg Bool.false_ne_true, if_neg Bool.false_ne_true]
  rw [s4_eq, s2_eq]

end

/-- Settles O44: ticks by their head run, and the steps of cells and runs. -/
theorem fusionFrames : Obligations.FusionFrames := by
  unfold Obligations.FusionFrames
  refine ⟨fun h out => ?publishes, fun h out => ?ends, fun h => ?misses, ?noTick, fun h => ?head, fun h => ?waits, ?noHead, ?cell, ?off, fun r => ?encoded, ?noRun⟩
  case publishes =>
    refine .of (·.fusionTick) (fun _ _ => rfl) fun e _ ⟨hon, ht, hh, ho, he⟩ => ?_
    rw [State.fusionTick_publishes hon ht hh ho, he, if_neg Bool.false_ne_true]
    obtain ⟨first, -, now, -⟩ := e.cellFirst_spec
    have only1 := e.cellFirst.ticked_only.after e.cellFirst_only
    have ticked := e.cellFirst.ticked_course
    generalize e.cellFirst.ticked = k at *
    obtain ⟨course, number, time, again⟩ := k.publish_spec h out
    have only2 := ((k.publish_only h out).after only1)
    generalize k.publish h out = p at *
    have only := ((State.startHead_only _).after (p.tracked_only.after only2))
    simp only [FusSt.course, State.course, Prod.mk.injEq] at first ticked course
    obtain ⟨-, no, tick, -, -⟩ := first
    obtain ⟨-, no1, tick1, -, -⟩ := ticked
    obtain ⟨-, no2, tick2, -, -⟩ := course
    obtain ⟨-, no3, tick3, -, -⟩ := p.tracked.course_eq p.tracked_course
    have words := p.tracked_words
    generalize p.tracked = q at *
    obtain ⟨begun, no4, tick4, regs⟩ := q.startHead_spec
    generalize q.startHead = t at *
    have reg (a : Nat) : t.reg a = q.reg a := congrArg (Sparse.get resetWord · a) regs
    have fno : k.fus.frameNo + 1 = e.fus.frameNo + 1 := by rw [no1, no]
    have shown : t.reg 0xC0100 = e.fus.frameNo + 1 := (reg _).trans ((words 0xC0100 (by decide)).trans (number.trans fno))
    refine ⟨no4.trans ((no3.trans no2).trans fno), shown.trans (by rw [BitVec.ofNat_toNat, BitVec.setWidth_eq]), ?_, ?_, ?_, begun, only .wheels (by decide),
      only .sram (by decide), only .power (by decide)⟩
    · exact ((reg _).trans ((words 0xC015C (by decide)).trans (again.trans fno))).trans shown.symm
    · refine ((reg _).trans ((words 0xC0104 (by decide)).trans time)).trans ?_
      rw [State.tnow, State.tnow, show k.now = e.now from only1 .now (by decide), show k.tnowBase = e.tnowBase from only1 .tnowBase (by decide)]
    · exact (tick4.trans (tick3.trans tick2)).trans (by rw [tick1, tick])
  case ends =>
    refine .of (·.fusionTick) (fun _ _ => rfl) fun e _ ⟨hon, ht, hh, ho, he⟩ => ?_
    rw [State.fusionTick_publishes hon ht hh ho, he, if_pos rfl]
    have only := ((State.frameEnd_only _).after ((e.cellFirst.ticked.publish_only h out).after (e.cellFirst.ticked_only.after e.cellFirst_only)))
    obtain ⟨mstate, ending⟩ := (e.cellFirst.ticked.publish h out).frameEnd_spec
    exact ⟨mstate, ending, only .wheels (by decide), only .sram (by decide)⟩
  case misses =>
    refine .of (·.fusionTick) (fun _ _ => rfl) fun e _ ⟨hon, ht, hh, ho⟩ => ?_
    rw [State.fusionTick_misses hon ht hh ho]
    obtain ⟨first, -, -, missed⟩ := e.cellFirst_spec
    have only1 := e.cellFirst.ticked_only.after e.cellFirst_only
    have ticked := e.cellFirst.ticked_course
    have regs : e.cellFirst.ticked.regs = e.cellFirst.regs := e.cellFirst.ticked_only .regs (by decide)
    generalize e.cellFirst.ticked = k at *
    have only := ((State.tracked_only _).after ((k.satInc_only 0xC0010 31 16).after only1))
    have before : k.fld 0xC0010 31 16 = e.fld 0xC0010 31 16 :=
      (congrArg (fun r => fieldOf (Sparse.get resetWord r 0xC0010) 31 16) regs :).trans missed
    have counted : (k.satInc 0xC0010 31 16).fld 0xC0010 31 16 = satAdd 65535 (e.fld 0xC0010 31 16) 1 :=
      (State.satInc_fld _ _ _ _ (by decide)).trans (congrArg (satAdd 65535 · 1) before)
    have kept : Keeps State.course k (k.satInc 0xC0010 31 16) := (k.satInc_only _ _ _).course (by decide)
    generalize k.satInc 0xC0010 31 16 = c at *
    have course := Eq.trans (kept.trans c.tracked_course) ticked
    simp only [FusSt.course, State.course, Prod.mk.injEq] at first course
    obtain ⟨head, no, tick, -, -⟩ := first
    obtain ⟨head1, no1, tick1, -, -⟩ := course
    exact ⟨(head1.trans head).trans hh, no1.trans no, (congrArg (fieldOf · 31 16) (c.tracked_words 0xC0010 (by decide)) :).trans counted,
      tick1.trans (by rw [tick]), only .wheels (by decide), only .sram (by decide)⟩
  case noTick =>
    refine .of (·.fusionTick) (fun _ _ => rfl) fun e h => ?_
    have first : e.cellFirst = e := by
      rcases h with h | h
      · have off : e.cellClose = e := if_neg (by simp [State.fusOn, h])
        unfold State.cellFirst
        rw [off, ite_self]
      · exact if_neg (by simp [h.2])
    unfold State.fusionTick
    rw [first]
    rcases h with h | h
    · exact (if_neg (by simp [State.fusOn, h])).trans (if_neg (by simp [h]))
    · exact (if_neg (by simp [Nat.not_le.2 h.1])).trans (if_neg (by simp [Nat.not_le.2 h.1]))
  case head =>
    refine .of (·.headDone) (fun _ _ => rfl) fun e ⟨hon, hh, ho, hf⟩ => ?_
    unfold State.headDone
    rw [hon, hh]
    exact if_pos (by rw [ho, hf]; rfl)
  case waits =>
    refine .of (·.headDone) (fun _ _ => rfl) fun e ⟨hh, hf⟩ => ?_
    unfold State.headDone
    rw [hh]
    split
    next h _ hx =>
      cases hx
      exact if_neg (by rw [hf]; simp)
    next => rfl
  case noHead =>
    refine .of (·.headDone) (fun _ _ => rfl) fun e h => ?_
    unfold State.headDone
    rw [h]
    split
    next hx => cases hx
    next => rfl
  case cell =>
    refine .of (·.cellClose) (fun _ _ => rfl) fun e _ ⟨hon, hg, ht, hc, hr⟩ => ?_
    rw [State.cellClose_time hon hg ht hc hr]
    exact ⟨rfl, rfl, rfl, rfl, rfl, rfl⟩
  case off => exact .of (·.cellClose) (fun _ _ => rfl) fun e h => if_neg (by rw [h]; decide)
  case encoded =>
    refine .of (·.encoderDone) (fun _ _ => rfl) fun e ⟨hon, hr⟩ => ?_
    unfold State.encoderDone
    rw [hon, hr]
  case noRun =>
    refine .of (·.encoderDone) (fun _ _ => rfl) fun e h => ?_
    unfold State.encoderDone
    rw [h]
    split
    next hx => cases hx
    next => rfl

end Sys2Proof.Machine
end

section
/-!
PROOFS. The model bounds the number of corrections of an inertial sensor nowhere: a state may hold more than a FUSCAL record has room for.
-/
namespace Sys2Proof.Machine

/-- A state in RUN, its cave mounting, in which the first correction of both sensors has moved by a radian, and 2100 others follow. -/
def overcorrected : State :=
  { (State.reset.setReg 0xC0064 0x00010000) with
    power := { State.reset.power with phase := .run }
    cave := { mode := .mounting }
    fus := { mstate := .running, imus := Vector.replicate 2 { corr := 0x3F800000 :: List.replicate 2100 0 } } }

/-- Refutes O45: a FUSCAL record of corrections that fill more than a slot is not queued, though the statement says that it always is. -/
theorem not_inertialAndSlots : ¬ Obligations.InertialAndSlots := by
  intro h
  obtain ⟨-, -, -, -, -, -, -, -, -, writes, -⟩ := h
  obtain ⟨t, made, -, ⟨q, hq, -⟩, -⟩ := writes 0 { ang := 0, lf := 0 } overcorrected (by decide +kernel) (by decide +kernel)
  have left : t = (overcorrected.elapse { ang := 0, lf := 0 }).fuscalTick 0 := (Host.Outcome.next.inj made).symm
  have none : ((overcorrected.elapse { ang := 0, lf := 0 }).fuscalTick 0).cave.recQueue = [] := by decide +kernel
  rw [left, none] at hq
  exact List.not_mem_nil hq

end Sys2Proof.Machine
end

section
/-!
PROOFS. The samples of the rind inputs, the rules' windows and holdoffs, the event FIFO and the alarm (R519 to R530).
-/
namespace Sys2Proof.Machine

section
variable {s : State}

/-! ### Samples (R519 to R523) -/

/-- The rind's configuration word, filtered levels, runs of samples, and the class of the tamper loop. -/
def State.ears (s : State) : Word × Vector InLevel 6 × Vector (Option (InLevel × Nat)) 6 × Loop :=
  (s.reg 0xD0004, s.rind.inputs, s.rind.runs, s.rind.loop)

theorem Only.ears {l : List Part} {s t : State} (h : Only l s t) (hr : .rind ∉ l) (hw : t.reg 0xD0004 = s.reg 0xD0004) : Keeps State.ears s t :=
  Prod.ext hw (congrArg (fun r : RindSt => (r.inputs, r.runs, r.loop)) (h .rind hr) :)

theorem Ruled.ears {t : State} (h : Ruled s t) : Keeps State.ears s t := by
  have sensed : t.sensed = s.sensed := h.sensed
  exact Prod.ext (h.words 0xD0004 (by decide)) (congrArg (fun r : RindSt => (r.inputs, r.runs, r.loop)) sensed :)

/-- What reads an input, in terms of what is kept. -/
theorem State.rindIn_ears {t : State} (h : t.ears.1 = s.ears.1) {i : Fin 6} (hi : t.ears.2.1[i] = s.ears.2.1[i]) : t.rindIn i = s.rindIn i :=
  State.rindIn_congr h hi

/-- What follows the samples of an edge: the rules, and the charger's end of an entry. -/
def State.judged (s : State) (e : RindEvents) : State := (s.evalRules e).chargerCheck

theorem State.chargerCheck_words (s : State) : Words [0x10034] s s.chargerCheck := by
  have ended (e : Entry) (r n : Nat) : Words [0x10034] s (s.endEntry e r n) := by
    unfold State.endEntry
    extract_lets s1 src s2
    have h2 : Words [] s s2 := fun _ _ => rfl
    exact .ite (((s2.notice_words _ _).after h2).mono (by decide)) (h2.mono (by decide))
  unfold State.chargerCheck
  split
  · exact .ite (ended _ _ _) (.refl _ _)
  · exact .refl _ _

theorem State.judged_only (e : RindEvents) : Only [.regs, .power, .link, .rind, .setAt, .setNow] s (s.judged e) :=
  ((State.chargerCheck_only _).after (s.evalRules_only e)).among (by decide)

theorem State.judged_ears (e : RindEvents) : Keeps State.ears s (s.judged e) :=
  (s.evalRules_ruled e).ears.trans ((State.chargerCheck_only _).ears (by decide) ((State.chargerCheck_words _) _ (by decide)))

theorem exec_rindInputChange {i : Fin 6} {v : InLevel} {dt : Span} (s : State) (hs : (s.elapse dt).rindSamples = true) (hi : i ≠ 5) :
    exec (.rindInputChange dt [(i, v)] none) s =
      .next ((State.rindChange (s.elapse dt, {}) (i, v)).1.judged (State.rindChange (s.elapse dt, {}) (i, v)).2) := by
  have one : (([(i, v)] : List (Fin 6 × InLevel)).filter (fun c => decide (c.1 ≠ 5))) = [(i, v)] := by simp [hi]
  refine congrArg Host.Outcome.next (congrArg State.chargerCheck ((if_pos hs).trans ?_))
  rw [one]
  rfl

theorem State.acceptWheel_ears (v : InLevel) : Keeps State.ears s (s.acceptWheel v).1 := by
  unfold State.acceptWheel
  extract_lets tr src s1
  have h1 : Keeps State.ears s s1 := rfl
  exact .ite (h1.trans ((s1.setReg_only _ _).ears (by decide) (s1.reg_setReg_other _ (by decide)))) h1

theorem State.wheelLevel_spec (v : InLevel) : Keeps State.ears s (s.wheelLevel v).1 ∧ Words [0xD0014] s (s.wheelLevel v).1 := by
  have accepted : Words [0xD0014] s (s.acceptWheel v).1 := by
    unfold State.acceptWheel
    extract_lets tr src s1
    have h1 : Words [0xD0014] s s1 := fun _ _ => rfl
    exact .ite (((Words.set_reg s1 _ _).after h1).mono (by decide)) h1
  unfold State.wheelLevel
  split
  · exact ⟨rfl, fun _ _ => rfl⟩
  · extract_lets t
    split
    · exact ⟨State.acceptWheel_ears v, accepted⟩
    · exact ⟨rfl, fun _ _ => rfl⟩

/-- WHEEL's comparator under WMODE 1 first, in a sample of that input. -/
def State.heard (s : State) (i : Fin 6) (v : InLevel) : State × Bool :=
  if i = 0 ∧ s.bit 0xD0004 9 = true then s.wheelLevel v else (s, false)

theorem State.heard_spec (i : Fin 6) (v : InLevel) :
    Keeps State.ears s (s.heard i v).1 ∧ Words [0xD0014] s (s.heard i v).1 ∧ Only [.regs, .rind] s (s.heard i v).1 := by
  unfold State.heard
  split
  · exact ⟨(State.wheelLevel_spec v).1, (State.wheelLevel_spec v).2, s.wheelLevel_only v⟩
  · exact ⟨rfl, .refl _ _, .refl _ _⟩

/-- What decides a sample is the same after WHEEL's comparator. -/
theorem State.filterPasses_congr {t : State} (he : Keeps State.ears s t) (hw : Words [0xD0014] s t) (ho : Only [.regs, .rind] s t) (i : Fin 6) (v : InLevel) :
    t.filterPasses i v = s.filterPasses i v ∧ t.runFrom i v = s.runFrom i v ∧ t.sampleEdge = s.sampleEdge := by
  have power : t.power = s.power := ho .power (by decide)
  have lf : t.lf = s.lf := ho .lf (by decide)
  have runs : t.rind.runs = s.rind.runs := (congrArg (fun e => e.2.2.1) he :)
  have level : t.rindIn i = s.rindIn i := State.rindIn_ears (congrArg Prod.fst he) (congrArg (fun e => e.2.1[i]) he)
  have from_ : t.runFrom i v = s.runFrom i v := by
    unfold State.runFrom
    rw [runs, lf]
  have sleeps : t.rindSleeps = s.rindSleeps := by
    unfold State.rindSleeps
    rw [power]
  have period : t.sleepPeriod = s.sleepPeriod := congrArg (fun w => 32768 / 2 ^ fieldOf w 2 0) (hw 0xD0004 (by decide))
  have filt : t.filt i = s.filt i := by
    unfold State.filt
    rw [sleeps]
    split
    · exact congrArg (fieldOf · _ _) (hw 0xD000C (by decide))
    · exact congrArg (fieldOf · _ _) (hw 0xD0008 (by decide))
  refine ⟨?_, from_, ?_⟩
  · unfold State.filterPasses State.samplePeriod
    rw [level, from_, lf, filt, sleeps, period]
  · unfold State.sampleEdge
    rw [sleeps, lf, power, period]

/-- A sample of an input in use at a sample edge. -/
theorem State.rindChange_sampled {i : Fin 6} {v : InLevel} (hu : s.rindUsed i = true) (hv : v = .low ∨ v = .high) (hs : s.sampleEdge = true) :
    State.rindChange (s, {}) (i, v) = State.takeSample ((s.heard i v).1, { transition := (s.heard i v).2 }) (i, v) := by
  obtain ⟨ears, words, only⟩ := State.heard_spec (s := s) i v
  have edge := (State.filterPasses_congr ears words only i v).2.2.trans hs
  have known : ¬(s.rindUsed i = false ∨ (v ≠ .low ∧ v ≠ .high)) := by
    rw [hu]
    rcases hv with rfl | rfl <;> simp
  exact (if_neg known).trans ((if_pos edge).trans (by rw [Bool.false_or]; rfl))

/-- A sample whose filter is passed changes the level of its input. -/
theorem State.takeSample_passes {i : Fin 6} {v : InLevel} (e : RindEvents) (hn : s.rindIn i ≠ v) (hf : s.filterPasses i v = true) :
    (State.takeSample (s, e) (i, v)).1.ears = (s.reg 0xD0004, s.rind.inputs.set i v, s.rind.runs.set i none, s.rind.loop) := by
  unfold State.takeSample
  dsimp only
  rw [if_neg hn, if_neg (by rw [hf]; decide)]
  have set : (s.setRindIn i v).ears = (s.reg 0xD0004, s.rind.inputs.set i v, s.rind.runs.set i none, s.rind.loop) := by
    unfold State.setRindIn
    dsimp only
    split <;> rfl
  generalize s.setRindIn i v = s1 at *
  have moved : Keeps State.ears s1 (if i = 1 ∨ i = 2 then s1.limitMoved (i == 1) (s.limitReads (i == 1)) else s1) :=
    .ite ((s1.limitMoved_only _ _).ears (by decide) rfl) rfl
  generalize (if i = 1 ∨ i = 2 then s1.limitMoved (i == 1) (s.limitReads (i == 1)) else s1) = s2 at *
  refine Eq.trans ?_ (Eq.trans moved set)
  split
  · exact State.acceptWheel_ears v
  · rfl

/-- A sample whose filter is not passed yet begins or continues a run. -/
theorem State.takeSample_waits {i : Fin 6} {v : InLevel} (e : RindEvents) (hn : s.rindIn i ≠ v) (hf : s.filterPasses i v = false) :
    (State.takeSample (s, e) (i, v)).1 = s.setRind { s.rind with runs := s.rind.runs.set i (some (v, s.runFrom i v)) } := by
  unfold State.takeSample
  dsimp only
  rw [if_neg hn, if_pos hf]

/-! ### The event FIFO (R528) -/

/-- The notice of the oldest entry, where one is still owed. -/
def State.told (s : State) (x : RindEntry) : State :=
  if x.act.testBit 4 && !x.noticed then s.notice 0x0F (bytesLE 1 x.rule ++ bytesLE 1 x.act ++ bytesLE 4 x.counter.toNat) else s

theorem State.told_only (x : RindEntry) : Only [.regs, .link, .setAt, .setNow] s (s.told x) := .ite (s.notice_only _ _) (.refl _ _)

theorem State.rindDrain_log {x : RindEntry} {rest : List RindEntry} (hl : s.linkUp = true) (hf : s.rind.fifo = x :: rest) :
    s.rindDrain =
      (let can := (s.told x).cave.mode == .mounted || (s.told x).cave.mode == .readonly || (s.told x).cave.mode == .failed
      let s2 := if x.act.testBit 1 && can then (s.told x).logOf 5 x.logBytes else s.told x
      if x.act.testBit 1 && !can then s2.setRind { s2.rind with fifo := { x with noticed := true } :: rest }
      else s2.setRind { s2.rind with fifo := rest }) := by
  unfold State.rindDrain
  rw [hl, hf]
  rfl

/-- An entry that asks for no log entry, or for one that can be made or counted, leaves the FIFO. -/
theorem State.rindDrain_leaves {x : RindEntry} {rest : List RindEntry} (hl : s.linkUp = true) (hf : s.rind.fifo = x :: rest)
    (hm : x.act.testBit 1 = false ∨ s.cave.mode = .mounted ∨ s.cave.mode = .readonly ∨ s.cave.mode = .failed) :
    s.rindDrain.rind = { s.rind with fifo := rest } := by
  rw [State.rindDrain_log hl hf]
  have told := s.told_only x
  generalize s.told x = u at *
  extract_lets can s2
  have rind : s2.rind = s.rind := (Only.ite ((u.logOf_only 5 x.logBytes).after told) (told.mono (by decide)) : Only _ s s2) .rind (by decide)
  have may : (x.act.testBit 1 && !can) = false := by
    have mode : u.cave.mode = s.cave.mode := (congrArg CaveSt.mode (told .cave (by decide)) :)
    rcases hm with hm | hm | hm | hm
    · rw [hm, Bool.false_and]
    all_goals simp [can, mode, hm]
  clear_value s2
  rw [may, if_neg Bool.false_ne_true]
  exact congrArg (fun r : RindSt => ({ r with fifo := rest } : RindSt)) rind

/-- In RUN, with no write on its way into the AON block, RIND_CMD takes effect at once. -/
theorem State.landNow_alarmStop (hr : s.running = true) (hq : s.power.lfAon = []) : s.landNow 0xD0018 1 = s.stopAlarm := by
  have none : s.lfQueue (lfBlockOf 0xD0018) = [] := hq
  simp only [State.landNow, none, State.whileRunning, hr, if_true]
  rfl

end

/-- Settles O46: samples by their filter, the FIFO by its oldest entry. -/
theorem rindMonitoring : Obligations.RindMonitoring := by
  unfold Obligations.RindMonitoring
  refine ⟨fun i v => ?passes, fun i v => ?waits, fun i v => ?betweenSamples, fun changes tamper => ?unsampled, fun k at_ => ?closes, fun k => ?noWindow,
    fun k at_ => ?open_, fun k at_ => ?ends, fun k => ?noHold, fun x rest => ?drains, fun x rest => ?held, ?nothing, fun at_ => ?silent, ?noAlarm,
    ?toggles, ?still, ?stops⟩
  case passes =>
    intro dt s _ ⟨hs, hu, hn, he, hf, hv, hi⟩
    refine ⟨_, exec_rindInputChange s hs hi, ?_⟩
    rw [State.rindChange_sampled hu hv he]
    generalize s.elapse dt = e at *
    obtain ⟨ears, words, only⟩ := State.heard_spec (s := e) i v
    generalize e.heard i v = h at *
    obtain ⟨filter, -, -⟩ := State.filterPasses_congr ears words only i v
    have level : h.1.rindIn i = e.rindIn i := State.rindIn_ears (congrArg Prod.fst ears) (congrArg (fun e => e.2.1[i]) ears)
    have taken := State.takeSample_passes { transition := h.2 } (level ▸ hn) (filter.trans hf)
    have only2 := ((State.takeSample_only (h.1, { transition := h.2 }) (i, v)).after only)
    generalize State.takeSample (h.1, { transition := h.2 }) (i, v) = p at *
    have known := Eq.trans (State.judged_ears p.2) taken
    have only3 := (State.judged_only p.2).after only2
    generalize p.1.judged p.2 = t at *
    simp only [Keeps, State.ears, Prod.mk.injEq] at known ears
    obtain ⟨config, inputs, -, loop⟩ := known
    obtain ⟨config', inputs', -, loop'⟩ := ears
    have used (k : Fin 6) : t.rindUsed k = e.rindUsed k := by
      unfold State.rindUsed State.bit
      rw [config, config']
    have kept (k : Fin 6) : t.rindKept k = (e.rind.inputs.set i v)[k] := by
      rw [State.rindKept, inputs, inputs']
    refine ⟨?_, fun k hk => ?_, loop.trans loop', only3 .wheels (by decide), only3 .sram (by decide), only3 .outs (by decide)⟩
    · rw [State.rindIn, used, hu, if_pos rfl, kept]
      exact Vector.getElem_set_self i.isLt
    · rw [State.rindIn, State.rindIn, used, kept]
      exact congrArg (fun l => if e.rindUsed k = true then l else InLevel.unknown) (Vector.getElem_set_ne i.isLt k.isLt fun h => hk (Fin.ext h.symm))
  case waits =>
    intro dt s _ ⟨hs, he, hu, hn, hf, hv, h0, hi⟩
    refine ⟨_, exec_rindInputChange s hs hi, ?_⟩
    rw [State.rindChange_sampled hu hv he]
    generalize s.elapse dt = e at *
    have heard : e.heard i v = (e, false) := if_neg fun h => h0 h.1
    rw [heard]
    have taken := State.takeSample_waits { transition := false } hn hf
    generalize State.takeSample (e, { transition := false }) (i, v) = p at *
    have ears := State.judged_ears (s := p.1) p.2
    have only := State.judged_only (s := p.1) p.2
    generalize p.1.judged p.2 = t at *
    rw [taken] at ears only
    simp only [Keeps, State.ears, Prod.mk.injEq] at ears
    obtain ⟨-, inputs, runs, -⟩ := ears
    refine ⟨inputs, ?_, fun k hk => ?_, only .lock (by decide), only .wheels (by decide), only .sram (by decide)⟩
    · rw [runs]
      exact Vector.getElem_set_self i.isLt
    · rw [runs]
      exact Vector.getElem_set_ne i.isLt k.isLt fun h => hk (Fin.ext h.symm)
  case betweenSamples =>
    intro dt s _ ⟨hs, he, h0⟩
    have judged : ∃ x, exec (.rindInputChange dt [(i, v)] none) s = .next ((s.elapse dt).judged x) := by
      by_cases hi : i = 5
      · subst hi
        exact ⟨{}, congrArg Host.Outcome.next (congrArg State.chargerCheck (if_pos hs))⟩
      · refine ⟨(State.rindChange (s.elapse dt, {}) (i, v)).2, (exec_rindInputChange s hs hi).trans ?_⟩
        have same : (State.rindChange (s.elapse dt, {}) (i, v)).1 = s.elapse dt := by
          simp only [State.rindChange, h0, false_and, if_false, he, Bool.false_eq_true]
          split <;> rfl
        rw [same]
    obtain ⟨x, made⟩ := judged
    refine ⟨_, made, ?_⟩
    generalize s.elapse dt = e at *
    have ears := State.judged_ears (s := e) x
    have only := State.judged_only (s := e) x
    generalize e.judged x = t at *
    simp only [Keeps, State.ears, Prod.mk.injEq] at ears
    exact ⟨ears.2.1, ears.2.2.1, only .lock (by decide), only .wheels (by decide), only .sram (by decide)⟩
  case unsampled =>
    refine .of (fun e => (e.rindSample changes tamper).chargerCheck) (fun _ _ => rfl) fun e h => ?_
    have unsampled : e.rindSample changes tamper = e := if_neg (by rw [h]; decide)
    rw [unsampled]
    have stopped : e.running ≠ true := fun hr => by
      rw [State.rindSamples, e.running_iff.1 hr] at h
      exact absurd h (by decide)
    unfold State.chargerCheck
    split
    · exact if_neg fun hc => stopped hc.1
    · rfl
  case closes =>
    refine .of (·.windowClose k) (fun _ _ => rfl) fun e ⟨hw, ht⟩ => ?_
    unfold State.windowClose
    rw [hw]
    exact if_pos ht
  case noWindow =>
    refine .of (·.windowClose k) (fun _ _ => rfl) fun e hw => ?_
    unfold State.windowClose
    rw [hw]
  case open_ =>
    refine .of (·.windowClose k) (fun _ _ => rfl) fun e ⟨hw, ht⟩ => ?_
    unfold State.windowClose
    rw [hw]
    exact if_neg (Nat.not_le.2 ht)
  case ends =>
    refine .of (·.holdoffEnd k) (fun _ _ => rfl) fun e ⟨hw, ht⟩ => ?_
    unfold State.holdoffEnd
    rw [hw]
    exact if_pos ht
  case noHold =>
    refine .of (·.holdoffEnd k) (fun _ _ => rfl) fun e hw => ?_
    unfold State.holdoffEnd
    rw [hw]
  case drains =>
    refine .of (·.rindDrain) (fun _ _ => rfl) fun e _ ⟨hl, hf, hm⟩ => ?_
    have only := e.rindDrain_only
    have rind := State.rindDrain_leaves hl hf hm
    generalize e.rindDrain = t at *
    exact ⟨congrArg RindSt.fifo rind, (congrArg RindSt.rules rind :), (congrArg RindSt.alarm rind :), only .wheels (by decide), only .sram (by decide),
      only .power (by decide)⟩
  case held =>
    refine .of (·.rindDrain) (fun _ _ => rfl) fun e _ ⟨hl, hf, ha, hm⟩ => ?_
    rw [State.rindDrain_log hl hf]
    have told := e.told_only x
    generalize e.told x = u at *
    have mode : u.cave.mode = e.cave.mode := (congrArg CaveSt.mode (told .cave (by decide)) :)
    have cannot : (u.cave.mode == .mounted || u.cave.mode == .readonly || u.cave.mode == .failed) = false := by
      rcases hm with hm | hm <;> simp [mode, hm]
    dsimp only
    rw [cannot, ha, Bool.and_false, if_neg Bool.false_ne_true, Bool.not_false, Bool.and_true, if_pos rfl]
    exact ⟨rfl, told .cave (by decide), told .sram (by decide)⟩
  case nothing =>
    refine .of (·.rindDrain) (fun _ _ => rfl) fun e h => ?_
    unfold State.rindDrain
    rcases h with h | h
    · rw [h]
      cases e.linkUp <;> rfl
    · rw [h]
  case silent =>
    refine .of (·.alarmEnd) (fun _ _ => rfl) fun e ⟨ha, he, ht⟩ => ?_
    unfold State.alarmEnd
    rw [ha, he]
    exact if_pos ht
  case noAlarm =>
    refine .of (·.alarmEnd) (fun _ _ => rfl) fun e h => ?_
    unfold State.alarmEnd
    rw [h]
  case toggles => exact .of (·.alarmToggle) (fun _ _ => rfl) fun e ⟨ha, hp, ht⟩ => if_pos (by simp [ha, hp, ht])
  case still => exact .of (·.alarmToggle) (fun _ _ => rfl) fun e h => if_neg (by simp [h])
  case stops => exact .of (·.landNow 0xD0018 1) (fun _ _ => rfl) fun e ⟨hr, hq⟩ => State.landNow_alarmStop hr hq

end Sys2Proof.Machine
end

section
/-!
PROOFS. Moves, limits and faults of the wheel lock (R531 to R543).
-/
namespace Sys2Proof.Machine

/-! ### Rules that nothing has met -/

theorem ruleOccurs_nothing (w : Word) : ruleOccurs w {} = false := by
  unfold ruleOccurs
  dsimp only
  split <;> simp

section
variable {s : State}

/-- Where a sample brings nothing, no rule occurs. -/
theorem State.evalRules_nothing (s : State) : s.evalRules {} = s := by
  have one (k : Fin 16) : State.evalRule {} s k = s := by
    unfold State.evalRule
    split
    · dsimp only
      rw [ruleOccurs_nothing]
      split <;> rfl
    · rfl
  unfold State.evalRules
  induction List.finRange 16 with
  | nil => rfl
  | cons k ks ih => exact (congrArg (List.foldl (State.evalRule {}) · ks) (one k)).trans ih

/-! ### States and faults -/

theorem State.setLockState_lock (s : State) (x : LockState) : (s.setLockState x).lock = { s.lock with state := x } := by
  unfold State.setLockState
  split
  next h => rw [← h]
  next => exact (State.lockNotice_only _) .lock (by decide)

/-- FAULT is entered from another state: the cause, the brake where the bridge has supply, and the ADVISE bit. -/
theorem State.enterFault_spec {cause : Nat} (h : s.lock.state ≠ .fault) (hc : cause ≠ 7) :
    (s.enterFault cause).lock = { s.lock with
        state := .fault, fault := cause, lastFault := cause, elapsed := s.lockMs, restartDue := 0, brakeEnd := none
        bridge := if s.bridgeUp then .brake else .coast } ∧
      (s.enterFault cause).bit 0x100004 7 = true := by
  have bridge : (if cause = 7 ∨ s.bridgeUp = false then Bridge.coast else .brake) = if s.bridgeUp then .brake else .coast := by
    cases s.bridgeUp <;> simp [hc]
  unfold State.enterFault
  rw [if_neg h]
  extract_lets l ms s1 s2
  have h1 : s1.lock = { s.lock with
      fault := cause, lastFault := cause, elapsed := s.lockMs, restartDue := 0, brakeEnd := none, bridge := if s.bridgeUp then .brake else .coast } :=
    congrArg (fun b : Bridge => ({ s.lock with
      fault := cause, lastFault := cause, elapsed := s.lockMs, restartDue := 0, brakeEnd := none, bridge := b } : LockSt)) bridge
  have counted : (s1.satInc 0xE001C 31 16).lock = s1.lock := (s1.satInc_only _ _ _) .lock (by decide)
  have h2 : s2.lock = { s1.lock with state := .fault } :=
    (State.setLockState_lock _ _).trans (congrArg (fun l : LockSt => ({ l with state := .fault } : LockSt)) counted)
  refine ⟨?_, State.advise_bit _ 7 _ (by decide)⟩
  have told : ((s2.lockLog 17 cause l.state.code (Nat.min 255 l.restarts) ms true).advise 7 cause).lock = s2.lock :=
    ((State.advise_only _ _ _).after (State.lockLog_only _ _ _ _ _ _ _)) .lock (by decide)
  exact told.trans (h2.trans (congrArg (fun l : LockSt => ({ l with state := .fault } : LockSt)) h1))

theorem LockSt.not_fault_of_moving {l : LockSt} (h : l.moving = true) : l.state ≠ .fault := fun hf => by
  rw [LockSt.moving, hf] at h
  exact absurd h (by decide)

theorem State.moving_of_stallDue (h : s.stallDue = true) : s.lock.moving = true := by
  simp only [State.stallDue, Bool.and_eq_true] at h
  exact h.1.1.1

/-! ### The limits of the moment -/

/-- A stall decides where nothing of R542 comes before it. -/
theorem State.lockConsider_stall (hs : s.stallDue = true) (hb : s.lock.limOpen.stable ≠ .asserted ∨ s.lock.limShut.stable ≠ .asserted)
    (hr : s.lock.restartDue = 0) (h1 : s.rindStuckDue 1 = false) (h2 : s.rindStuckDue 2 = false) :
    ∃ u : State, s.lockConsider false false = u.faultEvent 6 ∧ u.lock.state = s.lock.state ∧ u.power = s.power := by
  have moving := State.moving_of_stallDue hs
  unfold State.lockConsider
  extract_lets l opp chOpp tgt both n s1
  have apart : both = false := by
    rcases hb with h | h <;> simp [both, l, h]
  have still : chOpp = false := by simp [chOpp]
  refine ⟨s1, ?_, rfl, rfl⟩
  rw [if_neg (LockSt.not_fault_of_moving moving), if_pos moving, apart, if_neg Bool.false_ne_true, still, Bool.false_and, Bool.false_and,
    if_neg Bool.false_ne_true, h1, h2, Bool.or_false, if_neg Bool.false_ne_true, if_neg fun h => h.1 hr, if_pos hs]

/-- With the stall comparator due a move ends in FAULT, with the cause that R542 puts first. -/
theorem State.lockConsider_ends (hs : s.stallDue = true) (a b : Bool) :
    ∃ (u : State) (c : Nat), s.lockConsider a b = u.faultEvent c ∧ (c = 2 ∨ c = 3 ∨ c = 4 ∨ c = 5 ∨ c = 6) ∧ u.lock.state = s.lock.state ∧
      u.power = s.power := by
  have moving := State.moving_of_stallDue hs
  unfold State.lockConsider
  extract_lets l opp chOpp tgt chTgt both n s1
  rw [if_neg (LockSt.not_fault_of_moving moving), if_pos moving]
  split
  · exact ⟨s, 4, rfl, by decide, rfl, rfl⟩
  · split
    · exact ⟨s, 3, rfl, by decide, rfl, rfl⟩
    · split
      · exact ⟨s, 5, rfl, by decide, rfl, rfl⟩
      · split
        · exact ⟨s1, 2, rfl, by decide, rfl, rfl⟩
        · exact ⟨s1, 6, rfl, by decide, rfl, rfl⟩

/-- The stable levels of the two limits. -/
def State.limits (s : State) : LimitSt × LimitSt := (s.lock.limOpen, s.lock.limShut)

theorem State.setLockState_limits (s : State) (x : LockState) : Keeps State.limits s (s.setLockState x) :=
  (congrArg (fun l : LockSt => (l.limOpen, l.limShut)) (s.setLockState_lock x) :)

theorem Only.limits {l : List Part} {s t : State} (h : Only l s t) (hl : .lock ∉ l) : Keeps State.limits s t :=
  (congrArg (fun l : LockSt => (l.limOpen, l.limShut)) (h .lock hl) :)

theorem State.enterFault_limits (s : State) (cause : Nat) : Keeps State.limits s (s.enterFault cause) := by
  unfold State.enterFault
  split
  · rfl
  · extract_lets l ms s1 s2
    have h1 : Keeps State.limits s s1 := rfl
    have h2 : Keeps State.limits s s2 := (h1.trans ((s1.satInc_only _ _ _).limits (by decide))).trans (State.setLockState_limits _ _)
    exact (h2.trans ((State.lockLog_only _ _ _ _ _ _ _).limits (by decide))).trans ((State.advise_only _ _ _).limits (by decide))

theorem State.lockDrift_limits (s : State) (both : Bool) : Keeps State.limits s (s.lockDrift both).1 := by
  unfold State.lockDrift
  extract_lets was s1 s2
  have h1 : Keeps State.limits s s1 := (s.orReg_only _ _).limits (by decide)
  have h2 : Keeps State.limits s s2 := .ite (h1.trans (s1.enterFault_limits 4)) (h1.trans (s1.setLockState_limits _))
  exact h2.trans ((State.lockLog_only _ _ _ _ _ _ _).limits (by decide))

theorem State.lockSuccess_limits (s : State) : Keeps State.limits s s.lockSuccess := by
  have ended (b : Bridge) (x : Option Nat) : Keeps State.limits s (s.lockEndMove b x) := by
    unfold State.lockEndMove
    extract_lets ms src s1
    have h1 : Keeps State.limits s s1 := rfl
    exact h1.trans (s1.setLockState_limits _)
  exact (ended _ _).trans ((State.satInc_only _ _ _ _).limits (by decide))

theorem State.lockConsider_limits (s : State) (a b : Bool) : Keeps State.limits s (s.lockConsider a b).1 := by
  unfold State.lockConsider
  extract_lets l opp chOpp tgt chTgt both n s1
  have h1 : Keeps State.limits s s1 := rfl
  split
  · rfl
  · split
    · split
      · exact s.enterFault_limits 4
      · split
        · exact s.enterFault_limits 3
        · split
          · exact s.enterFault_limits 5
          · split
            · exact h1.trans (s1.enterFault_limits 2)
            · split
              · exact h1.trans (s1.enterFault_limits 6)
              · split
                · exact h1.trans s1.lockSuccess_limits
                · exact h1
    · split
      · split
        · exact s.lockDrift_limits true
        · split
          · exact s.lockDrift_limits false
          · rfl
      · split
        · exact s.lockDrift_limits true
        · split
          · exact s.lockDrift_limits false
          · rfl
      · split
        · exact s.enterFault_limits 4
        · exact s.setLockState_limits _

/-- The lock with a limit that has just become stable, if any. -/
def LockSt.marked (l : LockSt) (isOpen : Bool) : Option Stable → LockSt
  | some v => l.setLimit isOpen { l.limit isOpen with stable := v }
  | none => l

theorem LockSt.marked_state (l : LockSt) (isOpen : Bool) (d : Option Stable) :
    (l.marked isOpen d).state = l.state ∧ (l.marked isOpen d).moveGuard = l.moveGuard ∧ (l.marked isOpen d).restartDue = l.restartDue := by
  cases d with
  | none => exact ⟨rfl, rfl, rfl⟩
  | some v => cases isOpen <;> exact ⟨rfl, rfl, rfl⟩

/-- The limits of the moment marked. -/
def State.limitsMarked (s : State) : State := s.setLock ((s.lock.marked true (s.limitDue true)).marked false (s.limitDue false))

theorem State.limitDecide_eq (s : State) :
    s.limitDecide = s.limitsMarked.lockConsider (s.limitDue true).isSome (s.limitDue false).isSome := by
  unfold State.limitDecide State.limitsMarked
  cases s.limitDue true <;> cases s.limitDue false <;> rfl

theorem State.limitsMarked_lock (s : State) : s.limitsMarked.lock.state = s.lock.state ∧ s.limitsMarked.lock.moveGuard = s.lock.moveGuard ∧
    s.limitsMarked.lock.restartDue = s.lock.restartDue := by
  obtain ⟨state, guard, due⟩ := (s.lock.marked true (s.limitDue true)).marked_state false (s.limitDue false)
  obtain ⟨state', guard', due'⟩ := s.lock.marked_state true (s.limitDue true)
  exact ⟨state.trans state', guard.trans guard', due.trans due'⟩

theorem State.stallDue_marked (s : State) : s.limitsMarked.stallDue = s.stallDue := by
  obtain ⟨state, guard, -⟩ := s.limitsMarked_lock
  unfold State.stallDue State.lockGuard LockSt.moving
  rw [state, guard]
  rfl

theorem State.limitsMarked_none (ho : s.limitDue true = none) (hs : s.limitDue false = none) : s.limitsMarked = s := by
  unfold State.limitsMarked
  rw [ho, hs]
  rfl

theorem State.limitChange_words (s : State) : Words (lockWords ++ ruleWords) s s.limitChange :=
  (s.limitDecide.1.evalRules_ruled _).words.after s.limitDecide_words

theorem State.limitChange_lock (s : State) : s.limitChange.lock = s.limitDecide.1.lock := s.limitDecide.1.evalRules_only _ .lock (by decide)

theorem State.moveTimedOut_limitChange (s : State) : s.limitChange.moveTimedOut = s.limitDecide.1.moveTimedOut := by
  have lf : s.limitChange.lf = s.limitDecide.1.lf := s.limitDecide.1.evalRules_only _ .lf (by decide)
  unfold State.moveTimedOut State.lockTime
  rw [s.limitChange_lock, lf]

/-- What a fault that the limits bring, or the time of a move, leaves once the rules have seen it. -/
theorem State.faulted_spec {u t : State} {c : Nat} {e : RindEvents} (hu : u.lock.state ≠ .fault) (hc : c ≠ 7) (ht : t = (u.enterFault c).evalRules e) :
    t.lock.state = .fault ∧ t.lock.fault = c ∧ t.lock.lastFault = c ∧ t.lock.bridge = (if u.bridgeUp then .brake else .coast) ∧ t.bit 0x100004 7 = true := by
  obtain ⟨lock, advised⟩ := State.enterFault_spec hu hc
  have same : t.lock = (u.enterFault c).lock := by
    rw [ht]
    exact State.evalRules_only _ _ .lock (by decide)
  have bit : t.bit 0x100004 7 = true := by
    rw [ht]
    exact (State.evalRules_ruled _ e).words.bit advised (by decide)
  have known := same.trans lock
  exact ⟨congrArg LockSt.state known, congrArg LockSt.fault known, congrArg LockSt.lastFault known, congrArg LockSt.bridge known, bit⟩

/-! ### Commands (R534) -/

/-- In RUN, with no write on its way into the LCK block, a word of LCK_CMD takes effect at once. -/
theorem State.landNow_lockWord (w : Word) (hr : s.running = true) (hq : s.power.lfLck = []) : s.landNow 0xE0004 w = s.lockWord w := by
  have none : s.lfQueue (lfBlockOf 0xE0004) = [] := hq
  simp only [State.landNow, none, State.whileRunning, hr, if_true]
  rfl

/-- Only limits and their time change with a polarity in force, and only where it changes. -/
theorem State.repolarise_spec (s : State) (o c : Word) :
    (s.repolarise o c).lock.cmdRes = s.lock.cmdRes ∧ (s.repolarise o c).lf = s.lf ∧ (o = c → s.repolarise o c = s) := by
  have one (t : State) (b : Bool) (x : LimitSt) : (t.setLock (t.lock.setLimit b x)).lock.cmdRes = t.lock.cmdRes := by cases b <;> rfl
  unfold State.repolarise
  extract_lets f
  have step (t : State) (b : Bool) : (f t b).lock.cmdRes = t.lock.cmdRes ∧ (f t b).lf = t.lf ∧ (o = c → f t b = t) := by
    by_cases h : bitOf o (if b then 28 else 27) = bitOf c (if b then 28 else 27)
    · have kept : f t b = t := if_pos h
      rw [kept]
      exact ⟨rfl, rfl, fun _ => rfl⟩
    · have anew : f t b = t.setLock (t.lock.setLimit b { since := t.lf }) := if_neg h
      rw [anew]
      exact ⟨one t b _, rfl, fun e => absurd (e ▸ rfl) h⟩
  obtain ⟨res, lf, same⟩ := step s true
  obtain ⟨res', lf', same'⟩ := step (f s true) false
  exact ⟨res'.trans res, lf'.trans lf, fun e => (same' e).trans (same e)⟩

/-- What the start of a move does, with the configuration live then (R535, R536). -/
theorem State.startMove'_spec (s : State) (kind : LockState) :
    (s.startMove' kind).lock.state = kind ∧ (s.startMove' kind).lock.cmdRes = s.lock.cmdRes ∧ (s.startMove' kind).lock.moveAt = s.lf ∧
      (s.startMove' kind).lock.bridge =
        .drive s.lf (kind != .closing) (if kind = .homing then fieldOf (s.reg 0xE000C) 13 8 else fieldOf (s.reg 0xE000C) 21 16) ∧
      (s.lock.moveCfg = s.reg 0xE000C → (s.startMove' kind).lock.limit (kind != .closing) =
        if s.limitReads (kind != .closing) = some true then { since := s.lf } else s.lock.limit (kind != .closing)) := by
  unfold State.startMove'
  extract_lets cfg toOpen duty src u l opp l1
  obtain ⟨res, lf, kept⟩ := (s.setLock { s.lock with moveCfg := cfg, moveTime := s.reg 0xE0010, moveGuard := s.reg 0xE0014 }).repolarise_spec
    s.lock.moveCfg cfg
  have taken : u.lock.cmdRes = s.lock.cmdRes ∧ u.lf = s.lf := ⟨res, lf⟩
  have same (h : s.lock.moveCfg = s.reg 0xE000C) : u.limitReads toOpen = s.limitReads toOpen ∧ l.limit toOpen = s.lock.limit toOpen := by
    have u_eq : u = s.setLock { s.lock with moveCfg := cfg, moveTime := s.reg 0xE0010, moveGuard := s.reg 0xE0014 } := kept h
    simp only [l]
    rw [u_eq]
    constructor
    · unfold State.limitReads State.lockCfg
      rw [h]
      rfl
    · cases toOpen <;> rfl
  clear_value u
  rw [State.setLockState_lock]
  refine ⟨rfl, ?_, ?_, ?_, fun h => ?_⟩
  · split
    · exact (by cases toOpen <;> exact taken.1)
    · exact taken.1
  · split
    · exact (by cases toOpen <;> exact taken.2)
    · exact taken.2
  · rw [← taken.2]
    split
    · cases toOpen <;> rfl
    · rfl
  · obtain ⟨reads, limit⟩ := same h
    rw [reads, ← taken.2, ← limit]
    have stays (x : LockSt) (b : Bool) : ({ x with state := kind } : LockSt).limit b = x.limit b := by cases b <;> rfl
    have set (x : LockSt) (b : Bool) (v : LimitSt) : (x.setLimit b v).limit b = v := by cases b <;> rfl
    have before (b : Bool) : l1.limit b = l.limit b := by cases b <;> rfl
    split
    · exact (stays _ _).trans (set _ _ _)
    · exact (stays _ _).trans (before _)

/-- A move that no check refuses, after the limits of the moment. -/
theorem State.lockMove_starts {kind : LockState} (h : s.limitChange.moveCheck kind = 1) :
    (s.lockMove kind).lock.state = kind ∧ (s.lockMove kind).lock.cmdRes = 1 ∧ (s.lockMove kind).lock.moveAt = s.lf ∧
      (s.lockMove kind).lock.bridge = .drive s.lf (kind != .closing) (if kind = .homing then s.fld 0xE000C 13 8 else s.fld 0xE000C 21 16) ∧
      (s.limitChange.lock.moveCfg = s.reg 0xE000C → (s.lockMove kind).lock.limit (kind != .closing) =
        if s.limitChange.limitReads (kind != .closing) = some true then { since := s.lf } else s.limitChange.lock.limit (kind != .closing)) ∧
      (s.lockMove kind).wheels = s.wheels ∧ (s.lockMove kind).sram = s.sram := by
  have only := s.lockMove_only kind
  have starts : s.lockMove kind = (s.limitChange.setLock { s.limitChange.lock with cmdRes := 1 }).startMove' kind := if_pos h
  have lf : s.limitChange.lf = s.lf := s.limitChange_only .lf (by decide)
  have cfg : s.limitChange.reg 0xE000C = s.reg 0xE000C := s.limitChange_words _ (by decide)
  rw [starts] at only ⊢
  generalize s.limitChange = u at *
  obtain ⟨state, res, moveAt, bridge, limit⟩ := (u.setLock { u.lock with cmdRes := 1 }).startMove'_spec kind
  generalize (u.setLock { u.lock with cmdRes := 1 }).startMove' kind = t at *
  refine ⟨state, res, moveAt.trans lf, ?_, fun hm => ?_, only .wheels (by decide), only .sram (by decide)⟩
  · unfold State.fld
    rw [← cfg, ← lf]
    exact bridge
  · rw [← lf]
    have same : ({ u.lock with cmdRes := 1 } : LockSt).limit (kind != .closing) = u.lock.limit (kind != .closing) := by cases kind != .closing <;> rfl
    exact (limit (hm.trans cfg.symm)).trans
      (congrArg (fun x : LimitSt => if u.limitReads (kind != .closing) = some true then ({ since := u.lf } : LimitSt) else x) same)

/-- A command that is refused leaves its code and CMDREF, and the state and the bridge as the limits leave them. -/
theorem State.cmdResult_refusal {code : Nat} (h : code ≠ 1) :
    (s.cmdResult code).lock = { s.lock with cmdRes := code } ∧ (s.cmdResult code).bit 0xE0008 2 = true := by
  have refuses : s.cmdResult code = (s.setLock { s.lock with cmdRes := code }).orReg 0xE0008 4 := if_neg h
  rw [refuses]
  exact ⟨rfl, State.bit_orReg_same _ _ _ (by decide) (by decide)⟩

theorem State.lockMove_refused {kind : LockState} (h : s.limitChange.moveCheck kind ≠ 1) :
    (s.lockMove kind).lock.cmdRes = s.limitChange.moveCheck kind ∧ (s.lockMove kind).bit 0xE0008 2 = true ∧
      (s.lockMove kind).lock.state = s.limitChange.lock.state ∧ (s.lockMove kind).lock.bridge = s.limitChange.lock.bridge ∧
      (s.lockMove kind).sram = s.sram := by
  have only := s.lockMove_only kind
  have refuses : s.lockMove kind = s.limitChange.cmdResult (s.limitChange.moveCheck kind) := if_neg h
  rw [refuses] at only ⊢
  obtain ⟨lock, ref⟩ := State.cmdResult_refusal (s := s.limitChange) h
  exact ⟨congrArg LockSt.cmdRes lock, ref, (congrArg LockSt.state lock :), (congrArg LockSt.bridge lock :), only .sram (by decide)⟩

/-- STOP of a move in progress (R534). -/
theorem State.lockStop_moving (hen : s.lockTimeout.bit 0xE000C 31 = true) (hl : s.boot.loaded = true) (hm : s.lockTimeout.lock.moving = true) :
    s.lockStop.lock.bridge = .coast ∧ s.lockStop.lock.cmdRes = 1 ∧ s.lockStop.lock.state = s.lockTimeout.lock.resolve ∧ s.lockStop.lock.brakeEnd = none := by
  have boot : s.lockTimeout.boot = s.boot := s.lockTimeout_only .boot (by decide)
  have stops : s.lockStop = (s.lockTimeout.setLock { s.lockTimeout.lock with cmdRes := 1 }).lockEndMove .coast none :=
    (if_neg fun h => by
      rcases h with h | h
      · exact Bool.false_ne_true (h.symm.trans hen)
      · exact Bool.false_ne_true (h.symm.trans ((congrArg BootSt.loaded boot :).trans hl))).trans (if_pos hm)
  rw [stops]
  generalize s.lockTimeout = u
  unfold State.lockEndMove
  dsimp only
  rw [State.setLockState_lock]
  exact ⟨rfl, rfl, rfl, rfl⟩

/-- The state that the limits give at rest drifts nowhere. -/
theorem State.lockConsider_resolved (hs : s.lock.state = s.lock.resolve)
    (hb : s.lock.limOpen.stable ≠ .asserted ∨ s.lock.limShut.stable ≠ .asserted) : s.lockConsider false false = (s, {}) := by
  have apart : (s.lock.limOpen.stable == .asserted && s.lock.limShut.stable == .asserted) = false := by
    rcases hb with h | h <;> simp [h]
  have rest : s.setLockState s.lock.resolve = s := if_pos hs
  unfold State.lockConsider
  dsimp only
  rw [apart]
  unfold LockSt.resolve at hs
  split at hs
  next ho hh =>
    rw [LockSt.moving, hs, if_neg (by decide), if_neg (by decide)]
    dsimp only
    rw [if_neg Bool.false_ne_true, ho, hh, if_neg (by decide)]
  next ho hh =>
    rw [LockSt.moving, hs, if_neg (by decide), if_neg (by decide)]
    dsimp only
    rw [if_neg Bool.false_ne_true, ho, hh, if_neg (by decide)]
  next =>
    rw [LockSt.moving, hs, if_neg (by decide), if_neg (by decide)]
    dsimp only
    rw [if_neg Bool.false_ne_true, rest]

/-- CLEAR in FAULT without both limits asserted (R538). -/
theorem State.lockClear_fault (hen : s.limitChange.bit 0xE000C 31 = true) (hl : s.boot.loaded = true) (hf : s.limitChange.lock.state = .fault)
    (hb : s.limitChange.lock.limOpen.stable ≠ .asserted ∨ s.limitChange.lock.limShut.stable ≠ .asserted) :
    s.lockClear.lock.fault = 0 ∧ s.lockClear.lock.bridge = .coast ∧ s.lockClear.lock.cmdRes = 1 ∧
      s.lockClear.lock.state = s.limitChange.lock.resolve := by
  have boot : s.limitChange.boot = s.boot := s.limitChange_only .boot (by decide)
  unfold State.lockClear
  extract_lets u src s1 r
  have go : ¬(u.bit 0xE000C 31 = false ∨ u.boot.loaded = false) := fun h => by
    rcases h with h | h
    · exact Bool.false_ne_true (h.symm.trans hen)
    · exact Bool.false_ne_true (h.symm.trans ((congrArg BootSt.loaded boot :).trans hl))
  rw [if_neg go, if_pos hf]
  have h1 : s1.lock = { u.lock with cmdRes := 1, fault := 0, bridge := .coast } := rfl
  have h2 : (s1.setLockState s1.lock.resolve).lock = { u.lock with cmdRes := 1, fault := 0, bridge := .coast, state := u.lock.resolve } :=
    (State.setLockState_lock _ _).trans (by rw [h1]; rfl)
  have resolved : r = (s1.setLockState s1.lock.resolve, {}) := State.lockConsider_resolved (by rw [h2]; rfl) (by rw [h2]; exact hb)
  rw [resolved, State.evalRules_nothing, h2]
  exact ⟨rfl, rfl, rfl, rfl⟩

/-! ### Limits, timeouts and stalls -/

theorem State.limitChange_stable {v : Stable} (h : s.limitDue true = some v) : s.limitChange.lock.limOpen.stable = v := by
  have kept : s.limitDecide.1.lock.limOpen = s.limitsMarked.lock.limOpen := by
    rw [State.limitDecide_eq]
    exact congrArg Prod.fst (State.lockConsider_limits _ _ _)
  have marked : s.limitsMarked.lock.limOpen.stable = v := by
    unfold State.limitsMarked
    rw [h]
    cases s.limitDue false <;> rfl
  rw [State.limitChange_lock, kept, marked]

theorem State.limitChange_inputs (s : State) : s.limitChange.rind.inputs = s.rind.inputs := by
  have decided : s.limitDecide.1.rind = s.rind := s.limitDecide_only .rind (by decide)
  have ruled : s.limitChange.rind.inputs = s.limitDecide.1.rind.inputs := (congrArg RindSt.inputs (s.limitDecide.1.evalRules_ruled _).sensed :)
  exact ruled.trans (congrArg RindSt.inputs decided)

theorem State.limitChange_rest (ho : s.limitDue true = none) (hs : s.limitDue false = none) (hf : s.lock.state = .fault) : s.limitChange = s := by
  have decided : s.limitDecide = (s, {}) := by
    rw [State.limitDecide_eq, State.limitsMarked_none ho hs]
    exact if_pos hf
  unfold State.limitChange
  dsimp only
  rw [decided]
  exact s.evalRules_nothing

theorem State.bridgeUp_congr {t : State} (h : t.power = s.power) : t.bridgeUp = s.bridgeUp := by
  unfold State.bridgeUp State.running
  rw [h]

end

/-- Settles O47: moves and limits by the lemmas on commands, faults through `State.enterFault`. -/
theorem lockMotor : Obligations.LockMotor := by
  unfold Obligations.LockMotor
  have begins {kind : LockState} {w : Word} {c : Span → Instr} (hc : ∀ dt s, exec (c dt) s = .next ((s.elapse dt).landNow 0xE0004 w))
      (hw : ∀ s : State, s.lockWord w = s.lockMove kind) {pre : State → Prop} {post : State → State → Prop}
      (h : ∀ e : State, pre e → (e.running = true ∧ e.power.lfLck = []) ∧ post e (e.lockMove kind)) : Does c pre post := by
    refine .of (·.landNow 0xE0004 w) hc fun e _ hp => ?_
    obtain ⟨⟨hr, hq⟩, done⟩ := h e hp
    rw [State.landNow_lockWord w hr hq, hw]
    exact done
  refine ⟨begins (kind := .opening) (fun _ _ => rfl) (fun _ => rfl) fun e ⟨hr, hq, hm⟩ => ⟨⟨hr, hq⟩, ?opens⟩,
    begins (kind := .closing) (fun _ _ => rfl) (fun _ => rfl) fun e ⟨hr, hq, hm⟩ => ⟨⟨hr, hq⟩, ?shuts⟩,
    begins (kind := .homing) (fun _ _ => rfl) (fun _ => rfl) fun e ⟨hr, hq, hm⟩ => ⟨⟨hr, hq⟩, ?homes⟩,
    begins (kind := .opening) (fun _ _ => rfl) (fun _ => rfl) fun e ⟨hr, hq, hm⟩ => ⟨⟨hr, hq⟩, State.lockMove_refused hm⟩,
    begins (kind := .closing) (fun _ _ => rfl) (fun _ => rfl) fun e ⟨hr, hq, hm⟩ => ⟨⟨hr, hq⟩, State.lockMove_refused hm⟩,
    begins (kind := .homing) (fun _ _ => rfl) (fun _ => rfl) fun e ⟨hr, hq, hm⟩ => ⟨⟨hr, hq⟩, State.lockMove_refused hm⟩,
    ?stop, ?clear, fun value => ?badKey, fun value => ?validKey, fun v => ?limit, ?noLimit, ?timeout, ?inTime, ?stall, ?stalled, ?noMove,
    fun at_ => ?brake, ?noBrake⟩
  case opens => exact State.lockMove_starts hm
  case shuts => exact State.lockMove_starts hm
  case homes => exact State.lockMove_starts hm
  case stop =>
    refine .of (·.landNow 0xE0004 0x4C4B0004) (fun _ _ => rfl) fun e _ ⟨hr, hq, hen, hl, hm⟩ => ?_
    have stops : e.landNow 0xE0004 0x4C4B0004 = e.lockStop := State.landNow_lockWord _ hr hq
    rw [stops]
    obtain ⟨bridge, res, state, brake⟩ := State.lockStop_moving hen hl hm
    exact ⟨bridge, res, state, brake, e.lockStop_only .wheels (by decide), e.lockStop_only .sram (by decide)⟩
  case clear =>
    refine .of (·.landNow 0xE0004 0x4C4B0005) (fun _ _ => rfl) fun e _ ⟨hr, hq, hen, hl, hf, hb⟩ => ?_
    have clears : e.landNow 0xE0004 0x4C4B0005 = e.lockClear := State.landNow_lockWord _ hr hq
    rw [clears]
    obtain ⟨fault, bridge, res, state⟩ := State.lockClear_fault hen hl hf hb
    exact ⟨fault, bridge, res, state, e.lockClear_only .wheels (by decide), e.lockClear_only .sram (by decide)⟩
  case badKey =>
    refine .of (fun e => if lockWordOk value then e else e.landNow 0xE0004 value) (fun _ _ => rfl) fun e _ ⟨hr, hq, hv⟩ => ?_
    have refuses : e.lockWord value = (e.setLock { e.lock with cmdRes := 9 }).orReg 0xE0008 4 := if_neg (by rw [hv]; decide)
    rw [hv, if_neg Bool.false_ne_true, State.landNow_lockWord value hr hq, refuses]
    exact ⟨rfl, State.bit_orReg_same _ _ _ (by decide) (by decide), rfl, fun a ha => State.reg_orReg_other _ _ ha⟩
  case validKey =>
    exact .of (fun e => if lockWordOk value then e else e.landNow 0xE0004 value) (fun _ _ => rfl) fun e h => if_pos h
  case limit =>
    refine .of (·.limitChange) (fun _ _ => rfl) fun e _ h => ?_
    exact ⟨State.limitChange_stable h, e.limitChange_inputs, e.limitChange_only .wheels (by decide), e.limitChange_only .sram (by decide)⟩
  case noLimit => exact .of (·.limitChange) (fun _ _ => rfl) fun e ⟨ho, hs, hf⟩ => State.limitChange_rest ho hs hf
  case timeout =>
    refine .of (·.lockTimeout) (fun _ _ => rfl) fun e _ h => ?_
    rw [State.moveTimedOut_limitChange] at h
    have moving : e.limitDecide.1.lock.moving = true := by
      simp only [State.moveTimedOut, Bool.and_eq_true] at h
      exact h.1
    have ends : e.lockTimeout = (e.limitDecide.1.enterFault 1).evalRules { e.limitDecide.2 with fault := true } := if_pos h
    obtain ⟨state, fault, last, bridge, advised⟩ := State.faulted_spec (LockSt.not_fault_of_moving moving) (by decide) ends
    rw [State.bridgeUp_congr (e.limitDecide_only .power (by decide))] at bridge
    exact ⟨state, fault, last, bridge, advised, e.lockTimeout_only .wheels (by decide), e.lockTimeout_only .sram (by decide)⟩
  case inTime =>
    refine .of (·.lockTimeout) (fun _ _ => rfl) fun e h => ?_
    rw [State.moveTimedOut_limitChange] at h
    exact if_neg (by rw [h]; decide)
  case stall =>
    refine .of (·.lockStall) (fun _ _ => rfl) fun e _ ⟨hs, ho, hh, hb, hr, h1, h2⟩ => ?_
    have due : e.lockStall = e.limitChange := if_pos hs
    obtain ⟨u, faulted, state0, power⟩ := State.lockConsider_stall hs hb hr h1 h2
    have decided : e.limitDecide = u.faultEvent 6 := by
      rw [State.limitDecide_eq, State.limitsMarked_none ho hh, ho, hh]
      exact faulted
    have ends : e.limitChange = (u.enterFault 6).evalRules (u.faultEvent 6).2 := by
      unfold State.limitChange
      rw [decided]
      rfl
    have free : u.lock.state ≠ .fault := state0 ▸ LockSt.not_fault_of_moving (State.moving_of_stallDue hs)
    rw [due]
    obtain ⟨state, fault, -, bridge, advised⟩ := State.faulted_spec free (by decide) ends
    rw [State.bridgeUp_congr power] at bridge
    exact ⟨state, fault, bridge, advised, e.limitChange_only .wheels (by decide), e.limitChange_only .sram (by decide)⟩
  case stalled =>
    refine .of (·.lockStall) (fun _ _ => rfl) fun e _ hs => ?_
    have due : e.lockStall = e.limitChange := if_pos hs
    obtain ⟨u, c, faulted, causes, state0, power⟩ :=
      State.lockConsider_ends ((e.stallDue_marked).trans hs) (e.limitDue true).isSome (e.limitDue false).isSome
    have ends : e.limitChange = (u.enterFault c).evalRules (u.faultEvent c).2 := by
      unfold State.limitChange
      rw [State.limitDecide_eq, faulted]
      rfl
    have free : u.lock.state ≠ .fault := (state0.trans e.limitsMarked_lock.1) ▸ LockSt.not_fault_of_moving (State.moving_of_stallDue hs)
    rw [due]
    obtain ⟨state, fault, -, bridge, -⟩ := State.faulted_spec free (by omega) ends
    rw [State.bridgeUp_congr (power.trans rfl)] at bridge
    exact ⟨state, fault ▸ causes, bridge, e.limitChange_only .wheels (by decide), e.limitChange_only .sram (by decide)⟩
  case noMove =>
    refine .of (·.lockStall) (fun _ _ => rfl) fun e h => if_neg fun hs => ?_
    exact Bool.false_ne_true (h.symm.trans (State.moving_of_stallDue hs))
  case brake =>
    refine .of (·.brakeEnded) (fun _ _ => rfl) fun e ⟨hb, ht⟩ => ?_
    unfold State.brakeEnded
    rw [hb]
    exact if_pos ht
  case noBrake =>
    refine .of (·.brakeEnded) (fun _ _ => rfl) fun e h => ?_
    unfold State.brakeEnded
    rw [h]

end Sys2Proof.Machine
end
